-- ==== Sys2Proof/Word.lean ====
section
/-! DEFINITION. The words of the block: registers are 32 bits wide (R8), objects and DMA data are bytes. -/
namespace Sys2Proof

/-- A register value (R8: every register is 32 bits wide). -/
abbrev Word := BitVec 32

/-- One byte of a message or of memory. -/
abbrev Byte := BitVec 8

end Sys2Proof
end

