-- ==== Sys2Proof/Syntax.lean ====
section
/-! DEFINITION. The commands of the block as data: who sends them, what they carry, and one constructor for each row
of spec/opcode_table.json. The operands are what the row's rule says the event carries; an instant `now` is the
timebase value at which the event happens (log 6). -/
namespace Sys2Proof

/-- The error codes of R20. -/
inductive Err where
  | ok | index | subindex | access | type | range | state | auth | replay | quota | busy | capacity | conflict
  | unsupported | integrity | frozen
deriving DecidableEq, Repr

/-- The number of an error code (R20). -/
def Err.code : Err → Nat
  | .ok => 0 | .index => 1 | .subindex => 2 | .access => 3 | .type => 4 | .range => 5 | .state => 6 | .auth => 7
  | .replay => 8 | .quota => 9 | .busy => 10 | .capacity => 11 | .conflict => 12 | .unsupported => 13
  | .integrity => 14 | .frozen => 15

/-- Who asks (R2, R402): host software through link `link` of a physical function, the tenant driver of a tenant
slot (`tee`: its request arrives on a selective IDE stream bound to the function's interface with the T bit set, R436), a
node of the Drawstring, or firmware. -/
inductive Caller where
  | pf (link : Nat)
  | vf (tenant : Nat) (tee : Bool)
  | node (id : Nat)
  | firmware
deriving DecidableEq, Repr

/-- What a CRITICAL request carries beside its value (R404, R407): its context, its counter, and whether its check is
the one the context's key gives (a verdict of the standard's function, log 7). -/
structure Crit where
  ctx : Nat
  counter : Nat
  macOk : Bool
deriving DecidableEq, Repr

/-- A Spays request: its sender, its TAG, its critical part if OP is CRITICAL, and the instant it is served. -/
structure Req where
  who : Caller
  tag : Nat
  crit : Option Crit
  now : Nat
deriving DecidableEq, Repr

/-- The payload of a write: its length in bytes and its little-endian value (R398). -/
structure Payload where
  len : Nat
  val : Nat
deriving DecidableEq, Repr

/-- A descriptor of a submission queue (R374): its fields as numbers. -/
structure Desc where
  opcode : Nat := 0
  flags : Nat := 0
  format : Nat := 255
  tag : Nat := 0
  hostAddr : Nat := 0
  hostAddrC : Nat := 0
  hostAddrC2 : Nat := 0
  target : Nat := 0
  offset : Nat := 0
  length : Nat := 0
  pitch : Nat := 0
  pitchC : Nat := 0
  db : Nat := 0
  /-- some byte that the layout fixes at 0 is not 0 -/
  reservedSet : Bool := false
deriving DecidableEq, Repr

/-- What the host end of a descriptor's transfer gives (R374 to R377): the bytes read at HOST_ADDR, HOST_ADDR_C and HOST_ADDR_C2
(for an intake or a reshuffled copy: from the first row of the transfer onward), and how the transfer ends: 0 whole, 2 a host
access failed, 3 a frozen DRAM channel was reached, 4 the region was sealed, with the source bytes whose writes completed. -/
structure Xfer where
  data : Nat := 0
  dataC : Nat := 0
  dataC2 : Nat := 0
  stop : Nat := 0
  bytes : Nat := 0
deriving DecidableEq, Repr

/-- Where an internal FIFO lies (R391): inside a tile, in a DMA channel's buffer, the pointer state of a host queue (function,
queue: 0 to 7 submission, 8 to 15 completion, 16 event), or elsewhere, with its consumer's fault source. -/
inductive FifoHome where
  | tile (t : Nat)
  | channel (c : Nat)
  | queue (fn q : Nat)
  | other (source : Nat)
deriving DecidableEq, Repr

/-- A candidate for a block (R118, R122): inter or intra, its columns and rows, its mode or candidate index, the reference (0
primary, 1 secondary, 2 both) and vector in eighths of a sample, transform splits and type (R137), and what the standards and the
tile's estimates give of it (log 13): distortion and bits of its cost (R120), luma SATD, whether it leaves no residual. -/
structure Cand where
  inter : Bool := true
  w : Nat := 16
  h : Nat := 16
  idx : Nat := 0
  ref : Nat := 0
  mx : Int := 0
  my : Int := 0
  txSplit : Nat := 0
  txType : Nat := 0
  dist : Nat := 0
  rate : Nat := 0
  satd : Nat := 0
  skip : Bool := false
deriving DecidableEq, Repr

/-- A block of a part: its luma column, its luma row within the band, its candidates; for a decoder the one that the bitstream
names. -/
structure CodedBlock where
  x : Nat
  y : Nat
  cands : List Cand
deriving DecidableEq, Repr

/-- What coding one part gives, fixed by the codec's standard, the sources and the plan (log 13): the bits of slice or
tile data of each 64-column unit, header bits of the slice or tile group, bits of parameter sets, sequence and frame
headers, the blocks with their candidates, a decoder's quantisers by block, the bitstream (its length in bytes, its little-endian value, and the lengths of its
OBUs or NAL units: the last of a part and the first of the next are one unit; none listed means one), and for a decoder the
error of R158 (0 none, 1 syntax, 2 unsupported header or parameter set, 3 level or size, 4 outside the band layout). -/
structure PartResult where
  unitBits : List Nat := []
  sliceBits : Nat := 0
  hdrBits : Nat := 0
  blocks : List CodedBlock := []
  qs : List Int := []
  size : Nat := 0
  data : Nat := 0
  units : List Nat := []
  error : Nat := 0
deriving DecidableEq, Repr

/-- A received frame (R278 to R288): its bytes without the FCS, first byte lowest; whether the FCS is right; for a
feedback packet the destinations 64 s + e under whose key it authenticates, 16,384 more for one's previous key (a verdict of
the cipher, log 7), its SRTCP
index, and the media source SSRCs of its messages. -/
structure RxFrame where
  len : Nat
  data : Nat
  fcsOk : Bool := true
  authUnder : List Nat := []
  index : Nat := 0
  ssrcs : List Nat := []
deriving DecidableEq, Repr

/-- The band record (R143). -/
structure BandRec where
  frame : Nat := 0
  band : Nat := 0
  parts : Nat := 1
  flags : Nat := 0
  layer : Nat := 0
  primary : Nat := 0
  secondary : Nat := 0
  baseQ : Int := 0
  target : Nat := 0
  bits : Nat := 0
  hdrBits : Nat := 0
  crc : Nat := 0
  satd : Nat := 0
  intra16 : Nat := 0
  skip16 : Nat := 0
  meanQ : Int := 0
  stripe : Nat := 0
deriving DecidableEq, Repr

/-- The fields of a rate state record that a BAND message carries (R186, R197): kappa, v and c_avg in units of 2^-16, the
frame planned with its sigma, q_prev, the entry states, and per destination r, owd_min, qd_prev. -/
structure RateRec where
  kappa : Option Nat := none
  v : Option Int := none
  cAvg : Option Nat := none
  sigma : Option (Nat × Int) := none
  qPrev : Option Int := none
  states : Option Nat := none
  dests : List (Nat × Nat × Int × Nat) := []
deriving DecidableEq, Repr

/-- A message of the mirror stream (R194 to R197): its TYPE, whether its tag is right under the key R448 assigns to it (a
verdict of the cipher, log 7), the UDP port it goes to, its header, and its body: the fixed fields in the order of R195 and R197, the objects it
carries (index, value), the destination entries (destination, transport-wide sequence, SRTCP index), stream keys
(destination, suite, key with salt), a band's record, its rate fields, its bitstream and the lengths of its units. -/
structure MirrorMsg where
  ty : Nat
  ok : Bool := true
  port : Nat := 0
  version : Nat := 1
  len : Nat := 0
  epoch : Nat := 0
  counter : Nat := 0
  session : Nat := 0xFFFF
  lining : Nat := 0xFFFF
  mseq : Nat := 0
  nums : List Nat := []
  objs : List (Nat × Nat) := []
  dests : List (Nat × Nat × Nat) := []
  keys : List (Nat × Nat × Nat) := []
  record : BandRec := {}
  rate : RateRec := {}
  size : Nat := 0
  data : Nat := 0
  units : List Nat := []
deriving DecidableEq, Repr

/-- A sequence header as the decoder gives it (R238, R244; the standards' values, log 13): codec and profile, picture size,
bit depth, frame period in stitches, level, temporal layers, and its bytes. -/
structure SeqHdr where
  codec : Nat := 0
  width : Nat := 0
  height : Nat := 0
  depth : Nat := 0
  period : Nat := 0
  lvl : Nat := 0
  layers : Nat := 1
  bytes : Nat := 0
deriving DecidableEq, Repr

/-- What decoding one band of an uploaded segment gives (R238; the standards' values, log 13): the CRC of its
reconstruction, frames back to its references (0 for none), the lengths of its units, whether it opens an intra frame,
the sequence header it carries, and the error of R158 (0 none). -/
structure SegBand where
  crc : Nat := 0
  primary : Nat := 0
  secondary : Nat := 0
  units : List Nat := []
  intra : Bool := false
  seqHdr : Option SeqHdr := none
  error : Nat := 0
deriving DecidableEq, Repr

/-- What the freeze registers of a channel take (R317, R318): the cause, the channel-local address, the syndrome, the
requester, the sub-channel, whether an alert recurred during self-refresh entry, and the queued requests as the words of
DMC_FRZ_QENT without VALID. -/
structure FreezeRec where
  cause : Nat := 0
  addr : Nat := 0
  syndrome : Nat := 0
  requester : Nat := 0
  subch : Nat := 0
  srFail : Bool := false
  queued : List Nat := []
deriving DecidableEq, Repr

/-- How the training of a channel ended, or stands (R309, 0x1804:c): the cause of a failure, the step, the narrowest window in
steps and its lane. -/
structure TrnResult where
  cause : Nat := 0
  step : Nat := 0
  window : Nat := 0
  lane : Nat := 0
deriving DecidableEq, Repr

/-- The commands of the block: one constructor for each row of the table of operations and events. -/
inductive Instr where
  /-- STITCH_BOUNDARY (R24): The stitch counter takes its next value, and the stitch-scheduled path runs refill, rate sampling and the Loom snapshot and assignment in order. -/
  | stitchBoundary
  /-- GATE_ENTRY_EXPIRY (R273): A gate entry's duration ends and the next entry's class mask takes over. -/
  | gateEntryExpiry (port now : Nat)
  /-- FRAME_CREDIT (R97): A session's frame credit counter gains one credit at every p-th stitch, up to 2. -/
  | frameCredit (slot : Nat)
  /-- STITCH_OVERRUN (R79): A part not complete at its deadline is counted as a stitch overrun, with interrupt source 2 and a severity-0 fault. -/
  | stitchOverrun (tile now : Nat)
  /-- TILE_HANG (R81): A part still incomplete when the hang limit has passed after its deadline makes its tile hung and a severity-2 fault. -/
  | tileHang (tile now : Nat)
  /-- PART_CODED (R142): A tile finishes coding a part and requests a closing grant from the Loom. -/
  | partCoded (tile : Nat) (res : PartResult) (now : Nat)
  /-- CLOSING_GRANT (R142): The Loom grants one closing request, marks the part coded and tells the tile whether it closes the band and which seams to finish. -/
  | closingGrant (now : Nat)
  /-- COMPLETION_POST (R26): A tile posts completion after its bitstream, reconstruction and band record are written, and starts the part in its next position. -/
  | completionPost (tile now : Nat)
  /-- COMPLETION_COLLECT (R82): The Loom collects one latched completion per fabric cycle in order of arrival and tile number. -/
  | completionCollect (now : Nat)
  /-- ASSIGN_CURRENT (R460): The sequencer acts at a safe point on a latched command placing a part in its current position. -/
  | assignCurrent (tile : Nat) (copyOk : Bool) (now : Nat)
  /-- ASSIGN_NEXT (R460): The sequencer acts on a latched next-position command, issuing the next part's context and first loads. -/
  | assignNext (tile now : Nat)
  /-- WITHDRAW_NEXT (R460): The sequencer acts on a withdrawal of its next-position part, discarding loads in flight. -/
  | withdrawNext (tile now : Nat)
  /-- CLOSE_GRANT (R460): The sequencer's CLOSE routine proceeds on a latched closing grant, finishing filtering, seams and the band record. -/
  | closeGrant (tile : Nat) (recon : List Nat) (now : Nat)
  /-- BOOT (R462): A tile's signature check over its microcode ROM completes and the tile enters IDLE or fails. -/
  | boot (tile : Nat) (wordsOk : Bool) (sig sigExp now : Nat)
  /-- CONTAINMENT_RESET (R461): An uncorrectable tile memory or FIFO error resets the tile, stops its sequencer and holds it in containment. -/
  | containmentReset (tile now : Nat)
  /-- LOAD_STALL_END (R468): A part stalled in LOAD resumes when the commit line reaches its frame, or suspends its session on an integrity failure. -/
  | loadStallEnd (tile : Nat) (copyOk : Bool) (now : Nat)
  /-- CONTEXT_COMMIT (R467): The commit line of a frame's context copy completes and coding of band 0 begins. -/
  | contextCommit (tile now : Nat)
  /-- TILE_RETIRE (R209): Firmware writes a failed tile into the retirement map, turns its domain off and sets it retired. -/
  | tileRetire (tile : Nat) (flashOk : Bool) (now : Nat)
  /-- RETIREMENT_MAP_RETRY (R209): A failed retirement-map flash write is retried once per second. -/
  | retirementMapRetry (flashOk : Bool) (now : Nat)
  /-- APERTURE_WRITE (R90): An aperture write is converted and stored in 64-byte units, or its units are dropped and counted. -/
  | apertureWrite (tenant offset : Nat) (tee : Bool) (enabled : List Bool) (data now : Nat)
  /-- APERTURE_READ (R92): A read of the frame aperture completes with zeros and is counted. -/
  | apertureRead (tenant offset : Nat) (tee : Bool) (now : Nat)
  /-- BAND_DOORBELL (R96): A band doorbell is accepted, stamped and its band regions sealed, or rejected with its code. -/
  | bandDoorbell (tenant : Nat) (tee : Bool) (word now : Nat)
  /-- WATERMARK_FLAG_CLEAR (R105): A W1C write clears HIGH_X or LOW_X, a crossing in the same cycle winning. -/
  | watermarkFlagClear (who : Caller) (slot mask : Nat)
  /-- HOLD_ASSERT_CLEAR (R106): A W1C write clears ASSERT_X bits of DMA_HOLD_STATUS, a new assertion in the same cycle winning. -/
  | holdAssertClear (who : Caller) (mask : Nat)
  /-- BAND_SUBSTITUTION (R99): At the missing-band limit every unaccepted band of a frame is substituted as a copy or intra fill band. -/
  | bandSubstitution (slot now : Nat)
  /-- DRAIN_ABANDON (R54): A frame in progress four frame periods after DRAIN is abandoned and its uncoded bands discarded. -/
  | drainAbandon (slot now : Nat)
  /-- DRAIN_COMPLETE (R54): When the drain hold has elapsed with the frame done and queues empty, reservations are released, BYE sent and the session goes to DEFINED. -/
  | drainComplete (slot now : Nat)
  /-- DEFINE (R51): A FREE session slot is defined after range and combination checks and quota. -/
  | define (q : Req) (slot : Nat)
  /-- RELEASE (R51): A DEFINED session returns to FREE and its parameters to their defaults. -/
  | release (q : Req) (slot : Nat)
  /-- ARM (R59): Admission reserves the session's charges, intake window and buffers, and for a lining request asks the partner for a lining slot. -/
  | arm (q : Req) (slot : Nat)
  /-- ARM_PARTNER_TIMEOUT (R60): An ARM that has had no lining answer for 2 ms releases its provisional reservations and is refused. -/
  | armPartnerTimeout (slot now : Nat)
  /-- DISARM (R51): An ARMED session returns to DEFINED, releasing reservations, destinations and stream keys. -/
  | disarm (q : Req) (slot : Nat)
  /-- START (R51): An ARMED session is set pending to run from the next stitch, with fresh SSRC and counters drawn. -/
  | start (q : Req) (slot : Nat)
  /-- PAUSE (R51): A RUNNING session is set pending to pause at its next frame boundary. -/
  | pause (q : Req) (slot : Nat)
  /-- RESUME (R51): A PAUSED or SUSPENDED session is set pending to run from the next stitch. -/
  | resume (q : Req) (slot : Nat)
  /-- DRAIN (R51): A session starts draining, or an ARMED session returns to DEFINED, cancelling any pending command. -/
  | drain (q : Req) (slot : Nat)
  /-- OPERATOR_DRAIN (R42): The physical function drains a session, acting as DRAIN. -/
  | operatorDrain (q : Req) (slot : Nat) (value : Nat)
  /-- TENANT_BIND (R38): A write of the bound function binds or unbinds a tenant slot under the binding rules. -/
  | tenantBind (q : Req) (tenant : Nat) (value : Nat)
  /-- FUNCTION_LEVEL_RESET (R40): A VF function-level reset frees every session of its tenant, erases its keys and disables its queues. -/
  | functionLevelReset (tenant now : Nat)
  /-- VF_ENABLE_SET (R353): Host software sets VF Enable, which the device keeps at 0 if capacity or ARI would be exceeded. -/
  | vfEnableSet (link numVfs : Nat) (ari : Bool)
  /-- VF_ENABLE_CLEAR (R40): Clearing VF Enable frees the sessions of every tenant bound to that port's virtual functions. -/
  | vfEnableClear (link now : Nat)
  /-- PF_FLR (R354): A function-level reset of a physical-function instance clears its configuration space and VF Enable. -/
  | pfFlr (link now : Nat)
  /-- PCIE_LINK_RESET (R350): A hot reset, link disable, surprise link-down or PERST assertion clears VF Enable on that link and is posted as a port event. -/
  | pcieLinkReset (link kind now : Nat)
  /-- PCIE_LINK_UP (R349): A link trains and its intake budget is recomputed from its width and rate. -/
  | pcieLinkUp (link lanes rate now : Nat)
  /-- MAILBOX_GO (R412): A GO write submits the mailbox request, sets BUSY and advances SEQ. -/
  | mailboxGo (who : Caller) (length : Nat)
  /-- READ (R406): A Spays READ returns a segment of an object's value from a snapshot. -/
  | read (q : Req) (idx sub off : Nat)
  /-- WRITE (R398): A Spays WRITE to an object without its own row is checked and performed. -/
  | write (q : Req) (idx sub : Nat) (v : Payload)
  /-- DESCRIBE (R405): A Spays DESCRIBE returns an object's type, access, length and default. -/
  | describe (q : Req) (idx sub : Nat)
  /-- REFRESH_REQUEST (R156): A write of 1 to 0x3064:s triggers a gradual refresh cycle. -/
  | refreshRequest (q : Req) (slot value : Nat)
  /-- FREEZE_REQUEST (R234): A clip freeze request is checked and replacement blocks reserved, making the entry FREEZING. -/
  | freezeRequest (q : Req) (slot : Nat) (v : Payload)
  /-- REGISTER_SEGMENT (R237): A library command takes an uploaded block into a FREE entry and starts its verification. -/
  | registerSegment (q : Req) (tenant : Nat) (v : Payload)
  /-- DELETE (R237): A library command releases a READY or REJECTED entry's blocks. -/
  | delete (q : Req) (tenant : Nat) (v : Payload)
  /-- EXPORT_TO_ETHERNET (R237): A library command sends a READY entry's stored form encrypted on the bulk class. -/
  | exportToEthernet (q : Req) (tenant : Nat) (v : Payload)
  /-- SEGMENT_VERIFIED (R238): Verification of a registered segment ends and the entry becomes READY or REJECTED. -/
  | segmentVerified (tenant entry : Nat) (bands : List SegBand) (now : Nat)
  /-- SPLICE_REQUEST (R239): A splice request is checked and left pending until the session's next frame boundary. -/
  | spliceRequest (q : Req) (slot value : Nat)
  /-- SPLICE_RETURN (R241): A splice return request ends the splice at the next frame boundary. -/
  | spliceReturn (q : Req) (slot value : Nat)
  /-- BLOCK_ALLOCATE (R332): A block command allocates a block of a pool and publishes its handle with the tag. -/
  | blockAllocate (q : Req) (sub : Nat) (v : Payload)
  /-- BLOCK_FREE (R332): A block command frees a block named by a checked handle. -/
  | blockFree (q : Req) (sub : Nat) (v : Payload)
  /-- DESTINATION_WRITE (R255): A destination entry write is checked, enabling, disabling or readdressing the destination and its flow keys from the next stitch. -/
  | destinationWrite (q : Req) (slot dest : Nat) (v : Payload)
  /-- SHAPER_WRITE (R254): A shaper entry write changes rates, depths, overhead or queue limit from the next refill. -/
  | shaperWrite (q : Req) (slot dest : Nat) (v : Payload)
  /-- STREAM_KEY_WRITE (R443): A wrapped stream key is unwrapped and made current, the old key kept as previous key. -/
  | streamKeyWrite (q : Req) (slot dest : Nat) (v : Payload) (tagOk : Bool)
  /-- PREVIOUS_KEY_EXPIRY (R443): A destination's previous stream key is discarded once the retransmission hold has passed. -/
  | previousKeyExpiry (slot dest now : Nat)
  /-- SEGMENT_KEY_WRITE (R441): A wrapped segment key is unwrapped into its slot, or the slot emptied. -/
  | segmentKeyWrite (q : Req) (tenant k : Nat) (v : Payload) (tagOk : Bool)
  /-- PORT_MODE_WRITE (R247): A port mode write retrains the links of each changed port at the next stitch. -/
  | portModeWrite (q : Req) (value : Nat)
  /-- LINK_TRAIN_TIMEOUT (R247): A link not up 500 ms after a mode change is reported down. -/
  | linkTrainTimeout (port now : Nat)
  /-- ETHERNET_LINK_CHANGE (R249): An Ethernet link goes up or down and a port event is posted. -/
  | ethernetLinkChange (port : Nat) (up : Bool) (now : Nat)
  /-- MAC_SEND (R274): A free MAC sends the head packet of the highest-priority open class that fits its window, deferring others. -/
  | macSend (port now : Nat)
  /-- RETRANSMISSION_EXPIRY (R269): A packet older than the retransmission hold leaves the store. -/
  | retransmissionExpiry (slot now : Nat)
  /-- SENDER_REPORT (R271): At each sender report interval an SRTCP sender report with SDES is sent to every keyed destination. -/
  | senderReport (slot now : Nat)
  /-- FRAME_RECEIVED (R281): A received frame is parsed and sorted into a path or an exception class. -/
  | frameReceived (port : Nat) (f : RxFrame) (now : Nat)
  /-- LEARNING_DECISION (R292): The arbiter decides a move candidate 4 µs after its stamp, moving the learned address or refusing it. -/
  | learningDecision (now : Nat)
  /-- NACK (R270): A generic NACK requests resends from the retransmission store, or marks packets unrecoverable. -/
  | nack (slot dest : Nat) (seqs : List Nat) (now : Nat)
  /-- PICTURE_LOSS_INDICATION (R180): A picture loss indication from a binding destination marks lost every PENDING entry and the frame in progress. -/
  | pictureLossIndication (slot dest now : Nat)
  /-- CONGESTION_FEEDBACK (R183): A congestion control feedback report updates receipt, acknowledgement, loss and the destination's rates. -/
  | congestionFeedback (slot dest : Nat) (reports : List (Nat × Option Nat)) (now : Nat)
  /-- TRANSPORT_WIDE_FEEDBACK (R178): A transport-wide congestion control feedback message is used as congestion feedback. -/
  | transportWideFeedback (slot dest : Nat) (reports : List (Nat × Option Nat)) (now : Nat)
  /-- RECEIVER_REPORT (R178): A receiver report is counted and not otherwise used. -/
  | receiverReport (slot dest now : Nat)
  /-- FEEDBACK_TIMEOUT (R182): A binding destination silent for the feedback timeout has its rate held and a session event posted. -/
  | feedbackTimeout (slot dest now : Nat)
  /-- AGING_VISIT (R287): Each aging interval every flow-table bucket is visited, setting aged bits and clearing hit bits. -/
  | agingVisit (pipeline now : Nat)
  /-- COMPARER_CHECK (R296): The comparer checks one destination and pipeline against the shadow copy and reports divergences. -/
  | comparerCheck (now : Nat)
  /-- FLOW_INSERT (R294): A host flow command inserts a destination's learned key into named pipelines. -/
  | flowInsert (q : Req) (v : Payload)
  /-- FLOW_REMOVE (R294): A host flow command removes a key from named pipelines. -/
  | flowRemove (q : Req) (v : Payload)
  /-- PTP_EVENT_RECEIVED (R250): An IEEE 1588 event message is timestamped and punted to the management controller. -/
  | ptpEventReceived (port now : Nat)
  /-- PTP_SYNC (R506): The servo processes a Sync, updating the offset estimate, slewing or stepping T and the alignment state. -/
  | ptpSync (off : Int) (now : Nat)
  /-- ANNOUNCE (R505): An Announce message feeds the best master clock algorithm and the UTC offset. -/
  | announce (clock : Nat) (utc : Int) (chosen : Bool) (now : Nat)
  /-- SYNC_TIMEOUT (R506): With no Sync for 3 s the alignment state becomes Free-running with the addend held. -/
  | syncTimeout (now : Nat)
  /-- PPS_IN_EDGE (R504): A rising edge of PTP_PPS_IN disciplines T under the PPS_IN source. -/
  | ppsInEdge (now : Nat)
  /-- PPS_OUT (R507): PTP_PPS_OUT rises at each whole second of T and falls 1 ms later. -/
  | ppsOut (now : Nat)
  /-- TIME_SET (R504): A write of 0x1324:0 sets T as a step, or at the next PPS edge. -/
  | timeSet (q : Req) (v : Payload)
  /-- TBS_STEP (R63): An accepted TBS_STEP_HI write applies a signed step to T. -/
  | tbsStep (who : Caller) (hi : Nat) (now : Nat)
  /-- PTP_TS_TAG_READ (R251): A read of PKE_PTP_TS_TAG takes the oldest egress timestamp and latches it into the timestamp pair. -/
  | ptpTsTagRead (who : Caller)
  /-- TS_FLUSH (R251): Writing TS_FLUSH empties the egress timestamp FIFO. -/
  | tsFlush (who : Caller)
  /-- PAIR_ENABLE (R191): A write of pair enable starts the handshake or returns the pair to UNPAIRED. -/
  | pairEnable (q : Req) (value : Nat)
  /-- HANDSHAKE_TIMEOUT (R190): A handshake not finished within 200 ms makes the pair REFUSED. -/
  | handshakeTimeout (now : Nat)
  /-- REFUSED_RETRY (R191): One second after refusal the handshake is retried. -/
  | refusedRetry (now : Nat)
  /-- HEARTBEAT (R193): A received HEARTBEAT records the partner's stitch and may return the pair to PAIRED or HANDSHAKE. -/
  | heartbeat (m : MirrorMsg) (now : Nat)
  /-- HELLO (R190): A received HELLO is checked for stepping, microcode and profile, completing the handshake. -/
  | hello (m : MirrorMsg) (now : Nat)
  /-- LINING_REQUEST (R199): The hosting device grants a lining slot and standby session slot or refuses with a code. -/
  | liningRequest (m : MirrorMsg) (now : Nat)
  /-- LINING_ANSWER (R60): The partner's answer completes or refuses a waiting ARM with a lining request. -/
  | liningAnswer (m : MirrorMsg) (now : Nat)
  /-- SESSION_OPEN (R201): A lining applies the session's parameters, destinations and wrapped stream keys. -/
  | sessionOpen (m : MirrorMsg) (now : Nat)
  /-- BAND (R197): A lining applies a band message in MSEQ order, making the band eligible for lining decode. -/
  | band (m : MirrorMsg) (now : Nat)
  /-- SESSION_STATE (R196): A lining applies a state, parameter, destination or priority change, re-charging a guaranteed lining. -/
  | sessionState (m : MirrorMsg) (now : Nat)
  /-- SESSION_CLOSE (R201): A lining returns to IDLE and its reservations and standby slot are released. -/
  | sessionClose (m : MirrorMsg) (now : Nat)
  /-- MIRROR_NACK (R198): The primary resends each named sequenced message it still holds. -/
  | mirrorNack (m : MirrorMsg) (now : Nat)
  /-- LINING_STATE (R204): The primary updates its lining view and starts a refresh cycle if requested. -/
  | liningState (m : MirrorMsg) (now : Nat)
  /-- HANDOVER_OFFER (R220): The host checks promotion admission and answers a handover offer. -/
  | handoverOffer (m : MirrorMsg) (now : Nat)
  /-- HANDOVER_ANSWER (R220): On acceptance the primary stops packetising, drains for at most 8 stitches and sends HANDOVER. -/
  | handoverAnswer (m : MirrorMsg) (now : Nat)
  /-- HANDOVER_QUEUE_LIMIT (R220): Media packets still queued 8 stitches after a handover acceptance are discarded and HANDOVER is sent. -/
  | handoverQueueLimit (now : Nat)
  /-- HANDOVER (R216): The hosting device runs a handover promotion of the named lining with exact transport state. -/
  | handover (m : MirrorMsg) (now : Nat)
  /-- TAKEN (R215): A device told its session was promoted suspends it with cause 5 at the next stitch. -/
  | taken (m : MirrorMsg) (now : Nat)
  /-- MIRROR_HOLD_EXPIRY (R198): A gap message not arrived one mirror hold after the gap was seen is declared lost and the lining degrades. -/
  | mirrorHoldExpiry (lining now : Nat)
  /-- HEARTBEAT_LIMIT (R214): A last heartbeat older than L stitches starts a Drawstring probe of the partner's service status. -/
  | heartbeatLimit (now : Nat)
  /-- PROBE_ANSWER (R214): A probe answer moves the pair to MIRROR_DOWN or PARTNER_LOST. -/
  | probeAnswer (status now : Nat)
  /-- PROBE_TIMEOUT (R214): No probe answer within 2 ms makes the pair PARTNER_LOST. -/
  | probeTimeout (now : Nat)
  /-- PROBE_REPEAT (R214): Every 36 stitches in MIRROR_DOWN the probe is repeated. -/
  | probeRepeat (now : Nat)
  /-- PROMOTE_LININGS (R216): A command in PARTNER_LOST runs a loss promotion pass. -/
  | promoteLinings (q : Req) (value : Nat)
  /-- ADDRESS_ANNOUNCE (R218): Gratuitous ARP or unsolicited neighbour advertisements for taken-over addresses are repeated 36 and 72 stitches later. -/
  | addressAnnounce (now : Nat)
  /-- HAND_OVER_SESSION (R221): Host software commands a handover of a session, which sends HANDOVER_OFFER. -/
  | handOverSession (q : Req) (value : Nat)
  /-- LINING_REQUEST_RETRY (R222): A refused lining request after re-pairing is sent again each second. -/
  | liningRequestRetry (slot now : Nat)
  /-- LINING_REANCHOR (R228): A lining command clears anchor attempts and requests a refresh. -/
  | liningReanchor (q : Req) (lining : Nat)
  /-- LINING_RELEASE (R201): A lining command releases a lining while the pair is PARTNER_LOST or MIRROR_DOWN. -/
  | liningRelease (q : Req) (lining : Nat)
  /-- TILE_RELEASE (R210): A tile action resets a hung or contained tile and makes it usable. -/
  | tileRelease (q : Req) (tile : Nat)
  /-- TILE_RETIRE_COMMAND (R210): A tile action retires a tile under R209. -/
  | tileRetireCommand (q : Req) (tile : Nat) (flashOk : Bool)
  /-- SESSIONS_TAKEN_WRITE (R215): The partner's critical write of 0x140D:0 delivers TAKEN over the Drawstring. -/
  | sessionsTakenWrite (q : Req) (v : Payload)
  /-- DRAWSTRING_TOKEN (R417): A node holding the token sends one own frame and passes the token on. -/
  | drawstringToken (seq ack now : Nat)
  /-- TOKEN_REGENERATE (R417): The master issues a new token when none has passed for 1 ms. -/
  | tokenRegenerate (now : Nat)
  /-- HOP_LOCK (R420): A node's Drawstring receiver locks and it begins forwarding. -/
  | hopLock (now : Nat)
  /-- CLOSE_SEND (R420): The master sends a CLOSE frame every 1 ms. -/
  | closeSend (now : Nat)
  /-- CLOSE (R420): A returning CLOSE closes the ring and starts enumeration; another master's CLOSE resolves a master conflict. -/
  | close (master now : Nat)
  /-- ENUM (R421): A node adds its entry to the ENUM frame, or the master broadcasts TABLE when it returns. -/
  | enum (master hop : Nat) (entries : List Nat) (now : Nat)
  /-- ENUM_TIMEOUT (R421): An ENUM not returned within 2 ms is resent, the ring opening after 3 attempts. -/
  | enumTimeout (now : Nat)
  /-- TABLE (R421): A node stores the node table and takes ring state up. -/
  | table (entries : List Nat) (now : Nat)
  /-- CLOSURE_LIMIT (R422): A ring not up by the closure limit, or idle of tokens for 10 ms, goes open with a severity-3 fault. -/
  | closureLimit (now : Nat)
  /-- WAKE (R424): A WAKE frame asserts the Drawstring wake source of a node in Standby or Sleep. -/
  | wake (dst now : Nat)
  /-- FRAME_RETRY (R418): A frame acknowledged with ACK 2 or 3 is sent again at the next token or every 1 ms. -/
  | frameRetry (ack now : Nat)
  /-- REQUEST_TIMEOUT (R419): A Drawstring request without response within the timeout is treated as unanswered. -/
  | requestTimeout (now : Nat)
  /-- REENUM (R423): A REENUM write on the master starts a new closure and enumeration. -/
  | reenum (who : Caller) (now : Nat)
  /-- DSR_CNT_CLR (R427): Writing CNT_CLR clears the Drawstring counters. -/
  | dsrCntClr (who : Caller)
  /-- TRN_WRITE_PATTERN (R308): A training helper writes the pattern to the first LINES lines of a rank's training area. -/
  | trnWritePattern (who : Caller) (chan value now : Nat)
  /-- TRN_READ_COMPARE (R308): A training helper reads and compares lines with the pattern. -/
  | trnReadCompare (who : Caller) (chan value now : Nat)
  /-- TRN_WRITE_READ_COMPARE (R308): A training helper writes, reads back and compares lines. -/
  | trnWriteReadCompare (who : Caller) (chan value now : Nat)
  /-- TRN_CA_LOOPBACK (R308): A training helper sends the pattern on CA and CS and compares the RCD loopback. -/
  | trnCaLoopback (who : Caller) (chan value now : Nat)
  /-- HELPER_OP_DONE (R308): A training helper operation ends with its fail mask, error count and PASS. -/
  | helperOpDone (chan m0 m1 m2 errs : Nat) (fail : Option TrnResult) (now : Nat)
  /-- TRN_FINISH (R309): Writing FINISH ends a channel's training and puts it in state 3. -/
  | trnFinish (who : Caller) (chan : Nat) (r : TrnResult) (now : Nat)
  /-- TRAINING_TIMEOUT (R310): A channel still training at 3.0 s fails with cause 6. -/
  | trainingTimeout (chan now : Nat)
  /-- DRAM_REFRESH (R312): An all-bank refresh interval of a rank expires and the refresh is issued or postponed. -/
  | dramRefresh (chan rank : Nat) (busy : Bool) (now : Nat)
  /-- MODE_REGISTER_POLL (R313): Every 16 ms each rank's refresh-rate indication is read and the refresh rate adjusted. -/
  | modeRegisterPoll (chan rank need now : Nat)
  /-- SELF_REFRESH_REQUEST (R314): Withdrawal of a channel's last vote starts self-refresh entry. -/
  | selfRefreshRequest (chan now : Nat)
  /-- SELF_REFRESH_STAGE (R314): A self-refresh stage completes and recorded requests are evaluated. -/
  | selfRefreshStage (chan : Nat) (pass : Bool) (now : Nat)
  /-- DRAM_REQUEST_IN_SELF_REFRESH (R315): A request reaching a channel in entry or self-refresh aborts entry or causes exit. -/
  | dramRequestInSelfRefresh (chan now : Nat)
  /-- PAD_RELEASE (R316): Writing PAD_RELEASE lets a held channel exit self-refresh after its check. -/
  | padRelease (who : Caller) (chan : Nat) (pass : Bool) (now : Nat)
  /-- CHANNEL_FREEZE (R318): An uncorrectable read, address mismatch or recurring alert freezes the channel and captures its state. -/
  | channelFreeze (chan : Nat) (r : FreezeRec) (now : Nat)
  /-- ALERT_REPLAY (R317): A command parity or write CRC alert is replayed and, if it does not recur, corrected. -/
  | alertReplay (chan now : Nat)
  /-- CHANNEL_RESUME (R320): A frozen channel without SR_FAIL exits self-refresh and returns to service after its check. -/
  | channelResume (chan : Nat) (pass : Bool) (now : Nat)
  /-- CHANNEL_RETRAIN (R320): A frozen channel is retrained and refilled if needed before returning to service. -/
  | channelRetrain (chan now : Nat)
  /-- CHANNEL_OFF (R320): A frozen or failed channel's domain is turned off until cold reset. -/
  | channelOff (chan now : Nat)
  /-- DMC_CORR_CLR (R322): Writing CORR_CLR clears a channel's corrected-read count. -/
  | dmcCorrClr (who : Caller) (chan : Nat)
  /-- FILL_FRAME_DONE (R336): A fill descriptor completes a frame and raises the channel's fill mark. -/
  | fillFrameDone (chan now : Nat)
  /-- SCRUB_READ (R339): The scrubber reads a line in a free slot and writes back a corrected line. -/
  | scrubRead (chan outcome syndrome now : Nat)
  /-- RESILVER_COMPLETE (R343): The copy of a pair's mirrored blocks ends and the pair becomes MIRRORED. -/
  | resilverComplete (pair now : Nat)
  /-- FLIP_ARM (R346): Setting ARM corrupts the next write to the named unit by the flip mask. -/
  | flipArm (who : Caller) (k value now : Nat)
  /-- WRD_LAP_HWM_CLR (R340): Writing LAP_HWM_CLR clears every scrub lap high-water mark and LAP_LATE. -/
  | wrdLapHwmClr (who : Caller)
  /-- SRAM_CORR_CLR (R334): Writing SRAM_CORR_CLR clears WRD_SRAM_CORR. -/
  | sramCorrClr (who : Caller)
  /-- SQ_TAIL_WRITE (R381): A driver writes a submission queue tail, checked and making descriptors fetchable. -/
  | sqTailWrite (who : Caller) (queue value : Nat)
  /-- CQ_HEAD_WRITE (R381): A driver advances a completion queue head, granting credit. -/
  | cqHeadWrite (who : Caller) (queue value : Nat)
  /-- EQ_HEAD_WRITE (R381): A driver advances the event queue head. -/
  | eqHeadWrite (who : Caller) (value : Nat)
  /-- QUEUE_OBJECT_WRITE (R380): A queue object write enables, disables or configures a queue. -/
  | queueObjectWrite (q : Req) (idx sub : Nat) (v : Payload)
  /-- DESCRIPTOR_FETCH (R371): The dispatcher fetches a descriptor to an idle host channel after reserving a completion slot. -/
  | descriptorFetch (fn queue chan : Nat) (desc : Desc) (fetchOk : Bool) (now : Nat)
  /-- COPY_IN (R375): A descriptor copies host data into a block. -/
  | copyIn (chan : Nat) (x : Xfer) (now : Nat)
  /-- COPY_OUT (R375): A descriptor copies a block to host memory. -/
  | copyOut (chan : Nat) (x : Xfer) (now : Nat)
  /-- INTAKE (R378): A descriptor moves a band's rows into the intake window and may present its doorbell. -/
  | intake (chan : Nat) (x : Xfer) (now : Nat)
  /-- EXPORT (R375): A descriptor writes a library entry's encrypted stored form to host memory. -/
  | exportEntry (chan : Nat) (x : Xfer) (now : Nat)
  /-- DECODE_FEED (R375): A descriptor feeds host entries to a Decode session. -/
  | decodeFeed (chan : Nat) (x : Xfer) (now : Nat)
  /-- SEGMENT_UPLOAD (R444): A descriptor authenticates and decrypts a segment record into a block. -/
  | segmentUpload (chan : Nat) (x : Xfer) (tagOk : Bool) (now : Nat)
  /-- FILL (R375): A descriptor writes zeros with valid check bytes over a channel range. -/
  | fill (chan now : Nat)
  /-- TRANSMIT (R375): A descriptor sends one host frame in the Host class. -/
  | transmit (chan : Nat) (x : Xfer) (now : Nat)
  /-- RECEIVE_BUFFER (R386): A descriptor posts a host buffer for punted frames. -/
  | receiveBuffer (chan now : Nat)
  /-- DESCRIPTOR_COMPLETE (R383): A descriptor ends and its completion entry is written to the CQ. -/
  | descriptorComplete (chan : Nat) (entryOk : Bool) (now : Nat)
  /-- CHANNEL_DISABLE (R372): Clearing EN stops a DMA channel and completes its descriptor with OUTCOME 1. -/
  | channelDisable (who : Caller) (chan : Nat) (x : Xfer) (now : Nat)
  /-- DMA_CORR_CLR (R390): Writing CORR_CLR clears the DMA_FIFO_CORR pair. -/
  | dmaCorrClr (who : Caller)
  /-- EQ_RESET_CLEAR (R387): A W1C write clears EQ_RESET in DMA_Q_STAT. -/
  | eqResetClear (who : Caller)
  /-- ATS_INVALIDATION (R373): An ATS Invalidation Request is completed after requests using the range have been issued. -/
  | atsInvalidation (link now : Nat)
  /-- FIFO_WORD_CORRECTED (R390): A corrected FIFO word is delivered, counted and faulted at severity 0. -/
  | fifoWordCorrected (home : FifoHome) (fifo now : Nat)
  /-- FIFO_WORD_UNCORRECTABLE (R391): An uncorrectable FIFO word is contained in the smallest unit holding its FIFO. -/
  | fifoWordUncorrectable (home : FifoHome) (fifo now : Nat)
  /-- IRQ_DOORBELL (R392): A source number written to the doorbell becomes pending. -/
  | irqDoorbell (who : Caller) (source now : Nat)
  /-- INTERRUPT_DELIVERY (R393): The controller delivers one pending source to the management controller or an MSI-X vector. -/
  | interruptDelivery (now : Nat)
  /-- MSIX_HOLDOFF_EXPIRY (R395): A vector's holdoff elapses and its message is sent. -/
  | msixHoldoffExpiry (fn vector now : Nat)
  /-- MSIX_UNMASK (R394): Unmasking a vector that holds events sends its message at once. -/
  | msixUnmask (fn vector now : Nat)
  /-- IDLE_HINT_ARM (R396): Arming the idle hint sends messages for every unmasked vector holding events and bypasses moderation. -/
  | idleHintArm (who : Caller) (mask now : Nat)
  /-- MALFORMED_REGISTER_ACCESS (R362): A BAR 0 access that is not one aligned dword is completed with zeros or dropped with E_TYPE. -/
  | malformedRegisterAccess (who : Caller) (isWrite : Bool) (offset : Nat)
  /-- STRAY_ACCESS (R358): An access to a reserved page completes with zeros and is counted. -/
  | strayAccess (who : Caller) (isWrite : Bool) (offset : Nat)
  /-- REGISTER_WRITE (R11): A write to a register without its own row is checked whole and applied or dropped with its error recorded. -/
  | registerWrite (who : Caller) (offset value now : Nat)
  /-- PARITY_SWEEP (R367): The sweep checks register parity and records a configuration parity fault on mismatch. -/
  | paritySweep (mismatched : List Nat) (now : Nat)
  /-- MBX_CNT_CLR (R369): Writing CNT_CLR clears the host-interface counters. -/
  | mbxCntClr (who : Caller)
  /-- CARRY_HWM_CLR (R73): Writing CARRY_HWM_CLR clears LOOM_CARRY.CARRY_HWM. -/
  | carryHwmClr (who : Caller)
  /-- SLV_CORR_CLR (R131): Writing CORR_CLR clears the SLV_CORR_CNT pair. -/
  | slvCorrClr (who : Caller)
  /-- PKE_HWM_CLR (R277): Writing HWM_CLR clears every port residence and depth high-water mark. -/
  | pkeHwmClr (who : Caller)
  /-- IGR_LAP_HWM_CLR (R296): Writing LAP_HWM_CLR clears PKE_CMP_LAP_HWM. -/
  | igrLapHwmClr (who : Caller)
  /-- TILE_CNT_CLR (R469): Writing CNT_CLR clears TILE_SAVE_CNT. -/
  | tileCntClr (who : Caller) (tile : Nat)
  /-- SEC_EVENT_CNT_CLR (R453): Writing EVENT_CNT_CLR clears SEC_EVENT_CNT. -/
  | secEventCntClr (who : Caller)
  /-- GET_VERSION (R431): An SPDM GET_VERSION request is answered. -/
  | getVersion (link now : Nat)
  /-- GET_CAPABILITIES (R431): An SPDM GET_CAPABILITIES request is answered. -/
  | getCapabilities (link now : Nat)
  /-- NEGOTIATE_ALGORITHMS (R431): An SPDM NEGOTIATE_ALGORITHMS request is answered. -/
  | negotiateAlgorithms (link now : Nat)
  /-- GET_DIGESTS (R431): An SPDM GET_DIGESTS request returns the certificate digests. -/
  | getDigests (link now : Nat)
  /-- GET_CERTIFICATE (R431): An SPDM GET_CERTIFICATE request returns the certificate chain. -/
  | getCertificate (link now : Nat)
  /-- CHALLENGE (R431): An SPDM CHALLENGE is answered with a signature under the alias key. -/
  | challenge (link now : Nat)
  /-- GET_MEASUREMENTS (R430): An SPDM GET_MEASUREMENTS request returns the measurement blocks, optionally signed. -/
  | getMeasurements (link now : Nat)
  /-- KEY_EXCHANGE (R432): An SPDM KEY_EXCHANGE opens a secured session or is answered Busy. -/
  | keyExchange (link now : Nat)
  /-- FINISH (R431): An SPDM FINISH completes the secured session handshake. -/
  | finish (session : Nat) (ok : Bool) (now : Nat)
  /-- SPDM_HEARTBEAT (R432): An SPDM HEARTBEAT keeps a secured session alive. -/
  | spdmHeartbeat (session : Nat) (ok : Bool) (now : Nat)
  /-- KEY_UPDATE (R431): An SPDM KEY_UPDATE updates a secured session's keys. -/
  | keyUpdate (session : Nat) (ok : Bool) (now : Nat)
  /-- END_SESSION (R432): An SPDM END_SESSION closes a secured session. -/
  | endSession (session : Nat) (ok : Bool) (now : Nat)
  /-- SPDM_SESSION_TIMEOUT (R432): A secured session silent for 60 s ends. -/
  | spdmSessionTimeout (session now : Nat)
  /-- INSTALL_TENANT (R438): A tenant root key is installed, the generation raised and the slot made KEYED. -/
  | installTenant (session message : Nat) (ok : Bool) (now : Nat)
  /-- INSTALL_OPERATOR (R438): The operator key is installed and its generation raised. -/
  | installOperator (session message : Nat) (ok : Bool) (now : Nat)
  /-- IDE_KM (R434): IDE keys for a link or selective stream are programmed over the DOE mailbox. -/
  | ideKm (session stream place key : Nat) (ok : Bool) (now : Nat)
  /-- IDE_INTEGRITY_FAILURE (R434): An IDE stream integrity failure makes the stream insecure and its interfaces ERROR. -/
  | ideIntegrityFailure (link stream now : Nat)
  /-- LOCK_INTERFACE_REQUEST (R435): A TDISP interface moves to CONFIG_LOCKED. -/
  | lockInterfaceRequest (session fn stream : Nat) (ok : Bool) (now : Nat)
  /-- START_INTERFACE_REQUEST (R435): A TDISP interface moves to RUN. -/
  | startInterfaceRequest (session fn : Nat) (ok : Bool) (now : Nat)
  /-- STOP_INTERFACE_REQUEST (R435): A TDISP interface moves to CONFIG_UNLOCKED, freeing its tenant's sessions. -/
  | stopInterfaceRequest (session fn : Nat) (ok : Bool) (now : Nat)
  /-- RNG_HEALTH_FAILURE (R433): A failed entropy health test sets RNG_FAIL and a severity-3 fault. -/
  | rngHealthFailure (now : Nat)
  /-- TENANT_KEY_ERASE (R440): A critical write erases a tenant's key set. -/
  | tenantKeyErase (q : Req) (tenant value : Nat)
  /-- OPERATOR_KEY_ERASE (R440): A critical write erases the operator key. -/
  | operatorKeyErase (q : Req) (value : Nat)
  /-- DEBUG_UNLOCK (R450): A critical write erases every key and warm-resets the device with debug unlocked. -/
  | debugUnlock (q : Req) (value : Nat)
  /-- FAULT_REPORT_ACCEPT (R475): The collector accepts a source's report, sets standing bits, counts it, makes it pending and captures first and worst faults. -/
  | faultReportAccept (srcs : List (Nat × Bool)) (now : Nat)
  /-- LOG_RECORD_WRITE (R477): The collector writes the next pending source's record into the log, or discards it when the ring has no room. -/
  | logRecordWrite (now : Nat)
  /-- WIRE_FAULT (R473): Eight cycles of rail disagreement yield a report wire fault. -/
  | wireFault (src : Nat) (forced : Bool) (now : Nat)
  /-- DISAGREEMENT_SPELL (R473): A spell of rail disagreement begins and is counted. -/
  | disagreementSpell (src : Nat)
  /-- COLLECTOR_INTEGRITY (R484): A mismatch of the collector's duplicated registers is accepted as a severity-4 level report. -/
  | collectorIntegrity (offset now : Nat)
  /-- SELF_TEST_COMPLETE (R480): The collector's self-test ends, releasing FAULT_N or entering the safe state. -/
  | selfTestComplete (pass : Bool) (now : Nat)
  /-- FORCE_REPORT (R483): A force bit presents a forced report or disagreement on the source's pair. -/
  | forceReport (who : Caller) (src now : Nat)
  /-- LOG_SEL (R479): A write of FLT_LOG_SEL latches the selected record into the log words. -/
  | logSel (who : Caller) (value : Nat) (slotOk : Bool) (now : Nat)
  /-- LOG_TAIL (R479): A write of the log tail frees records up to it. -/
  | logTail (who : Caller) (value : Nat)
  /-- STANDING_CLEAR (R481): A W1C clears standing bits, undone while a level condition persists. -/
  | standingClear (who : Caller) (src mask : Nat)
  /-- FIRST_CLR (R475): Writing FIRST_CLR clears the first-fault capture. -/
  | firstClr (who : Caller)
  /-- WORST_CLR (R475): Writing WORST_CLR clears FLT_WORST. -/
  | worstClr (who : Caller)
  /-- LOST_CLR (R478): Writing LOST_CLR clears FLT_LOG_LOST. -/
  | lostClr (who : Caller)
  /-- FLT_CNT_CLR (R473): Writing CNT_CLR clears every OCC and DISC and FLT_DISC_TOTAL. -/
  | fltCntClr (who : Caller)
  /-- PACKAGE_STATE_REQUEST (R496): A requested package state is checked and starts a transition. -/
  | packageStateRequest (q : Req) (value : Nat)
  /-- PACKAGE_TRANSITION_COMPLETE (R497): A package transition completes, raising source 5 and updating the state. -/
  | packageTransitionComplete (now : Nat)
  /-- TRANSITION_OVERTIME (R497): A package transition that exceeds its bound records a fault. -/
  | transitionOvertime (now : Nat)
  /-- DOMAIN_POWER_GOOD (R489): A switched domain reaches power-good after its vote. -/
  | domainPowerGood (domain now : Nat)
  /-- DOMAIN_OFF (R492): A domain whose last vote is withdrawn isolates, latches pads and switches off. -/
  | domainOff (domain now : Nat)
  /-- POWER_GOOD_TIMEOUT (R494): A domain not at power-good within four times its bound is left off and faulted. -/
  | powerGoodTimeout (domain now : Nat)
  /-- TILE_IDLE_OFF (R491): A tile that lost its vote turns off after one whole idle stitch. -/
  | tileIdleOff (tile now : Nat)
  /-- PWR_PAD_RELEASE (R493): Firmware releases a domain's held pads after restoring its configuration. -/
  | pwrPadRelease (who : Caller) (domain : Nat) (pass : Bool) (now : Nat)
  /-- WAKE_N_LOW (R499): A low WAKE_N for at least 1 µs sets the wake latch. -/
  | wakeNLow (now : Nat)
  /-- PCIE_WAKE (R499): PERST deassertion, partner-initiated idle exit or a request sets the wake latch. -/
  | pcieWake (port now : Nat)
  /-- ETHERNET_WAKE_PATTERN (R425): A Spays wake pattern frame on an enabled port sets the wake latch. -/
  | ethernetWakePattern (port now : Nat)
  /-- POWER_SAMPLE (R501): Package power and rails are sampled every 100 µs and the mean published. -/
  | powerSample (mw : Nat) (rails : List (Option (Nat × Nat))) (now : Nat)
  /-- POWER_CAP_EXCEEDED (R501): Mean power above the cap for 10 ms, and every 100 ms after, raises the Thermal source and a shortfall. -/
  | powerCapExceeded (now : Nat)
  /-- SENSOR_SAMPLE (R524): Junction sensors are sampled and temperature faults and THERMTRIP_N raised or ended. -/
  | sensorSample (temps : List (Option Int)) (now : Nat)
  /-- REFERENCE_LOSS (R502): A reference clock is declared lost and its fault and consequences follow. -/
  | referenceLoss (clock now : Nat)
  /-- SLEEP_ENTRY_EDGE (R508): At a 32.768 kHz edge T is captured, the timebase stopped and the sleep counter zeroed. -/
  | sleepEntryEdge (now : Nat)
  /-- SLEEP_COUNT_EDGE (R508): The sleep counter counts a 32.768 kHz rising edge. -/
  | sleepCountEdge
  /-- WAKE_EDGE (R509): At a counter edge after wake the timebase restarts with T advanced by the time slept. -/
  | wakeEdge
  /-- POR_N_RISE (R513): POR_N high takes the always-on domain out of reset and samples the straps. -/
  | porNRise (straps : Nat)
  /-- POR_N_FALL (R510): POR_N low performs a cold reset of the whole device. -/
  | porNFall
  /-- AON_BROWN_OUT (R520): VDD_AON below 0.68 V holds the device in power-on reset. -/
  | aonBrownOut
  /-- WARM_RESET_REQUEST (R511): A warm reset request halts activity and resets every domain not kept. -/
  | warmResetRequest (q : Req)
  /-- COLD_RESET_REQUEST (R510): A cold reset request resets everything, the always-on domain included. -/
  | coldResetRequest (q : Req)
  /-- FIRMWARE_BOOT (R514): The boot ROM verifies and runs a firmware image, or faults when both fail. -/
  | firmwareBoot (header : Nat) (aOk bOk : Bool) (pop : Nat) (causes : List Nat) (now : Nat)
  /-- STARTUP_ENABLE (R426): After the fill completes and start is not held, firmware sets the enable bits and session admission opens. -/
  | startupEnable (now : Nat)
  /-- HANDOVER_OFFER_TIMEOUT (R220): A HANDOVER_OFFER left unanswered for 2 ms ends the handover with nothing changed, or under escalation leaves the hit to be handled as an independent failure. -/
  | handoverOfferTimeout (now : Nat)
  /-- MIRROR_STORE_EXPIRY (R198): A sequenced mirror message leaves the primary's mirror store once the mirror hold has passed since its first transmission. -/
  | mirrorStoreExpiry (slot now : Nat)
  /-- REFERENCE_RETURN (R502): A reference clock declared lost returns, ending the level of fault 0x0084 and letting the links it feeds retrain. -/
  | referenceReturn (clock now : Nat)
  /-- AON_SUPPLY_RETURN (R520): VDD_AON rises back above its brown-out level and the device exits power-on reset, sampling the straps. -/
  | aonSupplyReturn (straps : Nat)
  /-- DISAGREEMENT_END (R473): The rails of a report pair agree again, ending a wire fault's level and clearing WIRE. -/
  | disagreementEnd (src : Nat)
  /-- MEMORY_SPACE_ENABLE_WRITE (R358): A configuration write sets or clears Memory Space Enable or VF MSE, so that later requests complete with Unsupported Request, and a cleared VF MSE sends a locked TDISP interface to ERROR under R435. -/
  | memorySpaceEnableWrite (link : Nat) (vf value : Bool) (now : Nat)
  /-- VF_RESIZABLE_BAR_WRITE (R356): A write to the VF Resizable BAR capability changes the VF BAR 2 size of an instance while VF Enable is 0. -/
  | vfResizableBarWrite (link log2Mib : Nat)
  /-- PTP_LOCK_TIMEOUT (R426): Four seconds after Ethernet link-up without reaching Aligned, start-up step 7 fails and pairing is refused with reason 6. -/
  | ptpLockTimeout (now : Nat)
  /-- DRAWSTRING_FRAME_ERROR (R416): A node discards a Drawstring frame with a bad CRC, a symbol error or an oversized body, counting it in DSR_CRC_ERR_CNT without forwarding it. -/
  | drawstringFrameError
  /-- PAIR_SHARE_RESPONSE (R447): The partner's certificate chain and pair share read over the Drawstring arrive and are checked, deriving the pair key and epoch or refusing the pair with reason 3. -/
  | pairShareResponse (chainOk sigOk locked : Bool) (node epoch pin now : Nat)
  /-- ONCHIP_MEMORY_ERROR (R334): A read of a shared SRAM, management controller or Sleeve word finds a corrected error, which is counted at severity 0, or an uncorrectable error in shared SRAM or controller memory, which causes a device warm reset at severity 3. -/
  | onchipMemoryError (where_ : Nat) (corrected : Bool) (addr now : Nat)
deriving DecidableEq, Repr

end Sys2Proof
end

