-- ==== Sys2Proof/Machine/Bits.lean ====
section
/-! DEFINITION. Bit fields, byte strings and rounding, each said once (R3, R5, R6). -/
namespace Sys2Proof.Machine

/-- Field [lo+len-1:lo] of a number (R5). -/
def bits (v lo len : Nat) : Nat := v / 2 ^ lo % 2 ^ len

/-- Bit n of a number (R5). -/
def bit (v n : Nat) : Bool := v / 2 ^ n % 2 == 1

/-- `v` with field [lo+len-1:lo] replaced by `x` modulo its width. -/
def setBits (v lo len x : Nat) : Nat :=
  v % 2 ^ lo + (x % 2 ^ len) * 2 ^ lo + v / 2 ^ (lo + len) * 2 ^ (lo + len)

/-- 1 for true. -/
def b2n (b : Bool) : Nat := if b then 1 else 0

/-- The mask of the field [lo+len-1:lo]. -/
def maskOf (lo len : Nat) : Nat := (2 ^ len - 1) * 2 ^ lo

/-- Byte i of a little-endian value. -/
def byteAt (v i : Nat) : Nat := v / 256 ^ i % 256

/-- `len` bytes of a value from byte `off`, as a little-endian value. -/
def bytesAt (v off len : Nat) : Nat := v / 256 ^ off % 256 ^ len

/-- The little-endian bytes of a value. -/
def toBytes (v : Nat) : Nat → List Nat
  | 0 => []
  | n + 1 => v % 256 :: toBytes (v / 256) n

/-- The value of little-endian bytes. -/
def ofBytes : List Nat → Nat
  | [] => 0
  | b :: t => b % 256 + 256 * ofBytes t

/-- Puts `len` bytes `x` at byte `off` of a value. -/
def putBytes (v off len x : Nat) : Nat := setBits v (8 * off) (8 * len) x

/-- Rounded up quotient. -/
def ceilDiv (a b : Nat) : Nat := (a + b - 1) / b

/-- Rounded up to a multiple of `m`. -/
def alignUp (a m : Nat) : Nat := ceilDiv a m * m

/-- A count that saturates at 2^w - 1. -/
def satAdd (w a b : Nat) : Nat := min (2 ^ w - 1) (a + b)

/-- A count that wraps at 2^w. -/
def wrapAdd (w a b : Nat) : Nat := (a + b) % 2 ^ w

/-- The signed value of a w-bit pattern. -/
def signed (w v : Nat) : Int := if v % 2 ^ w < 2 ^ (w - 1) then (v % 2 ^ w : Nat) else (v % 2 ^ w : Nat) - (2 ^ w : Nat)

/-- The w-bit pattern of a signed value, modulo 2^w. -/
def unsigned (w : Nat) (i : Int) : Nat := (i % (2 ^ w : Nat)).toNat

/-- The whole stitches in T ns: floor(9 T / 2,500,000) (R6, R62). -/
def stitchesIn (ns : Nat) : Nat := 9 * ns / 2500000

/-- The first whole nanosecond at or after stitch n (R6). -/
def stitchNs (n : Nat) : Nat := ceilDiv (n * 2500000) 9

/-- Exclusive or, or and and of numbers taken as bit strings. -/
def xorN (a b : Nat) : Nat := Nat.xor a b

/-- The number of ones among the w low bits. -/
def popCount (v : Nat) : Nat → Nat
  | 0 => 0
  | w + 1 => v % 2 + popCount (v / 2) w

/-- The least k below the bound with `p k`, searched upward. -/
def leastFrom (p : Nat → Bool) : Nat → Nat → Option Nat
  | 0, _ => none
  | fuel + 1, k => if p k then some k else leastFrom p fuel (k + 1)

/-- Sum over a list. -/
def sumBy {α : Type} (f : α → Nat) (l : List α) : Nat := l.foldl (fun a x => a + f x) 0

/-- Applies `f` for each element from the left. -/
def forEach {α σ : Type} (l : List α) (f : α → σ → σ) (s : σ) : σ := l.foldl (fun a x => f x a) s

end Sys2Proof.Machine
end

