-- ==== Sys2Proof/Machine/Crc.lean ====
section
/-! DEFINITION. The two reflected CRCs of the spec: CRC-32 in the form of R144 and CRC-32C of R284. -/
namespace Sys2Proof.Machine

/-- One bit of a reflected CRC. -/
def crcBit (poly c : Nat) : Nat := if c % 2 = 1 then xorN (c / 2) poly else c / 2
/-- Eight bits. -/
def crcBits (poly c : Nat) : Nat :=
  crcBit poly (crcBit poly (crcBit poly (crcBit poly (crcBit poly (crcBit poly (crcBit poly (crcBit poly c)))))))
/-- One byte. -/
def crcByte (poly c b : Nat) : Nat := crcBits poly (xorN c (b % 256))
/-- The CRC of a list of bytes: initial value and final XOR all ones. -/
def crcOf (poly : Nat) (l : List Nat) : Nat := xorN (l.foldl (crcByte poly) 0xFFFFFFFF) 0xFFFFFFFF
/-- CRC-32 with the IEEE 802.3 polynomial (R144). -/
def crc32 (l : List Nat) : Nat := crcOf 0xEDB88320 l
/-- CRC-32C (R284). -/
def crc32c (l : List Nat) : Nat := crcOf 0x82F63B78 l

end Sys2Proof.Machine
end

