-- ==== Sys2Proof/Config.lean ====
section
/-! DEFINITION. What one device fixes (identity flash, fuses, ROM) and the free values: opaque constants, so that no
proof can rest on a number for them (logs 3 and 4). -/
namespace Sys2Proof.Config

/-- Free values: the `k`-th value the spec leaves open, below `2^w` by `freeBelow` (log 3). -/
opaque freeValue : Nat → Nat

/-- What a byte of a block holds that nothing has written since the block was handed out (R327), by its place in `mem`. -/
opaque unwritten : Nat → Nat

/-- What the random number generator draws at its `k`-th use (R259, R433). -/
opaque rng : Nat → Nat

/-- 0x1002:0, the serial number of the identity flash, 8 bytes (R403). -/
opaque serial : Nat

/-- 0x1003:0, the release of the firmware image (R403). -/
opaque firmwareRelease : Nat

/-- 0x1004:0, the release of the tile microcode ROM (R403). -/
opaque microcodeRelease : Nat

/-- 0x1006:0, the microcode signature reference of the fuses (R464, R469). -/
opaque signatureReference : Nat

/-- 0x1601:0, the certificate chain of the flash (R429, R453), as a little-endian value. -/
opaque certificateChain : Nat

/-- 0x1602:0, the measurement digest for a firmware image and a debug state (R430). -/
opaque measurementDigest : Nat → Bool → Nat

/-- 0x1A01:p, the MAC address of logical port `p` in the identity flash (R248). -/
opaque macAddress : Nat → Nat

/-- 0x1620:0, the pair share the device computes for its `k`-th handshake (R447). -/
opaque pairShare : Nat → Nat

/-- The bytes of the sequence header (AV1) or SPS that a session sends, by the settings of R148: the standards' value. -/
opaque sequenceHeader : List Nat → Nat

/-- What the standards' key derivation gives for an input key, by label: 0 the identity of a tenant root key (R437), 1 the operator
command key (R440). -/
opaque derivedKey : Nat → Nat → Nat

/-- The 44 bytes that AES-256-GCM gives for the ciphertext of a wrapped key under the wrap key of a tenant root key (R441). -/
opaque unwrapped : Nat → Nat → Nat

/-- Measurement block `i`, for a firmware image and a debug state (R430). -/
opaque measurement : Nat → Nat → Bool → Nat

/-- The ciphertext and tag of an export unit (R444): root key, entry, export number, offset, bytes, plaintext. -/
opaque exportUnit : Nat → Nat → Nat → Nat → Nat → Nat → Nat

/-- The plaintext of a segment record (R444): segment key, its 16-byte header, its ciphertext. -/
opaque segmentPlain : Nat → Nat → Nat → Nat

/-- The codec's filters across a seam (R140, R141): codec, filter parameters, the rows above, the rows below; the rows after it. -/
opaque seamFilter : Nat → List Nat → List Nat → List Nat → List Nat

/-- The codec's interpolation (R118, R121): codec, eighths of a sample to the right and down, the samples around a 16 × 16 block; the
predicted block. -/
opaque interpolate : Nat → Nat → Nat → List Nat → List Nat

/-- The SATD of a residual (R118). -/
opaque satd : List Int → Nat

/-- The 128 data bits of a word of the tile microcode ROM (R454). -/
opaque microcode : Nat → Nat

/-- A datapath condition, bit `i` of group `g`, at the `k`-th free value (R457, groups 8 to 255). -/
opaque datapath : Nat → Nat → Nat → Bool

end Sys2Proof.Config
end

