-- ==== Sys2Proof/Machine/ObjTable.lean ====
section
/-! DEFINITION. The object dictionary's table (R397 to R401, R428): every object of the chapters with its sub-indices, its
type, its lengths, its access class, its default and the range of R11's kind that its row states. Ranges that depend on
another setting are checked where the write is performed. -/
namespace Sys2Proof.Machine

/-- Types of R398. -/
inductive Ty where
  | bool | u8 | u16 | u32 | u64 | i32 | i64 | q16 | time64 | str | blob
deriving DecidableEq, Repr

/-- The type code of R398. -/
def Ty.code : Ty → Nat
  | .bool => 1 | .u8 => 2 | .u16 => 3 | .u32 => 4 | .u64 => 5 | .i32 => 6 | .i64 => 7 | .q16 => 8 | .time64 => 9
  | .str => 10 | .blob => 11

/-- Access classes of R399. -/
inductive ObjAcc where
  | ro | rw | wo | rwc
deriving DecidableEq, Repr

/-- The access code of R405. -/
def ObjAcc.code : ObjAcc → Nat
  | .ro => 1 | .rw => 2 | .wo => 3 | .rwc => 4

/-- Which sub-indices exist (R397). -/
inductive Subs where
  | zero
  | slot
  | upTo (n : Nat)
deriving DecidableEq, Repr

/-- A stated range that no other setting moves. -/
inductive Rng where
  | any
  | upTo (lo hi : Nat)
  | upToOr (lo hi or : Nat)
  | oneOf (vs : List Nat)
  | multiple (lo hi m : Nat)
  | zeroBits (lo len : Nat)
  | within (m : Nat)
deriving DecidableEq, Repr

/-- Is `v` in the range? (`within m` is for the signed 32-bit type.) -/
def Rng.has : Rng → Nat → Bool
  | .any, _ => true
  | .upTo lo hi, v => decide (lo ≤ v) && decide (v ≤ hi)
  | .upToOr lo hi w, v => (decide (lo ≤ v) && decide (v ≤ hi)) || v == w
  | .oneOf vs, v => vs.contains v
  | .multiple lo hi m, v => decide (lo ≤ v) && decide (v ≤ hi) && v % m == 0
  | .zeroBits lo len, v => bits v lo len == 0
  | .within m, v => decide ((signed 32 v).natAbs ≤ m)

/-- One row of the dictionary's table. -/
structure ObjRow where
  idx : Nat
  /-- how many consecutive indices share the row -/
  count : Nat
  subs : Subs
  ty : Ty
  lenMin : Nat
  lenMax : Nat
  acc : ObjAcc
  dflt : Nat
  rng : Rng
deriving DecidableEq, Repr

/-- A value of variable length is kept with a one above its last byte, so that its length can be read off it. -/
def varVal (len v : Nat) : Nat := v % 256 ^ len + 256 ^ len

/-- The default gate control list (R275): one entry with mask 0x7F. -/
def gateDefault : Nat := varVal 12 (1 + 277000 * 2 ^ 32 + 0x7F * 2 ^ 64)

/-- Objects 0x1000 to 0x1214. -/
def objRows0 : List ObjRow := [
  ⟨0x1000, 1, .zero, .str, 0, 32, .ro, varVal 19 1208874282181559674121974985360998760280586053, .any⟩,
  ⟨0x1001, 1, .zero, .u8, 1, 1, .ro, 177, .any⟩,
  ⟨0x1002, 1, .zero, .blob, 8, 8, .ro, 0, .any⟩,
  ⟨0x1003, 1, .zero, .u32, 4, 4, .ro, 0, .any⟩,
  ⟨0x1004, 1, .zero, .u32, 4, 4, .ro, 0, .any⟩,
  ⟨0x1005, 1, .zero, .u64, 8, 8, .ro, 63, .any⟩,
  ⟨0x1006, 1, .zero, .u32, 4, 4, .ro, 0, .any⟩,
  ⟨0x1101, 1, .zero, .u8, 1, 1, .rw, 0, .upTo 0 1⟩,
  ⟨0x1102, 1, .zero, .bool, 1, 1, .rw, 0, .upTo 0 1⟩,
  ⟨0x1103, 1, .zero, .u16, 2, 2, .rw, 400, .upTo 200 400⟩,
  ⟨0x1104, 1, .zero, .u8, 1, 1, .rw, 6, .upTo 0 16⟩,
  ⟨0x1105, 1, .zero, .u16, 2, 2, .rw, 146, .upTo 40 200⟩,
  ⟨0x1106, 1, .zero, .u8, 1, 1, .rw, 0, .any⟩,
  ⟨0x1107, 1, .zero, .u8, 1, 1, .ro, 0, .any⟩,
  ⟨0x1120, 8, .zero, .blob, 16, 16, .rw, 0, .any⟩,
  ⟨0x1128, 8, .zero, .blob, 16, 16, .rw, 0, .any⟩,
  ⟨0x1130, 1, .zero, .blob, 16, 16, .rw, 0, .any⟩,
  ⟨0x1200, 1, .zero, .u8, 1, 1, .rw, 0, .upTo 0 3⟩,
  ⟨0x1201, 1, .zero, .u8, 1, 1, .ro, 0, .any⟩,
  ⟨0x1202, 1, .zero, .u8, 1, 1, .wo, 0, .upTo 1 2⟩,
  ⟨0x1203, 1, .zero, .u16, 2, 2, .ro, 0, .any⟩,
  ⟨0x1204, 1, .zero, .q16, 4, 4, .ro, 0, .any⟩,
  ⟨0x1205, 1, .upTo 20, .q16, 4, 4, .ro, 0, .any⟩,
  ⟨0x1206, 1, .zero, .blob, 32, 32, .ro, 0, .any⟩,
  ⟨0x1207, 1, .zero, .u8, 1, 1, .ro, 0, .any⟩,
  ⟨0x1210, 1, .upTo 128, .u16, 2, 2, .ro, 0, .any⟩,
  ⟨0x1211, 1, .zero, .blob, 16, 16, .rw, 0, .any⟩,
  ⟨0x1212, 1, .zero, .u8, 1, 1, .rw, 0, .upTo 0 1⟩,
  ⟨0x1213, 1, .zero, .u8, 1, 1, .rw, 4, .upTo 0 96⟩,
  ⟨0x1214, 1, .zero, .u8, 1, 1, .rw, 31, .zeroBits 5 3⟩]

/-- Objects 0x1215 to 0x1440. -/
def objRows1 : List ObjRow := [
  ⟨0x1215, 1, .zero, .blob, 8, 8, .ro, 0, .any⟩,
  ⟨0x1300, 1, .zero, .u64, 8, 8, .ro, 0, .any⟩,
  ⟨0x1301, 1, .zero, .u8, 1, 1, .ro, 0, .any⟩,
  ⟨0x1302, 1, .zero, .i32, 4, 4, .ro, 0, .any⟩,
  ⟨0x1303, 1, .zero, .u64, 8, 8, .ro, 0, .any⟩,
  ⟨0x1310, 1, .zero, .bool, 1, 1, .rw, 1, .upTo 0 1⟩,
  ⟨0x1311, 1, .zero, .u8, 1, 1, .rw, 4, .upTo 2 15⟩,
  ⟨0x1312, 1, .zero, .q16, 4, 4, .ro, 0, .any⟩,
  ⟨0x1320, 1, .zero, .u8, 1, 1, .rw, 1, .upTo 0 2⟩,
  ⟨0x1321, 1, .zero, .u8, 1, 1, .rw, 0, .upTo 0 127⟩,
  ⟨0x1322, 1, .zero, .u8, 1, 1, .rw, 0, .upTo 0 2⟩,
  ⟨0x1323, 1, .zero, .i32, 4, 4, .rw, 37, .within 1000⟩,
  ⟨0x1324, 1, .zero, .time64, 8, 8, .wo, 0, .any⟩,
  ⟨0x1325, 1, .zero, .blob, 8, 8, .ro, 0, .any⟩,
  ⟨0x1326, 1, .zero, .bool, 1, 1, .rw, 0, .upTo 0 1⟩,
  ⟨0x1327, 1, .zero, .blob, 32, 32, .ro, 0, .any⟩,
  ⟨0x1400, 1, .zero, .bool, 1, 1, .rw, 0, .upTo 0 1⟩,
  ⟨0x1401, 1, .zero, .u8, 1, 1, .rw, 255, .upToOr 0 31 255⟩,
  ⟨0x1402, 1, .zero, .u8, 1, 1, .ro, 0, .any⟩,
  ⟨0x1403, 1, .zero, .u16, 2, 2, .rw, 48000, .upTo 1024 65535⟩,
  ⟨0x1404, 1, .zero, .blob, 20, 20, .rw, 0, .any⟩,
  ⟨0x1405, 1, .zero, .u32, 4, 4, .ro, 0, .any⟩,
  ⟨0x1406, 1, .zero, .u8, 1, 1, .rw, 4, .upTo 2 36⟩,
  ⟨0x1407, 1, .zero, .u16, 2, 2, .rw, 36, .upTo 8 360⟩,
  ⟨0x1408, 1, .zero, .u16, 2, 2, .rw, 1024, .upTo 64 32768⟩,
  ⟨0x1409, 1, .zero, .u8, 1, 1, .ro, 0, .any⟩,
  ⟨0x140B, 1, .zero, .u64, 8, 8, .ro, 0, .any⟩,
  ⟨0x140C, 1, .zero, .u8, 1, 1, .ro, 0, .any⟩,
  ⟨0x140D, 1, .zero, .blob, 32, 32, .rwc, 0, .any⟩,
  ⟨0x1440, 1, .zero, .u32, 4, 4, .rw, 0, .zeroBits 10 22⟩]

/-- Objects 0x1441 to 0x1803. -/
def objRows2 : List ObjRow := [
  ⟨0x1441, 1, .zero, .u8, 1, 1, .rw, 0, .upTo 0 8⟩,
  ⟨0x1443, 1, .zero, .u8, 1, 1, .rw, 0, .upTo 0 255⟩,
  ⟨0x1444, 1, .zero, .u16, 2, 2, .wo, 0, .any⟩,
  ⟨0x1445, 1, .zero, .u8, 1, 1, .wo, 0, .upTo 0 255⟩,
  ⟨0x1446, 1, .zero, .bool, 1, 1, .wo, 0, .upTo 1 1⟩,
  ⟨0x1447, 1, .zero, .u8, 1, 1, .ro, 0, .any⟩,
  ⟨0x1448, 1, .zero, .blob, 12, 12, .ro, 0, .any⟩,
  ⟨0x1460, 1, .upTo 8, .u8, 1, 1, .rw, 0, .upTo 0 3⟩,
  ⟨0x1500, 1, .zero, .blob, 32, 32, .ro, 0, .any⟩,
  ⟨0x1501, 1, .zero, .blob, 32, 32, .ro, 0, .any⟩,
  ⟨0x1502, 1, .zero, .blob, 16, 16, .ro, 0, .any⟩,
  ⟨0x1503, 1, .slot, .blob, 32, 32, .ro, 0, .any⟩,
  ⟨0x1504, 1, .upTo 139, .u32, 4, 4, .ro, 0, .any⟩,
  ⟨0x1505, 1, .zero, .u32, 4, 4, .rw, 1, .any⟩,
  ⟨0x1506, 1, .upTo 139, .u8, 1, 1, .wo, 0, .zeroBits 4 4⟩,
  ⟨0x1507, 1, .zero, .u8, 1, 1, .rw, 12, .zeroBits 4 4⟩,
  ⟨0x1508, 1, .zero, .u8, 1, 1, .wo, 0, .zeroBits 4 4⟩,
  ⟨0x1600, 1, .zero, .u8, 1, 1, .ro, 0, .any⟩,
  ⟨0x1601, 1, .zero, .blob, 0, 4096, .ro, 1, .any⟩,
  ⟨0x1602, 1, .zero, .blob, 48, 48, .ro, 0, .any⟩,
  ⟨0x1603, 1, .zero, .u8, 1, 1, .ro, 0, .any⟩,
  ⟨0x1610, 1, .zero, .u8, 1, 1, .rwc, 0, .upTo 1 1⟩,
  ⟨0x1611, 1, .zero, .u8, 1, 1, .rwc, 0, .upTo 1 1⟩,
  ⟨0x1612, 1, .zero, .u32, 4, 4, .ro, 0, .any⟩,
  ⟨0x1620, 1, .zero, .blob, 208, 208, .ro, 0, .any⟩,
  ⟨0x1621, 1, .zero, .blob, 48, 48, .rw, 0, .any⟩,
  ⟨0x1800, 1, .zero, .blob, 16, 16, .ro, 0, .any⟩,
  ⟨0x1801, 1, .upTo 16, .u8, 1, 1, .ro, 0, .any⟩,
  ⟨0x1802, 1, .zero, .u32, 4, 4, .ro, 0, .any⟩,
  ⟨0x1803, 1, .zero, .bool, 1, 1, .rw, 0, .upTo 0 1⟩]

/-- Objects 0x1804 to 0x1A4A. -/
def objRows3 : List ObjRow := [
  ⟨0x1804, 1, .upTo 16, .blob, 8, 8, .ro, 0, .any⟩,
  ⟨0x1810, 1, .upTo 16, .u64, 8, 8, .ro, 0, .any⟩,
  ⟨0x1811, 1, .upTo 16, .u64, 8, 8, .ro, 0, .any⟩,
  ⟨0x1812, 1, .zero, .bool, 1, 1, .rw, 1, .upTo 0 1⟩,
  ⟨0x1813, 1, .zero, .u32, 4, 4, .rw, 86400000, .upTo 1000 0xFFFFFFFF⟩,
  ⟨0x1814, 1, .zero, .u32, 4, 4, .ro, 0, .any⟩,
  ⟨0x1815, 1, .zero, .blob, 16, 16, .wo, 0, .any⟩,
  ⟨0x1816, 1, .zero, .blob, 16, 16, .ro, 0, .any⟩,
  ⟨0x1817, 1, .upTo 8, .u8, 1, 1, .ro, 5, .any⟩,
  ⟨0x1821, 1, .upTo 16, .u8, 1, 1, .wo, 0, .upTo 1 3⟩,
  ⟨0x1822, 1, .upTo 16, .blob, 48, 48, .ro, 0, .any⟩,
  ⟨0x1A00, 1, .zero, .u8, 1, 1, .rw, 5, .zeroBits 4 4⟩,
  ⟨0x1A01, 1, .upTo 8, .u64, 8, 8, .rw, 0, .any⟩,
  ⟨0x1A02, 1, .upTo 8, .u16, 2, 2, .rw, 1500, .upTo 1280 9000⟩,
  ⟨0x1A03, 1, .upTo 8, .u8, 1, 1, .ro, 0, .any⟩,
  ⟨0x1A04, 1, .upTo 8, .blob, 8, 8, .rw, 0, .any⟩,
  ⟨0x1A10, 1, .upTo 8, .blob, 4, 260, .rw, gateDefault, .any⟩,
  ⟨0x1A11, 1, .upTo 8, .blob, 4, 260, .ro, gateDefault, .any⟩,
  ⟨0x1A20, 1, .upTo 8, .blob, 256, 256, .rw, 0, .any⟩,
  ⟨0x1A30, 1, .zero, .u8, 1, 1, .rw, 0, .any⟩,
  ⟨0x1A40, 1, .zero, .u8, 1, 1, .rw, 64, .any⟩,
  ⟨0x1A41, 1, .zero, .u32, 4, 4, .rw, 0, .any⟩,
  ⟨0x1A43, 1, .zero, .u16, 2, 2, .rw, 1000, .upTo 10 60000⟩,
  ⟨0x1A44, 1, .zero, .u64, 8, 8, .rw, 0, .any⟩,
  ⟨0x1A45, 1, .zero, .u16, 2, 2, .rw, 10, .upTo 1 1000⟩,
  ⟨0x1A46, 1, .zero, .bool, 1, 1, .rw, 0, .upTo 0 1⟩,
  ⟨0x1A47, 1, .zero, .u8, 1, 1, .rw, 64, .upTo 1 128⟩,
  ⟨0x1A48, 1, .zero, .blob, 32, 32, .wo, 0, .any⟩,
  ⟨0x1A49, 1, .zero, .blob, 1024, 1024, .ro, 0, .any⟩,
  ⟨0x1A4A, 1, .zero, .blob, 8, 8, .ro, 0, .any⟩]

/-- Objects 0x1C00 to 0x2052. -/
def objRows4 : List ObjRow := [
  ⟨0x1C00, 1, .zero, .u8, 1, 1, .ro, 0, .any⟩,
  ⟨0x1C01, 1, .zero, .u8, 1, 1, .ro, 1, .any⟩,
  ⟨0x1C02, 1, .zero, .u8, 1, 1, .ro, 0, .any⟩,
  ⟨0x1C03, 1, .zero, .bool, 1, 1, .ro, 0, .any⟩,
  ⟨0x1C04, 1, .zero, .u16, 2, 2, .rw, 500, .upTo 60 10000⟩,
  ⟨0x1C05, 1, .zero, .blob, 256, 256, .ro, 256 ^ 256 - 1, .any⟩,
  ⟨0x1C06, 1, .zero, .bool, 1, 1, .rw, 0, .upTo 0 1⟩,
  ⟨0x1C07, 1, .zero, .u16, 2, 2, .rw, 4, .upTo 2 100⟩,
  ⟨0x1C08, 1, .zero, .u8, 1, 1, .rw, 0, .any⟩,
  ⟨0x2000, 1, .slot, .u8, 1, 1, .ro, 0, .any⟩,
  ⟨0x2001, 1, .slot, .u16, 2, 2, .rw, 65535, .any⟩,
  ⟨0x2002, 1, .slot, .u16, 2, 2, .rw, 0, .upTo 0 256⟩,
  ⟨0x2003, 1, .slot, .u32, 4, 4, .rw, 0, .upTo 0 153600⟩,
  ⟨0x2004, 1, .slot, .u16, 2, 2, .rw, 0, .upTo 0 16384⟩,
  ⟨0x2005, 1, .slot, .u16, 2, 2, .ro, 0, .any⟩,
  ⟨0x2006, 1, .slot, .u32, 4, 4, .ro, 0, .any⟩,
  ⟨0x2010, 1, .slot, .blob, 16, 16, .wo, 0, .any⟩,
  ⟨0x2011, 1, .slot, .blob, 20, 20, .rw, 0, .any⟩,
  ⟨0x2012, 1, .slot, .blob, 16, 16, .wo, 0, .any⟩,
  ⟨0x2013, 1, .slot, .blob, 16, 16, .ro, 0, .any⟩,
  ⟨0x2020, 16, .slot, .u32, 4, 4, .rw, 0, .any⟩,
  ⟨0x2030, 16, .slot, .u32, 4, 4, .ro, 0, .any⟩,
  ⟨0x2040, 1, .slot, .blob, 16, 16, .rw, 0, .any⟩,
  ⟨0x2041, 1, .slot, .blob, 16, 16, .rw, 0, .any⟩,
  ⟨0x2042, 1, .slot, .blob, 16, 16, .rw, 0, .any⟩,
  ⟨0x2043, 1, .slot, .blob, 16, 16, .rw, 0, .any⟩,
  ⟨0x2044, 1, .slot, .u8, 1, 1, .rw, 0, .upTo 0 15⟩,
  ⟨0x2050, 1, .slot, .blob, 16, 16, .ro, 0, .any⟩,
  ⟨0x2051, 1, .slot, .u8, 1, 1, .rwc, 0, .upTo 1 1⟩,
  ⟨0x2052, 1, .slot, .blob, 16, 16, .ro, 0, .any⟩]

/-- Objects 0x2053 to 0x3032. -/
def objRows5 : List ObjRow := [
  ⟨0x2053, 1, .slot, .u32, 4, 4, .ro, 0, .any⟩,
  ⟨0x2054, 1, .slot, .blob, 256, 256, .ro, 0, .any⟩,
  ⟨0x2060, 16, .slot, .blob, 76, 76, .rwc, 0, .any⟩,
  ⟨0x2100, 64, .slot, .blob, 32, 32, .ro, 0, .any⟩,
  ⟨0x3000, 1, .slot, .u16, 2, 2, .rw, 65535, .upToOr 0 255 65535⟩,
  ⟨0x3001, 1, .slot, .u8, 1, 1, .ro, 0, .any⟩,
  ⟨0x3002, 1, .slot, .u8, 1, 1, .ro, 0, .any⟩,
  ⟨0x3003, 1, .slot, .u8, 1, 1, .rwc, 0, .upTo 1 8⟩,
  ⟨0x3004, 1, .slot, .bool, 1, 1, .wo, 0, .upTo 1 1⟩,
  ⟨0x3005, 1, .slot, .u8, 1, 1, .ro, 0, .any⟩,
  ⟨0x3010, 1, .slot, .u8, 1, 1, .rw, 0, .upTo 0 2⟩,
  ⟨0x3011, 1, .slot, .u8, 1, 1, .rw, 0, .upTo 0 5⟩,
  ⟨0x3012, 1, .slot, .u8, 1, 1, .rw, 51, .upTo 10 63⟩,
  ⟨0x3013, 1, .slot, .u8, 1, 1, .rw, 8, .oneOf [8, 10]⟩,
  ⟨0x3014, 1, .slot, .u16, 2, 2, .rw, 1920, .multiple 320 7680 8⟩,
  ⟨0x3015, 1, .slot, .u16, 2, 2, .rw, 1080, .multiple 180 4320 2⟩,
  ⟨0x3016, 1, .slot, .u8, 1, 1, .rw, 30, .oneOf [0, 15, 20, 25, 30, 36, 40, 50, 60, 72, 75, 120, 144, 150]⟩,
  ⟨0x3017, 1, .slot, .u8, 1, 1, .rw, 0, .oneOf [0, 15, 20, 25, 30, 36, 40, 50, 60, 72, 75, 120, 144, 150]⟩,
  ⟨0x3018, 1, .slot, .u8, 1, 1, .rw, 0, .upTo 0 1⟩,
  ⟨0x3019, 1, .slot, .u8, 1, 1, .rw, 1, .upTo 0 3⟩,
  ⟨0x301A, 1, .slot, .u8, 1, 1, .rw, 0, .upTo 0 2⟩,
  ⟨0x301B, 1, .slot, .bool, 1, 1, .rw, 0, .upTo 0 1⟩,
  ⟨0x301C, 1, .slot, .u8, 1, 1, .rw, 1, .upTo 1 3⟩,
  ⟨0x301D, 1, .slot, .u8, 1, 1, .rw, 4, .upTo 0 7⟩,
  ⟨0x301E, 1, .slot, .u8, 1, 1, .rw, 0, .upTo 0 7⟩,
  ⟨0x301F, 1, .slot, .u16, 2, 2, .rw, 200, .upTo 0 2000⟩,
  ⟨0x3020, 1, .slot, .u8, 1, 1, .ro, 1, .any⟩,
  ⟨0x3030, 1, .slot, .u8, 1, 1, .rw, 2, .oneOf [2, 4]⟩,
  ⟨0x3031, 1, .slot, .bool, 1, 1, .rw, 0, .upTo 0 1⟩,
  ⟨0x3032, 1, .slot, .bool, 1, 1, .rw, 0, .upTo 0 1⟩]

/-- Objects 0x3033 to 0x3079. -/
def objRows6 : List ObjRow := [
  ⟨0x3033, 1, .slot, .u8, 1, 1, .rw, 0, .upToOr 2 255 0⟩,
  ⟨0x3034, 1, .slot, .u16, 2, 2, .rw, 48, .upTo 1 272⟩,
  ⟨0x3035, 1, .slot, .u16, 2, 2, .rw, 16, .upTo 0 271⟩,
  ⟨0x3036, 1, .slot, .u8, 1, 1, .rw, 255, .upToOr 0 7 255⟩,
  ⟨0x3040, 1, .slot, .u64, 8, 8, .ro, 18446744073709551615, .any⟩,
  ⟨0x3041, 1, .slot, .u32, 4, 4, .ro, 0, .any⟩,
  ⟨0x3042, 1, .slot, .u32, 4, 4, .ro, 0, .any⟩,
  ⟨0x3043, 1, .slot, .u32, 4, 4, .ro, 0, .any⟩,
  ⟨0x3044, 1, .slot, .u32, 4, 4, .ro, 0, .any⟩,
  ⟨0x3045, 1, .slot, .u32, 4, 4, .ro, 0, .any⟩,
  ⟨0x3046, 1, .slot, .u32, 4, 4, .ro, 0, .any⟩,
  ⟨0x3050, 1, .slot, .u8, 1, 1, .rw, 16, .upTo 2 255⟩,
  ⟨0x3051, 1, .slot, .u8, 1, 1, .ro, 0, .any⟩,
  ⟨0x3052, 1, .slot, .u32, 4, 4, .ro, 0, .any⟩,
  ⟨0x3060, 1, .slot, .u32, 4, 4, .rw, 1948822752, .zeroBits 0 4⟩,
  ⟨0x3061, 1, .slot, .u32, 4, 4, .rw, 65793, .zeroBits 25 7⟩,
  ⟨0x3062, 1, .slot, .u8, 1, 1, .rw, 8, .upTo 2 60⟩,
  ⟨0x3063, 1, .slot, .u16, 2, 2, .rw, 0, .any⟩,
  ⟨0x3064, 1, .slot, .bool, 1, 1, .wo, 0, .upTo 1 1⟩,
  ⟨0x3065, 1, .slot, .u16, 2, 2, .ro, 255, .any⟩,
  ⟨0x3070, 1, .slot, .u8, 1, 1, .rw, 0, .upTo 0 2⟩,
  ⟨0x3071, 1, .slot, .u32, 4, 4, .rw, 20000, .upTo 100 1000000⟩,
  ⟨0x3072, 1, .slot, .u32, 4, 4, .rw, 0, .upToOr 100 1000000 0⟩,
  ⟨0x3073, 1, .slot, .i32, 4, 4, .rw, 2147483647, .any⟩,
  ⟨0x3074, 1, .slot, .i32, 4, 4, .rw, 2147483647, .any⟩,
  ⟨0x3075, 1, .slot, .i32, 4, 4, .rw, 2147483647, .any⟩,
  ⟨0x3076, 1, .slot, .u16, 2, 2, .rw, 100, .upTo 10 2000⟩,
  ⟨0x3077, 1, .slot, .u8, 1, 1, .rw, 5, .upTo 0 50⟩,
  ⟨0x3078, 1, .slot, .bool, 1, 1, .rw, 1, .upTo 0 1⟩,
  ⟨0x3079, 1, .slot, .u32, 4, 4, .rw, 500, .upTo 100 1000000⟩]

/-- Objects 0x307A to 0x30D0. -/
def objRows7 : List ObjRow := [
  ⟨0x307A, 1, .slot, .u32, 4, 4, .rw, 0, .upToOr 100 1000000 0⟩,
  ⟨0x307B, 1, .slot, .u16, 2, 2, .rw, 15, .upTo 2 500⟩,
  ⟨0x307C, 1, .slot, .u16, 2, 2, .rw, 50, .upTo 5 2000⟩,
  ⟨0x307D, 1, .slot, .u8, 1, 1, .rw, 2, .upTo 0 7⟩,
  ⟨0x307E, 1, .slot, .q16, 4, 4, .rw, 131072, .upTo 0x10000 0x40000⟩,
  ⟨0x307F, 1, .slot, .q16, 4, 4, .rw, 98304, .upTo 0x10000 0x80000⟩,
  ⟨0x3080, 1, .slot, .u64, 8, 8, .rw, 1, .any⟩,
  ⟨0x3081, 1, .slot, .u64, 8, 8, .rw, 18446744073709551615, .any⟩,
  ⟨0x3082, 1, .slot, .u64, 8, 8, .rw, 18446744073709551615, .any⟩,
  ⟨0x3083, 1, .slot, .u16, 2, 2, .rw, 1000, .upTo 100 10000⟩,
  ⟨0x3084, 1, .slot, .blob, 0, 65535, .ro, 1, .any⟩,
  ⟨0x3090, 1, .slot, .u8, 1, 1, .ro, 0, .any⟩,
  ⟨0x3091, 1, .slot, .u16, 2, 2, .ro, 65535, .any⟩,
  ⟨0x30A0, 1, .slot, .u16, 2, 2, .rw, 16, .any⟩,
  ⟨0x30A1, 1, .slot, .u16, 2, 2, .rw, 240, .upTo 2 65535⟩,
  ⟨0x30A2, 1, .slot, .blob, 20, 20, .wo, 0, .any⟩,
  ⟨0x30A3, 1, .slot, .u64, 8, 8, .ro, 0, .any⟩,
  ⟨0x30A4, 1, .slot, .u64, 8, 8, .ro, 0, .any⟩,
  ⟨0x30B0, 1, .slot, .u16, 2, 2, .wo, 0, .any⟩,
  ⟨0x30B1, 1, .slot, .bool, 1, 1, .wo, 0, .upTo 1 1⟩,
  ⟨0x30B2, 1, .slot, .u16, 2, 2, .ro, 255, .any⟩,
  ⟨0x30B3, 1, .slot, .u16, 2, 2, .rw, 65535, .upToOr 0 63 65535⟩,
  ⟨0x30C0, 1, .slot, .u16, 2, 2, .rw, 300, .upTo 20 2000⟩,
  ⟨0x30C1, 1, .slot, .u16, 2, 2, .rw, 360, .upTo 36 18000⟩,
  ⟨0x30C2, 1, .slot, .u32, 4, 4, .ro, 0, .any⟩,
  ⟨0x30C3, 1, .slot, .u8, 1, 1, .rw, 96, .upTo 96 127⟩,
  ⟨0x30C4, 1, .slot, .u16, 2, 2, .rw, 1200, .upTo 200 8900⟩,
  ⟨0x30C5, 1, .slot, .str, 0, 32, .rw, 1, .any⟩,
  ⟨0x30C6, 1, .slot, .blob, 12, 12, .ro, 0, .any⟩,
  ⟨0x30D0, 1, .slot, .bool, 1, 1, .rw, 1, .upTo 0 1⟩]

/-- Objects 0x30D1 to 0x5043. -/
def objRows8 : List ObjRow := [
  ⟨0x30D1, 1, .slot, .blob, 1280, 1280, .ro, 0, .any⟩,
  ⟨0x3100, 64, .slot, .blob, 64, 64, .rw, 0, .any⟩,
  ⟨0x3140, 64, .slot, .blob, 32, 32, .rw, 0, .any⟩,
  ⟨0x3180, 64, .slot, .blob, 76, 76, .rwc, 0, .any⟩,
  ⟨0x31C0, 64, .slot, .blob, 32, 32, .ro, 0, .any⟩,
  ⟨0x4000, 1, .slot, .u8, 1, 1, .ro, 0, .any⟩,
  ⟨0x4001, 1, .slot, .u16, 2, 2, .ro, 65535, .any⟩,
  ⟨0x4002, 1, .slot, .u16, 2, 2, .ro, 65535, .any⟩,
  ⟨0x4003, 1, .slot, .u16, 2, 2, .ro, 65535, .any⟩,
  ⟨0x4004, 1, .slot, .bool, 1, 1, .ro, 0, .any⟩,
  ⟨0x4005, 1, .slot, .u32, 4, 4, .ro, 0, .any⟩,
  ⟨0x4006, 1, .slot, .u8, 1, 1, .ro, 0, .any⟩,
  ⟨0x4007, 1, .slot, .u8, 1, 1, .ro, 0, .any⟩,
  ⟨0x4008, 1, .slot, .u8, 1, 1, .ro, 0, .any⟩,
  ⟨0x4009, 1, .slot, .u8, 1, 1, .wo, 0, .upTo 1 2⟩,
  ⟨0x5010, 1, .slot, .u32, 4, 4, .ro, 0, .any⟩,
  ⟨0x5011, 1, .slot, .u32, 4, 4, .ro, 0, .any⟩,
  ⟨0x5012, 1, .slot, .u32, 4, 4, .ro, 0, .any⟩,
  ⟨0x5020, 1, .slot, .u16, 2, 2, .ro, 0, .any⟩,
  ⟨0x5021, 1, .slot, .u32, 4, 4, .ro, 0, .any⟩,
  ⟨0x5022, 1, .slot, .u32, 4, 4, .ro, 0, .any⟩,
  ⟨0x5023, 1, .slot, .u32, 4, 4, .ro, 0, .any⟩,
  ⟨0x5024, 1, .slot, .u32, 4, 4, .ro, 0, .any⟩,
  ⟨0x5025, 1, .slot, .u32, 4, 4, .ro, 0, .any⟩,
  ⟨0x5026, 1, .slot, .u32, 4, 4, .ro, 0, .any⟩,
  ⟨0x5030, 1, .slot, .u32, 4, 4, .ro, 0, .any⟩,
  ⟨0x5040, 1, .slot, .u32, 4, 4, .ro, 0, .any⟩,
  ⟨0x5041, 1, .slot, .u32, 4, 4, .ro, 0, .any⟩,
  ⟨0x5042, 1, .slot, .u32, 4, 4, .ro, 0, .any⟩,
  ⟨0x5043, 1, .slot, .u32, 4, 4, .ro, 0, .any⟩]

/-- Objects 0x5044 to 0x50C1. -/
def objRows9 : List ObjRow := [
  ⟨0x5044, 1, .slot, .u64, 8, 8, .ro, 0, .any⟩,
  ⟨0x5050, 1, .slot, .u32, 4, 4, .ro, 0, .any⟩,
  ⟨0x5051, 1, .slot, .u32, 4, 4, .ro, 0, .any⟩,
  ⟨0x5052, 1, .slot, .u32, 4, 4, .ro, 0, .any⟩,
  ⟨0x5060, 1, .slot, .u32, 4, 4, .ro, 0, .any⟩,
  ⟨0x5061, 1, .slot, .u32, 4, 4, .ro, 0, .any⟩,
  ⟨0x5062, 1, .slot, .u32, 4, 4, .ro, 0, .any⟩,
  ⟨0x5063, 1, .slot, .u32, 4, 4, .ro, 0, .any⟩,
  ⟨0x5064, 1, .slot, .u32, 4, 4, .ro, 0, .any⟩,
  ⟨0x5065, 1, .slot, .u32, 4, 4, .ro, 0, .any⟩,
  ⟨0x5066, 1, .slot, .u32, 4, 4, .ro, 0, .any⟩,
  ⟨0x5067, 1, .slot, .u32, 4, 4, .ro, 0, .any⟩,
  ⟨0x5068, 1, .slot, .blob, 512, 512, .ro, 0, .any⟩,
  ⟨0x5069, 1, .slot, .u32, 4, 4, .ro, 0, .any⟩,
  ⟨0x5080, 1, .slot, .u32, 4, 4, .ro, 0, .any⟩,
  ⟨0x5081, 1, .slot, .u32, 4, 4, .ro, 0, .any⟩,
  ⟨0x5082, 1, .slot, .u32, 4, 4, .ro, 0, .any⟩,
  ⟨0x5083, 1, .slot, .u32, 4, 4, .ro, 0, .any⟩,
  ⟨0x5084, 1, .slot, .u32, 4, 4, .ro, 0, .any⟩,
  ⟨0x5090, 1, .upTo 96, .u16, 2, 2, .ro, 0, .any⟩,
  ⟨0x5091, 1, .upTo 96, .u16, 2, 2, .ro, 0, .any⟩,
  ⟨0x5098, 1, .zero, .u32, 4, 4, .ro, 0, .any⟩,
  ⟨0x5099, 1, .zero, .u32, 4, 4, .ro, 0, .any⟩,
  ⟨0x509A, 1, .zero, .u32, 4, 4, .ro, 0, .any⟩,
  ⟨0x509B, 1, .zero, .u32, 4, 4, .ro, 0, .any⟩,
  ⟨0x50A0, 1, .slot, .u64, 8, 8, .ro, 0, .any⟩,
  ⟨0x50A1, 1, .slot, .u32, 4, 4, .ro, 0, .any⟩,
  ⟨0x50A2, 1, .slot, .u32, 4, 4, .ro, 0, .any⟩,
  ⟨0x50C0, 1, .slot, .blob, 1024, 1024, .ro, 0, .any⟩,
  ⟨0x50C1, 1, .slot, .u32, 4, 4, .ro, 0, .any⟩]

/-- Objects 0x50C2 to 0x5100. -/
def objRows10 : List ObjRow := [
  ⟨0x50C2, 1, .slot, .u32, 4, 4, .ro, 0, .any⟩,
  ⟨0x50C3, 1, .slot, .u32, 4, 4, .ro, 0, .any⟩,
  ⟨0x50C4, 1, .slot, .u32, 4, 4, .ro, 0, .any⟩,
  ⟨0x50C5, 1, .slot, .u32, 4, 4, .ro, 0, .any⟩,
  ⟨0x50D0, 1, .upTo 8, .u64, 8, 8, .ro, 0, .any⟩,
  ⟨0x50D1, 1, .upTo 8, .u64, 8, 8, .ro, 0, .any⟩,
  ⟨0x50D2, 1, .upTo 8, .u32, 4, 4, .ro, 0, .any⟩,
  ⟨0x50D3, 1, .upTo 8, .u32, 4, 4, .ro, 0, .any⟩,
  ⟨0x50D4, 1, .upTo 8, .u32, 4, 4, .ro, 0, .any⟩,
  ⟨0x50E0, 1, .upTo 2, .u64, 8, 8, .ro, 0, .any⟩,
  ⟨0x50E1, 1, .upTo 2, .u32, 4, 4, .ro, 0, .any⟩,
  ⟨0x50E2, 1, .upTo 2, .u32, 4, 4, .ro, 0, .any⟩,
  ⟨0x50E3, 1, .upTo 2, .u32, 4, 4, .ro, 0, .any⟩,
  ⟨0x50E4, 1, .upTo 2, .u32, 4, 4, .ro, 0, .any⟩,
  ⟨0x50E5, 1, .upTo 2, .u32, 4, 4, .ro, 0, .any⟩,
  ⟨0x50E6, 1, .upTo 2, .u32, 4, 4, .ro, 0, .any⟩,
  ⟨0x50E7, 1, .upTo 2, .u32, 4, 4, .ro, 0, .any⟩,
  ⟨0x50E8, 1, .upTo 2, .u32, 4, 4, .ro, 0, .any⟩,
  ⟨0x50E9, 1, .upTo 2, .u32, 4, 4, .ro, 0, .any⟩,
  ⟨0x50EA, 1, .zero, .u32, 4, 4, .ro, 0, .any⟩,
  ⟨0x50EB, 1, .upTo 2, .u32, 4, 4, .ro, 0, .any⟩,
  ⟨0x50EC, 1, .zero, .u32, 4, 4, .ro, 0, .any⟩,
  ⟨0x50ED, 1, .zero, .u32, 4, 4, .ro, 0, .any⟩,
  ⟨0x50EE, 1, .upTo 2, .u32, 4, 4, .ro, 0, .any⟩,
  ⟨0x50EF, 1, .upTo 2, .u32, 4, 4, .ro, 0, .any⟩,
  ⟨0x50F0, 1, .slot, .u32, 4, 4, .ro, 0, .any⟩,
  ⟨0x50F1, 1, .slot, .u32, 4, 4, .ro, 0, .any⟩,
  ⟨0x50F2, 1, .slot, .u32, 4, 4, .ro, 0, .any⟩,
  ⟨0x50F3, 1, .slot, .u32, 4, 4, .ro, 0, .any⟩,
  ⟨0x5100, 1, .upTo 16, .u64, 8, 8, .ro, 0, .any⟩]

/-- Objects 0x5101 to 0x5135. -/
def objRows11 : List ObjRow := [
  ⟨0x5101, 1, .upTo 16, .u32, 4, 4, .ro, 0, .any⟩,
  ⟨0x5102, 1, .upTo 16, .u32, 4, 4, .ro, 0, .any⟩,
  ⟨0x5103, 1, .upTo 16, .u32, 4, 4, .ro, 0, .any⟩,
  ⟨0x5110, 1, .slot, .u32, 4, 4, .ro, 0, .any⟩,
  ⟨0x5111, 1, .upTo 8, .u64, 8, 8, .ro, 0, .any⟩,
  ⟨0x5120, 1, .slot, .u64, 8, 8, .ro, 0, .any⟩,
  ⟨0x5121, 1, .slot, .u32, 4, 4, .ro, 0, .any⟩,
  ⟨0x5130, 1, .slot, .u32, 4, 4, .ro, 0, .any⟩,
  ⟨0x5131, 1, .slot, .u32, 4, 4, .ro, 0, .any⟩,
  ⟨0x5132, 1, .zero, .u32, 4, 4, .ro, 0, .any⟩,
  ⟨0x5133, 1, .zero, .u32, 4, 4, .ro, 0, .any⟩,
  ⟨0x5134, 1, .slot, .u32, 4, 4, .ro, 0, .any⟩,
  ⟨0x5135, 1, .zero, .u32, 4, 4, .ro, 0, .any⟩]

/-- The dictionary (R428). -/
def objRows : List ObjRow :=
  objRows0 ++ objRows1 ++ objRows2 ++ objRows3 ++ objRows4 ++ objRows5 ++ objRows6 ++ objRows7 ++ objRows8 ++ objRows9 ++ objRows10 ++ objRows11

/-- The row of an index, if an object has it (R397). -/
def objRowOf (idx : Nat) : Option ObjRow := objRows.find? fun r => decide (r.idx ≤ idx) && decide (idx < r.idx + r.count)

/-- Does the sub-index exist? (R397) -/
def ObjRow.hasSub (r : ObjRow) (sub : Nat) : Bool :=
  match r.subs with
  | .zero => sub == 0
  | .slot => decide (sub < 256)
  | .upTo n => decide (sub < n)

/-- The highest sub-index (R405). -/
def ObjRow.maxSub (r : ObjRow) : Nat :=
  match r.subs with
  | .zero => 0
  | .slot => 255
  | .upTo n => n - 1

/-- Has the object one fixed length? -/
def ObjRow.fixed (r : ObjRow) : Bool := r.lenMin == r.lenMax

/-- The length in bytes of a kept value. -/
def ObjRow.lenOf (r : ObjRow) (v : Nat) : Nat := if r.fixed then r.lenMin else (Nat.log2 v) / 8

/-- The value carried by the kept form. -/
def ObjRow.plain (r : ObjRow) (v : Nat) : Nat := if r.fixed then v else v - 256 ^ (r.lenOf v)

/-- The kept form of a payload. -/
def ObjRow.keep (r : ObjRow) (len v : Nat) : Nat := if r.fixed then v % 256 ^ r.lenMin else varVal len v

/-- The key of an object in the table of values. -/
def objKey (idx sub : Nat) : Nat := idx * 256 + sub

/-- The value of an object after cold reset (R401); those of the identity flash, the image and ROM are the device's. -/
def objDefault (idx sub : Nat) : Nat :=
  if idx = 0x1002 then Config.serial % 256 ^ 8
  else if idx = 0x1003 then Config.firmwareRelease % 2 ^ 32
  else if idx = 0x1004 then Config.microcodeRelease % 2 ^ 32
  else if idx = 0x1006 then Config.signatureReference % 2 ^ 32
  else if idx = 0x1601 then varVal 4096 Config.certificateChain
  else if idx = 0x1A01 then Config.macAddress sub % 2 ^ 48
  else
    match objRowOf idx with
    | some r => r.dflt
    | none => 0

end Sys2Proof.Machine
end

