-- ==== Sys2Proof/Machine/RegTable.lean ====
section
/-! DEFINITION. The register tables of the chapters (R8 to R12, R14, R363, R369): each register's place in the map of
the physical function, its number of copies, and the fields of it with their access and their value after cold reset.
The pages of a virtual function (R357) are listed after those of the physical function. -/
namespace Sys2Proof.Machine

/-- The access codes of R14. -/
inductive Acc where
  | ro | rw | wo | w1c | ros | rws
deriving DecidableEq, Repr

/-- A field of a register: its low bit, its width, its access and its reset value (R14). -/
structure Fld where
  lo : Nat
  len : Nat
  acc : Acc
  reset : Nat
deriving DecidableEq, Repr

/-- The registers by name (R17); a name that begins with vf is the copy of a virtual function (R357). -/
inductive Reg where
  | mbxLastErr | mbxRejectCnt | mbxStrayCnt | mbxSizeErrCnt | mbxParityLast | mbxCtrl | mbxLinkStat
  | mbxReqData | mbxReqCtrl | mbxReqStat | mbxMbLastErr | mbxRspData | mbxRspStat | irqLastErr | irqIdleHint
  | irqDoorbell | irqPrivPend | irqRoute | irqMod | tbsLastErr | tbsCtrl | tbsStat | tbsTHi | tbsTLo
  | tbsStitchCntHi | tbsStitchCntLo | tbsStitchPhase | tbsStitchSkip | tbsAdj | tbsStepHi | tbsStepLo
  | pwrLastErr | pwrCtrl | pwrStat | pwrResetReq | pwrResetCause | pwrPower | pwrPadHeld | pwrPadRelease
  | pwrSleepCntHi | pwrSleepCntLo | pwrHostVote | pwrDomStat | fltLastErr | fltCtrl | fltStat | fltFirstSrc
  | fltFirstTimeHi | fltFirstTimeLo | fltWorst | fltLogHead | fltLogTail | fltLogLost | fltLogSel
  | fltDiscTotal | fltLogWord | fltForce | fltForceCfg | fltSrcStat | dsrLastErr | dsrCtrl | dsrStat
  | dsrCrcErrCnt | dsrOpenCnt | dsrRegenCnt | secLastErr | secCtrl | secStat | secEventCnt | secEventLast
  | secSlotState | loomCtrl | loomStatus | loomCarry | loomOvrCntHi | loomOvrCntLo | loomOvrLast
  | loomOrderHold | loomLastErr | loomTileState | loomRcCtrl | loomRcStat | loomRcLimitCntHi | loomRcLimitCntLo
  | loomRcLastErr | slvCtrl | slvLastErr | slvCorrCntHi | slvCorrCntLo | slvTileStat | dmaIntakeCtrl
  | dmaHoldCtrl | dmaHoldStatus | dmaIntakeLastErr | dmaIntakeWm | dmaLastErr | dmaCtrl | dmaFifoCorrHi
  | dmaFifoCorrLo | dmaChCtrl | dmaChStat | dmaSqTail | dmaSqHead | dmaCqHead | dmaCqTail | dmaEqHead
  | dmaEqTail | dmaQLastErr | dmaEqLost | dmaQStat | pkeCtrl | pkeLastErr | pkePtpTsTag | pkePtpTsHi
  | pkePtpTsLo | pkePortStat | pkeGateDefer | pkeResHwm | pkeDepthHwm | pkeIgrCtrl | pkeIgrLastErr | pkeFlowOcc
  | pkeCmpLap | pkeCmpLapHwm | pkeCmpDivCnt | dmcLastErr | dmcChanCtrl | dmcChanStat | dmcCorrCnt | dmcTrnCtrl
  | dmcTrnSeed | dmcTrnStat | dmcPhySel | dmcPhyData | dmcTrnFail | dmcFrzCause | dmcFrzAddrHi | dmcFrzAddrLo
  | dmcFrzTimeHi | dmcFrzTimeLo | dmcFrzQsel | dmcFrzQent | dmcFrzSyn | wrdCtrl | wrdLastErr | wrdSramCorr
  | wrdHandleErr | wrdFlipCtrl | wrdFlipMask | wrdChanStat | wrdScrubLap | wrdScrubLapHwm | wrdPairStat
  | tileStatus | tileLastErr | tileCtrl | tilePc | tileSig | tileSigExp | tileSaveCnt | vfBandDb | vfDbLastErr
  | vfSqTail | vfSqHead | vfCqHead | vfCqTail | vfEqHead | vfEqTail | vfQLastErr | vfEqLost | vfQStat
  | vfIdleHint | vfIrqLastErr | vfIrqMod | vfReqData | vfReqCtrl | vfReqStat | vfMbLastErr | vfRspData
  | vfRspStat
deriving DecidableEq, Repr

/-- One row of a register table. -/
structure RegRow where
  reg : Reg
  /-- offset of copy 0: in BAR 0 of the physical function, or of a virtual function -/
  base : Nat
  stride : Nat
  count : Nat
  flds : List Fld
deriving DecidableEq, Repr

/-- Rows of the physical function, 0x00000 to 0x10010. -/
def regRows0 : List RegRow := [
  ⟨.mbxLastErr, 0x00000, 0, 1, [⟨0, 8, .ro, 0⟩, ⟨8, 8, .ro, 0⟩, ⟨16, 1, .ro, 0⟩, ⟨17, 3, .ro, 0⟩]⟩,
  ⟨.mbxRejectCnt, 0x00004, 0, 1, [⟨0, 32, .ros, 0⟩]⟩,
  ⟨.mbxStrayCnt, 0x00008, 0, 1, [⟨0, 32, .ros, 0⟩]⟩,
  ⟨.mbxSizeErrCnt, 0x0000C, 0, 1, [⟨0, 32, .ros, 0⟩]⟩,
  ⟨.mbxParityLast, 0x00010, 0, 1, [⟨0, 14, .ros, 0⟩, ⟨14, 8, .ros, 0⟩, ⟨22, 1, .ros, 0⟩, ⟨23, 1, .ro, 0⟩]⟩,
  ⟨.mbxCtrl, 0x00014, 0, 1, [⟨0, 1, .wo, 0⟩]⟩,
  ⟨.mbxLinkStat, 0x00020, 4, 4, [⟨0, 1, .ro, 0⟩, ⟨1, 1, .ro, 0⟩, ⟨2, 5, .ro, 0⟩, ⟨7, 3, .ro, 0⟩, ⟨10, 1, .ro, 0⟩, ⟨12, 9, .ro, 0⟩, ⟨21, 11, .ro, 0⟩]⟩,
  ⟨.mbxReqData, 0x01000, 4, 248, [⟨0, 32, .rw, 0⟩]⟩,
  ⟨.mbxReqCtrl, 0x013E0, 0, 1, [⟨0, 10, .rw, 0⟩, ⟨10, 1, .wo, 0⟩]⟩,
  ⟨.mbxReqStat, 0x013E4, 0, 1, [⟨0, 1, .ro, 0⟩, ⟨8, 8, .ro, 0⟩]⟩,
  ⟨.mbxMbLastErr, 0x013E8, 0, 1, [⟨0, 8, .ro, 0⟩, ⟨8, 8, .ro, 0⟩]⟩,
  ⟨.mbxRspData, 0x02000, 4, 248, [⟨0, 32, .ro, 0⟩]⟩,
  ⟨.mbxRspStat, 0x023E0, 0, 1, [⟨0, 10, .ro, 0⟩, ⟨10, 1, .ro, 0⟩, ⟨16, 8, .ro, 0⟩]⟩,
  ⟨.irqLastErr, 0x06000, 0, 1, [⟨0, 8, .ro, 0⟩, ⟨8, 8, .ro, 0⟩, ⟨16, 1, .ro, 0⟩]⟩,
  ⟨.irqIdleHint, 0x06004, 0, 1, [⟨0, 4, .rw, 0⟩]⟩,
  ⟨.irqDoorbell, 0x06008, 0, 1, [⟨0, 10, .wo, 0⟩]⟩,
  ⟨.irqPrivPend, 0x0600C, 0, 1, [⟨0, 16, .ro, 0⟩]⟩,
  ⟨.irqRoute, 0x06100, 4, 96, [⟨0, 8, .rw, 0⟩, ⟨8, 2, .rw, 0⟩, ⟨10, 1, .rw, 0⟩, ⟨12, 2, .rw, 0⟩, ⟨14, 2, .rw, 0⟩]⟩,
  ⟨.irqMod, 0x07000, 4, 256, [⟨0, 10, .rw, 0⟩, ⟨10, 8, .rw, 1⟩]⟩,
  ⟨.tbsLastErr, 0x10000, 0, 1, [⟨0, 8, .ro, 0⟩, ⟨8, 8, .ro, 0⟩]⟩,
  ⟨.tbsCtrl, 0x10004, 0, 1, [⟨0, 2, .rw, 1⟩, ⟨2, 1, .rw, 0⟩]⟩,
  ⟨.tbsStat, 0x10008, 0, 1, [⟨0, 2, .ro, 0⟩, ⟨2, 1, .ro, 0⟩]⟩,
  ⟨.tbsTHi, 0x1000C, 0, 1, [⟨0, 32, .ro, 0⟩]⟩,
  ⟨.tbsTLo, 0x10010, 0, 1, [⟨0, 32, .ro, 0⟩]⟩]

/-- Rows of the physical function, 0x10014 to 0x12010. -/
def regRows1 : List RegRow := [
  ⟨.tbsStitchCntHi, 0x10014, 0, 1, [⟨0, 32, .ro, 0⟩]⟩,
  ⟨.tbsStitchCntLo, 0x10018, 0, 1, [⟨0, 32, .ro, 0⟩]⟩,
  ⟨.tbsStitchPhase, 0x1001C, 0, 1, [⟨0, 19, .ro, 0⟩]⟩,
  ⟨.tbsStitchSkip, 0x10020, 0, 1, [⟨0, 32, .ro, 0⟩]⟩,
  ⟨.tbsAdj, 0x10024, 0, 1, [⟨0, 32, .rw, 0⟩]⟩,
  ⟨.tbsStepHi, 0x10028, 0, 1, [⟨0, 32, .rw, 0⟩]⟩,
  ⟨.tbsStepLo, 0x1002C, 0, 1, [⟨0, 32, .rw, 0⟩]⟩,
  ⟨.pwrLastErr, 0x11000, 0, 1, [⟨0, 8, .ro, 0⟩, ⟨8, 8, .ro, 0⟩]⟩,
  ⟨.pwrCtrl, 0x11004, 0, 1, [⟨0, 2, .rw, 0⟩]⟩,
  ⟨.pwrStat, 0x11008, 0, 1, [⟨0, 2, .ro, 0⟩, ⟨2, 1, .ro, 0⟩, ⟨3, 2, .ro, 0⟩, ⟨5, 1, .ro, 0⟩, ⟨6, 5, .ros, 0⟩, ⟨11, 1, .ro, 0⟩]⟩,
  ⟨.pwrResetReq, 0x1100C, 0, 1, [⟨0, 2, .wo, 0⟩]⟩,
  ⟨.pwrResetCause, 0x11010, 0, 1, [⟨0, 3, .ro, 1⟩, ⟨3, 8, .ro, 0⟩, ⟨16, 16, .ro, 0⟩]⟩,
  ⟨.pwrPower, 0x11014, 0, 1, [⟨0, 16, .ro, 0⟩]⟩,
  ⟨.pwrPadHeld, 0x11018, 0, 1, [⟨0, 21, .ro, 0⟩]⟩,
  ⟨.pwrPadRelease, 0x1101C, 0, 1, [⟨0, 21, .wo, 0⟩]⟩,
  ⟨.pwrSleepCntHi, 0x11020, 0, 1, [⟨0, 32, .ro, 0⟩]⟩,
  ⟨.pwrSleepCntLo, 0x11024, 0, 1, [⟨0, 32, .ro, 0⟩]⟩,
  ⟨.pwrHostVote, 0x11040, 4, 4, [⟨0, 32, .rw, 0⟩]⟩,
  ⟨.pwrDomStat, 0x11100, 4, 128, [⟨0, 1, .ro, 0⟩, ⟨1, 1, .ro, 0⟩, ⟨2, 1, .ro, 0⟩, ⟨3, 1, .ros, 0⟩, ⟨4, 4, .ro, 0⟩, ⟨8, 1, .ro, 0⟩, ⟨16, 16, .ros, 0⟩]⟩,
  ⟨.fltLastErr, 0x12000, 0, 1, [⟨0, 8, .ro, 0⟩, ⟨8, 8, .ro, 0⟩, ⟨16, 1, .ro, 0⟩]⟩,
  ⟨.fltCtrl, 0x12004, 0, 1, [⟨0, 4, .rws, 12⟩, ⟨4, 1, .ro, 1⟩, ⟨5, 1, .wo, 0⟩, ⟨6, 1, .wo, 0⟩, ⟨7, 1, .wo, 0⟩, ⟨8, 1, .wo, 0⟩, ⟨9, 1, .rws, 0⟩]⟩,
  ⟨.fltStat, 0x12008, 0, 1, [⟨0, 1, .ro, 0⟩, ⟨1, 1, .ro, 1⟩, ⟨2, 1, .ro, 0⟩, ⟨3, 1, .ro, 0⟩, ⟨4, 9, .ro, 0⟩, ⟨13, 8, .ro, 0⟩, ⟨21, 2, .ros, 0⟩]⟩,
  ⟨.fltFirstSrc, 0x1200C, 0, 1, [⟨0, 8, .ros, 0⟩, ⟨8, 3, .ros, 0⟩, ⟨11, 1, .ros, 0⟩, ⟨12, 1, .ros, 0⟩, ⟨16, 16, .ros, 0⟩]⟩,
  ⟨.fltFirstTimeHi, 0x12010, 0, 1, [⟨0, 32, .ros, 0⟩]⟩]

/-- Rows of the physical function, 0x12014 to 0x20000. -/
def regRows2 : List RegRow := [
  ⟨.fltFirstTimeLo, 0x12014, 0, 1, [⟨0, 32, .ros, 0⟩]⟩,
  ⟨.fltWorst, 0x12018, 0, 1, [⟨0, 8, .ros, 0⟩, ⟨8, 3, .ros, 0⟩, ⟨11, 1, .ros, 0⟩, ⟨12, 1, .ros, 0⟩, ⟨16, 16, .ros, 0⟩]⟩,
  ⟨.fltLogHead, 0x1201C, 0, 1, [⟨0, 32, .ros, 1⟩]⟩,
  ⟨.fltLogTail, 0x12020, 0, 1, [⟨0, 32, .rws, 1⟩]⟩,
  ⟨.fltLogLost, 0x12024, 0, 1, [⟨0, 24, .ros, 0⟩, ⟨24, 3, .ros, 0⟩, ⟨27, 1, .ros, 0⟩]⟩,
  ⟨.fltLogSel, 0x12028, 0, 1, [⟨0, 32, .rw, 0⟩]⟩,
  ⟨.fltDiscTotal, 0x1202C, 0, 1, [⟨0, 32, .ros, 0⟩]⟩,
  ⟨.fltLogWord, 0x12040, 4, 8, [⟨0, 32, .ro, 0⟩]⟩,
  ⟨.fltForce, 0x12080, 4, 5, [⟨0, 32, .rw, 0⟩]⟩,
  ⟨.fltForceCfg, 0x120A0, 0, 1, [⟨0, 3, .rw, 0⟩, ⟨3, 1, .rw, 0⟩, ⟨4, 4, .rw, 1⟩]⟩,
  ⟨.fltSrcStat, 0x13000, 4, 139, [⟨0, 4, .w1c, 0⟩, ⟨4, 1, .ro, 0⟩, ⟨5, 1, .ro, 0⟩, ⟨6, 1, .ro, 0⟩, ⟨7, 1, .ro, 0⟩, ⟨8, 12, .ros, 0⟩, ⟨20, 12, .ros, 0⟩]⟩,
  ⟨.dsrLastErr, 0x18000, 0, 1, [⟨0, 8, .ro, 0⟩, ⟨8, 8, .ro, 0⟩]⟩,
  ⟨.dsrCtrl, 0x18004, 0, 1, [⟨0, 1, .wo, 0⟩, ⟨1, 1, .wo, 0⟩]⟩,
  ⟨.dsrStat, 0x18008, 0, 1, [⟨0, 3, .ro, 0⟩, ⟨3, 5, .ro, 0⟩, ⟨8, 1, .ro, 0⟩, ⟨9, 5, .ro, 0⟩, ⟨14, 6, .ro, 0⟩, ⟨20, 1, .ro, 0⟩]⟩,
  ⟨.dsrCrcErrCnt, 0x1800C, 0, 1, [⟨0, 32, .ros, 0⟩]⟩,
  ⟨.dsrOpenCnt, 0x18010, 0, 1, [⟨0, 32, .ros, 0⟩]⟩,
  ⟨.dsrRegenCnt, 0x18014, 0, 1, [⟨0, 32, .ros, 0⟩]⟩,
  ⟨.secLastErr, 0x19000, 0, 1, [⟨0, 8, .ro, 0⟩, ⟨8, 8, .ro, 0⟩, ⟨16, 1, .ro, 0⟩]⟩,
  ⟨.secCtrl, 0x19004, 0, 1, [⟨0, 1, .wo, 0⟩]⟩,
  ⟨.secStat, 0x19008, 0, 1, [⟨0, 1, .ro, 0⟩, ⟨1, 1, .ro, 0⟩, ⟨2, 1, .ro, 0⟩, ⟨4, 4, .ro, 0⟩, ⟨8, 9, .ro, 0⟩]⟩,
  ⟨.secEventCnt, 0x1900C, 0, 1, [⟨0, 32, .ros, 0⟩]⟩,
  ⟨.secEventLast, 0x19010, 0, 1, [⟨0, 4, .ros, 0⟩, ⟨4, 9, .ros, 0⟩]⟩,
  ⟨.secSlotState, 0x1A000, 4, 256, [⟨0, 2, .ro, 0⟩, ⟨2, 3, .ro, 0⟩, ⟨5, 1, .ro, 0⟩, ⟨8, 16, .ro, 0⟩]⟩,
  ⟨.loomCtrl, 0x20000, 0, 1, [⟨0, 1, .rw, 0⟩, ⟨1, 1, .rw, 1⟩, ⟨2, 1, .wo, 0⟩, ⟨4, 4, .rw, 4⟩]⟩]

/-- Rows of the physical function, 0x20004 to 0x28000. -/
def regRows3 : List RegRow := [
  ⟨.loomStatus, 0x20004, 0, 1, [⟨0, 7, .ro, 0⟩, ⟨8, 7, .ro, 0⟩, ⟨16, 7, .ro, 0⟩, ⟨23, 1, .ro, 0⟩, ⟨24, 7, .ro, 0⟩]⟩,
  ⟨.loomCarry, 0x20008, 0, 1, [⟨0, 16, .ro, 0⟩, ⟨16, 16, .ros, 0⟩]⟩,
  ⟨.loomOvrCntHi, 0x2000C, 0, 1, [⟨0, 32, .ros, 0⟩]⟩,
  ⟨.loomOvrCntLo, 0x20010, 0, 1, [⟨0, 32, .ros, 0⟩]⟩,
  ⟨.loomOvrLast, 0x20014, 0, 1, [⟨0, 7, .ros, 0⟩, ⟨7, 1, .ros, 0⟩, ⟨8, 8, .ros, 0⟩, ⟨16, 1, .ros, 0⟩, ⟨17, 15, .ros, 0⟩]⟩,
  ⟨.loomOrderHold, 0x20018, 0, 1, [⟨0, 32, .ros, 0⟩]⟩,
  ⟨.loomLastErr, 0x2001C, 0, 1, [⟨0, 8, .ro, 0⟩, ⟨8, 8, .ro, 0⟩]⟩,
  ⟨.loomTileState, 0x20100, 4, 96, [⟨0, 3, .ro, 0⟩, ⟨3, 1, .ro, 0⟩, ⟨4, 8, .ro, 0⟩, ⟨12, 7, .ro, 0⟩, ⟨19, 3, .ro, 0⟩, ⟨22, 8, .ro, 250⟩]⟩,
  ⟨.loomRcCtrl, 0x21000, 0, 1, [⟨0, 9, .rw, 384⟩]⟩,
  ⟨.loomRcStat, 0x21004, 0, 1, [⟨0, 9, .ro, 0⟩, ⟨9, 1, .ro, 0⟩, ⟨16, 12, .ro, 0⟩]⟩,
  ⟨.loomRcLimitCntHi, 0x21008, 0, 1, [⟨0, 32, .ros, 0⟩]⟩,
  ⟨.loomRcLimitCntLo, 0x2100C, 0, 1, [⟨0, 32, .ros, 0⟩]⟩,
  ⟨.loomRcLastErr, 0x21010, 0, 1, [⟨0, 8, .ro, 0⟩, ⟨8, 8, .ro, 0⟩]⟩,
  ⟨.slvCtrl, 0x22000, 0, 1, [⟨0, 1, .wo, 0⟩]⟩,
  ⟨.slvLastErr, 0x22004, 0, 1, [⟨0, 8, .ro, 0⟩, ⟨8, 8, .ro, 0⟩]⟩,
  ⟨.slvCorrCntHi, 0x22008, 0, 1, [⟨0, 32, .ros, 0⟩]⟩,
  ⟨.slvCorrCntLo, 0x2200C, 0, 1, [⟨0, 32, .ros, 0⟩]⟩,
  ⟨.slvTileStat, 0x22100, 4, 96, [⟨0, 7, .ro, 0⟩, ⟨7, 1, .ro, 0⟩, ⟨8, 7, .ro, 0⟩, ⟨16, 8, .ros, 0⟩]⟩,
  ⟨.dmaIntakeCtrl, 0x23000, 0, 1, [⟨0, 1, .rw, 0⟩, ⟨1, 1, .rw, 1⟩]⟩,
  ⟨.dmaHoldCtrl, 0x23004, 0, 1, [⟨0, 8, .rw, 0⟩, ⟨8, 8, .rw, 0⟩]⟩,
  ⟨.dmaHoldStatus, 0x23008, 0, 1, [⟨0, 8, .ro, 0⟩, ⟨8, 8, .w1c, 0⟩]⟩,
  ⟨.dmaIntakeLastErr, 0x2300C, 0, 1, [⟨0, 8, .ro, 0⟩, ⟨8, 8, .ro, 0⟩, ⟨16, 1, .ro, 0⟩]⟩,
  ⟨.dmaIntakeWm, 0x24000, 4, 256, [⟨0, 9, .ro, 0⟩, ⟨9, 1, .ro, 0⟩, ⟨10, 1, .w1c, 0⟩, ⟨11, 1, .w1c, 0⟩, ⟨16, 16, .ro, 0⟩]⟩,
  ⟨.dmaLastErr, 0x28000, 0, 1, [⟨0, 8, .ro, 0⟩, ⟨8, 8, .ro, 0⟩]⟩]

/-- Rows of the physical function, 0x28004 to 0x31000. -/
def regRows4 : List RegRow := [
  ⟨.dmaCtrl, 0x28004, 0, 1, [⟨0, 1, .rw, 0⟩, ⟨1, 1, .wo, 0⟩]⟩,
  ⟨.dmaFifoCorrHi, 0x28008, 0, 1, [⟨0, 32, .ros, 0⟩]⟩,
  ⟨.dmaFifoCorrLo, 0x2800C, 0, 1, [⟨0, 32, .ros, 0⟩]⟩,
  ⟨.dmaChCtrl, 0x28100, 4, 64, [⟨0, 1, .rw, 1⟩]⟩,
  ⟨.dmaChStat, 0x28200, 4, 64, [⟨0, 1, .ro, 0⟩, ⟨1, 4, .ro, 0⟩, ⟨5, 9, .ro, 0⟩, ⟨14, 1, .ro, 0⟩, ⟨16, 16, .ro, 0⟩]⟩,
  ⟨.dmaSqTail, 0x29000, 4, 8, [⟨0, 14, .rw, 0⟩]⟩,
  ⟨.dmaSqHead, 0x29040, 4, 8, [⟨0, 14, .ro, 0⟩]⟩,
  ⟨.dmaCqHead, 0x29080, 4, 8, [⟨0, 14, .rw, 0⟩]⟩,
  ⟨.dmaCqTail, 0x290C0, 4, 8, [⟨0, 14, .ro, 0⟩]⟩,
  ⟨.dmaEqHead, 0x29100, 0, 1, [⟨0, 14, .rw, 0⟩]⟩,
  ⟨.dmaEqTail, 0x29104, 0, 1, [⟨0, 14, .ro, 0⟩]⟩,
  ⟨.dmaQLastErr, 0x29108, 0, 1, [⟨0, 8, .ro, 0⟩, ⟨8, 8, .ro, 0⟩]⟩,
  ⟨.dmaEqLost, 0x2910C, 0, 1, [⟨0, 32, .ro, 0⟩]⟩,
  ⟨.dmaQStat, 0x29110, 0, 1, [⟨0, 8, .ro, 0⟩, ⟨8, 8, .ro, 0⟩, ⟨16, 1, .w1c, 0⟩]⟩,
  ⟨.pkeCtrl, 0x30000, 0, 1, [⟨0, 1, .rw, 0⟩, ⟨1, 1, .wo, 0⟩, ⟨2, 1, .wo, 0⟩]⟩,
  ⟨.pkeLastErr, 0x30004, 0, 1, [⟨0, 8, .ro, 0⟩, ⟨8, 8, .ro, 0⟩]⟩,
  ⟨.pkePtpTsTag, 0x30008, 0, 1, [⟨0, 3, .ro, 0⟩, ⟨3, 1, .ro, 0⟩, ⟨4, 4, .ro, 0⟩, ⟨8, 16, .ro, 0⟩, ⟨24, 7, .ros, 0⟩]⟩,
  ⟨.pkePtpTsHi, 0x3000C, 0, 1, [⟨0, 32, .ro, 0⟩]⟩,
  ⟨.pkePtpTsLo, 0x30010, 0, 1, [⟨0, 32, .ro, 0⟩]⟩,
  ⟨.pkePortStat, 0x30020, 4, 8, [⟨0, 1, .ro, 0⟩, ⟨1, 1, .ro, 0⟩, ⟨2, 2, .ro, 0⟩, ⟨4, 1, .ro, 0⟩, ⟨5, 1, .ro, 1⟩, ⟨8, 8, .ros, 0⟩]⟩,
  ⟨.pkeGateDefer, 0x30040, 4, 8, [⟨0, 32, .ros, 0⟩]⟩,
  ⟨.pkeResHwm, 0x30100, 4, 64, [⟨0, 24, .ros, 0⟩]⟩,
  ⟨.pkeDepthHwm, 0x30200, 4, 64, [⟨0, 16, .ros, 0⟩]⟩,
  ⟨.pkeIgrCtrl, 0x31000, 0, 1, [⟨0, 1, .rw, 0⟩, ⟨1, 1, .wo, 0⟩]⟩]

/-- Rows of the physical function, 0x31004 to 0x42000. -/
def regRows5 : List RegRow := [
  ⟨.pkeIgrLastErr, 0x31004, 0, 1, [⟨0, 8, .ro, 0⟩, ⟨8, 8, .ro, 0⟩]⟩,
  ⟨.pkeFlowOcc, 0x31008, 4, 2, [⟨0, 16, .ro, 0⟩, ⟨16, 4, .ro, 0⟩, ⟨20, 12, .ro, 0⟩]⟩,
  ⟨.pkeCmpLap, 0x31010, 0, 1, [⟨0, 24, .ro, 0⟩]⟩,
  ⟨.pkeCmpLapHwm, 0x31014, 0, 1, [⟨0, 24, .ros, 0⟩]⟩,
  ⟨.pkeCmpDivCnt, 0x31018, 0, 1, [⟨0, 32, .ros, 0⟩]⟩,
  ⟨.dmcLastErr, 0x40000, 0, 1, [⟨0, 8, .ro, 0⟩, ⟨8, 8, .ro, 0⟩, ⟨16, 1, .ro, 0⟩]⟩,
  ⟨.dmcChanCtrl, 0x40040, 4, 16, [⟨0, 2, .wo, 0⟩, ⟨2, 1, .wo, 0⟩, ⟨3, 1, .wo, 0⟩]⟩,
  ⟨.dmcChanStat, 0x40080, 4, 16, [⟨0, 3, .ro, 0⟩, ⟨3, 1, .ros, 0⟩, ⟨4, 1, .ro, 0⟩, ⟨5, 1, .ro, 0⟩, ⟨6, 1, .ro, 0⟩, ⟨8, 8, .ro, 0⟩]⟩,
  ⟨.dmcCorrCnt, 0x400C0, 4, 16, [⟨0, 32, .ros, 0⟩]⟩,
  ⟨.dmcTrnCtrl, 0x40100, 4, 16, [⟨0, 3, .rw, 0⟩, ⟨3, 3, .rw, 0⟩, ⟨6, 3, .rw, 0⟩, ⟨9, 2, .rw, 3⟩, ⟨11, 1, .wo, 0⟩, ⟨12, 1, .wo, 0⟩, ⟨13, 15, .rw, 0⟩]⟩,
  ⟨.dmcTrnSeed, 0x40140, 4, 16, [⟨0, 31, .rw, 1⟩]⟩,
  ⟨.dmcTrnStat, 0x40180, 4, 16, [⟨0, 1, .ro, 0⟩, ⟨1, 1, .ro, 0⟩, ⟨16, 16, .ro, 0⟩]⟩,
  ⟨.dmcPhySel, 0x401C0, 4, 16, [⟨0, 8, .rw, 0⟩, ⟨8, 7, .rw, 0⟩, ⟨16, 3, .rw, 0⟩]⟩,
  ⟨.dmcPhyData, 0x40200, 4, 16, [⟨0, 16, .rw, 0⟩]⟩,
  ⟨.dmcTrnFail, 0x40240, 4, 48, [⟨0, 32, .ro, 0⟩]⟩,
  ⟨.dmcFrzCause, 0x41000, 4, 16, [⟨0, 3, .ros, 0⟩, ⟨3, 1, .ros, 0⟩, ⟨4, 1, .ros, 0⟩, ⟨5, 1, .ros, 0⟩, ⟨8, 7, .ros, 0⟩, ⟨16, 8, .ros, 0⟩]⟩,
  ⟨.dmcFrzAddrHi, 0x41040, 4, 16, [⟨0, 32, .ros, 0⟩]⟩,
  ⟨.dmcFrzAddrLo, 0x41080, 4, 16, [⟨0, 32, .ros, 0⟩]⟩,
  ⟨.dmcFrzTimeHi, 0x410C0, 4, 16, [⟨0, 32, .ros, 0⟩]⟩,
  ⟨.dmcFrzTimeLo, 0x41100, 4, 16, [⟨0, 32, .ros, 0⟩]⟩,
  ⟨.dmcFrzQsel, 0x41140, 4, 16, [⟨0, 6, .rw, 0⟩]⟩,
  ⟨.dmcFrzQent, 0x41180, 4, 16, [⟨0, 29, .ros, 0⟩, ⟨29, 1, .ros, 0⟩, ⟨30, 1, .ros, 0⟩, ⟨31, 1, .ros, 0⟩]⟩,
  ⟨.dmcFrzSyn, 0x41200, 4, 64, [⟨0, 32, .ros, 0⟩]⟩,
  ⟨.wrdCtrl, 0x42000, 0, 1, [⟨0, 1, .rw, 1⟩, ⟨1, 1, .wo, 0⟩, ⟨2, 1, .wo, 0⟩]⟩]

/-- Rows of the physical function, 0x42004 to 0x100018. -/
def regRows6 : List RegRow := [
  ⟨.wrdLastErr, 0x42004, 0, 1, [⟨0, 8, .ro, 0⟩, ⟨8, 8, .ro, 0⟩]⟩,
  ⟨.wrdSramCorr, 0x42008, 0, 1, [⟨0, 32, .ros, 0⟩]⟩,
  ⟨.wrdHandleErr, 0x4200C, 0, 1, [⟨0, 32, .ros, 0⟩]⟩,
  ⟨.wrdFlipCtrl, 0x42010, 4, 4, [⟨0, 1, .rw, 0⟩, ⟨1, 1, .rw, 0⟩, ⟨2, 10, .rw, 0⟩, ⟨12, 7, .rw, 0⟩]⟩,
  ⟨.wrdFlipMask, 0x42020, 4, 4, [⟨0, 16, .rw, 0⟩]⟩,
  ⟨.wrdChanStat, 0x42040, 4, 16, [⟨0, 2, .ros, 0⟩, ⟨2, 7, .ro, 0⟩, ⟨9, 1, .ro, 0⟩, ⟨10, 1, .ros, 0⟩, ⟨16, 8, .ros, 0⟩]⟩,
  ⟨.wrdScrubLap, 0x42080, 4, 16, [⟨0, 32, .ro, 0⟩]⟩,
  ⟨.wrdScrubLapHwm, 0x420C0, 4, 16, [⟨0, 32, .ros, 0⟩]⟩,
  ⟨.wrdPairStat, 0x42100, 4, 8, [⟨0, 3, .ro, 5⟩, ⟨3, 7, .ro, 0⟩, ⟨16, 16, .ros, 0⟩]⟩,
  ⟨.tileStatus, 0x100000, 4096, 96, [⟨0, 2, .ro, 0⟩, ⟨2, 1, .ro, 0⟩, ⟨3, 1, .ro, 0⟩, ⟨4, 4, .ro, 0⟩, ⟨8, 1, .ro, 0⟩, ⟨16, 16, .ros, 0⟩]⟩,
  ⟨.tileLastErr, 0x100004, 4096, 96, [⟨0, 8, .ro, 0⟩, ⟨8, 8, .ro, 0⟩]⟩,
  ⟨.tileCtrl, 0x100008, 4096, 96, [⟨0, 1, .wo, 0⟩]⟩,
  ⟨.tilePc, 0x10000C, 4096, 96, [⟨0, 14, .ro, 0⟩, ⟨14, 3, .ro, 0⟩]⟩,
  ⟨.tileSig, 0x100010, 4096, 96, [⟨0, 32, .ro, 0⟩]⟩,
  ⟨.tileSigExp, 0x100014, 4096, 96, [⟨0, 32, .ro, 0⟩]⟩,
  ⟨.tileSaveCnt, 0x100018, 4096, 96, [⟨0, 16, .ros, 0⟩, ⟨16, 16, .ros, 0⟩]⟩]

/-- The register map of the physical function (R369). -/
def regRows : List RegRow :=
  regRows0 ++ regRows1 ++ regRows2 ++ regRows3 ++ regRows4 ++ regRows5 ++ regRows6

/-- The register pages of a virtual function (R357). -/
def vfRegRows : List RegRow := [
  ⟨.vfBandDb, 0x00000, 0, 1, [⟨0, 8, .wo, 0⟩, ⟨8, 7, .wo, 0⟩, ⟨16, 8, .wo, 0⟩, ⟨24, 1, .wo, 0⟩, ⟨25, 1, .wo, 0⟩]⟩,
  ⟨.vfDbLastErr, 0x00004, 0, 1, [⟨0, 8, .ro, 0⟩, ⟨8, 8, .ro, 0⟩, ⟨16, 7, .ro, 0⟩, ⟨23, 8, .ro, 0⟩]⟩,
  ⟨.vfSqTail, 0x01000, 4, 2, [⟨0, 14, .rw, 0⟩]⟩,
  ⟨.vfSqHead, 0x01040, 4, 2, [⟨0, 14, .ro, 0⟩]⟩,
  ⟨.vfCqHead, 0x01080, 0, 1, [⟨0, 14, .rw, 0⟩]⟩,
  ⟨.vfCqTail, 0x010C0, 0, 1, [⟨0, 14, .ro, 0⟩]⟩,
  ⟨.vfEqHead, 0x01100, 0, 1, [⟨0, 14, .rw, 0⟩]⟩,
  ⟨.vfEqTail, 0x01104, 0, 1, [⟨0, 14, .ro, 0⟩]⟩,
  ⟨.vfQLastErr, 0x01108, 0, 1, [⟨0, 8, .ro, 0⟩, ⟨8, 8, .ro, 0⟩]⟩,
  ⟨.vfEqLost, 0x0110C, 0, 1, [⟨0, 32, .ro, 0⟩]⟩,
  ⟨.vfQStat, 0x01110, 0, 1, [⟨0, 8, .ro, 0⟩, ⟨8, 8, .ro, 0⟩, ⟨16, 1, .w1c, 0⟩]⟩,
  ⟨.vfIdleHint, 0x02000, 0, 1, [⟨0, 4, .rw, 0⟩]⟩,
  ⟨.vfIrqLastErr, 0x02004, 0, 1, [⟨0, 8, .ro, 0⟩, ⟨8, 8, .ro, 0⟩]⟩,
  ⟨.vfIrqMod, 0x02100, 4, 16, [⟨0, 10, .rw, 0⟩, ⟨10, 8, .rw, 1⟩]⟩,
  ⟨.vfReqData, 0x03000, 4, 248, [⟨0, 32, .rw, 0⟩]⟩,
  ⟨.vfReqCtrl, 0x033E0, 0, 1, [⟨0, 10, .rw, 0⟩, ⟨10, 1, .wo, 0⟩]⟩,
  ⟨.vfReqStat, 0x033E4, 0, 1, [⟨0, 1, .ro, 0⟩, ⟨8, 8, .ro, 0⟩]⟩,
  ⟨.vfMbLastErr, 0x033E8, 0, 1, [⟨0, 8, .ro, 0⟩, ⟨8, 8, .ro, 0⟩]⟩,
  ⟨.vfRspData, 0x04000, 4, 248, [⟨0, 32, .ro, 0⟩]⟩,
  ⟨.vfRspStat, 0x043E0, 0, 1, [⟨0, 10, .ro, 0⟩, ⟨10, 1, .ro, 0⟩, ⟨16, 8, .ro, 0⟩]⟩]

/-- The offset of copy 0 of a register. -/
def Reg.base : Reg → Nat
  | .mbxLastErr => 0x00000
  | .mbxRejectCnt => 0x00004
  | .mbxStrayCnt => 0x00008
  | .mbxSizeErrCnt => 0x0000C
  | .mbxParityLast => 0x00010
  | .mbxCtrl => 0x00014
  | .mbxLinkStat => 0x00020
  | .mbxReqData => 0x01000
  | .mbxReqCtrl => 0x013E0
  | .mbxReqStat => 0x013E4
  | .mbxMbLastErr => 0x013E8
  | .mbxRspData => 0x02000
  | .mbxRspStat => 0x023E0
  | .irqLastErr => 0x06000
  | .irqIdleHint => 0x06004
  | .irqDoorbell => 0x06008
  | .irqPrivPend => 0x0600C
  | .irqRoute => 0x06100
  | .irqMod => 0x07000
  | .tbsLastErr => 0x10000
  | .tbsCtrl => 0x10004
  | .tbsStat => 0x10008
  | .tbsTHi => 0x1000C
  | .tbsTLo => 0x10010
  | .tbsStitchCntHi => 0x10014
  | .tbsStitchCntLo => 0x10018
  | .tbsStitchPhase => 0x1001C
  | .tbsStitchSkip => 0x10020
  | .tbsAdj => 0x10024
  | .tbsStepHi => 0x10028
  | .tbsStepLo => 0x1002C
  | .pwrLastErr => 0x11000
  | .pwrCtrl => 0x11004
  | .pwrStat => 0x11008
  | .pwrResetReq => 0x1100C
  | .pwrResetCause => 0x11010
  | .pwrPower => 0x11014
  | .pwrPadHeld => 0x11018
  | .pwrPadRelease => 0x1101C
  | .pwrSleepCntHi => 0x11020
  | .pwrSleepCntLo => 0x11024
  | .pwrHostVote => 0x11040
  | .pwrDomStat => 0x11100
  | .fltLastErr => 0x12000
  | .fltCtrl => 0x12004
  | .fltStat => 0x12008
  | .fltFirstSrc => 0x1200C
  | .fltFirstTimeHi => 0x12010
  | .fltFirstTimeLo => 0x12014
  | .fltWorst => 0x12018
  | .fltLogHead => 0x1201C
  | .fltLogTail => 0x12020
  | .fltLogLost => 0x12024
  | .fltLogSel => 0x12028
  | .fltDiscTotal => 0x1202C
  | .fltLogWord => 0x12040
  | .fltForce => 0x12080
  | .fltForceCfg => 0x120A0
  | .fltSrcStat => 0x13000
  | .dsrLastErr => 0x18000
  | .dsrCtrl => 0x18004
  | .dsrStat => 0x18008
  | .dsrCrcErrCnt => 0x1800C
  | .dsrOpenCnt => 0x18010
  | .dsrRegenCnt => 0x18014
  | .secLastErr => 0x19000
  | .secCtrl => 0x19004
  | .secStat => 0x19008
  | .secEventCnt => 0x1900C
  | .secEventLast => 0x19010
  | .secSlotState => 0x1A000
  | .loomCtrl => 0x20000
  | .loomStatus => 0x20004
  | .loomCarry => 0x20008
  | .loomOvrCntHi => 0x2000C
  | .loomOvrCntLo => 0x20010
  | .loomOvrLast => 0x20014
  | .loomOrderHold => 0x20018
  | .loomLastErr => 0x2001C
  | .loomTileState => 0x20100
  | .loomRcCtrl => 0x21000
  | .loomRcStat => 0x21004
  | .loomRcLimitCntHi => 0x21008
  | .loomRcLimitCntLo => 0x2100C
  | .loomRcLastErr => 0x21010
  | .slvCtrl => 0x22000
  | .slvLastErr => 0x22004
  | .slvCorrCntHi => 0x22008
  | .slvCorrCntLo => 0x2200C
  | .slvTileStat => 0x22100
  | .dmaIntakeCtrl => 0x23000
  | .dmaHoldCtrl => 0x23004
  | .dmaHoldStatus => 0x23008
  | .dmaIntakeLastErr => 0x2300C
  | .dmaIntakeWm => 0x24000
  | .dmaLastErr => 0x28000
  | .dmaCtrl => 0x28004
  | .dmaFifoCorrHi => 0x28008
  | .dmaFifoCorrLo => 0x2800C
  | .dmaChCtrl => 0x28100
  | .dmaChStat => 0x28200
  | .dmaSqTail => 0x29000
  | .dmaSqHead => 0x29040
  | .dmaCqHead => 0x29080
  | .dmaCqTail => 0x290C0
  | .dmaEqHead => 0x29100
  | .dmaEqTail => 0x29104
  | .dmaQLastErr => 0x29108
  | .dmaEqLost => 0x2910C
  | .dmaQStat => 0x29110
  | .pkeCtrl => 0x30000
  | .pkeLastErr => 0x30004
  | .pkePtpTsTag => 0x30008
  | .pkePtpTsHi => 0x3000C
  | .pkePtpTsLo => 0x30010
  | .pkePortStat => 0x30020
  | .pkeGateDefer => 0x30040
  | .pkeResHwm => 0x30100
  | .pkeDepthHwm => 0x30200
  | .pkeIgrCtrl => 0x31000
  | .pkeIgrLastErr => 0x31004
  | .pkeFlowOcc => 0x31008
  | .pkeCmpLap => 0x31010
  | .pkeCmpLapHwm => 0x31014
  | .pkeCmpDivCnt => 0x31018
  | .dmcLastErr => 0x40000
  | .dmcChanCtrl => 0x40040
  | .dmcChanStat => 0x40080
  | .dmcCorrCnt => 0x400C0
  | .dmcTrnCtrl => 0x40100
  | .dmcTrnSeed => 0x40140
  | .dmcTrnStat => 0x40180
  | .dmcPhySel => 0x401C0
  | .dmcPhyData => 0x40200
  | .dmcTrnFail => 0x40240
  | .dmcFrzCause => 0x41000
  | .dmcFrzAddrHi => 0x41040
  | .dmcFrzAddrLo => 0x41080
  | .dmcFrzTimeHi => 0x410C0
  | .dmcFrzTimeLo => 0x41100
  | .dmcFrzQsel => 0x41140
  | .dmcFrzQent => 0x41180
  | .dmcFrzSyn => 0x41200
  | .wrdCtrl => 0x42000
  | .wrdLastErr => 0x42004
  | .wrdSramCorr => 0x42008
  | .wrdHandleErr => 0x4200C
  | .wrdFlipCtrl => 0x42010
  | .wrdFlipMask => 0x42020
  | .wrdChanStat => 0x42040
  | .wrdScrubLap => 0x42080
  | .wrdScrubLapHwm => 0x420C0
  | .wrdPairStat => 0x42100
  | .tileStatus => 0x100000
  | .tileLastErr => 0x100004
  | .tileCtrl => 0x100008
  | .tilePc => 0x10000C
  | .tileSig => 0x100010
  | .tileSigExp => 0x100014
  | .tileSaveCnt => 0x100018
  | .vfBandDb => 0x00000
  | .vfDbLastErr => 0x00004
  | .vfSqTail => 0x01000
  | .vfSqHead => 0x01040
  | .vfCqHead => 0x01080
  | .vfCqTail => 0x010C0
  | .vfEqHead => 0x01100
  | .vfEqTail => 0x01104
  | .vfQLastErr => 0x01108
  | .vfEqLost => 0x0110C
  | .vfQStat => 0x01110
  | .vfIdleHint => 0x02000
  | .vfIrqLastErr => 0x02004
  | .vfIrqMod => 0x02100
  | .vfReqData => 0x03000
  | .vfReqCtrl => 0x033E0
  | .vfReqStat => 0x033E4
  | .vfMbLastErr => 0x033E8
  | .vfRspData => 0x04000
  | .vfRspStat => 0x043E0

/-- The distance between the copies of a register. -/
def Reg.stride : Reg → Nat
  | .mbxLinkStat => 4
  | .mbxReqData => 4
  | .mbxRspData => 4
  | .irqRoute => 4
  | .irqMod => 4
  | .pwrHostVote => 4
  | .pwrDomStat => 4
  | .fltLogWord => 4
  | .fltForce => 4
  | .fltSrcStat => 4
  | .secSlotState => 4
  | .loomTileState => 4
  | .slvTileStat => 4
  | .dmaIntakeWm => 4
  | .dmaChCtrl => 4
  | .dmaChStat => 4
  | .dmaSqTail => 4
  | .dmaSqHead => 4
  | .dmaCqHead => 4
  | .dmaCqTail => 4
  | .pkePortStat => 4
  | .pkeGateDefer => 4
  | .pkeResHwm => 4
  | .pkeDepthHwm => 4
  | .pkeFlowOcc => 4
  | .dmcChanCtrl => 4
  | .dmcChanStat => 4
  | .dmcCorrCnt => 4
  | .dmcTrnCtrl => 4
  | .dmcTrnSeed => 4
  | .dmcTrnStat => 4
  | .dmcPhySel => 4
  | .dmcPhyData => 4
  | .dmcTrnFail => 4
  | .dmcFrzCause => 4
  | .dmcFrzAddrHi => 4
  | .dmcFrzAddrLo => 4
  | .dmcFrzTimeHi => 4
  | .dmcFrzTimeLo => 4
  | .dmcFrzQsel => 4
  | .dmcFrzQent => 4
  | .dmcFrzSyn => 4
  | .wrdFlipCtrl => 4
  | .wrdFlipMask => 4
  | .wrdChanStat => 4
  | .wrdScrubLap => 4
  | .wrdScrubLapHwm => 4
  | .wrdPairStat => 4
  | .tileStatus => 4096
  | .tileLastErr => 4096
  | .tileCtrl => 4096
  | .tilePc => 4096
  | .tileSig => 4096
  | .tileSigExp => 4096
  | .tileSaveCnt => 4096
  | .vfSqTail => 4
  | .vfSqHead => 4
  | .vfIrqMod => 4
  | .vfReqData => 4
  | .vfRspData => 4
  | _ => 0

/-- Where the registers of tenant `t`'s virtual function are kept in the one register file of the model. -/
def vfKey (t off : Nat) : Nat := 0x4000000 * (1 + t) + off

/-- The place of copy `i` of a register of the physical function. -/
def Reg.at (r : Reg) (i : Nat) : Nat := r.base + r.stride * i

/-- The place of copy `i` of a register of tenant `t`'s virtual function. -/
def Reg.vfAt (r : Reg) (t i : Nat) : Nat := vfKey t (r.base + r.stride * i)

/-- Does a row hold plain offset `off`? -/
def RegRow.holds (r : RegRow) (off : Nat) : Bool :=
  if r.stride = 0 then off == r.base
  else decide (r.base ≤ off) && decide (off < r.base + r.stride * r.count) && (off - r.base) % r.stride == 0

/-- The row and copy of the register a plain offset decodes to (R363); none where the page holds no register. -/
def regRowOf (off : Nat) : Option (RegRow × Nat) :=
  if off < 0x4000000 then
    match regRows.find? (·.holds off) with
    | some r => some (r, if r.stride = 0 then 0 else (off - r.base) / r.stride)
    | none => none
  else
    match vfRegRows.find? (·.holds (off % 0x4000000)) with
    | some r => some (r, if r.stride = 0 then 0 else (off % 0x4000000 - r.base) / r.stride)
    | none => none

/-- The value of a register's fields after cold reset (R14). -/
def RegRow.reset (r : RegRow) : Nat := r.flds.foldl (fun a f => a + f.reset * 2 ^ f.lo) 0

/-- The reset value at a place of the register file; 0 where no register is. -/
def regReset (key : Nat) : Nat :=
  match regRowOf key with
  | some (r, _) => r.reset
  | none => 0

/-- Where the pages of the physical function that hold registers begin (R369). -/
def regPages : List Nat :=
  [0x00000, 0x01000, 0x02000, 0x06000, 0x07000, 0x10000, 0x11000, 0x12000, 0x13000, 0x14000, 0x15000, 0x18000,
   0x19000, 0x1A000, 0x20000, 0x21000, 0x22000, 0x23000, 0x24000, 0x28000, 0x29000, 0x2A000, 0x2B000, 0x2C000,
   0x2D000, 0x2E000, 0x2F000, 0x30000, 0x31000, 0x40000, 0x41000, 0x42000]

/-- Is `off` of BAR 0 of the physical function in a page that R369 lists? -/
def isPfPage (off : Nat) : Bool :=
  regPages.contains (off / 4096 * 4096) || off / 4096 == 4 || off / 4096 == 5 ||
    (decide (0x100000 ≤ off) && decide (off < 0x160000))

/-- Is `off` of BAR 0 of a virtual function in a page that R357 lists? -/
def isVfPage (off : Nat) : Bool :=
  decide (off < 0x5000) || off / 4096 == 8 || off / 4096 == 9

/-- The plain offset and the view (0 plain, 1 set, 2 clear, 3 toggle) of an access (R9). -/
def plainOf (off : Nat) : Nat := off / 4096 * 4096 + off % 1024
/-- The view of an access, offset bits [11:10] (R9, R363). -/
def viewOf (off : Nat) : Nat := off % 4096 / 1024

end Sys2Proof.Machine
end

