-- ==== Sys2Proof/Machine/Tab.lean ====
section
/-! DEFINITION. Sparse tables: a list of (key, value) pairs in one canonical form, keys strictly rising and no value
equal to the one an unlisted key reads as. Equal tables are equal data. Memory, the object dictionary, the register
file and every array of units (sessions, tiles, channels) are held so. -/
namespace Sys2Proof.Machine

/-- A sparse table. -/
abbrev Tab (α : Type) := List (Nat × α)

/-- The value listed for `k`, if one is. -/
def tabFind {α : Type} : Tab α → Nat → Option α
  | [], _ => none
  | (j, v) :: t, k => if j = k then some v else if k < j then none else tabFind t k

/-- The value at `k`; an unlisted key reads as `dflt`. -/
def tabGet {α : Type} (dflt : α) (t : Tab α) (k : Nat) : α := (tabFind t k).getD dflt

/-- Lists `v` at `k`, whatever it is. -/
def tabSet {α : Type} : Tab α → Nat → α → Tab α
  | [], k, v => [(k, v)]
  | (j, w) :: t, k, v =>
    if j = k then (k, v) :: t else if k < j then (k, v) :: (j, w) :: t else (j, w) :: tabSet t k v

/-- Takes `k` off the list. -/
def tabErase {α : Type} : Tab α → Nat → Tab α
  | [], _ => []
  | (j, w) :: t, k => if j = k then t else if k < j then (j, w) :: t else (j, w) :: tabErase t k

/-- The value at `k` becomes `v`; the default is never listed. -/
def tabPut {α : Type} [DecidableEq α] (dflt : α) (t : Tab α) (k : Nat) (v : α) : Tab α :=
  if v = dflt then tabErase t k else tabSet t k v

/-- Every listed key is above `k`. -/
def tabAbove {α : Type} (k : Nat) : Tab α → Bool
  | [] => true
  | (j, _) :: t => decide (k < j) && tabAbove k t

/-- The canonical form: keys strictly rising, no entry the default. -/
def tabWf {α : Type} [DecidableEq α] (dflt : α) : Tab α → Bool
  | [] => true
  | (j, v) :: t => tabAbove j t && decide (v ≠ dflt) && tabWf dflt t

/-- The keys listed. -/
def tabKeys {α : Type} (t : Tab α) : List Nat := t.map Prod.fst

/-- Changes the value at `k` by `f`. -/
def tabUpd {α : Type} [DecidableEq α] (dflt : α) (t : Tab α) (k : Nat) (f : α → α) : Tab α :=
  tabPut dflt t k (f (tabGet dflt t k))

/-- Drops every entry whose key fails `p`. -/
def tabFilter {α : Type} (p : Nat → Bool) (t : Tab α) : Tab α := t.filter fun e => p e.1

end Sys2Proof.Machine
end

