-- ==== Sys2Proof/Machine/State.lean ====
section
/-! DEFINITION. Everything the spec gives the block, as plain data: one structure for each unit, sparse tables for arrays
of units, the register file, the object dictionary, and the queue of waiting commands. INVENTORY.md lists each piece
with its rule. -/
namespace Sys2Proof.Machine

/-- Why a step of the model stops. -/
inductive Fault where
  /-- Raised by every meaning whose command names a unit that the spec says does not exist (a tile above 95, a slot above
  255). Safe: the machine stops where the hardware has no such event. -/
  | noSuchUnit
deriving DecidableEq, Repr

/-- Why a command has no meaning. -/
inductive Refusal where
  /-- Raised by the dispatch for a command that has no meaning yet. Safe. -/
  | notModelled (mnemonic : String)
deriving DecidableEq, Repr

/-! ## Faults (19) -/

/-- A report on a source's pair with its detail word (R471, R472). -/
structure Report where
  src : Nat := 0
  code : Nat := 0
  sev : Nat := 0
  level : Bool := false
  count : Nat := 1
  subject : Nat := 0
  info : Nat := 0
  forced : Bool := false
deriving DecidableEq, Repr

/-- A source's pending latch (R477): the report kept, the instant and the order of its first acceptance. -/
structure Latch where
  rep : Report := {}
  time : Nat := 0
  order : Nat := 0
  first : Bool := false
  worst : Bool := false
deriving DecidableEq, Repr

/-- What the collector keeps of one source (R473, R475, R477, R481, R537). -/
structure FltSrc where
  /-- bit s: a standing fault of severity s, 0 to 4 -/
  standing : Nat := 0
  occ : Nat := 0
  disc : Nat := 0
  wire : Bool := false
  /-- level reports that stand, newest first -/
  levels : List Report := []
  latch : Option Latch := none
deriving DecidableEq, Repr

/-- One record of the log (R476). -/
structure LogRec where
  seq : Nat := 0
  sev : Nat := 0
  forced : Bool := false
  first : Bool := false
  suspect : Bool := false
  source : Nat := 0
  code : Nat := 0
  time : Nat := 0
  count : Nat := 0
  subject : Nat := 0
  info : Nat := 0
deriving DecidableEq, Repr

/-- A captured fault (R475): the report, T and the SEQ of its record (0 when it has none, R488). -/
structure Capture where
  rep : Report := {}
  time : Nat := 0
  seq : Nat := 0
deriving DecidableEq, Repr

/-- The fault collector (19). -/
structure Flt where
  srcs : Tab FltSrc := []
  /-- reports that stand on the pairs and are not yet accepted, oldest first -/
  presented : List Report := []
  log : Tab LogRec := []
  head : Nat := 1
  tail : Nat := 1
  lostEvents : Nat := 0
  lostSev : Nat := 0
  lostAny : Bool := false
  sel : Nat := 0
  words : Nat := 0
  first : Option Capture := none
  worst : Option Capture := none
  discTotal : Nat := 0
  orders : Nat := 0
  integrity : Bool := false
  safe : Bool := false
  cause : Nat := 0
  selfTest : Bool := false
deriving DecidableEq, Repr

/-! ## Interrupts (15) -/

/-- A pending source (R392): how many times it was written and whether a completion with EOC did it. -/
structure IrqEv where
  n : Nat := 0
  eoc : Bool := false
deriving DecidableEq, Repr

/-- One MSI-X vector (R394, R395): its table entry, the events it holds, the instant of the first of them. -/
structure Msix where
  addr : Nat := 0
  data : Nat := 0
  masked : Bool := true
  held : Nat := 0
  first : Nat := 0
  eoc : Bool := false
deriving DecidableEq, Repr

/-! ## Queues and DMA channels (15) -/

/-- A descriptor (R374), or one of the OQ7064 layout (R389) in its terms. -/
structure Running where
  d : Desc
  /-- 0 to 255 a tenant slot, 256 the physical function, 257 the device -/
  fn : Nat
  sq : Nat
  /-- has its operation been carried out, and with which STATUS, OUTCOME and BYTES -/
  ended : Bool := false
  status : Err := .ok
  outcome : Nat := 0
  bytes : Nat := 0
  info : Nat := 0
  /-- the data is moved, and the doorbell of an INTAKE descriptor waits to be presented (R378) -/
  doorbell : Bool := false
  noEntry : Bool := false
  /-- its slot in the ring, which orders the doorbells of a queue (R378) -/
  slot : Nat := 0
deriving DecidableEq, Repr

/-- A submission, completion or event queue (R379 to R384). -/
structure Ring where
  on : Bool := false
  head : Nat := 0
  tail : Nat := 0
  phase : Bool := true
  /-- entries written and not released by the head (completion and event queues) -/
  count : Nat := 0
  /-- slots reserved for descriptors fetched (completion queues) -/
  reserved : Nat := 0
  /-- descriptors fetched and not completed (submission queues) -/
  inflight : Nat := 0
  /-- a descriptor with FENCE holds back those after it (submission queues) -/
  fenced : Bool := false
  /-- descriptors fetched whose ring slot is not yet freed: fetching frees it, so 0 -/
  unfreed : Nat := 0
deriving DecidableEq, Repr

/-- What a function's queue page holds beside its rings (R382, R384, R387). -/
structure FnQ where
  stalls : Nat := 0
  lost : Nat := 0
  lostSince : Nat := 0
  eqReset : Bool := false
deriving DecidableEq, Repr

/-- One DMA channel (R370, R372). -/
structure DmaCh where
  run : Option Running := none
  stopped : Bool := false
  done : Nat := 0
deriving DecidableEq, Repr

/-! ## PCIe (14) -/

/-- One link (R347 to R358). -/
structure Link where
  up : Bool := false
  lanes : Nat := 0
  /-- rate code of MBX_LINK_STAT -/
  rate : Nat := 0
  vfEnable : Bool := false
  numVfs : Nat := 0
  ari : Bool := false
  mse : Bool := false
  /-- VF MSE of the SR-IOV capability (R358) -/
  vfMse : Bool := false
  /-- log2 of the VF BAR 2 size in MiB, as set and as in force -/
  barSet : Nat := 8
  barNow : Nat := 8
deriving DecidableEq, Repr

/-! ## Mailboxes and requests (16) -/

/-- A function's mailbox (R412) beside its data registers. -/
structure Mbox where
  busy : Bool := false
  seq : Nat := 0
  link : Nat := 0
  valid : Bool := false
  rspSeq : Nat := 0
  rspLen : Nat := 0
deriving DecidableEq, Repr

/-- A request read from a mailbox and waiting to be taken (R404, R413). -/
structure Waiting where
  who : Caller
  op : Nat
  idx : Nat
  sub : Nat
  ctx : Nat
  off : Nat
  tag : Nat
deriving DecidableEq, Repr

/-- A requester's snapshot (R406). -/
structure Snap where
  idx : Nat := 0
  sub : Nat := 0
  tag : Nat := 0
  val : Nat := 0
  len : Nat := 0
  time : Nat := 0
deriving DecidableEq, Repr

/-! ## Sessions (2) -/

/-- The session states of R44 and R51. -/
inductive SessSt where
  | free | defined | armed | running | paused | draining | suspended
deriving DecidableEq, Repr

/-- The value of 0x3001:s. -/
def SessSt.code : SessSt → Nat
  | .free => 0 | .defined => 1 | .armed => 2 | .running => 3 | .paused => 4 | .draining => 5 | .suspended => 6

/-- The charges of R58: thousandths of a tile, MB/s of fabric, MB/s of intake on a link, Mpixel/s of quota. -/
structure Charges where
  tiles : Nat := 0
  fabric : Nat := 0
  intake : Nat := 0
  quota : Nat := 0
deriving DecidableEq, Repr

/-! ## Coding: streams, frames, bands, tiles (3 to 7, 18) -/

/-- The decision for a block (R122): its luma column, its luma row within the band, what was chosen. -/
structure Chosen where
  x : Nat
  y : Nat
  c : Cand
deriving DecidableEq, Repr

/-- A reference unit as it is stored: its entry in the size table, its sectors (R145). -/
structure StoredUnit where
  entry : Nat := 0
  bytes : List Nat := []
deriving DecidableEq, Repr

/-- The reconstruction of a band: its samples (Y, Cb, Cr) as they are finished so far, whether the seam above and the one below
are finished (R141), the stored units in raster order, the coarse plane (R109), the vectors that its 16 × 16 blocks chose against the
primary reference (R115), in eighths of a sample. -/
structure BandRecon where
  samples : List Nat := []
  upDone : Bool := false
  downDone : Bool := false
  units : List (Option StoredUnit) := []
  coarse : List Nat := []
  vecs : List (Option (Int × Int)) := []
deriving DecidableEq, Repr

/-- What a Sleeve holds (R107, R110 to R114) by reference: coarse planes of units, reference units (unit column, unit row), patches
of blocks, source units; the bytes charged, patches dropped, whether a fill or patch was refused, whether a unit failed its check
(R146); what the search of each block found (R118). -/
structure Sleeve where
  coarse : List (Nat × Nat) := []
  fine : List (Nat × Nat × Nat) := []
  patches : List (Nat × Nat × Nat) := []
  staged : List Nat := []
  bytes : Nat := 0
  dropped : Nat := 0
  spent : Bool := false
  bad : Bool := false
  found : List (Option ((Int × Int) × Nat)) := []
deriving DecidableEq, Repr

/-- What the headers ahead of a frame's first band declare (R129, R147 to R152): a key or IDR frame; whether the sequence header or
the parameter sets go ahead; the PPS id; the retained entries declared, the one left undeclared, those marked long-term; the layer
of every OBU's extension header; the operating points; AV1 band 0 as OBU_FRAME; the coded size with the rows cropped from it; the
units of 64 columns of each tile column. The frame's filter parameters are those of R140. -/
structure Header where
  key : Bool := false
  sets : Bool := false
  pps : Nat := 0
  declared : List Nat := []
  undeclared : Option Nat := none
  longTerm : List Nat := []
  layerId : Option Nat := none
  opPoints : List Nat := []
  obuFrame : Bool := false
  codedW : Nat := 0
  codedH : Nat := 0
  crop : Nat := 0
  columns : List Nat := []
deriving DecidableEq, Repr

/-- The unit of the codec's syntax that carries a band (R129, R147): the first and last of what it covers (AV1 tiles, HEVC coding tree
blocks, AVC macroblocks), its coded rows, those beyond the picture repeating its last row; its quantiser against that of band 0;
0 intra, 1 one list, 2 two lists; the places of its references among the entries declared. -/
structure BandUnit where
  first : Nat := 0
  last : Nat := 0
  rows : Nat := 0
  repeated : Nat := 0
  qDelta : Int := 0
  kind : Nat := 0
  lists : List Nat := []
deriving DecidableEq, Repr

/-- A part of a band: where its coding stands, and what it gave. -/
structure Part where
  assigned : Bool := false
  /-- marked coded by the Loom (R142) -/
  coded : Bool := false
  collected : Bool := false
  /-- boundaries at which it was carried (R77), and boundaries waited since it became eligible (R71) -/
  carried : Nat := 0
  waited : Nat := 0
  result : PartResult := {}
  /-- the decisions of its blocks (R122) -/
  chosen : List Chosen := []
deriving DecidableEq, Repr

/-- The plan of a band (R160, R169, R170): target in bits, q_b, the weight of R167 in units of 2^-16, and its state. -/
structure Plan where
  target : Nat := 0
  q : Int := 0
  w : Nat := 0
  fixed : Bool := false
  /-- q_prev before the plan, for a plan that is discarded (R172) -/
  prevQ : Option Int := none
  /-- it was the first plan since START or RESUME -/
  fresh : Bool := false
  /-- its wire bytes by destination: entered into u at assignment (R164) -/
  wire : List (Nat × Nat) := []
  /-- its wire bytes have left u -/
  left : Bool := false
deriving DecidableEq, Repr

/-- The references of a band, fixed at the assignment of its first part (R127): frame counts. -/
structure Refs where
  primary : Option Nat := none
  secondary : Option Nat := none
  leadIn : Bool := false
deriving DecidableEq, Repr

/-- A band of a frame. -/
structure Band where
  /-- 0 nothing, 1 its doorbell or message accepted, 2 substituted (R96, R99) -/
  st : Nat := 0
  /-- readiness stitch (R71) and the stamp of acceptance (R95) -/
  ready : Nat := 0
  stamp : Nat := 0
  mv : Bool := false
  roi : Bool := false
  /-- the classes of its blocks, 3 bits each (R103) -/
  cls : Nat := 0
  /-- its regions were opened by a suspension (R100) -/
  opened : Bool := false
  /-- has become eligible at some boundary (R71) -/
  eligible : Bool := false
  plan : Option Plan := none
  refs : Option Refs := none
  parts : List Part := []
  /-- marked closed at the Loom (R142); its closing writes are done -/
  closed : Bool := false
  written : Bool := false
  collected : Bool := false
  /-- the rate model has taken its sample (R171) -/
  sampled : Bool := false
  /-- passed to the packet engine (R76), its packets queued (R164) -/
  released : Bool := false
  queued : Bool := false
  record : BandRec := {}
  /-- its 64 bytes in shared SRAM (R143) -/
  image : Nat := 0
  /-- the record its mirror message carried, or the CRC of its segment entry, to hold the result against (R203, R238) -/
  given : Option BandRec := none
  /-- a lining's band whose message was declared lost (R198), or a segment's: no tile codes it (R242) -/
  noTile : Bool := false
  /-- the bitstream, its length in bytes, the lengths of its OBUs or NAL units -/
  data : Nat := 0
  size : Nat := 0
  units : List Nat := []
  /-- the unit of the codec's syntax that carries it (R147) -/
  unit : BandUnit := {}
deriving DecidableEq, Repr

/-- A frame that is open or in progress. -/
structure Frame where
  /-- frame number of the doorbells, modulo 256 (R94) -/
  number : Nat := 0
  /-- frame count since START, once it has started (R65) -/
  count : Option Nat := none
  start : Nat := 0
  /-- counted as an early frame (R97) -/
  early : Bool := false
  /-- passed the credit test (R97) -/
  credited : Bool := false
  bands : List Band := []
  /-- split count and effort in force (R52, R68) -/
  split : Nat := 1
  effort : Nat := 1
  layer : Nat := 0
  /-- latency mode Frame, and class, in force -/
  frameMode : Bool := false
  intra : Bool := false
  /-- the first frame after a RESUME (R538), and its primary -/
  resumed : Bool := false
  /-- the frame of the refresh cycle it is, with R (R155) -/
  stripe : Option (Nat × Nat) := none
  /-- a segment frame of a splice (R240) -/
  spliced : Bool := false
  /-- every band is a lead-in band (R538) -/
  leadIn : Bool := false
  /-- marked lost (R126); in a lining, some band did not match (R201) -/
  invalid : Bool := false
  /-- FRAME_STITCH of a lining's frame (R197) -/
  stitch : Nat := 0
  /-- the frame budget F in units of 2^-16 bits, once set (R168), and the weights left -/
  budget : Option Int := none
  /-- at its start: the period of R168 in stitches, the effective rates R_e and R_x in kbit/s (R166) -/
  period : Nat := 0
  re : Nat := 0
  rmax : Nat := 0
  /-- the class offsets of 0x3060 in force at its start (R52, R133) -/
  offsets : Nat := 0
  /-- a frame of a higher layer while a refresh cycle runs (R155) -/
  inCycle : Bool := false
  header : Header := {}
deriving DecidableEq, Repr

/-- A frame that was started, kept for references and feedback (R125 to R127, R179). -/
structure Past where
  /-- 1 PENDING, 2 ACKED, 3 INVALID -/
  st : Nat := 1
  layer : Nat := 0
  /-- the frames its bands predicted from -/
  refs : List Nat := []
  /-- it completes a refresh cycle that began at this count (R157) -/
  cycleStart : Option Nat := none
  /-- its packets: first sequence and how many, once all its bands are released -/
  firstPkt : Nat := 0
  packets : Nat := 0
  whole : Bool := false
  /-- its stored reconstruction is damaged (R345) -/
  damaged : Bool := false
  /-- it has been marked lost (R180) -/
  lost : Bool := false
  intra : Bool := false
  /-- the columns of it that a running refresh cycle has refreshed (R155) -/
  edge : Option Nat := none
  /-- its spend (R168), in units of 2^-16 bits, once it has left the frames in progress -/
  spend : Int := 0
  /-- a segment frame of a splice -/
  spliced : Bool := false
deriving DecidableEq, Repr

/-- The context save area of a stream (R466 to R469): the SEQ of each of the four copies, whether its CRC holds, how many
of its 96 lines are written; the SEQ of the commit line. -/
structure SaveCopy where
  seq : Nat := 0
  ok : Bool := false
  lines : Nat := 0
deriving DecidableEq, Repr

/-- A stream of coded frames: the live encode, decode or lining decode of a slot, or its Mezzanine encode. -/
structure Stream where
  frames : List Frame := []
  past : Tab Past := []
  /-- frames started since START -/
  count : Nat := 0
  lastStart : Nat := 0
  /-- the recent entry and the anchors, newest first, by frame count (R125) -/
  recent : Option Nat := none
  anchors : List Nat := []
  /-- the refresh cycle (R155, R156): frame of the cycle and R while one runs, the count at its start, a trigger waits -/
  cycle : Option (Nat × Nat) := none
  cycleStart : Nat := 0
  trigger : Bool := false
  restart : Bool := false
  /-- frames since the last cycle start, for the periodic interval -/
  sinceCycle : Nat := 0
  /-- the next frame is the first after RESUME (R538), or after START -/
  afterResume : Bool := false
  /-- kappa in units of 2^-16, v in 2^-16 bits, c_avg in 2^-16 (R168, R170) -/
  kappa : Nat := 209715
  v : Int := 0
  cAvg : Option Nat := none
  qPrev : Option Int := none
  /-- no plan has been made since START or RESUME -/
  freshQ : Bool := true
  /-- the last collected record of each band number (R167) -/
  lastRec : Tab BandRec := []
  /-- sigma of the rate state record the stream was promoted with (R186) -/
  sigma : Option Int := none
  /-- the persistent class table: row of each band, 3 bits a block (R103) -/
  classes : Tab Nat := []
  /-- the tiles that coded the parts of recent bands, by 128 * frame + band (R203) -/
  coders : Tab (List Nat) := []
  /-- the save area (R466) -/
  copies : Tab SaveCopy := []
  commit : Option Nat := none
  /-- the stored reconstructions by frame and band (R145) -/
  recons : Tab (Tab BandRecon) := []
  /-- the PPS ids sent since the parameter sets last went ahead (R149) -/
  ppsSent : List Nat := []
  /-- decoding waits for a supported header or parameter set (R158) -/
  noDecode : Bool := false
  /-- the output buffer of a Decode session: the samples of each band of the last output frame, in 10 bits (R158) -/
  output : Tab (List Nat) := []
deriving DecidableEq, Repr

/-- A part as a unit of assignment: its stream (0 to 255 session slots, 256 + s the Mezzanine encode of s, 512 + l lining
slot l), frame count, band, part. -/
structure Job where
  stream : Nat
  frame : Nat
  band : Nat
  part : Nat
deriving DecidableEq, Repr

/-- A command in a tile's latch (R459). -/
inductive TileCmd where
  | assignCurrent
  | assignNext
  | withdrawNext
  /-- the grant: closes the band, finishes the seam above, the seam below -/
  | closeGrant (closes above below : Bool)
deriving DecidableEq, Repr

/-- A tile with its sequencer. -/
structure Tile where
  /-- its power domain is at power-good -/
  on : Bool := false
  /-- BOOT: 0 none since power-on, 1 running, 2 passed, 3 failed (R462) -/
  boot : Nat := 0
  bootAt : Nat := 0
  /-- reserved (R31), and reserved as the Loom sees it since the last boundary (R23) -/
  spare : Bool := false
  spareSeen : Bool := false
  retired : Bool := false
  hung : Bool := false
  contained : Bool := false
  halted : Bool := false
  /-- the part in the current position, how it goes: 0 command latched, 1 stalled in LOAD, 2 saving a context, 3 coding,
  4 waiting for a grant, 5 grant latched, 6 closed or left, completion due -/
  cur : Option Job := none
  phase : Nat := 0
  start : Nat := 0
  /-- projected finish, ns (R73) -/
  finish : Nat := 0
  /-- the deadline in ninths of a nanosecond (R78); counted as overrun -/
  deadline : Nat := 0
  late : Bool := false
  nxt : Option Job := none
  /-- the next part's context and first loads were issued (R460) -/
  loads : Bool := false
  /-- present budget in ns (R80) -/
  budget : Nat := 250000
  latch : List TileCmd := []
  /-- the job whose closing grant is latched, and the grant -/
  grant : Option (Bool × Bool × Bool) := none
  /-- a spare being activated carries this part (R206) -/
  awaits : Option Job := none
  /-- idle since (R491) -/
  idleSince : Nat := 0
  vote : Bool := false
deriving DecidableEq, Repr

/-- A tile's sequencer (R454 to R456): the routine it entered last, the address of its word, the return stack, newest first, the
cycles before the word's last. -/
structure Micro where
  routine : Nat := 0
  pc : Nat := 0
  stack : List Nat := []
  left : Nat := 0
deriving DecidableEq, Repr

/-- A completion in the latch (R82): when it arrived (ns), the tile, the part. -/
structure Completion where
  time : Nat
  tile : Nat
  job : Job
deriving DecidableEq, Repr

/-- The Loom beside its registers. -/
structure Loom where
  /-- closing requests in order of arrival, ties by tile (R142): instant, tile, part -/
  closing : List (Nat × Nat × Job) := []
  latch : List Completion := []
  /-- parts returned to the next pass by a hang (R81), with their readiness kept by their band -/
  returned : List Job := []
  /-- source 2 was raised in this stitch (R79) -/
  overrunAt : Option Nat := none
  carried : Nat := 0
  planned : Nat := 0
  atLimit : Bool := false
  planTime : Nat := 0
  /-- plans made since the last boundary and not yet fixed, newest first: stream, frame, band -/
  openPlans : List (Nat × Nat × Nat) := []
  /-- the Sleeves and the sequencers of the tiles -/
  sleeves : Tab Sleeve := []
  micros : Tab Micro := []
deriving DecidableEq, Repr

/-! ## The timebase (3, 20) -/

/-- The timebase, its servo and the sleep counter (R62, R63, R502 to R509). -/
structure Tbs where
  /-- T, whole nanoseconds -/
  ns : Nat := 0
  /-- fraction of T in units of 2^-32 ns -/
  frac : Nat := 0
  /-- the stitch counter -/
  cnt : Nat := 0
  /-- the last value for which a boundary was presented -/
  presented : Nat := 0
  /-- stitch values passed over (0x1303:0) -/
  skip : Nat := 0
  running : Bool := true
  /-- 0 Free-running, 1 Aligning, 2 Aligned (0x1301:0) -/
  align : Nat := 0
  goodSyncs : Nat := 0
  badSyncs : Nat := 0
  lastSync : Nat := 0
  /-- 0x1302:0 -/
  offset : Int := 0
  grandmaster : Nat := 0
  setAtPps : Option Nat := none
  ppsOut : Bool := false
  ppsFall : Nat := 0
  sleepT : Nat := 0
  sleepN : Nat := 0
  wakeT : Nat := 0
  passed : Nat := 0
  sleeping : Bool := false
deriving DecidableEq, Repr

/-! ## Egress (10) -/

/-- A packet or frame on its way out: what it is (0 media, 1 resend, 2 sender report, 3 BYE, 4 address answer, 5 address
announcement, 6 mirror message, 7 export, 8 host frame, 9 timing frame), its session and destination, its RTP index
(ROC and sequence number), its band, its bytes. -/
structure Pkt where
  kind : Nat := 0
  s : Nat := 0
  e : Nat := 0
  seq : Nat := 0
  frame : Nat := 0
  band : Nat := 0
  size : Nat := 0
  data : Nat := 0
  marker : Bool := false
  /-- transport-wide sequence number of the copy (R258) -/
  tw : Nat := 0
  /-- frame bytes, FCS included, and the cost of R263 -/
  bytes : Nat := 0
  cost : Nat := 0
  /-- the instant it entered the queue it is in -/
  entered : Nat := 0
  /-- counted once under R274 -/
  deferred : Bool := false
  /-- the fields of a mirror message, of an address frame or of a timing message -/
  body : List Nat := []
  msg : Option MirrorMsg := none
deriving DecidableEq, Repr

/-- One copy of a packet: the destination, its transport-wide number, its last transmission, resends, receipt (R178,
R270). -/
structure CopySt where
  e : Nat
  tw : Nat := 0
  sentAt : Option Nat := none
  resends : Nat := 0
  resending : Bool := false
  received : Bool := false
  lost : Bool := false
deriving DecidableEq, Repr

/-- A packet of a session (R256 to R269). -/
structure PktRec where
  frame : Nat := 0
  band : Nat := 0
  size : Nat := 0
  data : Nat := 0
  marker : Bool := false
  release : Nat := 0
  stored : Bool := false
  copies : List CopySt := []
deriving DecidableEq, Repr

/-- A destination of a session beside its entries 0x3100 and 0x3140. -/
structure Dest where
  /-- 0 disabled, 1 awaiting key, 2 awaiting frame, 3 active (R254, R255) -/
  st : Nat := 0
  /-- the stream key, as unwrapped: suite, key with salt; the previous one and when it is discarded (R443) -/
  key : Option (Nat × Nat) := none
  prevKey : Option (Nat × Nat) := none
  prevUntil : Nat := 0
  /-- tokens in 1/256 byte (R264) -/
  ct : Int := 0
  pt : Int := 0
  /-- rates applied at the last refill, kbit/s (R264, R268) -/
  committed : Nat := 0
  peak : Nat := 0
  /-- the sample of the last step 3 (R163): tokens, queued and promised bytes in 1/256 byte, and the wire bytes of the
  plans made since -/
  sampleCt : Int := 0
  samplePt : Int := 0
  sampleQ : Int := 0
  sampleU : Int := 0
  madeSince : Nat := 0
  queue : List Pkt := []
  waitHwm : Nat := 0
  depthHwm : Nat := 0
  /-- next transport-wide sequence number, next SRTCP index -/
  tw : Nat := 0
  srtcp : Nat := 0
  mediaSent : Nat := 0
  resends : Nat := 0
  discards : Nat := 0
  /-- the highest layer received, for a destination that does not bind (R185), and the layers computed since, oldest first:
  the frame at whose boundary, the layer -/
  layer : Nat := 0
  nextLayers : List (Nat × Nat) := []
  /-- the first packet it receives belongs to this frame -/
  firstFrame : Option Nat := none
  /-- congestion control (R183): r and the peak set with it in kbit/s, a report has set r since the last refill, the least
  delays of the reports of the last 10 s (instant, ns), qd_prev and qd of the last report in half nanoseconds, the instant
  from which dt counts -/
  rate : Nat := 0
  ratePeak : Nat := 0
  rateNew : Bool := false
  owd : List (Nat × Int) := []
  qdPrev : Nat := 0
  qd : Nat := 0
  since : Nat := 0
  /-- feedback (R182) -/
  lastFeedback : Nat := 0
  timedOut : Bool := false
  /-- the learned address and port (R285), how often its address was written or it was disabled, the stamp of its last move
  (R292) -/
  learned : Nat × Nat := (0, 0)
  gen : Nat := 0
  movedAt : Option Nat := none
  /-- the last authenticated packet (R289), the greatest SRTCP index accepted and the replay window below it (R288) -/
  lastAuth : Nat := 0
  indexIn : Option Nat := none
  window : Nat := 0
  /-- a key installed and not yet in effect (R255) -/
  newKey : Option (Nat × Nat) := none
deriving DecidableEq, Repr

/-- The transport state of a session (R259). -/
structure Transport where
  ssrc : Nat := 0
  /-- the next packet's index: ROC * 65536 + sequence number -/
  next : Nat := 0
  tsBase : Nat := 0
  /-- the stitch of the last sender report -/
  srAt : Option Nat := none
  /-- nothing more is sent to players (R215, R220) -/
  silent : Bool := false
deriving DecidableEq, Repr

/-- A logical port (R245 to R249, R272 to R277). -/
structure Port where
  /-- 0x1A03:p -/
  link : Nat := 0
  /-- a mode change is being trained since this instant (R247) -/
  trainingFrom : Option Nat := none
  /-- class queues 0 to 6 -/
  queues : Tab (List Pkt) := []
  /-- the entry of the gate list in force, and when it began (R273) -/
  entry : Nat := 0
  entryAt : Nat := 0
  /-- a list accepted and not yet in force -/
  listWaits : Bool := false
  listSel : Bool := false
  /-- the MAC is sending until this instant, in 1/400 ns -/
  busyUntil : Nat := 0
deriving DecidableEq, Repr

/-- An entry of a flow table (R284): its key (local address, remote address, local port, remote port), its destination. -/
structure Flow where
  la : Nat := 0
  ra : Nat := 0
  lp : Nat := 0
  rp : Nat := 0
  g : Nat := 0
  stamp : Nat := 0
  hit : Bool := false
  aged : Bool := false
deriving DecidableEq, Repr

/-- An ingress pipeline (R278 to R290). -/
structure Pipe where
  /-- buckets of the flow table -/
  flows : Tab (List Flow) := []
  /-- packets tried since the boundary (R290) -/
  tried : Nat := 0
  /-- when the table last gained or lost a key of destination g (R296) -/
  changed : Tab Nat := []
  /-- the next bucket to age, and the start of the lap (R287) -/
  ageNext : Nat := 0
  ageStart : Nat := 0
deriving DecidableEq, Repr

/-- A move candidate (R291): stamp, pipeline, destination, source address and port, the generation it was found under. -/
structure Candidate where
  stamp : Nat
  pipe : Nat
  g : Nat
  addr : Nat
  port : Nat
  gen : Nat
deriving DecidableEq, Repr

/-- The packet engine beside its registers. -/
structure Pke where
  ports : Tab Port := []
  /-- destinations whose entries were written since the last boundary (R255) -/
  destWaits : List (Nat × Nat) := []
  pipes : Tab Pipe := []
  /-- insertions made, the order of stamps (R286) -/
  flowSeq : Nat := 0
  /-- candidates in the order of R292 -/
  candidates : List Candidate := []
  /-- the comparer: the next pair 2 g + pipeline, the start of its lap, its last check (R296) -/
  cmpNext : Nat := 0
  cmpStart : Nat := 0
  cmpLast : Nat := 0
  /-- egress timestamps: port, message type, sequence id, T (R251) -/
  stamps : List (Nat × Nat × Nat × Nat) := []
  /-- the timestamp latched by the last read of the tag, and the tag it gave -/
  stampTag : Nat := 0
  stampTime : Nat := 0
  stampsLost : Nat := 0
deriving DecidableEq, Repr

/-! ## DRAM channels (12) -/

/-- A DRAM controller (R307 to R320) beside its registers and the state in 0x1801:c. -/
structure Chan where
  /-- the helper operation that runs, 0 none (R308) -/
  helper : Nat := 0
  /-- the instant at which training began (R310) -/
  trainStart : Nat := 0
  /-- the action of R320 in progress: 0 none, 1 Resume, 2 Retrain, 3 Off -/
  action : Nat := 0
  /-- refreshes postponed, by rank (R312) -/
  postponed : Tab Nat := []
  /-- the refresh-rate indication of each rank: 0 normal, 1 doubled, 2 above (R313) -/
  temp : Tab Nat := []
  /-- self-refresh (R314): the stage completed, 0 none, 1 entry issued, 2 clocks stopped, 3 domain off with pads held -/
  stage : Nat := 0
  /-- the stage that runs, 0 none -/
  running : Nat := 0
  /-- the stage the power controller asks for -/
  goal : Nat := 0
  padHeld : Bool := false
  /-- a request waits for PAD_RELEASE (R315) -/
  waits : Bool := false
  /-- the requests captured at the last freeze: their words of DMC_FRZ_QENT (R318) -/
  captured : List Nat := []
  /-- the scrubber: the next line, the start of its lap, the instant of its last read (R339, R340) -/
  scrubLine : Nat := 0
  lapStart : Nat := 0
  lastScrub : Nat := 0
  scrubbing : Bool := false
  /-- the parameters of the PHY, by the value of DMC_PHY_SEL[c] that selects each (R309) -/
  phy : Tab Nat := []
deriving DecidableEq, Repr

/-! ## The Wardrobe (13) -/

/-- What holds a block (R333). -/
inductive Use where
  /-- allocated by command, KIND 1 (R332) -/
  | command
  | intake (s : Nat)
  /-- reconstruction, and coarse plane with size table, of reference frame i -/
  | recon (s i : Nat)
  | coarse (s i : Nat)
  /-- the same for a mezzanine stream -/
  | mezzRecon (s i : Nat)
  | mezzCoarse (s i : Nat)
  | save (s : Nat)
  | store (s : Nat)
  /-- the queue of destination e of session s -/
  | queue (s e : Nat)
  | capture (s : Nat)
  /-- replacement blocks reserved for a freeze of entry e -/
  | freeze (s e : Nat)
  | library (t e : Nat)
  | liningRecon (l i : Nat)
  | liningCoarse (l i : Nat)
  | mirrorStore (s : Nat)
deriving DecidableEq, Repr

/-- A block (R323 to R328): its pool, place and holder. -/
structure Block where
  pool : Nat := 0
  chan : Nat := 0
  /-- channel-local address in units of 4 KiB -/
  off : Nat := 0
  owner : Nat := 0
  use : Use := .command
  /-- its data was lost with a frozen channel (R345) -/
  damaged : Bool := false
  quarantined : Bool := false
  /-- it was held when its slot was keyed under another identity (R446) -/
  isSealed : Bool := false
deriving DecidableEq, Repr

/-- A pair (R341 to R343): the channels that were current when it became LOST (1 even, 2 odd, 3 either), and the survivor
of a resilver. -/
structure PairSt where
  current : Nat := 0
  survivor : Nat := 0
deriving DecidableEq, Repr

/-- A line written with bits flipped on purpose (R346): class, unit, place, mask, first bit, address bit. -/
structure Flipped where
  cls : Nat
  unit : Nat
  place : Nat
  mask : Nat
  offset : Nat
  addr : Bool
deriving DecidableEq, Repr

/-- The Wardrobe beside its registers and objects. -/
structure Wrd where
  /-- frames given: channel*4096 + frame, to pool + 1 (R324) -/
  frames : Tab Nat := []
  blocks : Tab Block := []
  /-- generations (R328) -/
  gens : Tab Nat := []
  pairs : Tab PairSt := []
  /-- replacements still to be found: pool, holder (R345) -/
  wanted : List (Nat × Nat × Use) := []
  flipped : List Flipped := []
deriving DecidableEq, Repr

/-! ## The Drawstring (16) -/

/-- A frame of this node that waits for the token, or for a further try (R417, R418). -/
structure OwnFrame where
  dst : Nat
  /-- 1 SPAYS, 4 TABLE, 5 WAKE -/
  ty : Nat
  /-- what it carries: a request or a response, by OP, index, sub-index and TAG -/
  op : Nat
  idx : Nat := 0
  sub : Nat := 0
  tag : Nat := 0
  /-- of a request of the device's own: its key context, its payload (R408) -/
  ctx : Nat := 0
  len : Nat := 0
  data : Nat := 0
  tries : Nat := 0
  /-- the ACK of the last try, and its instant and the first one's -/
  ack : Nat := 0
  lastSent : Nat := 0
  firstSent : Nat := 0
deriving DecidableEq, Repr

/-- A request of this node without its response yet (R419). -/
structure Outstanding where
  dst : Nat
  idx : Nat
  tag : Nat
  deadline : Nat
deriving DecidableEq, Repr

/-- The Drawstring node (R415 to R424). -/
structure Dsr where
  /-- 0x1C00:0: 0 down, 1 hop training, 2 closing, 3 enumerating, 4 up, 5 open -/
  ring : Nat := 0
  /-- DS_ID and DS_MASTER as sampled, and whether the master duties are active -/
  nodeId : Nat := 0
  strapMaster : Bool := false
  master : Bool := false
  /-- the identity of the ring master, once the table is known -/
  masterId : Option Nat := none
  locked : Bool := false
  hop : Nat := 0
  nodes : Nat := 0
  conflict : Bool := false
  tokenSeq : Nat := 0
  lastToken : Nat := 0
  lastClose : Nat := 0
  resetExit : Nat := 0
  /-- the closure limit of this start-up, ms (0x1C04:0) -/
  limit : Nat := 500
  enumTries : Nat := 0
  enumSent : Nat := 0
  frameSeq : Nat := 0
  own : List OwnFrame := []
  retry : List OwnFrame := []
  outstanding : List Outstanding := []
deriving DecidableEq, Repr

/-! ## Security (17) -/

/-- The state of a tenant slot (R37): 0 UNBOUND, 1 BOUND, 2 KEYED, the function it is bound to, and its key set (R437,
R441, R446). -/
structure Tenant where
  st : Nat := 0
  bound : Nat := 0xFFFF
  /-- the tenant root key, while the slot is KEYED -/
  root : Option Nat := none
  /-- the salt in force and the identity under which it was drawn (R446) -/
  salt : Option (Nat × Nat) := none
  /-- segment keys by slot 0 to 15 (R441) -/
  segs : Tab Nat := []
deriving DecidableEq, Repr

/-- A secured SPDM session (R432): the link that carries it, FINISH has been accepted, the instant of its last message. -/
structure Spdm where
  link : Nat := 0
  open_ : Bool := false
  last : Nat := 0
deriving DecidableEq, Repr

/-- An IDE stream of a link (R434): its keys by direction and sub-stream as programmed, whether it is secure, and the
function bound to it. -/
structure Ide where
  keys : Tab Nat := []
  secure : Bool := false
  fn : Option Nat := none
deriving DecidableEq, Repr

/-- The security block (17). -/
structure Sec where
  /-- the operator command key is installed (R438), and the key -/
  opKeyed : Bool := false
  opKey : Nat := 0
  debug : Bool := false
  rngFail : Bool := false
  /-- how far the SPDM connection of each link has come: 0 none, 1 version, 2 capabilities, 3 algorithms (R431) -/
  conns : Tab Nat := []
  /-- secured sessions 0 to 7 (R432) -/
  sessions : Tab Spdm := []
  /-- IDE streams: 32 * link + n, n = 0 the link stream, 1 to 16 selective streams (R434) -/
  ide : Tab Ide := []
  /-- TDISP state of a function, by its value of R37: 0 CONFIG_UNLOCKED, 1 CONFIG_LOCKED, 2 RUN, 3 ERROR (R435) -/
  tdisp : Tab Nat := []
  /-- the memory keys of owners 256 and 257 (R445) -/
  ownKeys : Nat × Nat := (0, 0)
  /-- how many alias keys were derived (R429) -/
  aliases : Nat := 0
deriving DecidableEq, Repr

/-! ## Capture and library (9) -/

/-- An entry of a ring or of the library (R232): its header fields, its bitstream and the lengths of its units; for a band
of a segment, frames back to its references. -/
structure CapEntry where
  frame : Nat := 0
  band : Nat := 0
  flags : Nat := 0
  layer : Nat := 0
  stitch : Nat := 0
  rtpTs : Nat := 0
  size : Nat := 0
  crc : Nat := 0
  recon : Nat := 0
  data : Nat := 0
  units : List Nat := []
  primary : Nat := 0
  secondary : Nat := 0
  intra : Bool := false
  off : Nat := 0
deriving DecidableEq, Repr

/-- A block of a ring or of a clip (R232): its key in the Wardrobe, its header, its entries, oldest first. -/
structure CapBlock where
  key : Nat := 0
  seq : Nat := 0
  session : Nat := 0
  kind : Nat := 0
  entries : List CapEntry := []
  /-- bytes occupied, header included -/
  used : Nat := 64
deriving DecidableEq, Repr

/-- A capture ring (R230, R232): what it holds, its blocks opened, oldest first, the last one current; the blocks not yet
opened; blocks opened since it was created. -/
structure CapRing where
  kind : Nat := 0
  blocks : List CapBlock := []
  free : List Nat := []
  opened : Nat := 0
deriving DecidableEq, Repr

/-- A freeze accepted and not yet in effect (R234, R235): START, END, the entry. -/
structure Freeze where
  start : Nat := 0
  fin : Nat := 0
  e : Nat := 0
deriving DecidableEq, Repr

/-- A library entry (R236 to R238, R244). -/
structure LibEntry where
  /-- 0 FREE, 1 FREEZING, 2 VERIFYING, 3 READY, 4 REJECTED, 5 EXPORTING -/
  st : Nat := 0
  kind : Nat := 0
  code : Nat := 0
  codec : Nat := 0
  width : Nat := 0
  height : Nat := 0
  depth : Nat := 0
  period : Nat := 0
  lvl : Nat := 0
  intra : Bool := false
  layers : Nat := 1
  /-- its sequence header as the decoder gave it -/
  seqHdr : Nat := 0
  blocks : List CapBlock := []
  /-- the entries in its range -/
  entries : List CapEntry := []
  /-- bytes of the stored form already given to the bulk class (R237) -/
  sent : Nat := 0
deriving DecidableEq, Repr

/-! ## Pairing (8) -/

/-- A handover that was offered (R220): its session, the request that asked for it, or the tile failure that is to be
handled if it comes to nothing (tile, part), the instant at which the offer lapses, and, once it is accepted, the
stitch of acceptance. -/
structure Offer where
  s : Nat
  req : Option Req := none
  hit : Option (Nat × Job) := none
  deadline : Nat := 0
  accepted : Option Nat := none
deriving DecidableEq, Repr

/-- The pairing of two devices (R188 to R194, R214, R447). -/
structure Pair where
  /-- 0x1402:0: 0 UNPAIRED, 1 HANDSHAKE, 2 PAIRED, 3 MIRROR_DOWN, 4 PARTNER_LOST, 5 REFUSED -/
  st : Nat := 0
  /-- the instant at which the present state was entered -/
  since : Nat := 0
  /-- the pair key is held (R447) -/
  keyed : Bool := false
  /-- COUNTER of the last message sent, and of the last one accepted (R194) -/
  counter : Nat := 0
  lastIn : Nat := 0
  /-- the partner was lost since the pair was last PAIRED (R222) -/
  lost : Bool := false
  /-- a probe waits for its answer since this instant; the stitch of the last one (R214) -/
  probe : Option Nat := none
  probedAt : Nat := 0
  /-- the partner's service addresses: port, address (R190, R218) -/
  partner : List (Nat × Nat) := []
  /-- addresses taken over, and given up (R218, R220) -/
  taken : List (Nat × Nat) := []
  given : List (Nat × Nat) := []
  /-- announcements to come: stitch, port, address (R218) -/
  announces : List (Nat × Nat × Nat) := []
  /-- linings of a promotion pass: lining, the instant at which it completes, the stitch of its first hit (R216) -/
  promoting : List (Nat × Nat) := []
  offer : Option Offer := none
  /-- own sessions named by TAKEN, suspended at the next stitch (R215) -/
  takenAway : List Nat := []
deriving DecidableEq, Repr

/-- A lining slot (R199 to R203) beside its objects 0x4000 to 0x4008. -/
structure Lining where
  /-- SESSION_OPEN has been applied (R448) -/
  opened : Bool := false
  prio : Nat := 7
  charges : Charges := {}
  /-- the state of its session on the partner -/
  state : Nat := 0
  /-- sequenced messages that wait, by MSEQ, and when each arrived (R198) -/
  waiting : Tab MirrorMsg := []
  arrived : Tab Nat := []
  /-- decoding has stopped (R201); refresh requests have stopped -/
  stopped : Bool := false
  quiet : Bool := false
  /-- SSRC, TS_BASE and the RTP index after the last band applied (R217) -/
  ssrc : Nat := 0
  tsBase : Nat := 0
  next : Nat := 0
  dests : List (Nat × Nat × Nat) := []
  keys : List (Nat × Nat × Nat) := []
  rate : RateRec := {}
  /-- its packets, for the retransmission store of a promoted session -/
  pkts : Tab PktRec := []
  /-- the frame of the last band applied, whether its last band was -/
  lastFrame : Option Nat := none
  whole : Bool := false
  /-- entries held, by frame count (R203) -/
  held : List Nat := []
  /-- HANDOVER has been applied: the counters are exact (R217) -/
  exact : Bool := false
  /-- the effective effort of its session, as last told (R200, R216, R220) -/
  effort : Nat := 0
deriving DecidableEq, Repr

/-- A message of the mirror store (R198). -/
structure Kept where
  msg : MirrorMsg
  sentAt : Nat
deriving DecidableEq, Repr

/-! ## Power, reset, monitors (20, 21) -/

/-- A switched domain (R489 to R494). -/
structure Dom where
  on : Bool := false
  /-- the transition in progress: true to on, with its instant (R492) -/
  moving : Option (Bool × Nat) := none
  /-- BLOCKED, and whether the votes are ignored until the next reset (R494) -/
  blocked : Bool := false
  ignored : Bool := false
  padHeld : Bool := false
  powerOns : Nat := 0
deriving DecidableEq, Repr

/-- A junction or rail sensor (R524, R526): sampled, consecutive samples out of range or back in range, failed. -/
structure Sensor where
  seen : Bool := false
  reading : Nat := 0
  bad : Nat := 0
  good : Nat := 0
  failed : Bool := false
deriving DecidableEq, Repr

/-- The power controller, the resets and the monitors (R489 to R526). -/
structure Pwr where
  /-- the package state, 0 Run to 3 Sleep (R495) -/
  state : Nat := 0
  /-- a transition is in progress, to `entering`, since `since` (R497); its bound was exceeded; a target was recorded during
  it (R498) -/
  busy : Bool := false
  entering : Nat := 0
  since : Nat := 0
  late : Bool := false
  again : Bool := false
  /-- the wake latch and the sources that set it last (R499) -/
  latch : Bool := false
  lastWake : Nat := 0
  /-- a warm reset asked for outside Run waits for Run (R499) -/
  resetWaits : Bool := false
  /-- firmware has powered the domains of the package vote (R513); no image passed its check (R514) -/
  others : Bool := false
  imageFail : Bool := false
  /-- 0x1803:0 as it stood at start-up (R310) -/
  degraded : Bool := false
  doms : Tab Dom := []
  /-- the last ten samples of package power, newest first (R501); above the cap since; the last event raised -/
  samples : List Nat := []
  above : Option Nat := none
  raised : Option Nat := none
  /-- KIND, SOURCE and WARM_CNT of PWR_RESET_CAUSE; the image that runs (R514) -/
  cause : Nat := 1
  causeSrc : Nat := 0
  warmCnt : Nat := 0
  image : Nat := 0
  /-- firmware runs (R519); the instant of the warm reset in progress (R511) -/
  booted : Bool := false
  resetAt : Option Nat := none
  /-- POR_N is low; the always-on supply has failed (R520) -/
  porLow : Bool := false
  aonDown : Bool := false
  /-- references reported lost: 0 system, 1 PCIe A, 2 PCIe B, 3 Ethernet, 4 32.768 kHz (R502) -/
  lost : List Nat := []
  /-- sensors 0 to 19 junctions, 32 + r rails (R524, R526) -/
  sensors : Tab Sensor := []
  /-- consecutive samples at or above, and below, the limits of the three thermal levels (R524); which stand -/
  hot : List Nat := [0, 0, 0]
  cool : List Nat := [0, 0, 0]
  thermal : Nat := 0
  /-- THERMTRIP_N is driven low -/
  trip : Bool := false
deriving DecidableEq, Repr

/-- An ARM that waits for the partner (R60): the request, and the instant at which it is refused. -/
structure ArmWait where
  req : Req
  deadline : Nat
deriving DecidableEq, Repr

/-- A session slot (2) beside its objects. -/
structure Session where
  st : SessSt := .free
  /-- N of R124, fixed at DEFINE (0x3051:s) -/
  refN : Nat := 0
  /-- 0x3002:s: the command accepted and not yet in effect (R53) -/
  pend : Nat := 0
  /-- it was accepted before the last boundary (R23) -/
  pendSeen : Bool := false
  /-- 0x3005:s -/
  cause : Nat := 0
  /-- charges in force, and those a live change brings at the next frame boundary (R58, R61) -/
  charges : Charges := {}
  newCharges : Option Charges := none
  armWait : Option ArmWait := none
  /-- values in force of objects whose change waits for a frame boundary (R52, R162), by index -/
  inForce : Tab Nat := []
  /-- the intake window: its offset in BAR 2 (R85), its bytes as written, by window offset -/
  window : Option Nat := none
  src : Tab Nat := []
  /-- frame credits (R97): the counter, the stitch from which p is counted, a credit of this stitch was given -/
  credits : Nat := 0
  creditBase : Nat := 0
  creditAt : Option Nat := none
  /-- the last frame opened since START or RESUME -/
  lastNumber : Option Nat := none
  /-- the splice (R239 to R241): the request that waits (entry + 1024 loop), the entry that plays, whether it loops, the
  segment frame to start next, a return: 1 written, 2 visible; it ends at the frame boundary -/
  splicePend : Option Nat := none
  splice : Option Nat := none
  spliceLoop : Bool := false
  spliceNext : Nat := 0
  spliceEnd : Nat := 0
  /-- entries that DECODE_FEED brought and that have not started (R243, R375) -/
  feed : List CapEntry := []
  held : Bool := false
  highX : Bool := false
  lowX : Bool := false
  xcount : Nat := 0
  /-- DRAIN (R54) -/
  drainAt : Option Nat := none
  quietFrom : Option Nat := none
  fromSuspended : Bool := false
  lastMedia : Option Nat := none
  dests : Tab Dest := []
  tx : Transport := {}
  /-- the capture ring, and the freezes that wait for the boundary (R230, R235) -/
  ring : Option CapRing := none
  freezes : List Freeze := []
  /-- the mirror stream: MSEQ of the last message sent, the store, the rate record as last sent (R186, R196, R198) -/
  mseq : Nat := 0
  kept : List Kept := []
  rateSent : RateRec := {}
  /-- indices of objects accepted and not yet told to the lining (R196) -/
  tell : List Nat := []
  /-- the stitch of the last hit (R223) -/
  lastHit : Option Nat := none
  /-- a lining request after re-pairing was refused at this instant (R222) -/
  askedAt : Option Nat := none
  /-- a handover was accepted: bands are no longer packetised (R220) -/
  handing : Bool := false
  /-- packets by RTP index -/
  pkts : Tab PktRec := []
deriving DecidableEq, Repr

/-! ## What leaves the block -/

/-- What the block sends out of its pins and ports (log 5). -/
inductive Output where
  /-- a Spays response: to whom, its OP, STATUS and payload (R404, R405) -/
  | response (who : Caller) (op status idx sub tag : Nat) (len payload : Nat)
  /-- an MSI-X message: the vector's key (R394) -/
  | msix (key : Nat)
  /-- an entry written to a queue in host memory: function, ring (8 + q completion, 16 event), slot, its bytes (R383, R384) -/
  | entry (fn ring slot : Nat) (bytes : Nat)
  /-- data written to host memory (R375) -/
  | hostData (fn addr len : Nat) (data : Nat)
  /-- a delivery to the management controller (R393) -/
  | toFirmware (source : Nat)
  /-- a Drawstring frame of this node: type, destination, SEQ, what it carries (R416) -/
  | dsFrame (ty dst seq op idx sub tag : Nat)
  /-- the Drawstring token with its sequence (R417) -/
  | dsToken (seq : Nat)
  /-- a frame on the wire of a logical port (R274) -/
  | ethernet (port cls : Nat) (p : Pkt)
  /-- an IEEE 1588 event message with its timestamp, for the management controller (R250, R251) -/
  | ptpEvent (port time : Nat)
  /-- an answer on the DOE mailbox of a link's physical function (R431): the request's code, 0 or the SPDM or TDISP error,
  what it carries -/
  | doe (link request error : Nat) (body : List Nat)
  /-- an ATS Invalidate Completion on a link (R373) -/
  | atsDone (link : Nat)
  /-- the completion of a read of the frame aperture of a tenant: its data (R92) -/
  | apertureData (tenant offset data : Nat)
deriving DecidableEq, Repr

/-- The block: every unit of it. -/
structure Dev where
  /-- register file: operating values, keyed by place (R8 to R16); an unlisted key reads as its reset value -/
  regs : Tab Nat := []
  /-- the staging low half of each writable pair, keyed by the place of its _LO register (R16) -/
  stage : Tab Nat := []
  /-- dictionary values (R397 to R401); an unlisted key reads as its default -/
  objs : Tab Nat := []
  /-- values still in force until the next stitch boundary of objects written since the last one (R23) -/
  heldStitch : Tab Nat := []
  /-- what left the block, oldest first: the model's own field (log 5) -/
  emitted : List Output := []
  /-- the model's own counter that feeds the free values (log 3) -/
  freeCtr : Nat := 0
  /-- how many values the random number generator has given (R433) -/
  rngCtr : Nat := 0
  /-- the fault collector (19) -/
  flt : Flt := {}
  /-- pending interrupt sources (R392) -/
  irq : Tab IrqEv := []
  /-- MSI-X vectors: link*256 + v of the physical function, 1024 + 16 t + v of tenant t (R394) -/
  msix : Tab Msix := []
  /-- Function Mask of a link's physical function (0 to 3) or of tenant t (4 + t) (R394) -/
  fnMask : Tab Bool := []
  /-- queues: 32 fn + q submission, 32 fn + 8 + q completion, 32 fn + 16 event (R379) -/
  rings : Tab Ring := []
  /-- queue page state of function fn (R382, R384, R387) -/
  fnq : Tab FnQ := []
  /-- DMA channels 0 to 63 (R370) -/
  dmaCh : Tab DmaCh := []
  /-- receive buffers posted on queue 7, oldest first (R386) -/
  recvBufs : List Running := []
  /-- PCIe links: port A half 0, A half 1, B half 0, B half 1 (R347) -/
  links : Tab Link := []
  /-- places of registers whose parity does not match (R367) -/
  parityBad : List Nat := []
  /-- mailboxes: 0 to 255 tenants, 256 the physical function (R412) -/
  mbox : Tab Mbox := []
  /-- requests submitted and not yet taken, in order (R413) -/
  waiting : List Waiting := []
  /-- snapshots: 0 to 255 tenants, 256 the physical function, 257 + n node n (R406) -/
  snaps : Tab Snap := []
  /-- last critical counter of context c on path p, key 2c + p (R407) -/
  lastCtr : Tab Nat := []
  /-- an E_AUTH since the last acceptance of context c (R411) -/
  authSeen : Tab Bool := []
  /-- the timebase (3, 20) -/
  tbs : Tbs := {}
  /-- tenant slots 0 to 255 (R36) -/
  tenants : Tab Tenant := []
  /-- per class, the position served last by the host-queue dispatcher: 0 the physical function, t + 1 tenant t (R371) -/
  rrLast : Tab Nat := []
  /-- the security block (17) -/
  sec : Sec := {}
  /-- the pairing (8) -/
  pair : Pair := {}
  /-- session slots 0 to 255 (R42) -/
  sess : Tab Session := []
  /-- the Drawstring node (16) -/
  dsr : Dsr := {}
  /-- DRAM controllers 0 to 15 (12) -/
  chans : Tab Chan := []
  /-- the Wardrobe (13) -/
  wrd : Wrd := {}
  /-- the bytes of blocks: channel * 2^41 + channel-local address, the even channel for a mirrored line; a byte that nothing has written since its block was handed out is not listed (R327; 256 stands for it) -/
  mem : Tab Nat := []
  /-- coded streams: 0 to 255 of session slots, 256 + s Mezzanine encodes, 512 + l linings (3 to 8) -/
  streams : Tab Stream := []
  /-- tiles 0 to 95 with their sequencers (3, 18) -/
  tiles : Tab Tile := []
  /-- the Loom (3) -/
  loom : Loom := {}
  /-- HOLD_N pins driven low, bit k for pin k (R106) -/
  hold : Nat := 0
  /-- session parameters as a lining applies them: 65536 l + index (R195, R196, R201) -/
  linPrm : Tab Nat := []
  /-- steps by which the ladder has made a session's effort faster, those not yet in effect included (R211) -/
  ladder : Tab Nat := []
  /-- the packet engine (10) -/
  pke : Pke := {}
  /-- library entries: 64 t + e (R236) -/
  lib : Tab LibEntry := []
  /-- lining slots 0 to 255 (R199) -/
  linings : Tab Lining := []
  /-- power, reset and monitors (20, 21) -/
  pwr : Pwr := {}
deriving DecidableEq, Repr

/-- The state of the model: the block and the commands that wait, first in, first out. -/
structure State where
  dev : Dev := {}
  pending : List Instr := []
deriving DecidableEq, Repr

/-- The block right after reset (log 8): no unit holds anything but its defaults, which are the spec's reset values where
it gives them. -/
def State.reset : State := {}

end Sys2Proof.Machine
end

