-- ==== Sys2Proof/Machine/Ops.lean ====
section
/-! DEFINITION. The operations every family of commands is written over: the register file, the dictionary's values, the
instant T, free values, fault reports, interrupts, events, outputs. -/
namespace Sys2Proof.Machine

/-! ## Registers -/

/-- The operating value at a place of the register file (R8). -/
def regGet (d : Dev) (key : Nat) : Nat := (tabFind d.regs key).getD (regReset key)

/-- The operating value becomes `v` (32 bits). -/
def regSet (key v : Nat) (d : Dev) : Dev :=
  if v % 2 ^ 32 = regReset key then { d with regs := tabErase d.regs key }
  else { d with regs := tabSet d.regs key (v % 2 ^ 32) }

/-- Field [lo+len-1:lo] of a register. -/
def fld (d : Dev) (key lo len : Nat) : Nat := bits (regGet d key) lo len

/-- The field becomes `x`. -/
def setFld (key lo len x : Nat) (d : Dev) : Dev := regSet key (setBits (regGet d key) lo len x) d

/-- A 32-bit count rises by `n` and saturates. -/
def regCount (key n : Nat) (d : Dev) : Dev := regSet key (satAdd 32 (regGet d key) n) d

/-- The 64-bit value of a pair (R15). -/
def pairGet (d : Dev) (hi lo : Nat) : Nat := regGet d hi * 2 ^ 32 + regGet d lo

/-- The pair takes a 64-bit value whole (R16). -/
def pairSet (hi lo v : Nat) (d : Dev) : Dev := regSet lo v (regSet hi (v / 2 ^ 32) d)

/-! ## Dictionary values -/

/-- The kept value of an object (R401). -/
def objGet (d : Dev) (idx sub : Nat) : Nat := (tabFind d.objs (objKey idx sub)).getD (objDefault idx sub)

/-- The kept value becomes `v`. -/
def objSet (idx sub v : Nat) (d : Dev) : Dev :=
  if v = objDefault idx sub then { d with objs := tabErase d.objs (objKey idx sub) }
  else { d with objs := tabSet d.objs (objKey idx sub) v }

/-- A count kept in a `w`-bit object rises by `n` and wraps. -/
def objCount (w idx sub n : Nat) (d : Dev) : Dev := objSet idx sub (wrapAdd w (objGet d idx sub) n) d

/-- A high-water mark kept in an object. -/
def objMax (idx sub v : Nat) (d : Dev) : Dev := objSet idx sub (max v (objGet d idx sub)) d

/-- The object takes its default (R401). -/
def objReset (idx sub : Nat) (d : Dev) : Dev := { d with objs := tabErase d.objs (objKey idx sub) }

/-- The value the stitch-scheduled path uses: the one in force at the last stitch boundary (R23). -/
def objNow (d : Dev) (idx sub : Nat) : Nat := (tabFind d.heldStitch (objKey idx sub)).getD (objGet d idx sub)

/-- A control-plane change that the stitch-scheduled path sees from the next stitch on (R23). -/
def objSetStitch (idx sub v : Nat) (d : Dev) : Dev :=
  objSet idx sub v { d with heldStitch := tabSet d.heldStitch (objKey idx sub) (objNow d idx sub) }

/-! ## Time, free values, outputs -/

/-- The event happens at `now`: T, of 64 bits, reaches it if the timebase runs and has not passed it, and the stitch counter with
it (R62; log 6). -/
def atTime (now : Nat) (d : Dev) : Dev :=
  let t := max d.tbs.ns (min now (2 ^ 64 - 1))
  if d.tbs.running then { d with tbs := { d.tbs with ns := t, cnt := max d.tbs.cnt (stitchesIn t) } } else d

/-- A free value below 2^w: nothing constrains it (log 3). -/
def freeBits (w : Nat) (d : Dev) : Nat := Config.freeValue d.freeCtr % 2 ^ w

/-- The next free value is another one. -/
def freeNext (d : Dev) : Dev := { d with freeCtr := d.freeCtr + 1 }

/-- What the random number generator gives, `w` bits (R433). -/
def rngBits (w : Nat) (d : Dev) : Nat := Config.rng d.rngCtr % 2 ^ w

/-- The generator moves on. -/
def rngNext (d : Dev) : Dev := { d with rngCtr := d.rngCtr + 1 }

/-- Something leaves the block (log 5). -/
def emit (o : Output) (d : Dev) : Dev := { d with emitted := d.emitted ++ [o] }

/-! ## Fault reports (R471, R537) -/

/-- The collector's view of a source. -/
def fltSrc (d : Dev) (i : Nat) : FltSrc := tabGet {} d.flt.srcs i

/-- Changes the collector's view of a source. -/
def setFltSrc (i : Nat) (v : FltSrc) (d : Dev) : Dev := { d with flt := { d.flt with srcs := tabPut {} d.flt.srcs i v } }

/-- Two pulse events of a source whose pair is busy travel in one report: the higher severity's detail word, the earlier
among equals, and the sum of the counts (R471). -/
def coalesce (a b : Report) : Report :=
  { (if a.sev < b.sev then b else a) with count := satAdd 12 a.count b.count }

/-- How many pulse reports of a source stand on the list. -/
def pulsesOf (i : Nat) (l : List Report) : Nat := (l.filter fun r => r.src == i && !r.level).length

/-- Merges a pulse report into the last one of its source. -/
def mergeLast (r : Report) : List Report → List Report
  | [] => []
  | p :: t => if p.src == r.src && !p.level && pulsesOf r.src t == 0 then coalesce p r :: t else p :: mergeLast r t

/-- Is a level report of the same code and subject already presented or standing? (R537) -/
def levelStands (d : Dev) (r : Report) : Bool :=
  d.flt.presented.any (fun p => p.src == r.src && p.level && p.code == r.code && p.subject == r.subject) ||
    (fltSrc d r.src).levels.any (fun p => p.code == r.code && p.subject == r.subject)

/-- A source reports (R471): a pulse report waits behind at most one other of its source, further events are counted into
it; a level report that already stands is not made again (R537). -/
def report (r : Report) (d : Dev) : Dev :=
  if r.level then
    if levelStands d r then d else { d with flt := { d.flt with presented := d.flt.presented ++ [r] } }
  else if pulsesOf r.src d.flt.presented < 2 then
    { d with flt := { d.flt with presented := d.flt.presented ++ [r] } }
  else { d with flt := { d.flt with presented := mergeLast r d.flt.presented } }

/-- A pulse report of severity `sev`. -/
def pulse (src code sev subject info : Nat) (d : Dev) : Dev :=
  report { src := src, code := code, sev := sev, subject := subject, info := info } d

/-- A level report of severity `sev`. -/
def level (src code sev subject info : Nat) (d : Dev) : Dev :=
  report { src := src, code := code, sev := sev, level := true, subject := subject, info := info } d

/-- A level condition ends (R537): its level report no longer stands. -/
def levelEnd (src code subject : Nat) (d : Dev) : Dev :=
  let f := fltSrc d src
  setFltSrc src { f with levels := f.levels.filter fun p => !(p.code == code && p.subject == subject) } d

/-- The place of a register as MBX_PARITY_LAST gives it (R367). -/
def parityPlace (key : Nat) : Nat := key % 0x4000000 / 4096 + key % 1024 / 4 * 2 ^ 14

/-- An accepted write to a register computes its parity bit anew, and a mismatch there ends (R367). -/
def mend (key : Nat) (d : Dev) : Dev :=
  if d.parityBad.contains key then
    levelEnd 15 0x0032 (parityPlace key) { d with parityBad := d.parityBad.filter (· != key) }
  else d

/-! ## Interrupts (R392) -/

/-- The tenant slot of a function's message, 0 to 255, or the physical function (256). -/
def tenantOf (d : Dev) (t : Nat) : Tenant := tabGet {} d.tenants t

/-- Changes a tenant slot. -/
def setTenant (t : Nat) (v : Tenant) (d : Dev) : Dev := { d with tenants := tabPut {} d.tenants t v }

/-- The tenant slot that owns session slot s, or 0xFFFF (R42). -/
def ownerOf (d : Dev) (s : Nat) : Nat := objGet d 0x3000 s

/-- Is a write of source n to the doorbell kept, or dropped because its route is disabled or its tenant unbound (R392)? -/
def irqRouted (d : Dev) (n : Nat) : Bool :=
  if n < 8 || n == 18 || n == 19 || (decide (32 ≤ n) && decide (n < 56)) then true
  else if n == 16 || n == 17 then bit (regGet d (Reg.irqRoute.at n)) 10
  else if 96 ≤ n && n < 104 then true
  else if 128 ≤ n && n < 384 then
    decide (ownerOf d (n - 128) < 256) && decide ((tenantOf d (ownerOf d (n - 128))).st ≠ 0)
  else if 384 ≤ n && n < 640 then decide ((tenantOf d (n - 384)).st ≠ 0)
  else if 640 ≤ n && n < 896 then decide ((tenantOf d (n - 640)).st ≠ 0)
  else false

/-- A block writes source n to the controller's doorbell (R392); `eoc` marks a completion with EOC (R395). -/
def raiseEoc (n : Nat) (eoc : Bool) (d : Dev) : Dev :=
  if irqRouted d n then
    { d with irq := tabUpd {} d.irq n fun e => { n := e.n + 1, eoc := e.eoc || eoc } }
  else d

/-- A block writes source n to the controller's doorbell (R392). -/
def raise (n : Nat) (d : Dev) : Dev := raiseEoc n false d

/-- A security event (R453): source 3, SEC_EVENT_CNT, 0x5135:0 and SEC_EVENT_LAST. -/
def secEvent (cause subject : Nat) (d : Dev) : Dev :=
  regSet Reg.secEventLast.base (cause + subject % 512 * 2 ^ 4)
    (raise 3 (objCount 32 0x5135 0 1 (regCount Reg.secEventCnt.base 1 d)))

/-! ## Queues and events (R379 to R385) -/

/-- The number of the physical function among functions. -/
def pfFn : Nat := 256

/-- The key of submission queue q of function fn. -/
def sqKey (fn q : Nat) : Nat := 32 * fn + q
/-- The key of completion queue q of function fn. -/
def cqKey (fn q : Nat) : Nat := 32 * fn + 8 + q
/-- The key of the event queue of function fn. -/
def eqKey (fn : Nat) : Nat := 32 * fn + 16

/-- A queue. -/
def ring (d : Dev) (k : Nat) : Ring := tabGet {} d.rings k
/-- Changes a queue. -/
def setRing (k : Nat) (r : Ring) (d : Dev) : Dev := { d with rings := tabPut {} d.rings k r }

/-- The object that configures a queue: its index and sub-index (R379, R380). -/
def queueObj (k : Nat) : Nat × Nat :=
  let fn := k / 32
  let n := k % 32
  if fn = 256 then (if n < 8 then 0x1120 + n else if n < 16 then 0x1128 + (n - 8) else 0x1130, 0)
  else (if n = 0 then 0x2040 else if n = 1 then 0x2041 else if n = 8 then 0x2042 else 0x2043, fn)

/-- The value of a queue's object. -/
def queueCfg (d : Dev) (k : Nat) : Nat := objGet d (queueObj k).1 (queueObj k).2
/-- The entries of a queue's ring: 2^LOG2 (R379). -/
def ringSize (d : Dev) (k : Nat) : Nat := 2 ^ byteAt (queueCfg d k) 8
/-- The MSI-X vector of a queue (R380). -/
def queueVector (d : Dev) (k : Nat) : Nat := byteAt (queueCfg d k) 9
/-- The link over which a queue of the physical function is served (R380). -/
def queueLink (d : Dev) (k : Nat) : Nat := bits (byteAt (queueCfg d k) 10) 2 2

/-- Function fn's queue page state. -/
def fnQ (d : Dev) (fn : Nat) : FnQ := tabGet {} d.fnq fn
/-- Changes function fn's queue page state. -/
def setFnQ (fn : Nat) (q : FnQ) (d : Dev) : Dev := { d with fnq := tabPut {} d.fnq fn q }

/-- The next index of a ring and the phase after it (R383). -/
def ringAdvance (size : Nat) (r : Ring) : Ring :=
  if r.tail + 1 < size then { r with tail := r.tail + 1, count := r.count + 1 }
  else { r with tail := 0, phase := !r.phase, count := r.count + 1 }

/-- The bytes of an event entry (R384). -/
def eventBytes (ty kind : Nat) (phase : Bool) (code subject time detail : Nat) : Nat :=
  ty + kind * 2 ^ 8 + b2n phase * 2 ^ 16 + code * 2 ^ 24 + subject % 2 ^ 32 * 2 ^ 32 + time % 2 ^ 64 * 2 ^ 64 +
    detail % 2 ^ 128 * 2 ^ 128

/-- Writes one event entry at the tail of fn's event queue. -/
def writeEvent (fn ty kind code subject detail : Nat) (d : Dev) : Dev :=
  let k := eqKey fn
  let r := ring d k
  setRing k (ringAdvance (ringSize d k) r)
    (emit (.entry fn 16 r.tail (eventBytes ty kind r.phase code subject d.tbs.ns detail)) d)

/-- An event for fn (R384): written while at least two slots of its event queue are free, after a TYPE 7 KIND 2 entry
with the count lost since the last one; otherwise counted as lost. -/
def postEvent (fn ty kind code subject detail : Nat) (d : Dev) : Dev :=
  let k := eqKey fn
  let r := ring d k
  let q := fnQ d fn
  if r.on && decide (r.count + 2 ≤ ringSize d k) then
    let d1 :=
      if q.lostSince = 0 then d
      else writeEvent fn 7 2 0 0 q.lostSince (setFnQ fn { q with lostSince := 0 } d)
    raise (if fn = pfFn then 16 else 384 + fn) (writeEvent fn ty kind code subject detail d1)
  else
    let d1 := setFnQ fn { q with lost := satAdd 32 q.lost 1, lostSince := satAdd 32 q.lostSince 1 } d
    if fn = pfFn then d1 else objCount 32 0x5121 fn 1 d1

/-- An event for the tenant that owns session slot s, if the slot has an owner. -/
def postTenant (s ty kind code subject detail : Nat) (d : Dev) : Dev :=
  if ownerOf d s < 256 then postEvent (ownerOf d s) ty kind code subject detail d else d

/-! ## Requests that reach a function (R358, R436) -/

/-- The configuration in force of a port: 0 one x16 link, 1 two x8 links, 2 off (R347). -/
def portConfig (d : Dev) (port : Nat) : Nat := bits (objGet d 0x1107 0) (2 * port) 2

/-- Does link i exist in the configuration in force? -/
def linkPresent (d : Dev) (i : Nat) : Bool :=
  let c := portConfig d (i / 2)
  if i % 2 = 0 then c == 0 || c == 1 else c == 1

/-- The link behind which a bound function lies (R37, R351). -/
def linkOfFn (d : Dev) (fn : Nat) : Nat :=
  let port := bits fn 15 1
  2 * port + (if portConfig d port = 1 && decide (128 < bits fn 0 9) then 1 else 0)

/-- The link of the virtual function of a tenant. -/
def tenantLink (d : Dev) (t : Nat) : Nat := linkOfFn d (tenantOf d t).bound

/-- A link. -/
def link (d : Dev) (i : Nat) : Link := tabGet {} d.links i
/-- Changes a link. -/
def setLink (i : Nat) (v : Link) (d : Dev) : Dev := { d with links := tabPut {} d.links i v }

/-- Does a request of this caller reach its function: is Memory Space Enable, or VF MSE, set (R358)? -/
def reaches (d : Dev) : Caller → Bool
  | .pf l => (link d l).mse
  | .vf t _ => (link d (tenantLink d t)).vfMse
  | _ => true

/-- Is it refused under R436: an interface in RUN takes requests on its bound IDE stream only? -/
def ideRefuses (d : Dev) : Caller → Bool
  | .vf t tee => !tee && tabGet 0 d.sec.tdisp (tenantOf d t).bound == 2
  | _ => false

/-- A request to a BAR of a function (R358, R436): one that does not reach it has no effect; one that R436 refuses is
counted. -/
def gateOf (who : Caller) (f : Dev → Dev) (d : Dev) : Dev :=
  if !reaches d who then d
  else if ideRefuses d who then
    match who with
    | .vf t _ => objCount 32 0x5030 t 1 d
    | _ => d
  else f d

/-- The same, with the pages dark during a warm reset (R511). -/
def hostGate (who : Caller) (f : Dev → Dev) (d : Dev) : Dev :=
  if d.pwr.resetAt.isSome then d else gateOf who f d

/-! ## Dropped register writes (R366) -/

/-- The last-error register of the page that holds a place, and its PAGE bit. -/
def lastErrOf (key : Nat) : Option (Nat × Nat) :=
  if key < 0x4000000 then
    let p := key / 4096
    if p = 0 then some (Reg.mbxLastErr.base, 0)
    else if p = 1 || p = 2 then some (Reg.mbxMbLastErr.base, 0)
    else if p = 6 then some (Reg.irqLastErr.base, 0) else if p = 7 then some (Reg.irqLastErr.base, 1)
    else if p = 0x10 then some (Reg.tbsLastErr.base, 0) else if p = 0x11 then some (Reg.pwrLastErr.base, 0)
    else if 0x12 ≤ p && p ≤ 0x15 then some (Reg.fltLastErr.base, (p - 0x12) % 2)
    else if p = 0x18 then some (Reg.dsrLastErr.base, 0)
    else if p = 0x19 then some (Reg.secLastErr.base, 0) else if p = 0x1A then some (Reg.secLastErr.base, 1)
    else if p = 0x20 then some (Reg.loomLastErr.base, 0) else if p = 0x21 then some (Reg.loomRcLastErr.base, 0)
    else if p = 0x22 then some (Reg.slvLastErr.base, 0)
    else if p = 0x23 then some (Reg.dmaIntakeLastErr.base, 0) else if p = 0x24 then some (Reg.dmaIntakeLastErr.base, 1)
    else if p = 0x29 then some (Reg.dmaQLastErr.base, 0)
    else if 0x28 ≤ p && p ≤ 0x2F then some (Reg.dmaLastErr.base, 0)
    else if p = 0x30 then some (Reg.pkeLastErr.base, 0) else if p = 0x31 then some (Reg.pkeIgrLastErr.base, 0)
    else if p = 0x40 then some (Reg.dmcLastErr.base, 0) else if p = 0x41 then some (Reg.dmcLastErr.base, 1)
    else if p = 0x42 then some (Reg.wrdLastErr.base, 0)
    else if 0x100 ≤ p && p < 0x160 then some (Reg.tileLastErr.at (p - 0x100), 0)
    else none
  else
    let t := key / 0x4000000 - 1
    let p := key % 0x4000000 / 4096
    if p = 0 then some (Reg.vfDbLastErr.vfAt t 0, 0) else if p = 1 then some (Reg.vfQLastErr.vfAt t 0, 0)
    else if p = 2 then some (Reg.vfIrqLastErr.vfAt t 0, 0)
    else if p = 3 || p = 4 then some (Reg.vfMbLastErr.vfAt t 0, 0)
    else none

/-- The link of a caller, 0 where it has none. -/
def linkOf : Caller → Nat
  | .pf l => l
  | _ => 0

/-- A write dropped with a code (R366): CODE and OFFSET of the page's last-error register are overwritten (a doorbell
page's takes SLOT, BAND and FRAME 0), and MBX_REJECT_CNT rises by 1. -/
def regDrop (who : Caller) (key : Nat) (e : Err) (d : Dev) : Dev :=
  let off := key % 1024 / 4
  let d1 :=
    match lastErrOf key with
    | none => d
    | some (r, page) =>
      if decide (0x4000000 ≤ key) && key % 0x4000000 / 4096 == 0 then regSet r e.code d
      else if r = Reg.mbxLastErr.base then regSet r (e.code + off * 2 ^ 8 + linkOf who * 2 ^ 17) d
      else regSet r (e.code + off * 2 ^ 8 + page * 2 ^ 16) d
  regCount Reg.mbxRejectCnt.base 1 d1

/-- Are the pages of the physical function reached by this caller? (R369, R481) -/
def reachesPf : Caller → Bool
  | .pf _ => true
  | .firmware => true
  | _ => false

/-- Is a place in the PWR_ or FLT_ pages, which answer during a warm reset (R511)? -/
def inPwrFlt (key : Nat) : Bool :=
  let p := key / 4096
  decide (0x11 ≤ p) && decide (p ≤ 0x15)

/-- A write of a register of the physical function's pages (R365, R486, R511): a virtual function does not reach it; in the
safe state a write through PCIe is dropped with E_STATE unless it is one of those R486 lists; during a warm reset only the
PWR_ and FLT_ pages take writes. -/
def regGate (who : Caller) (key : Nat) (safeOk : Bool) (f : Dev → Dev) (d : Dev) : Dev :=
  if !reachesPf who || (d.pwr.resetAt.isSome && !inPwrFlt key && who != .firmware) then d
  else gateOf who (fun d => if d.flt.safe && !safeOk && who != .firmware then regDrop who key .state d else f d) d

/-! ## Error codes (R20, R21) -/

/-- The lowest-numbered code of those earned (R21). -/
def lowest : List Err → Option Err
  | [] => none
  | e :: t =>
    match lowest t with
    | none => some e
    | some f => if e.code ≤ f.code then some e else some f

/-- The codes of the checks that fail, for rules that take the lowest (R21). -/
def earned : List (Bool × Err) → List Err
  | [] => []
  | (b, e) :: t => if b then e :: earned t else earned t

/-- The code of the first check that fails, for rules whose checks are made in table order (R21). -/
def firstOf : List (Bool × Err) → List Err
  | [] => []
  | (b, e) :: t => if b then [e] else firstOf t

/-! ## The form of a meaning -/

/-- Is the whole device held in power-on reset: POR_N low, or VDD_AON gone (R510, R520)? -/
def isHeld (d : Dev) : Bool := d.pwr.porLow || d.pwr.aonDown
/-- A command whose effect on the block is `f`, held in reset or not: the queue is not touched. -/
def actHeld (f : Dev → Dev) (s : State) : Host.Outcome State Fault Refusal := .next { s with dev := f s.dev }
/-- A command whose effect on the block is `f`; a device that is held in reset does nothing. -/
def act (f : Dev → Dev) (s : State) : Host.Outcome State Fault Refusal :=
  actHeld (fun d => if isHeld d then d else f d) s

/-- As `act`, for a command that names a unit: it faults where the spec says no such unit exists. -/
def actOn (unit : Bool) (f : Dev → Dev) (s : State) : Host.Outcome State Fault Refusal :=
  if unit then act f s else .fault .noSuchUnit

/-- There are 256 session slots, tenant slots and lining slots (R36, R42, R199). -/
def isSlot (s : Nat) : Bool := decide (s < 256)
/-- There are 96 tiles. -/
def isTile (t : Nat) : Bool := decide (t < 96)
/-- There are 16 DRAM channels. -/
def isChan (c : Nat) : Bool := decide (c < 16)
/-- There are 8 logical Ethernet ports. -/
def isPort (p : Nat) : Bool := decide (p < 8)
/-- There are 4 links. -/
def isLink (l : Nat) : Bool := decide (l < 4)

end Sys2Proof.Machine
end

