-- ==== Sys2Proof/Machine/Requests.lean ====
section
/-! DEFINITION. Spays requests (16): who may do what, the checks of a critical command, responses and mailboxes. -/
namespace Sys2Proof.Machine

/-- A session slot. -/
def sess (d : Dev) (s : Nat) : Session := tabGet {} d.sess s
/-- Changes a session slot. -/
def setSess (s : Nat) (v : Session) (d : Dev) : Dev := { d with sess := tabPut {} d.sess s v }

/-! ## Rights (R41, R42, R399, R402) -/

/-- Whose sub-index a statistics object of 0x5000 to 0x5FFF takes (R41). -/
inductive StatOf where
  | session | tenant | lining | device
deriving DecidableEq, Repr

/-- The owner kind of a statistics object. -/
def statOf (idx : Nat) : StatOf :=
  if idx = 0x5012 || (decide (0x5080 ≤ idx) && decide (idx ≤ 0x5084)) then .lining
  else if idx = 0x5030 || idx = 0x5110 || idx = 0x5120 || idx = 0x5121 || idx = 0x5130 || idx = 0x5131 || idx = 0x5134 then
    .tenant
  else if idx = 0x5010 || idx = 0x5011 || (decide (0x5020 ≤ idx) && decide (idx ≤ 0x5026)) ||
      (decide (0x5040 ≤ idx) && decide (idx ≤ 0x5069)) || (decide (0x50A0 ≤ idx) && decide (idx ≤ 0x50C5)) ||
      (decide (0x50F0 ≤ idx) && decide (idx ≤ 0x50F3)) then .session
  else .device

/-- Does the object hold key material (R399, R442)? -/
def isKeyMaterial (idx : Nat) : Bool :=
  (decide (0x3180 ≤ idx) && decide (idx < 0x31C0)) || (decide (0x2060 ≤ idx) && decide (idx < 0x2070))

/-- The objects at tenant and session sub-indices whose writes a rule reserves to the physical function (R37, R42, R87,
R331). -/
def pfOnly (idx : Nat) : Bool :=
  (decide (0x2001 ≤ idx) && decide (idx ≤ 0x2004)) || (decide (0x2020 ≤ idx) && decide (idx < 0x2030)) ||
    idx == 0x3000 || idx == 0x3004 || idx == 0x3036

/-- The objects open to the virtual function of tenant t at a sub-index (R41). -/
def opensTo (d : Dev) (t idx sub : Nat) : Bool :=
  if idx < 0x1100 then true
  else if 0x1204 ≤ idx && idx ≤ 0x1207 then true
  else if idx < 0x2000 then false
  else if idx < 0x3000 then sub == t
  else if idx < 0x4000 then ownerOf d sub == t
  else if idx < 0x5000 then objGet d 0x4002 sub == t
  else
    match statOf idx with
    | .session => ownerOf d sub == t
    | .tenant => sub == t
    | .lining => objGet d 0x4002 sub == t
    | .device => false

/-- May the caller write the object, its access class apart (R37, R41, R42, R331, R402)? -/
def mayWrite (d : Dev) (who : Caller) (idx sub : Nat) : Bool :=
  match who with
  | .firmware => true
  | .vf t _ => opensTo d t idx sub && !pfOnly idx && decide (0x2000 ≤ idx) && decide (idx < 0x4000)
  | .pf _ => decide (idx < 0x2000) || pfOnly idx || decide (0x4000 ≤ idx)
  | .node n =>
    d.dsr.masterId == some n && objGet d 0x1C06 0 == 1 && idx != 0x1C06 &&
      (decide (idx < 0x2000) || pfOnly idx || decide (0x4000 ≤ idx))

/-- May the caller read the object, its access class apart (R41, R402, R442)? -/
def mayRead (d : Dev) (who : Caller) (idx sub : Nat) : Bool :=
  match who with
  | .vf t _ => opensTo d t idx sub && !isKeyMaterial idx
  | _ => !isKeyMaterial idx

/-- May the caller describe the object (R405)? The physical function may describe every object. -/
def mayDescribe (d : Dev) (who : Caller) (idx sub : Nat) : Bool :=
  match who with
  | .vf t _ => opensTo d t idx sub
  | _ => true

/-- The path of a caller: 0 the mailbox, 1 the Drawstring (R407). -/
def pathOf : Caller → Nat
  | .node _ => 1
  | _ => 0

/-- May a CRITICAL request of this caller use the context (R402, R408)? -/
def ctxAllowed (d : Dev) (who : Caller) (ctx : Nat) : Bool :=
  match who with
  | .vf t _ => ctx == t
  | .pf _ => ctx == 256
  | .node n => decide (ctx ≤ 256) || (ctx == 257 && objGet d 0x1401 0 == n)
  | .firmware => false

/-- Is the RWC object one of those the context's key opens (R408)? -/
def ctxObject (d : Dev) (ctx idx sub : Nat) : Bool :=
  if ctx < 256 then
    (decide (0x2000 ≤ idx) && decide (idx < 0x3000) && sub == ctx) ||
      (decide (0x3000 ≤ idx) && decide (idx < 0x4000) && ownerOf d sub == ctx)
  else if ctx = 256 then idx == 0x1610 || idx == 0x1611
  else idx == 0x140D

/-- Has the context an installed key (R407, R408)? -/
def ctxKeyed (d : Dev) (ctx : Nat) : Bool :=
  if ctx < 256 then (tenantOf d ctx).st == 2 else if ctx = 256 then d.sec.opKeyed else d.pair.keyed

/-- The codes of a request to an index and sub-index (R397). -/
def nameErrs (idx sub : Nat) : List Err :=
  match objRowOf idx with
  | none => [.index]
  | some r => if r.hasSub sub then [] else [.subindex]

/-! ## Responses (R404, R405, R412) -/

/-- The mailbox of a caller: its number and the place of its response registers. -/
def mboxOf : Caller → Option (Nat × Nat × Nat)
  | .pf _ => some (256, Reg.mbxRspData.at 0, Reg.mbxRspStat.base)
  | .vf t _ => some (t, Reg.vfRspData.vfAt t 0, Reg.vfRspStat.vfAt t 0)
  | _ => none

/-- A mailbox. -/
def mbox (d : Dev) (k : Nat) : Mbox := tabGet {} d.mbox k
/-- Changes a mailbox. -/
def setMbox (k : Nat) (m : Mbox) (d : Dev) : Dev := { d with mbox := tabPut {} d.mbox k m }

/-- The 20-byte header of a response (R404). -/
def headerBytes (op status idx sub ctx off len total tag : Nat) : Nat :=
  1 + (op + 0x80) * 2 ^ 8 + status * 2 ^ 16 + idx % 65536 * 2 ^ 32 + sub % 256 * 2 ^ 48 + ctx % 65536 * 2 ^ 64 +
    off % 65536 * 2 ^ 80 + len % 65536 * 2 ^ 96 + total % 65536 * 2 ^ 112 + tag % 2 ^ 32 * 2 ^ 128

/-- Writes the words of a value of `n` dwords from a place of the register file on. -/
def putWords : Nat → Nat → Nat → Dev → Dev
  | 0, _, _, d => d
  | n + 1, key, v, d => putWords n (key + 4) (v / 2 ^ 32) (regSet key v d)

/-- The request of a caller's mailbox leaves the list of those waiting (one request at a time, R412). -/
def takeWaiting (who : Caller) : List Waiting → List Waiting
  | [] => []
  | w :: t => if mboxOf w.who == mboxOf who then t else w :: takeWaiting who t

/-- The response is posted in the caller's mailbox, if it waits for one: data, VALID, then BUSY cleared; the physical
function's raises source 17 (R412). -/
def postMailbox (who : Caller) (len msg : Nat) (d : Dev) : Dev :=
  match mboxOf who with
  | none => d
  | some (k, data, _) =>
    let m := mbox d k
    if !m.busy then d
    else
      let d1 := setMbox k { m with busy := false, valid := true, rspSeq := m.seq, rspLen := len }
        (putWords ((len + 3) / 4) data msg { d with waiting := takeWaiting who d.waiting })
      if k = 256 then raise 17 d1 else d1

/-- A response to a node of the Drawstring waits for the token (R417). -/
def postRing (who : Caller) (op idx sub tag : Nat) (d : Dev) : Dev :=
  match who with
  | .node n =>
    { d with dsr := { d.dsr with
      own := d.dsr.own ++ [{ dst := n, ty := 1, op := op + 0x80, idx := idx, sub := sub, tag := tag }] } }
  | _ => d

/-- A response leaves: its OP, STATUS and payload, with the fields of the request echoed (R404, R405, R412). -/
def respond (q : Req) (op : Nat) (e : Err) (idx sub off total len payload : Nat) (d : Dev) : Dev :=
  let ctx := match q.crit with
    | some c => c.ctx
    | none => 0xFFFF
  let n := if e = .ok then len else 0
  let msg := headerBytes op e.code idx sub ctx off n total q.tag + (if e = .ok then payload % 256 ^ n else 0) * 2 ^ 160
  postRing q.who op idx sub q.tag <| postMailbox q.who (20 + n) msg <|
    (emit (.response q.who (op + 0x80) e.code idx sub q.tag n (payload % 256 ^ n)) d)

/-! ## Writes and critical commands (R399, R407) -/

/-- The safe state refuses every CRITICAL request and every WRITE but those of R486. -/
def safeErrs (d : Dev) (crit : Bool) (idx : Nat) : List Err :=
  if d.flt.safe && (crit || !(idx == 0x1505 || idx == 0x1506 || idx == 0x1202)) then [.state] else []

/-- The codes a request to write an object earns by its access class and its caller (R397, R399, R402, R408). -/
def accessErrs (d : Dev) (q : Req) (idx sub : Nat) : List Err :=
  match objRowOf idx with
  | none => [.index]
  | some r =>
    let byClass := match r.acc, q.crit with
      | .rwc, some _ => false
      | .rwc, none => true
      | .ro, _ => true
      | _, some _ => true
      | _, none => false
    let byCaller := match q.crit with
      | some c => !(ctxAllowed d q.who c.ctx && ctxObject d c.ctx idx sub)
      | none => !mayWrite d q.who idx sub
    (if r.hasSub sub then [] else [.subindex]) ++ (if byClass || byCaller then [.access] else [])

/-- Does an ARM wait on this context and path (R60)? -/
def ctxWaits (d : Dev) (ctx path : Nat) : Bool :=
  d.sess.any fun e =>
    match e.2.armWait with
    | none => false
    | some w =>
      pathOf w.req.who == path &&
        match w.req.crit with
        | some c => c.ctx == ctx
        | none => false

/-- The last critical counter of a context on a path (R407). -/
def lastOf (d : Dev) (ctx path : Nat) : Nat := tabGet 0 d.lastCtr (2 * ctx + path)

/-- The codes a critical request earns by its key, its check and its counter (R407), and while an ARM waits (R60). -/
def authErrs (d : Dev) (who : Caller) (c : Crit) : List Err :=
  (if !ctxKeyed d c.ctx then [.state] else if !c.macOk then [.auth] else []) ++
    (if c.counter ≤ lastOf d c.ctx (pathOf who) then [.replay] else []) ++
    (if ctxWaits d c.ctx (pathOf who) then [.busy] else [])

/-- last[c][p] takes the counter; the context has an accepted request (R407, R411). -/
def setLast (who : Caller) (c : Crit) (d : Dev) : Dev :=
  { d with
    lastCtr := tabPut 0 d.lastCtr (2 * c.ctx + pathOf who) c.counter
    authSeen := tabPut false d.authSeen c.ctx false }

/-- last[c][p] of a context on both paths becomes 0 (R409); the next E_AUTH is again the first (R411). -/
def clearLast (ctx : Nat) (d : Dev) : Dev :=
  { d with
    lastCtr := tabErase (tabErase d.lastCtr (2 * ctx)) (2 * ctx + 1)
    authSeen := tabPut false d.authSeen ctx false }

/-- A refused critical request is counted (R411); the first E_AUTH on its context is a security event (R453). -/
def countRefused (c : Crit) (e : Err) (d : Dev) : Dev :=
  if e = .auth then
    let d1 := if c.ctx < 256 then objCount 32 0x5130 c.ctx 1 d else objCount 32 0x5132 0 1 d
    if tabGet false d1.authSeen c.ctx then d1
    else secEvent 2 c.ctx { d1 with authSeen := tabPut false d1.authSeen c.ctx true }
  else if e = .replay then
    if c.ctx < 256 then objCount 32 0x5131 c.ctx 1 d else objCount 32 0x5133 0 1 d
  else d

/-- The OP of a request to write: 3 CRITICAL, 2 WRITE (R404). -/
def opOf (q : Req) : Nat := if q.crit.isSome then 3 else 2

/-- A request is refused with a code: nothing but the counts of R411 changes. -/
def refuse (q : Req) (idx sub : Nat) (e : Err) (d : Dev) : Dev :=
  match q.crit with
  | none => respond q 2 e idx sub 0 0 0 0 d
  | some c => respond q 3 e idx sub 0 0 0 0 (countRefused c e d)

/-- A request is accepted: the counter is taken, the response carries it (R405, R407). -/
def accept (q : Req) (idx sub : Nat) (d : Dev) : Dev :=
  match q.crit with
  | none => respond q 2 .ok idx sub 0 0 0 0 d
  | some c => respond q 3 .ok idx sub 0 0 8 c.counter (setLast q.who c d)

/-- Every code a request to write an object earns, its own checks `own` among them (R21, R407). -/
def writeErrs (q : Req) (idx sub : Nat) (own : List Err) (d : Dev) : List Err :=
  accessErrs d q idx sub ++ safeErrs d q.crit.isSome idx ++ own ++
    match q.crit with
    | some c => authErrs d q.who c
    | none => []

/-- Does the management controller serve the dictionary: its firmware runs, no warm reset is in progress, the package is in
Run or Doze (R495, R511, R519)? -/
def served (d : Dev) : Bool := d.pwr.booted && d.pwr.resetAt.isNone && decide (d.pwr.state < 2)

/-- A write of an object at its instant: `bad` with the lowest code it earns, or `good` (R21, R399, R407); while the
dictionary is not served a request waits. -/
def decideWrite (q : Req) (idx sub : Nat) (own : Dev → List Err) (bad : Err → Dev → Dev) (good : Dev → Dev) (d : Dev) : Dev :=
  let d0 := atTime q.now d
  if !served d0 then d0
  else
    match lowest (writeErrs q idx sub (own d0) d0) with
    | some e => bad e d0
    | none => good d0

/-- A write of an object: refused with the lowest code it earns, or performed and answered. -/
def perform (q : Req) (idx sub : Nat) (own : Dev → List Err) (f : Dev → Dev) (d : Dev) : Dev :=
  decideWrite q idx sub own (refuse q idx sub) (fun d0 => accept q idx sub (f d0)) d

/-- The type check of R398: a payload length that the object does not allow. -/
def typeErrs (idx : Nat) (v : Payload) : List Err :=
  match objRowOf idx with
  | none => []
  | some r => if v.len < r.lenMin || r.lenMax < v.len then [.type] else []

/-- The range check of an object's row; BOOL takes 0 or 1 (R398). -/
def rangeErrs (idx : Nat) (v : Payload) : List Err :=
  match objRowOf idx with
  | none => []
  | some r => if (r.ty == .bool && decide (1 < v.val)) || !r.rng.has v.val then [.range] else []

end Sys2Proof.Machine
end

