-- ==== Sys2Proof/Machine/Blocks.lean ====
section
/-! DEFINITION. Pools, frames, blocks and handles (13: R323 to R333). -/
namespace Sys2Proof.Machine

/-! ## Channels and pairs -/

/-- A DRAM controller. -/
def chan (d : Dev) (c : Nat) : Chan := tabGet {} d.chans c
/-- Changes a DRAM controller. -/
def setChan (c : Nat) (v : Chan) (d : Dev) : Dev := { d with chans := tabPut {} d.chans c v }
/-- The state of a channel, 0x1801:c (R322). -/
def chanState (d : Dev) (c : Nat) : Nat := objGet d 0x1801 c
/-- The state becomes `v`. -/
def setChanState (c v : Nat) (d : Dev) : Dev := objSet 0x1801 c v d
/-- Is a channel in service (R303)? -/
def inService (d : Dev) (c : Nat) : Bool := chanState d c == 3 || chanState d c == 4
/-- The channels in service. -/
def servingChans (d : Dev) : List Nat := (List.range 16).filter (inService d)
/-- The state of a pair, 0x1817:p (R341). -/
def pairState (d : Dev) (p : Nat) : Nat := objGet d 0x1817 p
/-- The capacity of a channel in bytes (R301, R322). -/
def chanCapacity (d : Dev) : Nat := bytesAt (objGet d 0x1800 0) 8 8
/-- The transfer rate in MT/s (R302, R322). -/
def transferRate (d : Dev) : Nat := bytesAt (objGet d 0x1800 0) 4 2
/-- The ranks of a channel (R322). -/
def chanRanks (d : Dev) : Nat := byteAt (objGet d 0x1800 0) 6
/-- The DRAM budget in MB/s (R303). -/
def dramBudget (d : Dev) : Nat := 8 * transferRate d * 8 * (servingChans d).length / 10
/-- The fill mark of a channel (R337). -/
def fillMark (d : Dev) (c : Nat) : Nat := objGet d 0x1811 c

/-- Once firmware runs and the ring is up or open, every untrained channel begins its training (R307, R426 step 5). -/
def beginTraining (d : Dev) : Dev :=
  if d.pwr.booted && d.pwr.others && decide (4 ≤ d.dsr.ring) then
    forEach ((List.range 16).filter fun c => chanState d c == 1)
      (fun c d => setChan c { chan d c with trainStart := d.tbs.ns, helper := 0 } (setChanState c 2 d)) d
  else d

/-! ## Frames (R324, R325) -/

/-- The Wardrobe. -/
def setWrd (w : Wrd) (d : Dev) : Dev := { d with wrd := w }
/-- The bytes of a block of a size code: 4 KiB, 64 KiB, 1 MiB, 4 MiB and so on by 4 up to 1 GiB (R323). -/
def blockSize (code : Nat) : Nat :=
  if code = 0 then 4096 else if code = 1 then 65536 else 1048576 * 4 ^ (code - 2)
/-- The same in units of 4 KiB. -/
def blockGran (code : Nat) : Nat := blockSize code / 4096
/-- Units of 4 KiB in a frame of 1 GiB. -/
def frameGran : Nat := 262144
/-- Is it a mirrored pool? -/
def isMirrored (pool : Nat) : Bool := decide (8 ≤ pool)
/-- The key of a block. -/
def blockKey (pool chan off : Nat) : Nat := (chan * 536870912 + off) * 16 + pool
/-- The place of a frame in the list of those given. -/
def frameKey (chan f : Nat) : Nat := chan * 4096 + f

/-- Frames of a channel that may be used: below the top one (R324) and below the fill mark (R337). -/
def usableFrames (d : Dev) (c : Nat) : Nat := min (chanCapacity d / 1073741824 - 1) (fillMark d c / 1073741824)

/-- May the pool use frames of this channel (the even one of a pair) now (R325)? -/
def poolServed (d : Dev) (pool c : Nat) : Bool :=
  if isMirrored pool then c % 2 == 0 && pairState d (c / 2) == 0 else inService d c

/-- The usable frames there for the pool. -/
def poolFrames (d : Dev) (pool c : Nat) : Nat :=
  if isMirrored pool then min (usableFrames d c) (usableFrames d (c + 1)) else usableFrames d c

/-- Is the frame free, on both channels for a mirrored pool? -/
def frameFree (d : Dev) (pool c f : Nat) : Bool :=
  tabGet 0 d.wrd.frames (frameKey c f) == 0 && (!isMirrored pool || tabGet 0 d.wrd.frames (frameKey (c + 1) f) == 0)

/-- Frames taken on a channel below a limit. -/
def takenFrames (d : Dev) (c lim : Nat) : List Nat :=
  ((tabKeys d.wrd.frames).filter fun k => k / 4096 == c && decide (k % 4096 < lim)).map (· % 4096)

/-- How many free frames a channel, or pair, has for the pool. -/
def freeFrameCount (d : Dev) (pool c : Nat) : Nat :=
  let lim := poolFrames d pool c
  let a := takenFrames d c lim
  let b := if isMirrored pool then (takenFrames d (c + 1) lim).filter (fun f => !a.contains f) else []
  lim - a.length - b.length

/-- The places of the blocks of a frame, quarantined ones included, rising. -/
def occupied (d : Dev) (c f : Nat) : List Nat :=
  (d.wrd.blocks.filter fun e => e.2.chan == c && e.2.off / frameGran == f).map fun e => e.2.off

/-- The lowest place not listed, from `p` on by `g`. -/
def lowestFree (g : Nat) : Nat → List Nat → Nat
  | p, [] => p
  | p, o :: t => if o = p then lowestFree g (p + g) t else p

/-- The lowest free block in a frame given to the pool, if it has one. -/
def freeInFrame (d : Dev) (pool c f : Nat) : Option Nat :=
  let g := blockGran (pool % 8)
  let o := lowestFree g (f * frameGran) (occupied d c f)
  if o < (f + 1) * frameGran then some o else none

/-- The channel with the most free frames, the lowest among equals (R325). -/
def richest (d : Dev) (pool : Nat) : List Nat → Option (Nat × Nat)
  | [] => none
  | c :: t =>
    let n := freeFrameCount d pool c
    match richest d pool t with
    | none => if n = 0 then none else some (c, n)
    | some (c', n') => if n' ≤ n then some (c, n) else some (c', n')

/-- Step 1 of R325: the first free block of the frames already given to the pool. -/
def placeGiven (d : Dev) (pool : Nat) : List (Nat × Nat) → Option (Nat × Nat)
  | [] => none
  | (k, p) :: t =>
    let c := k / 4096
    let f := k % 4096
    if p = pool + 1 && poolServed d pool c && decide (f < poolFrames d pool c) then
      match freeInFrame d pool c f with
      | some o => some (c, o)
      | none => placeGiven d pool t
    else placeGiven d pool t

/-- Where the Wardrobe places a new block of a pool (R325): channel and place; none if no frame is free. -/
def placeBlock (d : Dev) (pool : Nat) : Option (Nat × Nat) :=
  match placeGiven d pool d.wrd.frames with
  | some r => some r
  | none =>
    match richest d pool ((List.range 16).filter (poolServed d pool)) with
    | none => none
    | some (c, _) =>
      match leastFrom (frameFree d pool c) (poolFrames d pool c) 0 with
      | none => none
      | some f => some (c, f * frameGran)

/-- The frame is given to the pool, on both channels for a mirrored pool (R324). -/
def giveFrame (pool c f : Nat) (w : Wrd) : Wrd :=
  let fr := tabSet w.frames (frameKey c f) (pool + 1)
  { w with frames := if isMirrored pool then tabSet fr (frameKey (c + 1) f) (pool + 1) else fr }

/-- The block at a key. -/
def blockAt (d : Dev) (k : Nat) : Option Block := tabFind d.wrd.blocks k

/-- Allocates a block: its key and the device after it (R325). -/
def allocBlock (pool owner : Nat) (use : Use) (d : Dev) : Option (Nat × Dev) :=
  match placeBlock d pool with
  | none => none
  | some (c, o) =>
    let w := giveFrame pool c (o / frameGran) d.wrd
    let k := blockKey pool c o
    some (k, setWrd { w with
      blocks := tabSet w.blocks k { pool := pool, chan := c, off := o, owner := owner, use := use } } d)

/-- Allocates a list of blocks in order; none if one finds no place. -/
def allocAll (owner : Nat) : List (Nat × Use) → Dev → Option Dev
  | [], d => some d
  | (pool, u) :: t, d =>
    match allocBlock pool owner u d with
    | none => none
    | some (_, d1) => allocAll owner t d1

/-- A frame whose last block is released is free again (R324). -/
def reclaimFrame (pool c f : Nat) (d : Dev) : Dev :=
  if (occupied d c f).isEmpty then
    let fr := tabErase d.wrd.frames (frameKey c f)
    setWrd { d.wrd with frames := if isMirrored pool then tabErase fr (frameKey (c + 1) f) else fr } d
  else d

/-- The first byte of a block in `mem`. -/
def blockMem (b : Block) : Nat := b.chan * 2199023255552 + b.off * 4096

/-- The stored bytes of a block are forgotten: what it holds is unspecified from now on (R327). -/
def forgetBytes (b : Block) (d : Dev) : Dev :=
  { d with mem := tabFilter (fun k => decide (k < blockMem b) || decide (blockMem b + blockSize (b.pool % 8) ≤ k)) d.mem }

/-- The generation of a block rises by 1 modulo 32,768 (R328). -/
def nextGen (k : Nat) (d : Dev) : Dev :=
  setWrd { d.wrd with gens := tabPut 0 d.wrd.gens k ((tabGet 0 d.wrd.gens k + 1) % 32768) } d

/-- One replacement that waits is tried again (R345). -/
def retryOne (d : Dev) : List (Nat × Nat × Use) → Dev × List (Nat × Nat × Use)
  | [] => (d, [])
  | (pool, owner, u) :: t =>
    match allocBlock pool owner u d with
    | some (_, d1) => retryOne d1 t
    | none => let r := retryOne d t; (r.1, (pool, owner, u) :: r.2)

/-- Replacements of a pool are tried again at each release in it (R345). -/
def retryWanted (pool : Nat) (d : Dev) : Dev :=
  let mine := d.wrd.wanted.filter fun e => e.1 == pool
  let rest := d.wrd.wanted.filter fun e => e.1 != pool
  let r := retryOne d mine
  setWrd { r.1.wrd with wanted := r.2 ++ rest } r.1

/-- A block is released (R324, R328, R330): a damaged one goes to quarantine (R345). -/
def releaseBlock (k : Nat) (d : Dev) : Dev :=
  match blockAt d k with
  | none => d
  | some b =>
    let d1 := nextGen k (forgetBytes b d)
    let d2 :=
      if b.damaged then setWrd { d1.wrd with blocks := tabSet d1.wrd.blocks k { b with quarantined := true } } d1
      else reclaimFrame b.pool b.chan (b.off / frameGran) (setWrd { d1.wrd with blocks := tabErase d1.wrd.blocks k } d1)
    retryWanted b.pool d2

/-- The keys of the blocks held whose use passes `p`. -/
def blocksWith (d : Dev) (p : Block → Bool) : List Nat :=
  (d.wrd.blocks.filter fun e => !e.2.quarantined && p e.2).map (·.1)

/-- Releases every block held whose use passes `p`. -/
def releaseUse (p : Use → Bool) (d : Dev) : Dev :=
  forEach (blocksWith d fun b => p b.use) releaseBlock
    (setWrd { d.wrd with wanted := d.wrd.wanted.filter fun e => !p e.2.2 } d)

/-- Is it a block of session s? -/
def Use.ofSession (s : Nat) : Use → Bool
  | .intake i | .recon i _ | .coarse i _ | .mezzRecon i _ | .mezzCoarse i _ | .save i | .store i | .queue i _ | .capture i
  | .freeze i _ | .mirrorStore i => i == s
  | _ => false

/-- The session a block is held for. -/
def Use.session? : Use → Option Nat
  | .intake i | .recon i _ | .coarse i _ | .mezzRecon i _ | .mezzCoarse i _ | .save i | .store i | .queue i _ | .capture i
  | .freeze i _ | .mirrorStore i => some i
  | _ => none

/-- The lining a block is held for. -/
def Use.lining? : Use → Option Nat
  | .liningRecon l _ | .liningCoarse l _ => some l
  | _ => none

/-- The next write to a unit takes the flip of its class, and ARM clears (R346): `place` is the line or word. -/
def takeFlip (cls unit place : Nat) (d : Dev) : Dev :=
  let key := Reg.wrdFlipCtrl.at cls
  let v := regGet d key
  if bit v 0 && (cls % 2 == 1 || bits v 12 7 == unit) then
    setWrd { d.wrd with flipped := d.wrd.flipped ++
      [{ cls := cls, unit := unit, place := place, mask := fld d (Reg.wrdFlipMask.at cls) 0 16, offset := bits v 2 10,
         addr := bit v 1 }] } (setFld key 0 1 0 d)
  else d

/-! ## Pools (R326, R327, R331) -/

/-- Is the device Dense (0x1101:0 = 0)? -/
def isDense (d : Dev) : Bool := objGet d 0x1101 0 == 0

/-- The pool a device buffer is taken from: under Dense the unmirrored pool of the same size (R326). -/
def devicePool (d : Dev) (pool : Nat) : Nat := if isDense d then pool % 8 else pool

/-- The smallest size code whose block holds n bytes, 7 above 1 GiB (R327). -/
def sizeCode (n : Nat) : Nat := (leastFrom (fun c => decide (n ≤ blockSize c)) 7 0).getD 7

/-- The size codes of a buffer of n bytes (R327). -/
def sizeCodes (n : Nat) : List Nat :=
  if n ≤ 1073741824 then (if n = 0 then [] else [sizeCode n])
  else List.replicate (n / 1073741824) 7 ++ (if n % 1073741824 = 0 then [] else [sizeCode (n % 1073741824)])

/-- Blocks of a pool held for a tenant, which charge its quota (R331). -/
def blocksHeld (d : Dev) (t pool : Nat) : Nat :=
  (blocksWith d fun b => b.owner == t && b.pool == pool).length + (d.wrd.wanted.filter fun e => e.1 == pool && e.2.1 == t).length

/-- How many blocks of a pool a list of blocks asks for. -/
def tally (need : List (Nat × Use)) (pool : Nat) : Nat := (need.filter fun e => e.1 == pool).length

/-- The codes that a list of blocks earns for tenant t (R59, R325, R331). -/
def blockErrs (d : Dev) (t : Nat) (need : List (Nat × Use)) : List Err :=
  earned [((List.range 16).any fun k => tally need k != 0 && decide (objGet d (0x2020 + k) t < blocksHeld d t k + tally need k),
      .quota),
    ((allocAll t need d).isNone, .capacity)]

/-- 0x1810:k (R331): free blocks in the frames given to the pool, and blocks allocated. -/
def poolOccupancy (d : Dev) (pool : Nat) : Nat :=
  let given := (d.wrd.frames.filter fun e => e.2 == pool + 1 && (!isMirrored pool || e.1 / 4096 % 2 == 0)).length
  let all := (d.wrd.blocks.filter fun e => e.2.pool == pool).length
  let held := (blocksWith d fun b => b.pool == pool).length
  (given * (frameGran / blockGran (pool % 8)) - all) + held * 2 ^ 32

/-- Quarantined blocks of a channel (R345); a mirrored block is never damaged. -/
def quarantinedOn (d : Dev) (c : Nat) : Nat := (d.wrd.blocks.filter fun e => e.2.quarantined && e.2.chan == c).length

/-! ## Handles (R328, R329) -/

/-- The handle of a block. -/
def handleOf (d : Dev) (k : Nat) : Nat :=
  match blockAt d k with
  | none => 0
  | some b =>
    b.pool + b.owner * 2 ^ 4 + b2n (b.use == .command) * 2 ^ 13 + b.chan * 2 ^ 16 + b.off * 2 ^ 20 +
      tabGet 0 d.wrd.gens k * 2 ^ 49

/-- The key of the block a handle names. -/
def handleKey (h : Nat) : Nat := blockKey (bits h 0 4) (bits h 16 4) (bits h 20 29)

/-- Item 4 of R329: does the block lie wholly within a frame of its pool? -/
def handleFramed (d : Dev) (h : Nat) : Bool :=
  tabGet 0 d.wrd.frames (frameKey (bits h 16 4) (bits h 20 29 / frameGran)) == bits h 0 4 + 1

/-- Items 1 to 4 of R329. -/
def handleForm (d : Dev) (h : Nat) : Bool :=
  bits h 14 2 == 0 && decide (bits h 4 9 ≤ 257) && !(bit h 3 && bit h 16) &&
    bits h 20 29 % blockGran (bits h 0 3) == 0 && handleFramed d h && decide (h < 2 ^ 64)

/-- Item 5 of R329. -/
def handleHeld (d : Dev) (h : Nat) : Bool :=
  match blockAt d (handleKey h) with
  | none => false
  | some b =>
    !b.quarantined && tabGet 0 d.wrd.gens (handleKey h) == bits h 49 15 && b.owner == bits h 4 9 &&
      (b.use == .command) == bit h 13

/-- Is every operation on a block refused but its release: it is sealed, or its owner has no memory key (R446)? -/
def blockBarred (d : Dev) (b : Block) : Bool :=
  b.isSealed || (decide (b.owner < 256) && (tenantOf d b.owner).st != 2)
/-- Is the block that a handle names barred (R446)? -/
def handleBarred (d : Dev) (h : Nat) : Bool := ((blockAt d (handleKey h)).map (blockBarred d)).getD false

/-- Does a handle pass R329 for a presenter and the kind its operation requires? -/
def handleOk (d : Dev) (presenter h : Nat) (kind : Bool) : Bool :=
  handleForm d h && handleHeld d h && bits h 4 9 == presenter && bit h 13 == kind

/-- Does it fail under item 5 or 6 and name a block allocated to another owner (R329)? -/
def handleForeign (d : Dev) (presenter h : Nat) : Bool :=
  handleForm d h && (!handleHeld d h || bits h 4 9 != presenter) &&
    match blockAt d (handleKey h) with
    | none => false
    | some b => !b.quarantined && b.owner != presenter

/-- A refused handle is counted; one that names another owner's block is a security event (R329, R453). -/
def handleRefused (presenter h : Nat) (d : Dev) : Dev :=
  let d1 := regCount Reg.wrdHandleErr.base 1 d
  let d2 := if presenter < 256 then objCount 32 0x5110 presenter 1 d1 else d1
  if handleForeign d presenter h then secEvent 1 presenter d2 else d2

end Sys2Proof.Machine
end

