-- ==== Sys2Proof/Machine/Streams.lean ====
section
/-! DEFINITION. Streams of coded frames: geometry (3: R66 to R68), reference entries (5: R124 to R129, R538), refresh cycles
(6: R150 to R157). -/
namespace Sys2Proof.Machine

/-! ## Access -/

/-- A stream. -/
def stream (d : Dev) (sid : Nat) : Stream := tabGet {} d.streams sid
/-- Changes a stream. -/
def setStream (sid : Nat) (x : Stream) (d : Dev) : Dev := { d with streams := tabPut {} d.streams sid x }
/-- Changes a stream by a function. -/
def updStream (sid : Nat) (f : Stream → Stream) (d : Dev) : Dev := setStream sid (f (stream d sid)) d
/-- The stream of the live encode or decode of session s. -/
def liveSid (s : Nat) : Nat := s
/-- The stream of the Mezzanine encode of session s. -/
def mezzSid (s : Nat) : Nat := 256 + s
/-- The stream of lining l. -/
def liningSid (l : Nat) : Nat := 512 + l
/-- Is it a lining's stream? -/
def isLining (sid : Nat) : Bool := decide (512 ≤ sid)
/-- Is it a Mezzanine encode? -/
def isMezz (sid : Nat) : Bool := decide (256 ≤ sid) && decide (sid < 512)
/-- The session or lining slot of a stream. -/
def slotOf (sid : Nat) : Nat := sid % 256

/-- The value in force of a session's object: a change waits for the frame boundary (R52, R162). -/
def inForce (d : Dev) (s idx : Nat) : Nat := (tabFind (sess d s).inForce idx).getD (objNow d idx s)

/-- A parameter of a stream; a Mezzanine encode runs at Swift, with one layer, and begins a cycle every 0x30A1:s frames
(R58, R120, R231). -/
def prm (d : Dev) (sid idx : Nat) : Nat :=
  if isLining sid then (tabFind d.linPrm ((sid - 512) * 65536 + idx)).getD (objDefault idx 0)
  else if isMezz sid && idx == 0x3019 then 0
  else if isMezz sid && idx == 0x301C then 1
  else if isMezz sid && idx == 0x3063 then inForce d (slotOf sid) 0x30A1
  else inForce d (slotOf sid) idx

/-- Is the codec of the stream AV1, HEVC or AVC (R44)? -/
def codecAv1 (d : Dev) (sid : Nat) : Bool := prm d sid 0x3011 == 0
/-- AVC. -/
def codecAvc (d : Dev) (sid : Nat) : Bool := decide (3 ≤ prm d sid 0x3011)
/-- Does the stream encode (Encode sessions and their Mezzanine encodes, R160)? -/
def encodes (d : Dev) (sid : Nat) : Bool := !isLining sid && prm d sid 0x3010 == 0
/-- The temporal layers T of a stream. -/
def layersOf (d : Dev) (sid : Nat) : Nat := prm d sid 0x301C

/-! ## Geometry (R66 to R68) -/

/-- Bands of a frame (R66). -/
def bandCount (d : Dev) (sid : Nat) : Nat := ceilDiv (prm d sid 0x3015) 64
/-- Units of 64 columns (R68). -/
def unitCount (d : Dev) (sid : Nat) : Nat := ceilDiv (prm d sid 0x3014) 64
/-- Rows of band b (R66). -/
def bandRows (d : Dev) (sid b : Nat) : Nat := min 64 (prm d sid 0x3015 - 64 * b)
/-- Pixels of band b. -/
def bandPixels (d : Dev) (sid b : Nat) : Nat := prm d sid 0x3014 * bandRows d sid b
/-- Units of part i of k (R68). -/
def partUnits (units k i : Nat) : Nat := if i < units % k then units / k + 1 else units / k
/-- The first unit of part i of k. -/
def partStart (units k i : Nat) : Nat := i * (units / k) + min i (units % k)
/-- Columns of part i of k. -/
def partWidth (d : Dev) (sid k i : Nat) : Nat :=
  let u := unitCount d sid
  min (64 * (partStart u k i + partUnits u k i)) (prm d sid 0x3014) - 64 * partStart u k i
/-- Pixels of a part. -/
def partPixels (d : Dev) (sid k b i : Nat) : Nat := partWidth d sid k i * bandRows d sid b

/-- Tenths of a Mpixel/s a tile codes at an effort (R72, R120); for decoding 6 Gpixel/s. -/
def rateOf (d : Dev) (sid effort : Nat) : Nat :=
  if !encodes d sid then 60000
  else if codecAvc d sid then (if effort = 0 then 20000 else if effort = 1 then 12500 else if effort = 2 then 6250 else 3125)
  else if effort = 0 then 16000 else if effort = 1 then 10000 else if effort = 2 then 5000 else 2500

/-- The coding time of so many pixels in ns, rounded up (R72). -/
def codeTime (d : Dev) (sid effort px : Nat) : Nat := ceilDiv (px * 10000) (rateOf d sid effort)

/-- Does the widest part of a full band lie within what a tile codes in 250 µs (R67, R68)? -/
def splitFits (d : Dev) (sid effort k : Nat) : Bool :=
  (List.range k).all fun i => decide (partWidth d sid k i * 64 * 10000 ≤ 250000 * rateOf d sid effort)

/-- The split count (R68): 1 for AVC and for decoding. -/
def splitOf (d : Dev) (sid effort : Nat) : Nat :=
  if !encodes d sid || codecAvc d sid then 1 else (leastFrom (splitFits d sid effort) 16 1).getD 1

/-- The temporal layer of frame count f (R150). -/
def layerOf (t f : Nat) : Nat :=
  if t ≤ 1 then 0 else if t = 2 then f % 2 else if f % 4 = 0 then 0 else if f % 4 = 2 then 1 else 2

/-! ## Frames and bands -/

/-- The frame with a count, if it is still open or in progress. -/
def frameAt (d : Dev) (sid c : Nat) : Option Frame := (stream d sid).frames.find? fun f => f.count == some c
/-- A band of a frame. -/
def Frame.band (f : Frame) (b : Nat) : Band := f.bands.getD b {}
/-- Changes one band of a frame. -/
def Frame.setBand (f : Frame) (b : Nat) (x : Band) : Frame := { f with bands := f.bands.set b x }
/-- Changes the frame with a count. -/
def updFrame (sid c : Nat) (g : Frame → Frame) (d : Dev) : Dev :=
  updStream sid (fun x => { x with frames := x.frames.map fun f => if f.count == some c then g f else f }) d
/-- Changes one band of the frame with a count. -/
def updBand (sid c b : Nat) (g : Band → Band) (d : Dev) : Dev := updFrame sid c (fun f => f.setBand b (g (f.band b))) d
/-- A band by stream, count and number. -/
def bandAt (d : Dev) (sid c b : Nat) : Band :=
  match frameAt d sid c with
  | none => {}
  | some f => f.band b
/-- Changes one part. -/
def updPart (j : Job) (g : Part → Part) (d : Dev) : Dev :=
  updBand j.stream j.frame j.band (fun x => { x with parts := x.parts.set j.part (g (x.parts.getD j.part {})) }) d
/-- A part. -/
def partAt (d : Dev) (j : Job) : Part := (bandAt d j.stream j.frame j.band).parts.getD j.part {}
/-- Has every part of the band been assigned? -/
def Band.assigned (b : Band) : Bool := !b.parts.isEmpty && b.parts.all (·.assigned)
/-- Has every part been marked coded? -/
def Band.coded (b : Band) : Bool := !b.parts.isEmpty && b.parts.all (·.coded)
/-- Is the frame closed: every band accepted or substituted, and collected (R96)? -/
def Frame.closed (f : Frame) : Bool := f.bands.all fun b => b.st != 0 && b.collected
/-- What is kept of a frame that was started. -/
def pastAt (d : Dev) (sid c : Nat) : Past := tabGet {} (stream d sid).past c
/-- Changes it. -/
def updPast (sid c : Nat) (g : Past → Past) (d : Dev) : Dev :=
  updStream sid (fun x => { x with past := tabSet x.past c (g (tabGet {} x.past c)) }) d

/-! ## Reference entries (R124 to R127) -/

/-- HEVC MaxDpbSize for a picture size and the level's largest (R124; the standard, log 11). -/
def hevcDpb (size largest : Nat) : Nat :=
  if 4 * size ≤ largest then 16 else if 2 * size ≤ largest then 12 else if 4 * size ≤ 3 * largest then 8 else 6

/-- The largest luma picture of an HEVC level (R124; the standard, log 11). -/
def hevcPicture (lvl : Nat) : Nat :=
  if lvl ≤ 10 then 36864 else if lvl ≤ 20 then 122880 else if lvl ≤ 21 then 245760 else if lvl ≤ 30 then 552960
  else if lvl ≤ 31 then 983040 else if lvl ≤ 41 then 2228224 else if lvl ≤ 52 then 8912896 else 35651584

/-- AVC MaxDpbMbs of a level (R124; the standard, log 11). -/
def avcDpbMbs (lvl : Nat) : Nat :=
  if lvl ≤ 10 then 396 else if lvl ≤ 11 then 900 else if lvl ≤ 20 then 2376 else if lvl ≤ 21 then 4752
  else if lvl ≤ 30 then 8100 else if lvl ≤ 31 then 18000 else if lvl ≤ 32 then 20480 else if lvl ≤ 41 then 32768
  else if lvl ≤ 42 then 34816 else if lvl ≤ 50 then 110400 else if lvl ≤ 52 then 184320 else 696320

/-- N of R124 for a codec, level and size. -/
def slotsFor (codec lvl w h : Nat) : Nat :=
  if codec = 0 then 8
  else if codec ≤ 2 then min 8 (hevcDpb (w * (ceilDiv h 8 * 8)) (hevcPicture lvl) - 1)
  else min 8 (avcDpbMbs lvl / (ceilDiv w 16 * ceilDiv h 16))

/-- N of a stream: a session's is fixed at DEFINE, a lining's follows from the parameters it was opened with (R124). -/
def refSlots (d : Dev) (sid : Nat) : Nat :=
  if isLining sid then slotsFor (prm d sid 0x3011) (prm d sid 0x3012) (prm d sid 0x3014) (prm d sid 0x3015)
  else (sess d (slotOf sid)).refN

/-- The retained entries, newest first (R125). -/
def retained (x : Stream) : List Nat :=
  match x.recent with
  | none => x.anchors
  | some r => r :: x.anchors

/-- Is the entry of frame c acknowledged with its reconstruction intact (R126, R345)? -/
def isAcked (x : Stream) (c : Nat) : Bool := (tabGet {} x.past c).st == 2
/-- Is it INVALID? -/
def isInvalid (x : Stream) (c : Nat) : Bool := (tabGet {} x.past c).st == 3

/-- The newest acknowledged entry of layers 0 to t other than those of a list. -/
def newestAcked (x : Stream) (t : Nat) (but : List Nat) : Option Nat :=
  (retained x).find? fun c => isAcked x c && decide ((tabGet {} x.past c).layer ≤ t) && !but.contains c

/-- Drops the oldest anchor, or the next-oldest if the oldest is the newest acknowledged entry (R125 item 3). -/
def dropAnchor (x : Stream) : List Nat :=
  match x.anchors.reverse with
  | [] => []
  | [a] => if newestAcked x 2 [] = some a then [a] else []
  | a :: b :: t => if newestAcked x 2 [] = some a then (a :: t).reverse else (b :: t).reverse

/-- The entry set when a frame starts after the frame `prev` (R125); none for the first frame. -/
def moveEntries (n interval : Nat) (prev : Option Nat) (x : Stream) : Stream :=
  match prev with
  | none => { x with recent := none, anchors := [] }
  | some p =>
    let anchors := match x.recent with
      | none => x.anchors
      | some r => if r % interval = 0 && !(tabGet {} x.past r).spliced then r :: x.anchors else x.anchors
    let y := { x with recent := some p, anchors := anchors }
    if n < (retained y).length then { y with anchors := dropAnchor y } else y

/-- The references that a band of a frame would take now (R127, R153, R155, R538). -/
def chooseRefs (d : Dev) (sid : Nat) (f : Frame) (b : Band) : Refs :=
  let x := stream d sid
  let head := (retained x).find? fun c => decide ((tabGet {} x.past c).layer ≤ f.layer)
  if f.intra then {}
  else if b.st = 2 then { primary := x.recent }
  else if f.leadIn then { primary := head, leadIn := true }
  else if f.resumed then
    match newestAcked x f.layer [] with
    | some c =>
      { primary := some c, secondary := if 2 ≤ f.effort && f.stripe.isNone then newestAcked x f.layer [c] else none }
    | none => { primary := head, leadIn := true }
  else if f.stripe.isSome then { primary := head }
  else
    let first := match head with
      | some c => if isInvalid x c then newestAcked x f.layer [] else some c
      | none => newestAcked x f.layer []
    match first with
    | some c => { primary := some c, secondary := if 2 ≤ f.effort && !f.inCycle then newestAcked x f.layer [c] else none }
    | none => { primary := head, leadIn := true }

/-- The reference frames of a band. -/
def Refs.list (r : Refs) : List Nat := r.primary.toList ++ r.secondary.toList

/-- Bands 0 to min(b + 4, last) of a reference frame are collected (R70 item 4). -/
def refReady (d : Dev) (sid b c : Nat) : Bool :=
  match frameAt d sid c with
  | none => true
  | some f => (f.bands.take (b + 5)).all (·.collected)

/-- The frames that reach a lost frame (R126, R157), from the frames in rising order. -/
def reaching (lost : Nat) : List (Nat × Past) → List Nat → List Nat
  | [], bad => bad
  | (c, p) :: t, bad =>
    let hit := match p.cycleStart with
      | some s => p.refs.any fun r => decide (s ≤ r) && bad.contains r && decide (s ≤ lost)
      | none => p.refs.any bad.contains
    reaching lost t (if hit then c :: bad else bad)

/-- A frame is marked lost (R126, R156, R180): it and whatever reaches it become INVALID, except what is ACKED; a frame of
the running cycle restarts it. -/
def markLost (sid c : Nat) (d : Dev) : Dev :=
  let x := stream d sid
  if isAcked x c || (tabGet {} x.past c).lost then d
  else
    let bad := reaching c (x.past.filter fun e => decide (c < e.1)) [c]
    let past := x.past.map fun e =>
      if bad.contains e.1 && e.2.st != 2 then (e.1, { e.2 with st := 3, lost := e.2.lost || e.1 == c }) else e
    let frames := x.frames.map fun f =>
      match f.count with
      | some k => if bad.contains k then { f with invalid := true } else f
      | none => f
    let inCycle := x.cycle.isSome && decide (x.cycleStart ≤ c)
    let d1 := setStream sid { x with past := past, frames := frames, restart := x.restart || inCycle } d
    if isLining sid then d1 else objCount 32 0x5065 (slotOf sid) 1 d1

/-- 0x3052:s (R126): four bits for each retained entry, the newest lowest. -/
def slotStates (x : Stream) : List Nat → Nat
  | [] => 0
  | c :: t => (tabGet {} x.past c).st + (if x.recent = some c then 8 else 4) + 16 * slotStates x t

/-! ## Refresh cycles (R155, R156) -/

/-- R of a stream (0x3062). -/
def cycleLength (d : Dev) (sid : Nat) : Nat := prm d sid 0x3062
/-- The stripe that frame i of a cycle of R frames codes: first unit and units (R155). -/
def stripeOf (units r i : Nat) : Nat × Nat := (partStart units r i, partUnits units r i)

/-- A trigger of R156: absorbed by a running cycle. -/
def triggerCycle (sid : Nat) (d : Dev) : Dev :=
  updStream sid (fun x => if x.cycle.isSome then x else { x with trigger := true }) d

/-- What a frame that starts does to the cycle (R155, R156): it begins one, restarts one, goes on with one, or ends it. A
layer-0 frame advances; the frames of higher layers carry the stripe of none (log 106). A trigger that is pending before the first
frame after START begins its cycle at the next frame (log 108). -/
def cycleAtStart (r periodic layer f : Nat) (x : Stream) : Stream × Option (Nat × Nat) × Bool :=
  if layer ≠ 0 then ({ x with sinceCycle := x.sinceCycle + 1 }, none, false)
  else
    let runs := match x.cycle with
      | none => false
      | some (i, n) => decide (i + 1 < n)
    let due := x.trigger || x.restart || (!runs && periodic != 0 && decide (periodic ≤ x.sinceCycle + 1))
    if due && f ≠ 0 then
      ({ x with cycle := some (0, r), cycleStart := f, trigger := false, restart := false, sinceCycle := 0 }, some (0, r), true)
    else
      match x.cycle with
      | none => ({ x with sinceCycle := x.sinceCycle + 1 }, none, false)
      | some (i, n) =>
        if i + 1 < n then
          ({ x with cycle := some (i + 1, n), sinceCycle := x.sinceCycle + 1 }, some (i + 1, n), false)
        else ({ x with cycle := none, sinceCycle := x.sinceCycle + 1 }, none, false)

/-- 0x3065:s (R156). -/
def refreshState (x : Stream) : Nat :=
  match x.cycle with
  | none => 0xFF
  | some (i, _) => i + 256

/-- May frame c be an anchor frame of a lining (R202): the intra frame, or the last of a cycle? -/
def isAnchorFrame (f : Frame) : Bool :=
  f.intra || match f.stripe with
    | some (i, r) => i + 1 == r
    | none => false

end Sys2Proof.Machine
end

