-- ==== Sys2Proof/Machine/Library.lean ====
section
/-! DEFINITION. Capture rings, clips and library entries (9: R230 to R238): what they hold and how it is stored. -/
namespace Sys2Proof.Machine

/-! ## Bytes of blocks (R327) -/

/-- Does a place lie in a damaged block that its holder kept (R345)? -/
def inDamaged (d : Dev) (a : Nat) : Bool :=
  d.wrd.blocks.any fun e => e.2.damaged && !e.2.quarantined && decide (blockMem e.2 ≤ a) &&
    decide (a < blockMem e.2 + blockSize (e.2.pool % 8))
/-- A byte of a block; one that nothing has written is unspecified, but for the zeros that firmware wrote to a damaged block
(R327, R345). -/
def memByte (d : Dev) (a : Nat) : Nat :=
  (tabFind d.mem a).getD (if inDamaged d a then 0 else Config.unwritten a % 256)
/-- A little-endian number of `n` bytes from place `a`. -/
def memRead (d : Dev) (a : Nat) : Nat → Nat
  | 0 => 0
  | n + 1 => memByte d a + 256 * memRead d (a + 1) n
/-- Stores `n` little-endian bytes of `v` at place `a`. -/
def memWrite : Nat → Nat → Nat → Dev → Dev
  | 0, _, _, d => d
  | n + 1, a, v, d => memWrite n (a + 1) (v / 256) { d with mem := tabSet d.mem a (v % 256) }

/-! ## Stored form (R232) -/

/-- The bytes of an entry with its header and padding. -/
def CapEntry.len (x : CapEntry) : Nat := 64 + alignUp x.size 64
/-- The header of an entry. -/
def CapEntry.header (x : CapEntry) : Nat :=
  x.frame % 2 ^ 32 + x.band * 2 ^ 32 + x.flags * 2 ^ 40 + x.layer * 2 ^ 48 + x.stitch % 2 ^ 64 * 2 ^ 64 +
    x.rtpTs * 2 ^ 128 + x.size * 2 ^ 160 + x.crc * 2 ^ 192 + x.recon * 2 ^ 224
/-- Is it a clip point (R233)? -/
def CapEntry.isClip (x : CapEntry) : Bool := bit x.flags 2
/-- The header of a block. -/
def CapBlock.header (b : CapBlock) : Nat :=
  b.seq % 2 ^ 32 + b.session * 2 ^ 32 + b.kind * 2 ^ 48 + (b.entries.head?.map (·.stitch)).getD 0 % 2 ^ 64 * 2 ^ 64 +
    b.entries.length * 2 ^ 128 + b.used * 2 ^ 160 + (b.entries.filter (·.isClip)).length * 2 ^ 192
/-- The bytes of entries one after the other. -/
def entryBytes : List CapEntry → Nat
  | [] => 0
  | x :: t => x.header + x.data * 2 ^ 512 + 256 ^ x.len * entryBytes t
/-- The stored form of a list of blocks with the entries of a range: each block's header and its entries in the range. -/
def storedForm (range : List CapEntry) : List CapBlock → Nat × Nat
  | [] => (0, 0)
  | b :: t =>
    let es := b.entries.filter range.contains
    let n := 64 + sumBy (·.len) es
    let r := storedForm range t
    (b.header + entryBytes es * 2 ^ 512 + 256 ^ n * r.1, n + r.2)
/-- The entries of a segment's block, as its bytes give them: how many are left, their place in the block. -/
def parseEntries (d : Dev) (base : Nat) : Nat → Nat → List CapEntry
  | 0, _ => []
  | n + 1, off =>
    let h := memRead d (base + off) 64
    let size := bits h 160 32
    let x : CapEntry :=
      { frame := bits h 0 32, band := bits h 32 8, flags := bits h 40 8, layer := bits h 48 16, stitch := bits h 64 64,
        rtpTs := bits h 128 32, size := size, crc := bits h 192 32, recon := bits h 224 32,
        data := memRead d (base + off + 64) size, off := off }
    x :: parseEntries d base n (off + x.len)
/-- A block as its bytes give it. -/
def parseBlock (d : Dev) (k : Nat) (b : Block) : CapBlock :=
  let h := memRead d (blockMem b) 64
  { key := k, seq := bits h 0 32, session := bits h 32 16, kind := bits h 48 16, used := bits h 160 32,
    entries := parseEntries d (blockMem b) (min (bits h 128 32) (blockSize (b.pool % 8) / 64)) 64 }
/-- Does the header of a block match its contents (R238)? -/
def headerMatches (d : Dev) (b : Block) (c : CapBlock) : Bool :=
  memRead d (blockMem b) 64 == c.header && c.used == 64 + sumBy (·.len) c.entries &&
    decide (c.used ≤ blockSize (b.pool % 8))
/-- Does BS_CRC match the bitstream? -/
def CapEntry.crcOk (x : CapEntry) : Bool := crc32 (toBytes x.data x.size) == x.crc

/-! ## Rings (R230 to R233) -/

/-- The size code of a ring's blocks: 64 MiB, or 1 GiB from 16 units on (R230). -/
def ringCode (units : Nat) : Nat := if units < 16 then 5 else 7
/-- The blocks of a ring. -/
def ringBlocks (units : Nat) : Nat := if units < 16 then units else units / 16
/-- The entries of a ring, oldest first. -/
def CapRing.entries (r : CapRing) : List CapEntry := r.blocks.flatMap (·.entries)
/-- The next block is opened: an unused one, else the oldest, whose entries are discarded (R232). -/
def openBlock (s : Nat) (r : CapRing) : CapRing × Bool :=
  match r.free with
  | k :: t =>
    ({ r with blocks := r.blocks ++ [{ key := k, seq := r.opened + 1, session := s, kind := r.kind }], free := t,
              opened := r.opened + 1 }, false)
  | [] =>
    match r.blocks with
    | [] => (r, false)
    | b :: t =>
      ({ r with blocks := t ++ [{ key := b.key, seq := r.opened + 1, session := s, kind := r.kind }],
                opened := r.opened + 1 }, true)
/-- The entry goes into the current block. -/
def putEntry (x : CapEntry) : List CapBlock → List CapBlock
  | [] => []
  | [b] => [{ b with entries := b.entries ++ [x], used := b.used + x.len }]
  | b :: t => b :: putEntry x t
/-- The capture path writes an entry (R232). -/
def capture (s : Nat) (x : CapEntry) (d : Dev) : Dev :=
  match (sess d s).ring with
  | none => d
  | some r =>
    let fits := match r.blocks.getLast? with
      | some b => decide (b.used + x.len ≤ blockSize (ringCode (objGet d 0x30A0 s)))
      | none => false
    let o := if fits then (r, false) else openBlock s r
    let d1 := setSess s { sess d s with ring := some { o.1 with blocks := putEntry x o.1.blocks } } d
    objCount 64 0x50A0 s x.len (if o.2 then objCount 32 0x50A1 s 1 d1 else d1)
/-- 0x30A3:s. -/
def oldestEntry (x : Session) : Nat := ((x.ring.bind fun r => r.entries.head?).map (·.stitch)).getD 0
/-- 0x30A4:s. -/
def oldestClip (x : Session) : Nat := ((x.ring.bind fun r => r.entries.find? (·.isClip)).map (·.stitch)).getD 0
/-- Blocks of a session's capture that neither the mode in force nor one that waits needs are released (R61, R230, R333). -/
def trimCapture (s : Nat) (d : Dev) : Dev :=
  let a := inForce d s 0x301A
  let b := objGet d 0x301A s
  releaseUse (fun u => match u with
    | .mezzRecon i _ | .mezzCoarse i _ => i == s && a != 2 && b != 2
    | .capture i => i == s && a == 0 && b == 0
    | _ => false) d
/-- At a frame boundary the ring follows the capture mode in force (R230). -/
def ringFollow (s : Nat) (d : Dev) : Dev :=
  let x := sess d s
  let mode := inForce d s 0x301A
  match x.ring with
  | none =>
    if mode = 0 then d
    else setSess s { x with ring := some { kind := mode - 1, free := blocksWith d fun b => b.use == .capture s } } d
  | some r =>
    if mode = 0 then setSess s { x with ring := none } d
    else if r.kind + 1 = mode then d
    else setSess s { x with ring := some { kind := mode - 1, free := r.blocks.map (·.key) ++ r.free, opened := r.opened } } d
/-- The ring and the blocks of capture follow the mode (R230). -/
def ringSync (s : Nat) (d : Dev) : Dev := trimCapture s (ringFollow s d)

/-! ## The library (R236) -/

/-- Entry e of tenant t. -/
def libEntry (d : Dev) (t e : Nat) : LibEntry := tabGet {} d.lib (64 * t + e)
/-- Changes an entry. -/
def setLib (t e : Nat) (x : LibEntry) (d : Dev) : Dev := { d with lib := tabPut {} d.lib (64 * t + e) x }
/-- An entry changes its state, which is posted (R385). -/
def libState (t e : Nat) (x : LibEntry) (d : Dev) : Dev := postEvent t 6 1 x.code e x.st (setLib t e x d)
/-- Frames in an entry. -/
def LibEntry.frames (x : LibEntry) : Nat := (x.entries.filter fun y => y.band == 0).length
/-- Does an EXPORT descriptor that is not finished read the entry (R375)? -/
def exporting (d : Dev) (t e : Nat) : Bool :=
  d.dmaCh.any fun c => match c.2.run with
    | none => false
    | some r => r.d.opcode == 4 && r.fn == t && r.d.target == e && !r.ended
/-- Is the entry in use by a splice, an export or a Decode session (R237)? -/
def libBusy (d : Dev) (t e : Nat) : Bool :=
  exporting d t e || (libEntry d t e).st == 5 ||
    d.sess.any fun y => ownerOf d y.1 == t &&
      (y.2.splice == some e || (y.2.splicePend.map (· % 1024)) == some e ||
        (objGet d 0x3010 y.1 == 1 && objGet d 0x30B3 y.1 == e &&
          [SessSt.armed, .running, .paused, .draining, .suspended].contains y.2.st))
/-- The export number of an entry rises by 1 (R444). -/
def countExport (t e : Nat) (d : Dev) : Dev :=
  let v := objGet d 0x2054 t
  objSet 0x2054 t (putBytes v (4 * e) 4 (bytesAt v (4 * e) 4 + 1)) d
/-- Does an entry lie in a block that R446 bars? -/
def entryBarred (d : Dev) (t e : Nat) : Bool :=
  (libEntry d t e).blocks.any fun c => ((blockAt d c.key).map (blockBarred d)).getD false
/-- 0x2100+e:t (R244). -/
def libValue (d : Dev) (t e : Nat) : Nat :=
  let x := libEntry d t e
  x.st + x.kind * 2 ^ 8 + x.code * 2 ^ 16 + x.codec * 2 ^ 24 + x.width * 2 ^ 32 + x.height * 2 ^ 48 + x.depth * 2 ^ 64 +
    x.period * 2 ^ 72 + x.lvl * 2 ^ 80 + (b2n x.intra + 2 * b2n (libBusy d t e)) * 2 ^ 88 + x.frames * 2 ^ 96 +
    (storedForm x.entries x.blocks).2 * 2 ^ 128 + (x.entries.head?.map (·.stitch)).getD 0 * 2 ^ 192

/-! ## Freezing a clip (R234, R235) -/

/-- The place of the first entry of a clip: the newest clip point at or before START, else the oldest. -/
def clipFirst (es : List CapEntry) (start : Nat) : Option Nat :=
  let ps := (List.range es.length).filter fun i => (es.getD i {}).isClip
  match (ps.filter fun i => decide ((es.getD i {}).stitch ≤ start)).getLast? with
  | some i => some i
  | none => ps.head?
/-- The place of the last entry: the last band of the last frame that is whole and not after END. -/
def clipLast (es : List CapEntry) (bands first fin : Nat) : Option Nat :=
  ((List.range es.length).filter fun i =>
    let x := es.getD i {}
    decide (first ≤ i) && x.band + 1 == bands && decide (x.stitch ≤ fin) &&
      (es.filter fun y => y.frame == x.frame).length == bands).getLast?
/-- The places of the blocks that hold entries `i` and `j`. -/
def blocksOfRange (i j : Nat) : Nat → Nat → List CapBlock → List Nat
  | _, _, [] => []
  | at_, k, b :: t =>
    let n := b.entries.length
    let rest := blocksOfRange i j (at_ + n) (k + 1) t
    if at_ ≤ j && decide (i < at_ + n) then k :: rest else rest
/-- The clip of a range: first and last entry, the blocks it spans. -/
def clipRange (r : CapRing) (bands start fin : Nat) : Option (Nat × Nat × List Nat) :=
  let es := r.entries
  (clipFirst es start).bind fun i => (clipLast es bands i fin).map fun j => (i, j, blocksOfRange i j 0 0 r.blocks)
/-- END, with 0 for the instant itself. -/
def freezeEnd (fin now : Nat) : Nat := if fin = 0 then now else fin
/-- How many replacement blocks a freeze reserves. -/
def freezeBlocks (d : Dev) (s start fin : Nat) : Nat :=
  match (sess d s).ring with
  | none => 0
  | some r =>
    match clipRange r (bandCount d (liveSid s)) start (freezeEnd fin d.tbs.cnt) with
    | some (_, _, l) => l.length
    | none => 1
/-- The blocks whose use becomes another. -/
def reuse (keys : List Nat) (u : Use) (d : Dev) : Dev :=
  setWrd { d.wrd with blocks := d.wrd.blocks.map fun e => if keys.contains e.1 then (e.1, { e.2 with use := u }) else e } d
/-- Blocks pass to a library entry, which raises their generations (R328). -/
def toLibrary (keys : List Nat) (t e : Nat) (d : Dev) : Dev := forEach keys nextGen (reuse keys (.library t e) d)
/-- A freeze takes effect at a boundary (R235). -/
def applyFreeze (s : Nat) (z : Freeze) (d : Dev) : Dev :=
  let x := sess d s
  let t := ownerOf d s
  let refused := postTenant s 1 8 5 s z.e (libState t z.e {} (releaseUse (· == .freeze s z.e) d))
  match x.ring with
  | none => refused
  | some r =>
    match clipRange r (bandCount d (liveSid s)) z.start (freezeEnd z.fin d.tbs.cnt) with
    | none => refused
    | some (i, j, l) =>
      let out := l.map fun k => r.blocks.getD k {}
      let keep := ((List.range r.blocks.length).filter fun k => !l.contains k).map fun k => r.blocks.getD k {}
      let fresh := (blocksWith d fun b => b.use == .freeze s z.e).take l.length
      let es := (r.entries.take (j + 1)).drop i
      let ring := (openBlock s { r with blocks := keep, free := fresh ++ r.free }).1
      let d1 := toLibrary (out.map (·.key)) t z.e (reuse fresh (.capture s) d)
      let d2 := releaseUse (· == .freeze s z.e) (setSess s { x with ring := some ring } d1)
      let ent : LibEntry :=
        { st := 3, kind := 1, codec := objGet d 0x3011 s, width := objGet d 0x3014 s, height := objGet d 0x3015 s,
          depth := objGet d 0x3013 s, period := objGet d 0x3016 s, lvl := objGet d 0x3012 s,
          intra := (es.head?.map (·.intra)).getD false, layers := layersOf d (liveSid s), blocks := out, entries := es }
      postTenant s 1 8 0 s z.e (libState t z.e ent d2)
/-- At a boundary the freezes that wait take effect (R235). -/
def applyFreezes (d : Dev) : Dev :=
  forEach (tabKeys d.sess) (fun s d =>
    let l := (sess d s).freezes
    if l.isEmpty then d else forEach l (applyFreeze s) (setSess s { sess d s with freezes := [] } d)) d

end Sys2Proof.Machine
end

