-- ==== Sys2Proof/Machine/Fixed.lean ====
section
/-! DEFINITION. The fixed-point arithmetic of R170: numbers in units of 2^-16, quotients, powers and logarithms rounded to the
nearest unit, ties away from zero. -/
namespace Sys2Proof.Machine

/-- The nearest integer to a/b, ties away from zero. -/
def roundDiv (a : Int) (b : Nat) : Int :=
  let m : Int := (((2 * a.natAbs + b) / (2 * b) : Nat) : Int)
  if a < 0 then -m else m

/-- One, in units of 2^-16. -/
def one16 : Nat := 65536

/-- The product of two numbers in units of 2^-16. -/
def mul16 (a b : Int) : Int := roundDiv (a * b) 65536

/-- The quotient of two numbers, in units of 2^-16. -/
def div16 (a : Int) (b : Nat) : Int := roundDiv (a * 65536) b

/-- The greatest number below 2^n that passes a test which holds up to it. -/
def greatest (p : Nat → Bool) : Nat → Nat → Nat
  | 0, acc => acc
  | n + 1, acc => if p (acc + 2 ^ n) then greatest p n (acc + 2 ^ n) else greatest p n acc

/-- log2 of a positive number in units of 2^-16, in units of 2^-16. -/
def log16 (a : Nat) : Int := (((Nat.log2 (a ^ 131072) + 1) / 2 : Nat) : Int) - 1048576

/-- 2^(n/den) in units of 2^-16, below 2^48 units. -/
def exp16 (n : Int) (den : Nat) : Nat :=
  greatest (fun r => decide (0 ≤ 17 * (den : Int) + n) && decide ((2 * r - 1) ^ den ≤ 2 ^ (17 * (den : Int) + n).toNat)) 48 0

/-- The fourth root of a number in units of 2^-16. -/
def root4 (q : Nat) : Nat := greatest (fun r => decide ((2 * r - 1) ^ 4 ≤ 16 * q * 2 ^ 48)) 48 0

/-- A number kept between two bounds. -/
def clampI (lo hi x : Int) : Int := max lo (min hi x)

end Sys2Proof.Machine
end

