-- ==== Sys2Proof/Machine/Intake.lean ====
section
/-! DEFINITION. Frame intake (4): windows and their layout, write units, doorbells, credits, missing bands, watermarks,
HOLD_N. -/
namespace Sys2Proof.Machine

/-! ## Layout (R86 to R88) -/

/-- The bytes of a luma row and of a chroma row of each plane (R88). -/
def rowBytes (fmt w : Nat) : Nat × Nat :=
  if fmt ≤ 1 then (w, w) else if fmt ≤ 3 then (w, w / 2) else if fmt = 4 then (2 * w, 2 * w) else if fmt = 5 then (2 * w, w)
  else if fmt = 6 then (5 * w / 4, 5 * w / 4) else (4 * ceilDiv w 3, 4 * ceilDiv w 3)

/-- Has the format two chroma planes (R88)? -/
def planar (fmt : Nat) : Bool := fmt == 2 || fmt == 3 || fmt == 5

/-- A part of a frame slot (R86): its offset, its pitch, its rows, and the rows that one band covers. -/
structure Plane where
  off : Nat
  pitch : Nat
  rows : Nat
  perBand : Nat
deriving DecidableEq, Repr

/-- The parts of a frame slot in order: luma, chroma, second chroma, motion vectors, regions of interest (R86, R87); a part
that is absent has no rows. -/
def slotParts (fmt w h : Nat) (mv roi : Bool) : List Plane :=
  let lp := alignUp (rowBytes fmt w).1 256
  let cp := alignUp (rowBytes fmt w).2 256
  let c0 := alignUp (lp * h) 4096
  let e0 := c0 + cp * (h / 2)
  let c1 := alignUp e0 4096
  let e1 := if planar fmt then c1 + cp * (h / 2) else e0
  let m0 := alignUp e1 4096
  let mp := alignUp (ceilDiv w 16 * 4) 64
  let e2 := if mv then m0 + mp * ceilDiv h 16 else e1
  let r0 := alignUp e2 4096
  [⟨0, lp, h, 64⟩, ⟨c0, cp, h / 2, 32⟩, ⟨c1, cp, if planar fmt then h / 2 else 0, 32⟩,
   ⟨m0, mp, if mv then ceilDiv h 16 else 0, 4⟩, ⟨r0, alignUp (ceilDiv w 64) 64, if roi then ceilDiv h 64 else 0, 1⟩]

/-- The parts of a session's frame slots. -/
def partsOf (p : Nat → Nat) : List Plane := slotParts (p 0x301E) (p 0x3014) (p 0x3015) (p 0x3031 == 1) (p 0x3032 == 1)

/-- The stride of the frame slots: the slot size rounded up to 64 KiB (R86). -/
def strideOf (p : Nat → Nat) : Nat :=
  alignUp ((partsOf p).foldl (fun a x => if x.rows = 0 then a else x.off + x.pitch * x.rows) 0) 65536

/-- The bytes of a window (R86). -/
def windowSize (p : Nat → Nat) : Nat := p 0x3030 * strideOf p

/-- The intake parameters of a session. -/
def intakePrm (d : Dev) (s : Nat) : Nat → Nat := fun idx => objGet d idx s

/-- The windows of a tenant's sessions other than s: offset and size. -/
def windowsOf (d : Dev) (t s : Nat) : List (Nat × Nat) :=
  d.sess.filterMap fun e =>
    match e.2.window with
    | some o => if e.1 != s && ownerOf d e.1 == t then some (o, windowSize (intakePrm d e.1)) else none
    | none => none

/-- Does a window at `o` of `n` bytes keep clear of the others and lie within the aperture? -/
def windowFits (ws : List (Nat × Nat)) (aperture n o : Nat) : Bool :=
  decide (o + n ≤ aperture) && ws.all fun w => decide (o + n ≤ w.1) || decide (w.1 + w.2 ≤ o)

/-- The lowest of the places that fit. -/
def lowestOf (l : List Nat) : Option Nat := l.foldl (fun a x => match a with
  | none => some x
  | some y => some (min x y)) none

/-- Where ARM places a window (R85): the lowest 64 KiB multiple at which it fits, which is 0 or the end of another. -/
def placeIn (ws : List (Nat × Nat)) (aperture n : Nat) : Option Nat :=
  lowestOf ((0 :: ws.map fun w => w.1 + w.2).filter (windowFits ws aperture n))

/-! ## Write units (R89 to R92) -/

/-- Is intake accepted (DMA_INTAKE_CTRL, R485)? -/
def intakeOn (d : Dev) : Bool := fld d Reg.dmaIntakeCtrl.base 0 1 == 1 && !d.flt.safe

/-- Does a state keep a window (R92)? -/
def SessSt.windowed : SessSt → Bool
  | .armed | .running | .paused | .draining | .suspended => true
  | _ => false

/-- The session of a tenant whose window holds an offset of BAR 2. -/
def windowAt (d : Dev) (t off : Nat) : Option Nat :=
  (d.sess.find? fun e =>
    e.2.st.windowed && ownerOf d e.1 == t &&
      match e.2.window with
      | some o => decide (o ≤ off) && decide (off < o + windowSize (intakePrm d e.1))
      | none => false).map (·.1)

/-- The band of an offset within a frame slot; none in padding between parts. -/
def bandAtOffset (parts : List Plane) (off : Nat) : Option Nat :=
  (parts.find? fun p => decide (p.off ≤ off) && decide (off < p.off + p.pitch * p.rows)).map fun p =>
    (off - p.off) / p.pitch / p.perBand

/-- Is the Mezzanine band of a frame collected, or is there none (R231)? -/
def mezzDone (d : Dev) (s : Nat) (f : Frame) (b : Nat) : Bool :=
  match f.count with
  | none => true
  | some c =>
    match frameAt d (mezzSid s) c with
    | none => true
    | some m => (m.band b).collected

/-- Is a band sealed and not yet collected (R91, R104, R231)? -/
def bandSealed (d : Dev) (s : Nat) (f : Frame) (b : Nat) : Bool :=
  let x := f.band b
  x.st != 0 && !x.opened && !f.spliced && !(x.collected && mezzDone d s f b)

/-- Is band b of frame slot i sealed (R91)? -/
def regionSealed (d : Dev) (s i b : Nat) : Bool :=
  (stream d (liveSid s)).frames.any fun f => f.number % objGet d 0x3030 s == i && bandSealed d s f b

/-- Stores the bytes of a unit in a window. -/
def storeBytes : Nat → Nat → Nat → Tab Nat → Tab Nat
  | 0, _, _, t => t
  | n + 1, off, v, t => storeBytes n (off + 1) (v / 256) (tabSet t off (v % 256))

/-- One write unit of 64 bytes at `off` (R90 to R92): whole or not, its bytes; stored, or dropped and counted. -/
def writeUnit (t off : Nat) (whole : Bool) (v : Nat) (d : Dev) : Dev :=
  match windowAt d t off with
  | none => objCount 32 0x5030 t 1 d
  | some s =>
    let x := sess d s
    let rel := off - x.window.getD 0
    let stride := strideOf (intakePrm d s)
    if !intakeOn d then objCount 32 0x5022 s 1 d
    else
      match bandAtOffset (partsOf (intakePrm d s)) (rel % stride) with
      | none => objCount 32 0x5030 t 1 d
      | some b =>
        if !whole || regionSealed d s (rel / stride) b then objCount 32 0x5022 s 1 d
        else setSess s { x with src := storeBytes 64 rel v x.src } d

/-- The units that a write of `n` bytes touches, in address order. -/
def writeUnits (t base : Nat) (en : List Bool) (off v : Nat) : Nat → Nat → Dev → Dev
  | 0, _, d => d
  | k + 1, i, d =>
    let u := base + 64 * i
    let lo := u - off
    let whole := decide (off ≤ u) && decide (u + 64 ≤ off + en.length) && ((en.drop lo).take 64).all id
    writeUnits t base en off v k (i + 1) (writeUnit t u whole (bytesAt v lo 64) d)

/-- The samples that a tile reads: sample `col` of row `row` of plane `p` (0 Y, 1 Cb, 2 Cr) of frame slot i of a window,
in the 10-bit form of R89. -/
def srcByte (x : Session) (off : Nat) : Nat := tabGet 0 x.src off
/-- A little-endian number of n bytes, from what gives byte `off`. -/
def wordAt (g : Nat → Nat) (off : Nat) : Nat → Nat
  | 0 => 0
  | n + 1 => g off + 256 * wordAt g (off + 1) n
/-- Sample k of a row that begins at `off`, in the containers of the format, in the 10-bit form (R88, R89). -/
def sampleAt (g : Nat → Nat) (fmt off k : Nat) : Nat :=
  if fmt ≤ 3 then 4 * g (off + k)
  else if fmt = 4 then wordAt g (off + 2 * k) 2 / 64
  else if fmt = 5 then wordAt g (off + 2 * k) 2 % 1024
  else if fmt = 6 then bits (wordAt g (off + k / 4 * 5) 5) (10 * (k % 4)) 10
  else bits (wordAt g (off + k / 3 * 4) 4) (10 * (k % 3)) 10
/-- Does the format give Cr before Cb (R88)? -/
def crFirst (fmt : Nat) : Bool := fmt == 1 || fmt == 3
/-- Where a sample of a plane lies: the part, and its place in a row (R88). -/
def sampleOf (d : Dev) (s i p row col : Nat) : Nat :=
  let q := intakePrm d s
  let fmt := q 0x301E
  let parts := partsOf q
  let c := if p = 0 then 0 else if crFirst fmt then 2 - p else p - 1
  let pl := parts.getD (if p = 0 then 0 else if planar fmt then 1 + c else 1) ⟨0, 0, 0, 1⟩
  let k := if p = 0 || planar fmt then col else 2 * col + c
  sampleAt (srcByte (sess d s)) fmt (i * strideOf q + pl.off + row * pl.pitch) k

/-! ## Depth, watermarks, HOLD_N (R104 to R106) -/

/-- The intake depth of a session (R104). -/
def intakeDepth (d : Dev) (s : Nat) : Nat :=
  sumBy (fun f => ((List.range f.bands.length).filter (bandSealed d s f)).length) (stream d (liveSid s)).frames

/-- The HOLD_N pins driven low (R106). -/
def holdLevel (d : Dev) : Nat :=
  sumBy (fun k =>
    if bit (regGet d Reg.dmaHoldCtrl.base) k &&
        (bit (regGet d Reg.dmaHoldCtrl.base) (8 + k) ||
          (d.flt.safe && fld d Reg.dmaIntakeCtrl.base 1 1 == 1) ||
          d.sess.any fun e => e.2.held && objNow d 0x3036 e.1 == k)
    then 2 ^ k else 0) (List.range 8)

/-- The pins follow; ASSERT_X of each pin that goes low is set (DMA_HOLD_STATUS). -/
def holdUpdate (d : Dev) : Dev :=
  let l := holdLevel d
  let fell := Nat.land l (Nat.xor l d.hold)
  let key := Reg.dmaHoldStatus.base
  { regSet key (Nat.lor (regGet d key) (fell * 256)) d with hold := l }

/-- A crossing (R105). -/
def crossing (s : Nat) (held : Bool) (d : Dev) : Dev :=
  let x := sess d s
  let n := (x.xcount + 1) % 65536
  let y : Session := { x with held := held, xcount := n, highX := x.highX || held, lowX := x.lowX || !held }
  holdUpdate (raise (128 + s)
    (postTenant s 1 3 0 s (b2n held + n * 2 ^ 16) (objCount 32 0x5025 s 1 (setSess s y d))))

/-- The depth has moved, or the watermarks have changed (R105). -/
def waterTest (s : Nat) (d : Dev) : Dev :=
  let dep := intakeDepth d s
  let x := sess d s
  let d1 := objMax 0x5020 s dep d
  if !x.held && decide (objNow d 0x3034 s ≤ dep) then crossing s true d1
  else if x.held && decide (dep ≤ objNow d 0x3035 s) then crossing s false d1
  else d1

/-- DMA_INTAKE_WM[s]. -/
def intakeWm (d : Dev) (s : Nat) : Nat :=
  let x := sess d s
  intakeDepth d s % 512 + b2n x.held * 2 ^ 9 + b2n x.highX * 2 ^ 10 + b2n x.lowX * 2 ^ 11 + x.xcount * 2 ^ 16

/-! ## Credits and frame starts (R65, R97) -/

/-- p of R97: the frame period, or the charge period. -/
def periodOf (d : Dev) (sid : Nat) : Nat := if prm d sid 0x3016 = 0 then prm d sid 0x3017 else prm d sid 0x3016

/-- Is a credit due at stitch n and not yet given? -/
def creditDue (d : Dev) (s n : Nat) : Bool :=
  let x := sess d s
  (x.st == .running || x.st == .draining) && decide (x.creditBase < n) && decide (0 < periodOf d s) &&
    (n - x.creditBase) % periodOf d s == 0 && x.creditAt != some n

/-- A credit is given for stitch n (R97). -/
def giveCredit (s n : Nat) (d : Dev) : Dev :=
  let x := sess d s
  if creditDue d s n then setSess s { x with credits := min 2 (x.credits + 1), creditAt := some n } d else d

/-- The counter is set to 1 at the stitch at which START or RESUME takes effect (R97). -/
def startCredits (s n : Nat) (d : Dev) : Dev :=
  setSess s { sess d s with credits := 1, creditBase := n, creditAt := some n, lastNumber := none } d

/-! ## Missing bands (R99, R100) -/

/-- The missing-band limit L (R99). -/
def missingLimit (d : Dev) (s : Nat) : Nat := if objGet d 0x3033 s = 0 then periodOf d s else objGet d 0x3033 s

/-- Substitutes the bands of a frame that are not accepted; how many and which (R99). -/
def substBands (at_ stamp : Nat) : List Band → List Band
  | [] => []
  | b :: t => (if b.st = 0 then { b with st := 2, ready := at_, stamp := stamp } else b) :: substBands at_ stamp t

/-- The numbers of the bands not accepted. -/
def missing (f : Frame) : List Nat := (List.range f.bands.length).filter fun b => (f.band b).st == 0

/-- Is a started frame at its missing-band limit at stitch n, with bands missing? -/
def substDue (d : Dev) (s n : Nat) (f : Frame) : Bool :=
  f.count.isSome && !f.spliced && !(missing f).isEmpty && decide (f.start + missingLimit d s ≤ n)

/-- The missing bands of the frame with count c are substituted, counted and posted (R99). -/
def substFrame (s c : Nat) (d : Dev) : Dev :=
  match frameAt d (liveSid s) c with
  | none => d
  | some f =>
    let d1 := updFrame (liveSid s) c
      (fun g => { g with bands := substBands (g.start + missingLimit d s) d.tbs.ns g.bands }) d
    waterTest s (forEach (missing f)
      (fun b d => postTenant s 1 2 0 s (c % 2 ^ 32 + b * 2 ^ 32) (objCount 32 0x5023 s 1 d)) d1)

/-- At stitch n every frame of the session that is at its limit is substituted (R99). -/
def substitute (s n : Nat) (d : Dev) : Dev :=
  let x := sess d s
  if (x.st == .running || x.st == .draining) && objGet d 0x3010 s == 0 then
    forEach ((stream d (liveSid s)).frames.filter (substDue d s n)) (fun f d => match f.count with
      | some c => substFrame s c d
      | none => d) d
  else d

/-- The spend of a frame: what its collected bands took, the plans of the others, and the budget left for bands without a
plan (R168). -/
def frameSpend (f : Frame) : Int :=
  let one := fun (b : Band) =>
    if b.collected then b.record.bits + b.record.hdrBits else match b.plan with
      | some p => p.target
      | none => 0
  let targets := sumBy (fun b => match b.plan with
    | some p => p.target
    | none => 0) f.bands
  let rest : Int := if f.bands.any fun b => b.plan.isNone && !b.collected then f.budget.getD 0 - targets * one16 else 0
  sumBy one f.bands * one16 + rest

/-- What frames that leave the list without being finished have spent (R168). -/
def keepSpend (fs : List Frame) (past : Tab Past) : Tab Past :=
  fs.foldl (fun p f => match f.count with
    | none => p
    | some c => tabUpd {} p c fun q => { q with spend := frameSpend f, spliced := f.spliced }) past
/-- Bands of a frame that are accepted or substituted and have no part assigned. -/
def undispatched (f : Frame) : Nat := (f.bands.filter fun b => b.st != 0 && !b.parts.any (·.assigned)).length

/-- Frames that have not started are discarded and counted (R100: PAUSE). -/
def dropUnstarted (s : Nat) (d : Dev) : Dev :=
  let x := stream d (liveSid s)
  let gone := x.frames.filter fun f => f.count.isNone
  waterTest s (objCount 32 0x5023 s (sumBy undispatched gone)
    (setStream (liveSid s) { x with frames := x.frames.filter fun f => f.count.isSome } d))

/-- Suspension and drain abandonment (R54, R100): bands not dispatched are discarded and counted, every region is opened,
frames that cannot complete any more are dropped; the credit counter stops. -/
def dropUndispatched (s : Nat) (d : Dev) : Dev :=
  let x := stream d (liveSid s)
  let n := sumBy undispatched x.frames
  let whole := fun f : Frame => f.bands.all fun b => b.assigned
  let keep := x.frames.filter fun f => f.count.isSome && whole f
  let m := stream d (mezzSid s)
  let d1 := setStream (mezzSid s) { m with
    frames := m.frames.filter whole
    past := keepSpend (m.frames.filter fun f => !whole f) m.past } d
  waterTest s (objCount 32 0x5023 s n
    (setStream (liveSid s) { x with
      frames := keep.map fun f => { f with bands := f.bands.map fun b => { b with opened := true } }
      past := keepSpend (x.frames.filter fun f => !whole f) x.past } d1))

/-- The held state ends without a crossing, depth and flags are 0 (R105: return to DEFINED or FREE). -/
def intakeOff (s : Nat) (d : Dev) : Dev :=
  holdUpdate (setSess s { sess d s with held := false, highX := false, lowX := false, window := none, src := [], feed := [] } d)

/-! ## Doorbells (R94 to R96) -/

/-- Is the frame with number g the next frame of the session (R96)? -/
def isNextFrame (x : Session) (g : Nat) : Bool :=
  match x.lastNumber with
  | none => true
  | some l => g == (l + 1) % 256

/-- The open frame with number g (R96). -/
def openFrame (d : Dev) (s g : Nat) : Option Frame :=
  (stream d (liveSid s)).frames.find? fun f => !f.spliced && f.number == g && !f.closed

/-- The codes a doorbell earns (R94 to R96, R485). -/
def doorbellErrs (d : Dev) (t w : Nat) : List Err :=
  let s := bits w 0 8
  let b := bits w 8 7
  let g := bits w 16 8
  let x := sess d s
  let count := ceilDiv (objGet d 0x3015 s) 64
  let none? := x.lastNumber.isNone
  let next := isNextFrame x g
  let f := openFrame d s g
  let x0 := x.splice.isSome && x.spliceEnd != 2
  earned [(ownerOf d s != t, .access),
    (bit w 15 || bits w 26 6 != 0 || decide (count ≤ b), .range),
    (!intakeOn d, .state),
    (!(x.st == .running || x.st == .draining), .state),
    (!x0 && none? && b != 0, .state),
    (!x0 && !none? && next && f.isNone && b != 0, .state),
    (!x0 && !none? && next && f.isNone && x.st == .draining, .state),
    (!x0 && none? && x.st == .draining, .state),
    (!x0 && !none? && !next && f.isNone, .state),
    (!x0 && (match f with
      | some f => (f.band b).st == 2
      | none => false), .state),
    (!x0 && next && f.isNone &&
      (openFrame d s ((g + 256 - objGet d 0x3030 s) % 256)).isSome, .busy),
    (!x0 && (match f with
      | some f => (f.band b).st == 1
      | none => false), .conflict),
    ((bit w 24 && objGet d 0x3031 s == 0) || (bit w 25 && objGet d 0x3032 s == 0), .conflict),
    (objGet d 0x3010 s != 0, .conflict)]

/-- A rejected doorbell (R95). -/
def doorbellReject (t w : Nat) (e : Err) (d : Dev) : Dev :=
  let s := bits w 0 8
  let d1 := regSet (Reg.vfDbLastErr.vfAt t 0) (e.code + s * 2 ^ 8 + bits w 8 7 * 2 ^ 16 + bits w 16 8 * 2 ^ 23) d
  if ownerOf d s = t then objCount 32 0x5021 s 1 d1 else objCount 32 0x5030 t 1 d1

/-- The row of the region-of-interest map of band b (R102, R103): the classes packed three bits a block, and the entries
with a reserved bit set. -/
def roiRow (x : Session) (off : Nat) : Nat → Nat × Nat
  | 0 => (0, 0)
  | n + 1 =>
    let r := roiRow x (off + 1) n
    let v := srcByte x off
    if 8 ≤ v then (8 * r.1, r.2 + 1) else (v + 8 * r.1, r.2)

/-- The row is copied into the persistent class table at acceptance (R103). -/
def copyRoi (s slot b : Nat) (d : Dev) : Dev :=
  let q := intakePrm d s
  let p := (partsOf q).getD 4 ⟨0, 0, 0, 1⟩
  let r := roiRow (sess d s) (slot * strideOf q + p.off + b * p.pitch) (ceilDiv (q 0x3014) 64)
  objCount 32 0x5026 s r.2 (updStream (liveSid s) (fun x => { x with classes := tabPut 0 x.classes b r.1 }) d)

/-- An accepted doorbell (R95, R96): it opens its frame if it is the next one, and seals the band. During a splice the band
is discarded at once (R240). -/
def doorbellAccept (w : Nat) (d : Dev) : Dev :=
  let s := bits w 0 8
  let b := bits w 8 7
  let g := bits w 16 8
  let x := sess d s
  if x.splice.isSome && x.spliceEnd != 2 then objCount 32 0x5023 s 1 d
  else
    let d1 :=
      if (openFrame d s g).isSome then d
      else
        setSess s { x with lastNumber := some g }
          (updStream (liveSid s)
            (fun y => { y with frames := y.frames ++
              [{ number := g, bands := List.replicate (ceilDiv (objGet d 0x3015 s) 64) {} }] }) d)
    let band : Band := { st := 1, ready := d.tbs.cnt, stamp := d.tbs.ns, mv := bit w 24, roi := bit w 25 }
    let d2 := updStream (liveSid s)
      (fun y => { y with
        frames := y.frames.map fun f => if f.number == g && !f.spliced && !f.closed then f.setBand b band else f }) d1
    let d3 := if bit w 25 then copyRoi s (g % objGet d 0x3030 s) b d2 else d2
    let cls := tabGet 0 (stream d3 (liveSid s)).classes b
    let d4 := updStream (liveSid s)
      (fun y => { y with
        frames := y.frames.map fun f =>
          if f.number == g && !f.spliced && !f.closed then f.setBand b { f.band b with cls := cls } else f }) d3
    waterTest s d4

end Sys2Proof.Machine
end

