-- ==== Sys2Proof/Machine/Shaper.lean ====
section
/-! DEFINITION. Destinations and their shapers (10: R252 to R268; 7: R163 to R166, R177, R185). -/
namespace Sys2Proof.Machine

/-! ## Entries -/

/-- A destination of a session. -/
def dest (d : Dev) (s e : Nat) : Dest := tabGet {} (sess d s).dests e
/-- Changes a destination. -/
def setDest (s e : Nat) (x : Dest) (d : Dev) : Dev := setSess s { sess d s with dests := tabPut {} (sess d s).dests e x } d
/-- Changes a destination by a function. -/
def updDest (s e : Nat) (f : Dest → Dest) (d : Dev) : Dev := setDest s e (f (dest d s e)) d
/-- The destination entry 0x3100+e in force (R252, R255). -/
def destEntry (d : Dev) (s e : Nat) : Nat := objNow d (0x3100 + e) s
/-- The shaper entry 0x3140+e in force (R254, R255). -/
def shaperEntry (d : Dev) (s e : Nat) : Nat := objNow d (0x3140 + e) s
/-- Dc and Dp in bytes (R254). -/
def depthC (d : Dev) (s e : Nat) : Nat := bytesAt (shaperEntry d s e) 8 4
/-- Dp in bytes (R254). -/
def depthP (d : Dev) (s e : Nat) : Nat := bytesAt (shaperEntry d s e) 12 4
/-- The rates of the shaper entry in kbit/s. -/
def rateC (d : Dev) (s e : Nat) : Nat := bytesAt (shaperEntry d s e) 0 4
/-- The peak rate of the shaper entry. -/
def rateP (d : Dev) (s e : Nat) : Nat := bytesAt (shaperEntry d s e) 4 4
/-- The queue limit of the shaper entry. -/
def queueLimit (d : Dev) (s e : Nat) : Nat := bytesAt (shaperEntry d s e) 20 4
/-- M, the payload size (R253). -/
def payloadSize (d : Dev) (s : Nat) : Nat := objGet d 0x30C4 s

/-- A of R256 for a codec. -/
def allowanceA (codec : Nat) : Nat := if codec = 0 then 1 else if codec ≤ 2 then 3 else 2

/-- The headers of a packet without OVERHEAD, for a destination entry (R263). -/
def headerBytesOf (entry codec : Nat) : Nat :=
  18 + 4 * byteAt entry 2 + (if bit entry 1 then 40 else 20) + 8 + 12 + (if bit entry 2 then 8 else 0) + allowanceA codec + 16

/-- h of R263. -/
def costH (d : Dev) (s e : Nat) : Nat :=
  headerBytesOf (destEntry d s e) (objGet d 0x3011 s) + byteAt (shaperEntry d s e) 16

/-- The enabled destinations of a session. -/
def enabledDests (d : Dev) (s : Nat) : List Nat := (List.range 64).filter fun e => (dest d s e).st != 0

/-- Does destination e bind (0x3080)? -/
def isBinding (d : Dev) (s e : Nat) : Bool := bit (objNow d 0x3080 s) e

/-- The layer limit of a destination (0x3081, 0x3082). -/
def layerLimit (d : Dev) (s e : Nat) : Nat :=
  min (bits (objNow d (if e < 32 then 0x3081 else 0x3082) s) (2 * (e % 32)) 2) (layersOf d s - 1)

/-- Does a destination receive a layer (R185, R262)? -/
def admitsLayer (d : Dev) (s e layer : Nat) : Bool :=
  decide (layer ≤ layerLimit d s e) && (isBinding d s e || decide (layer ≤ (dest d s e).layer))

/-- The destinations that bind a plan of a frame of a layer (R166, R169); one that still awaits its first frame counts (log 110). -/
def bindingDests (d : Dev) (s layer : Nat) : List Nat :=
  (enabledDests d s).filter fun e => isBinding d s e && decide (2 ≤ (dest d s e).st) && decide (layer ≤ layerLimit d s e)

/-- Destinations of a tenant that are enabled (R37, R255). -/
def destCount (d : Dev) (t : Nat) : Nat :=
  sumBy (fun e => if ownerOf d e.1 = t then (e.2.dests.filter fun x => x.2.st != 0).length else 0) d.sess

/-- Destinations of the device that are enabled (R255). -/
def destTotal (d : Dev) : Nat := sumBy (fun e => (e.2.dests.filter fun x => x.2.st != 0).length) d.sess

/-! ## Refill (R264, R268, R177) -/

/-- Bytes per stitch of a rate in kbit/s, in 1/256 byte, rounded down (R264). -/
def perStitch (kbps : Nat) : Nat := kbps * 5 * 256 / 144

/-- A logical port. -/
def port (d : Dev) (p : Nat) : Port := tabGet {} d.pke.ports p
/-- Changes a logical port. -/
def setPort (p : Nat) (x : Port) (d : Dev) : Dev := { d with pke := { d.pke with ports := tabPut {} d.pke.ports p x } }
/-- A class queue of a port. -/
def classQueue (d : Dev) (p c : Nat) : List Pkt := tabGet [] (port d p).queues c
/-- Changes a class queue. -/
def setClassQueue (p c : Nat) (l : List Pkt) (d : Dev) : Dev :=
  setPort p { port d p with queues := tabPut [] (port d p).queues c l } d

/-- The bytes queued for a destination (R163): media in its queue and resends not yet sent. -/
def queuedBytes (d : Dev) (s e : Nat) : Nat :=
  sumBy (·.cost) (dest d s e).queue +
    sumBy (·.cost) ((classQueue d (byteAt (destEntry d s e) 1) 1).filter fun p => p.s == s && p.e == e)

/-- The wire bytes of a plan of T bits (R165). -/
def wireBytes (t h m : Nat) : Nat := ceilDiv t 8 + h * ceilDiv (ceilDiv t 8) m

/-- u of R164 in bytes: plans that are fixed and whose packets have not entered the queue; in Latency mode Frame the whole
frame from its first plan on (R174, log 14). -/
def promised (d : Dev) (s e : Nat) : Nat :=
  sumBy (fun f =>
    let planned := sumBy (fun b => match b.plan with
      | some p =>
        if p.left || !(p.fixed || f.frameMode) then 0
        else ((p.wire.find? fun w => w.1 == e).map (·.2)).getD 0
      | none => 0) f.bands
    let rest := match f.budget with
      | some b =>
        if f.frameMode && isBinding d s e && f.bands.any (fun x => x.plan.isNone) then
          wireBytes ((b / 65536).toNat - sumBy (fun x => match x.plan with
            | some p => p.target
            | none => 0) f.bands) (costH d s e) (payloadSize d s)
        else 0
      | none => 0
    planned + rest) (stream d (liveSid s)).frames

/-- The allowance of R164 in whole bytes, from tokens, queued and promised bytes, with the stitch terms taken `p` times
(R174). -/
def allowance (d : Dev) (s e p : Nat) (ct pt q u : Int) : Int :=
  let x := dest d s e
  let cr : Int := perStitch x.committed
  let pr : Int := perStitch x.peak
  let a := min (ct + min (p * cr) (256 * depthC d s e)) (pt + min (p * pr) (256 * depthP d s e)) - q - u
  max 0 ((100 * a - cr * inForce d s 0x3077) / 25600)

/-- The largest bitstream in bytes that fits an allowance (R165). -/
def fitBytes (a m h : Nat) : Nat :=
  let k := a / (m + h)
  k * m + (a - k * (m + h) - h)

/-- The maximum rate in force (0x3072). -/
def maxRate (d : Dev) (s : Nat) : Nat := if inForce d s 0x3072 = 0 then inForce d s 0x3071 else inForce d s 0x3072

/-- The peak rate that congestion control sets with r (R183). -/
def controlPeak (d : Dev) (s r : Nat) : Nat := r * inForce d s 0x307F / 65536

/-- r within the floor and the ceiling in force (R183, R184). -/
def controlClamp (d : Dev) (s r : Nat) : Nat :=
  let ceiling := if objNow d 0x307A s = 0 then maxRate d s else objNow d 0x307A s
  max (objNow d 0x3079 s) (min ceiling r)

/-- A report's r is clamped to the bounds of the refill that applies it (R183, R184). -/
def settleRate (s e : Nat) (d : Dev) : Dev :=
  let x := dest d s e
  if x.rateNew then
    let r := controlClamp d s x.rate
    setDest s e { x with rate := r, ratePeak := controlPeak d s r, rateNew := false } d
  else d

/-- The committed and the peak rate that a refill applies (R183, R264): the controller's, or the shaper entry's. -/
def ratesOf (d : Dev) (s e : Nat) : Nat × Nat :=
  if objNow d 0x3078 s = 1 then ((dest d s e).rate, (dest d s e).ratePeak) else (rateC d s e, rateP d s e)

/-- The refill of one destination (R264), with the clips of R177 and R268; late plans are counted, one for each binding destination at
each decrease that finds it late (R177; log 109). -/
def refillDest (s e : Nat) (d0 : Dev) : Dev :=
  let d := settleRate s e d0
  let x := dest d s e
  if x.st = 0 then d0
  else
    let c := (ratesOf d s e).1
    let p := (ratesOf d s e).2
    let cr : Int := perStitch c
    let pr : Int := perStitch p
    let ct0 := min (x.ct + cr) (256 * depthC d s e)
    let pt0 := min (x.pt + pr) (256 * depthP d s e)
    let ct := if c < x.committed then min ct0 (4 * cr) else ct0
    let pt := if p < x.peak then min pt0 (4 * pr) else pt0
    let d1 := setDest s e { x with ct := ct, pt := pt, committed := c, peak := p } d
    if (c < x.committed || p < x.peak) && isBinding d s e then
      let late := sumBy (fun f => (f.bands.filter fun b => match b.plan with
        | some pl =>
          pl.fixed && !pl.left &&
            match pl.wire.find? fun w => w.1 == e with
            | some w =>
              decide (allowance d1 s e 1 ct pt (256 * queuedBytes d s e) (256 * (promised d1 s e - w.2)) < (w.2 : Int))
            | none => false
        | none => false).length) (stream d (liveSid s)).frames
      objCount 32 0x5063 s late d1
    else d1

/-- Step 2 of R24: every enabled destination is refilled. -/
def refillAll (d : Dev) : Dev :=
  forEach (tabKeys d.sess) (fun s d => forEach (enabledDests d s) (refillDest s) d) d

/-! ## The stitch sample (R163) -/

/-- Step 3 samples every destination. -/
def sampleDest (s e : Nat) (d : Dev) : Dev :=
  let x := dest d s e
  setDest s e { x with sampleCt := x.ct, samplePt := x.pt, sampleQ := 256 * queuedBytes d s e,
                       sampleU := 256 * promised d s e, madeSince := 0 } d

/-- The sample of every session that sends (R163). -/
def sampleAll (d : Dev) : Dev :=
  forEach (tabKeys d.sess) (fun s d =>
    if ((sess d s).st == .running || (sess d s).st == .draining) && objGet d 0x3010 s == 0 then
      forEach (enabledDests d s) (sampleDest s) d
    else d) d

/-- The allowance at the sample, less the plans made since (R164, R169, R173), over p stitches. -/
def sampled (d : Dev) (s e p : Nat) : Nat :=
  let x := dest d s e
  (allowance d s e p x.sampleCt x.samplePt x.sampleQ (x.sampleU + 256 * x.madeSince)).toNat

/-! ## Effective rates and layers (R166, R176, R185) -/

/-- The least of a list and a start. -/
def leastOf (a : Nat) (l : List Nat) : Nat := l.foldl min a

/-- R_e in kbit/s (R166). -/
def effectiveRate (d : Dev) (s : Nat) : Nat :=
  leastOf (inForce d s 0x3071) (((enabledDests d s).filter (isBinding d s)).map fun e => (dest d s e).committed)

/-- R_x in kbit/s (R166). -/
def effectiveMax (d : Dev) (s : Nat) : Nat :=
  leastOf (maxRate d s) (((enabledDests d s).filter (isBinding d s)).map fun e => (dest d s e).peak)

/-- The share of bits in layers 0 to t, in thousandths (R176). -/
def layerShare (t l : Nat) : Nat :=
  if t ≤ 1 then 1000 else if t = 2 then (if l = 0 then 625 else 1000)
  else if l = 0 then 375 else if l = 1 then 625 else 1000

/-- L_d of a destination that does not bind (R185). -/
def spectatorLayer (d : Dev) (s e : Nat) : Nat :=
  ((List.range (layerLimit d s e + 1)).reverse.find? fun l =>
    decide (layerShare (layersOf d s) l * effectiveRate d s ≤ 1000 * (dest d s e).committed)).getD 0

/-- At the boundary of frame c a spectator's layer is computed; it applies from the first packet of the next layer-0 frame
(R185). -/
def spectatorAt (s c e : Nat) (d : Dev) : Dev :=
  if isBinding d s e then d
  else updDest s e (fun x => { x with nextLayers := x.nextLayers ++ [(c, spectatorLayer d s e)] }) d

end Sys2Proof.Machine
end

