-- ==== Sys2Proof/Machine/Units.lean ====
section
/-! DEFINITION. Tiles and linings as the other units see them, and the checks that single rules add to the combination check
(R87, R150, R162, R244, R46). -/
namespace Sys2Proof.Machine

/-! ## Tiles -/

/-- A tile. -/
def tile (d : Dev) (t : Nat) : Tile := tabGet {} d.tiles t
/-- Changes a tile. -/
def setTile (t : Nat) (x : Tile) (d : Dev) : Dev := { d with tiles := tabPut {} d.tiles t x }
/-- Changes a tile by a function. -/
def updTile (t : Nat) (f : Tile → Tile) (d : Dev) : Dev := setTile t (f (tile d t)) d
/-- Is the tile out of the tile limit: retired, hung or contained (R59, R205)? A tile that failed BOOT is contained. -/
def Tile.gone (x : Tile) : Bool := x.retired || x.hung || x.contained
/-- Retired tiles of R59. -/
def retiredCount (d : Dev) : Nat := ((List.range 96).filter fun t => (tile d t).gone).length
/-- Reserved spares (0x1447:0). -/
def reservedSpares (d : Dev) : Nat := ((List.range 96).filter fun t => (tile d t).spare).length
/-- Is the tile usable (R73)? -/
def Tile.usable (x : Tile) : Bool := x.on && x.boot == 2 && !x.gone && !x.spareSeen && !x.halted
/-- Has the nanosecond in which the deadline falls passed (R62, R78)? -/
def Tile.pastDeadline (x : Tile) (now : Nat) : Bool := decide (ceilDiv x.deadline 9 < now)
/-- The reservations become visible to the Loom at a boundary (R23, R31). -/
def sparesShown (d : Dev) : Dev :=
  forEach (tabKeys d.tiles) (fun t d => updTile t (fun x => { x with spareSeen := x.spare }) d) d
/-- Reserves the n highest-numbered tiles that are not gone (R31; log 17). -/
def reserveSpares (n : Nat) (d : Dev) : Dev :=
  let ok := (List.range 96).filter fun t => !(tile d t).gone
  let mine := ok.drop (ok.length - n)
  forEach (List.range 96) (fun t d => updTile t (fun x => { x with spare := mine.contains t }) d) d
/-- LOOM_TILE_STATE[t].STATE (3). -/
def tileState (x : Tile) : Nat :=
  if x.retired then 6 else if x.hung then 4 else if x.contained then 7 else if x.spare then 5
  else if !x.on || x.boot != 2 then 0 else if x.cur.isNone then 1 else if x.nxt.isNone then 2 else 3
/-- LOOM_TILE_STATE[t] (3). -/
def tileStateReg (x : Tile) : Nat :=
  let j := x.cur.getD { stream := 0, frame := 0, band := 0, part := 0 }
  tileState x + b2n (isLining j.stream) * 2 ^ 3 + slotOf j.stream * 2 ^ 4 + j.band * 2 ^ 12 + j.part * 2 ^ 19 +
    x.budget / 1000 * 2 ^ 22

/-! ## Linings -/

/-- A lining slot. -/
def lining (d : Dev) (l : Nat) : Lining := tabGet {} d.linings l
/-- Changes a lining slot. -/
def setLining (l : Nat) (x : Lining) (d : Dev) : Dev := { d with linings := tabPut {} d.linings l x }
/-- Changes a lining slot by a function. -/
def updLining (l : Nat) (f : Lining → Lining) (d : Dev) : Dev := setLining l (f (lining d l)) d
/-- 0x4000:l: 0 IDLE, 1 ANCHORING, 2 IN_STEP, 3 DEGRADED, 4 PROMOTED (R228). -/
def linState (d : Dev) (l : Nat) : Nat := objGet d 0x4000 l
/-- The lining slots that are not IDLE. -/
def activeLinings (d : Dev) : List Nat := (List.range 256).filter fun l => linState d l != 0
/-- The tenant of a lining. -/
def linTenant (d : Dev) (l : Nat) : Nat := objGet d 0x4002 l
/-- The standby slot of a lining. -/
def linStandby (d : Dev) (l : Nat) : Nat := objGet d 0x4003 l
/-- Is a session slot the standby slot of a lining (R199)? -/
def isStandby (d : Dev) (s : Nat) : Bool := (activeLinings d).any fun l => linStandby d l == s
/-- The charges of the hosted linings; a promoted one is charged as its session (R58, R200, R216). -/
def liningSum (d : Dev) : Charges :=
  (activeLinings d).foldl (fun a l =>
    let c := (lining d l).charges
    { tiles := a.tiles + c.tiles, fabric := a.fabric + c.fabric, intake := a.intake + c.intake, quota := a.quota + c.quota })
    {}

/-! ## Added rows of the combination check -/

/-- A quantiser of a parameter set, or what stands for it (R161). -/
def quantOf (p : Nat → Nat) (idx : Nat) (dflt : Int) : Int := if p idx = 0x7FFFFFFF then dflt else signed 32 (p idx)
/-- The rows that R87, R150, R162 and R244 add (R46). -/
def addedChecks (_d : Dev) (_s : Nat) (p : Nat → Nat) : List (Bool × Err) :=
  let codec := p 0x3011
  let lo : Int := if codec = 0 then 1 else if codec ≤ 2 then -6 * ((p 0x3013 : Int) - 8) else 0
  let hi : Int := if codec = 0 then 255 else 51
  let out := fun idx => p idx != 0x7FFFFFFF && !(decide (lo ≤ signed 32 (p idx)) && decide (signed 32 (p idx) ≤ hi))
  let mn := quantOf p 0x3074 lo
  let mx := quantOf p 0x3075 hi
  let t := quantOf p 0x3073 (if codec = 0 then 120 else 30)
  let r := p 0x3062
  [(p 0x3010 != 0 && (p 0x3031 != 0 || p 0x3032 != 0), .conflict),
   (decide (p 0x3034 ≤ p 0x3035), .conflict),
   (p 0x3050 % 2 ^ (p 0x301C - 1) != 0, .conflict),
   (decide (ceilDiv (p 0x3014) 64 < r) || (p 0x3063 != 0 && decide (p 0x3063 < r)) || decide (p 0x30A1 < r), .conflict),
   (out 0x3073 || out 0x3074 || out 0x3075, .range),
   (p 0x3070 == 1 && p 0x3072 != 0 && decide (p 0x3072 < p 0x3071), .conflict),
   (decide (mx < mn) || decide (t < mn) || decide (mx < t), .conflict),
   (p 0x307A != 0 && decide (p 0x307A < p 0x3079), .conflict)]

end Sys2Proof.Machine
end

