-- ==== Sys2Proof/Machine/Admission.lean ====
section
/-! DEFINITION. Parameters and admission (2: R45 to R47, R58 to R61): the combination check, the charges, the sums. -/
namespace Sys2Proof.Machine

/-- A parameter set: the value of each session object. -/
abbrev Params := Nat → Nat

/-- The parameters of a session slot. -/
def params (d : Dev) (s : Nat) : Params := fun idx => objGet d idx s

/-- A parameter set with one object changed. -/
def Params.set (p : Params) (idx v : Nat) : Params := fun i => if i = idx then v else p i

/-- Is the codec of a codec-and-profile value AV1, HEVC or AVC (R44)? -/
def isAv1 (c : Nat) : Bool := c == 0
/-- HEVC (R44). -/
def isHevc (c : Nat) : Bool := c == 1 || c == 2
/-- AVC (R44). -/
def isAvc (c : Nat) : Bool := decide (3 ≤ c)

/-- AV1 levels: ten times the number, picture size, widest, tallest, and the smaller of the display and decode rates
(R46; the codec's standard, log 11). -/
def av1Levels : List (Nat × Nat × Nat × Nat × Nat) :=
  [(20, 147456, 2048, 1152, 4423680), (21, 278784, 2816, 1584, 8363520), (30, 665856, 4352, 2448, 19975680),
   (31, 1065024, 5504, 3096, 31950720), (40, 2359296, 6144, 3456, 70778880), (41, 2359296, 6144, 3456, 141557760),
   (50, 8912896, 8192, 4352, 267386880), (51, 8912896, 8192, 4352, 534773760), (52, 8912896, 8192, 4352, 1069547520),
   (53, 8912896, 8192, 4352, 1069547520), (60, 35651584, 16384, 8704, 1069547520),
   (61, 35651584, 16384, 8704, 2139095040), (62, 35651584, 16384, 8704, 4278190080),
   (63, 35651584, 16384, 8704, 4278190080)]

/-- HEVC levels: ten times the number, picture size, luma sample rate (R46; the codec's standard, log 11). -/
def hevcLevels : List (Nat × Nat × Nat) :=
  [(10, 36864, 552960), (20, 122880, 3686400), (21, 245760, 7372800), (30, 552960, 16588800), (31, 983040, 33177600),
   (40, 2228224, 66846720), (41, 2228224, 133693440), (50, 8912896, 267386880), (51, 8912896, 534773760),
   (52, 8912896, 1069547520), (60, 35651584, 1069547520), (61, 35651584, 2139095040), (62, 35651584, 4278190080)]

/-- AVC levels: ten times the number, frame size and rate in macroblocks (R46; the codec's standard, log 11). -/
def avcLevels : List (Nat × Nat × Nat) :=
  [(10, 99, 1485), (11, 396, 3000), (12, 396, 6000), (13, 396, 11880), (20, 396, 11880), (21, 792, 19800),
   (22, 1620, 20250), (30, 1620, 40500), (31, 3600, 108000), (32, 5120, 216000), (40, 8192, 245760), (41, 8192, 245760),
   (42, 8704, 522240), (50, 22080, 589824), (51, 36864, 983040), (52, 36864, 2073600), (60, 139264, 4177920),
   (61, 139264, 8355840), (62, 139264, 16711680)]

/-- Does the codec define the level (R46)? -/
def levelDefined (codec lvl : Nat) : Bool :=
  if isAv1 codec then av1Levels.any (·.1 == lvl)
  else if isHevc codec then hevcLevels.any (·.1 == lvl)
  else avcLevels.any (·.1 == lvl)

/-- The period at which a session is charged: its frame period, or its variable charge period (R58). -/
def chargePeriod (p : Params) : Nat := if p 0x3016 = 0 then p 0x3017 else p 0x3016

/-- The picture size, counted as the codec's standard counts it (R46). -/
def pictureSize (p : Params) : Nat :=
  if isAv1 (p 0x3011) then p 0x3014 * p 0x3015
  else if isHevc (p 0x3011) then p 0x3014 * (ceilDiv (p 0x3015) 8 * 8)
  else ceilDiv (p 0x3014) 16 * ceilDiv (p 0x3015) 16

/-- Do the picture size, its dimensions and the luma sample rate lie within the level (R46)? -/
def levelFits (p : Params) : Bool :=
  let size := pictureSize p
  let rate := fun lim => decide (size * 3600 ≤ lim * chargePeriod p)
  if isAv1 (p 0x3011) then
    av1Levels.any fun l =>
      l.1 == p 0x3012 && decide (size ≤ l.2.1) && decide (p 0x3014 ≤ l.2.2.1) && decide (p 0x3015 ≤ l.2.2.2.1) &&
        rate l.2.2.2.2
  else if isHevc (p 0x3011) then
    hevcLevels.any fun l =>
      l.1 == p 0x3012 && decide (size ≤ l.2.1) && decide (p 0x3014 * p 0x3014 ≤ 8 * l.2.1) &&
        decide ((ceilDiv (p 0x3015) 8 * 8) * (ceilDiv (p 0x3015) 8 * 8) ≤ 8 * l.2.1) && rate l.2.2
  else
    avcLevels.any fun l =>
      l.1 == p 0x3012 && decide (size ≤ l.2.1) &&
        decide (ceilDiv (p 0x3014) 16 * ceilDiv (p 0x3014) 16 ≤ 8 * l.2.1) &&
        decide (ceilDiv (p 0x3015) 16 * ceilDiv (p 0x3015) 16 ≤ 8 * l.2.1) && rate l.2.2

/-- The band limit in pixels of an effort (R47): what a tile codes in 250 µs. -/
def bandLimit (codec effort : Nat) : Nat :=
  let base := if effort = 0 then 400000 else if effort = 1 then 250000 else if effort = 2 then 125000 else 62500
  if isAvc codec then base * 5 / 4 else base

/-- The widest legal AVC session of an effort (R47). -/
def avcWidest (effort : Nat) : Nat :=
  if effort = 0 then 7680 else if effort = 1 then 4880 else if effort = 2 then 2440 else 1216

/-- The combination check of R46, its rows in table order, then the rows that other rules add (R46). -/
def comboChecks (d : Dev) (s : Nat) (p : Params) : List (Bool × Err) :=
  let kind := p 0x3010
  let codec := p 0x3011
  [(!levelDefined codec (p 0x3012), .range),
   (kind != 0 && (p 0x3019 != 1 || p 0x3018 != 0 || p 0x301B != 0 || p 0x301C != 1), .conflict),
   ((kind == 1 && p 0x301A != 0) || (kind == 2 && p 0x301A == 2), .conflict),
   ((p 0x3016 == 0 && p 0x3017 == 0) || (p 0x3016 != 0 && p 0x3017 != 0), .conflict),
   (!levelFits p, .conflict),
   (p 0x301B == 1 && objGet d 0x1101 0 == 0, .conflict),
   (p 0x3013 == 10 && (codec == 1 || decide (3 ≤ codec)), .unsupported),
   (decide (1 < p 0x301C) && !isAv1 codec, .unsupported),
   (isAvc codec && decide (avcWidest (p 0x3019) < p 0x3014), .unsupported)] ++ addedChecks d s p

/-- The code of the combination check, if it fails. -/
def comboErrs (d : Dev) (s : Nat) (p : Params) : List Err := firstOf (comboChecks d s p)

/-! ## Charges (R58) -/

/-- Pixels per second that a tile codes at an effort (1: capacity table). -/
def tileRate (codec effort : Nat) : Nat := bandLimit codec effort * 4000

/-- The charges of an Encode, Decode or Splice-only session (R58). -/
def chargesOf (d : Dev) (p : Params) : Charges :=
  let num := p 0x3014 * p 0x3015 * 3600
  let den := chargePeriod p
  let quota := ceilDiv num (den * 1000000)
  if p 0x3010 = 0 then
    let mezz := p 0x301A == 2
    { tiles := ceilDiv (num * 1000) (den * tileRate (p 0x3011) (p 0x3019)) +
        (if mezz then ceilDiv (num * 1000) (den * tileRate (p 0x3011) 0) else 0)
      fabric := (if objGet d 0x1101 0 = 1 then ceilDiv (num * 765) (den * 100000000)
          else ceilDiv (num * 69) (den * 10000000)) +
        (if mezz then ceilDiv (num * 69) (den * 10000000) else 0)
      intake := ceilDiv (num * 1875) (den * 1000000000)
      quota := quota + (if mezz then quota else 0) }
  else if p 0x3010 = 1 then
    { tiles := ceilDiv (num * 1000) (den * 6000000000), fabric := ceilDiv (num * 19) (den * 10000000), intake := 0,
      quota := quota }
  else {}

/-- The charges of a hosted lining (R58). -/
def liningChargesOf (p : Params) : Charges :=
  let num := p 0x3014 * p 0x3015 * 3600
  let den := chargePeriod p
  { tiles := ceilDiv (num * 1000) (den * 6000000000), fabric := ceilDiv (num * 19) (den * 10000000) }

/-- The larger of two charges in each sum (R61). -/
def Charges.larger (a b : Charges) : Charges :=
  { tiles := max a.tiles b.tiles, fabric := max a.fabric b.fabric, intake := max a.intake b.intake,
    quota := max a.quota b.quota }

/-- The charges a session holds: the larger of those in force and those of a change that waits (R61). -/
def heldCharges (x : Session) : Charges :=
  match x.newCharges with
  | none => x.charges
  | some n => x.charges.larger n

/-! ## Links and budgets (R30, R37, R349) -/

/-- Ten times the rate in GT/s of a rate code (R348). -/
def rate10 (code : Nat) : Nat :=
  if code = 1 then 25 else if code = 2 then 50 else if code = 3 then 80 else if code = 4 then 160
  else if code = 5 then 320 else if code = 6 then 640 else 0

/-- The intake budget of a link in MB/s (R30, R349). -/
def linkBudget (d : Dev) (i : Nat) : Nat :=
  let l := link d i
  let wide := portConfig d (i / 2) == 0
  if !l.up then 0
  else (if wide then 100000 else 50000) * l.lanes * rate10 l.rate / ((if wide then 16 else 8) * 640)

/-! ## The sums of R59 -/

/-- The sessions other than s, with what `f` gives of each. -/
def sumSessions (d : Dev) (s : Nat) (f : Nat → Session → Nat) : Nat :=
  sumBy (fun e => if e.1 = s then 0 else f e.1 e.2) d.sess

/-- tile_budget of R32, for a cap and an allowance in watts. -/
def tileBudget (cap allowance : Nat) : Nat := (cap - allowance) * 10 / 24

/-- The tile limit of R59 in thousandths. -/
def tileLimit (d : Dev) : Nat :=
  let plain := 1000 * (96 - retiredCount d - reservedSpares d)
  if objGet d 0x1102 0 = 1 then
    min plain (1000 * (tileBudget (objGet d 0x1103 0) (objGet d 0x1105 0) - reservedSpares d))
  else plain

/-- The tile charges of own sessions but s, and of hosted linings. -/
def tilesCharged (d : Dev) (s : Nat) : Nat :=
  sumSessions d s (fun _ x => (heldCharges x).tiles) + (liningSum d).tiles

/-- The fabric charges of own sessions but s, and of hosted linings. -/
def fabricCharged (d : Dev) (s : Nat) : Nat :=
  sumSessions d s (fun _ x => (heldCharges x).fabric) + (liningSum d).fabric

/-- The linings that carry their own charges: a promoted one is charged as its session (R58, R200, R216). -/
def chargedLinings (d : Dev) : List Nat := (activeLinings d).filter fun l => linState d l != 4

/-- The intake charges on a link of own sessions but s, and of guaranteed linings (R200). -/
def intakeCharged (d : Dev) (s lnk : Nat) : Nat :=
  sumSessions d s (fun i x => if tenantLink d (ownerOf d i) = lnk then (heldCharges x).intake else 0) +
    sumBy (fun l => if tenantLink d (linTenant d l) = lnk then (lining d l).charges.intake else 0) (chargedLinings d)

/-- The pixel rate charged to a tenant by its sessions but s, and by its guaranteed linings (R200). -/
def quotaCharged (d : Dev) (s t : Nat) : Nat :=
  sumSessions d s (fun i x => if ownerOf d i = t then (heldCharges x).quota else 0) +
    sumBy (fun l => if linTenant d l = t then (lining d l).charges.quota else 0) (chargedLinings d)

/-- The codes that charges `c` earn for tenant t, session s apart (R59, R303). -/
def admitTenant (d : Dev) (s t : Nat) (c : Charges) : List Err :=
  let lnk := tenantLink d t
  earned [(decide (objGet d 0x2003 t < quotaCharged d s t + c.quota), .quota),
    (decide (objGet d 0x2004 t < destCount d t), .quota),
    (decide (tileLimit d < tilesCharged d s + c.tiles), .capacity),
    (decide (min 800000 (dramBudget d) < fabricCharged d s + c.fabric), .capacity),
    (decide (linkBudget d lnk < intakeCharged d s lnk + c.intake), .capacity)]

/-- The codes that charges `c` for session s earn (R59, R303). -/
def admitErrs (d : Dev) (s : Nat) (c : Charges) : List Err := admitTenant d s (ownerOf d s) c

end Sys2Proof.Machine
end

