-- ==== Sys2Proof/Machine/Recon.lean ====
section
/-! DEFINITION. The stored reconstruction of a frame (5: R109; 6: R136, R141, R144 to R146): coarse planes, reference units and
their three formats, seams, and the multipliers of the costs. -/
namespace Sys2Proof.Machine

/-! ## Bit strings -/

/-- The n low bits of a number, least significant first. -/
def lowBits : Nat → Nat → List Bool
  | 0, _ => []
  | n + 1, v => (v % 2 == 1) :: lowBits n (v / 2)
/-- The number that a list of bits spells, least significant first. -/
def ofBits : List Bool → Nat
  | [] => 0
  | b :: t => b2n b + 2 * ofBits t
/-- Takes n bits off the front. -/
def takeBits (n : Nat) (l : List Bool) : Option (Nat × List Bool) :=
  if l.length < n then none else some (ofBits (l.take n), l.drop n)
/-- Counts ones at the front, at most `fuel`, and drops them. -/
def takeOnes : Nat → List Bool → Nat × List Bool
  | n + 1, true :: t => let r := takeOnes n t; (r.1 + 1, r.2)
  | _, l => (0, l)
/-- The bytes of a bit string, padded with zeros to whole sectors of 32 bytes (R146). -/
def sectorBytes (l : List Bool) : List Nat :=
  (List.range (32 * ceilDiv l.length 256)).map fun i => ofBits ((l.drop (8 * i)).take 8)
/-- The bits of a list of bytes. -/
def bitsOf (l : List Nat) : List Bool := l.flatMap (lowBits 8)
/-- Cuts a list in pieces of 8. -/
def eights {α : Type} : Nat → List α → List (List α)
  | 0, _ => []
  | n + 1, l => if l.isEmpty then [] else l.take 8 :: eights n (l.drop 8)

/-! ## The predictive format (R146) -/

/-- The median of three numbers. -/
def median3 (a b c : Int) : Int := max (min a b) (min (max a b) c)
/-- The predictor of sample i of a plane of width w, from the samples before it in raster order. -/
def predictor (bd w : Nat) (s : List Nat) (i : Nat) : Int :=
  let v := fun k => ((s.getD k 0 : Nat) : Int)
  if i = 0 then 2 ^ (bd - 1)
  else if i < w then v (i - 1)
  else if i % w = 0 then v (i - w)
  else median3 (v (i - 1)) (v (i - w)) (v (i - 1) + v (i - w) - v (i - w - 1))
/-- m of a residual. -/
def foldResidual (e : Int) : Nat := if 0 ≤ e then 2 * e.toNat else (-2 * e - 1).toNat
/-- The residual of m. -/
def unfoldResidual (m : Nat) : Int := if m % 2 = 0 then ((m / 2 : Nat) : Int) else -(((m + 1) / 2 : Nat) : Int)
/-- The code of one mapped residual. -/
def sampleCode (bd k m : Nat) : List Bool :=
  if m / 2 ^ k < 16 then List.replicate (m / 2 ^ k) true ++ false :: lowBits k m
  else List.replicate 16 true ++ lowBits (bd + 1) m
/-- The code of a group under k. -/
def groupUnder (bd k : Nat) (g : List Nat) : List Bool := lowBits 4 k ++ g.flatMap (sampleCode bd k)
/-- The code of a group: the smallest k from 0 to 10 that gives the shortest. -/
def groupCode (bd : Nat) (g : List Nat) : List Bool :=
  ((List.range 11).drop 1).foldl (fun a k => let c := groupUnder bd k g; if c.length < a.length then c else a) (groupUnder bd 0 g)
/-- The code of a plane of width w. -/
def planeCode (bd w : Nat) (s : List Nat) : List Bool :=
  let m := (List.range s.length).map fun i => foldResidual ((s.getD i 0 : Nat) - predictor bd w s i)
  (eights s.length m).flatMap (groupCode bd)
/-- Reads one mapped residual. -/
def readSample (bd k : Nat) (l : List Bool) : Option (Nat × List Bool) :=
  let r := takeOnes 16 l
  if r.1 = 16 then takeBits (bd + 1) r.2
  else match r.2 with
    | [] => none
    | _ :: t => (takeBits k t).map fun x => (r.1 * 2 ^ k + x.1, x.2)
/-- Reads n mapped residuals of a group. -/
def readSamples (bd k : Nat) : Nat → List Bool → Option (List Nat × List Bool)
  | 0, l => some ([], l)
  | n + 1, l => (readSample bd k l).bind fun x => (readSamples bd k n x.2).map fun r => (x.1 :: r.1, r.2)
/-- Reads groups of 8; a k above 10 is refused. -/
def readGroups (bd : Nat) : Nat → List Bool → Option (List Nat × List Bool)
  | 0, l => some ([], l)
  | n + 1, l => (takeBits 4 l).bind fun k =>
      if 10 < k.1 then none
      else (readSamples bd k.1 8 k.2).bind fun x => (readGroups bd n x.2).map fun r => (x.1 ++ r.1, r.2)
/-- The samples of a plane from its mapped residuals. -/
def planeOf (bd w : Nat) (m : List Nat) : List Nat :=
  (List.range m.length).foldl (fun s i => s ++ [((predictor bd w s i + unfoldResidual (m.getD i 0)).toNat) % 2 ^ bd]) []

/-! ## Units (R109, R145) -/

/-- The bytes of a unit that a read fetches, by its entry in the size table (R145). -/
def unitLength (bd entry : Nat) : Nat := if entry = 0 then 32 else if entry ≤ 7 then 32 * entry else if bd = 10 then 256 else 192
/-- The samples of a unit: 16 × 8 of Y, 8 × 4 of Cb, 8 × 4 of Cr. -/
def unitParts (s : List Nat) : List Nat × List Nat × List Nat := (s.take 128, (s.drop 128).take 32, s.drop 160)
/-- Is every sample the same as the first? -/
def constant (l : List Nat) : Bool := l.all (· == l.headD 0)
/-- A unit in its stored form: Flat if every plane is constant, else Predictive if it fits in 7 sectors, else Raw (R145). -/
def storeUnit (bd : Nat) (s : List Nat) : StoredUnit :=
  let p := unitParts s
  let code := planeCode bd 16 p.1 ++ planeCode bd 8 p.2.1 ++ planeCode bd 8 p.2.2
  if constant p.1 && constant p.2.1 && constant p.2.2 then
    { entry := 0, bytes := sectorBytes ([p.1, p.2.1, p.2.2].flatMap fun l => lowBits 16 (l.headD 0)) }
  else if ceilDiv code.length 256 ≤ 7 then { entry := ceilDiv code.length 256, bytes := sectorBytes code }
  else { entry := 8, bytes := sectorBytes (s.flatMap (lowBits bd)) }
/-- The samples of a stored unit; none where its reading is an integrity failure: a reserved entry, a k above 10, a code that
overruns its sectors (R146). -/
def readUnit (bd : Nat) (u : StoredUnit) : Option (List Nat) :=
  let l := bitsOf (u.bytes.take (unitLength bd u.entry))
  if u.entry = 0 then
    some (List.replicate 128 (ofBits (l.take 16)) ++ List.replicate 32 (ofBits ((l.drop 16).take 16)) ++
      List.replicate 32 (ofBits ((l.drop 32).take 16)))
  else if u.entry ≤ 7 then
    (readGroups bd 24 l).map fun r =>
      let p := unitParts r.1
      planeOf bd 16 p.1 ++ planeOf bd 8 p.2.1 ++ planeOf bd 8 p.2.2
  else if u.entry = 8 then some ((List.range 192).map fun i => ofBits ((l.drop (bd * i)).take bd))
  else none

/-! ## The samples of a band (R141, R144) -/

/-- Columns of a plane of a picture of width w: 0 Y, 1 Cb, 2 Cr. -/
def planeCols (w p : Nat) : Nat := if p = 0 then w else w / 2
/-- Rows of a plane in a band of so many luma rows. -/
def planeRows (rows p : Nat) : Nat := if p = 0 then rows else rows / 2
/-- Where a plane begins among the samples of a band. -/
def planeFrom (w rows p : Nat) : Nat :=
  if p = 0 then 0 else if p = 1 then w * rows else w * rows + w / 2 * (rows / 2)
/-- The samples of a band: Y, then Cb, then Cr. -/
def bandSamples (w rows : Nat) : Nat := w * rows + 2 * (w / 2 * (rows / 2))
/-- Samples brought into the geometry and depth of a band: what is missing is 0, what is too much is left out. -/
def fitSamples (n bd : Nat) (l : List Nat) : List Nat := (List.range n).map fun i => l.getD i 0 % 2 ^ bd
/-- A sample of a band; places past an edge take the nearest one. -/
def bandSample (w rows : Nat) (l : List Nat) (p row col : Nat) : Nat :=
  l.getD (planeFrom w rows p + min row (planeRows rows p - 1) * planeCols w p + min col (planeCols w p - 1)) 0
/-- The samples of the unit at unit column ux and unit row uy of a band (R109). -/
def unitSamples (w rows : Nat) (l : List Nat) (ux uy : Nat) : List Nat :=
  ((List.range 128).map fun i => bandSample w rows l 0 (8 * uy + i / 16) (16 * ux + i % 16)) ++
    ((List.range 32).map fun i => bandSample w rows l 1 (4 * uy + i / 8) (8 * ux + i % 8)) ++
    ((List.range 32).map fun i => bandSample w rows l 2 (4 * uy + i / 8) (8 * ux + i % 8))
/-- The coarse plane of a band: one byte for each 4 × 4 luma block (R109). -/
def coarsePlane (w rows bd : Nat) (l : List Nat) : List Nat :=
  (List.range (ceilDiv w 4 * ceilDiv rows 4)).map fun i =>
    let s := sumBy (fun k => bandSample w rows l 0 (4 * (i / ceilDiv w 4) + k / 4) (4 * (i % ceilDiv w 4) + k % 4)) (List.range 16)
    if bd = 10 then (s + 32) / 64 else (s + 8) / 16
/-- The rows r to r + n of a plane. -/
def rowsSlice (w rows : Nat) (l : List Nat) (p r n : Nat) : List Nat :=
  (l.drop (planeFrom w rows p + r * planeCols w p)).take (n * planeCols w p)
/-- Replaces samples from a place on. -/
def putSlice (l : List Nat) (at_ : Nat) (x : List Nat) : List Nat := l.take at_ ++ x ++ l.drop (at_ + x.length)
/-- The rows of a band that belong to a seam: 8 of luma and 4 of each chroma plane, the last ones or the first (R141). -/
def seamRows (w rows : Nat) (l : List Nat) (last : Bool) : List Nat :=
  (List.range 3).flatMap fun p =>
    let n := min (planeRows rows p) (if p = 0 then 8 else 4)
    rowsSlice w rows l p (if last then planeRows rows p - n else 0) n
/-- Puts them back. -/
def putSeam (w rows : Nat) (l : List Nat) (last : Bool) (x : List Nat) : List Nat :=
  let n := fun p => min (planeRows rows p) (if p = 0 then 8 else 4)
  let skip := fun p => sumBy (fun q => n q * planeCols w q) (List.range p)
  (List.range 3).foldl (fun a p =>
    putSlice a (planeFrom w rows p + (if last then planeRows rows p - n p else 0) * planeCols w p)
      ((x.drop (skip p)).take (n p * planeCols w p))) l
/-- The two sides of a seam after the codec's filters have crossed it; the filters are the standard's (log 113). -/
def finishSeam (codec bd : Nat) (prms up down : List Nat) : List Nat × List Nat :=
  let out := fitSamples (up.length + down.length) bd (Config.seamFilter codec prms up down)
  (out.take up.length, out.drop up.length)

/-! ## Writing a band (R26, R109, R141, R142, R145) -/

/-- The units of a band, in raster order; those of a seam that is not finished wait (R141). -/
def storedUnits (w rows bd : Nat) (x : BandRecon) : List (Option StoredUnit) :=
  (List.range (ceilDiv w 16 * ceilDiv rows 8)).map fun i =>
    let uy := i / ceilDiv w 16
    if (uy = 0 && !x.upDone) || (uy + 1 = ceilDiv rows 8 && !x.downDone) then none
    else some (storeUnit bd (unitSamples w rows x.samples (i % ceilDiv w 16) uy))
/-- The stored form of a band follows its samples. -/
def restore (w rows bd : Nat) (x : BandRecon) : BandRecon :=
  { x with units := storedUnits w rows bd x, coarse := coarsePlane w rows bd x.samples }
/-- The reconstruction of a band of frame c. -/
def bandRecon (d : Dev) (sid c b : Nat) : Option BandRecon := tabFind (tabGet [] (stream d sid).recons c) b
/-- Changes the reconstructions of frame c. -/
def updRecons (sid c : Nat) (g : Tab BandRecon → Tab BandRecon) (d : Dev) : Dev :=
  updStream sid (fun x => { x with recons := tabUpd [] x.recons c g }) d
/-- The closing part of a band has written it: its reconstruction is band-local, and its seams wait unless the picture ends there
(R141, R142). -/
def writeRecon (sid c b : Nat) (samples : List Nat) (vecs : List (Option (Int × Int))) (d : Dev) : Dev :=
  let w := prm d sid 0x3014
  let x : BandRecon := { samples := samples, upDone := b == 0, downDone := b + 1 == bandCount d sid, vecs := vecs }
  updRecons sid c (fun t => tabSet t b (restore w (bandRows d sid b) (prm d sid 0x3013) x)) d
/-- Seam b, between bands b - 1 and b, is finished by the later of its bands (R141, R142). -/
def closeSeam (sid c b : Nat) (prms : List Nat) (d : Dev) : Dev :=
  match bandRecon d sid c (b - 1), bandRecon d sid c b with
  | some u, some v =>
    let w := prm d sid 0x3014
    let bd := prm d sid 0x3013
    let ru := bandRows d sid (b - 1)
    let rv := bandRows d sid b
    let r := finishSeam (prm d sid 0x3011) bd prms (seamRows w ru u.samples true) (seamRows w rv v.samples false)
    let u1 := restore w ru bd { u with samples := putSeam w ru u.samples true r.1, downDone := true }
    let v1 := restore w rv bd { v with samples := putSeam w rv v.samples false r.2, upDone := true }
    updRecons sid c (fun t => tabSet (tabSet t (b - 1) u1) b v1) d
  | _, _ => d
/-- Reconstructions leave with their frames: those of retained entries and of frames in progress stay (R125). -/
def pruneRecons (sid : Nat) (d : Dev) : Dev :=
  let x := stream d sid
  let keep := fun c => (retained x).contains c || x.frames.any fun f => f.count == some c
  if x.recons.all fun e => keep e.1 then d else setStream sid { x with recons := tabFilter keep x.recons } d

/-! ## Reading a reference (R108, R111) -/

/-- The unit that holds a luma sample of a reference frame: band, place in its list. -/
def unitAt (w x y : Nat) : Nat × Nat := (y / 64, y % 64 / 8 * ceilDiv w 16 + x / 16)
/-- A stored unit of a reference frame. -/
def refUnit (d : Dev) (sid c : Nat) (k : Nat × Nat) : Option StoredUnit :=
  (bandRecon d sid c k.1).bind fun r => (r.units.getD k.2 none)
/-- The luma sample of a reference frame; positions outside the picture take the nearest edge sample (R108). -/
def refLuma (d : Dev) (sid c : Nat) (x y : Int) : Nat :=
  let w := prm d sid 0x3014
  let cx := min x.toNat (w - 1)
  let cy := min y.toNat (prm d sid 0x3015 - 1)
  match (refUnit d sid c (unitAt w cx cy)).bind (readUnit (prm d sid 0x3013)) with
  | none => 0
  | some s => s.getD (cy % 8 * 16 + cx % 16) 0
/-- A byte of the coarse plane of a reference frame, with edges repeated. -/
def refCoarse (d : Dev) (sid c : Nat) (x y : Int) : Nat :=
  let cw := ceilDiv (prm d sid 0x3014) 4
  let cx := min x.toNat (cw - 1)
  let cy := min y.toNat (ceilDiv (prm d sid 0x3015) 4 - 1)
  match bandRecon d sid c (cy / 16) with
  | none => 0
  | some r => r.coarse.getD (cy % 16 * cw + cx) 0

/-! ## Multipliers (R136) -/

/-- The square root of a number in units of 2^-16, rounded down. -/
def sqrt16 (a : Nat) : Nat := greatest (fun r => decide (r * r ≤ a * 65536)) 40 0
/-- lam_sse in units of 2^-16: 0.57 × 2^((qe - 12)/3), 16 times as much at 10 bits; for AV1 qe is q_blk / 4 (R136; log 114). -/
def lamSse (av1 : Bool) (bd : Nat) (q : Int) : Nat :=
  let p := if av1 then exp16 (q - 48) 12 else exp16 (q - 12) 3
  (57 * p + 50) / 100 * (if bd = 10 then 16 else 1)
/-- lam_sad, with the SAD and SATD costs (R136). -/
def lamSad (av1 : Bool) (bd : Nat) (q : Int) : Nat := sqrt16 (lamSse av1 bd q)
/-- A cost in units of 2^-16: distortion + λ × bits (R120, R136). -/
def codingCost (lam dist rate : Nat) : Nat := dist * 65536 + lam * rate

end Sys2Proof.Machine
end

