-- ==== Sys2Proof/Machine/Frames.lean ====
section
/-! DEFINITION. Frame starts (3: R65, R70 item 5; 2: R52; 4: R97): what a frame is given when it starts, and the parameters
that change with it. -/
namespace Sys2Proof.Machine

/-- The effort in force of a stream: a Mezzanine encode runs at Swift; the ladder's steps make a session faster (R211,
R231). -/
def effortOf (d : Dev) (sid : Nat) : Nat := prm d sid 0x3019 - (if isMezz sid then 0 else tabGet 0 d.ladder (slotOf sid))

/-- The effort that a session is charged for: a change or a step that waits counts (R61, R211). -/
def effortPending (d : Dev) (s : Nat) : Nat := objGet d 0x3019 s - tabGet 0 d.ladder s

/-- The charges of a session for the parameters in force, at the effort in force (R58, R61, R211). -/
def chargesInForce (d : Dev) (s : Nat) : Charges :=
  chargesOf d fun idx => inForce d s idx - if idx = 0x3019 then tabGet 0 d.ladder s else 0
/-- At a frame boundary every change that is visible takes effect; the charges of one that still waits stay beside those now in
force (R23, R52, R61). -/
def settle (s : Nat) (d : Dev) : Dev :=
  let x := sess d s
  let left := tabFilter (fun idx => (tabFind d.heldStitch (objKey idx s)).isSome) x.inForce
  let d1 := setSess s { x with inForce := left } d
  match x.newCharges with
  | none => d1
  | some c =>
    if left.isEmpty then setSess s { x with inForce := left, charges := c, newCharges := none } d
    else setSess s { x with inForce := left, charges := chargesInForce d1 s } d

/-- The first frame of a stream that is open and not started. -/
def nextFrame (x : Stream) : Option Frame := x.frames.find? fun f => f.count.isNone

/-- Replaces the first frame of a list that is not started. -/
def putNext (g : Frame) : List Frame → List Frame
  | [] => []
  | f :: t => if f.count.isNone then g :: t else f :: putNext g t

/-- The period p of R168 for a frame that starts at stitch n. -/
def budgetPeriod (d : Dev) (sid n : Nat) (x : Stream) : Nat :=
  if prm d sid 0x3016 ≠ 0 then prm d sid 0x3016
  else if x.count = 0 then prm d sid 0x3017
  else min (2 * prm d sid 0x3017) (max 15 (n - x.lastStart))

/-- The coded width (R147). -/
def codedWidth (codec w : Nat) : Nat := if isAvc codec then ceilDiv w 16 * 16 else w
/-- The coded rows of a picture or band of `h` rows (R147). -/
def codedRows (codec h : Nat) : Nat :=
  if isAv1 codec then h else if isHevc codec then ceilDiv h 8 * 8 else ceilDiv h 16 * 16
/-- What the headers of a frame declare at its start (R129, R147 to R152): `y` has the entries retained for it, `cycle` says that a
refresh cycle begins with it. With eight entries AV1 leaves one undeclared. -/
def headerOf (d : Dev) (sid layer k : Nat) (key cycle : Bool) (y : Stream) : Header :=
  let av1 := codecAv1 d sid
  let hevc := isHevc (prm d sid 0x3011)
  let all := retained y
  let out := if av1 && all.length == 8 then
    all.reverse.find? fun c => some c != y.recent && some c != newestAcked y 2 [] else none
  let t := layersOf d sid
  { key := key, sets := key || cycle || (hevc && !y.ppsSent.contains (k - 1)), pps := if hevc then k - 1 else 0
    declared := all.filter fun c => some c != out, undeclared := out, longTerm := if av1 then [] else y.anchors
    layerId := if 1 < t then some layer else none
    opPoints := if !av1 then [] else if t = 3 then [0x107, 0x103, 0x101] else if t = 2 then [0x103, 0x101] else [0]
    obuFrame := av1 && prm d sid 0x3018 == 1
    codedW := codedWidth (prm d sid 0x3011) (prm d sid 0x3014), codedH := codedRows (prm d sid 0x3011) (prm d sid 0x3015)
    crop := codedRows (prm d sid 0x3011) (prm d sid 0x3015) - prm d sid 0x3015
    columns := if isAvc (prm d sid 0x3011) || decide (k ≤ 1) then []
      else (List.range k).map (partUnits (unitCount d sid) k) }
/-- The PPS ids sent since the parameter sets last went ahead (R149). -/
def ppsAfter (h : Header) (cycle : Bool) (l : List Nat) : List Nat :=
  if h.key || cycle then [h.pps] else if h.sets then h.pps :: l else l
/-- The refreshed columns of a frame: those up to the end of its stripe, or of the stripe of the layer-0 frame before it (R155). -/
def edgeOf (d : Dev) (sid : Nat) (x : Stream) : Option Nat :=
  x.cycle.map fun e => let z := stripeOf (unitCount d sid) e.2 e.1; min (prm d sid 0x3014) (64 * (z.1 + z.2))
/-- The frame at its start with count c: its layer, references, cycle, split, effort and rates (R52, R65, R68, R125, R150,
R152, R155, R156, R166, R538). -/
def startedFrame (d : Dev) (sid n c : Nat) (x : Stream) (f : Frame) : Stream × Frame × Bool :=
  let s := slotOf sid
  let layer := layerOf (layersOf d sid) c
  let prev := if x.count = 0 then none else some (x.count - 1)
  let cy := cycleAtStart (cycleLength d sid) (prm d sid 0x3063) layer (if prev.isNone then 0 else c) x
  let y := moveEntries (refSlots d sid) (prm d sid 0x3050) prev cy.1
  let e := effortOf d sid
  let k := splitOf d sid e
  let resumed := x.afterResume && prev.isSome && !isMezz sid
  let ends := match cy.2.1 with
    | some (i, r) => if i + 1 = r then some y.cycleStart else none
    | none => none
  let lead := resumed && (newestAcked y layer []).isNone
  let h := headerOf d sid layer k prev.isNone cy.2.2 y
  ({ y with count := c + 1, lastStart := n, afterResume := false, trigger := y.trigger || (lead && y.cycle.isNone)
            ppsSent := ppsAfter h cy.2.2 y.ppsSent
            past := tabSet y.past c { layer := layer, intra := prev.isNone, cycleStart := ends, edge := edgeOf d sid y } },
   { f with count := some c, start := n, credited := true, split := k, effort := e, layer := layer, intra := prev.isNone,
            frameMode := prm d sid 0x3018 == 1, resumed := resumed && !lead, leadIn := lead, stripe := cy.2.1,
            period := budgetPeriod d sid n x, re := effectiveRate d s, rmax := effectiveMax d s, offsets := prm d sid 0x3060,
            inCycle := y.cycle.isSome && layer != 0, header := h,
            bands := f.bands.map fun b => { b with parts := List.replicate k {} } },
   cy.2.2)

/-- The live frame that waits starts at stitch n: it takes a credit; the changes that waited for the boundary take effect
(R52, R65, R97, R166, R185). Its Mezzanine frame is opened with it (R231). -/
def startLive (s n : Nat) (d : Dev) : Dev :=
  let d1 := settle s d
  let sid := liveSid s
  let x := stream d1 sid
  match nextFrame x with
  | none => d
  | some f =>
    let c := x.count
    let r := startedFrame d1 sid n c x f
    let d2 := pruneRecons sid (setStream sid { r.1 with frames := putNext r.2.1 x.frames } d1)
    let d3 := setSess s { sess d2 s with credits := (sess d2 s).credits - 1 } d2
    let d4 := objSet 0x3020 s r.2.1.effort (objSet 0x5069 s r.2.1.re (if r.2.2 then objCount 32 0x5050 s 1 d3 else d3))
    let d5 := forEach (enabledDests d4 s) (spectatorAt s c) d4
    if encodes d5 sid && inForce d5 s 0x301A == 2 then
      updStream (mezzSid s)
        (fun m => { m with frames := m.frames ++ [{ number := c, bands := r.2.1.bands.map fun _ => {} }] }) d5
    else d5

/-- What a Mezzanine band takes over from the live band (R231). -/
def mezzBand (live m : Band) : Band :=
  if m.st = 0 && live.st ≠ 0 then
    { m with st := live.st, ready := live.ready, stamp := live.stamp, mv := live.mv, roi := live.roi, cls := live.cls }
  else m

/-- The Mezzanine bands follow the live bands that are accepted or substituted (R231). -/
def syncMezz (s : Nat) (d : Dev) : Dev :=
  let live := (stream d (liveSid s)).frames
  updStream (mezzSid s)
    (fun m => { m with
      frames := m.frames.map fun g =>
        match live.find? fun f => f.count == some (g.count.getD g.number) with
        | none => g
        | some f => { g with bands := List.zipWith mezzBand f.bands g.bands } }) d

/-- The Mezzanine frame that waits starts (R70 item 5, R231). -/
def startMezz (s n : Nat) (d : Dev) : Dev :=
  let sid := mezzSid s
  let x := stream d sid
  match nextFrame x with
  | none => d
  | some f =>
    let r := startedFrame d sid n f.number x f
    pruneRecons sid (setStream sid { r.1 with frames := putNext r.2.1 x.frames } d)

/-- Has every band of every started frame of a stream been assigned (R70 item 5)? -/
def allAssigned (x : Stream) : Bool := x.frames.all fun f => f.count.isNone || f.bands.all (·.assigned)

/-- R97: a credit, and 15 stitches since the previous frame started (R65). -/
def creditOk (d : Dev) (s n : Nat) : Bool :=
  let x := stream d (liveSid s)
  decide (0 < (sess d s).credits) && (x.count == 0 || decide (x.lastStart + 15 ≤ n))

/-- Is band 0 of the frame that waits accepted by the cut-off `before` (R25), and may it be in the snapshot (R97)? -/
def nextReady (d : Dev) (s n : Nat) (before : Band → Bool) : Bool :=
  match nextFrame (stream d (liveSid s)) with
  | none => false
  | some f => (f.band 0).st != 0 && before (f.band 0) && creditOk d s n

/-- A band 0 that waits for a credit is an early frame, counted once (R97); its readiness is the stitch at which it becomes
eligible. -/
def markEarly (s n : Nat) (d : Dev) : Dev :=
  let sid := liveSid s
  let x := stream d sid
  match nextFrame x with
  | none => d
  | some f =>
    if (f.band 0).st = 0 then d
    else if (sess d s).credits = 0 then
      if f.early then d else objCount 32 0x5024 s 1 (setStream sid { x with frames := putNext { f with early := true } x.frames } d)
    else if f.early && !f.credited && creditOk d s n then
      setStream sid { x with frames := putNext ({ f with credited := true }.setBand 0 { f.band 0 with ready := n }) x.frames } d
    else d

end Sys2Proof.Machine
end

