-- ==== Sys2Proof/Machine/Rate.lean ====
section
/-! DEFINITION. Rate control (7): weights, budgets, plans, the quantiser, the model's update. Numbers are in units of 2^-16
where their rule has fractions (R170). -/
namespace Sys2Proof.Machine

/-! ## Bounds (R133, R139, R161, R169) -/

/-- The least quantiser of a codec (R133). -/
def codecMin (d : Dev) (sid : Nat) : Int :=
  if codecAv1 d sid then 1 else if codecAvc d sid then 0 else -6 * ((prm d sid 0x3013 : Int) - 8)
/-- The greatest quantiser of a codec (R133). -/
def codecMax (d : Dev) (sid : Nat) : Int := if codecAv1 d sid then 255 else 51
/-- A quantiser object, or a default where it holds the value that stands for one (R161). -/
def quantOr (d : Dev) (sid idx : Nat) (dflt : Int) : Int :=
  if prm d sid idx = 0x7FFFFFFF then dflt else signed 32 (prm d sid idx)
/-- q_min. -/
def qMin (d : Dev) (sid : Nat) : Int := quantOr d sid 0x3074 (codecMin d sid)
/-- q_max. -/
def qMax (d : Dev) (sid : Nat) : Int := quantOr d sid 0x3075 (codecMax d sid)
/-- q_t; a Mezzanine encode aims lower (R187). -/
def qTarget (d : Dev) (sid : Nat) : Int :=
  let q := quantOr d sid 0x3073 (if codecAv1 d sid then 120 else 30)
  if isMezz sid then max (qMin d sid) (q - if codecAv1 d sid then 24 else 6) else q
/-- The rate mode: a Mezzanine encode is planned in mode 2 (R187). -/
def rateMode (d : Dev) (sid : Nat) : Nat := if isMezz sid then 2 else prm d sid 0x3070
/-- q_prev (R170). -/
def qPrev (d : Dev) (sid : Nat) : Int :=
  (stream d sid).qPrev.getD (clampI (qMin d sid) (qMax d sid) (quantOr d sid 0x3073 (if codecAv1 d sid then 120 else 30)))
/-- floor_b of R169. -/
def floorBits (d : Dev) (sid b : Nat) : Nat := ceilDiv (bandPixels d sid b) 64
/-- Ten times the entropy ceiling in bits for so many pixels (R139). -/
def ceiling10 (d : Dev) (sid effort px : Nat) : Nat :=
  if effort = 0 then (if codecAvc d sid then 12 * px else 15 * px) else 20 * px

/-! ## Weights (R167, R175) -/

/-- g: the mean over the blocks of the band of 2^(-off/6), limited by 0x307E. -/
def roiGain (d : Dev) (sid cls : Nat) : Nat :=
  let u := unitCount d sid
  let mean := if cls = 0 then one16 else
    (roundDiv (sumBy (fun k => exp16 (-(signed 4 (bits (prm d sid 0x3060) (4 * bits cls (3 * k) 3) 4))) 6) (List.range u) : Nat)
      u).toNat
  min mean (prm d sid 0x307E)

/-- The classes of a band's blocks: those it was accepted with; before that the stored row of the class table (R103, R167). -/
def bandClasses (d : Dev) (sid b : Nat) (x : Band) : Nat :=
  if x.st = 0 then tabGet 0 (stream d (liveSid (slotOf sid))).classes b else x.cls
/-- w of R167. -/
def bandWeight (d : Dev) (sid : Nat) (f : Frame) (b : Nat) : Nat :=
  let x := f.band b
  if x.st = 2 then 0
  else
    let sat := if f.intra then 4 * bandPixels d sid b else
      match tabFind (stream d sid).lastRec b with
      | some r => r.satd + 1
      | none => 4 * bandPixels d sid b
    let refs := chooseRefs d sid f x
    let dist := match refs.primary with
      | some c => f.count.getD 0 - c
      | none => 1
    let dd := if refs.leadIn then 2 * one16 else min (2 * one16) (one16 + (dist - 1) * 8192)
    let units := match f.stripe with
      | some (i, r) => (stripeOf (unitCount d sid) r i).2
      | none => 0
    let st : Int := one16 + roundDiv (3 * units * one16 : Nat) (unitCount d sid)
    (mul16 (mul16 (sat * roiGain d sid (bandClasses d sid b x) : Nat) dd) st).toNat

/-! ## The model (R170, R171) -/

/-- pred of R170 for a weight and a quantiser. -/
def predBits (d : Dev) (sid kappa w : Nat) (q : Int) : Int :=
  mul16 (mul16 kappa w) (exp16 (-q) (if codecAv1 d sid then 24 else 6))

/-- The quantiser that the model gives a target of t bits, before its limits. -/
def modelQ (d : Dev) (sid kappa w t : Nat) : Int :=
  let qe := 6 * log16 (roundDiv (mul16 kappa w) t).toNat
  if codecAv1 d sid then roundDiv (4 * qe) one16 else roundDiv qe one16

/-- q of R170. -/
def chooseQ (d : Dev) (sid kappa w t : Nat) (free : Bool) : Int :=
  let q1 := clampI (qMin d sid) (qMax d sid) (modelQ d sid kappa w t)
  let step : Int := if codecAv1 d sid then 16 else 4
  let q2 := if free then q1 else clampI (qPrev d sid - step) (qPrev d sid + step) q1
  if rateMode d sid = 2 then max q2 (clampI (qMin d sid) (qMax d sid) (qTarget d sid)) else q2

/-- κ after a band is collected (R171); where the model's prediction rounds to 0 the rule gives no value (log 3). -/
def kappaAt (d : Dev) (sid : Nat) (w : Nat) (q : Int) (spent : Nat) : Nat :=
  let k := (stream d sid).kappa
  let p := predBits d sid k w q
  if p ≤ 0 then max 1 (min (2 ^ 31) (freeBits 32 d))
  else (clampI 1 2147483648 (mul16 k (root4 (div16 ((spent : Int) * one16) p.toNat).toNat))).toNat

/-- κ is updated from a band's plan and record (R171). -/
def kappaUpdate (sid : Nat) (b : Band) (d : Dev) : Dev :=
  match b.plan with
  | none => d
  | some p =>
    if bit b.record.flags 1 then d
    else
      let k := kappaAt d sid p.w p.q (b.record.bits - b.record.hdrBits)
      freeNext (updStream sid (fun x => { x with kappa := k }) d)

/-! ## Budgets (R168, R174, R176) -/

/-- σ, unless the frame is planned as the first after START: of the previous frame, or of the record a promoted session
continues from (R168, R186, R241). -/
def sigmaOf (x : Stream) (c : Nat) : Option Int :=
  if c = 0 then none
  else
    match x.frames.find? fun f => f.count == some (c - 1) with
    | some f => if f.spliced then none else some (frameSpend f)
    | none =>
      match x.sigma with
      | some s => some s
      | none =>
        match tabFind x.past (c - 1) with
        | none => none
        | some p => if p.spliced then none else some p.spend

/-- Four times the layer weight (R176). -/
def layerWeight4 (t layer : Nat) : Nat :=
  if t ≤ 1 then 4 else if t = 2 then (if layer = 0 then 5 else 3) else if layer = 0 then 6 else if layer = 1 then 4 else 3

/-- The sum over the bands of a frame. -/
def sumBands (f : Frame) (g : Nat → Int) : Int := (List.range f.bands.length).foldl (fun a b => a + g b) 0

/-- The frame budget F, v and c_avg at the first plan of a frame (R168, R176). -/
def budgetOf (d : Dev) (sid : Nat) (f : Frame) : Int × Int × Nat :=
  let x := stream d sid
  let base : Int := div16 (f.re * 1000 * f.period : Nat) 3600
  let vmax : Int := f.re * prm d sid 0x3076 * one16
  let v := clampI (-vmax) vmax ((if f.count = some 0 then 0 else x.v) + (sigmaOf x (f.count.getD 0)).getD base - base)
  let cf := (sumBands f fun b => bandWeight d sid f b).toNat
  let avg := x.cAvg.getD cf
  let top : Int := div16 (f.rmax * 1000 * f.period : Nat) 3600
  let mode := rateMode d sid
  let want :=
    if mode = 0 then base - roundDiv v 4
    else if mode = 1 then
      min (mul16 base (clampI 32768 131072 (div16 cf avg)) - roundDiv v 16) top
    else
      let p := sumBands f fun b => predBits d sid x.kappa (bandWeight d sid f b) (qTarget d sid)
      if isMezz sid then p else min p top
  let floors : Int := (sumBands f fun b => floorBits d sid b) * one16
  (roundDiv (max want floors * layerWeight4 (layersOf d sid) f.layer) 4, v,
    if mode = 1 then (avg + roundDiv ((cf : Int) - avg) 16).toNat else avg)

/-- The frame cap C in bits (R174); none without a binding destination. -/
def frameCap (d : Dev) (s : Nat) (f : Frame) : Option Nat :=
  lowestOf ((bindingDests d s f.layer).map fun e => 8 * fitBytes (sampled d s e f.period) (payloadSize d s) (costH d s e))

/-- t_cap in bits (R169); none without a binding destination. -/
def bandCap (d : Dev) (s : Nat) (f : Frame) : Option Nat :=
  lowestOf ((bindingDests d s f.layer).map fun e => 8 * fitBytes (sampled d s e 1) (payloadSize d s) (costH d s e))

/-! ## Plans (R169, R172 to R175) -/

/-- The frame a plan is for: the started one with count c, or the next one of its stream. -/
def planFrame (d : Dev) (sid c : Nat) : Option Frame :=
  match frameAt d sid c with
  | some f => some f
  | none => nextFrame (stream d sid)

/-- Changes it. -/
def updPlanFrame (sid c : Nat) (g : Frame → Frame) (d : Dev) : Dev :=
  if (frameAt d sid c).isSome then updFrame sid c g d
  else updStream sid (fun x => match nextFrame x with
    | none => x
    | some f => { x with frames := putNext (g f) x.frames }) d

/-- The device as it is once the frame has started, against which a plan is made (R127, R168). -/
def asStarted (d : Dev) (sid c n : Nat) : Dev :=
  if (frameAt d sid c).isSome then d else if isMezz sid then startMezz (slotOf sid) n d else startLive (slotOf sid) n d

/-- The budget is set once, at the first plan of a frame (R168, R174). -/
def setBudget (p : Dev) (sid c : Nat) (f : Frame) (d : Dev) : Dev :=
  match f.budget with
  | some _ => d
  | none =>
    let r := budgetOf p sid f
    let cap := if f.frameMode && !isMezz sid then frameCap p (slotOf sid) f else none
    let fin := match cap with
      | some k => min r.1 ((k : Int) * one16)
      | none => r.1
    updStream sid (fun x => { x with v := r.2.1, cAvg := some r.2.2, sigma := none })
      (updPlanFrame sid c (fun g => { g with budget := some fin }) d)

/-- The wire bytes of a target at each destination that receives the frame (R164, R165). -/
def planWire (d : Dev) (sid : Nat) (f : Frame) (t : Nat) : List (Nat × Nat) :=
  if isMezz sid then []
  else
    let s := slotOf sid
    ((enabledDests d s).filter fun e => admitsLayer d s e f.layer).map fun e =>
      (e, wireBytes t (costH d s e) (payloadSize d s))

/-- The plan takes its place: in the band, in q_prev, in the destinations' promised bytes, in the counts (R161). -/
def enterPlan (sid c b : Nat) (pl : Plan) (d : Dev) : Dev :=
  let s := slotOf sid
  let d1 := updPlanFrame sid c (fun g => g.setBand b { g.band b with plan := some pl }) d
  let d2 := updStream sid (fun x => { x with qPrev := some pl.q, freshQ := false }) d1
  let d3 := forEach pl.wire (fun w => updDest s w.1 fun x => { x with madeSince := x.madeSince + w.2 }) d2
  objCount 32 0x5060 s 1 { d3 with loom := { d3.loom with openPlans := (sid, c, b) :: d3.loom.openPlans } }

/-- The target of band b (R169, R174), with whether it was capped and whether it is a floor plan below the cap. -/
def targetOf (p : Dev) (sid : Nat) (f : Frame) (b w : Nat) : Nat × Bool × Bool :=
  let fl := floorBits p sid b
  let planned : Int := sumBy (fun x => match x.plan with
    | some q => q.target
    | none => 0) f.bands
  let left := sumBands f fun i => if (f.band i).plan.isSome then 0 else bandWeight p sid f i
  let model := roundDiv ((f.budget.getD 0 - planned * one16) * w) left.toNat
  let cap := if f.frameMode || isMezz sid then none else bandCap p (slotOf sid) f
  let m0 : Int := min model (ceiling10 p sid f.effort (bandPixels p sid b) * one16 / 10 : Nat)
  let m : Int := match cap with
    | some k => min m0 ((k : Int) * one16)
    | none => m0
  (max fl (m / one16).toNat,
    match cap with
    | some k => decide ((k : Int) * one16 < model)
    | none => false,
    match cap with
    | some k => decide (k < fl) && decide (m ≤ (fl : Int) * one16)
    | none => false)

/-- The plan of band b of the frame with count c at stitch n (R169, R170, R175). -/
def planBand (sid c b n : Nat) (d : Dev) : Dev :=
  let p0 := asStarted d sid c n
  match frameAt p0 sid c with
  | none => d
  | some f0 =>
    let d1 := setBudget p0 sid c f0 d
    let p := asStarted d1 sid c n
    match frameAt p sid c with
    | none => d1
    | some f =>
      let x := f.band b
      let st := stream p sid
      if x.st = 2 then
        enterPlan sid c b { target := floorBits p sid b, q := qPrev p sid, w := 0, prevQ := st.qPrev, fresh := st.freshQ,
                            wire := planWire p sid f (floorBits p sid b) } d1
      else
        let w := bandWeight p sid f b
        let t := targetOf p sid f b w
        let q := chooseQ p sid st.kappa w t.1 (st.freshQ || (chooseRefs p sid f x).leadIn)
        let d2 := if t.2.1 then objCount 32 0x5061 (slotOf sid) 1 d1 else d1
        let d3 := if t.2.2 then objCount 32 0x5062 (slotOf sid) 1 d2 else d2
        enterPlan sid c b { target := t.1, q := q, w := w, prevQ := st.qPrev, fresh := st.freshQ,
                            wire := planWire p sid f t.1 } d3

/-- Takes back q_prev over the discarded plans made last (R172): the newest first, up to one that was fixed. -/
def restoreQ (d : Dev) (sid : Nat) : List (Nat × Nat × Nat) → Dev
  | [] => d
  | (i, c, b) :: t =>
    if i ≠ sid then restoreQ d sid t
    else
      match (planFrame d sid c).bind fun f => (f.band b).plan with
      | none => restoreQ d sid t
      | some p =>
        if p.fixed then d
        else restoreQ (updStream sid (fun x => { x with qPrev := p.prevQ, freshQ := p.fresh }) d) sid t

/-- A plan that no assignment has used is discarded (R172). -/
def discardPlan (e : Nat × Nat × Nat) (d : Dev) : Dev :=
  updPlanFrame e.1 e.2.1 (fun f => match (f.band e.2.2).plan with
    | some p => if p.fixed then f else f.setBand e.2.2 { f.band e.2.2 with plan := none }
    | none => f) d

/-- At a boundary the plans that are not fixed are discarded (R172). -/
def discardPlans (d : Dev) : Dev :=
  let l := d.loom.openPlans
  let d1 := forEach ((l.map (·.1)).eraseDups) (fun sid d => restoreQ d sid l) d
  let d2 := forEach l discardPlan d1
  { d2 with loom := { d2.loom with openPlans := [] } }

end Sys2Proof.Machine
end

