-- ==== Sys2Proof/Machine/Egress.lean ====
section
/-! DEFINITION. Packets, destination queues, class queues, gates and the MAC (10: R256 to R277). -/
namespace Sys2Proof.Machine

/-! ## Packetisation (R256, R257) -/

/-- A packet of a band: its RTP payload bytes, and the bitstream bytes it carries: from where, how many. -/
structure Cut where
  len : Nat
  off : Nat
  cnt : Nat
deriving DecidableEq, Repr

/-- The bytes of a LEB128 length. -/
def lebBytes (n : Nat) : Nat := if n < 128 then 1 else if n < 16384 then 2 else if n < 2097152 then 3 else 4

/-- The open AV1 packet: elements and bytes in it, the last element's length, where its bytes begin, how many. -/
structure OpenPkt where
  n : Nat := 0
  used : Nat := 0
  last : Nat := 0
  off : Nat := 0
  cnt : Nat := 0

/-- Closes it. -/
def OpenPkt.close (p : OpenPkt) : List Cut := if p.n = 0 then [] else [⟨1 + p.used, p.off, p.cnt⟩]

/-- Puts `r` bytes of an OBU from place `off` into packets of M bytes: up to three elements, each but the last with its
length; a fragment ends its packet. -/
def av1Put (m : Nat) : Nat → Nat → Nat → OpenPkt → List Cut × OpenPkt
  | 0, _, _, p => ([], p)
  | fuel + 1, r, off, p =>
    if r = 0 then ([], p)
    else
      let full := p.n ≠ 0 && (p.n == 3 || decide (m ≤ p.used + lebBytes p.last))
      let done := if full then p.close else []
      let q : OpenPkt := if full then {} else p
      let used := if q.n = 0 then 0 else q.used + lebBytes q.last
      let take := min r (m - used)
      let q2 : OpenPkt :=
        { n := q.n + 1, used := used + take, last := take, off := if q.n = 0 then off else q.off, cnt := q.cnt + take }
      let res := if take < r then av1Put m fuel (r - take) (off + take) {} else ([], q2)
      (done ++ (if take < r then q2.close else []) ++ res.1, res.2)

/-- The packets of a band's OBUs. -/
def av1Cuts (m : Nat) : List Nat → Nat → OpenPkt → List Cut
  | [], _, p => p.close
  | u :: t, off, p =>
    let r := av1Put m (u + 1) u off p
    r.1 ++ av1Cuts m t (off + u) r.2

/-- The fragments of a NAL unit of which `r` bytes from `off` remain. -/
def fragments (m a : Nat) : Nat → Nat → Nat → List Cut
  | 0, _, _ => []
  | fuel + 1, r, off =>
    if r = 0 then [] else ⟨a + min m r, off, min m r⟩ :: fragments m a fuel (r - min m r) (off + min m r)

/-- A packet of whole NAL units: one alone, or an aggregation with a header and two length bytes for each. -/
def nalClose (a : Nat) (units : List Nat) (off : Nat) : List Cut :=
  match units with
  | [] => []
  | [u] => [⟨u, off, u⟩]
  | us => [⟨a - 1 + sumBy (fun u => 2 + u) us, off, sumBy id us⟩]

/-- The packets of a band's NAL units: `hh` bytes of header, the units gathered so far and where they begin. -/
def nalCuts (m a hh : Nat) : List Nat → Nat → List Nat → Nat → List Cut
  | [], _, pend, at_ => nalClose a pend at_
  | u :: t, off, pend, at_ =>
    if m + a < u then
      nalClose a pend at_ ++ fragments m a (u + 1) (u - hh) (off + hh) ++ nalCuts m a hh t (off + u) [] (off + u)
    else if !pend.isEmpty && decide (a - 1 + sumBy (fun x => 2 + x) (pend ++ [u]) ≤ m + a) then
      nalCuts m a hh t (off + u) (pend ++ [u]) at_
    else nalClose a pend at_ ++ nalCuts m a hh t (off + u) [u] off

/-- The packets of a band for a codec and a payload size (R256, R257). -/
def cutBand (codec m : Nat) (units : List Nat) : List Cut :=
  if codec = 0 then av1Cuts m units 0 {}
  else if codec ≤ 2 then nalCuts m 3 2 units 0 [] 0
  else nalCuts m 2 1 units 0 [] 0

/-! ## Ports (R245, R248) -/

/-- The mode code of the port half that logical port p belongs to. -/
def modeOf (modes p : Nat) : Nat := bits modes (2 * (p / 4)) 2
/-- Does the mode create logical port p (R245)? -/
def portExists (modes p : Nat) : Bool :=
  let c := modeOf modes p
  (c == 1 && p % 4 == 0) || (c == 2 && decide (p % 4 < 2)) || c == 3
/-- Is logical port p present in the modes in force? -/
def portPresent (d : Dev) (p : Nat) : Bool := decide (p < 8) && portExists (objNow d 0x1A00 0) p
/-- 1/400 ns for one byte on the wire of port p. -/
def byteTime (d : Dev) (p : Nat) : Nat :=
  let c := modeOf (objNow d 0x1A00 0) p
  if c = 1 then 8 else if c = 2 then 16 else 32
/-- Is the link of p up (0x1A03:p)? -/
def linkUp (d : Dev) (p : Nat) : Bool := (port d p).link == 2
/-- A service address of p (R248). -/
def serviceAddr (list k : Nat) : Nat := bytesAt list (16 * k) 16
/-- Does a list of service addresses hold the address? -/
def listsAddr (list a : Nat) : Bool := a != 0 && (List.range 16).any fun k => serviceAddr list k == a
/-- Is it a service address of p in force: listed and not given up, or taken over (R218, R220)? -/
def isService (d : Dev) (p a : Nat) : Bool :=
  (listsAddr (objNow d 0x1A20 p) a && !d.pair.given.contains (p, a)) || d.pair.taken.contains (p, a)

/-! ## Frames of a session -/

/-- The RTP packet of an index. -/
def pktAt (d : Dev) (s i : Nat) : PktRec := tabGet {} (sess d s).pkts i
/-- Changes it. -/
def updPkt (s i : Nat) (f : PktRec → PktRec) (d : Dev) : Dev :=
  setSess s { sess d s with pkts := tabSet (sess d s).pkts i (f (pktAt d s i)) } d
/-- Changes one copy of it. -/
def updCopy (s i e : Nat) (f : CopySt → CopySt) : Dev → Dev :=
  updPkt s i fun p => { p with copies := p.copies.map fun c => if c.e == e then f c else c }

/-- The frame bytes of a packet of `len` payload bytes at a destination (R263): without OVERHEAD. -/
def frameBytes (entry codec len : Nat) : Nat := headerBytesOf entry codec - allowanceA codec + len

/-- The room of a class queue (R272). -/
def classRoom : Nat := 524288
/-- The bytes in a class queue. -/
def classBytes (d : Dev) (p c : Nat) : Nat := sumBy (·.bytes) (classQueue d p c)

/-- A packet is sent, or discarded on a link that is down (R249): what counts as sent from then on (R262, R267, R270,
R277). -/
def markSent (k : Pkt) (d : Dev) : Dev :=
  if k.kind = 0 then
    let d1 := updCopy k.s k.seq k.e (fun c => { c with sentAt := some d.tbs.ns }) d
    setSess k.s { sess d1 k.s with lastMedia := some d.tbs.ns } d1
  else if k.kind = 1 then
    updCopy k.s k.seq k.e (fun c => { c with sentAt := some d.tbs.ns, resending := false }) d
  else d

/-- The packets of the class queues of a port whose link is down are discarded (R249). -/
def discardQueues (p : Nat) (d : Dev) : Dev :=
  if linkUp d p then d
  else
    let all := (List.range 7).flatMap (classQueue d p)
    let d1 := forEach all markSent (objCount 32 0x50D2 p all.length d)
    setPort p { port d1 p with queues := [] } d1

/-- A packet enters a class queue of a port (R272); the depth mark follows (R277). -/
def enterClass (p c : Nat) (k : Pkt) (d : Dev) : Dev :=
  let d1 := setClassQueue p c (classQueue d p c ++ [{ k with entered := d.tbs.ns }]) d
  let key := Reg.pkeDepthHwm.at (8 * p + c)
  let m := min 65535 (ceilDiv (classBytes d1 p c) 64)
  discardQueues p (regSet key (max (regGet d1 key) m) d1)

/-- A packet enters a class queue before the others: heartbeats go first (R272). -/
def enterFirst (p c : Nat) (k : Pkt) (d : Dev) : Dev :=
  let d1 := enterClass p c k d
  let l := classQueue d1 p c
  match l.getLast? with
  | none => d1
  | some x =>
    let hs := l.dropLast.takeWhile fun y => y.kind == 6 && y.body.head? == some 1
    setClassQueue p c (hs ++ x :: l.dropLast.drop hs.length) d1

/-! ## Destination queues and buckets (R265 to R267) -/

/-- Can the head of a destination queue pass (R265)? -/
def passable (d : Dev) (s e : Nat) : Option Pkt :=
  let x := dest d s e
  match x.queue with
  | [] => none
  | k :: _ =>
    let p := byteAt (destEntry d s e) 1
    if decide ((256 * k.cost : Int) ≤ x.ct) && decide ((256 * k.cost : Int) ≤ x.pt) &&
        decide (classBytes d p 0 + k.bytes ≤ classRoom) then some k else none

/-- The earliest released of the heads that can pass; then the lowest slot, then the lowest destination (R265). -/
def nextPass (d : Dev) : List (Nat × Nat) → Option (Nat × Nat × Pkt)
  | [] => none
  | (s, e) :: t =>
    match passable d s e, nextPass d t with
    | none, r => r
    | some k, none => some (s, e, k)
    | some k, some (s', e', k') => if k'.entered < k.entered then some (s', e', k') else some (s, e, k)

/-- A head passes (R265, R277): both buckets pay, it enters the Media class queue of its port. -/
def passHead (s e : Nat) (k : Pkt) (d : Dev) : Dev :=
  let x := dest d s e
  let y := { x with queue := x.queue.drop 1, ct := x.ct - 256 * k.cost, pt := x.pt - 256 * k.cost,
                    waitHwm := max x.waitHwm (d.tbs.ns - k.entered) }
  enterClass (byteAt (destEntry d s e) 1) 0 k (setDest s e y d)

/-- Heads pass while they can (R265). -/
def passLoop (dests : List (Nat × Nat)) : Nat → Dev → Dev
  | 0, d => d
  | fuel + 1, d =>
    match nextPass d dests with
    | none => d
    | some (s, e, k) => passLoop dests fuel (passHead s e k d)

/-- The destinations that have a packet in their queue. -/
def queuedDests (d : Dev) : List (Nat × Nat) :=
  d.sess.flatMap fun x => (x.2.dests.filter fun e => !e.2.queue.isEmpty).map fun e => (x.1, e.1)

/-- Every head that can pass passes (R265). -/
def passAll (d : Dev) : Dev :=
  let l := queuedDests d
  passLoop l (sumBy (fun e => (dest d e.1 e.2).queue.length) l) d

/-- A media copy enters its destination queue, or is discarded at the queue limit and counts as sent (R267). -/
def enqueueMedia (s e : Nat) (k : Pkt) (d : Dev) : Dev :=
  let x := dest d s e
  let q := sumBy (·.cost) x.queue
  if queueLimit d s e < q + k.cost then
    markSent k (objCount 32 0x50C4 s 1 (setDest s e { x with discards := x.discards + 1 } d))
  else
    setDest s e { x with queue := x.queue ++ [{ k with entered := d.tbs.ns }], depthHwm := max x.depthHwm (q + k.cost) } d

/-! ## Release and replication (R255, R256 to R262) -/

/-- A destination takes up a layer-0 frame: a keyed one becomes active from its first packet; a spectator's layer computed
by then applies (R185, R255). -/
def takeLayer0 (s c e : Nat) (d : Dev) : Dev :=
  updDest s e (fun x =>
    let due := x.nextLayers.filter fun p => decide (p.1 ≤ c)
    { x with st := if x.st = 2 then 3 else x.st, firstFrame := if x.st = 2 then some c else x.firstFrame,
             layer := (due.getLast?.map (·.2)).getD x.layer,
             nextLayers := x.nextLayers.filter fun p => decide (c < p.1) }) d

/-- The destinations that receive a frame of a layer (R262). -/
def receivers (d : Dev) (s layer : Nat) : List Nat :=
  if (sess d s).tx.silent then []
  else (enabledDests d s).filter fun e => (dest d s e).st == 3 && admitsLayer d s e layer

/-- The bytes of the packets in a session's store. -/
def storeBytes' (x : Session) : Nat := sumBy (fun p => if p.2.stored then p.2.size else 0) x.pkts

/-- The room of a session's retransmission store (R269). -/
def storeRoom (d : Dev) (s : Nat) : Nat :=
  1048576 * (blocksWith d fun b => b.use == .store s).length +
    sumBy (fun e => if e.2.2 = .store s then 1048576 else 0) d.wrd.wanted

/-- Packets leave the store, oldest first, until `need` bytes find room (R269). -/
def makeRoom (s room need : Nat) : List (Nat × PktRec) → Dev → Dev
  | [], d => d
  | (i, p) :: t, d =>
    if storeBytes' (sess d s) + need ≤ room then d
    else makeRoom s room need t (if p.stored then updPkt s i (fun q => { q with stored := false }) d else d)

/-- One copy of a packet for destination e: its transport-wide number, its bytes and cost; it enters the queue. -/
def copyTo (s i : Nat) (k : Pkt) (e : Nat) (d : Dev) : Dev :=
  let entry := destEntry d s e
  let codec := objGet d 0x3011 s
  let x := dest d s e
  let b := frameBytes entry codec k.size
  let d1 := setDest s e { x with tw := if bit entry 2 then (x.tw + 1) % 65536 else x.tw } d
  let d2 := updPkt s i (fun p => { p with copies := p.copies ++ [{ e := e, tw := x.tw }] }) d1
  enqueueMedia s e { k with e := e, tw := x.tw, bytes := b, cost := b + byteAt (shaperEntry d s e) 16 } d2

/-- One packet of a band is built, stored and copied (R256, R261, R262, R269). -/
def sendCut (s c b data : Nat) (last : Bool) (dests : List Nat) (cut : Cut) (d : Dev) : Dev :=
  let i := (sess d s).tx.next
  let content := bytesAt data cut.off cut.cnt
  let d0 := makeRoom s (storeRoom d s) cut.len (sess d s).pkts d
  let d1 := setSess s { sess d0 s with tx := { (sess d0 s).tx with next := i + 1 } } d0
  let d2 := updPkt s i (fun _ => { frame := c, band := b, size := cut.len, data := content, marker := last,
                                   release := d.tbs.ns, stored := true }) d1
  forEach dests (copyTo s i { kind := 0, s := s, seq := i, frame := c, band := b, size := cut.len, data := content,
                              marker := last }) d2

/-- The packets of a list of cuts, the last with the marker if the band is the frame's last. -/
def sendCuts (s c b data : Nat) (lastBand : Bool) (dests : List Nat) : List Cut → Dev → Dev
  | [], d => d
  | [x], d => sendCut s c b data lastBand dests x d
  | x :: t, d => sendCuts s c b data lastBand dests t (sendCut s c b data false dests x d)

/-- A band of frame c goes out (R256 to R262): its packets are built once, stored, and copied to each destination that
receives the frame; its plan leaves u (R164). -/
def sendBand (s c b layer data : Nat) (cuts : List Cut) (lastBand : Bool) (d : Dev) : Dev :=
  let d0 := if b = 0 && layer = 0 then forEach (enabledDests d s) (takeLayer0 s c) d else d
  let first := (sess d0 s).tx.next
  let d1 := sendCuts s c b data lastBand (receivers d0 s layer) cuts d0
  let d2 := updPast (liveSid s) c
    (fun p => { p with firstPkt := if p.packets = 0 then first else p.firstPkt, packets := p.packets + cuts.length,
                       whole := p.whole || lastBand }) d1
  passAll d2

/-! ## Gates (R273, R274, R276) -/

/-- Are all gates closed (R276)? -/
def gatesClosed (d : Dev) : Bool := fld d Reg.pkeCtrl.base 0 1 == 0 || d.flt.safe

/-- The gate list in force on port p. -/
def gateList (d : Dev) (p : Nat) : Nat := objGet d 0x1A11 p
/-- Entries of a list. -/
def gateCount (l : Nat) : Nat := byteAt l 0
/-- DURATION of an entry. -/
def gateDur (l k : Nat) : Nat := bytesAt l (4 + 8 * k) 4
/-- MASK of an entry. -/
def gateMask (l k : Nat) : Nat := byteAt l (8 + 8 * k)
/-- Is a class open in an entry? -/
def gateOpen (l k c : Nat) : Bool := bit (gateMask l k) c

/-- The end of the window of class c that is open in entry k, which ends at `fin`; none when no closed entry follows within
a cycle (R273, R274). `next` is the next boundary. -/
def windowEnd (l c : Nat) : Nat → Nat → Nat → Nat → Option Nat
  | 0, _, _, _ => none
  | fuel + 1, k, fin, len =>
    let k' := if k + 1 < gateCount l then k + 1 else 0
    if gateOpen l k' c then
      windowEnd l c fuel k' (fin + if k' + 1 < gateCount l then gateDur l k' else len - min len (sumBy (gateDur l) (List.range k')))
        len
    else some fin

/-- The instant at which the current window of class c closes, in ns; none while it stays open. -/
def closeAt (d : Dev) (p c : Nat) : Option Nat :=
  let l := gateList d p
  let x := port d p
  let next := stitchNs (d.tbs.cnt + 1)
  let fin := if x.entry + 1 < gateCount l then x.entryAt + gateDur l x.entry else next
  windowEnd l c (gateCount l) x.entry fin (stitchNs (d.tbs.cnt + 2) - next)

/-- The classes in order of priority (R272). -/
def classOrder : List Nat := [6, 2, 1, 0, 3, 5, 4]

/-- The wire time of a frame in 1/400 ns (R274). -/
def wireTime (d : Dev) (p bytes : Nat) : Nat := (bytes + 20) * byteTime d p

/-- Is the head of class c to be sent now, or deferred (R274)? none: closed or empty; true: it fits. -/
def headFits (d : Dev) (p c : Nat) : Option Bool :=
  if gatesClosed d || !gateOpen (gateList d p) (port d p).entry c then none
  else
    match classQueue d p c with
    | [] => none
    | k :: _ =>
      match closeAt d p c with
      | none => some true
      | some t => some (decide (400 * d.tbs.ns + wireTime d p k.bytes ≤ 400 * t))

/-- The head of a class is deferred: counted once (R274). -/
def deferHead (p c : Nat) (d : Dev) : Dev :=
  match classQueue d p c with
  | [] => d
  | k :: t =>
    if k.deferred then d
    else regCount (Reg.pkeGateDefer.at p) 1 (setClassQueue p c ({ k with deferred := true } :: t) d)

/-- The class whose head the MAC sends; the heads that do not fit are deferred (R274). -/
def selectClass (p : Nat) : List Nat → Dev → Dev × Option Nat
  | [], d => (d, none)
  | c :: t, d =>
    match headFits d p c with
    | none => selectClass p t d
    | some true => (d, some c)
    | some false => selectClass p t (deferHead p c d)

/-! ## Timestamps (R250, R251) -/

/-- T corrected by a signed number of nanoseconds. -/
def corrected (t : Nat) (c : Int) : Nat := unsigned 64 ((t : Int) + c)

/-- An egress timestamp enters the FIFO of 64 entries, or is lost (R251). -/
def pushStamp (p ty seq t : Nat) (d : Dev) : Dev :=
  if d.pke.stamps.length < 64 then { d with pke := { d.pke with stamps := d.pke.stamps ++ [(p, ty, seq, t)] } }
  else objCount 32 0x50D4 p 1 { d with pke := { d.pke with stampsLost := min 127 (d.pke.stampsLost + 1) } }

/-- Is the copy of a band still in a queue (R277)? -/
def bandQueued (d : Dev) (s f b : Nat) : Bool :=
  let mine := fun (k : Pkt) => k.kind == 0 && k.s == s && k.frame == f && k.band == b
  (sess d s).dests.any (fun e => e.2.queue.any mine) || (List.range 8).any fun p => (classQueue d p 0).any mine

/-- Is an address an IPv4 one, as ::ffff:a.b.c.d? -/
def isMapped (a : Nat) : Bool := bytesAt a 0 10 == 0 && bytesAt a 10 2 == 0xFFFF
/-- The stored form of a library entry: its bytes and their number (R232). -/
def libForm (d : Dev) (t e : Nat) : Nat × Nat := storedForm (libEntry d t e).entries (libEntry d t e).blocks
/-- One datagram of an export (R237, R444): the unit at offset `sent`, of `n` bytes; the frame bytes with Ethernet, IP and UDP
headers, the 8-byte offset and the tag. -/
def exportPkt (d : Dev) (t e n : Nat) : Pkt :=
  let x := libEntry d t e
  let bytes := 18 + (if isMapped (bytesAt (objGet d 0x2011 t) 0 16) then 20 else 40) + 8 + 8 + n + 16
  { kind := 7, s := t, e := e, seq := bytesAt (objGet d 0x2054 t) (4 * e) 4, frame := x.sent, size := n,
    data := bytesAt (libForm d t e).1 x.sent n, bytes := bytes, cost := bytes }
/-- The bulk class of the export's port takes datagrams while it has room. -/
def exportFill (t e : Nat) : Nat → Dev → Dev
  | 0, d => d
  | fuel + 1, d =>
    let x := libEntry d t e
    let n := min 1408 ((libForm d t e).2 - x.sent)
    let k := exportPkt d t e n
    let p := byteAt (objGet d 0x2011 t) 16 % 8
    if x.st ≠ 5 || n = 0 || decide (classRoom < classBytes d p 4 + k.bytes) then d
    else exportFill t e fuel (enterClass p 4 k (setLib t e { x with sent := x.sent + n } d))
/-- Has the last datagram of an export left? -/
def exportDone (d : Dev) (t e : Nat) : Bool :=
  decide ((libForm d t e).2 ≤ (libEntry d t e).sent) &&
    (classQueue d (byteAt (objGet d 0x2011 t) 16 % 8) 4).all fun k => !(k.kind == 7 && k.s == t && k.e == e)
/-- Exports go on: an entry whose last datagram has left is READY again (R237). -/
def exportPump (d : Dev) : Dev :=
  forEach ((tabKeys d.lib).filter fun k => (libEntry d (k / 64) (k % 64)).st == 5) (fun k d =>
    let t := k / 64
    let e := k % 64
    let d1 := exportFill t e (ceilDiv (libForm d t e).2 1408 + 1) d
    if exportDone d1 t e then libState t e { libEntry d1 t e with st := 3, sent := 0 } d1 else d1) d

/-- What sending a frame does beside leaving (R251, R262, R270, R277); `fin` is when its last bit leaves, in 1/400 ns. -/
def onSend (p : Nat) (k : Pkt) (fin : Nat) (d : Dev) : Dev :=
  let d1 := markSent k d
  if k.kind = 0 then
    let d2 := updDest k.s k.e (fun x => { x with mediaSent := (x.mediaSent + 1) % 2 ^ 32 }) d1
    if bandQueued d2 k.s k.frame k.band then d2
    else objMax 0x50C5 k.s (ceilDiv (fin - 400 * (pktAt d2 k.s k.seq).release) 400) d2
  else if k.kind = 1 then updDest k.s k.e (fun x => { x with resends := (x.resends + 1) % 2 ^ 32 }) d1
  else if k.kind = 7 then exportPump d1
  else if k.kind = 9 && k.marker && bit (objNow d 0x1A30 0) p then
    pushStamp p (k.body.getD 0 0) (k.body.getD 1 0) (corrected d.tbs.ns (signed 32 (bytesAt (objGet d 0x1A04 p) 0 4))) d1
  else d1

/-- The MAC of port p sends the head of class c (R274, R277). -/
def sendHead (p c : Nat) (d : Dev) : Dev :=
  match classQueue d p c with
  | [] => d
  | k :: t =>
    let fin := 400 * d.tbs.ns + wireTime d p k.bytes
    let d1 := setClassQueue p c t d
    let d2 := setPort p { port d1 p with busyUntil := fin } d1
    let key := Reg.pkeResHwm.at (8 * p + c)
    let r := min (2 ^ 24 - 1) (ceilDiv (d.tbs.ns - k.entered) 10)
    let d3 := regSet key (max (regGet d2 key) r) d2
    let d4 := objCount 64 0x50D0 p 1 (objCount 64 0x50D1 p k.bytes d3)
    passAll (onSend p k fin (emit (.ethernet p c k) d4))

/-- A MAC looks for a frame to send (R249, R274): nothing while it is sending. -/
def macSend (p : Nat) (d : Dev) : Dev :=
  if !portPresent d p || decide (400 * d.tbs.ns < (port d p).busyUntil) then d
  else if !linkUp d p then discardQueues p d
  else
    match selectClass p classOrder d with
    | (d1, none) => d1
    | (d1, some c) => sendHead p c d1

/-- The next entry of the gate list begins (R273). -/
def gateExpiry (p : Nat) (d : Dev) : Dev :=
  let x := port d p
  let l := gateList d p
  if x.entry + 1 < gateCount l && decide (x.entryAt + gateDur l x.entry ≤ d.tbs.ns) then
    setPort p { x with entry := x.entry + 1, entryAt := x.entryAt + gateDur l x.entry } d
  else d

/-- At a boundary every port starts its cycle again, and an accepted list takes force (R273). -/
def gateRestart (d : Dev) : Dev :=
  forEach (List.range 8) (fun p d =>
    let x := port d p
    let d1 := if x.listWaits then objSet 0x1A11 p (objGet d 0x1A10 p) d else d
    setPort p { port d1 p with entry := 0, entryAt := d.tbs.ns, listWaits := false,
                               listSel := if x.listWaits then !x.listSel else x.listSel } d1) d

/-- GATE_ENTRY_EXPIRY (R273). -/
def execGateEntryExpiry (port now : Nat) (s : State) : Host.Outcome State Fault Refusal :=
  actOn (isPort port) (fun d => gateExpiry port (atTime now d)) s

/-- MAC_SEND (R274). -/
def execMacSend (port now : Nat) (s : State) : Host.Outcome State Fault Refusal :=
  actOn (isPort port) (fun d => macSend port (atTime now d)) s

/-- RETRANSMISSION_EXPIRY (R269): packets older than the hold leave the store. -/
def storeExpiry (s : Nat) (d : Dev) : Dev :=
  let lim := objGet d 0x30C0 s * 1000000
  let x := sess d s
  setSess s { x with
    pkts := x.pkts.map fun e => (e.1, { e.2 with stored := e.2.stored && decide (d.tbs.ns ≤ e.2.release + lim) }) } d

/-- RETRANSMISSION_EXPIRY (R269). -/
def execRetransmissionExpiry (slot now : Nat) (s : State) : Host.Outcome State Fault Refusal :=
  actOn (isSlot slot) (fun d => storeExpiry slot (atTime now d)) s

end Sys2Proof.Machine
end

