-- ==== Sys2Proof/Machine/Queues.lean ====
section
/-! DEFINITION. Host queues (15: R379 to R389): pointers, credits, the dispatcher's order, completion entries, resets. -/
namespace Sys2Proof.Machine

/-- The function whose queue page a caller reaches. -/
def fnOf : Caller → Nat
  | .vf t _ => t
  | _ => pfFn

/-- The place of a pointer register of function fn. -/
def ptrReg (pf vf : Reg) (fn i : Nat) : Nat := if fn = pfFn then pf.at i else vf.vfAt fn i

/-- A pointer write is accepted or dropped with the lowest code it earns (R366, R381); nothing is written in the safe
state (R486). -/
def ptrWrite (who : Caller) (key : Nat) (errs : Dev → List Err) (f : Dev → Dev) (d : Dev) : Dev :=
  match who with
  | .node _ => d
  | _ =>
    hostGate who (fun d =>
      if d.flt.safe && who != .firmware then regDrop who key .state d
      else
        match lowest (errs d) with
        | some e => regDrop who key e d
        | none => mend key (f d)) d

/-- The checks every pointer write passes (R381): a value below the ring size, an enabled queue. -/
def ptrErrs (k value : Nat) (d : Dev) : List Err :=
  earned [(decide (2 ^ 14 ≤ value) || decide (ringSize d k ≤ value), .range), (!(ring d k).on, .state)]

/-- Entries between two indices of a ring. -/
def ringDist (size a b : Nat) : Nat := (b + size - a % size) % size

/-- SQ_TAIL_WRITE: the checks (R381). -/
def sqTailErrs (k value : Nat) (d : Dev) : List Err :=
  ptrErrs k value d ++
    earned [(decide (ringDist (ringSize d k) (ring d k).head value < (ring d k).unfreed), .conflict)]

/-- SQ_TAIL_WRITE (R381). -/
def sqTailWrite (who : Caller) (q value : Nat) (d : Dev) : Dev :=
  let k := sqKey (fnOf who) q
  ptrWrite who (ptrReg .dmaSqTail .vfSqTail (fnOf who) q) (sqTailErrs k value)
    (setRing k { ring d k with tail := value }) d

/-- Has function fn a submission queue q (R379)? -/
def hasSq (fn q : Nat) : Bool := if fn = pfFn then decide (q < 8) else decide (q < 2)
/-- Has function fn a completion queue q (R379)? -/
def hasCq (fn q : Nat) : Bool := if fn = pfFn then decide (q < 8) else q == 0

/-- SQ_TAIL_WRITE (R381). -/
def execSqTailWrite (who : Caller) (queue value : Nat) (s : State) : Host.Outcome State Fault Refusal :=
  actOn (hasSq (fnOf who) queue) (sqTailWrite who queue value) s

/-- The checks of a head write (R381): not beyond the entries written. -/
def headErrs (k value : Nat) (d : Dev) : List Err :=
  ptrErrs k value d ++
    earned [(decide ((ring d k).count < ringDist (ringSize d k) (ring d k).head value), .conflict)]

/-- A head moves on, which releases the entries passed (R382). -/
def moveHead (k value : Nat) (d : Dev) : Dev :=
  let r := ring d k
  setRing k { r with head := value, count := r.count - ringDist (ringSize d k) r.head value } d

/-- CQ_HEAD_WRITE (R381, R382). -/
def execCqHeadWrite (who : Caller) (queue value : Nat) (s : State) : Host.Outcome State Fault Refusal :=
  actOn (hasCq (fnOf who) queue)
    (ptrWrite who (ptrReg .dmaCqHead .vfCqHead (fnOf who) queue) (headErrs (cqKey (fnOf who) queue) value)
      fun d => moveHead (cqKey (fnOf who) queue) value d) s

/-- EQ_HEAD_WRITE (R381, R384). -/
def execEqHeadWrite (who : Caller) (value : Nat) (s : State) : Host.Outcome State Fault Refusal :=
  act (ptrWrite who (ptrReg .dmaEqHead .vfEqHead (fnOf who) 0) (headErrs (eqKey (fnOf who)) value)
    fun d => moveHead (eqKey (fnOf who)) value d) s

/-! ## Queue objects (R380) -/

/-- The key of the queue that an object configures. -/
def queueOfObj (idx sub : Nat) : Nat :=
  if idx < 0x1128 then sqKey pfFn (idx - 0x1120) else if idx < 0x1130 then cqKey pfFn (idx - 0x1128)
  else if idx = 0x1130 then eqKey pfFn
  else if idx = 0x2040 then sqKey sub 0 else if idx = 0x2041 then sqKey sub 1
  else if idx = 0x2042 then cqKey sub 0 else eqKey sub

/-- Is the object a queue object? -/
def isQueueObj (idx : Nat) : Bool :=
  (decide (0x1120 ≤ idx) && decide (idx ≤ 0x1130)) || (decide (0x2040 ≤ idx) && decide (idx ≤ 0x2043))

/-- Is key k a submission queue? -/
def isSq (k : Nat) : Bool := decide (k % 32 < 8)
/-- Is key k a completion queue? -/
def isCq (k : Nat) : Bool := decide (8 ≤ k % 32) && decide (k % 32 < 16)

/-- The completion queue of a submission queue (R379). -/
def cqOf (k : Nat) : Nat := if k / 32 = pfFn then k + 8 else cqKey (k / 32) 0

/-- ENABLE and the OQ7064 flag of a queue object's value (R380). -/
def qEnable (v : Nat) : Bool := bit (byteAt v 10) 0
/-- The OQ7064 layout flag of a queue object's value (R380, R389). -/
def qOld (v : Nat) : Bool := bit (byteAt v 10) 1

/-- The range row of R380. -/
def qRange (k v : Nat) : Bool :=
  bits v 0 12 != 0 || decide (byteAt v 8 < 4) || decide ((if isSq k then 12 else 14) < byteAt v 8) ||
    (k / 32 != pfFn && (decide (15 < byteAt v 9) || bits (byteAt v 10) 2 2 != 0)) ||
    bits (byteAt v 10) 4 4 != 0 || bytesAt v 11 5 != 0

/-- The OQ7064 row of R380: the layout on another queue than tenant SQ 0 and CQ 0, enabled on one of the two and not on
the other, or together with an enabled SQ 1 (log 10). -/
def qOldBad (k v : Nat) (d : Dev) : Bool :=
  let fn := k / 32
  let n := k % 32
  let tenantPair := fn != pfFn && (n == 0 || n == 8)
  (qOld v && !tenantPair) ||
    (tenantPair && qOld v && (ring d (sqKey fn 1)).on) ||
    (fn != pfFn && n == 0 && qEnable v && (ring d (cqKey fn 0)).on && qOld (queueCfg d (cqKey fn 0)) != qOld v) ||
    (fn != pfFn && n == 1 && qEnable v && qOld (queueCfg d (sqKey fn 0)))

/-- The pairing row of R380. -/
def qPairBad (k v : Nat) (d : Dev) : Bool :=
  (isSq k && qEnable v && !(ring d (cqOf k)).on) ||
    (isCq k && !qEnable v && (ring d k).on &&
      (if k / 32 = pfFn then (ring d (k - 8)).on else (ring d (sqKey (k / 32) 0)).on || (ring d (sqKey (k / 32) 1)).on))

/-- The checks of a queue object write, in table order (R380). -/
def queueErrs (k v : Nat) (d : Dev) : List Err :=
  firstOf [(qRange k v, .range),
    ((ring d k).on && setBits v 80 1 0 != setBits (queueCfg d k) 80 1 0, .state),
    (qOldBad k v d, .conflict), (qPairBad k v d, .conflict)]

/-- A queue object takes a value: enabling sets the pointers to 0 and the phase to 1, disabling abandons what is not
fetched (R380). -/
def queueWrite (k v : Nat) (d : Dev) : Dev :=
  let o := queueObj k
  let r := ring d k
  let r1 : Ring := if qEnable v then (if r.on then r else { on := true }) else { r with on := false }
  setRing k r1 (objSet o.1 o.2 v d)

/-- A queue and its object return to their defaults (R388). -/
def queueOff (k : Nat) (d : Dev) : Dev := setRing k {} (objReset (queueObj k).1 (queueObj k).2 d)

/-- The queues of a function. -/
def queuesOf (fn : Nat) : List Nat :=
  if fn = pfFn then (List.range 17).map (32 * pfFn + ·) else [sqKey fn 0, sqKey fn 1, cqKey fn 0, eqKey fn]

/-! ## Reset of a queue group (R387) -/

/-- The queues of the group of a queue: an SQ with its CQ, or the EQ alone. A virtual function's two SQs share CQ 0. -/
def groupOf (k : Nat) : List Nat :=
  if isSq k || isCq k then
    if k / 32 = pfFn then [32 * pfFn + k % 8, 32 * pfFn + 8 + k % 8]
    else [sqKey (k / 32) 0, sqKey (k / 32) 1, cqKey (k / 32) 0]
  else [k]

/-- Descriptors of a group in flight: no completion entry is written for them (R387). -/
def dropEntries (k : Nat) (d : Dev) : Dev :=
  forEach (tabKeys d.dmaCh) (fun c d =>
    let ch := tabGet {} d.dmaCh c
    match ch.run with
    | none => d
    | some r =>
      if (groupOf k).contains (sqKey r.fn r.sq) then
        { d with dmaCh := tabPut {} d.dmaCh c { ch with run := some { r with noEntry := true } } }
      else d)
    (if (groupOf k).contains (sqKey pfFn 7) then { d with recvBufs := d.recvBufs.map fun r => { r with noEntry := true } } else d)

/-- The SUBJECT of a queue in a TYPE 7 event (R385). -/
def queueSubject (k : Nat) : Nat := if isSq k then k % 32 else if isCq k then k % 32 - 8 + 16 else 32

/-- QUEUE_RESET (R387): the group is disabled, its pointers are 0, a severity-1 fault is recorded and an event posted. -/
def queueReset (k cause : Nat) (d : Dev) : Dev :=
  let fn := k / 32
  let d1 := forEach (groupOf k) (fun j d =>
    setRing j {} (objSet (queueObj j).1 (queueObj j).2 (setBits (queueCfg d j) 80 1 0) d)) (dropEntries k d)
  let d2 := pulse 10 0x0035 1 (fn * 64 + queueSubject k) 0 d1
  if isSq k || isCq k then postEvent fn 7 1 0 (queueSubject k) cause d2
  else setFnQ fn { fnQ d2 fn with eqReset := true } d2

/-- EQ_RESET_CLEAR: a W1C of EQ_RESET (R387). -/
def eqResetClear (who : Caller) (d : Dev) : Dev :=
  ptrWrite who (ptrReg .dmaQStat .vfQStat (fnOf who) 0) (fun _ => [])
    (fun d => setFnQ (fnOf who) { fnQ d (fnOf who) with eqReset := false } d) d

/-- EQ_RESET_CLEAR (R387). -/
def execEqResetClear (who : Caller) (s : State) : Host.Outcome State Fault Refusal := act (eqResetClear who) s

/-! ## The dispatcher (R371, R382) -/

/-- Free slots of a completion queue (R382). -/
def cqFree (d : Dev) (k : Nat) : Nat := ringSize d k - (ring d k).count - (ring d k).reserved

/-- Has a queue a descriptor to fetch, but for a completion slot? (R371, R380, R381) -/
def hasWork (d : Dev) (k : Nat) : Bool :=
  let r := ring d k
  r.on && r.head != r.tail && decide (r.inflight < 4) && bit (regGet d Reg.dmaCtrl.base) 0

/-- May a descriptor be fetched from a queue (R371, R382)? -/
def fetchable (d : Dev) (k : Nat) : Bool := hasWork d k && decide (0 < cqFree d (cqOf k))

/-- The class of a submission queue (R371); SQ 7 takes receive buffers, after both classes. -/
def sqClass (k : Nat) : Nat := if k / 32 = pfFn then (if k % 32 < 4 then 0 else 1) else k % 32

/-- The submission queues listed by the register of rings. -/
def sqKeys (d : Dev) : List Nat := (tabKeys d.rings).filter isSq

/-- A function's position in the round robin: the physical function first, then tenant slots (R371). -/
def rrPos (fn : Nat) : Nat := if fn = pfFn then 0 else fn + 1

/-- How far position p lies after the one served last. -/
def rrDist (last p : Nat) : Nat := (p + 257 - (last + 1) % 257) % 257

/-- Is queue k one that the dispatcher takes next: of the lowest class with work, of the next function in turn? (R371) -/
def isTurn (d : Dev) (k : Nat) : Bool :=
  (sqKeys d).all fun j =>
    !fetchable d j ||
      decide (sqClass k < sqClass j) ||
      (sqClass k == sqClass j &&
        decide (rrDist (tabGet 256 d.rrLast (sqClass k)) (rrPos (k / 32)) ≤
          rrDist (tabGet 256 d.rrLast (sqClass k)) (rrPos (j / 32))))

/-- A DMA channel. -/
def dmaChan (d : Dev) (c : Nat) : DmaCh := tabGet {} d.dmaCh c
/-- Changes a DMA channel. -/
def setDmaChan (c : Nat) (v : DmaCh) (d : Dev) : Dev := { d with dmaCh := tabPut {} d.dmaCh c v }

/-- Is a host channel idle and enabled (R371, R372)? -/
def chanIdle (d : Dev) (c : Nat) : Bool :=
  (dmaChan d c).run.isNone && bit (regGet d (Reg.dmaChCtrl.at c)) 0

/-- The code of a descriptor that no opcode's row takes (R375, R376, R389): a reserved opcode, a fill, which runs on channels
0 to 15 only, in the OQ7064 layout anything but the two copies. -/
def opcodeErr (old : Bool) (desc : Desc) : Option Err :=
  if old then
    if desc.opcode = 1 || desc.opcode = 2 then (if desc.flags ≤ 1 then none else some .range) else some .unsupported
  else if desc.opcode = 0 || decide (10 ≤ desc.opcode) then some .range
  else if desc.opcode = 7 then
    some (if desc.reservedSet || decide (8 ≤ desc.flags) || (decide (7 < desc.format) && desc.format != 255) then .range
      else .access)
  else none

/-- A fetched descriptor starts on its channel; its ring slot is freed and one completion slot is reserved (R371, R381,
R382). -/
def fetchInto (k c : Nat) (desc : Desc) (d : Dev) : Dev :=
  let r := ring d k
  let q := ring d (cqOf k)
  let e := opcodeErr (qOld (queueCfg d k)) desc
  let d1 := setRing (cqOf k) { q with reserved := q.reserved + 1 } d
  let d2 := setRing k
    { r with head := (r.head + 1) % ringSize d k, inflight := r.inflight + 1 } d1
  let x : Running :=
    { d := desc, fn := k / 32, sq := k % 32, slot := r.head, ended := e.isSome, status := e.getD .ok }
  let d3 := setDmaChan c { dmaChan d c with run := some x, stopped := false } d2
  { d3 with rrLast := tabPut 256 d3.rrLast (sqClass k) (rrPos (k / 32)) }

/-- DESCRIPTOR_FETCH (R371): nothing happens unless the channel is idle and it is the queue's turn; a fetch that fails
resets the queue (R373, R387); a queue whose completion queue has no free slot is a stall (R382). -/
def descriptorFetch (fn q c : Nat) (desc : Desc) (fetchOk : Bool) (d : Dev) : Dev :=
  let k := sqKey fn q
  if !chanIdle d c || !hasWork d k || d.flt.safe then d
  else if cqFree d (cqOf k) = 0 then setFnQ fn { fnQ d fn with stalls := satAdd 8 (fnQ d fn).stalls 1 } d
  else if !isTurn d k || (bit desc.flags 1 && !qOld (queueCfg d k) && (ring d k).inflight != 0) then d
  else if !fetchOk then queueReset k 3 d
  else fetchInto k c desc d

/-- DESCRIPTOR_FETCH (R371): host channels are 24 to 63. -/
def execDescriptorFetch (fn queue chan : Nat) (desc : Desc) (fetchOk : Bool) (now : Nat) (s : State) :
    Host.Outcome State Fault Refusal :=
  actOn (hasSq fn queue && decide (24 ≤ chan) && decide (chan < 64))
    (fun d => descriptorFetch fn queue chan desc fetchOk (atTime now d)) s

/-! ## Completion (R383) -/

/-- The bytes of a completion entry (R383), or of the OQ7064 layout (R389). -/
def completionBytes (r : Running) (phase old : Bool) (head time : Nat) : Nat :=
  if old then
    r.d.tag % 2 ^ 16 + r.status.code * 2 ^ 16 + (b2n phase + r.outcome * 2) * 2 ^ 24 + r.bytes % 2 ^ 32 * 2 ^ 32
  else
    r.d.tag % 2 ^ 32 + r.status.code * 2 ^ 32 + r.d.opcode * 2 ^ 40 + r.sq * 2 ^ 48 +
      (b2n phase + r.outcome * 2) * 2 ^ 56 + r.bytes % 2 ^ 32 * 2 ^ 64 + head % 2 ^ 32 * 2 ^ 96 +
      time % 2 ^ 64 * 2 ^ 128 + r.info % 2 ^ 32 * 2 ^ 192

/-- The entry of a descriptor that has ended is written to its completion queue (R383). -/
def writeCompletion (r : Running) (entryOk : Bool) (d : Dev) : Dev :=
  let k := sqKey r.fn r.sq
  let c := cqOf k
  let q := ring d c
  if !entryOk then queueReset k 3 d
  else
    let old := qOld (queueCfg d c)
    let d1 := emit (.entry r.fn (c % 32) q.tail (completionBytes r q.phase old (ring d k).head d.tbs.ns)) d
    let d2 := setRing c { ringAdvance (ringSize d c) q with reserved := q.reserved - 1 } d1
    raiseEoc (if r.fn = pfFn then 96 + r.sq else 640 + r.fn) (bit r.d.flags 0) d2

/-- The descriptor leaves its channel and its queue's count of descriptors in flight. -/
def retire (c : Nat) (r : Running) (d : Dev) : Dev :=
  let k := sqKey r.fn r.sq
  let ch := dmaChan d c
  let d1 := setDmaChan c { ch with run := none, done := (ch.done + 1) % 65536 } d
  if r.fn ≤ pfFn && !r.noEntry then
    setRing k { ring d1 k with inflight := (ring d1 k).inflight - 1 } d1
  else d1

/-- DESCRIPTOR_COMPLETE (R383): a descriptor whose operation has ended completes. -/
def descriptorComplete (c : Nat) (entryOk : Bool) (d : Dev) : Dev :=
  match (dmaChan d c).run with
  | none => d
  | some r =>
    if !r.ended then d
    else
      let d1 := retire c r d
      if r.fn < 256 then
        let d2 := objCount 64 0x5120 r.fn 1 d1
        if r.noEntry then d2 else writeCompletion r entryOk d2
      else if r.fn = pfFn && !r.noEntry then writeCompletion r entryOk d1
      else if c < 24 && bit r.d.flags 0 then raise (32 + c) d1
      else d1

/-- DESCRIPTOR_COMPLETE (R383). -/
def execDescriptorComplete (chan : Nat) (entryOk : Bool) (now : Nat) (s : State) : Host.Outcome State Fault Refusal :=
  actOn (decide (chan < 64)) (fun d => descriptorComplete chan entryOk (atTime now d)) s

/-- DMA_CH_STAT[c]. -/
def chStat (d : Dev) (c : Nat) : Nat :=
  let ch := dmaChan d c
  let busy := match ch.run with
    | none => 0
    | some r => 1 + r.d.opcode % 16 * 2 + r.fn % 512 * 2 ^ 5
  busy + b2n ch.stopped * 2 ^ 14 + ch.done * 2 ^ 16

/-- DMA_Q_STAT of a function. -/
def qStat (d : Dev) (fn : Nat) : Nat :=
  sumBy (fun q => if hasSq fn q && (ring d (sqKey fn q)).on then 2 ^ q else 0) (List.range 8) +
    (fnQ d fn).stalls * 2 ^ 8 + b2n (fnQ d fn).eqReset * 2 ^ 16

/-- The registers of the queue pages that show pointers and counts. -/
def queueRead (d : Dev) (r : Reg) (fn i : Nat) : Option Nat :=
  match r with
  | .dmaSqTail | .vfSqTail => some (ring d (sqKey fn i)).tail
  | .dmaSqHead | .vfSqHead => some (ring d (sqKey fn i)).head
  | .dmaCqHead | .vfCqHead => some (ring d (cqKey fn i)).head
  | .dmaCqTail | .vfCqTail => some (ring d (cqKey fn i)).tail
  | .dmaEqHead | .vfEqHead => some (ring d (eqKey fn)).head
  | .dmaEqTail | .vfEqTail => some (ring d (eqKey fn)).tail
  | .dmaEqLost | .vfEqLost => some (fnQ d fn).lost
  | .dmaQStat | .vfQStat => some (qStat d fn)
  | .dmaChStat => some (chStat d i)
  | _ => none

end Sys2Proof.Machine
end

