-- ==== Sys2Proof/Machine/Ingress.lean ====
section
/-! DEFINITION. Ingress parsing, the flow tables and learning (11: R278 to R296). -/
namespace Sys2Proof.Machine

/-! ## The flow table (R284 to R287) -/

/-- A pipeline. -/
def pipe (d : Dev) (i : Nat) : Pipe := tabGet {} d.pke.pipes i
/-- Changes a pipeline. -/
def setPipe (i : Nat) (x : Pipe) (d : Dev) : Dev := { d with pke := { d.pke with pipes := tabPut {} d.pke.pipes i x } }
/-- The pipeline of a logical port (R278). -/
def pipeOf (p : Nat) : Nat := p / 4

/-- The bucket of a key (R284): UDP ports as they stand in the packet. -/
def flowBucket (seed la ra lp rp : Nat) : Nat :=
  crc32c (toBytes la 16 ++ toBytes ra 16 ++ [lp / 256, lp % 256, rp / 256, rp % 256] ++ toBytes seed 4) % 4096

/-- Is it the entry of a key? -/
def Flow.hasKey (la ra lp rp : Nat) (f : Flow) : Bool := f.la == la && f.ra == ra && f.lp == lp && f.rp == rp

/-- The entry of a key in a pipeline. -/
def flowFind (d : Dev) (i la ra lp rp : Nat) : Option Flow :=
  (tabGet [] (pipe d i).flows (flowBucket (objGet d 0x1A41 0) la ra lp rp)).find? (Flow.hasKey la ra lp rp)

/-- The occupant to evict (R286): an aged one before the others, then the earliest stamp. -/
def evictee : List Flow → Option Flow
  | [] => none
  | f :: t =>
    match evictee t with
    | none => some f
    | some g => if (f.aged && !g.aged) || (f.aged == g.aged && decide (f.stamp < g.stamp)) then some f else some g

/-- Notes when the table gained or lost a key of destination g (R296). -/
def flowChanged (i g : Nat) (d : Dev) : Dev :=
  setPipe i { pipe d i with changed := tabSet (pipe d i).changed g d.tbs.ns } d

/-- An entry is inserted (R286): nothing if its key is present; a full bucket evicts one occupant, counted and posted. -/
def flowInsert (i la ra lp rp g : Nat) (d : Dev) : Dev :=
  let b := flowBucket (objGet d 0x1A41 0) la ra lp rp
  let l := tabGet [] (pipe d i).flows b
  if l.any (Flow.hasKey la ra lp rp) then d
  else
    let f : Flow := { la := la, ra := ra, lp := lp, rp := rp, g := g, stamp := d.pke.flowSeq }
    let put := fun (m : List Flow) (d : Dev) =>
      flowChanged i g (setPipe i { pipe d i with flows := tabPut [] (pipe d i).flows b (m ++ [f]) }
        { d with pke := { d.pke with flowSeq := d.pke.flowSeq + 1 } })
    if l.length < 8 then put l d
    else
      match evictee l with
      | none => put l d
      | some x =>
        let d1 := postEvent pfFn 3 1 0 x.g i (objCount 32 0x50E9 i 1 (flowChanged i x.g d))
        put (l.filter fun y => y.stamp != x.stamp) d1

/-- A key is removed from a pipeline. -/
def flowRemove (i la ra lp rp : Nat) (d : Dev) : Dev :=
  match flowFind d i la ra lp rp with
  | none => d
  | some f =>
    let b := flowBucket (objGet d 0x1A41 0) la ra lp rp
    flowChanged i f.g (setPipe i { pipe d i with
      flows := tabPut [] (pipe d i).flows b ((tabGet [] (pipe d i).flows b).filter fun y => !Flow.hasKey la ra lp rp y) } d)

/-- Changes the entry of a key. -/
def flowTouch (i la ra lp rp : Nat) (h : Flow → Flow) (d : Dev) : Dev :=
  let b := flowBucket (objGet d 0x1A41 0) la ra lp rp
  setPipe i { pipe d i with
    flows := tabPut [] (pipe d i).flows b
      ((tabGet [] (pipe d i).flows b).map fun y => if Flow.hasKey la ra lp rp y then h y else y) } d

/-! ## Destinations and their keys (R255, R285) -/

/-- SRC_IP of a destination entry. -/
def entrySrc (v : Nat) : Nat := bytesAt v 0x18 16
/-- SRC_PORT. -/
def entrySrcPort (v : Nat) : Nat := bytesAt v 0x14 2
/-- DST_IP. -/
def entryDst (v : Nat) : Nat := bytesAt v 0x28 16
/-- DST_PORT. -/
def entryDstPort (v : Nat) : Nat := bytesAt v 0x16 2
/-- The global number of a destination (R284). -/
def globalNo (s e : Nat) : Nat := 64 * s + e

/-- Has the pipeline a logical port that lists the address as a service address (R285)? -/
def pipeServes (d : Dev) (i a : Nat) : Bool := (List.range 4).any fun k => isService d (4 * i + k) a

/-- The key of a destination leaves both pipelines. -/
def unlistDest (s e src sport : Nat) (d : Dev) : Dev :=
  let x := dest d s e
  flowRemove 1 src x.learned.1 sport x.learned.2 (flowRemove 0 src x.learned.1 sport x.learned.2 d)

/-- The key of a destination enters each pipeline that serves its source address (R285). -/
def listDest (s e : Nat) (d : Dev) : Dev :=
  let v := destEntry d s e
  let x := dest d s e
  forEach [0, 1] (fun i d =>
    if pipeServes d i (entrySrc v) then
      flowInsert i (entrySrc v) x.learned.1 (entrySrcPort v) x.learned.2 (globalNo s e) d
    else d) d

/-- A destination becomes enabled (R183, R254, R255, R285): tokens full, learned address as configured. -/
def enableDest (s e : Nat) (d : Dev) : Dev :=
  let v := destEntry d s e
  let x := dest d s e
  listDest s e (setDest s e { x with
    st := if x.key.isSome then 2 else 1, ct := 256 * depthC d s e, pt := 256 * depthP d s e,
    committed := rateC d s e, peak := rateP d s e, learned := (entryDst v, entryDstPort v), gen := x.gen + 1,
    rate := inForce d s 0x3071, ratePeak := controlPeak d s (inForce d s 0x3071), rateNew := false, owd := [], qdPrev := 0, qd := 0, since := d.tbs.ns, lastFeedback := d.tbs.ns, timedOut := false,
    layer := 0, nextLayers := [], firstFrame := none, movedAt := none } d)

/-- A destination becomes disabled (R255, R285): its queue is discarded, its blocks are released, its key leaves the
tables. -/
def disableDest (s e old : Nat) (d : Dev) : Dev :=
  let d1 := unlistDest s e (entrySrc old) (entrySrcPort old) d
  let x := dest d1 s e
  releaseUse (fun u => u == .queue s e)
    (setDest s e { gen := x.gen + 1, key := x.key, prevKey := x.prevKey, prevUntil := x.prevUntil, tw := x.tw, srtcp := x.srtcp,
                   mediaSent := x.mediaSent, resends := x.resends, discards := x.discards, waitHwm := x.waitHwm,
                   depthHwm := x.depthHwm, indexIn := x.indexIn, window := x.window } d1)

/-- The instant to which a key that is replaced now is kept (R443): the retransmission hold after the last packet of the session
that was released under it. -/
def previousUntil (d : Dev) (s : Nat) : Nat :=
  ((sess d s).pkts.foldl (fun a k => max a k.2.release) 0) + objGet d 0x30C0 s * 1000000
/-- A key that was installed takes effect; the one before it becomes the previous key (R255, R443). -/
def takeKey (s e : Nat) (d : Dev) : Dev :=
  match (dest d s e).newKey with
  | none => d
  | some k => updDest s e (fun x => { x with
      key := some k, newKey := none, st := if x.st = 1 then 2 else x.st, prevKey := x.key
      prevUntil := if x.key.isSome then previousUntil d s else x.prevUntil }) d
/-- The entries written since the last boundary take effect (R255, R285): `old` is the entry in force before. -/
def applyDest (s e old : Nat) (d : Dev) : Dev :=
  let new := destEntry d s e
  let d1 := takeKey s e d
  if bit new 0 then
    if !bit old 0 then enableDest s e d1
    else if entryDst new ≠ entryDst old || entryDstPort new ≠ entryDstPort old then
      let d2 := unlistDest s e (entrySrc old) (entrySrcPort old) d1
      listDest s e (updDest s e (fun x => { x with learned := (entryDst new, entryDstPort new), gen := x.gen + 1 }) d2)
    else if entrySrc new ≠ entrySrc old || entrySrcPort new ≠ entrySrcPort old then
      listDest s e (unlistDest s e (entrySrc old) (entrySrcPort old) d1)
    else d1
  else if bit old 0 then disableDest s e old d1
  else d1

/-- The changes that were acknowledged before a boundary become visible (R23), those of destinations with what R255 and
R285 attach to them. -/
def showChanges (d : Dev) : Dev :=
  let w := d.pke.destWaits.map fun x => (x.1, x.2, destEntry d x.1 x.2)
  forEach w (fun x d => applyDest x.1 x.2.1 x.2.2 d)
    { d with heldStitch := [], pke := { d.pke with destWaits := [] } }

/-! ## Frames (R280, R281) -/

/-- Byte i of a frame. -/
def fb (f : RxFrame) (i : Nat) : Nat := byteAt f.data i
/-- n bytes from i, as a number sent most significant byte first. -/
def be (f : RxFrame) (i : Nat) : Nat → Nat
  | 0 => 0
  | n + 1 => be f i n * 256 + fb f (i + n)
/-- An IPv4 address of four bytes at i as ::ffff:a.b.c.d, first byte lowest. -/
def addr4 (f : RxFrame) (i : Nat) : Nat := 0xFFFF * 2 ^ 80 + bytesAt f.data i 4 * 2 ^ 96
/-- An IPv6 address. -/
def addr6 (f : RxFrame) (i : Nat) : Nat := bytesAt f.data i 16

/-- Is it the type of an outer tag? -/
def isTag (t : Nat) : Bool := t == 0x8100 || t == 0x88A8
/-- Tags of a frame: none, one or two. -/
def tagsOf (f : RxFrame) : Nat := if isTag (be f 12 2) then (if be f 16 2 = 0x8100 then 2 else 1) else 0
/-- H2 of R281. -/
def ethLen (f : RxFrame) : Nat := 14 + 4 * tagsOf f
/-- The EtherType. -/
def etherType (f : RxFrame) : Nat := be f (ethLen f - 2) 2

/-- The sum of the 16-bit words of a header. -/
def wordSum (f : RxFrame) : Nat → Nat → Nat
  | 0, _ => 0
  | n + 1, i => be f i 2 + wordSum f n (i + 2)
/-- Is the IPv4 header checksum right: do the words sum to all ones in ones' complement? -/
def headerSumOk (f : RxFrame) (i words : Nat) : Bool :=
  let s := wordSum f words i
  let s1 := s % 65536 + s / 65536
  s1 % 65536 + s1 / 65536 == 65535

/-- What the chain of IPv6 extension headers holds: the protocol after it, where it begins, how many headers were followed,
whether a Fragment header stands in it. -/
structure Chain where
  proto : Nat
  off : Nat
  count : Nat := 0
  frag : Bool := false

/-- Follows at most three extension headers (R280, R281 rows 7 and 8). -/
def chainOf (f : RxFrame) : Nat → Nat → Nat → Nat → Chain
  | 0, p, off, n => ⟨p, off, n, p == 44⟩
  | fuel + 1, p, off, n =>
    if p = 0 || p = 43 || p = 60 then chainOf f fuel (fb f off) (off + 8 + 8 * fb f (off + 1)) (n + 1)
    else ⟨p, off, n, p == 44⟩

/-- The network layer of an IPv4 or IPv6 frame. -/
structure Net where
  v6 : Bool
  total : Nat
  src : Nat
  dst : Nat
  proto : Nat
  /-- where the transport header begins -/
  off : Nat
  count : Nat
  frag : Bool
  formOk : Bool

/-- Reads the network layer. -/
def netOf (f : RxFrame) : Net :=
  let h := ethLen f
  if etherType f = 0x0800 then
    let ihl := fb f h % 16
    { v6 := false, total := be f (h + 2) 2, src := addr4 f (h + 12), dst := addr4 f (h + 16), proto := fb f (h + 9),
      off := h + 4 * ihl, count := 0, frag := be f (h + 6) 2 % 16384 != 0,
      formOk := fb f h / 16 == 4 && decide (5 ≤ ihl) && decide (4 * ihl ≤ be f (h + 2) 2) && headerSumOk f h (2 * ihl) }
  else
    let c := chainOf f 3 (fb f (h + 6)) (h + 40) 0
    { v6 := true, total := 40 + be f (h + 4) 2, src := addr6 f (h + 8), dst := addr6 f (h + 24), proto := c.proto,
      off := c.off, count := c.count, frag := c.frag, formOk := fb f h / 16 == 6 }

/-- The solicited-node multicast address of an address. -/
def solicited (a : Nat) : Nat := 0x02FF + 0x01 * 2 ^ 88 + 0xFF * 2 ^ 96 + a / 2 ^ 104 % 2 ^ 24 * 2 ^ 104
/-- Is the address the solicited-node address of a service address of p? -/
def isSolicited (d : Dev) (p a : Nat) : Bool :=
  (List.range 16).any fun k =>
    let x := serviceAddr (objNow d 0x1A20 p) k
    x != 0 && solicited x == a
/-- The three last octets of an address, as sent. -/
def lastThree (a : Nat) : Nat := byteAt a 13 * 65536 + byteAt a 14 * 256 + byteAt a 15

/-- Is IEEE 1588 enabled on p (0x1A30:0)? -/
def timingOn (d : Dev) (p : Nat) : Bool := bit (objNow d 0x1A30 0) p

/-- Is the destination MAC one that row 9 of R281 accepts? -/
def macAccepted (d : Dev) (p : Nat) (f : RxFrame) : Bool :=
  let m := be f 0 6
  m == objNow d 0x1A01 p % 2 ^ 48 || m == 0xFFFFFFFFFFFF ||
    (timingOn d p && (m == 0x011B19000000 || m == 0x0180C200000E || m == 0x01005E000181 || m == 0x333300000181)) ||
    (List.range 16).any fun k =>
      let x := serviceAddr (objNow d 0x1A20 p) k
      x != 0 && m == 0x3333FF000000 + lastThree x

/-- Where a frame goes (R281 to R283). -/
inductive Fate where
  | fcs
  | pauseFrame
  | cls (k : Nat)
  | arp (addr : Nat)
  | solicit (addr : Nat)
  | mirror
  | timing
  | feedback (la ra lp rp : Nat)
deriving DecidableEq, Repr

/-- The UDP payload bytes that R280 reads, by destination port. -/
def payloadNeed (d : Dev) (dport : Nat) : Nat :=
  if dport = objNow d 0x1403 0 then 24 else if dport = 319 || dport = 320 then 34 else 12

/-- Is (address, port) a local endpoint: SRC_IP and SRC_PORT of an enabled destination (R282)? -/
def endpointDests (d : Dev) (a p : Nat) : List (Nat × Nat) :=
  d.sess.flatMap fun x =>
    (x.2.dests.filter fun e =>
      e.2.st != 0 && entrySrc (destEntry d x.1 e.1) == a && entrySrcPort (destEntry d x.1 e.1) == p).map fun e => (x.1, e.1)

/-- The path of a UDP packet that passed R281 (R282). -/
def udpPath (d : Dev) (p : Nat) (f : RxFrame) (n : Net) : Fate :=
  let dport := be f (n.off + 2) 2
  let b := n.off + 8
  let partner := objGet d 0x1404 0
  if dport = objNow d 0x1403 0 && n.src == bytesAt partner 0 16 then .mirror
  else if (dport = 319 || dport = 320) && timingOn d p then .timing
  else if (endpointDests d n.dst dport).isEmpty then .cls 6
  else if fb f b / 64 ≠ 2 then .cls 3
  else if 192 ≤ fb f (b + 1) && fb f (b + 1) ≤ 223 then .feedback n.dst n.src dport (be f n.off 2)
  else .cls 6

/-- Rows 5 to 12 of R281 for an IP frame, then R282. -/
def ipFate (d : Dev) (p : Nat) (f : RxFrame) : Fate :=
  let n := netOf f
  let h := ethLen f
  let udp := n.proto == 17
  let dport := be f (n.off + 2) 2
  let need := n.off + if udp then 8 + payloadNeed d dport else 24
  if !n.formOk then .cls 3
  else if f.len - h < n.total || (n.total < f.len - h && 60 < f.len) || (n.v6 && n.total == 40) then .cls 1
  else if n.frag then .cls 2
  else if 3 ≤ n.count || ((udp || n.proto == 58) && 128 < need) then .cls 0
  else if !(isService d p n.dst || (n.v6 && isSolicited d p n.dst)) || !macAccepted d p f then .cls 7
  else if n.v6 && n.proto == 58 then
    if fb f n.off = 135 && isService d p (addr6 f (n.off + 8)) then .solicit (addr6 f (n.off + 8)) else .cls 6
  else if !udp then .cls 6
  else if be f (n.off + 4) 2 < 8 || be f (n.off + 4) 2 ≠ n.total - (n.off - h) then .cls 1
  else if be f (n.off + 4) 2 - 8 < payloadNeed d dport then .cls 3
  else udpPath d p f n

/-- The fate of a frame that arrives on port p (R281). -/
def fateOf (d : Dev) (p : Nat) (f : RxFrame) : Fate :=
  let ty := etherType f
  if !f.fcsOk then .fcs
  else if ty = 0x8808 then .pauseFrame
  else if tagsOf f = 2 && isTag ty then .cls 0
  else if ty = 0x0806 then
    if !macAccepted d p f then .cls 7
    else if be f (ethLen f + 6) 2 = 1 && isService d p (addr4 f (ethLen f + 24)) then .arp (addr4 f (ethLen f + 24))
    else .cls 7
  else if ty = 0x88F7 then
    if 128 < ethLen f + 34 then .cls 0 else if !macAccepted d p f then .cls 7
    else if f.len < ethLen f + 34 then .cls 3 else if timingOn d p then .timing else .cls 6
  else if ty = 0x0800 || ty = 0x86DD then ipFate d p f
  else .cls 7

/-! ## Exception classes (R283, R386) -/

/-- The counter of an exception class. -/
def classCounter (k : Nat) : Nat :=
  if k < 4 then 0x50E1 + k else if k = 4 then 0x50E6 else if k = 5 then 0x50E7 else if k = 6 then 0x50E5 else 0x50EE

/-- A frame is punted to the oldest buffer posted on queue 7 of the physical function (R386); without one it is dropped and
counted. -/
def puntFrame (p k : Nat) (f : RxFrame) (d : Dev) : Dev :=
  match d.recvBufs with
  | [] => objCount 32 0x50EB (pipeOf p) 1 d
  | r :: t =>
    let d1 := emit (.hostData pfFn r.d.hostAddr f.len f.data) { d with recvBufs := t }
    let q := sqKey pfFn 7
    if r.noEntry then d1
    else
    let d2 := setRing q { ring d1 q with inflight := (ring d1 q).inflight - 1 } d1
    writeCompletion { r with ended := true, status := .ok, bytes := f.len, info := pipeOf p + p * 2 + k * 16 } true d2

/-- A frame of an exception class is counted, and dropped or punted as 0x1A40:0 sets (R283). -/
def exceptFrame (p k : Nat) (f : RxFrame) (d : Dev) : Dev :=
  let d1 := objCount 32 (classCounter k) (pipeOf p) 1 d
  if bit (objNow d1 0x1A40 0) k then puntFrame p k f d1 else d1

/-! ## Feedback (R288 to R291) -/

/-- The replay check of RFC 3711 with a window of 64 indices (R288). -/
def replayOk (x : Dest) (i : Nat) : Bool :=
  match x.indexIn with
  | none => true
  | some m => decide (m < i) || (decide (m - i < 64) && !bit x.window (m - i))

/-- The window after an index is accepted: bit k stands for k below the greatest. -/
def replayTake (x : Dest) (i : Nat) : Dest :=
  match x.indexIn with
  | none => { x with indexIn := some i, window := 1 }
  | some m =>
    if m < i then { x with indexIn := some i, window := (if i - m < 64 then x.window * 2 ^ (i - m) % 2 ^ 64 else 0) + 1 }
    else { x with window := Nat.lor x.window (2 ^ (m - i)) }

/-- Does a packet authenticate under the current key of destination (s, e), or under its previous one (R443): the key is held,
the cipher's verdict, the replay check? -/
def authUnderKey (d : Dev) (f : RxFrame) (s e : Nat) (old : Bool) : Bool :=
  let x := dest d s e
  (if old then x.prevKey.isSome && f.authUnder.contains (16384 + globalNo s e)
    else x.key.isSome && f.authUnder.contains (globalNo s e)) && replayOk x f.index
/-- Does it authenticate under either? -/
def authOk (d : Dev) (f : RxFrame) (s e : Nat) : Bool := authUnderKey d f s e false || authUnderKey d f s e true
/-- The trials that a candidate takes: its current key, then its previous one (R289, R443). -/
def trialsOf (d : Dev) (c : Nat × Nat) : List (Nat × Nat × Bool) :=
  (c.1, c.2, false) :: if (dest d c.1 c.2).prevKey.isSome then [(c.1, c.2, true)] else []

/-- A candidate takes its place in the order of R292. -/
def insertCandidate (c : Candidate) : List Candidate → List Candidate
  | [] => [c]
  | x :: t => if c.stamp < x.stamp || (c.stamp = x.stamp && c.pipe < x.pipe) then c :: x :: t else x :: insertCandidate c t

/-- Tests an authenticated packet for a move (R291). -/
def moveTest (i s e ra rp idx : Nat) (d : Dev) : Dev :=
  let x := dest d s e
  if x.learned = (ra, rp) then d
  else
    let fresh := match x.indexIn with
      | none => true
      | some m => decide (m < idx)
    if objNow d 0x30D0 s = 1 && fresh then
      { d with pke := { d.pke with
          candidates := insertCandidate ⟨d.tbs.ns, i, globalNo s e, ra, rp, x.gen⟩ d.pke.candidates } }
    else objCount 32 0x50F3 s 1 d

/-- An authenticated packet of destination (s, e) (R182, R288, R291). -/
def feedbackTaken (i s e ra rp : Nat) (f : RxFrame) (d : Dev) : Dev :=
  let foreign := (f.ssrcs.filter fun x => x != (sess d s).tx.ssrc).length
  let d1 := objCount 32 0x50F2 s foreign (objCount 32 0x50F0 s 1 d)
  let d2 := moveTest i s e ra rp f.index d1
  updDest s e (fun x => { replayTake x f.index with lastAuth := d.tbs.ns, lastFeedback := d.tbs.ns, timedOut := false }) d2

/-- The order of candidates for a missed packet (R289). -/
def triesBefore (d : Dev) (ra rp : Nat) (a b : Nat × Nat) : Bool :=
  let x := dest d a.1 a.2
  let y := dest d b.1 b.2
  let xl := x.learned == (ra, rp)
  let yl := y.learned == (ra, rp)
  (xl && !yl) || (xl == yl && (decide (x.lastAuth < y.lastAuth) ||
    (x.lastAuth == y.lastAuth && (decide (a.1 < b.1) || (a.1 == b.1 && decide (a.2 < b.2))))))

/-- Puts an element into a sorted list. -/
def insertBy {α : Type} (le : α → α → Bool) (x : α) : List α → List α
  | [] => [x]
  | y :: t => if le x y then x :: y :: t else y :: insertBy le x t
/-- Sorts a list; equal elements keep their order. -/
def sortBy {α : Type} (lt : α → α → Bool) : List α → List α
  | [] => []
  | x :: t => insertBy (fun a b => !lt b a) x (sortBy lt t)

/-- A packet that the flow table misses (R289, R290): at most four trials in order. -/
def feedbackMiss (p i la ra lp rp : Nat) (f : RxFrame) (d : Dev) : Dev :=
  let x := pipe d i
  if objNow d 0x1A47 0 ≤ x.tried then exceptFrame p 5 f d
  else
    let d1 := setPipe i { x with tried := x.tried + 1 } d
    let cand := ((sortBy (triesBefore d1 ra rp) (endpointDests d1 la lp)).flatMap (trialsOf d1)).take 4
    match cand.find? fun c => authUnderKey d1 f c.1 c.2.1 c.2.2 with
    | some c =>
      let d2 :=
        if (dest d1 c.1 c.2.1).learned = (ra, rp) then
          objCount 32 0x50E8 i 1 (flowInsert i la ra lp rp (globalNo c.1 c.2.1) d1)
        else d1
      feedbackTaken i c.1 c.2.1 ra rp f d2
    | none =>
      exceptFrame p 4 f (match cand.getLast? with
        | some c => objCount 32 0x50F1 c.1 1 d1
        | none => d1)

/-- A feedback packet (R287, R288). -/
def feedbackFrame (p la ra lp rp : Nat) (f : RxFrame) (d : Dev) : Dev :=
  let i := pipeOf p
  match flowFind d i la ra lp rp with
  | none => feedbackMiss p i la ra lp rp f d
  | some x =>
    let d1 := flowTouch i la ra lp rp (fun y => { y with hit := true, aged := false }) d
    let s := x.g / 64
    let e := x.g % 64
    if authOk d1 f s e then feedbackTaken i s e ra rp f d1 else exceptFrame p 4 f (objCount 32 0x50F1 s 1 d1)

/-- The answer to an ARP request (60 bytes and FCS) or a neighbour solicitation (86 bytes and FCS) leaves in the Control
class (R248). -/
def answerAddr (p addr : Nat) (v6 : Bool) (f : RxFrame) (d : Dev) : Dev :=
  let tags := tagsOf f
  enterClass p 2 { kind := 4, bytes := (if v6 then 90 else 64) + 4 * tags, body := [addr, objNow d 0x1A01 p % 2 ^ 48] } d

/-- FRAME_RECEIVED (R278, R281 to R283). -/
def frameReceived (p : Nat) (f : RxFrame) (d : Dev) : Dev :=
  let i := pipeOf p
  if fld d Reg.pkeIgrCtrl.base 0 1 = 0 || !portPresent d p then d
  else
    let d1 := objCount 64 0x50E0 i 1 d
    match fateOf d p f with
    | .fcs => objCount 32 0x50EF i 1 d
    | .pauseFrame => objCount 32 0x50D3 p 1 d1
    | .cls k => exceptFrame p k f d1
    | .arp a => answerAddr p a false f d1
    | .solicit a => answerAddr p a true f d1
    | .mirror => d1
    | .timing => d1
    | .feedback la ra lp rp => feedbackFrame p la ra lp rp f d1

/-- FRAME_RECEIVED (R281). -/
def execFrameReceived (port : Nat) (f : RxFrame) (now : Nat) (s : State) : Host.Outcome State Fault Refusal :=
  actOn (isPort port) (fun d => frameReceived port f (atTime now d)) s

/-! ## Learning (R292, R293) -/

/-- One record of the learning log: newest first, 32 of 32 bytes. -/
def learnLog (c : Candidate) (out : Nat) (d : Dev) : Dev :=
  let r := c.stamp % 2 ^ 64 + c.g / 64 * 2 ^ 64 + c.g % 64 * 2 ^ 72 + c.pipe * 2 ^ 80 + out * 2 ^ 88 + c.port * 2 ^ 96 +
    c.addr * 2 ^ 112
  objSet 0x1A49 0 (r + objGet d 0x1A49 0 % 2 ^ (8 * 992) * 2 ^ 256) d

/-- The outcome of a candidate (R292): 1 moved, 2 hold-down, 3 conflict, 4 superseded. -/
def moveOutcome (d : Dev) (c : Candidate) : Nat :=
  let s := c.g / 64
  let e := c.g % 64
  let x := dest d s e
  let v := destEntry d s e
  let held := match x.movedAt with
    | some t => decide (t ≤ c.stamp) && decide (c.stamp < t + 1000000)
    | none => false
  if held then 2
  else if (endpointDests d (entrySrc v) (entrySrcPort v)).any fun o => o != (s, e) && (dest d o.1 o.2).learned == (c.addr, c.port)
  then 3
  else if x.st == 0 || x.gen != c.gen then 4
  else 1

/-- A decision is logged, counted and posted (R292). -/
def moveReport (c : Candidate) (out : Nat) (d : Dev) : Dev :=
  let d1 := objCount 32 (if out = 1 then 0x50EC else 0x50ED) 0 1 (learnLog c out d)
  let subj := c.g + c.port * 2 ^ 16
  postTenant (c.g / 64) 4 out 0 subj c.addr (postEvent pfFn 4 out 0 subj c.addr d1)

/-- The move (R293), without the lining's message. -/
def moveDest (c : Candidate) (d : Dev) : Dev :=
  let s := c.g / 64
  let e := c.g % 64
  let v := destEntry d s e
  let old := (dest d s e).learned
  let d1 := updDest s e (fun x => { x with learned := (c.addr, c.port), movedAt := some c.stamp }) d
  flowRemove c.pipe (entrySrc v) old.1 (entrySrcPort v) old.2
    (flowInsert c.pipe (entrySrc v) c.addr (entrySrcPort v) c.port c.g d1)

/-! ## Aging (R287) -/

/-- The next bucket of a pipeline is visited; a lap begins at most once in an interval. -/
def agingVisit (i : Nat) (d : Dev) : Dev :=
  let x := pipe d i
  let start := x.ageNext = 0
  if start && x.ageStart ≠ 0 && decide (d.tbs.ns < x.ageStart + objGet d 0x1A43 0 * 1000000) then d
  else
    let b := x.ageNext
    let l := (tabGet [] x.flows b).map fun f => { f with aged := f.aged || !f.hit, hit := false }
    setPipe i { x with flows := tabPut [] x.flows b l, ageNext := (b + 1) % 4096,
                       ageStart := if start then d.tbs.ns else x.ageStart } d

/-- AGING_VISIT (R287). -/
def execAgingVisit (pipeline now : Nat) (s : State) : Host.Outcome State Fault Refusal :=
  actOn (decide (pipeline < 2)) (fun d => agingVisit pipeline (atTime now d)) s

/-! ## Host commands (R294) -/

/-- The codes of a flow command, in table order. -/
def flowErrs (v : Nat) (d : Dev) : List Err :=
  let s := byteAt v 2
  let e := byteAt v 3
  let x := dest d s e
  let cmd := byteAt v 0
  let pipes := byteAt v 1
  firstOf [((cmd != 1 && cmd != 2) || pipes == 0 || decide (3 < pipes) || bytesAt v 6 2 != 0 || bytesAt v 24 8 != 0 ||
      decide (63 < e), .range),
    (x.st == 0, .state),
    (cmd == 1 && x.learned != (bytesAt v 8 16, bytesAt v 4 2), .conflict),
    (cmd == 1 && [0, 1].any (fun i => bit pipes i && !pipeServes d i (entrySrc (destEntry d s e))), .conflict)]

/-- A flow command is applied (R294). -/
def flowApply (v : Nat) (d : Dev) : Dev :=
  let s := byteAt v 2
  let e := byteAt v 3
  let en := destEntry d s e
  forEach [0, 1] (fun i d =>
    if !bit (byteAt v 1) i then d
    else if byteAt v 0 = 1 then flowInsert i (entrySrc en) (bytesAt v 8 16) (entrySrcPort en) (bytesAt v 4 2) (globalNo s e) d
    else flowRemove i (entrySrc en) (bytesAt v 8 16) (entrySrcPort en) (bytesAt v 4 2) d) d

/-- A write of the flow command object (R294). -/
def flowCommand (q : Req) (v : Payload) (d : Dev) : Dev :=
  perform q 0x1A48 0 (fun d => earned [(v.len != 32, .type)] ++ flowErrs v.val d) (flowApply v.val) d

/-- FLOW_INSERT (R294). -/
def execFlowInsert (q : Req) (v : Payload) (s : State) : Host.Outcome State Fault Refusal := act (flowCommand q v) s
/-- FLOW_REMOVE (R294). -/
def execFlowRemove (q : Req) (v : Payload) (s : State) : Host.Outcome State Fault Refusal := act (flowCommand q v) s

/-- PKE_FLOW_OCC[i]. -/
def flowOcc (d : Dev) (i : Nat) : Nat :=
  let f := (pipe d i).flows
  let n := sumBy (fun b => b.2.length) f
  let fullest := f.foldl (fun a b => max a b.2.length) 0
  n % 65536 + fullest * 2 ^ 16 + min 4095 (f.filter fun b => b.2.length == 8).length * 2 ^ 20

/-- 0x30D1:s: the learned addresses. -/
def learnedAddrs (d : Dev) (s : Nat) : Nat :=
  sumBy (fun e =>
    let x := dest d s e
    let v := destEntry d s e
    if x.st = 0 then 0
    else (x.learned.1 + x.learned.2 * 2 ^ 128 + b2n (x.learned != (entryDst v, entryDstPort v)) * 2 ^ 144) * 2 ^ (160 * e))
    (List.range 64)

end Sys2Proof.Machine
end

