-- ==== Sys2Proof/Machine/Mirror.lean ====
section
/-! DEFINITION. What a device sends on the mirror stream (8: R193 to R198), and the changes of the pair state (R191). -/
namespace Sys2Proof.Machine

/-! ## The pair (R191) -/

/-- Changes the pairing. -/
def setPair (x : Pair) (d : Dev) : Dev := { d with pair := x }
/-- The logical port of the mirror class (0x1404:0). -/
def mirrorPort (d : Dev) : Nat := byteAt (objGet d 0x1404 0) 16
/-- The partner node. -/
def partnerNode (d : Dev) : Nat := objGet d 0x1401 0
/-- The pair enters a state (R191); the fault of MIRROR_DOWN stands while the state lasts (R214). -/
def enterPair (n : Nat) (d : Dev) : Dev :=
  let d1 := setPair { d.pair with st := n, since := d.tbs.ns } d
  if n = 3 then level 1 0x0050 2 (partnerNode d) 0 d1 else levelEnd 1 0x0050 (partnerNode d) d1
/-- 0x140C:0 (R227): safe state, pair disabled, stopping (a reset in progress or a package state other than Run, log 35),
or running. -/
def serviceStatus (d : Dev) : Nat :=
  if d.flt.safe then 1 else if objGet d 0x1400 0 = 0 then 3 else if objGet d 0x1401 0 = 0xFF then 3
  else if d.pwr.resetAt.isSome || d.pwr.state != 0 then 2 else 0

/-! ## Messages (R194, R195) -/

/-- Body bytes of a rate record (R197). -/
def rateBytes (r : RateRec) : Nat :=
  4 * (b2n r.kappa.isSome + b2n r.v.isSome + b2n r.cAvg.isSome + 2 * b2n r.sigma.isSome + b2n r.qPrev.isSome +
    b2n r.states.isSome) + (if r.dests.isEmpty then 0 else 4 + 16 * r.dests.length)
/-- LENGTH of a message: R195 and R197 give those of HEARTBEAT and BAND; the others' fields are counted at 4 and 8 bytes
(log 18). -/
def bodyBytes (m : MirrorMsg) : Nat :=
  if m.ty = 1 then 9
  else if m.ty = 6 then 0x60 + 8 * m.dests.length + rateBytes m.rate + alignUp m.size 4
  else 4 * m.nums.length + 8 * m.objs.length + 8 * m.dests.length + 48 * m.keys.length
/-- The frame that carries it. -/
def mirrorFrame (d : Dev) (m : MirrorMsg) : Nat :=
  18 + (if isMapped (bytesAt (objGet d 0x1404 0) 0 16) then 20 else 40) + 8 + 24 + bodyBytes m + 16
/-- A message leaves on the mirror class, with the epoch and the next COUNTER (R194); without a pair key none does. -/
def sendMirror (m : MirrorMsg) (d : Dev) : Dev :=
  if !d.pair.keyed then d
  else
    let n := d.pair.counter + 1
    let x : MirrorMsg := { m with version := 1, len := bodyBytes m, port := objGet d 0x1403 0, epoch := objGet d 0x1405 0, counter := n }
    let k : Pkt := { kind := 6, bytes := mirrorFrame d x, cost := mirrorFrame d x, body := [m.ty], msg := some x }
    let d1 := setPair { d.pair with counter := n } d
    if m.ty = 1 then enterFirst (mirrorPort d) 3 k d1 else enterClass (mirrorPort d) 3 k d1
/-- The partner's lining slot of a session (0x3091:s). -/
def linkedLining (d : Dev) (s : Nat) : Option Nat := if objGet d 0x3091 s < 256 then some (objGet d 0x3091 s) else none
/-- A sequenced message of a session that has a lining (R196, R198): numbered, sent, kept. -/
def sendSeq (s : Nat) (m : MirrorMsg) (d : Dev) : Dev :=
  match linkedLining d s with
  | none => d
  | some l =>
    let x := sess d s
    let y : MirrorMsg := { m with session := s, lining := l, mseq := x.mseq + 1 }
    sendMirror y (setSess s { x with mseq := x.mseq + 1, kept := x.kept ++ [{ msg := y, sentAt := d.tbs.ns }] } d)
/-- The fixed fields of SESSION_STATE: the state, the stitch, the transport identity, the effective effort (R195, R200, R259; log
121). -/
def stateNums (d : Dev) (s : Nat) : List Nat :=
  let x := sess d s
  [x.st.code, d.tbs.cnt, x.tx.ssrc, x.tx.tsBase, x.tx.next, effortPending d s]
/-- A state change is told to the lining (R195, R196). -/
def tellState (s : Nat) (d : Dev) : Dev := sendSeq s { ty := 7, nums := stateNums d s } d
/-- Is an object of sub-index s one that host software writes (a parameter or a destination entry, R195)? -/
def isParameter (idx : Nat) : Bool :=
  decide (0x3010 ≤ idx) && decide (idx < 0x3180) &&
    match objRowOf idx with
    | some r => r.acc == .rw
    | none => false
/-- The value of an object that the lining is told: a destination entry carries the learned address (R217, R293). -/
def toldValue (d : Dev) (s i : Nat) : Nat :=
  let v := objGet d i s
  let x := dest d s (i - 0x3100)
  if 0x3100 ≤ i && i < 0x3140 && x.st != 0 && bit v 0 then
    putBytes (putBytes v 0x28 16 x.learned.1) 0x16 2 x.learned.2
  else v
/-- Changed objects are told once they are in effect (R196): those at sub-index s whose change no boundary is awaited for. -/
def tellChanges (s : Nat) (d : Dev) : Dev :=
  let x := sess d s
  let due := x.tell.filter fun i => (tabFind x.inForce i).isNone
  if due.isEmpty then d
  else
    let keys := due.filterMap fun i =>
      if 0x3180 ≤ i && i < 0x31C0 then (dest d s (i - 0x3180)).key.map fun k => (i - 0x3180, k.1, k.2) else none
    sendSeq s { ty := 7, nums := stateNums d s, keys := keys,
                objs := (due.filter isParameter).map fun i => (i, toldValue d s i) }
      (setSess s { x with tell := x.tell.filter fun i => !due.contains i } d)
/-- An accepted write is to be told to the lining. -/
def noteChange (s idx : Nat) (d : Dev) : Dev :=
  if (linkedLining d s).isNone then d
  else setSess s { sess d s with tell := ((sess d s).tell.filter fun i => i != idx) ++ [idx] } d
/-- SESSION_OPEN: every parameter object that is not at its default, the destination table, the stream keys (R195). -/
def openMsg (d : Dev) (s : Nat) : MirrorMsg :=
  { ty := 5, nums := stateNums d s,
    objs := (d.objs.filter fun e => e.1 % 256 == s && isParameter (e.1 / 256)).map fun e => (e.1 / 256, toldValue d s (e.1 / 256)),
    dests := (enabledDests d s).map fun e => (e, (dest d s e).tw, (dest d s e).srtcp),
    keys := (enabledDests d s).filterMap fun e => (dest d s e).key.map fun k => (e, k.1, k.2) }
/-- The lining of a session is asked for (R60, R195, R199). -/
def askLining (s : Nat) (d : Dev) : Dev :=
  let p := ((params d s).set 0x301A 0).set 0x3019 (effortPending d s)
  let c := chargesOf d p
  let rate := ceilDiv (p 0x3014 * p 0x3015 * 3600) (chargePeriod p)
  sendMirror { ty := 3, session := s,
               nums := [ownerOf d s, objGet d 0x2052 (ownerOf d s), c.tiles, c.fabric, c.intake, c.quota, p 0x301D, rate] } d
/-- The session ends on the mirror stream (R195). -/
def closeLining (s : Nat) (d : Dev) : Dev :=
  let d1 := sendSeq s { ty := 8 } d
  objReset 0x3090 s (objReset 0x3091 s
    (setSess s { sess d1 s with mseq := 0, tell := [], rateSent := {}, askedAt := none } d1))

/-! ## The rate state record (R186) -/

/-- The least one-way delay kept, in ns (R183). -/
def owdMin (x : Dest) : Int :=
  match x.owd with
  | [] => 0
  | p :: t => t.foldl (fun a q => min a q.2) p.2
/-- The record of a session as it stands; F and σ are of its last frame. -/
def rateRecord (d : Dev) (s : Nat) : RateRec :=
  let x := stream d (liveSid s)
  let f := x.frames.reverse.find? (·.count.isSome)
  { kappa := some x.kappa, v := some x.v, cAvg := x.cAvg,
    sigma := f.map fun g => ((g.budget.getD 0 / 65536).toNat, frameSpend g),
    qPrev := some (qPrev d (liveSid s)), states := some (slotStates x (retained x)),
    dests := (enabledDests d s).map fun e => (e, (dest d s e).rate, owdMin (dest d s e) / 1000, (dest d s e).qdPrev / 2000) }
/-- A field that has changed. -/
def changed? {α : Type} [DecidableEq α] (a b : Option α) : Option α := if a = b then none else a
/-- The fields of a record that changed since another (R197). -/
def rateSince (r old : RateRec) : RateRec :=
  { kappa := changed? r.kappa old.kappa, v := changed? r.v old.v, cAvg := changed? r.cAvg old.cAvg,
    sigma := changed? r.sigma old.sigma, qPrev := changed? r.qPrev old.qPrev, states := changed? r.states old.states,
    dests := r.dests.filter fun e => !old.dests.contains e }
/-- A record updated by the fields of a message. -/
def rateUpdate (r m : RateRec) : RateRec :=
  { kappa := m.kappa.orElse fun _ => r.kappa, v := m.v.orElse fun _ => r.v, cAvg := m.cAvg.orElse fun _ => r.cAvg,
    sigma := m.sigma.orElse fun _ => r.sigma, qPrev := m.qPrev.orElse fun _ => r.qPrev,
    states := m.states.orElse fun _ => r.states,
    dests := (r.dests.filter fun e => !m.dests.any fun f => f.1 == e.1) ++ m.dests }
/-- 0x3084:s: the record's fields in the order of R186, little-endian. -/
def rateState (d : Dev) (s : Nat) : Nat :=
  let r := rateRecord d s
  let g := r.sigma.getD (0, 0)
  let per := r.dests.foldr (fun e a =>
    e.2.1 % 2 ^ 32 + unsigned 32 e.2.2.1 * 2 ^ 32 + e.2.2.2 % 2 ^ 32 * 2 ^ 64 + a * 2 ^ 96) 0
  varVal (26 + 12 * r.dests.length)
    (r.kappa.getD 0 % 2 ^ 32 + unsigned 32 ((r.v.getD 0) / 65536) * 2 ^ 32 + r.cAvg.getD 0 % 2 ^ 32 * 2 ^ 64 +
      g.1 % 2 ^ 32 * 2 ^ 96 + unsigned 32 (g.2 / 65536) * 2 ^ 128 + unsigned 16 (r.qPrev.getD 0) * 2 ^ 160 +
      r.states.getD 0 % 2 ^ 32 * 2 ^ 176 + per * 2 ^ 208)

/-! ## Bands (R197) -/

/-- The RTP timestamp of a frame (R259). -/
def rtpTs (d : Dev) (s frameStitch : Nat) : Nat := ((sess d s).tx.tsBase + 25 * frameStitch) % 2 ^ 32
/-- The BAND message of a band whose packets are queued (R27, R197). -/
def mirrorBand (s : Nat) (start : Nat) (b : Band) (first count : Nat) (dests : List Nat) (d : Dev) : Dev :=
  if (linkedLining d s).isNone then d
  else
    let now := rateRecord d s
    let diff := rateSince now (sess d s).rateSent
    sendSeq s
      { ty := 6, nums := [first % 65536, count, first / 65536, rtpTs d s start, start],
        dests := (dests.filter fun e => bit (destEntry d s e) 2).map fun e => (e, (dest d s e).tw, (dest d s e).srtcp),
        record := b.record, rate := diff, size := b.size, data := b.data, units := b.units }
      (setSess s { sess d s with rateSent := now } d)

/-! ## Frames of addresses (R218, R248) -/

/-- An announcement of an address: ARP, or an unsolicited neighbour advertisement (R218); log 18 for its bytes. -/
def announce (p a : Nat) (d : Dev) : Dev :=
  let n := if isMapped a then 64 else 90
  enterClass p 2 { kind := 5, bytes := n, cost := n, data := a } d

end Sys2Proof.Machine
end

