-- ==== Sys2Proof/Machine/Votes.lean ====
section
/-! DEFINITION. Power domains and their votes (20: R489 to R496). -/
namespace Sys2Proof.Machine

/-! ## Domains -/

/-- A domain beside its state of power. -/
def domAt (d : Dev) (k : Nat) : Dom := tabGet {} d.pwr.doms k
/-- Changes a domain. -/
def setDom (k : Nat) (x : Dom) (d : Dev) : Dev := { d with pwr := { d.pwr with doms := tabPut {} d.pwr.doms k x } }
/-- Is the domain at power-good? A tile keeps it in its own record. -/
def domOn (d : Dev) (k : Nat) : Bool := if k < 96 then (tile d k).on else (domAt d k).on
/-- The domain's power goes on or off. -/
def setOn (k : Nat) (v : Bool) (d : Dev) : Dev :=
  if k < 96 then updTile k (fun x => { x with on := v }) d else setDom k { domAt d k with on := v } d
/-- The parent of a domain (R489). -/
def parentOf (k : Nat) : Option Nat :=
  if k < 96 then some (116 + k / 12) else if k < 112 then some (116 + 2 * ((k - 96) / 4)) else none
/-- The children of a domain. -/
def childrenOf (k : Nat) : List Nat := (List.range 112).filter fun c => parentOf c == some k
/-- Power-good after the first vote, in ns (R489). -/
def goodBound (k : Nat) : Nat :=
  if k < 96 then 15000 else if k < 112 then 50000 else if k < 114 then 100000 else if k < 116 then 200000 else 20000
/-- Has the domain pads that are held when it is off (R489)? -/
def hasPads (k : Nat) : Bool := (decide (96 ≤ k) && decide (k < 116)) || k == 127
/-- Are the pads of a domain held? A channel's latch is the one of DMC_CHAN_CTRL (R493). -/
def padsHeld (d : Dev) (k : Nat) : Bool :=
  if 96 ≤ k ∧ k < 112 then (chan d (k - 96)).padHeld else (domAt d k).padHeld
/-- The pad latch takes a value. -/
def setPads (k : Nat) (v : Bool) (d : Dev) : Dev :=
  if 96 ≤ k ∧ k < 112 then setChan (k - 96) { chan d (k - 96) with padHeld := v } d
  else setDom k { domAt d k with padHeld := v } d

/-! ## Votes (R490, R491, R495) -/

/-- The state whose votes the package casts: the one in force, or the one being entered. -/
def votedState (d : Dev) : Nat := if d.pwr.busy then d.pwr.entering else d.pwr.state
/-- Is an Ethernet port, A or B, kept for wake (0x1C08:0)? -/
def wakePort (d : Dev) (ab : Nat) : Bool := bits (objGet d 0x1C08 0) (4 * ab) 4 != 0
/-- The package vote of a state (R495); until firmware has powered the other domains only domain 127 has one (R513), and
none after a failed image check (R514). -/
def packageVote (d : Dev) (k : Nat) : Bool :=
  let st := votedState d
  if k = 127 then st != 3 && !d.pwr.imageFail && !d.pwr.aonDown && !d.pwr.porLow
  else if !d.pwr.others || d.pwr.imageFail then false
  else if k < 96 then false
  else if k < 112 then
    let c := chanState d (k - 96)
    st == 0 && c != 0 && c != 6 && c != 7
  else if k < 114 then portConfig d (k - 112) != 2 && st != 3
  else if k < 116 then
    bits (objNow d 0x1A00 0) (2 * (k - 114)) 2 != 0 && (decide (st < 2) || wakePort d (k - 114))
  else if k = 124 then true
  else if k = 126 then st == 0
  else decide (st < 2)
/-- The host's vote (R490): in Run and Doze, and in every state for a PCIe port; a retired tile, a reserved spare (R31) or a
channel that is off or failed stays off. -/
def hostVote (d : Dev) (k : Nat) : Bool :=
  bit (objNow d 0x1211 0) k && (decide (votedState d < 2) || k == 112 || k == 113) && d.pwr.others &&
    !(decide (k < 96) && ((tile d k).retired || (tile d k).spare)) &&
    !(decide (96 ≤ k) && decide (k < 112) && (chanState d (k - 96) == 6 || chanState d (k - 96) == 7))
/-- Firmware's vote (R490): channels of a pair that is resilvering. -/
def firmwareVote (d : Dev) (k : Nat) : Bool :=
  decide (96 ≤ k) && decide (k < 112) && pairState d ((k - 96) / 2) == 3
/-- The Loom's vote for a tile, as computed last (R491): in Run only. -/
def loomVote (d : Dev) (k : Nat) : Bool :=
  decide (k < 96) && (tile d k).vote && votedState d == 0 && d.pwr.others && !d.pwr.imageFail
/-- The votes for a domain, as in PWR_DOM_STAT (R490). -/
def votesFor (d : Dev) (k : Nat) : Nat :=
  b2n (firmwareVote d k) + b2n (packageVote d k) * 2 + b2n (loomVote d k) * 4 + b2n (hostVote d k) * 8
/-- Is the implicit vote held (R489)? -/
def childVote (d : Dev) (k : Nat) : Bool :=
  (childrenOf k).any fun c => domOn d c || (domAt d c).moving.isSome ||
    (!(domAt d c).ignored && (votesFor d c != 0 || (decide (96 ≤ c) && (chan d (c - 96)).waits)))
/-- Should the domain be on? A request that waits at a channel has it powered too (R315), and a frozen channel keeps its domain
on (R318). -/
def wanted (d : Dev) (k : Nat) : Bool :=
  !(domAt d k).ignored && (votesFor d k != 0 || childVote d k ||
    (decide (96 ≤ k) && decide (k < 112) && ((chan d (k - 96)).waits || chanState d (k - 96) == 5)))
/-- Does a part lie on the tile? -/
def Tile.holds (x : Tile) : Bool := x.cur.isSome || x.nxt.isSome || x.awaits.isSome
/-- The tiles that R491 votes for under policy 0. -/
def voteCandidates (d : Dev) : List Nat :=
  (List.range 96).filter fun t => let x := tile d t; !x.spare && !x.retired && !(domAt d t).ignored
/-- The Loom's votes under the tile power policy (R491). -/
def loomVotes (d : Dev) : List Nat :=
  let all := voteCandidates d
  if objGet d 0x1212 0 = 0 then all
  else
    let others := all.filter fun t => !(tile d t).holds
    (all.filter fun t => (tile d t).holds) ++ others.take (ceilDiv (tilesCharged d 256) 1000 + objGet d 0x1213 0)
/-- The Loom recomputes its votes at a stitch (R491). -/
def recomputeVotes (d : Dev) : Dev :=
  let on := loomVotes d
  forEach (List.range 96) (fun t d => updTile t (fun x => { x with vote := on.contains t }) d) d

/-! ## Transitions (R489, R492) -/

/-- May the domain go off now: a tile only through TILE_IDLE_OFF, a channel at stage 3 or when it is of no use, a parent
after its children (the implicit vote), domain 127 last (R489 to R491, R497). -/
def mayGoOff (d : Dev) (k : Nat) : Bool :=
  if k < 96 then (tile d k).retired
  else if k < 112 then
    let c := chanState d (k - 96)
    ((chan d (k - 96)).stage == 3 && c == 4) || c == 0 || c == 6 || c == 7
  else if k = 127 then
    (List.range 127).all (fun j => wanted d j || !domOn d j) && d.tbs.sleeping
  else true
/-- A domain's step begins at `now` if one is due and none is in progress. -/
def startStep (now k : Nat) (d : Dev) : Dev :=
  let x := domAt d k
  if x.moving.isSome then d
  else if wanted d k && !domOn d k then
    if ((parentOf k).map (domOn d)).getD true then setDom k { x with moving := some (true, now) } d else d
  else if !wanted d k && domOn d k && mayGoOff d k then setDom k { x with moving := some (false, now) } d
  else d
/-- The stage of self-refresh that the votes ask of a channel (R490, R314). -/
def stageGoal (d : Dev) (c : Nat) : Nat :=
  if wanted d (96 + c) then 0 else if votedState d < 2 then 1 else votedState d
/-- The power controller acts on the votes as they stand (R489 to R492); it takes no further step in the safe state
(R498). -/
def powerSettle (now : Nat) (d : Dev) : Dev :=
  if d.flt.safe || d.pwr.porLow || d.pwr.aonDown then d
  else
    let d1 := forEach ((List.range 16).filter fun c => chanState d c == 3 || chanState d c == 4)
      (fun c d => setChan c { chan d c with goal := stageGoal d c } d) d
    forEach (List.range 128) (startStep now) d1

/-! ## The package state (R496 to R499) -/

/-- The effective target: Run while the wake latch is set, the requested state otherwise (R496). -/
def packageTarget (d : Dev) : Nat := if d.pwr.latch then 0 else objGet d 0x1200 0
/-- The instant by which a bound runs: T, and in Sleep, where T stands still, T_e with the counter's time (R508, R509). -/
def powerNow (now : Nat) (d : Dev) : Nat :=
  if d.tbs.sleeping then d.tbs.sleepT + d.tbs.sleepN * 30517578125 / 1000000 else now
/-- A transition begins when the effective target is not the state in force (R497); it leaves alignment at Free-running on entry
to Standby or Sleep (R506). -/
def evalPackage (now : Nat) (d : Dev) : Dev :=
  let t := packageTarget d
  if d.pwr.busy || t == d.pwr.state || d.flt.safe then powerSettle now d
  else
    let d1 := { d with
      pwr := { d.pwr with busy := true, entering := t, since := powerNow now d, late := false, again := false }
      tbs := if 2 ≤ t then { d.tbs with align := 0, goodSyncs := 0, badSyncs := 0 } else d.tbs }
    powerSettle now d1
/-- A wake event sets the latch if its source is enabled and the package is outside Run, or leaving it (R498, R499): `src` is the
bit of R499. -/
def setWake (src now : Nat) (d : Dev) : Dev :=
  if bit (objGet d 0x1214 0) src && (d.pwr.state != 0 || (d.pwr.busy && d.pwr.entering != 0)) then
    evalPackage now { d with pwr := { d.pwr with latch := true, lastWake := 2 ^ src } }
  else d

/-! ## Registers -/

/-- PWR_DOM_STAT[k] (R489 to R494). -/
def domStat (d : Dev) (k : Nat) : Nat :=
  let x := domAt d k
  let pend := match x.moving with
    | none => false
    | some (up, _) => up != wanted d k
  b2n (domOn d k) + b2n (padsHeld d k) * 2 + b2n pend * 4 + b2n x.blocked * 8 + votesFor d k * 16 + b2n (childVote d k) * 256 +
    min x.powerOns 65535 * 2 ^ 16
/-- PWR_PAD_HELD. -/
def padHeldReg (d : Dev) : Nat :=
  sumBy (fun i => b2n (padsHeld d (96 + i)) * 2 ^ i) (List.range 20) + b2n (padsHeld d 127) * 2 ^ 20

end Sys2Proof.Machine
end

