-- ==== Sys2Proof/Machine/Failure.lean ====
section
/-! DEFINITION. What failures do to sessions, linings and tiles (2: R55, R56; 8: R201, R205 to R213, R220, R223 to R225). -/
namespace Sys2Proof.Machine

/-! ## Sessions -/

/-- A session event of a state change (R56, R385): from `old`, with the operator's bit. -/
def postState (s : Nat) (old : SessSt) (operator : Bool) (d : Dev) : Dev :=
  let x := sess d s
  postTenant s 1 1 0 s (old.code + x.st.code * 2 ^ 8 + x.cause * 2 ^ 16 + b2n operator * 2 ^ 24) d

/-- A splice ends: the next band 0 accepted opens its frame as after RESUME (R241, R385). -/
def endSplice (s : Nat) (d : Dev) : Dev :=
  let x := sess d s
  match x.splice with
  | none => if x.splicePend.isSome then setSess s { x with splicePend := none } d else d
  | some e =>
    postTenant s 1 9 0 s e
      (setSess s { x with splice := none, splicePend := none, spliceLoop := false, spliceNext := 0, spliceEnd := 0,
                          lastNumber := if x.spliceEnd = 2 then x.lastNumber else none } d)

/-- A frame that lost a part cannot complete: it and the frames after it are dropped, and what was started of them is
lost (R55: the stream stops at the last complete frame). -/
def dropFrames (sid c : Nat) (d : Dev) : Dev :=
  let x := stream d sid
  let gone := x.frames.filterMap fun f => match f.count with
    | some k => if c ≤ k then some k else none
    | none => none
  let stays := fun f : Frame => match f.count with
    | some k => decide (k < c)
    | none => true
  let d1 := setStream sid { x with
    frames := x.frames.filter stays
    past := keepSpend (x.frames.filter fun f => !stays f) x.past } d
  forEach gone (markLost sid) d1

/-- A session is suspended with a cause, at the stitch of detection (R51, R53, R55, R56, R100, R241). -/
def suspend (s cause : Nat) (d : Dev) : Dev :=
  let x := sess d s
  if d.flt.safe then d
  else if x.st = .suspended && cause = 5 then tellState s (setSess s { x with cause := 5, pend := 0 } d)
  else if x.st = .running || x.st = .paused then
    let d1 := dropUndispatched s (endSplice s d)
    let d2 := setSess s { sess d1 s with st := .suspended, cause := cause, pend := 0 } d1
    tellState s (pulse 1 0x0013 2 s cause (postState s x.st false d2))
  else d

/-! ## Linings (R201) -/

/-- LINING_STATE (R195): state, cause, refresh request, and what a mismatch adds. -/
def sendLinState (l : Nat) (refresh : Bool) (more : List Nat) (d : Dev) : Dev :=
  let r := refresh && !(lining d l).quiet
  let d1 := if r then objCount 32 0x5084 l 1 d else d
  sendMirror { ty := 10, session := objGet d 0x4001 l, lining := l,
               nums := [linState d l, objGet d 0x4007 l, b2n r] ++ more } d1
/-- A lining event to the physical function and the tenant (R385). -/
def postLining (l kind detail : Nat) (d : Dev) : Dev :=
  let d1 := postEvent pfFn 5 kind 0 l detail d
  if kind = 1 && decide (linTenant d l < 256) then postEvent (linTenant d l) 5 kind 0 l detail d1 else d1
/-- A lining changes its state with a cause (R201, R228). -/
def linChange (l new cause : Nat) (d : Dev) : Dev :=
  let old := linState d l
  postLining l 1 (old + new * 2 ^ 8 + cause * 2 ^ 16) (objSet 0x4007 l cause (objSet 0x4000 l new d))
/-- An IN_STEP lining is DEGRADED, and asks for a refresh (R201, R202). -/
def degradeLining (l cause : Nat) (d : Dev) : Dev :=
  if linState d l = 2 then sendLinState l true [] (linChange l 3 cause d) else d
/-- Frames that are done leave the list; their spend is kept (R96, R168). -/
def retireFrames (sid : Nat) (done : Frame → Bool) (d : Dev) : Dev :=
  let x := stream d sid
  let gone := x.frames.filter fun f => f.count.isSome && done f
  let past := gone.foldl (fun p f =>
    tabUpd {} p (f.count.getD 0) fun q => { q with spend := frameSpend f, spliced := f.spliced, whole := true }) x.past
  let keep := retained x
  setStream sid { x with frames := x.frames.filter fun f => !(f.count.isSome && done f),
                         past := tabFilter (fun k => decide (x.count ≤ k + 1024) || keep.contains k) past } d
/-- A frame of a lining is complete: an anchor frame that matched brings IN_STEP; the third that did not is a fault (R201,
R202). -/
def liningFrameDone (l : Nat) (f : Frame) (d : Dev) : Dev :=
  let c := f.count.getD 0
  let st := linState d l
  let hold := fun d : Dev => updLining l (fun x => { x with held := x.held.filter (fun k => decide (c ≤ k + 4096)) ++ [c] }) d
  let d0 := retireFrames (liningSid l) (fun g => g.bands.all (·.collected)) d
  if st = 2 then (if f.invalid then d0 else hold d0)
  else if (st = 1 || st = 3) && isAnchorFrame f then
    if !f.invalid then sendLinState l false [] (objSet 0x4008 l 0 (linChange l 2 0 (hold d0)))
    else if st = 1 then
      let n := min 3 (objGet d0 0x4008 l + 1)
      let d1 := objSet 0x4008 l n d0
      if n = 3 && !(lining d1 l).quiet then pulse 1 0x0053 2 l 0 (updLining l (fun x => { x with quiet := true }) d1)
      else sendLinState l true [] d1
    else sendLinState l true [] d0
  else d0
/-- The most recent reconstruction that a lining has or is making before frame `c` (R202). -/
def latestRecon (d : Dev) (sid c : Nat) : Option Nat :=
  let x := stream d sid
  (((x.recons.map (·.1)) ++ x.frames.filterMap (·.count)).filter fun k => decide (k < c)).foldl
    (fun a k => some (max k (a.getD 0))) none
/-- A band of a lining that no tile decodes takes the co-located rows of the most recent reconstruction (R202). -/
def concealBand (sid c b : Nat) (d : Dev) : Dev :=
  match (latestRecon d sid c).bind fun k => bandRecon d sid k b with
  | some r => writeRecon sid c b r.samples [] d
  | none => d
/-- A band that is not decoded. -/
def lostBand : Band := { st := 1, noTile := true, closed := true, written := true, collected := true, released := true }
/-- A frame of a lining is done if every band of it is collected. -/
def liningDoneAt (l c : Nat) (d : Dev) : Dev :=
  match frameAt d (liningSid l) c with
  | none => d
  | some f => if f.bands.all (·.collected) then liningFrameDone l f d else d
/-- A band of a lining is lost with the tile that decoded it: the frame goes on without it (R201, R202). -/
def loseLinBand (l c b : Nat) (d : Dev) : Dev :=
  let sid := liningSid l
  liningDoneAt l c (updFrame sid c (fun f => { f with invalid := true })
    (updBand sid c b (fun _ => lostBand) (concealBand sid c b d)))
/-- A lining returns to IDLE: its reservations and its standby slot are released (R201, R228). -/
def freeLining (l : Nat) (d : Dev) : Dev :=
  let t := linTenant d l
  let s := linStandby d l
  let old := linState d l
  let d1 := releaseUse (fun u => u.lining? == some l) d
  let d2 := setStream (liningSid l) {} (setLining l {}
    { d1 with linPrm := tabFilter (fun k => k / 65536 != l) d1.linPrm })
  let d3 := if s < 256 && old ≠ 4 then setSess s { sess d2 s with window := none } d2 else d2
  let d4 := forEach [0x4000, 0x4001, 0x4002, 0x4003, 0x4004, 0x4005, 0x4007, 0x4008] (fun i d => objReset i l d) d3
  let d5 := postEvent pfFn 5 1 0 l old d4
  if t < 256 then postEvent t 5 1 0 l old d5 else d5

/-! ## The ladder (R211 to R213) -/

/-- A bit of the failover arms in force (R225, R227). -/
def isArmed (d : Dev) (k : Nat) : Bool := bit (objNow d 0x1440 0) k
/-- The tile charge of an own session at an effort, its Mezzanine encode apart (R58, R211). -/
def tilesAt (d : Dev) (s e : Nat) : Nat := (chargesOf d (((params d s).set 0x301A 0).set 0x3019 e)).tiles
/-- The effort a session is charged at, with so many further steps. -/
def stepped (d : Dev) (steps : List Nat) (s : Nat) : Nat := effortPending d s - (steps.filter (· == s)).length
/-- Can the ladder step the session one faster (R211)? -/
def canStep (d : Dev) (steps : List Nat) (s : Nat) : Bool :=
  let x := sess d s
  objGet d 0x3010 s == 0 && (x.st == .running || x.st == .paused || x.st == .suspended) &&
    decide (objNow d 0x1460 (objGet d 0x301D s) < stepped d steps s)
/-- Is session a picked before session b: higher priority number, slower effort, higher slot (R211)? -/
def pickBefore (d : Dev) (steps : List Nat) (a b : Nat) : Bool :=
  let pa := objGet d 0x301D a
  let pb := objGet d 0x301D b
  let ea := stepped d steps a
  let eb := stepped d steps b
  if pa ≠ pb then decide (pb < pa) else if ea ≠ eb then decide (eb < ea) else decide (b < a)
/-- The session picked for the next step. -/
def pickStep (d : Dev) (steps : List Nat) : List Nat → Option Nat
  | [] => none
  | s :: t =>
    let r := pickStep d steps t
    if canStep d steps s then
      match r with
      | none => some s
      | some u => if pickBefore d steps s u then some s else some u
    else r
/-- The steps that cover a shortfall, oldest first; none if the ladder cannot (R211). -/
def ladderSteps (d : Dev) : Nat → Int → List Nat → Option (List Nat)
  | 0, _, _ => none
  | fuel + 1, short, steps =>
    if short ≤ 0 then some steps
    else
      match pickStep d steps (tabKeys d.sess) with
      | none => none
      | some s =>
        let e := stepped d steps s
        ladderSteps d fuel (short - ((tilesAt d s e : Int) - tilesAt d s (e - 1))) (steps ++ [s])
/-- Charges with fewer tiles. -/
def Charges.lessTiles (c : Charges) (n : Nat) : Charges := { c with tiles := c.tiles - n }
/-- Charges with more tiles. -/
def Charges.moreTiles (c : Charges) (n : Nat) : Charges := { c with tiles := c.tiles + n }
/-- One step is taken: posted and counted; its charge counts from now, its effort from the next frame boundary (R211). -/
def takeStep (s : Nat) (d : Dev) : Dev :=
  let e := effortPending d s
  let n := tilesAt d s e - tilesAt d s (e - 1)
  let x := sess d s
  let d1 := setSess s { x with charges := x.charges.lessTiles n, newCharges := x.newCharges.map (·.lessTiles n) } d
  noteChange s 0x3019 (objCount 32 0x509B 0 1 (postTenant s 1 6 0 s (e + (e - 1) * 2 ^ 8)
    { d1 with ladder := tabPut 0 d1.ladder s (tabGet 0 d1.ladder s + 1) }))
/-- The ladder covers a shortfall, or does nothing. -/
def runLadder (short : Int) (d : Dev) : Option Dev :=
  (ladderSteps d 1024 short []).map fun l => forEach l takeStep d
/-- Restoration at a boundary: the stepped session of lowest priority number, then lowest slot, if it fits (R212). -/
def restoreLadder (d : Dev) : Dev :=
  if !isArmed d 3 then d
  else
    let best := d.ladder.foldl (fun a e => match a with
      | none => some e.1
      | some b => if objGet d 0x301D e.1 < objGet d 0x301D b then some e.1 else a) (none : Option Nat)
    match best with
    | none => d
    | some s =>
      let e := effortPending d s
      let n := tilesAt d s (e + 1) - tilesAt d s e
      if tilesCharged d 256 + n + 1000 ≤ tileLimit d then
        let x := sess d s
        noteChange s 0x3019 (setSess s
          { x with charges := x.charges.moreTiles n, newCharges := x.newCharges.map (·.moreTiles n) }
          { d with ladder := tabPut 0 d.ladder s (tabGet 0 d.ladder s - 1) })
      else d

/-! ## Handover offers (R220, R221, R223) -/

/-- Does another session outside FREE and DEFINED use a source address of session s (R220)? -/
def sharesSource (d : Dev) (s : Nat) : Bool :=
  let mine := (enabledDests d s).map fun e => entrySrc (destEntry d s e)
  d.sess.any fun y => y.1 != s && y.2.st != .free && y.2.st != .defined &&
    (enabledDests d y.1).any fun e => mine.contains (entrySrc (destEntry d y.1 e))
/-- Are the pair and the lining as R220 asks? -/
def pairFit (d : Dev) (s : Nat) : Bool :=
  d.pair.st == 2 && objGet d 0x3090 s == 3 && (sess d s).st == .running && d.pair.offer.isNone
/-- HANDOVER_OFFER is sent and stands for 2 ms (R220). -/
def offerHandover (o : Offer) (d : Dev) : Dev :=
  sendMirror { ty := 11, session := o.s, lining := objGet d 0x3091 o.s, nums := [o.s, effortPending d o.s] }
    (setPair { d.pair with offer := some { o with deadline := d.tbs.ns + 2000000 } } d)

/-! ## Tile failure (R205 to R208, R223, R224) -/

/-- The part goes back to the next pass, with its readiness stitch kept (R81, R207). -/
def returnPart (j : Job) (d : Dev) : Dev := updPart j (fun p => { p with assigned := false, coded := false }) d
/-- The lowest-numbered reserved spare. -/
def firstSpare (d : Dev) : Option Nat := (List.range 96).find? fun t => (tile d t).spare && !(tile d t).retired
/-- A reserved spare leaves the reserve, its domain is turned on, and it is to carry the part (R206, R465). -/
def activateSpare (t : Nat) (j : Job) (d : Dev) : Dev :=
  powerSettle d.tbs.ns
    (updTile t (fun x => { x with spare := false, spareSeen := false, vote := true, boot := 0, awaits := some j }) d)
/-- The part is lost with its session or lining (R207, R208). -/
def losePart (j : Job) (cause : Nat) (d : Dev) : Dev :=
  if isLining j.stream then loseLinBand (j.stream - 512) j.frame j.band (degradeLining (j.stream - 512) 5 d)
  else dropFrames j.stream j.frame (suspend (slotOf j.stream) cause d)
/-- The shortfall after a failure, in thousandths of a tile (R207). -/
def shortfall (d : Dev) : Int := (tilesCharged d 256 : Int) - tileLimit d
/-- The affected part is handled under the arms in force (R206 to R208). -/
def recoverPart (j : Job) (d : Dev) : Dev :=
  if isArmed d 0 then
    match firstSpare d with
    | some t => activateSpare t j d
    | none =>
      if shortfall d ≤ 0 then returnPart j d
      else
        match (if isArmed d 2 then runLadder (shortfall d) d else none) with
        | some d1 => returnPart j d1
        | none => losePart j 3 d
  else
    let d1 := losePart j 1 d
    if 0 < shortfall d1 then pulse 1 0x0012 2 (shortfall d1).toNat 0 d1 else d1
/-- The affected part hits its session: a second hit within 8 stitches escalates if that is armed (R223, R224). -/
def hitPart (t : Nat) (j : Job) (d : Dev) : Dev :=
  if isLining j.stream then recoverPart j d
  else
    let s := slotOf j.stream
    let n := d.tbs.cnt
    let again := match (sess d s).lastHit with
      | none => false
      | some m => decide (n ≤ m + 8)
    let d1 := setSess s { sess d s with lastHit := some n } d
    if again && isArmed d 4 && pairFit d s && !sharesSource d s then
      offerHandover { s := s, hit := some (t, j) } d1
    else recoverPart j d1
/-- Is the part still one that the Loom waits for? -/
def partWanted (d : Dev) (j : Job) : Bool := (frameAt d j.stream j.frame).isSome && !(partAt d j).collected
/-- A tile stops (R81, R205, R210): nothing more is placed on it, its next part goes back, its current part is affected. -/
def tileStops (t : Nat) (d : Dev) : Dev :=
  let x := tile d t
  let d1 := updTile t (fun y => { y with nxt := none, latch := [], loads := false }) d
  let d2 := match x.nxt with
    | none => d1
    | some j => returnPart j d1
  let d3 := { d2 with loom := { d2.loom with closing := d2.loom.closing.filter fun r => r.2.1 != t } }
  match x.cur with
  | none => d3
  | some j => if partWanted d3 j then hitPart t j d3 else d3
/-- A tile has failed, which is counted (R81, R205). -/
def tileFails (t : Nat) (d : Dev) : Dev := tileStops t (objCount 16 0x5091 t 1 d)
/-- SUBJECT and INFO of a tile's part: slot, band, part (R472). -/
def jobInfo (j : Job) : Nat := slotOf j.stream + j.band * 2 ^ 8 + j.part * 2 ^ 16 + b2n (isLining j.stream) * 2 ^ 24
/-- The part in flight on a tile, as INFO. -/
def tileInfo (x : Tile) : Nat := (x.cur.map jobInfo).getD 0
/-- The count of mismatches of a tile reaches the threshold: it is held in containment (R205). -/
def countMismatch (t : Nat) (d : Dev) : Dev :=
  let d1 := objCount 16 0x5090 t 1 d
  let lim := objNow d 0x1443 0
  if lim ≠ 0 && lim ≤ objGet d1 0x5090 t && !(tile d1 t).gone then
    tileFails t (updTile t (fun x => { x with contained := true }) d1)
  else d1

end Sys2Proof.Machine
end

