-- ==== Sys2Proof/Machine/Tools.lean ====
section
/-! DEFINITION. What each effort and codec uses (5: R120 to R123; 6: R136 to R138, R140), and the mode decision. Block sizes are
columns and rows of luma; intra modes have the numbers of their standards (log 115). -/
namespace Sys2Proof.Machine

/-! ## The effort table (R120) -/

/-- Active references: the primary, and the secondary at Fine and Deep. -/
def activeRefs (effort : Nat) : Nat := if 2 ≤ effort then 2 else 1
/-- The coarse range in full-pel columns and rows around the best seed; none: the whole window. -/
def coarseRange (effort ref : Nat) : Option (Nat × Nat) :=
  if ref = 1 then some (384, 32) else if effort = 0 then some (64, 32) else if effort = 1 then some (192, 96) else none
/-- M: positions carried to the fine search. -/
def seedsCarried (effort : Nat) : Nat := effort + 1
/-- The fine range around each position. -/
def fineRange (effort : Nat) : Nat := if effort = 0 then 2 else if effort = 1 then 4 else if effort = 2 then 8 else 16
/-- The sub-pel steps in eighths of a sample: half, quarter, and eighth for AV1 at Deep. -/
def subSteps (av1 : Bool) (effort : Nat) : List Nat :=
  if effort = 0 then [4] else if av1 && effort == 3 then [4, 2, 1] else [4, 2]
/-- The samples that the interpolation filter reaches before and after a place (R121): 8 taps, in AVC 6. -/
def filterTaps (avc : Bool) : Nat × Nat := if avc then (2, 3) else (3, 4)

/-! ## Block sizes, modes and transforms (R120 to R122, R137) -/

/-- Is it a square block of side lo to hi? -/
def square (w h lo hi : Nat) : Bool := w == h && decide (lo ≤ w) && decide (w ≤ hi) && [4, 8, 16, 32, 64].contains w
/-- Is one side n times the other, the longer one at most 64 and the shorter at least lo? -/
def oblong (w h n lo : Nat) : Bool :=
  (w == n * h || h == n * w) && decide (max w h ≤ 64) && decide (lo ≤ min w h) && [8, 16, 32, 64].contains (max w h)
/-- The inter block sizes that an effort evaluates (R120, R121); AMP gives a quarter or three quarters of a side. -/
def interSize (codec effort w h : Nat) : Bool :=
  if isAvc codec then
    (w == 16 && h == 16) || (decide (1 ≤ effort) && ((w == 16 && h == 8) || (w == 8 && h == 16))) ||
      (decide (2 ≤ effort) && w == 8 && h == 8) ||
      (effort == 3 && ((w == 8 && h == 4) || (w == 4 && h == 8) || (w == 4 && h == 4)))
  else if effort = 0 then square w h 16 32
  else
    square w h 8 64 || (decide (2 ≤ effort) && oblong w h 2 (if isAv1 codec then 8 else 4)) ||
      (effort == 3 && (oblong w h 4 (if isAv1 codec then 8 else 4) ||
        (isHevc codec && (4 * w == 3 * h || 4 * h == 3 * w) && [8, 16, 32, 64].contains (max w h))))
/-- The intra block sizes (R120, R122). -/
def intraSize (codec effort w h : Nat) : Bool :=
  if isAvc codec then
    square w h 16 16 || (decide (1 ≤ effort) && square w h 4 4) || (codec == 5 && decide (2 ≤ effort) && square w h 8 8)
  else if effort = 0 then square w h 16 32
  else square w h 8 64 || (isHevc codec && effort == 3 && square w h 4 4)
/-- The intra modes that an effort tries (R120, R122). AV1: 0 DC, 1 V, 2 H, 3 to 8 the other directions, 9 SMOOTH, 10 SMOOTH_V,
11 SMOOTH_H, 12 PAETH, 16 and above an angle delta or filter intra. HEVC: 0 planar, 1 DC, 2 to 34 angular. AVC: 16 × 16: 0 V,
1 H, 2 DC, 3 plane; smaller blocks: 0 to 8. -/
def intraMode (codec effort w m : Nat) : Bool :=
  if isAv1 codec then
    if effort = 0 then [0, 1, 2, 9].contains m else if effort = 1 then decide (m ≤ 9) else if effort = 2 then decide (m ≤ 12)
    else decide (m < 128)
  else if isHevc codec then
    if effort = 0 then [0, 1, 10, 26].contains m
    else if effort = 1 then [0, 1].contains m || (decide (m ≤ 34) && m % 4 == 2) else decide (m ≤ 34)
  else if w = 16 then decide (m ≤ 3) else decide (m ≤ 8)
/-- The transforms of an effort (R137): levels of split, and type. AV1 types: 0 DCT_DCT, 1 ADST_DCT, 2 DCT_ADST, 3 ADST_ADST,
others to 15; HEVC: 0 DCT, 1 DST-VII, 2 transform skip; AVC: 0 4 × 4, 1 8 × 8. -/
def txAllowed (codec effort : Nat) (inter : Bool) (side split type : Nat) : Bool :=
  if isAv1 codec then
    decide (split ≤ if effort = 0 then 0 else if effort = 1 then 1 else 2) &&
      (type == 0 || (decide (side ≤ 16) && decide (type ≤ if effort = 0 then 0 else if effort = 1 then 3 else 15)))
  else if isHevc codec then
    decide (split ≤ effort) && (type == 0 || (type == 1 && !inter && side == 4) || (type == 2 && effort == 3 && side == 4))
  else split == 0 && (type == 0 || (type == 1 && codec == 5 && decide (2 ≤ effort)))
/-- May an encoder's block be predicted from both references (R121)? -/
def compoundAllowed (codec effort w h : Nat) : Bool :=
  !isAvc codec && decide (2 ≤ effort) && decide (12 < w + h)
/-- Is a candidate one that the effort evaluates (R120 to R122, R137)? -/
def candidateAllowed (codec effort : Nat) (c : Cand) : Bool :=
  txAllowed codec effort c.inter (min c.w c.h) c.txSplit c.txType &&
    if c.inter then
      interSize codec effort c.w c.h && decide (c.ref ≤ 2) && (c.ref == 0 || decide (2 ≤ effort)) &&
        (c.ref != 2 || compoundAllowed codec effort c.w c.h)
    else intraSize codec effort c.w c.h && intraMode codec effort c.w c.idx

/-! ## Coefficients and the entropy coder (R137, R138) -/

/-- The level of a coefficient by dead-zone rounding: offsets of 1/3 of a step in intra blocks, 1/6 in inter blocks (R137). -/
def deadZone (inter : Bool) (step coef : Nat) : Nat := if inter then (6 * coef + step) / (6 * step) else (3 * coef + step) / (3 * step)
/-- At Fine a coefficient takes its level or the one below, by cost (R137). -/
def levelByCost (lam step coef level rate rateBelow : Nat) : Nat :=
  let cost := fun l r => codingCost lam ((coef - l * step) ^ 2 + (l * step - coef) ^ 2) r
  if 0 < level && cost (level - 1) rateBelow < cost level rate then level - 1 else level
/-- The entropy coder of a codec: 0 multi-symbol arithmetic, 1 CABAC, 2 CAVLC (R138). -/
def entropyCoder (codec : Nat) : Nat := if isAv1 codec then 0 else if codec = 3 then 2 else 1
/-- The cycles an entropy coder takes: symbols or regular bins, bypass bins, bits (R138). -/
def entropyCycles (coder symbols bypass size : Nat) : Nat :=
  if coder = 0 then ceilDiv symbols 2 else if coder = 1 then max (ceilDiv symbols 2) (ceilDiv bypass 4) else ceilDiv size 16

/-! ## The mode decision (R120, R122, R136) -/

/-- Is an integer list before another in order? -/
def keyLess : List Int → List Int → Bool
  | a :: s, b :: t => if a < b then true else if b < a then false else keyLess s t
  | [], _ :: _ => true
  | _, [] => false
/-- The first element with the least key. -/
def bestOf {α : Type} (key : α → List Int) (l : List α) : Option α :=
  l.foldl (fun a x => match a with
    | none => some x
    | some y => if keyLess (key x) (key y) then some x else a) none
/-- The cost of a candidate at an effort: with SAD or SATD below Fine, with SSE from Fine on (R120). -/
def candCost (av1 : Bool) (bd effort : Nat) (q : Int) (c : Cand) : Nat :=
  codingCost (if effort ≤ 1 then lamSad av1 bd q else lamSse av1 bd q) c.dist c.rate
/-- The candidate chosen: the least cost; ties go to inter, then to the larger block, then to the lower index (R122). -/
def chooseCand (codec bd effort : Nat) (q : Int) (intraOnly : Bool) (l : List Cand) : Option Cand :=
  bestOf (fun c => [(candCost (isAv1 codec) bd effort q c : Nat), if c.inter then 0 else 1, -((c.w * c.h : Nat) : Int), (c.idx : Nat)])
    (l.filter fun c => candidateAllowed codec effort c && !(intraOnly && c.inter))

/-! ## Availability (R123) -/

/-- May a block of a part that begins at column x0 and ends before x1 take samples, vectors or candidates from a place of the band:
within the same band and the same part, and already coded (R123)? With a refresh stripe nothing right of `limit` (R155). -/
def available (x0 x1 : Nat) (limit : Option Nat) (x y : Int) : Bool :=
  decide (0 ≤ y) && decide ((x0 : Int) ≤ x) && decide (x < x1) && match limit with
    | none => true
    | some e => decide (x < e)

/-! ## In-loop filters (R140) -/

/-- The loop filter level of AV1 for a quantiser (R140). -/
def loopLevel (q : Int) : Nat := (min 63 ((5 * q + 64) / 32)).toNat
/-- The eight CDEF strengths, primary and secondary, from Balanced on; at Swift every strength is 0 (R140). -/
def cdefStrengths (effort : Nat) : List (Nat × Nat) :=
  if effort = 0 then List.replicate 8 (0, 0) else [(0, 0), (1, 0), (2, 1), (3, 1), (4, 2), (6, 2), (8, 4), (10, 4)]
/-- The filter parameters of a frame (R140): AV1: four levels, sharpness, delta_lf_res, damping, the strengths; HEVC: deblocking on,
across slices, across tiles, SAO; AVC: deblocking on. -/
def filterParams (codec effort : Nat) (q : Int) : List Nat :=
  if isAv1 codec then
    [loopLevel q, loopLevel q, loopLevel q / 2, loopLevel q / 2, 0, 2, 3] ++ (cdefStrengths effort).flatMap fun s => [s.1, s.2]
  else if isHevc codec then [1, 1, 1, b2n (decide (1 ≤ effort))]
  else [1]

end Sys2Proof.Machine
end

