-- ==== Sys2Proof/Machine/Motion.lean ====
section
/-! DEFINITION. The Sleeve and the motion search (5: R101, R103, R107 to R119; 6: R155): windows, loads and fills under the read
budget, hints and seeds, the coarse and the fine search of a part. Vectors are in eighths of a luma sample (log 116). -/
namespace Sys2Proof.Machine

/-! ## The Sleeve (R107, R108) -/

/-- The regions of a Sleeve and their bytes: coarse store, two fine stores, patches, source staging, hints and seeds, working
store; 4 MiB together (R107). -/
def sleeveRegions : List Nat := [65536, 1204224, 1204224, 196608, 36864, 65536, 1421312]
/-- The columns of the window of unit u: first, and first beyond (R108). -/
def windowCols (u : Nat) : Int × Int := (64 * u - 384, 64 * u + 448)
/-- The rows of the window of band b: the coarse store holds less of a secondary reference (R108, R110). -/
def windowRows (b ref : Nat) : Int × Int := if ref = 0 then (64 * b - 192, 64 * b + 256) else (64 * b - 32, 64 * b + 96)
/-- Does a rectangle of samples lie within the window of unit u of band b (R108)? -/
def inWindow (u b : Nat) (x0 x1 y0 y1 : Int) : Bool :=
  decide ((windowCols u).1 ≤ x0) && decide (x1 < (windowCols u).2) && decide ((windowRows b 0).1 ≤ y0) &&
    decide (y1 < (windowRows b 0).2)

/-! ## The part that is searched -/

/-- A part under search: stream, frame, band, part, units, effort, codec, depth, references, whether the doorbell's MV bit is
set, the refreshed edge that blocks left of a stripe must keep to. -/
structure SearchPart where
  sid : Nat
  slot : Nat
  frame : Nat
  band : Nat
  split : Nat
  u0 : Nat
  u1 : Nat
  effort : Nat
  codec : Nat
  depth : Nat
  refs : List Nat
  mv : Bool
  blocks : List CodedBlock
  /-- the columns of the refresh stripe; blocks left of it keep 8 columns away from it (R155) -/
  stripe : Option (Nat × Nat)
deriving DecidableEq, Repr
/-- The 16 × 16 blocks of a unit in raster order: column and row of luma (row within the band). -/
def unitBlocks (d : Dev) (p : SearchPart) (u : Nat) : List (Nat × Nat) :=
  (List.range (ceilDiv (bandRows d p.sid p.band) 16)).flatMap fun r =>
    ((List.range 4).filter fun k => decide (64 * u + 16 * k < prm d p.sid 0x3014)).map fun k => (64 * u + 16 * k, 16 * r)
/-- The luma source sample that a tile uses: at 8 bits rounded from the 10-bit form (R89). -/
def tileSample (depth v : Nat) : Nat := if depth = 8 then min 255 ((v + 2) / 4) else v
/-- The luma source of the picture at a place of the frame slot. -/
def srcLuma (d : Dev) (p : SearchPart) (x y : Nat) : Nat :=
  tileSample p.depth (sampleOf d (slotOf p.sid) p.slot 0 (min y (prm d p.sid 0x3015 - 1)) (min x (prm d p.sid 0x3014 - 1)))
/-- The coarse source: the mean of a 4 × 4 block, as for a reconstruction (R109, R117). -/
def srcCoarse (d : Dev) (p : SearchPart) (x y : Nat) : Nat :=
  let s := sumBy (fun k => srcLuma d p (4 * x + k % 4) (4 * y + k / 4)) (List.range 16)
  if p.depth = 10 then (s + 32) / 64 else (s + 8) / 16

/-! ## Hints and seeds (R101, R103, R115, R116) -/

/-- The engine hint of a 16 × 16 block as it is stored (R87, R101): none where either component is 0x8000. -/
def hintAt (d : Dev) (p : SearchPart) (x y : Nat) : Option (Int × Int) :=
  let q := intakePrm d (slotOf p.sid)
  let pl := (partsOf q).getD 3 ⟨0, 0, 0, 4⟩
  let v := wordAt (srcByte (sess d (slotOf p.sid))) (p.slot * strideOf q + pl.off + (4 * p.band + y / 16) * pl.pitch + x / 16 * 4) 4
  if !p.mv || pl.rows = 0 || bits v 0 16 = 0x8000 || bits v 16 16 = 0x8000 then none
  else some (signed 16 (bits v 0 16), signed 16 (bits v 16 16))
/-- The vector range of a codec and level in eighths: greatest horizontal and vertical magnitude (R116; the standards, log 11). -/
def vectorRange (codec lvl : Nat) : Nat × Nat :=
  if isAv1 codec then (16383, 16383) else if isHevc codec then (65535, 65535)
  else (16383, if lvl ≤ 10 then 511 else if lvl ≤ 20 then 1023 else if lvl ≤ 30 then 2047 else if lvl < 60 then 4095 else 65535)
/-- A vector clipped to its range. -/
def clipVector (r : Nat × Nat) (v : Int × Int) : Int × Int := (clampI (-(r.1 : Nat)) r.1 v.1, clampI (-(r.2 : Nat)) r.2 v.2)
/-- The hint seed for a reference that lies so many frames back: a hint points one frame back, in quarter samples (R116). -/
def hintSeed (range : Nat × Nat) (back : Nat) (h : Int × Int) : Int × Int :=
  clipVector range (2 * h.1 * back, 2 * h.2 * back)
/-- The block of the part's result that covers a place, and what it chose. -/
def chosenAt (l : List Chosen) (x y : Nat) : Option Cand :=
  (l.find? fun e => decide (e.x ≤ x) && decide (x < e.x + e.c.w) && decide (e.y ≤ y) && decide (y < e.y + e.c.h)).map (·.c)
/-- The vector that a 16 × 16 block of the same part chose from a reference; none outside the band or part (R115, R123). -/
def neighbourSeed (p : SearchPart) (ch : List Chosen) (ref : Nat) (x y : Int) : Option (Int × Int) :=
  if !available (64 * p.u0) (64 * (p.u1 + 1)) none x y then none
  else match chosenAt ch x.toNat y.toNat with
    | some c => if c.inter && (c.ref == ref || c.ref == 2) then some (c.mx, c.my) else none
    | none => none
/-- The temporal seed: what the co-located block of the reference frame chose against its own primary reference (R115). -/
def temporalSeed (d : Dev) (p : SearchPart) (c x y : Nat) : Option (Int × Int) :=
  (bandRecon d p.sid c p.band).bind fun r => (r.vecs.getD (y / 16 * ceilDiv (prm d p.sid 0x3014) 16 + x / 16) none)
/-- The first of each, in order. -/
def distinct {α : Type} [BEq α] (l : List α) : List α := l.foldl (fun a x => if a.contains x then a else a ++ [x]) []
/-- The seed list of a 16 × 16 block for reference number r, which is frame c (R115). -/
def seedList (d : Dev) (p : SearchPart) (ch : List Chosen) (r c x y : Nat) : List (Int × Int) :=
  let near := neighbourSeed p ch r
  let range := vectorRange p.codec (prm d p.sid 0x3012)
  distinct ([some (0, 0), (hintAt d p x y).map (hintSeed range (p.frame - c)), near (x - 16) y, near x (y - 16),
    near (x + 16) (y - 16), temporalSeed d p c x y].filterMap id)

/-! ## Reads under the budget (R110 to R112, R114) -/

/-- The bytes of the coarse plane of a unit: 448 rows of the primary, 128 of the secondary, at quarter resolution (R112). -/
def coarseLoad (ref : Nat) : Nat := if ref = 0 then 1792 else 512
/-- The column units whose coarse plane a part loads at its start (R110 item 1, R112). -/
def firstLoads (units u0 u1 : Nat) : List Nat :=
  (List.range units).filter fun u => decide (u0 ≤ u + 6) && decide (u ≤ u0 + 7) && decide (u ≤ u1 + 6)
/-- The units of the reference that a rectangle touches, clipped to the picture: unit column, unit row of the frame (R111). -/
def touched (w h : Nat) (x0 x1 y0 y1 : Int) : List (Nat × Nat) :=
  let cut := fun (v : Int) (n : Nat) => min v.toNat (n - 1)
  (List.range (cut y1 h / 8 + 1 - cut y0 h / 8)).flatMap fun r =>
    (List.range (cut x1 w / 16 + 1 - cut x0 w / 16)).map fun k => (cut x0 w / 16 + k, cut y0 h / 8 + r)
/-- The bytes that reading a unit takes: the sectors its entry names (R112, R145); a unit not stored is read raw. -/
def unitRead (d : Dev) (p : SearchPart) (c : Nat) (k : Nat × Nat) : Nat :=
  match refUnit d p.sid c (k.2 / 8, k.2 % 8 * ceilDiv (prm d p.sid 0x3014) 16 + k.1) with
  | none => unitLength p.depth 8
  | some u => unitLength p.depth u.entry
/-- Does a stored unit fail its check as it is read (R146)? -/
def badUnit (d : Dev) (p : SearchPart) (c : Nat) (k : Nat × Nat) : Bool :=
  match refUnit d p.sid c (k.2 / 8, k.2 % 8 * ceilDiv (prm d p.sid 0x3014) 16 + k.1) with
  | none => false
  | some u => (readUnit p.depth u).isNone
/-- A coarse load is always admitted. -/
def loadCoarse (r u : Nat) (a : Sleeve) : Sleeve := { a with coarse := a.coarse ++ [(r, u)], bytes := a.bytes + coarseLoad r }
/-- A unit before coding unit u: the load of unit u + 7 for each reference (R110 item 2). -/
def loadAhead (units : Nat) (p : SearchPart) (u : Nat) (a : Sleeve) : Sleeve :=
  if u + 7 < units && decide (u + 7 ≤ p.u1 + 6) then
    (List.range p.refs.length).foldl (fun a r => if a.coarse.contains (r, u + 7) then a else loadCoarse r (u + 7) a) a
  else a
/-- A fill of one unit: present units are never read again; past the budget it is refused, and every later read with it (R111,
R112). -/
def fillUnit (d : Dev) (p : SearchPart) (budget r : Nat) (k : Nat × Nat) (a : Sleeve) : Sleeve :=
  let n := unitRead d p (p.refs.getD r 0) k
  if a.fine.contains (r, k.1, k.2) || a.spent then a
  else if budget < a.bytes + n then { a with spent := true }
  else { a with fine := a.fine ++ [(r, k.1, k.2)], bytes := a.bytes + n, bad := a.bad || badUnit d p (p.refs.getD r 0) k }
/-- The fills of a rectangle. -/
def fillRect (d : Dev) (p : SearchPart) (budget r : Nat) (x0 x1 y0 y1 : Int) (a : Sleeve) : Sleeve :=
  (touched (prm d p.sid 0x3014) (prm d p.sid 0x3015) x0 x1 y0 y1).foldl (fun a k => fillUnit d p budget r k a) a
/-- Is every sample of a rectangle present? -/
def present (d : Dev) (p : SearchPart) (a : Sleeve) (r : Nat) (x0 x1 y0 y1 : Int) : Bool :=
  (touched (prm d p.sid 0x3014) (prm d p.sid 0x3015) x0 x1 y0 y1).all fun k => a.fine.contains (r, k.1, k.2)
/-- After coding unit u, unit u - 6 is discarded (R110 item 3). -/
def discardUnit (u : Nat) (a : Sleeve) : Sleeve :=
  if u < 6 then a
  else { a with coarse := a.coarse.filter fun e => decide (u - 6 < e.2), fine := a.fine.filter fun e => decide (u - 6 < e.2.1 / 4) }
/-- Whole samples of a vector, rounded down. -/
def fullPel (v : Int) : Int := v / 8
/-- The columns left of a refresh stripe that samples must keep to; none: no bound (R155 item 2). -/
def edgeOk (p : SearchPart) (x : Nat) (x1 : Int) : Bool :=
  match p.stripe with
  | some (s, _) => decide (s ≤ x) || decide (x1 < (s : Int) - 8)
  | none => true
/-- Does a block lie in the refresh stripe (R155 item 1)? -/
def inStripe (p : SearchPart) (x : Nat) : Bool :=
  match p.stripe with
  | some (s, e) => decide (s ≤ x) && decide (x < e)
  | none => false
/-- Does a hint candidate need a patch: its target, with a margin of 4 and the filter's taps, is not wholly in the window (R114)? -/
def needsPatch (p : SearchPart) (u x y : Nat) (v : Int × Int) : Bool :=
  let t := filterTaps (isAvc p.codec)
  let X : Int := x + fullPel v.1
  let Y : Int := 64 * p.band + y + fullPel v.2
  !inWindow u p.band (X - 4 - t.1) (X + 19 + t.2) (Y - 4 - t.1) (Y + 19 + t.2)
/-- The patch of a hint candidate: 32 × 32 samples centred on the block it points to; past the limit or the budget it is dropped
and counted (R114). -/
def readPatch (d : Dev) (p : SearchPart) (budget r x y : Nat) (v : Int × Int) (a : Sleeve) : Sleeve :=
  let X : Int := x + fullPel v.1
  let Y : Int := 64 * p.band + y + fullPel v.2
  let n := sumBy (unitRead d p (p.refs.getD r 0)) (touched (prm d p.sid 0x3014) (prm d p.sid 0x3015) (X - 8) (X + 23) (Y - 8) (Y + 23))
  if !edgeOk p x (X + 23) then a
  else if 64 / p.split ≤ a.patches.length || a.spent then { a with dropped := a.dropped + 1 }
  else if budget < a.bytes + n then { a with dropped := a.dropped + 1, spent := true }
  else { a with patches := a.patches ++ [(r, x, y)], bytes := a.bytes + n }
/-- The patches of a unit, in raster order, the primary reference first (R112, R114). -/
def unitPatches (d : Dev) (p : SearchPart) (budget u : Nat) (a : Sleeve) : Sleeve :=
  if p.u1 < u then a
  else (unitBlocks d p u).foldl (fun a b =>
    (List.range p.refs.length).foldl (fun a r =>
      match (hintAt d p b.1 b.2).map (hintSeed (vectorRange p.codec (prm d p.sid 0x3012)) (p.frame - p.refs.getD r 0)) with
      | some v => if needsPatch p u b.1 b.2 v then readPatch d p budget r b.1 b.2 v a else a
      | none => a) a) a

/-! ## The coarse search (R117) -/

/-- The order of ties: the earlier seed, the smaller magnitude, the smaller vertical, the smaller horizontal component. -/
def tieKey (order : Nat) (dx dy : Int) : List Int := [order, dx * dx + dy * dy, dy, dx]
/-- Sum of absolute differences. -/
def absDiff (a b : Nat) : Nat := (a - b) + (b - a)
/-- The SAD of the coarse block of a block at a coarse place of a reference. -/
def coarseSad (d : Dev) (p : SearchPart) (c x y : Nat) (cx cy : Int) : Nat :=
  sumBy (fun k => absDiff (srcCoarse d p (x / 4 + k % 4) ((64 * p.band + y) / 4 + k / 4))
    (refCoarse d p.sid c (cx + (k % 4 : Nat)) (cy + (k / 4 : Nat)))) (List.range 16)
/-- Is the coarse block at a place in the coarse store of unit u (R108, R110)? -/
def inCoarse (p : SearchPart) (u r : Nat) (cx cy : Int) : Bool :=
  let wx := windowCols u
  let wy := windowRows p.band r
  decide (wx.1 ≤ 4 * cx) && decide (4 * cx + 16 ≤ wx.2) && decide (wy.1 ≤ 4 * cy) && decide (4 * cy + 16 ≤ wy.2)
/-- Coarse displacement of a vector, to the nearest whole coarse sample. -/
def coarsePel (v : Int) : Int := (v + 16) / 32
/-- Integers from lo to hi. -/
def between (lo hi : Int) : List Int := (List.range (hi + 1 - lo).toNat).map fun k => lo + (k : Nat)
/-- Takes the best positions that lie at least 2 coarse samples apart in either direction. -/
def pickApart {α : Type} (key : α → List Int) (far : α → α → Bool) : Nat → List α → List α
  | 0, _ => []
  | n + 1, l => match bestOf key l with
    | none => []
    | some x => x :: pickApart key far n (l.filter fun y => far x y)
/-- The displacements in coarse samples that the coarse search keeps, best first (R117). -/
def coarseSearch (d : Dev) (p : SearchPart) (u r x y : Nat) (seeds : List (Int × Int)) : List (Int × Int) :=
  let c := p.refs.getD r 0
  let bx : Int := (x / 4 : Nat)
  let bY : Int := ((64 * p.band + y) / 4 : Nat)
  let sad := fun (v : Int × Int) => coarseSad d p c x y (bx + v.1) (bY + v.2)
  let ok := fun (v : Int × Int) => inCoarse p u r (bx + v.1) (bY + v.2) && edgeOk p x (4 * (bx + v.1) + 15)
  let first := distinct ((seeds.map fun v => (coarsePel v.1, coarsePel v.2)).filter ok)
  let order := fun v => (first.findIdx? (· == v)).getD first.length
  let key := fun (v : Int × Int) => ((sad v : Nat) : Int) :: tieKey (order v) v.1 v.2
  match bestOf key first with
  | none => []
  | some s =>
    let wx := windowCols u
    let wy := windowRows p.band r
    let rx := match coarseRange p.effort r with
      | some g => (s.1 - (g.1 / 4 : Nat), s.1 + (g.1 / 4 : Nat))
      | none => (wx.1 / 4 - bx, wx.2 / 4 - bx)
    let ry := match coarseRange p.effort r with
      | some g => (s.2 - (g.2 / 4 : Nat), s.2 + (g.2 / 4 : Nat))
      | none => (wy.1 / 4 - bY, wy.2 / 4 - bY)
    let all := (between ry.1 ry.2).flatMap fun j => ((between rx.1 rx.2).map fun i => (i, j)).filter ok
    pickApart key (fun a b => decide (2 ≤ (a.1 - b.1).natAbs) || decide (2 ≤ (a.2 - b.2).natAbs)) (seedsCarried p.effort)
      (distinct (first ++ all))

/-! ## The fine search (R118, R119) -/

/-- The luma SAD of a block at a whole displacement. -/
def fineSad (d : Dev) (p : SearchPart) (c x y : Nat) (v : Int × Int) : Nat :=
  sumBy (fun k => absDiff (srcLuma d p (x + k % 16) (64 * p.band + y + k / 16))
    (refLuma d p.sid c ((x + k % 16 : Nat) + v.1) ((64 * p.band + y + k / 16 : Nat) + v.2))) (List.range 256)
/-- The SATD of a block at a vector in eighths: the codec's interpolation and the transform are open (log 113). -/
def fineSatd (d : Dev) (p : SearchPart) (c x y : Nat) (v : Int × Int) : Nat :=
  let t := filterTaps (isAvc p.codec)
  let n := 16 + t.1 + t.2
  let area := (List.range (n * n)).map fun k =>
    refLuma d p.sid c ((x : Int) + fullPel v.1 - (t.1 : Nat) + (k % n : Nat))
      ((64 * p.band + y : Nat) + fullPel v.2 - (t.1 : Nat) + (k / n : Nat))
  let pred := Config.interpolate p.codec (v.1 % 8).toNat (v.2 % 8).toNat area
  Config.satd ((List.range 256).map fun k =>
    ((srcLuma d p (x + k % 16) (64 * p.band + y + k / 16) : Nat) : Int) - (pred.getD k 0 : Nat))
/-- What the fine search of a block finds: its vector, its SATD. -/
abbrev Found := Option ((Int × Int) × Nat)
/-- One sub-pel step: the eight neighbours at the step against the present vector (R118). -/
def subStep (d : Dev) (p : SearchPart) (ok : Int × Int → Bool) (c x y step : Nat) (v : Int × Int) : Int × Int :=
  let s : Int := step
  let near := [v, (v.1 - s, v.2 - s), (v.1, v.2 - s), (v.1 + s, v.2 - s), (v.1 - s, v.2), (v.1 + s, v.2), (v.1 - s, v.2 + s),
    (v.1, v.2 + s), (v.1 + s, v.2 + s)].filter ok
  (bestOf (fun w => ((fineSatd d p c x y w : Nat) : Int) :: tieKey 0 w.1 w.2) near).getD v
/-- The fine search of a block on one reference: fills of the kept positions under the budget, full-pel SAD over what is present,
then sub-pel refinement (R111, R112, R118). -/
def fineSearch (d : Dev) (p : SearchPart) (budget u r x y : Nat) (kept : List (Int × Int)) (patch : Option (Int × Int))
    (a : Sleeve) : Sleeve × Found :=
  let c := p.refs.getD r 0
  let t := filterTaps (isAvc p.codec)
  let Y : Int := (64 * p.band + y : Nat)
  let rect := fun (v : Int × Int) (m : Int) => (((x : Int) + v.1 - m, (x : Int) + v.1 + 15 + m), (Y + v.2 - m, Y + v.2 + 15 + m))
  let g : Int := (fineRange p.effort : Nat)
  let centres := kept.map fun v => (4 * v.1, 4 * v.2)
  let a1 := centres.foldl (fun a v => let q := rect v g; fillRect d p budget r q.1.1 q.1.2 q.2.1 q.2.2 a) a
  let near := fun (v : Int × Int) (m : Int) => (between (v.2 - m) (v.2 + m)).flatMap fun j => (between (v.1 - m) (v.1 + m)).map fun i => (i, j)
  let here := fun (v : Int × Int) (m : Int) =>
    let q := rect v m
    present d p a1 r q.1.1 q.1.2 q.2.1 q.2.2 && edgeOk p x q.1.2
  let inW := fun (v : Int × Int) => let q := rect v 0; inWindow u p.band q.1.1 q.1.2 q.2.1 q.2.2
  let pts := (List.range centres.length).flatMap fun k =>
    ((near (centres.getD k (0, 0)) g).filter fun v => inW v && here v 0).map fun v => (k, v)
  let pat := match patch with
    | none => []
    | some v => (near (fullPel v.1, fullPel v.2) 4).map fun w => (centres.length, w)
  match bestOf (fun e : Nat × Int × Int => ((fineSad d p c x y e.2 : Nat) : Int) :: tieKey e.1 e.2.1 e.2.2) (pts ++ pat) with
  | none => (a1, none)
  | some (k, v) =>
    let patched := decide (k = centres.length)
    let q := rect v 1
    let a2 := if patched then a1
      else fillRect d p budget r (q.1.1 - (t.1 : Nat)) (q.1.2 + (t.2 : Nat)) (q.2.1 - (t.1 : Nat)) (q.2.2 + (t.2 : Nat)) a1
    let ok := fun (w : Int × Int) =>
      let X := (x : Int) + fullPel w.1
      let Z := Y + fullPel w.2
      (patched || present d p a2 r (X - (t.1 : Nat)) (X + 15 + (t.2 : Nat)) (Z - (t.1 : Nat)) (Z + 15 + (t.2 : Nat))) &&
        edgeOk p x (X + 15 + (t.2 : Nat))
    let w := (subSteps (isAv1 p.codec) p.effort).foldl (fun w s => subStep d p ok c x y s w) (8 * v.1, 8 * v.2)
    (a2, some (w, fineSatd d p c x y w))
/-- Is the secondary reference searched: the best SATD is above 6 per luma pixel in 10-bit units (R119)? -/
def secondaryWanted (depth : Nat) : Found → Bool
  | none => true
  | some (_, n) => decide (6 * 256 < n * (if depth = 8 then 4 else 1))

/-! ## The part (R110 to R119) -/

/-- The patch of a block, if one was read. -/
def patchOf (d : Dev) (p : SearchPart) (r x y : Nat) (a : Sleeve) : Option (Int × Int) :=
  if a.patches.contains (r, x, y) then
    (hintAt d p x y).map (hintSeed (vectorRange p.codec (prm d p.sid 0x3012)) (p.frame - p.refs.getD r 0))
  else none
/-- The search of a block on one reference. -/
def searchBlock (d : Dev) (p : SearchPart) (budget u r x y : Nat) (ch : List Chosen) (a : Sleeve) : Sleeve × Found :=
  let seeds := seedList d p ch r (p.refs.getD r 0) x y
  fineSearch d p budget u r x y (coarseSearch d p u r x y seeds) (patchOf d p r x y a) a
/-- Motion compensation of the inter candidates of the blocks of a unit touches reference units too (R111). -/
def compensate (d : Dev) (p : SearchPart) (budget u r : Nat) (a : Sleeve) : Sleeve :=
  let t := filterTaps (isAvc p.codec)
  (p.blocks.filter fun b => b.x / 64 == u).foldl (fun a b =>
    (b.cands.filter fun c => c.inter && (c.ref == r || c.ref == 2)).foldl (fun a c =>
      let X : Int := b.x + fullPel c.mx
      let Y : Int := (64 * p.band + b.y : Nat) + fullPel c.my
      fillRect d p budget r (X - (t.1 : Nat)) (X + (c.w + t.2 : Nat) - 1) (Y - (t.1 : Nat)) (Y + (c.h + t.2 : Nat) - 1) a) a) a
/-- The search of the blocks of a unit: the primary reference's fills, then the secondary's (R112, R119). -/
def searchBlocks (d : Dev) (p : SearchPart) (budget u : Nat) (ch : List Chosen) (a : Sleeve) : Sleeve :=
  let bs := (unitBlocks d p u).filter fun b => !inStripe p b.1
  let r := bs.foldl (fun (e : Sleeve × List Found) b =>
    let z := searchBlock d p budget u 0 b.1 b.2 ch e.1
    (z.1, e.2 ++ [z.2])) (a, [])
  let a1 := compensate d p budget u 0 r.1
  let a2 := { a1 with found := a1.found ++ r.2 }
  if p.refs.length ≤ 1 then a2
  else compensate d p budget u 1 ((List.zip bs r.2).foldl (fun a b =>
    if secondaryWanted p.depth b.2 then (searchBlock d p budget u 1 b.1.1 b.1.2 ch a).1 else a) a2)
/-- Must a block be intra: in an intra frame, in the stripe, or where the budget is spent and its zero vector needs a unit that is
not present (R112, R155)? -/
def intraOnly (d : Dev) (p : SearchPart) (a : Sleeve) (b : CodedBlock) : Bool :=
  let w := ((b.cands.map (·.w)).foldl max 1 : Nat)
  let h := ((b.cands.map (·.h)).foldl max 1 : Nat)
  let Y : Int := (64 * p.band + b.y : Nat)
  p.refs.isEmpty || inStripe p b.x || (a.spent && !present d p a 0 b.x (b.x + w - 1 : Nat) Y (Y + (h : Nat) - 1))
/-- The mode decision of the blocks of a unit (R122). -/
def decideUnit (p : SearchPart) (q : Nat → Int) (u : Nat) (only : CodedBlock → Bool) : List Chosen :=
  (p.blocks.filter fun b => b.x / 64 == u).filterMap fun b =>
    (chooseCand p.codec p.depth p.effort (q u) (only b) b.cands).map fun c => { x := b.x, y := b.y, c := c }
/-- A unit: what is loaded ahead, the search, the decisions, what is discarded (R110, R112, R122). -/
def codeUnit (d : Dev) (p : SearchPart) (budget units : Nat) (q : Nat → Int) (u : Nat) (e : Sleeve × List Chosen) : Sleeve × List Chosen :=
  let a1 := unitPatches d p budget (u + 3) (loadAhead units p u e.1)
  let a2 := if p.refs.isEmpty then a1
    else searchBlocks d p budget u (e.2 ++ decideUnit p q u fun b => intraOnly d p a1 b) a1
  (discardUnit u { a2 with staged := [u, u + 1, u + 2].filter fun k => decide (k ≤ p.u1) },
    e.2 ++ decideUnit p q u fun b => intraOnly d p a2 b)
/-- What the Sleeve holds when a part begins: the first coarse loads (R110 item 1). -/
def sleeveStart (units : Nat) (p : SearchPart) : Sleeve :=
  (List.range p.refs.length).foldl (fun a r => (firstLoads units p.u0 p.u1).foldl (fun a u => loadCoarse r u a) a) {}
/-- The reads, the search and the decisions of a part, in the order of R112. -/
def codeUnits (d : Dev) (p : SearchPart) (budget : Nat) (q : Nat → Int) : Sleeve × List Chosen :=
  let units := unitCount d p.sid
  let a := (List.range 3).foldl (fun a k => unitPatches d p budget (p.u0 + k) a) (sleeveStart units p)
  (List.range (p.u1 + 1 - p.u0)).foldl (fun e k => codeUnit d p budget units q (p.u0 + k) e) (a, [])

end Sys2Proof.Machine
end

