-- ==== Sys2Proof/Machine/Coding.lean ====
section
/-! DEFINITION. What the coding of a part gives (5: R112, R114; 6: R133, R134, R139, R143, R144): the in-band correction,
the search and the read charges, the reconstruction, the band record. -/
namespace Sys2Proof.Machine

/-! ## The in-band correction (R134, R139) -/

/-- c after one unit: bits so far, pixels coded so far, the part's target and pixels, ten times E. -/
def nextC (c : Int) (s px tp p e10 : Nat) : Int × Bool :=
  let c1 := if 11 * tp * px < 10 * s * p then min (c + 1) 6 else if 10 * s * p < 9 * tp * px then max (c - 1) (-3) else c
  if e10 * px < 10 * s then (min (c1 + 6) 12, true) else (c1, false)
/-- The c of each unit, and how often the guard was taken: the units' bits and pixels. -/
def cTrace (tp p e10 : Nat) : List (Nat × Nat) → Int → Nat → Nat → List Int × Nat
  | [], _, _, _ => ([], 0)
  | (b, x) :: t, c, s, px =>
    let r := nextC c (s + b) (px + x) tp p e10
    let rest := cTrace tp p e10 t r.1 (s + b) (px + x)
    (c :: rest.1, rest.2 + b2n r.2)
/-- T_p (R134). -/
def partTarget (d : Dev) (j : Job) (target k : Nat) : Nat :=
  let all := bandPixels d j.stream j.band
  let share := fun i => target * partPixels d j.stream k j.band i / all
  if j.part = 0 then target - sumBy share ((List.range k).drop 1) else share j.part
/-- The pixels of each unit of a part. -/
def unitPixels (d : Dev) (j : Job) (k : Nat) : List Nat :=
  let u := unitCount d j.stream
  (List.range (partUnits u k j.part)).map fun i =>
    let g := partStart u k j.part + i
    (min 64 (prm d j.stream 0x3014 - 64 * g)) * bandRows d j.stream j.band
/-- The trace of a part of a frame. In an intra frame the guard's uses are counted from the c that would run, though c stays 0; in a
copy band none is counted (log 107). -/
def partTrace (d : Dev) (f : Frame) (j : Job) (r : PartResult) : List Int × Nat :=
  let k := f.split
  let b := f.band j.band
  if !encodes d j.stream || b.st = 2 || f.spliced then (List.replicate (partUnits (unitCount d j.stream) k j.part) 0, 0)
  else
    let t := (b.plan.map (·.target)).getD 0
    let px := unitPixels d j k
    let tr := cTrace (partTarget d j t k) (sumBy id px) (if f.effort = 0 then (if codecAvc d j.stream then 12 else 15) else 20)
      (List.zip (r.unitBits ++ List.replicate px.length 0) px) 0 0 0
    if f.intra then (List.replicate px.length 0, tr.2) else tr
/-- q_blk of each block of a part, with the offsets that its frame began with; a decoder reads them (R52, R133, R135). -/
def blockQs (d : Dev) (f : Frame) (j : Job) (r : PartResult) : List Int :=
  if !encodes d j.stream then r.qs
  else
    let b := f.band j.band
    let q := (b.plan.map (·.q)).getD 0
    let u0 := partStart (unitCount d j.stream) f.split j.part
    let cs := (partTrace d f j r).1
    (List.range cs.length).map fun i =>
      let cls := if b.st = 2 || f.intra then 0 else bits b.cls (3 * (u0 + i)) 3
      let off := signed 4 (bits f.offsets (4 * cls) 4) + cs.getD i 0
      clampI (codecMin d j.stream) (codecMax d j.stream) (q + if codecAv1 d j.stream then 4 * off else off)

/-! ## The search and its reads (R110 to R119, R122, R130) -/

/-- The reference read budget of a part: 2.0 bytes for each pixel (R112). -/
def readBudget (d : Dev) (f : Frame) (j : Job) : Nat := 2 * partPixels d j.stream f.split j.band j.part
/-- The columns of a frame's refresh stripe; in a frame of a higher layer, the refreshed edge of its reference (R155). -/
def stripeCols (d : Dev) (sid : Nat) (f : Frame) (primary : Option Nat) : Option (Nat × Nat) :=
  match f.stripe with
  | some (i, r) =>
    let z := stripeOf (unitCount d sid) r i
    some (64 * z.1, 64 * (z.1 + z.2))
  | none =>
    if f.inCycle then (primary.bind fun c => (pastAt d sid c).edge).map fun e => (e, e) else none
/-- A part as the search takes it. A copy band uses no hints (R103). -/
def searchOf (d : Dev) (f : Frame) (j : Job) (r : PartResult) : SearchPart :=
  let b := f.band j.band
  let u := unitCount d j.stream
  let u0 := partStart u f.split j.part
  { sid := j.stream, slot := f.number % max 1 (objGet d 0x3030 (slotOf j.stream)), frame := j.frame, band := j.band, split := f.split
    u0 := u0, u1 := u0 + partUnits u f.split j.part - 1, effort := f.effort, codec := prm d j.stream 0x3011
    depth := prm d j.stream 0x3013, refs := ((b.refs.map (·.list)).getD []).take (activeRefs f.effort), mv := b.mv && b.st == 1
    blocks := r.blocks, stripe := stripeCols d j.stream f (b.refs.bind (·.primary)) }
/-- The decisions that a bitstream or a fixed form names: each block's first candidate. -/
def namedBlocks (l : List CodedBlock) : List Chosen := l.filterMap fun b => b.cands.head?.map fun c => { x := b.x, y := b.y, c := c }
/-- What a part reads and decides. A decoder's fine stores are a cache without search, limit or budget (R130); a copy or fill band
has its form fixed (R153, R154). -/
def codePart (d : Dev) (f : Frame) (j : Job) (r : PartResult) : Sleeve × List Chosen :=
  let p := searchOf d f j r
  if !encodes d j.stream then
    let q := { p with refs := (((f.band j.band).refs.map (·.list)).getD []) }
    ((List.range (p.u1 + 1 - p.u0)).foldl (fun a k =>
      discardUnit (p.u0 + k) ((List.range q.refs.length).foldl (fun a i => compensate d q (2 ^ 64) (p.u0 + k) i a) a)) {},
      namedBlocks r.blocks)
  else if (f.band j.band).st = 2 then ({}, namedBlocks r.blocks)
  else
    let qs := blockQs d f j r
    codeUnits d p (readBudget d f j) fun u => qs.getD (u - p.u0) 0
/-- The counts of a part's reads: 0x5040 to 0x5044 and BUDGET_HIT of its tile (R112, R114). -/
def countReads (t : Nat) (f : Frame) (j : Job) (a : Sleeve) (d : Dev) : Dev :=
  if !encodes d j.stream then d
  else
    let s := slotOf j.stream
    let budget := readBudget d f j
    let n := a.patches.length
    let hit := a.spent || decide (budget ≤ a.bytes)
    let d1 := objCount 64 0x5044 s a.bytes (objCount 32 0x5041 s a.dropped (objCount 32 0x5040 s n d))
    let d2 := setFld (Reg.slvTileStat.at t) 0 15
      (n + b2n hit * 2 ^ 7 + min 100 (if budget = 0 then 100 else 100 * a.bytes / budget) * 2 ^ 8) d1
    objCount 32 0x5042 s (b2n hit) d2

/-! ## The record (R143, R144) -/

/-- The bytes that R144 covers: each sample as two bytes. -/
def sampleBytes (l : List Nat) : List Nat := l.flatMap fun v => [v % 256, v / 256 % 256]
/-- The reconstruction CRC (R144). -/
def reconCrc (l : List Nat) : Nat := crc32 (sampleBytes l)
/-- Frames back to a reference; 0 for none. -/
def framesBack (c : Nat) : Option Nat → Nat
  | none => 0
  | some r => c - r
/-- The flags of a record (R143). -/
def recordFlags (f : Frame) (b : Band) (guards errs : Nat) : Nat :=
  b2n f.intra + 2 * b2n (b.st == 2) + 4 * b2n f.stripe.isSome + 8 * b2n ((b.refs.map (·.leadIn)).getD false) +
    16 * b2n (guards != 0) + 32 * b2n (errs != 0)
/-- The 16 × 16 areas that a list of decisions covers (log 117). -/
def areas16 (l : List Chosen) : Nat := sumBy (fun e => e.c.w * e.c.h) l / 256
/-- The 16 × 16 areas of a band. -/
def bandAreas (d : Dev) (sid b : Nat) : Nat := ceilDiv (prm d sid 0x3014) 16 * ceilDiv (bandRows d sid b) 16
/-- HDR_BITS of a band: the bits of what is sent ahead of it (R149). -/
def headerBits (d : Dev) (sid b : Nat) (f : Frame) (rs : List PartResult) : Nat :=
  if encodes d sid && !(b == 0 && (codecAv1 d sid || f.header.sets)) then 0 else sumBy (·.hdrBits) rs
/-- The band record from the results of its parts and the CRC of its reconstruction (R143). In a copy band every area has no
residual; in a fill band every area is intra as well (R153, R154). -/
def makeRecord (d : Dev) (sid c b : Nat) (f : Frame) (crc : Nat) : BandRec :=
  let x := f.band b
  let rs := x.parts.map (·.result)
  let jobs := (List.range x.parts.length).map fun i => (({ stream := sid, frame := c, band := b, part := i } : Job), rs.getD i {})
  let qs := jobs.flatMap fun p => blockQs d f p.1 p.2
  let guards := sumBy (fun p => (partTrace d f p.1 p.2).2) jobs
  let ch := x.parts.flatMap (·.chosen)
  let all := bandAreas d sid b
  let fixed := x.st == 2 && encodes d sid
  let st := match f.stripe with
    | some (i, r) => let z := stripeOf (unitCount d sid) r i; z.1 % 256 + z.2 % 256 * 256
    | none => 0
  { frame := c, band := b, parts := f.split, flags := recordFlags f x guards (sumBy (·.error) rs), layer := f.layer,
    primary := framesBack c (x.refs.bind (·.primary)), secondary := framesBack c (x.refs.bind (·.secondary)),
    baseQ := (x.plan.map (·.q)).getD (qs.headD 0), target := if encodes d sid && !f.spliced then (x.plan.map (·.target)).getD 0 else 0,
    bits := sumBy (fun r => sumBy id r.unitBits + r.sliceBits) rs, hdrBits := headerBits d sid b f rs, crc := crc,
    satd := min (2 ^ 32 - 1) (sumBy (·.c.satd) ch / 16)
    intra16 := if fixed then (if f.intra then all else 0) else areas16 (ch.filter fun e => !e.c.inter)
    skip16 := if fixed then all else areas16 (ch.filter (·.c.skip)),
    meanQ := roundDiv (16 * qs.foldl (· + ·) 0) qs.length, stripe := st }
/-- The bitstream of a band: that of its parts one after the other; the last unit of a part and the first of the next are
one (log 13). -/
def joinUnits : List (List Nat) → List Nat
  | [] => []
  | u :: t =>
    let r := joinUnits t
    match u.getLast?, r with
    | none, _ => r
    | some _, [] => u
    | some x, y :: z => u.dropLast ++ (x + y) :: z
/-- A part's units: none listed means one. -/
def unitsOf (r : PartResult) : List Nat := if r.units.isEmpty && r.size != 0 then [r.size] else r.units
/-- The bytes of the parts in order. -/
def joinData : List PartResult → Nat
  | [] => 0
  | r :: t => r.data % 256 ^ r.size + 256 ^ r.size * joinData t
/-- The 64 bytes of a record in shared SRAM (R5, R143). -/
def recordBytes (r : BandRec) : Nat :=
  let f := fun (off len v : Nat) => v % 256 ^ len * 256 ^ off
  f 0x00 4 r.frame + f 0x04 1 r.band + f 0x05 1 r.parts + f 0x06 1 r.flags + f 0x07 1 r.layer + f 0x08 1 r.primary +
    f 0x09 1 r.secondary + f 0x0A 2 (unsigned 16 r.baseQ) + f 0x0C 4 r.target + f 0x10 4 r.bits + f 0x14 4 r.hdrBits +
    f 0x18 4 r.crc + f 0x1C 4 r.satd + f 0x20 2 r.intra16 + f 0x22 2 r.skip16 + f 0x24 2 (unsigned 16 r.meanQ) + f 0x26 2 r.stripe
/-- The band-local reconstruction that the closing tile has: in the band's geometry and depth; of a fill band the value of R154 in
every sample; of a copy band in HEVC and AVC what it copies, where that is stored (R144, R153, R154; log 118). -/
def localRecon (d : Dev) (sid b : Nat) (f : Frame) (recon : List Nat) : List Nat :=
  let bd := prm d sid 0x3013
  let n := bandSamples (prm d sid 0x3014) (bandRows d sid b)
  let x := f.band b
  if x.st = 2 && encodes d sid && f.intra then List.replicate n (2 ^ (bd - 1))
  else
    let same := if x.st = 2 && encodes d sid && !codecAv1 d sid then
      (x.refs.bind (·.primary)).bind fun c => (bandRecon d sid c b).map (·.samples) else none
    fitSamples n bd (same.getD recon)
/-- The vectors that the 16 × 16 blocks of a band chose against the primary reference (R115). -/
def bandVectors (d : Dev) (sid b : Nat) (f : Frame) : List (Option (Int × Int)) :=
  let ch := (f.band b).parts.flatMap (·.chosen)
  let w := ceilDiv (prm d sid 0x3014) 16
  (List.range (bandAreas d sid b)).map fun i => match chosenAt ch (16 * (i % w)) (16 * (i / w)) with
    | some c => if c.inter && c.ref != 1 then some (c.mx, c.my) else none
    | none => none
/-- The filter parameters of a frame: AV1 takes them from q_b of band 0 (R140). -/
def frameFilters (d : Dev) (sid : Nat) (f : Frame) : List Nat :=
  filterParams (prm d sid 0x3011) f.effort (((f.band 0).plan.map (·.q)).getD (f.band 0).record.baseQ)
/-- The closing part writes the reconstruction, and finishes the seams it is told to (R26, R109, R141, R142, R145). -/
def writeBand (sid c b : Nat) (f : Frame) (samples : List Nat) (above below : Bool) (d : Dev) : Dev :=
  let d1 := writeRecon sid c b samples (bandVectors d sid b f) d
  let d2 := if above then closeSeam sid c b (frameFilters d sid f) d1 else d1
  if below then closeSeam sid c (b + 1) (frameFilters d sid f) d2 else d2
/-- The first error among a band's parts. -/
def bandError (b : Band) : Nat := ((b.parts.map fun p => p.result.error).find? (· != 0)).getD 0
/-- Does decoding wait for a supported sequence header or parameter set after band `b` (R158)? -/
def waitsHeader (b : Band) (before : Bool) : Bool :=
  if bandError b = 2 || bandError b = 3 then true
  else before && !(b.parts.any fun p => p.result.hdrBits != 0)
/-- What decoding a band leaves behind: whether the decoder now waits for a header, and a frame outside the band layout is not
decoded (R158). -/
def markDecoded (sid c b : Nat) (f : Frame) (d : Dev) : Dev :=
  if encodes d sid then d
  else
    let d1 := updStream sid (fun x => { x with noDecode := waitsHeader (f.band b) x.noDecode }) d
    if bandError (f.band b) = 4 then updFrame sid c (fun x => { x with invalid := true }) d1 else d1
/-- A Decode session's output buffer takes the band in 10 bits; on a decode error, in a frame that is not decoded and while a
supported header is awaited the rows of the last output frame stay (R158). -/
def outputBand (sid c b : Nat) (f : Frame) (samples : List Nat) (d : Dev) : Dev :=
  let d1 := markDecoded sid c b f d
  if isLining sid || prm d sid 0x3010 ≠ 1 || bandError (f.band b) ≠ 0 || f.invalid || (stream d1 sid).noDecode then d1
  else updStream sid (fun x => { x with
    output := tabSet x.output b (if prm d sid 0x3013 = 8 then samples.map (4 * ·) else samples) }) d1
/-- The unit of the codec's syntax that carries a band (R129, R147). -/
def bandUnit (d : Dev) (sid b : Nat) (f : Frame) : BandUnit :=
  let codec := prm d sid 0x3011
  let w := prm d sid 0x3014
  let x := f.band b
  let rows := codedRows codec (bandRows d sid b)
  let across := if isAv1 codec then f.split else if isHevc codec then ceilDiv w 64 else ceilDiv w 16
  let deep := if isAvc codec then ceilDiv rows 16 else 1
  let first := if isAvc codec then 4 * b * across else b * across
  let q := fun y : Band => (y.plan.map (·.q)).getD 0
  { first := first, last := first + across * deep - 1, rows := rows, repeated := rows - bandRows d sid b, qDelta := q x - q (f.band 0)
    kind := if f.intra then 0 else if isHevc codec && decide (2 ≤ f.effort) then 2 else 1
    lists := ([x.refs.bind (·.primary), x.refs.bind (·.secondary)].filterMap id).filterMap fun c => f.header.declared.idxOf? c }
/-- The band takes its record and bitstream when its closing part has written them (R142). -/
def closeBand (d : Dev) (sid c b : Nat) (f : Frame) (recon : List Nat) : Band :=
  let x := f.band b
  let rs := x.parts.map (·.result)
  let given := f.spliced || !encodes d sid
  let r := makeRecord d sid c b f (reconCrc recon)
  { x with written := true, record := r, image := recordBytes r,
           data := if given then x.data else joinData rs, size := if given then x.size else sumBy (·.size) rs,
           units := if given && !x.units.isEmpty then x.units else joinUnits (rs.map unitsOf)
           unit := if given then {} else bandUnit d sid b f }

end Sys2Proof.Machine
end

