-- ==== Sys2Proof/Machine/Loom.lean ====
section
/-! DEFINITION. The Loom (3): eligibility, dispatch order, the assignment pass, early start, take-over, completions, ordered
release. -/
namespace Sys2Proof.Machine

/-- Changes the Loom. -/
def setLoom (x : Loom) (d : Dev) : Dev := { d with loom := x }
/-- Does the Loom run its passes (LOOM_CTRL, R485)? -/
def dispatching (d : Dev) : Bool := fld d Reg.loomCtrl.base 0 1 == 1 && !d.flt.safe

/-! ## Order (R71) -/

/-- Is a list of keys before another one? -/
def keyBefore : List Nat → List Nat → Bool
  | a :: s, b :: t => if a < b then true else if b < a then false else keyBefore s t
  | [], _ :: _ => true
  | _, [] => false
/-- Puts an element in its place. -/
def insertKey {α : Type} (x : List Nat × α) : List (List Nat × α) → List (List Nat × α)
  | [] => [x]
  | y :: t => if keyBefore x.1 y.1 then x :: y :: t else y :: insertKey x t
/-- Sorts by keys. -/
def sortKeys {α : Type} (l : List (List Nat × α)) : List (List Nat × α) := l.foldr insertKey []

/-- The class of a part (R71 key 1). -/
def jobClass (d : Dev) (j : Job) (p : Part) : Nat :=
  if isLining j.stream then 0
  else if isMezz j.stream || objGet d 0x3010 (slotOf j.stream) == 1 then (if 4 ≤ p.carried then 0 else 1) else 0
/-- The keys of R71. -/
def jobKey (d : Dev) (f : Frame) (j : Job) : List Nat :=
  let b := f.band j.band
  let s := slotOf j.stream
  let prio := if isLining j.stream then (lining d s).prio else inForce d s 0x301D
  let mode := if isLining j.stream then prm d j.stream 0x3018 else inForce d s 0x3018
  [jobClass d j (b.parts.getD j.part {}), b.ready, prio, mode, b2n (isLining j.stream), s, j.frame, j.band, j.part, j.stream]

/-! ## Candidates and eligibility (R70) -/

/-- R70 item 2: RUNNING or DRAINING; a lining that decodes (R202: also while DEGRADED, log 19). -/
def streamRuns (d : Dev) (sid : Nat) : Bool :=
  if isLining sid then
    let l := sid - 512
    (linState d l == 1 || linState d l == 2 || linState d l == 3) && !(lining d l).stopped
  else (sess d (slotOf sid)).st == .running || (sess d (slotOf sid)).st == .draining
/-- Is the band in the snapshot of the boundary at `t0` (R25, R99)? -/
def inSnapshot (t0 : Nat) (b : Band) : Bool := b.st != 0 && (decide (b.stamp < t0) || (b.st == 2 && decide (b.stamp ≤ t0)))
/-- May the frame of a stream that waits start at stitch n, the cut-off of its band 0 being `snap` (R65, R70 item 5, R97)? -/
def mayStart (d : Dev) (sid n : Nat) (snap : Band → Bool) : Bool :=
  let x := stream d sid
  streamRuns d sid && allAssigned x &&
    if isMezz sid then
      match nextFrame x with
      | none => false
      | some f => snap (f.band 0)
    else if isLining sid then false
    else nextReady d (slotOf sid) n snap && (sess d (slotOf sid)).splice.isNone && objGet d 0x3010 (slotOf sid) == 0
/-- The bands of a frame in the snapshot with a part that waits: their jobs. -/
def frameJobs (sid c : Nat) (snap : Band → Bool) (f : Frame) : List Job :=
  (List.range f.bands.length).flatMap fun b =>
    let x := f.band b
    if !snap x || x.noTile then []
    else ((List.range x.parts.length).filter fun i => !(x.parts.getD i {}).assigned).map fun i =>
      { stream := sid, frame := c, band := b, part := i }
/-- The started frames of a stream, and the one that may start, as it is once started. -/
def framesOf (d : Dev) (sid n : Nat) (snap : Band → Bool) : List (Nat × Frame) :=
  let started := (stream d sid).frames.filterMap fun f => f.count.map fun c => (c, f)
  match nextFrame (stream d sid) with
  | none => started
  | some g =>
    let c := if isMezz sid then g.number else (stream d sid).count
    if isLining sid || !snap (g.band 0) then started
    else if isMezz sid || nextReady d (slotOf sid) n snap then
      match frameAt (asStarted d sid c n) sid c with
      | some f => started ++ [(c, f)]
      | none => started
    else started
/-- Every part of the snapshot that waits, in dispatch order. -/
def allJobs (d : Dev) (n : Nat) (snap : Band → Bool) : List Job :=
  (sortKeys ((tabKeys d.streams).flatMap fun sid =>
    if !streamRuns d sid then []
    else (framesOf d sid n snap).flatMap fun p => (frameJobs sid p.1 snap p.2).map fun j => (jobKey d p.2 j, j))).map (·.2)
/-- The references a band takes, fixed or as they would be chosen now. -/
def bandRefs (d : Dev) (sid : Nat) (f : Frame) (b : Band) : Refs := b.refs.getD (chooseRefs d sid f b)
/-- R70 item 4. -/
def refsReady (d : Dev) (sid b : Nat) (f : Frame) : Bool := (bandRefs d sid f (f.band b)).list.all (refReady d sid b)
/-- Does a stream's band need a plan (R70 item 3)? -/
def needsPlan (d : Dev) (sid : Nat) (f : Frame) : Bool := encodes d sid && !f.spliced
/-- Is the part of a started frame eligible (R70)? -/
def eligible (d : Dev) (j : Job) : Bool :=
  match frameAt d j.stream j.frame with
  | none => false
  | some f =>
    let b := f.band j.band
    streamRuns d j.stream && b.st != 0 && !(b.parts.getD j.part {}).assigned && refsReady d j.stream j.band f &&
      (!needsPlan d j.stream f || b.plan.isSome)

/-! ## Plans of a boundary (R172) -/

/-- The bands of a list of jobs, each once, in order. -/
def bandsOf (l : List Job) : List (Nat × Nat × Nat) := (l.map fun j => (j.stream, j.frame, j.band)).eraseDups
/-- Is the band to be planned: items 1, 2 and 4 of R70, no plan yet? -/
def planWanted (d : Dev) (n : Nat) (e : Nat × Nat × Nat) : Bool :=
  let p := asStarted d e.1 e.2.1 n
  match frameAt p e.1 e.2.1 with
  | none => false
  | some f => needsPlan d e.1 f && (f.band e.2.2).plan.isNone && refsReady p e.1 e.2.2 f
/-- Plans bands in order while the limit lasts: how many were planned, whether one was left over. -/
def planList (n : Nat) : List (Nat × Nat × Nat) → Nat → Nat → Dev → Dev × Nat × Bool
  | [], _, k, d => (d, k, false)
  | e :: t, lim, k, d =>
    if !planWanted d n e then planList n t lim k d
    else if lim ≤ k then (d, k, true)
    else planList n t lim (k + 1) (planBand e.1 e.2.1 e.2.2 n d)
/-- Step 3 of R24: the plans of the boundary (R172, LOOM_RC_STAT). -/
def planStage (n : Nat) (snap : Band → Bool) (d : Dev) : Dev :=
  let r := planList n (bandsOf (allJobs d n snap)) (fld d Reg.loomRcCtrl.base 0 9) 0 d
  let d1 := r.1
  let d2 := freeNext (setLoom { d1.loom with planned := r.2.1, atLimit := r.2.2, planTime := freeBits 12 d1 } d1)
  if r.2.2 then
    pairSet Reg.loomRcLimitCntHi.base Reg.loomRcLimitCntLo.base
      (pairGet d2 Reg.loomRcLimitCntHi.base Reg.loomRcLimitCntLo.base + 1) d2
  else d2

/-! ## Placing (R72 to R75) -/

/-- The coding time of a part (R72). -/
def jobTime (d : Dev) (j : Job) : Nat :=
  match frameAt d j.stream j.frame with
  | none => 0
  | some f =>
    let px := partPixels d j.stream f.split j.band j.part
    if f.spliced then ceilDiv px 6 else codeTime d j.stream f.effort px
/-- The tile limit of a pass (R73). -/
def passLimit (d : Dev) : Nat := if objNow d 0x1102 0 = 1 then tileBudget (objNow d 0x1103 0) (objNow d 0x1105 0) else 96
/-- active_tiles (R73): tiles with a current part, hung and contained ones too; an idle reserved spare is none (log 104). -/
def activeTiles (d : Dev) : Nat := (d.tiles.filter fun e => e.2.cur.isSome).length
/-- Is the tile idle (nothing in either position)? -/
def Tile.idle (x : Tile) : Bool := x.usable && x.cur.isNone && x.nxt.isNone && x.awaits.isNone
/-- The lowest-numbered idle usable tile that takes so much coding time, under the tile limit. -/
def idleTile (d : Dev) (time : Nat) : Option Nat :=
  if passLimit d ≤ activeTiles d then none
  else (d.tiles.find? fun e => e.2.idle && decide (time ≤ e.2.budget)).map (·.1)
/-- The busy tile whose next position takes the part: the earliest projected finish before `lim`, then the lowest number. -/
def nextTile (d : Dev) (time lim : Nat) : Option Nat :=
  (d.tiles.foldl (fun a e =>
    let x := e.2
    if x.usable && x.cur.isSome && x.nxt.isNone && !x.late && decide (9 * d.tbs.ns < x.deadline) && decide (time ≤ x.budget) &&
        decide (x.finish < lim) then
      match a with
      | none => some (e.1, x.finish)
      | some (_, f) => if x.finish < f then some (e.1, x.finish) else a
    else a) (none : Option (Nat × Nat))).map (·.1)
/-- The references, the plan and the past of a band are fixed at the assignment of its first part (R127, R156, R172). -/
def fixBand (j : Job) (d : Dev) : Dev :=
  match frameAt d j.stream j.frame with
  | none => d
  | some f =>
    let b := f.band j.band
    let r := bandRefs d j.stream f b
    let d1 := updBand j.stream j.frame j.band (fun x => { x with refs := some r, plan := x.plan.map fun p => { p with fixed := true } }) d
    let d2 := updPast j.stream j.frame (fun p => { p with refs := r.list.foldl (fun a c => if a.contains c then a else a ++ [c]) p.refs }) d1
    if isLining j.stream || f.spliced then d2
    else
      let d3 := if !isMezz j.stream && r.primary.isSome && r.primary != (stream d j.stream).recent then
        objCount 32 0x5043 (slotOf j.stream) 1 d2 else d2
      if r.leadIn then triggerCycle j.stream d3 else d3
/-- The part counts as assigned (R73). -/
def markAssigned (j : Job) (d : Dev) : Dev :=
  let d1 := if (bandAt d j.stream j.frame j.band).refs.isNone || !((bandAt d j.stream j.frame j.band).plan.map (·.fixed)).getD true
    then fixBand j d else d
  updPart j (fun p => { p with assigned := true }) d1
/-- The part enters the current position of an idle tile; its deadline is stitch n + 1 (R73, R75, R78). -/
def placeCurrent (t : Nat) (j : Job) (n : Nat) (d : Dev) : Dev :=
  let tm := jobTime d j
  markAssigned j (updTile t (fun x => { x with
    cur := some j, phase := 0, start := d.tbs.ns, finish := d.tbs.ns + 6000 + tm, deadline := (n + 1) * 2500000,
    late := false, latch := x.latch ++ [.assignCurrent] }) d)
/-- The part enters the next position of a busy tile (R73). -/
def placeNext (t : Nat) (j : Job) (d : Dev) : Dev :=
  markAssigned j (updTile t (fun x => { x with nxt := some j, latch := x.latch ++ [.assignNext] }) d)
/-- Interrupt source 2, once a stitch (R77, R79). -/
def raiseOverrun (d : Dev) : Dev :=
  if d.loom.overrunAt = some d.tbs.cnt then d else raise 2 (setLoom { d.loom with overrunAt := some d.tbs.cnt } d)
/-- The overrun count of a stream (R77, R79). -/
def countOverrun (sid : Nat) (d : Dev) : Dev :=
  if isLining sid then objCount 32 0x5012 (sid - 512) 1 d else objCount 32 0x5010 (slotOf sid) 1 d
/-- A part is carried; past a second boundary it counts as an overrun (R77). -/
def carryPart (j : Job) (d : Dev) : Dev :=
  let d1 := updPart j (fun p => { p with carried := p.carried + 1 }) d
  if (partAt d1 j).carried = 2 then raiseOverrun (countOverrun j.stream d1) else d1
/-- PAUSE takes effect at a frame boundary (R51, R100, R241). -/
def pauseNow (s : Nat) (d : Dev) : Dev :=
  let d1 := dropUnstarted s (endSplice s d)
  tellState s (setSess s { sess d1 s with st := .paused, pend := 0 } d1)
/-- The frame of a stream that waits starts, or PAUSE takes effect in its place (R52, R65). -/
def startFrame (sid n : Nat) (d : Dev) : Dev :=
  if isMezz sid then startMezz (slotOf sid) n d
  else
    let s := slotOf sid
    if (sess d s).pend = 6 && (sess d s).pendSeen then pauseNow s d else ringSync s (startLive s n d)
/-- One part of the pass (R73): with how many were carried. A part whose band PLAN_LIMIT left without a plan is carried (R77, R172). -/
def passJob (n lim : Nat) (snap : Band → Bool) (j : Job) (a : Dev × Nat) : Dev × Nat :=
  let d0 := if (frameAt a.1 j.stream j.frame).isNone && j.band == 0 && j.part == 0 && mayStart a.1 j.stream n snap then
    startFrame j.stream n a.1 else a.1
  if planWanted d0 n (j.stream, j.frame, j.band) then (carryPart j d0, a.2 + 1)
  else if !eligible d0 j then (d0, a.2)
  else
    let tm := jobTime d0 j
    match idleTile d0 tm with
    | some t => (placeCurrent t j n d0, a.2)
    | none =>
      match nextTile d0 tm lim with
      | some t => (placeNext t j d0, a.2)
      | none => (carryPart j d0, a.2 + 1)
/-- Step 4 of R24: the assignment pass of stitch n (R73, LOOM_CARRY). -/
def assignPass (n : Nat) (snap : Band → Bool) (d : Dev) : Dev :=
  let r := (allJobs d n snap).foldl (fun a j => passJob n (stitchNs (n + 1)) snap j a) (d, 0)
  let d1 := setLoom { r.1.loom with carried := r.2 } r.1
  let key := Reg.loomCarry.base
  regSet key (setBits (setBits (regGet d1 key) 0 16 r.2) 16 16 (max (bits (regGet d1 key) 16 16) r.2)) d1
/-- Does a part wait in a next position? -/
def nextWaits (d : Dev) : Bool := d.tiles.any fun e => e.2.nxt.isSome
/-- A candidate of early start is planned, and dispatched if R75 lets it (R173), to the lowest-numbered idle usable tile, under
R73's tile limit (log 100). -/
def earlyJob (n : Nat) (snap : Band → Bool) (j : Job) (d : Dev) : Dev :=
  let waits := (frameAt d j.stream j.frame).isNone
  if waits && !(j.band == 0 && mayStart d j.stream n snap) then d
  else
    let d1 := if planWanted d n (j.stream, j.frame, j.band) then planBand j.stream j.frame j.band n d else d
    let d2 := if waits then startFrame j.stream n d1 else d1
    if !eligible d2 j || nextWaits d2 then d1
    else
      let tm := jobTime d2 j
      if d2.tbs.ns + 600 + 6000 + tm ≤ stitchNs n + 250000 then
        match idleTile d2 tm with
        | some t => placeCurrent t j n d2
        | none => d1
      else d1
/-- Early start (R75, R173): parts not in the snapshot of the last boundary, in dispatch order. -/
def earlyStart (d : Dev) : Dev :=
  if objNow d 0x1310 0 = 1 && dispatching d then
    let n := d.tbs.presented
    let t0 := stitchNs n
    let snap := fun b : Band => b.st != 0 && !inSnapshot t0 b
    let any := fun b : Band => b.st != 0
    let jobs := (allJobs d n any).filter fun j =>
      match (framesOf d j.stream n any).find? fun p => p.1 == j.frame with
      | some p => snap (p.2.band j.band)
      | none => false
    if jobs.isEmpty then d else forEach (tabKeys d.sess) tellChanges (forEach jobs (earlyJob n any) d)
  else d
/-- The tile starts a part from a next position; `allow` is the start allowance of R72 (R74, R78). -/
def startNext (t : Nat) (j : Job) (loaded : Bool) (allow : Nat) (d : Dev) : Dev :=
  let tm := jobTime d j
  updTile t (fun x => { x with
    cur := some j, nxt := none, phase := if loaded then 1 else 0, start := d.tbs.ns, finish := d.tbs.ns + allow + tm,
    deadline := 9 * d.tbs.ns + 2500000, late := false, loads := false, grant := none,
    latch := if loaded then [] else [.assignCurrent] }) d
/-- An idle tile takes over the first part in dispatch order that waits in another tile's next position (R74). -/
def takeOver (t : Nat) (d : Dev) : Dev :=
  if !(tile d t).idle then d
  else
    let l := sortKeys (d.tiles.filterMap fun e =>
      match e.2.nxt with
      | none => none
      | some j => if e.1 = t || decide ((tile d t).budget < jobTime d j) then none
          else (frameAt d j.stream j.frame).map fun f => (jobKey d f j, (e.1, j)))
    match l.head? with
    | none => d
    | some (_, (o, j)) =>
      startNext t j false 6000 (updTile o (fun x => { x with nxt := none, latch := x.latch ++ [.withdrawNext] }) d)

/-! ## Release in order (R48, R76, R164) -/

/-- The entry of a band for the capture ring (R231 to R233). -/
def capEntry (d : Dev) (s : Nat) (mezz : Bool) (f : Frame) (b : Nat) : CapEntry :=
  let x := f.band b
  let clip := b == 0 && (f.intra || match f.stripe with
    | some (i, _) => i == 0
    | none => false)
  { frame := f.count.getD 0, band := b,
    flags := b2n (b == 0) + 2 * b2n (x.record.hdrBits != 0) + 4 * b2n clip + 8 * b2n f.spliced + 16 * b2n mezz +
      32 * b2n (x.st == 2),
    layer := f.layer, stitch := f.start, rtpTs := if mezz then 0 else rtpTs d s f.start, size := x.size,
    crc := crc32 (toBytes x.data x.size), recon := x.record.crc, data := x.data, units := x.units,
    primary := x.record.primary, secondary := x.record.secondary, intra := f.intra }
/-- Does the ring of a session take the bands of this stream (R231)? -/
def ringTakes (d : Dev) (s : Nat) (mezz : Bool) : Bool :=
  match (sess d s).ring with
  | none => false
  | some r => (r.kind == 1) == mezz
/-- A band passes to the packet engine, the ring and the mirror path (R26 to R28, R76, R197). -/
def releaseBand (s : Nat) (f : Frame) (b : Nat) (d : Dev) : Dev :=
  let c := f.count.getD 0
  let x := f.band b
  let d1 := updBand (liveSid s) c b (fun y => { y with
    released := true, queued := true, plan := y.plan.map fun p => { p with left := true } }) d
  let d2 := if ringTakes d s false then capture s (capEntry d s false f b) d1 else d1
  if (sess d s).handing || (sess d s).tx.silent || objGet d 0x3010 s = 1 then d2
  else
    let first := (sess d2 s).tx.next
    let cuts := cutBand (objGet d 0x3011 s) (payloadSize d s) x.units
    let d3 := sendBand s c b f.layer x.data cuts (decide (b + 1 = f.bands.length)) d2
    mirrorBand s f.start x first cuts.length (receivers d3 s f.layer) d3
/-- The next band of a session to release: of its first frame with one that is not. -/
def nextRelease (d : Dev) (s : Nat) : Option (Frame × Nat) :=
  match (stream d (liveSid s)).frames.find? fun f => f.count.isSome && f.bands.any fun b => !b.released with
  | none => none
  | some f => ((List.range f.bands.length).find? fun b => !(f.band b).released).map fun b => (f, b)
/-- May it go (R48, R76)? -/
def releasable (f : Frame) (b : Nat) : Bool :=
  (f.band b).collected && (!f.frameMode || (f.band (f.bands.length - 1)).collected)
/-- Bands go while the next one may (R76). -/
def releaseLoop (s : Nat) : Nat → Dev → Dev
  | 0, d => d
  | fuel + 1, d =>
    match nextRelease d s with
    | none => d
    | some (f, b) => if releasable f b then releaseLoop s fuel (releaseBand s f b d) else d
/-- Mezzanine bands go to the ring in order (R76, R231). -/
def mezzLoop (s : Nat) : Nat → Dev → Dev
  | 0, d => d
  | fuel + 1, d =>
    match (stream d (mezzSid s)).frames.find? fun f => f.count.isSome && f.bands.any fun b => !b.released with
    | none => d
    | some f =>
      match (List.range f.bands.length).find? fun b => !(f.band b).released with
      | none => d
      | some b =>
        if (f.band b).collected then
          let d1 := if ringTakes d s true then capture s (capEntry d s true f b) d else d
          mezzLoop s fuel (updBand (mezzSid s) (f.count.getD 0) b (fun y => { y with released := true }) d1)
        else d
/-- The entry a Decode session plays (R243). -/
def decodeSource (d : Dev) (s : Nat) : Option Nat :=
  if objGet d 0x3010 s = 1 && objGet d 0x30B3 s != 0xFFFF then some (objGet d 0x30B3 s) else none
/-- The frames of an entry that plays. -/
def playFrames (d : Dev) (s e : Nat) : Nat :=
  let x := libEntry d (ownerOf d s) e
  if (x.st = 3 || x.st = 5) && !entryBarred d (ownerOf d s) e then x.frames else 0
/-- The last frame of what plays has ended: the splice ends, or the Decode session stops decoding (R241, R243). -/
def segmentOver (s : Nat) (d : Dev) : Dev :=
  let x := sess d s
  if !((stream d (liveSid s)).frames.all fun f => !f.spliced && f.count.isNone) then d
  else
    match x.splice, decodeSource d s with
    | some e, _ => if !x.spliceLoop && decide (playFrames d s e ≤ x.spliceNext) then endSplice s d else d
    | none, some e =>
      if x.spliceNext = playFrames d s e && (x.st == .running || x.st == .draining) then
        postTenant s 1 9 0 s e (setSess s { x with spliceNext := x.spliceNext + 1 } d)
      else d
    | none, none => d
/-- Has every packet of a session left its queues (R54)? -/
def sessionQueuesEmpty (d : Dev) (s : Nat) : Bool :=
  ((sess d s).dests.all fun e => e.2.queue.isEmpty) &&
    d.pke.ports.all fun p => p.2.queues.all fun q => q.2.all fun k => !(k.s == s && decide (k.kind ≤ 3))
/-- Is the frame in progress at the DRAIN complete, abandoned or none (R54 condition 1)? -/
def drainFrameDone (d : Dev) (s : Nat) : Bool := (sess d s).fromSuspended || (stream d (liveSid s)).frames.isEmpty
/-- Do conditions 1 and 2 of R54 hold? -/
def drainQuiet (d : Dev) (s : Nat) : Bool :=
  (sess d s).st == .draining && drainFrameDone d s && ((sess d s).fromSuspended || sessionQueuesEmpty d s)
/-- The instant at which conditions 1 and 2 of R54 first both hold is kept. -/
def noteQuiet (s : Nat) (d : Dev) : Dev :=
  if drainQuiet d s && (sess d s).quietFrom.isNone then setSess s { sess d s with quietFrom := some d.tbs.ns } d else d
/-- What follows the collection of a band of a session: release, capture, the depth (R76, R91, R105, R231). -/
def afterCollect (s : Nat) (d : Dev) : Dev :=
  let n := sumBy (fun f => f.bands.length) (stream d (liveSid s)).frames
  let m := sumBy (fun f => f.bands.length) (stream d (mezzSid s)).frames
  let d1 := mezzLoop s m (releaseLoop s n d)
  let d2 := retireFrames (liveSid s) (fun f => f.bands.all (·.released) &&
    (List.range f.bands.length).all fun b => mezzDone d1 s f b) d1
  let d3 := retireFrames (mezzSid s) (fun f => f.bands.all (·.released) &&
    ((stream d2 (liveSid s)).frames.all fun g => g.count != f.count)) d2
  noteQuiet s (segmentOver s (waterTest s d3))

/-! ## Linings (R201 to R203) -/

/-- A band of a lining is collected. -/
def liningCollected (l c : Nat) (d : Dev) : Dev :=
  let d1 := objCount 32 0x5080 l 1 d
  match frameAt d1 (liningSid l) c with
  | none => d1
  | some f => if f.bands.all (·.collected) then liningFrameDone l f d1 else d1

/-! ## Collection (R82, R158, R171) -/

/-- A decode error of a band (R158): counted and posted. -/
def decodeError (s c b err : Nat) (d : Dev) : Dev :=
  let code := if err = 1 then 0 else if err = 3 then Err.conflict.code else Err.unsupported.code
  postTenant s 1 10 code s (c % 2 ^ 32 + b * 2 ^ 32) (if err = 1 then objCount 32 0x5051 s 1 d else d)
/-- Is an earlier band of the stream not yet collected (R76)? -/
def earlierOpen (x : Stream) (c b : Nat) : Bool :=
  x.frames.any fun f => match f.count with
    | none => false
    | some k => (decide (k < c) && f.bands.any fun y => !y.collected) ||
        (k == c && (f.bands.take b).any fun y => !y.collected)
/-- The first band of a stream, in the order of R76, whose sample the model has not taken: its frame count and number. -/
def nextSample (x : Stream) : Option (Nat × Nat) :=
  x.frames.findSome? fun f =>
    match f.count with
    | none => none
    | some c => ((List.range f.bands.length).find? fun b => !(f.band b).sampled).map fun b => (c, b)
/-- The model takes the samples of the bands that are collected, in the order of R76 (R171). -/
def kappaLoop (sid : Nat) : Nat → Dev → Dev
  | 0, d => d
  | fuel + 1, d =>
    match nextSample (stream d sid) with
    | none => d
    | some (c, b) =>
      let x := bandAt d sid c b
      if x.collected then
        kappaLoop sid fuel (updBand sid c b (fun y => { y with sampled := true })
          (if encodes d sid && x.plan.isSome then kappaUpdate sid x d else d))
      else d
/-- A band is collected: the model is updated, the band is released in order (R76, R171). -/
def bandCollected (sid c b : Nat) (d : Dev) : Dev :=
  let d1 := updBand sid c b (fun x => { x with collected := true }) d
  let x := bandAt d1 sid c b
  if isLining sid then liningCollected (sid - 512) c d1
  else
    let s := slotOf sid
    let n := sumBy (fun f => f.bands.length) (stream d1 sid).frames
    let d2 := updStream sid (fun y => { y with lastRec := tabSet y.lastRec b x.record }) (kappaLoop sid n d1)
    let again := bandError x == 4 && ((frameAt d sid c).map fun f => f.bands.any fun y => y.collected && bandError y == 4).getD false
    let d3 := if objGet d2 0x3010 s = 1 && bandError x ≠ 0 && !again then decodeError s c b (bandError x) d2 else d2
    let held := !isMezz sid && earlierOpen (stream d3 sid) c b
    afterCollect s (if held then regCount Reg.loomOrderHold.base 1 d3 else d3)
/-- The Loom collects one part (R82). -/
def collectJob (j : Job) (d : Dev) : Dev :=
  if !partWanted d j then d
  else
    let d1 := updPart j (fun p => { p with collected := true }) d
    let b := bandAt d1 j.stream j.frame j.band
    if b.parts.all (·.collected) then bandCollected j.stream j.frame j.band d1 else d1

end Sys2Proof.Machine
end

