-- ==== Sys2Proof/Machine/Aperture.lean ====
section
/-! DEFINITION. What writers and drivers do at the intake: aperture accesses, doorbells, credits, substitution, sticky bits
(4). -/
namespace Sys2Proof.Machine

/-- Bytes of a write in 64-byte units: how many units it touches from the first one's base. -/
def unitsTouched (off len : Nat) : Nat := if len = 0 then 0 else (off + len - 1) / 64 - off / 64 + 1
/-- APERTURE_WRITE (R90 to R92): the units in address order. -/
def apertureWrite (t off : Nat) (tee : Bool) (en : List Bool) (v : Nat) (d : Dev) : Dev :=
  hostGate (.vf t tee) (writeUnits t (off / 64 * 64) en off v (unitsTouched off en.length) 0) d
/-- APERTURE_WRITE (R90). -/
def execApertureWrite (tenant offset : Nat) (tee : Bool) (enabled : List Bool) (data now : Nat) (s : State) :
    Host.Outcome State Fault Refusal :=
  actOn (isSlot tenant) (fun d => apertureWrite tenant offset tee enabled data (atTime now d)) s
/-- APERTURE_READ (R92): completed with zeros, and counted. -/
def execApertureRead (tenant offset : Nat) (tee : Bool) (now : Nat) (s : State) : Host.Outcome State Fault Refusal :=
  actOn (isSlot tenant && decide (offset < 2 ^ 64)) (fun d =>
    hostGate (.vf tenant tee) (fun d => emit (.apertureData tenant offset 0) (objCount 32 0x5030 tenant 1 d))
      (atTime now d)) s

/-- BAND_DOORBELL (R94 to R96): accepted or rejected; an accepted band may start at once (R75). -/
def bandDoorbell (t w : Nat) (d : Dev) : Dev :=
  match lowest (doorbellErrs d t w) with
  | some e => doorbellReject t w e d
  | none => earlyStart (doorbellAccept w d)
/-- BAND_DOORBELL (R94). -/
def execBandDoorbell (tenant : Nat) (tee : Bool) (word now : Nat) (s : State) : Host.Outcome State Fault Refusal :=
  actOn (isSlot tenant) (fun d => hostGate (.vf tenant tee) (bandDoorbell tenant (word % 2 ^ 32)) (atTime now d)) s

/-- FRAME_CREDIT (R97): the credit of the present stitch if it is due and not given, else that of the coming one. -/
def frameCredit (s : Nat) (d : Dev) : Dev :=
  giveCredit s (if creditDue d s d.tbs.cnt then d.tbs.cnt else d.tbs.cnt + 1) d
/-- FRAME_CREDIT (R97). -/
def execFrameCredit (slot : Nat) (s : State) : Host.Outcome State Fault Refusal := actOn (isSlot slot) (frameCredit slot) s
/-- BAND_SUBSTITUTION (R99): at the missing-band limit. -/
def execBandSubstitution (slot now : Nat) (s : State) : Host.Outcome State Fault Refusal :=
  actOn (isSlot slot) (fun d => let d0 := atTime now d; substitute slot (stitchesIn d0.tbs.ns) d0) s

/-- WATERMARK_FLAG_CLEAR: a write of 1 to HIGH_X or LOW_X of DMA_INTAKE_WM[s] clears it (R105). -/
def flagClear (s mask : Nat) (d : Dev) : Dev :=
  let x := sess d s
  setSess s { x with highX := x.highX && !bit mask 10, lowX := x.lowX && !bit mask 11 } d
/-- WATERMARK_FLAG_CLEAR (R105). -/
def execWatermarkFlagClear (who : Caller) (slot mask : Nat) (s : State) : Host.Outcome State Fault Refusal :=
  actOn (isSlot slot) (regGate who (Reg.dmaIntakeWm.at slot) false (flagClear slot mask)) s
/-- HOLD_ASSERT_CLEAR: a write of 1 to a bit of ASSERT_X of DMA_HOLD_STATUS clears it. -/
def assertClear (mask : Nat) (d : Dev) : Dev :=
  let key := Reg.dmaHoldStatus.base
  regSet key (regGet d key - Nat.land (regGet d key) (bits mask 8 8 * 256)) d
/-- HOLD_ASSERT_CLEAR (R106). -/
def execHoldAssertClear (who : Caller) (mask : Nat) (s : State) : Host.Outcome State Fault Refusal :=
  act (regGate who Reg.dmaHoldStatus.base false (assertClear mask)) s

end Sys2Proof.Machine
end

