-- ==== Sys2Proof/Machine/SessionOps.lean ====
section
/-! DEFINITION. What the session commands reserve and release (2: R51 to R59; 4: R85; 10: R269, R271; 13: R327, R333), the
erasure of keys (17: R440) and the loss of a function's mailbox (16: R414). -/
namespace Sys2Proof.Machine

/-! ## Buffers (R333) -/

/-- Bytes of a reconstruction and of a coarse plane with its size table, for a picture (R109, R145). -/
def reconBytes (w h : Nat) : Nat := ceilDiv w 16 * ceilDiv h 8 * 256
/-- The coarse plane and the size table. -/
def coarseBytes (w h : Nat) : Nat := ceilDiv w 4 * ceilDiv h 4 + ceilDiv (ceilDiv w 16 * ceilDiv h 8) 2
/-- The blocks of N + 1 reference frames. -/
def frameBlocks (pool : Nat → Nat) (n w h : Nat) (recon coarse : Nat → Use) : List (Nat × Use) :=
  ((List.range (n + 1)).map fun i => (pool (sizeCode (reconBytes w h)), recon i)) ++
    (List.range (n + 1)).map fun i => (pool (sizeCode (coarseBytes w h)), coarse i)
/-- The references of a parameter set: N of R124. -/
def slotsOfParams (p : Params) : Nat := slotsFor (p 0x3011) (p 0x3012) (p 0x3014) (p 0x3015)
/-- 1 MiB blocks of the retransmission store (R269). -/
def storeBlocks (p : Params) : Nat := ceilDiv (ceilDiv (p 0x30C0 * max (p 0x3071) (p 0x3072) * 9) 64) 1048576
/-- The blocks of a capture ring (R230). -/
def ringUses (s units : Nat) : List (Nat × Use) := List.replicate (ringBlocks units) (ringCode units, .capture s)
/-- Blocks for the references of a Mezzanine encode (R333). -/
def mezzBlocks (s : Nat) (p : Params) : List (Nat × Use) :=
  frameBlocks id (slotsOfParams p) (p 0x3014) (p 0x3015) (.mezzRecon s) (.mezzCoarse s)
/-- The blocks that ARM reserves for the tenant, in table order (R333); the destination queues come with their entries. -/
def blocksFor (d : Dev) (s : Nat) (p : Params) : List (Nat × Use) :=
  let kind := p 0x3010
  (if kind = 0 then (sizeCodes (windowSize p)).map fun c => (c, Use.intake s) else []) ++
    (if kind ≠ 2 then
      frameBlocks (fun c => devicePool d (8 + c)) (slotsOfParams p) (p 0x3014) (p 0x3015) (.recon s) (.coarse s)
    else []) ++
    (if p 0x301A = 2 then mezzBlocks s p else []) ++
    (if kind ≠ 2 then [(devicePool d 9, Use.save s)] else []) ++
    (if kind ≠ 1 then List.replicate (storeBlocks p) (2, Use.store s) else []) ++
    (if p 0x301A ≠ 0 then ringUses s (p 0x30A0) else [])
/-- 4 MiB blocks of the mirror store: the mirror hold at the session's maximum rate (R198, R333). -/
def mirrorBlocks (d : Dev) (s : Nat) (p : Params) : List (Nat × Use) :=
  if p 0x301B = 1 then
    List.replicate (max 1 (ceilDiv (max (p 0x3071) (p 0x3072) * 125 * objGet d 0x1407 0) (3600 * 4194304)))
      (3, .mirrorStore s)
  else []

/-- Where ARM places the window of a session (R85). -/
def placeWindow (d : Dev) (s : Nat) (p : Params) : Option Nat :=
  if p 0x3010 = 0 then
    placeIn (windowsOf d (ownerOf d s) s) (2 ^ (link d (tenantLink d (ownerOf d s))).barNow * 1048576) (windowSize p)
  else none
/-- Has step 9 of R426 been completed? -/
def startupDone (d : Dev) : Bool := decide (9 ≤ objGet d 0x1C01 0) && decide (objGet d 0x1C01 0 < 10) && d.pwr.booted
/-- The blocks of an ARM are held: the tenant's, then the device's own. -/
def holdBlocks (d : Dev) (s : Nat) (p : Params) : Option Dev :=
  (allocAll (ownerOf d s) (blocksFor d s p) d).bind (allocAll 257 (mirrorBlocks d s p))

/-! ## What is asked of a session -/

/-- Has an enabled destination a stream key (R51)? -/
def keyedDest (d : Dev) (s : Nat) : Bool :=
  (List.range 64).any fun e =>
    bit (objGet d (0x3100 + e) s) 0 && ((dest d s e).key.isSome || (dest d s e).newKey.isSome)
/-- Is a block out of reach: on a frozen channel, and not served by a mirror copy (R342)? -/
def blockFrozen (d : Dev) (b : Block) : Bool :=
  if isMirrored b.pool then
    let p := pairState d (b.chan / 2)
    p == 4 || (p == 0 && (chanState d b.chan == 5 || chanState d (b.chan + 1) == 5) && !isArmed d 8)
  else chanState d b.chan == 5
/-- Does a reserved buffer of a session, or a copy of one, lie on a frozen channel (R51)? -/
def onFrozen (d : Dev) (s : Nat) : Bool :=
  d.wrd.blocks.any fun e => !e.2.quarantined && e.2.use.session? == some s &&
    (chanState d e.2.chan == 5 || (isMirrored e.2.pool && chanState d (e.2.chan + 1) == 5))
/-- Does a reserved buffer of a session lie on a frozen channel, or wait for its replacement (R51, R345)? -/
def sessionFrozen (d : Dev) (s : Nat) : Bool :=
  d.wrd.blocks.any (fun e => !e.2.quarantined && e.2.use.session? == some s && blockFrozen d e.2) ||
    d.wrd.wanted.any fun e => e.2.2.session? == some s
/-! ## Starting (R259) -/

/-- SSRC, the first sequence number and TS_BASE are drawn; ROC is 0 (R259). -/
def drawTransport (s : Nat) (d : Dev) : Dev :=
  let ssrc := rngBits 32 d
  let d1 := rngNext d
  let seq := rngBits 16 d1
  let d2 := rngNext d1
  rngNext (setSess s { sess d2 s with tx := { ssrc := ssrc, next := seq, tsBase := rngBits 32 d2 }, lastMedia := none } d2)

/-! ## Ending -/

/-- The frame bytes of an SRTCP packet of `n` bytes before its index and tag (R260; RFC 3711). -/
def rtcpBytes (entry n : Nat) : Nat :=
  18 + 4 * byteAt entry 2 + (if bit entry 1 then 40 else 20) + 8 + n + 20
/-- A BYE of each keyed destination enters the Control class (R271): an empty receiver report and a BYE (log 20). -/
def sendByes (s : Nat) (d : Dev) : Dev :=
  if (sess d s).tx.silent then d
  else
    forEach ((enabledDests d s).filter fun e => (dest d s e).key.isSome) (fun e d =>
      let v := destEntry d s e
      let n := rtcpBytes v 16
      let d1 := setDest s e { dest d s e with srtcp := (dest d s e).srtcp + 1 } d
      enterClass (byteAt v 1) 2 { kind := 3, s := s, e := e, seq := (dest d s e).srtcp, bytes := n, cost := n } d1) d

/-- The freezes that wait find no ring any more: their entries become FREE (R235). -/
def refuseFreezes (s : Nat) (d : Dev) : Dev :=
  forEach (sess d s).freezes (fun z d => postTenant s 1 8 5 s z.e (libState (ownerOf d s) z.e {} d))
    (setSess s { sess d s with freezes := [] } d)

/-- Every reservation of a session is released, its destinations and stream keys are removed, what was in progress is
dropped (R51, R54, R59, R105, R230, R255). -/
def dropReservations (s : Nat) (d : Dev) : Dev :=
  let d1 := forEach (enabledDests d s) (fun e d => disableDest s e (destEntry d s e) d) (refuseFreezes s d)
  let d2 := setStream (mezzSid s) {} (setStream (liveSid s) {} d1)
  let d3 := releaseUse (fun u => u.session? == some s) (intakeOff s d2)
  let d4 := { d3 with
    objs := d3.objs.filter fun e => !(e.1 % 256 == s && decide (0x3100 ≤ e.1 / 256) && decide (e.1 / 256 < 0x3180))
    heldStitch := d3.heldStitch.filter fun e =>
      !(e.1 % 256 == s && decide (0x3100 ≤ e.1 / 256) && decide (e.1 / 256 < 0x3180))
    pke := { d3.pke with
      destWaits := d3.pke.destWaits.filter fun w => w.1 != s
      candidates := d3.pke.candidates.filter fun c => c.g / 64 != s
      ports := d3.pke.ports.map fun p =>
        (p.1, { p.2 with queues := p.2.queues.map fun q => (q.1, q.2.filter fun k => !(k.s == s && decide (k.kind ≤ 2))) }) }
    ladder := tabErase d3.ladder s }
  let x := sess d4 s
  setSess s { st := x.st, refN := x.refN, armWait := x.armWait, kept := x.kept, mseq := x.mseq, xcount := x.xcount } d4

/-- The lining that a standby slot was promoted from is released (R201). -/
def dropPromoted (s : Nat) (d : Dev) : Dev :=
  match (activeLinings d).find? fun l => linState d l == 4 && linStandby d l == s with
  | none => d
  | some l => freeLining l d

/-- A session returns to DEFINED (R51, R54, R85, R105). -/
def toDefined (s : Nat) (d : Dev) : Dev :=
  let d1 := dropReservations s (closeLining s (endSplice s d))
  setSess s { sess d1 s with st := .defined } d1

/-- A session slot returns to FREE: its objects take their defaults, but for its owner and its HOLD_N mapping (R44, R51,
R105). -/
def toFree (s : Nat) (d : Dev) : Dev :=
  let d1 := dropReservations s (dropUndispatched s (closeLining s (endSplice s d)))
  let mine := fun k : Nat => k % 256 == s && decide (0x3001 ≤ k / 256) && decide (k / 256 < 0x4000) && k / 256 != 0x3036
  let d2 := { d1 with objs := d1.objs.filter fun e => !mine e.1, heldStitch := d1.heldStitch.filter fun e => !mine e.1 }
  dropPromoted s (setSess s { kept := (sess d2 s).kept } d2)

/-- Session counters restart when a slot leaves FREE. -/
def restartStats (s : Nat) (d : Dev) : Dev :=
  { d with objs := d.objs.filter fun e => !(e.1 % 256 == s && statOf (e.1 / 256) == .session) }

/-! ## Functions -/

/-- Is a function locked under TDISP (R38, R435)? -/
def isLocked (d : Dev) (fn : Nat) : Bool := tabGet 0 d.sec.tdisp fn != 0

/-- A tenant's keys are erased (R437, R440): the root key and every derived one, segment keys, stream keys; the last
counters of its context are 0 (R409). The salt stays while the slot holds blocks (R446). -/
def eraseTenantKeys (t : Nat) (d : Dev) : Dev :=
  let x := tenantOf d t
  let holds := d.wrd.blocks.any fun e => e.2.owner == t && !e.2.quarantined
  let d1 := setTenant t { x with st := min x.st 1, root := none, segs := [], salt := if holds then x.salt else none } d
  clearLast t (objReset 0x2052 t d1)

/-- The counters that restart when a tenant slot is bound (15). -/
def restartTenantCounts (t : Nat) (d : Dev) : Dev := objReset 0x5120 t (objReset 0x5121 t d)

/-- A function's mailbox loses its request and its response (R414). -/
def discardMailbox (k : Nat) (d : Dev) : Dev :=
  let m := mbox d k
  let mine := fun w : Waiting => match w.who with
    | .vf t _ => t == k
    | .pf _ => k == 256
    | _ => false
  setMbox k { m with busy := false, valid := false, rspLen := 0 }
    { d with waiting := d.waiting.filter fun w => !mine w }

end Sys2Proof.Machine
end

