-- ==== Sys2Proof/Machine/Dma.lean ====
section
/-! DEFINITION. Descriptors (15: R370 to R378, R386 to R389; 17: R444): their checks, what they move, how they end, how a channel
stops. -/
namespace Sys2Proof.Machine

/-! ## Rows of a picture (R88, R89, R377) -/

/-- The first bit of sample k in a row of the format. -/
def sampleBit (fmt k : Nat) : Nat :=
  if fmt ≤ 3 then 8 * k else if fmt = 4 then 16 * k + 6 else if fmt = 5 then 16 * k else if fmt = 6 then 10 * k
  else 32 * (k / 3) + 10 * (k % 3)
/-- A stored value in the samples of the format (R89, R377). -/
def toFmt (fmt u : Nat) : Nat := if fmt ≤ 3 then min 255 ((u + 2) / 4) else u
/-- A row of stored values in the containers of the format, from sample k on; bits outside the samples are 0 (R377). -/
def packRow (fmt : Nat) : Nat → List Nat → Nat
  | _, [] => 0
  | k, u :: t => toFmt fmt u * 2 ^ sampleBit fmt k + packRow fmt (k + 1) t
/-- A luma row as stored values. -/
def lumaRow (g : Nat → Nat) (fmt off w : Nat) : List Nat := (List.range w).map (sampleAt g fmt off)
/-- The other of a pair of places. -/
def mate (k : Nat) : Nat := if k % 2 = 0 then k + 1 else k - 1
/-- A chroma row as stored values, Cb and Cr in turn: from one plane, or from two. -/
def chromaRow (g1 g2 : Nat → Nat) (fmt off w : Nat) : List Nat :=
  (List.range w).map fun k =>
    if planar fmt then
      if (k % 2 == 0) != crFirst fmt then sampleAt g1 fmt off (k / 2) else sampleAt g2 fmt off (k / 2)
    else sampleAt g1 fmt off (if crFirst fmt then mate k else k)

/-- A row to be written: its plane (0 luma, 1 chroma, 2 second chroma), its number, its bytes. -/
structure RowWrite where
  plane : Nat
  row : Nat
  len : Nat
  val : Nat
deriving DecidableEq, Repr

/-- A luma row in the format. -/
def lumaWrite (fmt w k : Nat) (l : List Nat) : RowWrite := ⟨0, k, (rowBytes fmt w).1, packRow fmt 0 l⟩
/-- Every second value of a chroma row, from the first or the second on. -/
def halfRow (odd : Nat) (l : List Nat) : List Nat := (List.range (l.length / 2)).map fun k => l.getD (2 * k + odd) 0
/-- A chroma row in the format: one plane's row or two. -/
def chromaWrites (fmt w k : Nat) (l : List Nat) : List RowWrite :=
  let n := (rowBytes fmt w).2
  let c := b2n (crFirst fmt)
  if planar fmt then
    [⟨1, k, n, packRow fmt 0 (halfRow c l)⟩, ⟨2, k, n, packRow fmt 0 (halfRow (1 - c) l)⟩]
  else
    [⟨1, k, n, packRow fmt 0 (if crFirst fmt then (List.range l.length).map fun i => l.getD (mate i) 0 else l)⟩]

/-- The rows of a picture, luma first: the source bytes of each, what is written for it. -/
def pictureRows (src dst w h : Nat) (luma chroma : Nat → List Nat) : List (Nat × List RowWrite) :=
  ((List.range h).map fun k => ((rowBytes src w).1, [lumaWrite dst w k (luma k)])) ++
    (List.range (h / 2)).map fun k =>
      ((rowBytes src w).2 * (if planar src then 2 else 1), chromaWrites dst w k (chroma k))
/-- The rows that lie whole within a count of source bytes. -/
def rowsWithin : Nat → List (Nat × List RowWrite) → List (Nat × List RowWrite)
  | _, [] => []
  | n, (b, l) :: t => if b ≤ n then (b, l) :: rowsWithin (n - b) t else []
/-- The source bytes of rows. -/
def rowsBytes (l : List (Nat × List RowWrite)) : Nat := sumBy (·.1) l
/-- Every row is written by `put`. -/
def putRows (put : RowWrite → Dev → Dev) (l : List (Nat × List RowWrite)) (d : Dev) : Dev :=
  forEach (l.flatMap (·.2)) put d

/-! ## Checks (R376, R444) -/

/-- Width and rows of a descriptor with a FORMAT. -/
def descWidth (e : Desc) : Nat := bits e.length 0 16
/-- The rows. -/
def descRows (e : Desc) : Nat := bits e.length 16 16
/-- The parts of the picture a block holds (R377): Packed 10, luma first, chroma at the next 4 KiB boundary. -/
def blockParts (e : Desc) : List Plane := slotParts 6 (descWidth e) (descRows e) false false
/-- The bytes that a descriptor covers in its block. -/
def blockSpan (e : Desc) : Nat :=
  if e.format = 255 then e.length
  else (blockParts e).foldl (fun a x => if x.rows = 0 then a else x.off + x.pitch * x.rows) 0
/-- Is a geometry one that R377 allows? -/
def geometryOk (e : Desc) : Bool :=
  descWidth e % 8 == 0 && decide (8 ≤ descWidth e) && decide (descWidth e ≤ 7680) && descRows e % 2 == 0 &&
    decide (2 ≤ descRows e) && decide (descRows e ≤ 4320)
/-- The form that every descriptor has (R374). -/
def descForm (e : Desc) : Bool :=
  !e.reservedSet && decide (e.flags < 16) && (!bit e.flags 3 || e.opcode == 3) &&
    (decide (e.format ≤ 7) || e.format == 255) && (e.format != 255 || e.hostAddrC == 0) &&
    (e.hostAddrC2 == 0 || e.format == 2 || e.format == 3 || e.format == 5)
/-- Does the range lie within the block that a handle names? -/
def blockRange (e : Desc) : Bool := decide (e.offset + blockSpan e ≤ blockSize (bits e.target 0 3))
/-- Header fields of a segment record (R444). -/
def segOffset (x : Xfer) : Nat := bytesAt x.data 0 8
/-- N of a segment record. -/
def segBytes (x : Xfer) : Nat := bytesAt x.data 8 4
/-- The band that DB names. -/
def dbBand (e : Desc) : Nat := bits e.db 8 7
/-- The rows of that band. -/
def dbRows (d : Dev) (e : Desc) : Nat := min 64 (objGet d 0x3015 e.target - 64 * dbBand e)
/-- The frame slot that DB names (R378). -/
def dbSlot (d : Dev) (e : Desc) : Nat := bits e.db 16 8 % objGet d 0x3030 e.target
/-- Does the target, and the range in it, exist? -/
def targetOk (d : Dev) (fn : Nat) (e : Desc) (x : Xfer) : Bool :=
  match e.opcode with
  | 1 | 2 => blockRange e
  | 3 => decide (e.target < 256) && decide (dbBand e < ceilDiv (objGet d 0x3015 e.target) 64)
  | 4 => decide (e.target < 64) && e.offset % 1408 == 0 && decide (e.offset + e.length ≤ (libForm d fn e.target).2)
  | 5 => decide (e.target < 256)
  | 6 => decide (e.offset < 16) && segOffset x % 64 == 0 && bytesAt x.data 12 4 == 0 &&
      decide (segOffset x + segBytes x ≤ blockSize (bits e.target 0 3))
  | 8 => decide (e.target < 8)
  | _ => e.target == 0
/-- May the opcode be used on this queue, and is the session or entry the tenant's (R375)? -/
def accessOk (d : Dev) (fn sq : Nat) (e : Desc) : Bool :=
  match e.opcode with
  | 1 | 2 => !(fn == pfFn && sq == 7)
  | 3 | 5 => decide (fn < 256) && ownerOf d e.target == fn
  | 4 | 6 => decide (fn < 256)
  | 8 => fn == pfFn && decide (sq < 7)
  | _ => fn == pfFn && sq == 7
/-- Does LENGTH, or the geometry, agree with the opcode? -/
def lengthOk (d : Dev) (e : Desc) (x : Xfer) : Bool :=
  match e.opcode with
  | 1 | 2 => e.format == 255 || geometryOk e
  | 3 => e.format != 255 && geometryOk e && descWidth e == objGet d 0x3014 e.target &&
      (descRows e == objGet d 0x3015 e.target || descRows e == dbRows d e)
  | 4 => e.format == 255
  | 5 => e.format == 255 && e.length % 64 == 0 && e.length != 0
  | 6 => e.format == 255 && e.length % 64 == 32 && decide (96 ≤ e.length) && decide (e.length ≤ 65568) &&
      segBytes x + 32 == e.length
  | 8 => e.format == 255 && decide (60 ≤ e.length) && decide (e.length ≤ objGet d 0x1A02 e.target + 26)
  | _ => e.format == 255 && decide (9216 ≤ e.length)
/-- Does the state of the session, of the entry or of the keys allow the operation (R92, R376, R444, R446)? -/
def stateOk (d : Dev) (fn : Nat) (e : Desc) (x : Xfer) : Bool :=
  let s := sess d e.target
  match e.opcode with
  | 1 | 2 => !(handleOk d fn e.target true && handleBarred d e.target)
  | 3 => s.st.windowed && s.window.isSome && intakeOn d &&
      !(d.wrd.blocks.any fun b => b.2.use == .intake e.target && blockBarred d b.2) &&
      (x.stop == 4 || !regionSealed d e.target (dbSlot d e) (dbBand e))
  | 4 => (libEntry d fn e.target).st == 3 && !entryBarred d fn e.target
  | 5 => s.st.windowed && objGet d 0x3010 e.target == 1 && objGet d 0x30B3 e.target == 0xFFFF
  | 6 => !(handleOk d fn e.target true && handleBarred d e.target) && (tabFind (tenantOf d fn).segs e.offset).isSome
  | _ => true
/-- Does the opcode name a block by handle? -/
def byHandle (e : Desc) : Bool := e.opcode == 1 || e.opcode == 2 || e.opcode == 6
/-- Does the target lie on a frozen channel? -/
def targetFrozen (d : Dev) (fn : Nat) (e : Desc) : Bool :=
  if byHandle e then ((blockAt d (handleKey e.target)).map (blockFrozen d)).getD false
  else if e.opcode = 3 then d.wrd.blocks.any fun b => b.2.use == .intake e.target && !b.2.quarantined && blockFrozen d b.2
  else if e.opcode = 4 then
    (libEntry d fn e.target).blocks.any fun c => ((blockAt d c.key).map (blockFrozen d)).getD false
  else false
/-- The code of the first row of R376 that a descriptor fails. -/
def descErrs (d : Dev) (r : Running) (x : Xfer) (tagOk : Bool) : List Err :=
  firstOf [(!descForm r.d || !targetOk d r.fn r.d x, .range), (!accessOk d r.fn r.sq r.d, .access),
    (!lengthOk d r.d x, .type), (!stateOk d r.fn r.d x, .state),
    ((byHandle r.d && !handleOk d r.fn r.d.target true) || (r.d.opcode == 6 && !tagOk), .integrity),
    (x.stop != 3 && targetFrozen d r.fn r.d, .frozen)]

/-! ## What a descriptor moves -/

/-- The block of a descriptor's handle. -/
def descBlock (d : Dev) (e : Desc) : Block := (blockAt d (handleKey e.target)).getD {}
/-- The channels that hold the lines of a block. -/
def blockChans (b : Block) : List Nat := if isMirrored b.pool then [b.chan, b.chan + 1] else [b.chan]
/-- `n` bytes of a block from `off` on were written: the lines hold no flip from before, and the first takes an armed one (R346). -/
def linesWritten (b : Block) (off n : Nat) (d : Dev) : Dev :=
  let lo := (b.off * 4096 + off) / 64
  let hi := (b.off * 4096 + off + n - 1) / 64
  if n = 0 then d
  else
    forEach (blockChans b) (fun c d => takeFlip 0 c lo d)
      (setWrd { d.wrd with flipped := d.wrd.flipped.filter fun f =>
        !(f.cls == 0 && (blockChans b).contains f.unit && decide (lo ≤ f.place) && decide (f.place ≤ hi)) } d)
/-- `n` bytes are stored in a block. -/
def storeBlock (b : Block) (off n v : Nat) (d : Dev) : Dev := linesWritten b off n (memWrite n (blockMem b + off) v d)
/-- Host planes read in FORMAT, from the first row of the transfer onward. -/
def hostRows (e : Desc) (x : Xfer) (dst w h : Nat) : List (Nat × List RowWrite) :=
  pictureRows e.format dst w h (fun k => lumaRow (byteAt x.data) e.format (k * e.pitch) w)
    fun k => chromaRow (byteAt x.dataC) (byteAt x.dataC2) e.format (k * e.pitchC) w
/-- The picture in a block, for FORMAT. -/
def blockRows (d : Dev) (e : Desc) : List (Nat × List RowWrite) :=
  let g := fun off => memByte d (blockMem (descBlock d e) + e.offset + off)
  let at_ := fun p k => let pl := (blockParts e).getD p ⟨0, 0, 0, 1⟩; pl.off + k * pl.pitch
  pictureRows 6 e.format (descWidth e) (descRows e) (fun k => lumaRow g 6 (at_ 0 k) (descWidth e))
    fun k => chromaRow g g 6 (at_ 1 k) (descWidth e)
/-- COPY_IN: at most `lim` source bytes; what was moved. -/
def moveIn (r : Running) (x : Xfer) (lim : Nat) (d : Dev) : Dev × Nat :=
  let e := r.d
  let b := descBlock d e
  if e.format = 255 then
    let n := min lim e.length
    (storeBlock b e.offset n x.data d, n)
  else
    let l := rowsWithin lim (hostRows e x 6 (descWidth e) (descRows e))
    (putRows (fun w => let pl := (blockParts e).getD w.plane ⟨0, 0, 0, 1⟩
        storeBlock b (e.offset + pl.off + w.row * pl.pitch) w.len w.val) l d, rowsBytes l)
/-- The host address of a row. -/
def hostRowAddr (e : Desc) (w : RowWrite) : Nat :=
  if w.plane = 0 then e.hostAddr + w.row * e.pitch
  else if w.plane = 1 then e.hostAddrC + w.row * e.pitchC else e.hostAddrC2 + w.row * e.pitchC
/-- COPY_OUT. -/
def moveOut (r : Running) (lim : Nat) (d : Dev) : Dev × Nat :=
  let e := r.d
  if e.format = 255 then
    let n := min lim e.length
    (emit (.hostData r.fn e.hostAddr n (memRead d (blockMem (descBlock d e) + e.offset) n)) d, n)
  else
    let l := rowsWithin lim (blockRows d e)
    (putRows (fun w => emit (.hostData r.fn (hostRowAddr e w) w.len w.val)) l d, rowsBytes l)
/-- INTAKE (R377, R378): the band's rows as the aperture would store them in the session's format; no hint map. -/
def moveIntake (r : Running) (x : Xfer) (lim : Nat) (d : Dev) : Dev × Nat :=
  let e := r.d
  let s := e.target
  let q := intakePrm d s
  let l := rowsWithin lim (hostRows e x (q 0x301E) (q 0x3014) (dbRows d e))
  let base := dbSlot d e * strideOf q
  let put := fun (w : RowWrite) (d : Dev) =>
    let pl := (partsOf q).getD w.plane ⟨0, 0, 0, 1⟩
    let y := sess d s
    setSess s { y with src := storeBytes w.len (base + pl.off + (pl.perBand * dbBand e + w.row) * pl.pitch) w.val y.src } d
  (putRows put l d, rowsBytes l)
/-- The units of an export from offset `o` on (R444). -/
def exportUnits (root e num form : Nat) : Nat → Nat → Nat → Nat
  | 0, _, _ => 0
  | fuel + 1, o, n =>
    let m := min 1408 n
    if m = 0 then 0
    else
      o + Config.exportUnit root e num o m (bytesAt form o m) % 256 ^ (m + 16) * 2 ^ 64 +
        256 ^ (m + 24) * exportUnits root e num form fuel (o + m) (n - m)
/-- EXPORT (R375, R444): OFFSET 0 takes the next export number; units go back to back to the host. -/
def moveExport (r : Running) (lim : Nat) (d : Dev) : Dev × Nat :=
  let e := r.d
  let d1 := if e.offset = 0 then countExport r.fn e.target d else d
  let n := if e.length ≤ lim then e.length else lim / 1408 * 1408
  let v := exportUnits ((tenantOf d1 r.fn).root.getD 0) e.target (bytesAt (objGet d1 0x2054 r.fn) (4 * e.target) 4)
    (libForm d1 r.fn e.target).1 (ceilDiv n 1408) e.offset n
  (emit (.hostData r.fn e.hostAddr (n + 24 * ceilDiv n 1408) v) d1, n)
/-- The whole entries of a host buffer (R232, R243). -/
def fedEntries (v len : Nat) : Nat → Nat → List CapEntry
  | 0, _ => []
  | fuel + 1, off =>
    let h := bytesAt v off 64
    let size := bits h 160 32
    let x : CapEntry :=
      { frame := bits h 0 32, band := bits h 32 8, flags := bits h 40 8, layer := bits h 48 16, stitch := bits h 64 64,
        rtpTs := bits h 128 32, size := size, crc := bits h 192 32, recon := bits h 224 32,
        data := bytesAt v (off + 64) size, off := off }
    let y : CapEntry := { x with intra := x.isClip, primary := if x.isClip then 0 else 1 }
    if off + y.len ≤ len then y :: fedEntries v len fuel (off + y.len) else []
/-- DECODE_FEED (R243, R375): the entries join those that the session plays. -/
def moveFeed (r : Running) (x : Xfer) (lim : Nat) (d : Dev) : Dev × Nat :=
  let n := min lim r.d.length
  let y := sess d r.d.target
  (setSess r.d.target { y with feed := y.feed ++ fedEntries x.data n (n / 64) 0 } d, n)
/-- SEGMENT_UPLOAD (R444): the record's plaintext goes to BLOCK_OFFSET. -/
def moveSegment (r : Running) (x : Xfer) (lim : Nat) (d : Dev) : Dev × Nat :=
  let e := r.d
  let n := min lim e.length
  let m := min (n - 16) (segBytes x)
  let key := (tabFind (tenantOf d r.fn).segs e.offset).getD 0
  let v := Config.segmentPlain key (bytesAt x.data 0 16) (bytesAt x.data 16 (segBytes x))
  (storeBlock (descBlock d e) (segOffset x) m v d, n)
/-- What a descriptor moves, of at most `lim` source bytes. A frame to be sent is not moved in part. -/
def moveSome (r : Running) (x : Xfer) (lim : Nat) (d : Dev) : Dev × Nat :=
  match r.d.opcode with
  | 1 => moveIn r x lim d
  | 2 => moveOut r lim d
  | 3 => moveIntake r x lim d
  | 4 => moveExport r lim d
  | 5 => moveFeed r x lim d
  | 6 => moveSegment r x lim d
  | 7 => (d, min lim r.d.length)
  | _ => (d, 0)

/-! ## How descriptors end -/

/-- The operation of a descriptor has ended. -/
def endRun (c : Nat) (r : Running) (e : Err) (outcome bytes : Nat) (d : Dev) : Dev :=
  setDmaChan c { dmaChan d c with
    run := some { r with ended := true, status := e, outcome := outcome, bytes := bytes, doorbell := false } } d
/-- A descriptor that fails a check completes with the code and BYTES 0 (R376); a refused handle is counted (R329). -/
def endRefused (c : Nat) (r : Running) (e : Err) (d : Dev) : Dev :=
  endRun c r e 0 0 (if e = .integrity && !handleOk d r.fn r.d.target true then handleRefused r.fn r.d.target d else d)
/-- How a transfer ends beside whole: outcomes 2 and 3, and 4 for an intake (R376). -/
def cutShort (r : Running) (x : Xfer) : Bool := x.stop == 2 || x.stop == 3 || (x.stop == 4 && r.d.opcode == 3)
/-- The descriptor runs to its end, whole or cut short. -/
def runThrough (c : Nat) (x : Xfer) (r : Running) (d : Dev) : Dev :=
  let m := moveSome r x (if cutShort r x then x.bytes else 2 ^ 64) d
  endRun c r .ok (if cutShort r x then x.stop else 0) m.2 m.1
/-- A descriptor of the opcode that runs on the channel is checked and, if it passes, goes on (R376). -/
def runRow (op c : Nat) (x : Xfer) (tagOk : Bool) (f : Running → Dev → Dev) (d : Dev) : Dev :=
  match (dmaChan d c).run with
  | none => d
  | some r =>
    if r.d.opcode != op || r.ended || r.doorbell then d
    else
      match descErrs d r x tagOk with
      | e :: _ => endRefused c r e d
      | [] => f r d

/-- A channel stops (R372, R391): the descriptor ends with the outcome and the bytes whose writes completed, unless a check had
refused it; no doorbell. -/
def stopWith (c outcome : Nat) (x : Xfer) (d : Dev) : Dev :=
  let ch := dmaChan d c
  match ch.run with
  | none => d
  | some r =>
    let mark := fun d : Dev => if outcome = 1 then setDmaChan c { dmaChan d c with stopped := true } d else d
    if r.ended then d
    else if r.doorbell then mark (endRun c r .ok outcome r.bytes d)
    else
      match (if r.d.opcode = 7 then [] else descErrs d r x true) with
      | e :: _ => endRefused c r e d
      | [] => let m := moveSome r x x.bytes d; mark (endRun c r .ok outcome m.2 m.1)
/-- The same where the manual leaves open what was moved: the bytes, and how many, are free values (log 3). -/
def stopFree (c outcome : Nat) (d : Dev) : Dev :=
  let k := d.freeCtr
  stopWith c outcome
    { data := Config.freeValue k, dataC := Config.freeValue (k + 1), dataC2 := Config.freeValue (k + 2)
      bytes := Config.freeValue (k + 3) } { d with freeCtr := k + 4 }
/-- The descriptors that pass `p` stop with no completion entry (R388). -/
def stopQueues (p : Running → Bool) (d : Dev) : Dev :=
  forEach (tabKeys d.dmaCh) (fun c d =>
    match (dmaChan d c).run with
    | none => d
    | some r =>
      if p r then
        let d1 := stopFree c 1 d
        match (dmaChan d1 c).run with
        | none => d1
        | some y => setDmaChan c { dmaChan d1 c with run := some { y with noEntry := true } } d1
      else d) d
/-- Every queue of a function is disabled; descriptors in flight stop with no completion entry (R388). -/
def fnQueuesOff (fn : Nat) (d : Dev) : Dev := forEach (queuesOf fn) queueOff (stopQueues (fun r => r.fn == fn) d)
/-- The queues of the physical function that are served over link i (R380). -/
def pfQueuesOn (d : Dev) (i : Nat) : List Nat := (queuesOf pfFn).filter fun k => (ring d k).on && queueLink d k == i
/-- A reset of a physical-function instance disables its queues; buffers posted through it are gone (R388). -/
def pfQueuesOff (i : Nat) (d : Dev) : Dev :=
  let l := pfQueuesOn d i
  let d1 := stopQueues (fun r => r.fn == pfFn && l.contains (sqKey pfFn r.sq)) d
  forEach l queueOff (if l.contains (sqKey pfFn 7) then { d1 with recvBufs := [] } else d1)

/-! ## Intake doorbells (R378) -/

/-- Is descriptor a before b in the ring of its queue? -/
def ringBefore (d : Dev) (a b : Running) : Bool :=
  let k := sqKey b.fn b.sq
  decide (ringDist (ringSize d k) b.slot (ring d k).head < ringDist (ringSize d k) a.slot (ring d k).head)
/-- Does a doorbell wait for an earlier one of its queue and session? -/
def doorbellWaits (d : Dev) (r : Running) : Bool :=
  d.dmaCh.any fun e => match e.2.run with
    | none => false
    | some a => a.d.opcode == 3 && bit a.d.flags 3 && !a.ended && a.fn == r.fn && a.sq == r.sq && a.d.target == r.d.target &&
        ringBefore d a r
/-- A doorbell is presented as if the tenant's virtual function had written it (R378). -/
def presentDoorbell (c : Nat) (r : Running) (d : Dev) : Dev :=
  match lowest (doorbellErrs d r.fn r.d.db) with
  | some e => endRun c r e 0 r.bytes (doorbellReject r.fn r.d.db e d)
  | none => endRun c r .ok 0 r.bytes (earlyStart (doorbellAccept r.d.db d))
/-- The doorbells that wait for none are presented, until all others wait. -/
def presentDoorbells : Nat → Dev → Dev
  | 0, d => d
  | fuel + 1, d =>
    match d.dmaCh.find? fun e => match e.2.run with
      | none => false
      | some r => r.doorbell && !r.ended && !doorbellWaits d r with
    | none => d
    | some (c, ch) =>
      match ch.run with
      | none => d
      | some r => presentDoorbells fuel (presentDoorbell c r d)

/-! ## The rows -/

/-- COPY_IN (R375). -/
def copyIn (c : Nat) (x : Xfer) (d : Dev) : Dev := runRow 1 c x true (runThrough c x) d
/-- COPY_IN (R375). -/
def execCopyIn (chan : Nat) (x : Xfer) (now : Nat) (s : State) : Host.Outcome State Fault Refusal :=
  actOn (decide (chan < 64)) (fun d => copyIn chan x (atTime now d)) s
/-- COPY_OUT (R375). -/
def copyOut (c : Nat) (x : Xfer) (d : Dev) : Dev := runRow 2 c x true (runThrough c x) d
/-- COPY_OUT (R375). -/
def execCopyOut (chan : Nat) (x : Xfer) (now : Nat) (s : State) : Host.Outcome State Fault Refusal :=
  actOn (decide (chan < 64)) (fun d => copyOut chan x (atTime now d)) s
/-- INTAKE (R378): a whole transfer with DOORBELL set waits for its turn; a refused or cut-short one lets those behind it go. -/
def intake (c : Nat) (x : Xfer) (d : Dev) : Dev :=
  presentDoorbells 64 (runRow 3 c x true (fun r d =>
    if bit r.d.flags 3 && !cutShort r x then
      let m := moveSome r x (2 ^ 64) d
      setDmaChan c { dmaChan m.1 c with run := some { r with bytes := m.2, doorbell := true } } m.1
    else runThrough c x r d) d)
/-- INTAKE (R378). -/
def execIntake (chan : Nat) (x : Xfer) (now : Nat) (s : State) : Host.Outcome State Fault Refusal :=
  actOn (decide (chan < 64)) (fun d => intake chan x (atTime now d)) s
/-- EXPORT (R375, R444). -/
def exportRow (c : Nat) (x : Xfer) (d : Dev) : Dev := runRow 4 c x true (runThrough c x) d
/-- EXPORT (R375). -/
def execExportEntry (chan : Nat) (x : Xfer) (now : Nat) (s : State) : Host.Outcome State Fault Refusal :=
  actOn (decide (chan < 64)) (fun d => exportRow chan x (atTime now d)) s
/-- DECODE_FEED (R375). -/
def decodeFeed (c : Nat) (x : Xfer) (d : Dev) : Dev := runRow 5 c x true (runThrough c x) d
/-- DECODE_FEED (R375). -/
def execDecodeFeed (chan : Nat) (x : Xfer) (now : Nat) (s : State) : Host.Outcome State Fault Refusal :=
  actOn (decide (chan < 64)) (fun d => decodeFeed chan x (atTime now d)) s
/-- SEGMENT_UPLOAD (R444): `tagOk` is the cipher's verdict (log 7). -/
def segmentUpload (c : Nat) (x : Xfer) (tagOk : Bool) (d : Dev) : Dev := runRow 6 c x tagOk (runThrough c x) d
/-- SEGMENT_UPLOAD (R444). -/
def execSegmentUpload (chan : Nat) (x : Xfer) (tagOk : Bool) (now : Nat) (s : State) : Host.Outcome State Fault Refusal :=
  actOn (decide (chan < 64)) (fun d => segmentUpload chan x tagOk (atTime now d)) s
/-- The frame of a TRANSMIT descriptor: `length` bytes and the FCS. -/
def hostFrame (e : Desc) (x : Xfer) : Pkt :=
  { kind := 8, size := e.length, data := bytesAt x.data 0 e.length, bytes := e.length + 4, cost := e.length + 4 }
/-- TRANSMIT (R375, R386): the frame enters the Host class; while the class has no room for it the descriptor waits (R272). -/
def transmitRow (c : Nat) (x : Xfer) (d : Dev) : Dev :=
  runRow 8 c x true (fun r d =>
    if x.stop = 2 then endRun c r .ok 2 0 d
    else if classRoom < classBytes d r.d.target 5 + r.d.length + 4 then d
    else endRun c r .ok 0 r.d.length (enterClass r.d.target 5 (hostFrame r.d x) d)) d
/-- TRANSMIT (R375). -/
def execTransmit (chan : Nat) (x : Xfer) (now : Nat) (s : State) : Host.Outcome State Fault Refusal :=
  actOn (decide (chan < 64)) (fun d => transmitRow chan x (atTime now d)) s
/-- RECEIVE_BUFFER (R386): the buffer is posted behind those already there, and the channel is free. -/
def receiveBuffer (c : Nat) (d : Dev) : Dev :=
  runRow 9 c {} true (fun r d =>
    setDmaChan c { dmaChan d c with run := none, done := ((dmaChan d c).done + 1) % 65536 }
      { d with recvBufs := d.recvBufs ++ [r] }) d
/-- RECEIVE_BUFFER (R386). -/
def execReceiveBuffer (chan now : Nat) (s : State) : Host.Outcome State Fault Refusal :=
  actOn (decide (chan < 64)) (fun d => receiveBuffer chan (atTime now d)) s

/-- CHANNEL_DISABLE (R372): EN is cleared; only the management controller writes EN of channels 0 to 23 (R365). -/
def channelDisable (who : Caller) (c : Nat) (x : Xfer) (d : Dev) : Dev :=
  if c < 24 && who != .firmware then regDrop who (Reg.dmaChCtrl.at c) .access d
  else presentDoorbells 64 (stopWith c 1 x (mend (Reg.dmaChCtrl.at c) (setFld (Reg.dmaChCtrl.at c) 0 1 0 d)))
/-- CHANNEL_DISABLE (R372). -/
def execChannelDisable (who : Caller) (chan : Nat) (x : Xfer) (now : Nat) (s : State) : Host.Outcome State Fault Refusal :=
  actOn (decide (chan < 64))
    (fun d => regGate who (Reg.dmaChCtrl.at chan) false (channelDisable who chan x) (atTime now d)) s

/-- DMA_CORR_CLR (R390): writing 1 to CORR_CLR clears the pair. -/
def corrClear (d : Dev) : Dev := pairSet Reg.dmaFifoCorrHi.base Reg.dmaFifoCorrLo.base 0 d
/-- DMA_CORR_CLR (R390). -/
def execDmaCorrClr (who : Caller) (s : State) : Host.Outcome State Fault Refusal :=
  act (regGate who Reg.dmaCtrl.base false fun d => mend Reg.dmaCtrl.base (corrClear d)) s

/-- ATS_INVALIDATION (R373): the request is completed. -/
def execAtsInvalidation (link now : Nat) (s : State) : Host.Outcome State Fault Refusal :=
  actOn (isLink link) (fun d => emit (.atsDone link) (atTime now d)) s

end Sys2Proof.Machine
end

