-- ==== Sys2Proof/Machine/Sessions.lean ====
section
/-! DEFINITION. Tenant slots and the session state machine (2). -/
namespace Sys2Proof.Machine

/-- Session command n, written to 0x3003:s (R44): its own checks are added to those of R407; a read gives the last one accepted
(R399). -/
def command (q : Req) (s n : Nat) (own : Dev → List Err) (f : Dev → Dev) (d : Dev) : Dev :=
  perform q 0x3003 s own (fun d => objSet 0x3003 s n (f d)) d

/-- While a command is pending every further one but DRAIN is refused (R53); so is every command while an ARM waits
(R60). -/
def busyErrs (d : Dev) (s : Nat) : List Err :=
  earned [((sess d s).pend != 0, .busy), ((sess d s).armWait.isSome, .busy)]

/-- Session slots of a tenant outside FREE (R37), and its standby slots (R199). -/
def slotsInUse (d : Dev) (t : Nat) : Nat :=
  (d.sess.filter fun e => e.2.st != .free && ownerOf d e.1 == t).length +
    ((activeLinings d).filter fun l => linState d l != 4 && linTenant d l == t).length

/-- The codes of DEFINE (R46, R51, R199). -/
def defineErrs (s : Nat) (d : Dev) : List Err :=
  earned [((sess d s).st != .free, .state), (isStandby d s, .conflict),
    (decide (objGet d 0x2002 (ownerOf d s) ≤ slotsInUse d (ownerOf d s)), .quota)] ++
    busyErrs d s ++ comboErrs d s (params d s)

/-- DEFINE takes effect (R51). -/
def defineAct (s : Nat) (d : Dev) : Dev :=
  restartStats s (setSess s { sess d s with st := .defined, refN := slotsOfParams (params d s) } d)

/-- DEFINE, as a command (R51). -/
def defineCmd (q : Req) (slot : Nat) (d : Dev) : Dev := command q slot 1 (defineErrs slot) (defineAct slot) d
/-- DEFINE (R51). -/
def execDefine (q : Req) (slot : Nat) (s : State) : Host.Outcome State Fault Refusal :=
  actOn (isSlot slot) (defineCmd q slot) s

/-- A command is refused in every state but those listed (R51). -/
def stateErrs (s : Nat) (legal : List SessSt) (d : Dev) : List Err :=
  earned [(!legal.contains (sess d s).st, .state)] ++ busyErrs d s

/-- RELEASE, as a command (R51). -/
def releaseCmd (q : Req) (slot : Nat) (d : Dev) : Dev := command q slot 2 (stateErrs slot [.defined]) (toFree slot) d
/-- RELEASE (R51). -/
def execRelease (q : Req) (slot : Nat) (s : State) : Host.Outcome State Fault Refusal :=
  actOn (isSlot slot) (releaseCmd q slot) s

/-! ## ARM (R51, R58 to R60) -/

/-- The codes of ARM that this device decides (R51, R59, R85, R426, R496). -/
def armErrs (s : Nat) (d : Dev) : List Err :=
  let p := params d s
  earned [((tenantOf d (ownerOf d s)).st != 2, .state), (d.pwr.state != 0, .state), (!startupDone d, .busy)] ++
    stateErrs s [.defined] d ++ admitErrs d s (chargesOf d p) ++ blockErrs d (ownerOf d s) (blocksFor d s p) ++
    earned [(p 0x3010 == 0 && (placeWindow d s p).isNone, .capacity), ((holdBlocks d s p).isNone, .capacity)]

/-- The reservations of an ARM: charges, window, blocks (R59, R85, R327). -/
def reserve (s : Nat) (d : Dev) : Dev :=
  let p := params d s
  let d1 := setSess s { sess d s with charges := chargesOf d p, window := placeWindow d s p } d
  (holdBlocks d1 s p).getD d1

/-- An ARM that passes its checks: with a lining request it asks the partner and waits (R60, R199); any other is ARMED on
acceptance. -/
def armAct (q : Req) (s : Nat) (d0 : Dev) : Dev :=
  let d1 := reserve s d0
  if objGet d0 0x301B s = 1 then
    askLining s
      (setSess s { sess d1 s with armWait := some { req := q, deadline := d0.tbs.ns + 2000000 } }
        (objSet 0x3090 s 1 d1))
  else accept q 0x3003 s (objSet 0x3003 s 3 (setSess s { sess d1 s with st := .armed } d1))
/-- ARM (R59, R60). -/
def arm (q : Req) (s : Nat) (d : Dev) : Dev := decideWrite q 0x3003 s (armErrs s) (refuse q 0x3003 s) (armAct q s) d

/-- ARM (R59). -/
def execArm (q : Req) (slot : Nat) (s : State) : Host.Outcome State Fault Refusal := actOn (isSlot slot) (arm q slot) s

/-- A waiting ARM is refused: its provisional reservations are released (R60). -/
def armRefuse (s : Nat) (e : Err) (d : Dev) : Dev :=
  match (sess d s).armWait with
  | none => d
  | some w => 
    let d1 := dropReservations s (setSess s { sess d s with armWait := none } d)
    refuse w.req 0x3003 s e (objReset 0x3090 s (setSess s { sess d1 s with st := .defined } d1))

/-- A waiting ARM is accepted: the session is ARMED, and the counter is taken only now (R60, R407). -/
def armAccept (s : Nat) (d : Dev) : Dev :=
  match (sess d s).armWait with
  | none => d
  | some w => accept w.req 0x3003 s (objSet 0x3003 s 3 (setSess s { sess d s with armWait := none, st := .armed } d))

/-- ARM_PARTNER_TIMEOUT (R60): 2 ms have passed without an answer. -/
def armTimeout (s : Nat) (d : Dev) : Dev :=
  match (sess d s).armWait with
  | none => d
  | some w => if w.deadline ≤ d.tbs.ns then armRefuse s .capacity d else d

/-- ARM_PARTNER_TIMEOUT (R60). -/
def execArmPartnerTimeout (slot now : Nat) (s : State) : Host.Outcome State Fault Refusal :=
  actOn (isSlot slot) (fun d => armTimeout slot (atTime now d)) s

/-- DISARM, as a command (R51). -/
def disarmCmd (q : Req) (slot : Nat) (d : Dev) : Dev := command q slot 4 (stateErrs slot [.armed]) (toDefined slot) d
/-- DISARM (R51). -/
def execDisarm (q : Req) (slot : Nat) (s : State) : Host.Outcome State Fault Refusal :=
  actOn (isSlot slot) (disarmCmd q slot) s

/-- The codes of START (R51, R433, R496). -/
def startErrs (s : Nat) (d : Dev) : List Err :=
  stateErrs s [.armed] d ++
    earned [(objGet d 0x3010 s != 1 && !keyedDest d s, .state), (d.pwr.state != 0, .state), (d.sec.rngFail, .busy),
      (onFrozen d s || sessionFrozen d s, .frozen)]

/-- START is pending until the next stitch; the transport identity is drawn (R51, R53, R259). -/
def startAct (s : Nat) (d : Dev) : Dev :=
  let d1 := drawTransport s d
  setSess s { sess d1 s with pend := 5, pendSeen := false } d1

/-- START, as a command (R51). -/
def startCmd (q : Req) (slot : Nat) (d : Dev) : Dev := command q slot 5 (startErrs slot) (startAct slot) d
/-- START (R51). -/
def execStart (q : Req) (slot : Nat) (s : State) : Host.Outcome State Fault Refusal :=
  actOn (isSlot slot) (startCmd q slot) s

/-- A command is accepted and not yet in effect (R53). -/
def setPend (s n : Nat) (d : Dev) : Dev := setSess s { sess d s with pend := n, pendSeen := false } d

/-- PAUSE, as a command (R51). -/
def pauseCmd (q : Req) (slot : Nat) (d : Dev) : Dev := command q slot 6 (stateErrs slot [.running]) (setPend slot 6) d
/-- PAUSE (R51). -/
def execPause (q : Req) (slot : Nat) (s : State) : Host.Outcome State Fault Refusal :=
  actOn (isSlot slot) (pauseCmd q slot) s

/-- The codes of RESUME (R51). -/
def resumeErrs (s : Nat) (d : Dev) : List Err :=
  let x := sess d s
  stateErrs s [.paused, .suspended] d ++
    (if x.st = .suspended then
      earned [(x.cause == 5, .state), (decide (tileLimit d < tilesCharged d 256), .capacity),
        (x.cause == 2 && sessionFrozen d s, .frozen)]
    else [])

/-- RESUME, as a command (R51). -/
def resumeCmd (q : Req) (slot : Nat) (d : Dev) : Dev := command q slot 7 (resumeErrs slot) (setPend slot 7) d
/-- RESUME (R51). -/
def execResume (q : Req) (slot : Nat) (s : State) : Host.Outcome State Fault Refusal :=
  actOn (isSlot slot) (resumeCmd q slot) s

/-! ## Draining (R54) -/

/-- The codes of DRAIN: legal in ARMED, RUNNING, PAUSED and SUSPENDED; a pending command does not refuse it (R51, R53). -/
def drainErrs (s : Nat) (d : Dev) : List Err :=
  earned [(!([SessSt.armed, .running, .paused, .suspended].contains (sess d s).st), .state),
    ((sess d s).armWait.isSome, .busy)]

/-- DRAIN takes effect: an ARMED session returns to DEFINED, any other drains; a pending command is cancelled and the
suspension cause returns to 0 (R44, R51, R53). -/
def drainAct (s : Nat) (d : Dev) : Dev :=
  let x := sess d s
  if x.st = .armed then toDefined s d
  else
    let d1 := endSplice s d
    let y := { sess d1 s with
      st := .draining, pend := 0, cause := 0, drainAt := some d.tbs.ns, quietFrom := none, fromSuspended := x.st == .suspended }
    noteQuiet s (tellState s (setSess s y d1))

/-- DRAIN, as a command (R51). -/
def drainCmd (q : Req) (slot : Nat) (d : Dev) : Dev := command q slot 8 (drainErrs slot) (drainAct slot) d
/-- DRAIN (R51). -/
def execDrain (q : Req) (slot : Nat) (s : State) : Host.Outcome State Fault Refusal :=
  actOn (isSlot slot) (drainCmd q slot) s

/-- The codes of the operator drain: its value is 1, and DRAIN must be legal (R42, R44). -/
def operatorDrainErrs (s v : Nat) (d : Dev) : List Err := earned [(v != 1, .range)] ++ drainErrs s d

/-- The operator drain acts as DRAIN and is posted as a session event (R42, R56). -/
def operatorDrainAct (s : Nat) (d : Dev) : Dev := postState s (sess d s).st true (drainAct s d)

/-- A write of 0x3004:s (R42). -/
def operatorDrainCmd (q : Req) (slot value : Nat) (d : Dev) : Dev :=
  perform q 0x3004 slot (operatorDrainErrs slot value) (operatorDrainAct slot) d
/-- OPERATOR_DRAIN (R42). -/
def execOperatorDrain (q : Req) (slot value : Nat) (s : State) : Host.Outcome State Fault Refusal :=
  actOn (isSlot slot) (operatorDrainCmd q slot value) s

/-- Bands of a frame that were never coded (R54). -/
def uncoded (f : Frame) : Nat := (f.bands.filter fun b => !b.coded && !b.collected).length
/-- DRAIN_ABANDON (R54): four frame periods after DRAIN the frame in progress is abandoned; its bands never coded are
discarded and counted. -/
def drainAbandon (s : Nat) (d : Dev) : Dev :=
  let x := sess d s
  match x.drainAt with
  | none => d
  | some t =>
    if x.st = .draining && !d.flt.safe && !drainFrameDone d s &&
        decide ((d.tbs.ns - t) * 9 ≥ 4 * chargePeriod (params d s) * 2500000) then
      let y := stream d (liveSid s)
      let m := stream d (mezzSid s)
      let d1 := objCount 32 0x5023 s (sumBy uncoded y.frames) d
      noteQuiet s (waterTest s (setStream (mezzSid s) { m with frames := [] } (setStream (liveSid s) { y with frames := [] } d1)))
    else d

/-- DRAIN_ABANDON (R54). -/
def execDrainAbandon (slot now : Nat) (s : State) : Host.Outcome State Fault Refusal :=
  actOn (isSlot slot) (fun d => drainAbandon slot (atTime now d)) s

/-- The instant from which the drain hold runs: the last media packet, or, when the session has sent none since START,
the instant at which the first two conditions hold (R54). -/
def holdFrom (x : Session) : Option Nat := x.lastMedia <|> x.quietFrom

/-- Do the three conditions of R54 hold? None completes in the safe state (R57). -/
def drainDone (s : Nat) (d : Dev) : Bool :=
  !d.flt.safe && drainQuiet d s && match holdFrom (sess d s) with
    | none => false
    | some t => decide (t + objGet d 0x301F s * 1000000 ≤ d.tbs.ns)

/-- DRAIN_COMPLETE (R54, R271): a BYE to each destination, every reservation released, DEFINED. -/
def drainComplete (s : Nat) (d0 : Dev) : Dev :=
  let d := noteQuiet s d0
  if drainDone s d then postState s .draining false (toDefined s (sendByes s d)) else d

/-- DRAIN_COMPLETE (R54). -/
def execDrainComplete (slot now : Nat) (s : State) : Host.Outcome State Fault Refusal :=
  actOn (isSlot slot) (fun d => drainComplete slot (atTime now d)) s

/-! ## Tenant slots (R36 to R40) -/

/-- The sessions of a tenant. -/
def sessionsOf (d : Dev) (t : Nat) : List Nat := (List.range 256).filter fun s => ownerOf d s == t

/-- Are all the sessions of a tenant FREE? -/
def allFree (d : Dev) (t : Nat) : Bool := (sessionsOf d t).all fun s => (sess d s).st == .free

/-- Is a value a function value of 0x2001:t (R37)? -/
def isFunction (v : Nat) : Bool := bits v 9 6 == 0 && decide (1 ≤ bits v 0 9) && decide (bits v 0 9 ≤ 256)

/-- The codes of a binding write (R37, R38): the value the slot holds is accepted before any other row. -/
def bindErrs (t v : Nat) (d : Dev) : List Err :=
  let x := tenantOf d t
  if v = x.bound then []
  else
    earned [(v != 0xFFFF && !isFunction v, .range),
      (v != 0xFFFF && (x.st != 0), .state),
      (v == 0xFFFF && !allFree d t, .state),
      (isLocked d x.bound, .state),
      (v != 0xFFFF && d.tenants.any (fun e => e.1 != t && e.2.bound == v), .conflict)]

/-- A binding takes effect (R38): unbinding erases the keys and returns the owned session slots to unassigned; binding
restarts the slot's counters (R396's note). -/
def bindAct (t v : Nat) (d : Dev) : Dev :=
  if v = (tenantOf d t).bound then d
  else if v = 0xFFFF then
    forEach (sessionsOf d t) (fun s d => objReset 0x3000 s d)
      (let d1 := eraseTenantKeys t d
       setTenant t { salt := (tenantOf d1 t).salt } (objSet 0x2001 t 0xFFFF d1))
  else restartTenantCounts t (setTenant t { tenantOf d t with st := 1, bound := v } (objSet 0x2001 t v d))

/-- The write behind TENANT_BIND (R38). -/
def tenantBindWrite (q : Req) (tenant value : Nat) : Dev → Dev :=
  perform q 0x2001 tenant (fun d => earned [(decide (65535 < value), .type)] ++ bindErrs tenant value d)
      (bindAct tenant value)
/-- TENANT_BIND (R38). -/
def execTenantBind (q : Req) (tenant value : Nat) (s : State) : Host.Outcome State Fault Refusal :=
  actOn (isSlot tenant) (tenantBindWrite q tenant value) s

/-- The effect of R40 on a tenant: its sessions go to FREE, its keys are erased, its queues and mailbox are cleared (R388,
R414). -/
def tenantReset (t : Nat) (d : Dev) : Dev :=
  let x := tenantOf d t
  if x.st = 0 then d
  else
    let d1 := forEach (sessionsOf d t) (fun s d => if (sess d s).st = .free then d else toFree s d) d
    discardMailbox t (fnQueuesOff t (eraseTenantKeys t d1))

/-- A locked or running interface goes to ERROR (R435): R40 acts on the tenant, and it is a security event. -/
def interfaceError (t : Nat) (d : Dev) : Dev :=
  let fn := (tenantOf d t).bound
  let k := tabGet 0 d.sec.tdisp fn
  if k = 1 || k = 2 then
    secEvent 5 t (tenantReset t { d with sec := { d.sec with tdisp := tabPut 0 d.sec.tdisp fn 3 } })
  else d

/-- FUNCTION_LEVEL_RESET of the virtual function bound to a tenant slot (R40, R435). -/
def execFunctionLevelReset (tenant now : Nat) (s : State) : Host.Outcome State Fault Refusal :=
  actOn (isSlot tenant) (fun d => tenantReset tenant (interfaceError tenant (atTime now d))) s

/-- The tenants bound to a virtual function behind a link. -/
def tenantsBehind (d : Dev) (lnk : Nat) : List Nat :=
  (tabKeys d.tenants).filter fun t => (tenantOf d t).st != 0 && tenantLink d t == lnk

/-- VF Enable of a link is lost: R40 acts on every tenant behind it (R40, R350, R435). -/
def vfLoss (lnk : Nat) (d : Dev) : Dev :=
  forEach (tenantsBehind d lnk) (fun t d => tenantReset t (interfaceError t d))
    (setLink lnk { link d lnk with vfEnable := false, numVfs := 0 } d)

/-- VF_ENABLE_CLEAR (R40). -/
def execVfEnableClear (link now : Nat) (s : State) : Host.Outcome State Fault Refusal :=
  actOn (isLink link) (fun d => vfLoss link (atTime now d)) s

end Sys2Proof.Machine
end

