-- ==== Sys2Proof/Machine/Capture.lean ====
section
/-! DEFINITION. Freezes, library commands, verification, and splices as they are asked for and as their frames start (9). -/
namespace Sys2Proof.Machine

/-! ## Freezing (R234) -/

/-- The codes of a freeze (R234): bytes 0–7 START, 8–15 END, 16 the entry, 17–19 zero. -/
def freezeErrs (s : Nat) (v : Payload) (d : Dev) : List Err :=
  let start := bytesAt v.val 0 8
  let fin := bytesAt v.val 8 8
  let e := byteAt v.val 16
  let x := sess d s
  let t := ownerOf d s
  let es := (x.ring.map (·.entries)).getD []
  let last := freezeEnd fin d.tbs.cnt
  typeErrs 0x30A2 v ++
    earned [(decide (63 < e) || bytesAt v.val 17 3 != 0 || (fin != 0 && decide (fin < start)), .range),
      (!([SessSt.running, .paused, .suspended, .draining].contains x.st)|| x.ring.isNone || inForce d s 0x301A == 0, .state),
      (!es.any (fun y => y.isClip && decide (y.stitch ≤ last)) || decide (last < oldestEntry x), .range),
      ((libEntry d t e).st != 0, .conflict)] ++
    blockErrs d t (List.replicate (freezeBlocks d s start fin) (ringCode (objGet d 0x30A0 s), .freeze s e))
/-- A freeze is accepted: replacements are reserved, the entry is FREEZING (R234). -/
def freezeAct (s : Nat) (v : Payload) (d : Dev) : Dev :=
  let z : Freeze := { start := bytesAt v.val 0 8, fin := bytesAt v.val 8 8, e := byteAt v.val 16 }
  let t := ownerOf d s
  let need := List.replicate (freezeBlocks d s z.start z.fin) (ringCode (objGet d 0x30A0 s), Use.freeze s z.e)
  let d1 := (allocAll t need d).getD d
  setSess s { sess d1 s with freezes := (sess d1 s).freezes ++ [z] } (libState t z.e { st := 1, kind := 1 } d1)
/-- The write behind FREEZE_REQUEST (R234). -/
def freezeWrite (q : Req) (slot : Nat) (v : Payload) : Dev → Dev :=
  perform q 0x30A2 slot (freezeErrs slot v) (freezeAct slot v)
/-- FREEZE_REQUEST (R234). -/
def execFreezeRequest (q : Req) (slot : Nat) (v : Payload) (s : State) : Host.Outcome State Fault Refusal :=
  actOn (isSlot slot) (freezeWrite q slot v) s

/-! ## Library commands (R237) -/

/-- The form of a library command: byte 0 the command, 1 the entry, 2–7 zero. -/
def libFormErrs (v : Payload) : List Err :=
  typeErrs 0x2010 v ++
    earned [(byteAt v.val 0 == 0 || decide (3 < byteAt v.val 0) || decide (63 < byteAt v.val 1) || bytesAt v.val 2 6 != 0, .range)]
/-- Does a handle name one block of the tenant that holds a block header of KIND 2 (R237)? -/
def segmentBlock (d : Dev) (t h : Nat) : Bool :=
  handleOk d t h true &&
    match blockAt d (handleKey h) with
    | none => false
    | some b => bits (memRead d (blockMem b) 64) 48 16 == 2
/-- The codes of a registration. -/
def registerErrs (t : Nat) (v : Payload) (d : Dev) : List Err :=
  libFormErrs v ++ earned [((libEntry d t (byteAt v.val 1)).st != 0, .state),
    (handleOk d t (bytesAt v.val 8 8) true && handleBarred d (bytesAt v.val 8 8), .state),
    (!segmentBlock d t (bytesAt v.val 8 8), .integrity)]
/-- The block is taken into the entry, which is VERIFYING. -/
def registerAct (t : Nat) (v : Payload) (d : Dev) : Dev :=
  let e := byteAt v.val 1
  let k := handleKey (bytesAt v.val 8 8)
  match blockAt d k with
  | none => d
  | some b =>
    let c := parseBlock d k b
    libState t e { st := 2, kind := 2, blocks := [c], entries := c.entries } (toLibrary [k] t e d)
/-- The codes of a deletion. -/
def deleteErrs (t : Nat) (v : Payload) (d : Dev) : List Err :=
  let e := byteAt v.val 1
  let st := (libEntry d t e).st
  libFormErrs v ++ earned [(libBusy d t e, .busy), (!(st == 3 || st == 4) && !libBusy d t e, .state)]
/-- The blocks are released and the entry is FREE. -/
def deleteAct (t : Nat) (v : Payload) (d : Dev) : Dev :=
  let e := byteAt v.val 1
  libState t e {} (releaseUse (· == .library t e) d)
/-- The codes of an export to Ethernet. -/
def exportErrs (t : Nat) (v : Payload) (d : Dev) : List Err :=
  libFormErrs v ++ earned [((libEntry d t (byteAt v.val 1)).st != 3 || objGet d 0x2011 t == 0, .state),
    (entryBarred d t (byteAt v.val 1), .state)]
/-- The entry is EXPORTING, and its datagrams enter the bulk class (R237, R444). -/
def exportAct (t : Nat) (v : Payload) (d : Dev) : Dev :=
  let e := byteAt v.val 1
  exportPump (libState t e { libEntry d t e with st := 5, sent := 0 } (countExport t e d))

/-- The codes of a library command by its byte 0. -/
def libraryErrs (t : Nat) (v : Payload) (d : Dev) : List Err :=
  if byteAt v.val 0 = 1 then registerErrs t v d
  else if byteAt v.val 0 = 2 then deleteErrs t v d
  else if byteAt v.val 0 = 3 then exportErrs t v d
  else libFormErrs v
/-- What a library command does by its byte 0. -/
def libraryAct (t : Nat) (v : Payload) (d : Dev) : Dev :=
  if byteAt v.val 0 = 1 then registerAct t v d
  else if byteAt v.val 0 = 2 then deleteAct t v d
  else exportAct t v d
/-- A write of 0x2010:t (R237): a handle that fails its checks is counted (R329). -/
def libraryCommand (q : Req) (t : Nat) (v : Payload) (d : Dev) : Dev :=
  decideWrite q 0x2010 t (libraryErrs t v)
    (fun e d0 =>
      let d1 := refuse q 0x2010 t e d0
      if e = .integrity && !handleOk d0 t (bytesAt v.val 8 8) true then handleRefused t (bytesAt v.val 8 8) d1 else d1)
    (fun d0 => accept q 0x2010 t (libraryAct t v d0)) d
/-- REGISTER_SEGMENT (R237). -/
def execRegisterSegment (q : Req) (tenant : Nat) (v : Payload) (s : State) : Host.Outcome State Fault Refusal :=
  actOn (isSlot tenant) (libraryCommand q tenant v) s
/-- DELETE (R237). -/
def execDelete (q : Req) (tenant : Nat) (v : Payload) (s : State) : Host.Outcome State Fault Refusal :=
  actOn (isSlot tenant) (libraryCommand q tenant v) s
/-- EXPORT_TO_ETHERNET (R237). -/
def execExportToEthernet (q : Req) (tenant : Nat) (v : Payload) (s : State) : Host.Outcome State Fault Refusal :=
  actOn (isSlot tenant) (libraryCommand q tenant v) s

/-! ## Verification (R238) -/

/-- The frames of an entry, in order: the FRAME fields of its band 0 entries. -/
def frameIds (es : List CapEntry) : List Nat := (es.filter fun x => x.band == 0).map (·.frame)
/-- The entries of a frame. -/
def framePart (es : List CapEntry) (id : Nat) : List CapEntry := es.filter fun x => x.frame == id
/-- An entry as verification found it: its references, units and CRC. -/
def verified (x : CapEntry) (b : SegBand) : CapEntry :=
  { x with recon := b.crc, primary := b.primary, secondary := b.secondary, units := b.units, intra := b.intra }
/-- Is the segment in whole frames, in band order, with no reference to a frame before it (R238)? -/
def segmentOrdered (count : Nat) (es : List CapEntry) : Bool :=
  let ids := frameIds es
  ids.eraseDups.length == ids.length &&
    es.map (fun x => (x.frame, x.band)) == ids.flatMap (fun i => (List.range count).map fun b => (i, b)) &&
    (List.range ids.length).all fun k => (framePart es (ids.getD k 0)).all fun x =>
      decide (x.primary ≤ k) && decide (x.secondary ≤ k)
/-- Is the first frame, and no later one, intra? -/
def segmentIntra (es : List CapEntry) : Bool :=
  let ids := frameIds es
  ids.length != 0 && (es.head?.map (·.band)) == some 0 && (framePart es (ids.getD 0 0)).all (·.intra) &&
    (ids.drop 1).all fun i => (framePart es i).all fun x => !x.intra
/-- The code of the first check that fails (R238). -/
def verifyErr (d : Dev) (x : LibEntry) (bands : List SegBand) (es : List CapEntry) (hdrs : List SeqHdr) : Option Err :=
  let header := match x.blocks with
    | [c] => match blockAt d c.key with
      | some b => headerMatches d b c
      | none => false
    | _ => false
  let count := ceilDiv ((hdrs.head?.map (·.height)).getD 0) 64
  (firstOf [(!header || !es.all (·.crcOk), .integrity), (!segmentIntra es, .conflict), (!segmentOrdered count es, .conflict),
    (bands.any fun b => b.error != 0, .unsupported), (hdrs.length != 1, .conflict)]).head?
/-- SEGMENT_VERIFIED (R238): what decoding every band gave decides; RECON_CRC of each band is recorded. -/
def segmentVerified (t e : Nat) (bands : List SegBand) (d : Dev) : Dev :=
  let x := libEntry d t e
  if x.st ≠ 2 || bands.length ≠ x.entries.length then d
  else
    let es := List.zipWith verified x.entries bands
    let hdrs := (bands.filterMap (·.seqHdr)).eraseDups
    match verifyErr d x bands es hdrs with
    | some c => libState t e { x with st := 4, code := c.code } d
    | none =>
      let h := hdrs.getD 0 {}
      libState t e
        { x with st := 3, entries := es, blocks := x.blocks.map (fun b => { b with entries := es }), codec := h.codec
                 width := h.width, height := h.height, depth := h.depth, period := h.period, lvl := h.lvl
                 layers := h.layers, seqHdr := h.bytes, intra := true } d
/-- SEGMENT_VERIFIED (R238). -/
def execSegmentVerified (tenant entry : Nat) (bands : List SegBand) (now : Nat) (s : State) :
    Host.Outcome State Fault Refusal :=
  actOn (isSlot tenant && decide (entry < 64)) (fun d => segmentVerified tenant entry bands (atTime now d)) s

/-! ## Splices (R239 to R242) -/

/-- The sequence-level settings of an AV1 session (R148): seq_profile, seq_level_idx, the 14 tools in the order of the rule,
timing_info_present_flag, color_description_present_flag. -/
def av1Settings (lvl : Nat) : List Nat :=
  [0, (lvl / 10 - 2) * 4 + lvl % 10, 1, 0, 1, 0, 0, 0, 1, 1, 0, 0, 0, 0, 0, 0, 0, 1]
/-- Those of an HEVC session (R148): general_profile_idc, Main tier, general_level_idc = 30 × level; CTB 64, CB from 8, TB 4 to 32,
the six flags in the order of the rule, then transform_skip_enabled_flag; VPS 0, SPS 0; timing 0. -/
def hevcSettings (codec lvl : Nat) : List Nat := [codec, 0, 3 * lvl, 64, 8, 4, 32, 1, 1, 1, 0, 1, 0, 1, 0, 0, 0]
/-- Those of an AVC session (R148): profile_idc, constraint_set1_flag, level_idc = 10 × level; pic_order_cnt_type, max_num_ref_frames,
frame_mbs_only_flag, direct_8x8_inference_flag, transform_8x8_mode_flag; SPS 0, PPS 0; timing 0. -/
def avcSettings (codec lvl n : Nat) : List Nat :=
  [if codec = 3 then 66 else if codec = 4 then 77 else 100, b2n (codec == 3), lvl, 2, n, 1, 1, b2n (codec == 5), 0, 0, 0]
/-- What fixes the sequence header a session sends (R148, R150): the codec's settings, the coded size and what is cropped, the bit
depth, the operating points, the colour description. -/
def sequenceSettings (d : Dev) (s : Nat) : List Nat :=
  let codec := objGet d 0x3011 s
  let lvl := objGet d 0x3012 s
  let h := objGet d 0x3015 s
  let set := if isAv1 codec then av1Settings lvl else if isHevc codec then hevcSettings codec lvl
    else avcSettings codec lvl (refSlots d (liveSid s))
  codec :: set ++ [codedWidth codec (objGet d 0x3014 s), codedRows codec h, codedRows codec h - h, objGet d 0x3013 s,
    layersOf d (liveSid s), objGet d 0x3061 s]
/-- Does a segment match a session (R239)? -/
def segmentMatches (d : Dev) (s : Nat) (x : LibEntry) : Bool :=
  x.codec == objGet d 0x3011 s && x.depth == objGet d 0x3013 s && x.width == objGet d 0x3014 s &&
    x.height == objGet d 0x3015 s && x.period == objGet d 0x3016 s && decide (x.lvl ≤ objGet d 0x3012 s) &&
    decide (x.seqHdr = Config.sequenceHeader (sequenceSettings d s)) && x.layers == layersOf d (liveSid s)
/-- The codes of a splice request (R239, R242): bits [5:0] the entry, bit [8] loop. -/
def spliceErrs (s v : Nat) (d : Dev) : List Err :=
  let x := sess d s
  let y := libEntry d (ownerOf d s) (v % 64)
  earned [(decide (65535 < v), .type), (bits v 6 2 != 0 || bits v 9 7 != 0, .range),
    (objGet d 0x3010 s == 1 || x.st != .running || x.splice.isSome || x.splicePend.isSome, .state),
    (!(y.st == 3 && y.kind == 2) || entryBarred d (ownerOf d s) (v % 64), .state), (y.st == 3 && y.kind == 2 && !segmentMatches d s y, .conflict)] ++ busyErrs d s
/-- The request waits for the frame boundary, as a pending command (R53, R239; log 25 for the code it shows). -/
def spliceAct (s v : Nat) (d : Dev) : Dev :=
  setSess s { sess d s with splicePend := some (v % 64 + (if bit v 8 then 1024 else 0)), pend := 9, pendSeen := false } d
/-- The write behind SPLICE_REQUEST (R239). -/
def spliceWrite (q : Req) (slot value : Nat) : Dev → Dev :=
  perform q 0x30B0 slot (spliceErrs slot value) (spliceAct slot value)
/-- SPLICE_REQUEST (R239). -/
def execSpliceRequest (q : Req) (slot value : Nat) (s : State) : Host.Outcome State Fault Refusal :=
  actOn (isSlot slot) (spliceWrite q slot value) s
/-- The codes of a return (R241). -/
def spliceReturnErrs (s v : Nat) (d : Dev) : List Err := earned [(v != 1, .range), ((sess d s).splice.isNone, .state)]
/-- The splice ends at the frame boundary after the write (R241). -/
def spliceReturnAct (s : Nat) (d : Dev) : Dev := setSess s { sess d s with spliceEnd := max 1 (sess d s).spliceEnd } d
/-- The write behind SPLICE_RETURN (R241). -/
def spliceReturnWrite (q : Req) (slot value : Nat) : Dev → Dev :=
  perform q 0x30B1 slot (spliceReturnErrs slot value) (spliceReturnAct slot)
/-- SPLICE_RETURN (R241). -/
def execSpliceReturn (q : Req) (slot value : Nat) (s : State) : Host.Outcome State Fault Refusal :=
  actOn (isSlot slot) (spliceReturnWrite q slot value) s
/-- 0x30B2:s (R244). -/
def spliceState (x : Session) : Nat :=
  match x.splice, x.splicePend with
  | some e, _ => e + 2 * 2 ^ 8
  | none, some e => e % 64 + 2 ^ 8
  | none, none => 0xFF

/-! ## Segment frames as they start (R240, R242, R243) -/

/-- A band of a frame that is played: no plan; its references are those of the segment; it is eligible at once. -/
def playedBand (c n : Nat) (y : CapEntry) : Band :=
  { st := 1, ready := n, stamp := stitchNs n - 1, parts := [{}], data := y.data, size := y.size, units := y.units
    refs := some { primary := if y.primary = 0 then none else some (c - y.primary)
                   secondary := if y.secondary = 0 then none else some (c - y.secondary) } }
/-- The same for a session that uses no tile: collected at once, with RECON_CRC in its record (R242). -/
def tilelessBand (c n k : Nat) (y : CapEntry) : Band :=
  { playedBand c n y with
    noTile := true, closed := true, written := true, collected := true
    record := { frame := c, band := y.band, flags := b2n (k == 0), layer := y.layer, primary := y.primary
                secondary := y.secondary, bits := 8 * y.size, crc := y.recon } }
/-- A frame that plays starts at stitch n as the session's next frame, and takes a credit (R240): its entries; whether it is
intra; the frame that plays after it. -/
def startBands (s n k : Nat) (es : List CapEntry) (intra : Bool) (d : Dev) : Dev :=
  let sid := liveSid s
  let x := stream d sid
  let c := x.count
  let tileless := objGet d 0x3010 s == 2
  let spliced := objGet d 0x3010 s != 1
  let layer := (es.head?.map (·.layer)).getD 0
  let f : Frame :=
    { number := c % 256, count := some c, start := n, credited := true, layer := layer, intra := intra, spliced := spliced
      frameMode := prm d sid 0x3018 == 1, re := effectiveRate d s, rmax := effectiveMax d s
      bands := es.map fun y => if tileless then tilelessBand c n k y else playedBand c n y }
  let y := moveEntries (refSlots d sid) (prm d sid 0x3050) (if intra || c = 0 then none else some (c - 1)) x
  let d1 := setStream sid { y with frames := y.frames ++ [f], count := c + 1, lastStart := n
                                   past := tabSet y.past c { layer := layer, intra := intra, spliced := spliced } } d
  let z := sess d1 s
  let d2 := objSet 0x5069 s f.re (setSess s { z with credits := z.credits - 1, spliceNext := k + 1 } d1)
  let d3 := forEach (enabledDests d2 s) (spectatorAt s c) d2
  if tileless then afterCollect s d3 else d3
/-- Frame k of the entry starts (R240). -/
def startPlayed (s n e k : Nat) (d : Dev) : Dev :=
  let ent := libEntry d (ownerOf d s) e
  let es := framePart ent.entries ((frameIds ent.entries).getD k 0)
  startBands s n k es ((es.head?.map (·.intra)).getD false || (ent.kind == 2 && k == 0)) d
/-- The entries of the first frame that was fed to a Decode session, once all its bands are there (R243, R375). -/
def fedFrame (d : Dev) (s : Nat) : Option (List CapEntry) :=
  if objGet d 0x3010 s = 1 && objGet d 0x30B3 s = 0xFFFF then
    (sess d s).feed.head?.bind fun x =>
      let es := framePart (sess d s).feed x.frame
      if es.length = bandCount d (liveSid s) then some es else none
  else none
/-- The first frame that was fed starts, and leaves the feed. -/
def startFed (s n : Nat) (es : List CapEntry) (d : Dev) : Dev :=
  let x := sess d s
  startBands s n x.spliceNext es ((es.head?.map (·.isClip)).getD false)
    (setSess s { x with feed := x.feed.filter fun y => !es.contains y } d)
/-- What plays in a session: the entry, and whether it loops. -/
def playing (d : Dev) (s : Nat) : Option (Nat × Bool) :=
  match (sess d s).splice with
  | some e => some (e, (sess d s).spliceLoop)
  | none => (decodeSource d s).map fun e => (e, false)
/-- The next frame of what plays starts; after the last one a looping splice plays its entry again (R240). -/
def playNext (s n : Nat) (d : Dev) : Dev :=
  match playing d s with
  | none => match fedFrame d s with
    | some es => startFed s n es d
    | none => d
  | some (e, again) =>
    let k := (sess d s).spliceNext
    if k < playFrames d s e then startPlayed s n e k d
    else if again && decide (0 < playFrames d s e) then startPlayed s n e 0 d
    else segmentOver s d
/-- A waiting splice begins (R239, R240): frames that have not started are discarded. -/
def beginSplice (s v : Nat) (d : Dev) : Dev :=
  let d1 := dropUnstarted s (settle s d)
  objCount 32 0x50A2 s 1
    (setSess s { sess d1 s with splicePend := none, splice := some (v % 64), spliceLoop := decide (1024 ≤ v), spliceNext := 0
                                spliceEnd := 0, pend := 0 } d1)
/-- A return that was written before the boundary is visible: doorbells are accepted again (R241 and its example). -/
def showReturn (s : Nat) (d : Dev) : Dev :=
  let x := sess d s
  if x.splice.isSome && x.spliceEnd = 1 then setSess s { x with spliceEnd := 2, lastNumber := none } d else d
/-- At stitch n, where R97 lets a frame start (R240 to R243): PAUSE of a session that plays takes effect, a return ends the
splice, a waiting splice begins, the next frame of what plays starts. A Splice-only or Decode session has its frame
boundaries here too. -/
def playBoundary (s n : Nat) (d0 : Dev) : Dev :=
  let d := showReturn s d0
  let x := sess d s
  let plays := x.splice.isSome || x.splicePend.isSome || objGet d 0x3010 s != 0
  if x.st ≠ .running || !plays || !creditOk d s n then d
  else if x.pend = 6 && x.pendSeen then pauseNow s d
  else
    let d1 := if x.spliceEnd = 2 then endSplice s d else d
    let d2 := match (sess d1 s).splicePend with
      | some v => if x.pendSeen then beginSplice s v d1 else d1
      | none => if objGet d1 0x3010 s = 0 then d1 else settle s d1
    if (sess d2 s).splice.isSome || (decodeSource d2 s).isSome || (fedFrame d2 s).isSome then playNext s n d2 else d2

end Sys2Proof.Machine
end

