-- ==== Sys2Proof/Machine/EgressRows.lean ====
section
/-! DEFINITION. Destination and shaper entries, port modes and links, sender reports, the egress timestamp FIFO, the learning
arbiter and the comparer (10, 11). -/
namespace Sys2Proof.Machine

/-! ## Destination and shaper entries (R252 to R255) -/

/-- The enabled destinations as last written: session, destination, entry (R255). -/
def enabledEntries (d : Dev) : List (Nat × Nat × Nat) :=
  (d.objs.filter fun x => decide (0x3100 * 256 ≤ x.1) && decide (x.1 < 0x3140 * 256) && bit x.2 0).map fun x =>
    (x.1 % 256, x.1 / 256 - 0x3100, x.2)
/-- Is an address a service address of port p, in force or accepted for the next stitch (R218, R220, R248)? -/
def servesAddr (d : Dev) (p a : Nat) : Bool :=
  (listsAddr (objGet d 0x1A20 p) a && !d.pair.given.contains (p, a)) || d.pair.taken.contains (p, a)
/-- Is a tag word as R252 gives it: its TPID one of those listed? -/
def tpidOk (tag : Nat) (tpids : List Nat) : Bool := tpids.contains (tag / 65536)
/-- Is a field of a destination entry outside its range (R252, R255)? -/
def destRange (v : Nat) : Bool :=
  let tags := byteAt v 2
  let ext := byteAt v 0x12
  bits v 3 5 != 0 || decide (7 < byteAt v 1) || decide (2 < tags) || decide (63 < byteAt v 3) ||
    (decide (1 ≤ tags) && !tpidOk (bytesAt v 4 4) [0x8100, 0x88A8]) ||
    (tags == 2 && !tpidOk (bytesAt v 8 4) [0x8100]) ||
    (if bit v 2 then ext == 0 || decide (14 < ext) else ext != 0) || byteAt v 0x13 == 0 ||
    decide (2 ^ 20 ≤ bytesAt v 0x38 4) || (!bit v 1 && bytesAt v 0x38 4 != 0) || bytesAt v 0x3C 4 != 0
/-- The largest IP packet of a destination (R255): M and the headers of R263 from the IP header to the tag. -/
def largestIp (d : Dev) (s v : Nat) : Nat :=
  payloadSize d s + headerBytesOf v (objGet d 0x3011 s) - 18 - 4 * byteAt v 2
/-- The queue blocks that a destination still has to reserve for a queue limit (R255): 64 KiB each, unmirrored. -/
def queueNeed (d : Dev) (s e limit : Nat) : List (Nat × Use) :=
  List.replicate (ceilDiv limit 65536 - (blocksWith d fun b => b.use == .queue s e).length) (1, .queue s e)
/-- May the destination table of the session be written (R255)? -/
def destState (d : Dev) (s : Nat) : Bool := [SessSt.armed, .running, .paused, .suspended].contains (sess d s).st

/-- The codes of a destination entry (R255). -/
def destErrs (s e : Nat) (v : Payload) (d : Dev) : List Err :=
  let w := v.val
  let p := byteAt w 1
  let t := ownerOf d s
  let es := (enabledEntries d).filter fun x => !(x.1 == s && x.2.1 == e)
  let src := bytesAt w 0x18 16
  let dst := bytesAt w 0x28 16
  let five := fun u => (byteAt u 1, bytesAt u 0x14 4, bytesAt u 0x18 16, bytesAt u 0x28 16)
  let on := bit w 0
  typeErrs (0x3100 + e) v ++
    earned [(!destState d s, .state), (destRange w, .range),
      (on && decide (objGet d 0x2004 t ≤ (es.filter fun x => ownerOf d x.1 == t).length), .quota),
      (on && decide (16384 ≤ es.length), .capacity),
      (!portExists (objGet d 0x1A00 0) (p % 8) || !servesAddr d p src || bit w 1 == isMapped src ||
        bit w 1 == isMapped dst, .conflict),
      (decide (objGet d 0x1A02 (p % 8) < largestIp d s w), .conflict),
      (on && es.any (fun x => five x.2.2 == five w), .conflict)] ++
    (if on then blockErrs d t (queueNeed d s e (bytesAt (objGet d (0x3140 + e) s) 0x14 4)) else [])
/-- An entry was written: it takes effect at the next stitch, and the lining is told (R196, R255). -/
def destWritten (s e idx v : Nat) (d : Dev) : Dev :=
  let d1 := objSetStitch idx s v d
  let d2 := if d1.pke.destWaits.contains (s, e) then d1
            else { d1 with pke := { d1.pke with destWaits := d1.pke.destWaits ++ [(s, e)] } }
  noteChange s idx d2
/-- A destination entry is accepted: its queue is reserved, or given back if it never took effect (R255). -/
def destAct (s e v : Nat) (d : Dev) : Dev :=
  let need := queueNeed d s e (bytesAt (objGet d (0x3140 + e) s) 0x14 4)
  let d1 := if bit v 0 then (allocAll (ownerOf d s) need d).getD d
            else if !bit (destEntry d s e) 0 then releaseUse (fun u => u == .queue s e) d else d
  destWritten s e (0x3100 + e) v d1
/-- The write behind DESTINATION_WRITE (R255). -/
def destWrite (q : Req) (slot dest : Nat) (v : Payload) : Dev → Dev :=
  fun d =>
    perform q (0x3100 + dest) slot (destErrs slot dest v) (destAct slot dest v.val) (atTime q.now d)
/-- DESTINATION_WRITE (R255). -/
def execDestinationWrite (q : Req) (slot dest : Nat) (v : Payload) (s : State) : Host.Outcome State Fault Refusal :=
  actOn (decide (dest < 64)) (destWrite q slot dest v) s

/-- The codes of a shaper entry (R254, R255): with congestion control on, the rates may not change (R184). -/
def shaperErrs (s e : Nat) (v : Payload) (d : Dev) : List Err :=
  let w := v.val
  let old := objGet d (0x3140 + e) s
  let entry := objGet d (0x3100 + e) s
  let least := payloadSize d s + headerBytesOf entry (objGet d 0x3011 s) + byteAt w 16
  let c := bytesAt w 0 4
  let p := bytesAt w 4 4
  let limit := bytesAt w 0x14 4
  let depthBad := fun x => decide (x < least) || decide (4194304 < x)
  typeErrs (0x3140 + e) v ++
    earned [(!destState d s, .state),
      (decide (c < 100) || decide (1000000 < c) || decide (p < c) || decide (1000000 < p) || depthBad (bytesAt w 8 4) ||
        depthBad (bytesAt w 12 4) || bytesAt w 0x11 3 != 0 || decide (limit < 16384) || decide (4194304 < limit) ||
        bytesAt w 0x18 8 != 0, .range),
      (objGet d 0x3078 s == 1 && bytesAt w 0 8 != bytesAt old 0 8, .state)] ++
    (if bit entry 0 then blockErrs d (ownerOf d s) (queueNeed d s e limit) else [])
/-- A shaper entry is accepted: an enabled destination's queue grows with its limit. -/
def shaperAct (s e v : Nat) (d : Dev) : Dev :=
  let need := queueNeed d s e (bytesAt v 0x14 4)
  let d1 := if bit (objGet d (0x3100 + e) s) 0 then (allocAll (ownerOf d s) need d).getD d else d
  noteChange s (0x3140 + e) (objSetStitch (0x3140 + e) s v d1)
/-- The write behind SHAPER_WRITE (R254). -/
def shaperWrite (q : Req) (slot dest : Nat) (v : Payload) : Dev → Dev :=
  fun d =>
    perform q (0x3140 + dest) slot (shaperErrs slot dest v) (shaperAct slot dest v.val) (atTime q.now d)
/-- SHAPER_WRITE (R254). -/
def execShaperWrite (q : Req) (slot dest : Nat) (v : Payload) (s : State) : Host.Outcome State Fault Refusal :=
  actOn (decide (dest < 64)) (shaperWrite q slot dest v) s

/-! ## Port modes and links (R245 to R249) -/

/-- Does something name a logical port, or use a service address of it (R247)? A mirror or export address that holds
nothing but zeros names none. -/
def portInUse (d : Dev) (p : Nat) : Bool :=
  let names := fun v => v != 0 && byteAt v 16 == p
  (enabledEntries d).any (fun x => byteAt x.2.2 1 == p || servesAddr d p (bytesAt x.2.2 0x18 16)) ||
    names (objGet d 0x1404 0) || (List.range 256).any (fun t => names (objGet d 0x2011 t)) || bit (objGet d 0x1A30 0) p
/-- The codes of a write of the port modes (R247, R248). -/
def portModeErrs (v : Nat) (d : Dev) : List Err :=
  earned [(decide (255 < v), .type), (decide (15 < v), .range),
    ((List.range 8).any fun p => portExists (objGet d 0x1A00 0) p && !portExists v p && portInUse d p, .conflict)]
/-- The write behind PORT_MODE_WRITE (R247). -/
def portModeWrite (q : Req) (value : Nat) : Dev → Dev :=
  fun d => perform q 0x1A00 0 (portModeErrs value) (objSetStitch 0x1A00 0 value) (atTime q.now d)
/-- PORT_MODE_WRITE (R247): it acts at the next stitch. -/
def execPortModeWrite (q : Req) (value : Nat) (s : State) : Host.Outcome State Fault Refusal :=
  act (portModeWrite q value) s

/-- The link of a port goes down (R249): counted, posted, its queues are discarded. -/
def linkDown (p value : Nat) (d : Dev) : Dev :=
  let n := fld d (Reg.pkePortStat.at p) 8 8
  let d1 := setFld (Reg.pkePortStat.at p) 8 8 (min 255 (n + 1)) (setPort p { port d p with link := value } d)
  exportPump (discardQueues p (postEvent pfFn 2 1 0 p value d1))
/-- At a boundary the links of each port whose mode changes go down and retrain (R247); `old` are the modes before it. -/
def portModesShown (old : Nat) (d : Dev) : Dev :=
  let new := objNow d 0x1A00 0
  forEach (List.range 8) (fun p d =>
    if modeOf old p = modeOf new p then d
    else
      let value := if portExists new p then 1 else 0
      let d1 := if linkUp d p then linkDown p value d else setPort p { port d p with link := value } d
      setPort p { port d1 p with trainingFrom := if portExists new p then some d.tbs.ns else none } d1) d
/-- LINK_TRAIN_TIMEOUT (R247): a link that has not come up 500 ms after the change is reported as down. -/
def trainTimeout (p : Nat) (d : Dev) : Dev :=
  match (port d p).trainingFrom with
  | some t =>
    if t + 500000000 ≤ d.tbs.ns then setPort p { port d p with trainingFrom := none, link := 1 } d else d
  | none => d
/-- LINK_TRAIN_TIMEOUT (R247). -/
def execLinkTrainTimeout (port now : Nat) (s : State) : Host.Outcome State Fault Refusal :=
  actOn (isPort port) (fun d => trainTimeout port (atTime now d)) s
/-- ETHERNET_LINK_CHANGE (R249): only a logical port of the modes in force has a link. -/
def etherLink (p : Nat) (up : Bool) (d : Dev) : Dev :=
  if !portPresent d p || linkUp d p == up then d
  else if up then postEvent pfFn 2 1 0 p 2 (setPort p { port d p with link := 2, trainingFrom := none } d)
  else linkDown p 1 d
/-- ETHERNET_LINK_CHANGE (R249). -/
def execEthernetLinkChange (port : Nat) (up : Bool) (now : Nat) (s : State) : Host.Outcome State Fault Refusal :=
  actOn (isPort port) (fun d => etherLink port up (atTime now d)) s

/-! ## Sender reports (R271) -/

/-- T in NTP format, less the UTC offset (R271): seconds since 1900 and a fraction of 32 bits. -/
def ntpTime (d : Dev) : Nat :=
  let ns : Int := d.tbs.ns - 1000000000 * signed 32 (objGet d 0x1323 0) + 2208988800 * 1000000000
  unsigned 64 (ns / 1000000000) % 2 ^ 32 * 2 ^ 32 + (ns % 1000000000).toNat * 2 ^ 32 / 1000000000
/-- The bytes of a sender report with its SDES CNAME (R253, R271; RFC 3550, log 20). -/
def reportBytes (d : Dev) (s : Nat) : Nat :=
  let n := match objRowOf 0x30C5 with
    | some r => r.lenOf (objGet d 0x30C5 s)
    | none => 0
  28 + 4 + alignUp (4 + 2 + (if n = 0 then 8 else n) + 1) 4
/-- A sender report to one destination: NTP time, RTP time, packets and payload bytes sent to it. -/
def reportTo (s e : Nat) (d : Dev) : Dev :=
  let v := destEntry d s e
  let x := dest d s e
  let n := rtcpBytes v (reportBytes d s)
  let sent := (sess d s).pkts.filter fun k => k.2.copies.any fun c => c.e == e && c.sentAt.isSome
  let body := [ntpTime d, ((sess d s).tx.tsBase + 9 * d.tbs.ns / 100000) % 2 ^ 32, x.mediaSent, sumBy (fun k => k.2.size) sent]
  enterClass (byteAt v 1) 2 { kind := 2, s := s, e := e, seq := x.srtcp, bytes := n, cost := n, body := body }
    (setDest s e { x with srtcp := x.srtcp + 1 } d)
/-- SENDER_REPORT (R271): at each interval, and at the first stitch after START. -/
def senderReport (s : Nat) (d : Dev) : Dev :=
  let x := sess d s
  let due := match x.tx.srAt with
    | none => true
    | some t => decide (t + objNow d 0x30C1 s ≤ d.tbs.cnt)
  if !([SessSt.running, .paused, .suspended, .draining].contains x.st)|| x.tx.silent || !due then d
  else
    forEach ((enabledDests d s).filter fun e => (dest d s e).key.isSome) (reportTo s)
      (setSess s { x with tx := { x.tx with srAt := some d.tbs.cnt } } d)
/-- SENDER_REPORT (R271). -/
def execSenderReport (slot now : Nat) (s : State) : Host.Outcome State Fault Refusal :=
  actOn (isSlot slot) (fun d => senderReport slot (atTime now d)) s

/-! ## The packet engine's registers (R251, R277, R296) -/

/-- PTP_TS_TAG_READ (R251): a read of the tag takes the oldest timestamp; HI and LO hold it until the next read. -/
def tagRead (d : Dev) : Dev :=
  match d.pke.stamps with
  | [] => { d with pke := { d.pke with stampTag := 0 } }
  | (p, ty, seq, t) :: rest =>
    { d with pke := { d.pke with
        stamps := rest, stampTag := p + 2 ^ 3 + ty % 16 * 2 ^ 4 + seq % 65536 * 2 ^ 8, stampTime := t % 2 ^ 64 } }
/-- PTP_TS_TAG_READ (R251). -/
def execPtpTsTagRead (who : Caller) (s : State) : Host.Outcome State Fault Refusal :=
  act (fun d => if reachesPf who then hostGate who tagRead d else d) s
/-- TS_FLUSH (R251): the FIFO is emptied. -/
def execTsFlush (who : Caller) (s : State) : Host.Outcome State Fault Refusal :=
  act (regGate who Reg.pkeCtrl.base false fun d =>
    mend Reg.pkeCtrl.base { d with pke := { d.pke with stamps := [] } }) s
/-- PKE_HWM_CLR (R277): every residence and depth mark is cleared. -/
def execPkeHwmClr (who : Caller) (s : State) : Host.Outcome State Fault Refusal :=
  act (regGate who Reg.pkeCtrl.base false fun d =>
    mend Reg.pkeCtrl.base (forEach (List.range 64) (fun i d => regSet (Reg.pkeResHwm.at i) 0 (regSet (Reg.pkeDepthHwm.at i) 0 d)) d)) s
/-- IGR_LAP_HWM_CLR (R296): the greatest lap is cleared. -/
def execIgrLapHwmClr (who : Caller) (s : State) : Host.Outcome State Fault Refusal :=
  act (regGate who Reg.pkeIgrCtrl.base false fun d => mend Reg.pkeIgrCtrl.base (regSet Reg.pkeCmpLapHwm.base 0 d)) s
/-- PKE_PORT_STAT[p]: LINK_DOWN is kept in the register. -/
def portStat (d : Dev) (p : Nat) : Nat :=
  let here := portPresent d p
  let rate := if !here then 3 else
    let c := modeOf (objNow d 0x1A00 0) p
    if c = 1 then 2 else if c = 2 then 1 else 0
  b2n here + b2n (here && linkUp d p) * 2 + rate * 2 ^ 2 + b2n (port d p).listSel * 2 ^ 4 + b2n (gatesClosed d) * 2 ^ 5 +
    fld d (Reg.pkePortStat.at p) 8 8 * 2 ^ 8
/-- 0x31C0+e:s, the status of a destination (R254). -/
def destStatus (d : Dev) (s e : Nat) : Nat :=
  let x := dest d s e
  costH d s e % 65536 + x.st * 2 ^ 16 + unsigned 32 x.ct * 2 ^ 32 + unsigned 32 x.pt * 2 ^ 64 +
    sumBy (·.cost) x.queue * 2 ^ 96 + min (2 ^ 32 - 1) x.waitHwm * 2 ^ 128 + min (2 ^ 32 - 1) x.depthHwm * 2 ^ 160
/-- 0x50C0:s, the destinations' egress counts (10). -/
def destEgress (d : Dev) (s : Nat) : Nat :=
  sumBy (fun e =>
    let x := dest d s e
    (x.mediaSent % 2 ^ 32 + x.resends % 2 ^ 32 * 2 ^ 32 + min 65535 x.discards * 2 ^ 64) * 2 ^ (128 * e)) (List.range 64)

/-! ## Learning (R291 to R293) -/

/-- LEARNING_DECISION (R292): the first candidate, 4 µs after its stamp. -/
def learningDecision (d : Dev) : Dev :=
  match d.pke.candidates with
  | [] => d
  | c :: rest =>
    if d.tbs.ns < c.stamp + 4000 then d
    else
      let out := moveOutcome d c
      let d1 := moveReport c out { d with pke := { d.pke with candidates := rest } }
      if out = 1 then noteChange (c.g / 64) (0x3100 + c.g % 64) (moveDest c d1) else d1
/-- LEARNING_DECISION (R292). -/
def execLearningDecision (now : Nat) (s : State) : Host.Outcome State Fault Refusal :=
  act (fun d => learningDecision (atTime now d)) s

/-! ## The comparer (R295, R296) -/

/-- The entry of a pipeline's table for destination g. -/
def flowOfDest (d : Dev) (i g : Nat) : Option Flow :=
  ((pipe d i).flows.flatMap (·.2)).find? fun f => f.g == g
/-- Record g of the shadow (R295). -/
def shadowRecord (d : Dev) (g : Nat) : Nat :=
  match blockAt d (handleKey (objGet d 0x1A44 0)) with
  | some b => memRead d (blockMem b + 32 * g) 32
  | none => 0
/-- The kind of divergence of a pair (R296), 0 for none. -/
def divergence (d : Dev) (i g : Nat) : Nat :=
  let r := shadowRecord d g
  let wanted := bit r i
  match flowOfDest d i g with
  | none => if !wanted then 0 else if (dest d (g / 64) (g % 64)).st = 0 then 4 else 1
  | some f =>
    if !wanted then 2 else if f.ra ≠ bytesAt r 4 16 || f.rp ≠ bytesAt r 2 2 then 3
    else if (dest d (g / 64) (g % 64)).st = 0 then 4 else 0
/-- A divergence is counted, recorded and posted (R296). -/
def reportDivergence (i g kind : Nat) (d : Dev) : Dev :=
  postEvent pfFn 3 2 0 g (i + kind * 256)
    (objSet 0x1A4A 0 (g + i * 2 ^ 16 + kind * 2 ^ 24) (regCount Reg.pkeCmpDivCnt.base 1 (objCount 32 0x50EA 0 1 d)))
/-- COMPARER_CHECK (R296): the next pair, at most one every 1 µs. -/
def comparerCheck (d : Dev) : Dev :=
  if objNow d 0x1A46 0 = 0 || objGet d 0x1A44 0 = 0 || decide (d.tbs.ns < d.pke.cmpLast + 1000) then d
  else
    let n := d.pke.cmpNext
    let g := n / 2
    let i := n % 2
    let start := if n = 0 then d.tbs.ns else d.pke.cmpStart
    let d1 := { d with pke := { d.pke with cmpNext := (n + 1) % 32768, cmpStart := start, cmpLast := d.tbs.ns } }
    let fresh := match tabFind (pipe d i).changed g with
      | some t => decide (d.tbs.ns < t + 1000000 * objGet d 0x1A45 0)
      | none => false
    let k := divergence d i g
    let d2 := if fresh || k = 0 then d1 else reportDivergence i g k d1
    if n = 32767 then
      let lap := min (2 ^ 24 - 1) ((d.tbs.ns - start) / 1000)
      regSet Reg.pkeCmpLapHwm.base (max lap (regGet d2 Reg.pkeCmpLapHwm.base)) (regSet Reg.pkeCmpLap.base lap d2)
    else d2
/-- COMPARER_CHECK (R296). -/
def execComparerCheck (now : Nat) (s : State) : Host.Outcome State Fault Refusal :=
  act (fun d => comparerCheck (atTime now d)) s

/-! ## Refresh on command (R156) -/

/-- The write behind REFRESH_REQUEST (R156). -/
def refreshWrite (q : Req) (slot value : Nat) : Dev → Dev :=
  fun d => perform q 0x3064 slot
    (fun d => earned [(decide (255 < value), .type), (value != 1, .range),
      ((sess d slot).st != .running && (sess d slot).st != .paused, .state)])
    (triggerCycle (liveSid slot)) (atTime q.now d)
/-- REFRESH_REQUEST (R156): a trigger of a cycle, in RUNNING and PAUSED. -/
def execRefreshRequest (q : Req) (slot value : Nat) (s : State) : Host.Outcome State Fault Refusal :=
  act (refreshWrite q slot value) s

end Sys2Proof.Machine
end

