-- ==== Sys2Proof/Machine/Safe.lean ====
section
/-! DEFINITION. The safe state (R485), and what a warm reset shares with it. -/
namespace Sys2Proof.Machine

/-- Every DMA channel stops as if its disable bit were cleared (R372, R485 step 6). -/
def stopChannels (d : Dev) : Dev := forEach (tabKeys d.dmaCh) (fun c d => stopFree c 1 d) d
/-- Every sequencer enters HALT (R485 step 2). -/
def haltTiles (d : Dev) : Dev :=
  forEach (tabKeys d.tiles) (fun t d => if (tile d t).on then updTile t (fun x => { x with halted := true }) d else d) d
/-- Each controller in state 3 begins stage 1 of self-refresh (R485 step 8). -/
def chansToStage1 (d : Dev) : Dev :=
  forEach ((List.range 16).filter fun c => chanState d c == 3 && (chan d c).running == 0)
    (fun c d => setChan c { chan d c with running := 1, goal := 1, waits := false } d) d
/-- Steps 2 to 8 of R485, by what they stop: the Loom, the rate controller, the gates and the intake block read the state
itself. -/
def stopAll (d : Dev) : Dev := chansToStage1 (stopChannels (haltTiles d))
/-- Entry to the safe state with CAUSE (R485): interrupt source 0, SAFE, the halt of everything, the HOLD_N pins. -/
def enterSafe (cause : Nat) (d : Dev) : Dev :=
  if d.flt.safe then d
  else holdUpdate (stopAll (raise 0 { d with flt := { d.flt with safe := true, cause := cause } }))

end Sys2Proof.Machine
end

