-- ==== Sys2Proof/Machine/Faults.lean ====
section
/-! DEFINITION. The fault collector (19): acceptance, captures, the log, standing bits, force bits, the safe state. -/
namespace Sys2Proof.Machine

/-! ## Acceptance (R475) -/

/-- Of the reports accepted in one cycle, the one of highest severity, ties to the lowest source (R475). -/
def chosen : List Report → Option Report
  | [] => none
  | r :: t =>
    match chosen t with
    | none => some r
    | some p => if r.sev > p.sev || (r.sev == p.sev && decide (r.src ≤ p.src)) then some r else some p

/-- A report joins its source's pending latch (R477): the higher severity's detail, the earlier among equals, the sum of
the counts. -/
def latchJoin (time order : Nat) (first worst : Bool) (r : Report) : Option Latch → Latch
  | none => { rep := r, time := time, order := order, first := first, worst := worst }
  | some l =>
    { l with
      rep := { (if l.rep.sev < r.sev then r else l.rep) with count := l.rep.count + r.count }
      first := l.first || first
      worst := l.worst || worst }

/-- One report is accepted: its standing bit, its count, its latch, its level (R475 items 1 to 3, R537). -/
def acceptOne (order : Nat) (first worst : Bool) (r : Report) (d : Dev) : Dev :=
  let f := fltSrc d r.src
  let d1 := setFltSrc r.src
    { f with
      standing := if bit f.standing r.sev then f.standing else f.standing + 2 ^ r.sev
      occ := satAdd 12 f.occ r.count
      levels := if r.level then r :: f.levels else f.levels
      latch := some (latchJoin d.tbs.ns order first worst r f.latch) } d
  if r.sev = 4 then raise 0 d1 else if r.sev = 3 then raise 1 d1 else d1

/-- Is the chosen report captured as the worst fault? (R475 item 5) -/
def beatsWorst (d : Dev) (r : Report) : Bool :=
  match d.flt.worst with
  | none => true
  | some w => decide (r.sev > w.rep.sev)

/-- Every report the collector accepts in one cycle (R475, R482, R485). -/
def acceptAll (rs : List Report) (d : Dev) : Dev :=
  match chosen rs with
  | none => d
  | some c =>
    let isFirst := d.flt.first.isNone
    let isWorst := beatsWorst d c
    let cap : Capture := { rep := c, time := d.tbs.ns, seq := 0 }
    let d1 : Dev := { d with flt := { d.flt with
      first := if isFirst then some cap else d.flt.first
      worst := if isWorst then some cap else d.flt.worst
      orders := d.flt.orders + 1 } }
    let d2 := forEach rs (fun r => acceptOne d.flt.orders (isFirst && r == c) (isWorst && r == c) r) d1
    if c.sev = 4 then enterSafe (if c.forced then 2 else 1) d2 else d2

/-- The report with an uncorrectable half of its detail word (R472). -/
def detailError (r : Report) : Report := { src := r.src, code := 0x0003, sev := 3, forced := r.forced }

/-- Takes the first presented report of each named source off its pair; the Bool says that its detail word is
correctable (R472). -/
def takePresented : List (Nat × Bool) → List Report → List Report × List Report
  | [], l => ([], l)
  | (i, ok) :: t, l =>
    match l.find? (·.src == i) with
    | none => takePresented t l
    | some r =>
      let rest := takePresented t (l.erase r)
      ((if ok then r else detailError r) :: rest.1, rest.2)

/-- FAULT_REPORT_ACCEPT: the reports of one cycle. -/
def faultReportAccept (srcs : List (Nat × Bool)) (now : Nat) (d : Dev) : Dev :=
  let p := takePresented srcs d.flt.presented
  acceptAll p.1 (atTime now { d with flt := { d.flt with presented := p.2 } })

/-- FAULT_REPORT_ACCEPT (R475). -/
def execFaultReportAccept (srcs : List (Nat × Bool)) (now : Nat) (s : State) : Host.Outcome State Fault Refusal :=
  act (faultReportAccept srcs now) s

/-! ## The log (R476 to R479) -/

/-- Free slots of the ring (R478). -/
def logFree (d : Dev) : Nat := 256 - (d.flt.head + 2 ^ 32 - d.flt.tail) % 2 ^ 32

/-- Does latch `a` of source `i` go before latch `b` of source `j`? (R477) -/
def goesFirst (i : Nat) (a : Latch) (j : Nat) (b : Latch) : Bool :=
  decide (a.order < b.order) ||
    (a.order == b.order && (decide (a.rep.sev > b.rep.sev) || (a.rep.sev == b.rep.sev && decide (i < j))))

/-- The next pending source (R477). -/
def nextPending : Tab FltSrc → Option (Nat × Latch)
  | [] => none
  | (i, f) :: t =>
    match f.latch, nextPending t with
    | none, p => p
    | some a, none => some (i, a)
    | some a, some (j, b) => if goesFirst i a j b then some (i, a) else some (j, b)

/-- The record of a latch (R476). -/
def recordOf (seq : Nat) (suspect : Bool) (i : Nat) (a : Latch) : LogRec :=
  { seq := seq, sev := a.rep.sev, forced := a.rep.forced, first := a.first, suspect := suspect, source := i,
    code := a.rep.code, time := a.time, count := a.rep.count, subject := a.rep.subject, info := a.rep.info }

/-- The captured fault's record number becomes known (R488). -/
def capSeq (mine : Bool) (seq : Nat) (c : Option Capture) : Option Capture :=
  if mine then c.map fun x => { x with seq := seq } else c

/-- Writes the record of source i's latch into the ring (R476, R477, R482). -/
def logStore (i : Nat) (a : Latch) (d : Dev) : Dev :=
  let r := recordOf d.flt.head d.flt.integrity i a
  let d1 : Dev := { d with flt := { d.flt with
    log := tabPut {} d.flt.log (r.seq % 256) r
    head := (d.flt.head + 1) % 2 ^ 32
    first := capSeq a.first r.seq d.flt.first
    worst := capSeq a.worst r.seq d.flt.worst } }
  if a.rep.sev < 3 then raise 18 d1 else d1

/-- Discards a latch that finds no room (R478). -/
def logLose (a : Latch) (d : Dev) : Dev :=
  { d with flt := { d.flt with
    lostEvents := satAdd 24 d.flt.lostEvents a.rep.count
    lostSev := max d.flt.lostSev a.rep.sev
    lostAny := true } }

/-- The next pending source's record is written, or discarded when the ring has no room for it (R477, R478). -/
def logNext (d : Dev) : Dev :=
  match nextPending d.flt.srcs with
  | none => d
  | some (i, a) =>
    let d1 := setFltSrc i { fltSrc d i with latch := none } d
    if (if a.rep.sev < 3 then decide (8 < logFree d) else decide (0 < logFree d)) then logStore i a d1 else logLose a d1

/-- LOG_RECORD_WRITE (R477). -/
def execLogRecordWrite (now : Nat) (s : State) : Host.Outcome State Fault Refusal :=
  act (fun d => logNext (atTime now d)) s

/-- The 32 bytes of a record (R476). -/
def recBytes (r : LogRec) : Nat :=
  r.seq % 2 ^ 32 + (r.sev + b2n r.forced * 8 + b2n r.first * 16 + b2n r.suspect * 32) * 2 ^ 32 + r.source * 2 ^ 40 +
    r.code * 2 ^ 48 + r.time % 2 ^ 64 * 2 ^ 64 + r.count % 2 ^ 32 * 2 ^ 128 + r.subject % 2 ^ 32 * 2 ^ 160 +
    r.info % 2 ^ 64 * 2 ^ 192

/-- The record in slot i of the ring, if one has been written. -/
def logSlot (d : Dev) (i : Nat) : LogRec := tabGet {} d.flt.log i

/-- LOG_SEL (R479): the words take the record with that SEQ, or 0; an uncorrectable slot reads as zeros and gives a
record of code 0x0004 (R484). -/
def logSel (value : Nat) (slotOk : Bool) (d : Dev) : Dev :=
  let r := logSlot d (value % 256)
  if slotOk then
    { d with flt := { d.flt with sel := value, words := if r.seq = value ∧ value ≠ 0 then recBytes r else 0 } }
  else
    acceptAll [{ src := 0, code := 0x0004, sev := 1, subject := 0x1000 + value % 256 }]
      { d with flt := { d.flt with sel := value, words := 0 } }

/-- LOG_SEL (R479). -/
def execLogSel (who : Caller) (value : Nat) (slotOk : Bool) (now : Nat) (s : State) : Host.Outcome State Fault Refusal :=
  act (fun d => regGate who Reg.fltLogSel.base true (logSel (value % 2 ^ 32) slotOk) (atTime now d)) s

/-- Does a tail value lie between the present tail and the head, modulo 2^32? (R479) -/
def tailOk (d : Dev) (value : Nat) : Bool :=
  decide ((value + 2 ^ 32 - d.flt.tail) % 2 ^ 32 ≤ (d.flt.head + 2 ^ 32 - d.flt.tail) % 2 ^ 32)

/-- A tail value that R479 accepts takes effect. -/
def setTail (value : Nat) (d : Dev) : Dev := { d with flt := { d.flt with tail := value } }

/-- LOG_TAIL (R479). -/
def execLogTail (who : Caller) (value : Nat) (s : State) : Host.Outcome State Fault Refusal :=
  act (fun d => regGate who Reg.fltLogTail.base true
    (fun d => if tailOk d (value % 2 ^ 32) then setTail (value % 2 ^ 32) d
      else regDrop who Reg.fltLogTail.base .conflict d) d) s

/-! ## Wire faults, integrity, self-test (R473, R480, R484) -/

/-- There are 139 sources, 1 to 138 with a pair (R470, R471). -/
def hasPair (i : Nat) : Bool := decide (0 < i) && decide (i < 139)

/-- A spell of disagreement begins: DISC and FLT_DISC_TOTAL rise by 1 (R473). -/
def discSpell (src : Nat) (d : Dev) : Dev :=
  let f := fltSrc d src
  setFltSrc src { f with disc := satAdd 12 f.disc 1 }
    { d with flt := { d.flt with discTotal := satAdd 32 d.flt.discTotal 1 } }

/-- DISAGREEMENT_SPELL (R473). -/
def execDisagreementSpell (src : Nat) (s : State) : Host.Outcome State Fault Refusal :=
  actOn (hasPair src) (discSpell src) s

/-- The eighth cycle of disagreement: a level report of code 0x0002 under the source's own number, WIRE set (R473). -/
def wireFault (src : Nat) (forced : Bool) (d : Dev) : Dev :=
  let d1 := acceptAll [{ src := src, code := 0x0002, sev := 3, level := true, forced := forced }] d
  setFltSrc src { fltSrc d1 src with wire := true } d1

/-- WIRE_FAULT (R473). -/
def execWireFault (src : Nat) (forced : Bool) (now : Nat) (s : State) : Host.Outcome State Fault Refusal :=
  actOn (hasPair src) (fun d => wireFault src forced (atTime now d)) s

/-- The rails agree again: WIRE clears and the wire fault's level ends (R473). -/
def wireEnd (src : Nat) (d : Dev) : Dev :=
  let d1 := levelEnd src 0x0002 0 d
  setFltSrc src { fltSrc d1 src with wire := false } d1

/-- DISAGREEMENT_END (R473). -/
def execDisagreementEnd (src : Nat) (s : State) : Host.Outcome State Fault Refusal :=
  actOn (hasPair src) (wireEnd src) s

/-- COLLECTOR_INTEGRITY (R484): a level report from source 0 of severity 4; records from now on are SUSPECT. -/
def collectorIntegrity (offset : Nat) (d : Dev) : Dev :=
  acceptAll [{ src := 0, code := 0x0001, sev := 4, level := true, subject := offset }]
    { d with flt := { d.flt with integrity := true } }

/-- COLLECTOR_INTEGRITY (R484). -/
def execCollectorIntegrity (offset now : Nat) (s : State) : Host.Outcome State Fault Refusal :=
  act (fun d => collectorIntegrity offset (atTime now d)) s

/-- SELF_TEST_COMPLETE (R480): a pass releases FAULT_N, a failure enters the safe state. -/
def execSelfTestComplete (pass : Bool) (now : Nat) (s : State) : Host.Outcome State Fault Refusal :=
  act (fun d =>
    let d1 : Dev := { atTime now d with flt := { (atTime now d).flt with selfTest := pass } }
    if pass then d1 else enterSafe 3 d1) s

/-! ## Force bits (R483) -/

/-- The codes a force earns (R483). -/
def forceErrs (d : Dev) (src : Nat) : List Err :=
  earned [(decide (138 < src), .range), (!bit (regGet d Reg.fltCtrl.base) 9, .state),
    (src == 0 && bit (regGet d Reg.fltForceCfg.base) 3, .conflict)]

/-- The action of a force bit, by MODE (R483). -/
def forceAct (src : Nat) (d : Dev) : Dev :=
  let cfg := regGet d Reg.fltForceCfg.base
  if bit cfg 3 then
    if bits cfg 4 4 < 8 then discSpell src d else wireEnd src (wireFault src true (discSpell src d))
  else report { src := src, code := 0x00FF, sev := bits cfg 0 3, forced := true } d

/-- A write of 1 to the force bit of a source (R483). -/
def forceWrite (who : Caller) (src : Nat) (d : Dev) : Dev :=
  match lowest (forceErrs d src) with
  | some e => regDrop who (Reg.fltForce.at (min 4 (src / 32))) e d
  | none => forceAct src d

/-- FORCE_REPORT (R483). -/
def execForceReport (who : Caller) (src now : Nat) (s : State) : Host.Outcome State Fault Refusal :=
  act (fun d => regGate who (Reg.fltForce.at (min 4 (src / 32))) false (forceWrite who src) (atTime now d)) s

/-! ## Clears (R475, R478, R481) -/

/-- Is the clear of standing bit s undone by a level report that stands? (R481, R537 item 4; log 9) -/
def clearUndone (f : FltSrc) (s : Nat) : Bool :=
  match f.levels with
  | [] => false
  | [l] => l.sev == s
  | ls => ls.any fun l => decide (s ≤ l.sev)

/-- Clears the named standing bits 0 to 3 of a source, but for those a level condition holds (R481). -/
def standingClear (src mask : Nat) (d : Dev) : Dev :=
  let f := fltSrc d src
  let keep := fun s => bit f.standing s && (!bit mask s || clearUndone f s)
  setFltSrc src
    { f with standing := b2n (keep 0) + 2 * b2n (keep 1) + 4 * b2n (keep 2) + 8 * b2n (keep 3) +
        16 * b2n (bit f.standing 4) } d

/-- STANDING_CLEAR (R481). -/
def execStandingClear (who : Caller) (src mask : Nat) (s : State) : Host.Outcome State Fault Refusal :=
  actOn (decide (src < 139)) (regGate who (Reg.fltSrcStat.at src) true (standingClear src mask)) s

/-- The first-fault capture is cleared (R475). -/
def firstClr (d : Dev) : Dev := { d with flt := { d.flt with first := none } }
/-- The worst-fault capture is cleared (R475). -/
def worstClr (d : Dev) : Dev := { d with flt := { d.flt with worst := none } }
/-- FLT_LOG_LOST is cleared (R478). -/
def lostClr (d : Dev) : Dev := { d with flt := { d.flt with lostEvents := 0, lostSev := 0, lostAny := false } }
/-- Every OCC and DISC and FLT_DISC_TOTAL are cleared (R473). -/
def fltCntClr (d : Dev) : Dev :=
  forEach (tabKeys d.flt.srcs) (fun i d => setFltSrc i { fltSrc d i with occ := 0, disc := 0 } d)
    { d with flt := { d.flt with discTotal := 0 } }

/-- FIRST_CLR (R475). -/
def execFirstClr (who : Caller) (s : State) : Host.Outcome State Fault Refusal :=
  act (regGate who Reg.fltCtrl.base true firstClr) s
/-- WORST_CLR (R475). -/
def execWorstClr (who : Caller) (s : State) : Host.Outcome State Fault Refusal :=
  act (regGate who Reg.fltCtrl.base true worstClr) s
/-- LOST_CLR (R478). -/
def execLostClr (who : Caller) (s : State) : Host.Outcome State Fault Refusal :=
  act (regGate who Reg.fltCtrl.base true lostClr) s
/-- FLT_CNT_CLR (R473). -/
def execFltCntClr (who : Caller) (s : State) : Host.Outcome State Fault Refusal :=
  act (regGate who Reg.fltCtrl.base true fltCntClr) s

/-! ## What the collector shows -/

/-- FAULT_N is driven low (R480). -/
def faultNLow (d : Dev) : Bool :=
  !d.flt.selfTest || d.flt.safe ||
    d.flt.srcs.any fun e =>
      bit e.2.standing 4 ||
        (List.range 4).any fun s => bit e.2.standing s && bit (regGet d Reg.fltCtrl.base) s

/-- The number of sources pending for the log. -/
def fltPending (d : Dev) : Nat := (d.flt.srcs.filter fun e => e.2.latch.isSome).length

/-- FLT_STAT. -/
def fltStat (d : Dev) : Nat :=
  b2n d.flt.safe + b2n (faultNLow d) * 2 + b2n d.flt.selfTest * 4 + b2n (decide (logFree d ≤ 8)) * 8 +
    (256 - logFree d) * 2 ^ 4 + fltPending d * 2 ^ 13 + d.flt.cause * 2 ^ 21

/-- FLT_SRC_STAT[i]. -/
def fltSrcStat (d : Dev) (i : Nat) : Nat :=
  let f := fltSrc d i
  bits f.standing 0 5 + b2n f.latch.isSome * 2 ^ 5 + b2n f.wire * 2 ^ 6 + b2n (!f.levels.isEmpty) * 2 ^ 7 +
    f.occ * 2 ^ 8 + f.disc * 2 ^ 20

/-- FLT_FIRST_SRC and FLT_WORST. -/
def captureReg : Option Capture → Nat
  | none => 0
  | some c => c.rep.src + c.rep.sev * 2 ^ 8 + 2 ^ 11 + b2n c.rep.forced * 2 ^ 12 + c.rep.code * 2 ^ 16

/-- FLT_LOG_LOST. -/
def lostReg (d : Dev) : Nat := d.flt.lostEvents + d.flt.lostSev * 2 ^ 24 + b2n d.flt.lostAny * 2 ^ 27

/-- 0x1500:0 and 0x1501:0: the record form of a captured fault (R488). -/
def captureObj (d : Dev) (isFirst : Bool) : Option Capture → Nat
  | none => 0
  | some c =>
    recBytes
      { seq := c.seq, sev := c.rep.sev, forced := c.rep.forced, first := isFirst, suspect := d.flt.integrity,
        source := c.rep.src, code := c.rep.code, time := c.time, count := c.rep.count, subject := c.rep.subject,
        info := c.rep.info }

/-- The registers of the fault pages that show the collector's state. -/
def fltRead (d : Dev) (r : Reg) (i : Nat) : Option Nat :=
  match r with
  | .fltStat => some (fltStat d)
  | .fltFirstSrc => some (captureReg d.flt.first)
  | .fltFirstTimeHi => some (((d.flt.first.map (·.time)).getD 0) / 2 ^ 32 % 2 ^ 32)
  | .fltFirstTimeLo => some (((d.flt.first.map (·.time)).getD 0) % 2 ^ 32)
  | .fltWorst => some (captureReg d.flt.worst)
  | .fltLogHead => some d.flt.head
  | .fltLogTail => some d.flt.tail
  | .fltLogLost => some (lostReg d)
  | .fltLogSel => some d.flt.sel
  | .fltDiscTotal => some d.flt.discTotal
  | .fltLogWord => some (bits d.flt.words (32 * i) 32)
  | .fltSrcStat => some (fltSrcStat d i)
  | _ => none

/-- The objects of the fault view that show the collector's state (R488). -/
def fltObj (d : Dev) (idx sub : Nat) : Option Nat :=
  if idx = 0x1500 then some (captureObj d true d.flt.first)
  else if idx = 0x1501 then some (captureObj d false d.flt.worst)
  else if idx = 0x1502 then
    some (d.flt.head + d.flt.tail * 2 ^ 32 + lostReg d * 2 ^ 64 + fltStat d % 256 * 2 ^ 96)
  else if idx = 0x1503 then some (recBytes (logSlot d sub))
  else if idx = 0x1504 then some (fltSrcStat d sub)
  else if idx = 0x1505 then some d.flt.tail
  else if idx = 0x1507 then some (bits (regGet d Reg.fltCtrl.base) 0 4)
  else none

end Sys2Proof.Machine
end

