-- ==== Sys2Proof/Machine/Drawstring.lean ====
section
/-! DEFINITION. The Drawstring link (16: R415 to R424): token, frames and retries, closure, enumeration, conflicts. -/
namespace Sys2Proof.Machine

/-- Changes the Drawstring node. -/
def setDsr (x : Dsr) (d : Dev) : Dev := { d with dsr := x }

/-- The ring state becomes 5, open (R422): a severity-3 level fault, and DSR_OPEN_CNT rises by 1. -/
def ringOpen (d : Dev) : Dev :=
  if d.dsr.ring = 5 then d
  else beginTraining (level 14 0x0060 3 0 0 (regCount Reg.dsrOpenCnt.base 1 (setDsr { d.dsr with ring := 5 } d)))

/-- The ring leaves state 5 or passes it: the level of code 0x0060 ends (R422, R474). -/
def ringState (n : Nat) (d : Dev) : Dev :=
  let d1 := if d.dsr.ring = 5 && n != 5 then levelEnd 14 0x0060 0 d else d
  beginTraining (setDsr { d1.dsr with ring := n } d1)

/-- One try of a frame: it leaves with the next SEQ (R416, R417). -/
def sendFrame (f : OwnFrame) (d : Dev) : Dev :=
  emit (.dsFrame f.ty f.dst d.dsr.frameSeq f.op f.idx f.sub f.tag)
    (setDsr { d.dsr with frameSeq := (d.dsr.frameSeq + 1) % 256 } d)

/-- What becomes of a frame that has come round with an ACK (R418, R419): an accepted request waits for its response; ACK
2 is tried again at the next token, at most 3 times; ACK 3 every 1 ms for up to 100 ms; any other fails. -/
def afterAck (f : OwnFrame) (ack : Nat) (d : Dev) : Dev :=
  let t := d.tbs.ns
  let g : OwnFrame := { f with tries := f.tries + 1, ack := ack, lastSent := t, firstSent := if f.tries = 0 then t else f.firstSent }
  if f.dst = 0x3F then d
  else if ack = 1 then
    if f.ty = 1 && decide (f.op < 0x80) then
      setDsr { d.dsr with
        outstanding := d.dsr.outstanding ++
          [{ dst := f.dst, idx := f.idx, tag := f.tag, deadline := t + objGet d 0x1C07 0 * 1000000 }] } d
    else d
  else if ack = 2 && decide (g.tries ≤ 3) then setDsr { d.dsr with retry := d.dsr.retry ++ [g] } d
  else if ack = 3 && decide (t < g.firstSent + 100000000) then setDsr { d.dsr with retry := d.dsr.retry ++ [g] } d
  else d

/-- DRAWSTRING_TOKEN (R417): while the ring is up the node that holds the token sends one own frame, whose ACK comes back
as `ack`, and passes the token on; the master removes a token whose sequence is not the one it last issued. -/
def dsToken (seq ack : Nat) (d : Dev) : Dev :=
  if d.dsr.ring != 4 then d
  else if d.dsr.master && seq != d.dsr.tokenSeq then d
  else
    let d1 := setDsr { d.dsr with lastToken := d.tbs.ns } d
    let d2 := match d1.dsr.own with
      | [] => d1
      | f :: rest => afterAck f ack (sendFrame f (setDsr { d1.dsr with own := rest } d1))
    emit (.dsToken seq) d2

/-- DRAWSTRING_TOKEN (R417). -/
def execDrawstringToken (seq ack now : Nat) (s : State) : Host.Outcome State Fault Refusal :=
  act (fun d => dsToken (seq % 256) ack (atTime now d)) s

/-- The master issues a token (R417, R421). -/
def issueToken (d : Dev) : Dev :=
  emit (.dsToken ((d.dsr.tokenSeq + 1) % 256))
    (setDsr { d.dsr with tokenSeq := (d.dsr.tokenSeq + 1) % 256, lastToken := d.tbs.ns } d)

/-- TOKEN_REGENERATE (R417): no token has passed the master for 1 ms. -/
def tokenRegenerate (d : Dev) : Dev :=
  if d.dsr.master && d.dsr.ring == 4 && decide (d.dsr.lastToken + 1000000 ≤ d.tbs.ns) then
    regCount Reg.dsrRegenCnt.base 1 (issueToken d)
  else d

/-- TOKEN_REGENERATE (R417). -/
def execTokenRegenerate (now : Nat) (s : State) : Host.Outcome State Fault Refusal :=
  act (fun d => tokenRegenerate (atTime now d)) s

/-- HOP_LOCK (R420): the receiver locks; the node forwards from now on, and the ring is closing. -/
def hopLock (d : Dev) : Dev :=
  let d1 := setDsr { d.dsr with locked := true } d
  if d.dsr.ring ≤ 1 then ringState 2 d1 else d1

/-- HOP_LOCK (R420). -/
def execHopLock (now : Nat) (s : State) : Host.Outcome State Fault Refusal := act (fun d => hopLock (atTime now d)) s

/-- CLOSE_SEND (R420, R422): every 1 ms until the ring is closed, and while it is open. -/
def closeSend (d : Dev) : Dev :=
  if d.dsr.master && d.dsr.ring != 3 && d.dsr.ring != 4 then
    sendFrame { dst := 0x3F, ty := 2, op := 0, tag := d.dsr.nodeId } (setDsr { d.dsr with lastClose := d.tbs.ns } d)
  else d

/-- CLOSE_SEND (R420). -/
def execCloseSend (now : Nat) (s : State) : Host.Outcome State Fault Refusal := act (fun d => closeSend (atTime now d)) s

/-- The master sends an ENUM frame with a hop count of 0 (R421). -/
def sendEnum (tries : Nat) (d : Dev) : Dev :=
  sendFrame { dst := 0x3F, ty := 3, op := 0 }
    (ringState 3 (setDsr { d.dsr with enumTries := tries, enumSent := d.tbs.ns } d))

/-- A master receives a frame of another master (R423): the one with the higher identity stops its duties and records a
severity-3 fault. -/
def masterConflict (other : Nat) (d : Dev) : Dev :=
  if other < d.dsr.nodeId then pulse 14 0x0061 3 other 0 (setDsr { d.dsr with master := false } d) else d

/-- CLOSE (R420, R421, R423): the master's own CLOSE returning closes the ring and starts enumeration. -/
def dsClose (from_ : Nat) (d : Dev) : Dev :=
  if !d.dsr.master then d
  else if from_ = d.dsr.nodeId then
    if d.dsr.ring = 3 || d.dsr.ring = 4 then d else sendEnum 1 d
  else masterConflict from_ d

/-- CLOSE (R420). -/
def execClose (master now : Nat) (s : State) : Host.Outcome State Fault Refusal :=
  act (fun d => dsClose master (atTime now d)) s

/-- 0x1C01:0, the step of R426 reached: steps 9 and 10 are kept; before them it follows from the ring, the channels, their fill
and the alignment. -/
def startUpStep (d : Dev) : Nat :=
  let v := objGet d 0x1C01 0
  if 9 ≤ v then v
  else if d.dsr.ring < 4 then d.dsr.ring + 1
  else if (List.range 16).any (fun c => chanState d c == 1 || chanState d c == 2) then 5
  else if (servingChans d).any (fun c => fld d (Reg.wrdChanStat.at c) 0 2 != 2) then 6
  else if d.tbs.align != 2 then 7
  else 8

/-- This node's entry of the node table (0x1C05:0). -/
def nodeEntry (hop : Nat) (d : Dev) : Nat :=
  d.dsr.nodeId + hop * 2 ^ 8 + b2n d.dsr.master * 2 ^ 16 + objGet d 0x1001 0 * 2 ^ 24 + startUpStep d * 2 ^ 32

/-- The identity of an entry. -/
def entryId (e : Nat) : Nat := byteAt e 0

/-- The table with both entries of a shared identity flagged conflicted (R423). -/
def flagConflicts (es : List Nat) : List Nat :=
  es.map fun e => if 1 < (es.filter fun f => entryId f == entryId e).length then setBits e 17 1 1 else e

/-- The 256-byte value of a table: unused entries are 0xFF (0x1C05:0). -/
def tableValue (es : List Nat) : Nat :=
  sumBy (fun i => ((es[i]?).getD (2 ^ 64 - 1)) % 2 ^ 64 * 2 ^ (64 * i)) (List.range 32)

/-- A node stores the complete table and takes ring state 4 (R421); a conflicted identity is recorded (R423). -/
def takeTable (es : List Nat) (d : Dev) : Dev :=
  let mine := es.filter fun e => entryId e == d.dsr.nodeId
  let conflicted := mine.any fun e => bit e 17
  let d1 := objSet 0x1C05 0 (tableValue es) (ringState 4 d)
  let d2 := setDsr { d1.dsr with
    nodes := es.length, conflict := conflicted, lastToken := d1.tbs.ns
    masterId := (es.find? fun e => bit e 16).map entryId } d1
  if conflicted then level 14 0x0062 3 d.dsr.nodeId 0 d2 else levelEnd 14 0x0062 d.dsr.nodeId d2

/-- ENUM (R421, R423): a node counts its hop and appends its entry; on its return the master broadcasts TABLE, takes the
table itself and issues the token. -/
def dsEnum (from_ hop : Nat) (es : List Nat) (d : Dev) : Dev :=
  if d.dsr.master then
    if from_ != d.dsr.nodeId then masterConflict from_ d
    else if d.dsr.ring != 3 then d
    else
      let d1 := takeTable (flagConflicts (nodeEntry 0 d :: es)) (setDsr { d.dsr with hop := 0 } d)
      issueToken (sendFrame { dst := 0x3F, ty := 4, op := 0 } d1)
  else ringState 3 (setDsr { d.dsr with hop := hop + 1 } d)

/-- ENUM (R421). -/
def execEnum (master hop : Nat) (entries : List Nat) (now : Nat) (s : State) : Host.Outcome State Fault Refusal :=
  act (fun d => dsEnum master hop entries (atTime now d)) s

/-- ENUM_TIMEOUT (R421): 2 ms without a return; a new ENUM, at most 3 attempts, then the ring is open. -/
def enumTimeout (d : Dev) : Dev :=
  if d.dsr.master && d.dsr.ring == 3 && decide (d.dsr.enumSent + 2000000 ≤ d.tbs.ns) then
    if d.dsr.enumTries < 3 then sendEnum (d.dsr.enumTries + 1) d else ringOpen d
  else d

/-- ENUM_TIMEOUT (R421). -/
def execEnumTimeout (now : Nat) (s : State) : Host.Outcome State Fault Refusal :=
  act (fun d => enumTimeout (atTime now d)) s

/-- TABLE (R421). -/
def execTable (entries : List Nat) (now : Nat) (s : State) : Host.Outcome State Fault Refusal :=
  act (fun d => takeTable entries (atTime now d)) s

/-- CLOSURE_LIMIT (R422): the ring is not up at the closure limit, or no token has passed for 10 ms while it was. -/
def closureLimit (d : Dev) : Dev :=
  let late :=
    if d.dsr.ring = 4 then decide (d.dsr.lastToken + 10000000 ≤ d.tbs.ns)
    else decide (d.dsr.resetExit + d.dsr.limit * 1000000 ≤ d.tbs.ns)
  if late then ringOpen d else d

/-- CLOSURE_LIMIT (R422). -/
def execClosureLimit (now : Nat) (s : State) : Host.Outcome State Fault Refusal :=
  act (fun d => closureLimit (atTime now d)) s

/-- Is a frame due for another try: at the next token after ACK 2, 1 ms after ACK 3 (R418)? -/
def retryDue (d : Dev) (f : OwnFrame) : Bool := f.ack == 2 || decide (f.lastSent + 1000000 ≤ d.tbs.ns)

/-- FRAME_RETRY (R418). -/
def frameRetry (ack : Nat) (d : Dev) : Dev :=
  match d.dsr.retry with
  | [] => d
  | f :: rest =>
    if retryDue d f then afterAck f ack (sendFrame f (setDsr { d.dsr with retry := rest } d)) else d

/-- FRAME_RETRY (R418). -/
def execFrameRetry (ack now : Nat) (s : State) : Host.Outcome State Fault Refusal :=
  act (fun d => frameRetry ack (atTime now d)) s

/-- REQUEST_TIMEOUT (R419): requests past their timeout are treated as unanswered. -/
def requestTimeout (d : Dev) : Dev :=
  setDsr { d.dsr with outstanding := d.dsr.outstanding.filter fun o => decide (d.tbs.ns < o.deadline) } d

/-- REQUEST_TIMEOUT (R419). -/
def execRequestTimeout (now : Nat) (s : State) : Host.Outcome State Fault Refusal :=
  act (fun d => requestTimeout (atTime now d)) s

/-- REENUM (R423): a new closure and enumeration; the token is withdrawn; only the master takes it. -/
def reenum (who : Caller) (d : Dev) : Dev :=
  if d.dsr.master then ringState 2 d else regDrop who Reg.dsrCtrl.base .state d

/-- REENUM (R423). -/
def execReenum (who : Caller) (now : Nat) (s : State) : Host.Outcome State Fault Refusal :=
  act (fun d => regGate who Reg.dsrCtrl.base false (reenum who) (atTime now d)) s

/-- The three counters are cleared (R427). -/
def dsrCntClr (d : Dev) : Dev :=
  regSet Reg.dsrCrcErrCnt.base 0 (regSet Reg.dsrOpenCnt.base 0 (regSet Reg.dsrRegenCnt.base 0 d))

/-- DSR_CNT_CLR (R427). -/
def execDsrCntClr (who : Caller) (s : State) : Host.Outcome State Fault Refusal :=
  act (regGate who Reg.dsrCtrl.base false dsrCntClr) s

/-- DRAWSTRING_FRAME_ERROR (R416): the frame is discarded, counted and never forwarded. -/
def execDrawstringFrameError (s : State) : Host.Outcome State Fault Refusal :=
  act (regCount Reg.dsrCrcErrCnt.base 1) s

/-- DSR_STAT. -/
def dsrStat (d : Dev) : Nat :=
  d.dsr.ring + d.dsr.nodeId % 32 * 2 ^ 3 + b2n d.dsr.master * 2 ^ 8 + d.dsr.hop % 32 * 2 ^ 9 +
    d.dsr.nodes % 64 * 2 ^ 14 + b2n d.dsr.conflict * 2 ^ 20

/-- A request of this node to another one joins those that wait for the token (R417). -/
def dsSend (dst op idx sub tag : Nat) (d : Dev) : Dev :=
  setDsr { d.dsr with own := d.dsr.own ++ [{ dst := dst, ty := 1, op := op, idx := idx, sub := sub, tag := tag }] } d
/-- A critical write request to another node under a key context (R408): OP 3 with its payload. -/
def dsWrite (dst idx ctx len data : Nat) (d : Dev) : Dev :=
  setDsr { d.dsr with own := d.dsr.own ++ [{ dst := dst, ty := 1, op := 3, idx := idx, ctx := ctx, len := len, data := data }] } d

end Sys2Proof.Machine
end

