-- ==== Sys2Proof/Machine/Promotion.lean ====
section
/-! DEFINITION. Linings on the hosting device: what SESSION_OPEN, SESSION_STATE, BAND, SESSION_CLOSE and HANDOVER do when they are
applied (8: R196, R199 to R203), and the promotion of a lining (R216 to R218). -/
namespace Sys2Proof.Machine

/-! ## Parameters and buffers of a lining -/

/-- The parameters of a lining, as applied (R195, R196). -/
def linParams (d : Dev) (l : Nat) : Params := fun idx => (tabFind d.linPrm (65536 * l + idx)).getD (objDefault idx 0)
/-- A parameter of a lining takes a value. -/
def setLinPrm (l idx v : Nat) (d : Dev) : Dev := { d with linPrm := tabSet d.linPrm (65536 * l + idx) v }
/-- Objects that a message carries are applied. -/
def applyObjs (l : Nat) (objs : List (Nat × Nat)) (d : Dev) : Dev := forEach objs (fun o d => setLinPrm l o.1 o.2 d) d
/-- The destination entries that a message carries are applied. -/
def mergeDests (new old : List (Nat × Nat × Nat)) : List (Nat × Nat × Nat) :=
  (old.filter fun e => !new.any fun f => f.1 == e.1) ++ new
/-- Is a lining guaranteed (R200)? -/
def isGuaranteed (d : Dev) (l : Nat) : Bool := objGet d 0x4004 l == 1
/-- The standby slot's window is placed, once the parameters that give its size are known (R85, R199; log 21). -/
def placeStandby (l : Nat) (d : Dev) : Dev :=
  let t := linTenant d l
  let s := linStandby d l
  let w := placeIn (windowsOf d t s) (2 ^ (link d (tenantLink d t)).barNow * 1048576) (windowSize (linParams d l))
  setSess s { sess d s with window := w } d
/-- The reference blocks of a lining are held; those that find no place are tried again at releases (R333; log 21). -/
def holdLining (l : Nat) (d : Dev) : Dev :=
  let p := linParams d l
  forEach (frameBlocks id (slotsOfParams p) (p 0x3014) (p 0x3015) (.liningRecon l) (.liningCoarse l)) (fun b d =>
    match allocBlock b.1 (linTenant d l) b.2 d with
    | some (_, d1) => d1
    | none => setWrd { d.wrd with wanted := d.wrd.wanted ++ [(b.1, linTenant d l, b.2)] } d) d

/-! ## SESSION_OPEN and SESSION_STATE -/

/-- The fixed fields of a state message (R195): the session's state and its transport identity. -/
def applyState (l : Nat) (nums : List Nat) (d : Dev) : Dev :=
  updLining l (fun x => { x with
    state := nums.getD 0 x.state
    ssrc := nums.getD 2 x.ssrc
    tsBase := nums.getD 3 x.tsBase
    next := if nums.getD 0 x.state = x.state then x.next else nums.getD 4 x.next
    effort := nums.getD 5 x.effort }) d
/-- SESSION_OPEN is applied (R195, R196): a lining granted to a session that runs asks for a refresh (R202). -/
def applyOpen (l : Nat) (m : MirrorMsg) (d : Dev) : Dev :=
  let d1 := applyObjs l m.objs { d with linPrm := tabFilter (fun k => k / 65536 != l) d.linPrm }
  let d2 := updLining l (fun x => { x with opened := true, dests := m.dests, keys := m.keys }) (applyState l m.nums d1)
  sendLinState l (m.nums.getD 0 0 != 2) [] (holdLining l (placeStandby l d2))
/-- A guaranteed lining is charged again after a change of effort or capture; what does not fit leaves it unguaranteed
with its old charges (R200). -/
def recharge (l : Nat) (d : Dev) : Dev :=
  let c := chargesOf d (((linParams d l).set 0x301A 0).set 0x3019 (lining d l).effort)
  let free := setLining l { lining d l with charges := {} } d
  if (admitTenant free 256 (linTenant d l) c).isEmpty then setLining l { lining d l with charges := c } d
  else postLining l 2 0 (objSet 0x4004 l 0 d)
/-- SESSION_STATE is applied (R195, R196, R200). -/
def applyChange (l : Nat) (m : MirrorMsg) (d : Dev) : Dev :=
  let d1 := updLining l (fun x => { x with
    dests := mergeDests m.dests x.dests, keys := mergeDests m.keys x.keys }) (applyState l m.nums (applyObjs l m.objs d))
  let d2 := updLining l (fun x => { x with prio := linParams d1 l 0x301D }) d1
  if isGuaranteed d2 l && m.objs.any (fun o => o.1 == 0x3019 || o.1 == 0x301A) then recharge l d2 else d2

/-! ## BAND (R197, R201 to R203) -/

/-- A frame of a reference distance. -/
def backTo (c k : Nat) : Option Nat := if k = 0 then none else some (c - k)
/-- The frame of a refresh cycle that a record's stripe belongs to, with R (R155). -/
def stripeFrame (d : Dev) (sid : Nat) (r : BandRec) : Option (Nat × Nat) :=
  if bit r.flags 2 then
    ((List.range (cycleLength d sid)).find? fun i =>
      let z := stripeOf (unitCount d sid) (cycleLength d sid) i
      r.stripe == z.1 % 256 + z.2 % 256 * 256).map fun i => (i, cycleLength d sid)
  else none
/-- The refresh cycle of a lining's stream, as the stripes of its frames tell it (R155 to R157). -/
def cycleTold (st : Option (Nat × Nat)) (layer c : Nat) (x : Stream) : Stream :=
  match st with
  | some (i, r) =>
    { x with cycle := some (i, r), cycleStart := if i = 0 then c else x.cycleStart, sinceCycle := if i = 0 then 0 else x.sinceCycle + 1 }
  | none => { x with cycle := if layer = 0 then none else x.cycle, sinceCycle := x.sinceCycle + 1 }
/-- A lining's frame begins (R203): the retained entries move as on the primary (R125), and at a segment's intra frame the
earlier ones leave (R240). -/
def openLinFrame (l : Nat) (m : MirrorMsg) (d : Dev) : Dev :=
  let sid := liningSid l
  let x := stream d sid
  let r := m.record
  let intra := bit r.flags 0
  let n := m.nums.getD 4 0
  let prev := if intra then none else (lining d l).lastFrame
  let z := moveEntries (refSlots d sid) (prm d sid 0x3050) prev x
  let st := stripeFrame d sid r
  let y := cycleTold st r.layer r.frame z
  let f : Frame := { number := r.frame % 256, count := some r.frame, start := n, stitch := n, layer := r.layer, intra := intra,
                     credited := true, stripe := st, spliced := r.target == 0,
                     bands := List.replicate (bandCount d sid) {} }
  let ends := st.bind fun e => if e.1 + 1 = e.2 then some y.cycleStart else none
  pruneRecons sid (setStream sid { y with
    frames := y.frames ++ [f]
    count := r.frame + 1
    lastStart := n
    past := tabSet y.past r.frame { layer := r.layer, intra := intra, spliced := r.target == 0, cycleStart := ends,
                                    edge := edgeOf d sid y } } d)
/-- The bands of a lining's frames that will not come any more, those before band `b` of frame `c`: they take the rows of the latest
reconstruction (R202). -/
def loseBands (l c b : Nat) (d : Dev) : Dev :=
  let sid := liningSid l
  let gone := (stream d sid).frames.flatMap fun f =>
    let k := f.count.getD 0
    ((List.range f.bands.length).filter fun i => (decide (k < c) || (k == c && decide (i < b))) && (f.band i).st == 0).map
      fun i => (k, i)
  forEach gone (fun e d => loseLinBand l e.1 e.2 d) d
/-- The copies of packet i of n of a mirrored band (R197, R217): a destination with the transport-wide extension has one if
the message names it, and its number then; any other enabled and keyed destination has one. -/
def linCopies (d : Dev) (l : Nat) (m : MirrorMsg) (i n : Nat) : List CopySt :=
  (lining d l).keys.filterMap fun k =>
    let v := linParams d l (0x3100 + k.1)
    if !bit v 0 then none
    else if bit v 2 then
      (m.dests.find? fun x => x.1 == k.1).map fun x => { e := k.1, tw := (x.2.1 + 65536 * n + i - n) % 65536,
                                                         sentAt := some d.tbs.ns }
    else some { e := k.1, sentAt := some d.tbs.ns }
/-- The packets of an applied band, packetised as the primary packetised them (R217). -/
def linPackets (d : Dev) (l : Nat) (m : MirrorMsg) (last : Bool) : List PktRec :=
  let sid := liningSid l
  let cuts := cutBand (prm d sid 0x3011) (prm d sid 0x30C4) m.units
  (List.range cuts.length).map fun i =>
    let c := cuts.getD i ⟨0, 0, 0⟩
    { frame := m.record.frame, band := m.record.band, size := c.len, data := bytesAt m.data c.off c.cnt,
      marker := last && decide (i + 1 = cuts.length), release := d.tbs.ns, stored := true,
      copies := linCopies d l m i cuts.length }
/-- Is a frame held by a lining (R203)? One that it is decoding in IN_STEP will be, unless a band of it has not matched. -/
def isHeldBy (d : Dev) (l c : Nat) : Bool :=
  (lining d l).held.contains c ||
    (linState d l == 2 && match frameAt d (liningSid l) c with
      | some f => !f.invalid
      | none => false)
/-- Are the references of a record held (R203)? -/
def refsHeld (d : Dev) (l : Nat) (r : BandRec) : Bool :=
  [backTo r.frame r.primary, backTo r.frame r.secondary].all fun k => match k with
    | none => true
    | some c => isHeldBy d l c
/-- The reference that a lining's band is decoded from: one that is not held is replaced by the most recent reconstruction (R202;
log 120). -/
def liningRef (d : Dev) (l c : Nat) (k : Option Nat) : Option Nat :=
  k.bind fun r => if isHeldBy d l r then some r else latestRecon d (liningSid l) c
/-- BAND is applied (R196, R197): the band waits to be decoded; its transport and rate fields are kept (R217). -/
def applyBand (l : Nat) (m : MirrorMsg) (d : Dev) : Dev :=
  let sid := liningSid l
  let r := m.record
  let d1 := if (frameAt d sid r.frame).isNone && decide ((stream d sid).count ≤ r.frame) then openLinFrame l m d else d
  let last := decide (r.band + 1 = bandCount d sid)
  let first := m.nums.getD 2 0 * 65536 + m.nums.getD 0 0
  let ps := linPackets d l m last
  let d2 := updLining l (fun x => { x with
    next := first + m.nums.getD 1 0, dests := mergeDests m.dests x.dests, rate := rateUpdate x.rate m.rate,
    lastFrame := some r.frame, whole := last,
    pkts := (List.range ps.length).foldl (fun t i => tabSet t (first + i) (ps.getD i {}))
      (tabFilter (fun k => decide (first ≤ k + 65536)) x.pkts) }) (loseBands l r.frame r.band d1)
  let d3 := if refsHeld d2 l r || linState d2 l != 2 then d2 else degradeLining l 4 d2
  updBand sid r.frame r.band (fun b => { b with
    st := 1, ready := d.tbs.cnt, stamp := d.tbs.ns, given := some r, size := m.size, data := m.data, units := m.units,
    refs := some { primary := liningRef d3 l r.frame (backTo r.frame r.primary),
                   secondary := liningRef d3 l r.frame (backTo r.frame r.secondary), leadIn := bit r.flags 3 },
    parts := [{}], closed := false }) d3

/-! ## Promotion (R216 to R218) -/

/-- The blocks that a promoted session takes beside the lining's reference frames (R333; log 21). -/
def promotionBlocks (d : Dev) (l s : Nat) (p : Params) : List (Nat × Use) :=
  ((blocksFor d s p).filter fun b => match b.2 with
    | .recon _ _ | .coarse _ _ => false
    | _ => true) ++
    (lining d l).dests.flatMap fun e =>
      if bit (p (0x3100 + e.1)) 0 then
        List.replicate (ceilDiv (bytesAt (p (0x3140 + e.1)) 20 4) 65536) (1, Use.queue s e.1)
      else []
/-- The parameters a promoted session runs with (R217): Mezzanine capture becomes Stream-copy. -/
def promotedParams (d : Dev) (l : Nat) : Params :=
  let p := linParams d l
  if p 0x301A = 2 then p.set 0x301A 1 else p
/-- The codes of a promotion at an effort (R216): guaranteed charges are converted in place. -/
def promoteErrs (d : Dev) (l e : Nat) : List Err :=
  let s := linStandby d l
  let p := promotedParams d l
  let t := linTenant d l
  let free := setLining l { lining d l with charges := {} } d
  (if isGuaranteed d l then [] else admitTenant free 256 t (chargesOf d (p.set 0x3019 e))) ++
    earned [((allocAll t (promotionBlocks d l s p) d).isNone, .capacity)]
/-- The efforts that the pass tries: the effective one, then, with the ladder armed, each faster one down to the limit. -/
def promoteEfforts (d : Dev) (l : Nat) : List Nat :=
  let e := (lining d l).effort
  let lim := objNow d 0x1460 (linParams d l 0x301D)
  if isArmed d 2 then ((List.range (e + 1)).filter fun k => decide (lim ≤ k) || k == e).reverse else [e]
/-- A lining that is not admitted goes to IDLE (R216). -/
def promoteRefused (l : Nat) (d : Dev) : Dev := freeLining l (pulse 1 0x0052 2 l Err.capacity.code d)
/-- A lining is admitted at an effort: charges and blocks pass to the standby slot; it is RUNNING at the first boundary
after `at_` (R216). -/
def promoteAdmit (l e at_ : Nat) (d : Dev) : Dev :=
  let s := linStandby d l
  let p := promotedParams d l
  let t := linTenant d l
  let c := if isGuaranteed d l then (lining d l).charges else chargesOf d (p.set 0x3019 e)
  let d1 := (allocAll t (promotionBlocks d l s p) d).getD d
  let d2 := setWrd { d1.wrd with blocks := d1.wrd.blocks.map fun b => match b.2.use with
    | .liningRecon k i => if k = l then (b.1, { b.2 with use := .recon s i }) else b
    | .liningCoarse k i => if k = l then (b.1, { b.2 with use := .coarse s i }) else b
    | _ => b } d1
  let d3 := setSess s { sess d2 s with charges := c } (setLining l { lining d2 l with charges := {} } d2)
  let d4 := { d3 with ladder := tabPut 0 d3.ladder s (linParams d l 0x3019 - e) }
  setPair { d4.pair with promoting := d4.pair.promoting ++ [(l, at_)] } d4
/-- One lining of a pass. -/
def promoteOne (l at_ : Nat) (d : Dev) : Dev :=
  match (promoteEfforts d l).find? fun e => (promoteErrs d l e).isEmpty with
  | some e => promoteAdmit l e at_ d
  | none => promoteRefused l d
/-- The order of a pass (R216): guaranteed first, then higher priority, then lower slot. -/
def promoteOrder (d : Dev) (ls : List Nat) : List Nat :=
  (sortKeys (ls.map fun l => ([if isGuaranteed d l then 0 else 1, (lining d l).prio, l], l))).map (·.2)
/-- A promotion pass over a set of linings: each takes 200 µs (R216). -/
def promotionPass (ls : List Nat) (d : Dev) : Dev :=
  let o := promoteOrder d ls
  forEach (List.range o.length) (fun i d => promoteOne (o.getD i 0) (d.tbs.ns + 200000 * (i + 1)) d) d
/-- The sessions a pass promotes are named to the partner: on the mirror class, and as a critical request over the
Drawstring (R215). -/
def sendTaken (d : Dev) : Dev :=
  let ss := d.pair.promoting.map fun e => objGet d 0x4001 e.1
  if ss.isEmpty then d
  else dsWrite (partnerNode d) 0x140D 257 32 (ss.foldl (fun v s => v ||| 2 ^ s) 0) (sendMirror { ty := 14, nums := ss } d)
/-- Loss promotion (R216): the IN_STEP linings, and with bit 7 also the others; those that applied no SESSION_OPEN take no
part (R448). -/
def lossPass (d : Dev) : Dev :=
  sendTaken (promotionPass ((activeLinings d).filter fun l =>
    (lining d l).opened && !(d.pair.promoting.any fun e => e.1 == l) &&
      (linState d l == 2 || (isArmed d 7 && (linState d l == 1 || linState d l == 3)))) d)

/-- A destination of a promoted session: its entries and key as applied, its counters past the gap (R217). -/
def promoteDest (s l gap : Nat) (e : Nat × Nat × Nat) (d : Dev) : Dev :=
  let key := ((lining d l).keys.find? fun k => k.1 == e.1).map fun k => (k.2.1, k.2.2)
  let d1 := updDest s e.1 (fun x => { x with key := key, tw := (e.2.1 + gap) % 65536, srtcp := e.2.2 + gap }) d
  let told := (lining d l).rate.dests.find? fun r => r.1 == e.1
  let rated := fun x : Dest => match told with
    | some r => { x with rate := r.2.1, ratePeak := controlPeak d1 s r.2.1, owd := [(d.tbs.ns, 1000 * r.2.2.1)],
                         qdPrev := 2000 * r.2.2.2 }
    | none => x
  if bit (destEntry d1 s e.1) 0 then updDest s e.1 rated (enableDest s e.1 d1) else d1
/-- The destinations of a promoted session: those whose counters a message told, and those that only have a key (R217). -/
def promotedDests (z : Lining) : List (Nat × Nat × Nat) :=
  z.dests ++ (z.keys.filter fun k => !z.dests.any fun e => e.1 == k.1).map fun k => (k.1, 0, 0)
/-- The retained entries of a promoted session (R217): those held, with their states as applied. -/
def promoteEntries (d : Dev) (l : Nat) (x : Stream) : Stream :=
  let z := lining d l
  let all := retained x
  let spoilt := isArmed d 7 && linState d l != 2
  let state := fun i : Nat => if spoilt then 3 else bits (z.rate.states.getD 0) (4 * i) 2
  let past := (List.range all.length).foldl (fun t i =>
    tabUpd {} t (all.getD i 0) fun p => { p with st := if state i = 0 then 1 else state i }) x.past
  let held := fun c => z.held.contains c
  { frames := [], past := past, count := (z.lastFrame.map (· + 1)).getD 0, recent := x.recent.filter held, lastStart := x.lastStart,
    anchors := x.anchors.filter held, cycle := x.cycle, cycleStart := x.cycleStart, sinceCycle := x.sinceCycle, recons := x.recons,
    kappa := z.rate.kappa.getD x.kappa, v := z.rate.v.getD 0, cAvg := z.rate.cAvg, qPrev := z.rate.qPrev, freshQ := false,
    sigma := z.rate.sigma.map (·.2), copies := x.copies, commit := x.commit, lastRec := x.lastRec }
/-- The frame that is last when a session is promoted: it becomes the recent entry at the next frame start; a frame not
every band of which was applied, or that is not held, is marked lost (R217). -/
def promoteLast (s l : Nat) (d : Dev) : Dev :=
  match (lining d l).lastFrame with
  | none => d
  | some c => if (lining d l).whole && (lining d l).held.contains c then d else markLost (liveSid s) c d
/-- Addresses of the partner that carried a promoted session are taken over, if that is armed (R218). -/
def takeOverAddrs (s : Nat) (d : Dev) : Dev :=
  if !isArmed d 6 then d
  else
    forEach ((enabledDests d s).map fun e => (byteAt (destEntry d s e) 1, entrySrc (destEntry d s e))).eraseDups (fun g d =>
      if d.pair.taken.contains g then d
      else
        announce g.1 g.2 (setPair { d.pair with
          taken := d.pair.taken ++ [g]
          announces := d.pair.announces ++ [(d.tbs.cnt + 36, g), (d.tbs.cnt + 72, g)] } d)) d
/-- A promoted session becomes RUNNING at a boundary (R216, R217). `gap` is 0 after a handover. -/
def becomeRunning (l gap : Nat) (d : Dev) : Dev :=
  let s := linStandby d l
  let z := lining d l
  let p := promotedParams d l
  let mine := (d.linPrm.filter fun e => e.1 / 65536 == l).map fun e => e.1 % 65536
  let d1 := forEach mine (fun i d => objSet i s (p i) d) (restartStats s d)
  let d2 := objSet 0x3090 s 1 (objReset 0x3091 s (objSet 0x3020 s (p 0x3019 - tabGet 0 d1.ladder s) d1))
  let x := sess d2 s
  let d3 := setSess s { x with
    st := .running, tx := { ssrc := z.ssrc, tsBase := z.tsBase, next := z.next + gap }, pkts := z.pkts, refN := slotsOfParams p } d2
  let d4 := setStream (liveSid s) (promoteEntries d3 l (stream d3 (liningSid l))) d3
  let d5 := setStream (liningSid l) {} (promoteLast s l d4)
  let d6 := startCredits s d.tbs.cnt (forEach (promotedDests z) (promoteDest s l gap) d5)
  let d7 := takeOverAddrs s (linChange l 4 0 d6)
  raise 4 (objCount 32 0x5099 0 1 (postTenant s 1 7 0 s l (postState s .free false d7)))
/-- At a boundary the linings whose promotion has completed become RUNNING (R216). -/
def promotionsDue (d : Dev) : Dev :=
  let due := d.pair.promoting.filter fun e => decide (e.2 ≤ d.tbs.ns)
  forEach due (fun e d => becomeRunning e.1 (if (lining d e.1).exact then 0 else objNow d 0x1408 0) d)
    (setPair { d.pair with promoting := d.pair.promoting.filter fun e => !decide (e.2 ≤ d.tbs.ns) } d)

/-- HANDOVER is applied (R216, R220): the transport state is exact, and the one lining is promoted. -/
def applyHandover (l : Nat) (m : MirrorMsg) (d : Dev) : Dev :=
  promotionPass [l] (updLining l (fun x => { x with
    next := m.nums.getD 1 0 * 65536 + m.nums.getD 0 0, dests := mergeDests m.dests x.dests, exact := true }) d)

/-! ## In MSEQ order (R196, R198) -/

/-- One sequenced message is applied. -/
def applyMsg (l : Nat) (m : MirrorMsg) (d : Dev) : Dev :=
  let d1 := objSet 0x4005 l m.mseq d
  if m.ty = 5 then applyOpen l m d1
  else if m.ty = 6 then applyBand l m d1
  else if m.ty = 7 then applyChange l m d1
  else if m.ty = 8 then freeLining l d1
  else applyHandover l m d1
/-- Is the lining one that takes messages (R201)? -/
def linOpen (d : Dev) (l : Nat) : Bool :=
  decide (l < 256) && (linState d l == 1 || linState d l == 2 || linState d l == 3)
/-- Applies messages while the next one is there. -/
def applyWaiting (l : Nat) : Nat → Dev → Dev
  | 0, d => d
  | fuel + 1, d =>
    match (lining d l).waiting with
    | [] => d
    | (k, m) :: t =>
      if linOpen d l && k == objGet d 0x4005 l + 1 then
        applyWaiting l fuel (applyMsg l m (setLining l { lining d l with waiting := t } d))
      else d
/-- What waits is applied as far as it can be. -/
def drainWaiting (l : Nat) (d : Dev) : Dev := applyWaiting l (lining d l).waiting.length d
/-- When the gap before the messages that wait was first seen: at the first of them to arrive (R198). -/
def gapSince (x : Lining) : Option Nat :=
  (x.waiting.map fun e => tabGet 0 x.arrived e.1).foldl (fun a t => some (min t (a.getD t))) none
/-- A sequenced message reaches its lining (R196): one already applied is dropped. -/
def sequenced (m : MirrorMsg) (d : Dev) : Dev :=
  let l := m.lining
  if linOpen d l && decide (objGet d 0x4005 l < m.mseq) then
    drainWaiting l (updLining l (fun x => { x with
      waiting := tabSet x.waiting m.mseq m
      arrived := tabSet (tabFilter (fun k => (tabFind x.waiting k).isSome) x.arrived) m.mseq
        ((tabFind x.arrived m.mseq).getD d.tbs.ns) }) d)
  else d
/-- MIRROR_HOLD_EXPIRY (R198): the missing messages are lost. -/
def holdExpiry (l : Nat) (d : Dev) : Dev :=
  match gapSince (lining d l), (lining d l).waiting with
  | some t, (k, _) :: _ =>
    if stitchesIn t + objNow d 0x1407 0 ≤ stitchesIn d.tbs.ns then
      let n := k - 1 - objGet d 0x4005 l
      let d1 := objSet 0x4005 l (k - 1) (objCount 32 0x5082 l n d)
      drainWaiting l (degradeLining l 1 d1)
    else d
  | _, _ => d
/-- The missing numbers of a lining, at most 32. -/
def missingSeqs (d : Dev) (l : Nat) : List Nat :=
  match (lining d l).waiting with
  | [] => []
  | w =>
    let top := (w.getLast?.map (·.1)).getD 0
    let low := objGet d 0x4005 l
    (((List.range (top - low)).map (· + low + 1)).filter fun k => (tabFind w k).isNone).take 32
/-- A MIRROR_NACK leaves for each lining with a gap: at each boundary while it stays open (R198). -/
def sendNack (l : Nat) (d : Dev) : Dev :=
  let ms := missingSeqs d l
  if ms.isEmpty || !linOpen d l then d
  else objCount 32 0x5083 l 1 (sendMirror { ty := 9, session := objGet d 0x4001 l, lining := l, nums := ms } d)

end Sys2Proof.Machine
end

