-- ==== Sys2Proof/Machine/Tiles.lean ====
section
/-! DEFINITION. Tiles and their sequencers (3: R74 to R82; 6: R142; 8: R205, R209, R210; 18): the events of a part from its
command to its collection. -/
namespace Sys2Proof.Machine

/-- Does the tile run: its events happen only then? -/
def Tile.runs (x : Tile) : Bool := x.on && x.boot == 2 && !x.gone && !x.halted

/-! ## Loading and the context save area (R466 to R469) -/

/-- Coding of the part starts (R467, R468): the longest wait since its doorbell is kept (0x5011:s). -/
def startCoding (t : Nat) (j : Job) (d : Dev) : Dev :=
  let d1 := updTile t (fun x => { x with phase := 3 }) d
  if isLining j.stream || isMezz j.stream then d1
  else objMax 0x5011 (slotOf j.stream) (d.tbs.ns - (bandAt d j.stream j.frame j.band).stamp) d1
/-- Nothing is left in either position of the tile. -/
def becomeIdle (t : Nat) (d : Dev) : Dev :=
  updTile t (fun y => { y with
    cur := none, nxt := none, phase := 0, latch := [], grant := none, loads := false, idleSince := d.tbs.cnt }) d
/-- The part leaves the tile without a result: the tile starts the part in its next position, or becomes idle and takes one over
(R74, R75). -/
def leaveTile (t : Nat) (d : Dev) : Dev :=
  earlyStart (match (tile d t).nxt with
    | some j => if partWanted d j then updTile t (fun y => { y with grant := none }) (startNext t j false 1000 d)
        else takeOver t (becomeIdle t d)
    | none => takeOver t (becomeIdle t d))
/-- The context of a frame fails its check: an integrity failure of session data (R468). -/
def contextBad (t : Nat) (j : Job) (d : Dev) : Dev :=
  leaveTile t (if isLining j.stream then degradeLining (j.stream - 512) 3 d
    else dropFrames j.stream j.frame (suspend (slotOf j.stream) 4 d))
/-- LOAD of a part, and OPEN for the part that opens its frame (R467, R468). `copyOk`: the copy's checks hold. -/
def loadPart (t : Nat) (j : Job) (copyOk : Bool) (d : Dev) : Dev :=
  let x := stream d j.stream
  let opens := j.band == 0 && j.part == 0
  let done := match x.commit with
    | none => false
    | some c => decide (j.frame ≤ c)
  if !done then updTile t (fun y => { y with phase := if opens then 2 else 1 }) d
  else if !copyOk || (tabGet {} x.copies (j.frame % 4)).seq != j.frame then contextBad t j d
  else startCoding t j d
/-- ASSIGN_CURRENT (R460): the sequencer acts on the command and loads the part. -/
def assignCurrent (t : Nat) (copyOk : Bool) (d : Dev) : Dev :=
  let x := tile d t
  if x.runs && x.phase == 0 && x.latch.contains .assignCurrent then
    let d1 := updTile t (fun y => { y with latch := y.latch.filter (· != .assignCurrent) }) d
    match x.cur with
    | none => d1
    | some j => if partWanted d1 j then loadPart t j copyOk d1 else leaveTile t d1
  else d
/-- ASSIGN_CURRENT (R460). -/
def execAssignCurrent (tile : Nat) (copyOk : Bool) (now : Nat) (s : State) : Host.Outcome State Fault Refusal :=
  actOn (isTile tile) (fun d => assignCurrent tile copyOk (atTime now d)) s
/-- ASSIGN_NEXT (R460): the next part's context and first loads are issued between units. -/
def assignNext (t : Nat) (d : Dev) : Dev :=
  let x := tile d t
  if x.runs && x.cur.isSome && x.latch.contains .assignNext then
    updTile t (fun y => { y with latch := y.latch.filter (· != .assignNext), loads := y.nxt.isSome }) d
  else d
/-- ASSIGN_NEXT (R460). -/
def execAssignNext (tile now : Nat) (s : State) : Host.Outcome State Fault Refusal :=
  actOn (isTile tile) (fun d => assignNext tile (atTime now d)) s
/-- WITHDRAW_NEXT (R460): loads in flight are discarded. -/
def withdrawNext (t : Nat) (d : Dev) : Dev :=
  let x := tile d t
  if x.runs && x.latch.contains .withdrawNext then
    updTile t (fun y => { y with latch := y.latch.filter (· != .withdrawNext), loads := y.loads && y.nxt.isSome }) d
  else d
/-- WITHDRAW_NEXT (R460). -/
def execWithdrawNext (tile now : Nat) (s : State) : Host.Outcome State Fault Refusal :=
  actOn (isTile tile) (fun d => withdrawNext tile (atTime now d)) s
/-- LOAD_STALL_END (R468): the commit line has reached the frame of a stalled part. -/
def loadStallEnd (t : Nat) (copyOk : Bool) (d : Dev) : Dev :=
  let x := tile d t
  if x.runs && x.phase == 1 then
    match x.cur with
    | none => d
    | some j => if partWanted d j then loadPart t j copyOk d else leaveTile t d
  else d
/-- LOAD_STALL_END (R468). -/
def execLoadStallEnd (tile : Nat) (copyOk : Bool) (now : Nat) (s : State) : Host.Outcome State Fault Refusal :=
  actOn (isTile tile) (fun d => loadStallEnd tile copyOk (atTime now d)) s
/-- CONTEXT_COMMIT (R467): the commit line completes, band 0 is coded. -/
def contextCommit (t : Nat) (d : Dev) : Dev :=
  let x := tile d t
  if x.runs && x.phase == 2 then
    match x.cur with
    | none => d
    | some j =>
      let f := j.frame
      let d1 := updStream j.stream
        (fun y => { y with copies := tabSet y.copies (f % 4) { seq := f, ok := true, lines := 96 }, commit := some f }) d
      let key := Reg.tileSaveCnt.at t
      startCoding t j (regSet key (setBits (regGet d1 key) 0 16 (bits (regGet d1 key) 0 16 + 1)) d1)
  else d
/-- CONTEXT_COMMIT (R467). -/
def execContextCommit (tile now : Nat) (s : State) : Host.Outcome State Fault Refusal :=
  actOn (isTile tile) (fun d => contextCommit tile (atTime now d)) s

/-! ## Coding and closing (R142) -/

/-- Puts a closing request in order of arrival, ties by tile. -/
def queueClosing (r : Nat × Nat × Job) : List (Nat × Nat × Job) → List (Nat × Nat × Job)
  | [] => [r]
  | x :: t => if x.1 < r.1 || (x.1 == r.1 && decide (x.2.1 < r.2.1)) then x :: queueClosing r t else r :: x :: t
/-- PART_CODED (R142): the part's result stands, the tile asks for a closing grant. A stored unit that failed its check as the part
read it is an integrity failure of session data (R146). -/
def partCoded (t : Nat) (res : PartResult) (d : Dev) : Dev :=
  let x := tile d t
  if x.runs && x.phase == 3 then
    match x.cur with
    | none => d
    | some j =>
      match frameAt d j.stream j.frame with
      | none => leaveTile t d
      | some f =>
        let z := codePart d f j res
        let d0 := setLoom { d.loom with sleeves := tabSet d.loom.sleeves t z.1 } d
        if z.1.bad then contextBad t j d0
        else
          let d1 := updPart j (fun p => { p with result := res, chosen := z.2 }) (updTile t (fun y => { y with phase := 4 }) d0)
          let d2 := countReads t f j z.1 d1
          let g := (partTrace d f j res).2
          let d3 := if isLining j.stream then d2 else objCount 32 0x5052 (slotOf j.stream) g d2
          setLoom { d3.loom with closing := queueClosing (d.tbs.ns, t, j) d3.loom.closing } d3
  else d
/-- PART_CODED (R142). -/
def execPartCoded (tile : Nat) (res : PartResult) (now : Nat) (s : State) : Host.Outcome State Fault Refusal :=
  actOn (isTile tile) (fun d => partCoded tile res (atTime now d)) s
/-- CLOSING_GRANT (R142): the first request in order. A band is marked closed at the grant that closes it. -/
def closingGrant (d : Dev) : Dev :=
  match d.loom.closing with
  | [] => d
  | (_, t, j) :: rest =>
    let d1 := setLoom { d.loom with closing := rest } d
    let d2 := updPart j (fun p => { p with coded := true }) d1
    let closes := (bandAt d2 j.stream j.frame j.band).coded
    let d3 := if closes then updBand j.stream j.frame j.band (fun b => { b with closed := true }) d2 else d2
    let above := closes && j.band != 0 && (bandAt d3 j.stream j.frame (j.band - 1)).closed
    let below := closes && (bandAt d3 j.stream j.frame (j.band + 1)).closed
    updTile t (fun y => { y with phase := 5, grant := some (closes, above, below), latch := y.latch ++ [.closeGrant closes above below] }) d3
/-- CLOSING_GRANT (R142). -/
def execClosingGrant (now : Nat) (s : State) : Host.Outcome State Fault Refusal := act (fun d => closingGrant (atTime now d)) s
/-- The fault of a reconstruction mismatch (R203). Slot, band and two CRCs of 32 bits do not fit the 64 bits of INFO, whose
layout the spec does not give: INFO is a free value (log 24). -/
def mismatchFault (t : Nat) (d : Dev) : Dev := freeNext (pulse 1 0x0023 2 t (freeBits 64 d) d)
/-- The tile that closes a lining-decode band holds its CRC against the record's (R203). -/
def checkLining (t l : Nat) (j : Job) (d : Dev) : Dev :=
  let b := bandAt d j.stream j.frame j.band
  let bad := match b.given with
    | none => true
    | some g => g.crc != b.record.crc
  let err := bit b.record.flags 5
  let d1 := if bad || err then updFrame j.stream j.frame (fun f => { f with invalid := true }) d else d
  if linState d1 l != 2 then d1
  else if err then degradeLining l 3 d1
  else if bad then
    let crcs := (b.given.map (·.crc)).getD 0
    let d2 := mismatchFault t (objCount 32 0x5081 l 1 d1)
    let d3 := countMismatch t d2
    sendLinState l true [j.frame, j.band, crcs, b.record.crc, t] (linChange l 3 2 d3)
  else d1
/-- CLOSE_GRANT (R460): seams, record, bitstream; it waits while a seam's other band still writes. -/
def closeGrant (t : Nat) (recon : List Nat) (d : Dev) : Dev :=
  let x := tile d t
  match x.cur, x.grant with
  | some j, some (closes, above, below) =>
    if !(x.runs && x.phase == 5) then d
    else
      let d0 := updTile t (fun y => { y with phase := 6, grant := none, latch := y.latch.filter fun c => match c with
        | .closeGrant _ _ _ => false
        | _ => true }) d
      match frameAt d j.stream j.frame with
      | none => d0
      | some f =>
        if (above && !(f.band (j.band - 1)).written) || (below && !(f.band (j.band + 1)).written) then d
        else if closes then
          let l := localRecon d j.stream j.band f recon
          let d1 := updBand j.stream j.frame j.band (fun _ => closeBand d j.stream j.frame j.band f l) d0
          let d2 := outputBand j.stream j.frame j.band f l (writeBand j.stream j.frame j.band f l above below d1)
          if isLining j.stream then checkLining t (j.stream - 512) j d2 else d2
        else d0
  | _, _ => d
/-- CLOSE_GRANT (R142, R460). -/
def execCloseGrant (tile : Nat) (recon : List Nat) (now : Nat) (s : State) : Host.Outcome State Fault Refusal :=
  actOn (isTile tile) (fun d => closeGrant tile recon (atTime now d)) s

/-! ## Deadlines (R78 to R81) -/

/-- A stitch overrun (R79). -/
def overrun (t : Nat) (j : Job) (d : Dev) : Dev :=
  let hi := Reg.loomOvrCntHi.base
  let lo := Reg.loomOvrCntLo.base
  let subj := t + b2n (isLining j.stream) * 2 ^ 7 + slotOf j.stream * 2 ^ 8
  let d1 := pairSet hi lo (pairGet d hi lo + 1) (updTile t (fun x => { x with late := true }) d)
  pulse 4 0x0010 0 subj 0 (raiseOverrun (countOverrun j.stream (regSet Reg.loomOvrLast.base subj d1)))
/-- STITCH_OVERRUN (R79): the deadline has passed and the part is not complete. -/
def stitchOverrun (t : Nat) (d : Dev) : Dev :=
  let x := tile d t
  match x.cur with
  | none => d
  | some j => if x.on && !x.gone && !x.halted && !x.late && x.pastDeadline d.tbs.ns then overrun t j d else d
/-- STITCH_OVERRUN (R79). -/
def execStitchOverrun (tile now : Nat) (s : State) : Host.Outcome State Fault Refusal :=
  actOn (isTile tile) (fun d => stitchOverrun tile (atTime now d)) s
/-- TILE_HANG (R81, R205): the hang limit has passed after the deadline. -/
def tileHang (t : Nat) (d : Dev) : Dev :=
  let d0 := stitchOverrun t d
  let x := tile d0 t
  match x.cur with
  | none => d0
  | some _ =>
    if x.on && !x.gone && !x.halted && decide (x.deadline + objNow d0 0x1311 0 * 2500000 ≤ 9 * d0.tbs.ns) then
      tileFails t (level 4 0x0011 2 t (tileInfo x) (updTile t (fun y => { y with hung := true }) d0))
    else d0
/-- TILE_HANG (R81). -/
def execTileHang (tile now : Nat) (s : State) : Host.Outcome State Fault Refusal :=
  actOn (isTile tile) (fun d => tileHang tile (atTime now d)) s

/-! ## Completion (R26, R74, R80, R82) -/

/-- Puts a completion in the latch, newest first: after every one that arrived in an earlier nanosecond, before those of the same
one with higher tile numbers (R82; log 111). -/
def latchNewest (c : Completion) : List Completion → List Completion
  | [] => [c]
  | x :: t => if x.time == c.time && decide (c.tile < x.tile) then x :: latchNewest c t else c :: x :: t
/-- Puts a completion in the latch: by arrival, ties by tile (R82). -/
def latchCompletion (c : Completion) (l : List Completion) : List Completion := (latchNewest c l.reverse).reverse
/-- The budget of a tile and the overshoot after a part that was late, or on time (R79, R80). OVERSHOOT is rounded down to its
unit (log 101). -/
def settleBudget (t : Nat) (d : Dev) : Dev :=
  let x := tile d t
  if x.pastDeadline d.tbs.ns then
    let late := d.tbs.ns - ceilDiv x.deadline 9
    let key := Reg.loomOvrLast.base
    let d1 := updTile t (fun y => { y with budget := max 62500 (240000 - 1000 * ceilDiv late 1000) }) d
    if bits (regGet d key) 0 7 = t then
      regSet key (setBits (regGet d1 key) 16 16 (1 + min 32767 (late / 100) * 2)) d1
    else d1
  else updTile t (fun y => { y with budget := 250000 }) d
/-- The tile starts its next part, or becomes idle and takes one late (R74). -/
def afterPart (t : Nat) (d : Dev) : Dev :=
  let x := tile d t
  match x.nxt with
  | some j =>
    if partWanted d j then
      let d1 := startNext t j x.loads 1000 d
      if x.loads then loadPart t j true d1 else d1
    else takeOver t (becomeIdle t d)
  | none => takeOver t (becomeIdle t d)
/-- COMPLETION_POST (R26, R74). -/
def completionPost (t : Nat) (d : Dev) : Dev :=
  let x := tile d t
  match x.cur with
  | none => d
  | some j =>
    if !(x.runs && x.phase == 6) then d
    else
      let d1 := settleBudget t (stitchOverrun t d)
      let d2 := setLoom { d1.loom with latch := latchCompletion { time := d1.tbs.ns, tile := t, job := j } d1.loom.latch } d1
      earlyStart (afterPart t d2)
/-- COMPLETION_POST (R26). -/
def execCompletionPost (tile now : Nat) (s : State) : Host.Outcome State Fault Refusal :=
  actOn (isTile tile) (fun d => completionPost tile (atTime now d)) s
/-- The place of a band in a stream's list of coding tiles. -/
def coderKey (c b : Nat) : Nat := 128 * c + b
/-- Notes which tile coded a part, for a mismatch that the lining reports later (R203); the list reaches 64 frames back. -/
def noteCoder (t : Nat) (j : Job) (d : Dev) : Dev :=
  updStream j.stream (fun x => { x with
    coders := tabUpd [] (tabFilter (fun k => decide (j.frame ≤ k / 128 + 64)) x.coders) (coderKey j.frame j.band) (t :: ·) }) d
/-- COMPLETION_COLLECT (R82): one completion, the first in order. -/
def completionCollect (d : Dev) : Dev :=
  match d.loom.latch with
  | [] => d
  | c :: t => earlyStart (collectJob c.job (noteCoder c.tile c.job (setLoom { d.loom with latch := t } d)))
/-- COMPLETION_COLLECT (R82). -/
def execCompletionCollect (now : Nat) (s : State) : Host.Outcome State Fault Refusal :=
  act (fun d => completionCollect (atTime now d)) s

/-! ## BOOT and containment (R461 to R465) -/

/-- A part waits for a spare that has passed BOOT: it is placed, its deadline one stitch away (R206). -/
def placeAwaited (t : Nat) (d : Dev) : Dev :=
  match (tile d t).awaits with
  | none => d
  | some j =>
    let d1 := updTile t (fun x => { x with awaits := none }) d
    if partWanted d1 j then
      updTile t (fun x => { x with
        cur := some j, phase := 0, start := d.tbs.ns, finish := d.tbs.ns + 6000 + jobTime d j,
        deadline := 9 * d.tbs.ns + 2500000, late := false, latch := [.assignCurrent] }) d1
    else d1
/-- A spare that failed BOOT: the next one is taken, or R207 applies; the session is not hit again (R465). -/
def nextSpare (t : Nat) (d : Dev) : Dev :=
  match (tile d t).awaits with
  | none => d
  | some j => recoverPart j (updTile t (fun x => { x with awaits := none }) d)
/-- BOOT ends (R462, R463). -/
def bootEnd (t : Nat) (wordsOk : Bool) (sig exp : Nat) (d : Dev) : Dev :=
  let x := tile d t
  if x.on && decide (x.boot ≤ 1) && !x.retired then
    let d1 := regSet (Reg.tileSigExp.at t) exp (regSet (Reg.tileSig.at t) sig d)
    if wordsOk && sig % 2 ^ 32 == exp % 2 ^ 32 && exp % 2 ^ 32 == objGet d 0x1006 0 then
      earlyStart (placeAwaited t (updTile t (fun y => { y with boot := 2, idleSince := d.tbs.cnt }) d1))
    else
      let d2 := objCount 16 0x5091 t 1 (updTile t (fun y => { y with boot := 3, contained := true }) d1)
      nextSpare t (pulse (32 + t) 0x0022 1 t (sig % 2 ^ 32 + exp % 2 ^ 32 * 2 ^ 32) d2)
  else d
/-- BOOT (R462). -/
def execBoot (tile : Nat) (wordsOk : Bool) (sig sigExp now : Nat) (s : State) : Host.Outcome State Fault Refusal :=
  actOn (isTile tile) (fun d => bootEnd tile wordsOk sig sigExp (atTime now d)) s
/-- A containment reset of a tile (R131, R205, R334, R391, R461, R469), with the fault that reports it. -/
def containAs (code subject info t : Nat) (d : Dev) : Dev :=
  let x := tile d t
  if !x.on || x.gone then d
  else
    let key := Reg.tileStatus.at t
    let d1 := regSet key (setBits (regGet d key) 16 16 (satAdd 16 (bits (regGet d key) 16 16) 1)) d
    let save := Reg.tileSaveCnt.at t
    let d2 := if x.phase = 2 && x.cur.isSome then
      regSet save (setBits (regGet d1 save) 16 16 (satAdd 16 (bits (regGet d1 save) 16 16) 1)) d1 else d1
    let d3 := pulse (32 + t) code (if x.cur.isSome then 2 else 1) subject info d2
    tileFails t (updTile t (fun y => { y with contained := true }) d3)
/-- The containment reset for an uncorrectable error of the tile's memory. -/
def containTile (t : Nat) (d : Dev) : Dev := containAs 0x0021 t (tileInfo (tile d t)) t d
/-- CONTAINMENT_RESET (R461). -/
def execContainmentReset (tile now : Nat) (s : State) : Host.Outcome State Fault Refusal :=
  actOn (isTile tile) (fun d => containTile tile (atTime now d)) s

/-! ## Retirement and release (R209, R210) -/

/-- 0x1448:0 holds the tiles of the retirement map. -/
def inMap (d : Dev) (t : Nat) : Bool := bit (objGet d 0x1448 0) t
/-- A tile is retired: its votes are withdrawn and its domain goes off, the map is written if the flash takes it (R209). -/
def retireTile (t : Nat) (flashOk : Bool) (d : Dev) : Dev :=
  let d1 := powerSettle d.tbs.ns (levelEnd 4 0x0011 t
    (updTile t (fun x =>
      { x with retired := true, spare := false, spareSeen := false, vote := false, cur := none, nxt := none }) d))
  if flashOk then objSet 0x1448 0 (setBits (objGet d1 0x1448 0) t 1 1) d1 else pulse 1 0x0045 1 t 0 d1
/-- TILE_RETIRE (R209): with retirement armed firmware retires a failed tile. -/
def execTileRetire (tile : Nat) (flashOk : Bool) (now : Nat) (s : State) : Host.Outcome State Fault Refusal :=
  actOn (isTile tile) (fun d0 =>
    let d := atTime now d0
    if isArmed d 1 && (Machine.tile d tile).gone && !(Machine.tile d tile).retired then retireTile tile flashOk d else d) s
/-- RETIREMENT_MAP_RETRY (R209): every retired tile the map lacks is written if the flash takes it. -/
def execRetirementMapRetry (flashOk : Bool) (now : Nat) (s : State) : Host.Outcome State Fault Refusal :=
  act (fun d0 =>
    let d := atTime now d0
    if flashOk then
      forEach ((List.range 96).filter fun t => (tile d t).retired && !inMap d t)
        (fun t d => objSet 0x1448 0 (setBits (objGet d 0x1448 0) t 1 1) d) d
    else d) s
/-- A release (R210): the tile is reset and runs BOOT; its mismatches are cleared. -/
def releaseTile (t : Nat) (d : Dev) : Dev :=
  levelEnd 4 0x0011 t (objReset 0x5090 t
    (updTile t (fun x => { x with hung := false, contained := false, boot := 1, bootAt := d.tbs.ns, cur := none, nxt := none,
                                  phase := 0, latch := [], grant := none, late := false }) d))
/-- The tile counts as retired, and leaves the reserve. -/
def markRetired (t : Nat) (d : Dev) : Dev := updTile t (fun y => { y with retired := true, spare := false, spareSeen := false }) d
/-- The codes of a tile action (R210). -/
def tileActionErrs (t action : Nat) (d : Dev) : List Err :=
  earned [(decide (95 < t), .range),
    (action == 1 && (!((tile d t).hung || (tile d t).contained) || (tile d t).retired), .state),
    (action == 2 && (tile d t).retired, .state),
    (action == 2 && !(tile d t).gone && decide (tileLimit (markRetired t d) < tilesCharged d 256), .capacity)]
/-- The write behind TILE_RELEASE (R210). -/
def tileReleaseWrite (q : Req) (tile : Nat) : Dev → Dev :=
  perform q 0x1444 0 (tileActionErrs tile 1) (releaseTile tile)
/-- TILE_RELEASE (R210). -/
def execTileRelease (q : Req) (tile : Nat) (s : State) : Host.Outcome State Fault Refusal :=
  act (tileReleaseWrite q tile) s
/-- The write behind TILE_RETIRE_COMMAND (R210). -/
def tileRetireWrite (q : Req) (tile : Nat) (flashOk : Bool) : Dev → Dev :=
  perform q 0x1444 0 (tileActionErrs tile 2) fun d =>
    let x := Machine.tile d tile
    let d1 := markRetired tile d
    retireTile tile flashOk (if x.gone then d1 else tileStops tile d1)
/-- TILE_RETIRE_COMMAND (R210): a part in flight is treated as for a failed tile. -/
def execTileRetireCommand (q : Req) (tile : Nat) (flashOk : Bool) (s : State) : Host.Outcome State Fault Refusal :=
  act (tileRetireWrite q tile flashOk) s

/-! ## Counters -/

/-- TILE_CNT_CLR: clears TILE_SAVE_CNT[t] (18). -/
def execTileCntClr (who : Caller) (tile : Nat) (s : State) : Host.Outcome State Fault Refusal :=
  actOn (isTile tile) (regGate who (Reg.tileCtrl.at tile) false (regSet (Reg.tileSaveCnt.at tile) 0)) s
/-- CARRY_HWM_CLR (LOOM_CTRL). -/
def execCarryHwmClr (who : Caller) (s : State) : Host.Outcome State Fault Refusal :=
  act (regGate who Reg.loomCtrl.base false fun d => mend Reg.loomCtrl.base (setFld Reg.loomCarry.base 16 16 0 d)) s
/-- SLV_CORR_CLR (SLV_CTRL). -/
def execSlvCorrClr (who : Caller) (s : State) : Host.Outcome State Fault Refusal :=
  act (regGate who Reg.slvCtrl.base false (pairSet Reg.slvCorrCntHi.base Reg.slvCorrCntLo.base 0)) s

/-! ## Registers read -/

/-- The routine a tile runs (R458). -/
def tileRoutine (d : Dev) (x : Tile) : Nat :=
  if !x.on then 0 else if x.halted then 9 else if x.boot ≠ 2 then 1
  else
    match x.cur with
    | none => 2
    | some j =>
      if x.phase ≤ 1 then 3 else if x.phase = 2 then 4
      else if 4 ≤ x.phase then 6
      else if !encodes d j.stream then 8 else if (bandAt d j.stream j.frame j.band).st = 2 then 7 else 5
/-- The first word of each routine (R458). -/
def routineEntry (code : Nat) : Nat :=
  [0, 0x0000, 0x0040, 0x0100, 0x0300, 0x0400, 0x0C00, 0x0E00, 0x1000, 0x3F00].getD code 0
/-- CYC: the cycles of a word before its last (R455). -/
def wordCycles (w : Nat) : Nat := bits w 24 2
/-- SAFE: the word is a safe point (R455). -/
def wordSafe (w : Nat) : Bool := bit w 29
/-- The sequencer of a tile: a routine that the tile has just entered begins at its first word (log 112). -/
def microAt (d : Dev) (t : Nat) : Micro :=
  let m := tabGet {} d.loom.micros t
  let r := tileRoutine d (tile d t)
  if m.routine = r then m else { routine := r, pc := routineEntry r, left := wordCycles (Config.microcode (routineEntry r)) }
/-- TILE_PC[t]: the word being executed and the entries of the return stack in use. -/
def tilePcReg (d : Dev) (t : Nat) : Nat :=
  let x := tile d t
  if x.on && !x.gone then (microAt d t).pc + (microAt d t).stack.length * 2 ^ 14 else 0
/-- TILE_STATUS[t] beside RESETS. -/
def tileStatus (d : Dev) (t : Nat) : Nat :=
  let x := tile d t
  (if !x.on then 0 else if x.halted || x.gone then 3 else if x.boot ≠ 2 then 1 else 2) + b2n (x.boot == 2) * 2 ^ 2 +
    b2n (x.boot == 3) * 2 ^ 3 + tileRoutine d x * 2 ^ 4 +
    b2n (x.on && !x.gone && wordSafe (Config.microcode (microAt d t).pc)) * 2 ^ 8 +
    bits (regGet d (Reg.tileStatus.at t)) 16 16 * 2 ^ 16
/-- LOOM_STATUS. -/
def loomStatus (d : Dev) : Nat :=
  let n := fun (p : Tile → Bool) => (d.tiles.filter fun e => p e.2).length
  n (·.idle) + n (·.cur.isSome) * 2 ^ 8 + n (·.nxt.isSome) * 2 ^ 16 + n (fun x => x.hung && !x.retired) * 2 ^ 24
/-- LOOM_RC_STAT. -/
def rcStat (d : Dev) : Nat := d.loom.planned + b2n d.loom.atLimit * 2 ^ 9 + d.loom.planTime % 4096 * 2 ^ 16
/-- 0x1312:0, in Q16.16 (R83): rounded down; 0 while the tile limit is 0; above 1.0 as the quotient comes out (log 105). -/
def deviceLoad (d : Dev) : Nat := if tileLimit d = 0 then 0 else tilesCharged d 256 * 65536 / tileLimit d

end Sys2Proof.Machine
end

