-- ==== Sys2Proof/Machine/Pairing.lean ====
section
/-! DEFINITION. Pairing, the mirror messages as they arrive, handover and takeover (8: R188 to R229; 17: R447, R448). -/
namespace Sys2Proof.Machine

/-! ## The handshake (R190, R191, R447) -/

/-- The reason of 0x1409:0 takes a value and the pair is REFUSED; the pair key is erased (R190, R447). -/
def refusePair (reason : Nat) (d : Dev) : Dev :=
  let d1 := enterPair 5 (objSet 0x1409 0 reason d)
  setPair { d1.pair with keyed := false } d1
/-- Is pair enable 1 with a partner named (R190 item 1)? -/
def pairWanted (d : Dev) : Bool := objNow d 0x1400 0 == 1 && objNow d 0x1401 0 != 0xFF
/-- Does 0x1301:0 read Aligned (R190 item 2)? -/
def isAligned (d : Dev) : Bool := d.tbs.align == 2
/-- HANDSHAKE begins (R190, R447): the share is drawn and published, the partner's chain and share are asked for. None begins
while the random source has failed (R433); each is refused while debug is unlocked (R450), without alignment, or under another
profile. -/
def enterHandshake (d : Dev) : Dev :=
  if d.sec.rngFail then d
  else if d.sec.debug then refusePair 3 (enterPair 1 d)
  else if !isAligned d then refusePair 6 (enterPair 1 d)
  else if objGet d 0x1101 0 != 1 then refusePair 1 (enterPair 1 d)
  else
    let share := Config.pairShare d.rngCtr % 2 ^ (8 * 208)
    let d1 := objSet 0x1620 0 share (rngNext (enterPair 1 d))
    dsSend (partnerNode d) 1 0x1620 0 0 (dsSend (partnerNode d) 1 0x1601 0 0 d1)
/-- The service addresses of a device: every source address of its sessions' destinations, with its port (R190). -/
def ownAddrs (d : Dev) : List (Nat × Nat) :=
  (d.sess.flatMap fun x => (enabledDests d x.1).map fun e =>
    (byteAt (destEntry d x.1 e) 1, entrySrc (destEntry d x.1 e))).eraseDups
/-- HELLO: identity, stepping, tile microcode release, profile, service addresses (R190). -/
def sendHello (d : Dev) : Dev :=
  sendMirror { ty := 2, nums := [d.dsr.nodeId, objGet d 0x1001 0, objGet d 0x1004 0, objGet d 0x1101 0],
               objs := ownAddrs d } d

/-- The pair returns to UNPAIRED: the pair key is erased (R191, R447). -/
def unpair (d : Dev) : Dev :=
  let d1 := enterPair 0 d
  setPair { st := 0, since := d1.pair.since, taken := d1.pair.taken, given := d1.pair.given, announces := d1.pair.announces,
            promoting := d1.pair.promoting, takenAway := d1.pair.takenAway } d1
/-- At a boundary pair enable acts (R191, R227). -/
def pairStep (d : Dev) : Dev :=
  if objNow d 0x1400 0 = 0 then (if d.pair.st = 0 then d else unpair d)
  else if d.pair.st = 0 && pairWanted d && isAligned d then enterHandshake d
  else d

/-- The codes of a write of pair enable (R191): 0 is refused while a lining is held or an own session has one. -/
def pairEnableErrs (v : Nat) (d : Dev) : List Err :=
  earned [(decide (1 < v), .range),
    (v == 0 && (!(activeLinings d).isEmpty || d.sess.any fun x => (linkedLining d x.1).isSome), .state)]
/-- The write behind PAIR_ENABLE (R191). -/
def pairEnableWrite (q : Req) (value : Nat) : Dev → Dev :=
  perform q 0x1400 0 (pairEnableErrs value) (objSetStitch 0x1400 0 value)
/-- PAIR_ENABLE (R191): it acts at the next stitch (R227). -/
def execPairEnable (q : Req) (value : Nat) (s : State) : Host.Outcome State Fault Refusal :=
  act (pairEnableWrite q value) s

/-- HANDSHAKE_TIMEOUT (R190): not finished 200 ms after the later device reached Aligned, which is no earlier than its beginning here
(log 119). -/
def handshakeTimeout (d : Dev) : Dev :=
  if d.pair.st = 1 && decide (d.pair.since + 200000000 ≤ d.tbs.ns) then refusePair 4 d else d
/-- HANDSHAKE_TIMEOUT (R190). -/
def execHandshakeTimeout (now : Nat) (s : State) : Host.Outcome State Fault Refusal :=
  act (fun d => handshakeTimeout (atTime now d)) s

/-- REFUSED_RETRY (R190, R191): 1 s after the refusal, while pair enable stays 1. -/
def refusedRetry (d : Dev) : Dev :=
  if d.pair.st = 5 && pairWanted d && decide (d.pair.since + 1000000000 ≤ d.tbs.ns) then enterHandshake d else d
/-- REFUSED_RETRY (R191). -/
def execRefusedRetry (now : Nat) (s : State) : Host.Outcome State Fault Refusal :=
  act (fun d => refusedRetry (atTime now d)) s

/-- Do the checks of R447 hold? -/
def shareOk (d : Dev) (chainOk sigOk locked : Bool) (node pin : Nat) : Bool :=
  chainOk && sigOk && locked && node == d.dsr.nodeId &&
    (objGet d 0x1621 0 == 0 || objGet d 0x1621 0 == pin % 2 ^ 384)
/-- PAIR_SHARE_RESPONSE (R447): a failed check refuses the pair and is a security event; otherwise the epoch and the pair key
are new, last[257] is 0, and HELLO is sent. -/
def pairShare (chainOk sigOk locked : Bool) (node epoch pin : Nat) (d : Dev) : Dev :=
  if d.pair.st ≠ 1 || d.pair.keyed then d
  else if !shareOk d chainOk sigOk locked node pin then secEvent 6 257 (refusePair 3 d)
  else
    let d1 := objSet 0x1405 0 ((max (objGet d 0x1405 0) epoch + 1) % 2 ^ 32) d
    sendHello (clearLast 257 (setPair { d1.pair with keyed := true, counter := 0, lastIn := 0 } d1))
/-- PAIR_SHARE_RESPONSE (R447). -/
def execPairShareResponse (chainOk sigOk locked : Bool) (node epoch pin now : Nat) (s : State) :
    Host.Outcome State Fault Refusal :=
  act (fun d => pairShare chainOk sigOk locked node epoch pin (atTime now d)) s

/-! ## Arrival of messages (R194, R195, R448) -/

/-- Is the tenant's mirror key there on this device (R448): the hosting device finds the tenant from the lining, the primary
from the owner of the session. -/
def mirrorKeyed (d : Dev) (m : MirrorMsg) : Bool :=
  if m.ty = 5 || m.ty = 6 || m.ty = 7 || m.ty = 8 || m.ty = 11 || m.ty = 13 then
    decide (linTenant d m.lining < 256) && (tenantOf d (linTenant d m.lining)).st == 2
  else if m.ty = 9 || m.ty = 10 || m.ty = 12 then
    decide (ownerOf d m.session < 256) && (tenantOf d (ownerOf d m.session)).st == 2
  else true
/-- Is a message accepted (R194, R195)? -/
def mirrorOk (d : Dev) (ty : Nat) (m : MirrorMsg) : Bool :=
  m.ok && d.pair.keyed && m.ty == ty && m.epoch == objGet d 0x1405 0 && decide (d.pair.lastIn < m.counter) &&
    mirrorKeyed d m
/-- A message arrives: accepted, its COUNTER is taken; otherwise it is discarded and counted (R194). -/
def receive (ty : Nat) (m : MirrorMsg) (f : Dev → Dev) (d : Dev) : Dev :=
  if mirrorOk d ty m then f (setPair { d.pair with lastIn := m.counter } d) else objCount 32 0x5098 0 1 d

/-- Does a session need a lining and have none (R222)? -/
def wantsLining (d : Dev) (s : Nat) : Bool :=
  ((sess d s).st == .running || (sess d s).st == .paused) && objGet d 0x301B s == 1 && (linkedLining d s).isNone
/-- The pair is PAIRED after PARTNER_LOST: linings are asked for again (R222). -/
def relining (d : Dev) : Dev :=
  if d.pair.lost then
    forEach ((tabKeys d.sess).filter (wantsLining d)) askLining (setPair { d.pair with lost := false } d)
  else d
/-- A HELLO is accepted (R190, R191): in HANDSHAKE its items decide; from PARTNER_LOST it begins a handshake. -/
def helloAccepted (m : MirrorMsg) (d : Dev) : Dev :=
  if d.pair.st = 1 then
    if m.nums.getD 0 0 != objGet d 0x1401 0 then refusePair 5 d
    else if m.nums.getD 1 0 != objGet d 0x1001 0 || m.nums.getD 2 0 != objGet d 0x1004 0 then refusePair 2 d
    else if m.nums.getD 3 0 != 1 then refusePair 1 d
    else
      let d1 := enterPair 2 (objReset 0x1409 0 d)
      relining (setPair { d1.pair with partner := m.objs, probe := none } d1)
  else if d.pair.st = 4 then enterHandshake (setPair { d.pair with keyed := false } d)
  else d
/-- HELLO (R190). -/
def execHello (m : MirrorMsg) (now : Nat) (s : State) : Host.Outcome State Fault Refusal :=
  act (fun d => receive 2 m (helloAccepted m) (atTime now d)) s

/-- A HEARTBEAT is accepted (R191, R193, R214). -/
def heartbeatAccepted (m : MirrorMsg) (d : Dev) : Dev :=
  let d1 := objMax 0x140B 0 (m.nums.getD 0 0) d
  if d1.pair.st = 2 then setPair { d1.pair with probe := none } d1
  else if d1.pair.st = 3 then
    let d2 := enterPair 2 d1
    setPair { d2.pair with probe := none } d2
  else if d1.pair.st = 4 then enterHandshake (setPair { d1.pair with keyed := false } d1)
  else d1
/-- HEARTBEAT (R193). -/
def execHeartbeat (m : MirrorMsg) (now : Nat) (s : State) : Host.Outcome State Fault Refusal :=
  act (fun d => receive 1 m (heartbeatAccepted m) (atTime now d)) s

/-! ## Handover on the primary (R220, R221, R223) -/

/-- An offer comes to nothing: a commanded one is refused, a hit is handled on its own (R220, R221, R223). -/
def offerFails (d : Dev) : Dev :=
  match d.pair.offer with
  | none => d
  | some o =>
    let d1 := setPair { d.pair with offer := none } d
    let d2 := setSess o.s { sess d1 o.s with handing := false } d1
    match o.hit, o.req with
    | some (_, j), _ => if partWanted d2 j then recoverPart j d2 else d2
    | none, some q => refuse q 0x1445 0 .capacity d2
    | none, none => d2
/-- The media packets of a session that have not left, oldest first, class queues before destination queues. -/
def unsentMedia (d : Dev) (s : Nat) : List Pkt :=
  ((d.pke.ports.flatMap fun p => p.2.queues.flatMap (·.2)) ++ ((sess d s).dests.flatMap fun e => e.2.queue)).filter
    fun k => k.s == s && k.kind == 0
/-- The next RTP index after the last packet that left (R220). -/
def nextAfterSent (d : Dev) (s : Nat) : Nat :=
  let left := unsentMedia d s
  if left.isEmpty then (sess d s).tx.next
  else
    let sent := (sess d s).pkts.filter fun p => p.2.copies.any fun c => c.sentAt.isSome
    match sent.getLast? with
    | some p => p.1 + 1
    | none => left.foldl (fun a k => min a k.seq) (sess d s).tx.next
/-- The next transport-wide number of a destination after the last packet that left. -/
def twAfterSent (d : Dev) (s e : Nat) : Nat :=
  match (unsentMedia d s).find? fun k => k.e == e with
  | some k => k.tw
  | none => (dest d s e).tw
/-- The media packets, resends and sender reports of a session leave every queue unsent (R215, R220). -/
def discardMedia (s : Nat) (d : Dev) : Dev :=
  let keep := fun k : Pkt => !(k.s == s && decide (k.kind ≤ 2))
  let d1 := { d with pke := { d.pke with ports := d.pke.ports.map fun p =>
    (p.1, { p.2 with queues := p.2.queues.map fun q => (q.1, q.2.filter keep) }) } }
  setSess s { sess d1 s with dests := (sess d1 s).dests.map fun e => (e.1, { e.2 with queue := e.2.queue.filter keep }) } d1
/-- An address is no longer answered for (R218, R220). -/
def giveAddrs (s : Nat) (d : Dev) : Dev :=
  if !isArmed d 6 then d
  else
    let as := ((enabledDests d s).map fun e => entrySrc (destEntry d s e)).eraseDups
    let gone := (List.range 8).flatMap fun p => (as.filter fun a => isService d p a).map fun a => (p, a)
    setPair { d.pair with given := d.pair.given ++ gone.filter (fun g => !d.pair.given.contains g)
                          taken := d.pair.taken.filter fun g => !gone.contains g } d
/-- HANDOVER is sent and the session leaves this device (R220): SUSPENDED with cause 5 after an escalation, DRAINING after a
command, which is acknowledged now (R221). -/
def finishHandover (o : Offer) (d : Dev) : Dev :=
  let s := o.s
  let next := nextAfterSent d s
  let ds := (enabledDests d s).map fun e => (e, twAfterSent d s e, (dest d s e).srtcp)
  let d1 := discardMedia s (sendSeq s { ty := 13, nums := [next % 65536, next / 65536], dests := ds } d)
  let d2 := objSet 0x3090 s 1 (objReset 0x3091 s (giveAddrs s d1))
  let x := sess d2 s
  let d3 := objCount 32 0x509A 0 1
    (setSess s { x with handing := false, tell := [], tx := { x.tx with silent := true, next := next } }
      (setPair { d2.pair with offer := none } d2))
  match o.req with
  | none => suspend s 5 d3
  | some q => accept q 0x1445 0 (drainAct s d3)
/-- An accepted handover completes when the queues are empty, or 8 stitches after the acceptance (R220). -/
def handoverDue (limitOnly : Bool) (d : Dev) : Dev :=
  match d.pair.offer with
  | none => d
  | some o =>
    match o.accepted with
    | none => d
    | some n =>
      if decide (n + 8 ≤ max d.tbs.cnt (stitchesIn d.tbs.ns)) || (!limitOnly && sessionQueuesEmpty d o.s) then
        finishHandover o d
      else d
/-- HANDOVER_QUEUE_LIMIT (R220). -/
def execHandoverQueueLimit (now : Nat) (s : State) : Host.Outcome State Fault Refusal :=
  act (fun d => handoverDue false (atTime now d)) s

/-- HANDOVER_ANSWER (R220): on acceptance the bands are no longer packetised. -/
def offerAnswered (m : MirrorMsg) (d : Dev) : Dev :=
  match d.pair.offer with
  | none => d
  | some o =>
    if o.s ≠ m.session || o.accepted.isSome then d
    else if m.nums.getD 0 0 != 0 then offerFails d
    else
      handoverDue false (setSess o.s { sess d o.s with handing := true }
        (setPair { d.pair with offer := some { o with accepted := some d.tbs.cnt } } d))
/-- HANDOVER_ANSWER (R220). -/
def execHandoverAnswer (m : MirrorMsg) (now : Nat) (s : State) : Host.Outcome State Fault Refusal :=
  act (fun d => receive 12 m (offerAnswered m) (atTime now d)) s
/-- HANDOVER_OFFER_TIMEOUT (R220): 2 ms have passed without an answer. -/
def offerTimeout (d : Dev) : Dev :=
  match d.pair.offer with
  | none => d
  | some o => if o.accepted.isNone && decide (o.deadline ≤ d.tbs.ns) then offerFails d else d
/-- HANDOVER_OFFER_TIMEOUT (R220). -/
def execHandoverOfferTimeout (now : Nat) (s : State) : Host.Outcome State Fault Refusal :=
  act (fun d => offerTimeout (atTime now d)) s

/-- The codes of a commanded handover that this device decides (R221); another offer that stands is E_BUSY. -/
def handOverErrs (v : Nat) (d : Dev) : List Err :=
  earned [(decide (255 < v), .type),
    (d.pair.st != 2 || objGet d 0x3090 v != 3 || (sess d v).st != .running, .state), (sharesSource d v, .conflict),
    (d.pair.offer.isSome, .busy)]
/-- HAND_OVER_SESSION (R221): acknowledged when HANDOVER has been sent. -/
def handOver (q : Req) (v : Nat) (d : Dev) : Dev :=
  decideWrite q 0x1445 0 (handOverErrs v) (refuse q 0x1445 0) (offerHandover { s := v, req := some q }) d
/-- HAND_OVER_SESSION (R221). -/
def execHandOverSession (q : Req) (value : Nat) (s : State) : Host.Outcome State Fault Refusal := act (handOver q value) s

/-- HANDOVER_OFFER on the host (R220): the promotion admission of R216 is answered. -/
def offerReceived (m : MirrorMsg) (d : Dev) : Dev :=
  let l := m.lining
  let d1 := updLining l (fun x => { x with effort := m.nums.getD 1 0 }) d
  let ok := d1.pair.st == 2 && linState d1 l == 2 && (promoteEfforts d1 l).any fun e => (promoteErrs d1 l e).isEmpty
  sendMirror { ty := 12, session := m.session, lining := l, nums := [if ok then 0 else Err.capacity.code] } d1
/-- HANDOVER_OFFER (R220). -/
def execHandoverOffer (m : MirrorMsg) (now : Nat) (s : State) : Host.Outcome State Fault Refusal :=
  act (fun d => receive 11 m (offerReceived m) (atTime now d)) s

/-! ## Loss of the partner (R214, R215) -/

/-- The own sessions' linings are gone: the view becomes 1 (R214). -/
def forgetLinings (d : Dev) : Dev :=
  forEach ((tabKeys d.sess).filter fun s => objGet d 0x3090 s != 0) (fun s d =>
    objSet 0x3090 s 1 (objReset 0x3091 s
      (setSess s { sess d s with mseq := 0, kept := [], tell := [], rateSent := {}, askedAt := none } d))) d
/-- Linings stop decoding, with their reservations held, when nothing is armed (R201). -/
def stopLinings (d : Dev) : Dev :=
  forEach ((activeLinings d).filter fun l => linState d l != 4 && !(d.pair.promoting.any fun e => e.1 == l))
    (fun l d => postLining l 3 0 (updLining l (fun x => { x with stopped := true }) d)) d
/-- The pair enters PARTNER_LOST (R191, R214 to R216, R226). -/
def partnerLost (d : Dev) : Dev :=
  let d1 := pulse 1 0x0051 2 (partnerNode d) 0 (enterPair 4 d)
  let d2 := offerFails (setPair { d1.pair with lost := true, probe := none } d1)
  let d3 := forgetLinings d2
  if isArmed d3 5 then lossPass d3 else stopLinings d3
/-- A probe is sent (R214): a read of the partner's service status over the Drawstring. -/
def sendProbe (d : Dev) : Dev :=
  dsSend (partnerNode d) 1 0x140C 0 0 (setPair { d.pair with probe := some d.tbs.ns, probedAt := d.tbs.cnt } d)
/-- HEARTBEAT_LIMIT (R214): the last heartbeat is older than L stitches; before the first one the count runs from PAIRED. -/
def heartbeatLimit (d : Dev) : Dev :=
  if d.pair.st = 2 && d.pair.probe.isNone &&
      decide (max (objGet d 0x140B 0) (stitchesIn d.pair.since) + objNow d 0x1406 0 < d.tbs.cnt) then sendProbe d
  else d
/-- HEARTBEAT_LIMIT (R214). -/
def execHeartbeatLimit (now : Nat) (s : State) : Host.Outcome State Fault Refusal :=
  act (fun d => heartbeatLimit (atTime now d)) s
/-- Does a probe wait for its answer? -/
def isProbing (d : Dev) : Bool := (d.pair.st == 2 || d.pair.st == 3) && d.pair.probe.isSome
/-- PROBE_ANSWER (R214). -/
def probeAnswer (status : Nat) (d : Dev) : Dev :=
  if !isProbing d then d
  else if status = 1 || status = 2 then partnerLost d
  else
    let d1 := setPair { d.pair with probe := none } d
    if d1.pair.st = 3 then d1 else enterPair 3 d1
/-- PROBE_ANSWER (R214). -/
def execProbeAnswer (status now : Nat) (s : State) : Host.Outcome State Fault Refusal :=
  act (fun d => probeAnswer status (atTime now d)) s
/-- PROBE_TIMEOUT (R214): no answer within 2 ms. -/
def probeTimeout (d : Dev) : Dev :=
  match d.pair.probe with
  | none => d
  | some t => if isProbing d && decide (t + 2000000 ≤ d.tbs.ns) then partnerLost d else d
/-- PROBE_TIMEOUT (R214). -/
def execProbeTimeout (now : Nat) (s : State) : Host.Outcome State Fault Refusal :=
  act (fun d => probeTimeout (atTime now d)) s
/-- PROBE_REPEAT (R214): every 36 stitches in MIRROR_DOWN. -/
def probeRepeat (d : Dev) : Dev :=
  if d.pair.st = 3 && d.pair.probe.isNone && decide (d.pair.probedAt + 36 ≤ d.tbs.cnt) then sendProbe d else d
/-- PROBE_REPEAT (R214). -/
def execProbeRepeat (now : Nat) (s : State) : Host.Outcome State Fault Refusal :=
  act (fun d => probeRepeat (atTime now d)) s

/-! ## Sessions taken (R215, R216) -/

/-- TAKEN names own sessions: they are suspended at the next stitch (R215). -/
def takeSessions (ss : List Nat) (d : Dev) : Dev :=
  setPair { d.pair with takenAway := d.pair.takenAway ++ ss.filter fun s => !d.pair.takenAway.contains s } d
/-- TAKEN (R215). -/
def execTaken (m : MirrorMsg) (now : Nat) (s : State) : Host.Outcome State Fault Refusal :=
  act (fun d => receive 14 m (takeSessions (m.nums.filter isSlot)) (atTime now d)) s
/-- The write behind SESSIONS_TAKEN_WRITE (R215). -/
def sessionsTakenWrite (q : Req) (v : Payload) : Dev → Dev :=
  perform q 0x140D 0 (fun _ => typeErrs 0x140D v) fun d =>
    takeSessions ((List.range 256).filter (bit v.val)) (objSet 0x140D 0 (v.val % 2 ^ 256) d)
/-- SESSIONS_TAKEN_WRITE (R215). -/
def execSessionsTakenWrite (q : Req) (v : Payload) (s : State) : Host.Outcome State Fault Refusal :=
  act (sessionsTakenWrite q v) s
/-- At a boundary the sessions taken are suspended with cause 5, and send their players nothing more (R215). -/
def suspendTaken (d : Dev) : Dev :=
  forEach d.pair.takenAway (fun s d =>
    let d1 := suspend s 5 (discardMedia s d)
    setSess s { sess d1 s with tx := { (sess d1 s).tx with silent := true } } d1)
    (setPair { d.pair with takenAway := [] } d)

/-- The write behind PROMOTE_LININGS (R216). -/
def promoteWrite (q : Req) (value : Nat) : Dev → Dev :=
  perform q 0x1446 0 (fun d => earned [(value != 1, .range), (d.pair.st != 4, .state)]) lossPass
/-- PROMOTE_LININGS (R216): loss promotion by command, only in PARTNER_LOST. -/
def execPromoteLinings (q : Req) (value : Nat) (s : State) : Host.Outcome State Fault Refusal :=
  act (promoteWrite q value) s
/-- ADDRESS_ANNOUNCE (R218): announcements repeated 36 and 72 stitches later. -/
def addressAnnounce (d : Dev) : Dev :=
  let n := max d.tbs.cnt (stitchesIn d.tbs.ns)
  forEach (d.pair.announces.filter fun a => decide (a.1 ≤ n)) (fun a d => announce a.2.1 a.2.2 d)
    (setPair { d.pair with announces := d.pair.announces.filter fun a => !decide (a.1 ≤ n) } d)
/-- ADDRESS_ANNOUNCE (R218). -/
def execAddressAnnounce (now : Nat) (s : State) : Host.Outcome State Fault Refusal :=
  act (fun d => addressAnnounce (atTime now d)) s

/-! ## Linings (R199 to R203, R222, R228) -/

/-- The lowest-numbered slot that meets item 4 of R199. -/
def standbyFor (d : Dev) (t : Nat) : Option Nat :=
  (List.range 256).find? fun s => ownerOf d s == t && (sess d s).st == .free && !isStandby d s
/-- The lowest-numbered IDLE lining slot. -/
def idleLining (d : Dev) : Option Nat := (List.range 256).find? fun l => linState d l == 0
/-- What a request carries (R195). -/
structure LinAsk where
  t : Nat
  identity : Nat
  charges : Charges
  prio : Nat
  pixels : Nat
deriving DecidableEq, Repr
/-- Its fields. -/
def linAsk (m : MirrorMsg) : LinAsk :=
  let n := fun i => m.nums.getD i 0
  { t := n 0, identity := n 1, charges := { tiles := n 2, fabric := n 3, intake := n 4, quota := n 5 }, prio := n 6, pixels := n 7 }
/-- The charges a granted lining takes (R58, R200). -/
def askedCharges (d : Dev) (a : LinAsk) : Charges :=
  if a.prio < objNow d 0x1441 0 then a.charges
  else { tiles := ceilDiv (a.pixels * 1000) 6000000000, fabric := ceilDiv (a.pixels * 19) 10000000 }
/-- The codes of a request (R199); items 1 to 4 carry no code of their own there (log 22). -/
def liningErrs (a : LinAsk) (d : Dev) : List Err :=
  earned [(d.pair.st != 2, .state),
    (!decide (a.t < 256) || (tenantOf d a.t).st != 2 || objGet d 0x2052 a.t != a.identity, .state),
    ((idleLining d).isNone, .capacity), ((standbyFor d a.t).isNone, .capacity),
    (decide (objGet d 0x2002 a.t ≤ slotsInUse d a.t), .quota)] ++ admitTenant d 256 a.t (askedCharges d a)
/-- The counters of a lining restart when it leaves IDLE (R229). -/
def restartLining (l : Nat) (d : Dev) : Dev :=
  forEach [0x5080, 0x5081, 0x5082, 0x5083, 0x5084, 0x5012] (fun i d => objReset i l d) d
/-- A lining is granted: ANCHORING, with its reservations held (R199 to R201). -/
def grantLining (m : MirrorMsg) (a : LinAsk) (l s : Nat) (d : Dev) : Dev :=
  let g := decide (a.prio < objNow d 0x1441 0)
  let d1 := setLining l { prio := a.prio, charges := askedCharges d a } (restartLining l d)
  let d2 := objSet 0x4001 l m.session (objSet 0x4002 l a.t (objSet 0x4003 l s (objSet 0x4004 l (b2n g) d1)))
  linChange l 1 0 d2
/-- LINING_REQUEST (R199): the answer carries the code, the lining slot and the standby slot. -/
def liningAsked (m : MirrorMsg) (d : Dev) : Dev :=
  let a := linAsk m
  match lowest (liningErrs a d), idleLining d, standbyFor d a.t with
  | none, some l, some s =>
    sendMirror { ty := 4, session := m.session, nums := [0, l, s] } (grantLining m a l s d)
  | e, _, _ => sendMirror { ty := 4, session := m.session, nums := [((e.getD .capacity).code), 0xFFFF, 0xFFFF] } d
/-- LINING_REQUEST (R199). -/
def execLiningRequest (m : MirrorMsg) (now : Nat) (s : State) : Host.Outcome State Fault Refusal :=
  act (fun d => receive 3 m (liningAsked m) (atTime now d)) s

/-- The link of a session with its lining begins: SESSION_OPEN is message 1 (R195, R196). -/
def openLink (s l : Nat) (d : Dev) : Dev :=
  let d1 := objSet 0x3090 s 2 (objSet 0x3091 s l (setSess s { sess d s with mseq := 0, tell := [], rateSent := {}, askedAt := none } d))
  sendSeq s (openMsg d1 s) d1
/-- LINING_ANSWER (R60, R222): it decides a waiting ARM, or a request made after re-pairing; any other answer has no effect. -/
def liningAnswered (m : MirrorMsg) (d : Dev) : Dev :=
  let s := m.session
  let code := m.nums.getD 0 0
  if (sess d s).armWait.isSome then
    if code = 0 then openLink s (m.nums.getD 1 0) (armAccept s d) else armRefuse s .capacity d
  else if wantsLining d s && d.pair.st = 2 then
    if code = 0 then openLink s (m.nums.getD 1 0) d else setSess s { sess d s with askedAt := some d.tbs.ns } d
  else d
/-- LINING_ANSWER (R60). -/
def execLiningAnswer (m : MirrorMsg) (now : Nat) (s : State) : Host.Outcome State Fault Refusal :=
  act (fun d => receive 4 m (liningAnswered m) (atTime now d)) s
/-- LINING_REQUEST_RETRY (R222): a refused request is sent again after 1 s. -/
def liningRetry (s : Nat) (d : Dev) : Dev :=
  match (sess d s).askedAt with
  | none => d
  | some t =>
    if d.pair.st = 2 && wantsLining d s && decide (t + 1000000000 ≤ d.tbs.ns) then
      askLining s (setSess s { sess d s with askedAt := none } d)
    else d
/-- LINING_REQUEST_RETRY (R222). -/
def execLiningRequestRetry (slot now : Nat) (s : State) : Host.Outcome State Fault Refusal :=
  actOn (isSlot slot) (fun d => liningRetry slot (atTime now d)) s

/-- SESSION_OPEN (R195, R201); it may let bands that wait be applied (R75). -/
def execSessionOpen (m : MirrorMsg) (now : Nat) (s : State) : Host.Outcome State Fault Refusal :=
  act (fun d => earlyStart (receive 5 m (sequenced m) (atTime now d))) s
/-- BAND (R196, R197). -/
def execBand (m : MirrorMsg) (now : Nat) (s : State) : Host.Outcome State Fault Refusal :=
  act (fun d => earlyStart (receive 6 m (sequenced m) (atTime now d))) s
/-- SESSION_STATE (R195, R196); it may let bands that wait be applied (R75). -/
def execSessionState (m : MirrorMsg) (now : Nat) (s : State) : Host.Outcome State Fault Refusal :=
  act (fun d => earlyStart (receive 7 m (sequenced m) (atTime now d))) s
/-- SESSION_CLOSE (R195, R201). -/
def execSessionClose (m : MirrorMsg) (now : Nat) (s : State) : Host.Outcome State Fault Refusal :=
  act (fun d => receive 8 m (sequenced m) (atTime now d)) s
/-- HANDOVER (R216, R220). -/
def execHandover (m : MirrorMsg) (now : Nat) (s : State) : Host.Outcome State Fault Refusal :=
  act (fun d => receive 13 m (sequenced m) (atTime now d)) s

/-- Is a message of the mirror store still within the mirror hold (R198)? -/
def isKept (d : Dev) (k : Kept) : Bool := decide (stitchesIn d.tbs.ns < stitchesIn k.sentAt + objNow d 0x1407 0)
/-- MIRROR_NACK (R198): each named message that is still held is sent again. -/
def mirrorNacked (m : MirrorMsg) (d : Dev) : Dev :=
  forEach ((sess d m.session).kept.filter fun k => m.nums.contains k.msg.mseq && k.msg.lining == m.lining && isKept d k)
    (fun k d => sendMirror k.msg d) d
/-- MIRROR_NACK (R198). -/
def execMirrorNack (m : MirrorMsg) (now : Nat) (s : State) : Host.Outcome State Fault Refusal :=
  act (fun d => receive 9 m (mirrorNacked m) (atTime now d)) s
/-- MIRROR_STORE_EXPIRY (R198): messages older than the mirror hold leave the store. -/
def mirrorExpiry (s : Nat) (d : Dev) : Dev := setSess s { sess d s with kept := (sess d s).kept.filter (isKept d) } d
/-- MIRROR_STORE_EXPIRY (R198). -/
def execMirrorStoreExpiry (slot now : Nat) (s : State) : Host.Outcome State Fault Refusal :=
  actOn (isSlot slot) (fun d => mirrorExpiry slot (atTime now d)) s
/-- MIRROR_HOLD_EXPIRY (R198): messages that have not come one mirror hold after the gap was seen are lost. -/
def execMirrorHoldExpiry (lining now : Nat) (s : State) : Host.Outcome State Fault Refusal :=
  actOn (isSlot lining) (fun d => earlyStart (holdExpiry lining (atTime now d))) s

/-- The value of 0x3090:s for a lining's state (R204, R229). -/
def linkView (st : Nat) : Nat := if 1 ≤ st && st ≤ 3 then st + 1 else 1
/-- A mismatch is told (R203): a fault for each tile that coded a part of the band, and its count. -/
def mismatchTold (s c b : Nat) (d : Dev) : Dev :=
  forEach (tabGet [] (stream d (liveSid s)).coders (128 * c + b)) (fun t d => countMismatch t (mismatchFault t d)) d
/-- LINING_STATE (R202 to R204): the view follows; a refresh request starts a cycle (R156). -/
def liningTold (m : MirrorMsg) (d : Dev) : Dev :=
  let s := m.session
  if linkedLining d s ≠ some m.lining || !isSlot s then d
  else
    let n := fun i => m.nums.getD i 0
    let d1 := objSet 0x3090 s (linkView (n 0)) d
    let d2 := if n 2 = 1 then triggerCycle (liveSid s) d1 else d1
    if 3 < m.nums.length then mismatchTold s (n 3) (n 4) d2 else d2
/-- LINING_STATE (R204). -/
def execLiningState (m : MirrorMsg) (now : Nat) (s : State) : Host.Outcome State Fault Refusal :=
  act (fun d => receive 10 m (liningTold m) (atTime now d)) s

/-- LINING_REANCHOR (R228): the attempts are cleared and a refresh is asked for; an IDLE or PROMOTED lining refuses it
(log 23). -/
def reanchor (l : Nat) (d : Dev) : Dev :=
  sendLinState l true [] (objReset 0x4008 l (updLining l (fun x => { x with quiet := false }) d))
/-- The write behind LINING_REANCHOR (R228). -/
def reanchorWrite (q : Req) (lining : Nat) : Dev → Dev :=
  perform q 0x4009 lining (fun d => earned [(!linOpen d lining, .state)]) (reanchor lining)
/-- LINING_REANCHOR (R228). -/
def execLiningReanchor (q : Req) (lining : Nat) (s : State) : Host.Outcome State Fault Refusal :=
  actOn (isSlot lining) (reanchorWrite q lining) s
/-- A promotion that has not completed is given up: what its standby slot took is released (R201). -/
def cancelPromotion (l : Nat) (d : Dev) : Dev :=
  if d.pair.promoting.any (fun e => e.1 == l) then
    dropReservations (linStandby d l) (setPair { d.pair with promoting := d.pair.promoting.filter fun e => e.1 != l } d)
  else d
/-- The write behind LINING_RELEASE (R201). -/
def liningReleaseWrite (q : Req) (lining : Nat) : Dev → Dev :=
  perform q 0x4009 lining
    (fun d => earned [(!linOpen d lining || !(d.pair.st == 3 || d.pair.st == 4), .state)])
    fun d => freeLining lining (cancelPromotion lining d)
/-- LINING_RELEASE (R201): only while the pair is PARTNER_LOST or MIRROR_DOWN. -/
def execLiningRelease (q : Req) (lining : Nat) (s : State) : Host.Outcome State Fault Refusal :=
  actOn (isSlot lining) (liningReleaseWrite q lining) s

end Sys2Proof.Machine
end

