-- ==== Sys2Proof/Machine/Interrupts.lean ====
section
/-! DEFINITION. The interrupt controller and MSI-X (15: R392 to R396). A function is numbered 0 to 255 for the virtual
function of a tenant slot and 256 + link for an appearance of the physical function. -/
namespace Sys2Proof.Machine

/-- The key of vector v of function fn. -/
def msixKey (fn v : Nat) : Nat := if fn < 256 then 1024 + 16 * fn + v else 256 * (fn - 256) + v
/-- The function a vector key belongs to. -/
def msixFn (key : Nat) : Nat := if key < 1024 then 256 + key / 256 else (key - 1024) / 16
/-- Has function fn a vector v (R394)? -/
def hasVector (fn v : Nat) : Bool := if fn < 256 then decide (v < 16) else decide (fn < 260) && decide (v < 256)

/-- A vector. -/
def vec (d : Dev) (key : Nat) : Msix := tabGet {} d.msix key
/-- Changes a vector. -/
def setVec (key : Nat) (v : Msix) (d : Dev) : Dev := { d with msix := tabPut {} d.msix key v }

/-- The moderation register of a vector: one setting of a physical-function vector serves every link (R395). -/
def modReg (key : Nat) : Nat :=
  if key < 1024 then Reg.irqMod.at (key % 256) else Reg.vfIrqMod.vfAt ((key - 1024) / 16) ((key - 1024) % 16)

/-- Is the idle hint of function fn armed (R396)? -/
def idleArmed (d : Dev) (fn : Nat) : Bool :=
  if fn < 256 then bit (regGet d (Reg.vfIdleHint.vfAt fn 0)) 0 else bit (regGet d Reg.irqIdleHint.base) (fn - 256)

/-- The idle hint of function fn takes a value. -/
def setIdle (fn : Nat) (b : Bool) (d : Dev) : Dev :=
  if fn < 256 then setFld (Reg.vfIdleHint.vfAt fn 0) 0 1 (b2n b) d
  else setFld Reg.irqIdleHint.base (fn - 256) 1 (b2n b) d

/-- Is a vector masked, in its table or by Function Mask (R394)? -/
def isMasked (d : Dev) (key : Nat) : Bool :=
  (vec d key).masked || tabGet false d.fnMask (if key < 1024 then key / 256 else 4 + (key - 1024) / 16)

/-- A vector's message leaves: its count is cleared, its timer stops, and the function's idle hint disarms (R395, R396). -/
def sendVec (key : Nat) (d : Dev) : Dev :=
  setIdle (msixFn key) false
    (emit (.msix key) (setVec key { vec d key with held := 0, first := 0, eoc := false } d))

/-- Do a vector's events send its message now (R395, R396)? -/
def sendsNow (d : Dev) (key : Nat) : Bool :=
  let m := regGet d (modReg key)
  idleArmed d (msixFn key) || bits m 0 10 == 0 || decide (bits m 10 8 ≤ (vec d key).held) || (vec d key).eoc

/-- `n` events reach a vector (R394, R395): a masked vector keeps them; a privileged source bypasses moderation. -/
def toVec (key n : Nat) (eoc bypass : Bool) (d : Dev) : Dev :=
  let v := vec d key
  let d1 := setVec key { v with held := v.held + n, first := if v.held = 0 then d.tbs.ns else v.first, eoc := v.eoc || eoc } d
  if isMasked d1 key then d1 else if bypass || sendsNow d1 key then sendVec key d1 else d1

/-- Does pending source a go before pending source b? Privileged sources first, by GROUP, SUBPRIO and number (R393). -/
def irqBefore (d : Dev) (a b : Nat) : Bool :=
  let ra := regGet d (Reg.irqRoute.at a)
  let rb := regGet d (Reg.irqRoute.at b)
  if a < 16 && b < 16 then
    decide (bits ra 12 2 < bits rb 12 2) ||
      (bits ra 12 2 == bits rb 12 2 &&
        (decide (bits ra 14 2 < bits rb 14 2) || (bits ra 14 2 == bits rb 14 2 && decide (a < b))))
  else decide (a < b)

/-- The pending source to deliver next (R393). -/
def irqNext (d : Dev) : List Nat → Option Nat
  | [] => none
  | a :: t =>
    match irqNext d t with
    | none => some a
    | some b => if irqBefore d a b then some a else some b

/-- Does the management controller receive source n (R392)? -/
def toMc (n : Nat) : Bool := decide (n < 8) || n == 18 || n == 19 || (decide (32 ≤ n) && decide (n < 56))

/-- The vector of source n, if a host vector receives it (R392). -/
def hostVec (d : Dev) (n : Nat) : Option Nat :=
  let route := regGet d (Reg.irqRoute.at n)
  if n < 8 || n == 16 || n == 17 || n == 18 || (decide (32 ≤ n) && decide (n < 56)) then
    if bit route 10 then some (msixKey (256 + bits route 8 2) (bits route 0 8)) else none
  else if 96 ≤ n && n < 104 then
    some (msixKey (256 + queueLink d (cqKey pfFn (n - 96))) (queueVector d (cqKey pfFn (n - 96))))
  else if 128 ≤ n && n < 384 then some (msixKey (ownerOf d (n - 128)) (objGet d 0x2044 (ownerOf d (n - 128))))
  else if 384 ≤ n && n < 640 then some (msixKey (n - 384) (queueVector d (eqKey (n - 384))))
  else if 640 ≤ n && n < 896 then some (msixKey (n - 640) (queueVector d (cqKey (n - 640) 0)))
  else none

/-- One pending source is delivered (R393, R394). -/
def deliverIrq (d : Dev) : Dev :=
  match irqNext d (tabKeys d.irq) with
  | none => d
  | some n =>
    let e := tabGet {} d.irq n
    let d1 : Dev := { d with irq := tabErase d.irq n }
    let d2 := if toMc n then emit (.toFirmware n) d1 else d1
    match hostVec d1 n with
    | none => d2
    | some key => toVec key e.n e.eoc (decide (n < 16)) d2

/-- INTERRUPT_DELIVERY (R393). -/
def execInterruptDelivery (now : Nat) (s : State) : Host.Outcome State Fault Refusal :=
  act (fun d => deliverIrq (atTime now d)) s

/-- IRQ_DOORBELL (R392): only the management controller writes it; another caller's write is dropped (R365). -/
def execIrqDoorbell (who : Caller) (source now : Nat) (s : State) : Host.Outcome State Fault Refusal :=
  act (fun d =>
    let d0 := atTime now d
    if who = .firmware then raise (source % 1024) d0
    else regGate who Reg.irqDoorbell.base false (regDrop who Reg.irqDoorbell.base .access) d0) s

/-- A vector's holdoff elapses (R395): its message is sent if HOLDOFF has passed since the first event it holds. -/
def holdoff (key : Nat) (d : Dev) : Dev :=
  let v := vec d key
  if v.held ≠ 0 && !isMasked d key && decide (v.first + 1000 * bits (regGet d (modReg key)) 0 10 ≤ d.tbs.ns) then
    sendVec key d
  else d

/-- MSIX_HOLDOFF_EXPIRY (R395). -/
def execMsixHoldoffExpiry (fn vector now : Nat) (s : State) : Host.Outcome State Fault Refusal :=
  actOn (hasVector fn vector) (fun d => holdoff (msixKey fn vector) (atTime now d)) s

/-- A vector is unmasked in its table: it sends at once if it holds events (R394). -/
def unmask (key : Nat) (d : Dev) : Dev :=
  let d1 := setVec key { vec d key with masked := false } d
  if (vec d key).held ≠ 0 && !isMasked d1 key then sendVec key d1 else d1

/-- MSIX_UNMASK (R394). -/
def execMsixUnmask (fn vector now : Nat) (s : State) : Host.Outcome State Fault Refusal :=
  actOn (hasVector fn vector) (fun d => unmask (msixKey fn vector) (atTime now d)) s

/-- Sends the message of every unmasked vector of a function that holds events. -/
def sendHeld (fn : Nat) (d : Dev) : Dev :=
  forEach ((tabKeys d.msix).filter fun k => msixFn k == fn)
    (fun k d => if (vec d k).held ≠ 0 && !isMasked d k then sendVec k d else d) d

/-- The idle hint of a function is armed (R396). -/
def armIdle (fn : Nat) (d : Dev) : Dev := sendHeld fn (setIdle fn true d)

/-- A write of IRQ_IDLE_HINT: each bit arms or disarms the hint of one appearance of the function (R396). -/
def idleWrite (who : Caller) (mask : Nat) (d : Dev) : Dev :=
  match who with
  | .vf t _ => mend (Reg.vfIdleHint.vfAt t 0) (if bit mask 0 then armIdle t d else setIdle t false d)
  | _ =>
    mend Reg.irqIdleHint.base
      (forEach (List.range 4) (fun i d => if bit mask i then armIdle (256 + i) d else setIdle (256 + i) false d) d)

/-- IDLE_HINT_ARM (R396). -/
def execIdleHintArm (who : Caller) (mask now : Nat) (s : State) : Host.Outcome State Fault Refusal :=
  act (fun d =>
    match who with
    | .vf t _ =>
      hostGate who (fun d =>
        if d.flt.safe then regDrop who (Reg.vfIdleHint.vfAt t 0) .state d else idleWrite who mask d) (atTime now d)
    | _ => regGate who Reg.irqIdleHint.base false (idleWrite who mask) (atTime now d)) s

/-- IRQ_PRIV_PEND. -/
def privPend (d : Dev) : Nat := sumBy (fun n => if (tabFind d.irq n).isSome then 2 ^ n else 0) (List.range 16)

end Sys2Proof.Machine
end

