-- ==== Sys2Proof/Machine/Pcie.lean ====
section
/-! DEFINITION. PCIe links and functions (14: R347 to R358): link events, VF Enable, resets of a function, memory space. -/
namespace Sys2Proof.Machine

/-- Virtual functions enabled on the whole device (R36, R353). -/
def vfsEnabled (d : Dev) : Nat := sumBy (fun i => if (link d i).vfEnable then (link d i).numVfs else 0) (List.range 4)

/-- TotalVFs of a link (R352). -/
def totalVfs (d : Dev) (i : Nat) : Nat := if portConfig d (i / 2) = 0 then 256 else 128

/-- The code that VF Enable earns (R353): ARI must be set, and the device enables at most 256 (log 12 for NumVFs above
TotalVFs). -/
def vfEnableErrs (i n : Nat) (ari : Bool) (d : Dev) : List Err :=
  earned [(!ari, .state), (decide (256 < vfsEnabled d + n) || decide (totalVfs d i < n), .capacity)]

/-- VF_ENABLE_SET (R353, R356): VF Enable stays 0 with the code in MBX_LAST_ERR, SOURCE 1; or it is set and the BAR 2 size
comes into force. -/
def vfEnableSet (i n : Nat) (ari : Bool) (d : Dev) : Dev :=
  if (link d i).vfEnable then d
  else
    match lowest (vfEnableErrs i n ari d) with
    | some e => regSet Reg.mbxLastErr.base (e.code + 2 ^ 16 + i * 2 ^ 17) d
    | none =>
      setLink i { link d i with vfEnable := true, numVfs := n, ari := ari, barNow := (link d i).barSet } d

/-- VF_ENABLE_SET (R353). -/
def execVfEnableSet (link numVfs : Nat) (ari : Bool) (s : State) : Host.Outcome State Fault Refusal :=
  actOn (isLink link) (vfEnableSet link numVfs ari) s

/-- VF_RESIZABLE_BAR_WRITE (R356): a power of two from 64 MiB to 64 GiB, taken only while VF Enable is 0. -/
def vfBar (i log2Mib : Nat) (d : Dev) : Dev :=
  if (link d i).vfEnable || decide (log2Mib < 6) || decide (16 < log2Mib) then d
  else setLink i { link d i with barSet := log2Mib } d

/-- VF_RESIZABLE_BAR_WRITE (R356). -/
def execVfResizableBarWrite (link log2Mib : Nat) (s : State) : Host.Outcome State Fault Refusal :=
  actOn (isLink link) (vfBar link log2Mib) s

/-- A function-level reset of the physical function on a link (R354, R388, R414): its configuration space and VF Enable
are cleared, its queues disabled, a mailbox request written through it discarded, and its secured sessions ended (R432). -/
def pfReset (i : Nat) (d : Dev) : Dev :=
  let d1 := vfLoss i d
  let d2 := pfQueuesOff i d1
  let d3 := if (mbox d2 256).busy && (mbox d2 256).link == i then discardMailbox 256 d2 else d2
  let d4 := setLink i { link d3 i with ari := false, mse := false, vfMse := false } d3
  { d4 with
    sec := { d4.sec with conns := tabErase d4.sec.conns i, sessions := d4.sec.sessions.filter fun x => x.2.link != i }
    msix := d4.msix.filter fun e => msixFn e.1 != 256 + i
    fnMask := tabErase d4.fnMask i }

/-- PF_FLR (R354). -/
def execPfFlr (link now : Nat) (s : State) : Host.Outcome State Fault Refusal :=
  actOn (isLink link) (fun d => pfReset link (atTime now d)) s

/-- PCIE_LINK_RESET (R350): 1 hot reset, 2 link disable, 3 surprise link-down, 4 PERST. It acts on that link alone, is no
fault, and is posted as a port event (R385). -/
def linkReset (i kind : Nat) (d : Dev) : Dev :=
  let d1 := pfReset i d
  let d2 := setLink i { link d1 i with up := false, lanes := 0, rate := 0 } { d1 with sec := { d1.sec with ide := d1.sec.ide.filter fun x => x.1 / 32 != i } }
  postEvent pfFn 2 2 0 i kind d2

/-- PCIE_LINK_RESET (R350). -/
def execPcieLinkReset (link kind now : Nat) (s : State) : Host.Outcome State Fault Refusal :=
  actOn (isLink link) (fun d => linkReset link kind (atTime now d)) s

/-- The lanes a link may train to (R348). -/
def lanesOk (d : Dev) (i lanes : Nat) : Bool :=
  [1, 2, 4, 8, 16].contains lanes && decide (lanes ≤ if portConfig d (i / 2) = 0 then 16 else 8)

/-- PCIE_LINK_UP (R348, R349): a link of the configuration in force trains to a width and a rate; its budget follows from
them. -/
def pcieUp (i lanes rate : Nat) (d : Dev) : Dev :=
  if linkPresent d i && lanesOk d i lanes && decide (1 ≤ rate) && decide (rate ≤ 6) then
    postEvent pfFn 2 2 0 i 5 (setLink i { link d i with up := true, lanes := lanes, rate := rate } d)
  else d

/-- PCIE_LINK_UP (R349). -/
def execPcieLinkUp (link lanes rate now : Nat) (s : State) : Host.Outcome State Fault Refusal :=
  actOn (isLink link) (fun d => pcieUp link lanes rate (atTime now d)) s

/-- MEMORY_SPACE_ENABLE_WRITE (R358, R435): a cleared VF MSE sends every locked interface behind the link to ERROR. -/
def mseWrite (i : Nat) (vf value : Bool) (d : Dev) : Dev :=
  if vf then
    let d1 := setLink i { link d i with vfMse := value } d
    if value then d1 else forEach (tenantsBehind d1 i) interfaceError d1
  else setLink i { link d i with mse := value } d

/-- MEMORY_SPACE_ENABLE_WRITE (R358). -/
def execMemorySpaceEnableWrite (link : Nat) (vf value : Bool) (now : Nat) (s : State) :
    Host.Outcome State Fault Refusal :=
  actOn (isLink link) (fun d => mseWrite link vf value (atTime now d)) s

/-- STRAY_ACCESS (R358): a read of a reserved page returns 0, a write is ignored; each is counted. -/
def strayAccess (who : Caller) (d : Dev) : Dev :=
  hostGate who (fun d =>
    match who with
    | .vf t _ => objCount 32 0x5030 t 1 d
    | _ => regCount Reg.mbxStrayCnt.base 1 d) d

/-- STRAY_ACCESS (R358). -/
def execStrayAccess (who : Caller) (isWrite : Bool) (offset : Nat) (s : State) : Host.Outcome State Fault Refusal :=
  actOn (match who with
    | .vf t _ => isSlot t && !isVfPage offset
    | _ => !isPfPage offset && (isWrite || !isWrite)) (strayAccess who) s

/-- MALFORMED_REGISTER_ACCESS (R362): a read completes with zeros and no side effect; a write is dropped whole with
E_TYPE in the page's last-error register, or in MBX_LAST_ERR for a reserved page; each is counted. -/
def malformed (who : Caller) (isWrite : Bool) (offset : Nat) (d : Dev) : Dev :=
  hostGate who (fun d =>
    let d1 := regCount Reg.mbxSizeErrCnt.base 1 d
    if !isWrite then d1
    else
      match who with
      | .vf t _ => regDrop who (if isVfPage offset then vfKey t offset else 0) .type d1
      | _ => regDrop who (if isPfPage offset then offset else 0) .type d1) d

/-- MALFORMED_REGISTER_ACCESS (R362). -/
def execMalformedRegisterAccess (who : Caller) (isWrite : Bool) (offset : Nat) (s : State) :
    Host.Outcome State Fault Refusal :=
  act (malformed who isWrite offset) s

/-- MBX_CNT_CLR (R369). -/
def mbxCntClr (d : Dev) : Dev :=
  regSet Reg.mbxRejectCnt.base 0 (regSet Reg.mbxStrayCnt.base 0 (regSet Reg.mbxSizeErrCnt.base 0 d))

/-- MBX_CNT_CLR (R369). -/
def execMbxCntClr (who : Caller) (s : State) : Host.Outcome State Fault Refusal :=
  act (regGate who Reg.mbxCtrl.base false mbxCntClr) s

/-- MBX_LINK_STAT[i]. -/
def linkStat (d : Dev) (i : Nat) : Nat :=
  let l := link d i
  b2n (linkPresent d i) + b2n l.up * 2 + l.lanes * 2 ^ 2 + l.rate * 2 ^ 7 + b2n (l.up && l.rate == 6) * 2 ^ 10 +
    (if l.vfEnable then l.numVfs else 0) * 2 ^ 12 + linkBudget d i / 1000 * 2 ^ 21

/-! ## The mailbox (R404, R412) -/

/-- The request page of a caller: mailbox number, MBX_REQ_CTRL, MBX_REQ_DATA[0]. -/
def reqPage : Caller → Option (Nat × Nat × Nat)
  | .pf _ => some (256, Reg.mbxReqCtrl.base, Reg.mbxReqData.base)
  | .vf t _ => some (t, Reg.vfReqCtrl.vfAt t 0, Reg.vfReqData.vfAt t 0)
  | _ => none

/-- The value of `n` dwords from a place of the register file on. -/
def getWords (d : Dev) : Nat → Nat → Nat
  | 0, _ => 0
  | n + 1, key => regGet d key + 2 ^ 32 * getWords d n (key + 4)

/-- Does a request of `len` bytes break the layout of R404? -/
def layoutBad (m len : Nat) : Bool :=
  let op := byteAt m 1
  let n := bytesAt m 12 2
  byteAt m 0 != 1 || op == 0 || decide (4 < op) || byteAt m 3 != 0 || byteAt m 7 != 0 ||
    len != n + (if op = 3 then 44 else 20) ||
    ((op == 1 || op == 4) && n != 0) || (op != 3 && bytesAt m 8 2 != 0xFFFF)

/-- The request a mailbox submits (R404). -/
def waitingOf (who : Caller) (m : Nat) : Waiting :=
  { who := who, op := byteAt m 1, idx := bytesAt m 4 2, sub := byteAt m 6, ctx := bytesAt m 8 2, off := bytesAt m 10 2,
    tag := bytesAt m 16 4 }

/-- The codes of a GO (R412): a LENGTH outside 20 to 992, a request in progress. -/
def goErrs (k len : Nat) (d : Dev) : List Err :=
  earned [(decide (len < 20) || decide (992 < len), .range), ((mbox d k).busy, .busy)]

/-- A GO that is accepted (R412): BUSY, SEQ, VALID; a request that breaks the layout is answered with E_RANGE (R404). -/
def goAct (who : Caller) (k ctrl data len : Nat) (d : Dev) : Dev :=
  let m := mbox d k
  let d1 := mend ctrl <| setFld ctrl 0 10 len
    (setMbox k { m with busy := true, seq := (m.seq + 1) % 256, valid := false, link := linkOf who } d)
  let msg := getWords d ((len + 3) / 4) data % 256 ^ len
  let w := waitingOf who msg
  if layoutBad msg len then
    respond { who := who, tag := w.tag, crit := none, now := d.tbs.ns } w.op .range w.idx w.sub w.off 0 0 0 d1
  else { d1 with waiting := d1.waiting ++ [w] }

/-- MAILBOX_GO (R412). The mailboxes answer in the safe state too (R486). -/
def mailboxGo (who : Caller) (len : Nat) (d : Dev) : Dev :=
  match reqPage who with
  | none => d
  | some (k, ctrl, data) =>
    hostGate who (fun d =>
      match lowest (goErrs k len d) with
      | some e => regDrop who ctrl e d
      | none => goAct who k ctrl data len d) d

/-- MAILBOX_GO (R412). -/
def execMailboxGo (who : Caller) (length : Nat) (s : State) : Host.Outcome State Fault Refusal :=
  actOn (match who with
    | .vf t _ => isSlot t
    | .pf l => isLink l
    | _ => false) (mailboxGo who length) s

/-- MBX_REQ_STAT and MBX_RSP_STAT of a mailbox. -/
def reqStat (d : Dev) (k : Nat) : Nat := b2n (mbox d k).busy + (mbox d k).seq * 2 ^ 8
/-- MBX_RSP_STAT of a mailbox. -/
def rspStat (d : Dev) (k : Nat) : Nat :=
  (mbox d k).rspLen + b2n (mbox d k).valid * 2 ^ 10 + (mbox d k).rspSeq * 2 ^ 16

end Sys2Proof.Machine
end

