-- ==== Sys2Proof/Machine/Feedback.lean ====
section
/-! DEFINITION. Feedback messages that passed authentication and were mapped to a destination (R178 to R183, R270). -/
namespace Sys2Proof.Machine

/-- The RTP index of the last packet built with a sequence number. -/
def seqIndex (d : Dev) (s seq : Nat) : Option Nat :=
  let last := (sess d s).tx.next - 1
  let back := (last + 65536 - seq % 65536) % 65536
  if (sess d s).tx.next = 0 || decide (last < back) then none else some (last - back)
/-- The copy of a packet for a destination. -/
def copyAt (d : Dev) (s i e : Nat) : Option CopySt := (pktAt d s i).copies.find? fun c => c.e == e
/-- The RTP index of the copy with a transport-wide number, the latest if there are more. -/
def twIndex (d : Dev) (s e tw : Nat) : Option Nat :=
  (((sess d s).pkts.filter fun k => k.2.copies.any fun c => c.e == e && c.tw == tw % 65536).getLast?).map (·.1)

/-! ## Acknowledgement (R179) -/

/-- Has every binding destination that the layer of frame c reaches received all of it, and is all it predicts from ACKED
(R179)? A frame that reaches no binding destination is never ACKED. -/
def frameReceived' (d : Dev) (s c : Nat) : Bool :=
  let x := stream d (liveSid s)
  let p := tabGet {} x.past c
  let es := bindingDests d s p.layer
  p.whole && !es.isEmpty && p.refs.all (isAcked x) &&
    (List.range p.packets).all fun k => es.all fun e =>
      match copyAt d s (p.firstPkt + k) e with
      | some y => y.received
      | none => false
/-- The frames of a session whose last condition is met become ACKED, oldest first (R179). -/
def ackFrames (s : Nat) (d : Dev) : Dev :=
  forEach (tabKeys (stream d (liveSid s)).past) (fun c d =>
    if (pastAt d (liveSid s) c).st == 1 && frameReceived' d s c then
      objCount 32 0x5064 s 1 (updPast (liveSid s) c (fun p => { p with st := 2 }) d)
    else d) d

/-! ## Loss (R180) -/

/-- A packet is unrecoverable at a destination (R180): at a binding one it is counted once and its frame is marked lost. -/
def unrecoverable (s i e : Nat) (d : Dev) : Dev :=
  if !isBinding d s e then d
  else
    let d1 := match copyAt d s i e with
      | some c => if c.lost then d else updCopy s i e (fun c => { c with lost := true }) (objCount 32 0x5067 s 1 d)
      | none => d
    markLost (liveSid s) (pktAt d s i).frame d1

/-- A resend of packet i to destination e enters the Repair class; both buckets pay, down to minus their depth (R266). -/
def resend (s i e : Nat) (c : CopySt) (d : Dev) : Dev :=
  let v := destEntry d s e
  let k := pktAt d s i
  let b := frameBytes v (objGet d 0x3011 s) k.size
  let cost := b + byteAt (shaperEntry d s e) 16
  let d1 := updDest s e (fun x => { x with
    ct := max (x.ct - 256 * cost) (-(256 * depthC d s e)), pt := max (x.pt - 256 * cost) (-(256 * depthP d s e)) }) d
  let d2 := updCopy s i e (fun c => { c with resends := c.resends + 1, resending := true }) (objCount 32 0x50C2 s 1 d1)
  enterClass (byteAt v 1) 1 { kind := 1, s := s, e := e, seq := i, frame := k.frame, band := k.band, size := k.size,
                              data := k.data, marker := k.marker, tw := c.tw, bytes := b, cost := cost } d2

/-- One number of a NACK (R270), in the order of its rows. -/
def nackOne (s e seq : Nat) (d0 : Dev) : Dev :=
  let d := objCount 32 0x50C1 s 1 d0
  let unserved := objCount 32 0x50C3 s 1 d
  match seqIndex d s seq with
  | none => unserved
  | some i =>
    match copyAt d s i e with
    | none => unserved
    | some c =>
      if (sess d s).tx.silent || (dest d s e).st == 0 then unserved
      else if !(pktAt d s i).stored || decide (objNow d 0x307D s ≤ c.resends) then unrecoverable s i e unserved
      else if c.resending then d
      else resend s i e c d
/-- NACK (R270). -/
def execNack (slot dest : Nat) (seqs : List Nat) (now : Nat) (s : State) : Host.Outcome State Fault Refusal :=
  actOn (isSlot slot && decide (dest < 64)) (fun d => forEach seqs (nackOne slot dest) (atTime now d)) s

/-- PICTURE_LOSS_INDICATION (R180): every entry and frame in progress that is PENDING is marked lost. -/
def pictureLoss (s e : Nat) (d0 : Dev) : Dev :=
  let d := objCount 32 0x5066 s 1 d0
  if !isBinding d s e then postTenant s 1 5 0 s e d
  else
    let x := stream d (liveSid s)
    let hit := (x.past.filter fun p => p.2.st == 1 &&
      ((retained x).contains p.1 || x.frames.any fun f => f.count == some p.1)).map (·.1)
    forEach hit.reverse (markLost (liveSid s)) d
/-- PICTURE_LOSS_INDICATION (R180). -/
def execPictureLossIndication (slot dest now : Nat) (s : State) : Host.Outcome State Fault Refusal :=
  actOn (isSlot slot && decide (dest < 64)) (fun d => pictureLoss slot dest (atTime now d)) s

/-! ## Congestion feedback (R179, R180, R183) -/

/-- The middle of a sorted list, doubled: the two middle values of an even number are averaged (R183). -/
def median2 (l : List Int) : Int :=
  let n := l.length
  l.getD (n / 2) 0 + l.getD ((n - 1) / 2) 0
/-- What a report says of the packets it covers: copies with their arrival in ns of the receiver's clock. -/
structure Heard where
  i : Nat
  c : CopySt
  at_ : Option Nat
/-- The one-way delays of the packets received, in ns (R183). -/
def delays (l : List Heard) : List Int :=
  l.filterMap fun h => match h.at_, h.c.sentAt with
    | some a, some t => some ((a : Int) - t)
    | _, _ => none
/-- The bytes received and the span of arrivals in ns (R183): frame bytes. -/
def heardSpan (d : Dev) (s e : Nat) (l : List Heard) : Nat × Nat :=
  let got := l.filter fun h => h.at_.isSome
  let ts := got.filterMap (·.at_)
  let bytes := sumBy (fun h => frameBytes (destEntry d s e) (objGet d 0x3011 s) (pktAt d s h.i).size) got
  match ts with
  | [] => (bytes, 0)
  | t :: r => (bytes, r.foldl max t - r.foldl min t)
/-- r of R183 before its clamp: from r, n, the packets not received, qd and qd_prev in half ns, and the time since the last
increase. -/
def nextRate (d : Dev) (s e : Nat) (l : List Heard) (qd : Nat) : Nat :=
  let x := dest d s e
  let n := l.length
  let lost := (l.filter fun h => h.at_.isNone).length
  let hi := 2000000 * objNow d 0x307B s
  let span := heardSpan d s e l
  let dt := min 100000000 (d.tbs.ns - x.since)
  if 10 * lost > n then x.rate * (2 * n - lost) / (2 * n)
  else if hi < qd && x.qdPrev < qd && 2000000 ≤ span.2 then span.1 * 8 * 1000000 * 85 / (span.2 * 100)
  else if 2 * qd < hi && 100 * lost < 2 * n then x.rate * (100000000000 + 8 * dt) / 100000000000
  else x.rate
/-- The rates of a destination after a report (R183). A report with no packet received states no qd: qd_prev is then a free
value (log 3). -/
def controlRate (s e : Nat) (l : List Heard) (d : Dev) : Dev :=
  if l.isEmpty then d
  else
    let x := dest d s e
    let ds := delays l
    let kept := x.owd.filter fun p => decide (d.tbs.ns ≤ p.1 + 10000000000)
    let owd := match ds with
      | [] => kept
      | a :: t => kept ++ [(d.tbs.ns, t.foldl min a)]
    let least := owdMin { x with owd := owd }
    let none' := ds.isEmpty
    let qd := if none' then freeBits 40 d
              else (median2 (sortBy (fun a b => decide (a < b)) (ds.map fun o => o - least))).toNat
    let d1 := if none' then freeNext d else d
    let r := if objNow d 0x3078 s = 1 && !x.timedOut then controlClamp d s (nextRate d s e l qd) else x.rate
    updDest s e (fun y => { y with
      owd := owd, qdPrev := qd, qd := qd, rate := r, rateNew := y.rateNew || objNow d 0x3078 s == 1,
      since := if r = x.rate then y.since else d.tbs.ns }) d1

/-- Congestion feedback from a destination (R178 to R181, R183): every loss marking comes before any acknowledgement. -/
def congestion (s e : Nat) (l : List Heard) (d : Dev) : Dev :=
  let horizon := 1000000 * objNow d 0x307C s
  let lostNow := l.filter fun h => h.at_.isNone && !h.c.received && match h.c.sentAt with
    | some t => decide (t + horizon < d.tbs.ns)
    | none => false
  let d1 := forEach lostNow (fun h => unrecoverable s h.i e) d
  let d2 := forEach (l.filter fun h => h.at_.isSome) (fun h => updCopy s h.i e fun c => { c with received := true }) d1
  controlRate s e l (ackFrames s d2)
/-- The packets that a report covers: those sent to the destination (R183). -/
def heardOf (d : Dev) (s e : Nat) (l : List (Option Nat × Option Nat)) : List Heard :=
  l.filterMap fun r => match r.1 with
    | none => none
    | some i => match copyAt d s i e with
      | some c => if c.sentAt.isSome then some ⟨i, c, r.2⟩ else none
      | none => none
/-- CONGESTION_FEEDBACK (R178, R183): RTP sequence numbers, each with its arrival or none. -/
def execCongestionFeedback (slot dest : Nat) (reports : List (Nat × Option Nat)) (now : Nat) (s : State) :
    Host.Outcome State Fault Refusal :=
  actOn (isSlot slot && decide (dest < 64)) (fun d0 =>
    let d := atTime now d0
    congestion slot dest (heardOf d slot dest (reports.map fun r => (seqIndex d slot r.1, r.2))) d) s
/-- TRANSPORT_WIDE_FEEDBACK (R178): as congestion feedback, by the copies' transport-wide numbers. -/
def execTransportWideFeedback (slot dest : Nat) (reports : List (Nat × Option Nat)) (now : Nat) (s : State) :
    Host.Outcome State Fault Refusal :=
  actOn (isSlot slot && decide (dest < 64)) (fun d0 =>
    let d := atTime now d0
    congestion slot dest (heardOf d slot dest (reports.map fun r => (twIndex d slot dest r.1, r.2))) d) s
/-- RECEIVER_REPORT (R178): counted with its packet in 0x50F0:s (R288), and not otherwise used. -/
def execReceiverReport (slot dest now : Nat) (s : State) : Host.Outcome State Fault Refusal :=
  actOn (isSlot slot && decide (dest < 64)) (atTime now) s

/-! ## Silence (R182) -/

/-- FEEDBACK_TIMEOUT (R182): once, until the next authenticated feedback. -/
def feedbackTimeout (s e : Nat) (d : Dev) : Dev :=
  let x := dest d s e
  if x.st == 0 || !isBinding d s e || x.timedOut || decide (d.tbs.ns < x.lastFeedback + 1000000 * objNow d 0x3083 s) then d
  else postTenant s 1 4 0 s e (updDest s e (fun x => { x with timedOut := true }) d)
/-- FEEDBACK_TIMEOUT (R182). -/
def execFeedbackTimeout (slot dest now : Nat) (s : State) : Host.Outcome State Fault Refusal :=
  actOn (isSlot slot && decide (dest < 64)) (fun d => feedbackTimeout slot dest (atTime now d)) s

end Sys2Proof.Machine
end

