-- ==== Sys2Proof/Machine/Freeze.lean ====
section
/-! DEFINITION. Freezing a channel, what it does to pairs and holders, and its return to service (12: R317 to R320; 13: R341 to
R345). -/
namespace Sys2Proof.Machine

/-- The other channel of a pair. -/
def partnerChan (c : Nat) : Nat := if c % 2 = 0 then c + 1 else c - 1
/-- The SINGLE state in which the channel is current (R341). -/
def singleOf (c : Nat) : Nat := 1 + c % 2
/-- A pair's state beside 0x1817:p. -/
def pairExtra (d : Dev) (p : Nat) : PairSt := tabGet {} d.wrd.pairs p
/-- A pair enters a state. -/
def setPairState (p st : Nat) (x : PairSt) (d : Dev) : Dev :=
  objSet 0x1817 p st (setWrd { d.wrd with pairs := tabPut {} d.wrd.pairs p x } d)
/-- A pair becomes LOST; `cur` says which channels were current (R343). -/
def losePair (p cur : Nat) (d : Dev) : Dev := setPairState p 4 { current := cur } d
/-- Bit of a channel in the record of current channels. -/
def currentBit (c : Nat) : Nat := 1 + c % 2
/-- Reads served from the other channel are counted (R342). -/
def countFallback (p n : Nat) (d : Dev) : Dev :=
  let key := Reg.wrdPairStat.at p
  objCount 64 0x5111 p n (regSet key (setBits (regGet d key) 16 16 (satAdd 16 (bits (regGet d key) 16 16) n)) d)
/-- A pair when its channel c freezes (R342, R343); `reads` mirrored reads are then served by the other channel. -/
def pairFreeze (c reads : Nat) (d : Dev) : Dev :=
  let p := c / 2
  let o := partnerChan c
  match pairState d p with
  | 0 =>
    if !inService d o then losePair p 3 d
    else if isArmed d 8 then countFallback p reads (setPairState p (singleOf o) {} d) else d
  | 1 | 2 => if pairState d p = singleOf c then losePair p (currentBit c) d else d
  | 3 => setPairState p (singleOf o) {} d
  | _ => d
/-- A pair when its channel c goes to state 6 or 7 for good (R343). -/
def pairGone (c : Nat) (d : Dev) : Dev :=
  let p := c / 2
  let o := partnerChan c
  if pairState d p ≤ 3 then
    if inService d o then setPairState p (singleOf o) {} d
    else losePair p (if pairState d p = singleOf c then currentBit c else if pairState d p = 0 then 3 else currentBit o) d
  else d
/-- A pair when its channel c returns to service (R343). -/
def pairReturn (c : Nat) (d : Dev) : Dev :=
  let p := c / 2
  let o := partnerChan c
  let st := pairState d p
  let resilver (surv : Nat) (d : Dev) : Dev :=
    setPairState p 3 { survivor := surv } (regSet (Reg.wrdPairStat.at p) (setBits (regGet d (Reg.wrdPairStat.at p)) 3 7 0) d)
  if st = singleOf o && inService d o then resilver o d
  else if st = 4 then
    let cur := (pairExtra d p).current
    if cur = 3 || cur = currentBit c then
      if inService d o then resilver c d else setPairState p (singleOf c) {} d
    else d
  else d

/-! ## Freeze (R317 to R319, R344) -/

/-- The blocks that lie on a channel. -/
def blocksOn (d : Dev) (c : Nat) : List (Nat × Block) :=
  d.wrd.blocks.filter fun e => !e.2.quarantined &&
    (if isMirrored e.2.pool then e.2.chan / 2 == c / 2 else e.2.chan == c)
/-- The severity of a freeze (R344). -/
def freezeSeverity (d : Dev) (c : Nat) : Nat :=
  if (blocksOn d c).any fun e =>
    (e.2.use.session?.isSome || e.2.use.lining?.isSome) && blockFrozen d e.2 then 2 else 1
/-- The holders of blocks that no mirror copy serves (R344). -/
def freezeHolders (c : Nat) (d : Dev) : Dev :=
  let out := (blocksOn d c).filter fun e => blockFrozen d e.2
  let ss := (out.filterMap fun e => e.2.use.session?).eraseDups
  let ls := (out.filterMap fun e => e.2.use.lining?).eraseDups
  forEach ls (fun l d => degradeLining l 4 d) (forEach ss (fun s d => suspend s 2 d) d)
/-- DMC_FRZ_CAUSE. -/
def frzCauseWord (r : FreezeRec) : Nat :=
  r.cause % 8 + 8 + b2n r.srFail * 16 + r.subch % 2 * 32 + min r.queued.length 64 * 256 + r.requester % 256 * 65536
/-- The freeze registers take the record (R318 step 2). -/
def recordFreeze (c : Nat) (r : FreezeRec) (d : Dev) : Dev :=
  let d1 := pairSet (Reg.dmcFrzTimeHi.at c) (Reg.dmcFrzTimeLo.at c) d.tbs.ns
    (pairSet (Reg.dmcFrzAddrHi.at c) (Reg.dmcFrzAddrLo.at c) (r.addr % 2 ^ 64)
      (regSet (Reg.dmcFrzCause.at c) (frzCauseWord r) d))
  forEach (List.range 4) (fun k d => regSet (Reg.dmcFrzSyn.at (4 * c + k)) (bits r.syndrome (32 * k) 32) d) d1
/-- The mirrored reads among the requests a frozen controller completed (R342): those queued, and the failing read of causes
1 and 2 where its line is mirrored. -/
def frozenReads (d : Dev) (c : Nat) (r : FreezeRec) : Nat :=
  let q := (r.queued.take 64).filter fun w => bit w 30 && !bit w 29
  let mine := (r.cause == 1 || r.cause == 2) && decide (r.requester < 0x63) && (blocksOn d c).any fun e =>
    isMirrored e.2.pool && decide (e.2.off * 4096 ≤ r.addr) && decide (r.addr < e.2.off * 4096 + blockSize (e.2.pool % 8))
  q.length + b2n mine
/-- A channel freezes (R318, R319, R342, R344). -/
def freezeChannel (c : Nat) (r : FreezeRec) (d : Dev) : Dev :=
  let reads := frozenReads d c r
  let d1 := recordFreeze c r d
  let d2 := setChan c { chan d1 c with
    helper := 0, action := 0, stage := 0, running := 0, goal := 0, waits := false, padHeld := false, postponed := [],
    captured := r.queued.take 64, scrubbing := false } d1
  let d3 := objCount 32 0x5103 c 1 (setChanState c 5 d2)
  let d4 := pairFreeze c reads d3
  let d5 := level (16 + c) 0x0040 (freezeSeverity d4 c) c (r.cause % 8 + r.addr % 2 ^ 41 * 8) (raise 7 d4)
  freezeHolders c d5
/-- A failed compare after self-refresh freezes the channel with cause 5 (R316): the manual gives its access no address and no
syndrome (log 3). -/
def freezeCompare (c : Nat) (d : Dev) : Dev :=
  let a := freeBits 41 d
  let d1 := freeNext d
  let y := freeBits 128 d1
  let d2 := freeNext d1
  let q := freeBits 8 d2
  freezeChannel c { cause := 5, addr := a, syndrome := y, requester := q } (freeNext d2)

/-! ## Damaged blocks (R345) -/

/-- The damaged blocks of a channel that returns: the unmirrored block that holds the freeze address; with SR_FAIL all of
them. -/
def damagedKeys (d : Dev) (c : Nat) : List Nat :=
  let a := pairGet d (Reg.dmcFrzAddrHi.at c) (Reg.dmcFrzAddrLo.at c)
  let sr := fld d (Reg.dmcFrzCause.at c) 4 1 == 1
  (d.wrd.blocks.filter fun e => e.2.chan == c && !isMirrored e.2.pool && !e.2.quarantined &&
    (sr || (decide (e.2.off * 4096 ≤ a) && decide (a < e.2.off * 4096 + blockSize (e.2.pool % 8))))).map (·.1)
/-- One of the retained frames and the frames in progress of a stream lies in a damaged reference block: which, the manual
does not tie to a block (log 3). It is INVALID, whatever its state. -/
def damageFrame (sid : Nat) (d : Dev) : Dev :=
  let x := stream d sid
  let all := retained x ++ (x.frames.filterMap fun f => f.count)
  match all[freeBits 16 d % max all.length 1]? with
  | none => freeNext d
  | some c => updPast sid c (fun p => { p with st := 3, damaged := true }) (freeNext d)
/-- A packet whose bytes lay in a damaged block is unrecoverable at every destination (R180, R345). -/
def damagePacket (s i : Nat) (d : Dev) : Dev :=
  let es := ((pktAt d s i).copies.filter fun c => !c.received).map (·.e)
  updPkt s i (fun p => { p with stored := false }) (forEach es (fun e d => unrecoverable s i e d) d)
/-- Which packets of a list lay in the block: a free value for each (log 3). -/
def damagePackets (s : Nat) : List Nat → Dev → Dev
  | [], d => d
  | i :: t, d => damagePackets s t (if freeBits 1 d = 1 then damagePacket s i (freeNext d) else freeNext d)
/-- The packets of a destination queue that lay in the block leave it unsent (log 3). -/
def damageQueue (s e : Nat) : List Pkt → Dev → Dev
  | [], d => d
  | k :: t, d =>
    if freeBits 1 d = 1 then
      damageQueue s e t (unrecoverable s k.seq e
        (updDest s e (fun x => { x with queue := x.queue.filter fun y => y.seq != k.seq }) (freeNext d)))
    else damageQueue s e t (freeNext d)
/-- The data of a damaged block is lost (R345). -/
def damageData (key : Nat) (u : Use) (d : Dev) : Dev :=
  match u with
  | .recon s _ | .coarse s _ => damageFrame (liveSid s) d
  | .mezzRecon s _ | .mezzCoarse s _ => damageFrame (mezzSid s) d
  | .liningRecon l _ | .liningCoarse l _ => damageFrame (liningSid l) d
  | .save s => updStream (liveSid s) (fun x => { x with copies := x.copies.map fun e => (e.1, { e.2 with ok := false }) }) d
  | .intake s => setSess s { sess d s with src := [] } d
  | .store s => damagePackets s ((((sess d s).pkts.filter fun e => e.2.stored)).map (·.1)) d
  | .queue s e => damageQueue s e (dest d s e).queue d
  | .capture s =>
    match (sess d s).ring with
    | none => d
    | some r => setSess s { sess d s with
        ring := some { r with blocks := r.blocks.map fun b => if b.key = key then { b with entries := [], used := 64 } else b } } d
  | .mirrorStore s => setSess s { sess d s with kept := [] } d
  | _ => d
/-- A capture ring names the block that replaced one of its own. -/
def renameRing (s old new : Nat) (d : Dev) : Dev :=
  match (sess d s).ring with
  | none => d
  | some r => setSess s { sess d s with ring := some { r with
      blocks := r.blocks.map (fun b => if b.key = old then { b with key := new } else b)
      free := r.free.map fun k => if k = old then new else k } } d
/-- The tenant's library holds a damaged block: a library event (R345, R385). -/
def damageLibrary (t e : Nat) (d : Dev) : Dev := postEvent t 6 2 0 e 0 d
/-- One damaged block (R345): of KIND 0 it is replaced and quarantined; of KIND 1, or in a library entry, it stays with zeroed
contents and is reported. -/
def damageBlock (key : Nat) (d : Dev) : Dev :=
  match blockAt d key with
  | none => d
  | some b =>
    let d1 := forgetBytes b d
    match b.use with
    | .command =>
      let d2 := setWrd { d1.wrd with blocks := tabSet d1.wrd.blocks key { b with damaged := true } } d1
      if b.owner < 256 then postEvent b.owner 1 11 0 0xFFFF b.pool d2 else d2
    | .library t e =>
      damageLibrary t e (setWrd { d1.wrd with blocks := tabSet d1.wrd.blocks key { b with damaged := true } } d1)
    | u =>
      let d2 := damageData key u d1
      let d3 := nextGen key (setWrd { d2.wrd with
        blocks := tabSet d2.wrd.blocks key { b with damaged := true, quarantined := true } } d2)
      let d4 := match u.session? with
        | some s => postTenant s 1 11 0 s b.pool d3
        | none => d3
      match allocBlock b.pool b.owner u d4 with
      | some (k, d5) => (match u with
        | .capture s => renameRing s key k d5
        | _ => d5)
      | none => setWrd { d4.wrd with wanted := d4.wrd.wanted ++ [(b.pool, b.owner, u)] } d4
/-- A frozen channel returns to service (R320, R343, R345): damaged blocks first, then state 3, then its pair. -/
def channelReturn (c : Nat) (d : Dev) : Dev :=
  let keys := damagedKeys d c
  let d1 := forEach keys damageBlock d
  let d2 := setChan c { chan d1 c with action := 0, scrubLine := 0, scrubbing := false } (setChanState c 3 d1)
  let d3 := levelEnd (16 + c) 0x0040 c d2
  powerSettle d3.tbs.ns (pairReturn c d3)
/-- A channel leaves service for good (R310, R320, R343): state 6 or 7, its domain off. -/
def channelGone (c st : Nat) (d : Dev) : Dev :=
  let d1 := setChan c { chan d c with helper := 0, action := 0, stage := 0, running := 0, goal := 0, waits := false } d
  let d2 := levelEnd (16 + c) 0x0040 c (setChanState c st d1)
  powerSettle d2.tbs.ns (pairGone c d2)

end Sys2Proof.Machine
end

