-- ==== Sys2Proof/Machine/Dram.lean ====
section
/-! DEFINITION. The commands of the DRAM controllers (12: R307 to R320). -/
namespace Sys2Proof.Machine

/-! ## Training (R307 to R311) -/

/-- Is the step of R426 that holds start reached: R310, with the setting that held at start-up? -/
def startHeld (d : Dev) : Bool :=
  let pop := (List.range 16).filter fun c => chanState d c != 0
  let bad := pop.filter fun c => chanState d c == 7
  !pop.isEmpty && pop.all (fun c => chanState d c != 1 && chanState d c != 2) &&
    (bad.length == pop.length || (!bad.isEmpty && !d.pwr.degraded))
/-- Once every channel has trained or failed, a start that is held is recorded (R310). -/
def trainingOver (was : Bool) (d : Dev) : Dev :=
  if startHeld d && !was && decide (objGet d 0x1C01 0 < 9) then
    let c := ((List.range 16).filter fun c => chanState d c == 7).headD 0
    pulse 1 0x0043 3 c (byteAt (objGet d 0x1804 c) 0) (objSet 0x1C01 0 10 d)
  else d
/-- The record 0x1804:c. -/
def trnRecord (r : TrnResult) (ms : Nat) : Nat :=
  r.cause % 256 + r.step % 256 * 2 ^ 8 + min ms 65535 * 2 ^ 16 + r.window % 256 * 2 ^ 32 + r.lane % 256 * 2 ^ 40
/-- How long the training of a channel has taken, in ms. -/
def trnMs (d : Dev) (c : Nat) : Nat := (d.tbs.ns - (chan d c).trainStart) / 1000000
/-- A channel fails its training (R310): state 7, its domain off, the cause recorded as a fault. -/
def trainFail (c : Nat) (r : TrnResult) (d : Dev) : Dev :=
  let d1 := objSet 0x1804 c (trnRecord r (trnMs d c)) d
  let d2 := channelGone c 7 (setFld (Reg.dmcTrnStat.at c) 0 1 0 d1)
  trainingOver (startHeld d) (pulse 1 0x0043 3 c r.cause d2)
/-- The codes of a write of DMC_TRN_CTRL (R308): fields out of range; GO while an operation runs; FINISH outside training. -/
def trnErrs (c v : Nat) (d : Dev) : List Err :=
  earned [(decide (4 < bits v 0 3) || decide (4 < bits v 6 3) || bits v 9 2 == 0 || decide (max 1 (chanRanks d) ≤ bits v 3 3), .range),
    (bit v 11 && (chan d c).helper != 0, .busy),
    (bit v 12 && chanState d c != 2, .state)]
/-- A write of a training register: the management controller's alone (R307), dropped with the lowest code it earns. -/
def trnWrite (who : Caller) (key : Nat) (errs : Dev → List Err) (f : Dev → Dev) (d : Dev) : Dev :=
  regGate who key false (fun d =>
    if who != .firmware then regDrop who key .access d
    else match lowest (errs d) with
      | some e => regDrop who key e d
      | none => f d) d
/-- A helper operation starts (R308). -/
def helperStart (c v : Nat) (d : Dev) : Dev :=
  setFld (Reg.dmcTrnStat.at c) 0 1 1
    (setChan c { chan d c with helper := bits v 0 3 }
      (mend (Reg.dmcTrnCtrl.at c) (regSet (Reg.dmcTrnCtrl.at c) (v % 2 ^ 28 - bits v 11 2 * 2 ^ 11) d)))
/-- A write that starts operation `op`. -/
def helperGo (who : Caller) (c op value now : Nat) (s : State) : Host.Outcome State Fault Refusal :=
  let v := setBits (setBits (value % 2 ^ 32) 0 3 op) 11 2 1
  actOn (isChan c) (fun d => trnWrite who (Reg.dmcTrnCtrl.at c) (trnErrs c v) (helperStart c v) (atTime now d)) s
/-- TRN_WRITE_PATTERN (R308). -/
def execTrnWritePattern (who : Caller) (chan value now : Nat) (s : State) : Host.Outcome State Fault Refusal :=
  helperGo who chan 1 value now s
/-- TRN_READ_COMPARE (R308). -/
def execTrnReadCompare (who : Caller) (chan value now : Nat) (s : State) : Host.Outcome State Fault Refusal :=
  helperGo who chan 2 value now s
/-- TRN_WRITE_READ_COMPARE (R308). -/
def execTrnWriteReadCompare (who : Caller) (chan value now : Nat) (s : State) : Host.Outcome State Fault Refusal :=
  helperGo who chan 3 value now s
/-- TRN_CA_LOOPBACK (R308). -/
def execTrnCaLoopback (who : Caller) (chan value now : Nat) (s : State) : Host.Outcome State Fault Refusal :=
  helperGo who chan 4 value now s
/-- A helper operation ends (R308): a compare leaves its fail mask, its error count and PASS; `fail` is firmware's verdict on
the step (R309), should the channel fail with it. -/
def helperDone (c m0 m1 m2 errs : Nat) (fail : Option TrnResult) (d : Dev) : Dev :=
  let op := (chan d c).helper
  if op = 0 then d
  else
    let d1 := setChan c { chan d c with helper := 0 } d
    let d2 := if op = 1 then setFld (Reg.dmcTrnStat.at c) 0 1 0 d1
      else
        regSet (Reg.dmcTrnStat.at c) (b2n (errs == 0) * 2 + min errs 65535 * 2 ^ 16)
          (regSet (Reg.dmcTrnFail.at (3 * c)) (m0 % 2 ^ 32) (regSet (Reg.dmcTrnFail.at (3 * c + 1)) (m1 % 2 ^ 32)
            (regSet (Reg.dmcTrnFail.at (3 * c + 2)) (m2 % 2 ^ 16) d1)))
    match fail with
    | some r => if chanState d2 c = 2 then trainFail c r d2 else d2
    | none => d2
/-- HELPER_OP_DONE (R308). -/
def execHelperOpDone (chan m0 m1 m2 errs : Nat) (fail : Option TrnResult) (now : Nat) (s : State) :
    Host.Outcome State Fault Refusal :=
  actOn (isChan chan) (fun d => helperDone chan m0 m1 m2 errs fail (atTime now d)) s
/-- Both channels of a pair are trained at start-up: its mirrored frames exist (R341). -/
def pairTrained (c : Nat) (d : Dev) : Dev :=
  if pairState d (c / 2) = 5 && inService d c && inService d (partnerChan c) then setPairState (c / 2) 0 {} d else d
/-- A channel's training ends (R309, R310, R320): a retrained channel returns to service. -/
def trainFinish (c : Nat) (r : TrnResult) (d : Dev) : Dev :=
  let was := startHeld d
  let d1 := objSet 0x1804 c (trnRecord { r with cause := 0 } (trnMs d c)) (setChan c { chan d c with helper := 0 } d)
  if (chan d c).action = 2 then channelReturn c d1
  else powerSettle d1.tbs.ns (trainingOver was (pairTrained c (setChanState c 3 d1)))
/-- TRN_FINISH (R309): FINISH is refused outside state 2. -/
def execTrnFinish (who : Caller) (chan : Nat) (r : TrnResult) (now : Nat) (s : State) : Host.Outcome State Fault Refusal :=
  actOn (isChan chan) (fun d => trnWrite who (Reg.dmcTrnCtrl.at chan)
    (fun d => earned [(chanState d chan != 2, .state)]) (fun d => trainFinish chan r (mend (Reg.dmcTrnCtrl.at chan) d))
    (atTime now d)) s
/-- TRAINING_TIMEOUT (R310): 3.0 s after its start. -/
def trainTimeLimit (c : Nat) (d : Dev) : Dev :=
  if chanState d c = 2 && decide ((chan d c).trainStart + 3000000000 ≤ d.tbs.ns) then trainFail c { cause := 6 } d else d
/-- TRAINING_TIMEOUT (R310). -/
def execTrainingTimeout (chan now : Nat) (s : State) : Host.Outcome State Fault Refusal :=
  actOn (isChan chan) (fun d => trainTimeLimit chan (atTime now d)) s

/-! ## Refresh (R312, R313) -/

/-- Does the controller send commands to its ranks: in training or service, not in self-refresh? -/
def chanActive (d : Dev) (c : Nat) : Bool := chanState d c == 2 || chanState d c == 3
/-- DRAM_REFRESH (R312): the refresh is postponed while the read queue holds requests, at most 4 times; otherwise it is issued
with every postponed one. -/
def dramRefresh (c rank : Nat) (busy : Bool) (d : Dev) : Dev :=
  if chanActive d c && decide (rank < chanRanks d) then
    let n := tabGet 0 (chan d c).postponed rank
    setChan c { chan d c with postponed := tabPut 0 (chan d c).postponed rank (if busy && decide (n < 4) then n + 1 else 0) } d
  else d
/-- DRAM_REFRESH (R312). -/
def execDramRefresh (chan rank : Nat) (busy : Bool) (now : Nat) (s : State) : Host.Outcome State Fault Refusal :=
  actOn (isChan chan) (fun d => dramRefresh chan rank busy (atTime now d)) s
/-- MODE_REGISTER_POLL (R313): `need` is 0 normal, 1 the doubled rate, 2 above its range. -/
def modePoll (c rank need : Nat) (d : Dev) : Dev :=
  if chanActive d c && decide (rank < chanRanks d) then
    let d1 := setChan c { chan d c with temp := tabPut 0 (chan d c).temp rank need } d
    if 2 ≤ need then pulse (16 + c) 0x0042 0 (c + 256 * rank) 0 (raise 6 d1) else d1
  else d
/-- MODE_REGISTER_POLL (R313). -/
def execModeRegisterPoll (chan rank need now : Nat) (s : State) : Host.Outcome State Fault Refusal :=
  actOn (isChan chan) (fun d => modePoll chan rank need (atTime now d)) s

/-! ## Self-refresh (R314 to R316) -/

/-- SELF_REFRESH_REQUEST (R314): the power controller asks for a further stage, and none runs. -/
def refreshRequest (c : Nat) (d0 : Dev) : Dev :=
  let d := powerSettle d0.tbs.ns d0
  let x := chan d c
  let goal := if d.flt.safe then max 1 x.stage else x.goal
  if (chanState d c == 3 || chanState d c == 4) && x.running == 0 && !x.waits && decide (x.stage < goal) then
    setChan c { x with running := x.stage + 1, goal := goal } d
  else d
/-- SELF_REFRESH_REQUEST (R314). -/
def execSelfRefreshRequest (chan now : Nat) (s : State) : Host.Outcome State Fault Refusal :=
  actOn (isChan chan) (fun d => refreshRequest chan (atTime now d)) s
/-- The controller leaves self-refresh (R316): after stage 2 or 3 only if the compare of the training area passes. -/
def refreshExit (c : Nat) (pass : Bool) (d : Dev) : Dev :=
  let x := chan d c
  let d1 := setChan c { x with stage := 0, running := 0, waits := false } d
  if 2 ≤ x.stage && !pass then powerSettle d.tbs.ns (freezeCompare c d1)
  else powerSettle d.tbs.ns (setChanState c 3 d1)
/-- A stage of entry completes (R314): 1 issues self-refresh entry, 3 latches the pads, after which the domain goes off. -/
def stageDone (c : Nat) (d : Dev) : Dev :=
  let x := chan d c
  let d1 := setChan c { x with
    stage := x.running, running := 0, postponed := [], padHeld := x.padHeld || x.running == 3 } d
  powerSettle d.tbs.ns (if x.running = 1 then setChanState c 4 d1 else d1)
/-- SELF_REFRESH_STAGE (R314, R315): the stage that runs completes; with none running, the channel exits if it is wanted and its
pads are free. -/
def refreshStage (c : Nat) (pass : Bool) (d0 : Dev) : Dev :=
  if (chan d0 c).running ≠ 0 then stageDone c d0
  else
    let d := powerSettle d0.tbs.ns d0
    let x := chan d c
    if chanState d c = 4 && (x.goal = 0 || x.waits) && !d.flt.safe && !x.padHeld && domOn d (96 + c) then refreshExit c pass d
    else d
/-- SELF_REFRESH_STAGE (R314). -/
def execSelfRefreshStage (chan : Nat) (pass : Bool) (now : Nat) (s : State) : Host.Outcome State Fault Refusal :=
  actOn (isChan chan) (fun d => refreshStage chan pass (atTime now d)) s
/-- DRAM_REQUEST_IN_SELF_REFRESH (R315): before entry is issued the entry is aborted and counted; later the request waits for
the exit, and holds the channel out of self-refresh until it completes. -/
def requestInRefresh (c : Nat) (d : Dev) : Dev :=
  let x := chan d c
  if chanState d c = 3 && x.running = 1 then
    powerSettle d.tbs.ns (objCount 32 0x5102 c 1 (setChan c { x with running := 0 } d))
  else if chanState d c = 4 then powerSettle d.tbs.ns (setChan c { x with waits := true } d)
  else d
/-- DRAM_REQUEST_IN_SELF_REFRESH (R315). -/
def execDramRequestInSelfRefresh (chan now : Nat) (s : State) : Host.Outcome State Fault Refusal :=
  actOn (isChan chan) (fun d => requestInRefresh chan (atTime now d)) s
/-- PAD_RELEASE (R316, R493): ignored while no pads are held or the domain is off; the controller then exits. -/
def padRelease (c : Nat) (pass : Bool) (d : Dev) : Dev :=
  let x := chan d c
  if x.padHeld && domOn d (96 + c) then
    let d1 := setChan c { x with padHeld := false } d
    if chanState d c = 4 then refreshExit c pass d1 else d1
  else d
/-- PAD_RELEASE of DMC_CHAN_CTRL (R316). -/
def execPadRelease (who : Caller) (chan : Nat) (pass : Bool) (now : Nat) (s : State) : Host.Outcome State Fault Refusal :=
  actOn (isChan chan) (fun d => regGate who (Reg.dmcChanCtrl.at chan) false (padRelease chan pass) (atTime now d)) s

/-! ## Freeze and release (R317 to R320) -/

/-- CHANNEL_FREEZE (R317, R318): a channel in service freezes. -/
def execChannelFreeze (chan : Nat) (r : FreezeRec) (now : Nat) (s : State) : Host.Outcome State Fault Refusal :=
  actOn (isChan chan) (fun d0 =>
    let d := atTime now d0
    if inService d chan then freezeChannel chan r d else d) s
/-- ALERT_REPLAY (R317): a parity or CRC alert whose replay did not recur. -/
def execAlertReplay (chan now : Nat) (s : State) : Host.Outcome State Fault Refusal :=
  actOn (isChan chan) (fun d0 =>
    let d := atTime now d0
    if chanActive d chan then pulse (16 + chan) 0x0041 0 chan 0 (objCount 32 0x5101 chan 1 d) else d) s
/-- The codes of an action (R320). -/
def chanActionErrs (c a : Nat) (d : Dev) : List Err :=
  let st := chanState d c
  earned [(a == 0 || decide (3 < a), .range),
    ((a == 1 || a == 2) && st != 5, .state), (a == 3 && st != 5 && st != 7, .state),
    (a == 1 && st == 5 && fld d (Reg.dmcFrzCause.at c) 4 1 == 1, .conflict),
    ((chan d c).action != 0, .busy)]
/-- An action is accepted, and runs. -/
def chanActionAct (c a : Nat) (d : Dev) : Dev := setChan c { chan d c with action := a } d
/-- CHANNEL_RESUME (R316, R320): the action of that name exits and checks; a failed check freezes the channel again. -/
def channelResume (c : Nat) (pass : Bool) (d : Dev) : Dev :=
  if chanState d c = 5 && (chan d c).action = 1 then
    if pass then channelReturn c d else freezeCompare c (levelEnd (16 + c) 0x0040 c d)
  else d
/-- CHANNEL_RESUME (R320). -/
def execChannelResume (chan : Nat) (pass : Bool) (now : Nat) (s : State) : Host.Outcome State Fault Refusal :=
  actOn (isChan chan) (fun d => channelResume chan pass (atTime now d)) s
/-- CHANNEL_RETRAIN (R320): the action of that name puts the channel in training under R309. -/
def channelRetrain (c : Nat) (d : Dev) : Dev :=
  if chanState d c = 5 && (chan d c).action = 2 then
    setChanState c 2 (levelEnd (16 + c) 0x0040 c (setChan c { chan d c with trainStart := d.tbs.ns, helper := 0 } d))
  else d
/-- CHANNEL_RETRAIN (R320). -/
def execChannelRetrain (chan now : Nat) (s : State) : Host.Outcome State Fault Refusal :=
  actOn (isChan chan) (fun d => channelRetrain chan (atTime now d)) s
/-- CHANNEL_OFF (R320, R343): the action of that name turns the domain off; state 6 until cold reset. -/
def channelOff (c : Nat) (d : Dev) : Dev :=
  if (chanState d c = 5 || chanState d c = 7) && (chan d c).action = 3 then channelGone c 6 d else d
/-- CHANNEL_OFF (R320). -/
def execChannelOff (chan now : Nat) (s : State) : Host.Outcome State Fault Refusal :=
  actOn (isChan chan) (fun d => channelOff chan (atTime now d)) s
/-- DMC_CORR_CLR (R322). -/
def execDmcCorrClr (who : Caller) (chan : Nat) (s : State) : Host.Outcome State Fault Refusal :=
  actOn (isChan chan) (regGate who (Reg.dmcChanCtrl.at chan) false (regSet (Reg.dmcCorrCnt.at chan) 0)) s

/-! ## Registers -/

/-- DMC_CHAN_STAT[c]; the requests queued are not kept in the model (log 26). -/
def dmcChanStat (d : Dev) (c : Nat) : Nat :=
  let x := chan d c
  chanState d c + b2n (fld d (Reg.dmcFrzCause.at c) 4 1 == 1) * 2 ^ 3 + b2n x.padHeld * 2 ^ 4 +
    b2n (x.temp.any fun e => decide (1 ≤ e.2)) * 2 ^ 5 + b2n (x.action != 0) * 2 ^ 6
/-- DMC_FRZ_QENT[c]. -/
def frzQent (d : Dev) (c : Nat) : Nat :=
  match (chan d c).captured[fld d (Reg.dmcFrzQsel.at c) 0 6]? with
  | none => 0
  | some w => w % 2 ^ 31 + 2 ^ 31
/-- 0x1822:c, the freeze record (R322). -/
def freezeObj (d : Dev) (c : Nat) : Nat :=
  regGet d (Reg.dmcFrzCause.at c) + pairGet d (Reg.dmcFrzAddrHi.at c) (Reg.dmcFrzAddrLo.at c) * 2 ^ 32 +
    pairGet d (Reg.dmcFrzTimeHi.at c) (Reg.dmcFrzTimeLo.at c) * 2 ^ 96 +
    sumBy (fun k => regGet d (Reg.dmcFrzSyn.at (4 * c + k)) * 2 ^ (160 + 32 * k)) (List.range 4)

end Sys2Proof.Machine
end

