-- ==== Sys2Proof/Machine/Wardrobe.lean ====
section
/-! DEFINITION. The commands of the Wardrobe (13: R332, R336 to R346). -/
namespace Sys2Proof.Machine

/-! ## Block commands (R332) -/

/-- The owner a block command acts for: a tenant, or the physical function (256) for 0x1815:0. -/
def blockOwner (idx sub : Nat) : Nat := if idx = 0x1815 then 256 else sub
/-- The object that a block command is written to: 0x2012 at a tenant slot, or, above 255, the physical function's 0x1815:0. -/
def blockObj (sub : Nat) : Nat × Nat := if sub < 256 then (0x2012, sub) else (0x1815, 0)
/-- The object its result goes to. -/
def blockResult (idx : Nat) : Nat := if idx = 0x1815 then 0x1816 else 0x2013
/-- The codes of an allocation, in table order (R332). -/
def allocateErrs (owner : Nat) (v : Payload) (d : Dev) : List Err :=
  let k := byteAt v.val 1
  (if v.len != 16 then [.type] else []) ++
  firstOf [(decide (15 < k) || bytesAt v.val 2 6 != 0, .range),
    (decide (owner < 256) && decide (objGet d (0x2020 + k) owner ≤ blocksHeld d owner k), .quota),
    (decide (8 ≤ k) && isDense d, .conflict),
    ((placeBlock d k).isNone, .capacity)]
/-- The block is allocated; its handle is published with the tag in one write. -/
def allocateAct (idx sub : Nat) (v : Payload) (d : Dev) : Dev :=
  match allocBlock (byteAt v.val 1) (blockOwner idx sub) .command d with
  | none => d
  | some (k, d1) => objSet (blockResult idx) sub (bytesAt v.val 8 8 + handleOf d1 k * 2 ^ 64) d1
/-- BLOCK_ALLOCATE (R332). -/
def blockAllocate (q : Req) (sub : Nat) (v : Payload) (d : Dev) : Dev :=
  let o := blockObj sub
  perform q o.1 o.2 (allocateErrs (blockOwner o.1 o.2) v) (allocateAct o.1 o.2 v) d
/-- BLOCK_ALLOCATE (R332): a sub-index above 255 stands for the physical function's own command. -/
def execBlockAllocate (q : Req) (sub : Nat) (v : Payload) (s : State) : Host.Outcome State Fault Refusal :=
  act (blockAllocate q sub v) s
/-- Does an accepted descriptor use the block (R332)? Splices, exports and Decode sessions use blocks of library entries, which
are of KIND 0. -/
def blockInUse (d : Dev) (h : Nat) : Bool :=
  d.dmaCh.any fun e => match e.2.run with
    | none => false
    | some r => (r.d.opcode == 1 || r.d.opcode == 2 || r.d.opcode == 6) && r.d.target == h
/-- The codes of a free command, in table order (R332). -/
def freeErrs (owner : Nat) (v : Payload) (d : Dev) : List Err :=
  let h := bytesAt v.val 8 8
  (if v.len != 16 then [.type] else []) ++
  firstOf [(bytesAt v.val 1 7 != 0, .range), (!handleOk d owner h true, .integrity), (blockInUse d h, .busy)]
/-- BLOCK_FREE (R332): a handle that fails its checks is counted (R329). -/
def blockFree (q : Req) (sub : Nat) (v : Payload) (d : Dev) : Dev :=
  let o := blockObj sub
  let w := blockOwner o.1 o.2
  let h := bytesAt v.val 8 8
  decideWrite q o.1 o.2 (freeErrs w v)
    (fun e d0 => let d1 := refuse q o.1 o.2 e d0; if e = .integrity then handleRefused w h d1 else d1)
    (fun d0 => accept q o.1 o.2 (releaseBlock (handleKey h) d0)) d
/-- BLOCK_FREE (R332). -/
def execBlockFree (q : Req) (sub : Nat) (v : Payload) (s : State) : Host.Outcome State Fault Refusal :=
  act (blockFree q sub v) s

/-! ## The initialisation fill (R336 to R338) -/

/-- FILL of WRD_CHAN_STAT[c]: 0 not filled, 1 filling, 2 filled. -/
def fillState (d : Dev) (c : Nat) : Nat := fld d (Reg.wrdChanStat.at c) 0 2
/-- The fill descriptor of a DRAM channel: the frame at its fill mark (R336). -/
def fillDesc (d : Dev) (c : Nat) : Desc := { opcode := 7, target := fillMark d c, length := 1073741824 }
/-- FILL (R336, R375): firmware's descriptor for the next frame of a trained channel starts on DMA channel c. -/
def fillStart (c : Nat) (d : Dev) : Dev :=
  if d.pwr.booted && inService d c && fillState d c != 2 && chanIdle d c && decide (fillMark d c < chanCapacity d) then
    setFld (Reg.wrdChanStat.at c) 0 2 1
      (setDmaChan c { dmaChan d c with run := some { d := fillDesc d c, fn := 257, sq := 0 } } d)
  else d
/-- FILL (R375): channels 0 to 15 only. -/
def execFill (chan now : Nat) (s : State) : Host.Outcome State Fault Refusal :=
  actOn (isChan chan) (fun d => fillStart chan (atTime now d)) s
/-- FILL_FRAME_DONE (R336): the mark passes the frame; after the last one the channel is filled. -/
def fillDone (c : Nat) (d : Dev) : Dev :=
  match (dmaChan d c).run with
  | none => d
  | some r =>
    if r.d.opcode != 7 || r.ended then d
    else
      let m := fillMark d c + 1073741824
      let key := Reg.wrdChanStat.at c
      let full := decide (chanCapacity d ≤ m)
      let d1 := setDmaChan c { dmaChan d c with run := none, done := (dmaChan d c).done + 1 } (objSet 0x1811 c m d)
      regSet key (setBits (setBits (regGet d1 key) 0 2 (if full then 2 else 1)) 2 7 (min 100 (100 * m / max 1 (chanCapacity d)))) d1
/-- FILL_FRAME_DONE (R336). -/
def execFillFrameDone (chan now : Nat) (s : State) : Host.Outcome State Fault Refusal :=
  actOn (isChan chan) (fun d => fillDone chan (atTime now d)) s

/-! ## Injected errors (R346) -/

/-- The codes of a write of WRD_FLIP_CTRL[k]. -/
def flipErrs (k v : Nat) (d : Dev) : List Err :=
  earned [(decide ((if k = 0 then 624 else 56) < bits v 2 10), .range),
    ((k == 0 && decide (15 < bits v 12 7)) || (k == 2 && decide (95 < bits v 12 7)), .range),
    (bit v 0 && bit (regGet d (Reg.wrdFlipCtrl.at k)) 0, .busy)]
/-- A write of WRD_FLIP_CTRL[k]. -/
def flipWrite (who : Caller) (k v : Nat) (d : Dev) : Dev :=
  match lowest (flipErrs k v d) with
  | some e => regDrop who (Reg.wrdFlipCtrl.at k) e d
  | none => mend (Reg.wrdFlipCtrl.at k) (regSet (Reg.wrdFlipCtrl.at k) (v % 2 ^ 19) d)
/-- FLIP_ARM (R346): a write with ARM set. -/
def execFlipArm (who : Caller) (k value now : Nat) (s : State) : Host.Outcome State Fault Refusal :=
  actOn (decide (k < 4)) (fun d =>
    regGate who (Reg.wrdFlipCtrl.at k) false (flipWrite who k (setBits (value % 2 ^ 32) 0 1 1)) (atTime now d)) s
/-- The devices in which a flip of a DRAM line inverts bits: codeword bit 40 b + l lies in device l / 4 (R335). -/
def flipDevices (f : Flipped) : List Nat :=
  (((List.range 16).filter fun i => bit f.mask i).map fun i => (f.offset + i) % 40 / 4).eraseDups
/-- What reading a flipped line finds (R335): 0 nothing, 1 corrected, 2 uncorrectable, 3 another address. -/
def flipOutcome (f : Flipped) : Nat :=
  if f.addr then 3 else match flipDevices f with
    | [] => 0
    | [_] => 1
    | _ => 2
/-- The flip that lies on a line of a channel. -/
def lineFlip (d : Dev) (c line : Nat) : Option Flipped :=
  d.wrd.flipped.find? fun f => f.cls == 0 && f.unit == c && f.place == line
/-- What a read of a line finds: what its flip gives, else what the event says. -/
def lineOutcome (d : Dev) (c line said : Nat) : Nat := ((lineFlip d c line).map flipOutcome).getD said
/-- The line holds what was written again. -/
def clearFlip (c line : Nat) (d : Dev) : Dev :=
  setWrd { d.wrd with flipped := d.wrd.flipped.filter fun f => !(f.cls == 0 && f.unit == c && f.place == line) } d

/-! ## Scrubbing (R339, R340) -/

/-- Does the scrubber of a channel run (R339)? -/
def scrubs (d : Dev) (c : Nat) : Bool := objNow d 0x1812 0 == 1 && chanState d c == 3 && fillState d c == 2
/-- A lap ends (R340): its time in ms, the greatest one, and a late lap's fault. -/
def lapEnd (c : Nat) (d : Dev) : Dev :=
  let ms := min ((d.tbs.ns - (chan d c).lapStart) / 1000000) 0xFFFFFFFF
  let hw := Reg.wrdScrubLapHwm.at c
  let d1 := regSet hw (max (regGet d hw) ms) (regSet (Reg.wrdScrubLap.at c) ms d)
  let d2 := setChan c { chan d1 c with scrubLine := 0, scrubbing := false } d1
  if objGet d 0x1813 0 < ms then pulse 9 0x0044 0 c 0 (setFld (Reg.wrdChanStat.at c) 10 1 1 d2) else d2
/-- A corrected read is counted (R335). -/
def countCorrected (c : Nat) (d : Dev) : Dev := objCount 64 0x5100 c 1 (regCount (Reg.dmcCorrCnt.at c) 1 d)
/-- SCRUB_READ (R339): the next line, at most one in 64 ns; a corrected line is written back, any other error freezes the
channel. `said` is 0 no error, 1 corrected, 2 uncorrectable, 3 another address. -/
def scrubRead (c said syndrome : Nat) (d : Dev) : Dev :=
  let x := chan d c
  if !scrubs d c || (x.scrubbing && decide (d.tbs.ns < x.lastScrub + 64)) then d
  else
    let d1 := setChan c { x with
      scrubbing := true, lastScrub := d.tbs.ns, scrubLine := x.scrubLine + 1,
      lapStart := if x.scrubbing then x.lapStart else d.tbs.ns } d
    let out := lineOutcome d c x.scrubLine said
    if 2 ≤ out then
      freezeChannel c { cause := out - 1, addr := x.scrubLine * 64, syndrome := syndrome, requester := 0x63, subch := x.scrubLine % 2 } d1
    else
      let d2 := if out = 1 then clearFlip c x.scrubLine (countCorrected c d1) else d1
      if fillMark d c ≤ (x.scrubLine + 1) * 64 then lapEnd c d2 else d2
/-- SCRUB_READ (R339). -/
def execScrubRead (chan outcome syndrome now : Nat) (s : State) : Host.Outcome State Fault Refusal :=
  actOn (isChan chan) (fun d => scrubRead chan outcome syndrome (atTime now d)) s
/-- WRD_LAP_HWM_CLR (R340): every greatest lap and LAP_LATE are cleared. -/
def lapClear (d : Dev) : Dev :=
  forEach (List.range 16) (fun c d => setFld (Reg.wrdChanStat.at c) 10 1 0 (regSet (Reg.wrdScrubLapHwm.at c) 0 d)) d
/-- WRD_LAP_HWM_CLR (R340). -/
def execWrdLapHwmClr (who : Caller) (s : State) : Host.Outcome State Fault Refusal :=
  act (regGate who Reg.wrdCtrl.base false fun d => mend Reg.wrdCtrl.base (lapClear d)) s
/-- SRAM_CORR_CLR (R334). -/
def execSramCorrClr (who : Caller) (s : State) : Host.Outcome State Fault Refusal :=
  act (regGate who Reg.wrdCtrl.base false fun d => mend Reg.wrdCtrl.base (regSet Reg.wrdSramCorr.base 0 d)) s

/-! ## Resilvering (R343) -/

/-- RESILVER_COMPLETE (R343): the copy ends, and the pair is MIRRORED. -/
def resilverComplete (p : Nat) (d : Dev) : Dev :=
  if pairState d p = 3 then
    let d1 := setPairState p 0 {} (regSet (Reg.wrdPairStat.at p) (setBits (regGet d (Reg.wrdPairStat.at p)) 3 7 100) d)
    powerSettle d1.tbs.ns d1
  else d
/-- RESILVER_COMPLETE (R343). -/
def execResilverComplete (pair now : Nat) (s : State) : Host.Outcome State Fault Refusal :=
  actOn (decide (pair < 8)) (fun d => resilverComplete pair (atTime now d)) s

/-- The code of a write of a quota (R331): not below the blocks in use. -/
def poolQuotaErrs (k t v : Nat) (d : Dev) : List Err := if v < blocksHeld d t k then [.conflict] else []

/-! ## Registers -/

/-- WRD_CHAN_STAT[c]. -/
def wrdChanStat (d : Dev) (c : Nat) : Nat :=
  setBits (setBits (regGet d (Reg.wrdChanStat.at c)) 9 1 (b2n (chan d c).scrubbing)) 16 8 (min 255 (quarantinedOn d c))
/-- WRD_PAIR_STAT[p]. -/
def wrdPairStat (d : Dev) (p : Nat) : Nat := setBits (regGet d (Reg.wrdPairStat.at p)) 0 3 (pairState d p)

end Sys2Proof.Machine
end

