-- ==== Sys2Proof/Machine/Reset.lean ====
section
/-! DEFINITION. Resets, firmware boot and start-up (20: R510 to R514; 21: R519, R520; 16: R426; 19: R487; 13: R334, R338). -/
namespace Sys2Proof.Machine

/-! ## What a warm reset keeps -/

/-- The value of a register after a warm reset: sticky fields are kept, every other field takes its reset value (R14). -/
def warmReg (key v : Nat) : Nat :=
  match regRowOf key with
  | none => v
  | some (r, _) =>
    r.flds.foldl (fun a f =>
      a + (if f.acc = .ros || f.acc = .rws then bits v f.lo f.len else f.reset) * 2 ^ f.lo) 0
/-- Every register after a warm reset; TBS_ADJ keeps the addend (R503), and a fill that was completed its mark (R338). -/
def warmRegs (d : Dev) : Dev :=
  forEach (tabKeys d.regs) (fun k d =>
    if k = Reg.tbsAdj.base then d
    else if (List.range 16).any (fun c => k == Reg.wrdChanStat.at c) then
      regSet k (setBits (warmReg k (regGet d k)) 2 7 (fld d k 2 7)) d
    else regSet k (warmReg k (regGet d k)) d) d
/-- Objects that a warm reset returns to their defaults: session slots but for owner and HOLD_N mapping (R57), linings, queues
(R379), the requested package state (R498), the start-up step, the pair share, published handles, and those that show a
register field which is not sticky (R14). -/
def warmDropped (idx : Nat) : Bool :=
  (decide (0x3001 ≤ idx) && decide (idx < 0x5000) && idx != 0x3036) ||
    (decide (0x1120 ≤ idx) && decide (idx ≤ 0x1130)) || (decide (0x2040 ≤ idx) && decide (idx ≤ 0x2043)) ||
    [0x1200, 0x1211, 0x1310, 0x1311, 0x1320, 0x1326, 0x1620, 0x1812, 0x1816, 0x1C01, 0x2013].contains idx
/-- Does a level condition persist through a warm reset (R487): wires, frozen channels, the ring, references, the monitors? -/
def persists (d : Dev) (r : Report) : Bool :=
  decide (r.sev < 4) && ([0x0002, 0x0040, 0x0060, 0x0062, 0x0086, 0x0087, 0x0088, 0x0089].contains r.code ||
    (r.code == 0x0084 && d.pwr.lost.contains r.subject))
/-- The standing bits that levels set again. -/
def standingOf (ls : List Report) : Nat :=
  sumBy (fun k => if ls.any fun r => r.sev == k then 2 ^ k else 0) (List.range 5)
/-- The collector at a warm reset (R487). -/
def warmFlt (d : Dev) : Dev :=
  { d with flt := { d.flt with
      safe := false, selfTest := false, integrity := false, sel := 0, words := 0
      srcs := d.flt.srcs.map fun e =>
        let ls := e.2.levels.filter (persists d)
        (e.1, { e.2 with levels := ls, standing := standingOf ls, wire := e.2.wire && ls.any fun r => r.code == 0x0002 }) } }
/-- Before a warm reset the reports presented are accepted, and every pending latch is written where the log has room (R487,
R511 step 1). -/
def flushFaults (d : Dev) : Dev :=
  let d1 := forEach d.flt.presented (fun r d => acceptAll [r] d) { d with flt := { d.flt with presented := [] } }
  forEach (List.range 139) (fun _ d => logNext d) d1
/-- Is an initial training, or the fill, in progress (R311, R338)? -/
def trainingRuns (d : Dev) : Bool := (List.range 16).any fun c => chanState d c == 2 && (chan d c).action != 2
/-- A channel at a warm reset (R311, R511, R512): a stage of self-refresh completes, a channel in service is in stage 1,
training starts again. -/
def warmChan (again : Bool) (c : Nat) (d : Dev) : Dev :=
  let x := chan d c
  let st := chanState d c
  let stage := max (max x.stage x.running) 1
  let base : Chan := { x with
    helper := 0, postponed := [], temp := [], running := 0, goal := 0, waits := false
    action := if st = 2 then x.action else 0, scrubLine := 0, scrubbing := false }
  if again && (st == 2 || st == 3 || st == 4 || st == 7) then setChanState c 1 (setChan c { base with stage := 0 } d)
  else if st = 3 || st = 4 then
    setChanState c 4 (setChan c { base with stage := stage, padHeld := x.padHeld || stage == 3 } d)
  else if st = 2 then setChan c { base with trainStart := d.tbs.ns } d
  else setChan c base d
/-- Every channel's fill begins anew (R338). -/
def fillAnew (d : Dev) : Dev :=
  forEach (List.range 16) (fun c d => setFld (Reg.wrdChanStat.at c) 0 9 0 (objReset 0x1811 c d)) d
/-- The DRAM at a warm reset: a fill in progress is lost as a whole (R338), a resilver ends with nothing to copy (R512). -/
def warmDram (d : Dev) : Dev :=
  let again := trainingRuns d
  let partly := again || (servingChans d).any fun c => fillState d c != 2
  let d1 := forEach (List.range 16) (warmChan again) d
  let d2 := if partly then fillAnew d1 else d1
  forEach (List.range 8) (fun p d => if pairState d p = 3 then setPairState p 0 {} d else d) d2
/-- Every block is released, library entries included; a damaged one stays in quarantine (R338, R345). -/
def warmBlocks (d : Dev) : Dev :=
  let d1 := forEach (blocksWith d fun _ => true) releaseBlock (setWrd { d.wrd with wanted := [] } d)
  { d1 with mem := [], wrd := { d1.wrd with wanted := [], flipped := d1.wrd.flipped.filter fun f => f.cls == 0 } }
/-- A tile after a reset of its die: BOOT runs again; only tiles of the retirement map stay retired (R209, R462). -/
def warmTile (d : Dev) (t : Nat) (x : Tile) : Tile := { on := x.on, retired := inMap d t, idleSince := d.tbs.cnt }
/-- The units of the reset domains, with what each keeps: tenants with their keys, links with their configuration space and
MSI-X tables, ports with their links, the timebase, the ring (R57, R510). -/
def warmUnits (d : Dev) : Dev :=
  { d with
    objs := d.objs.filter fun e => !warmDropped (e.1 / 256)
    stage := [], heldStitch := [], irq := [], rings := [], fnq := [], dmaCh := [], recvBufs := [], parityBad := []
    msix := d.msix.map fun e => (e.1, { e.2 with held := 0, first := 0, eoc := false })
    mbox := [], waiting := [], snaps := [], rrLast := [], pair := {}, sess := [], streams := [], loom := {}, hold := 0
    tiles := (List.range 96).foldl (fun a t => tabPut {} a t (warmTile d t (tile d t))) d.tiles
    linPrm := [], ladder := [], lib := [], linings := []
    pke := {
      stampsLost := d.pke.stampsLost
      ports := d.pke.ports.map fun e =>
        (e.1, { link := e.2.link, trainingFrom := e.2.trainingFrom, listSel := e.2.listSel, entryAt := d.tbs.ns }) }
    sec := { d.sec with rngFail := false, conns := [], sessions := [], ownKeys := (0, 0), aliases := d.sec.aliases + 1 }
    dsr := { d.dsr with own := [], retry := [], outstanding := [] }
    tbs := { d.tbs with
      align := 0, goodSyncs := 0, badSyncs := 0, lastSync := 0, offset := 0, grandmaster := 0, setAtPps := none
      ppsOut := false, running := d.tbs.running || (!d.pwr.lost.contains 0 && !d.tbs.sleeping) }
    pwr := { d.pwr with
      state := 0, busy := false, late := false, again := false, latch := false, resetWaits := false, image := 0
      imageFail := false, booted := false, resetAt := some d.tbs.ns
      doms := d.pwr.doms.map fun e => (e.1, { e.2 with ignored := false })
      sensors := d.pwr.sensors.map fun e => (e.1, { e.2 with failed := false }) } }
/-- A warm reset (R511 steps 1 to 4): KIND and, for containment, the fault's source. -/
def warmReset (kind src : Nat) (d : Dev) : Dev :=
  if d.pwr.resetAt.isSome then d
  else
    let d1 := flushFaults { d with pwr := { d.pwr with
      cause := kind, causeSrc := src, warmCnt := min 65535 (d.pwr.warmCnt + 1) } }
    let d2 := warmBlocks (warmDram (stopAll d1))
    let d3 := warmFlt (warmRegs (warmUnits d2))
    powerSettle d3.tbs.ns d3

/-! ## Cold reset -/

/-- Objects that rules keep in flash (R209, R310, R347, R422, R439). -/
def inFlash (idx : Nat) : Bool := [0x1106, 0x1448, 0x1612, 0x1803, 0x1C04, 0x2053].contains idx
/-- The block after a power-on or cold reset of KIND: everything at its reset value but for flash; the PCIe configuration of the
flash comes into force (R347); the identity straps are given. -/
def coldDev (kind nodeId : Nat) (master : Bool) (d : Dev) : Dev :=
  objSet 0x1107 0 (objGet d 0x1106 0)
    { objs := d.objs.filter fun e => inFlash (e.1 / 256)
      emitted := d.emitted, freeCtr := d.freeCtr, rngCtr := d.rngCtr
      sec := { aliases := d.sec.aliases + 1 }
      dsr := { ring := 1, nodeId := nodeId, strapMaster := master, master := master, limit := objGet d 0x1C04 0 }
      pwr := { cause := kind, porLow := d.pwr.porLow, aonDown := d.pwr.aonDown, trip := d.pwr.trip, thermal := if d.pwr.trip then 4 else 0 } }
/-- A cold reset by request (R510): the straps are not sampled again (R533). -/
def coldReset (d : Dev) : Dev := powerSettle 0 (coldDev 3 d.dsr.nodeId d.dsr.strapMaster d)
/-- The exit from power-on reset, with the straps as sampled: DS_ID in [4:0], DS_MASTER in [5] (R513, R533). -/
def porExit (kind straps : Nat) (d : Dev) : Dev := powerSettle 0 (coldDev kind (straps % 32) (bit straps 5) d)
/-- A device held in reset: nothing runs. -/
def held (d : Dev) : Dev := { d with tbs := { d.tbs with running := false } }

/-- POR_N_FALL (R510): a cold reset of everything, held while POR_N is low. -/
def execPorNFall (s : State) : Host.Outcome State Fault Refusal :=
  actHeld (fun d => held (coldDev 2 d.dsr.nodeId d.dsr.strapMaster { d with pwr := { d.pwr with porLow := true } })) s
/-- POR_N_RISE (R513): the always-on domain leaves reset and the straps are sampled; at power-on KIND stays 1. -/
def execPorNRise (straps : Nat) (s : State) : Host.Outcome State Fault Refusal :=
  actHeld (fun d =>
    if !d.pwr.porLow then d
    else
      let d1 : Dev := { d with pwr := { d.pwr with porLow := false } }
      if d.pwr.aonDown then d1 else porExit d.pwr.cause straps d1) s
/-- AON_BROWN_OUT (R520): VDD_AON below 0.68 V holds the device in power-on reset; THERMTRIP_N is released (R524). -/
def execAonBrownOut (s : State) : Host.Outcome State Fault Refusal :=
  actHeld (fun d => held (coldDev 1 d.dsr.nodeId d.dsr.strapMaster
    { d with pwr := { d.pwr with aonDown := true, trip := false } })) s
/-- AON_SUPPLY_RETURN (R520): a power-on reset, with the straps sampled; POR_N may still hold the device. -/
def execAonSupplyReturn (straps : Nat) (s : State) : Host.Outcome State Fault Refusal :=
  actHeld (fun d =>
    if !d.pwr.aonDown then d
    else
      let d1 : Dev := { d with pwr := { d.pwr with aonDown := false } }
      if d.pwr.porLow then d1 else porExit 1 straps d1) s

/-! ## Reset requests (R499, R510) -/

/-- A reset asked for: cold at once; warm at once in Run and in the safe state, else the wake latch is set and the reset waits
for Run (R499). -/
def resetAsked (kind : Nat) (d : Dev) : Dev :=
  if kind = 2 then coldReset d
  else if d.pwr.state = 0 || d.flt.safe then warmReset 4 0 d
  else evalPackage d.tbs.ns { d with pwr := { d.pwr with latch := true, resetWaits := true } }
/-- A write of 0x1202:0 by value (R510, R516): answered, then performed. -/
def resetRequest (q : Req) (v : Nat) (d : Dev) : Dev :=
  decideWrite q 0x1202 0 (fun _ => earned [(v == 0 || decide (2 < v), .range)]) (refuse q 0x1202 0)
    (fun d0 => resetAsked v (accept q 0x1202 0 d0)) d
/-- WARM_RESET_REQUEST (R511). -/
def execWarmResetRequest (q : Req) (s : State) : Host.Outcome State Fault Refusal := act (resetRequest q 1) s
/-- COLD_RESET_REQUEST (R510). -/
def execColdResetRequest (q : Req) (s : State) : Host.Outcome State Fault Refusal := act (resetRequest q 2) s

/-! ## Firmware boot and start-up (R513, R514, R519, R426) -/

/-- Is a populated-channel mask one of the two that R300 allows? -/
def maskLegal (m : Nat) : Bool := m == 0xFFFF || m == 0x3333
/-- The population is published and the populated channels are untrained; those whose SPD check fails are in state 7 (R300,
R309). -/
def populate (pop : Nat) (causes : List Nat) (d : Dev) : Dev :=
  let mask := bytesAt pop 2 2
  let bad := !maskLegal mask || causes.contains 1
  let d1 := objSet 0x1800 0 (pop % 2 ^ 128) d
  let d2 := forEach ((List.range 16).filter (bit mask)) (fun c d => setChanState c 1 d) d1
  forEach ((List.range 16).filter (bit mask)) (fun c d =>
    let cause := if bad then 1 else causes.getD c 0
    if cause = 0 then d else trainFail c { cause := cause } (setChan c { chan d c with trainStart := d.tbs.ns } d)) d2
/-- The keys of owners 256 and 257 are drawn (R445). -/
def drawOwnKeys (d : Dev) : Dev :=
  let a := rngBits 256 d
  let d1 := rngNext d
  rngNext { d1 with sec := { d1.sec with ownKeys := (a, rngBits 256 d1) } }
/-- Tiles at start-up (R31, R209, R464): the map's tiles are retired, spares are reserved, every powered tile runs BOOT. -/
def startTiles (d : Dev) : Dev :=
  let d1 := forEach (List.range 96) (fun t d =>
    updTile t (fun x => { x with retired := inMap d t, boot := if x.on then 1 else x.boot, bootAt := d.tbs.ns }) d) d
  recomputeVotes (reserveSpares (if isDense d1 then 0 else objGet d1 0x1104 0) d1)
/-- What firmware does once it runs (R426, R513): on start-up after a reset; after Sleep it restores what it saved. -/
def firmwareRuns (pop : Nat) (causes : List Nat) (d : Dev) : Dev :=
  let cold := !d.pwr.others
  if cold || d.pwr.resetAt.isSome then
    let d1 : Dev := { d with pwr := { d.pwr with others := true, degraded := objGet d 0x1803 0 == 1 } }
    let d2 := startTiles (drawOwnKeys d1)
    let d3 := if cold then populate pop causes d2 else d2
    powerSettle d3.tbs.ns (beginTraining d3)
  else powerSettle d.tbs.ns d
/-- FIRMWARE_BOOT (R514, R519): the image that the flash header names is verified first, the other if it fails; with neither the
device holds every domain off. -/
def firmwareBoot (header : Nat) (aOk bOk : Bool) (pop : Nat) (causes : List Nat) (d : Dev) : Dev :=
  if !domOn d 127 || d.pwr.booted then d
  else
    let ok := fun i => if i = 0 then aOk else bOk
    let img := header % 2
    if ok img || ok (1 - img) then
      firmwareRuns pop causes
        { d with pwr := { d.pwr with booted := true, imageFail := false, image := if ok img then img else 1 - img } }
    else
      let d1 := level 2 0x0085 3 3 0 { d with pwr := { d.pwr with imageFail := true } }
      powerSettle d1.tbs.ns d1
/-- FIRMWARE_BOOT (R514). -/
def execFirmwareBoot (header : Nat) (aOk bOk : Bool) (pop : Nat) (causes : List Nat) (now : Nat) (s : State) :
    Host.Outcome State Fault Refusal :=
  act (fun d => firmwareBoot header aOk bOk pop causes (atTime now d)) s

/-- Are the channels in service filled and out of self-refresh (R426 step 6, R511 step 6)? -/
def memoryReady (d : Dev) : Bool :=
  !(servingChans d).isEmpty && (servingChans d).all (fun c => fillState d c == 2 && chanState d c == 3) &&
    (List.range 16).all fun c => chanState d c != 1 && (chanState d c != 2 || (chan d c).action == 2)
/-- The tiles that run or have run BOOT at start-up (R464). -/
def bootTiles (d : Dev) : List Nat :=
  (List.range 96).filter fun t => let x := tile d t; !x.retired && !x.spare && !(domAt d t).ignored
/-- Step 9 of R426: firmware sets the enable bits; with no tile that passed BOOT it holds the start (R464). -/
def startupEnable (d : Dev) : Dev :=
  let ts := bootTiles d
  if !d.pwr.booted || !memoryReady d || objGet d 0x1C01 0 == 10 || startHeld d ||
      ts.any (fun t => decide ((tile d t).boot < 2)) then d
  else if !ts.any (fun t => (tile d t).boot == 2) then
    let t := ts.headD 0
    pulse 1 0x0022 3 t (regGet d (Reg.tileSig.at t) + regGet d (Reg.tileSigExp.at t) * 2 ^ 32) (objSet 0x1C01 0 10 d)
  else
    let on := fun (r : Reg) (d : Dev) => setFld r.base 0 1 1 d
    let d1 := on .dmaCtrl (on .pkeIgrCtrl (on .pkeCtrl (on .loomCtrl (on .dmaIntakeCtrl d))))
    objSet 0x1C01 0 9 { d1 with pwr := { d1.pwr with resetAt := none } }
/-- STARTUP_ENABLE (R426 step 9, R511 step 7). -/
def execStartupEnable (now : Nat) (s : State) : Host.Outcome State Fault Refusal :=
  act (fun d => startupEnable (atTime now d)) s

/-! ## On-chip memory (R131, R334) -/

/-- An armed flip of the memory class on this unit has been written when its error is read (R346). -/
def disarmFlip (cls unit : Nat) (d : Dev) : Dev :=
  if fld d (Reg.wrdFlipCtrl.at cls) 12 7 = unit || cls % 2 = 1 then setFld (Reg.wrdFlipCtrl.at cls) 0 1 0 d else d
/-- A corrected error of a tile's memory is counted (R131). -/
def tileCorrected (t : Nat) (d : Dev) : Dev :=
  let key := Reg.slvTileStat.at t
  let n := satAdd 64 (pairGet d Reg.slvCorrCntHi.base Reg.slvCorrCntLo.base) 1
  pulse (32 + t) 0x0020 0 t 0
    (pairSet Reg.slvCorrCntHi.base Reg.slvCorrCntLo.base n (setFld key 16 8 (satAdd 8 (fld d key 16 8) 1) d))
/-- ONCHIP_MEMORY_ERROR (R334): in shared SRAM (0), in the management controller's memory (1), or in tile t's (2 + t). -/
def memoryError (unit : Nat) (corrected : Bool) (addr : Nat) (d : Dev) : Dev :=
  if unit = 0 then
    let d1 := disarmFlip 1 0 d
    if corrected then pulse 9 0x0030 0 addr 0 (regCount Reg.wrdSramCorr.base 1 d1)
    else warmReset 5 9 (pulse 9 0x0031 3 addr 0 d1)
  else if unit = 1 then
    if corrected then pulse 1 0x0036 0 addr 0 d else warmReset 5 1 (pulse 1 0x0037 3 addr 0 d)
  else
    let t := unit - 2
    let d1 := disarmFlip 2 t d
    if corrected then tileCorrected t d1 else containTile t d1
/-- ONCHIP_MEMORY_ERROR (R334). -/
def execOnchipMemoryError (where_ : Nat) (corrected : Bool) (addr now : Nat) (s : State) : Host.Outcome State Fault Refusal :=
  actOn (decide (where_ < 98)) (fun d => memoryError where_ corrected addr (atTime now d)) s

end Sys2Proof.Machine
end

