-- ==== Sys2Proof/Machine/Power.lean ====
section
/-! DEFINITION. Package states, domains, wake, power and temperature, references, Sleep (20: R489 to R502, R508, R509; 21: R524,
R526). -/
namespace Sys2Proof.Machine

/-! ## The package state (R496 to R498) -/

/-- The codes of a requested package state (R496). -/
def packageErrs (v : Nat) (d : Dev) : List Err :=
  earned [(decide (3 < v), .range),
    (decide (1 ≤ v) && decide (v ≤ 3) &&
      (d.sess.any (fun x => x.2.st != .free && x.2.st != .defined) || !(activeLinings d).isEmpty), .state),
    (v == 3 && d.pwr.lost.contains 4, .state),
    (!startupDone d, .busy),
    ((v == 2 || v == 3) && objGet d 0x1400 0 == 1, .conflict)]
/-- An accepted request clears the wake latch; during a transition it is recorded (R496, R498). -/
def packageAct (v : Nat) (d : Dev) : Dev :=
  let d1 := objSet 0x1200 0 v { d with pwr := { d.pwr with latch := false } }
  if d.pwr.busy then { d1 with pwr := { d1.pwr with again := true } } else evalPackage d1.tbs.ns d1
/-- The write behind PACKAGE_STATE_REQUEST (R496). -/
def packageWrite (q : Req) (value : Nat) : Dev → Dev :=
  perform q 0x1200 0 (packageErrs value) (packageAct value)
/-- PACKAGE_STATE_REQUEST (R496). -/
def execPackageStateRequest (q : Req) (value : Nat) (s : State) : Host.Outcome State Fault Refusal :=
  act (packageWrite q value) s

/-- Has a domain reached what the votes ask: no step in progress, and off only when unwanted; a channel out of service to the votes
stands at its stage (R497)? -/
def domainSettled (d : Dev) (k : Nat) : Bool :=
  let x := domAt d k
  x.moving.isNone && (x.ignored ||
    if 96 ≤ k ∧ k < 112 ∧ inService d (k - 96) then
      let c := chan d (k - 96)
      c.running == 0 && !c.waits && c.stage == stageGoal d (k - 96) &&
        (if stageGoal d (k - 96) = 3 then !domOn d k else domOn d k && (chanState d (k - 96) == 3) == (stageGoal d (k - 96) == 0))
    else domOn d k == wanted d k)
/-- Is the transition in progress done (R497)? -/
def transitionDone (d : Dev) : Bool :=
  d.pwr.busy && !d.flt.safe && (List.range 128).all (domainSettled d) &&
    (if d.pwr.entering = 3 then d.tbs.sleeping else !d.tbs.sleeping && d.pwr.booted)
/-- PACKAGE_TRANSITION_COMPLETE (R497, R498, R499): source 5, the new state, then the target as it stands; in Run a warm reset that
waits is performed. -/
def transitionComplete (now : Nat) (d0 : Dev) : Dev :=
  let d := powerSettle now d0
  if transitionDone d then
    let d1 := raise 5 { d with pwr := { d.pwr with state := d.pwr.entering, busy := false, late := false, again := false } }
    if d1.pwr.state = 0 && d1.pwr.resetWaits then warmReset 4 0 d1 else evalPackage now d1
  else d
/-- PACKAGE_TRANSITION_COMPLETE (R497). -/
def execPackageTransitionComplete (now : Nat) (s : State) : Host.Outcome State Fault Refusal :=
  act (fun d => transitionComplete now (atTime now d)) s
/-- The bound of a transition, in ns (R497). -/
def transitionBound (from_ to_ : Nat) : Nat :=
  if to_ = 3 then 5000000 else if from_ = 3 then 400000000 else if from_ < 2 && decide (to_ < 2) then 1000000 else 2000000
/-- TRANSITION_OVERTIME (R497): the transition goes on, and a fault is recorded. -/
def overtime (now : Nat) (d : Dev) : Dev :=
  let p := d.pwr
  if p.busy && !p.late && decide (p.since + transitionBound p.state p.entering ≤ powerNow now d) then
    pulse 2 0x0081 1 (p.state + 4 * p.entering) 0 { d with pwr := { p with late := true } }
  else d
/-- TRANSITION_OVERTIME (R497). -/
def execTransitionOvertime (now : Nat) (s : State) : Host.Outcome State Fault Refusal :=
  act (fun d => overtime now (atTime now d)) s

/-! ## Domains (R489 to R494) -/

/-- There are 128 switched domains (R489). -/
def isDomain (k : Nat) : Bool := decide (k < 128)
/-- What outlives a tile's power: what the Loom knows of it (R31, R80, R81, R205, R209). -/
def keptTile (x : Tile) : Tile :=
  { spare := x.spare, spareSeen := x.spareSeen, retired := x.retired, hung := x.hung, contained := x.contained
    awaits := x.awaits, vote := x.vote, budget := x.budget }
/-- A tile whose domain has just come on: nothing is left in it, and BOOT runs (R462). -/
def poweredTile (x : Tile) (now : Nat) : Tile := { keptTile x with on := true, boot := 1, bootAt := now }
/-- DOMAIN_POWER_GOOD (R489, R492): the transition to on completes. -/
def powerGood (k now : Nat) (d0 : Dev) : Dev :=
  let d := powerSettle now d0
  match (domAt d k).moving with
  | some (true, _) =>
    let d1 := setDom k { domAt d k with moving := none, powerOns := min 65535 ((domAt d k).powerOns + 1) } d
    powerSettle now (if k < 96 then updTile k (fun x => poweredTile x d.tbs.ns) d1 else setOn k true d1)
  | _ => d
/-- DOMAIN_POWER_GOOD (R489). -/
def execDomainPowerGood (domain now : Nat) (s : State) : Host.Outcome State Fault Refusal :=
  actOn (isDomain domain) (fun d => powerGood domain now (atTime now d)) s
/-- What is lost with a domain: a tile's contents; the links of a port (R249, R350); the firmware that ran. -/
def domainLost (k : Nat) (d : Dev) : Dev :=
  if k < 96 then
    updTile k keptTile d
  else if k = 112 || k = 113 then
    forEach ((List.range 4).filter fun i => i / 2 == k - 112 && (link d i).up) (fun i d => linkReset i 3 d) d
  else if k = 114 || k = 115 then
    forEach ((List.range 8).filter fun p => p / 4 == k - 114 && linkUp d p) (fun p d => linkDown p 1 d) d
  else if k = 127 then { d with pwr := { d.pwr with booted := false } }
  else d
/-- DOMAIN_OFF (R492, R493): pads are latched, then the domain is off. -/
def domainOff (k now : Nat) (d0 : Dev) : Dev :=
  let d := powerSettle now d0
  match (domAt d k).moving with
  | some (false, _) =>
    let d1 := setDom k { domAt d k with moving := none } (domainLost k d)
    let d2 := setOn k false (if hasPads k then setPads k true d1 else d1)
    powerSettle now d2
  | _ => d
/-- DOMAIN_OFF (R492). -/
def execDomainOff (domain now : Nat) (s : State) : Host.Outcome State Fault Refusal :=
  actOn (isDomain domain) (fun d => domainOff domain now (atTime now d)) s
/-- POWER_GOOD_TIMEOUT (R494): the domain is left off and its votes are ignored; a tile has failed. -/
def goodTimeout (k now : Nat) (d : Dev) : Dev :=
  match (domAt d k).moving with
  | some (true, t0) =>
    if t0 + 4 * goodBound k ≤ now then
      let part := decide (k < 96) && (tile d k).awaits.isSome
      let d1 := pulse 2 0x0080 (if part then 2 else 1) k 0
        (setDom k { domAt d k with moving := none, blocked := true, ignored := true } d)
      if k < 96 then
        let d2 := updTile k (fun x => { x with contained := true, spare := false, spareSeen := false }) d1
        if part then nextSpare k (objCount 16 0x5091 k 1 d2) else tileFails k d2
      else d1
    else d
  | _ => d
/-- POWER_GOOD_TIMEOUT (R494). -/
def execPowerGoodTimeout (domain now : Nat) (s : State) : Host.Outcome State Fault Refusal :=
  actOn (isDomain domain) (fun d => goodTimeout domain now (atTime now d)) s
/-- TILE_IDLE_OFF (R491): a tile without a vote that has been idle through one whole stitch begins to turn off. -/
def idleOff (t now : Nat) (d0 : Dev) : Dev :=
  let d := powerSettle now d0
  let x := tile d t
  if x.on && !wanted d t && (domAt d t).moving.isNone && (x.gone || (!x.holds && decide (x.idleSince + 2 ≤ d.tbs.cnt))) &&
      !d.flt.safe then
    setDom t { domAt d t with moving := some (false, now) } d
  else d
/-- TILE_IDLE_OFF (R491). -/
def execTileIdleOff (tile now : Nat) (s : State) : Host.Outcome State Fault Refusal :=
  actOn (isTile tile) (fun d => idleOff tile now (atTime now d)) s
/-- PWR_PAD_RELEASE (R493): the management controller's alone (R365); ignored while the domain is off or its pads are free; for a
channel it is PAD_RELEASE of R316. -/
def padFree (k : Nat) (pass : Bool) (d : Dev) : Dev :=
  if 96 ≤ k ∧ k < 112 then padRelease (k - 96) pass d
  else if hasPads k && domOn d k && padsHeld d k then setPads k false d else d
/-- PWR_PAD_RELEASE (R493). -/
def execPwrPadRelease (who : Caller) (domain : Nat) (pass : Bool) (now : Nat) (s : State) : Host.Outcome State Fault Refusal :=
  actOn (hasPads domain) (fun d =>
    regGate who Reg.pwrPadRelease.base false
      (fun d => if who = .firmware then padFree domain pass d else regDrop who Reg.pwrPadRelease.base .access d) (atTime now d)) s

/-! ## Wake (R424, R425, R499) -/

/-- WAKE (R424): a WAKE frame addressed to the node, or broadcast. -/
def execWake (dst now : Nat) (s : State) : Host.Outcome State Fault Refusal :=
  act (fun d => if dst = d.dsr.nodeId || dst = 0x3F then setWake 0 now (atTime now d) else atTime now d) s
/-- WAKE_N_LOW (R499): low for at least 1 µs. -/
def execWakeNLow (now : Nat) (s : State) : Host.Outcome State Fault Refusal :=
  act (fun d => setWake 3 now (atTime now d)) s
/-- PCIE_WAKE (R499): PERST deassertion, the partner's exit from electrical idle, or a request other than those excepted, at port A
or B. -/
def execPcieWake (port now : Nat) (s : State) : Host.Outcome State Fault Refusal :=
  actOn (decide (port < 2)) (fun d => setWake (1 + port) now (atTime now d)) s
/-- ETHERNET_WAKE_PATTERN (R425): the Spays wake pattern on a port enabled in 0x1C08:0. -/
def execEthernetWakePattern (port now : Nat) (s : State) : Host.Outcome State Fault Refusal :=
  actOn (isPort port) (fun d => if bit (objGet d 0x1C08 0) port then setWake 4 now (atTime now d) else atTime now d) s

/-! ## Power and temperature (R33, R501, R524, R526) -/

/-- Changes the power controller. -/
def setPwr (p : Pwr) (d : Dev) : Dev := { d with pwr := p }
/-- A sensor: 0 to 19 junctions, 32 + r rails. -/
def sensor (d : Dev) (i : Nat) : Sensor := tabGet {} d.pwr.sensors i
/-- Changes a sensor. -/
def setSensor (i : Nat) (x : Sensor) (d : Dev) : Dev := setPwr { d.pwr with sensors := tabPut {} d.pwr.sensors i x } d
/-- A sensor gives no reading, or one outside its physical range: it is left out until a warm reset (R526). -/
def sensorFails (i : Nat) (d : Dev) : Dev :=
  if (sensor d i).failed then d else pulse 138 0x008A 1 i 0 (setSensor i { sensor d i with failed := true } d)
/-- The operating range of each rail, in mV (R518). -/
def railRange : List (Nat × Nat) :=
  [(720, 790), (1710, 1890), (720, 790), (720, 790), (820, 890), (820, 890), (1160, 1240), (1067, 1133)]
/-- One sample of a rail, mV and amperes (R526): three samples out of range raise 0x0089, three back in range end it. -/
def railSample (r : Nat) (v : Option (Nat × Nat)) (d : Dev) : Dev :=
  match v with
  | none => sensorFails (32 + r) d
  | some (mv, amps) =>
    let x := sensor d (32 + r)
    if x.failed then d
    else
      let lim := railRange.getD r (0, 0)
      let ok := decide (lim.1 ≤ mv) && decide (mv ≤ lim.2)
      let y : Sensor := { x with
        seen := true
        reading := mv % 65536 + amps % 65536 * 65536
        bad := if ok then 0 else min 3 (x.bad + 1)
        good := if ok then min 3 (x.good + 1) else 0 }
      let d1 := setSensor (32 + r) y d
      if y.bad = 3 then level 138 0x0089 3 r mv d1 else if y.good = 3 then levelEnd 138 0x0089 r d1 else d1
/-- The published power in mW: the mean over the last ten samples (R501). -/
def meanPower (d : Dev) : Nat := d.pwr.samples.foldl (· + ·) 0 / max 1 d.pwr.samples.length
/-- The cap in force, in mW (R34). -/
def powerCap (d : Dev) : Option Nat := if objNow d 0x1102 0 = 1 then some (objNow d 0x1103 0 * 1000) else none
/-- Is the mean above the cap? -/
def aboveCap (d : Dev) : Bool := match powerCap d with
  | none => false
  | some c => decide (c < meanPower d)
/-- POWER_SAMPLE (R501, R526): package power in mW, and each rail. -/
def powerSample (mw : Nat) (rails : List (Option (Nat × Nat))) (d : Dev) : Dev :=
  let d1 := setPwr { d.pwr with samples := (mw :: d.pwr.samples).take 10 } d
  let d2 := if aboveCap d1 then setPwr { d1.pwr with above := some (d1.pwr.above.getD d1.tbs.ns) } d1
    else setPwr { d1.pwr with above := none, raised := none } d1
  forEach (List.range 8) (fun r d => match rails[r]? with
    | none => d
    | some v => railSample r v d) d2
/-- POWER_SAMPLE (R501). -/
def execPowerSample (mw : Nat) (rails : List (Option (Nat × Nat))) (now : Nat) (s : State) : Host.Outcome State Fault Refusal :=
  act (fun d => powerSample mw rails (atTime now d)) s
/-- The shortfall of R213: ceil((measured power − cap) ÷ 2.4) × 1,000. -/
def powerShort (mean cap : Nat) : Nat := ceilDiv (mean - cap) 2400 * 1000
/-- POWER_CAP_EXCEEDED (R33, R213, R501): above the cap for 10 ms, and again every 100 ms. -/
def capExceeded (d : Dev) : Dev :=
  match d.pwr.above, powerCap d with
  | some t0, some cap =>
    let due := match d.pwr.raised with
      | none => decide (t0 + 10000000 ≤ d.tbs.ns)
      | some t1 => decide (t1 + 100000000 ≤ d.tbs.ns)
    if due && aboveCap d then
      let d1 := pulse 2 0x0071 0 (meanPower d / 1000) 0 (raise 6 (setPwr { d.pwr with raised := some d.tbs.ns } d))
      if isArmed d 9 then (runLadder (powerShort (meanPower d) cap) d1).getD d1 else d1
    else d
  | _, _ => d
/-- POWER_CAP_EXCEEDED (R501). -/
def execPowerCapExceeded (now : Nat) (s : State) : Host.Outcome State Fault Refusal :=
  act (fun d => capExceeded (atTime now d)) s

/-- The hottest valid junction sensor, ties to the lower number, with its reading in 1/65536 °C (R524). -/
def hottest (d : Dev) : Option (Nat × Int) :=
  (List.range 20).foldl (fun a i =>
    if (sensor d i).failed || !(sensor d i).seen then a
    else
      let v := signed 32 (sensor d i).reading
      match a with
      | none => some (i, v)
      | some (j, w) => if w < v then some (i, v) else some (j, w)) none
/-- One sample of a junction sensor, in 1/65536 °C; −40 to 150 °C is its physical range (R526, R536). -/
def junctionSample (i : Nat) (v : Option Int) (d : Dev) : Dev :=
  match v with
  | none => sensorFails i d
  | some c =>
    if (sensor d i).failed then d
    else if c < -40 * 65536 || 150 * 65536 < c then sensorFails i d
    else setSensor i { sensor d i with seen := true, reading := unsigned 32 c } d
/-- The three thermal levels: threshold and end in °C, severity (R524, R527). -/
def thermalLevels : List (Int × Option Int × Nat) := [(100, some 97, 0), (110, some 107, 3), (125, none, 3)]
/-- A level report of the thermal monitor ends, whatever sensor it named. -/
def thermalEnd (k : Nat) (d : Dev) : Dev :=
  forEach (List.range 20) (fun i d => levelEnd 138 (0x0086 + k) i d) d
/-- One thermal level after a sample (R524): two consecutive samples at its threshold raise it, two below its end end it; the trip is
latched. -/
def thermalStep (k : Nat) (d : Dev) : Dev :=
  match hottest d with
  | none => d
  | some (i, v) =>
    let lv := thermalLevels.getD k (0, none, 0)
    let hot := if lv.1 * 65536 ≤ v then min 2 (d.pwr.hot.getD k 0 + 1) else 0
    let cool := match lv.2.1 with
      | none => 0
      | some e => if v < e * 65536 then min 2 (d.pwr.cool.getD k 0 + 1) else 0
    let d1 := setPwr { d.pwr with hot := d.pwr.hot.set k hot, cool := d.pwr.cool.set k cool } d
    let stands := bit d.pwr.thermal k
    if !stands && hot == 2 then
      let d2 := level 138 (0x0086 + k) lv.2.2 i 0
        (setPwr { d1.pwr with thermal := setBits d1.pwr.thermal k 1 1, trip := d1.pwr.trip || k == 2 } d1)
      if k < 2 then raise 6 d2 else d2
    else if stands && cool == 2 then thermalEnd k (setPwr { d1.pwr with thermal := setBits d1.pwr.thermal k 1 0 } d1)
    else d1
/-- SENSOR_SAMPLE (R524, R526): every junction sensor, then the three levels, the most severe first. -/
def sensorSample (temps : List (Option Int)) (d : Dev) : Dev :=
  let d1 := forEach (List.range 20) (fun i d => match temps[i]? with
    | none => d
    | some v => junctionSample i v d) d
  thermalStep 0 (thermalStep 1 (thermalStep 2 d1))
/-- SENSOR_SAMPLE (R524). -/
def execSensorSample (temps : List (Option Int)) (now : Nat) (s : State) : Host.Outcome State Fault Refusal :=
  act (fun d => sensorSample temps (atTime now d)) s

/-! ## References (R502) -/

/-- The references: 0 system, 1 and 2 PCIe, 3 Ethernet, 4 32.768 kHz. -/
def isClock (k : Nat) : Bool := decide (k < 5)
/-- What the loss of a reference stops: every clock but the always-on domain's; the links it feeds (R249, R350). -/
def clockStops (k : Nat) (d : Dev) : Dev :=
  if k = 0 then { d with tbs := { d.tbs with running := false } }
  else if k = 3 then forEach ((List.range 8).filter (linkUp d)) (fun p d => linkDown p 1 d) d
  else if k < 3 then forEach ((List.range 4).filter fun i => i / 2 == k - 1 && (link d i).up) (fun i d => linkReset i 3 d) d
  else d
/-- REFERENCE_LOSS (R502). -/
def referenceLoss (k : Nat) (d : Dev) : Dev :=
  if d.pwr.lost.contains k then d
  else clockStops k (level 3 0x0084 ([3, 1, 1, 1, 0].getD k 0) k 0 (setPwr { d.pwr with lost := k :: d.pwr.lost } d))
/-- REFERENCE_LOSS (R502). -/
def execReferenceLoss (clock now : Nat) (s : State) : Host.Outcome State Fault Refusal :=
  actOn (isClock clock) (fun d => referenceLoss clock (atTime now d)) s
/-- REFERENCE_RETURN (R502): the level ends, but for the system reference, whose condition ends only at a warm reset. -/
def referenceReturn (k : Nat) (d : Dev) : Dev :=
  let d1 := setPwr { d.pwr with lost := d.pwr.lost.filter (· != k) } d
  if k = 0 then d1 else levelEnd 3 0x0084 k d1
/-- REFERENCE_RETURN (R502). -/
def execReferenceReturn (clock now : Nat) (s : State) : Host.Outcome State Fault Refusal :=
  actOn (isClock clock) (fun d => referenceReturn clock (atTime now d)) s

/-! ## Sleep (R508, R509) -/

/-- SLEEP_ENTRY_EDGE (R508): at the last step of Sleep entry T_e is captured, the timebase stops, and the counter is 0. -/
def sleepEntry (now : Nat) (d0 : Dev) : Dev :=
  let d := powerSettle now d0
  if d.pwr.busy && d.pwr.entering == 3 && !d.tbs.sleeping && !d.flt.safe && (List.range 127).all (domainSettled d) then
    powerSettle now { d with tbs := { d.tbs with sleepT := d.tbs.ns, sleepN := 0, running := false, sleeping := true } }
  else d
/-- SLEEP_ENTRY_EDGE (R508). -/
def execSleepEntryEdge (now : Nat) (s : State) : Host.Outcome State Fault Refusal :=
  act (fun d => sleepEntry now (atTime now d)) s
/-- SLEEP_COUNT_EDGE (R508): each later rising edge is counted, while the reference is there. -/
def execSleepCountEdge (s : State) : Host.Outcome State Fault Refusal :=
  act (fun d => if d.tbs.sleeping && !d.pwr.lost.contains 4 then { d with tbs := { d.tbs with sleepN := d.tbs.sleepN + 1 } } else d) s
/-- T in units of 2^-32 ns. -/
def fineT (d : Dev) : Nat := d.tbs.ns * 2 ^ 32 + d.tbs.frac
/-- WAKE_EDGE (R509): the timebase restarts at T_e + n × 30,517.578125 ns, and the stitch counter with it. -/
def wakeEdge (d : Dev) : Dev :=
  if d.tbs.sleeping && d.pwr.busy && d.pwr.entering != 3 && domOn d 127 && !d.pwr.lost.contains 0 then
    let t := fineT d + d.tbs.sleepN * 131072000000000
    let n := max d.tbs.cnt (9 * t / (2500000 * 2 ^ 32))
    { d with tbs := { d.tbs with
        ns := t / 2 ^ 32, frac := t % 2 ^ 32, cnt := n, presented := n, wakeT := t / 2 ^ 32
        passed := n - d.tbs.cnt - 1, running := true, sleeping := false } }
  else d
/-- WAKE_EDGE (R509). -/
def execWakeEdge (s : State) : Host.Outcome State Fault Refusal := act wakeEdge s

/-! ## Registers and objects -/

/-- PWR_STAT. -/
def pwrStat (d : Dev) : Nat :=
  d.pwr.state + b2n d.pwr.busy * 4 + (if d.pwr.busy then d.pwr.entering else 0) * 8 + b2n d.pwr.latch * 32 +
    d.pwr.lastWake % 32 * 64 + b2n d.pwr.again * 2 ^ 11
/-- 0x1201:0. -/
def packageObj (d : Dev) : Nat := pwrStat d % 64
/-- PWR_RESET_CAUSE. -/
def resetCause (d : Dev) : Nat := d.pwr.cause + d.pwr.causeSrc % 256 * 8 + d.pwr.warmCnt * 2 ^ 16
/-- The monitors' objects 0x1203:0 to 0x1207:0 (R516, R536). -/
def monitorObj (d : Dev) (idx sub : Nat) : Option Nat :=
  if idx = 0x1203 then some (min 65535 (meanPower d / 1000))
  else if idx = 0x1204 then some (match hottest d with
    | none => 0
    | some (_, v) => unsigned 32 v)
  else if idx = 0x1205 then some (sensor d sub).reading
  else if idx = 0x1206 then some (sumBy (fun r => (sensor d (32 + r)).reading * 2 ^ (32 * r)) (List.range 8))
  else if idx = 0x1207 then
    some (bits d.pwr.thermal 0 3 + b2n (d.pwr.sensors.any fun e => e.2.failed) * 8)
  else none
/-- The registers of the PWR_ page that show the controller's state. -/
def pwrRead (d : Dev) (r : Reg) (i : Nat) : Option Nat :=
  match r with
  | .pwrCtrl => some (objGet d 0x1200 0)
  | .pwrStat => some (pwrStat d)
  | .pwrResetCause => some (resetCause d)
  | .pwrPower => some (min 65535 (meanPower d / 1000))
  | .pwrPadHeld => some (padHeldReg d)
  | .pwrSleepCntHi => some (d.tbs.sleepN / 2 ^ 32 % 2 ^ 32)
  | .pwrSleepCntLo => some (d.tbs.sleepN % 2 ^ 32)
  | .pwrHostVote => some (bits (objGet d 0x1211 0) (32 * i) 32)
  | .pwrDomStat => some (domStat d i)
  | _ => none

end Sys2Proof.Machine
end

