-- ==== Sys2Proof/Machine/Time.lean ====
section
/-! DEFINITION. The timebase: steps, the servo, the PPS pins (3: R62 to R64; 10: R250; 20: R503 to R507; 16: R426 step 7). -/
namespace Sys2Proof.Machine

/-- Changes the timebase. -/
def setTbs (x : Tbs) (d : Dev) : Dev := { d with tbs := x }
/-- The first boundary at least one full stitch after T, in ninths of a nanosecond (R63). -/
def deadlineAfter (t : Nat) : Nat := ceilDiv (9 * t + 2500000) 2500000 * 2500000
/-- Every deadline in force moves after a forward step (R63); one already missed is in force no more (log 102). -/
def moveDeadlines (t : Nat) (d : Dev) : Dev :=
  forEach (tabKeys d.tiles) (fun i d' =>
    let x := tile d' i
    if x.cur.isSome && !x.late && !x.pastDeadline d.tbs.ns then updTile i (fun x => { x with deadline := deadlineAfter t }) d'
    else d') d
/-- A step of T (R63): forward the counter takes its value at once, the values passed over are added to the skips, and one boundary
is still to be presented; backward the counter holds. -/
def stepTime (x : Int) (d : Dev) : Dev :=
  let t := ((d.tbs.ns : Int) + x).toNat % 2 ^ 64
  if x ≤ 0 then setTbs { d.tbs with ns := t } d
  else
    let n := stitchesIn t
    let d1 := setTbs { d.tbs with ns := t } (moveDeadlines t d)
    if d.tbs.cnt < n then
      setTbs { d1.tbs with cnt := n, skip := min (2 ^ 32 - 1) (d.tbs.skip + (n - d.tbs.cnt - 1)) } d1
    else d1

/-- TBS_STEP (R63, R515): the management controller's write of TBS_STEP_HI applies the pair as a signed step. -/
def tbsStep (hi : Nat) (d : Dev) : Dev :=
  let v := hi % 2 ^ 32 * 2 ^ 32 + tabGet 0 d.stage Reg.tbsStepLo.base
  mend Reg.tbsStepHi.base (mend Reg.tbsStepLo.base
    (stepTime (signed 64 v) (pairSet Reg.tbsStepHi.base Reg.tbsStepLo.base v d)))
/-- TBS_STEP (R63). -/
def execTbsStep (who : Caller) (hi now : Nat) (s : State) : Host.Outcome State Fault Refusal :=
  act (fun d => regGate who Reg.tbsStepHi.base false
    (fun d => if who = .firmware then tbsStep hi d else regDrop who Reg.tbsStepHi.base .access d) (atTime now d)) s

/-- The timing source (R504). -/
def timingSource (d : Dev) : Nat := objNow d 0x1320 0
/-- The codes of a write of the time (R504). -/
def timeSetErrs (v : Payload) (d : Dev) : List Err := typeErrs 0x1324 v ++ earned [(objGet d 0x1320 0 == 1, .conflict)]
/-- The time is set: at once when free-running, at the next edge under PPS_IN (R504). -/
def timeSet (v : Nat) (d : Dev) : Dev :=
  if objGet d 0x1320 0 = 2 then setTbs { d.tbs with setAtPps := some v } d
  else
    let d1 := stepTime ((v : Int) - d.tbs.ns) d
    setTbs { d1.tbs with frac := 0 } d1
/-- The write behind TIME_SET (R504). -/
def timeWrite (q : Req) (v : Payload) : Dev → Dev :=
  perform q 0x1324 0 (timeSetErrs v) (timeSet v.val)
/-- TIME_SET (R504). -/
def execTimeSet (q : Req) (v : Payload) (s : State) : Host.Outcome State Fault Refusal :=
  act (timeWrite q v) s

/-! ## The servo (R504 to R506) -/

/-- A signed value in 32 bits, saturating. -/
def sat32 (x : Int) : Nat := unsigned 32 (max (-2147483647) (min 2147483647 x))
/-- The servo slews (R506): the adjustment it chooses, within ±100 ppm, is left open (log 3). -/
def slew (d : Dev) : Dev :=
  freeNext (regSet Reg.tbsAdj.base (unsigned 32 (((freeBits 32 d % 204800001 : Nat) : Int) - 102400000)) d)
/-- The alignment state after an offset has been judged (R506). -/
def judge (off : Int) (d : Dev) : Dev :=
  let b := d.tbs
  let good := if off.natAbs ≤ 250 then min 16 (b.goodSyncs + 1) else 0
  let bad := if b.align = 2 && decide (500 < off.natAbs) then b.badSyncs + 1 else 0
  if 4 ≤ bad then pulse 3 0x0083 0 1 0 (setTbs { b with align := 1, goodSyncs := 0, badSyncs := 0 } d)
  else setTbs { b with align := if good = 16 then 2 else max 1 b.align, goodSyncs := good, badSyncs := bad } d
/-- The servo acts on an offset (R506): it is published; out of alignment a large one is stepped away, with a fault; any other is
slewed. -/
def servo (off : Int) (d : Dev) : Dev :=
  let d1 := setTbs { d.tbs with offset := max (-2147483647) (min 2147483647 off), lastSync := d.tbs.ns } d
  if d.tbs.align ≠ 2 && decide (100000 < off.natAbs) then
    let d2 := stepTime (-off) (setTbs { d1.tbs with align := 1, goodSyncs := 0, badSyncs := 0 } d1)
    pulse 3 0x0082 0 (sat32 ((-off).tdiv 1000)) 0 d2
  else judge off (slew d1)
/-- Is T disciplined: in Run and Doze, while its clock runs (R495)? -/
def disciplined (d : Dev) : Bool := d.tbs.running && decide (d.pwr.state < 2) && d.pwr.booted && d.pwr.resetAt.isNone
/-- PTP_SYNC (R506): a Sync accepted, with the offset that the servo estimates from it. -/
def execPtpSync (off : Int) (now : Nat) (s : State) : Host.Outcome State Fault Refusal :=
  act (fun d0 => let d := atTime now d0; if timingSource d = 1 && disciplined d then servo off d else d) s
/-- ANNOUNCE (R505, R506): the clock that the best master clock algorithm chooses; a new one returns the servo to Locking; the UTC
offset is taken. -/
def ptpAnnounce (clock : Nat) (utc : Int) (chosen : Bool) (d : Dev) : Dev :=
  if timingSource d = 1 && disciplined d && chosen then
    let d1 := objSet 0x1323 0 (unsigned 32 utc) d
    if clock % 2 ^ 64 = d.tbs.grandmaster then d1
    else setTbs { d1.tbs with grandmaster := clock % 2 ^ 64, align := 1, goodSyncs := 0, badSyncs := 0 } d1
  else d
/-- ANNOUNCE (R505). -/
def execAnnounce (clock : Nat) (utc : Int) (chosen : Bool) (now : Nat) (s : State) : Host.Outcome State Fault Refusal :=
  act (fun d => ptpAnnounce clock utc chosen (atTime now d)) s
/-- SYNC_TIMEOUT (R506): no Sync accepted for 3 s. -/
def syncTimeout (d : Dev) : Dev :=
  if timingSource d = 1 && d.tbs.align != 0 && decide (d.tbs.lastSync + 3000000000 ≤ d.tbs.ns) then
    let d1 := setTbs { d.tbs with align := 0, goodSyncs := 0, badSyncs := 0 } d
    if d.tbs.align = 2 then pulse 3 0x0083 0 0 0 d1 else d1
  else d
/-- SYNC_TIMEOUT (R506). -/
def execSyncTimeout (now : Nat) (s : State) : Host.Outcome State Fault Refusal :=
  act (fun d => syncTimeout (atTime now d)) s
/-- T less the whole second nearest to it. -/
def secondOffset (t : Nat) : Int :=
  if t % 1000000000 < 500000000 then (t % 1000000000 : Nat) else ((t % 1000000000 : Nat) : Int) - 1000000000
/-- PPS_IN_EDGE (R504): a time that waits is set at the edge; otherwise the edge disciplines T. -/
def ppsEdge (d : Dev) : Dev :=
  if timingSource d != 2 || !disciplined d then d
  else
    match d.tbs.setAtPps with
    | some v =>
      let d1 := stepTime ((v : Int) - d.tbs.ns) d
      setTbs { d1.tbs with setAtPps := none, frac := 0 } d1
    | none => servo (secondOffset d.tbs.ns) d
/-- PPS_IN_EDGE (R504). -/
def execPpsInEdge (now : Nat) (s : State) : Host.Outcome State Fault Refusal := act (fun d => ppsEdge (atTime now d)) s
/-- PPS_OUT (R507): the pin rises at a whole second of T while 0x1326:0 is 1, and falls 1 ms later. -/
def ppsOut (d : Dev) : Dev :=
  if d.tbs.ppsOut then
    if d.tbs.ppsFall ≤ d.tbs.ns then setTbs { d.tbs with ppsOut := false } d else d
  else if objGet d 0x1326 0 = 1 && decide (d.tbs.ns % 1000000000 ≤ 8) then
    setTbs { d.tbs with ppsOut := true, ppsFall := d.tbs.ns / 1000000000 * 1000000000 + 1000000 } d
  else d
/-- PPS_OUT (R507). -/
def execPpsOut (now : Nat) (s : State) : Host.Outcome State Fault Refusal := act (fun d => ppsOut (atTime now d)) s

/-- PTP_EVENT_RECEIVED (R250, R251): on a port enabled in 0x1A30:0 the message is punted with T less the ingress correction. -/
def ptpEvent (p : Nat) (d : Dev) : Dev :=
  if timingOn d p && linkUp d p then
    emit (.ptpEvent p (corrected d.tbs.ns (-signed 32 (bytesAt (objGet d 0x1A04 p) 4 4)))) d
  else d
/-- PTP_EVENT_RECEIVED (R250). -/
def execPtpEventReceived (port now : Nat) (s : State) : Host.Outcome State Fault Refusal :=
  actOn (isPort port) (fun d => ptpEvent port (atTime now d)) s

/-- PTP_LOCK_TIMEOUT (R426 step 7): without alignment 4 s after link-up pairing is refused with reason 6. -/
def lockTimeout (d : Dev) : Dev :=
  if !isAligned d && pairWanted d && (d.pair.st == 0 || d.pair.st == 1) then refusePair 6 d else d
/-- PTP_LOCK_TIMEOUT (R426). -/
def execPtpLockTimeout (now : Nat) (s : State) : Host.Outcome State Fault Refusal :=
  act (fun d => lockTimeout (atTime now d)) s

/-! ## Registers and objects -/

/-- TBS_STITCH_PHASE (R64): after a backward step the stitch in progress is longer; PHASE reads 0 while T is below the boundary
of the value held, and stays at its greatest value past 277,777 (log 103). -/
def stitchPhase (d : Dev) : Nat := min 277777 (d.tbs.ns - stitchNs d.tbs.cnt)
/-- The registers of the TBS_ page that show the timebase. -/
def tbsRead (d : Dev) (r : Reg) : Option Nat :=
  match r with
  | .tbsCtrl => some (objGet d 0x1320 0 + objGet d 0x1326 0 * 4)
  | .tbsStat => some d.tbs.align
  | .tbsTHi => some (d.tbs.ns / 2 ^ 32 % 2 ^ 32)
  | .tbsTLo => some (d.tbs.ns % 2 ^ 32)
  | .tbsStitchCntHi => some (d.tbs.cnt / 2 ^ 32 % 2 ^ 32)
  | .tbsStitchCntLo => some (d.tbs.cnt % 2 ^ 32)
  | .tbsStitchPhase => some (stitchPhase d)
  | .tbsStitchSkip => some d.tbs.skip
  | _ => none
/-- The timebase objects that show its state (R64, R517). -/
def tbsObj (d : Dev) (idx : Nat) : Option Nat :=
  if idx = 0x1300 then some d.tbs.cnt
  else if idx = 0x1301 then some d.tbs.align
  else if idx = 0x1302 then some (unsigned 32 d.tbs.offset)
  else if idx = 0x1303 then some d.tbs.skip
  else if idx = 0x1325 then some d.tbs.grandmaster
  else if idx = 0x1327 then
    some (d.tbs.sleepT + d.tbs.sleepN * 2 ^ 64 + d.tbs.wakeT * 2 ^ 128 + d.tbs.passed * 2 ^ 192)
  else none

end Sys2Proof.Machine
end

