-- ==== Sys2Proof/Machine/Boundary.lean ====
section
/-! DEFINITION. The stitch boundary (1: R23 to R25; 3: R62 to R65): what becomes visible at it, and the steps of R24 in order. -/
namespace Sys2Proof.Machine

/-! ## What becomes visible (R23) -/

/-- Alignment returns to Free-running where the timing source changes at this boundary (R504, R506). -/
def sourceShown (d : Dev) : Dev :=
  if objNow d 0x1320 0 = objGet d 0x1320 0 then d
  else setTbs { d.tbs with align := 0, goodSyncs := 0, badSyncs := 0 } d
/-- The comparer begins at its first pair when it is next switched on (R296). -/
def comparerShown (d : Dev) : Dev :=
  if objNow d 0x1A46 0 = 0 then { d with pke := { d.pke with cmpNext := 0 } } else d
/-- Acknowledged changes become visible to the stitch-scheduled path (R23, R247, R255). -/
def visible (d : Dev) : Dev :=
  let modes := objNow d 0x1A00 0
  comparerShown (portModesShown modes (sparesShown (holdUpdate (showChanges (sourceShown d)))))

/-! ## Sessions that start (R51, R97, R183, R259) -/

/-- A destination's congestion control at START (R182, R183). -/
def rateAtStart (s e : Nat) (d : Dev) : Dev :=
  let r := inForce d s 0x3071
  updDest s e (fun x => { x with
    since := d.tbs.ns, lastFeedback := d.tbs.ns, timedOut := false, rate := r, ratePeak := controlPeak d s r, rateNew := false
    owd := [], qdPrev := 0, qd := 0 }) d
/-- START takes effect at stitch n (R51): nothing is retained, one credit, the first sender report is due (R97, R271). -/
def startNow (s n : Nat) (d : Dev) : Dev :=
  let d1 := setStream (mezzSid s) {} (setStream (liveSid s) {} (settle s d))
  let x := sess d1 s
  let d2 := setSess s { x with st := .running, pend := 0, cause := 0, tx := { x.tx with srAt := none } } d1
  tellState s (forEach (enabledDests d2 s) (rateAtStart s) (startCredits s n (ringSync s d2)))
/-- RESUME takes effect at stitch n (R51, R55, R538): the next frame takes its references under R538. -/
def resumeNow (s n : Nat) (d : Dev) : Dev :=
  let d1 := updStream (mezzSid s) (fun x => { x with freshQ := true })
    (updStream (liveSid s) (fun x => { x with afterResume := true, freshQ := true }) d)
  let d2 := setSess s { sess d1 s with st := .running, pend := 0, cause := 0 } d1
  tellState s (forEach (enabledDests d2 s) (fun e d => updDest s e (fun x => { x with lastFeedback := d.tbs.ns }) d)
    (startCredits s n d2))
/-- A command that was accepted before the boundary takes effect, or is now visible and waits for the frame boundary (R51, R53,
R239). -/
def pendingShown (n s : Nat) (d : Dev) : Dev :=
  let x := sess d s
  if x.pend = 5 then startNow s n d
  else if x.pend = 7 then resumeNow s n d
  else if x.pend ≠ 0 || x.splicePend.isSome then setSess s { x with pendSeen := true } d
  else d
/-- Step 1 for a session: its credit, its missing bands, its pending command (R51, R97, R99). -/
def sessionStep1 (n s : Nat) (d : Dev) : Dev := pendingShown n s (substitute s n (giveCredit s n d))

/-! ## Step 4, before the pass -/

/-- What the intake gives the Loom at the snapshot: early frames, played frames, Mezzanine bands, the ring (R97, R230, R231, R240). -/
def sessionStep4 (n s : Nat) (d : Dev) : Dev := syncMezz s (playBoundary s n (markEarly s n d))

/-! ## Pairing at a boundary -/

/-- A paired device sends its heartbeat (R193): it carries the stitch counter and the service status. -/
def heartbeat (d : Dev) : Dev :=
  if 2 ≤ d.pair.st && decide (d.pair.st ≤ 4) then sendMirror { ty := 1, nums := [d.tbs.cnt, serviceStatus d] } d else d
/-- What the pairing does at a boundary (R191, R193, R198, R215, R216). -/
def pairBoundary (d : Dev) : Dev :=
  let d1 := handoverDue false (promotionsDue (suspendTaken (pairStep d)))
  let d2 := forEach (tabKeys d1.sess) tellChanges (heartbeat d1)
  forEach (activeLinings d2) sendNack d2

/-! ## The boundary -/

/-- The ingress trial budgets refill (R290). -/
def trialRefill (d : Dev) : Dev :=
  { d with pke := { d.pke with pipes := d.pke.pipes.map fun p => (p.1, { p.2 with tried := 0 }) } }
/-- Steps 1 to 4 of R24 at stitch n, the boundary's instant being `t0`. In the safe state the Loom, the rate controller and the
sessions stand (R485). -/
def stitchWork (n t0 : Nat) (d : Dev) : Dev :=
  let d1 := gateRestart (trialRefill (applyFreezes (visible d)))
  if d1.flt.safe then d1
  else
    let d2 := forEach (tabKeys d1.sess) (sessionStep1 n) (restoreLadder d1)
    let d3 := passAll (refillAll (forEach (tabKeys d2.sess) ackFrames d2))
    let d4 := forEach (tabKeys d3.sess) (sessionStep4 n) (sampleAll (discardPlans d3))
    let snap := inSnapshot t0
    let d5 := if dispatching d4 then assignPass n snap (planStage n snap d4) else d4
    let d6 := forEach (tabKeys d5.sess) (fun s d => waterTest s (syncMezz s (ringSync s d))) d5
    powerSettle d6.tbs.ns (recomputeVotes (pairBoundary d6))
/-- STITCH_BOUNDARY (R24, R62, R63): the counter takes its next value, at T's boundary; after a forward step the one boundary that
is due carries the value taken then. Nothing is presented while the timebase stands or a warm reset is in progress. -/
def stitchBoundary (d : Dev) : Dev :=
  if !d.tbs.running then d
  else if d.tbs.presented < d.tbs.cnt then
    let d1 := setTbs { d.tbs with presented := d.tbs.cnt } d
    if d.pwr.resetAt.isSome then d1 else stitchWork d.tbs.cnt d.tbs.ns d1
  else
    let n := d.tbs.cnt + 1
    let d1 := setTbs { d.tbs with cnt := n, presented := n, ns := max d.tbs.ns (stitchNs n) } d
    if d.pwr.resetAt.isSome then d1 else stitchWork n (stitchNs n) d1
/-- STITCH_BOUNDARY (R24). -/
def execStitchBoundary (s : State) : Host.Outcome State Fault Refusal := act stitchBoundary s

end Sys2Proof.Machine
end

