-- ==== Sys2Proof/Machine/HostQueues.lean ====
section
/-! DEFINITION. Queue objects (15: R380), and errors of the internal FIFOs (15: R390, R391). -/
namespace Sys2Proof.Machine

/-- QUEUE_OBJECT_WRITE (R380). -/
def queueObjectWrite (q : Req) (idx sub : Nat) (v : Payload) (d : Dev) : Dev :=
  perform q idx sub (fun d => typeErrs idx v ++ queueErrs (queueOfObj idx sub) v.val d)
    (queueWrite (queueOfObj idx sub) v.val) d
/-- QUEUE_OBJECT_WRITE (R380). -/
def execQueueObjectWrite (q : Req) (idx sub : Nat) (v : Payload) (s : State) : Host.Outcome State Fault Refusal :=
  actOn (isQueueObj idx) (queueObjectWrite q idx sub v) s

/-- Does the unit that holds a FIFO exist? -/
def homeExists : FifoHome → Bool
  | .tile t => isTile t
  | .channel c => decide (c < 64)
  | .queue fn q => decide (fn ≤ 256) && (queuesOf fn).contains (32 * fn + q)
  | .other src => decide (src < 139)
/-- The fault source of a FIFO's consumer (19). -/
def homeSource : FifoHome → Nat
  | .tile t => 32 + t
  | .channel _ => 10
  | .queue _ _ => 10
  | .other src => src
/-- FIFO_WORD_CORRECTED (R390). -/
def fifoCorrected (h : FifoHome) (fifo : Nat) (d : Dev) : Dev :=
  let n := satAdd 64 (pairGet d Reg.dmaFifoCorrHi.base Reg.dmaFifoCorrLo.base) 1
  pulse (homeSource h) 0x0033 0 fifo 0 (pairSet Reg.dmaFifoCorrHi.base Reg.dmaFifoCorrLo.base n (disarmFlip 3 0 d))
/-- FIFO_WORD_CORRECTED (R390). -/
def execFifoWordCorrected (home : FifoHome) (fifo now : Nat) (s : State) : Host.Outcome State Fault Refusal :=
  actOn (homeExists home) (fun d => fifoCorrected home fifo (atTime now d)) s
/-- The severity of a word lost in a channel's buffer (R391). -/
def bufferSev (d : Dev) (c : Nat) : Nat :=
  match (dmaChan d c).run with
  | some r => if !r.ended && (r.d.opcode == 3 || r.d.opcode == 5) then 2 else 1
  | none => 1
/-- FIFO_WORD_UNCORRECTABLE (R391): the smallest unit that holds the FIFO is contained. -/
def fifoLost (h : FifoHome) (fifo : Nat) (d0 : Dev) : Dev :=
  let d := disarmFlip 3 0 d0
  match h with
  | .tile t => containAs 0x0034 fifo 0 t d
  | .channel c => presentDoorbells 64 (stopFree c 5 (pulse 10 0x0034 (bufferSev d c) fifo 0 d))
  | .queue fn q => queueReset (32 * fn + q) 2 (pulse 10 0x0034 1 fifo 0 d)
  | .other src => warmReset 5 src (pulse src 0x0034 3 fifo 0 d)
/-- FIFO_WORD_UNCORRECTABLE (R391). -/
def execFifoWordUncorrectable (home : FifoHome) (fifo now : Nat) (s : State) : Host.Outcome State Fault Refusal :=
  actOn (homeExists home) (fun d => fifoLost home fifo (atTime now d)) s

end Sys2Proof.Machine
end

