-- ==== Sys2Proof/Machine/Security.lean ====
section
/-! DEFINITION. Trust, keys and isolation (17): SPDM and secured sessions, IDE and TDISP, installation and erasure of keys, wrapped
keys, debug unlock. -/
namespace Sys2Proof.Machine

/-- Changes the security block. -/
def setSec (x : Sec) (d : Dev) : Dev := { d with sec := x }

/-! ## SPDM (R431, R432; DSP0274 for codes and order, log 36) -/

/-- Does a DOE request of a link's physical function reach the block: its link is up, and requests are served (R431, R432)? -/
def doeServed (d : Dev) (l : Nat) : Bool := linkPresent d l && (link d l).up && served d
/-- An answer on the DOE mailbox of a link: the request's code, an error code or 0, what it carries. -/
def answer (l req err : Nat) (body : List Nat) (d : Dev) : Dev := emit (.doe l req err body) d
/-- How far the connection of a link has come. -/
def connOf (d : Dev) (l : Nat) : Nat := tabGet 0 d.sec.conns l
/-- The connection comes to a step. -/
def setConn (l n : Nat) (d : Dev) : Dev := setSec { d.sec with conns := tabPut 0 d.sec.conns l n } d
/-- A request outside a secured session: it needs the connection at a step, else it is answered with UnexpectedRequest. -/
def spdm (l req need : Nat) (f : Dev → Dev) (d : Dev) : Dev :=
  if !doeServed d l then d else if connOf d l < need then answer l req 4 [] d else f d
/-- GET_VERSION (R431): SPDM 1.2; the connection begins anew. -/
def execGetVersion (link now : Nat) (s : State) : Host.Outcome State Fault Refusal :=
  actOn (isLink link) (fun d => spdm link 0x84 0 (fun d => answer link 0x84 0 [0x12] (setConn link 1 d)) (atTime now d)) s
/-- GET_CAPABILITIES (R431). -/
def execGetCapabilities (link now : Nat) (s : State) : Host.Outcome State Fault Refusal :=
  actOn (isLink link) (fun d => spdm link 0xE1 1 (fun d => answer link 0xE1 0 [] (setConn link (max 2 (connOf d link)) d)) (atTime now d)) s
/-- NEGOTIATE_ALGORITHMS (R431): the one set of algorithms the device has. -/
def execNegotiateAlgorithms (link now : Nat) (s : State) : Host.Outcome State Fault Refusal :=
  actOn (isLink link) (fun d => spdm link 0xE3 2 (fun d => answer link 0xE3 0 [] (setConn link 3 d)) (atTime now d)) s
/-- GET_DIGESTS (R429, R431): certificate slot 0 holds the chain. -/
def execGetDigests (link now : Nat) (s : State) : Host.Outcome State Fault Refusal :=
  actOn (isLink link) (fun d => spdm link 0x81 3 (answer link 0x81 0 [1]) (atTime now d)) s
/-- GET_CERTIFICATE (R429): the chain of slot 0. -/
def execGetCertificate (link now : Nat) (s : State) : Host.Outcome State Fault Refusal :=
  actOn (isLink link) (fun d => spdm link 0x82 3 (answer link 0x82 0 [Config.certificateChain]) (atTime now d)) s
/-- CHALLENGE (R431): the digest of the measurements, under a signature. -/
def execChallenge (link now : Nat) (s : State) : Host.Outcome State Fault Refusal :=
  actOn (isLink link) (fun d =>
    spdm link 0x83 3 (fun d => answer link 0x83 0 [Config.measurementDigest d.pwr.image d.sec.debug] d) (atTime now d)) s
/-- The measurement blocks (R430). -/
def measurements (d : Dev) : List Nat := [1, 2, 3, 4].map fun i => Config.measurement i d.pwr.image d.sec.debug
/-- GET_MEASUREMENTS (R430). -/
def execGetMeasurements (link now : Nat) (s : State) : Host.Outcome State Fault Refusal :=
  actOn (isLink link) (fun d => spdm link 0xE0 3 (fun d => answer link 0xE0 0 (measurements d) d) (atTime now d)) s

/-! ## Secured sessions (R432) -/

/-- The lowest-numbered free session of the 8. -/
def freeSession (d : Dev) : Option Nat := (List.range 8).find? fun n => (tabFind d.sec.sessions n).isNone
/-- KEY_EXCHANGE (R432, R433): a session is opened; Busy when 8 are, or while the random source has failed. -/
def keyExchange (l : Nat) (d : Dev) : Dev :=
  match freeSession d with
  | none => answer l 0xE4 3 [] d
  | some n =>
    if d.sec.rngFail then answer l 0xE4 3 [] d
    else answer l 0xE4 0 [n] (setSec { d.sec with sessions := tabSet d.sec.sessions n { link := l, last := d.tbs.ns } } d)
/-- KEY_EXCHANGE (R432). -/
def execKeyExchange (link now : Nat) (s : State) : Host.Outcome State Fault Refusal :=
  actOn (isLink link) (fun d => spdm link 0xE4 3 (keyExchange link) (atTime now d)) s
/-- A message of session n is verified: a failure is answered with DecryptError and is a security event (R453); otherwise the
session has been heard, and `f` acts with its link. -/
def verifiedMsg (n req : Nat) (ok : Bool) (f : Spdm → Dev → Dev) (d : Dev) : Dev :=
  match tabFind d.sec.sessions n with
  | none => d
  | some x =>
    if !doeServed d x.link then d
    else if !ok then answer x.link req 6 [] (secEvent 4 256 d)
    else f x (setSec { d.sec with sessions := tabSet d.sec.sessions n { x with last := d.tbs.ns } } d)
/-- A message that is carried in a session that is open. -/
def secured (n req : Nat) (ok : Bool) (f : Nat → Dev → Dev) (d : Dev) : Dev :=
  verifiedMsg n req ok (fun x d => if x.open_ then f x.link d else answer x.link req 4 [] d) d
/-- There are 8 sessions. -/
def isSession (n : Nat) : Bool := decide (n < 8)
/-- FINISH (R431): the handshake of a session is complete. -/
def finish (n : Nat) (ok : Bool) (d : Dev) : Dev :=
  verifiedMsg n 0xE5 ok (fun x d =>
    if x.open_ then answer x.link 0xE5 4 [] d
    else answer x.link 0xE5 0 []
      (setSec { d.sec with sessions := tabSet d.sec.sessions n { x with open_ := true, last := d.tbs.ns } } d)) d
/-- FINISH (R431). -/
def execFinish (session : Nat) (ok : Bool) (now : Nat) (s : State) : Host.Outcome State Fault Refusal :=
  actOn (isSession session) (fun d => finish session ok (atTime now d)) s
/-- HEARTBEAT (R432). -/
def execSpdmHeartbeat (session : Nat) (ok : Bool) (now : Nat) (s : State) : Host.Outcome State Fault Refusal :=
  actOn (isSession session) (fun d => secured session 0xE8 ok (fun l => answer l 0xE8 0 []) (atTime now d)) s
/-- KEY_UPDATE (R431): the session's keys are the standard's matter. -/
def execKeyUpdate (session : Nat) (ok : Bool) (now : Nat) (s : State) : Host.Outcome State Fault Refusal :=
  actOn (isSession session) (fun d => secured session 0xE9 ok (fun l => answer l 0xE9 0 []) (atTime now d)) s
/-- A session ends. -/
def endSession (n : Nat) (d : Dev) : Dev := setSec { d.sec with sessions := tabErase d.sec.sessions n } d
/-- END_SESSION (R432). -/
def execEndSession (session : Nat) (ok : Bool) (now : Nat) (s : State) : Host.Outcome State Fault Refusal :=
  actOn (isSession session) (fun d =>
    secured session 0xEC ok (fun l d => answer l 0xEC 0 [] (endSession session d)) (atTime now d)) s
/-- SPDM_SESSION_TIMEOUT (R432): a session silent for 60 s ends. -/
def sessionTimeout (n : Nat) (d : Dev) : Dev :=
  match tabFind d.sec.sessions n with
  | none => d
  | some x => if x.last + 60000000000 ≤ d.tbs.ns then endSession n d else d
/-- SPDM_SESSION_TIMEOUT (R432). -/
def execSpdmSessionTimeout (session now : Nat) (s : State) : Host.Outcome State Fault Refusal :=
  actOn (isSession session) (fun d => sessionTimeout session (atTime now d)) s

/-! ## Installation of keys (R437 to R439, R446) -/

/-- The code of an installation (R438): the checks run in table order. -/
def installErrs (m : Nat) (d : Dev) : List Err :=
  let op := byteAt m 0
  let t := bytesAt m 2 2
  let b := bytesAt m 4 2
  firstOf [
    (byteAt m 1 != 0 || bytesAt m 6 2 != 0 || !(op == 1 || op == 2) || decide (255 < t) || (op == 2 && (t != 0 || b != 0)),
      .range),
    ((op == 1 && (tenantOf d t).st != 1) || (op == 2 && d.sec.opKeyed) || d.sec.debug, .state),
    (d.sec.rngFail, .busy),
    (op == 1 && b != (tenantOf d t).bound, .conflict)]
/-- Does a slot hold a block? -/
def holdsBlocks (d : Dev) (t : Nat) : Bool := d.wrd.blocks.any fun e => e.2.owner == t && !e.2.quarantined
/-- The salt of a slot that is keyed (R446): a new one is drawn while it holds no block; otherwise the salt in force stays, and the
blocks it holds are sealed if it was drawn under another identity. -/
def takeSalt (t identity : Nat) (d : Dev) : Dev :=
  let x := tenantOf d t
  match holdsBlocks d t, x.salt with
  | true, some (_, old) =>
    setWrd { d.wrd with blocks := d.wrd.blocks.map fun e =>
      if e.2.owner = t then (e.1, { e.2 with isSealed := decide (old ≠ identity) }) else e } d
  | _, _ => rngNext (setTenant t { x with salt := some (rngBits 256 d, identity) } d)
/-- A tenant root key is installed (R437, R439): the generation rises, the keys are derived, the counters restart, the slot is
KEYED. -/
def installTenant (t key : Nat) (d : Dev) : Dev :=
  let identity := Config.derivedKey 0 key % 2 ^ 128
  let d1 := objSet 0x2052 t identity (objCount 32 0x2053 t 1 d)
  let d2 := takeSalt t identity d1
  clearLast t (setTenant t { tenantOf d2 t with st := 2, root := some key, segs := [] } d2)
/-- The operator key is installed (R439, R440). -/
def installOperator (key : Nat) (d : Dev) : Dev :=
  clearLast 256 (setSec { d.sec with opKeyed := true, opKey := Config.derivedKey 1 key } (objCount 32 0x1612 0 1 d))
/-- The TDISP state of a function as SEC_SLOT_STATE codes it: 1 CONFIG_UNLOCKED to 4 ERROR. -/
def tdispCode (d : Dev) (fn : Nat) : Nat := tabGet 0 d.sec.tdisp fn + 1
/-- The response of an installation (R438): CODE, SLOT; on success GEN, IDENTITY, serial number, BINDING and TDISP state. -/
def installAnswer (l m : Nat) (e : Err) (d : Dev) : Dev :=
  let op := byteAt m 0
  let t := bytesAt m 2 2
  if e ≠ .ok then answer l 0xFE 0 [e.code, t] d
  else if op = 1 then
    answer l 0xFE 0 [0, t, objGet d 0x2053 t, objGet d 0x2052 t, Config.serial, (tenantOf d t).bound,
      tdispCode d (tenantOf d t).bound] d
  else answer l 0xFE 0 [0, t, objGet d 0x1612 0, 0, Config.serial, 0, 0] d
/-- An installation request: 40 bytes inside a secured session (R438). -/
def install (n m : Nat) (ok : Bool) (d : Dev) : Dev :=
  secured n 0xFE ok (fun l d =>
    match (installErrs m d).head? with
    | some e => installAnswer l m e d
    | none =>
      installAnswer l m .ok
        (if byteAt m 0 = 1 then installTenant (bytesAt m 2 2) (bytesAt m 8 32) d else installOperator (bytesAt m 8 32) d)) d
/-- INSTALL_TENANT (R438). -/
def execInstallTenant (session message : Nat) (ok : Bool) (now : Nat) (s : State) : Host.Outcome State Fault Refusal :=
  actOn (isSession session) (fun d => install session message ok (atTime now d)) s
/-- INSTALL_OPERATOR (R438). -/
def execInstallOperator (session message : Nat) (ok : Bool) (now : Nat) (s : State) : Host.Outcome State Fault Refusal :=
  actOn (isSession session) (fun d => install session message ok (atTime now d)) s

/-! ## IDE (R434) -/

/-- An IDE stream of a link. -/
def ideStream (d : Dev) (l n : Nat) : Ide := tabGet {} d.sec.ide (32 * l + n)
/-- Changes it. -/
def setIde (l n : Nat) (x : Ide) (d : Dev) : Dev := setSec { d.sec with ide := tabPut {} d.sec.ide (32 * l + n) x } d
/-- IDE_KM (R434): the key of one of the three sub-streams in one direction; a stream with all six is secure (log 37). A stream that
the link does not support is answered with InvalidRequest. -/
def ideKm (n stream place key : Nat) (ok : Bool) (d : Dev) : Dev :=
  secured n 0xFE ok (fun l d =>
    if 16 < stream || 5 < place then answer l 0xFE 1 [] d
    else
      let x := ideStream d l stream
      let keys := tabSet x.keys place key
      answer l 0xFE 0 [] (setIde l stream { x with keys := keys, secure := decide (keys.length = 6) } d)) d
/-- IDE_KM (R434). -/
def execIdeKm (session stream place key : Nat) (ok : Bool) (now : Nat) (s : State) : Host.Outcome State Fault Refusal :=
  actOn (isSession session) (fun d => ideKm session stream place key ok (atTime now d)) s
/-- The tenant that is bound to a function. -/
def tenantAt (d : Dev) (fn : Nat) : Option Nat := (d.tenants.find? fun e => e.2.st != 0 && e.2.bound == fn).map (·.1)
/-- An integrity failure of a stream (R434, R453): it is insecure, the interface bound to it goes to ERROR. -/
def ideFailure (l n : Nat) (d : Dev) : Dev :=
  let x := ideStream d l n
  let t := x.fn.bind (tenantAt d)
  let d1 := setIde l n { x with secure := false } d
  secEvent 8 (t.getD 256) ((t.map fun t => interfaceError t d1).getD d1)
/-- IDE_INTEGRITY_FAILURE (R434). -/
def execIdeIntegrityFailure (link stream now : Nat) (s : State) : Host.Outcome State Fault Refusal :=
  actOn (isLink link && decide (stream ≤ 16)) (fun d => ideFailure link stream (atTime now d)) s

/-! ## TDISP (R435) -/

/-- A TDISP request about a function: one that is not behind the session's link is answered with INVALID_INTERFACE. -/
def tdisp (n fn : Nat) (ok : Bool) (f : Nat → Dev → Dev) (d : Dev) : Dev :=
  secured n 0xFE ok (fun l d =>
    if !isFunction fn || linkOfFn d fn != l then answer l 0xFE 0x101 [] d else f l d) d
/-- The TDISP state of a function changes. -/
def setTdisp (fn k : Nat) (d : Dev) : Dev := setSec { d.sec with tdisp := tabPut 0 d.sec.tdisp fn k } d
/-- LOCK_INTERFACE_REQUEST (R435): only of a function that is bound; the selective stream that it names is bound to it (log 37). -/
def lockInterface (l fn stream : Nat) (d : Dev) : Dev :=
  if tabGet 0 d.sec.tdisp fn ≠ 0 || (tenantAt d fn).isNone then answer l 0xFE 4 [] d
  else
    let d1 := setTdisp fn 1 d
    answer l 0xFE 0 [] (if 1 ≤ stream && decide (stream ≤ 16) then setIde l stream { ideStream d1 l stream with fn := some fn } d1 else d1)
/-- LOCK_INTERFACE_REQUEST (R435). -/
def execLockInterfaceRequest (session fn stream : Nat) (ok : Bool) (now : Nat) (s : State) : Host.Outcome State Fault Refusal :=
  actOn (isSession session) (fun d => tdisp session fn ok (fun l => lockInterface l fn stream) (atTime now d)) s
/-- START_INTERFACE_REQUEST (R435): only of a slot that is KEYED. -/
def startInterface (l fn : Nat) (d : Dev) : Dev :=
  if tabGet 0 d.sec.tdisp fn ≠ 1 || ((tenantAt d fn).map fun t => (tenantOf d t).st) != some 2 then answer l 0xFE 4 [] d
  else answer l 0xFE 0 [] (setTdisp fn 2 d)
/-- START_INTERFACE_REQUEST (R435). -/
def execStartInterfaceRequest (session fn : Nat) (ok : Bool) (now : Nat) (s : State) : Host.Outcome State Fault Refusal :=
  actOn (isSession session) (fun d => tdisp session fn ok (fun l => startInterface l fn) (atTime now d)) s
/-- STOP_INTERFACE_REQUEST (R435): R40 applies to the tenant of an interface that is locked or runs; its streams are bound no more. -/
def stopInterface (l fn : Nat) (d : Dev) : Dev :=
  let k := tabGet 0 d.sec.tdisp fn
  if k = 0 then answer l 0xFE 4 [] d
  else
    let d1 := if k = 3 then d else ((tenantAt d fn).map fun t => tenantReset t d).getD d
    let d2 := setTdisp fn 0 d1
    answer l 0xFE 0 [] (setSec { d2.sec with ide := d2.sec.ide.map fun e =>
      (e.1, if e.2.fn = some fn then { e.2 with fn := none } else e.2) } d2)
/-- STOP_INTERFACE_REQUEST (R435). -/
def execStopInterfaceRequest (session fn : Nat) (ok : Bool) (now : Nat) (s : State) : Host.Outcome State Fault Refusal :=
  actOn (isSession session) (fun d => tdisp session fn ok (fun l => stopInterface l fn) (atTime now d)) s

/-! ## The random source (R433) -/

/-- RNG_HEALTH_FAILURE (R433): RNG_FAIL is set, and its fault stands. -/
def rngFailure (d : Dev) : Dev := level 8 0x0070 3 0 0 (setSec { d.sec with rngFail := true } d)
/-- RNG_HEALTH_FAILURE (R433). -/
def execRngHealthFailure (now : Nat) (s : State) : Host.Outcome State Fault Refusal := act (fun d => rngFailure (atTime now d)) s

/-! ## Erasure (R440, R450) -/

/-- A critical write that erases what its own context is checked with: the counter is taken first, and the erasure clears it
(R407, R409); it is complete before the acknowledgement (R440). -/
def eraseWrite (q : Req) (idx sub v : Nat) (errs : Dev → List Err) (erase : Dev → Dev) (clear : Dev → Dev) (d : Dev) : Dev :=
  decideWrite q idx sub (fun d => earned [(decide (255 < v), .type), (v != 1, .range)] ++ errs d) (refuse q idx sub)
    (fun d0 => clear (accept q idx sub (objSet idx sub v (erase d0)))) d
/-- The write behind TENANT_KEY_ERASE (R440). -/
def tenantEraseWrite (q : Req) (tenant value : Nat) : Dev → Dev :=
  eraseWrite q 0x2051 tenant value (fun d => earned [(!allFree d tenant, .state)])
    (eraseTenantKeys tenant) (clearLast tenant)
/-- TENANT_KEY_ERASE (R440): only while every session of the tenant is FREE. -/
def execTenantKeyErase (q : Req) (tenant value : Nat) (s : State) : Host.Outcome State Fault Refusal :=
  actOn (isSlot tenant) (tenantEraseWrite q tenant value) s
/-- The operator key is erased (R440). -/
def eraseOperator (d : Dev) : Dev := clearLast 256 (setSec { d.sec with opKeyed := false, opKey := 0 } d)
/-- The write behind OPERATOR_KEY_ERASE (R440). -/
def operatorEraseWrite (q : Req) (value : Nat) : Dev → Dev :=
  eraseWrite q 0x1611 0 value (fun _ => []) eraseOperator (clearLast 256)
/-- OPERATOR_KEY_ERASE (R440). -/
def execOperatorKeyErase (q : Req) (value : Nat) (s : State) : Host.Outcome State Fault Refusal :=
  act (operatorEraseWrite q value) s
/-- Is every session slot FREE? -/
def noSessions (d : Dev) : Bool := d.sess.all fun e => e.2.st == .free
/-- Every key set is erased (R450). -/
def eraseAll (d : Dev) : Dev :=
  let d1 := forEach (tabKeys d.tenants) eraseTenantKeys d
  let d2 := eraseOperator d1
  clearLast 257 (setPair { d2.pair with keyed := false } d2)
/-- A debug unlock is accepted (R450): a security event, every key set erased, a warm reset with debug unlocked. -/
def debugUnlock (q : Req) (d : Dev) : Dev :=
  let d1 := clearLast 256 (accept q 0x1610 0 (objSet 0x1610 0 1 (eraseAll (secEvent 7 257 d))))
  warmReset 6 0 (setSec { d1.sec with debug := true } d1)
/-- The write behind DEBUG_UNLOCK (R450). -/
def debugWrite (q : Req) (value : Nat) : Dev → Dev :=
  decideWrite q 0x1610 0
    (fun d => earned [(decide (255 < value), .type), (value != 1, .range), (!noSessions d, .state)])
    (refuse q 0x1610 0) (debugUnlock q)
/-- DEBUG_UNLOCK (R450): only while every session slot is FREE. -/
def execDebugUnlock (q : Req) (value : Nat) (s : State) : Host.Outcome State Fault Refusal :=
  act (debugWrite q value) s

/-! ## Wrapped keys (R441 to R443) -/

/-- Is the form of a blob wrong (R441)? -/
def blobBad (stream : Bool) (v : Nat) : Bool :=
  let suite := byteAt v 1
  byteAt v 0 != 1 || (if stream then !(suite == 1 || suite == 2) else suite != 3) ||
    byteAt v 2 != (if suite = 1 then 16 else 32) || byteAt v 3 != 0
/-- The plaintext of a blob under a tenant's wrap key: the key padded to 32 bytes, the salt. -/
def unwrappedOf (d : Dev) (t v : Nat) : Nat := Config.unwrapped ((tenantOf d t).root.getD 0) v % 256 ^ 44
/-- Does a blob fail to unwrap: its tag is wrong, or the key's padding is not zero? -/
def unwrapFails (d : Dev) (t v : Nat) (tagOk : Bool) : Bool :=
  !tagOk || bytesAt (unwrappedOf d t v) (byteAt v 2) (32 - byteAt v 2) != 0
/-- A key write is refused: a failure to unwrap is counted and is a security event (R441). -/
def keyRefused (q : Req) (idx sub t : Nat) (e : Err) (d : Dev) : Dev :=
  refuse q idx sub e (if e = .integrity then secEvent 3 t (objCount 32 0x5134 t 1 d) else d)
/-- The codes of a stream key (R255, R441, R443): while a previous key is kept a further write is E_BUSY. -/
def streamKeyErrs (s e : Nat) (v : Payload) (tagOk : Bool) (d : Dev) : List Err :=
  let x := dest d s e
  typeErrs (0x3180 + e) v ++
    earned [(!([SessSt.armed, .running, .paused, .suspended].contains (sess d s).st), .state), (blobBad true v.val, .range),
      (x.prevKey.isSome && decide (d.tbs.ns < x.prevUntil), .busy), (unwrapFails d (ownerOf d s) v.val tagOk, .integrity)]
/-- A stream key is accepted: it takes effect at the next stitch (R255, R443), and the lining is told (R196). -/
def streamKeyAct (s e v : Nat) (d : Dev) : Dev :=
  let d1 := updDest s e (fun x => { x with newKey := some (byteAt v 1, unwrappedOf d (ownerOf d s) v) }) d
  let d2 := if d1.pke.destWaits.contains (s, e) then d1
            else { d1 with pke := { d1.pke with destWaits := d1.pke.destWaits ++ [(s, e)] } }
  noteChange s (0x3180 + e) d2
/-- A write of a stream key. -/
def streamKeyWrite (q : Req) (s e : Nat) (v : Payload) (tagOk : Bool) (d : Dev) : Dev :=
  decideWrite q (0x3180 + e) s (streamKeyErrs s e v tagOk) (fun c d0 => keyRefused q (0x3180 + e) s (ownerOf d0 s) c d0)
    (fun d0 => accept q (0x3180 + e) s (streamKeyAct s e v.val d0)) d
/-- STREAM_KEY_WRITE (R441, R443). -/
def execStreamKeyWrite (q : Req) (slot dest : Nat) (v : Payload) (tagOk : Bool) (s : State) : Host.Outcome State Fault Refusal :=
  actOn (isSlot slot && decide (dest < 64)) (streamKeyWrite q slot dest v tagOk) s
/-- PREVIOUS_KEY_EXPIRY (R443): the retransmission hold has passed. -/
def previousExpiry (s e : Nat) (d : Dev) : Dev :=
  let x := dest d s e
  if x.prevKey.isSome && decide (x.prevUntil ≤ d.tbs.ns) then setDest s e { x with prevKey := none } d else d
/-- PREVIOUS_KEY_EXPIRY (R443). -/
def execPreviousKeyExpiry (slot dest now : Nat) (s : State) : Host.Outcome State Fault Refusal :=
  actOn (isSlot slot && decide (dest < 64)) (fun d => previousExpiry slot dest (atTime now d)) s
/-- The codes of a segment key (R441): a blob of zeros needs no check. -/
def segmentKeyErrs (t k : Nat) (v : Payload) (tagOk : Bool) (d : Dev) : List Err :=
  typeErrs (0x2060 + k) v ++
    if v.val = 0 then []
    else earned [(blobBad false v.val, .range), (unwrapFails d t v.val tagOk, .integrity)]
/-- The slot takes the key, or is emptied. -/
def segmentKeyAct (t k v : Nat) (d : Dev) : Dev :=
  let x := tenantOf d t
  setTenant t { x with segs := if v = 0 then tabErase x.segs k else tabSet x.segs k (bytesAt (unwrappedOf d t v) 0 32) } d
/-- A write of a segment key. -/
def segmentKeyWrite (q : Req) (t k : Nat) (v : Payload) (tagOk : Bool) (d : Dev) : Dev :=
  decideWrite q (0x2060 + k) t (segmentKeyErrs t k v tagOk) (keyRefused q (0x2060 + k) t t)
    (fun d0 => accept q (0x2060 + k) t (segmentKeyAct t k v.val d0)) d
/-- SEGMENT_KEY_WRITE (R441). -/
def execSegmentKeyWrite (q : Req) (tenant k : Nat) (v : Payload) (tagOk : Bool) (s : State) : Host.Outcome State Fault Refusal :=
  actOn (isSlot tenant && decide (k < 16)) (segmentKeyWrite q tenant k v tagOk) s

/-! ## Registers -/

/-- SEC_EVENT_CNT_CLR (R453). -/
def execSecEventCntClr (who : Caller) (s : State) : Host.Outcome State Fault Refusal :=
  act (regGate who Reg.secCtrl.base false (regSet Reg.secEventCnt.base 0)) s
/-- SEC_STAT. -/
def secStat (d : Dev) : Nat :=
  b2n d.sec.debug + b2n d.sec.opKeyed * 2 + b2n d.sec.rngFail * 4 + d.sec.sessions.length * 16 +
    (d.tenants.filter fun e => e.2.st == 2).length * 256
/-- SEC_SLOT_STATE[t]. -/
def slotState (d : Dev) (t : Nat) : Nat :=
  let x := tenantOf d t
  x.st + (if x.st = 0 then 0 else tdispCode d x.bound) * 4 +
    b2n (d.wrd.blocks.any fun e => e.2.owner == t && e.2.isSealed && !e.2.quarantined) * 32 + objGet d 0x2053 t % 65536 * 256

end Sys2Proof.Machine
end

