-- ==== Sys2Proof/Machine/Flags.lean ====
section
/-! DEFINITION. What registers and objects show (R9, R399, R400): the status words, flags and published values that follow from
the state, each from one function of it; every other place shows the value kept for it. -/
namespace Sys2Proof.Machine

/-! ## Objects of sessions, tenants, linings -/

/-- The published layout of a window, 0x3040:s to 0x3046:s (R85, R87): once the session, or the lining whose standby slot it is,
has its window. -/
def layoutObj (d : Dev) (idx s : Nat) : Nat :=
  let q := intakePrm d s
  let parts := partsOf q
  let off := fun k => (parts.getD k ⟨0, 0, 0, 1⟩).off
  match (sess d s).window with
  | none => objDefault idx s
  | some o =>
    if idx = 0x3040 then o
    else if idx = 0x3041 then strideOf q
    else if idx = 0x3042 then (parts.getD 0 ⟨0, 0, 0, 1⟩).pitch + (parts.getD 1 ⟨0, 0, 0, 1⟩).pitch * 2 ^ 16
    else if idx = 0x3043 then off 1
    else if idx = 0x3044 then (if planar (q 0x301E) then off 2 else 0)
    else if idx = 0x3045 then (if q 0x3031 = 1 then off 3 else 0)
    else if q 0x3032 = 1 then off 4 else 0
/-- An entry of 0x5068:s: the rates of a destination (07). -/
def destRates (d : Dev) (s e : Nat) : Nat :=
  let x := dest d s e
  x.committed % 2 ^ 32 + min 65535 (x.qd / 2000000) * 2 ^ 32 + x.layer % 256 * 2 ^ 48 + b2n (isBinding d s e) * 2 ^ 56 +
    b2n x.timedOut * 2 ^ 57
/-- 0x30C6:s: next sequence number, ROC, TS_BASE (R259). -/
def transportObj (x : Session) : Nat :=
  x.tx.next % 65536 + x.tx.next / 65536 % 2 ^ 32 * 2 ^ 16 + x.tx.tsBase % 2 ^ 32 * 2 ^ 48
/-- 0x4006:l: bit i for each retained entry of a lining that is held (R203, R228). -/
def heldEntries (d : Dev) (l : Nat) : Nat :=
  let es := retained (stream d (512 + l))
  sumBy (fun i => if (lining d l).held.contains (es.getD i 0) then 2 ^ i else 0) (List.range es.length)
/-- The command that waits (R53); a splice that waits shows a value that the manual leaves open (log 25). -/
def pendingObj (d : Dev) (s : Nat) : Nat :=
  if (sess d s).pend ≤ 8 then (sess d s).pend else 1 + Config.freeValue d.freeCtr % 8
/-- Session objects that follow from the state. -/
def sessionObj (d : Dev) (idx s : Nat) : Option Nat :=
  let x := sess d s
  let st := stream d (liveSid s)
  if idx = 0x3001 then some x.st.code
  else if idx = 0x3002 then some (pendingObj d s)
  else if idx = 0x3005 then some x.cause
  else if 0x3040 ≤ idx && idx ≤ 0x3046 then some (layoutObj d idx s)
  else if idx = 0x3051 then some (if x.st = .free then 0 else refSlots d (liveSid s))
  else if idx = 0x3052 then some (slotStates st (retained st))
  else if idx = 0x3065 then some (refreshState st)
  else if idx = 0x30A3 then some (oldestEntry x)
  else if idx = 0x30A4 then some (oldestClip x)
  else if idx = 0x30B2 then some (spliceState x)
  else if idx = 0x30C2 then some x.tx.ssrc
  else if idx = 0x30C6 then some (transportObj x)
  else if idx = 0x30D1 then some (learnedAddrs d s)
  else if 0x31C0 ≤ idx && idx < 0x3200 then some (destStatus d s (idx - 0x31C0))
  else if idx = 0x5068 then some (sumBy (fun e => destRates d s e * 2 ^ (64 * e)) (List.range 64))
  else if idx = 0x50C0 then some (destEgress d s)
  else if idx = 0x4006 then some (heldEntries d s)
  else none
/-- Tenant objects that follow from the state. -/
def tenantObj (d : Dev) (idx t : Nat) : Option Nat :=
  if idx = 0x2000 then some (tenantOf d t).st
  else if idx = 0x2005 then some (slotsInUse d t)
  else if idx = 0x2006 then some (quotaCharged d 256 t)
  else if 0x2030 ≤ idx && idx < 0x2040 then some (blocksHeld d t (idx - 0x2030))
  else if idx = 0x2050 then some (lastOf d t 0 + lastOf d t 1 * 2 ^ 64)
  else if 0x2100 ≤ idx && idx < 0x2140 then some (libValue d t (idx - 0x2100))
  else none

/-! ## Objects of the device -/

/-- The devices' identity, security and ring objects that follow from the state (R403, R428, R453). -/
def deviceObj (d : Dev) (idx sub : Nat) : Option Nat :=
  if idx = 0x1201 then some (packageObj d)
  else if idx = 0x1210 then some (domStat d sub % 65536)
  else if idx = 0x1215 then some (resetCause d % 2 ^ 32 + d.pwr.image * 2 ^ 32)
  else if idx = 0x1312 then some (deviceLoad d)
  else if idx = 0x1402 then some d.pair.st
  else if idx = 0x140C then some (serviceStatus d)
  else if idx = 0x1447 then some (reservedSpares d)
  else if idx = 0x1600 then some (b2n d.sec.debug)
  else if idx = 0x1602 then some (Config.measurementDigest (objGet d 0x1003 0) d.sec.debug % 256 ^ 48)
  else if idx = 0x1603 then some d.sec.sessions.length
  else if idx = 0x1802 then some (dramBudget d)
  else if idx = 0x1810 then some (poolOccupancy d sub)
  else if idx = 0x1814 then some (d.wrd.blocks.filter fun e => e.2.quarantined).length
  else if idx = 0x1822 then some (freezeObj d sub)
  else if idx = 0x1A03 then some (port d sub).link
  else if idx = 0x1C00 then some d.dsr.ring
  else if idx = 0x1C01 then some (startUpStep d)
  else if idx = 0x1C02 then some d.dsr.nodeId
  else if idx = 0x1C03 then some (b2n d.dsr.master)
  else none

/-- Is it an object that follows from the state, and what does it show? -/
def derivedObj (d : Dev) (idx sub : Nat) : Option Nat :=
  ((sessionObj d idx sub).orElse fun _ => tenantObj d idx sub).orElse fun _ =>
    ((deviceObj d idx sub).orElse fun _ => fltObj d idx sub).orElse fun _ =>
      (tbsObj d idx).orElse fun _ => monitorObj d idx sub
/-- The length and the value that an object shows (R398, R400). -/
def objShow (d : Dev) (idx sub : Nat) : Nat × Nat :=
  match objRowOf idx with
  | none => (0, 0)
  | some r =>
    if idx = 0x3084 then (r.lenOf (rateState d sub), r.plain (rateState d sub))
    else
      match derivedObj d idx sub with
      | some v => (r.lenMin, v % 256 ^ r.lenMin)
      | none => (r.lenOf (objGet d idx sub), r.plain (objGet d idx sub))

/-! ## Registers -/

/-- LOOM_CTRL (R64): EARLY_START and HANG_LIMIT are the state of 0x1310:0 and 0x1311:0. -/
def loomCtrlReg (d : Dev) : Nat :=
  fld d Reg.loomCtrl.base 0 1 + objGet d 0x1310 0 * 2 + objGet d 0x1311 0 * 2 ^ 4
/-- The parameter of the PHY that DMC_PHY_SEL[c] selects: CS and CA Vref by rank, CA delays by line, the others by lane and
rank. -/
def phyKey (d : Dev) (c : Nat) : Nat :=
  let v := regGet d (Reg.dmcPhySel.at c)
  let p := bits v 0 8
  if p = 1 || p = 9 then p + bits v 16 3 * 2 ^ 16
  else if p = 2 then p + bits v 8 7 * 2 ^ 8
  else v
/-- MBX_PARITY_LAST: STANDING while the mismatch of that register holds (R367). -/
def parityLast (d : Dev) : Nat :=
  let v := regGet d Reg.mbxParityLast.base
  setBits v 23 1 (b2n (bit v 22 && d.parityBad.any fun k => parityPlace k == bits v 0 22))
/-- The register of the physical function's pages that follows from the state, copy i. -/
def pfReg (d : Dev) (r : Reg) (i : Nat) : Option Nat :=
  match r with
  | .mbxParityLast => some (parityLast d)
  | .mbxLinkStat => some (linkStat d i)
  | .mbxReqStat => some (reqStat d 256)
  | .mbxRspStat => some (rspStat d 256)
  | .irqPrivPend => some (privPend d)
  | .dsrStat => some (dsrStat d)
  | .secStat => some (secStat d)
  | .secSlotState => some (slotState d i)
  | .loomCtrl => some (loomCtrlReg d)
  | .loomStatus => some (loomStatus d)
  | .loomTileState => some (tileStateReg (tile d i))
  | .loomRcStat => some (rcStat d)
  | .dmaIntakeWm => some (intakeWm d i)
  | .dmaHoldStatus => some (setBits (regGet d Reg.dmaHoldStatus.base) 0 8 d.hold)
  | .pkePtpTsTag => some (setBits d.pke.stampTag 24 7 (min 127 d.pke.stampsLost))
  | .pkePtpTsHi => some (d.pke.stampTime / 2 ^ 32 % 2 ^ 32)
  | .pkePtpTsLo => some (d.pke.stampTime % 2 ^ 32)
  | .pkePortStat => some (portStat d i)
  | .pkeFlowOcc => some (flowOcc d i)
  | .dmcChanStat => some (dmcChanStat d i)
  | .dmcPhyData => some (tabGet 0 (chan d i).phy (phyKey d i))
  | .dmcFrzQent => some (frzQent d i)
  | .wrdCtrl => some (objGet d 0x1812 0)
  | .wrdChanStat => some (wrdChanStat d i)
  | .wrdPairStat => some (wrdPairStat d i)
  | .tileStatus => some (tileStatus d i)
  | .tilePc => some (tilePcReg d i)
  | _ =>
    ((queueRead d r pfFn i).orElse fun _ => pwrRead d r i).orElse fun _ => (fltRead d r i).orElse fun _ => tbsRead d r
/-- The register of tenant t's pages that follows from the state. -/
def vfReg (d : Dev) (r : Reg) (t i : Nat) : Option Nat :=
  match r with
  | .vfReqStat => some (reqStat d t)
  | .vfRspStat => some (rspStat d t)
  | _ => queueRead d r t i
/-- Fields that may be read: all but those of access WO (R14). -/
def readMask (r : RegRow) : Nat := sumBy (fun f => if f.acc = .wo then 0 else maskOf f.lo f.len) r.flds
/-- What a read of a place shows (R9, R12, R14): 0 where the page holds no register. -/
def regShow (d : Dev) (key : Nat) : Nat :=
  match regRowOf key with
  | none => 0
  | some (r, i) =>
    let v := (if key < 0x4000000 then pfReg d r.reg i else vfReg d r.reg (key / 0x4000000 - 1) i).getD (regGet d key)
    Nat.land v (readMask r) % 2 ^ 32

end Sys2Proof.Machine
end

