-- ==== Sys2Proof/Machine/Spays.lean ====
section
/-! DEFINITION. The Spays requests READ, WRITE and DESCRIBE (16: R397 to R406), and what a write of an object without a row of its
own is checked for and does (R34, R39, R42, R45, R46, R53, R61, R87, R162, R227, R230, R244, R248, R255, R275, R291 to R296). -/
namespace Sys2Proof.Machine

/-! ## READ (R399, R400, R406) -/

/-- The segment limit of a caller's path (R406). -/
def segLimit : Caller → Nat
  | .node _ => 256
  | _ => 960
/-- The requester a snapshot belongs to (R406). -/
def snapKey : Caller → Nat
  | .vf t _ => t
  | .pf _ => 256
  | .node n => 257 + n
  | .firmware => 289
/-- The requester's snapshot, if it matches the request and is at most 10 ms old (R406). -/
def snapOf (d : Dev) (q : Req) (idx sub : Nat) : Option Snap :=
  (tabFind d.snaps (snapKey q.who)).bind fun s =>
    if s.idx == idx && s.sub == sub && s.tag == q.tag && decide (d.tbs.ns ≤ s.time + 10000000) then some s else none
/-- The codes a READ earns by its name and its caller (R397, R399, R402). -/
def readRights (d : Dev) (q : Req) (idx sub : Nat) : List Err :=
  match objRowOf idx with
  | none => [.index]
  | some r =>
    (if r.hasSub sub then [] else [.subindex]) ++ (if r.acc = .wo || !mayRead d q.who idx sub then [.access] else [])
/-- The codes a READ earns by its OFFSET (R406). -/
def readOffset (d : Dev) (q : Req) (idx sub off : Nat) : List Err :=
  let len := (objShow d idx sub).1
  if off = 0 then []
  else if len ≤ segLimit q.who then [.range]
  else
    match snapOf d q idx sub with
    | none => .state :: earned [(decide (len ≤ off), .range)]
    | some s => earned [(decide (s.len ≤ off), .range)]
/-- A segment of a value of `len` bytes (R406). -/
def segment (q : Req) (idx sub off len val : Nat) (d : Dev) : Dev :=
  respond q 1 .ok idx sub off len (min (segLimit q.who) (len - off)) (val / 256 ^ off) d
/-- A READ that passes its checks (R400, R406): at OFFSET 0 of a long value it takes the snapshot. -/
def readOk (q : Req) (idx sub off : Nat) (d : Dev) : Dev :=
  if off = 0 then
    let x := objShow d idx sub
    let d1 := if x.1 ≤ segLimit q.who then d
              else { d with snaps := tabSet d.snaps (snapKey q.who)
                                       { idx := idx, sub := sub, tag := q.tag, val := x.2, len := x.1, time := d.tbs.ns } }
    let d2 := segment q idx sub 0 x.1 x.2 d1
    if idx = 0x3002 && decide (8 < (sess d sub).pend) then freeNext d2 else d2
  else
    match snapOf d q idx sub with
    | some s => segment q idx sub off s.len s.val d
    | none => d
/-- READ at its instant (R406); a READ that carries a context breaks the layout of R404. -/
def readNow (q : Req) (idx sub off : Nat) (d : Dev) : Dev :=
  if q.crit.isSome then respond q 1 .range idx sub off 0 0 0 d
  else
    match lowest (readRights d q idx sub ++ readOffset d q idx sub off) with
    | some e => respond q 1 e idx sub off 0 0 0 d
    | none => readOk q idx sub off d
/-- Is the object one that a node in Standby or Sleep answers by itself (R424)? -/
def aonObject (idx : Nat) : Bool := idx == 0x1201 || (decide (0x1204 ≤ idx) && decide (idx ≤ 0x1207))
/-- A request that finds the dictionary not served (R424, R495): it waits; one of the Drawstring wakes a node in Standby or Sleep,
unless its always-on interface answers it. -/
def unserved (q : Req) (alone : Bool) (f : Dev → Dev) (d : Dev) : Dev :=
  match q.who with
  | .node _ =>
    if d.pwr.booted && d.pwr.resetAt.isNone && decide (2 ≤ d.pwr.state) then
      if alone then f d else setWake 0 d.tbs.ns d
    else d
  | _ => d
/-- READ (R406). -/
def read (q : Req) (idx sub off : Nat) (d0 : Dev) : Dev :=
  let d := atTime q.now d0
  if served d then readNow q idx sub off d else unserved q (aonObject idx) (readNow q idx sub off) d
/-- READ (R406). -/
def execRead (q : Req) (idx sub off : Nat) (s : State) : Host.Outcome State Fault Refusal := act (read q idx sub off) s

/-! ## DESCRIBE (R405) -/

/-- The codes a DESCRIBE earns (R397, R405); one that carries a context breaks the layout of R404. -/
def describeErrs (d : Dev) (q : Req) (idx sub : Nat) : List Err :=
  if q.crit.isSome then [.range]
  else nameErrs idx sub ++ (if (objRowOf idx).isSome && !mayDescribe d q.who idx sub then [.access] else [])
/-- The 16 bytes of a description (R405): the default is that of a value of up to 8 bytes that has one. -/
def describeBytes (r : ObjRow) (idx sub : Nat) : Nat :=
  let dflt := if r.lenMax ≤ 8 && r.fixed && r.acc != .wo && r.acc != .rwc then objDefault idx sub % 2 ^ 64 else 0
  r.ty.code + r.acc.code * 2 ^ 8 + r.lenMax % 65536 * 2 ^ 16 + b2n (!r.fixed) * 2 ^ 32 + b2n (r.subs == .slot) * 2 ^ 33 +
    r.maxSub % 256 * 2 ^ 40 + dflt * 2 ^ 64
/-- DESCRIBE at its instant (R405). -/
def describeNow (q : Req) (idx sub : Nat) (d : Dev) : Dev :=
  match objRowOf idx, lowest (describeErrs d q idx sub) with
  | some r, none => respond q 4 .ok idx sub 0 0 16 (describeBytes r idx sub) d
  | _, some e => respond q 4 e idx sub 0 0 0 0 d
  | none, none => d
/-- DESCRIBE (R405). -/
def describe (q : Req) (idx sub : Nat) (d0 : Dev) : Dev :=
  let d := atTime q.now d0
  if served d then describeNow q idx sub d else unserved q false id d
/-- DESCRIBE (R405). -/
def execDescribe (q : Req) (idx sub : Nat) (s : State) : Host.Outcome State Fault Refusal := act (describe q idx sub) s

/-! ## Parameters of a session (R45, R46, R52, R53, R61, R87, R162, R244) -/

/-- The rows by whose states a parameter is written (R45): the first row, the row of 0x3018:s, the same without re-admission
(R162), the row of 0x301F:s, and every state (R87). -/
inductive ParamRow where
  | fixed | live | rate | hold | always
deriving DecidableEq, Repr
/-- The row of an object at a session slot, if it is a parameter (R45, R87, R162, R244, R255, R291). -/
def paramRow (idx : Nat) : Option ParamRow :=
  if idx = 0x3036 then some .always
  else if [0x3018, 0x3019, 0x301A, 0x301D].contains idx then some .live
  else if idx = 0x3060 || idx = 0x3063 || (0x3070 ≤ idx && idx ≤ 0x3083) then some .rate
  else if [0x301F, 0x3034, 0x3035, 0x30C1, 0x30C5, 0x30D0].contains idx then some .hold
  else if (0x3010 ≤ idx && idx ≤ 0x301E) || (0x3030 ≤ idx && idx ≤ 0x3033) ||
      [0x3050, 0x3061, 0x3062, 0x30A0, 0x30A1, 0x30B3, 0x30C0, 0x30C3, 0x30C4].contains idx then some .fixed
  else none
/-- May a parameter of a row be written in a session state (R45)? -/
def paramState (r : ParamRow) (st : SessSt) : Bool :=
  match r with
  | .always => true
  | .fixed => st == .free || st == .defined
  | _ => st != .draining
/-- Does a change of the object wait for a frame boundary (R52, R155, R162)? -/
def waitsForFrame (idx : Nat) : Bool :=
  [0x3018, 0x3019, 0x301A, 0x301D, 0x3060, 0x3063, 0x307E, 0x307F].contains idx || (0x3070 ≤ idx && idx ≤ 0x3077)
/-- Ranges that the dictionary's row states in words (R161, R230): ring sizes, and the quantisers of every codec. -/
def paramRange (idx v : Nat) : Bool :=
  if idx = 0x30A0 then (1 ≤ v && v ≤ 15) || (16 ≤ v && v ≤ 8192 && v % 16 == 0)
  else if 0x3073 ≤ idx && idx ≤ 0x3075 then v == 0x7FFFFFFF || (decide (-12 ≤ signed 32 v) && decide (signed 32 v ≤ 255))
  else true
/-- The parameter set by which a live change is admitted (R61, R211): the effort in force, ladder steps counted. -/
def liveParams (d : Dev) (s idx v : Nat) : Params :=
  let p := (params d s).set idx v
  if idx = 0x3019 then p else p.set 0x3019 (effortPending d s)
/-- The blocks a live change of capture still needs (R59, R230, R333). -/
def liveNeed (d : Dev) (s : Nat) (p : Params) : List (Nat × Use) :=
  let has := fun f => !(blocksWith d fun b => f b.use).isEmpty
  let mezz := fun u => match u with
    | Use.mezzRecon i _ => i == s
    | _ => false
  (if p 0x301A = 2 && !has mezz then mezzBlocks s p else []) ++
    (if p 0x301A ≠ 0 && !has (· == .capture s) then ringUses s (p 0x30A0) else [])
/-- The codes of re-admission (R59, R61): a sum is tested if the change raises what the session holds in it. -/
def liveErrs (d : Dev) (s : Nat) (p : Params) : List Err :=
  let h := heldCharges (sess d s)
  let c := chargesOf d p
  let t := ownerOf d s
  let lnk := tenantLink d t
  earned [(decide (h.quota < c.quota) && decide (objGet d 0x2003 t < quotaCharged d s t + c.quota), .quota),
      (decide (h.tiles < c.tiles) && decide (tileLimit d < tilesCharged d s + c.tiles), .capacity),
      (decide (h.fabric < c.fabric) && decide (min 800000 (dramBudget d) < fabricCharged d s + c.fabric), .capacity),
      (decide (h.intake < c.intake) && decide (linkBudget d lnk < intakeCharged d s lnk + c.intake), .capacity)] ++
    blockErrs d t (liveNeed d s p)
/-- The checks that follow the range check (R45, R46, R87): the watermarks always; the combination check from DEFINED on; then, in a
later state, re-admission. -/
def laterErrs (r : ParamRow) (s idx v : Nat) (d : Dev) : List Err :=
  let st := (sess d s).st
  let p := (params d s).set idx v
  let water := earned [((idx == 0x3034 || idx == 0x3035) && decide (p 0x3034 ≤ p 0x3035), .conflict)]
  let combo := if st = .free || r = .hold || r = .always then [] else comboErrs d s p
  let admission := if r = .live && st != .free && st != .defined && combo.isEmpty then liveErrs d s (liveParams d s idx v) else []
  water ++ combo ++ admission
/-- The codes of a parameter write (R45, R46, R53, R60, R446). -/
def paramErrs (r : ParamRow) (s idx v : Nat) (d : Dev) : List Err :=
  let x := sess d s
  let later := laterErrs r s idx v d
  earned [(!paramState r x.st, .state), (!paramRange idx v, .range),
      ((x.pend != 0 || x.armWait.isSome) && r != .always, .busy),
      (idx == 0x30B3 && v != 0xFFFF && entryBarred d (ownerOf d s) v, .state)] ++
    (if paramState r x.st then later else [])
/-- A live change is admitted: its charges wait for the frame boundary, its blocks are reserved at once (R59, R61, R230). -/
def liveAct (s idx v : Nat) (d : Dev) : Dev :=
  let p := liveParams d s idx v
  let d1 := (allocAll (ownerOf d s) (liveNeed d s p) d).getD d
  setSess s { sess d1 s with newCharges := some (chargesOf d p) } d1
/-- The value in force until the frame boundary (R52); a write of the effort ends the ladder's steps (R212). -/
def holdForce (s idx : Nat) (d : Dev) : Dev :=
  let x := sess d s
  if idx = 0x3019 then
    setSess s { x with inForce := tabSet x.inForce idx (inForce d s idx - tabGet 0 d.ladder s) }
      { d with ladder := tabErase d.ladder s }
  else setSess s { x with inForce := tabSet x.inForce idx (inForce d s idx) } d
/-- A parameter write takes effect (R23, R45, R52, R61, R196): `w` is the kept form of the value. -/
def paramAct (r : ParamRow) (s idx v w : Nat) (d : Dev) : Dev :=
  let st := (sess d s).st
  if st = .free || st = .defined then objSetStitch idx s w d
  else
    let d1 := if r = .live then liveAct s idx v d else d
    let d2 := if waitsForFrame idx then holdForce s idx d1 else d1
    noteChange s idx (objSetStitch idx s w d2)

/-! ## Objects of the device and of tenants -/

/-- Does the tile limit under an enabled power cap fall below what is admitted (R32, R34)? -/
def capTooLow (d : Dev) (cap allowance : Nat) : Bool :=
  decide (1000 * tileBudget cap allowance < tilesCharged d 256 + 1000 * reservedSpares d)
/-- The codes of a write of a profile object (R34). Under Capped more spares are also refused where the tile budget less the new spares
falls below the admitted charges (log 99). -/
def profileErrs (idx v : Nat) (d : Dev) : List Err :=
  let cap := objGet d 0x1103 0
  let allow := objGet d 0x1105 0
  let on := objGet d 0x1102 0 == 1
  if idx = 0x1101 then earned [(!(d.sess.all fun e => e.2.st == .free) || !(activeLinings d).isEmpty, .state)]
  else if idx = 0x1104 then
    earned [(!isDense d && decide (tileLimit (reserveSpares v d) < tilesCharged d 256), .capacity)]
  else if idx = 0x1102 then earned [(v == 1 && capTooLow d cap allow, .capacity)]
  else if idx = 0x1103 then earned [(on && capTooLow d v allow, .capacity)]
  else if idx = 0x1105 then earned [(on && capTooLow d cap v, .capacity)]
  else []
/-- Reserved spares follow the profile and their number (R31, R227). -/
def profileAct (idx v : Nat) (d : Dev) : Dev :=
  if idx = 0x1101 then reserveSpares (if v = 0 then 0 else objGet d 0x1104 0) d
  else if idx = 0x1104 && !isDense d then reserveSpares v d
  else d

/-- Stretches of a cycle that are alike are one. -/
def mergeRuns : List (Nat × Bool) → List (Nat × Bool)
  | [] => []
  | (n, b) :: t =>
    match mergeRuns t with
    | [] => [(n, b)]
    | (m, c) :: u => if b = c then (n + m, c) :: u else (n, b) :: (m, c) :: u
/-- The last stretch runs on into the first across the boundary (R273). -/
def joinEnds : List (Nat × Bool) → List (Nat × Bool)
  | [] => []
  | [a] => [a]
  | a :: t =>
    match t.getLast? with
    | some z => if a.2 = z.2 then (a.1 + z.1, a.2) :: t.dropLast else a :: t
    | none => a :: t
/-- The windows of a class in a gate list, in ns: open stretches and closed ones, in the shortest stitch (R273, R275). -/
def classRuns (l c : Nat) : List (Nat × Bool) :=
  let n := gateCount l
  let before := sumBy (gateDur l) (List.range (n - 1))
  joinEnds (mergeRuns ((List.range n).map fun k =>
    (if k + 1 = n then 277777 - before else gateDur l k, gateOpen l k c)))
/-- The codes of a gate control list for port p (R275). -/
def gateErrs (p : Nat) (v : Payload) (d : Dev) : List Err :=
  let l := v.val
  let n := gateCount l
  let bad := n == 0 || decide (32 < n) || bytesAt l 1 3 != 0 || (List.range n).any fun k =>
    decide (gateDur l k < 100) || decide (277000 < gateDur l k) || bytesAt l (9 + 8 * k) 3 != 0
  let whole := fun c => (classRuns l c).all fun r => !r.2
  let short := fun c => decide (1 < (classRuns l c).length) && (classRuns l c).any fun r =>
    r.2 && decide (400 * r.1 < wireTime d p (objGet d 0x1A02 p + 26))
  earned [(v.len != 4 + 8 * n, .type), (bad, .range),
    (!bad && (decide (277000 ≤ sumBy (gateDur l) (List.range (n - 1))) || [0, 2, 3, 6].any whole ||
      ((classRuns l 1).any fun r => !r.2 && decide (15000 < r.1)) || (portPresent d p && (List.range 7).any short)), .conflict)]

/-- Does an address of a mirror or of exports name a logical port that the modes do not create (R245)? All zeros name none. -/
def absentPort (d : Dev) (v : Nat) : Bool := v != 0 && !portExists (objGet d 0x1A00 0) (byteAt v 16)
/-- Is a pair address outside its range (R227)? -/
def addressBad (v : Nat) : Bool := decide (7 < byteAt v 16) || bytesAt v 17 3 != 0
/-- The handle of a shadow copy is refused (R295, R329). -/
def shadowErrs (v : Nat) (d : Dev) : List Err :=
  earned [(v != 0 && !(handleOk d 256 v true && decide (2 ≤ v % 8)), .integrity)]
/-- The codes of the objects of the ports (R245, R248). -/
def portErrs (idx sub : Nat) (v : Payload) (d : Dev) : List Err :=
  let used := (enabledEntries d).filter fun x => byteAt x.2.2 1 == sub
  if idx = 0x1A01 then earned [(bit v.val 40 || v.val / 2 ^ 48 != 0, .range)]
  else if idx = 0x1A02 then earned [(used.any fun x => decide (v.val < largestIp d x.1 x.2.2), .conflict)]
  else if idx = 0x1A10 then gateErrs sub v d
  else if idx = 0x1A20 then
    earned [(used.any fun x =>
      let a := bytesAt x.2.2 0x18 16
      servesAddr d sub a && !servesAddr (objSet 0x1A20 sub v.val d) sub a, .conflict)]
  else if idx = 0x1A30 then
    earned [((List.range 8).any fun p => bit v.val p && !portExists (objGet d 0x1A00 0) p, .conflict)]
  else []
/-- The codes of the other objects of the device (R227, R284, R295, R347, R447, R479, R505). -/
def deviceErrs (idx : Nat) (v : Nat) (d : Dev) : List Err :=
  let paired := objGet d 0x1400 0 == 1
  if idx = 0x1106 then earned [(v / 16 != 0 || v % 4 == 3 || v / 4 % 4 == 3, .range)]
  else if idx = 0x1323 then earned [(objGet d 0x1320 0 == 1, .conflict)]
  else if idx = 0x1401 || idx = 0x1621 then earned [(paired, .state)]
  else if idx = 0x1404 then earned [(addressBad v, .range), (paired, .state), (absentPort d v, .conflict)]
  else if idx = 0x1505 then earned [(!tailOk d v, .conflict)]
  else if idx = 0x1A41 then earned [(!(enabledEntries d).isEmpty, .state)]
  else if idx = 0x1A44 then shadowErrs v d
  else []
/-- The codes of a tenant's objects (R39, R331). -/
def tenantErrs (idx t v : Nat) (d : Dev) : List Err :=
  if idx = 0x2002 then earned [(decide (v < slotsInUse d t), .conflict)]
  else if idx = 0x2003 then earned [(decide (v < quotaCharged d 256 t), .conflict)]
  else if idx = 0x2004 then earned [(decide (v < destCount d t), .conflict)]
  else if idx = 0x2011 then
    earned [(decide (7 < byteAt v 16) || byteAt v 19 != 0, .range), (absentPort d v, .conflict)]
  else if 0x2020 ≤ idx && idx < 0x2030 then earned [(decide (v < blocksHeld d t (idx - 0x2020)), .conflict)]
  else []

/-! ## WRITE (R398, R399) -/

/-- The codes of a write of an object without a row of its own, its access class apart. -/
def objErrs (idx sub : Nat) (v : Payload) (d : Dev) : List Err :=
  typeErrs idx v ++ rangeErrs idx v ++
    if idx = 0x3000 then earned [((sess d sub).st != .free, .state)]
    else
      match paramRow idx with
      | some r => paramErrs r sub idx v.val d
      | none => profileErrs idx v.val d ++ portErrs idx sub v d ++ deviceErrs idx v.val d ++ tenantErrs idx sub v.val d
/-- 0x1508:0: the clears of FLT_CTRL (R488). -/
def captureClear (v : Nat) (d : Dev) : Dev :=
  let d1 := if bit v 0 then firstClr d else d
  let d2 := if bit v 1 then worstClr d1 else d1
  let d3 := if bit v 2 then lostClr d2 else d2
  if bit v 3 then fltCntClr d3 else d3
/-- What a write of an object without a row of its own does. -/
def objAct (idx sub : Nat) (v : Payload) (d : Dev) : Dev :=
  match objRowOf idx with
  | none => d
  | some r =>
    let w := r.keep v.len v.val
    if idx = 0x1505 then setTail v.val d
    else if idx = 0x1506 then standingClear sub v.val d
    else if idx = 0x1507 then setFld Reg.fltCtrl.base 0 4 v.val d
    else if idx = 0x1508 then captureClear v.val d
    else if idx = 0x1821 then chanActionAct sub v.val d
    else
      match paramRow idx with
      | some p => paramAct p sub idx v.val w d
      | none => profileAct idx v.val (objSetStitch idx sub w d)
/-- A write of an object without a row of its own; a handle of a shadow that fails R329 is counted. -/
def plainWrite (q : Req) (idx sub : Nat) (v : Payload) (d : Dev) : Dev :=
  let own := fun d => if idx = 0x1821 then chanActionErrs sub v.val d ++ typeErrs idx v else objErrs idx sub v d
  decideWrite q idx sub own
    (fun e d0 =>
      let d1 := refuse q idx sub e d0
      if idx = 0x1A44 && e = .integrity && !handleOk d0 256 v.val true then handleRefused 256 v.val d1 else d1)
    (fun d0 => accept q idx sub (objAct idx sub v d0)) d

/-- A session command by its number (R44, R51). -/
def commandByNumber (q : Req) (s n : Nat) : Dev → Dev :=
  if n = 1 then defineCmd q s else if n = 2 then releaseCmd q s else if n = 3 then arm q s else if n = 4 then disarmCmd q s
  else if n = 5 then startCmd q s else if n = 6 then pauseCmd q s else if n = 7 then resumeCmd q s
  else if n = 8 then drainCmd q s else perform q 0x3003 s (fun _ => [.range]) id
/-- A block command by its number (R332). -/
def blockCommand (q : Req) (idx sub : Nat) (v : Payload) : Dev → Dev :=
  let holder := if idx = 0x1815 then 256 else sub
  if byteAt v.val 0 = 1 then blockAllocate q holder v
  else if byteAt v.val 0 = 2 then blockFree q holder v
  else perform q idx sub (fun _ => [.range]) id
/-- A tile action (R210, R227): whether the flash takes a retirement is not told here, and is left open (log 3). -/
def tileAction (q : Req) (v : Nat) (d : Dev) : Dev :=
  let t := bits v 0 7
  if bit v 7 || decide (1024 ≤ v) then perform q 0x1444 0 (fun _ => [.range]) id d
  else if v / 256 = 1 then tileReleaseWrite q t d
  else if v / 256 = 2 then freeNext (tileRetireWrite q t (freeBits 1 d == 1) d)
  else perform q 0x1444 0 (fun _ => [.range]) id d
/-- Objects whose writes have rows of their own: devices' settings and commands. -/
def deviceRow (q : Req) (idx : Nat) (v : Payload) : Option (Dev → Dev) :=
  if 0x1120 ≤ idx && idx ≤ 0x1130 then some (queueObjectWrite q idx 0 v)
  else if idx = 0x1200 then some (packageWrite q v.val)
  else if idx = 0x1202 then some (resetRequest q v.val)
  else if idx = 0x1324 then some (timeWrite q v)
  else if idx = 0x1400 then some (pairEnableWrite q v.val)
  else if idx = 0x140D then some (sessionsTakenWrite q v)
  else if idx = 0x1444 then some (tileAction q v.val)
  else if idx = 0x1445 then some (handOver q v.val)
  else if idx = 0x1446 then some (promoteWrite q v.val)
  else if idx = 0x1610 then some (debugWrite q v.val)
  else if idx = 0x1611 then some (operatorEraseWrite q v.val)
  else if idx = 0x1815 then some (blockCommand q idx 0 v)
  else if idx = 0x1A00 then some (portModeWrite q v.val)
  else if idx = 0x1A48 then some (flowCommand q v)
  else none
/-- Objects of slots whose writes have rows of their own; whether a wrapped key unwraps is not told here, and is left open (log 3). -/
def slotRow (q : Req) (idx sub : Nat) (v : Payload) : Option (Dev → Dev) :=
  if idx = 0x2001 then some (tenantBindWrite q sub v.val)
  else if idx = 0x2010 then some (libraryCommand q sub v)
  else if idx = 0x2012 then some (blockCommand q idx sub v)
  else if 0x2040 ≤ idx && idx ≤ 0x2043 then some (queueObjectWrite q idx sub v)
  else if idx = 0x2051 then some (tenantEraseWrite q sub v.val)
  else if 0x2060 ≤ idx && idx < 0x2070 then
    some fun d => freeNext (segmentKeyWrite q sub (idx - 0x2060) v (freeBits 1 d == 1) d)
  else if idx = 0x3003 then some (commandByNumber q sub v.val)
  else if idx = 0x3004 then some (operatorDrainCmd q sub v.val)
  else if idx = 0x3064 then some (refreshWrite q sub v.val)
  else if idx = 0x30A2 then some (freezeWrite q sub v)
  else if idx = 0x30B0 then some (spliceWrite q sub v.val)
  else if idx = 0x30B1 then some (spliceReturnWrite q sub v.val)
  else if 0x3100 ≤ idx && idx < 0x3140 then some (destWrite q sub (idx - 0x3100) v)
  else if 0x3140 ≤ idx && idx < 0x3180 then some (shaperWrite q sub (idx - 0x3140) v)
  else if 0x3180 ≤ idx && idx < 0x31C0 then
    some fun d => freeNext (streamKeyWrite q sub (idx - 0x3180) v (freeBits 1 d == 1) d)
  else if idx = 0x4009 then
    some (if v.val = 1 then reanchorWrite q sub else if v.val = 2 then liningReleaseWrite q sub
      else perform q 0x4009 sub (fun _ => [.range]) id)
  else none
/-- A write of an object, by OP 2 or 3 (R398, R399, R404): a name that does not exist or a length that the object does not allow is
refused with the lowest code earned; an object with a row of its own does what that row does. -/
def writeAny (q : Req) (idx sub : Nat) (v : Payload) (d : Dev) : Dev :=
  match objRowOf idx with
  | none => perform q idx sub (fun _ => []) id d
  | some r =>
    if !r.hasSub sub || !(typeErrs idx v).isEmpty then perform q idx sub (fun _ => typeErrs idx v) id d
    else
      match (deviceRow q idx v).orElse fun _ => slotRow q idx sub v with
      | some f => f d
      | none => plainWrite q idx sub v d
/-- WRITE (R398): one of the Drawstring that finds the dictionary not served wakes a node in Standby or Sleep (R424). -/
def write (q : Req) (idx sub : Nat) (v : Payload) (d0 : Dev) : Dev :=
  let d := atTime q.now d0
  if served d then writeAny q idx sub v d else unserved q false id d
/-- WRITE (R398). -/
def execWrite (q : Req) (idx sub : Nat) (v : Payload) (s : State) : Host.Outcome State Fault Refusal :=
  act (write q idx sub v) s

end Sys2Proof.Machine
end

