-- ==== Sys2Proof/Machine/RegWrites.lean ====
section
/-! DEFINITION. A write of a register that has no row of its own (R9 to R11, R16, R362 to R367), with the fields of every block's
table, and the parity sweep (R367). -/
namespace Sys2Proof.Machine

/-! ## The value a write forms (R9, R10, R11) -/

/-- The bits of a register that some field holds; GROUP and SUBPRIO of IRQ_ROUTE exist for sources 0 to 15 only. -/
def definedMask (r : RegRow) (i : Nat) : Nat :=
  let m := sumBy (fun f => maskOf f.lo f.len) r.flds
  if r.reg = .irqRoute && decide (16 ≤ i) then m - 15 * 2 ^ 12 else m
/-- The bits of the fields of access RW and RWS. -/
def writableMask (r : RegRow) (i : Nat) : Nat :=
  Nat.land (sumBy (fun f => if f.acc = .rw || f.acc = .rws then maskOf f.lo f.len else 0) r.flds) (definedMask r i)
/-- The value that a set, clear or toggle write forms from the fields' present bits `c` and the bits `v` written to them (R9). -/
def viewValue (view c v : Nat) : Nat :=
  if view = 1 then Nat.lor c v else if view = 2 then c - Nat.land c v else Nat.xor c v
/-- The bits `m` of a register take those of `v`. -/
def setMasked (key m v : Nat) (d : Dev) : Dev :=
  regSet key (regGet d key - Nat.land (regGet d key) m + Nat.land v m) d

/-! ## What a write is checked for (R11, R365) -/

/-- The code of a register, or field, that only the management controller writes (R365). -/
def firmwareOnly (who : Caller) : List Err := if who = .firmware then [] else [.access]
/-- Does R392 route a source to the physical function by IRQ_ROUTE? -/
def routable (i : Nat) : Bool := decide (i < 8) || (decide (16 ≤ i) && decide (i ≤ 18)) || (decide (32 ≤ i) && decide (i < 56))
/-- The greatest value of a parameter of the PHY (R309, DMC_PHY_DATA); with none selected every value is taken (log 30). -/
def phyMax (p : Nat) : Nat :=
  if p = 0 then 65535 else if p ≤ 2 then 511 else if p ≤ 4 then 1023 else if p ≤ 6 then 255 else if p ≤ 9 then 127 else 63
/-- Does DMC_PHY_SEL take a selection: a parameter of the table, a lane, or a CA line? -/
def phySelOk (v : Nat) : Bool :=
  decide (1 ≤ bits v 0 8) && decide (bits v 0 8 ≤ 10) && decide (bits v 8 7 ≤ if bits v 0 8 = 2 then 13 else 79)
/-- Is a session not FREE, or a lining not IDLE (DISPATCH_EN)? -/
def loomNeeded (d : Dev) : Bool := d.sess.any (fun x => x.2.st != .free) || !(activeLinings d).isEmpty
/-- The codes of a write of the pages MBX_, IRQ_, TBS_, PWR_. -/
def frontErrs (who : Caller) (r : Reg) (i v : Nat) (d : Dev) : List Err :=
  let fn := fnOf who
  match r with
  | .mbxReqData | .vfReqData => earned [((mbox d fn).busy, .busy)]
  | .mbxReqCtrl | .vfReqCtrl =>
    if bit v 10 then goErrs fn (bits v 0 10) d else earned [(decide (bits v 0 10 < 20) || decide (992 < bits v 0 10), .range)]
  | .irqDoorbell => firmwareOnly who
  | .irqRoute => earned [(!routable i, .range)]
  | .irqMod | .vfIrqMod => earned [(bits v 10 8 == 0, .range)]
  | .tbsCtrl => earned [(bits v 0 2 == 3, .range)]
  | .tbsAdj => firmwareOnly who ++ earned [(decide (204800000 < (signed 32 v).natAbs), .range)]
  | .tbsStepHi | .tbsStepLo => firmwareOnly who
  | .pwrCtrl => packageErrs (bits v 0 2) d
  | .pwrResetReq => earned [(bits v 0 2 == 3, .range)]
  | .pwrPadRelease => firmwareOnly who
  | _ => []
/-- The codes of a write of the pages FLT_, DSR_, LOOM_, DMC_, WRD_. -/
def blockErrsOf (who : Caller) (r : Reg) (i v : Nat) (d : Dev) : List Err :=
  match r with
  | .fltLogTail => earned [(!tailOk d v, .conflict)]
  | .fltForce => (List.range 32).flatMap fun j => if bit v j then forceErrs d (32 * i + j) else []
  | .fltForceCfg => earned [(decide (4 < bits v 0 3) || bits v 4 4 == 0, .range)]
  | .dsrCtrl => earned [(bit v 0 && !d.dsr.master, .state)]
  | .loomCtrl => earned [(decide (bits v 4 4 < 2), .range), (!bit v 0 && loomNeeded d, .state)]
  | .loomRcCtrl => earned [(decide (bits v 0 9 < 64) || decide (384 < bits v 0 9), .range)]
  | .dmcChanCtrl => if bits v 0 2 = 0 then [] else chanActionErrs i (bits v 0 2) d
  | .dmcTrnCtrl => firmwareOnly who ++ trnErrs i v d
  | .dmcTrnSeed => firmwareOnly who ++ earned [(bits v 0 31 == 0, .range)]
  | .dmcPhySel => firmwareOnly who ++ earned [(!phySelOk v, .range)]
  | .dmcPhyData =>
    firmwareOnly who ++ earned [(decide (phyMax (fld d (Reg.dmcPhySel.at i) 0 8) < bits v 0 16), .range)]
  | .wrdFlipCtrl => flipErrs i v d
  | _ => []
/-- The codes of a write of the DMA_ pages (R365, R381). -/
def dmaErrs (who : Caller) (r : Reg) (i v : Nat) (d : Dev) : List Err :=
  let fn := fnOf who
  match r with
  | .dmaCtrl => if bit v 0 = bit (regGet d Reg.dmaCtrl.base) 0 then [] else firmwareOnly who
  | .dmaChCtrl => if i < 24 then firmwareOnly who else []
  | .dmaSqTail | .vfSqTail => sqTailErrs (sqKey fn i) v d
  | .dmaCqHead | .vfCqHead => headErrs (cqKey fn i) v d
  | .dmaEqHead | .vfEqHead => headErrs (eqKey fn) v d
  | _ => []
/-- The codes of a register write (R11, R21): a reserved bit set, and those of its fields. -/
def regErrs (who : Caller) (r : RegRow) (i v : Nat) (d : Dev) : List Err :=
  earned [(Nat.land v (definedMask r i) != v, .range)] ++
    (frontErrs who r.reg i v d ++ (blockErrsOf who r.reg i v d ++ dmaErrs who r.reg i v d))

/-! ## What an accepted write does -/

/-- The effect of a bit of a register: `f`, if it is set. -/
def ifBit (v n : Nat) (f : Dev → Dev) (d : Dev) : Dev := if bit v n then f d else d
/-- PWR_PAD_RELEASE (R493): each bit frees the pads of a domain; the check after an exit is left open (log 3). -/
def padsFreed (v : Nat) (d : Dev) : Dev :=
  forEach (List.range 21)
    (fun k => ifBit v k fun d => freeNext (padFree (if k = 20 then 127 else 96 + k) (freeBits 1 d == 1) d)) d
/-- FLT_CTRL: the clears, and the kept fields, which stay as they are in the safe state (R486). -/
def fltCtrlAct (who : Caller) (v : Nat) (d : Dev) : Dev :=
  let d1 := if d.flt.safe && who != .firmware then d
    else setFld Reg.fltCtrl.base 9 1 (bits v 9 1) (setFld Reg.fltCtrl.base 0 4 (bits v 0 4) d)
  ifBit v 8 fltCntClr (ifBit v 7 lostClr (ifBit v 6 worstClr (ifBit v 5 firstClr d1)))
/-- An accepted write of the pages TBS_, PWR_, FLT_; none where the register is of another page. -/
def frontAct (who : Caller) (r : Reg) (i v : Nat) (d : Dev) : Option Dev :=
  match r with
  | .tbsCtrl => some (objSetStitch 0x1320 0 (bits v 0 2) (objSetStitch 0x1326 0 (bits v 2 1) d))
  | .tbsStepHi => some (tbsStep v d)
  | .tbsStepLo => some { d with stage := tabPut 0 d.stage Reg.tbsStepLo.base v }
  | .pwrCtrl => some (packageAct (bits v 0 2) d)
  | .pwrResetReq => some (if bits v 0 2 = 0 then d else resetAsked (bits v 0 2) d)
  | .pwrPadRelease => some (padsFreed v d)
  | .pwrHostVote => some (objSetStitch 0x1211 0 (setBits (objGet d 0x1211 0) (32 * i) 32 v) d)
  | .fltCtrl => some (fltCtrlAct who v d)
  | .fltLogTail => some (setTail v d)
  | .fltLogSel => some (freeNext (logSel v (freeBits 1 d == 1) d))
  | .fltForce => some (forEach (List.range 32) (fun j => ifBit v j (forceAct (32 * i + j))) d)
  | .fltSrcStat => some (standingClear i (bits v 0 4) d)
  | _ => none
/-- An accepted write of the pages MBX_, IRQ_, DSR_, SEC_, LOOM_, SLV_, PKE_, WRD_ and TILE_ that does more than keep its fields. -/
def blockAct (who : Caller) (r : Reg) (i v : Nat) (d : Dev) : Option Dev :=
  match r with
  | .mbxCtrl => some (ifBit v 0 mbxCntClr d)
  | .mbxReqCtrl | .vfReqCtrl => if bit v 10 then some (mailboxGo who (bits v 0 10) d) else none
  | .irqIdleHint | .vfIdleHint => some (idleWrite who v d)
  | .irqDoorbell => some (raise (bits v 0 10) d)
  | .dsrCtrl => some (ifBit v 1 dsrCntClr (ifBit v 0 (reenum who) d))
  | .secCtrl => some (ifBit v 0 (regSet Reg.secEventCnt.base 0) d)
  | .loomCtrl =>
    some (ifBit v 2 (setFld Reg.loomCarry.base 16 16 0)
      (objSetStitch 0x1310 0 (bits v 1 1) (objSetStitch 0x1311 0 (bits v 4 4) (setFld Reg.loomCtrl.base 0 1 (bits v 0 1) d))))
  | .slvCtrl => some (ifBit v 0 (pairSet Reg.slvCorrCntHi.base Reg.slvCorrCntLo.base 0) d)
  | .pkeCtrl =>
    some (ifBit v 2 (fun d => { d with pke := { d.pke with stamps := [] } })
      (ifBit v 1 (forEach (List.range 64) fun k d => regSet (Reg.pkeResHwm.at k) 0 (regSet (Reg.pkeDepthHwm.at k) 0 d))
        (setFld Reg.pkeCtrl.base 0 1 (bits v 0 1) d)))
  | .pkeIgrCtrl => some (ifBit v 1 (regSet Reg.pkeCmpLapHwm.base 0) (setFld Reg.pkeIgrCtrl.base 0 1 (bits v 0 1) d))
  | .wrdCtrl =>
    some (ifBit v 2 (regSet Reg.wrdSramCorr.base 0) (ifBit v 1 lapClear (objSetStitch 0x1812 0 (bits v 0 1) d)))
  | .wrdFlipCtrl => some (flipWrite who i v d)
  | .tileCtrl => some (ifBit v 0 (regSet (Reg.tileSaveCnt.at i) 0) d)
  | _ => none
/-- DMC_TRN_CTRL[c] (R308, R309): GO starts OP; FINISH ends training, the narrowest window of which firmware knows (log 3). -/
def trnAct (c v : Nat) (d : Dev) : Dev :=
  let d1 := if bit v 11 && bits v 0 3 != 0 then helperStart c v d
    else regSet (Reg.dmcTrnCtrl.at c) (v % 2 ^ 28 - bits v 11 2 * 2 ^ 11) d
  ifBit v 12 (fun d => freeNext (trainFinish c { step := 7, window := freeBits 8 d, lane := freeBits 15 d / 2 ^ 8 % 80 } d)) d1
/-- DMC_CHAN_CTRL[c] (R316, R320, R322). -/
def chanCtrlAct (c v : Nat) (d : Dev) : Dev :=
  let d1 := if bits v 0 2 = 0 then d else chanActionAct c (bits v 0 2) d
  ifBit v 3 (regSet (Reg.dmcCorrCnt.at c) 0) (ifBit v 2 (fun d => freeNext (padRelease c (freeBits 1 d == 1) d)) d1)
/-- An accepted write of the DMA_ and DMC_ pages that does more than keep its fields. -/
def memAct (who : Caller) (r : Reg) (i v : Nat) (d : Dev) : Option Dev :=
  let fn := fnOf who
  match r with
  | .dmaIntakeCtrl => some (holdUpdate (regSet Reg.dmaIntakeCtrl.base v d))
  | .dmaHoldCtrl => some (holdUpdate (regSet Reg.dmaHoldCtrl.base v d))
  | .dmaHoldStatus => some (assertClear v d)
  | .dmaIntakeWm => some (flagClear i v d)
  | .dmaCtrl => some (ifBit v 1 corrClear (setFld Reg.dmaCtrl.base 0 1 (bits v 0 1) d))
  | .dmaChCtrl =>
    some (if bit v 0 then setFld (Reg.dmaChCtrl.at i) 0 1 1 d
      else presentDoorbells 64 (stopFree i 1 (setFld (Reg.dmaChCtrl.at i) 0 1 0 d)))
  | .dmaSqTail | .vfSqTail => some (setRing (sqKey fn i) { ring d (sqKey fn i) with tail := v } d)
  | .dmaCqHead | .vfCqHead => some (moveHead (cqKey fn i) v d)
  | .dmaEqHead | .vfEqHead => some (moveHead (eqKey fn) v d)
  | .dmaQStat | .vfQStat => some (ifBit v 16 (fun d => setFnQ fn { fnQ d fn with eqReset := false } d) d)
  | .dmcChanCtrl => some (chanCtrlAct i v d)
  | .dmcTrnCtrl => some (trnAct i v d)
  | .dmcPhyData => some (setChan i { chan d i with phy := tabPut 0 (chan d i).phy (phyKey d i) (bits v 0 16) } d)
  | _ => none
/-- An accepted write: what its page gives it, or the fields take the bits written. -/
def regAct (who : Caller) (key : Nat) (r : RegRow) (i v : Nat) (d : Dev) : Dev :=
  let d1 := match ((frontAct who r.reg i v d).orElse fun _ => blockAct who r.reg i v d).orElse fun _ => memAct who r.reg i v d with
    | some d1 => d1
    | none => setMasked key (writableMask r i) v d
  if writableMask r i = 0 then d1 else mend key d1

/-! ## REGISTER_WRITE -/

/-- A plain value for a register: dropped with the lowest code it earns, or applied (R11, R366). -/
def regTake (who : Caller) (key : Nat) (r : RegRow) (i v : Nat) (d : Dev) : Dev :=
  match lowest (regErrs who r i v d) with
  | some e => regDrop who key e d
  | none => regAct who key r i v d
/-- A write that reaches a register through one of its views (R9, R10): a set, clear or toggle write acts on its RW and RWS fields
only, and on nothing where it has none. -/
def regView (who : Caller) (key : Nat) (r : RegRow) (i view v : Nat) (d : Dev) : Dev :=
  let m := writableMask r i
  if view = 0 then regTake who key r i v d
  else if m = 0 then d
  else regTake who key r i (viewValue view (Nat.land (regShow d key) m) (Nat.land v m)) d
/-- Registers of the fault collector that take a write in the safe state, and the reset request (R486). -/
def safeWritable (r : Reg) (v : Nat) : Bool :=
  match r with
  | .fltSrcStat | .fltLogSel | .fltLogTail | .fltCtrl | .mbxReqData | .mbxReqCtrl => true
  | .pwrResetReq => v % 4 == 1
  | _ => false
/-- A write of a place of the physical function's BAR 0 (R363, R365, R486). -/
def pfRegWrite (who : Caller) (off v : Nat) (d : Dev) : Dev :=
  let key := plainOf off
  match regRowOf key with
  | none => d
  | some (r, i) => regGate who key (safeWritable r.reg v) (regView who key r i (viewOf off) v) d
/-- A write of a place of a virtual function's BAR 0: the doorbell checks itself (R94, R95); in the safe state only the mailbox and
the doorbell's own refusal answer (R486). -/
def vfRegWrite (who : Caller) (t off v : Nat) (d : Dev) : Dev :=
  let key := vfKey t (plainOf off)
  match regRowOf key with
  | none => d
  | some (r, i) =>
    hostGate who (fun d =>
      match r.reg with
      | .vfBandDb => if viewOf off = 0 then bandDoorbell t v d else d
      | .vfReqData | .vfReqCtrl => regView who key r i (viewOf off) v d
      | _ => if d.flt.safe then regDrop who key .state d else regView who key r i (viewOf off) v d) d
/-- A write of the MSI-X table of function `fn`: the address, the data, or the mask bit of a vector (R394); the layout is that of the
PCIe specification (log 29). -/
def msixWrite (fn off v : Nat) (d : Dev) : Dev :=
  let n := off % 4096 / 16
  let key := msixKey fn n
  let x := vec d key
  if !hasVector fn n then d
  else if off % 16 < 4 then setVec key { x with addr := setBits x.addr 0 32 v } d
  else if off % 16 < 8 then setVec key { x with addr := setBits x.addr 32 32 v } d
  else if off % 16 < 12 then setVec key { x with data := v } d
  else if bit v 0 then setVec key { x with masked := true } d
  else unmask key d
/-- A write of a listed page of the physical function's BAR 0. -/
def pfPageWrite (who : Caller) (off v : Nat) (d : Dev) : Dev :=
  if off / 4096 = 4 then
    match who with
    | .pf l => regGate who off false (msixWrite (256 + l) off v) d
    | _ => d
  else pfRegWrite who off v d
/-- A write of a listed page of a virtual function's BAR 0. -/
def vfPageWrite (who : Caller) (t off v : Nat) (d : Dev) : Dev :=
  if off / 4096 = 8 then
    hostGate who (fun d => if d.flt.safe then regDrop who (vfKey t off) .state d else msixWrite t off v d) d
  else vfRegWrite who t off v d
/-- REGISTER_WRITE (R11): a write of a place of a caller's BAR 0: not an aligned dword, R362; a reserved page, R358; a register. -/
def registerWrite (who : Caller) (off value : Nat) (d : Dev) : Dev :=
  let v := value % 2 ^ 32
  match who with
  | .node _ => d
  | .vf t _ =>
    if off % 4 ≠ 0 then malformed who true off d
    else if isVfPage off then vfPageWrite who t off v d else strayAccess who d
  | _ =>
    if off % 4 ≠ 0 then malformed who true off d
    else if isPfPage off then pfPageWrite who off v d else strayAccess who d
/-- Is the caller one that exists: a tenant slot, a link, the management controller, a node? -/
def callerExists : Caller → Bool
  | .vf t _ => isSlot t
  | .pf l => isLink l
  | _ => true
/-- REGISTER_WRITE (R11). -/
def execRegisterWrite (who : Caller) (offset value now : Nat) (s : State) : Host.Outcome State Fault Refusal :=
  actOn (callerExists who) (fun d => registerWrite who offset value (atTime now d)) s

/-! ## PARITY_SWEEP (R367) -/

/-- Does a register carry a parity bit: has it an RW or RWS field, outside the FLT_ pages (R367, R484)? -/
def hasParity (key : Nat) : Bool :=
  match regRowOf key with
  | none => false
  | some (r, i) => writableMask r i != 0 && !(decide (0x12000 ≤ key) && decide (key < 0x16000))
/-- A mismatch is found in a register (R367, R13): a level report of severity 3, and MBX_PARITY_LAST; the value stands. -/
def parityFound (key : Nat) (d : Dev) : Dev :=
  if !hasParity key || d.parityBad.contains key then d
  else
    level 15 0x0032 3 (parityPlace key) 0
      (regSet Reg.mbxParityLast.base (parityPlace key + 2 ^ 22) { d with parityBad := d.parityBad ++ [key] })
/-- PARITY_SWEEP (R367): the registers whose bit does not match. -/
def execParitySweep (mismatched : List Nat) (now : Nat) (s : State) : Host.Outcome State Fault Refusal :=
  act (fun d => forEach mismatched parityFound (atTime now d)) s

end Sys2Proof.Machine
end

