-- ==== Sys2Proof/Machine/Dispatch.lean ====
section
/-! DEFINITION. The dispatch: one arm for each command, each one direct call of its meaning. -/
namespace Sys2Proof.Machine

/-- The effect of a command on everything but the queue. -/
def exec (i : Instr) (s : State) : Host.Outcome State Fault Refusal :=
  match i with
  | .stitchBoundary => Sys2Proof.Machine.execStitchBoundary s
  | .gateEntryExpiry port now => Sys2Proof.Machine.execGateEntryExpiry port now s
  | .frameCredit slot => Sys2Proof.Machine.execFrameCredit slot s
  | .stitchOverrun tile now => Sys2Proof.Machine.execStitchOverrun tile now s
  | .tileHang tile now => Sys2Proof.Machine.execTileHang tile now s
  | .partCoded tile res now => Sys2Proof.Machine.execPartCoded tile res now s
  | .closingGrant now => Sys2Proof.Machine.execClosingGrant now s
  | .completionPost tile now => Sys2Proof.Machine.execCompletionPost tile now s
  | .completionCollect now => Sys2Proof.Machine.execCompletionCollect now s
  | .assignCurrent tile copyOk now => Sys2Proof.Machine.execAssignCurrent tile copyOk now s
  | .assignNext tile now => Sys2Proof.Machine.execAssignNext tile now s
  | .withdrawNext tile now => Sys2Proof.Machine.execWithdrawNext tile now s
  | .closeGrant tile recon now => Sys2Proof.Machine.execCloseGrant tile recon now s
  | .boot tile wordsOk sig sigExp now => Sys2Proof.Machine.execBoot tile wordsOk sig sigExp now s
  | .containmentReset tile now => Sys2Proof.Machine.execContainmentReset tile now s
  | .loadStallEnd tile copyOk now => Sys2Proof.Machine.execLoadStallEnd tile copyOk now s
  | .contextCommit tile now => Sys2Proof.Machine.execContextCommit tile now s
  | .tileRetire tile flashOk now => Sys2Proof.Machine.execTileRetire tile flashOk now s
  | .retirementMapRetry flashOk now => Sys2Proof.Machine.execRetirementMapRetry flashOk now s
  | .apertureWrite tenant offset tee enabled data now => Sys2Proof.Machine.execApertureWrite tenant offset tee enabled data now s
  | .apertureRead tenant offset tee now => Sys2Proof.Machine.execApertureRead tenant offset tee now s
  | .bandDoorbell tenant tee word now => Sys2Proof.Machine.execBandDoorbell tenant tee word now s
  | .watermarkFlagClear who slot mask => Sys2Proof.Machine.execWatermarkFlagClear who slot mask s
  | .holdAssertClear who mask => Sys2Proof.Machine.execHoldAssertClear who mask s
  | .bandSubstitution slot now => Sys2Proof.Machine.execBandSubstitution slot now s
  | .drainAbandon slot now => Sys2Proof.Machine.execDrainAbandon slot now s
  | .drainComplete slot now => Sys2Proof.Machine.execDrainComplete slot now s
  | .define q slot => Sys2Proof.Machine.execDefine q slot s
  | .release q slot => Sys2Proof.Machine.execRelease q slot s
  | .arm q slot => Sys2Proof.Machine.execArm q slot s
  | .armPartnerTimeout slot now => Sys2Proof.Machine.execArmPartnerTimeout slot now s
  | .disarm q slot => Sys2Proof.Machine.execDisarm q slot s
  | .start q slot => Sys2Proof.Machine.execStart q slot s
  | .pause q slot => Sys2Proof.Machine.execPause q slot s
  | .resume q slot => Sys2Proof.Machine.execResume q slot s
  | .drain q slot => Sys2Proof.Machine.execDrain q slot s
  | .operatorDrain q slot value => Sys2Proof.Machine.execOperatorDrain q slot value s
  | .tenantBind q tenant value => Sys2Proof.Machine.execTenantBind q tenant value s
  | .functionLevelReset tenant now => Sys2Proof.Machine.execFunctionLevelReset tenant now s
  | .vfEnableSet link numVfs ari => Sys2Proof.Machine.execVfEnableSet link numVfs ari s
  | .vfEnableClear link now => Sys2Proof.Machine.execVfEnableClear link now s
  | .pfFlr link now => Sys2Proof.Machine.execPfFlr link now s
  | .pcieLinkReset link kind now => Sys2Proof.Machine.execPcieLinkReset link kind now s
  | .pcieLinkUp link lanes rate now => Sys2Proof.Machine.execPcieLinkUp link lanes rate now s
  | .mailboxGo who length => Sys2Proof.Machine.execMailboxGo who length s
  | .read q idx sub off => Sys2Proof.Machine.execRead q idx sub off s
  | .write q idx sub v => Sys2Proof.Machine.execWrite q idx sub v s
  | .describe q idx sub => Sys2Proof.Machine.execDescribe q idx sub s
  | .refreshRequest q slot value => Sys2Proof.Machine.execRefreshRequest q slot value s
  | .freezeRequest q slot v => Sys2Proof.Machine.execFreezeRequest q slot v s
  | .registerSegment q tenant v => Sys2Proof.Machine.execRegisterSegment q tenant v s
  | .delete q tenant v => Sys2Proof.Machine.execDelete q tenant v s
  | .exportToEthernet q tenant v => Sys2Proof.Machine.execExportToEthernet q tenant v s
  | .segmentVerified tenant entry bands now => Sys2Proof.Machine.execSegmentVerified tenant entry bands now s
  | .spliceRequest q slot value => Sys2Proof.Machine.execSpliceRequest q slot value s
  | .spliceReturn q slot value => Sys2Proof.Machine.execSpliceReturn q slot value s
  | .blockAllocate q sub v => Sys2Proof.Machine.execBlockAllocate q sub v s
  | .blockFree q sub v => Sys2Proof.Machine.execBlockFree q sub v s
  | .destinationWrite q slot dest v => Sys2Proof.Machine.execDestinationWrite q slot dest v s
  | .shaperWrite q slot dest v => Sys2Proof.Machine.execShaperWrite q slot dest v s
  | .streamKeyWrite q slot dest v tagOk => Sys2Proof.Machine.execStreamKeyWrite q slot dest v tagOk s
  | .previousKeyExpiry slot dest now => Sys2Proof.Machine.execPreviousKeyExpiry slot dest now s
  | .segmentKeyWrite q tenant k v tagOk => Sys2Proof.Machine.execSegmentKeyWrite q tenant k v tagOk s
  | .portModeWrite q value => Sys2Proof.Machine.execPortModeWrite q value s
  | .linkTrainTimeout port now => Sys2Proof.Machine.execLinkTrainTimeout port now s
  | .ethernetLinkChange port up now => Sys2Proof.Machine.execEthernetLinkChange port up now s
  | .macSend port now => Sys2Proof.Machine.execMacSend port now s
  | .retransmissionExpiry slot now => Sys2Proof.Machine.execRetransmissionExpiry slot now s
  | .senderReport slot now => Sys2Proof.Machine.execSenderReport slot now s
  | .frameReceived port f now => Sys2Proof.Machine.execFrameReceived port f now s
  | .learningDecision now => Sys2Proof.Machine.execLearningDecision now s
  | .nack slot dest seqs now => Sys2Proof.Machine.execNack slot dest seqs now s
  | .pictureLossIndication slot dest now => Sys2Proof.Machine.execPictureLossIndication slot dest now s
  | .congestionFeedback slot dest reports now => Sys2Proof.Machine.execCongestionFeedback slot dest reports now s
  | .transportWideFeedback slot dest reports now => Sys2Proof.Machine.execTransportWideFeedback slot dest reports now s
  | .receiverReport slot dest now => Sys2Proof.Machine.execReceiverReport slot dest now s
  | .feedbackTimeout slot dest now => Sys2Proof.Machine.execFeedbackTimeout slot dest now s
  | .agingVisit pipeline now => Sys2Proof.Machine.execAgingVisit pipeline now s
  | .comparerCheck now => Sys2Proof.Machine.execComparerCheck now s
  | .flowInsert q v => Sys2Proof.Machine.execFlowInsert q v s
  | .flowRemove q v => Sys2Proof.Machine.execFlowRemove q v s
  | .ptpEventReceived port now => Sys2Proof.Machine.execPtpEventReceived port now s
  | .ptpSync off now => Sys2Proof.Machine.execPtpSync off now s
  | .announce clock utc chosen now => Sys2Proof.Machine.execAnnounce clock utc chosen now s
  | .syncTimeout now => Sys2Proof.Machine.execSyncTimeout now s
  | .ppsInEdge now => Sys2Proof.Machine.execPpsInEdge now s
  | .ppsOut now => Sys2Proof.Machine.execPpsOut now s
  | .timeSet q v => Sys2Proof.Machine.execTimeSet q v s
  | .tbsStep who hi now => Sys2Proof.Machine.execTbsStep who hi now s
  | .ptpTsTagRead who => Sys2Proof.Machine.execPtpTsTagRead who s
  | .tsFlush who => Sys2Proof.Machine.execTsFlush who s
  | .pairEnable q value => Sys2Proof.Machine.execPairEnable q value s
  | .handshakeTimeout now => Sys2Proof.Machine.execHandshakeTimeout now s
  | .refusedRetry now => Sys2Proof.Machine.execRefusedRetry now s
  | .heartbeat m now => Sys2Proof.Machine.execHeartbeat m now s
  | .hello m now => Sys2Proof.Machine.execHello m now s
  | .liningRequest m now => Sys2Proof.Machine.execLiningRequest m now s
  | .liningAnswer m now => Sys2Proof.Machine.execLiningAnswer m now s
  | .sessionOpen m now => Sys2Proof.Machine.execSessionOpen m now s
  | .band m now => Sys2Proof.Machine.execBand m now s
  | .sessionState m now => Sys2Proof.Machine.execSessionState m now s
  | .sessionClose m now => Sys2Proof.Machine.execSessionClose m now s
  | .mirrorNack m now => Sys2Proof.Machine.execMirrorNack m now s
  | .liningState m now => Sys2Proof.Machine.execLiningState m now s
  | .handoverOffer m now => Sys2Proof.Machine.execHandoverOffer m now s
  | .handoverAnswer m now => Sys2Proof.Machine.execHandoverAnswer m now s
  | .handoverQueueLimit now => Sys2Proof.Machine.execHandoverQueueLimit now s
  | .handover m now => Sys2Proof.Machine.execHandover m now s
  | .taken m now => Sys2Proof.Machine.execTaken m now s
  | .mirrorHoldExpiry lining now => Sys2Proof.Machine.execMirrorHoldExpiry lining now s
  | .heartbeatLimit now => Sys2Proof.Machine.execHeartbeatLimit now s
  | .probeAnswer status now => Sys2Proof.Machine.execProbeAnswer status now s
  | .probeTimeout now => Sys2Proof.Machine.execProbeTimeout now s
  | .probeRepeat now => Sys2Proof.Machine.execProbeRepeat now s
  | .promoteLinings q value => Sys2Proof.Machine.execPromoteLinings q value s
  | .addressAnnounce now => Sys2Proof.Machine.execAddressAnnounce now s
  | .handOverSession q value => Sys2Proof.Machine.execHandOverSession q value s
  | .liningRequestRetry slot now => Sys2Proof.Machine.execLiningRequestRetry slot now s
  | .liningReanchor q lining => Sys2Proof.Machine.execLiningReanchor q lining s
  | .liningRelease q lining => Sys2Proof.Machine.execLiningRelease q lining s
  | .tileRelease q tile => Sys2Proof.Machine.execTileRelease q tile s
  | .tileRetireCommand q tile flashOk => Sys2Proof.Machine.execTileRetireCommand q tile flashOk s
  | .sessionsTakenWrite q v => Sys2Proof.Machine.execSessionsTakenWrite q v s
  | .drawstringToken seq ack now => Sys2Proof.Machine.execDrawstringToken seq ack now s
  | .tokenRegenerate now => Sys2Proof.Machine.execTokenRegenerate now s
  | .hopLock now => Sys2Proof.Machine.execHopLock now s
  | .closeSend now => Sys2Proof.Machine.execCloseSend now s
  | .close master now => Sys2Proof.Machine.execClose master now s
  | .enum master hop entries now => Sys2Proof.Machine.execEnum master hop entries now s
  | .enumTimeout now => Sys2Proof.Machine.execEnumTimeout now s
  | .table entries now => Sys2Proof.Machine.execTable entries now s
  | .closureLimit now => Sys2Proof.Machine.execClosureLimit now s
  | .wake dst now => Sys2Proof.Machine.execWake dst now s
  | .frameRetry ack now => Sys2Proof.Machine.execFrameRetry ack now s
  | .requestTimeout now => Sys2Proof.Machine.execRequestTimeout now s
  | .reenum who now => Sys2Proof.Machine.execReenum who now s
  | .dsrCntClr who => Sys2Proof.Machine.execDsrCntClr who s
  | .trnWritePattern who chan value now => Sys2Proof.Machine.execTrnWritePattern who chan value now s
  | .trnReadCompare who chan value now => Sys2Proof.Machine.execTrnReadCompare who chan value now s
  | .trnWriteReadCompare who chan value now => Sys2Proof.Machine.execTrnWriteReadCompare who chan value now s
  | .trnCaLoopback who chan value now => Sys2Proof.Machine.execTrnCaLoopback who chan value now s
  | .helperOpDone chan m0 m1 m2 errs fail now => Sys2Proof.Machine.execHelperOpDone chan m0 m1 m2 errs fail now s
  | .trnFinish who chan r now => Sys2Proof.Machine.execTrnFinish who chan r now s
  | .trainingTimeout chan now => Sys2Proof.Machine.execTrainingTimeout chan now s
  | .dramRefresh chan rank busy now => Sys2Proof.Machine.execDramRefresh chan rank busy now s
  | .modeRegisterPoll chan rank need now => Sys2Proof.Machine.execModeRegisterPoll chan rank need now s
  | .selfRefreshRequest chan now => Sys2Proof.Machine.execSelfRefreshRequest chan now s
  | .selfRefreshStage chan pass now => Sys2Proof.Machine.execSelfRefreshStage chan pass now s
  | .dramRequestInSelfRefresh chan now => Sys2Proof.Machine.execDramRequestInSelfRefresh chan now s
  | .padRelease who chan pass now => Sys2Proof.Machine.execPadRelease who chan pass now s
  | .channelFreeze chan r now => Sys2Proof.Machine.execChannelFreeze chan r now s
  | .alertReplay chan now => Sys2Proof.Machine.execAlertReplay chan now s
  | .channelResume chan pass now => Sys2Proof.Machine.execChannelResume chan pass now s
  | .channelRetrain chan now => Sys2Proof.Machine.execChannelRetrain chan now s
  | .channelOff chan now => Sys2Proof.Machine.execChannelOff chan now s
  | .dmcCorrClr who chan => Sys2Proof.Machine.execDmcCorrClr who chan s
  | .fillFrameDone chan now => Sys2Proof.Machine.execFillFrameDone chan now s
  | .scrubRead chan outcome syndrome now => Sys2Proof.Machine.execScrubRead chan outcome syndrome now s
  | .resilverComplete pair now => Sys2Proof.Machine.execResilverComplete pair now s
  | .flipArm who k value now => Sys2Proof.Machine.execFlipArm who k value now s
  | .wrdLapHwmClr who => Sys2Proof.Machine.execWrdLapHwmClr who s
  | .sramCorrClr who => Sys2Proof.Machine.execSramCorrClr who s
  | .sqTailWrite who queue value => Sys2Proof.Machine.execSqTailWrite who queue value s
  | .cqHeadWrite who queue value => Sys2Proof.Machine.execCqHeadWrite who queue value s
  | .eqHeadWrite who value => Sys2Proof.Machine.execEqHeadWrite who value s
  | .queueObjectWrite q idx sub v => Sys2Proof.Machine.execQueueObjectWrite q idx sub v s
  | .descriptorFetch fn queue chan desc fetchOk now => Sys2Proof.Machine.execDescriptorFetch fn queue chan desc fetchOk now s
  | .copyIn chan x now => Sys2Proof.Machine.execCopyIn chan x now s
  | .copyOut chan x now => Sys2Proof.Machine.execCopyOut chan x now s
  | .intake chan x now => Sys2Proof.Machine.execIntake chan x now s
  | .exportEntry chan x now => Sys2Proof.Machine.execExportEntry chan x now s
  | .decodeFeed chan x now => Sys2Proof.Machine.execDecodeFeed chan x now s
  | .segmentUpload chan x tagOk now => Sys2Proof.Machine.execSegmentUpload chan x tagOk now s
  | .fill chan now => Sys2Proof.Machine.execFill chan now s
  | .transmit chan x now => Sys2Proof.Machine.execTransmit chan x now s
  | .receiveBuffer chan now => Sys2Proof.Machine.execReceiveBuffer chan now s
  | .descriptorComplete chan entryOk now => Sys2Proof.Machine.execDescriptorComplete chan entryOk now s
  | .channelDisable who chan x now => Sys2Proof.Machine.execChannelDisable who chan x now s
  | .dmaCorrClr who => Sys2Proof.Machine.execDmaCorrClr who s
  | .eqResetClear who => Sys2Proof.Machine.execEqResetClear who s
  | .atsInvalidation link now => Sys2Proof.Machine.execAtsInvalidation link now s
  | .fifoWordCorrected home fifo now => Sys2Proof.Machine.execFifoWordCorrected home fifo now s
  | .fifoWordUncorrectable home fifo now => Sys2Proof.Machine.execFifoWordUncorrectable home fifo now s
  | .irqDoorbell who source now => Sys2Proof.Machine.execIrqDoorbell who source now s
  | .interruptDelivery now => Sys2Proof.Machine.execInterruptDelivery now s
  | .msixHoldoffExpiry fn vector now => Sys2Proof.Machine.execMsixHoldoffExpiry fn vector now s
  | .msixUnmask fn vector now => Sys2Proof.Machine.execMsixUnmask fn vector now s
  | .idleHintArm who mask now => Sys2Proof.Machine.execIdleHintArm who mask now s
  | .malformedRegisterAccess who isWrite offset => Sys2Proof.Machine.execMalformedRegisterAccess who isWrite offset s
  | .strayAccess who isWrite offset => Sys2Proof.Machine.execStrayAccess who isWrite offset s
  | .registerWrite who offset value now => Sys2Proof.Machine.execRegisterWrite who offset value now s
  | .paritySweep mismatched now => Sys2Proof.Machine.execParitySweep mismatched now s
  | .mbxCntClr who => Sys2Proof.Machine.execMbxCntClr who s
  | .carryHwmClr who => Sys2Proof.Machine.execCarryHwmClr who s
  | .slvCorrClr who => Sys2Proof.Machine.execSlvCorrClr who s
  | .pkeHwmClr who => Sys2Proof.Machine.execPkeHwmClr who s
  | .igrLapHwmClr who => Sys2Proof.Machine.execIgrLapHwmClr who s
  | .tileCntClr who tile => Sys2Proof.Machine.execTileCntClr who tile s
  | .secEventCntClr who => Sys2Proof.Machine.execSecEventCntClr who s
  | .getVersion link now => Sys2Proof.Machine.execGetVersion link now s
  | .getCapabilities link now => Sys2Proof.Machine.execGetCapabilities link now s
  | .negotiateAlgorithms link now => Sys2Proof.Machine.execNegotiateAlgorithms link now s
  | .getDigests link now => Sys2Proof.Machine.execGetDigests link now s
  | .getCertificate link now => Sys2Proof.Machine.execGetCertificate link now s
  | .challenge link now => Sys2Proof.Machine.execChallenge link now s
  | .getMeasurements link now => Sys2Proof.Machine.execGetMeasurements link now s
  | .keyExchange link now => Sys2Proof.Machine.execKeyExchange link now s
  | .finish session ok now => Sys2Proof.Machine.execFinish session ok now s
  | .spdmHeartbeat session ok now => Sys2Proof.Machine.execSpdmHeartbeat session ok now s
  | .keyUpdate session ok now => Sys2Proof.Machine.execKeyUpdate session ok now s
  | .endSession session ok now => Sys2Proof.Machine.execEndSession session ok now s
  | .spdmSessionTimeout session now => Sys2Proof.Machine.execSpdmSessionTimeout session now s
  | .installTenant session message ok now => Sys2Proof.Machine.execInstallTenant session message ok now s
  | .installOperator session message ok now => Sys2Proof.Machine.execInstallOperator session message ok now s
  | .ideKm session stream place key ok now => Sys2Proof.Machine.execIdeKm session stream place key ok now s
  | .ideIntegrityFailure link stream now => Sys2Proof.Machine.execIdeIntegrityFailure link stream now s
  | .lockInterfaceRequest session fn stream ok now => Sys2Proof.Machine.execLockInterfaceRequest session fn stream ok now s
  | .startInterfaceRequest session fn ok now => Sys2Proof.Machine.execStartInterfaceRequest session fn ok now s
  | .stopInterfaceRequest session fn ok now => Sys2Proof.Machine.execStopInterfaceRequest session fn ok now s
  | .rngHealthFailure now => Sys2Proof.Machine.execRngHealthFailure now s
  | .tenantKeyErase q tenant value => Sys2Proof.Machine.execTenantKeyErase q tenant value s
  | .operatorKeyErase q value => Sys2Proof.Machine.execOperatorKeyErase q value s
  | .debugUnlock q value => Sys2Proof.Machine.execDebugUnlock q value s
  | .faultReportAccept srcs now => Sys2Proof.Machine.execFaultReportAccept srcs now s
  | .logRecordWrite now => Sys2Proof.Machine.execLogRecordWrite now s
  | .wireFault src forced now => Sys2Proof.Machine.execWireFault src forced now s
  | .disagreementSpell src => Sys2Proof.Machine.execDisagreementSpell src s
  | .collectorIntegrity offset now => Sys2Proof.Machine.execCollectorIntegrity offset now s
  | .selfTestComplete pass now => Sys2Proof.Machine.execSelfTestComplete pass now s
  | .forceReport who src now => Sys2Proof.Machine.execForceReport who src now s
  | .logSel who value slotOk now => Sys2Proof.Machine.execLogSel who value slotOk now s
  | .logTail who value => Sys2Proof.Machine.execLogTail who value s
  | .standingClear who src mask => Sys2Proof.Machine.execStandingClear who src mask s
  | .firstClr who => Sys2Proof.Machine.execFirstClr who s
  | .worstClr who => Sys2Proof.Machine.execWorstClr who s
  | .lostClr who => Sys2Proof.Machine.execLostClr who s
  | .fltCntClr who => Sys2Proof.Machine.execFltCntClr who s
  | .packageStateRequest q value => Sys2Proof.Machine.execPackageStateRequest q value s
  | .packageTransitionComplete now => Sys2Proof.Machine.execPackageTransitionComplete now s
  | .transitionOvertime now => Sys2Proof.Machine.execTransitionOvertime now s
  | .domainPowerGood domain now => Sys2Proof.Machine.execDomainPowerGood domain now s
  | .domainOff domain now => Sys2Proof.Machine.execDomainOff domain now s
  | .powerGoodTimeout domain now => Sys2Proof.Machine.execPowerGoodTimeout domain now s
  | .tileIdleOff tile now => Sys2Proof.Machine.execTileIdleOff tile now s
  | .pwrPadRelease who domain pass now => Sys2Proof.Machine.execPwrPadRelease who domain pass now s
  | .wakeNLow now => Sys2Proof.Machine.execWakeNLow now s
  | .pcieWake port now => Sys2Proof.Machine.execPcieWake port now s
  | .ethernetWakePattern port now => Sys2Proof.Machine.execEthernetWakePattern port now s
  | .powerSample mw rails now => Sys2Proof.Machine.execPowerSample mw rails now s
  | .powerCapExceeded now => Sys2Proof.Machine.execPowerCapExceeded now s
  | .sensorSample temps now => Sys2Proof.Machine.execSensorSample temps now s
  | .referenceLoss clock now => Sys2Proof.Machine.execReferenceLoss clock now s
  | .sleepEntryEdge now => Sys2Proof.Machine.execSleepEntryEdge now s
  | .sleepCountEdge => Sys2Proof.Machine.execSleepCountEdge s
  | .wakeEdge => Sys2Proof.Machine.execWakeEdge s
  | .porNRise straps => Sys2Proof.Machine.execPorNRise straps s
  | .porNFall => Sys2Proof.Machine.execPorNFall s
  | .aonBrownOut => Sys2Proof.Machine.execAonBrownOut s
  | .warmResetRequest q => Sys2Proof.Machine.execWarmResetRequest q s
  | .coldResetRequest q => Sys2Proof.Machine.execColdResetRequest q s
  | .firmwareBoot header aOk bOk pop causes now => Sys2Proof.Machine.execFirmwareBoot header aOk bOk pop causes now s
  | .startupEnable now => Sys2Proof.Machine.execStartupEnable now s
  | .handoverOfferTimeout now => Sys2Proof.Machine.execHandoverOfferTimeout now s
  | .mirrorStoreExpiry slot now => Sys2Proof.Machine.execMirrorStoreExpiry slot now s
  | .referenceReturn clock now => Sys2Proof.Machine.execReferenceReturn clock now s
  | .aonSupplyReturn straps => Sys2Proof.Machine.execAonSupplyReturn straps s
  | .disagreementEnd src => Sys2Proof.Machine.execDisagreementEnd src s
  | .memorySpaceEnableWrite link vf value now => Sys2Proof.Machine.execMemorySpaceEnableWrite link vf value now s
  | .vfResizableBarWrite link log2Mib => Sys2Proof.Machine.execVfResizableBarWrite link log2Mib s
  | .ptpLockTimeout now => Sys2Proof.Machine.execPtpLockTimeout now s
  | .drawstringFrameError => Sys2Proof.Machine.execDrawstringFrameError s
  | .pairShareResponse chainOk sigOk locked node epoch pin now => Sys2Proof.Machine.execPairShareResponse chainOk sigOk locked node epoch pin now s
  | .onchipMemoryError where_ corrected addr now => Sys2Proof.Machine.execOnchipMemoryError where_ corrected addr now s

end Sys2Proof.Machine
end

