-- ==== Sys2Proof/Machine/Microcode.lean ====
section
/-! DEFINITION. The microcode of the tiles (18: R454 to R457): the fields of a word, the condition groups, the next address, the
return stack, and what the sequencers do in one nanosecond. -/
namespace Sys2Proof.Machine

/-! ## The word (R455) -/

/-- NEXT: the base of the next address. -/
def wordNext (w : Nat) : Nat := bits w 0 14
/-- MWAY: the mask of the branch (R456). -/
def wordMask (w : Nat) : Nat := [0x0, 0x1, 0x3, 0xF].getD (bits w 14 2) 0
/-- CSEL: the condition group. -/
def wordGroup (w : Nat) : Nat := bits w 16 8
/-- WAIT: the word is held until a selected condition is 1. -/
def wordWait (w : Nat) : Bool := bit w 26
/-- CALL: the address after the word is pushed. -/
def wordCall (w : Nat) : Bool := bit w 27
/-- RET: the popped address takes the place of NEXT. -/
def wordRet (w : Nat) : Bool := bit w 28
/-- DP: the control of the datapath, whose encoding the manual does not give. -/
def wordDp (w : Nat) : Nat := bits w 32 64
/-- IMM: the immediate operand of the datapath. -/
def wordImm (w : Nat) : Nat := bits w 96 16

/-! ## The condition groups (R457) -/

/-- The four bits of a group. -/
def nibble (a b c e : Bool) : Nat := b2n a + b2n b * 2 + b2n c * 4 + b2n e * 8
/-- The kinds of the command latch in the order of R459, two bits (log 112). -/
def cmdKind : TileCmd → Nat
  | .assignCurrent => 0
  | .assignNext => 1
  | .withdrawNext => 2
  | .closeGrant _ _ _ => 3
/-- A condition of the datapath, which the model does not follow cycle by cycle: a free value of the tile and the nanosecond (R457;
log 112). -/
def dpCond (d : Dev) (t g i : Nat) : Bool := Config.datapath g i (128 * d.tbs.ns + t)
/-- Group 2: codec, a part that decodes, a copy band. -/
def codecGroup (d : Dev) (j : Job) : Nat :=
  nibble (!codecAv1 d j.stream && !codecAvc d j.stream) (codecAvc d j.stream) (!encodes d j.stream)
    ((bandAt d j.stream j.frame j.band).st == 2)
/-- Group 3: effort, split, hem band. -/
def effortGroup (d : Dev) (j : Job) (f : Frame) : Nat :=
  nibble (bit f.effort 0) (bit f.effort 1) (decide (1 < f.split)) (j.band + 1 == bandCount d j.stream)
/-- Group 6: what the grant says, and the wait for another band's closing writes (R142). -/
def closeGroup (j : Job) (f : Frame) (x : Tile) : Nat :=
  match x.grant with
  | none => 0
  | some (closes, above, below) =>
    nibble closes above below
      ((above && !(f.band (j.band - 1)).written) || (below && !(f.band (j.band + 1)).written))
/-- Group 7: the save area, the first frame, the refresh cycle. -/
def contextGroup (d : Dev) (j : Job) (f : Frame) : Nat :=
  let x := stream d j.stream
  let z := tabGet {} x.copies (j.frame % 4)
  nibble (match x.commit with
    | none => false
    | some c => decide (j.frame ≤ c)) (z.ok && z.seq == j.frame) f.intra (f.stripe.isSome || f.inCycle)
/-- The four bits of condition group `g` for tile `t` at a word that is a safe point or not: group 1 shows the latch at a safe point
only (R459). The progress of a search, a fill or the coding is the datapath's (log 112). -/
def microCond (d : Dev) (t g : Nat) (safe : Bool) : Nat :=
  let x := tile d t
  let kind := match x.latch with
    | [] => 0
    | c :: _ => cmdKind c
  if g = 0 then 0
  else if g = 1 then nibble (safe && !x.latch.isEmpty) (safe && bit kind 0) (safe && bit kind 1) (x.halted || d.flt.safe)
  else if g = 4 || g = 5 || decide (8 ≤ g) then nibble (dpCond d t g 0) (dpCond d t g 1) (dpCond d t g 2) (dpCond d t g 3)
  else
    match x.cur with
    | none => 0
    | some j =>
      if g = 2 then codecGroup d j
      else
        match frameAt d j.stream j.frame with
        | none => 0
        | some f => if g = 3 then effortGroup d j f else if g = 6 then closeGroup j f x else contextGroup d j f

/-! ## The next address (R456) -/

/-- The sequencer at a word. -/
def atWord (m : Micro) (pc : Nat) (stack : List Nat) : Micro :=
  { m with pc := pc, stack := stack, left := wordCycles (Config.microcode pc) }
/-- The branch of a word, with the conditions its mask selects: a push on a full stack or a pop of an empty one is a sequencer
fault. -/
def branchFrom (m : Micro) (w c : Nat) : Option Micro :=
  let st := if wordCall w then (m.pc + 1) % 2 ^ 14 :: m.stack else m.stack
  if 4 < st.length then none
  else if wordRet w then
    match st with
    | [] => none
    | a :: rest => some (atWord m (a ||| c) rest)
  else some (atWord m (wordNext w ||| c) st)
/-- One cycle of a sequencer: the word lasts CYC + 1 cycles, its last one again while WAIT holds it. -/
def microCycle (d : Dev) (t : Nat) (m : Micro) : Option Micro :=
  if 0 < m.left then some { m with left := m.left - 1 }
  else
    let w := Config.microcode m.pc
    let c := microCond d t (wordGroup w) (wordSafe w) &&& wordMask w
    if wordWait w && c == 0 then some m else branchFrom m w c
/-- `n` cycles of a sequencer. -/
def microCycles (d : Dev) (t : Nat) : Nat → Micro → Option Micro
  | 0, m => some m
  | n + 1, m => (microCycle d t m).bind (microCycles d t n)
/-- The cycles of the 1.8 GHz clock in the nanosecond that ends at `ns` (log 112). -/
def tileCycles (ns : Nat) : Nat := 9 * ns / 5 - 9 * (ns - 1) / 5
/-- The sequencer of tile `t` in one nanosecond; a sequencer fault is contained as an uncorrectable error of the tile's memory. -/
def runMicro (t : Nat) (d : Dev) : Dev :=
  match microCycles d t (tileCycles d.tbs.ns) (microAt d t) with
  | some m => setLoom { d.loom with micros := tabSet d.loom.micros t m } d
  | none => containTile t (setLoom { d.loom with micros := tabErase d.loom.micros t } d)
/-- The sequencers in one nanosecond: those of the tiles that are on and not stopped (R461). -/
def runMicros (d : Dev) : Dev :=
  if isHeld d then d else
  forEach ((List.range 96).filter fun t => (tile d t).on && !(tile d t).gone) runMicro d

end Sys2Proof.Machine
end

