-- ==== Sys2Proof/Safety.lean ====
section
/-! DEFINITION. What counts as a well-kept block, in the terms the statements use: the canonical form of its tables, the legal
states of its machines, the pieces of its state and which of them each command may change. -/
namespace Sys2Proof.Machine

/-! ## Canonical form -/

/-- The keys of a table strictly rise. -/
def Rising {α : Type} (t : Tab α) : Prop := t.Pairwise (fun a b => a.1 < b.1)

/-- The register file in its canonical form (R8): places rising, every value of 32 bits, no entry a reset value. -/
def RegsSound (t : Tab Nat) : Prop :=
  t.Pairwise (fun a b => a.1 < b.1) ∧ ∀ e ∈ t, e.2 < 2 ^ 32 ∧ e.2 ≠ regReset e.1

/-- The dictionary in its canonical form (R401): keys rising, each the key of an object, no entry the object's default. -/
def ObjsSound (t : Tab Nat) : Prop :=
  t.Pairwise (fun a b => a.1 < b.1) ∧ ∀ e ∈ t, ∃ idx sub, e.1 = objKey idx sub ∧ e.2 ≠ objDefault idx sub

/-- Memory in its canonical form (R323, R327): addresses rising, every entry one byte; 256, which stands for a byte that
nothing has written, is never listed. -/
def MemSound (t : Tab Nat) : Prop := t.Pairwise (fun a b => a.1 < b.1) ∧ ∀ e ∈ t, e.2 < 256

/-- The canonical form of memory as a test. -/
def Memory.wf (t : Tab Nat) : Bool := tabWf 256 t && t.all fun e => decide (e.2 < 256)

/-- The keys of every other table of the block rise. -/
structure Ordered (d : Dev) : Prop where
  stage : Rising d.stage
  heldStitch : Rising d.heldStitch
  irq : Rising d.irq
  msix : Rising d.msix
  fnMask : Rising d.fnMask
  rings : Rising d.rings
  fnq : Rising d.fnq
  dmaCh : Rising d.dmaCh
  links : Rising d.links
  mbox : Rising d.mbox
  snaps : Rising d.snaps
  lastCtr : Rising d.lastCtr
  authSeen : Rising d.authSeen
  tenants : Rising d.tenants
  rrLast : Rising d.rrLast
  sess : Rising d.sess
  chans : Rising d.chans
  streams : Rising d.streams
  tiles : Rising d.tiles
  linPrm : Rising d.linPrm
  ladder : Rising d.ladder
  lib : Rising d.lib
  linings : Rising d.linings
  srcs : Rising d.flt.srcs
  log : Rising d.flt.log

/-- A well-kept block: registers, dictionary, memory and every other table in their canonical forms, the pairing in one of its
six states (0x1402:0, R191) and the Drawstring in one of its six (0x1C00:0, R427). -/
structure Sound (d : Dev) : Prop where
  regs : RegsSound d.regs
  objs : ObjsSound d.objs
  mem : MemSound d.mem
  pair : d.pair.st ≤ 5
  ring : d.dsr.ring ≤ 5
  tabs : Ordered d

/-! ## Commands -/

/-- The command is carried out: it answers the next state in which the queue is as it was and the block is one of which `P`
holds. -/
def Answers (c : Instr) (s : State) (P : Dev → Prop) : Prop := ∃ d, exec c s = .next { s with dev := d } ∧ P d

/-- Does a write by this caller to this register of the physical function's pages reach it and count? Firmware's always does;
host software's when Memory Space Enable is set on its link (R358), outside a warm reset but for the PWR_ and FLT_ pages
(R511), and outside the safe state but for the writes R486 lists (`safeOk`). -/
def regOpen (who : Caller) (key : Nat) (safeOk : Bool) (d : Dev) : Bool :=
  match who with
  | .firmware => true
  | .pf l => (link d l).mse && (d.pwr.resetAt.isNone || inPwrFlt key) && (safeOk || !d.flt.safe)
  | _ => false

/-- Is the request to write the object accepted: the device awake and serving the dictionary, and no code earned, by the
caller's rights, the safe state, the key of a critical request or the rule's own checks `own` (R21, R399, R407)? -/
def granted (q : Req) (idx sub : Nat) (own : Dev → List Err) (d : Dev) : Bool :=
  let d0 := atTime q.now d
  !isHeld d && served d0 && (lowest (writeErrs q idx sub (own d0) d0)).isNone

/-- Has the block sent this? -/
def Sent (o : Output) (d : Dev) : Prop := o ∈ d.emitted

/-! ## Frames -/

/-- The pieces of the block's state, each a field of `Dev`. -/
inductive Piece where
  | regs | stage | objs | heldStitch | emitted | freeCtr | rngCtr | flt | irq | msix | fnMask | rings | fnq | dmaCh
  | recvBufs | links | parityBad | mbox | waiting | snaps | lastCtr | authSeen | tbs | tenants | rrLast | sec | pair
  | sess | dsr | chans | wrd | mem | streams | tiles | loom | hold | linPrm | ladder | pke | lib | linings | pwr
deriving DecidableEq, Repr

/-- Do two blocks agree in this piece? -/
def Piece.same (p : Piece) (d e : Dev) : Prop :=
  match p with
  | .regs => d.regs = e.regs
  | .stage => d.stage = e.stage
  | .objs => d.objs = e.objs
  | .heldStitch => d.heldStitch = e.heldStitch
  | .emitted => d.emitted = e.emitted
  | .freeCtr => d.freeCtr = e.freeCtr
  | .rngCtr => d.rngCtr = e.rngCtr
  | .flt => d.flt = e.flt
  | .irq => d.irq = e.irq
  | .msix => d.msix = e.msix
  | .fnMask => d.fnMask = e.fnMask
  | .rings => d.rings = e.rings
  | .fnq => d.fnq = e.fnq
  | .dmaCh => d.dmaCh = e.dmaCh
  | .recvBufs => d.recvBufs = e.recvBufs
  | .links => d.links = e.links
  | .parityBad => d.parityBad = e.parityBad
  | .mbox => d.mbox = e.mbox
  | .waiting => d.waiting = e.waiting
  | .snaps => d.snaps = e.snaps
  | .lastCtr => d.lastCtr = e.lastCtr
  | .authSeen => d.authSeen = e.authSeen
  | .tbs => d.tbs = e.tbs
  | .tenants => d.tenants = e.tenants
  | .rrLast => d.rrLast = e.rrLast
  | .sec => d.sec = e.sec
  | .pair => d.pair = e.pair
  | .sess => d.sess = e.sess
  | .dsr => d.dsr = e.dsr
  | .chans => d.chans = e.chans
  | .wrd => d.wrd = e.wrd
  | .mem => d.mem = e.mem
  | .streams => d.streams = e.streams
  | .tiles => d.tiles = e.tiles
  | .loom => d.loom = e.loom
  | .hold => d.hold = e.hold
  | .linPrm => d.linPrm = e.linPrm
  | .ladder => d.ladder = e.ladder
  | .pke => d.pke = e.pke
  | .lib => d.lib = e.lib
  | .linings => d.linings = e.linings
  | .pwr => d.pwr = e.pwr

/-- The pieces a command may change, directly or through what follows from it in the same event; every other piece it leaves
as it was. -/
def touches : Instr → List Piece
  | .stitchBoundary =>
    [.regs, .objs, .heldStitch, .emitted, .freeCtr, .rngCtr, .flt, .irq, .rings, .fnq, .mbox, .waiting, .lastCtr,
    .authSeen, .tbs, .pair, .sess, .dsr, .chans, .wrd, .mem, .streams, .tiles, .loom, .hold, .ladder, .pke, .lib,
    .pwr]
  | .gateEntryExpiry _ _ | .linkTrainTimeout _ _ | .agingVisit _ _ =>
    [.tbs, .pke]
  | .frameCredit _ =>
    [.sess]
  | .stitchOverrun _ _ =>
    [.regs, .objs, .flt, .irq, .tbs, .tiles, .loom]
  | .tileHang _ _ | .containmentReset _ _ | .powerGoodTimeout _ _ =>
    [.regs, .objs, .emitted, .flt, .irq, .rings, .fnq, .tbs, .pair, .sess, .chans, .streams, .tiles, .loom, .hold,
    .ladder, .pke, .pwr]
  | .partCoded _ _ _ =>
    [.regs, .objs, .tbs, .streams, .tiles, .loom]
  | .closingGrant _ =>
    [.tbs, .streams, .tiles, .loom]
  | .completionPost _ _ =>
    [.regs, .objs, .emitted, .flt, .irq, .rings, .fnq, .tbs, .pair, .sess, .wrd, .mem, .streams, .tiles, .loom,
    .hold, .pke]
  | .completionCollect _ =>
    [.regs, .objs, .emitted, .freeCtr, .flt, .irq, .rings, .fnq, .tbs, .pair, .sess, .wrd, .mem, .streams, .tiles,
    .loom, .hold, .pke, .linings]
  | .assignCurrent _ _ _ | .loadStallEnd _ _ _ =>
    [.regs, .objs, .emitted, .flt, .irq, .rings, .fnq, .tbs, .pair, .sess, .streams, .tiles, .hold, .pke]
  | .assignNext _ _ | .withdrawNext _ _ =>
    [.tbs, .tiles]
  | .closeGrant _ _ _ | .liningState _ _ =>
    [.regs, .objs, .emitted, .freeCtr, .flt, .irq, .rings, .fnq, .tbs, .pair, .sess, .chans, .streams, .tiles, .loom,
    .hold, .ladder, .pke, .pwr]
  | .boot _ _ _ _ _ =>
    [.regs, .objs, .emitted, .flt, .irq, .rings, .fnq, .tbs, .pair, .sess, .chans, .streams, .tiles, .hold, .ladder,
    .pke, .pwr]
  | .contextCommit _ _ =>
    [.regs, .objs, .tbs, .streams, .tiles]
  | .tileRetire _ _ _ =>
    [.objs, .flt, .tbs, .chans, .tiles, .pwr]
  | .retirementMapRetry _ _ | .apertureRead _ _ _ _ | .announce _ _ _ _ =>
    [.objs, .tbs]
  | .apertureWrite _ _ _ _ _ _ =>
    [.objs, .tbs, .sess]
  | .bandDoorbell _ _ _ _ =>
    [.regs, .objs, .emitted, .irq, .rings, .fnq, .tbs, .pair, .sess, .wrd, .mem, .streams, .tiles, .loom, .hold, .pke]
  | .watermarkFlagClear _ _ _ =>
    [.regs, .objs, .sess]
  | .holdAssertClear _ _ | .dsrCntClr _ | .dmcCorrClr _ _ | .malformedRegisterAccess _ _ _ | .strayAccess _ _ _
  | .mbxCntClr _ | .slvCorrClr _ | .tileCntClr _ _ | .secEventCntClr _ =>
    [.regs, .objs]
  | .bandSubstitution _ _ | .drainAbandon _ _ =>
    [.regs, .objs, .emitted, .irq, .rings, .fnq, .tbs, .sess, .streams, .hold]
  | .drainComplete _ _ =>
    [.regs, .objs, .heldStitch, .emitted, .irq, .rings, .fnq, .tbs, .pair, .sess, .wrd, .mem, .streams, .hold,
    .ladder, .pke, .lib]
  | .define _ _ | .pause _ _ | .resume _ _ | .spliceRequest _ _ _ | .spliceReturn _ _ _ =>
    [.regs, .objs, .emitted, .irq, .mbox, .waiting, .lastCtr, .authSeen, .tbs, .sess, .dsr]
  | .release _ _ =>
    [.regs, .objs, .heldStitch, .emitted, .irq, .rings, .fnq, .mbox, .waiting, .lastCtr, .authSeen, .tbs, .pair,
    .sess, .dsr, .wrd, .mem, .streams, .hold, .linPrm, .ladder, .pke, .lib, .linings]
  | .arm _ _ =>
    [.regs, .objs, .emitted, .irq, .mbox, .waiting, .lastCtr, .authSeen, .tbs, .pair, .sess, .dsr, .wrd, .pke]
  | .armPartnerTimeout _ _ =>
    [.regs, .objs, .heldStitch, .emitted, .irq, .rings, .fnq, .mbox, .waiting, .authSeen, .tbs, .sess, .dsr, .wrd,
    .mem, .streams, .hold, .ladder, .pke, .lib]
  | .disarm _ _ | .drain _ _ | .operatorDrain _ _ _ | .liningAnswer _ _ =>
    [.regs, .objs, .heldStitch, .emitted, .irq, .rings, .fnq, .mbox, .waiting, .lastCtr, .authSeen, .tbs, .pair,
    .sess, .dsr, .wrd, .mem, .streams, .hold, .ladder, .pke, .lib]
  | .start _ _ =>
    [.regs, .objs, .emitted, .rngCtr, .irq, .mbox, .waiting, .lastCtr, .authSeen, .tbs, .sess, .dsr]
  | .tenantBind _ _ _ | .segmentKeyWrite _ _ _ _ _ | .tenantKeyErase _ _ _ =>
    [.regs, .objs, .emitted, .irq, .mbox, .waiting, .lastCtr, .authSeen, .tbs, .tenants, .dsr]
  | .functionLevelReset _ _ | .ideIntegrityFailure _ _ _ | .stopInterfaceRequest _ _ _ _ =>
    [.regs, .objs, .heldStitch, .emitted, .freeCtr, .irq, .rings, .fnq, .dmaCh, .mbox, .waiting, .lastCtr, .authSeen,
    .tbs, .tenants, .sec, .pair, .sess, .wrd, .mem, .streams, .hold, .linPrm, .ladder, .pke, .lib, .linings]
  | .vfEnableSet _ _ _ =>
    [.regs, .links]
  | .vfEnableClear _ _ | .memorySpaceEnableWrite _ _ _ _ =>
    [.regs, .objs, .heldStitch, .emitted, .freeCtr, .irq, .rings, .fnq, .dmaCh, .links, .mbox, .waiting, .lastCtr,
    .authSeen, .tbs, .tenants, .sec, .pair, .sess, .wrd, .mem, .streams, .hold, .linPrm, .ladder, .pke, .lib,
    .linings]
  | .pfFlr _ _ | .pcieLinkReset _ _ _ =>
    [.regs, .objs, .heldStitch, .emitted, .freeCtr, .irq, .msix, .fnMask, .rings, .fnq, .dmaCh, .recvBufs, .links,
    .mbox, .waiting, .lastCtr, .authSeen, .tbs, .tenants, .sec, .pair, .sess, .wrd, .mem, .streams, .hold, .linPrm,
    .ladder, .pke, .lib, .linings]
  | .pcieLinkUp _ _ _ _ =>
    [.objs, .emitted, .irq, .rings, .fnq, .links, .tbs]
  | .mailboxGo _ _ =>
    [.regs, .objs, .emitted, .flt, .irq, .parityBad, .mbox, .waiting, .dsr]
  | .read _ _ _ _ =>
    [.regs, .emitted, .freeCtr, .irq, .mbox, .waiting, .snaps, .tbs, .dsr, .chans, .pwr]
  | .write _ _ _ _ =>
    [.regs, .stage, .objs, .heldStitch, .emitted, .freeCtr, .rngCtr, .flt, .irq, .msix, .fnMask, .rings, .fnq,
    .dmaCh, .recvBufs, .links, .parityBad, .mbox, .waiting, .snaps, .lastCtr, .authSeen, .tbs, .tenants, .rrLast,
    .sec, .pair, .sess, .dsr, .chans, .wrd, .mem, .streams, .tiles, .loom, .hold, .linPrm, .ladder, .pke, .lib,
    .linings, .pwr]
  | .describe _ _ _ =>
    [.regs, .emitted, .irq, .mbox, .waiting, .tbs, .dsr, .chans, .pwr]
  | .refreshRequest _ _ _ =>
    [.regs, .objs, .emitted, .irq, .mbox, .waiting, .lastCtr, .authSeen, .tbs, .dsr, .streams]
  | .freezeRequest _ _ _ =>
    [.regs, .objs, .emitted, .irq, .rings, .fnq, .mbox, .waiting, .lastCtr, .authSeen, .tbs, .sess, .dsr, .wrd, .lib]
  | .registerSegment _ _ _ | .delete _ _ _ | .exportToEthernet _ _ _ =>
    [.regs, .objs, .emitted, .irq, .rings, .fnq, .mbox, .waiting, .lastCtr, .authSeen, .tbs, .sess, .dsr, .wrd, .mem,
    .pke, .lib]
  | .segmentVerified _ _ _ _ =>
    [.objs, .emitted, .irq, .rings, .fnq, .tbs, .lib]
  | .blockAllocate _ _ _ =>
    [.regs, .objs, .emitted, .irq, .mbox, .waiting, .lastCtr, .authSeen, .tbs, .dsr, .wrd]
  | .blockFree _ _ _ =>
    [.regs, .objs, .emitted, .irq, .mbox, .waiting, .lastCtr, .authSeen, .tbs, .dsr, .wrd, .mem]
  | .destinationWrite _ _ _ _ =>
    [.regs, .objs, .heldStitch, .emitted, .irq, .mbox, .waiting, .lastCtr, .authSeen, .tbs, .sess, .dsr, .wrd, .mem,
    .pke]
  | .shaperWrite _ _ _ _ =>
    [.regs, .objs, .heldStitch, .emitted, .irq, .mbox, .waiting, .lastCtr, .authSeen, .tbs, .sess, .dsr, .wrd]
  | .streamKeyWrite _ _ _ _ _ =>
    [.regs, .objs, .emitted, .irq, .mbox, .waiting, .lastCtr, .authSeen, .tbs, .sess, .dsr, .pke]
  | .previousKeyExpiry _ _ _ | .retransmissionExpiry _ _ | .mirrorStoreExpiry _ _ =>
    [.tbs, .sess]
  | .portModeWrite _ _ | .pairEnable _ _ =>
    [.regs, .objs, .heldStitch, .emitted, .irq, .mbox, .waiting, .lastCtr, .authSeen, .tbs, .dsr]
  | .ethernetLinkChange _ _ _ | .macSend _ _ =>
    [.regs, .objs, .emitted, .irq, .rings, .fnq, .tbs, .sess, .pke, .lib]
  | .senderReport _ _ =>
    [.regs, .objs, .tbs, .sess, .pke]
  | .frameReceived _ _ _ =>
    [.regs, .objs, .emitted, .flt, .irq, .rings, .fnq, .dmaCh, .recvBufs, .tbs, .sess, .pke]
  | .learningDecision _ =>
    [.objs, .emitted, .irq, .rings, .fnq, .tbs, .sess, .pke]
  | .nack _ _ _ _ =>
    [.regs, .objs, .tbs, .sess, .streams, .pke]
  | .pictureLossIndication _ _ _ =>
    [.objs, .emitted, .irq, .rings, .fnq, .tbs, .streams]
  | .congestionFeedback _ _ _ _ | .transportWideFeedback _ _ _ _ =>
    [.objs, .freeCtr, .tbs, .sess, .streams]
  | .receiverReport _ _ _ | .ppsOut _ | .sleepCountEdge | .wakeEdge =>
    [.tbs]
  | .feedbackTimeout _ _ _ =>
    [.objs, .emitted, .irq, .rings, .fnq, .tbs, .sess]
  | .comparerCheck _ =>
    [.regs, .objs, .emitted, .irq, .rings, .fnq, .tbs, .pke]
  | .flowInsert _ _ | .flowRemove _ _ =>
    [.regs, .objs, .emitted, .irq, .rings, .fnq, .mbox, .waiting, .lastCtr, .authSeen, .tbs, .dsr, .pke]
  | .ptpEventReceived _ _ | .atsInvalidation _ _ | .getDigests _ _ | .getCertificate _ _ | .challenge _ _
  | .getMeasurements _ _ =>
    [.emitted, .tbs]
  | .ptpSync _ _ | .ppsInEdge _ =>
    [.regs, .freeCtr, .flt, .tbs, .tiles]
  | .syncTimeout _ =>
    [.flt, .tbs]
  | .timeSet _ _ =>
    [.regs, .objs, .emitted, .irq, .mbox, .waiting, .lastCtr, .authSeen, .tbs, .dsr, .tiles]
  | .tbsStep _ _ _ =>
    [.regs, .objs, .flt, .parityBad, .tbs, .tiles]
  | .ptpTsTagRead _ =>
    [.objs, .pke]
  | .tsFlush _ =>
    [.regs, .objs, .flt, .parityBad, .pke]
  | .handshakeTimeout _ | .ptpLockTimeout _ =>
    [.objs, .flt, .tbs, .pair]
  | .refusedRetry _ | .heartbeat _ _ =>
    [.objs, .rngCtr, .flt, .tbs, .pair, .dsr]
  | .hello _ _ =>
    [.regs, .objs, .rngCtr, .flt, .tbs, .pair, .sess, .dsr, .pke]
  | .liningRequest _ _ =>
    [.regs, .objs, .emitted, .irq, .rings, .fnq, .tbs, .pair, .sess, .pke, .linings]
  | .sessionOpen _ _ | .sessionState _ _ | .sessionClose _ _ | .handover _ _ | .mirrorHoldExpiry _ _ =>
    [.regs, .objs, .emitted, .flt, .irq, .rings, .fnq, .tbs, .pair, .sess, .wrd, .mem, .streams, .linPrm, .ladder,
    .pke, .linings]
  | .band _ _ =>
    [.regs, .objs, .emitted, .flt, .irq, .rings, .fnq, .tbs, .pair, .sess, .wrd, .mem, .streams, .tiles, .loom,
    .hold, .linPrm, .ladder, .pke, .linings]
  | .mirrorNack _ _ | .addressAnnounce _ | .liningRequestRetry _ _ =>
    [.regs, .objs, .tbs, .pair, .sess, .pke]
  | .handoverOffer _ _ =>
    [.regs, .objs, .tbs, .pair, .sess, .pke, .linings]
  | .handoverAnswer _ _ =>
    [.regs, .objs, .heldStitch, .emitted, .flt, .irq, .rings, .fnq, .mbox, .waiting, .lastCtr, .authSeen, .tbs,
    .pair, .sess, .dsr, .chans, .wrd, .mem, .streams, .tiles, .hold, .ladder, .pke, .lib, .pwr]
  | .handoverQueueLimit _ =>
    [.regs, .objs, .heldStitch, .emitted, .flt, .irq, .rings, .fnq, .mbox, .waiting, .lastCtr, .authSeen, .tbs,
    .pair, .sess, .dsr, .wrd, .mem, .streams, .hold, .ladder, .pke, .lib]
  | .taken _ _ =>
    [.objs, .tbs, .pair]
  | .heartbeatLimit _ | .probeRepeat _ =>
    [.tbs, .pair, .dsr]
  | .probeAnswer _ _ | .probeTimeout _ =>
    [.regs, .objs, .emitted, .flt, .irq, .rings, .fnq, .mbox, .waiting, .authSeen, .tbs, .pair, .sess, .dsr, .chans,
    .wrd, .mem, .streams, .tiles, .hold, .linPrm, .ladder, .pke, .linings, .pwr]
  | .promoteLinings _ _ =>
    [.regs, .objs, .emitted, .flt, .irq, .rings, .fnq, .mbox, .waiting, .lastCtr, .authSeen, .tbs, .pair, .sess,
    .dsr, .wrd, .mem, .streams, .linPrm, .ladder, .pke, .linings]
  | .handOverSession _ _ =>
    [.regs, .objs, .emitted, .irq, .mbox, .waiting, .authSeen, .tbs, .pair, .sess, .dsr, .pke]
  | .liningReanchor _ _ =>
    [.regs, .objs, .emitted, .irq, .mbox, .waiting, .lastCtr, .authSeen, .tbs, .pair, .sess, .dsr, .pke, .linings]
  | .liningRelease _ _ =>
    [.regs, .objs, .emitted, .irq, .rings, .fnq, .mbox, .waiting, .lastCtr, .authSeen, .tbs, .sess, .dsr, .wrd, .mem,
    .streams, .linPrm, .linings]
  | .tileRelease _ _ =>
    [.regs, .objs, .emitted, .flt, .irq, .mbox, .waiting, .lastCtr, .authSeen, .tbs, .dsr, .tiles]
  | .tileRetireCommand _ _ _ =>
    [.regs, .objs, .emitted, .flt, .irq, .rings, .fnq, .mbox, .waiting, .lastCtr, .authSeen, .tbs, .pair, .sess,
    .dsr, .chans, .streams, .tiles, .loom, .hold, .ladder, .pke, .pwr]
  | .sessionsTakenWrite _ _ =>
    [.regs, .objs, .emitted, .irq, .mbox, .waiting, .lastCtr, .authSeen, .tbs, .pair, .dsr]
  | .drawstringToken _ _ _ | .closeSend _ | .frameRetry _ _ =>
    [.emitted, .tbs, .dsr]
  | .tokenRegenerate _ =>
    [.regs, .emitted, .tbs, .dsr]
  | .hopLock _ | .table _ _ =>
    [.objs, .flt, .tbs, .dsr, .chans]
  | .close _ _ | .enum _ _ _ _ =>
    [.objs, .emitted, .flt, .tbs, .dsr, .chans]
  | .enumTimeout _ =>
    [.regs, .objs, .emitted, .flt, .tbs, .dsr, .chans]
  | .closureLimit _ | .reenum _ _ =>
    [.regs, .objs, .flt, .tbs, .dsr, .chans]
  | .wake _ _ | .selfRefreshRequest _ _ | .tileIdleOff _ _ | .wakeNLow _ | .pcieWake _ _ | .ethernetWakePattern _ _
  | .sleepEntryEdge _ =>
    [.tbs, .chans, .pwr]
  | .requestTimeout _ =>
    [.tbs, .dsr]
  | .trnWritePattern _ _ _ _ | .trnReadCompare _ _ _ _ | .trnWriteReadCompare _ _ _ _ | .trnCaLoopback _ _ _ _ =>
    [.regs, .objs, .flt, .parityBad, .tbs, .chans]
  | .helperOpDone _ _ _ _ _ _ _ | .trainingTimeout _ _ =>
    [.regs, .objs, .flt, .tbs, .chans, .wrd, .pwr]
  | .trnFinish _ _ _ _ =>
    [.regs, .objs, .emitted, .freeCtr, .flt, .irq, .rings, .fnq, .parityBad, .tbs, .sess, .chans, .wrd, .mem,
    .streams, .pwr]
  | .dramRefresh _ _ _ _ =>
    [.tbs, .chans]
  | .modeRegisterPoll _ _ _ _ =>
    [.flt, .irq, .tbs, .chans]
  | .selfRefreshStage _ _ _ | .padRelease _ _ _ _ | .pwrPadRelease _ _ _ _ =>
    [.regs, .objs, .emitted, .freeCtr, .flt, .irq, .rings, .fnq, .tbs, .pair, .sess, .chans, .wrd, .streams, .hold,
    .pke, .pwr]
  | .dramRequestInSelfRefresh _ _ =>
    [.objs, .tbs, .chans, .pwr]
  | .channelFreeze _ _ _ | .scrubRead _ _ _ _ =>
    [.regs, .objs, .emitted, .flt, .irq, .rings, .fnq, .tbs, .pair, .sess, .chans, .wrd, .streams, .hold, .pke]
  | .alertReplay _ _ =>
    [.objs, .flt, .tbs]
  | .channelResume _ _ _ =>
    [.regs, .objs, .emitted, .freeCtr, .flt, .irq, .rings, .fnq, .tbs, .pair, .sess, .chans, .wrd, .mem, .streams,
    .hold, .pke, .pwr]
  | .channelRetrain _ _ =>
    [.objs, .flt, .tbs, .chans]
  | .channelOff _ _ =>
    [.objs, .flt, .tbs, .chans, .wrd, .pwr]
  | .fillFrameDone _ _ =>
    [.regs, .objs, .dmaCh, .tbs]
  | .resilverComplete _ _ =>
    [.regs, .objs, .tbs, .chans, .wrd, .pwr]
  | .flipArm _ _ _ _ =>
    [.regs, .objs, .flt, .parityBad, .tbs]
  | .wrdLapHwmClr _ | .sramCorrClr _ | .dmaCorrClr _ | .carryHwmClr _ | .pkeHwmClr _ | .igrLapHwmClr _ =>
    [.regs, .objs, .flt, .parityBad]
  | .sqTailWrite _ _ _ | .cqHeadWrite _ _ _ | .eqHeadWrite _ _ =>
    [.regs, .objs, .flt, .rings, .parityBad]
  | .queueObjectWrite _ _ _ _ =>
    [.regs, .objs, .emitted, .irq, .rings, .mbox, .waiting, .lastCtr, .authSeen, .tbs, .dsr]
  | .descriptorFetch _ _ _ _ _ _ =>
    [.objs, .emitted, .flt, .irq, .rings, .fnq, .dmaCh, .recvBufs, .tbs, .rrLast]
  | .copyIn _ _ _ | .copyOut _ _ _ | .exportEntry _ _ _ | .decodeFeed _ _ _ | .segmentUpload _ _ _ _ =>
    [.regs, .objs, .emitted, .irq, .dmaCh, .tbs, .sess, .wrd, .mem]
  | .intake _ _ _ =>
    [.regs, .objs, .emitted, .irq, .rings, .fnq, .dmaCh, .tbs, .pair, .sess, .wrd, .mem, .streams, .tiles, .loom,
    .hold, .pke]
  | .fill _ _ =>
    [.regs, .dmaCh, .tbs]
  | .transmit _ _ _ =>
    [.regs, .objs, .irq, .dmaCh, .tbs, .sess, .pke]
  | .receiveBuffer _ _ =>
    [.regs, .objs, .irq, .dmaCh, .recvBufs, .tbs]
  | .descriptorComplete _ _ _ =>
    [.objs, .emitted, .flt, .irq, .rings, .fnq, .dmaCh, .recvBufs, .tbs]
  | .channelDisable _ _ _ _ =>
    [.regs, .objs, .emitted, .flt, .irq, .rings, .fnq, .dmaCh, .parityBad, .tbs, .pair, .sess, .wrd, .mem, .streams,
    .tiles, .loom, .hold, .pke]
  | .eqResetClear _ =>
    [.regs, .objs, .flt, .fnq, .parityBad]
  | .fifoWordCorrected _ _ _ =>
    [.regs, .flt, .tbs]
  | .fifoWordUncorrectable _ _ _ | .packageTransitionComplete _ | .onchipMemoryError _ _ _ _ =>
    [.regs, .stage, .objs, .heldStitch, .emitted, .freeCtr, .flt, .irq, .msix, .rings, .fnq, .dmaCh, .recvBufs,
    .parityBad, .mbox, .waiting, .snaps, .tbs, .rrLast, .sec, .pair, .sess, .dsr, .chans, .wrd, .mem, .streams,
    .tiles, .loom, .hold, .linPrm, .ladder, .pke, .lib, .linings, .pwr]
  | .irqDoorbell _ _ _ =>
    [.regs, .objs, .irq, .tbs]
  | .interruptDelivery _ =>
    [.regs, .emitted, .irq, .msix, .tbs]
  | .msixHoldoffExpiry _ _ _ | .msixUnmask _ _ _ =>
    [.regs, .emitted, .msix, .tbs]
  | .idleHintArm _ _ _ =>
    [.regs, .objs, .emitted, .flt, .msix, .parityBad, .tbs]
  | .registerWrite _ _ _ _ | .warmResetRequest _ | .coldResetRequest _ =>
    [.regs, .stage, .objs, .heldStitch, .emitted, .freeCtr, .flt, .irq, .msix, .fnMask, .rings, .fnq, .dmaCh,
    .recvBufs, .links, .parityBad, .mbox, .waiting, .snaps, .lastCtr, .authSeen, .tbs, .tenants, .rrLast, .sec,
    .pair, .sess, .dsr, .chans, .wrd, .mem, .streams, .tiles, .loom, .hold, .linPrm, .ladder, .pke, .lib, .linings,
    .pwr]
  | .paritySweep _ _ =>
    [.regs, .flt, .parityBad, .tbs]
  | .getVersion _ _ | .getCapabilities _ _ | .negotiateAlgorithms _ _ | .keyExchange _ _ =>
    [.emitted, .tbs, .sec]
  | .finish _ _ _ | .spdmHeartbeat _ _ _ | .keyUpdate _ _ _ | .endSession _ _ _ | .ideKm _ _ _ _ _ _
  | .lockInterfaceRequest _ _ _ _ _ | .startInterfaceRequest _ _ _ _ =>
    [.regs, .objs, .emitted, .irq, .tbs, .sec]
  | .spdmSessionTimeout _ _ =>
    [.tbs, .sec]
  | .installTenant _ _ _ _ | .installOperator _ _ _ _ =>
    [.regs, .objs, .emitted, .rngCtr, .irq, .lastCtr, .authSeen, .tbs, .tenants, .sec, .wrd]
  | .rngHealthFailure _ =>
    [.flt, .tbs, .sec]
  | .operatorKeyErase _ _ =>
    [.regs, .objs, .emitted, .irq, .mbox, .waiting, .lastCtr, .authSeen, .tbs, .sec, .dsr]
  | .debugUnlock _ _ =>
    [.regs, .stage, .objs, .heldStitch, .emitted, .freeCtr, .flt, .irq, .msix, .rings, .fnq, .dmaCh, .recvBufs,
    .parityBad, .mbox, .waiting, .snaps, .lastCtr, .authSeen, .tbs, .tenants, .rrLast, .sec, .pair, .sess, .dsr,
    .chans, .wrd, .mem, .streams, .tiles, .loom, .hold, .linPrm, .ladder, .pke, .lib, .linings, .pwr]
  | .faultReportAccept _ _ | .wireFault _ _ _ | .collectorIntegrity _ _ | .selfTestComplete _ _ | .forceReport _ _ _
  | .logSel _ _ _ _ =>
    [.regs, .objs, .emitted, .freeCtr, .flt, .irq, .dmaCh, .tbs, .sess, .chans, .wrd, .mem, .tiles, .hold]
  | .logRecordWrite _ =>
    [.flt, .irq, .tbs]
  | .disagreementSpell _ | .disagreementEnd _ =>
    [.flt]
  | .logTail _ _ | .standingClear _ _ _ | .firstClr _ | .worstClr _ | .lostClr _ | .fltCntClr _ =>
    [.regs, .objs, .flt]
  | .packageStateRequest _ _ =>
    [.regs, .objs, .emitted, .irq, .mbox, .waiting, .lastCtr, .authSeen, .tbs, .dsr, .chans, .pwr]
  | .transitionOvertime _ | .powerSample _ _ _ | .referenceReturn _ _ =>
    [.flt, .tbs, .pwr]
  | .domainPowerGood _ _ =>
    [.tbs, .chans, .tiles, .pwr]
  | .domainOff _ _ =>
    [.regs, .objs, .heldStitch, .emitted, .freeCtr, .irq, .msix, .fnMask, .rings, .fnq, .dmaCh, .recvBufs, .links,
    .mbox, .waiting, .lastCtr, .authSeen, .tbs, .tenants, .sec, .pair, .sess, .chans, .wrd, .mem, .streams, .tiles,
    .hold, .linPrm, .ladder, .pke, .lib, .linings, .pwr]
  | .powerCapExceeded _ =>
    [.objs, .emitted, .flt, .irq, .rings, .fnq, .tbs, .sess, .ladder, .pwr]
  | .sensorSample _ _ =>
    [.flt, .irq, .tbs, .pwr]
  | .referenceLoss _ _ =>
    [.regs, .objs, .heldStitch, .emitted, .freeCtr, .flt, .irq, .msix, .fnMask, .rings, .fnq, .dmaCh, .recvBufs,
    .links, .mbox, .waiting, .lastCtr, .authSeen, .tbs, .tenants, .sec, .pair, .sess, .wrd, .mem, .streams, .hold,
    .linPrm, .ladder, .pke, .lib, .linings, .pwr]
  | .porNRise _ | .porNFall | .aonBrownOut | .aonSupplyReturn _ =>
    [.regs, .stage, .objs, .heldStitch, .flt, .irq, .msix, .fnMask, .rings, .fnq, .dmaCh, .recvBufs, .links,
    .parityBad, .mbox, .waiting, .snaps, .lastCtr, .authSeen, .tbs, .tenants, .rrLast, .sec, .pair, .sess, .dsr,
    .chans, .wrd, .mem, .streams, .tiles, .loom, .hold, .linPrm, .ladder, .pke, .lib, .linings, .pwr]
  | .firmwareBoot _ _ _ _ _ _ =>
    [.regs, .objs, .rngCtr, .flt, .tbs, .sec, .chans, .wrd, .tiles, .pwr]
  | .startupEnable _ =>
    [.regs, .objs, .flt, .tbs, .pwr]
  | .handoverOfferTimeout _ =>
    [.regs, .objs, .emitted, .flt, .irq, .rings, .fnq, .mbox, .waiting, .authSeen, .tbs, .pair, .sess, .dsr, .chans,
    .streams, .tiles, .hold, .ladder, .pke, .pwr]
  | .vfResizableBarWrite _ _ =>
    [.links]
  | .drawstringFrameError =>
    [.regs]
  | .pairShareResponse _ _ _ _ _ _ _ =>
    [.regs, .objs, .flt, .irq, .lastCtr, .authSeen, .tbs, .pair, .sess, .pke]

/-! ## Conditions of the statements -/

/-- Does a write by this caller to a page its function reaches arrive and count outside the safe state (R358, R435, R486)? -/
def hostOpen (who : Caller) (d : Dev) : Bool :=
  d.pwr.resetAt.isNone && reaches d who && !ideRefuses d who && !d.flt.safe
/-- Does a pointer write by this caller reach its queue page and count (R358, R366, R486)? -/
def pageOpen (who : Caller) (d : Dev) : Bool :=
  (match who with
    | .node _ => false
    | _ => true) &&
  d.pwr.resetAt.isNone && reaches d who && !ideRefuses d who && (decide (who = .firmware) || !d.flt.safe)
/-- The request was accepted and answered with STATUS OK, the request's fields echoed (R404, R405). -/
def Accepted (q : Req) (idx sub : Nat) (d : Dev) : Prop :=
  ∃ len payload, Sent (.response q.who (opOf q + 0x80) 0 idx sub q.tag len payload) d
/-- Is the context with which the part's frame starts committed (R468)? -/
def committed (d : Dev) (j : Job) : Bool :=
  match (stream d j.stream).commit with
  | none => false
  | some c => decide (j.frame ≤ c)
/-- Does the command act on a block that POR_N or VDD_AON holds (R513, R520)? -/
def actsHeld : Instr → Bool
  | .porNRise .. | .porNFall .. | .aonBrownOut .. | .aonSupplyReturn .. => true
  | _ => false
/-- Does an access by this caller reach the block and its function (R358, R435, R511)? -/
def hostReaches (who : Caller) (d : Dev) : Bool := d.pwr.resetAt.isNone && reaches d who && !ideRefuses d who
/-- The message stands in the queue of the mirror class, with the epoch and the last COUNTER (R194). -/
def Mirrored (m : MirrorMsg) (d : Dev) : Prop :=
  ∃ k ∈ classQueue d (mirrorPort d) 3, k.msg = some { m with
    version := 1, len := bodyBytes m, port := objGet d 0x1403 0, epoch := objGet d 0x1405 0, counter := d.pair.counter }

end Sys2Proof.Machine
end

