-- ==== Sys2Proof/Certificates/Slice0/Obligations.lean ====
section
/-! DEFINITION. The statements for the provers. Each says what a rule of the spec has the block do; those that say what a command
does say that it is carried out, under conditions on the state and the operands alone, and what it leaves. -/

open Sys2Proof Sys2Proof.Machine

/-- Whatever the block and the queue, a step with a command at the front answers what that command answers on the block
with the rest of the queue; the log names this form of a step (log 1). -/
def Obligations.StepRunsFront : Prop :=
  ∀ (c : Instr) (rest : List Instr) (d : Dev), step ⟨d, c :: rest⟩ = exec c ⟨d, rest⟩

/-- A step that answers a next state has taken exactly the command at the front off the queue, whatever the command does;
with an empty queue a step lets T run one nanosecond (up to the 64 bits of T) and the tiles' sequencers run for as
long (the model's choice, logs 1 and 112); with every tile off it changes nothing but the timebase. -/
def Obligations.QueueFirstInFirstOut : Prop :=
  (∀ (c : Instr) (rest : List Instr) (d : Dev) (t : State), step ⟨d, c :: rest⟩ = .next t → t.pending = rest) ∧
  ∀ (d : Dev), ∃ b : Tbs, step ⟨d, []⟩ = .next ⟨runMicros { d with tbs := b }, []⟩ ∧
    (d.tbs.running = true → d.tbs.ns + 1 < 2 ^ 64 → b.ns = d.tbs.ns + 1) ∧ (d.tbs.running = false → b = d.tbs) ∧
    ((∀ t < 96, (tile d t).on = false) → runMicros { d with tbs := b } = { d with tbs := b })

/-- Every command of every state answers a next state with the queue as it was, or stops with the fault of a unit that
the spec does not have; none is refused, so no command that could be carried out is turned away by the model. -/
def Obligations.NothingIsRefused : Prop :=
  ∀ (c : Instr) (s : State), (∃ d, exec c s = .next { s with dev := d }) ∨ exec c s = .fault .noSuchUnit

/-- While POR_N is low or VDD_AON has fallen, a command other than the rise and fall of POR_N and the fall and return of
VDD_AON leaves the whole device as it was (that it answers at all in that time is the model's choice: see the log
entry on a held device). -/
def Obligations.HeldDeviceIgnoresCommands : Prop :=
  ∀ (c : Instr) (s t : State), isHeld s.dev = true → actsHeld c = false → exec c s = .next t → t = s

/-- Right after reset every table of the block is in its canonical form, memory lists nothing, and the pairing and the
Drawstring are in one of their six states. -/
def Obligations.ResetKeepsTheForms : Prop :=
  Sound State.reset.dev ∧ State.reset.pending = [] ∧ State.reset.dev.mem = []

/-- From every well-kept block, reached by a run or not, each of the 273 commands and an idle step lead to a well-kept
block: registers of 32 bits, each table with strictly rising keys and no entry equal to what an unlisted key reads
as, memory of bytes, and the pairing and the Drawstring in one of their states. -/
def Obligations.StepKeepsTheForms : Prop :=
  ∀ (s t : State), Sound s.dev → step s = .next t → Sound t.dev

/-- While firmware runs in the safe state, every command of every sender leaves the block in the safe state, but for a
reset, which stops firmware. (The model marks a reset by booted = false.) -/
def Obligations.SafeStateLeftOnlyByReset : Prop :=
  ∀ (s t : State), s.dev.flt.safe = true → s.dev.pwr.booted = true → step s = .next t →
    t.dev.flt.safe = true ∨ t.dev.pwr.booted = false

/-- For each of the 273 commands `touches` lists the pieces of the state it may change, directly or through what follows
from it in the same event; every other piece, of all forty-two, is afterwards as it was. -/
def Obligations.CommandFrames : Prop :=
  ∀ (c : Instr) (s t : State) (p : Piece), exec c s = .next t → p ∉ touches c → p.same s.dev t.dev

/-- The wire bytes of a plan of T bits are ceil(T/8) plus the header cost of each packet; the bitstream in whole bytes
computed from an allowance by k and x fits it, and no larger whole number of bytes does. -/
def Obligations.LargestFit : Prop :=
  (∀ t h m, 0 < m → wireBytes t h m = (t + 7) / 8 + h * (((t + 7) / 8 + m - 1) / m)) ∧
  ∀ a m h, 0 < m →
    let k : Nat := a / (m + h)
    let x : Nat := fitBytes a m h
    (x : Int) = (k : Int) * m + max 0 ((a : Int) - (k : Int) * (m + h) - h) ∧ wireBytes (8 * x) h m ≤ a ∧
    ∀ z, wireBytes (8 * z) h m ≤ a → z ≤ x

/-- When every domain is settled, the edge that ends Sleep entry captures T, stops the timebase clock and sets the sleep
counter to 0; the counter then counts each later rising edge while the reference is there, and no edge counts before. -/
def Obligations.SleepCounter : Prop :=
  (∀ (s : State) (now : Nat), isHeld s.dev = false →
    let y := powerSettle now (atTime now s.dev)
    y.pwr.busy = true → y.pwr.entering = 3 → y.tbs.sleeping = false → y.flt.safe = false →
    (∀ i < 127, domainSettled y i = true) →
    Answers (.sleepEntryEdge now) s (fun d =>
      d.tbs = { y.tbs with sleepT := y.tbs.ns, sleepN := 0, running := false, sleeping := true } ∧ d.regs = s.dev.regs ∧ d.objs = s.dev.objs)) ∧
  ∀ (s : State), isHeld s.dev = false →
    (s.dev.tbs.sleeping = true → s.dev.pwr.lost.contains 4 = false →
      Answers .sleepCountEdge s (fun d => d = { s.dev with tbs := { s.dev.tbs with sleepN := s.dev.tbs.sleepN + 1 } })) ∧
    (s.dev.tbs.sleeping = false → Answers .sleepCountEdge s (fun d => d = s.dev))

/-- INTERRUPT_DELIVERY takes the first pending source off the list, tells the management controller of a source it
receives, and sends the unmasked vector of a privileged source at once. A doorbell of firmware counts one more event
of a routed source. A holdoff that has passed sends an unmasked vector that holds events and empties it. Unmasking a
vector clears its mask and sends what it holds unless Function Mask holds it. An idle hint is armed or disarmed as
its bits say; an armed hint sends what unmasked vectors of the function hold. -/
def Obligations.InterruptCommands : Prop :=
  ∀ (s : State) (now : Nat), isHeld s.dev = false → Sound s.dev →
    (∀ n, irqNext s.dev (tabKeys s.dev.irq) = some n →
      Answers (.interruptDelivery now) s (fun d =>
        tabFind d.irq n = none ∧ (∀ j, j ≠ n → tabFind d.irq j = tabFind s.dev.irq j) ∧
        (toMc n = true → Sent (.toFirmware n) d) ∧
        ∀ key, hostVec s.dev n = some key → isMasked s.dev key = false → n < 16 →
          Sent (.msix key) d ∧ (vec d key).held = 0)) ∧
    (∀ source, irqRouted s.dev (source % 1024) = true →
      Answers (.irqDoorbell .firmware source now) s (fun d =>
        (tabGet {} d.irq (source % 1024)).n = (tabGet {} s.dev.irq (source % 1024)).n + 1 ∧
        ∀ j, j ≠ source % 1024 → tabGet {} d.irq j = tabGet {} s.dev.irq j)) ∧
    (∀ fn v, hasVector fn v = true →
      ((vec s.dev (msixKey fn v)).held ≠ 0 → isMasked s.dev (msixKey fn v) = false →
        (vec s.dev (msixKey fn v)).first + 1000 * bits (regGet s.dev (modReg (msixKey fn v))) 0 10 ≤ s.dev.tbs.ns →
        Answers (.msixHoldoffExpiry fn v now) s (fun d =>
          Sent (.msix (msixKey fn v)) d ∧ (vec d (msixKey fn v)).held = 0)) ∧
      Answers (.msixUnmask fn v now) s (fun d =>
        (vec d (msixKey fn v)).masked = false ∧
        ((vec s.dev (msixKey fn v)).held ≠ 0 → isMasked d (msixKey fn v) = false →
          Sent (.msix (msixKey fn v)) d ∧ (vec d (msixKey fn v)).held = 0) ∧
        ∀ k, k ≠ msixKey fn v → vec d k = vec s.dev k)) ∧
    ∀ mask,
      (∀ who l, who = .firmware ∨ who = .pf l → regOpen who Reg.irqIdleHint.base false s.dev = true →
        (∀ e ∈ s.dev.msix, e.2.held = 0) →
        Answers (.idleHintArm who mask now) s (fun d => ∀ i < 4, idleArmed d (256 + i) = bit mask i)) ∧
      ∀ t tee, t < 256 → hostOpen (.vf t tee) s.dev = true → (∀ e ∈ s.dev.msix, e.2.held = 0) →
        Answers (.idleHintArm (.vf t tee) mask now) s (fun d => idleArmed d t = bit mask 0)

/-- A tail write below the ring size to an enabled submission queue sets its tail when the slots fetched and not freed
lie outside the new span. A head write to an enabled completion or event queue sets the head and releases the entries
passed when it does not pass the entries written. EQ_RESET_CLEAR clears EQ_RESET of the caller's function. Every
other queue is as before. A tail write at or above the ring size changes no queue. -/
def Obligations.QueuePointers : Prop :=
  ∀ (who : Caller) (s : State) (v : Nat), isHeld s.dev = false → Sound s.dev → pageOpen who s.dev = true →
    (∀ q, hasSq (fnOf who) q = true →
      let k := sqKey (fnOf who) q
      (v < 2 ^ 14 → v < ringSize s.dev k → (ring s.dev k).on = true →
        (ring s.dev k).unfreed ≤ ringDist (ringSize s.dev k) (ring s.dev k).head v →
        Answers (.sqTailWrite who q v) s (fun d => ring d k = { ring s.dev k with tail := v } ∧
          (∀ j, j ≠ k → ring d j = ring s.dev j) ∧ d.objs = s.dev.objs ∧ d.dmaCh = s.dev.dmaCh)) ∧
      (ringSize s.dev k ≤ v →
        Answers (.sqTailWrite who q v) s (fun d => d.rings = s.dev.rings ∧ d.flt = s.dev.flt))) ∧
    (∀ q, hasCq (fnOf who) q = true →
      let k := cqKey (fnOf who) q
      v < 2 ^ 14 → v < ringSize s.dev k → (ring s.dev k).on = true →
      ringDist (ringSize s.dev k) (ring s.dev k).head v ≤ (ring s.dev k).count →
      Answers (.cqHeadWrite who q v) s (fun d => ring d k = { ring s.dev k with
        head := v, count := (ring s.dev k).count - ringDist (ringSize s.dev k) (ring s.dev k).head v } ∧
        (∀ j, j ≠ k → ring d j = ring s.dev j) ∧ d.objs = s.dev.objs ∧ d.dmaCh = s.dev.dmaCh)) ∧
    (let k := eqKey (fnOf who); v < 2 ^ 14 → v < ringSize s.dev k → (ring s.dev k).on = true →
      ringDist (ringSize s.dev k) (ring s.dev k).head v ≤ (ring s.dev k).count →
      Answers (.eqHeadWrite who v) s (fun d => ring d k = { ring s.dev k with
        head := v, count := (ring s.dev k).count - ringDist (ringSize s.dev k) (ring s.dev k).head v } ∧
        (∀ j, j ≠ k → ring d j = ring s.dev j) ∧ d.objs = s.dev.objs ∧ d.dmaCh = s.dev.dmaCh)) ∧
    Answers (.eqResetClear who) s (fun d =>
      fnQ d (fnOf who) = { fnQ s.dev (fnOf who) with eqReset := false } ∧
      (∀ j, j ≠ fnOf who → fnQ d j = fnQ s.dev j) ∧ d.rings = s.dev.rings)

/-- A fetch that succeeds, on an idle enabled channel, from the queue whose turn it is with a free completion slot, puts
the descriptor on the channel, frees its ring slot, counts it in flight, reserves one completion slot and makes its
function the one served last. A descriptor that has ended and owes an entry leaves its channel, counts as done, gives
back its reserved slot, and its entry is written at the tail of its completion queue. -/
def Obligations.DescriptorCommands : Prop :=
  ∀ (s : State) (c now : Nat), isHeld s.dev = false → Sound s.dev →
    (∀ (fn q : Nat) (desc : Desc), hasSq fn q = true → 24 ≤ c → c < 64 → chanIdle s.dev c = true →
      hasWork s.dev (sqKey fn q) = true → s.dev.flt.safe = false → 0 < cqFree s.dev (cqOf (sqKey fn q)) →
      isTurn s.dev (sqKey fn q) = true →
      (bit desc.flags 1 = false ∨ (ring s.dev (sqKey fn q)).inflight = 0) →
      Answers (.descriptorFetch fn q c desc true now) s (fun d =>
        (∃ r, (dmaChan d c).run = some r ∧ r.d = desc ∧ r.fn = fn ∧ r.sq = q ∧ r.slot = (ring s.dev (sqKey fn q)).head) ∧
        ring d (sqKey fn q) = { ring s.dev (sqKey fn q) with
          head := ((ring s.dev (sqKey fn q)).head + 1) % ringSize s.dev (sqKey fn q)
          inflight := (ring s.dev (sqKey fn q)).inflight + 1 } ∧
        ring d (cqOf (sqKey fn q)) = { ring s.dev (cqOf (sqKey fn q)) with
          reserved := (ring s.dev (cqOf (sqKey fn q))).reserved + 1 } ∧
        (∀ j, j ≠ c → dmaChan d j = dmaChan s.dev j) ∧
        tabGet 256 d.rrLast (sqClass (sqKey fn q)) = rrPos fn)) ∧
    ∀ r : Running, c < 64 → (dmaChan s.dev c).run = some r → r.ended = true → hasSq r.fn r.sq = true → r.fn ≤ 256 →
      r.noEntry = false →
      Answers (.descriptorComplete c true now) s (fun d =>
        (dmaChan d c).run = none ∧ (dmaChan d c).done = ((dmaChan s.dev c).done + 1) % 65536 ∧
        (∀ j, j ≠ c → dmaChan d j = dmaChan s.dev j) ∧
        (∃ b, Sent (.entry r.fn (cqOf (sqKey r.fn r.sq) % 32) (ring s.dev (cqOf (sqKey r.fn r.sq))).tail b) d) ∧
        (ring d (cqOf (sqKey r.fn r.sq))).reserved = (ring s.dev (cqOf (sqKey r.fn r.sq))).reserved - 1 ∧
        (ring d (cqOf (sqKey r.fn r.sq))).count = (ring s.dev (cqOf (sqKey r.fn r.sq))).count + 1 ∧
        (ring d (sqKey r.fn r.sq)).inflight = (ring s.dev (sqKey r.fn r.sq)).inflight - 1)

/-- Receiver lock in ring state 0 or 1 takes the node to closing. The master sends CLOSE while the ring is not closed;
its own CLOSE returning starts enumeration with an ENUM of hop count 0. A node counts its hop in an ENUM; on its
return the master takes the ring up and issues the token. Three attempts without a return, or the closure limit, open
the ring and count it. TABLE takes the ring up. A silent token is issued anew and counted. REENUM starts a new
closure. The three counters count and clear. -/
def Obligations.DrawstringRing : Prop :=
  ∀ (s : State) (now : Nat), isHeld s.dev = false → Sound s.dev →
    let t := (atTime now s.dev).tbs.ns
    let r := s.dev.dsr
    (r.ring ≤ 1 → Answers (.hopLock now) s (fun d => d.dsr = { r with ring := 2, locked := true })) ∧
    (r.master = true → r.ring ≠ 3 → r.ring ≠ 4 →
      Answers (.closeSend now) s (fun d => d.dsr = { r with lastClose := t, frameSeq := (r.frameSeq + 1) % 256 } ∧
        d.emitted = s.dev.emitted ++ [.dsFrame 2 0x3F r.frameSeq 0 0 0 r.nodeId]) ∧
      Answers (.close r.nodeId now) s (fun d =>
        d.dsr = { r with ring := 3, enumTries := 1, enumSent := t, frameSeq := (r.frameSeq + 1) % 256 } ∧
        d.emitted = s.dev.emitted ++ [.dsFrame 3 0x3F r.frameSeq 0 0 0 0])) ∧
    (∀ other, r.master = true → other < r.nodeId →
      Answers (.close other now) s (fun d => d.dsr = { r with master := false } ∧ d.emitted = s.dev.emitted)) ∧
    (∀ m hop es, r.master = false →
      Answers (.enum m hop es now) s (fun d => d.dsr = { r with ring := 3, hop := hop + 1 } ∧
        d.emitted = s.dev.emitted)) ∧
    (∀ hop es, r.master = true → r.ring = 3 →
      Answers (.enum r.nodeId hop es now) s (fun d => d.dsr.ring = 4 ∧ d.dsr.hop = 0 ∧
        d.dsr.tokenSeq = (r.tokenSeq + 1) % 256 ∧
        d.emitted = s.dev.emitted ++ [.dsFrame 4 0x3F r.frameSeq 0 0 0 0, .dsToken ((r.tokenSeq + 1) % 256)])) ∧
    (r.master = true → r.ring = 3 → r.enumSent + 2000000 ≤ t →
      (r.enumTries < 3 → Answers (.enumTimeout now) s (fun d =>
        d.dsr = { r with enumTries := r.enumTries + 1, enumSent := t, frameSeq := (r.frameSeq + 1) % 256 } ∧
        d.emitted = s.dev.emitted ++ [.dsFrame 3 0x3F r.frameSeq 0 0 0 0])) ∧
      (3 ≤ r.enumTries → Answers (.enumTimeout now) s (fun d => d.dsr = { r with ring := 5 } ∧
        regGet d Reg.dsrOpenCnt.base = min (2 ^ 32 - 1) (regGet s.dev Reg.dsrOpenCnt.base + 1)))) ∧
    (∀ es, Answers (.table es now) s (fun d => d.dsr.ring = 4 ∧ d.dsr.nodes = es.length ∧
      d.dsr.masterId = (es.find? fun e => bit e 16).map entryId ∧ d.emitted = s.dev.emitted)) ∧
    (r.ring ≠ 4 → r.ring ≠ 5 → r.resetExit + r.limit * 1000000 ≤ t →
      Answers (.closureLimit now) s (fun d => d.dsr = { r with ring := 5 } ∧
        regGet d Reg.dsrOpenCnt.base = min (2 ^ 32 - 1) (regGet s.dev Reg.dsrOpenCnt.base + 1))) ∧
    (r.master = true → r.ring = 4 → r.lastToken + 1000000 ≤ t →
      Answers (.tokenRegenerate now) s (fun d =>
        d.dsr = { r with tokenSeq := (r.tokenSeq + 1) % 256, lastToken := t } ∧
        d.emitted = s.dev.emitted ++ [.dsToken ((r.tokenSeq + 1) % 256)] ∧
        regGet d Reg.dsrRegenCnt.base = min (2 ^ 32 - 1) (regGet s.dev Reg.dsrRegenCnt.base + 1))) ∧
    (∀ who, r.master = true → regOpen who Reg.dsrCtrl.base false s.dev = true →
      Answers (.reenum who now) s (fun d => d.dsr = { r with ring := 2 })) ∧
    (∀ who, regOpen who Reg.dsrCtrl.base false s.dev = true →
      Answers (.dsrCntClr who) s (fun d => regGet d Reg.dsrCrcErrCnt.base = 0 ∧ regGet d Reg.dsrOpenCnt.base = 0 ∧
        regGet d Reg.dsrRegenCnt.base = 0 ∧ d = { s.dev with regs := d.regs })) ∧
    Answers .drawstringFrameError s (fun d =>
      regGet d Reg.dsrCrcErrCnt.base = min (2 ^ 32 - 1) (regGet s.dev Reg.dsrCrcErrCnt.base + 1) ∧
      d = { s.dev with regs := d.regs })

/-- While the ring is up the token a node holds lets it send the oldest of its own frames with the next SEQ, and the
token then leaves with the same sequence. An ACK of 1 to a request starts its timeout of 0x1C07:0. A frame due for
another try leaves with the next SEQ. Requests whose deadline has passed are dropped, and nothing else changes. -/
def Obligations.DrawstringFrames : Prop :=
  ∀ (s : State) (now : Nat), isHeld s.dev = false →
    let t := (atTime now s.dev).tbs.ns
    let r := s.dev.dsr
    (∀ seq ack f rest, r.ring = 4 → (r.master = false ∨ seq % 256 = r.tokenSeq) → r.own = f :: rest →
      Answers (.drawstringToken seq ack now) s (fun d =>
        d.emitted = s.dev.emitted ++ [.dsFrame f.ty f.dst r.frameSeq f.op f.idx f.sub f.tag, .dsToken (seq % 256)] ∧
        d.dsr.own = rest ∧ d.dsr.frameSeq = (r.frameSeq + 1) % 256 ∧ d.dsr.lastToken = t ∧
        (ack = 1 → f.ty = 1 → f.op < 0x80 → f.dst ≠ 0x3F → d.dsr.outstanding = r.outstanding ++
          [{ dst := f.dst, idx := f.idx, tag := f.tag, deadline := t + objGet s.dev 0x1C07 0 * 1000000 }]))) ∧
    (∀ ack f rest, r.retry = f :: rest → retryDue (atTime now s.dev) f = true →
      Answers (.frameRetry ack now) s (fun d =>
        d.emitted = s.dev.emitted ++ [.dsFrame f.ty f.dst r.frameSeq f.op f.idx f.sub f.tag] ∧
        d.dsr.frameSeq = (r.frameSeq + 1) % 256)) ∧
    Answers (.requestTimeout now) s (fun d => d.dsr = { r with outstanding := r.outstanding.filter fun o => t < o.deadline } ∧
      d.emitted = s.dev.emitted ∧ d.objs = s.dev.objs)

/-- A frame that arrives on a present port while ingress runs is counted; a frame of an exception class that is dropped
adds 1 to that class's counter, one with a bad FCS to 0x50EF and a pause frame to 0x50D3. AGING_VISIT marks the
entries of the next bucket that were not hit as aged, clears the hits and moves on. An accepted FLOW_INSERT leaves
the key in every selected pipeline whose bucket has room; an accepted FLOW_REMOVE leaves it in none of them. -/
def Obligations.IngressCommands : Prop :=
  (∀ (s : State) (port now : Nat) (f : RxFrame), isHeld s.dev = false → Sound s.dev → isPort port = true →
    fld s.dev Reg.pkeIgrCtrl.base 0 1 ≠ 0 → portPresent s.dev port = true →
    (fateOf s.dev port f = .fcs → Answers (.frameReceived port f now) s (fun d =>
      objGet d 0x50EF (pipeOf port) = (objGet s.dev 0x50EF (pipeOf port) + 1) % 2 ^ 32 ∧ d.pke = s.dev.pke)) ∧
    (fateOf s.dev port f = .pauseFrame → Answers (.frameReceived port f now) s (fun d =>
      objGet d 0x50D3 port = (objGet s.dev 0x50D3 port + 1) % 2 ^ 32 ∧ d.pke = s.dev.pke ∧
      objGet d 0x50E0 (pipeOf port) = (objGet s.dev 0x50E0 (pipeOf port) + 1) % 2 ^ 64)) ∧
    ∀ k, fateOf s.dev port f = .cls k → bit (objNow s.dev 0x1A40 0) k = false →
      Answers (.frameReceived port f now) s (fun d =>
        objGet d (classCounter k) (pipeOf port) = (objGet s.dev (classCounter k) (pipeOf port) + 1) % 2 ^ 32 ∧
        objGet d 0x50E0 (pipeOf port) = (objGet s.dev 0x50E0 (pipeOf port) + 1) % 2 ^ 64 ∧ d.pke = s.dev.pke)) ∧
  (∀ (s : State) (i now : Nat), isHeld s.dev = false → Sound s.dev → i < 2 → Rising (pipe s.dev i).flows →
    Rising s.dev.pke.pipes → (pipe s.dev i).ageNext ≠ 0 →
    let b := (pipe s.dev i).ageNext
    Answers (.agingVisit i now) s (fun d => (pipe d i).ageNext = (b + 1) % 4096 ∧
      tabGet [] (pipe d i).flows b =
        (tabGet [] (pipe s.dev i).flows b).map (fun f => { f with aged := f.aged || !f.hit, hit := false }) ∧
      (∀ c, c ≠ b → tabGet [] (pipe d i).flows c = tabGet [] (pipe s.dev i).flows c) ∧
      ∀ j, j ≠ i → pipe d j = pipe s.dev j)) ∧
  ∀ (s : State) (q : Req) (v : Payload), Sound s.dev → Rising s.dev.pke.pipes →
    (∀ i, Rising (pipe s.dev i).flows) →
    granted q 0x1A48 0 (fun d => earned [(v.len != 32, .type)] ++ flowErrs v.val d) s.dev = true →
    let en := destEntry s.dev (byteAt v.val 2) (byteAt v.val 3)
    let la := entrySrc en
    let lp := entrySrcPort en
    let ra := bytesAt v.val 8 16
    let rp := bytesAt v.val 4 2
    (byteAt v.val 0 = 1 →
      (∀ i < 2, bit (byteAt v.val 1) i = true →
        (tabGet [] (pipe s.dev i).flows (flowBucket (objGet s.dev 0x1A41 0) la ra lp rp)).length < 8) →
      Answers (.flowInsert q v) s (fun d => Accepted q 0x1A48 0 d ∧
        ∀ i < 2, bit (byteAt v.val 1) i = true → (flowFind d i la ra lp rp).isSome = true)) ∧
    (byteAt v.val 0 = 2 → Answers (.flowRemove q v) s (fun d => Accepted q 0x1A48 0 d ∧
      ∀ i < 2, bit (byteAt v.val 1) i = true → flowFind d i la ra lp rp = none))

/-- A write that reaches FIRST_CLR, WORST_CLR, LOST_CLR, FLT_CNT_CLR or the standing bits of a source is carried out in
every state, the safe state too. It clears the first capture; the worst capture; the three lost fields; every OCC and
DISC and FLT_DISC_TOTAL; the named standing bits 0 to 3 of the source when no level report stands. Every other part
of the block, and of the collector, is as before. -/
def Obligations.FaultClears : Prop :=
  ∀ (who : Caller) (s : State), isHeld s.dev = false → Sound s.dev →
    (regOpen who Reg.fltCtrl.base true s.dev = true →
      Answers (.firstClr who) s (fun d => d = { s.dev with flt := { s.dev.flt with first := none } }) ∧
      Answers (.worstClr who) s (fun d => d = { s.dev with flt := { s.dev.flt with worst := none } }) ∧
      Answers (.lostClr who) s (fun d =>
        d = { s.dev with flt := { s.dev.flt with lostEvents := 0, lostSev := 0, lostAny := false } }) ∧
      Answers (.fltCntClr who) s (fun d =>
        d.flt.discTotal = 0 ∧ (∀ i, fltSrc d i = { fltSrc s.dev i with occ := 0, disc := 0 }) ∧
        d = { s.dev with flt := { s.dev.flt with srcs := d.flt.srcs, discTotal := 0 } })) ∧
    ∀ src mask : Nat, src < 139 → (fltSrc s.dev src).levels = [] → (fltSrc s.dev src).standing < 32 →
      regOpen who (Reg.fltSrcStat.at src) true s.dev = true →
      Answers (.standingClear who src mask) s (fun d =>
        (∀ k < 4, bit (fltSrc d src).standing k = (bit (fltSrc s.dev src).standing k && !bit mask k)) ∧
        bit (fltSrc d src).standing 4 = bit (fltSrc s.dev src).standing 4 ∧
        (∀ i, i ≠ src → fltSrc d i = fltSrc s.dev i) ∧
        d = { s.dev with flt := { s.dev.flt with srcs := d.flt.srcs } })

/-- FAULT_REPORT_ACCEPT of the oldest report presented by one source takes it off the source's pair, sets STANDING bit s
of the source, adds COUNT to OCC (12 bits, saturating), makes the source pending, captures the first fault if none is
held and the worst fault if the severity exceeds the one held or none is held, with T of the cycle. Severity 4 enters
the safe state with CAUSE 1, or 2 for a forced report; a lower severity leaves it as it was. -/
def Obligations.FaultAcceptance : Prop :=
  ∀ (s : State) (r : Report) (now : Nat), isHeld s.dev = false → Sound s.dev →
    s.dev.flt.presented.find? (·.src == r.src) = some r →
    Answers (.faultReportAccept [(r.src, true)] now) s (fun d =>
      let cap : Capture := { rep := r, time := (atTime now s.dev).tbs.ns, seq := 0 }
      d.flt.presented = s.dev.flt.presented.erase r ∧
      bit (fltSrc d r.src).standing r.sev = true ∧
      (fltSrc d r.src).occ = min 4095 ((fltSrc s.dev r.src).occ + r.count) ∧
      (fltSrc d r.src).latch.isSome = true ∧
      (r.level = true → r ∈ (fltSrc d r.src).levels) ∧
      (∀ i, i ≠ r.src → fltSrc d i = fltSrc s.dev i) ∧
      d.flt.first = (if s.dev.flt.first = none then some cap else s.dev.flt.first) ∧
      (s.dev.flt.worst = none → d.flt.worst = some cap) ∧
      (∀ w, s.dev.flt.worst = some w → d.flt.worst = some (if w.rep.sev < r.sev then cap else w)) ∧
      (r.sev = 4 → d.flt.safe = true ∧ (s.dev.flt.safe = false → d.flt.cause = if r.forced then 2 else 1)) ∧
      (r.sev ≠ 4 → d.flt.safe = s.dev.flt.safe ∧ d.flt.cause = s.dev.flt.cause) ∧
      d.flt.log = s.dev.flt.log ∧ d.flt.head = s.dev.flt.head ∧ d.flt.tail = s.dev.flt.tail)

/-- LOG_RECORD_WRITE with source i next in order writes the record of its latch at slot HEAD mod 256 with SEQ = HEAD and
advances HEAD when there is room (more than 8 free slots below severity 3, one else), and otherwise adds its COUNT to
LOST, raises SEV_MAX and sets ANY; either way the latch clears. LOG_SEL of a readable slot copies the record with
that SEQ, or reads 0. LOG_TAIL takes a value between tail and head modulo 2^32, and refuses any other. -/
def Obligations.FaultLog : Prop :=
  (∀ (s : State) (now i : Nat) (a : Latch), isHeld s.dev = false → Sound s.dev →
    nextPending s.dev.flt.srcs = some (i, a) →
    Answers (.logRecordWrite now) s (fun d =>
      (fltSrc d i).latch = none ∧ (∀ j, j ≠ i → fltSrc d j = fltSrc s.dev j) ∧
      d.flt.safe = s.dev.flt.safe ∧ d.flt.presented = s.dev.flt.presented ∧
      if (if a.rep.sev < 3 then 8 < logFree s.dev else 0 < logFree s.dev) then
        tabGet {} d.flt.log (s.dev.flt.head % 256) = recordOf s.dev.flt.head s.dev.flt.integrity i a ∧
        d.flt.head = (s.dev.flt.head + 1) % 2 ^ 32 ∧ d.flt.lostEvents = s.dev.flt.lostEvents
      else
        d.flt.log = s.dev.flt.log ∧ d.flt.head = s.dev.flt.head ∧
        d.flt.lostEvents = satAdd 24 s.dev.flt.lostEvents a.rep.count ∧
        d.flt.lostSev = max s.dev.flt.lostSev a.rep.sev ∧ d.flt.lostAny = true)) ∧
  (∀ (who : Caller) (s : State) (v now : Nat), isHeld s.dev = false → v < 2 ^ 32 →
    regOpen who Reg.fltLogSel.base true s.dev = true →
    Answers (.logSel who v true now) s (fun d => d.flt.sel = v ∧
      d.flt.words = (if (logSlot s.dev (v % 256)).seq = v ∧ v ≠ 0 then recBytes (logSlot s.dev (v % 256)) else 0) ∧
      d.flt.log = s.dev.flt.log ∧ d.flt.srcs = s.dev.flt.srcs)) ∧
  (∀ (who : Caller) (s : State) (v : Nat), isHeld s.dev = false → v < 2 ^ 32 →
    regOpen who Reg.fltLogTail.base true s.dev = true →
    (tailOk s.dev v = true →
      Answers (.logTail who v) s (fun d => d = { s.dev with flt := { s.dev.flt with tail := v } })) ∧
    (tailOk s.dev v = false →
      Answers (.logTail who v) s (fun d => d = regDrop who Reg.fltLogTail.base .conflict s.dev ∧ d.flt = s.dev.flt)))

/-- A spell of disagreement adds 1 to DISC of its source and to FLT_DISC_TOTAL; the eighth cycle sets WIRE and the
standing bit of severity 3 of that source; agreement clears WIRE and ends the wire fault's level. An integrity
failure sets SUSPECT for records from now on and enters the safe state. A passed self-test sets SELFTEST; a failed
one leaves it 0 and enters the safe state. A force of a report presents a report of code 0x00FF, FORCED set, on the
named source. -/
def Obligations.FaultWiresAndSelfTest : Prop :=
  ∀ s : State, isHeld s.dev = false → Sound s.dev →
    (∀ src : Nat, hasPair src = true →
      Answers (.disagreementSpell src) s (fun d =>
        fltSrc d src = { fltSrc s.dev src with disc := min 4095 ((fltSrc s.dev src).disc + 1) } ∧
        d = { s.dev with flt := { s.dev.flt with
          srcs := d.flt.srcs, discTotal := min (2 ^ 32 - 1) (s.dev.flt.discTotal + 1) } }) ∧
      Answers (.disagreementEnd src) s (fun d =>
        fltSrc d src = { fltSrc s.dev src with
          wire := false
          levels := (fltSrc s.dev src).levels.filter fun p => !(p.code == 0x0002 && p.subject == 0) } ∧
        (∀ i, i ≠ src → fltSrc d i = fltSrc s.dev i) ∧
        d = { s.dev with flt := { s.dev.flt with srcs := d.flt.srcs } }) ∧
      ∀ (forced : Bool) (now : Nat), Answers (.wireFault src forced now) s (fun d =>
        (fltSrc d src).wire = true ∧ bit (fltSrc d src).standing 3 = true ∧
        (∃ r ∈ (fltSrc d src).levels, r.code = 0x0002 ∧ r.sev = 3 ∧ r.forced = forced) ∧
        (∀ i, i ≠ src → fltSrc d i = fltSrc s.dev i) ∧ d.flt.safe = s.dev.flt.safe)) ∧
    (∀ offset now : Nat, Answers (.collectorIntegrity offset now) s (fun d =>
      d.flt.integrity = true ∧ d.flt.safe = true ∧ bit (fltSrc d 0).standing 4 = true)) ∧
    (∀ now : Nat, Answers (.selfTestComplete true now) s (fun d =>
        d.flt = { s.dev.flt with selfTest := true } ∧ d.objs = s.dev.objs ∧ d.tiles = s.dev.tiles) ∧
      Answers (.selfTestComplete false now) s (fun d => d.flt.selfTest = false ∧ d.flt.safe = true)) ∧
    ∀ (who : Caller) (src now : Nat), src ≤ 138 →
      regOpen who (Reg.fltForce.at (min 4 (src / 32))) false s.dev = true →
      bit (regGet s.dev Reg.fltCtrl.base) 9 = true → bit (regGet s.dev Reg.fltForceCfg.base) 3 = false →
      pulsesOf src s.dev.flt.presented < 2 →
      Answers (.forceReport who src now) s (fun d => ∃ r ∈ d.flt.presented, r.src = src ∧ r.code = 0x00FF ∧
        r.sev = bits (regGet s.dev Reg.fltForceCfg.base) 0 3 ∧ r.forced = true)

/-- A tile that runs and takes the assignment of a wanted part waits in phase 1 for the frame's context, or opens it in
phase 2 if the part is the frame's first, until the context is committed; with the context committed and its copy
readable it codes, phase 3. Phase 1 ends the same way. CONTEXT_COMMIT commits the frame's context and codes.
ASSIGN_NEXT and WITHDRAW_NEXT leave their latch and set or clear the loading of the next part. Every other tile is as
before. -/
def Obligations.TileLoading : Prop :=
  ∀ (s : State) (now t : Nat), isHeld s.dev = false → Sound s.dev → t < 96 → (tile s.dev t).runs = true →
    let x := tile s.dev t
    (∀ (j : Job) (ok : Bool), x.cur = some j → partWanted s.dev j = true →
      (x.phase = 0 → x.latch.contains .assignCurrent = true →
        let y : Tile := { x with latch := x.latch.filter (· != .assignCurrent) }
        (committed s.dev j = false → Answers (.assignCurrent t ok now) s (fun d =>
          tile d t = { y with phase := if j.band = 0 ∧ j.part = 0 then 2 else 1 } ∧
          ∀ u, u ≠ t → tile d u = tile s.dev u)) ∧
        (committed s.dev j = true → ok = true →
          (tabGet {} (stream s.dev j.stream).copies (j.frame % 4)).seq = j.frame →
          Answers (.assignCurrent t ok now) s (fun d =>
            tile d t = { y with phase := 3 } ∧ ∀ u, u ≠ t → tile d u = tile s.dev u))) ∧
      (x.phase = 1 → committed s.dev j = true → ok = true →
        (tabGet {} (stream s.dev j.stream).copies (j.frame % 4)).seq = j.frame →
        Answers (.loadStallEnd t ok now) s (fun d =>
          tile d t = { x with phase := 3 } ∧ ∀ u, u ≠ t → tile d u = tile s.dev u)) ∧
      (x.phase = 2 → Answers (.contextCommit t now) s (fun d =>
        tile d t = { x with phase := 3 } ∧ (∀ u, u ≠ t → tile d u = tile s.dev u) ∧
        (stream d j.stream).commit = some j.frame ∧
        tabGet {} (stream d j.stream).copies (j.frame % 4) = { seq := j.frame, ok := true, lines := 96 }))) ∧
    (x.cur.isSome = true → x.latch.contains .assignNext = true → Answers (.assignNext t now) s (fun d =>
      tile d t = { x with latch := x.latch.filter (· != .assignNext), loads := x.nxt.isSome } ∧
      d.streams = s.dev.streams ∧ ∀ u, u ≠ t → tile d u = tile s.dev u)) ∧
    (x.latch.contains .withdrawNext = true → Answers (.withdrawNext t now) s (fun d =>
      tile d t = { x with latch := x.latch.filter (· != .withdrawNext), loads := x.loads && x.nxt.isSome } ∧
      d.streams = s.dev.streams ∧ ∀ u, u ≠ t → tile d u = tile s.dev u))

/-- PART_CODED of a part that met no stored unit that fails its check puts the part's close request, with its instant and
tile, in the queue and the tile waits. CLOSING_GRANT takes the request at the front and gives its tile the grant.
CLOSE_GRANT of a tile whose neighbours, where the grant names them, have closed ends the closing. COMPLETION_POST
leaves the part's completion in the latch with its tile. COMPLETION_COLLECT takes the completion at the front. Stated
for live parts where a lining's close would be compared as well. -/
def Obligations.TileCoding : Prop :=
  (∀ (s : State) (now t : Nat) (j : Job), isHeld s.dev = false → Sound s.dev → t < 96 → (tile s.dev t).runs = true →
    (tile s.dev t).cur = some j →
    (∀ (res : PartResult) (f : Frame), (tile s.dev t).phase = 3 → frameAt s.dev j.stream j.frame = some f →
      (codePart (atTime now s.dev) f j res).1.bad = false →
      Answers (.partCoded t res now) s (fun d => tile d t = { tile s.dev t with phase := 4 } ∧
        ((atTime now s.dev).tbs.ns, t, j) ∈ d.loom.closing ∧ (∀ r ∈ s.dev.loom.closing, r ∈ d.loom.closing) ∧
        ∀ u, u ≠ t → tile d u = tile s.dev u)) ∧
    (∀ (recon : List Nat) (c a b : Bool) (f : Frame), (tile s.dev t).phase = 5 →
      (tile s.dev t).grant = some (c, a, b) → frameAt s.dev j.stream j.frame = some f →
      (a = true → (f.band (j.band - 1)).written = true) → (b = true → (f.band (j.band + 1)).written = true) →
      (isLining j.stream = false ∨ c = false) →
      Answers (.closeGrant t recon now) s (fun d => (tile d t).phase = 6 ∧ (tile d t).grant = none ∧
        (tile d t).cur = some j ∧ ∀ u, u ≠ t → tile d u = tile s.dev u)) ∧
    ((tile s.dev t).phase = 6 →
      Answers (.completionPost t now) s (fun d =>
        (∃ c ∈ d.loom.latch, c.tile = t ∧ c.job = j ∧ c.time = (atTime now s.dev).tbs.ns) ∧
        (∀ c ∈ s.dev.loom.latch, c ∈ d.loom.latch) ∧ d.loom.closing = s.dev.loom.closing))) ∧
  (∀ (s : State) (now x t : Nat) (j : Job) (rest : List (Nat × Nat × Job)), isHeld s.dev = false → Sound s.dev →
    s.dev.loom.closing = (x, t, j) :: rest →
    Answers (.closingGrant now) s (fun d => d.loom = { s.dev.loom with closing := rest } ∧ (tile d t).phase = 5 ∧
      (tile d t).grant.isSome = true ∧ ∀ u, u ≠ t → tile d u = tile s.dev u)) ∧
  ∀ (s : State) (now : Nat) (c : Completion) (rest : List Completion), isHeld s.dev = false →
    s.dev.loom.latch = c :: rest →
    Answers (.completionCollect now) s (fun d => d.loom.latch = rest ∧ d.loom.closing = s.dev.loom.closing)

/-- A tile whose part passes its deadline is late, with LOOM_OVR_LAST naming it; one beyond the hang limit is hung. BOOT
that passes readies the tile and, where it lets no part start early, keeps both signatures; one that fails contains
it and counts it. CONTAINMENT_RESET contains a running tile. Retirement, armed or commanded, retires the tile and
enters it in the map 0x1448:0 when the flash takes it; a retry enters every retired tile. Release clears the hang and
containment and starts BOOT anew. The three counters clear. -/
def Obligations.TileFailures : Prop :=
  (∀ (s : State) (now t : Nat), isHeld s.dev = false → Sound s.dev → t < 96 →
    let x := tile s.dev t
    (∀ j, x.cur = some j → x.on = true → x.gone = false → x.halted = false → x.late = false →
      x.pastDeadline (atTime now s.dev).tbs.ns = true →
      Answers (.stitchOverrun t now) s (fun d => tile d t = { x with late := true } ∧
        regGet d Reg.loomOvrLast.base = (t + b2n (isLining j.stream) * 2 ^ 7 + slotOf j.stream * 2 ^ 8) % 2 ^ 32 ∧
        ∀ u, u ≠ t → tile d u = tile s.dev u)) ∧
    (∀ j, x.cur = some j → x.on = true → x.gone = false → x.halted = false →
      x.deadline + objNow s.dev 0x1311 0 * 2500000 ≤ 9 * (atTime now s.dev).tbs.ns →
      (x.late = true → Answers (.tileHang t now) s (fun d => (tile d t).hung = true))) ∧
    (∀ sig exp, x.on = true → x.boot ≤ 1 → x.retired = false → x.awaits = none →
      (sig % 2 ^ 32 = objGet s.dev 0x1006 0 → exp % 2 ^ 32 = objGet s.dev 0x1006 0 →
        Answers (.boot t true sig exp now) s (fun d => (tile d t).boot = 2 ∧ (tile d t).contained = x.contained ∧
          (tile d t).hung = x.hung ∧ (objNow s.dev 0x1310 0 = 0 → regGet d (Reg.tileSig.at t) = sig % 2 ^ 32 ∧
          regGet d (Reg.tileSigExp.at t) = exp % 2 ^ 32))) ∧
      (sig % 2 ^ 32 ≠ exp % 2 ^ 32 → ∀ ok,
        Answers (.boot t ok sig exp now) s (fun d => (tile d t).boot = 3 ∧ (tile d t).contained = true ∧
          objGet d 0x5091 t = (objGet s.dev 0x5091 t + 1) % 2 ^ 16))) ∧
    (x.on = true → x.gone = false → Answers (.containmentReset t now) s (fun d => (tile d t).contained = true)) ∧
    (isArmed s.dev 1 = true → x.gone = true → x.retired = false →
      Answers (.tileRetire t true now) s (fun d => (tile d t).retired = true ∧ inMap d t = true ∧
        ∀ u, u ≠ t → tile d u = tile s.dev u)) ∧
    (x.retired = true → Answers (.retirementMapRetry true now) s (fun d => inMap d t = true ∧ d.tiles = s.dev.tiles))) ∧
  (∀ (s : State) (q : Req) (t : Nat), Sound s.dev → t < 96 →
    (granted q 0x1444 0 (tileActionErrs t 1) s.dev = true →
      Answers (.tileRelease q t) s (fun d => Accepted q 0x1444 0 d ∧ (tile d t).hung = false ∧
        (tile d t).contained = false ∧ (tile d t).boot = 1 ∧ (tile d t).bootAt = (atTime q.now s.dev).tbs.ns ∧
        (tile d t).retired = (tile s.dev t).retired ∧ ∀ u, u ≠ t → tile d u = tile s.dev u)) ∧
    (granted q 0x1444 0 (tileActionErrs t 2) s.dev = true →
      Answers (.tileRetireCommand q t true) s (fun d => Accepted q 0x1444 0 d ∧ (tile d t).retired = true ∧
        inMap d t = true))) ∧
  ∀ (s : State) (who : Caller) (t : Nat), isHeld s.dev = false → Sound s.dev →
    (t < 96 → regOpen who (Reg.tileCtrl.at t) false s.dev = true →
      Answers (.tileCntClr who t) s (fun d => regGet d (Reg.tileSaveCnt.at t) = 0 ∧ d = { s.dev with regs := d.regs })) ∧
    (regOpen who Reg.loomCtrl.base false s.dev = true →
      Answers (.carryHwmClr who) s (fun d => fld d Reg.loomCarry.base 16 16 = 0 ∧
        fld d Reg.loomCarry.base 0 16 = fld s.dev Reg.loomCarry.base 0 16)) ∧
    (regOpen who Reg.slvCtrl.base false s.dev = true →
      Answers (.slvCorrClr who) s (fun d => pairGet d Reg.slvCorrCntHi.base Reg.slvCorrCntLo.base = 0 ∧
        d = { s.dev with regs := d.regs }))

/-- TBS_STEP by the management controller adds the signed pair to T modulo 2^64; a backward step leaves the stitch
counter, and a forward step that passes boundaries brings the counter to its value and adds the values passed over to
the skips. A write of the time sets T at once, or, under PPS_IN, waits for the next edge, which sets it and clears
the fraction. PPS_OUT rises at a whole second while 0x1326:0 is 1 and falls 1 ms later. -/
def Obligations.TimeSteps : Prop :=
  ∀ (s : State) (now : Nat), isHeld s.dev = false → Sound s.dev →
    let y := atTime now s.dev
    (∀ hi, let x := signed 64 (hi % 2 ^ 32 * 2 ^ 32 + tabGet 0 s.dev.stage Reg.tbsStepLo.base)
      let t := ((y.tbs.ns : Int) + x).toNat % 2 ^ 64
      Answers (.tbsStep .firmware hi now) s (fun d => d.tbs.ns = t ∧ d.tbs.align = y.tbs.align ∧
        (x ≤ 0 → d.tbs = { y.tbs with ns := t } ∧ d.tiles = s.dev.tiles) ∧
        (0 < x → stitchesIn t ≤ y.tbs.cnt → d.tbs = { y.tbs with ns := t }) ∧
        (0 < x → y.tbs.cnt < stitchesIn t →
          d.tbs = { y.tbs with ns := t, cnt := stitchesIn t, skip := min (2 ^ 32 - 1) (y.tbs.skip + (stitchesIn t - y.tbs.cnt - 1)) }))) ∧
    (∀ v, timingSource y = 2 → disciplined y = true → y.tbs.setAtPps = some v →
      Answers (.ppsInEdge now) s (fun d => d.tbs.ns = v % 2 ^ 64 ∧ d.tbs.frac = 0 ∧ d.tbs.setAtPps = none)) ∧
    (y.tbs.ppsOut = true → y.tbs.ppsFall ≤ y.tbs.ns → Answers (.ppsOut now) s (fun d => d = { y with tbs := { y.tbs with ppsOut := false } })) ∧
    (y.tbs.ppsOut = false → objGet y 0x1326 0 = 1 → y.tbs.ns % 1000000000 ≤ 8 →
      Answers (.ppsOut now) s (fun d => d = { y with tbs := { y.tbs with ppsOut := true, ppsFall := y.tbs.ns / 1000000000 * 1000000000 + 1000000 } })) ∧
    ∀ (q : Req) (v : Payload), granted q 0x1324 0 (timeSetErrs v) s.dev = true → q.now = now →
      (objGet y 0x1320 0 = 2 → Answers (.timeSet q v) s (fun d => Accepted q 0x1324 0 d ∧ d.tbs = { y.tbs with setAtPps := some v.val })) ∧
      (objGet y 0x1320 0 ≠ 2 → Answers (.timeSet q v) s (fun d => Accepted q 0x1324 0 d ∧ d.tbs.ns = v.val % 2 ^ 64 ∧ d.tbs.frac = 0))

/-- A Sync publishes its offset and its time; a large one steps T out of alignment, any other is slewed and sixteen small
ones in a row align. A chosen ANNOUNCE takes the grandmaster and the UTC offset, and a new grandmaster returns the
servo to Locking. Three seconds without Sync end alignment. Without alignment at the lock limit the pairing is
refused with reason 6. A timing message of an enabled port goes to the management controller with T less the
correction. -/
def Obligations.TimeServo : Prop :=
  ∀ (s : State) (now : Nat), isHeld s.dev = false → Sound s.dev →
    let y := atTime now s.dev
    (∀ (off : Int), timingSource y = 1 → disciplined y = true →
      Answers (.ptpSync off now) s (fun d => d.tbs.offset = max (-2147483647) (min 2147483647 off) ∧ d.tbs.lastSync = y.tbs.ns ∧
        (y.tbs.align ≠ 2 → 100000 < off.natAbs → d.tbs.ns = ((y.tbs.ns : Int) + -off).toNat % 2 ^ 64 ∧ d.tbs.align = 1 ∧ d.tbs.goodSyncs = 0) ∧
        (y.tbs.align ≠ 2 → off.natAbs ≤ 100000 → y.tbs.badSyncs < 4 → d.tbs.ns = y.tbs.ns ∧
          let g := if off.natAbs ≤ 250 then min 16 (y.tbs.goodSyncs + 1) else 0
          d.tbs.goodSyncs = g ∧ d.tbs.align = if g = 16 then 2 else max 1 y.tbs.align) ∧
        (y.tbs.align = 2 → 500 < off.natAbs → 3 ≤ y.tbs.badSyncs → d.tbs.align = 1))) ∧
    (∀ clock (utc : Int), timingSource y = 1 → disciplined y = true →
      Answers (.announce clock utc true now) s (fun d => d.tbs.grandmaster = clock % 2 ^ 64 ∧ objGet d 0x1323 0 = unsigned 32 utc ∧
        (clock % 2 ^ 64 ≠ y.tbs.grandmaster → d.tbs.align = 1 ∧ d.tbs.goodSyncs = 0) ∧
        (clock % 2 ^ 64 = y.tbs.grandmaster → d.tbs = y.tbs))) ∧
    (timingSource y = 1 → y.tbs.align ≠ 0 → y.tbs.lastSync + 3000000000 ≤ y.tbs.ns →
      Answers (.syncTimeout now) s (fun d => d.tbs = { y.tbs with align := 0, goodSyncs := 0, badSyncs := 0 } ∧ d.objs = s.dev.objs)) ∧
    (isAligned y = false → pairWanted y = true → y.pair.st ≤ 1 →
      Answers (.ptpLockTimeout now) s (fun d => d.pair = { s.dev.pair with st := 5, since := y.tbs.ns, keyed := false } ∧ objGet d 0x1409 0 = 6)) ∧
    ∀ p, isPort p = true → timingOn y p = true → linkUp y p = true →
      Answers (.ptpEventReceived p now) s (fun d =>
        d = emit (.ptpEvent p (corrected y.tbs.ns (-signed 32 (bytesAt (objGet y 0x1A04 p) 4 4)))) y)

/-- An accepted request for a package state is kept in 0x1200:0 and clears the wake latch; during a transition it is
marked to be taken up at the end, otherwise a transition to it begins at once, which leaves alignment on the way to
Standby or Sleep. A transition that is done with its target standing ends in the state it entered. One that passes
its bound goes on and is marked late, once. -/
def Obligations.PackageStates : Prop :=
  (∀ (s : State) (q : Req) (v : Nat), Sound s.dev → granted q 0x1200 0 (packageErrs v) s.dev = true →
    let y := atTime q.now s.dev
    (y.pwr.busy = true → Answers (.packageStateRequest q v) s (fun d => Accepted q 0x1200 0 d ∧ objGet d 0x1200 0 = v ∧
      d.pwr = { y.pwr with latch := false, again := true })) ∧
    (y.pwr.busy = false → y.flt.safe = false → v ≠ y.pwr.state →
      Answers (.packageStateRequest q v) s (fun d => Accepted q 0x1200 0 d ∧ objGet d 0x1200 0 = v ∧
        d.pwr.latch = false ∧ d.pwr.busy = true ∧ d.pwr.entering = v ∧ d.pwr.state = y.pwr.state ∧ d.pwr.late = false ∧
        (2 ≤ v → d.tbs.align = 0)))) ∧
  ∀ (s : State) (now : Nat), isHeld s.dev = false →
    (let y := powerSettle now (atTime now s.dev);
      transitionDone y = true → y.pwr.resetWaits = false → packageTarget y = y.pwr.entering →
      Answers (.packageTransitionComplete now) s (fun d => d.pwr.state = y.pwr.entering ∧ d.pwr.busy = false ∧ d.pwr.late = false ∧
        d.objs = s.dev.objs ∧ d.regs = s.dev.regs)) ∧
    (let y := atTime now s.dev;
      y.pwr.busy = true → y.pwr.late = false →
      (y.pwr.since + transitionBound y.pwr.state y.pwr.entering ≤ powerNow now y →
        Answers (.transitionOvertime now) s (fun d => d.pwr = { y.pwr with late := true } ∧ d.objs = y.objs)) ∧
      (powerNow now y < y.pwr.since + transitionBound y.pwr.state y.pwr.entering →
        Answers (.transitionOvertime now) s (fun d => d = y)))

/-- DOMAIN_POWER_GOOD ends the transition with the domain on; a tile then starts BOOT. DOMAIN_OFF ends it with the domain
off; a tile has lost the part it held. A domain whose power-good does not come in four times its bound is blocked and
stays as it was; a tile is contained. A tile without a vote that has idled through a whole stitch begins to turn off.
The management controller frees held pads of a domain that is on. -/
def Obligations.PowerDomains : Prop :=
  ∀ (s : State) (k now : Nat), isHeld s.dev = false → Sound s.dev → k < 128 →
    let y := powerSettle now (atTime now s.dev)
    let z := atTime now s.dev
    (∀ t0, (domAt y k).moving = some (true, t0) →
      Answers (.domainPowerGood k now) s (fun d => domOn d k = true ∧
        (k < 96 → (tile d k).boot = 1 ∧ (tile d k).bootAt = y.tbs.ns ∧ (tile d k).cur = none) ∧
        ∀ u, u ≠ k → tile d u = tile s.dev u)) ∧
    (∀ t0, (domAt y k).moving = some (false, t0) → Rising y.pwr.doms →
      Answers (.domainOff k now) s (fun d => domOn d k = false ∧ (k < 96 → (tile d k).cur = none ∧ (tile d k).nxt = none) ∧
        ∀ u, u ≠ k → tile d u = tile s.dev u)) ∧
    (∀ t0, (domAt z k).moving = some (true, t0) → t0 + 4 * goodBound k ≤ now →
      (96 ≤ k → Answers (.powerGoodTimeout k now) s (fun d => domAt d k = { domAt z k with moving := none, blocked := true, ignored := true } ∧
        d.tiles = s.dev.tiles)) ∧
      (k < 96 → (tile s.dev k).awaits = none → Answers (.powerGoodTimeout k now) s (fun d => (tile d k).contained = true))) ∧
    (k < 96 → (tile s.dev k).on = true → wanted y k = false → (domAt y k).moving = none → y.flt.safe = false →
      ((tile s.dev k).gone = true ∨ (tile s.dev k).holds = false ∧ (tile s.dev k).idleSince + 2 ≤ z.tbs.cnt) →
      Answers (.tileIdleOff k now) s (fun d => (domAt d k).moving = some (false, now) ∧ d.tiles = s.dev.tiles)) ∧
    ∀ pass, hasPads k = true → 112 ≤ k → domOn z k = true → padsHeld z k = true →
      Answers (.pwrPadRelease .firmware k pass now) s (fun d => padsHeld d k = false ∧ domOn d k = true)

/-- A WAKE frame to the node or to all, WAKE_N low, a wake at a PCIe port and a wake pattern on an enabled Ethernet port
set the wake latch outside Run where their source is enabled, name their source, and begin a transition to Run when
none is in progress. A source that is not enabled changes nothing. The wake edge restarts T at T_e plus the counted
reference periods, and the stitch counter with it, which never falls. -/
def Obligations.PowerWake : Prop :=
  (∀ (s : State) (now src : Nat), isHeld s.dev = false →
    let y := atTime now s.dev
    let wakes := fun c : Instr =>
      (bit (objGet y 0x1214 0) src = true → y.pwr.state ≠ 0 →
        Answers c s (fun d => d.pwr.latch = true ∧ d.pwr.lastWake = 2 ^ src ∧ d.objs = s.dev.objs ∧
          (y.pwr.busy = false → y.flt.safe = false → d.pwr.busy = true ∧ d.pwr.entering = 0))) ∧
      (bit (objGet y 0x1214 0) src = false → Answers c s (fun d => d = y))
    (src = 0 → ∀ dst, dst = s.dev.dsr.nodeId ∨ dst = 0x3F → wakes (.wake dst now)) ∧
    (src = 3 → wakes (.wakeNLow now)) ∧
    (∀ port < 2, src = 1 + port → wakes (.pcieWake port now)) ∧
    ∀ port, isPort port = true → src = 4 → bit (objGet y 0x1C08 0) port = true → wakes (.ethernetWakePattern port now)) ∧
  ∀ (s : State), isHeld s.dev = false → s.dev.tbs.sleeping = true → s.dev.pwr.busy = true → s.dev.pwr.entering ≠ 3 →
    domOn s.dev 127 = true → s.dev.pwr.lost.contains 0 = false →
    Answers .wakeEdge s (fun d => d.tbs.running = true ∧ d.tbs.sleeping = false ∧
      d.tbs.ns * 2 ^ 32 + d.tbs.frac = s.dev.tbs.ns * 2 ^ 32 + s.dev.tbs.frac + s.dev.tbs.sleepN * 131072000000000 ∧
      d.tbs.frac < 2 ^ 32 ∧ d.tbs.wakeT = d.tbs.ns ∧ d.tbs.cnt = max s.dev.tbs.cnt (9 * (d.tbs.ns * 2 ^ 32 + d.tbs.frac) / (2500000 * 2 ^ 32)) ∧
      d.tbs.passed = d.tbs.cnt - s.dev.tbs.cnt - 1 ∧ d = { s.dev with tbs := d.tbs })

/-- A power sample enters the last ten, and the time above the cap starts or ends with the mean. Ten milliseconds above
the cap, and every hundred after, POWER_CAP_EXCEEDED marks the time and keeps the state of every domain. A sample of
a junction sensor in its physical range is its new reading. The loss of a reference is noted, that of the system
reference stops the timebase clock; its return takes it off the list. -/
def Obligations.PowerMonitors : Prop :=
  ∀ (s : State) (now : Nat), isHeld s.dev = false →
    let y := atTime now s.dev
    (∀ mw rails, Answers (.powerSample mw rails now) s (fun d =>
      d.pwr.samples = (mw :: y.pwr.samples).take 10 ∧ (aboveCap d = false → d.pwr.above = none ∧ d.pwr.raised = none) ∧
      (aboveCap d = true → d.pwr.above = some (y.pwr.above.getD y.tbs.ns) ∧ d.pwr.raised = y.pwr.raised))) ∧
    (∀ t0 cap, y.pwr.above = some t0 → powerCap y = some cap → aboveCap y = true →
      (y.pwr.raised = none → t0 + 10000000 ≤ y.tbs.ns) → (∀ t1, y.pwr.raised = some t1 → t1 + 100000000 ≤ y.tbs.ns) →
      Answers (.powerCapExceeded now) s (fun d => d.pwr = { y.pwr with raised := some y.tbs.ns } ∧
        (isArmed y 9 = false → d.objs = y.objs ∧ d.ladder = y.ladder))) ∧
    (∀ temps, Answers (.sensorSample temps now) s (fun d => ∀ i < 20, ∀ c : Int,
      temps[i]? = some (some c) → -40 * 65536 ≤ c → c ≤ 150 * 65536 → (sensor y i).failed = false →
      sensor d i = { sensor y i with seen := true, reading := unsigned 32 c })) ∧
    ∀ k, isClock k = true →
      (y.pwr.lost.contains k = false → Answers (.referenceLoss k now) s (fun d => d.pwr = { y.pwr with lost := k :: y.pwr.lost } ∧
        (k = 0 → d.tbs = { y.tbs with running := false }))) ∧
      Answers (.referenceReturn k now) s (fun d => d = { y with pwr := { y.pwr with lost := y.pwr.lost.filter (· != k) }, flt := d.flt } ∧
        (k = 0 → d.flt = y.flt))

/-- The fall of POR_N, and that of VDD_AON, return every object that is not kept in flash to its default, take the
flash's PCIe configuration into force, end every session and hold the device with T stopped; the kind of reset is 2,
or 1 for VDD_AON, which also ends THERMTRIP. The release by the last of the two samples the straps: node number and
master of the Drawstring, which then waits at state 1. While the other still holds, or with nothing held, a release
does only that. -/
def Obligations.ResetPins : Prop :=
  (∀ (s : State), Sound s.dev →
    let lost := fun (k : Nat) (d : Dev) => isHeld d = true ∧ d.pwr.booted = false ∧ d.pwr.cause = k ∧ d.tbs.running = false ∧
      d.sess = [] ∧ d.streams = [] ∧ d.pair.st = 0 ∧ d.flt.safe = false ∧ d.mem = [] ∧
      objGet d 0x1107 0 = objGet s.dev 0x1106 0 ∧
      ∀ i u, u < 256 → i ≠ 0x1107 → objGet d i u = if inFlash i then objGet s.dev i u else objDefault i u
    Answers .porNFall s (fun d => lost 2 d ∧ d.pwr.porLow = true ∧ d.pwr.aonDown = s.dev.pwr.aonDown ∧ d.pwr.trip = s.dev.pwr.trip) ∧
    Answers .aonBrownOut s (fun d => lost 1 d ∧ d.pwr.aonDown = true ∧ d.pwr.porLow = s.dev.pwr.porLow ∧ d.pwr.trip = false)) ∧
  ∀ (s : State) (straps : Nat),
    let ready := fun (k : Nat) (d : Dev) => d.dsr.ring = 1 ∧ d.dsr.nodeId = straps % 32 ∧ d.dsr.master = bit straps 5 ∧ isHeld d = false ∧
      d.pwr.cause = k ∧ d.pwr.booted = false ∧ d.sess = []
    (s.dev.pwr.porLow = true → s.dev.pwr.aonDown = false → Answers (.porNRise straps) s (ready s.dev.pwr.cause)) ∧
    (s.dev.pwr.porLow = true → s.dev.pwr.aonDown = true →
      Answers (.porNRise straps) s (fun d => d = { s.dev with pwr := { s.dev.pwr with porLow := false } })) ∧
    (s.dev.pwr.porLow = false → Answers (.porNRise straps) s (fun d => d = s.dev)) ∧
    (s.dev.pwr.aonDown = true → s.dev.pwr.porLow = false → Answers (.aonSupplyReturn straps) s (ready 1)) ∧
    (s.dev.pwr.aonDown = true → s.dev.pwr.porLow = true →
      Answers (.aonSupplyReturn straps) s (fun d => d = { s.dev with pwr := { s.dev.pwr with aonDown := false } })) ∧
    (s.dev.pwr.aonDown = false → Answers (.aonSupplyReturn straps) s (fun d => d = s.dev))

/-- A warm reset asked for in Run or in the safe state is carried out at once: kind 4, counted, the safe state left,
firmware stopped and every session ended; asked for elsewhere it waits and the wake latch is set. A cold reset is
carried out at once with kind 3. An uncorrectable error in shared SRAM or in the management controller's memory
brings a warm reset of kind 5 with its source, one in a tile contains the tile; a corrected one is counted. -/
def Obligations.ResetRequests : Prop :=
  (∀ (s : State) (q : Req), Sound s.dev → granted q 0x1202 0 (fun _ => []) s.dev = true →
    let y := atTime q.now s.dev
    (y.pwr.resetAt = none → (y.pwr.state = 0 ∨ y.flt.safe = true) →
      Answers (.warmResetRequest q) s (fun d => d.pwr.cause = 4 ∧ d.pwr.causeSrc = 0 ∧ d.pwr.warmCnt = min 65535 (y.pwr.warmCnt + 1) ∧
        d.pwr.booted = false ∧ d.pwr.resetAt = some y.tbs.ns ∧ d.flt.safe = false ∧ d.sess = [] ∧ d.streams = [] ∧ d.lib = [])) ∧
    (y.pwr.state ≠ 0 → y.flt.safe = false →
      Answers (.warmResetRequest q) s (fun d => Accepted q 0x1202 0 d ∧ d.pwr.resetWaits = true ∧ d.pwr.latch = true ∧ d.pwr.booted = y.pwr.booted)) ∧
    Answers (.coldResetRequest q) s (fun d => d.pwr.cause = 3 ∧ d.pwr.booted = false ∧ d.sess = [] ∧ d.flt.safe = false ∧ d.dsr.ring = 1)) ∧
  ∀ (s : State) (addr now : Nat), isHeld s.dev = false → Sound s.dev →
    let y := atTime now s.dev
    (∀ u < 2, y.pwr.resetAt = none → Answers (.onchipMemoryError u false addr now) s (fun d =>
      d.pwr.cause = 5 ∧ d.pwr.causeSrc = (if u = 0 then 9 else 1) ∧ d.pwr.booted = false ∧ d.pwr.resetAt = some y.tbs.ns ∧ d.sess = [])) ∧
    Answers (.onchipMemoryError 0 true addr now) s (fun d =>
      regGet d Reg.wrdSramCorr.base = min (2 ^ 32 - 1) (regGet y Reg.wrdSramCorr.base + 1) ∧ d.objs = y.objs) ∧
    Answers (.onchipMemoryError 1 true addr now) s (fun d => d = { y with flt := d.flt }) ∧
    ∀ t < 96,
      Answers (.onchipMemoryError (2 + t) true addr now) s (fun d => d.tiles = y.tiles ∧
        pairGet d Reg.slvCorrCntHi.base Reg.slvCorrCntLo.base = satAdd 64 (pairGet y Reg.slvCorrCntHi.base Reg.slvCorrCntLo.base) 1) ∧
      ((tile y t).on = true → (tile y t).gone = false →
        Answers (.onchipMemoryError (2 + t) false addr now) s (fun d => (tile d t).contained = true))

/-- On a link whose DOE mailbox is served, GET_VERSION is answered with 1.2 and begins the connection anew, the next two
requests take it further, and from then on digests, certificate chain, measurements and challenge are answered and
KEY_EXCHANGE opens the lowest free session, or answers Busy when 8 are open or the random source has failed. A
request before its step is answered UnexpectedRequest and changes nothing of the security block. -/
def Obligations.SpdmConnection : Prop :=
  ∀ (s : State) (l now : Nat), isHeld s.dev = false → isLink l = true →
    let y := atTime now s.dev
    doeServed y l = true →
    Answers (.getVersion l now) s (fun d => Sent (.doe l 0x84 0 [0x12]) d ∧ connOf d l = 1) ∧
    (1 ≤ connOf y l → Answers (.getCapabilities l now) s (fun d => Sent (.doe l 0xE1 0 []) d ∧ connOf d l = max 2 (connOf y l))) ∧
    (2 ≤ connOf y l → Answers (.negotiateAlgorithms l now) s (fun d => Sent (.doe l 0xE3 0 []) d ∧ connOf d l = 3)) ∧
    (3 ≤ connOf y l →
      Answers (.getDigests l now) s (fun d => Sent (.doe l 0x81 0 [1]) d ∧ d.sec = y.sec) ∧
      Answers (.getCertificate l now) s (fun d => Sent (.doe l 0x82 0 [Config.certificateChain]) d ∧ d.sec = y.sec) ∧
      Answers (.challenge l now) s (fun d => Sent (.doe l 0x83 0 [Config.measurementDigest y.pwr.image y.sec.debug]) d ∧ d.sec = y.sec) ∧
      Answers (.getMeasurements l now) s (fun d => Sent (.doe l 0xE0 0 (measurements y)) d ∧ d.sec = y.sec) ∧
      (∀ n, freeSession y = some n → y.sec.rngFail = false → Answers (.keyExchange l now) s (fun d => Sent (.doe l 0xE4 0 [n]) d ∧
        tabFind d.sec.sessions n = some { link := l, last := y.tbs.ns })) ∧
      ((freeSession y = none ∨ y.sec.rngFail = true) →
        Answers (.keyExchange l now) s (fun d => Sent (.doe l 0xE4 3 []) d ∧ d.sec = y.sec))) ∧
    (connOf y l < 1 → Answers (.getCapabilities l now) s (fun d => Sent (.doe l 0xE1 4 []) d ∧ d.sec = y.sec)) ∧
    (connOf y l < 2 → Answers (.negotiateAlgorithms l now) s (fun d => Sent (.doe l 0xE3 4 []) d ∧ d.sec = y.sec)) ∧
    (connOf y l < 3 → ∀ c r, (c, r) ∈ [(Instr.getDigests l now, 0x81), (.getCertificate l now, 0x82), (.challenge l now, 0x83),
        (.getMeasurements l now, 0xE0), (.keyExchange l now, 0xE4)] →
      Answers c s (fun d => Sent (.doe l r 4 []) d ∧ d.sec = y.sec))

/-- A verified FINISH opens a session; in an open session HEARTBEAT and KEY_UPDATE are answered and END_SESSION ends it,
and each counts as heard. Of a message that does not verify nothing is taken: it is answered with DecryptError and
the sessions stay. A session silent for 60 s ends. A failure of the random source is kept and stands as fault 0x0070. -/
def Obligations.SecuredSessions : Prop :=
  (∀ (s : State) (n now l t0 : Nat) (opened : Bool), isHeld s.dev = false → isSession n = true →
    let y := atTime now s.dev
    tabFind y.sec.sessions n = some { link := l, last := t0, open_ := opened } → doeServed y l = true →
    let heard := fun (d : Dev) => tabFind d.sec.sessions n = some { link := l, last := y.tbs.ns, open_ := true }
    (opened = false → Answers (.finish n true now) s (fun d => Sent (.doe l 0xE5 0 []) d ∧ heard d)) ∧
    (opened = true →
      Answers (.spdmHeartbeat n true now) s (fun d => Sent (.doe l 0xE8 0 []) d ∧ heard d) ∧
      Answers (.keyUpdate n true now) s (fun d => Sent (.doe l 0xE9 0 []) d ∧ heard d) ∧
      (Rising y.sec.sessions → Answers (.endSession n true now) s (fun d => Sent (.doe l 0xEC 0 []) d ∧ tabFind d.sec.sessions n = none))) ∧
    (∀ c r, (c, r) ∈ [(Instr.finish n false now, 0xE5), (.spdmHeartbeat n false now, 0xE8), (.keyUpdate n false now, 0xE9),
        (.endSession n false now, 0xEC)] →
      Answers c s (fun d => Sent (.doe l r 6 []) d ∧ d.sec = y.sec))) ∧
  (∀ (s : State) (n now : Nat) (x : Spdm), isHeld s.dev = false → isSession n = true → Rising s.dev.sec.sessions →
    let y := atTime now s.dev
    tabFind y.sec.sessions n = some x →
    Answers (.spdmSessionTimeout n now) s (fun d => (tabFind d.sec.sessions n = none ↔ x.last + 60000000000 ≤ y.tbs.ns) ∧
      ∀ k, k ≠ n → tabFind d.sec.sessions k = tabFind y.sec.sessions k)) ∧
  ∀ (s : State) (now : Nat), isHeld s.dev = false →
    let r : Report := { src := 8, code := 0x0070, sev := 3, level := true }
    Answers (.rngHealthFailure now) s (fun d => d.sec = { s.dev.sec with rngFail := true } ∧
      d.flt.presented = if levelStands (atTime now s.dev) r then s.dev.flt.presented else s.dev.flt.presented ++ [r])

/-- An installation message of 40 bytes that earns no code makes a tenant slot KEYED with its root key, its identity and
a generation that rises, or installs the operator key, and the answer says so; one that earns a code installs nothing
and is answered with the first code. The accepted erasure of a tenant's keys leaves the slot at most BOUND with no
key, that of the operator key leaves none; both let the command counter begin anew. -/
def Obligations.KeyInstallation : Prop :=
  (∀ (s : State) (n now m l t0 : Nat), isHeld s.dev = false → Sound s.dev → isSession n = true →
    let y := atTime now s.dev
    tabFind y.sec.sessions n = some { link := l, last := t0, open_ := true } → doeServed y l = true →
    let t := bytesAt m 2 2
    let key := bytesAt m 8 32
    let tenantKeyed := fun (d : Dev) => (tenantOf d t).st = 2 ∧ (tenantOf d t).root = some key ∧ (tenantOf d t).segs = [] ∧
      (tenantOf d t).bound = (tenantOf y t).bound ∧ objGet d 0x2052 t = Config.derivedKey 0 key % 2 ^ 128 ∧
      objGet d 0x2053 t = (objGet y 0x2053 t + 1) % 2 ^ 32 ∧ tabFind d.lastCtr (2 * t) = none ∧
      (holdsBlocks y t = false → (tenantOf d t).salt = some (rngBits 256 y, Config.derivedKey 0 key % 2 ^ 128)) ∧
      ∃ b, Sent (.doe l 0xFE 0 (0 :: t :: b)) d
    let operatorKeyed := fun (d : Dev) => d.sec.opKeyed = true ∧ d.sec.opKey = Config.derivedKey 1 key ∧
      objGet d 0x1612 0 = (objGet y 0x1612 0 + 1) % 2 ^ 32 ∧ tabFind d.lastCtr 512 = none ∧ ∃ b, Sent (.doe l 0xFE 0 (0 :: t :: b)) d
    (installErrs m y = [] → byteAt m 0 = 1 → Answers (.installTenant n m true now) s tenantKeyed) ∧
    (installErrs m y = [] → byteAt m 0 ≠ 1 → Answers (.installOperator n m true now) s operatorKeyed) ∧
    ∀ e, (installErrs m y).head? = some e → ∀ c ∈ [Instr.installTenant n m true now, .installOperator n m true now],
      Answers c s (fun d => Sent (.doe l 0xFE 0 [e.code, t]) d ∧ d.tenants = y.tenants ∧ d.objs = y.objs ∧
        d.sec = { y.sec with sessions := tabSet y.sec.sessions n { link := l, last := y.tbs.ns, open_ := true } })) ∧
  (∀ (s : State) (q : Req) (t v : Nat), Sound s.dev → isSlot t = true →
    granted q 0x2051 t (fun d => earned [(decide (255 < v), .type), (v != 1, .range)] ++ earned [(!allFree d t, .state)]) s.dev = true →
    let y := atTime q.now s.dev
    Answers (.tenantKeyErase q t v) s (fun d => Accepted q 0x2051 t d ∧ (tenantOf d t).st = min (tenantOf y t).st 1 ∧
      (tenantOf d t).root = none ∧ (tenantOf d t).segs = [] ∧ objGet d 0x2052 t = objDefault 0x2052 t ∧
      tabFind d.lastCtr (2 * t) = none ∧ ∀ u, u ≠ t → tenantOf d u = tenantOf y u)) ∧
  ∀ (s : State) (q : Req) (v : Nat), Sound s.dev →
    granted q 0x1611 0 (fun _ => earned [(decide (255 < v), .type), (v != 1, .range)] ++ []) s.dev = true →
    Answers (.operatorKeyErase q v) s (fun d => Accepted q 0x1611 0 d ∧ d.sec.opKeyed = false ∧ d.sec.opKey = 0 ∧
      tabFind d.lastCtr 512 = none ∧ d.tenants = s.dev.tenants)

/-- A DEBUG_UNLOCK that is granted leaves the device in a warm reset of kind 6 with debug unlocked, no operator key, and
every tenant that had a slot without a root key and at most BOUND. -/
def Obligations.DebugUnlock : Prop :=
  ∀ (s : State) (q : Req) (v : Nat), Sound s.dev →
    granted q 0x1610 0 (fun d => earned [(decide (255 < v), .type), (v != 1, .range), (!noSessions d, .state)]) s.dev = true →
    Answers (.debugUnlock q v) s (fun d => d.pwr.cause = 6 ∧ d.pwr.resetAt = some (atTime q.now s.dev).tbs.ns ∧
      d.sec.debug = true ∧ d.sec.opKeyed = false ∧ d.sec.opKey = 0 ∧ d.sess = [] ∧
      ∀ t, (tenantOf d t).root = none ∧ (t ∈ tabKeys s.dev.tenants → (tenantOf d t).st ≤ 1))

/-- IDE_KM in an open session puts the key of one of a stream's six places; with all six the stream is secure; a stream
or place the link has not is answered InvalidRequest. A failure of a stream's integrity leaves it insecure. A
function of the session's link that is bound is locked; a locked one whose slot is KEYED runs; either is stopped and
its streams are bound no more. A request out of place or about another link's function is answered with an error and
changes no interface. -/
def Obligations.IsolatedInterfaces : Prop :=
  (∀ (s : State) (n now l t0 : Nat), isHeld s.dev = false → Sound s.dev → isSession n = true →
    let y := atTime now s.dev
    tabFind y.sec.sessions n = some { link := l, last := t0, open_ := true } → doeServed y l = true →
    (∀ stream place key, stream ≤ 16 → place ≤ 5 → Answers (.ideKm n stream place key true now) s (fun d =>
      let keys := tabSet (ideStream y l stream).keys place key
      Sent (.doe l 0xFE 0 []) d ∧ ideStream d l stream = { ideStream y l stream with keys := keys, secure := decide (keys.length = 6) })) ∧
    (∀ stream place key, 16 < stream ∨ 5 < place → Answers (.ideKm n stream place key true now) s (fun d =>
      Sent (.doe l 0xFE 1 []) d ∧ d.sec.ide = y.sec.ide)) ∧
    ∀ fn, isFunction fn = true →
      (linkOfFn y fn ≠ l → ∀ c ∈ [Instr.lockInterfaceRequest n fn 1 true now, .startInterfaceRequest n fn true now, .stopInterfaceRequest n fn true now],
        Answers c s (fun d => Sent (.doe l 0xFE 0x101 []) d ∧ d.sec.tdisp = y.sec.tdisp)) ∧
      (linkOfFn y fn = l →
        (∀ stream, tabGet 0 y.sec.tdisp fn = 0 → (tenantAt y fn).isSome = true →
          Answers (.lockInterfaceRequest n fn stream true now) s (fun d => Sent (.doe l 0xFE 0 []) d ∧ tabGet 0 d.sec.tdisp fn = 1 ∧
            (1 ≤ stream → stream ≤ 16 → (ideStream d l stream).fn = some fn))) ∧
        (∀ stream, (tabGet 0 y.sec.tdisp fn ≠ 0 ∨ tenantAt y fn = none) →
          Answers (.lockInterfaceRequest n fn stream true now) s (fun d => Sent (.doe l 0xFE 4 []) d ∧ d.sec.tdisp = y.sec.tdisp)) ∧
        (∀ t, tabGet 0 y.sec.tdisp fn = 1 → tenantAt y fn = some t → (tenantOf y t).st = 2 →
          Answers (.startInterfaceRequest n fn true now) s (fun d => Sent (.doe l 0xFE 0 []) d ∧ tabGet 0 d.sec.tdisp fn = 2)) ∧
        (tabGet 0 y.sec.tdisp fn ≠ 1 → Answers (.startInterfaceRequest n fn true now) s (fun d =>
          Sent (.doe l 0xFE 4 []) d ∧ d.sec.tdisp = y.sec.tdisp)) ∧
        (tabGet 0 y.sec.tdisp fn ≠ 0 → Rising y.sec.tdisp → Answers (.stopInterfaceRequest n fn true now) s (fun d =>
          Sent (.doe l 0xFE 0 []) d ∧ tabGet 0 d.sec.tdisp fn = 0 ∧ ∀ e ∈ d.sec.ide, e.2.fn ≠ some fn)) ∧
        (tabGet 0 y.sec.tdisp fn = 0 → Answers (.stopInterfaceRequest n fn true now) s (fun d =>
          Sent (.doe l 0xFE 4 []) d ∧ d.sec.tdisp = y.sec.tdisp)))) ∧
  ∀ (s : State) (l n now : Nat), isHeld s.dev = false → isLink l = true → n ≤ 16 → Rising s.dev.sec.ide →
    Answers (.ideIntegrityFailure l n now) s (fun d => (ideStream d l n).secure = false ∧ (ideStream d l n).keys = (ideStream s.dev l n).keys ∧
      ((ideStream s.dev l n).fn = none → d.sec.tdisp = s.dev.sec.tdisp ∧ d.tenants = s.dev.tenants))

/-- A granted stream key takes effect at the next stitch: the destination holds it as its new key and waits in line once.
The previous key of a destination is discarded once its hold has passed and not before. A granted segment key is held
unwrapped in its slot of the tenant, and a blob of zeros empties the slot. -/
def Obligations.StreamKeys : Prop :=
  (∀ (s : State) (q : Req) (slot e : Nat) (v : Payload) (ok : Bool), Sound s.dev → Rising (sess s.dev slot).dests →
    isSlot slot = true → e < 64 →
    granted q (0x3180 + e) slot (streamKeyErrs slot e v ok) s.dev = true →
    let y := atTime q.now s.dev
    Answers (.streamKeyWrite q slot e v ok) s (fun d => Accepted q (0x3180 + e) slot d ∧
      dest d slot e = { dest y slot e with newKey := some (byteAt v.val 1, unwrappedOf y (ownerOf y slot) v.val) } ∧
      d.pke.destWaits = (if (slot, e) ∈ y.pke.destWaits then y.pke.destWaits else y.pke.destWaits ++ [(slot, e)]) ∧
      d.tenants = y.tenants ∧ d.objs = y.objs)) ∧
  (∀ (s : State) (slot e now : Nat), isHeld s.dev = false → Sound s.dev → Rising (sess s.dev slot).dests →
    isSlot slot = true → e < 64 →
    let y := atTime now s.dev
    Answers (.previousKeyExpiry slot e now) s (fun d =>
      dest d slot e = (if (dest y slot e).prevUntil ≤ y.tbs.ns then { dest y slot e with prevKey := none } else dest y slot e) ∧
      d.tenants = y.tenants ∧ d.pke = y.pke ∧ d.emitted = y.emitted)) ∧
  ∀ (s : State) (q : Req) (t k : Nat) (v : Payload) (ok : Bool), Sound s.dev → Rising (tenantOf s.dev t).segs →
    isSlot t = true → k < 16 →
    granted q (0x2060 + k) t (segmentKeyErrs t k v ok) s.dev = true →
    let y := atTime q.now s.dev
    Answers (.segmentKeyWrite q t k v ok) s (fun d => Accepted q (0x2060 + k) t d ∧
      tabFind (tenantOf d t).segs k = (if v.val = 0 then none else some (bytesAt (unwrappedOf y t v.val) 0 32)) ∧
      (∀ j, j ≠ k → tabFind (tenantOf d t).segs j = tabFind (tenantOf y t).segs j) ∧
      (tenantOf d t).st = (tenantOf y t).st ∧ (tenantOf d t).root = (tenantOf y t).root)

/-- A write of a clear bit that reaches its control register clears the counter or the greatest value that the bit names,
and leaves every object, every session and everything queued as it was. -/
def Obligations.CounterClears : Prop :=
  ∀ (s : State) (who : Caller), isHeld s.dev = false → Sound s.dev →
    let clears := fun (ctrl key : Nat) (c : Instr) => regOpen who ctrl false s.dev = true →
      Answers c s (fun d => regGet d key = 0 ∧ d.objs = s.dev.objs ∧ d.sess = s.dev.sess ∧ d.emitted = s.dev.emitted)
    clears Reg.secCtrl.base Reg.secEventCnt.base (.secEventCntClr who) ∧
    clears Reg.wrdCtrl.base Reg.wrdSramCorr.base (.sramCorrClr who) ∧
    clears Reg.pkeIgrCtrl.base Reg.pkeCmpLapHwm.base (.igrLapHwmClr who) ∧
    (∀ i, i < 64 → clears Reg.pkeCtrl.base (Reg.pkeDepthHwm.at i) (.pkeHwmClr who) ∧ clears Reg.pkeCtrl.base (Reg.pkeResHwm.at i) (.pkeHwmClr who)) ∧
    (∀ c, isChan c = true → clears (Reg.dmcChanCtrl.at c) (Reg.dmcCorrCnt.at c) (.dmcCorrClr who c)) ∧
    (∀ key ∈ [Reg.mbxRejectCnt.base, Reg.mbxStrayCnt.base, Reg.mbxSizeErrCnt.base], clears Reg.mbxCtrl.base key (.mbxCntClr who)) ∧
    (∀ c, c < 16 → clears Reg.wrdCtrl.base (Reg.wrdScrubLapHwm.at c) (.wrdLapHwmClr who)) ∧
    (∀ key ∈ [Reg.dmaFifoCorrHi.base, Reg.dmaFifoCorrLo.base], clears Reg.dmaCtrl.base key (.dmaCorrClr who))

/-- A helper operation that the management controller starts runs and RUNNING reads 1; anyone else's write starts none.
Its end leaves the fail mask, the error count and PASS of a compare. FINISH in training brings the channel into
service with the record of its step, window, lane and time; firmware's failing verdict, and 3 s without an end, bring
it to state 7 with the cause in the record. -/
def Obligations.DramTraining : Prop :=
  (∀ (s : State) (who : Caller) (c v now : Nat), isHeld s.dev = false → Sound s.dev → isChan c = true →
    let y := atTime now s.dev
    (∀ op i, (op, i) ∈ [(1, Instr.trnWritePattern who c v now), (2, .trnReadCompare who c v now),
        (3, .trnWriteReadCompare who c v now), (4, .trnCaLoopback who c v now)] →
      (who = .firmware → trnErrs c (setBits (setBits (v % 2 ^ 32) 0 3 op) 11 2 1) y = [] →
        Answers i s (fun d => (chan d c).helper = op ∧ fld d (Reg.dmcTrnStat.at c) 0 1 = 1 ∧ d.objs = y.objs)) ∧
      (who ≠ .firmware → Answers i s (fun d => d.chans = y.chans ∧ d.objs = y.objs))) ∧
    ∀ r : TrnResult,
      (who = .firmware → chanState y c = 2 → (chan y c).action ≠ 2 →
        Answers (.trnFinish who c r now) s (fun d => chanState d c = 3 ∧ (chan d c).helper = 0 ∧
          objGet d 0x1804 c = trnRecord { r with cause := 0 } (trnMs y c))) ∧
      (who = .firmware → chanState y c ≠ 2 → Answers (.trnFinish who c r now) s (fun d => d.chans = y.chans ∧ d.objs = y.objs))) ∧
  (∀ (s : State) (c m0 m1 m2 errs now : Nat), isHeld s.dev = false → Sound s.dev → isChan c = true →
    let y := atTime now s.dev
    (∀ fail, (chan y c).helper = 0 → Answers (.helperOpDone c m0 m1 m2 errs fail now) s (fun d => d = y)) ∧
    ((chan y c).helper = 1 → Answers (.helperOpDone c m0 m1 m2 errs none now) s (fun d => (chan d c).helper = 0 ∧
      fld d (Reg.dmcTrnStat.at c) 0 1 = 0 ∧ d.objs = y.objs)) ∧
    (2 ≤ (chan y c).helper → Answers (.helperOpDone c m0 m1 m2 errs none now) s (fun d => (chan d c).helper = 0 ∧
      regGet d (Reg.dmcTrnStat.at c) = b2n (errs == 0) * 2 + min errs 65535 * 2 ^ 16 ∧
      regGet d (Reg.dmcTrnFail.at (3 * c)) = m0 % 2 ^ 32 ∧ regGet d (Reg.dmcTrnFail.at (3 * c + 1)) = m1 % 2 ^ 32 ∧
      regGet d (Reg.dmcTrnFail.at (3 * c + 2)) = m2 % 2 ^ 16 ∧ d.objs = y.objs)) ∧
    (∀ r, (chan y c).helper ≠ 0 → chanState y c = 2 → Answers (.helperOpDone c m0 m1 m2 errs (some r) now) s (fun d =>
      chanState d c = 7 ∧ objGet d 0x1804 c = trnRecord r (trnMs y c)))) ∧
  ∀ (s : State) (c now : Nat), isHeld s.dev = false → Sound s.dev → isChan c = true →
    let y := atTime now s.dev
    (chanState y c = 2 → (chan y c).trainStart + 3000000000 ≤ y.tbs.ns →
      Answers (.trainingTimeout c now) s (fun d => chanState d c = 7 ∧ byteAt (objGet d 0x1804 c) 0 = 6)) ∧
    (y.tbs.ns < (chan y c).trainStart + 3000000000 → Answers (.trainingTimeout c now) s (fun d => d = y))

/-- A refresh is postponed at most 4 times while reads wait, otherwise the postponed ones are issued with it; a poll
keeps the rank's rate. A stage of self-refresh that is asked for begins and completes: stage 1 leaves the channel in
state 4, stage 3 holds its pads. A request before entry is issued aborts it and is counted; a later one waits, and
brings the channel back to service once its domain is on and its pads are free; a training area that compares wrong
after stage 2 or 3 freezes it. -/
def Obligations.DramRefresh : Prop :=
  ∀ (s : State) (c now : Nat), isHeld s.dev = false → Sound s.dev → isChan c = true →
    let y := atTime now s.dev
    let z := powerSettle y.tbs.ns y
    (∀ rank busy, chanActive y c = true → rank < chanRanks y → Rising (chan y c).postponed →
      Answers (.dramRefresh c rank busy now) s (fun d => d.objs = y.objs ∧
        let n := tabGet 0 (chan y c).postponed rank
        tabGet 0 (chan d c).postponed rank = if busy = true ∧ n < 4 then n + 1 else 0)) ∧
    (∀ rank need, chanActive y c = true → rank < chanRanks y → Rising (chan y c).temp →
      Answers (.modeRegisterPoll c rank need now) s (fun d => tabGet 0 (chan d c).temp rank = need ∧ chanState d c = chanState y c)) ∧
    (let goal := if z.flt.safe then max 1 (chan z c).stage else (chan z c).goal;
      (inService z c = true ∧ (chan z c).running = 0 ∧ (chan z c).waits = false ∧ (chan z c).stage < goal →
        Answers (.selfRefreshRequest c now) s (fun d => (chan d c).running = (chan z c).stage + 1 ∧ (chan d c).stage = (chan z c).stage ∧ d.objs = y.objs)) ∧
      (goal ≤ (chan z c).stage → Answers (.selfRefreshRequest c now) s (fun d => d = z))) ∧
    (∀ pass, (chan y c).running ≠ 0 → Answers (.selfRefreshStage c pass now) s (fun d =>
      (chan d c).stage = (chan y c).running ∧ (chan d c).running = 0 ∧ ((chan y c).running = 3 → (chan d c).padHeld = true) ∧
      chanState d c = if (chan y c).running = 1 then 4 else chanState y c)) ∧
    (∀ pass, (chan y c).running = 0 → chanState z c = 4 → ((chan z c).goal = 0 ∨ (chan z c).waits = true) → z.flt.safe = false →
      (chan z c).padHeld = false → domOn z (96 + c) = true →
      Answers (.selfRefreshStage c pass now) s (fun d => chanState d c = (if (chan z c).stage < 2 ∨ pass = true then 3 else 5) ∧
        (chan d c).stage = 0 ∧ (chan d c).waits = false)) ∧
    (chanState y c = 3 → (chan y c).running = 1 → Answers (.dramRequestInSelfRefresh c now) s (fun d =>
      (chan d c).running = 0 ∧ objGet d 0x5102 c = (objGet y 0x5102 c + 1) % 2 ^ 32 ∧ chanState d c = 3)) ∧
    (chanState y c = 4 → Answers (.dramRequestInSelfRefresh c now) s (fun d => (chan d c).waits = true ∧ chanState d c = 4)) ∧
    ∀ who pass, regOpen who (Reg.dmcChanCtrl.at c) false y = true →
      ((chan y c).padHeld = true → domOn y (96 + c) = true → Answers (.padRelease who c pass now) s (fun d => (chan d c).padHeld = false ∧
        chanState d c = if chanState y c ≠ 4 then chanState y c else if (chan y c).stage < 2 ∨ pass = true then 3 else 5)) ∧
      ((chan y c).padHeld = false ∨ domOn y (96 + c) = false → Answers (.padRelease who c pass now) s (fun d => d = y))

/-- A channel in service that freezes is in state 5, counted, with the requests it held captured and no action on it; one
out of service is left as it was. An alert that did not recur is counted. The actions of a frozen channel bring it
back to service, into training again, or to state 6; a return that fails its check freezes it anew. Without its
action a command of that name leaves the channel as it was. -/
def Obligations.ChannelFreeze : Prop :=
  ∀ (s : State) (c now : Nat), isHeld s.dev = false → Sound s.dev → isChan c = true →
    let y := atTime now s.dev
    (∀ r, inService y c = true → Answers (.channelFreeze c r now) s (fun d => chanState d c = 5 ∧ (chan d c).captured = r.queued.take 64 ∧
      (chan d c).action = 0 ∧ objGet d 0x5103 c = (objGet y 0x5103 c + 1) % 2 ^ 32)) ∧
    (∀ r, inService y c = false → Answers (.channelFreeze c r now) s (fun d => d = y)) ∧
    (chanActive y c = true → Answers (.alertReplay c now) s (fun d => objGet d 0x5101 c = (objGet y 0x5101 c + 1) % 2 ^ 32 ∧ d.chans = y.chans)) ∧
    (chanActive y c = false → Answers (.alertReplay c now) s (fun d => d = y)) ∧
    (chanState y c = 5 → (chan y c).action = 1 →
      Answers (.channelResume c true now) s (fun d => chanState d c = 3 ∧ (chan d c).action = 0) ∧
      Answers (.channelResume c false now) s (fun d => chanState d c = 5 ∧ (chan d c).action = 0)) ∧
    (chanState y c = 5 → (chan y c).action = 2 → Answers (.channelRetrain c now) s (fun d => chanState d c = 2 ∧
      (chan d c).trainStart = y.tbs.ns ∧ (chan d c).action = 2 ∧ (chan d c).helper = 0)) ∧
    (chanState y c = 5 ∨ chanState y c = 7 → (chan y c).action = 3 → Answers (.channelOff c now) s (fun d => chanState d c = 6 ∧ (chan d c).action = 0)) ∧
    ((chan y c).action = 0 → ∀ pass, ∀ i ∈ [Instr.channelResume c pass now, .channelRetrain c now, .channelOff c now], Answers i s (fun d => d = y))

/-- A granted allocation takes the block that the placement rule gives, owned by the caller, and publishes its handle
with the command's tag. A granted free releases the block that the handle names; a handle that fails its checks is
refused with E_INTEGRITY, counted, and releases nothing. -/
def Obligations.WardrobeBlocks : Prop :=
  ∀ (s : State) (q : Req) (sub : Nat) (v : Payload), Sound s.dev →
    let y := atTime q.now s.dev
    let o := blockObj sub
    let w := blockOwner o.1 o.2
    (∀ k e, granted q o.1 o.2 (allocateErrs w v) s.dev = true → allocBlock (byteAt v.val 1) w .command y = some (k, e) →
      Answers (.blockAllocate q sub v) s (fun d => Accepted q o.1 o.2 d ∧ d.wrd = e.wrd ∧
        (blockAt d k).map (fun b => (b.pool, b.owner, b.use)) = some (byteAt v.val 1, w, .command) ∧
        objGet d (blockResult o.1) o.2 = bytesAt v.val 8 8 + handleOf e k * 2 ^ 64)) ∧
    (granted q o.1 o.2 (freeErrs w v) s.dev = true → Answers (.blockFree q sub v) s (fun d => Accepted q o.1 o.2 d ∧
      d.wrd = (releaseBlock (handleKey (bytesAt v.val 8 8)) y).wrd ∧ d.objs = y.objs)) ∧
    (isHeld s.dev = false → served y = true → lowest (writeErrs q o.1 o.2 (freeErrs w v y) y) = some .integrity → q.crit = none →
      Answers (.blockFree q sub v) s (fun d => d.wrd = y.wrd ∧
        regGet d Reg.wrdHandleErr.base = min (2 ^ 32 - 1) (regGet y Reg.wrdHandleErr.base + 1) ∧
        (w < 256 → objGet d 0x5110 w = (objGet y 0x5110 w + 1) % 2 ^ 32)))

/-- FILL starts on an idle channel that is trained and not filled and marks it filling; a frame that is done moves the
fill mark by 1 GiB and the channel is filled when the mark reaches its capacity. The scrubber reads the next line, a
corrected one is counted, any other error freezes the channel, and the last line ends the lap with its time kept. A
write of a flip control that earns no code is held. A pair whose copy is complete is MIRRORED. -/
def Obligations.WardrobeUpkeep : Prop :=
  (∀ (s : State) (c now : Nat), isHeld s.dev = false → Sound s.dev → isChan c = true →
    let y := atTime now s.dev
    (y.pwr.booted = true → inService y c = true → fillState y c ≠ 2 → chanIdle y c = true → fillMark y c < chanCapacity y →
      Answers (.fill c now) s (fun d => fillState d c = 1 ∧ (dmaChan d c).run = some { d := fillDesc y c, fn := 257, sq := 0 } ∧ d.objs = y.objs)) ∧
    (inService y c = false ∨ fillState y c = 2 → Answers (.fill c now) s (fun d => d = y)) ∧
    (∀ r, (dmaChan y c).run = some r → r.d.opcode = 7 → r.ended = false →
      Answers (.fillFrameDone c now) s (fun d => fillMark d c = fillMark y c + 1073741824 ∧ (dmaChan d c).run = none ∧
        fillState d c = if chanCapacity y ≤ fillMark y c + 1073741824 then 2 else 1)) ∧
    (∀ said syn, scrubs y c = true → ((chan y c).scrubbing = true → (chan y c).lastScrub + 64 ≤ y.tbs.ns) →
      let x := chan y c
      let out := lineOutcome y c x.scrubLine said
      let last := fillMark y c ≤ (x.scrubLine + 1) * 64
      (out ≤ 1 → Answers (.scrubRead c said syn now) s (fun d => chanState d c = 3 ∧
        (chan d c).scrubLine = (if last then 0 else x.scrubLine + 1) ∧ (chan d c).lastScrub = y.tbs.ns ∧
        objGet d 0x5100 c = (if out = 1 then (objGet y 0x5100 c + 1) % 2 ^ 64 else objGet y 0x5100 c) ∧
        (last → x.scrubbing = true → regGet d (Reg.wrdScrubLap.at c) = min ((y.tbs.ns - x.lapStart) / 1000000) 0xFFFFFFFF))) ∧
      (2 ≤ out → Answers (.scrubRead c said syn now) s (fun d => chanState d c = 5))) ∧
    (∀ said syn, scrubs y c = false → Answers (.scrubRead c said syn now) s (fun d => d = y))) ∧
  (∀ (s : State) (who : Caller) (k v now : Nat), isHeld s.dev = false → Sound s.dev → k < 4 →
    regOpen who (Reg.wrdFlipCtrl.at k) false s.dev = true → flipErrs k (setBits (v % 2 ^ 32) 0 1 1) (atTime now s.dev) = [] →
    Answers (.flipArm who k v now) s (fun d => regGet d (Reg.wrdFlipCtrl.at k) = setBits (v % 2 ^ 32) 0 1 1 % 2 ^ 19 ∧ d.objs = s.dev.objs ∧
      d.wrd = s.dev.wrd)) ∧
  ∀ (s : State) (p now : Nat), isHeld s.dev = false → Sound s.dev → p < 8 →
    (pairState s.dev p = 3 → Answers (.resilverComplete p now) s (fun d => pairState d p = 0 ∧ bits (regGet d (Reg.wrdPairStat.at p)) 3 7 = 100)) ∧
    (pairState s.dev p ≠ 3 → Answers (.resilverComplete p now) s (fun d => d = atTime now s.dev))

/-- On its channel a running descriptor that fails a check ends with the first code and moves nothing. One that passes,
without a FORMAT, stores host bytes in its block (COPY_IN), sends the block's bytes (COPY_OUT), adds its whole
entries to the session's feed (DECODE_FEED), sends its units (EXPORT) or stores a segment's plaintext
(SEGMENT_UPLOAD), and ends with OK and its bytes; INTAKE stores the band's rows and ends with the source bytes they
took; TRANSMIT puts its frame in the Host class; RECEIVE_BUFFER posts the buffer and frees the channel. One that is
cut short ends with the outcome that says so. -/
def Obligations.DescriptorMoves : Prop :=
  ∀ (s : State) (c now : Nat) (x : Xfer) (r : Running), isHeld s.dev = false → Sound s.dev → c < 64 →
    let y := atTime now s.dev
    (dmaChan y c).run = some r → r.ended = false → r.doorbell = false →
    let ends := fun (e : Err) (outcome bytes : Nat) (d : Dev) =>
      (dmaChan d c).run = some { r with ended := true, status := e, outcome := outcome, bytes := bytes, doorbell := false }
    let rows : List (Nat × Instr) := [(1, .copyIn c x now), (2, .copyOut c x now), (3, .intake c x now), (4, .exportEntry c x now),
      (5, .decodeFeed c x now), (6, .segmentUpload c x true now), (8, .transmit c x now)]
    (∀ op i, (op, i) ∈ rows → r.d.opcode = op → ∀ e, (descErrs y r x true).head? = some e →
      Answers i s (fun d => ends e 0 0 d ∧ (op ≠ 3 → d.mem = y.mem ∧ d.sess = y.sess))) ∧
    (descErrs y r x true = [] →
      (∀ op i, (op, i) ∈ rows → r.d.opcode = op → op ≠ 8 → op ≠ 3 → (x.stop = 2 ∨ x.stop = 3) →
        Answers i s (fun d => ends .ok x.stop (moveSome r x x.bytes y).2 d)) ∧
      (x.stop = 0 →
        (r.d.opcode = 1 → r.d.format = 255 → r.d.length ≤ 2 ^ 64 → Answers (.copyIn c x now) s (fun d => ends .ok 0 r.d.length d ∧
          ∀ i, i < r.d.length → memByte d (blockMem (descBlock y r.d) + r.d.offset + i) = byteAt x.data i)) ∧
        (r.d.opcode = 2 → r.d.format = 255 → r.d.length ≤ 2 ^ 64 → Answers (.copyOut c x now) s (fun d => ends .ok 0 r.d.length d ∧
          Sent (.hostData r.fn r.d.hostAddr r.d.length (memRead y (blockMem (descBlock y r.d) + r.d.offset) r.d.length)) d ∧ d.mem = y.mem)) ∧
        (r.d.opcode = 3 → bit r.d.flags 3 = false → Answers (.intake c x now) s
          (ends .ok 0 (moveIntake r x (2 ^ 64) y).2)) ∧
        (r.d.opcode = 4 → r.d.length ≤ 2 ^ 64 → Answers (.exportEntry c x now) s (fun d =>
          ends .ok 0 (r.d.length + 24 * ceilDiv r.d.length 1408) d ∧
          ∃ v, Sent (.hostData r.fn r.d.hostAddr (r.d.length + 24 * ceilDiv r.d.length 1408) v) d)) ∧
        (r.d.opcode = 5 → r.d.length ≤ 2 ^ 64 → Answers (.decodeFeed c x now) s (fun d => ends .ok 0 r.d.length d ∧
          (sess d r.d.target).feed = (sess y r.d.target).feed ++ fedEntries x.data r.d.length (r.d.length / 64) 0)) ∧
        (r.d.opcode = 6 → r.d.length ≤ 2 ^ 64 → Answers (.segmentUpload c x true now) s (fun d => ends .ok 0 r.d.length d ∧ d.sess = y.sess)) ∧
        (r.d.opcode = 8 → classBytes y r.d.target 5 + r.d.length + 4 ≤ classRoom → Answers (.transmit c x now) s (fun d =>
          ends .ok 0 r.d.length d ∧ d.pke = (enterClass r.d.target 5 (hostFrame r.d x) y).pke)) ∧
        (r.d.opcode = 8 → classRoom < classBytes y r.d.target 5 + r.d.length + 4 → Answers (.transmit c x now) s (fun d => d = y)))) ∧
    (r.d.opcode = 9 → descErrs y r {} true = [] → Answers (.receiveBuffer c now) s (fun d => (dmaChan d c).run = none ∧
      d.recvBufs = y.recvBufs ++ [r])) ∧
    (r.d.opcode = 9 → ∀ e, (descErrs y r {} true).head? = some e → Answers (.receiveBuffer c now) s (fun d => ends e 0 0 d ∧ d.recvBufs = y.recvBufs))

/-- A write that disables a channel, by one who may, clears EN and stops the descriptor with outcome 1 and the bytes
whose writes completed. An ATS invalidation is completed on its link. A corrected FIFO word is counted. -/
def Obligations.ChannelStops : Prop :=
  (∀ (s : State) (who : Caller) (c now : Nat) (x : Xfer), isHeld s.dev = false → Sound s.dev → c < 64 →
    let y := atTime now s.dev
    regOpen who (Reg.dmaChCtrl.at c) false y = true → (24 ≤ c ∨ who = .firmware) →
    ((dmaChan y c).run = none → Answers (.channelDisable who c x now) s (fun d => bit (regGet d (Reg.dmaChCtrl.at c)) 0 = false ∧
      (dmaChan d c).run = none)) ∧
    (∀ r, (dmaChan y c).run = some r → r.ended = false → r.doorbell = false → r.d.opcode ≠ 7 → descErrs y r x true = [] →
      Answers (.channelDisable who c x now) s (fun d => bit (regGet d (Reg.dmaChCtrl.at c)) 0 = false ∧ (dmaChan d c).stopped = true ∧
        (dmaChan d c).run = some { r with ended := true, status := .ok, outcome := 1, bytes := (moveSome r x x.bytes y).2, doorbell := false }))) ∧
  (∀ (s : State) (who : Caller) (c now : Nat) (x : Xfer), isHeld s.dev = false → c < 24 → who ≠ .firmware →
    Answers (.channelDisable who c x now) s (fun d => d.dmaCh = s.dev.dmaCh)) ∧
  (∀ (s : State) (l now : Nat), isHeld s.dev = false → isLink l = true → Answers (.atsInvalidation l now) s (fun d => Sent (.atsDone l) d ∧
    d.dmaCh = s.dev.dmaCh)) ∧
  ∀ (s : State) (h : FifoHome) (fifo now : Nat), isHeld s.dev = false → Sound s.dev → homeExists h = true →
    let y := atTime now s.dev
    Answers (.fifoWordCorrected h fifo now) s (fun d => d.dmaCh = y.dmaCh ∧ pairGet d Reg.dmaFifoCorrHi.base Reg.dmaFifoCorrLo.base =
      min (2 ^ 64 - 1) (pairGet y Reg.dmaFifoCorrHi.base Reg.dmaFifoCorrLo.base + 1)) ∧
    (∀ t, h = .tile t → (tile y t).on = true → (tile y t).gone = false → (tile y t).awaits = none →
      Answers (.fifoWordUncorrectable h fifo now) s (fun d => (tile d t).contained = true)) ∧
    (∀ fn q, h = .queue fn q → Answers (.fifoWordUncorrectable h fifo now) s (fun d => (ring d (32 * fn + q)).on = false)) ∧
    (∀ src, h = .other src → y.pwr.resetAt = none →
      Answers (.fifoWordUncorrectable h fifo now) s (fun d => d.pwr.cause = 5 ∧ d.pwr.causeSrc = src ∧ d.pwr.resetAt = some y.tbs.ns)) ∧
    ∀ c, h = .channel c → (∀ e ∈ y.dmaCh, ∀ r, e.2.run = some r → r.doorbell = false) →
      ((dmaChan y c).run = none → Answers (.fifoWordUncorrectable h fifo now) s (fun d => (dmaChan d c).run = none)) ∧
      ∀ r, (dmaChan y c).run = some r → r.ended = false → (r.d.opcode = 7 ∨ r.d.opcode ≠ 6 ∧ descErrs y r {} true = []) →
        Answers (.fifoWordUncorrectable h fifo now) s (fun d => ∃ b, (dmaChan d c).run = some
          { r with ended := true, status := .ok, outcome := 5, bytes := b, doorbell := false })

/-- A write of a plain register that earns no code takes the writable fields and leaves the others; one that earns a code
is dropped and counted. A stray access and a malformed one are counted, and nothing else is taken from them. A
register found with a wrong parity bit is kept and reported once. A GO within the bounds takes the request: the
mailbox is busy with the next SEQ, or answers at once where the layout is broken. A granted queue object is held and
turns its queue on or off. -/
def Obligations.HostAccesses : Prop :=
  (∀ (s : State) (who : Caller) (off v now : Nat) (r : RegRow) (i : Nat), isHeld s.dev = false → Sound s.dev → callerExists who = true →
    let y := atTime now s.dev
    off % 4 = 0 → off < 0x4000000 → isPfPage off = true → off / 4096 ≠ 4 → viewOf off = 0 → regRowOf off = some (r, i) →
    regOpen who off (safeWritable r.reg (v % 2 ^ 32)) y = true →
    (regErrs who r i (v % 2 ^ 32) y = [] → frontAct who r.reg i (v % 2 ^ 32) y = none → blockAct who r.reg i (v % 2 ^ 32) y = none →
      memAct who r.reg i (v % 2 ^ 32) y = none → let m := writableMask r i
      Answers (.registerWrite who off v now) s (fun d => d.objs = y.objs ∧ d.sess = y.sess ∧
        regGet d off = (regGet y off - Nat.land (regGet y off) m + Nat.land (v % 2 ^ 32) m) % 2 ^ 32 ∧
        ∀ k, k ≠ off → regGet d k = regGet y k)) ∧
    (regErrs who r i (v % 2 ^ 32) y ≠ [] → Answers (.registerWrite who off v now) s (fun d => d.objs = y.objs ∧ d.sess = y.sess ∧
      (off ≠ Reg.mbxRejectCnt.base → regGet d Reg.mbxRejectCnt.base = min (2 ^ 32 - 1) (regGet y Reg.mbxRejectCnt.base + 1))))) ∧
  (∀ (s : State) (l off : Nat) (w : Bool), isHeld s.dev = false → Sound s.dev → s.dev.pwr.resetAt = none → reaches s.dev (.pf l) = true →
    ideRefuses s.dev (.pf l) = false →
    (isPfPage off = false → Answers (.strayAccess (.pf l) w off) s (fun d => d.objs = s.dev.objs ∧
      regGet d Reg.mbxStrayCnt.base = min (2 ^ 32 - 1) (regGet s.dev Reg.mbxStrayCnt.base + 1))) ∧
    Answers (.malformedRegisterAccess (.pf l) w off) s (fun d => d.objs = s.dev.objs ∧
      regGet d Reg.mbxSizeErrCnt.base = min (2 ^ 32 - 1) (regGet s.dev Reg.mbxSizeErrCnt.base + 1))) ∧
  (∀ (s : State) (k now : Nat), isHeld s.dev = false → Sound s.dev → hasParity k = true → k ∉ s.dev.parityBad →
    Answers (.paritySweep [k] now) s (fun d => d.parityBad = s.dev.parityBad ++ [k] ∧
      regGet d Reg.mbxParityLast.base = (parityPlace k + 2 ^ 22) % 2 ^ 32)) ∧
  (∀ (s : State) (l len : Nat), isHeld s.dev = false → Sound s.dev → isLink l = true → s.dev.pwr.resetAt = none →
    reaches s.dev (.pf l) = true → ideRefuses s.dev (.pf l) = false → goErrs 256 len s.dev = [] →
    let m := getWords s.dev ((len + 3) / 4) Reg.mbxReqData.base % 256 ^ len
    (layoutBad m len = false → Answers (.mailboxGo (.pf l) len) s (fun d => d.waiting = s.dev.waiting ++ [waitingOf (.pf l) m] ∧
      (mbox d 256).busy = true ∧ (mbox d 256).valid = false ∧ (mbox d 256).seq = ((mbox s.dev 256).seq + 1) % 256)) ∧
    (layoutBad m len = true → Answers (.mailboxGo (.pf l) len) s (fun d =>
      (mbox d 256).busy = false ∧ (mbox d 256).valid = true ∧ (mbox d 256).seq = ((mbox s.dev 256).seq + 1) % 256 ∧
      Sent (.response (.pf l) ((waitingOf (.pf l) m).op + 0x80) Err.range.code (waitingOf (.pf l) m).idx (waitingOf (.pf l) m).sub
        (waitingOf (.pf l) m).tag 0 0) d))) ∧
  ∀ (s : State) (q : Req) (idx sub : Nat) (v : Payload), Sound s.dev → isQueueObj idx = true → sub < 256 →
    queueObj (queueOfObj idx sub) = (idx, sub) →
    granted q idx sub (fun d => typeErrs idx v ++ queueErrs (queueOfObj idx sub) v.val d) s.dev = true →
    Answers (.queueObjectWrite q idx sub v) s (fun d => Accepted q idx sub d ∧ objGet d idx sub = v.val ∧
      (ring d (queueOfObj idx sub)).on = qEnable v.val)

/-- While the dictionary is served, a READ from the start of an object that the caller may read is answered with OK, the
value's length and its first segment; one that earns a code, and a DESCRIBE that earns one, are answered with the
lowest code and no payload; a DESCRIBE that earns none is answered with the 16 bytes of the description. A granted
WRITE of an object without a row of its own is answered with OK, and the object keeps the value. -/
def Obligations.SpaysRequests : Prop :=
  ∀ (s : State) (q : Req) (idx sub : Nat), isHeld s.dev = false → Sound s.dev → q.crit = none →
    let y := atTime q.now s.dev
    served y = true →
    (let x := objShow y idx sub;
      let n := min (segLimit q.who) x.1;
      readRights y q idx sub = [] → Answers (.read q idx sub 0) s (fun d => Sent (.response q.who 0x81 0 idx sub q.tag n (x.2 % 256 ^ n)) d ∧
        d.objs = y.objs ∧ d.sess = y.sess)) ∧
    (∀ off e, lowest (readRights y q idx sub ++ readOffset y q idx sub off) = some e →
      Answers (.read q idx sub off) s (fun d => Sent (.response q.who 0x81 e.code idx sub q.tag 0 0) d ∧ d.objs = y.objs ∧ d.sess = y.sess)) ∧
    (∀ r, objRowOf idx = some r → describeErrs y q idx sub = [] →
      Answers (.describe q idx sub) s (fun d => Sent (.response q.who 0x84 0 idx sub q.tag 16 (describeBytes r idx sub % 256 ^ 16)) d ∧ d.objs = y.objs)) ∧
    (∀ e, lowest (describeErrs y q idx sub) = some e →
      Answers (.describe q idx sub) s (fun d => Sent (.response q.who 0x84 e.code idx sub q.tag 0 0) d ∧ d.objs = y.objs)) ∧
    ∀ (v : Payload) (r : ObjRow), objRowOf idx = some r → r.hasSub sub = true → (deviceRow q idx v).isNone = true → (slotRow q idx sub v).isNone = true →
      paramRow idx = none → idx ∉ [0x1505, 0x1506, 0x1507, 0x1508, 0x1821] → granted q idx sub (objErrs idx sub v) s.dev = true →
      Answers (.write q idx sub v) s (fun d => Accepted q idx sub d ∧ objGet d idx sub = r.keep v.len v.val ∧ d.sess = y.sess)

/-- A link of the configuration that trains to a width and rate it can have is up with them; a reset of the link takes it
down with memory space off. VF Enable that earns no code is set with its number and the BAR 2 size; one that earns a
code stays off with the code kept. A BAR 2 size in range is taken while VF Enable is 0. Memory space bits are
written. The reset of a virtual function, by itself or through its link's VF Enable or its physical function, frees
every session of its tenant, erases its keys and discards its mailbox request. -/
def Obligations.LinkFunctions : Prop :=
  ∀ (s : State) (l now : Nat), isHeld s.dev = false → Sound s.dev → isLink l = true →
    let y := atTime now s.dev
    let gone := fun (t : Nat) (d : Dev) => (∀ k ∈ sessionsOf y t, (sess d k).st = .free) ∧ (tenantOf d t).root = none ∧
      (tenantOf d t).segs = [] ∧ (tenantOf d t).st ≤ 1 ∧ (mbox d t).busy = false
    (∀ lanes rate, linkPresent y l = true → lanesOk y l lanes = true → 1 ≤ rate → rate ≤ 6 →
      Answers (.pcieLinkUp l lanes rate now) s (fun d => (link d l).up = true ∧ (link d l).lanes = lanes ∧ (link d l).rate = rate ∧
        ∀ k, k ≠ l → link d k = link y k)) ∧
    (∀ lanes rate, linkPresent y l = false ∨ lanesOk y l lanes = false → Answers (.pcieLinkUp l lanes rate now) s (fun d => d = y)) ∧
    (∀ kind, Answers (.pcieLinkReset l kind now) s (fun d => (link d l).up = false ∧ (link d l).mse = false ∧ (link d l).vfEnable = false ∧
      ∀ t ∈ tenantsBehind y l, gone t d)) ∧
    Answers (.pfFlr l now) s (fun d => (link d l).mse = false ∧ (link d l).vfEnable = false ∧ (link d l).up = (link y l).up ∧
      ∀ t ∈ tenantsBehind y l, gone t d) ∧
    Answers (.vfEnableClear l now) s (fun d => (link d l).vfEnable = false ∧ (link d l).numVfs = 0 ∧ ∀ t ∈ tenantsBehind y l, gone t d) ∧
    (∀ n, (link s.dev l).vfEnable = false → vfEnableErrs l n true s.dev = [] → Answers (.vfEnableSet l n true) s (fun d =>
      (link d l).vfEnable = true ∧ (link d l).numVfs = n ∧ (link d l).barNow = (link s.dev l).barSet)) ∧
    (∀ n ari, (link s.dev l).vfEnable = false → vfEnableErrs l n ari s.dev ≠ [] → Answers (.vfEnableSet l n ari) s (fun d => d.links = s.dev.links ∧
      ∃ e ∈ vfEnableErrs l n ari s.dev, regGet d Reg.mbxLastErr.base = e.code + 2 ^ 16 + l * 2 ^ 17)) ∧
    (∀ k, (link s.dev l).vfEnable = false → 6 ≤ k → k ≤ 16 → Answers (.vfResizableBarWrite l k) s (fun d => (link d l).barSet = k ∧
      (link d l).barNow = (link s.dev l).barNow)) ∧
    (∀ k, (link s.dev l).vfEnable = true ∨ k < 6 ∨ 16 < k → Answers (.vfResizableBarWrite l k) s (fun d => d = s.dev)) ∧
    (∀ v, Answers (.memorySpaceEnableWrite l false v now) s (fun d => (link d l).mse = v ∧ (link d l).vfMse = (link y l).vfMse)) ∧
    (∀ v, Answers (.memorySpaceEnableWrite l true v now) s (fun d => (link d l).vfMse = v ∧ (link d l).mse = (link y l).mse)) ∧
    ∀ t, isSlot t = true → (tenantOf y t).st ≠ 0 → Answers (.functionLevelReset t now) s (gone t)

/-- With its domain on and no firmware running, FIRMWARE_BOOT runs the image the flash names when it verifies, else the
other one when that verifies; with neither no firmware runs and the failure is kept. STARTUP_ENABLE, when memory is
ready, no start is held and every tile that starts has ended BOOT with one of them passing, sets the enable bits of
the units, ends the reset and leaves step 9; with none passing it holds the start at step 10. -/
def Obligations.StartUp : Prop :=
  ∀ (s : State) (now : Nat), isHeld s.dev = false → Sound s.dev →
    let y := atTime now s.dev
    (∀ header aOk bOk pop causes, domOn y 127 = true → y.pwr.booted = false →
      ((if header % 2 = 0 then aOk else bOk) = true → Answers (.firmwareBoot header aOk bOk pop causes now) s (fun d =>
        d.pwr.booted = true ∧ d.pwr.image = header % 2 ∧ d.pwr.imageFail = false ∧ d.pwr.others = true)) ∧
      ((if header % 2 = 0 then aOk else bOk) = false → (if header % 2 = 0 then bOk else aOk) = true →
        Answers (.firmwareBoot header aOk bOk pop causes now) s (fun d => d.pwr.booted = true ∧ d.pwr.image = 1 - header % 2)) ∧
      (aOk = false → bOk = false → Answers (.firmwareBoot header aOk bOk pop causes now) s (fun d => d.pwr.booted = false ∧
        d.pwr.imageFail = true ∧ d.objs = y.objs))) ∧
    (∀ header aOk bOk pop causes, domOn y 127 = false ∨ y.pwr.booted = true →
      Answers (.firmwareBoot header aOk bOk pop causes now) s (fun d => d = y)) ∧
    (y.pwr.booted = true → memoryReady y = true → objGet y 0x1C01 0 ≠ 10 → startHeld y = false → (∀ t ∈ bootTiles y, 2 ≤ (tile y t).boot) →
      ((∃ t ∈ bootTiles y, (tile y t).boot = 2) → Answers (.startupEnable now) s (fun d => objGet d 0x1C01 0 = 9 ∧ d.pwr.resetAt = none ∧
        ∀ r ∈ [Reg.dmaIntakeCtrl, .loomCtrl, .pkeCtrl, .pkeIgrCtrl, .dmaCtrl], fld d r.base 0 1 = 1)) ∧
      ((∀ t ∈ bootTiles y, (tile y t).boot ≠ 2) → Answers (.startupEnable now) s (fun d => objGet d 0x1C01 0 = 10 ∧ d.pwr = y.pwr))) ∧
    (y.pwr.booted = false ∨ memoryReady y = false → Answers (.startupEnable now) s (fun d => d = y))

/-- A granted entry of a destination or of its shaper is the object's value at once and takes effect at the next stitch,
for which the destination waits in line; so do the port modes. A sender report that is due is sent to every enabled
destination that has a key, and its instant kept; one that is not due is not sent. A granted refresh request leaves
the session's live frames with a trigger, unless a cycle runs. -/
def Obligations.EgressTables : Prop :=
  (∀ (s : State) (q : Req) (slot e : Nat) (v : Payload), Sound s.dev → slot < 256 → e < 64 →
    let y := atTime q.now s.dev
    (granted q (0x3100 + e) slot (destErrs slot e v) s.dev = true →
      Answers (.destinationWrite q slot e v) s (fun d => Accepted q (0x3100 + e) slot d ∧ objGet d (0x3100 + e) slot = v.val ∧
        objNow d (0x3100 + e) slot = objNow y (0x3100 + e) slot ∧ (slot, e) ∈ d.pke.destWaits)) ∧
    (granted q (0x3140 + e) slot (shaperErrs slot e v) s.dev = true →
      Answers (.shaperWrite q slot e v) s (fun d => Accepted q (0x3140 + e) slot d ∧ objGet d (0x3140 + e) slot = v.val ∧
        objNow d (0x3140 + e) slot = objNow y (0x3140 + e) slot))) ∧
  (∀ (s : State) (q : Req) (v : Nat), Sound s.dev → granted q 0x1A00 0 (portModeErrs v) s.dev = true →
    Answers (.portModeWrite q v) s (fun d => Accepted q 0x1A00 0 d ∧ objGet d 0x1A00 0 = v ∧
      objNow d 0x1A00 0 = objNow (atTime q.now s.dev) 0x1A00 0)) ∧
  (∀ (s : State) (q : Req) (slot v : Nat), Sound s.dev →
    granted q 0x3064 slot (fun d => earned [(decide (255 < v), .type), (v != 1, .range),
      ((sess d slot).st != .running && (sess d slot).st != .paused, .state)]) s.dev = true →
    Answers (.refreshRequest q slot v) s (fun d => Accepted q 0x3064 slot d ∧
      (stream d (liveSid slot)).trigger = ((stream s.dev (liveSid slot)).trigger || (stream s.dev (liveSid slot)).cycle.isNone) ∧
      (stream d (liveSid slot)).frames = (stream s.dev (liveSid slot)).frames)) ∧
  ∀ (s : State) (slot now : Nat), isHeld s.dev = false → Sound s.dev → isSlot slot = true → Rising (sess s.dev slot).dests →
    let y := atTime now s.dev
    let x := sess y slot
    let due := [SessSt.running, .paused, .suspended, .draining].contains x.st = true ∧ x.tx.silent = false ∧
      ∀ t, x.tx.srAt = some t → t + objNow y 0x30C1 slot ≤ y.tbs.cnt
    (due → Answers (.senderReport slot now) s (fun d => (sess d slot).tx.srAt = some y.tbs.cnt ∧
      ∀ e ∈ enabledDests y slot, (dest d slot e).srtcp = (dest y slot e).srtcp + if (dest y slot e).key.isSome then 1 else 0)) ∧
    (¬ due → Answers (.senderReport slot now) s (fun d => d = y))

/-- A gate entry that has lasted its time gives way to the next. An idle MAC of a port that is up sends the head of the
class that the selection gives and is busy for its wire time; with its link down it discards what is queued. A link
that has not trained in time is down; a change of a present port's link is kept. A read of the timestamp tag takes
the oldest one, a flush takes all. Packets past the hold leave the store. -/
def Obligations.EgressPorts : Prop :=
  (∀ (s : State) (p now : Nat), isHeld s.dev = false → Sound s.dev → isPort p = true → Rising s.dev.pke.ports →
    let y := atTime now s.dev
    let x := port y p
    let l := gateList y p
    (x.entry + 1 < gateCount l → x.entryAt + gateDur l x.entry ≤ y.tbs.ns → Answers (.gateEntryExpiry p now) s (fun d =>
      (port d p).entry = x.entry + 1 ∧ (port d p).entryAt = x.entryAt + gateDur l x.entry ∧ (port d p).queues = x.queues ∧ d.objs = y.objs)) ∧
    ((gateCount l ≤ x.entry + 1 ∨ y.tbs.ns < x.entryAt + gateDur l x.entry) → Answers (.gateEntryExpiry p now) s (fun d => d = y)) ∧
    (portPresent y p = true → x.busyUntil ≤ 400 * y.tbs.ns → linkUp y p = true → ∀ d1 c k t, selectClass p classOrder y = (d1, some c) →
      classQueue d1 p c = k :: t → Answers (.macSend p now) s (fun d => Sent (.ethernet p c k) d ∧
        (port d p).busyUntil = 400 * y.tbs.ns + wireTime y p k.bytes)) ∧
    (portPresent y p = true → x.busyUntil ≤ 400 * y.tbs.ns → linkUp y p = false → Answers (.macSend p now) s (fun d => (port d p).queues = [])) ∧
    ((portPresent y p = false ∨ 400 * y.tbs.ns < x.busyUntil) → Answers (.macSend p now) s (fun d => d = y)) ∧
    (∀ t, x.trainingFrom = some t → t + 500000000 ≤ y.tbs.ns → Answers (.linkTrainTimeout p now) s (fun d =>
      (port d p).trainingFrom = none ∧ (port d p).link = 1 ∧ (port d p).queues = x.queues)) ∧
    (x.trainingFrom = none → Answers (.linkTrainTimeout p now) s (fun d => d = y)) ∧
    (portPresent y p = true → linkUp y p = false → Answers (.ethernetLinkChange p true now) s (fun d => (port d p).link = 2 ∧ (port d p).trainingFrom = none)) ∧
    (portPresent y p = true → linkUp y p = true → Answers (.ethernetLinkChange p false now) s (fun d => (port d p).link = 1 ∧
      fld d (Reg.pkePortStat.at p) 8 8 = min 255 (fld y (Reg.pkePortStat.at p) 8 8 + 1))) ∧
    (∀ up, (portPresent y p = false ∨ linkUp y p = up) → Answers (.ethernetLinkChange p up now) s (fun d => d = y))) ∧
  (∀ (s : State) (who : Caller), isHeld s.dev = false → s.dev.pwr.resetAt = none → reachesPf who = true → reaches s.dev who = true →
    ideRefuses s.dev who = false →
    (s.dev.pke.stamps = [] → Answers (.ptpTsTagRead who) s (fun d => d.pke = { s.dev.pke with stampTag := 0 })) ∧
    ∀ a ty seq t rest, s.dev.pke.stamps = (a, ty, seq, t) :: rest → Answers (.ptpTsTagRead who) s (fun d => d.pke =
      { s.dev.pke with stamps := rest, stampTag := a + 2 ^ 3 + ty % 16 * 2 ^ 4 + seq % 65536 * 2 ^ 8, stampTime := t % 2 ^ 64 })) ∧
  (∀ (s : State) (who : Caller), isHeld s.dev = false → regOpen who Reg.pkeCtrl.base false s.dev = true →
    Answers (.tsFlush who) s (fun d => d.pke.stamps = [] ∧ d.pke.ports = s.dev.pke.ports ∧ d.objs = s.dev.objs)) ∧
  ∀ (s : State) (slot now : Nat), isHeld s.dev = false → Sound s.dev → isSlot slot = true →
    let y := atTime now s.dev
    Answers (.retransmissionExpiry slot now) s (fun d => (sess d slot).pkts = (sess y slot).pkts.map (fun e =>
      (e.1, { e.2 with stored := e.2.stored && decide (y.tbs.ns ≤ e.2.release + objGet y 0x30C0 slot * 1000000) })) ∧
      (sess d slot).dests = (sess y slot).dests ∧ d.pke = y.pke)

/-- A candidate whose 4 us have passed leaves the line; if its move is made the destination has the new address and port,
else it keeps its own. A pair of the comparer that is due is checked and the next one comes up; a divergence that is
not of a fresh entry is counted, any other changes no count. Before their time, or off, both do nothing. -/
def Obligations.Learning : Prop :=
  ∀ (s : State) (now : Nat), isHeld s.dev = false → Sound s.dev →
    let y := atTime now s.dev
    (y.pke.candidates = [] → Answers (.learningDecision now) s (fun d => d = y)) ∧
    (∀ c rest, y.pke.candidates = c :: rest → y.tbs.ns < c.stamp + 4000 → Answers (.learningDecision now) s (fun d => d = y)) ∧
    (∀ c rest, y.pke.candidates = c :: rest → c.stamp + 4000 ≤ y.tbs.ns → Rising (sess y (c.g / 64)).dests → Answers (.learningDecision now) s (fun d =>
      d.pke.candidates = rest ∧ (dest d (c.g / 64) (c.g % 64)).learned =
        if moveOutcome y c = 1 then (c.addr, c.port) else (dest y (c.g / 64) (c.g % 64)).learned)) ∧
    ((objNow y 0x1A46 0 = 0 ∨ objGet y 0x1A44 0 = 0 ∨ y.tbs.ns < y.pke.cmpLast + 1000) → Answers (.comparerCheck now) s (fun d => d = y)) ∧
    let n := y.pke.cmpNext
    let fresh := ∃ t, tabFind (pipe y (n % 2)).changed (n / 2) = some t ∧ y.tbs.ns < t + 1000000 * objGet y 0x1A45 0
    (objNow y 0x1A46 0 ≠ 0 → objGet y 0x1A44 0 ≠ 0 → y.pke.cmpLast + 1000 ≤ y.tbs.ns → Answers (.comparerCheck now) s (fun d =>
      d.pke.cmpNext = (n + 1) % 32768 ∧ d.pke.cmpLast = y.tbs.ns ∧
      ((fresh ∨ divergence y (n % 2) (n / 2) = 0) → d.objs = y.objs) ∧
      (¬ fresh → divergence y (n % 2) (n / 2) ≠ 0 → objGet d 0x50EA 0 = (objGet y 0x50EA 0 + 1) % 2 ^ 32 ∧
        objGet d 0x1A4A 0 = n / 2 + n % 2 * 2 ^ 16 + divergence y (n % 2) (n / 2) * 2 ^ 24)))

/-- Each number of a NACK is counted; a packet that is still stored and not resent too often goes out again and is
counted, one that is unknown is counted as unserved. A picture loss indication is counted, and from a binding
destination it makes every pending entry of the live frames that is retained or in progress INVALID. A report of
congestion marks the copies that arrived as received. A receiver report changes nothing. Silence past the limit times
a binding destination out, once. -/
def Obligations.FeedbackPackets : Prop :=
  ∀ (s : State) (slot e now : Nat), isHeld s.dev = false → Sound s.dev → isSlot slot = true → e < 64 → Rising (sess s.dev slot).dests →
    let y := atTime now s.dev
    (∀ seq, (seqIndex y slot seq = none ∨ ∃ i, seqIndex y slot seq = some i ∧ copyAt y slot i e = none) →
      Answers (.nack slot e [seq] now) s (fun d => objGet d 0x50C1 slot = (objGet y 0x50C1 slot + 1) % 2 ^ 32 ∧
        objGet d 0x50C3 slot = (objGet y 0x50C3 slot + 1) % 2 ^ 32 ∧ d.sess = y.sess)) ∧
    (∀ seq i c, seqIndex y slot seq = some i → copyAt y slot i e = some c → (sess y slot).tx.silent = false → (dest y slot e).st ≠ 0 →
      (pktAt y slot i).stored = true → c.resends < objNow y 0x307D slot → c.resending = false →
      Answers (.nack slot e [seq] now) s (fun d => objGet d 0x50C1 slot = (objGet y 0x50C1 slot + 1) % 2 ^ 32 ∧
        objGet d 0x50C2 slot = (objGet y 0x50C2 slot + 1) % 2 ^ 32 ∧ objGet d 0x50C3 slot = objGet y 0x50C3 slot ∧
        (copyAt d slot i e).map (fun x => (x.resends, x.resending)) = some (c.resends + 1, true))) ∧
    (isBinding y slot e = false → Answers (.pictureLossIndication slot e now) s (fun d =>
      objGet d 0x5066 slot = (objGet y 0x5066 slot + 1) % 2 ^ 32 ∧ d.streams = y.streams)) ∧
    (isBinding y slot e = true → Rising (stream y (liveSid slot)).past → Answers (.pictureLossIndication slot e now) s (fun d =>
      objGet d 0x5066 slot = (objGet y 0x5066 slot + 1) % 2 ^ 32 ∧
      ∀ p ∈ (stream y (liveSid slot)).past, p.2.st = 1 →
        (p.1 ∈ retained (stream y (liveSid slot)) ∨ ∃ f ∈ (stream y (liveSid slot)).frames, f.count = some p.1) →
        (pastAt d (liveSid slot) p.1).st = 3)) ∧
    (∀ reports, let l := heardOf y slot e (reports.map fun r => (seqIndex y slot r.1, r.2))
      Answers (.congestionFeedback slot e reports now) s (fun d => ∀ h ∈ l, h.at_.isSome = true →
        (copyAt d slot h.i e).map (·.received) = some true)) ∧
    (∀ reports, let l := heardOf y slot e (reports.map fun r => (twIndex y slot e r.1, r.2))
      Answers (.transportWideFeedback slot e reports now) s (fun d => ∀ h ∈ l, h.at_.isSome = true →
        (copyAt d slot h.i e).map (·.received) = some true)) ∧
    Answers (.receiverReport slot e now) s (fun d => d = y) ∧
    ((dest y slot e).st ≠ 0 → isBinding y slot e = true → (dest y slot e).timedOut = false →
      (dest y slot e).lastFeedback + 1000000 * objNow y 0x3083 slot ≤ y.tbs.ns →
      Answers (.feedbackTimeout slot e now) s (fun d => (dest d slot e).timedOut = true)) ∧
    (((dest y slot e).st = 0 ∨ isBinding y slot e = false ∨ (dest y slot e).timedOut = true ∨
        y.tbs.ns < (dest y slot e).lastFeedback + 1000000 * objNow y 0x3083 slot) →
      Answers (.feedbackTimeout slot e now) s (fun d => d = y))

/-- A credit that is due is given once, two at most. A whole unit of a write whose region is open is stored in its
window; a unit that is not whole, whose region is sealed or for which intake is off is dropped and counted for the
session, one outside every window for the tenant; a longer write does its units in address order. A read completes
with zeros and is counted. An accepted doorbell seals its band in its frame, which it opens if it is the next one,
and an early start may follow; during a splice the band is discarded and counted; a doorbell that earns a code is
counted and its code kept. At the missing-band limit every band of a frame that is not accepted is substituted. A
written 1 clears a sticky bit, and no other bit. -/
def Obligations.IntakeAccesses : Prop :=
  (∀ (s : State) (slot : Nat), isHeld s.dev = false → Sound s.dev → isSlot slot = true →
    let y := s.dev
    let n := if creditDue y slot y.tbs.cnt then y.tbs.cnt else y.tbs.cnt + 1
    (creditDue y slot n = true → Answers (.frameCredit slot) s (fun d =>
      (sess d slot).credits = min 2 ((sess y slot).credits + 1) ∧ (sess d slot).creditAt = some n ∧ d.streams = y.streams)) ∧
    (creditDue y slot n = false → Answers (.frameCredit slot) s (fun d => d = y))) ∧
  (∀ (s : State) (t off data now : Nat) (tee : Bool) (en : List Bool), isHeld s.dev = false → Sound s.dev → isSlot t = true →
    hostReaches (.vf t tee) s.dev = true →
    let y := atTime now s.dev
    (off % 64 + en.length ≤ 64 → en ≠ [] →
      let u := off / 64 * 64
      let whole := off % 64 = 0 ∧ en = List.replicate 64 true
      (windowAt y t u = none → Answers (.apertureWrite t off tee en data now) s (fun d => d.sess = y.sess ∧
        objGet d 0x5030 t = (objGet y 0x5030 t + 1) % 2 ^ 32)) ∧
      ∀ x, windowAt y t u = some x →
        let rel := u - (sess y x).window.getD 0
        let band := bandAtOffset (partsOf (intakePrm y x)) (rel % strideOf (intakePrm y x))
        (intakeOn y = false → Answers (.apertureWrite t off tee en data now) s (fun d => d.sess = y.sess ∧
          objGet d 0x5022 x = (objGet y 0x5022 x + 1) % 2 ^ 32)) ∧
        (intakeOn y = true → band = none → Answers (.apertureWrite t off tee en data now) s (fun d => d.sess = y.sess ∧
          objGet d 0x5030 t = (objGet y 0x5030 t + 1) % 2 ^ 32)) ∧
        ∀ b, intakeOn y = true → band = some b →
          (¬ whole ∨ regionSealed y x (rel / strideOf (intakePrm y x)) b = true →
            Answers (.apertureWrite t off tee en data now) s (fun d => d.sess = y.sess ∧
              objGet d 0x5022 x = (objGet y 0x5022 x + 1) % 2 ^ 32)) ∧
          (whole → regionSealed y x (rel / strideOf (intakePrm y x)) b = false →
            Answers (.apertureWrite t off tee en data now) s (fun d => d.objs = y.objs ∧
              (sess d x).src = storeBytes 64 rel (data % 256 ^ 64) (sess y x).src ∧ (sess d x).window = (sess y x).window))) ∧
    (off % 64 = 0 → ∀ en', en' ≠ [] → Answers (.apertureWrite t off tee (List.replicate 64 true ++ en') data now) s (fun d =>
      ∃ x, exec (.apertureWrite t off tee (List.replicate 64 true) data now) s = .next { s with dev := x } ∧
        exec (.apertureWrite t (off + 64) tee en' (data / 256 ^ 64) now) { s with dev := x } = .next { s with dev := d })) ∧
    (off < 2 ^ 64 → Answers (.apertureRead t off tee now) s (fun d => d.sess = y.sess ∧ Sent (.apertureData t off 0) d ∧
      objGet d 0x5030 t = (objGet y 0x5030 t + 1) % 2 ^ 32))) ∧
  (∀ (s : State) (t word now : Nat) (tee : Bool), isHeld s.dev = false → Sound s.dev → isSlot t = true →
    hostReaches (.vf t tee) s.dev = true →
    let y := atTime now s.dev
    let w := word % 2 ^ 32
    let slot := bits w 0 8
    let b := bits w 8 7
    let g := bits w 16 8
    (∀ e, lowest (doorbellErrs y t w) = some e → Answers (.bandDoorbell t tee word now) s (fun d =>
      d.streams = y.streams ∧ d.sess = y.sess ∧
      regGet d (Reg.vfDbLastErr.vfAt t 0) = e.code + slot * 2 ^ 8 + b * 2 ^ 16 + g * 2 ^ 23 ∧
      (ownerOf y slot = t → objGet d 0x5021 slot = (objGet y 0x5021 slot + 1) % 2 ^ 32) ∧
      (ownerOf y slot ≠ t → objGet d 0x5030 t = (objGet y 0x5030 t + 1) % 2 ^ 32))) ∧
    (doorbellErrs y t w = [] → (sess y slot).splice.isSome = true → (sess y slot).spliceEnd ≠ 2 →
      Answers (.bandDoorbell t tee word now) s (fun d => ∃ x, d = earlyStart x ∧ x.streams = y.streams ∧ x.sess = y.sess ∧
        objGet x 0x5023 slot = (objGet y 0x5023 slot + 1) % 2 ^ 32)) ∧
    (doorbellErrs y t w = [] → ((sess y slot).splice = none ∨ (sess y slot).spliceEnd = 2) →
      (∀ f, openFrame y slot g = some f → b < f.bands.length) →
      Answers (.bandDoorbell t tee word now) s (fun d => ∃ x, d = earlyStart x ∧
        (openFrame y slot g = none → (sess x slot).lastNumber = some g) ∧
        ∃ f ∈ (stream x (liveSid slot)).frames, f.number = g ∧ (f.band b).st = 1 ∧ (f.band b).ready = y.tbs.cnt ∧
          (f.band b).stamp = y.tbs.ns ∧ (f.band b).mv = bit w 24 ∧ (f.band b).roi = bit w 25))) ∧
  (∀ (s : State) (slot now : Nat), isHeld s.dev = false → Sound s.dev → isSlot slot = true →
    let y := atTime now s.dev
    let n := stitchesIn y.tbs.ns
    let runs := ((sess y slot).st = .running ∨ (sess y slot).st = .draining) ∧ objGet y 0x3010 slot = 0
    (runs → Answers (.bandSubstitution slot now) s (fun d => ∀ f ∈ (stream y (liveSid slot)).frames, substDue y slot n f = true →
      ∃ f' ∈ (stream d (liveSid slot)).frames, f'.number = f.number ∧ f'.count = f.count ∧
        f'.bands.map (·.st) = f.bands.map (fun b => if b.st = 0 then 2 else b.st))) ∧
    (¬ runs ∨ (∀ f ∈ (stream y (liveSid slot)).frames, substDue y slot n f = false) →
      Answers (.bandSubstitution slot now) s (fun d => d = y))) ∧
  ∀ (s : State) (who : Caller) (slot mask : Nat), isHeld s.dev = false → Sound s.dev → isSlot slot = true →
    (regOpen who (Reg.dmaIntakeWm.at slot) false s.dev = true → Answers (.watermarkFlagClear who slot mask) s (fun d =>
      (sess d slot).highX = ((sess s.dev slot).highX && !bit mask 10) ∧ (sess d slot).lowX = ((sess s.dev slot).lowX && !bit mask 11) ∧
      (sess d slot).held = (sess s.dev slot).held ∧ (sess d slot).xcount = (sess s.dev slot).xcount)) ∧
    (regOpen who Reg.dmaHoldStatus.base false s.dev = true → Answers (.holdAssertClear who mask) s (fun d => d.hold = s.dev.hold ∧
      ∀ i, i < 32 → bit (regGet d Reg.dmaHoldStatus.base) i =
        (bit (regGet s.dev Reg.dmaHoldStatus.base) i && !(decide (8 ≤ i) && decide (i < 16) && bit mask i))))

/-- A granted DEFINE, RELEASE, ARM, DISARM, START, PAUSE, RESUME or DRAIN is accepted and is the last command read;
DEFINE and DISARM leave the slot DEFINED, RELEASE FREE with nothing reserved, ARM ARMED with its charges and its
window, or waiting for the partner if it asks for a lining; START, PAUSE and RESUME are pending; DRAIN drains, or
disarms an ARMED session, and the operator's drain acts as DRAIN. An ARM that has waited 2 ms is refused with
E_CAPACITY and holds nothing. A frame in progress is abandoned four frame periods after DRAIN; a drain that is done
leaves the slot DEFINED. A granted binding binds or unbinds the slot. A stitch boundary presents the next count of
the stitch counter, the held one first. -/
def Obligations.SessionCommands : Prop :=
  (∀ (s : State) (q : Req) (slot : Nat), Sound s.dev → isSlot slot = true →
    let y := atTime q.now s.dev
    let x := sess y slot
    let empty := fun d => (sess d slot).window = none ∧ (sess d slot).charges = {} ∧ stream d (liveSid slot) = {}
    let done := fun d n => Accepted q 0x3003 slot d ∧ objGet d 0x3003 slot = n
    let held := fun d => (sess d slot).charges = chargesOf y (params y slot) ∧ (sess d slot).window = placeWindow y slot (params y slot)
    let drained := fun d => (x.st = .armed → (sess d slot).st = .defined ∧ empty d) ∧
      (x.st ≠ .armed → (sess d slot).st = .draining ∧ (sess d slot).pend = 0 ∧ (sess d slot).cause = 0 ∧ (sess d slot).drainAt = some y.tbs.ns)
    (granted q 0x3003 slot (defineErrs slot) s.dev = true → Answers (.define q slot) s (fun d => done d 1 ∧ (sess d slot).st = .defined ∧
      (sess d slot).refN = slotsOfParams (params y slot))) ∧
    (granted q 0x3003 slot (stateErrs slot [.defined]) s.dev = true → Answers (.release q slot) s (fun d => done d 2 ∧ (sess d slot).st = .free ∧ empty d)) ∧
    (granted q 0x3003 slot (armErrs slot) s.dev = true →
      (objGet y 0x301B slot ≠ 1 → Answers (.arm q slot) s (fun d => done d 3 ∧ (sess d slot).st = .armed ∧ held d)) ∧
      (objGet y 0x301B slot = 1 → Answers (.arm q slot) s (fun d => (sess d slot).st = x.st ∧ held d ∧
        (sess d slot).armWait = some { req := q, deadline := y.tbs.ns + 2000000 }))) ∧
    (granted q 0x3003 slot (stateErrs slot [.armed]) s.dev = true → Answers (.disarm q slot) s (fun d => done d 4 ∧ (sess d slot).st = .defined ∧ empty d)) ∧
    (granted q 0x3003 slot (startErrs slot) s.dev = true → Answers (.start q slot) s (fun d => done d 5 ∧ (sess d slot).st = x.st ∧ (sess d slot).pend = 5)) ∧
    (granted q 0x3003 slot (stateErrs slot [.running]) s.dev = true → Answers (.pause q slot) s (fun d => done d 6 ∧ (sess d slot).st = x.st ∧ (sess d slot).pend = 6)) ∧
    (granted q 0x3003 slot (resumeErrs slot) s.dev = true → Answers (.resume q slot) s (fun d => done d 7 ∧ (sess d slot).st = x.st ∧ (sess d slot).pend = 7)) ∧
    (granted q 0x3003 slot (drainErrs slot) s.dev = true → Answers (.drain q slot) s (fun d => done d 8 ∧ drained d)) ∧
    (granted q 0x3004 slot (operatorDrainErrs slot 1) s.dev = true → Answers (.operatorDrain q slot 1) s (fun d => Accepted q 0x3004 slot d ∧ drained d))) ∧
  (∀ (s : State) (slot now : Nat), isHeld s.dev = false → Sound s.dev → isSlot slot = true →
    let y := atTime now s.dev
    let x := sess y slot
    (x.armWait = none → Answers (.armPartnerTimeout slot now) s (fun d => d = y)) ∧
    (∀ w, x.armWait = some w → (y.tbs.ns < w.deadline → Answers (.armPartnerTimeout slot now) s (fun d => d = y)) ∧
      (w.deadline ≤ y.tbs.ns → Answers (.armPartnerTimeout slot now) s (fun d => (sess d slot).st = .defined ∧ (sess d slot).armWait = none ∧
        (sess d slot).window = none ∧ (sess d slot).charges = {} ∧ objGet d 0x3090 slot = objDefault 0x3090 slot ∧
        Sent (.response w.req.who (opOf w.req + 0x80) Err.capacity.code 0x3003 slot w.req.tag 0 0) d))) ∧
    let due := ∃ t, x.drainAt = some t ∧ x.st = .draining ∧ y.flt.safe = false ∧ drainFrameDone y slot = false ∧
      4 * chargePeriod (params y slot) * 2500000 ≤ (y.tbs.ns - t) * 9
    (due → Answers (.drainAbandon slot now) s (fun d => (stream d (liveSid slot)).frames = [] ∧ (stream d (mezzSid slot)).frames = [] ∧
      objGet d 0x5023 slot = (objGet y 0x5023 slot + sumBy uncoded (stream y (liveSid slot)).frames) % 2 ^ 32)) ∧
    (¬ due → Answers (.drainAbandon slot now) s (fun d => d = y)) ∧
    (drainDone slot (noteQuiet slot y) = true → Answers (.drainComplete slot now) s (fun d => (sess d slot).st = .defined ∧
      (sess d slot).window = none ∧ (sess d slot).charges = {} ∧ stream d (liveSid slot) = {})) ∧
    (drainDone slot (noteQuiet slot y) = false → Answers (.drainComplete slot now) s (fun d => d = noteQuiet slot y))) ∧
  (∀ (s : State) (q : Req) (t v : Nat), Sound s.dev → isSlot t = true →
    granted q 0x2001 t (fun d => earned [(decide (65535 < v), .type)] ++ bindErrs t v d) s.dev = true →
    let y := atTime q.now s.dev
    (v = (tenantOf y t).bound → Answers (.tenantBind q t v) s (fun d => Accepted q 0x2001 t d ∧ d.tenants = y.tenants ∧ d.objs = y.objs)) ∧
    (v ≠ (tenantOf y t).bound → v = 0xFFFF → Answers (.tenantBind q t v) s (fun d => Accepted q 0x2001 t d ∧ (tenantOf d t).st = 0 ∧
      (tenantOf d t).bound = 0xFFFF ∧ (tenantOf d t).root = none ∧ objGet d 0x2001 t = 0xFFFF ∧
      ∀ u ∈ sessionsOf y t, objGet d 0x3000 u = objDefault 0x3000 u)) ∧
    (v ≠ (tenantOf y t).bound → v ≠ 0xFFFF → Answers (.tenantBind q t v) s (fun d => Accepted q 0x2001 t d ∧ (tenantOf d t).st = 1 ∧
      (tenantOf d t).bound = v ∧ objGet d 0x2001 t = v))) ∧
  ∀ (s : State), isHeld s.dev = false →
    let y := s.dev.tbs
    (y.running = false → Answers .stitchBoundary s (fun d => d = s.dev)) ∧
    (y.running = true → y.presented < y.cnt → Answers .stitchBoundary s (fun d => d.tbs.cnt = y.cnt ∧ d.tbs.presented = y.cnt ∧ d.tbs.ns = y.ns)) ∧
    (y.running = true → y.cnt ≤ y.presented → Answers .stitchBoundary s (fun d => d.tbs.cnt = y.cnt + 1 ∧ d.tbs.presented = y.cnt + 1 ∧
      d.tbs.ns = max y.ns (stitchNs (y.cnt + 1)))) ∧
    (y.running = true → s.dev.pwr.resetAt.isSome = true → Answers .stitchBoundary s (fun d => d = { s.dev with tbs := d.tbs }))

/-- A granted freeze makes its entry FREEZING and waits for the boundary. A registration takes the block's entries as
VERIFYING; a deletion leaves the entry FREE; an export to Ethernet counts one more export of the entry, which is
EXPORTING, or READY when the last of it has left. A segment under verification becomes READY with what its bands and
its one header gave, or is FAILED with the code earned; any other entry stays. A granted splice is pending with its
entry and whether it loops; a granted return ends the splice at its boundary. -/
def Obligations.ClipsAndSplices : Prop :=
  (∀ (s : State) (q : Req) (slot : Nat) (v : Payload), Sound s.dev → isSlot slot = true → granted q 0x30A2 slot (freezeErrs slot v) s.dev = true →
    let y := atTime q.now s.dev
    Answers (.freezeRequest q slot v) s (fun d => Accepted q 0x30A2 slot d ∧ (sess d slot).st = (sess y slot).st ∧
      (sess d slot).freezes = (sess y slot).freezes ++ [{ start := bytesAt v.val 0 8, fin := bytesAt v.val 8 8, e := byteAt v.val 16 }] ∧
      (libEntry d (ownerOf y slot) (byteAt v.val 16)).st = 1)) ∧
  (∀ (s : State) (q : Req) (t : Nat) (v : Payload), Sound s.dev → isSlot t = true → granted q 0x2010 t (libraryErrs t v) s.dev = true →
    let y := atTime q.now s.dev
    let e := byteAt v.val 1
    let k := handleKey (bytesAt v.val 8 8)
    (byteAt v.val 0 = 1 → Answers (.registerSegment q t v) s (fun d => Accepted q 0x2010 t d ∧ ∃ b, blockAt y k = some b ∧
      libEntry d t e = { st := 2, kind := 2, blocks := [parseBlock y k b], entries := (parseBlock y k b).entries })) ∧
    (byteAt v.val 0 = 2 → Answers (.delete q t v) s (fun d => Accepted q 0x2010 t d ∧ libEntry d t e = {} ∧
      ∀ u, u < 64 → u ≠ e → libEntry d t u = libEntry y t u)) ∧
    (byteAt v.val 0 = 3 → Answers (.exportToEthernet q t v) s (fun d => Accepted q 0x2010 t d ∧
      bytesAt (objGet d 0x2054 t) (4 * e) 4 = (bytesAt (objGet y 0x2054 t) (4 * e) 4 + 1) % 2 ^ 32 ∧
      ((libEntry d t e).st = 5 ∨ (libEntry d t e).st = 3) ∧ (libEntry d t e).entries = (libEntry y t e).entries))) ∧
  (∀ (s : State) (t e now : Nat) (bands : List SegBand), isHeld s.dev = false → Sound s.dev → isSlot t = true → e < 64 →
    let y := atTime now s.dev
    let x := libEntry y t e
    let es := List.zipWith verified x.entries bands
    let hdrs := (bands.filterMap (·.seqHdr)).eraseDups
    ((x.st ≠ 2 ∨ bands.length ≠ x.entries.length) → Answers (.segmentVerified t e bands now) s (fun d => d = y)) ∧
    (x.st = 2 → bands.length = x.entries.length →
      (∀ c, verifyErr y x bands es hdrs = some c → Answers (.segmentVerified t e bands now) s (fun d =>
        libEntry d t e = { x with st := 4, code := c.code })) ∧
      (∀ h, verifyErr y x bands es hdrs = none → hdrs = [h] → Answers (.segmentVerified t e bands now) s (fun d =>
        (libEntry d t e).st = 3 ∧ (libEntry d t e).entries = es ∧ (libEntry d t e).codec = h.codec ∧ (libEntry d t e).width = h.width ∧
        (libEntry d t e).height = h.height ∧ (libEntry d t e).depth = h.depth ∧ (libEntry d t e).period = h.period ∧
        (libEntry d t e).lvl = h.lvl ∧ (libEntry d t e).seqHdr = h.bytes)))) ∧
  ∀ (s : State) (q : Req) (slot v : Nat), Sound s.dev → isSlot slot = true →
    let y := atTime q.now s.dev
    (granted q 0x30B0 slot (spliceErrs slot v) s.dev = true → Answers (.spliceRequest q slot v) s (fun d => Accepted q 0x30B0 slot d ∧
      (sess d slot).splicePend = some (v % 64 + (if bit v 8 then 1024 else 0)) ∧ (sess d slot).splice = none ∧ (sess d slot).st = .running)) ∧
    (granted q 0x30B1 slot (spliceReturnErrs slot v) s.dev = true → Answers (.spliceReturn q slot v) s (fun d => Accepted q 0x30B1 slot d ∧
      (sess d slot).splice = (sess y slot).splice ∧ (sess d slot).spliceEnd = max 1 (sess y slot).spliceEnd))

/-- A granted write of pair enable is kept for the boundary. A handshake not finished in 200 ms is refused with reason 4;
a refused one is tried again after 1 s. A handshake that begins publishes the share; with debug unlocked, without
alignment or under another profile it is refused with its reason. A partner's share that passes the checks gives the
next epoch, the pair key and a HELLO; one that does not refuses the pair. A HELLO in HANDSHAKE pairs the devices or
refuses with the reason of its first wrong item; from PARTNER_LOST it begins a handshake. A HEARTBEAT moves the last
count and ends a probe or MIRROR_DOWN. A message not accepted is only counted. Heartbeats past the limit send a
probe, repeated every 36 stitches in MIRROR_DOWN; an answer of running or disabled leaves MIRROR_DOWN, any other one,
or none in 2 ms, loses the partner. Announcements that are due leave. -/
def Obligations.PairingCommands : Prop :=
  (∀ (s : State) (q : Req) (v : Nat), Sound s.dev → granted q 0x1400 0 (pairEnableErrs v) s.dev = true →
    Answers (.pairEnable q v) s (fun d => Accepted q 0x1400 0 d ∧ objGet d 0x1400 0 = v ∧ d.pair = s.dev.pair ∧
      objNow d 0x1400 0 = objNow s.dev 0x1400 0)) ∧
  ∀ (s : State) (now : Nat), isHeld s.dev = false → Sound s.dev →
    let y := atTime now s.dev
    let x := y.pair
    let refused := fun (r : Nat) (d : Dev) => d.pair.st = 5 ∧ d.pair.keyed = false ∧ objGet d 0x1409 0 = r
    let begun := fun (d : Dev) =>
      (y.sec.rngFail = true → d.pair.st = x.st ∧ d.rngCtr = y.rngCtr) ∧
      (y.sec.rngFail = false → y.sec.debug = true → refused 3 d) ∧
      (y.sec.rngFail = false → y.sec.debug = false → isAligned y = false → refused 6 d) ∧
      (y.sec.rngFail = false → y.sec.debug = false → isAligned y = true → objGet y 0x1101 0 ≠ 1 → refused 1 d) ∧
      (y.sec.rngFail = false → y.sec.debug = false → isAligned y = true → objGet y 0x1101 0 = 1 → d.pair.st = 1 ∧
        objGet d 0x1620 0 = Config.pairShare y.rngCtr % 2 ^ (8 * 208) ∧ d.rngCtr = y.rngCtr + 1)
    let probed := fun (d : Dev) => d.pair = { x with probe := some y.tbs.ns, probedAt := y.tbs.cnt } ∧ d.objs = y.objs ∧
      d.dsr.own = y.dsr.own ++ [{ dst := partnerNode y, ty := 1, op := 1, idx := 0x140C }]
    let lost := fun (d : Dev) => d.pair.st = 4 ∧ d.pair.lost = true ∧ d.pair.probe = none ∧ d.pair.offer = none
    let late := x.st = 1 ∧ x.since + 200000000 ≤ y.tbs.ns
    let again := x.st = 5 ∧ pairWanted y = true ∧ x.since + 1000000000 ≤ y.tbs.ns
    let silent := x.st = 2 ∧ x.probe = none ∧ max (objGet y 0x140B 0) (stitchesIn x.since) + objNow y 0x1406 0 < y.tbs.cnt
    let repeats := x.st = 3 ∧ x.probe = none ∧ x.probedAt + 36 ≤ y.tbs.cnt
    (late → Answers (.handshakeTimeout now) s (refused 4)) ∧
    (¬ late → Answers (.handshakeTimeout now) s (fun d => d = y)) ∧
    (again → Answers (.refusedRetry now) s begun) ∧
    (¬ again → Answers (.refusedRetry now) s (fun d => d = y)) ∧
    (∀ a b c n e p, (x.st ≠ 1 ∨ x.keyed = true → Answers (.pairShareResponse a b c n e p now) s (fun d => d = y)) ∧
      (x.st = 1 → x.keyed = false → shareOk y a b c n p = false → Answers (.pairShareResponse a b c n e p now) s (refused 3)) ∧
      (x.st = 1 → x.keyed = false → shareOk y a b c n p = true → Answers (.pairShareResponse a b c n e p now) s (fun d =>
        d.pair.st = 1 ∧ d.pair.keyed = true ∧ d.pair.lastIn = 0 ∧ d.pair.counter = 1 ∧
        objGet d 0x1405 0 = (max (objGet y 0x1405 0) e + 1) % 2 ^ 32))) ∧
    (∀ m, mirrorOk y 2 m = false → Answers (.hello m now) s (fun d => d.pair = x ∧ objGet d 0x5098 0 = (objGet y 0x5098 0 + 1) % 2 ^ 32)) ∧
    (∀ m, mirrorOk y 2 m = true →
      let n := fun i => m.nums.getD i 0
      (x.st = 1 → n 0 ≠ objGet y 0x1401 0 → Answers (.hello m now) s (refused 5)) ∧
      (x.st = 1 → n 0 = objGet y 0x1401 0 → (n 1 ≠ objGet y 0x1001 0 ∨ n 2 ≠ objGet y 0x1004 0) → Answers (.hello m now) s (refused 2)) ∧
      (x.st = 1 → n 0 = objGet y 0x1401 0 → n 1 = objGet y 0x1001 0 → n 2 = objGet y 0x1004 0 → n 3 ≠ 1 → Answers (.hello m now) s (refused 1)) ∧
      (x.st = 1 → n 0 = objGet y 0x1401 0 → n 1 = objGet y 0x1001 0 → n 2 = objGet y 0x1004 0 → n 3 = 1 → Answers (.hello m now) s (fun d =>
        d.pair.st = 2 ∧ d.pair.lastIn = m.counter ∧ d.pair.partner = m.objs ∧ d.pair.probe = none ∧ d.pair.lost = false)) ∧
      (x.st = 4 → Answers (.hello m now) s begun) ∧
      (x.st ≠ 1 → x.st ≠ 4 → Answers (.hello m now) s (fun d => d = { y with pair := { x with lastIn := m.counter } }))) ∧
    (∀ m, mirrorOk y 1 m = false → Answers (.heartbeat m now) s (fun d => d.pair = x ∧ objGet d 0x5098 0 = (objGet y 0x5098 0 + 1) % 2 ^ 32)) ∧
    (∀ m, mirrorOk y 1 m = true →
      let told := fun (d : Dev) => objGet d 0x140B 0 = max (m.nums.getD 0 0) (objGet y 0x140B 0)
      (x.st = 2 ∨ x.st = 3 → Answers (.heartbeat m now) s (fun d => told d ∧ d.pair.st = 2 ∧ d.pair.probe = none ∧ d.pair.lastIn = m.counter)) ∧
      (x.st = 4 → Answers (.heartbeat m now) s (fun d => told d ∧ begun d)) ∧
      (x.st ≠ 2 → x.st ≠ 3 → x.st ≠ 4 → Answers (.heartbeat m now) s (fun d => told d ∧ d.pair = { x with lastIn := m.counter }))) ∧
    (silent → Answers (.heartbeatLimit now) s probed) ∧
    (¬ silent → Answers (.heartbeatLimit now) s (fun d => d = y)) ∧
    (repeats → Answers (.probeRepeat now) s probed) ∧
    (¬ repeats → Answers (.probeRepeat now) s (fun d => d = y)) ∧
    (∀ k, (isProbing y = false → Answers (.probeAnswer k now) s (fun d => d = y)) ∧
      (isProbing y = true → k = 1 ∨ k = 2 → Answers (.probeAnswer k now) s lost) ∧
      (isProbing y = true → k ≠ 1 → k ≠ 2 → Answers (.probeAnswer k now) s (fun d => d.pair.st = 3 ∧ d.pair.probe = none ∧ d.pair.lost = x.lost))) ∧
    (∀ t, x.probe = some t → isProbing y = true → t + 2000000 ≤ y.tbs.ns → Answers (.probeTimeout now) s lost) ∧
    (∀ t, x.probe = some t → isProbing y = false ∨ y.tbs.ns < t + 2000000 → Answers (.probeTimeout now) s (fun d => d = y)) ∧
    (x.probe = none → Answers (.probeTimeout now) s (fun d => d = y)) ∧
    Answers (.addressAnnounce now) s (fun d => d.pair = { x with
      announces := x.announces.filter fun a => !decide (a.1 ≤ max y.tbs.cnt (stitchesIn y.tbs.ns)) })

/-- A sequenced message that is not accepted is only counted; one already applied, or for a lining that takes none, has
no effect; one ahead of its turn waits. In its turn a SESSION_OPEN, BAND, SESSION_STATE, SESSION_CLOSE or HANDOVER is
applied, and what waits after it: the open gives the lining its destinations and keys, the band waits to be decoded
with its record, the state merges what it carries, the close frees the lining, the handover makes the transport state
exact and promotes the lining or leaves it IDLE. After one mirror hold the missing messages are counted lost and an
IN_STEP lining is DEGRADED. A MIRROR_NACK sends again what is still held; the store drops what is older. A
LINING_STATE gives the view of the lining, and asks for a refresh or counts a mismatch. TAKEN, by message or by
write, names the sessions to suspend. -/
def Obligations.MirrorMessages : Prop :=
  (∀ (s : State) (now : Nat), isHeld s.dev = false → Sound s.dev →
    let y := atTime now s.dev
    let took := fun m : MirrorMsg => { y with pair := { y.pair with lastIn := m.counter } }
    let turn := fun (k : Nat) (m : MirrorMsg) => mirrorOk y k m = true ∧ linOpen y m.lining = true ∧ m.mseq = objGet y 0x4005 m.lining + 1 ∧
      ∀ e ∈ (lining y m.lining).waiting.head?, m.mseq < e.1
    let applied := fun (m : MirrorMsg) (z : Dev) => objGet z 0x4005 m.lining = m.mseq ∧ (lining z m.lining).waiting = (lining y m.lining).waiting
    (∀ m, ∀ c ∈ [(5, Instr.sessionOpen m now, earlyStart), (6, .band m now, earlyStart), (7, .sessionState m now, earlyStart),
        (8, .sessionClose m now, id), (13, .handover m now, id)],
      (mirrorOk y c.1 m = false → Answers c.2.1 s (fun d => d = c.2.2 (objCount 32 0x5098 0 1 y))) ∧
      (mirrorOk y c.1 m = true → linOpen y m.lining = false ∨ m.mseq ≤ objGet y 0x4005 m.lining →
        Answers c.2.1 s (fun d => d = c.2.2 (took m))) ∧
      (mirrorOk y c.1 m = true → linOpen y m.lining = true → objGet y 0x4005 m.lining + 1 < m.mseq →
        (∀ e ∈ (lining y m.lining).waiting.head?, e.1 ≠ objGet y 0x4005 m.lining + 1) → Answers c.2.1 s (fun d =>
          (lining d m.lining).waiting = tabSet (lining y m.lining).waiting m.mseq m ∧ ∀ k, k ≠ m.lining → lining d k = lining y k))) ∧
    (∀ m, turn 5 m → Answers (.sessionOpen m now) s (fun d => ∃ z, d = earlyStart (drainWaiting m.lining z) ∧ applied m z ∧
      (lining z m.lining).opened = true ∧ (lining z m.lining).dests = m.dests ∧ (lining z m.lining).keys = m.keys)) ∧
    (∀ m, turn 6 m →
      let c := m.record.frame
      let b := m.record.band
      let sid := liningSid m.lining
      ((∃ f, frameAt y sid c = some f ∧ b < f.bands.length ∧ (f.band b).collected = false ∧ (f.band b).st = 0) ∨
        (frameAt y sid c = none ∧ (stream y sid).count ≤ c ∧ b < bandCount y sid)) →
      Answers (.band m now) s (fun d => ∃ z, d = earlyStart (drainWaiting m.lining z) ∧ applied m z ∧ (lining z m.lining).lastFrame = some c ∧
        (lining z m.lining).next = m.nums.getD 2 0 * 65536 + m.nums.getD 0 0 + m.nums.getD 1 0 ∧
        (bandAt z sid c b).given = some m.record ∧ (bandAt z sid c b).st = 1 ∧ (bandAt z sid c b).ready = y.tbs.cnt ∧
        (bandAt z sid c b).data = m.data ∧ (bandAt z sid c b).units = m.units)) ∧
    (∀ m, turn 7 m → Answers (.sessionState m now) s (fun d => ∃ z, d = earlyStart (drainWaiting m.lining z) ∧ applied m z ∧
      (lining z m.lining).dests = mergeDests m.dests (lining y m.lining).dests ∧
      (lining z m.lining).keys = mergeDests m.keys (lining y m.lining).keys ∧
      (lining z m.lining).state = m.nums.getD 0 (lining y m.lining).state)) ∧
    (∀ m, turn 8 m → Answers (.sessionClose m now) s (fun d => lining d m.lining = {} ∧ linState d m.lining = objDefault 0x4000 m.lining ∧
      stream d (liningSid m.lining) = {})) ∧
    (∀ m, turn 13 m → Answers (.handover m now) s (fun d => ∃ w z, d = drainWaiting m.lining z ∧ z = promotionPass [m.lining] w ∧ applied m w ∧
      (lining w m.lining).exact = true ∧ (lining w m.lining).next = m.nums.getD 1 0 * 65536 + m.nums.getD 0 0 ∧
      (lining w m.lining).dests = mergeDests m.dests (lining y m.lining).dests ∧
      ((m.lining, y.tbs.ns + 200000) ∈ z.pair.promoting ∨ linState z m.lining = objDefault 0x4000 m.lining))) ∧
    (∀ m, mirrorOk y 9 m = false → Answers (.mirrorNack m now) s (fun d => d = objCount 32 0x5098 0 1 y)) ∧
    (∀ m, mirrorOk y 9 m = true → Answers (.mirrorNack m now) s (fun d => (sess d m.session).kept = (sess y m.session).kept ∧
      d.pair.lastIn = m.counter ∧ d.pair.counter = y.pair.counter + ((sess y m.session).kept.filter fun k =>
        m.nums.contains k.msg.mseq && k.msg.lining == m.lining && isKept y k).length)) ∧
    (∀ m, mirrorOk y 10 m = false → Answers (.liningState m now) s (fun d => d = objCount 32 0x5098 0 1 y)) ∧
    (∀ m, mirrorOk y 10 m = true →
      let view := fun d : Dev => objGet d 0x3090 m.session = linkView (m.nums.getD 0 0)
      (linkedLining y m.session ≠ some m.lining ∨ isSlot m.session = false → Answers (.liningState m now) s (fun d => d = took m)) ∧
      (isSlot m.session = true → linkedLining y m.session = some m.lining → m.nums.length ≤ 3 → Answers (.liningState m now) s (fun d => view d ∧
        (m.nums.getD 2 0 = 1 → (stream d (liveSid m.session)).cycle.isSome = true ∨ (stream d (liveSid m.session)).trigger = true))) ∧
      (∀ t, isSlot m.session = true → linkedLining y m.session = some m.lining → 3 < m.nums.length → objNow y 0x1443 0 = 0 →
        tabGet [] (stream y (liveSid m.session)).coders (128 * m.nums.getD 3 0 + m.nums.getD 4 0) = [t] →
        Answers (.liningState m now) s (fun d => view d ∧ objGet d 0x5090 t = (objGet y 0x5090 t + 1) % 2 ^ 16))) ∧
    (∀ l, isSlot l = true →
      let x := lining y l
      (gapSince x = none → Answers (.mirrorHoldExpiry l now) s (fun d => d = earlyStart y)) ∧
      (∀ t, gapSince x = some t → stitchesIn y.tbs.ns < stitchesIn t + objNow y 0x1407 0 →
        Answers (.mirrorHoldExpiry l now) s (fun d => d = earlyStart y)) ∧
      (∀ t e, gapSince x = some t → stitchesIn t + objNow y 0x1407 0 ≤ stitchesIn y.tbs.ns → x.waiting.head? = some e →
        Answers (.mirrorHoldExpiry l now) s (fun d => ∃ z, d = earlyStart (drainWaiting l z) ∧ (lining z l).waiting = x.waiting ∧
          objGet z 0x4005 l = e.1 - 1 ∧ objGet z 0x5082 l = (objGet y 0x5082 l + (e.1 - 1 - objGet y 0x4005 l)) % 2 ^ 32 ∧
          linState z l = if linState y l = 2 then 3 else linState y l))) ∧
    (∀ k, isSlot k = true → Answers (.mirrorStoreExpiry k now) s (fun d => (sess d k).kept = (sess y k).kept.filter (isKept y) ∧
      (∀ u, u ≠ k → sess d u = sess y u) ∧ d.objs = y.objs ∧ d.pair = y.pair)) ∧
    (∀ m, mirrorOk y 14 m = false → Answers (.taken m now) s (fun d => d = objCount 32 0x5098 0 1 y)) ∧
    (∀ m, mirrorOk y 14 m = true → Answers (.taken m now) s (fun d => d = { y with pair := { y.pair with
      lastIn := m.counter, takenAway := y.pair.takenAway ++ (m.nums.filter isSlot).filter fun k => !y.pair.takenAway.contains k } }))) ∧
  (∀ (s : State) (q : Req) (v : Payload), Sound s.dev → granted q 0x140D 0 (fun _ => typeErrs 0x140D v) s.dev = true →
    Answers (.sessionsTakenWrite q v) s (fun d => Accepted q 0x140D 0 d ∧ objGet d 0x140D 0 = v.val % 2 ^ 256 ∧
      d.pair = { s.dev.pair with takenAway := s.dev.pair.takenAway ++
        ((List.range 256).filter (bit v.val)).filter fun k => !s.dev.pair.takenAway.contains k }))

/-- A LINING_REQUEST that earns no code takes the lowest idle lining slot and the lowest free standby slot, leaves the
lining ANCHORING with its charges, and is answered with both; one that earns a code is answered with it and takes
nothing. The answer to a waiting ARM arms the session with its link, or refuses it with E_CAPACITY and leaves it
DEFINED; the answer to a request made after re-pairing opens the link, or is tried again after 1 s. A granted re-
anchor clears the attempts and asks for a refresh; a granted release leaves the lining IDLE. A granted promotion
takes every IN_STEP lining, and with bit 7 the others, in order at 200 us each; one that is not admitted goes to
IDLE. -/
def Obligations.LiningCommands : Prop :=
  (∀ (s : State) (now : Nat), isHeld s.dev = false → Sound s.dev →
    let y := atTime now s.dev
    let took := fun m : MirrorMsg => { y with pair := { y.pair with lastIn := m.counter } }
    let sends := linkUp y (mirrorPort y) = true
    (∀ m, mirrorOk y 3 m = false → Answers (.liningRequest m now) s (fun d => d = objCount 32 0x5098 0 1 y)) ∧
    (∀ m, mirrorOk y 3 m = true →
      let a := linAsk m
      let e := lowest (liningErrs a (took m))
      (∀ l k, e = none → idleLining y = some l → standbyFor y a.t = some k → Answers (.liningRequest m now) s (fun d =>
        linState d l = 1 ∧ lining d l = { prio := a.prio, charges := askedCharges y a } ∧ objGet d 0x4001 l = m.session ∧
        objGet d 0x4002 l = a.t ∧ objGet d 0x4003 l = k ∧ objGet d 0x4004 l = b2n (decide (a.prio < objNow y 0x1441 0)) ∧
        (sends → Mirrored { ty := 4, session := m.session, nums := [0, l, k] } d))) ∧
      (∀ c, e = some c → Answers (.liningRequest m now) s (fun d => d.linings = y.linings ∧ (∀ l, l < 256 → linState d l = linState y l) ∧
        (sends → Mirrored { ty := 4, session := m.session, nums := [c.code, 0xFFFF, 0xFFFF] } d)))) ∧
    (∀ m, mirrorOk y 4 m = false → Answers (.liningAnswer m now) s (fun d => d = objCount 32 0x5098 0 1 y)) ∧
    (∀ m, mirrorOk y 4 m = true →
      let k := m.session
      let x := sess y k
      let linked := fun d : Dev => objGet d 0x3090 k = 2 ∧ objGet d 0x3091 k = m.nums.getD 1 0
      (∀ w, isSlot k = true → x.armWait = some w → m.nums.getD 0 0 = 0 → Answers (.liningAnswer m now) s (fun d =>
        (sess d k).st = .armed ∧ (sess d k).armWait = none ∧ linked d ∧ Accepted w.req 0x3003 k d)) ∧
      (∀ w, isSlot k = true → x.armWait = some w → m.nums.getD 0 0 ≠ 0 → Answers (.liningAnswer m now) s (fun d =>
        (sess d k).st = .defined ∧ (sess d k).armWait = none ∧ (sess d k).window = none ∧ (sess d k).charges = {} ∧
        objGet d 0x3090 k = objDefault 0x3090 k ∧ Sent (.response w.req.who (opOf w.req + 0x80) Err.capacity.code 0x3003 k w.req.tag 0 0) d)) ∧
      (isSlot k = true → x.armWait = none → wantsLining y k = true → y.pair.st = 2 → m.nums.getD 0 0 = 0 →
        Answers (.liningAnswer m now) s (fun d => linked d ∧ (sess d k).st = x.st)) ∧
      (x.armWait = none → wantsLining y k = true → y.pair.st = 2 → m.nums.getD 0 0 ≠ 0 →
        Answers (.liningAnswer m now) s (fun d => (sess d k).askedAt = some y.tbs.ns ∧ d.objs = y.objs)) ∧
      (x.armWait = none → wantsLining y k = false ∨ y.pair.st ≠ 2 → Answers (.liningAnswer m now) s (fun d => d = took m))) ∧
    (∀ k, isSlot k = true →
      let due := fun t => y.pair.st = 2 ∧ wantsLining y k = true ∧ t + 1000000000 ≤ y.tbs.ns
      ((sess y k).askedAt = none → Answers (.liningRequestRetry k now) s (fun d => d = y)) ∧
      (∀ t, (sess y k).askedAt = some t → ¬ due t → Answers (.liningRequestRetry k now) s (fun d => d = y)) ∧
      (∀ t, (sess y k).askedAt = some t → due t → Answers (.liningRequestRetry k now) s (fun d => (sess d k).askedAt = none ∧
        d.pair.counter = y.pair.counter + b2n y.pair.keyed)))) ∧
  ∀ (s : State) (q : Req), Sound s.dev →
    let y := atTime q.now s.dev
    (∀ l, isSlot l = true → granted q 0x4009 l (fun d => earned [(!linOpen d l, .state)]) s.dev = true →
      Answers (.liningReanchor q l) s (fun d => Accepted q 0x4009 l d ∧ objGet d 0x4008 l = objDefault 0x4008 l ∧ (lining d l).quiet = false ∧
        linState d l = linState y l ∧ objGet d 0x5084 l = (objGet y 0x5084 l + 1) % 2 ^ 32 ∧
        (y.pair.keyed = true → linkUp y (mirrorPort y) = true →
          Mirrored { ty := 10, session := objGet y 0x4001 l, lining := l, nums := [linState y l, objGet y 0x4007 l, 1] } d))) ∧
    (∀ l, isSlot l = true → granted q 0x4009 l (fun d => earned [(!linOpen d l || !(d.pair.st == 3 || d.pair.st == 4), .state)]) s.dev = true →
      Answers (.liningRelease q l) s (fun d => Accepted q 0x4009 l d ∧ lining d l = {} ∧ linState d l = objDefault 0x4000 l ∧
        stream d (liningSid l) = {} ∧ ∀ e ∈ d.pair.promoting, e.1 ≠ l)) ∧
    (∀ v, granted q 0x1446 0 (fun d => earned [(v != 1, .range), (d.pair.st != 4, .state)]) s.dev = true →
      let ls := (activeLinings y).filter fun l => (lining y l).opened && !(y.pair.promoting.any fun e => e.1 == l) &&
        (linState y l == 2 || (isArmed y 7 && (linState y l == 1 || linState y l == 3)))
      Answers (.promoteLinings q v) s (fun d => Accepted q 0x1446 0 d ∧ d.pair.st = 4 ∧ (∀ e ∈ y.pair.promoting, e ∈ d.pair.promoting) ∧
        ∀ i l, (promoteOrder y ls)[i]? = some l →
          (l, y.tbs.ns + 200000 * (i + 1)) ∈ d.pair.promoting ∨ linState d l = objDefault 0x4000 l))

/-- A granted command, like an escalation, makes an offer that stands for 2 ms; no acknowledgement leaves yet. The host
keeps the effort offered and answers it. An answer that accepts stops the session's media and counts the 8 stitches;
one that refuses, or none in 2 ms, ends the offer, and a commanded one is refused with E_CAPACITY. When the queues
are empty, or after 8 stitches, HANDOVER leaves: the offer and the link are gone, the handover is counted, and the
session is SUSPENDED with cause 5 after an escalation, or DRAINING after a command, which is acknowledged. -/
def Obligations.HandoverCommands : Prop :=
  (∀ (s : State) (now : Nat), isHeld s.dev = false → Sound s.dev →
    let y := atTime now s.dev
    let took := fun m : MirrorMsg => { y with pair := { y.pair with lastIn := m.counter } }
    let ended := fun (o : Offer) (d : Dev) => d.pair.offer = none ∧ d.pair.st = y.pair.st ∧
      ∀ q, o.hit = none → o.req = some q → Sent (.response q.who (opOf q + 0x80) Err.capacity.code 0x1445 0 q.tag 0 0) d
    let left := fun (o : Offer) (d : Dev) => d.pair.offer = none ∧ (sess d o.s).handing = false ∧
      objGet d 0x509A 0 = (objGet y 0x509A 0 + 1) % 2 ^ 32 ∧
      ((sess y o.s).st = .running → objGet d 0x3090 o.s = 1 ∧ objGet d 0x3091 o.s = objDefault 0x3091 o.s ∧
        (o.req = none → y.flt.safe = false → (sess d o.s).st = .suspended ∧ (sess d o.s).cause = 5) ∧
        ∀ q, o.req = some q → (sess d o.s).st = .draining ∧ Accepted q 0x1445 0 d)
    let limit := fun n => n + 8 ≤ max y.tbs.cnt (stitchesIn y.tbs.ns)
    (∀ m, mirrorOk y 11 m = false → Answers (.handoverOffer m now) s (fun d => d = objCount 32 0x5098 0 1 y)) ∧
    (∀ m, mirrorOk y 11 m = true →
      let l := m.lining
      let z := updLining l (fun x => { x with effort := m.nums.getD 1 0 }) (took m)
      let fits := y.pair.st = 2 ∧ linState y l = 2 ∧ ∃ e ∈ promoteEfforts z l, promoteErrs z l e = []
      let told := fun (c : Nat) (d : Dev) => (lining d l).effort = m.nums.getD 1 0 ∧ (∀ k, k ≠ l → lining d k = lining y k) ∧
        (linkUp y (mirrorPort y) = true → Mirrored { ty := 12, session := m.session, lining := l, nums := [c] } d)
      (fits → Answers (.handoverOffer m now) s (told 0)) ∧ (¬ fits → Answers (.handoverOffer m now) s (told Err.capacity.code))) ∧
    (∀ m, mirrorOk y 12 m = false → Answers (.handoverAnswer m now) s (fun d => d = objCount 32 0x5098 0 1 y)) ∧
    (∀ m, mirrorOk y 12 m = true →
      (y.pair.offer = none → Answers (.handoverAnswer m now) s (fun d => d = took m)) ∧
      (∀ o, y.pair.offer = some o →
        (o.s ≠ m.session ∨ o.accepted.isSome = true → Answers (.handoverAnswer m now) s (fun d => d = took m)) ∧
        (o.s = m.session → o.accepted = none → m.nums.getD 0 0 ≠ 0 → Answers (.handoverAnswer m now) s (ended o)) ∧
        (o.s = m.session → o.accepted = none → m.nums.getD 0 0 = 0 → ¬ limit y.tbs.cnt → sessionQueuesEmpty y o.s = false →
          Answers (.handoverAnswer m now) s (fun d => d.pair.offer = some { o with accepted := some y.tbs.cnt } ∧
            (sess d o.s).handing = true ∧ (sess d o.s).st = (sess y o.s).st)) ∧
        (isSlot o.s = true → o.s = m.session → o.accepted = none → m.nums.getD 0 0 = 0 → limit y.tbs.cnt ∨ sessionQueuesEmpty y o.s = true →
          Answers (.handoverAnswer m now) s (left o)))) ∧
    (y.pair.offer = none → Answers (.handoverQueueLimit now) s (fun d => d = y) ∧ Answers (.handoverOfferTimeout now) s (fun d => d = y)) ∧
    (∀ o, y.pair.offer = some o →
      (o.accepted = none → Answers (.handoverQueueLimit now) s (fun d => d = y)) ∧
      (∀ n, o.accepted = some n → ¬ limit n → sessionQueuesEmpty y o.s = false → Answers (.handoverQueueLimit now) s (fun d => d = y)) ∧
      (∀ n, isSlot o.s = true → o.accepted = some n → limit n ∨ sessionQueuesEmpty y o.s = true →
        Answers (.handoverQueueLimit now) s (left o)) ∧
      (o.accepted = none → o.deadline ≤ y.tbs.ns → Answers (.handoverOfferTimeout now) s (ended o)) ∧
      (o.accepted.isSome = true ∨ y.tbs.ns < o.deadline → Answers (.handoverOfferTimeout now) s (fun d => d = y)))) ∧
  ∀ (s : State) (q : Req) (v : Nat), Sound s.dev → granted q 0x1445 0 (handOverErrs v) s.dev = true →
    let y := atTime q.now s.dev
    Answers (.handOverSession q v) s (fun d => d.pair.offer = some { s := v, req := some q, deadline := y.tbs.ns + 2000000 } ∧
      (sess d v).st = (sess y v).st ∧ d.emitted = y.emitted ∧
      (y.pair.keyed = true → linkUp y (mirrorPort y) = true → 
        Mirrored { ty := 11, session := v, lining := objGet y 0x3091 v, nums := [v, effortPending y v] } d))
end

