-- ==== Sys2Proof/Laws/Tables.lean ====
section
/-! SUPPORT. The operations on tables keep their canonical form. -/
set_option Elab.async false
set_option autoImplicit false
namespace Sys2Proof.Machine

theorem tabErase_sub {α} (k : Nat) : ∀ (t : Tab α), (tabErase t k).Sublist t
  | [] => by simp [tabErase]
  | (j, w) :: t => by
    unfold tabErase
    split
    · exact List.sublist_cons_self _ _
    · split
      · exact List.Sublist.refl _
      · exact (tabErase_sub k t).cons_cons _

theorem mem_tabSet {α} (k : Nat) (v : α) : ∀ (t : Tab α) (e), e ∈ tabSet t k v → e = (k, v) ∨ e ∈ t
  | [], e => by simp [tabSet]
  | (j, w) :: t, e => by
    unfold tabSet
    split
    · simp; tauto
    · split
      · simp
      · intro h
        simp only [List.mem_cons] at h ⊢
        rcases h with h | h
        · exact .inr (.inl h)
        · rcases mem_tabSet k v t e h with h | h
          · exact .inl h
          · exact .inr (.inr h)

theorem tabSet_rising {α} (k : Nat) (v : α) :
    ∀ (t : Tab α), t.Pairwise (fun a b => a.1 < b.1) → (tabSet t k v).Pairwise (fun a b => a.1 < b.1)
  | [] => by simp [tabSet]
  | (j, w) :: t => by
    intro h
    rw [List.pairwise_cons] at h
    unfold tabSet
    split
    · next hj => subst hj; rw [List.pairwise_cons]; exact h
    · split
      · next hk =>
        rw [List.pairwise_cons]
        refine ⟨?_, List.pairwise_cons.2 h⟩
        intro e he
        rcases List.mem_cons.1 he with he | he
        · subst he; exact hk
        · exact hk.trans (h.1 e he)
      · rw [List.pairwise_cons]
        refine ⟨?_, tabSet_rising k v t h.2⟩
        intro e he
        rcases mem_tabSet k v t e he with he | he
        · subst he; simp only; omega
        · exact h.1 e he

theorem regs_set {t : Tab Nat} (h : RegsSound t) {k v : Nat} (hv : v < 2 ^ 32) (hr : v ≠ regReset k) : RegsSound (tabSet t k v) :=
  ⟨tabSet_rising k v t h.1, fun e he => by
    rcases mem_tabSet k v t e he with he | he
    · subst he; exact ⟨hv, hr⟩
    · exact h.2 e he⟩
theorem regs_erase {t : Tab Nat} {k : Nat} (h : RegsSound t) : RegsSound (tabErase t k) :=
  ⟨h.1.sublist (tabErase_sub k t), fun e he => h.2 e ((tabErase_sub k t).subset he)⟩
theorem objs_set {t : Tab Nat} (h : ObjsSound t) {i s v : Nat} (hv : v ≠ objDefault i s) : ObjsSound (tabSet t (objKey i s) v) :=
  ⟨tabSet_rising _ v t h.1, fun e he => by
    rcases mem_tabSet _ v t e he with he | he
    · subst he; exact ⟨i, s, rfl, hv⟩
    · exact h.2 e he⟩
theorem objs_erase {t : Tab Nat} {k : Nat} (h : ObjsSound t) : ObjsSound (tabErase t k) :=
  ⟨h.1.sublist (tabErase_sub k t), fun e he => h.2 e ((tabErase_sub k t).subset he)⟩
theorem objs_filter {t : Tab Nat} {p : Nat × Nat → Bool} (h : ObjsSound t) : ObjsSound (t.filter p) :=
  ⟨h.1.sublist List.filter_sublist, fun e he => h.2 e (List.filter_sublist.subset he)⟩
theorem mem_set {t : Tab Nat} (h : MemSound t) {k v : Nat} (hv : v < 256) : MemSound (tabSet t k v) :=
  ⟨tabSet_rising k v t h.1, fun e he => by
    rcases mem_tabSet k v t e he with he | he
    · subst he; exact hv
    · exact h.2 e he⟩
theorem mem_filter {t : Tab Nat} {p : Nat → Bool} (h : MemSound t) : MemSound (tabFilter p t) :=
  ⟨h.1.sublist List.filter_sublist, fun e he => h.2 e (List.filter_sublist.subset he)⟩
theorem regs_nil : RegsSound [] := ⟨.nil, by simp⟩
theorem objs_nil : ObjsSound [] := ⟨.nil, by simp⟩
theorem mem_nil : MemSound [] := ⟨.nil, by simp⟩
theorem rising_nil {α : Type} : Rising ([] : Tab α) := .nil
theorem rising_to_nil {α : Type} {t : Tab α} : Rising t → Rising ([] : Tab α) := fun _ => .nil
theorem rising_set {α : Type} {t : Tab α} {k : Nat} {v : α} (h : Rising t) : Rising (tabSet t k v) := tabSet_rising k v t h
theorem rising_erase {α : Type} {t : Tab α} {k : Nat} (h : Rising t) : Rising (tabErase t k) := h.sublist (tabErase_sub k t)
theorem rising_erase_two {α : Type} {t : Tab α} {j k : Nat} (h : Rising t) : Rising (tabErase (tabErase t j) k) :=
  rising_erase (rising_erase h)
theorem rising_put {α : Type} [DecidableEq α] {x : α} {t : Tab α} {k : Nat} {v : α} (h : Rising t) : Rising (tabPut x t k v) := by
  unfold tabPut
  split
  exacts [rising_erase h, rising_set h]
theorem rising_upd {α : Type} [DecidableEq α] {x : α} {t : Tab α} {k : Nat} {f : α → α} (h : Rising t) : Rising (tabUpd x t k f) :=
  rising_put h
theorem rising_filter {α : Type} {t : Tab α} {p : Nat × α → Bool} (h : Rising t) : Rising (t.filter p) := h.sublist List.filter_sublist
theorem rising_tabFilter {α : Type} {t : Tab α} {p : Nat → Bool} (h : Rising t) : Rising (tabFilter p t) := rising_filter h
theorem rising_map {α β : Type} {t : Tab α} {f : Nat × α → β} (h : Rising t) : Rising (t.map fun e => (e.1, f e)) :=
  List.pairwise_map.2 (h.imp fun h => h)
theorem rising_putAll {α β : Type} [DecidableEq α] {x : α} {l : List β} {k : β → Nat} {f : β → α} {t : Tab α} (h : Rising t) :
    Rising (l.foldl (fun a t => tabPut x a (k t) (f t)) t) := by
  induction l generalizing t with
  | nil => exact h
  | cons a l ih => exact ih (rising_put h)

theorem tabAbove_iff {α : Type} (k : Nat) (t : Tab α) : tabAbove k t = true ↔ ∀ e ∈ t, k < e.1 := by
  induction t with
  | nil => simp [tabAbove]
  | cons x t ih => simp [tabAbove, ih]

theorem memory_wf_iff (t : Tab Nat) : Memory.wf t = true ↔ MemSound t := by
  induction t with
  | nil => simp [Memory.wf, tabWf, MemSound]
  | cons x t ih =>
    simp only [Memory.wf, tabWf, MemSound, Bool.and_eq_true, List.all_cons, decide_eq_true_eq, tabAbove_iff,
      List.pairwise_cons, List.forall_mem_cons] at *
    constructor
    · rintro ⟨⟨⟨h1, -⟩, h3⟩, h4, h5⟩
      have := ih.1 ⟨h3, h5⟩
      exact ⟨⟨h1, this.1⟩, h4, this.2⟩
    · rintro ⟨⟨h1, h2⟩, h3, h4⟩
      have := ih.2 ⟨h2, h4⟩
      exact ⟨⟨⟨h1, by omega⟩, this.1⟩, h3, this.2⟩

end Sys2Proof.Machine
end

