-- ==== Sys2Proof/Laws/Keeps.lean ====
section
/-! SUPPORT. What every function of the block keeps, said once: the well-kept form, the safe state, and every piece outside a
mask. KeepsShared, KeepsUnits, KeepsRows and KeepsDevice have one lemma for each function. -/
set_option Elab.async false
set_option autoImplicit false
namespace Sys2Proof.Machine

/-- The number of a piece, its bit in a mask. -/
def Piece.num (p : Piece) : Nat := p.ctorIdx

/-- The mask `m` has every bit of `f`. -/
def covers (f m : Nat) : Prop := f &&& m = f
theorem covers_tr {f g m : Nat} (h : covers f m) (hg : g &&& f = g) : covers g m := by
  unfold covers at *; rw [← hg, Nat.land_assoc, h]
theorem covers_bit {f m i : Nat} (h : covers f m) (hf : f.testBit i = true) : ¬ m.testBit i = false := by
  intro hn
  have := congrArg (fun x => x.testBit i) h
  simp [hn, hf] at this

/-- What a function of the block keeps: a well-kept block stays so, firmware running in the safe state stays there, and only the
pieces of the mask `m` differ from those of `d0`. -/
structure Keeps (m : Nat) (d0 d : Dev) : Prop where
  sound : Sound d0 → Sound d
  safe : d0.flt.safe = true ∧ d0.pwr.booted = true → d.flt.safe = true ∨ d.pwr.booted = false
  only : ∀ p : Piece, m.testBit p.num = false → p.same d0 d

/-- The same, of a block written out as a record. -/
structure KeepsMk (m : Nat) (d0 d : Dev) : Prop where
  keeps : Keeps m d0 d

theorem Keeps.refl {m : Nat} (d : Dev) : Keeps m d d := ⟨id, fun h => .inl h.1, fun p _ => by cases p <;> rfl⟩

variable {m : Nat} {d0 : Dev}

theorem Keeps.set_regs {v_regs : Tab Nat} {d : Dev} (hm : covers 1 m) (h_regs : RegsSound d.regs → RegsSound v_regs)
    (h : Keeps m d0 d) : KeepsMk m d0 { d with regs := v_regs } :=
  KeepsMk.mk ⟨fun q0 => let q := h.sound q0; ⟨h_regs q.regs, q.objs, q.mem, q.pair, q.ring, ⟨q.tabs.stage, q.tabs.heldStitch, q.tabs.irq, q.tabs.msix, q.tabs.fnMask, q.tabs.rings, q.tabs.fnq, q.tabs.dmaCh, q.tabs.links, q.tabs.mbox, q.tabs.snaps, q.tabs.lastCtr, q.tabs.authSeen, q.tabs.tenants, q.tabs.rrLast, q.tabs.sess, q.tabs.chans, q.tabs.streams, q.tabs.tiles, q.tabs.linPrm, q.tabs.ladder, q.tabs.lib, q.tabs.linings, q.tabs.srcs, q.tabs.log⟩⟩, h.safe,
    fun p hp => by cases p <;> first | exact h.only _ hp | exact absurd hp (covers_bit hm rfl)⟩
theorem Keeps.set_stage {v_stage : Tab Nat} {d : Dev} (hm : covers 2 m) (h_stage : Rising d.stage → Rising v_stage)
    (h : Keeps m d0 d) : KeepsMk m d0 { d with stage := v_stage } :=
  KeepsMk.mk ⟨fun q0 => let q := h.sound q0; ⟨q.regs, q.objs, q.mem, q.pair, q.ring, ⟨h_stage q.tabs.stage, q.tabs.heldStitch, q.tabs.irq, q.tabs.msix, q.tabs.fnMask, q.tabs.rings, q.tabs.fnq, q.tabs.dmaCh, q.tabs.links, q.tabs.mbox, q.tabs.snaps, q.tabs.lastCtr, q.tabs.authSeen, q.tabs.tenants, q.tabs.rrLast, q.tabs.sess, q.tabs.chans, q.tabs.streams, q.tabs.tiles, q.tabs.linPrm, q.tabs.ladder, q.tabs.lib, q.tabs.linings, q.tabs.srcs, q.tabs.log⟩⟩, h.safe,
    fun p hp => by cases p <;> first | exact h.only _ hp | exact absurd hp (covers_bit hm rfl)⟩
theorem Keeps.set_objs {v_objs : Tab Nat} {d : Dev} (hm : covers 4 m) (h_objs : ObjsSound d.objs → ObjsSound v_objs)
    (h : Keeps m d0 d) : KeepsMk m d0 { d with objs := v_objs } :=
  KeepsMk.mk ⟨fun q0 => let q := h.sound q0; ⟨q.regs, h_objs q.objs, q.mem, q.pair, q.ring, ⟨q.tabs.stage, q.tabs.heldStitch, q.tabs.irq, q.tabs.msix, q.tabs.fnMask, q.tabs.rings, q.tabs.fnq, q.tabs.dmaCh, q.tabs.links, q.tabs.mbox, q.tabs.snaps, q.tabs.lastCtr, q.tabs.authSeen, q.tabs.tenants, q.tabs.rrLast, q.tabs.sess, q.tabs.chans, q.tabs.streams, q.tabs.tiles, q.tabs.linPrm, q.tabs.ladder, q.tabs.lib, q.tabs.linings, q.tabs.srcs, q.tabs.log⟩⟩, h.safe,
    fun p hp => by cases p <;> first | exact h.only _ hp | exact absurd hp (covers_bit hm rfl)⟩
theorem Keeps.set_heldStitch {v_heldStitch : Tab Nat} {d : Dev} (hm : covers 8 m) (h_heldStitch : Rising d.heldStitch → Rising v_heldStitch)
    (h : Keeps m d0 d) : KeepsMk m d0 { d with heldStitch := v_heldStitch } :=
  KeepsMk.mk ⟨fun q0 => let q := h.sound q0; ⟨q.regs, q.objs, q.mem, q.pair, q.ring, ⟨q.tabs.stage, h_heldStitch q.tabs.heldStitch, q.tabs.irq, q.tabs.msix, q.tabs.fnMask, q.tabs.rings, q.tabs.fnq, q.tabs.dmaCh, q.tabs.links, q.tabs.mbox, q.tabs.snaps, q.tabs.lastCtr, q.tabs.authSeen, q.tabs.tenants, q.tabs.rrLast, q.tabs.sess, q.tabs.chans, q.tabs.streams, q.tabs.tiles, q.tabs.linPrm, q.tabs.ladder, q.tabs.lib, q.tabs.linings, q.tabs.srcs, q.tabs.log⟩⟩, h.safe,
    fun p hp => by cases p <;> first | exact h.only _ hp | exact absurd hp (covers_bit hm rfl)⟩
theorem Keeps.set_emitted {v_emitted : List Output} {d : Dev} (hm : covers 16 m)
    (h : Keeps m d0 d) : KeepsMk m d0 { d with emitted := v_emitted } :=
  KeepsMk.mk ⟨fun q0 => let q := h.sound q0; ⟨q.regs, q.objs, q.mem, q.pair, q.ring, ⟨q.tabs.stage, q.tabs.heldStitch, q.tabs.irq, q.tabs.msix, q.tabs.fnMask, q.tabs.rings, q.tabs.fnq, q.tabs.dmaCh, q.tabs.links, q.tabs.mbox, q.tabs.snaps, q.tabs.lastCtr, q.tabs.authSeen, q.tabs.tenants, q.tabs.rrLast, q.tabs.sess, q.tabs.chans, q.tabs.streams, q.tabs.tiles, q.tabs.linPrm, q.tabs.ladder, q.tabs.lib, q.tabs.linings, q.tabs.srcs, q.tabs.log⟩⟩, h.safe,
    fun p hp => by cases p <;> first | exact h.only _ hp | exact absurd hp (covers_bit hm rfl)⟩
theorem Keeps.set_freeCtr {v_freeCtr : Nat} {d : Dev} (hm : covers 32 m)
    (h : Keeps m d0 d) : KeepsMk m d0 { d with freeCtr := v_freeCtr } :=
  KeepsMk.mk ⟨fun q0 => let q := h.sound q0; ⟨q.regs, q.objs, q.mem, q.pair, q.ring, ⟨q.tabs.stage, q.tabs.heldStitch, q.tabs.irq, q.tabs.msix, q.tabs.fnMask, q.tabs.rings, q.tabs.fnq, q.tabs.dmaCh, q.tabs.links, q.tabs.mbox, q.tabs.snaps, q.tabs.lastCtr, q.tabs.authSeen, q.tabs.tenants, q.tabs.rrLast, q.tabs.sess, q.tabs.chans, q.tabs.streams, q.tabs.tiles, q.tabs.linPrm, q.tabs.ladder, q.tabs.lib, q.tabs.linings, q.tabs.srcs, q.tabs.log⟩⟩, h.safe,
    fun p hp => by cases p <;> first | exact h.only _ hp | exact absurd hp (covers_bit hm rfl)⟩
theorem Keeps.set_rngCtr {v_rngCtr : Nat} {d : Dev} (hm : covers 64 m)
    (h : Keeps m d0 d) : KeepsMk m d0 { d with rngCtr := v_rngCtr } :=
  KeepsMk.mk ⟨fun q0 => let q := h.sound q0; ⟨q.regs, q.objs, q.mem, q.pair, q.ring, ⟨q.tabs.stage, q.tabs.heldStitch, q.tabs.irq, q.tabs.msix, q.tabs.fnMask, q.tabs.rings, q.tabs.fnq, q.tabs.dmaCh, q.tabs.links, q.tabs.mbox, q.tabs.snaps, q.tabs.lastCtr, q.tabs.authSeen, q.tabs.tenants, q.tabs.rrLast, q.tabs.sess, q.tabs.chans, q.tabs.streams, q.tabs.tiles, q.tabs.linPrm, q.tabs.ladder, q.tabs.lib, q.tabs.linings, q.tabs.srcs, q.tabs.log⟩⟩, h.safe,
    fun p hp => by cases p <;> first | exact h.only _ hp | exact absurd hp (covers_bit hm rfl)⟩
theorem Keeps.set_flt {v_flt : Flt} {d : Dev} (hm : covers 128 m) (h_flt : v_flt.safe = true ∨ v_flt.safe = d.flt.safe) (h_srcs : Rising d.flt.srcs → Rising v_flt.srcs)
    (h_log : Rising d.flt.log → Rising v_flt.log)
    (h : Keeps m d0 d) : KeepsMk m d0 { d with flt := v_flt } :=
  KeepsMk.mk ⟨fun q0 => let q := h.sound q0; ⟨q.regs, q.objs, q.mem, q.pair, q.ring, ⟨q.tabs.stage, q.tabs.heldStitch, q.tabs.irq, q.tabs.msix, q.tabs.fnMask, q.tabs.rings, q.tabs.fnq, q.tabs.dmaCh, q.tabs.links, q.tabs.mbox, q.tabs.snaps, q.tabs.lastCtr, q.tabs.authSeen, q.tabs.tenants, q.tabs.rrLast, q.tabs.sess, q.tabs.chans, q.tabs.streams, q.tabs.tiles, q.tabs.linPrm, q.tabs.ladder, q.tabs.lib, q.tabs.linings, h_srcs q.tabs.srcs, h_log q.tabs.log⟩⟩, fun e => (h.safe e).elim (fun s => .inl (h_flt.elim id fun q => q.trans s)) .inr,
    fun p hp => by cases p <;> first | exact h.only _ hp | exact absurd hp (covers_bit hm rfl)⟩
theorem Keeps.set_irq {v_irq : Tab IrqEv} {d : Dev} (hm : covers 256 m) (h_irq : Rising d.irq → Rising v_irq)
    (h : Keeps m d0 d) : KeepsMk m d0 { d with irq := v_irq } :=
  KeepsMk.mk ⟨fun q0 => let q := h.sound q0; ⟨q.regs, q.objs, q.mem, q.pair, q.ring, ⟨q.tabs.stage, q.tabs.heldStitch, h_irq q.tabs.irq, q.tabs.msix, q.tabs.fnMask, q.tabs.rings, q.tabs.fnq, q.tabs.dmaCh, q.tabs.links, q.tabs.mbox, q.tabs.snaps, q.tabs.lastCtr, q.tabs.authSeen, q.tabs.tenants, q.tabs.rrLast, q.tabs.sess, q.tabs.chans, q.tabs.streams, q.tabs.tiles, q.tabs.linPrm, q.tabs.ladder, q.tabs.lib, q.tabs.linings, q.tabs.srcs, q.tabs.log⟩⟩, h.safe,
    fun p hp => by cases p <;> first | exact h.only _ hp | exact absurd hp (covers_bit hm rfl)⟩
theorem Keeps.set_msix {v_msix : Tab Msix} {d : Dev} (hm : covers 512 m) (h_msix : Rising d.msix → Rising v_msix)
    (h : Keeps m d0 d) : KeepsMk m d0 { d with msix := v_msix } :=
  KeepsMk.mk ⟨fun q0 => let q := h.sound q0; ⟨q.regs, q.objs, q.mem, q.pair, q.ring, ⟨q.tabs.stage, q.tabs.heldStitch, q.tabs.irq, h_msix q.tabs.msix, q.tabs.fnMask, q.tabs.rings, q.tabs.fnq, q.tabs.dmaCh, q.tabs.links, q.tabs.mbox, q.tabs.snaps, q.tabs.lastCtr, q.tabs.authSeen, q.tabs.tenants, q.tabs.rrLast, q.tabs.sess, q.tabs.chans, q.tabs.streams, q.tabs.tiles, q.tabs.linPrm, q.tabs.ladder, q.tabs.lib, q.tabs.linings, q.tabs.srcs, q.tabs.log⟩⟩, h.safe,
    fun p hp => by cases p <;> first | exact h.only _ hp | exact absurd hp (covers_bit hm rfl)⟩
theorem Keeps.set_fnMask {v_fnMask : Tab Bool} {d : Dev} (hm : covers 1024 m) (h_fnMask : Rising d.fnMask → Rising v_fnMask)
    (h : Keeps m d0 d) : KeepsMk m d0 { d with fnMask := v_fnMask } :=
  KeepsMk.mk ⟨fun q0 => let q := h.sound q0; ⟨q.regs, q.objs, q.mem, q.pair, q.ring, ⟨q.tabs.stage, q.tabs.heldStitch, q.tabs.irq, q.tabs.msix, h_fnMask q.tabs.fnMask, q.tabs.rings, q.tabs.fnq, q.tabs.dmaCh, q.tabs.links, q.tabs.mbox, q.tabs.snaps, q.tabs.lastCtr, q.tabs.authSeen, q.tabs.tenants, q.tabs.rrLast, q.tabs.sess, q.tabs.chans, q.tabs.streams, q.tabs.tiles, q.tabs.linPrm, q.tabs.ladder, q.tabs.lib, q.tabs.linings, q.tabs.srcs, q.tabs.log⟩⟩, h.safe,
    fun p hp => by cases p <;> first | exact h.only _ hp | exact absurd hp (covers_bit hm rfl)⟩
theorem Keeps.set_rings {v_rings : Tab Ring} {d : Dev} (hm : covers 2048 m) (h_rings : Rising d.rings → Rising v_rings)
    (h : Keeps m d0 d) : KeepsMk m d0 { d with rings := v_rings } :=
  KeepsMk.mk ⟨fun q0 => let q := h.sound q0; ⟨q.regs, q.objs, q.mem, q.pair, q.ring, ⟨q.tabs.stage, q.tabs.heldStitch, q.tabs.irq, q.tabs.msix, q.tabs.fnMask, h_rings q.tabs.rings, q.tabs.fnq, q.tabs.dmaCh, q.tabs.links, q.tabs.mbox, q.tabs.snaps, q.tabs.lastCtr, q.tabs.authSeen, q.tabs.tenants, q.tabs.rrLast, q.tabs.sess, q.tabs.chans, q.tabs.streams, q.tabs.tiles, q.tabs.linPrm, q.tabs.ladder, q.tabs.lib, q.tabs.linings, q.tabs.srcs, q.tabs.log⟩⟩, h.safe,
    fun p hp => by cases p <;> first | exact h.only _ hp | exact absurd hp (covers_bit hm rfl)⟩
theorem Keeps.set_fnq {v_fnq : Tab FnQ} {d : Dev} (hm : covers 4096 m) (h_fnq : Rising d.fnq → Rising v_fnq)
    (h : Keeps m d0 d) : KeepsMk m d0 { d with fnq := v_fnq } :=
  KeepsMk.mk ⟨fun q0 => let q := h.sound q0; ⟨q.regs, q.objs, q.mem, q.pair, q.ring, ⟨q.tabs.stage, q.tabs.heldStitch, q.tabs.irq, q.tabs.msix, q.tabs.fnMask, q.tabs.rings, h_fnq q.tabs.fnq, q.tabs.dmaCh, q.tabs.links, q.tabs.mbox, q.tabs.snaps, q.tabs.lastCtr, q.tabs.authSeen, q.tabs.tenants, q.tabs.rrLast, q.tabs.sess, q.tabs.chans, q.tabs.streams, q.tabs.tiles, q.tabs.linPrm, q.tabs.ladder, q.tabs.lib, q.tabs.linings, q.tabs.srcs, q.tabs.log⟩⟩, h.safe,
    fun p hp => by cases p <;> first | exact h.only _ hp | exact absurd hp (covers_bit hm rfl)⟩
theorem Keeps.set_dmaCh {v_dmaCh : Tab DmaCh} {d : Dev} (hm : covers 8192 m) (h_dmaCh : Rising d.dmaCh → Rising v_dmaCh)
    (h : Keeps m d0 d) : KeepsMk m d0 { d with dmaCh := v_dmaCh } :=
  KeepsMk.mk ⟨fun q0 => let q := h.sound q0; ⟨q.regs, q.objs, q.mem, q.pair, q.ring, ⟨q.tabs.stage, q.tabs.heldStitch, q.tabs.irq, q.tabs.msix, q.tabs.fnMask, q.tabs.rings, q.tabs.fnq, h_dmaCh q.tabs.dmaCh, q.tabs.links, q.tabs.mbox, q.tabs.snaps, q.tabs.lastCtr, q.tabs.authSeen, q.tabs.tenants, q.tabs.rrLast, q.tabs.sess, q.tabs.chans, q.tabs.streams, q.tabs.tiles, q.tabs.linPrm, q.tabs.ladder, q.tabs.lib, q.tabs.linings, q.tabs.srcs, q.tabs.log⟩⟩, h.safe,
    fun p hp => by cases p <;> first | exact h.only _ hp | exact absurd hp (covers_bit hm rfl)⟩
theorem Keeps.set_recvBufs {v_recvBufs : List Running} {d : Dev} (hm : covers 16384 m)
    (h : Keeps m d0 d) : KeepsMk m d0 { d with recvBufs := v_recvBufs } :=
  KeepsMk.mk ⟨fun q0 => let q := h.sound q0; ⟨q.regs, q.objs, q.mem, q.pair, q.ring, ⟨q.tabs.stage, q.tabs.heldStitch, q.tabs.irq, q.tabs.msix, q.tabs.fnMask, q.tabs.rings, q.tabs.fnq, q.tabs.dmaCh, q.tabs.links, q.tabs.mbox, q.tabs.snaps, q.tabs.lastCtr, q.tabs.authSeen, q.tabs.tenants, q.tabs.rrLast, q.tabs.sess, q.tabs.chans, q.tabs.streams, q.tabs.tiles, q.tabs.linPrm, q.tabs.ladder, q.tabs.lib, q.tabs.linings, q.tabs.srcs, q.tabs.log⟩⟩, h.safe,
    fun p hp => by cases p <;> first | exact h.only _ hp | exact absurd hp (covers_bit hm rfl)⟩
theorem Keeps.set_links {v_links : Tab Link} {d : Dev} (hm : covers 32768 m) (h_links : Rising d.links → Rising v_links)
    (h : Keeps m d0 d) : KeepsMk m d0 { d with links := v_links } :=
  KeepsMk.mk ⟨fun q0 => let q := h.sound q0; ⟨q.regs, q.objs, q.mem, q.pair, q.ring, ⟨q.tabs.stage, q.tabs.heldStitch, q.tabs.irq, q.tabs.msix, q.tabs.fnMask, q.tabs.rings, q.tabs.fnq, q.tabs.dmaCh, h_links q.tabs.links, q.tabs.mbox, q.tabs.snaps, q.tabs.lastCtr, q.tabs.authSeen, q.tabs.tenants, q.tabs.rrLast, q.tabs.sess, q.tabs.chans, q.tabs.streams, q.tabs.tiles, q.tabs.linPrm, q.tabs.ladder, q.tabs.lib, q.tabs.linings, q.tabs.srcs, q.tabs.log⟩⟩, h.safe,
    fun p hp => by cases p <;> first | exact h.only _ hp | exact absurd hp (covers_bit hm rfl)⟩
theorem Keeps.set_parityBad {v_parityBad : List Nat} {d : Dev} (hm : covers 65536 m)
    (h : Keeps m d0 d) : KeepsMk m d0 { d with parityBad := v_parityBad } :=
  KeepsMk.mk ⟨fun q0 => let q := h.sound q0; ⟨q.regs, q.objs, q.mem, q.pair, q.ring, ⟨q.tabs.stage, q.tabs.heldStitch, q.tabs.irq, q.tabs.msix, q.tabs.fnMask, q.tabs.rings, q.tabs.fnq, q.tabs.dmaCh, q.tabs.links, q.tabs.mbox, q.tabs.snaps, q.tabs.lastCtr, q.tabs.authSeen, q.tabs.tenants, q.tabs.rrLast, q.tabs.sess, q.tabs.chans, q.tabs.streams, q.tabs.tiles, q.tabs.linPrm, q.tabs.ladder, q.tabs.lib, q.tabs.linings, q.tabs.srcs, q.tabs.log⟩⟩, h.safe,
    fun p hp => by cases p <;> first | exact h.only _ hp | exact absurd hp (covers_bit hm rfl)⟩
theorem Keeps.set_mbox {v_mbox : Tab Mbox} {d : Dev} (hm : covers 131072 m) (h_mbox : Rising d.mbox → Rising v_mbox)
    (h : Keeps m d0 d) : KeepsMk m d0 { d with mbox := v_mbox } :=
  KeepsMk.mk ⟨fun q0 => let q := h.sound q0; ⟨q.regs, q.objs, q.mem, q.pair, q.ring, ⟨q.tabs.stage, q.tabs.heldStitch, q.tabs.irq, q.tabs.msix, q.tabs.fnMask, q.tabs.rings, q.tabs.fnq, q.tabs.dmaCh, q.tabs.links, h_mbox q.tabs.mbox, q.tabs.snaps, q.tabs.lastCtr, q.tabs.authSeen, q.tabs.tenants, q.tabs.rrLast, q.tabs.sess, q.tabs.chans, q.tabs.streams, q.tabs.tiles, q.tabs.linPrm, q.tabs.ladder, q.tabs.lib, q.tabs.linings, q.tabs.srcs, q.tabs.log⟩⟩, h.safe,
    fun p hp => by cases p <;> first | exact h.only _ hp | exact absurd hp (covers_bit hm rfl)⟩
theorem Keeps.set_waiting {v_waiting : List Waiting} {d : Dev} (hm : covers 262144 m)
    (h : Keeps m d0 d) : KeepsMk m d0 { d with waiting := v_waiting } :=
  KeepsMk.mk ⟨fun q0 => let q := h.sound q0; ⟨q.regs, q.objs, q.mem, q.pair, q.ring, ⟨q.tabs.stage, q.tabs.heldStitch, q.tabs.irq, q.tabs.msix, q.tabs.fnMask, q.tabs.rings, q.tabs.fnq, q.tabs.dmaCh, q.tabs.links, q.tabs.mbox, q.tabs.snaps, q.tabs.lastCtr, q.tabs.authSeen, q.tabs.tenants, q.tabs.rrLast, q.tabs.sess, q.tabs.chans, q.tabs.streams, q.tabs.tiles, q.tabs.linPrm, q.tabs.ladder, q.tabs.lib, q.tabs.linings, q.tabs.srcs, q.tabs.log⟩⟩, h.safe,
    fun p hp => by cases p <;> first | exact h.only _ hp | exact absurd hp (covers_bit hm rfl)⟩
theorem Keeps.set_snaps {v_snaps : Tab Snap} {d : Dev} (hm : covers 524288 m) (h_snaps : Rising d.snaps → Rising v_snaps)
    (h : Keeps m d0 d) : KeepsMk m d0 { d with snaps := v_snaps } :=
  KeepsMk.mk ⟨fun q0 => let q := h.sound q0; ⟨q.regs, q.objs, q.mem, q.pair, q.ring, ⟨q.tabs.stage, q.tabs.heldStitch, q.tabs.irq, q.tabs.msix, q.tabs.fnMask, q.tabs.rings, q.tabs.fnq, q.tabs.dmaCh, q.tabs.links, q.tabs.mbox, h_snaps q.tabs.snaps, q.tabs.lastCtr, q.tabs.authSeen, q.tabs.tenants, q.tabs.rrLast, q.tabs.sess, q.tabs.chans, q.tabs.streams, q.tabs.tiles, q.tabs.linPrm, q.tabs.ladder, q.tabs.lib, q.tabs.linings, q.tabs.srcs, q.tabs.log⟩⟩, h.safe,
    fun p hp => by cases p <;> first | exact h.only _ hp | exact absurd hp (covers_bit hm rfl)⟩
theorem Keeps.set_lastCtr {v_lastCtr : Tab Nat} {d : Dev} (hm : covers 1048576 m) (h_lastCtr : Rising d.lastCtr → Rising v_lastCtr)
    (h : Keeps m d0 d) : KeepsMk m d0 { d with lastCtr := v_lastCtr } :=
  KeepsMk.mk ⟨fun q0 => let q := h.sound q0; ⟨q.regs, q.objs, q.mem, q.pair, q.ring, ⟨q.tabs.stage, q.tabs.heldStitch, q.tabs.irq, q.tabs.msix, q.tabs.fnMask, q.tabs.rings, q.tabs.fnq, q.tabs.dmaCh, q.tabs.links, q.tabs.mbox, q.tabs.snaps, h_lastCtr q.tabs.lastCtr, q.tabs.authSeen, q.tabs.tenants, q.tabs.rrLast, q.tabs.sess, q.tabs.chans, q.tabs.streams, q.tabs.tiles, q.tabs.linPrm, q.tabs.ladder, q.tabs.lib, q.tabs.linings, q.tabs.srcs, q.tabs.log⟩⟩, h.safe,
    fun p hp => by cases p <;> first | exact h.only _ hp | exact absurd hp (covers_bit hm rfl)⟩
theorem Keeps.set_authSeen {v_authSeen : Tab Bool} {d : Dev} (hm : covers 2097152 m) (h_authSeen : Rising d.authSeen → Rising v_authSeen)
    (h : Keeps m d0 d) : KeepsMk m d0 { d with authSeen := v_authSeen } :=
  KeepsMk.mk ⟨fun q0 => let q := h.sound q0; ⟨q.regs, q.objs, q.mem, q.pair, q.ring, ⟨q.tabs.stage, q.tabs.heldStitch, q.tabs.irq, q.tabs.msix, q.tabs.fnMask, q.tabs.rings, q.tabs.fnq, q.tabs.dmaCh, q.tabs.links, q.tabs.mbox, q.tabs.snaps, q.tabs.lastCtr, h_authSeen q.tabs.authSeen, q.tabs.tenants, q.tabs.rrLast, q.tabs.sess, q.tabs.chans, q.tabs.streams, q.tabs.tiles, q.tabs.linPrm, q.tabs.ladder, q.tabs.lib, q.tabs.linings, q.tabs.srcs, q.tabs.log⟩⟩, h.safe,
    fun p hp => by cases p <;> first | exact h.only _ hp | exact absurd hp (covers_bit hm rfl)⟩
theorem Keeps.set_tbs {v_tbs : Tbs} {d : Dev} (hm : covers 4194304 m)
    (h : Keeps m d0 d) : KeepsMk m d0 { d with tbs := v_tbs } :=
  KeepsMk.mk ⟨fun q0 => let q := h.sound q0; ⟨q.regs, q.objs, q.mem, q.pair, q.ring, ⟨q.tabs.stage, q.tabs.heldStitch, q.tabs.irq, q.tabs.msix, q.tabs.fnMask, q.tabs.rings, q.tabs.fnq, q.tabs.dmaCh, q.tabs.links, q.tabs.mbox, q.tabs.snaps, q.tabs.lastCtr, q.tabs.authSeen, q.tabs.tenants, q.tabs.rrLast, q.tabs.sess, q.tabs.chans, q.tabs.streams, q.tabs.tiles, q.tabs.linPrm, q.tabs.ladder, q.tabs.lib, q.tabs.linings, q.tabs.srcs, q.tabs.log⟩⟩, h.safe,
    fun p hp => by cases p <;> first | exact h.only _ hp | exact absurd hp (covers_bit hm rfl)⟩
theorem Keeps.set_tenants {v_tenants : Tab Tenant} {d : Dev} (hm : covers 8388608 m) (h_tenants : Rising d.tenants → Rising v_tenants)
    (h : Keeps m d0 d) : KeepsMk m d0 { d with tenants := v_tenants } :=
  KeepsMk.mk ⟨fun q0 => let q := h.sound q0; ⟨q.regs, q.objs, q.mem, q.pair, q.ring, ⟨q.tabs.stage, q.tabs.heldStitch, q.tabs.irq, q.tabs.msix, q.tabs.fnMask, q.tabs.rings, q.tabs.fnq, q.tabs.dmaCh, q.tabs.links, q.tabs.mbox, q.tabs.snaps, q.tabs.lastCtr, q.tabs.authSeen, h_tenants q.tabs.tenants, q.tabs.rrLast, q.tabs.sess, q.tabs.chans, q.tabs.streams, q.tabs.tiles, q.tabs.linPrm, q.tabs.ladder, q.tabs.lib, q.tabs.linings, q.tabs.srcs, q.tabs.log⟩⟩, h.safe,
    fun p hp => by cases p <;> first | exact h.only _ hp | exact absurd hp (covers_bit hm rfl)⟩
theorem Keeps.set_rrLast {v_rrLast : Tab Nat} {d : Dev} (hm : covers 16777216 m) (h_rrLast : Rising d.rrLast → Rising v_rrLast)
    (h : Keeps m d0 d) : KeepsMk m d0 { d with rrLast := v_rrLast } :=
  KeepsMk.mk ⟨fun q0 => let q := h.sound q0; ⟨q.regs, q.objs, q.mem, q.pair, q.ring, ⟨q.tabs.stage, q.tabs.heldStitch, q.tabs.irq, q.tabs.msix, q.tabs.fnMask, q.tabs.rings, q.tabs.fnq, q.tabs.dmaCh, q.tabs.links, q.tabs.mbox, q.tabs.snaps, q.tabs.lastCtr, q.tabs.authSeen, q.tabs.tenants, h_rrLast q.tabs.rrLast, q.tabs.sess, q.tabs.chans, q.tabs.streams, q.tabs.tiles, q.tabs.linPrm, q.tabs.ladder, q.tabs.lib, q.tabs.linings, q.tabs.srcs, q.tabs.log⟩⟩, h.safe,
    fun p hp => by cases p <;> first | exact h.only _ hp | exact absurd hp (covers_bit hm rfl)⟩
theorem Keeps.set_sec {v_sec : Sec} {d : Dev} (hm : covers 33554432 m)
    (h : Keeps m d0 d) : KeepsMk m d0 { d with sec := v_sec } :=
  KeepsMk.mk ⟨fun q0 => let q := h.sound q0; ⟨q.regs, q.objs, q.mem, q.pair, q.ring, ⟨q.tabs.stage, q.tabs.heldStitch, q.tabs.irq, q.tabs.msix, q.tabs.fnMask, q.tabs.rings, q.tabs.fnq, q.tabs.dmaCh, q.tabs.links, q.tabs.mbox, q.tabs.snaps, q.tabs.lastCtr, q.tabs.authSeen, q.tabs.tenants, q.tabs.rrLast, q.tabs.sess, q.tabs.chans, q.tabs.streams, q.tabs.tiles, q.tabs.linPrm, q.tabs.ladder, q.tabs.lib, q.tabs.linings, q.tabs.srcs, q.tabs.log⟩⟩, h.safe,
    fun p hp => by cases p <;> first | exact h.only _ hp | exact absurd hp (covers_bit hm rfl)⟩
theorem Keeps.set_pair {v_pair : Pair} {d : Dev} (hm : covers 67108864 m) (h_pair : v_pair.st ≤ 5 ∨ v_pair.st = d.pair.st)
    (h : Keeps m d0 d) : KeepsMk m d0 { d with pair := v_pair } :=
  KeepsMk.mk ⟨fun q0 => let q := h.sound q0; ⟨q.regs, q.objs, q.mem, h_pair.elim id (fun e => e ▸ q.pair), q.ring, ⟨q.tabs.stage, q.tabs.heldStitch, q.tabs.irq, q.tabs.msix, q.tabs.fnMask, q.tabs.rings, q.tabs.fnq, q.tabs.dmaCh, q.tabs.links, q.tabs.mbox, q.tabs.snaps, q.tabs.lastCtr, q.tabs.authSeen, q.tabs.tenants, q.tabs.rrLast, q.tabs.sess, q.tabs.chans, q.tabs.streams, q.tabs.tiles, q.tabs.linPrm, q.tabs.ladder, q.tabs.lib, q.tabs.linings, q.tabs.srcs, q.tabs.log⟩⟩, h.safe,
    fun p hp => by cases p <;> first | exact h.only _ hp | exact absurd hp (covers_bit hm rfl)⟩
theorem Keeps.set_sess {v_sess : Tab Session} {d : Dev} (hm : covers 134217728 m) (h_sess : Rising d.sess → Rising v_sess)
    (h : Keeps m d0 d) : KeepsMk m d0 { d with sess := v_sess } :=
  KeepsMk.mk ⟨fun q0 => let q := h.sound q0; ⟨q.regs, q.objs, q.mem, q.pair, q.ring, ⟨q.tabs.stage, q.tabs.heldStitch, q.tabs.irq, q.tabs.msix, q.tabs.fnMask, q.tabs.rings, q.tabs.fnq, q.tabs.dmaCh, q.tabs.links, q.tabs.mbox, q.tabs.snaps, q.tabs.lastCtr, q.tabs.authSeen, q.tabs.tenants, q.tabs.rrLast, h_sess q.tabs.sess, q.tabs.chans, q.tabs.streams, q.tabs.tiles, q.tabs.linPrm, q.tabs.ladder, q.tabs.lib, q.tabs.linings, q.tabs.srcs, q.tabs.log⟩⟩, h.safe,
    fun p hp => by cases p <;> first | exact h.only _ hp | exact absurd hp (covers_bit hm rfl)⟩
theorem Keeps.set_dsr {v_dsr : Dsr} {d : Dev} (hm : covers 268435456 m) (h_dsr : v_dsr.ring ≤ 5 ∨ v_dsr.ring = d.dsr.ring)
    (h : Keeps m d0 d) : KeepsMk m d0 { d with dsr := v_dsr } :=
  KeepsMk.mk ⟨fun q0 => let q := h.sound q0; ⟨q.regs, q.objs, q.mem, q.pair, h_dsr.elim id (fun e => e ▸ q.ring), ⟨q.tabs.stage, q.tabs.heldStitch, q.tabs.irq, q.tabs.msix, q.tabs.fnMask, q.tabs.rings, q.tabs.fnq, q.tabs.dmaCh, q.tabs.links, q.tabs.mbox, q.tabs.snaps, q.tabs.lastCtr, q.tabs.authSeen, q.tabs.tenants, q.tabs.rrLast, q.tabs.sess, q.tabs.chans, q.tabs.streams, q.tabs.tiles, q.tabs.linPrm, q.tabs.ladder, q.tabs.lib, q.tabs.linings, q.tabs.srcs, q.tabs.log⟩⟩, h.safe,
    fun p hp => by cases p <;> first | exact h.only _ hp | exact absurd hp (covers_bit hm rfl)⟩
theorem Keeps.set_chans {v_chans : Tab Chan} {d : Dev} (hm : covers 536870912 m) (h_chans : Rising d.chans → Rising v_chans)
    (h : Keeps m d0 d) : KeepsMk m d0 { d with chans := v_chans } :=
  KeepsMk.mk ⟨fun q0 => let q := h.sound q0; ⟨q.regs, q.objs, q.mem, q.pair, q.ring, ⟨q.tabs.stage, q.tabs.heldStitch, q.tabs.irq, q.tabs.msix, q.tabs.fnMask, q.tabs.rings, q.tabs.fnq, q.tabs.dmaCh, q.tabs.links, q.tabs.mbox, q.tabs.snaps, q.tabs.lastCtr, q.tabs.authSeen, q.tabs.tenants, q.tabs.rrLast, q.tabs.sess, h_chans q.tabs.chans, q.tabs.streams, q.tabs.tiles, q.tabs.linPrm, q.tabs.ladder, q.tabs.lib, q.tabs.linings, q.tabs.srcs, q.tabs.log⟩⟩, h.safe,
    fun p hp => by cases p <;> first | exact h.only _ hp | exact absurd hp (covers_bit hm rfl)⟩
theorem Keeps.set_wrd {v_wrd : Wrd} {d : Dev} (hm : covers 1073741824 m)
    (h : Keeps m d0 d) : KeepsMk m d0 { d with wrd := v_wrd } :=
  KeepsMk.mk ⟨fun q0 => let q := h.sound q0; ⟨q.regs, q.objs, q.mem, q.pair, q.ring, ⟨q.tabs.stage, q.tabs.heldStitch, q.tabs.irq, q.tabs.msix, q.tabs.fnMask, q.tabs.rings, q.tabs.fnq, q.tabs.dmaCh, q.tabs.links, q.tabs.mbox, q.tabs.snaps, q.tabs.lastCtr, q.tabs.authSeen, q.tabs.tenants, q.tabs.rrLast, q.tabs.sess, q.tabs.chans, q.tabs.streams, q.tabs.tiles, q.tabs.linPrm, q.tabs.ladder, q.tabs.lib, q.tabs.linings, q.tabs.srcs, q.tabs.log⟩⟩, h.safe,
    fun p hp => by cases p <;> first | exact h.only _ hp | exact absurd hp (covers_bit hm rfl)⟩
theorem Keeps.set_mem {v_mem : Tab Nat} {d : Dev} (hm : covers 2147483648 m) (h_mem : MemSound d.mem → MemSound v_mem)
    (h : Keeps m d0 d) : KeepsMk m d0 { d with mem := v_mem } :=
  KeepsMk.mk ⟨fun q0 => let q := h.sound q0; ⟨q.regs, q.objs, h_mem q.mem, q.pair, q.ring, ⟨q.tabs.stage, q.tabs.heldStitch, q.tabs.irq, q.tabs.msix, q.tabs.fnMask, q.tabs.rings, q.tabs.fnq, q.tabs.dmaCh, q.tabs.links, q.tabs.mbox, q.tabs.snaps, q.tabs.lastCtr, q.tabs.authSeen, q.tabs.tenants, q.tabs.rrLast, q.tabs.sess, q.tabs.chans, q.tabs.streams, q.tabs.tiles, q.tabs.linPrm, q.tabs.ladder, q.tabs.lib, q.tabs.linings, q.tabs.srcs, q.tabs.log⟩⟩, h.safe,
    fun p hp => by cases p <;> first | exact h.only _ hp | exact absurd hp (covers_bit hm rfl)⟩
theorem Keeps.set_streams {v_streams : Tab Stream} {d : Dev} (hm : covers 4294967296 m) (h_streams : Rising d.streams → Rising v_streams)
    (h : Keeps m d0 d) : KeepsMk m d0 { d with streams := v_streams } :=
  KeepsMk.mk ⟨fun q0 => let q := h.sound q0; ⟨q.regs, q.objs, q.mem, q.pair, q.ring, ⟨q.tabs.stage, q.tabs.heldStitch, q.tabs.irq, q.tabs.msix, q.tabs.fnMask, q.tabs.rings, q.tabs.fnq, q.tabs.dmaCh, q.tabs.links, q.tabs.mbox, q.tabs.snaps, q.tabs.lastCtr, q.tabs.authSeen, q.tabs.tenants, q.tabs.rrLast, q.tabs.sess, q.tabs.chans, h_streams q.tabs.streams, q.tabs.tiles, q.tabs.linPrm, q.tabs.ladder, q.tabs.lib, q.tabs.linings, q.tabs.srcs, q.tabs.log⟩⟩, h.safe,
    fun p hp => by cases p <;> first | exact h.only _ hp | exact absurd hp (covers_bit hm rfl)⟩
theorem Keeps.set_tiles {v_tiles : Tab Tile} {d : Dev} (hm : covers 8589934592 m) (h_tiles : Rising d.tiles → Rising v_tiles)
    (h : Keeps m d0 d) : KeepsMk m d0 { d with tiles := v_tiles } :=
  KeepsMk.mk ⟨fun q0 => let q := h.sound q0; ⟨q.regs, q.objs, q.mem, q.pair, q.ring, ⟨q.tabs.stage, q.tabs.heldStitch, q.tabs.irq, q.tabs.msix, q.tabs.fnMask, q.tabs.rings, q.tabs.fnq, q.tabs.dmaCh, q.tabs.links, q.tabs.mbox, q.tabs.snaps, q.tabs.lastCtr, q.tabs.authSeen, q.tabs.tenants, q.tabs.rrLast, q.tabs.sess, q.tabs.chans, q.tabs.streams, h_tiles q.tabs.tiles, q.tabs.linPrm, q.tabs.ladder, q.tabs.lib, q.tabs.linings, q.tabs.srcs, q.tabs.log⟩⟩, h.safe,
    fun p hp => by cases p <;> first | exact h.only _ hp | exact absurd hp (covers_bit hm rfl)⟩
theorem Keeps.set_loom {v_loom : Loom} {d : Dev} (hm : covers 17179869184 m)
    (h : Keeps m d0 d) : KeepsMk m d0 { d with loom := v_loom } :=
  KeepsMk.mk ⟨fun q0 => let q := h.sound q0; ⟨q.regs, q.objs, q.mem, q.pair, q.ring, ⟨q.tabs.stage, q.tabs.heldStitch, q.tabs.irq, q.tabs.msix, q.tabs.fnMask, q.tabs.rings, q.tabs.fnq, q.tabs.dmaCh, q.tabs.links, q.tabs.mbox, q.tabs.snaps, q.tabs.lastCtr, q.tabs.authSeen, q.tabs.tenants, q.tabs.rrLast, q.tabs.sess, q.tabs.chans, q.tabs.streams, q.tabs.tiles, q.tabs.linPrm, q.tabs.ladder, q.tabs.lib, q.tabs.linings, q.tabs.srcs, q.tabs.log⟩⟩, h.safe,
    fun p hp => by cases p <;> first | exact h.only _ hp | exact absurd hp (covers_bit hm rfl)⟩
theorem Keeps.set_hold {v_hold : Nat} {d : Dev} (hm : covers 34359738368 m)
    (h : Keeps m d0 d) : KeepsMk m d0 { d with hold := v_hold } :=
  KeepsMk.mk ⟨fun q0 => let q := h.sound q0; ⟨q.regs, q.objs, q.mem, q.pair, q.ring, ⟨q.tabs.stage, q.tabs.heldStitch, q.tabs.irq, q.tabs.msix, q.tabs.fnMask, q.tabs.rings, q.tabs.fnq, q.tabs.dmaCh, q.tabs.links, q.tabs.mbox, q.tabs.snaps, q.tabs.lastCtr, q.tabs.authSeen, q.tabs.tenants, q.tabs.rrLast, q.tabs.sess, q.tabs.chans, q.tabs.streams, q.tabs.tiles, q.tabs.linPrm, q.tabs.ladder, q.tabs.lib, q.tabs.linings, q.tabs.srcs, q.tabs.log⟩⟩, h.safe,
    fun p hp => by cases p <;> first | exact h.only _ hp | exact absurd hp (covers_bit hm rfl)⟩
theorem Keeps.set_linPrm {v_linPrm : Tab Nat} {d : Dev} (hm : covers 68719476736 m) (h_linPrm : Rising d.linPrm → Rising v_linPrm)
    (h : Keeps m d0 d) : KeepsMk m d0 { d with linPrm := v_linPrm } :=
  KeepsMk.mk ⟨fun q0 => let q := h.sound q0; ⟨q.regs, q.objs, q.mem, q.pair, q.ring, ⟨q.tabs.stage, q.tabs.heldStitch, q.tabs.irq, q.tabs.msix, q.tabs.fnMask, q.tabs.rings, q.tabs.fnq, q.tabs.dmaCh, q.tabs.links, q.tabs.mbox, q.tabs.snaps, q.tabs.lastCtr, q.tabs.authSeen, q.tabs.tenants, q.tabs.rrLast, q.tabs.sess, q.tabs.chans, q.tabs.streams, q.tabs.tiles, h_linPrm q.tabs.linPrm, q.tabs.ladder, q.tabs.lib, q.tabs.linings, q.tabs.srcs, q.tabs.log⟩⟩, h.safe,
    fun p hp => by cases p <;> first | exact h.only _ hp | exact absurd hp (covers_bit hm rfl)⟩
theorem Keeps.set_ladder {v_ladder : Tab Nat} {d : Dev} (hm : covers 137438953472 m) (h_ladder : Rising d.ladder → Rising v_ladder)
    (h : Keeps m d0 d) : KeepsMk m d0 { d with ladder := v_ladder } :=
  KeepsMk.mk ⟨fun q0 => let q := h.sound q0; ⟨q.regs, q.objs, q.mem, q.pair, q.ring, ⟨q.tabs.stage, q.tabs.heldStitch, q.tabs.irq, q.tabs.msix, q.tabs.fnMask, q.tabs.rings, q.tabs.fnq, q.tabs.dmaCh, q.tabs.links, q.tabs.mbox, q.tabs.snaps, q.tabs.lastCtr, q.tabs.authSeen, q.tabs.tenants, q.tabs.rrLast, q.tabs.sess, q.tabs.chans, q.tabs.streams, q.tabs.tiles, q.tabs.linPrm, h_ladder q.tabs.ladder, q.tabs.lib, q.tabs.linings, q.tabs.srcs, q.tabs.log⟩⟩, h.safe,
    fun p hp => by cases p <;> first | exact h.only _ hp | exact absurd hp (covers_bit hm rfl)⟩
theorem Keeps.set_pke {v_pke : Pke} {d : Dev} (hm : covers 274877906944 m)
    (h : Keeps m d0 d) : KeepsMk m d0 { d with pke := v_pke } :=
  KeepsMk.mk ⟨fun q0 => let q := h.sound q0; ⟨q.regs, q.objs, q.mem, q.pair, q.ring, ⟨q.tabs.stage, q.tabs.heldStitch, q.tabs.irq, q.tabs.msix, q.tabs.fnMask, q.tabs.rings, q.tabs.fnq, q.tabs.dmaCh, q.tabs.links, q.tabs.mbox, q.tabs.snaps, q.tabs.lastCtr, q.tabs.authSeen, q.tabs.tenants, q.tabs.rrLast, q.tabs.sess, q.tabs.chans, q.tabs.streams, q.tabs.tiles, q.tabs.linPrm, q.tabs.ladder, q.tabs.lib, q.tabs.linings, q.tabs.srcs, q.tabs.log⟩⟩, h.safe,
    fun p hp => by cases p <;> first | exact h.only _ hp | exact absurd hp (covers_bit hm rfl)⟩
theorem Keeps.set_lib {v_lib : Tab LibEntry} {d : Dev} (hm : covers 549755813888 m) (h_lib : Rising d.lib → Rising v_lib)
    (h : Keeps m d0 d) : KeepsMk m d0 { d with lib := v_lib } :=
  KeepsMk.mk ⟨fun q0 => let q := h.sound q0; ⟨q.regs, q.objs, q.mem, q.pair, q.ring, ⟨q.tabs.stage, q.tabs.heldStitch, q.tabs.irq, q.tabs.msix, q.tabs.fnMask, q.tabs.rings, q.tabs.fnq, q.tabs.dmaCh, q.tabs.links, q.tabs.mbox, q.tabs.snaps, q.tabs.lastCtr, q.tabs.authSeen, q.tabs.tenants, q.tabs.rrLast, q.tabs.sess, q.tabs.chans, q.tabs.streams, q.tabs.tiles, q.tabs.linPrm, q.tabs.ladder, h_lib q.tabs.lib, q.tabs.linings, q.tabs.srcs, q.tabs.log⟩⟩, h.safe,
    fun p hp => by cases p <;> first | exact h.only _ hp | exact absurd hp (covers_bit hm rfl)⟩
theorem Keeps.set_linings {v_linings : Tab Lining} {d : Dev} (hm : covers 1099511627776 m) (h_linings : Rising d.linings → Rising v_linings)
    (h : Keeps m d0 d) : KeepsMk m d0 { d with linings := v_linings } :=
  KeepsMk.mk ⟨fun q0 => let q := h.sound q0; ⟨q.regs, q.objs, q.mem, q.pair, q.ring, ⟨q.tabs.stage, q.tabs.heldStitch, q.tabs.irq, q.tabs.msix, q.tabs.fnMask, q.tabs.rings, q.tabs.fnq, q.tabs.dmaCh, q.tabs.links, q.tabs.mbox, q.tabs.snaps, q.tabs.lastCtr, q.tabs.authSeen, q.tabs.tenants, q.tabs.rrLast, q.tabs.sess, q.tabs.chans, q.tabs.streams, q.tabs.tiles, q.tabs.linPrm, q.tabs.ladder, q.tabs.lib, h_linings q.tabs.linings, q.tabs.srcs, q.tabs.log⟩⟩, h.safe,
    fun p hp => by cases p <;> first | exact h.only _ hp | exact absurd hp (covers_bit hm rfl)⟩
theorem Keeps.set_pwr {v_pwr : Pwr} {d : Dev} (hm : covers 2199023255552 m) (h_pwr : v_pwr.booted = false ∨ v_pwr.booted = d.pwr.booted)
    (h : Keeps m d0 d) : KeepsMk m d0 { d with pwr := v_pwr } :=
  KeepsMk.mk ⟨fun q0 => let q := h.sound q0; ⟨q.regs, q.objs, q.mem, q.pair, q.ring, ⟨q.tabs.stage, q.tabs.heldStitch, q.tabs.irq, q.tabs.msix, q.tabs.fnMask, q.tabs.rings, q.tabs.fnq, q.tabs.dmaCh, q.tabs.links, q.tabs.mbox, q.tabs.snaps, q.tabs.lastCtr, q.tabs.authSeen, q.tabs.tenants, q.tabs.rrLast, q.tabs.sess, q.tabs.chans, q.tabs.streams, q.tabs.tiles, q.tabs.linPrm, q.tabs.ladder, q.tabs.lib, q.tabs.linings, q.tabs.srcs, q.tabs.log⟩⟩, fun e => (h.safe e).elim .inl fun s => .inr (h_pwr.elim id fun q => q.trans s),
    fun p hp => by cases p <;> first | exact h.only _ hp | exact absurd hp (covers_bit hm rfl)⟩
theorem Keeps.set_heldStitch_pke {v_heldStitch : Tab Nat} {v_pke : Pke} {d : Dev} (hm : covers 274877906952 m) (h_heldStitch : Rising d.heldStitch → Rising v_heldStitch)
    (h : Keeps m d0 d) : KeepsMk m d0 { d with heldStitch := v_heldStitch, pke := v_pke } :=
  KeepsMk.mk ⟨fun q0 => let q := h.sound q0; ⟨q.regs, q.objs, q.mem, q.pair, q.ring, ⟨q.tabs.stage, h_heldStitch q.tabs.heldStitch, q.tabs.irq, q.tabs.msix, q.tabs.fnMask, q.tabs.rings, q.tabs.fnq, q.tabs.dmaCh, q.tabs.links, q.tabs.mbox, q.tabs.snaps, q.tabs.lastCtr, q.tabs.authSeen, q.tabs.tenants, q.tabs.rrLast, q.tabs.sess, q.tabs.chans, q.tabs.streams, q.tabs.tiles, q.tabs.linPrm, q.tabs.ladder, q.tabs.lib, q.tabs.linings, q.tabs.srcs, q.tabs.log⟩⟩, h.safe,
    fun p hp => by cases p <;> first | exact h.only _ hp | exact absurd hp (covers_bit hm rfl)⟩
theorem Keeps.set_lastCtr_authSeen {v_lastCtr : Tab Nat} {v_authSeen : Tab Bool} {d : Dev} (hm : covers 3145728 m) (h_lastCtr : Rising d.lastCtr → Rising v_lastCtr) (h_authSeen : Rising d.authSeen → Rising v_authSeen)
    (h : Keeps m d0 d) : KeepsMk m d0 { d with lastCtr := v_lastCtr, authSeen := v_authSeen } :=
  KeepsMk.mk ⟨fun q0 => let q := h.sound q0; ⟨q.regs, q.objs, q.mem, q.pair, q.ring, ⟨q.tabs.stage, q.tabs.heldStitch, q.tabs.irq, q.tabs.msix, q.tabs.fnMask, q.tabs.rings, q.tabs.fnq, q.tabs.dmaCh, q.tabs.links, q.tabs.mbox, q.tabs.snaps, h_lastCtr q.tabs.lastCtr, h_authSeen q.tabs.authSeen, q.tabs.tenants, q.tabs.rrLast, q.tabs.sess, q.tabs.chans, q.tabs.streams, q.tabs.tiles, q.tabs.linPrm, q.tabs.ladder, q.tabs.lib, q.tabs.linings, q.tabs.srcs, q.tabs.log⟩⟩, h.safe,
    fun p hp => by cases p <;> first | exact h.only _ hp | exact absurd hp (covers_bit hm rfl)⟩
theorem Keeps.set_msix_fnMask_sec {v_msix : Tab Msix} {v_fnMask : Tab Bool} {v_sec : Sec} {d : Dev} (hm : covers 33555968 m) (h_msix : Rising d.msix → Rising v_msix) (h_fnMask : Rising d.fnMask → Rising v_fnMask)
    (h : Keeps m d0 d) : KeepsMk m d0 { d with msix := v_msix, fnMask := v_fnMask, sec := v_sec } :=
  KeepsMk.mk ⟨fun q0 => let q := h.sound q0; ⟨q.regs, q.objs, q.mem, q.pair, q.ring, ⟨q.tabs.stage, q.tabs.heldStitch, q.tabs.irq, h_msix q.tabs.msix, h_fnMask q.tabs.fnMask, q.tabs.rings, q.tabs.fnq, q.tabs.dmaCh, q.tabs.links, q.tabs.mbox, q.tabs.snaps, q.tabs.lastCtr, q.tabs.authSeen, q.tabs.tenants, q.tabs.rrLast, q.tabs.sess, q.tabs.chans, q.tabs.streams, q.tabs.tiles, q.tabs.linPrm, q.tabs.ladder, q.tabs.lib, q.tabs.linings, q.tabs.srcs, q.tabs.log⟩⟩, h.safe,
    fun p hp => by cases p <;> first | exact h.only _ hp | exact absurd hp (covers_bit hm rfl)⟩
theorem Keeps.set_objs_heldStitch {v_objs : Tab Nat} {v_heldStitch : Tab Nat} {d : Dev} (hm : covers 12 m) (h_objs : ObjsSound d.objs → ObjsSound v_objs) (h_heldStitch : Rising d.heldStitch → Rising v_heldStitch)
    (h : Keeps m d0 d) : KeepsMk m d0 { d with objs := v_objs, heldStitch := v_heldStitch } :=
  KeepsMk.mk ⟨fun q0 => let q := h.sound q0; ⟨q.regs, h_objs q.objs, q.mem, q.pair, q.ring, ⟨q.tabs.stage, h_heldStitch q.tabs.heldStitch, q.tabs.irq, q.tabs.msix, q.tabs.fnMask, q.tabs.rings, q.tabs.fnq, q.tabs.dmaCh, q.tabs.links, q.tabs.mbox, q.tabs.snaps, q.tabs.lastCtr, q.tabs.authSeen, q.tabs.tenants, q.tabs.rrLast, q.tabs.sess, q.tabs.chans, q.tabs.streams, q.tabs.tiles, q.tabs.linPrm, q.tabs.ladder, q.tabs.lib, q.tabs.linings, q.tabs.srcs, q.tabs.log⟩⟩, h.safe,
    fun p hp => by cases p <;> first | exact h.only _ hp | exact absurd hp (covers_bit hm rfl)⟩
theorem Keeps.set_objs_heldStitch_ladder_pke {v_objs : Tab Nat} {v_heldStitch : Tab Nat} {v_ladder : Tab Nat} {v_pke : Pke} {d : Dev} (hm : covers 412316860428 m) (h_objs : ObjsSound d.objs → ObjsSound v_objs) (h_heldStitch : Rising d.heldStitch → Rising v_heldStitch) (h_ladder : Rising d.ladder → Rising v_ladder)
    (h : Keeps m d0 d) : KeepsMk m d0 { d with objs := v_objs, heldStitch := v_heldStitch, ladder := v_ladder, pke := v_pke } :=
  KeepsMk.mk ⟨fun q0 => let q := h.sound q0; ⟨q.regs, h_objs q.objs, q.mem, q.pair, q.ring, ⟨q.tabs.stage, h_heldStitch q.tabs.heldStitch, q.tabs.irq, q.tabs.msix, q.tabs.fnMask, q.tabs.rings, q.tabs.fnq, q.tabs.dmaCh, q.tabs.links, q.tabs.mbox, q.tabs.snaps, q.tabs.lastCtr, q.tabs.authSeen, q.tabs.tenants, q.tabs.rrLast, q.tabs.sess, q.tabs.chans, q.tabs.streams, q.tabs.tiles, q.tabs.linPrm, h_ladder q.tabs.ladder, q.tabs.lib, q.tabs.linings, q.tabs.srcs, q.tabs.log⟩⟩, h.safe,
    fun p hp => by cases p <;> first | exact h.only _ hp | exact absurd hp (covers_bit hm rfl)⟩
theorem Keeps.set_tbs_pwr {v_tbs : Tbs} {v_pwr : Pwr} {d : Dev} (hm : covers 2199027449856 m) (h_pwr : v_pwr.booted = false ∨ v_pwr.booted = d.pwr.booted)
    (h : Keeps m d0 d) : KeepsMk m d0 { d with tbs := v_tbs, pwr := v_pwr } :=
  KeepsMk.mk ⟨fun q0 => let q := h.sound q0; ⟨q.regs, q.objs, q.mem, q.pair, q.ring, ⟨q.tabs.stage, q.tabs.heldStitch, q.tabs.irq, q.tabs.msix, q.tabs.fnMask, q.tabs.rings, q.tabs.fnq, q.tabs.dmaCh, q.tabs.links, q.tabs.mbox, q.tabs.snaps, q.tabs.lastCtr, q.tabs.authSeen, q.tabs.tenants, q.tabs.rrLast, q.tabs.sess, q.tabs.chans, q.tabs.streams, q.tabs.tiles, q.tabs.linPrm, q.tabs.ladder, q.tabs.lib, q.tabs.linings, q.tabs.srcs, q.tabs.log⟩⟩, fun e => (h.safe e).elim .inl fun s => .inr (h_pwr.elim id fun q => q.trans s),
    fun p hp => by cases p <;> first | exact h.only _ hp | exact absurd hp (covers_bit hm rfl)⟩
theorem Keeps.set_wrd_mem {v_wrd : Wrd} {v_mem : Tab Nat} {d : Dev} (hm : covers 3221225472 m) (h_mem : MemSound d.mem → MemSound v_mem)
    (h : Keeps m d0 d) : KeepsMk m d0 { d with wrd := v_wrd, mem := v_mem } :=
  KeepsMk.mk ⟨fun q0 => let q := h.sound q0; ⟨q.regs, q.objs, h_mem q.mem, q.pair, q.ring, ⟨q.tabs.stage, q.tabs.heldStitch, q.tabs.irq, q.tabs.msix, q.tabs.fnMask, q.tabs.rings, q.tabs.fnq, q.tabs.dmaCh, q.tabs.links, q.tabs.mbox, q.tabs.snaps, q.tabs.lastCtr, q.tabs.authSeen, q.tabs.tenants, q.tabs.rrLast, q.tabs.sess, q.tabs.chans, q.tabs.streams, q.tabs.tiles, q.tabs.linPrm, q.tabs.ladder, q.tabs.lib, q.tabs.linings, q.tabs.srcs, q.tabs.log⟩⟩, h.safe,
    fun p hp => by cases p <;> first | exact h.only _ hp | exact absurd hp (covers_bit hm rfl)⟩
theorem keeps_mk {f_regs : Tab Nat} {f_stage : Tab Nat} {f_objs : Tab Nat} {f_heldStitch : Tab Nat} {f_emitted : List Output} {f_freeCtr : Nat} {f_rngCtr : Nat} {f_flt : Flt} {f_irq : Tab IrqEv} {f_msix : Tab Msix} {f_fnMask : Tab Bool} {f_rings : Tab Ring} {f_fnq : Tab FnQ} {f_dmaCh : Tab DmaCh} {f_recvBufs : List Running} {f_links : Tab Link} {f_parityBad : List Nat} {f_mbox : Tab Mbox} {f_waiting : List Waiting} {f_snaps : Tab Snap} {f_lastCtr : Tab Nat} {f_authSeen : Tab Bool} {f_tbs : Tbs} {f_tenants : Tab Tenant} {f_rrLast : Tab Nat} {f_sec : Sec} {f_pair : Pair} {f_sess : Tab Session} {f_dsr : Dsr} {f_chans : Tab Chan} {f_wrd : Wrd} {f_mem : Tab Nat} {f_streams : Tab Stream} {f_tiles : Tab Tile} {f_loom : Loom} {f_hold : Nat} {f_linPrm : Tab Nat} {f_ladder : Tab Nat} {f_pke : Pke} {f_lib : Tab LibEntry} {f_linings : Tab Lining} {f_pwr : Pwr} :
    Keeps m d0 (Dev.mk f_regs f_stage f_objs f_heldStitch f_emitted f_freeCtr f_rngCtr f_flt f_irq f_msix f_fnMask f_rings f_fnq f_dmaCh f_recvBufs f_links f_parityBad f_mbox f_waiting f_snaps f_lastCtr f_authSeen f_tbs f_tenants f_rrLast f_sec f_pair f_sess f_dsr f_chans f_wrd f_mem f_streams f_tiles f_loom f_hold f_linPrm f_ladder f_pke f_lib f_linings f_pwr) = KeepsMk m d0 (Dev.mk f_regs f_stage f_objs f_heldStitch f_emitted f_freeCtr f_rngCtr f_flt f_irq f_msix f_fnMask f_rings f_fnq f_dmaCh f_recvBufs f_links f_parityBad f_mbox f_waiting f_snaps f_lastCtr f_authSeen f_tbs f_tenants f_rrLast f_sec f_pair f_sess f_dsr f_chans f_wrd f_mem f_streams f_tiles f_loom f_hold f_linPrm f_ladder f_pke f_lib f_linings f_pwr) :=
  propext ⟨fun h => ⟨h⟩, fun h => h.1⟩
/-- The same, of a block that may be given. -/
structure OKeeps (m : Nat) (d0 : Dev) (o : Option Dev) : Prop where
  get : ∀ d, o = some d → Keeps m d0 d
theorem OKeeps.none : OKeeps m d0 none := ⟨fun _ h => by cases h⟩
theorem OKeeps.some {d : Dev} (h : Keeps m d0 d) : OKeeps m d0 (some d) := ⟨fun _ e => by cases e; exact h⟩
theorem OKeeps.orElse {o : Option Dev} {f : Unit → Option Dev} (h : OKeeps m d0 o) (hf : OKeeps m d0 (f ())) :
    OKeeps m d0 (o.orElse f) := by
  cases o with
  | none => exact hf
  | some d => exact h
theorem OKeeps.getD {o : Option Dev} {d : Dev} (h : OKeeps m d0 o) (hd : Keeps m d0 d) : Keeps m d0 (o.getD d) := by
  cases o with
  | none => exact hd
  | some x => exact h.get x rfl
theorem OKeeps.map {α : Type} {o : Option α} {f : α → Dev} (h : ∀ a, Keeps m d0 (f a)) : OKeeps m d0 (o.map f) := by
  cases o with
  | none => exact .none
  | some x => exact .some (h x)
theorem OKeeps.bind {o : Option Dev} {f : Dev → Option Dev} (h : OKeeps m d0 o)
    (hf : ∀ d, Keeps m d0 d → OKeeps m d0 (f d)) : OKeeps m d0 (o.bind f) := by
  cases o with
  | none => exact .none
  | some x => exact hf x (h.get x rfl)
/-- The same, of a function that may be given. -/
structure FKeeps (m : Nat) (d0 : Dev) (o : Option (Dev → Dev)) : Prop where
  get : ∀ f, o = some f → ∀ d, Keeps m d0 d → Keeps m d0 (f d)
theorem FKeeps.none : FKeeps m d0 none := ⟨fun _ h => by cases h⟩
theorem FKeeps.some {f : Dev → Dev} (h : ∀ d, Keeps m d0 d → Keeps m d0 (f d)) : FKeeps m d0 (some f) :=
  ⟨fun _ e => by cases e; exact h⟩
theorem FKeeps.ite {c : Prop} [Decidable c] {x y : Option (Dev → Dev)} (hx : FKeeps m d0 x) (hy : FKeeps m d0 y) :
    FKeeps m d0 (if c then x else y) := by
  split
  exacts [hx, hy]
theorem FKeeps.orElse {o : Option (Dev → Dev)} {f : Unit → Option (Dev → Dev)} (h : FKeeps m d0 o)
    (hf : FKeeps m d0 (f ())) : FKeeps m d0 (o.orElse f) := by
  cases o with
  | none => exact hf
  | some d => exact h
theorem forEach_keeps {α : Type} (l : List α) {f : α → Dev → Dev} (hf : ∀ a d, Keeps m d0 d → Keeps m d0 (f a d)) :
    ∀ {d : Dev}, Keeps m d0 d → Keeps m d0 (forEach l f d) := by
  induction l with
  | nil => intro d h; simpa [forEach] using h
  | cons a t ih => intro d h; simp only [forEach]; exact ih (hf a d h)
end Sys2Proof.Machine
end

