-- ==== Sys2Proof/Laws/KeepsShared.lean ====
section
/-! SUPPORT. One lemma for each function of the block: what it keeps. -/
set_option Elab.async false
set_option autoImplicit false
set_option linter.unusedVariables false
set_option linter.unreachableTactic false
set_option linter.unusedTactic false
set_option linter.unusedSimpArgs false
namespace Sys2Proof.Machine
variable {m : Nat} {d0 : Dev}

/-! ## Ops -/

theorem setTenant_keeps (hm : covers 8388608 m) {t : ℕ} {v : Tenant} {d : Dev} (h_d : Keeps m d0 d) :
    Keeps m d0 (setTenant t v d) := by
  unfold setTenant
  (try dsimp only)
  repeat' first
    | with_reducible assumption
    | (with_reducible refine covers_tr hm ?_; decide)
    | with_reducible exact id
    | with_reducible exact rising_put
    | with_reducible exact rising_upd
    | with_reducible exact rising_set
    | with_reducible exact rising_erase
    | with_reducible exact rising_filter
    | with_reducible exact rising_tabFilter
    | with_reducible exact rising_map
    | with_reducible exact rising_to_nil
    | with_reducible exact rising_erase_two
    | simp only [keeps_mk]
    | with_reducible apply Keeps.set_tenants
    | intro _
    | split

theorem actHeld_keeps {f : Dev → Dev} {s t : State} (hf : ∀ d, Keeps m s.dev d → Keeps m s.dev (f d))
    (ht : actHeld f s = .next t) : Keeps m s.dev t.dev := by
  cases ht; exact hf _ (.refl _)

theorem objSet_keeps (hm : covers 4 m) {idx sub v : Nat} {d : Dev} (h : Keeps m d0 d) : Keeps m d0 (objSet idx sub v d) := by
  unfold objSet
  split
  · exact (Keeps.set_objs hm objs_erase h).keeps
  · exact (Keeps.set_objs hm (fun q => objs_set q (by assumption)) h).keeps

theorem objCount_keeps (hm : covers 4 m) {w : ℕ} {idx : ℕ} {sub : ℕ} {n : ℕ} {d : Dev} (h_d : Keeps m d0 d) :
    Keeps m d0 (objCount w idx sub n d) := by
  unfold objCount
  (try dsimp only)
  repeat' first
    | with_reducible assumption
    | (with_reducible refine covers_tr hm ?_; decide)
    | with_reducible apply objSet_keeps
    | intro _
    | split

theorem regSet_keeps (hm : covers 1 m) {key v : Nat} {d : Dev} (h : Keeps m d0 d) : Keeps m d0 (regSet key v d) := by
  unfold regSet
  split
  · exact (Keeps.set_regs hm regs_erase h).keeps
  · exact (Keeps.set_regs hm (fun q => regs_set q (Nat.mod_lt _ (by decide)) (by assumption)) h).keeps

theorem regCount_keeps (hm : covers 1 m) {key : ℕ} {n : ℕ} {d : Dev} (h_d : Keeps m d0 d) :
    Keeps m d0 (regCount key n d) := by
  unfold regCount
  (try dsimp only)
  repeat' first
    | with_reducible assumption
    | (with_reducible refine covers_tr hm ?_; decide)
    | with_reducible apply regSet_keeps
    | intro _
    | split

theorem regDrop_keeps (hm : covers 1 m) {who : Sys2Proof.Caller} {key : ℕ} {e : Sys2Proof.Err} {d : Dev} (h_d : Keeps m d0 d) :
    Keeps m d0 (regDrop who key e d) := by
  unfold regDrop
  (try dsimp only)
  repeat' first
    | with_reducible assumption
    | (with_reducible refine covers_tr hm ?_; decide)
    | with_reducible apply regSet_keeps
    | with_reducible apply regCount_keeps
    | intro _
    | split

theorem setFltSrc_keeps (hm : covers 128 m) {i : ℕ} {v : FltSrc} {d : Dev} (h_d : Keeps m d0 d) :
    Keeps m d0 (setFltSrc i v d) := by
  unfold setFltSrc
  (try dsimp only)
  repeat' first
    | with_reducible assumption
    | (with_reducible refine covers_tr hm ?_; decide)
    | exact Or.inr trivial
    | (with_reducible refine Or.inr ?_; with_reducible rfl)
    | (with_reducible refine Or.inl ?_; first | with_reducible rfl | decide)
    | with_reducible exact id
    | with_reducible exact rising_put
    | with_reducible exact rising_upd
    | with_reducible exact rising_set
    | with_reducible exact rising_erase
    | with_reducible exact rising_filter
    | with_reducible exact rising_tabFilter
    | with_reducible exact rising_map
    | with_reducible exact rising_to_nil
    | with_reducible exact rising_erase_two
    | simp only [keeps_mk]
    | with_reducible apply Keeps.set_flt
    | intro _
    | split

theorem raiseEoc_keeps (hm : covers 256 m) {n : ℕ} {eoc : Bool} {d : Dev} (h_d : Keeps m d0 d) :
    Keeps m d0 (raiseEoc n eoc d) := by
  unfold raiseEoc
  (try dsimp only)
  repeat' first
    | with_reducible assumption
    | (with_reducible refine covers_tr hm ?_; decide)
    | with_reducible exact id
    | with_reducible exact rising_put
    | with_reducible exact rising_upd
    | with_reducible exact rising_set
    | with_reducible exact rising_erase
    | with_reducible exact rising_filter
    | with_reducible exact rising_tabFilter
    | with_reducible exact rising_map
    | with_reducible exact rising_to_nil
    | with_reducible exact rising_erase_two
    | simp only [keeps_mk]
    | with_reducible apply Keeps.set_irq
    | intro _
    | split

theorem setFld_keeps (hm : covers 1 m) {key : ℕ} {lo : ℕ} {len : ℕ} {x : ℕ} {d : Dev} (h_d : Keeps m d0 d) :
    Keeps m d0 (setFld key lo len x d) := by
  unfold setFld
  (try dsimp only)
  repeat' first
    | with_reducible assumption
    | (with_reducible refine covers_tr hm ?_; decide)
    | with_reducible apply regSet_keeps
    | intro _
    | split

theorem rngNext_keeps (hm : covers 64 m) {d : Dev} (h_d : Keeps m d0 d) :
    Keeps m d0 (rngNext d) := by
  unfold rngNext
  (try dsimp only)
  repeat' first
    | with_reducible assumption
    | (with_reducible refine covers_tr hm ?_; decide)
    | with_reducible exact id
    | with_reducible exact rising_put
    | with_reducible exact rising_upd
    | with_reducible exact rising_set
    | with_reducible exact rising_erase
    | with_reducible exact rising_filter
    | with_reducible exact rising_tabFilter
    | with_reducible exact rising_map
    | with_reducible exact rising_to_nil
    | with_reducible exact rising_erase_two
    | simp only [keeps_mk]
    | with_reducible apply Keeps.set_rngCtr
    | intro _
    | split

theorem report_keeps (hm : covers 128 m) {r : Report} {d : Dev} (h_d : Keeps m d0 d) :
    Keeps m d0 (report r d) := by
  unfold report
  (try dsimp only)
  repeat' first
    | with_reducible assumption
    | (with_reducible refine covers_tr hm ?_; decide)
    | exact Or.inr trivial
    | (with_reducible refine Or.inr ?_; with_reducible rfl)
    | (with_reducible refine Or.inl ?_; first | with_reducible rfl | decide)
    | with_reducible exact id
    | with_reducible exact rising_put
    | with_reducible exact rising_upd
    | with_reducible exact rising_set
    | with_reducible exact rising_erase
    | with_reducible exact rising_filter
    | with_reducible exact rising_tabFilter
    | with_reducible exact rising_map
    | with_reducible exact rising_to_nil
    | with_reducible exact rising_erase_two
    | simp only [keeps_mk]
    | with_reducible apply Keeps.set_flt
    | intro _
    | split

theorem gateOf_keeps (hm : covers 4 m) {who : Sys2Proof.Caller} {f : Dev → Dev} {d : Dev} (h_f : ∀ (y0 : Dev), Keeps m d0 y0 → Keeps m d0 (f y0)) (h_d : Keeps m d0 d) :
    Keeps m d0 (gateOf who f d) := by
  unfold gateOf
  (try dsimp only)
  repeat' first
    | with_reducible assumption
    | (with_reducible refine covers_tr hm ?_; decide)
    | with_reducible apply objCount_keeps
    | with_reducible apply h_f
    | intro _
    | split

theorem act_keeps {f : Dev → Dev} {s t : State} (hf : ∀ d, Keeps m s.dev d → Keeps m s.dev (f d)) (ht : act f s = .next t) :
    Keeps m s.dev t.dev :=
  actHeld_keeps (fun d hd => by split; exacts [hd, hf d hd]) ht

theorem objReset_keeps (hm : covers 4 m) {idx sub : Nat} {d : Dev} (h : Keeps m d0 d) : Keeps m d0 (objReset idx sub d) :=
  (Keeps.set_objs hm objs_erase h).keeps

theorem setRing_keeps (hm : covers 2048 m) {k : ℕ} {r : Ring} {d : Dev} (h_d : Keeps m d0 d) :
    Keeps m d0 (setRing k r d) := by
  unfold setRing
  (try dsimp only)
  repeat' first
    | with_reducible assumption
    | (with_reducible refine covers_tr hm ?_; decide)
    | with_reducible exact id
    | with_reducible exact rising_put
    | with_reducible exact rising_upd
    | with_reducible exact rising_set
    | with_reducible exact rising_erase
    | with_reducible exact rising_filter
    | with_reducible exact rising_tabFilter
    | with_reducible exact rising_map
    | with_reducible exact rising_to_nil
    | with_reducible exact rising_erase_two
    | simp only [keeps_mk]
    | with_reducible apply Keeps.set_rings
    | intro _
    | split

theorem emit_keeps (hm : covers 16 m) {o : Output} {d : Dev} (h_d : Keeps m d0 d) :
    Keeps m d0 (emit o d) := by
  unfold emit
  (try dsimp only)
  repeat' first
    | with_reducible assumption
    | (with_reducible refine covers_tr hm ?_; decide)
    | with_reducible exact id
    | with_reducible exact rising_put
    | with_reducible exact rising_upd
    | with_reducible exact rising_set
    | with_reducible exact rising_erase
    | with_reducible exact rising_filter
    | with_reducible exact rising_tabFilter
    | with_reducible exact rising_map
    | with_reducible exact rising_to_nil
    | with_reducible exact rising_erase_two
    | simp only [keeps_mk]
    | with_reducible apply Keeps.set_emitted
    | intro _
    | split

theorem writeEvent_keeps (hm : covers 2064 m) {fn : ℕ} {ty : ℕ} {kind : ℕ} {code : ℕ} {subject : ℕ} {detail : ℕ} {d : Dev} (h_d : Keeps m d0 d) :
    Keeps m d0 (writeEvent fn ty kind code subject detail d) := by
  unfold writeEvent
  (try dsimp only)
  repeat' first
    | with_reducible assumption
    | (with_reducible refine covers_tr hm ?_; decide)
    | with_reducible apply setRing_keeps
    | with_reducible apply emit_keeps
    | intro _
    | split

theorem setFnQ_keeps (hm : covers 4096 m) {fn : ℕ} {q : FnQ} {d : Dev} (h_d : Keeps m d0 d) :
    Keeps m d0 (setFnQ fn q d) := by
  unfold setFnQ
  (try dsimp only)
  repeat' first
    | with_reducible assumption
    | (with_reducible refine covers_tr hm ?_; decide)
    | with_reducible exact id
    | with_reducible exact rising_put
    | with_reducible exact rising_upd
    | with_reducible exact rising_set
    | with_reducible exact rising_erase
    | with_reducible exact rising_filter
    | with_reducible exact rising_tabFilter
    | with_reducible exact rising_map
    | with_reducible exact rising_to_nil
    | with_reducible exact rising_erase_two
    | simp only [keeps_mk]
    | with_reducible apply Keeps.set_fnq
    | intro _
    | split

theorem raise_keeps (hm : covers 256 m) {n : ℕ} {d : Dev} (h_d : Keeps m d0 d) :
    Keeps m d0 (raise n d) := by
  unfold raise
  (try dsimp only)
  repeat' first
    | with_reducible assumption
    | (with_reducible refine covers_tr hm ?_; decide)
    | with_reducible apply raiseEoc_keeps
    | intro _
    | split

theorem postEvent_keeps (hm : covers 6420 m) {fn : ℕ} {ty : ℕ} {kind : ℕ} {code : ℕ} {subject : ℕ} {detail : ℕ} {d : Dev} (h_d : Keeps m d0 d) :
    Keeps m d0 (postEvent fn ty kind code subject detail d) := by
  unfold postEvent
  (try dsimp only)
  repeat' first
    | with_reducible assumption
    | (with_reducible refine covers_tr hm ?_; decide)
    | with_reducible apply writeEvent_keeps
    | with_reducible apply setFnQ_keeps
    | with_reducible apply raise_keeps
    | with_reducible apply objCount_keeps
    | intro _
    | split

theorem postTenant_keeps (hm : covers 6420 m) {s : ℕ} {ty : ℕ} {kind : ℕ} {code : ℕ} {subject : ℕ} {detail : ℕ} {d : Dev} (h_d : Keeps m d0 d) :
    Keeps m d0 (postTenant s ty kind code subject detail d) := by
  unfold postTenant
  (try dsimp only)
  repeat' first
    | with_reducible assumption
    | (with_reducible refine covers_tr hm ?_; decide)
    | with_reducible apply postEvent_keeps
    | intro _
    | split

theorem pairSet_keeps (hm : covers 1 m) {hi : ℕ} {lo : ℕ} {v : ℕ} {d : Dev} (h_d : Keeps m d0 d) :
    Keeps m d0 (pairSet hi lo v d) := by
  unfold pairSet
  (try dsimp only)
  repeat' first
    | with_reducible assumption
    | (with_reducible refine covers_tr hm ?_; decide)
    | with_reducible apply regSet_keeps
    | intro _
    | split

theorem freeNext_keeps (hm : covers 32 m) {d : Dev} (h_d : Keeps m d0 d) :
    Keeps m d0 (freeNext d) := by
  unfold freeNext
  (try dsimp only)
  repeat' first
    | with_reducible assumption
    | (with_reducible refine covers_tr hm ?_; decide)
    | with_reducible exact id
    | with_reducible exact rising_put
    | with_reducible exact rising_upd
    | with_reducible exact rising_set
    | with_reducible exact rising_erase
    | with_reducible exact rising_filter
    | with_reducible exact rising_tabFilter
    | with_reducible exact rising_map
    | with_reducible exact rising_to_nil
    | with_reducible exact rising_erase_two
    | simp only [keeps_mk]
    | with_reducible apply Keeps.set_freeCtr
    | intro _
    | split

theorem objSetStitch_keeps (hm : covers 12 m) {idx : ℕ} {sub : ℕ} {v : ℕ} {d : Dev} (h_d : Keeps m d0 d) :
    Keeps m d0 (objSetStitch idx sub v d) := by
  unfold objSetStitch
  (try dsimp only)
  repeat' first
    | with_reducible assumption
    | (with_reducible refine covers_tr hm ?_; decide)
    | with_reducible apply objSet_keeps
    | with_reducible exact id
    | with_reducible exact rising_put
    | with_reducible exact rising_upd
    | with_reducible exact rising_set
    | with_reducible exact rising_erase
    | with_reducible exact rising_filter
    | with_reducible exact rising_tabFilter
    | with_reducible exact rising_map
    | with_reducible exact rising_to_nil
    | with_reducible exact rising_erase_two
    | simp only [keeps_mk]
    | with_reducible apply Keeps.set_heldStitch
    | intro _
    | split

theorem levelEnd_keeps (hm : covers 128 m) {src : ℕ} {code : ℕ} {subject : ℕ} {d : Dev} (h_d : Keeps m d0 d) :
    Keeps m d0 (levelEnd src code subject d) := by
  unfold levelEnd
  (try dsimp only)
  repeat' first
    | with_reducible assumption
    | (with_reducible refine covers_tr hm ?_; decide)
    | with_reducible apply setFltSrc_keeps
    | intro _
    | split

theorem regGate_keeps (hm : covers 5 m) {who : Sys2Proof.Caller} {key : ℕ} {safeOk : Bool} {f : Dev → Dev} {d : Dev} (h_f : ∀ (y0 : Dev), Keeps m d0 y0 → Keeps m d0 (f y0)) (h_d : Keeps m d0 d) :
    Keeps m d0 (regGate who key safeOk f d) := by
  unfold regGate
  (try dsimp only)
  repeat' first
    | with_reducible assumption
    | (with_reducible refine covers_tr hm ?_; decide)
    | with_reducible apply gateOf_keeps
    | with_reducible apply regDrop_keeps
    | with_reducible apply h_f
    | intro _
    | split

theorem level_keeps (hm : covers 128 m) {src : ℕ} {code : ℕ} {sev : ℕ} {subject : ℕ} {info : ℕ} {d : Dev} (h_d : Keeps m d0 d) :
    Keeps m d0 (level src code sev subject info d) := by
  unfold level
  (try dsimp only)
  repeat' first
    | with_reducible assumption
    | (with_reducible refine covers_tr hm ?_; decide)
    | with_reducible apply report_keeps
    | intro _
    | split

theorem setLink_keeps (hm : covers 32768 m) {i : ℕ} {v : Link} {d : Dev} (h_d : Keeps m d0 d) :
    Keeps m d0 (setLink i v d) := by
  unfold setLink
  (try dsimp only)
  repeat' first
    | with_reducible assumption
    | (with_reducible refine covers_tr hm ?_; decide)
    | with_reducible exact id
    | with_reducible exact rising_put
    | with_reducible exact rising_upd
    | with_reducible exact rising_set
    | with_reducible exact rising_erase
    | with_reducible exact rising_filter
    | with_reducible exact rising_tabFilter
    | with_reducible exact rising_map
    | with_reducible exact rising_to_nil
    | with_reducible exact rising_erase_two
    | simp only [keeps_mk]
    | with_reducible apply Keeps.set_links
    | intro _
    | split

theorem actOn_keeps {u : Bool} {f : Dev → Dev} {s t : State} (hf : ∀ d, Keeps m s.dev d → Keeps m s.dev (f d))
    (ht : actOn u f s = .next t) : Keeps m s.dev t.dev := by
  unfold actOn at ht
  split at ht
  · exact act_keeps hf ht
  · cases ht

theorem objMax_keeps (hm : covers 4 m) {idx : ℕ} {sub : ℕ} {v : ℕ} {d : Dev} (h_d : Keeps m d0 d) :
    Keeps m d0 (objMax idx sub v d) := by
  unfold objMax
  (try dsimp only)
  repeat' first
    | with_reducible assumption
    | (with_reducible refine covers_tr hm ?_; decide)
    | with_reducible apply objSet_keeps
    | intro _
    | split

theorem hostGate_keeps (hm : covers 4 m) {who : Sys2Proof.Caller} {f : Dev → Dev} {d : Dev} (h_f : ∀ (y0 : Dev), Keeps m d0 y0 → Keeps m d0 (f y0)) (h_d : Keeps m d0 d) :
    Keeps m d0 (hostGate who f d) := by
  unfold hostGate
  (try dsimp only)
  repeat' first
    | with_reducible assumption
    | (with_reducible refine covers_tr hm ?_; decide)
    | with_reducible apply gateOf_keeps
    | with_reducible apply h_f
    | intro _
    | split

theorem secEvent_keeps (hm : covers 261 m) {cause : ℕ} {subject : ℕ} {d : Dev} (h_d : Keeps m d0 d) :
    Keeps m d0 (secEvent cause subject d) := by
  unfold secEvent
  (try dsimp only)
  repeat' first
    | with_reducible assumption
    | (with_reducible refine covers_tr hm ?_; decide)
    | with_reducible apply regSet_keeps
    | with_reducible apply raise_keeps
    | with_reducible apply objCount_keeps
    | with_reducible apply regCount_keeps
    | intro _
    | split

theorem pulse_keeps (hm : covers 128 m) {src : ℕ} {code : ℕ} {sev : ℕ} {subject : ℕ} {info : ℕ} {d : Dev} (h_d : Keeps m d0 d) :
    Keeps m d0 (pulse src code sev subject info d) := by
  unfold pulse
  (try dsimp only)
  repeat' first
    | with_reducible assumption
    | (with_reducible refine covers_tr hm ?_; decide)
    | with_reducible apply report_keeps
    | intro _
    | split

theorem atTime_keeps (hm : covers 4194304 m) {now : ℕ} {d : Dev} (h_d : Keeps m d0 d) :
    Keeps m d0 (atTime now d) := by
  unfold atTime
  (try dsimp only)
  repeat' first
    | with_reducible assumption
    | (with_reducible refine covers_tr hm ?_; decide)
    | with_reducible exact id
    | with_reducible exact rising_put
    | with_reducible exact rising_upd
    | with_reducible exact rising_set
    | with_reducible exact rising_erase
    | with_reducible exact rising_filter
    | with_reducible exact rising_tabFilter
    | with_reducible exact rising_map
    | with_reducible exact rising_to_nil
    | with_reducible exact rising_erase_two
    | simp only [keeps_mk]
    | with_reducible apply Keeps.set_tbs
    | intro _
    | split

theorem mend_keeps (hm : covers 65664 m) {key : ℕ} {d : Dev} (h_d : Keeps m d0 d) :
    Keeps m d0 (mend key d) := by
  unfold mend
  (try dsimp only)
  repeat' first
    | with_reducible assumption
    | (with_reducible refine covers_tr hm ?_; decide)
    | with_reducible apply levelEnd_keeps
    | with_reducible exact id
    | with_reducible exact rising_put
    | with_reducible exact rising_upd
    | with_reducible exact rising_set
    | with_reducible exact rising_erase
    | with_reducible exact rising_filter
    | with_reducible exact rising_tabFilter
    | with_reducible exact rising_map
    | with_reducible exact rising_to_nil
    | with_reducible exact rising_erase_two
    | simp only [keeps_mk]
    | with_reducible apply Keeps.set_parityBad
    | intro _
    | split

/-! ## Requests -/

theorem decideWrite_keeps (hm : covers 4194304 m) {q : Sys2Proof.Req} {idx : ℕ} {sub : ℕ} {own : Dev → List Sys2Proof.Err} {bad : Sys2Proof.Err → Dev → Dev} {good : Dev → Dev} {d : Dev} (h_bad : ∀ (y0 : Sys2Proof.Err) (y1 : Dev), Keeps m d0 y1 → Keeps m d0 (bad y0 y1)) (h_good : ∀ (y0 : Dev), Keeps m d0 y0 → Keeps m d0 (good y0)) (h_d : Keeps m d0 d) :
    Keeps m d0 (decideWrite q idx sub own bad good d) := by
  unfold decideWrite
  (try dsimp only)
  repeat' first
    | with_reducible assumption
    | (with_reducible refine covers_tr hm ?_; decide)
    | with_reducible apply atTime_keeps
    | with_reducible apply h_bad
    | with_reducible apply h_good
    | intro _
    | split

theorem postRing_keeps (hm : covers 268435456 m) {who : Sys2Proof.Caller} {op : ℕ} {idx : ℕ} {sub : ℕ} {tag : ℕ} {d : Dev} (h_d : Keeps m d0 d) :
    Keeps m d0 (postRing who op idx sub tag d) := by
  unfold postRing
  (try dsimp only)
  repeat' first
    | with_reducible assumption
    | (with_reducible refine covers_tr hm ?_; decide)
    | exact Or.inr trivial
    | (with_reducible refine Or.inr ?_; with_reducible rfl)
    | (with_reducible refine Or.inl ?_; first | with_reducible rfl | decide)
    | with_reducible exact id
    | with_reducible exact rising_put
    | with_reducible exact rising_upd
    | with_reducible exact rising_set
    | with_reducible exact rising_erase
    | with_reducible exact rising_filter
    | with_reducible exact rising_tabFilter
    | with_reducible exact rising_map
    | with_reducible exact rising_to_nil
    | with_reducible exact rising_erase_two
    | simp only [keeps_mk]
    | with_reducible apply Keeps.set_dsr
    | intro _
    | split

theorem setMbox_keeps (hm : covers 131072 m) {k : ℕ} {m1 : Mbox} {d : Dev} (h_d : Keeps m d0 d) :
    Keeps m d0 (setMbox k m1 d) := by
  unfold setMbox
  (try dsimp only)
  repeat' first
    | with_reducible assumption
    | (with_reducible refine covers_tr hm ?_; decide)
    | with_reducible exact id
    | with_reducible exact rising_put
    | with_reducible exact rising_upd
    | with_reducible exact rising_set
    | with_reducible exact rising_erase
    | with_reducible exact rising_filter
    | with_reducible exact rising_tabFilter
    | with_reducible exact rising_map
    | with_reducible exact rising_to_nil
    | with_reducible exact rising_erase_two
    | simp only [keeps_mk]
    | with_reducible apply Keeps.set_mbox
    | intro _
    | split

theorem putWords_keeps (hm : covers 1 m) {a : ℕ} {a1 : ℕ} {a2 : ℕ} {a3 : Dev} (h_a3 : Keeps m d0 a3) :
    Keeps m d0 (putWords a a1 a2 a3) := by
  induction a generalizing a1 a2 a3 with
  | zero => exact h_a3
  | succ k ih =>
    unfold putWords
    repeat' first
      | with_reducible assumption
      | (with_reducible refine covers_tr hm ?_; decide)
      | with_reducible apply ih
      | with_reducible apply regSet_keeps
      | intro _
      | split

theorem postMailbox_keeps (hm : covers 393473 m) {who : Sys2Proof.Caller} {len : ℕ} {msg : ℕ} {d : Dev} (h_d : Keeps m d0 d) :
    Keeps m d0 (postMailbox who len msg d) := by
  unfold postMailbox
  (try dsimp only)
  repeat' first
    | with_reducible assumption
    | (with_reducible refine covers_tr hm ?_; decide)
    | with_reducible apply setMbox_keeps
    | with_reducible apply putWords_keeps
    | with_reducible apply raise_keeps
    | with_reducible exact id
    | with_reducible exact rising_put
    | with_reducible exact rising_upd
    | with_reducible exact rising_set
    | with_reducible exact rising_erase
    | with_reducible exact rising_filter
    | with_reducible exact rising_tabFilter
    | with_reducible exact rising_map
    | with_reducible exact rising_to_nil
    | with_reducible exact rising_erase_two
    | simp only [keeps_mk]
    | with_reducible apply Keeps.set_waiting
    | intro _
    | split

theorem respond_keeps (hm : covers 268828945 m) {q : Sys2Proof.Req} {op : ℕ} {e : Sys2Proof.Err} {idx : ℕ} {sub : ℕ} {off : ℕ} {total : ℕ} {len : ℕ} {payload : ℕ} {d : Dev} (h_d : Keeps m d0 d) :
    Keeps m d0 (respond q op e idx sub off total len payload d) := by
  unfold respond
  (try dsimp only)
  repeat' first
    | with_reducible assumption
    | (with_reducible refine covers_tr hm ?_; decide)
    | with_reducible apply postRing_keeps
    | with_reducible apply postMailbox_keeps
    | with_reducible apply emit_keeps
    | intro _
    | split

theorem countRefused_keeps (hm : covers 2097413 m) {c : Sys2Proof.Crit} {e : Sys2Proof.Err} {d : Dev} (h_d : Keeps m d0 d) :
    Keeps m d0 (countRefused c e d) := by
  unfold countRefused
  (try dsimp only)
  repeat' first
    | with_reducible assumption
    | (with_reducible refine covers_tr hm ?_; decide)
    | with_reducible apply objCount_keeps
    | with_reducible apply secEvent_keeps
    | with_reducible exact id
    | with_reducible exact rising_put
    | with_reducible exact rising_upd
    | with_reducible exact rising_set
    | with_reducible exact rising_erase
    | with_reducible exact rising_filter
    | with_reducible exact rising_tabFilter
    | with_reducible exact rising_map
    | with_reducible exact rising_to_nil
    | with_reducible exact rising_erase_two
    | simp only [keeps_mk]
    | with_reducible apply Keeps.set_authSeen
    | intro _
    | split

theorem refuse_keeps (hm : covers 270926101 m) {q : Sys2Proof.Req} {idx : ℕ} {sub : ℕ} {e : Sys2Proof.Err} {d : Dev} (h_d : Keeps m d0 d) :
    Keeps m d0 (refuse q idx sub e d) := by
  unfold refuse
  (try dsimp only)
  repeat' first
    | with_reducible assumption
    | (with_reducible refine covers_tr hm ?_; decide)
    | with_reducible apply respond_keeps
    | with_reducible apply countRefused_keeps
    | intro _
    | split

theorem setLast_keeps (hm : covers 3145728 m) {who : Sys2Proof.Caller} {c : Sys2Proof.Crit} {d : Dev} (h_d : Keeps m d0 d) :
    Keeps m d0 (setLast who c d) := by
  unfold setLast
  (try dsimp only)
  repeat' first
    | with_reducible assumption
    | (with_reducible refine covers_tr hm ?_; decide)
    | with_reducible exact id
    | with_reducible exact rising_put
    | with_reducible exact rising_upd
    | with_reducible exact rising_set
    | with_reducible exact rising_erase
    | with_reducible exact rising_filter
    | with_reducible exact rising_tabFilter
    | with_reducible exact rising_map
    | with_reducible exact rising_to_nil
    | with_reducible exact rising_erase_two
    | simp only [keeps_mk]
    | with_reducible apply Keeps.set_lastCtr_authSeen
    | intro _
    | split

theorem accept_keeps (hm : covers 271974673 m) {q : Sys2Proof.Req} {idx : ℕ} {sub : ℕ} {d : Dev} (h_d : Keeps m d0 d) :
    Keeps m d0 (accept q idx sub d) := by
  unfold accept
  (try dsimp only)
  repeat' first
    | with_reducible assumption
    | (with_reducible refine covers_tr hm ?_; decide)
    | with_reducible apply respond_keeps
    | with_reducible apply setLast_keeps
    | intro _
    | split

theorem perform_keeps (hm : covers 276168981 m) {q : Sys2Proof.Req} {idx : ℕ} {sub : ℕ} {own : Dev → List Sys2Proof.Err} {f : Dev → Dev} {d : Dev} (h_f : ∀ (y0 : Dev), Keeps m d0 y0 → Keeps m d0 (f y0)) (h_d : Keeps m d0 d) :
    Keeps m d0 (perform q idx sub own f d) := by
  unfold perform
  (try dsimp only)
  repeat' first
    | with_reducible assumption
    | (with_reducible refine covers_tr hm ?_; decide)
    | with_reducible apply decideWrite_keeps
    | with_reducible apply refuse_keeps
    | with_reducible apply accept_keeps
    | with_reducible apply h_f
    | intro _
    | split

theorem clearLast_keeps (hm : covers 3145728 m) {ctx : ℕ} {d : Dev} (h_d : Keeps m d0 d) :
    Keeps m d0 (clearLast ctx d) := by
  unfold clearLast
  (try dsimp only)
  repeat' first
    | with_reducible assumption
    | (with_reducible refine covers_tr hm ?_; decide)
    | with_reducible exact id
    | with_reducible exact rising_put
    | with_reducible exact rising_upd
    | with_reducible exact rising_set
    | with_reducible exact rising_erase
    | with_reducible exact rising_filter
    | with_reducible exact rising_tabFilter
    | with_reducible exact rising_map
    | with_reducible exact rising_to_nil
    | with_reducible exact rising_erase_two
    | simp only [keeps_mk]
    | with_reducible apply Keeps.set_lastCtr_authSeen
    | intro _
    | split

theorem setSess_keeps (hm : covers 134217728 m) {s : ℕ} {v : Session} {d : Dev} (h_d : Keeps m d0 d) :
    Keeps m d0 (setSess s v d) := by
  unfold setSess
  (try dsimp only)
  repeat' first
    | with_reducible assumption
    | (with_reducible refine covers_tr hm ?_; decide)
    | with_reducible exact id
    | with_reducible exact rising_put
    | with_reducible exact rising_upd
    | with_reducible exact rising_set
    | with_reducible exact rising_erase
    | with_reducible exact rising_filter
    | with_reducible exact rising_tabFilter
    | with_reducible exact rising_map
    | with_reducible exact rising_to_nil
    | with_reducible exact rising_erase_two
    | simp only [keeps_mk]
    | with_reducible apply Keeps.set_sess
    | intro _
    | split

/-! ## Blocks -/

theorem setWrd_keeps (hm : covers 1073741824 m) {w : Wrd} {d : Dev} (h_d : Keeps m d0 d) :
    Keeps m d0 (setWrd w d) := by
  unfold setWrd
  (try dsimp only)
  repeat' first
    | with_reducible assumption
    | (with_reducible refine covers_tr hm ?_; decide)
    | with_reducible exact id
    | with_reducible exact rising_put
    | with_reducible exact rising_upd
    | with_reducible exact rising_set
    | with_reducible exact rising_erase
    | with_reducible exact rising_filter
    | with_reducible exact rising_tabFilter
    | with_reducible exact rising_map
    | with_reducible exact rising_to_nil
    | with_reducible exact rising_erase_two
    | simp only [keeps_mk]
    | with_reducible apply Keeps.set_wrd
    | intro _
    | split

theorem nextGen_keeps (hm : covers 1073741824 m) {k : ℕ} {d : Dev} (h_d : Keeps m d0 d) :
    Keeps m d0 (nextGen k d) := by
  unfold nextGen
  (try dsimp only)
  repeat' first
    | with_reducible assumption
    | (with_reducible refine covers_tr hm ?_; decide)
    | with_reducible apply setWrd_keeps
    | intro _
    | split

theorem forgetBytes_keeps (hm : covers 2147483648 m) {x : Block} {d : Dev} (h : Keeps m d0 d) : Keeps m d0 (forgetBytes x d) :=
  (Keeps.set_mem hm mem_filter h).keeps

theorem reclaimFrame_keeps (hm : covers 1073741824 m) {pool : ℕ} {c : ℕ} {f : ℕ} {d : Dev} (h_d : Keeps m d0 d) :
    Keeps m d0 (reclaimFrame pool c f d) := by
  unfold reclaimFrame
  (try dsimp only)
  repeat' first
    | with_reducible assumption
    | (with_reducible refine covers_tr hm ?_; decide)
    | with_reducible apply setWrd_keeps
    | intro _
    | split

theorem allocBlock_keeps (hm : covers 1073741824 m) {pool owner : Nat} {u : Use} {d d1 : Dev} {k : Nat} (h : Keeps m d0 d)
    (e : allocBlock pool owner u d = some (k, d1)) : Keeps m d0 d1 := by
  unfold allocBlock at e
  split at e
  · cases e
  · cases e; exact setWrd_keeps hm h

theorem retryOne_keeps (hm : covers 1073741824 m) {l : List (Nat × Nat × Use)} {d : Dev} (h : Keeps m d0 d) :
    Keeps m d0 (retryOne d l).1 := by
  induction l generalizing d with
  | nil => exact h
  | cons x t ih =>
    unfold retryOne
    split
    · exact ih (allocBlock_keeps hm h (by assumption))
    · exact ih h

theorem retryWanted_keeps (hm : covers 1073741824 m) {pool : ℕ} {d : Dev} (h_d : Keeps m d0 d) :
    Keeps m d0 (retryWanted pool d) := by
  unfold retryWanted
  (try dsimp only)
  repeat' first
    | with_reducible assumption
    | (with_reducible refine covers_tr hm ?_; decide)
    | with_reducible apply retryOne_keeps
    | with_reducible apply setWrd_keeps
    | intro _
    | split

theorem releaseBlock_keeps (hm : covers 3221225472 m) {k : ℕ} {d : Dev} (h_d : Keeps m d0 d) :
    Keeps m d0 (releaseBlock k d) := by
  unfold releaseBlock
  (try dsimp only)
  repeat' first
    | with_reducible assumption
    | (with_reducible refine covers_tr hm ?_; decide)
    | with_reducible apply nextGen_keeps
    | with_reducible apply forgetBytes_keeps
    | with_reducible apply setWrd_keeps
    | with_reducible apply reclaimFrame_keeps
    | with_reducible apply retryWanted_keeps
    | intro _
    | split

theorem releaseUse_keeps (hm : covers 3221225472 m) {p : Use → Bool} {d : Dev} (h_d : Keeps m d0 d) :
    Keeps m d0 (releaseUse p d) := by
  unfold releaseUse
  (try dsimp only)
  repeat' first
    | with_reducible assumption
    | (with_reducible refine covers_tr hm ?_; decide)
    | with_reducible apply releaseBlock_keeps
    | with_reducible apply setWrd_keeps
    | with_reducible apply forEach_keeps
    | intro _
    | split

theorem takeFlip_keeps (hm : covers 1073741825 m) {cls : ℕ} {unit : ℕ} {place : ℕ} {d : Dev} (h_d : Keeps m d0 d) :
    Keeps m d0 (takeFlip cls unit place d) := by
  unfold takeFlip
  (try dsimp only)
  repeat' first
    | with_reducible assumption
    | (with_reducible refine covers_tr hm ?_; decide)
    | with_reducible apply setWrd_keeps
    | with_reducible apply setFld_keeps
    | intro _
    | split

theorem allocAll_keeps (hm : covers 1073741824 m) {owner : Nat} {l : List (Nat × Use)} {d : Dev} (h : Keeps m d0 d) :
    OKeeps m d0 (allocAll owner l d) := by
  induction l generalizing d with
  | nil => exact .some h
  | cons x t ih =>
    unfold allocAll
    split
    · exact .none
    · exact ih (allocBlock_keeps hm h (by assumption))

theorem setChanState_keeps (hm : covers 4 m) {c : ℕ} {v : ℕ} {d : Dev} (h_d : Keeps m d0 d) :
    Keeps m d0 (setChanState c v d) := by
  unfold setChanState
  (try dsimp only)
  repeat' first
    | with_reducible assumption
    | (with_reducible refine covers_tr hm ?_; decide)
    | with_reducible apply objSet_keeps
    | intro _
    | split

theorem handleRefused_keeps (hm : covers 261 m) {presenter : ℕ} {h : ℕ} {d : Dev} (h_d : Keeps m d0 d) :
    Keeps m d0 (handleRefused presenter h d) := by
  unfold handleRefused
  (try dsimp only)
  repeat' first
    | with_reducible assumption
    | (with_reducible refine covers_tr hm ?_; decide)
    | with_reducible apply regCount_keeps
    | with_reducible apply objCount_keeps
    | with_reducible apply secEvent_keeps
    | intro _
    | split

theorem setChan_keeps (hm : covers 536870912 m) {c : ℕ} {v : Chan} {d : Dev} (h_d : Keeps m d0 d) :
    Keeps m d0 (setChan c v d) := by
  unfold setChan
  (try dsimp only)
  repeat' first
    | with_reducible assumption
    | (with_reducible refine covers_tr hm ?_; decide)
    | with_reducible exact id
    | with_reducible exact rising_put
    | with_reducible exact rising_upd
    | with_reducible exact rising_set
    | with_reducible exact rising_erase
    | with_reducible exact rising_filter
    | with_reducible exact rising_tabFilter
    | with_reducible exact rising_map
    | with_reducible exact rising_to_nil
    | with_reducible exact rising_erase_two
    | simp only [keeps_mk]
    | with_reducible apply Keeps.set_chans
    | intro _
    | split

theorem beginTraining_keeps (hm : covers 536870916 m) {d : Dev} (h_d : Keeps m d0 d) :
    Keeps m d0 (beginTraining d) := by
  unfold beginTraining
  (try dsimp only)
  repeat' first
    | with_reducible assumption
    | (with_reducible refine covers_tr hm ?_; decide)
    | with_reducible apply setChan_keeps
    | with_reducible apply setChanState_keeps
    | with_reducible apply forEach_keeps
    | intro _
    | split

/-! ## Streams -/

theorem setStream_keeps (hm : covers 4294967296 m) {sid : ℕ} {x : Stream} {d : Dev} (h_d : Keeps m d0 d) :
    Keeps m d0 (setStream sid x d) := by
  unfold setStream
  (try dsimp only)
  repeat' first
    | with_reducible assumption
    | (with_reducible refine covers_tr hm ?_; decide)
    | with_reducible exact id
    | with_reducible exact rising_put
    | with_reducible exact rising_upd
    | with_reducible exact rising_set
    | with_reducible exact rising_erase
    | with_reducible exact rising_filter
    | with_reducible exact rising_tabFilter
    | with_reducible exact rising_map
    | with_reducible exact rising_to_nil
    | with_reducible exact rising_erase_two
    | simp only [keeps_mk]
    | with_reducible apply Keeps.set_streams
    | intro _
    | split

theorem updStream_keeps (hm : covers 4294967296 m) {sid : ℕ} {f : Stream → Stream} {d : Dev} (h_d : Keeps m d0 d) :
    Keeps m d0 (updStream sid f d) := by
  unfold updStream
  (try dsimp only)
  repeat' first
    | with_reducible assumption
    | (with_reducible refine covers_tr hm ?_; decide)
    | with_reducible apply setStream_keeps
    | intro _
    | split

theorem updFrame_keeps (hm : covers 4294967296 m) {sid : ℕ} {c : ℕ} {g : Frame → Frame} {d : Dev} (h_d : Keeps m d0 d) :
    Keeps m d0 (updFrame sid c g d) := by
  unfold updFrame
  (try dsimp only)
  repeat' first
    | with_reducible assumption
    | (with_reducible refine covers_tr hm ?_; decide)
    | with_reducible apply updStream_keeps
    | intro _
    | split

theorem updBand_keeps (hm : covers 4294967296 m) {sid : ℕ} {c : ℕ} {b2 : ℕ} {g : Band → Band} {d : Dev} (h_d : Keeps m d0 d) :
    Keeps m d0 (updBand sid c b2 g d) := by
  unfold updBand
  (try dsimp only)
  repeat' first
    | with_reducible assumption
    | (with_reducible refine covers_tr hm ?_; decide)
    | with_reducible apply updFrame_keeps
    | intro _
    | split

theorem markLost_keeps (hm : covers 4294967300 m) {sid : ℕ} {c : ℕ} {d : Dev} (h_d : Keeps m d0 d) :
    Keeps m d0 (markLost sid c d) := by
  unfold markLost
  (try dsimp only)
  repeat' first
    | with_reducible assumption
    | (with_reducible refine covers_tr hm ?_; decide)
    | with_reducible apply setStream_keeps
    | with_reducible apply objCount_keeps
    | intro _
    | split

theorem triggerCycle_keeps (hm : covers 4294967296 m) {sid : ℕ} {d : Dev} (h_d : Keeps m d0 d) :
    Keeps m d0 (triggerCycle sid d) := by
  unfold triggerCycle
  (try dsimp only)
  repeat' first
    | with_reducible assumption
    | (with_reducible refine covers_tr hm ?_; decide)
    | with_reducible apply updStream_keeps
    | intro _
    | split

theorem updPart_keeps (hm : covers 4294967296 m) {j : Job} {g : Part → Part} {d : Dev} (h_d : Keeps m d0 d) :
    Keeps m d0 (updPart j g d) := by
  unfold updPart
  (try dsimp only)
  repeat' first
    | with_reducible assumption
    | (with_reducible refine covers_tr hm ?_; decide)
    | with_reducible apply updBand_keeps
    | intro _
    | split

theorem updPast_keeps (hm : covers 4294967296 m) {sid : ℕ} {c : ℕ} {g : Past → Past} {d : Dev} (h_d : Keeps m d0 d) :
    Keeps m d0 (updPast sid c g d) := by
  unfold updPast
  (try dsimp only)
  repeat' first
    | with_reducible assumption
    | (with_reducible refine covers_tr hm ?_; decide)
    | with_reducible apply updStream_keeps
    | intro _
    | split

/-! ## Intake -/

theorem holdUpdate_keeps (hm : covers 34359738369 m) {d : Dev} (h_d : Keeps m d0 d) :
    Keeps m d0 (holdUpdate d) := by
  unfold holdUpdate
  (try dsimp only)
  repeat' first
    | with_reducible assumption
    | (with_reducible refine covers_tr hm ?_; decide)
    | with_reducible apply regSet_keeps
    | with_reducible exact id
    | with_reducible exact rising_put
    | with_reducible exact rising_upd
    | with_reducible exact rising_set
    | with_reducible exact rising_erase
    | with_reducible exact rising_filter
    | with_reducible exact rising_tabFilter
    | with_reducible exact rising_map
    | with_reducible exact rising_to_nil
    | with_reducible exact rising_erase_two
    | simp only [keeps_mk]
    | with_reducible apply Keeps.set_hold
    | intro _
    | split

theorem crossing_keeps (hm : covers 34493962517 m) {s : ℕ} {held : Bool} {d : Dev} (h_d : Keeps m d0 d) :
    Keeps m d0 (crossing s held d) := by
  unfold crossing
  (try dsimp only)
  repeat' first
    | with_reducible assumption
    | (with_reducible refine covers_tr hm ?_; decide)
    | with_reducible apply holdUpdate_keeps
    | with_reducible apply raise_keeps
    | with_reducible apply postTenant_keeps
    | with_reducible apply objCount_keeps
    | with_reducible apply setSess_keeps
    | intro _
    | split

theorem waterTest_keeps (hm : covers 34493962517 m) {s : ℕ} {d : Dev} (h_d : Keeps m d0 d) :
    Keeps m d0 (waterTest s d) := by
  unfold waterTest
  (try dsimp only)
  repeat' first
    | with_reducible assumption
    | (with_reducible refine covers_tr hm ?_; decide)
    | with_reducible apply objMax_keeps
    | with_reducible apply crossing_keeps
    | intro _
    | split

theorem substFrame_keeps (hm : covers 38788929813 m) {s : ℕ} {c : ℕ} {d : Dev} (h_d : Keeps m d0 d) :
    Keeps m d0 (substFrame s c d) := by
  unfold substFrame
  (try dsimp only)
  repeat' first
    | with_reducible assumption
    | (with_reducible refine covers_tr hm ?_; decide)
    | with_reducible apply updFrame_keeps
    | with_reducible apply waterTest_keeps
    | with_reducible apply postTenant_keeps
    | with_reducible apply objCount_keeps
    | with_reducible apply forEach_keeps
    | intro _
    | split

theorem substitute_keeps (hm : covers 38788929813 m) {s : ℕ} {n : ℕ} {d : Dev} (h_d : Keeps m d0 d) :
    Keeps m d0 (substitute s n d) := by
  unfold substitute
  (try dsimp only)
  repeat' first
    | with_reducible assumption
    | (with_reducible refine covers_tr hm ?_; decide)
    | with_reducible apply substFrame_keeps
    | with_reducible apply forEach_keeps
    | intro _
    | split

theorem dropUndispatched_keeps (hm : covers 38788929813 m) {s : ℕ} {d : Dev} (h_d : Keeps m d0 d) :
    Keeps m d0 (dropUndispatched s d) := by
  unfold dropUndispatched
  (try dsimp only)
  repeat' first
    | with_reducible assumption
    | (with_reducible refine covers_tr hm ?_; decide)
    | with_reducible apply setStream_keeps
    | with_reducible apply waterTest_keeps
    | with_reducible apply objCount_keeps
    | intro _
    | split

theorem writeUnit_keeps (hm : covers 134217732 m) {t : ℕ} {off : ℕ} {whole : Bool} {v : ℕ} {d : Dev} (h_d : Keeps m d0 d) :
    Keeps m d0 (writeUnit t off whole v d) := by
  unfold writeUnit
  (try dsimp only)
  repeat' first
    | with_reducible assumption
    | (with_reducible refine covers_tr hm ?_; decide)
    | with_reducible apply objCount_keeps
    | with_reducible apply setSess_keeps
    | intro _
    | split

theorem startCredits_keeps (hm : covers 134217728 m) {s : ℕ} {n : ℕ} {d : Dev} (h_d : Keeps m d0 d) :
    Keeps m d0 (startCredits s n d) := by
  unfold startCredits
  (try dsimp only)
  repeat' first
    | with_reducible assumption
    | (with_reducible refine covers_tr hm ?_; decide)
    | with_reducible apply setSess_keeps
    | intro _
    | split

theorem copyRoi_keeps (hm : covers 4294967300 m) {s : ℕ} {slot : ℕ} {b2 : ℕ} {d : Dev} (h_d : Keeps m d0 d) :
    Keeps m d0 (copyRoi s slot b2 d) := by
  unfold copyRoi
  (try dsimp only)
  repeat' first
    | with_reducible assumption
    | (with_reducible refine covers_tr hm ?_; decide)
    | with_reducible apply objCount_keeps
    | with_reducible apply updStream_keeps
    | intro _
    | split

theorem doorbellReject_keeps (hm : covers 5 m) {t : ℕ} {w : ℕ} {e : Sys2Proof.Err} {d : Dev} (h_d : Keeps m d0 d) :
    Keeps m d0 (doorbellReject t w e d) := by
  unfold doorbellReject
  (try dsimp only)
  repeat' first
    | with_reducible assumption
    | (with_reducible refine covers_tr hm ?_; decide)
    | with_reducible apply regSet_keeps
    | with_reducible apply objCount_keeps
    | intro _
    | split

theorem giveCredit_keeps (hm : covers 134217728 m) {s : ℕ} {n : ℕ} {d : Dev} (h_d : Keeps m d0 d) :
    Keeps m d0 (giveCredit s n d) := by
  unfold giveCredit
  (try dsimp only)
  repeat' first
    | with_reducible assumption
    | (with_reducible refine covers_tr hm ?_; decide)
    | with_reducible apply setSess_keeps
    | intro _
    | split

theorem writeUnits_keeps (hm : covers 134217732 m) {t : ℕ} {base : ℕ} {en : List Bool} {off : ℕ} {v : ℕ} {a : ℕ} {a6 : ℕ} {a7 : Dev} (h_a7 : Keeps m d0 a7) :
    Keeps m d0 (writeUnits t base en off v a a6 a7) := by
  induction a generalizing t base en off v a6 a7 with
  | zero => exact h_a7
  | succ k ih =>
    unfold writeUnits
    repeat' first
      | with_reducible assumption
      | (with_reducible refine covers_tr hm ?_; decide)
      | with_reducible apply ih
      | with_reducible apply writeUnit_keeps
      | intro _
      | split

theorem dropUnstarted_keeps (hm : covers 38788929813 m) {s : ℕ} {d : Dev} (h_d : Keeps m d0 d) :
    Keeps m d0 (dropUnstarted s d) := by
  unfold dropUnstarted
  (try dsimp only)
  repeat' first
    | with_reducible assumption
    | (with_reducible refine covers_tr hm ?_; decide)
    | with_reducible apply waterTest_keeps
    | with_reducible apply objCount_keeps
    | with_reducible apply setStream_keeps
    | intro _
    | split

theorem intakeOff_keeps (hm : covers 34493956097 m) {s : ℕ} {d : Dev} (h_d : Keeps m d0 d) :
    Keeps m d0 (intakeOff s d) := by
  unfold intakeOff
  (try dsimp only)
  repeat' first
    | with_reducible assumption
    | (with_reducible refine covers_tr hm ?_; decide)
    | with_reducible apply holdUpdate_keeps
    | with_reducible apply setSess_keeps
    | intro _
    | split

theorem doorbellAccept_keeps (hm : covers 38788929813 m) {w : ℕ} {d : Dev} (h_d : Keeps m d0 d) :
    Keeps m d0 (doorbellAccept w d) := by
  unfold doorbellAccept
  (try dsimp only)
  repeat' first
    | with_reducible assumption
    | (with_reducible refine covers_tr hm ?_; decide)
    | with_reducible apply objCount_keeps
    | with_reducible apply setSess_keeps
    | with_reducible apply updStream_keeps
    | with_reducible apply copyRoi_keeps
    | with_reducible apply waterTest_keeps
    | intro _
    | split

/-! ## Recon -/

theorem updRecons_keeps (hm : covers 4294967296 m) {sid : ℕ} {c : ℕ} {g : Tab BandRecon → Tab BandRecon} {d : Dev} (h_d : Keeps m d0 d) :
    Keeps m d0 (updRecons sid c g d) := by
  unfold updRecons
  (try dsimp only)
  repeat' first
    | with_reducible assumption
    | (with_reducible refine covers_tr hm ?_; decide)
    | with_reducible apply updStream_keeps
    | intro _
    | split

theorem closeSeam_keeps (hm : covers 4294967296 m) {sid : ℕ} {c : ℕ} {b2 : ℕ} {prms : List ℕ} {d : Dev} (h_d : Keeps m d0 d) :
    Keeps m d0 (closeSeam sid c b2 prms d) := by
  unfold closeSeam
  (try dsimp only)
  repeat' first
    | with_reducible assumption
    | (with_reducible refine covers_tr hm ?_; decide)
    | with_reducible apply updRecons_keeps
    | intro _
    | split

theorem writeRecon_keeps (hm : covers 4294967296 m) {sid : ℕ} {c : ℕ} {b2 : ℕ} {samples : List ℕ} {vecs : List (Option (ℤ × ℤ))} {d : Dev} (h_d : Keeps m d0 d) :
    Keeps m d0 (writeRecon sid c b2 samples vecs d) := by
  unfold writeRecon
  (try dsimp only)
  repeat' first
    | with_reducible assumption
    | (with_reducible refine covers_tr hm ?_; decide)
    | with_reducible apply updRecons_keeps
    | intro _
    | split

theorem pruneRecons_keeps (hm : covers 4294967296 m) {sid : ℕ} {d : Dev} (h_d : Keeps m d0 d) :
    Keeps m d0 (pruneRecons sid d) := by
  unfold pruneRecons
  (try dsimp only)
  repeat' first
    | with_reducible assumption
    | (with_reducible refine covers_tr hm ?_; decide)
    | with_reducible apply setStream_keeps
    | intro _
    | split

/-! ## Shaper -/

theorem setDest_keeps (hm : covers 134217728 m) {s : ℕ} {e : ℕ} {x : Dest} {d : Dev} (h_d : Keeps m d0 d) :
    Keeps m d0 (setDest s e x d) := by
  unfold setDest
  (try dsimp only)
  repeat' first
    | with_reducible assumption
    | (with_reducible refine covers_tr hm ?_; decide)
    | with_reducible apply setSess_keeps
    | intro _
    | split

theorem settleRate_keeps (hm : covers 134217728 m) {s : ℕ} {e : ℕ} {d : Dev} (h_d : Keeps m d0 d) :
    Keeps m d0 (settleRate s e d) := by
  unfold settleRate
  (try dsimp only)
  repeat' first
    | with_reducible assumption
    | (with_reducible refine covers_tr hm ?_; decide)
    | with_reducible apply setDest_keeps
    | intro _
    | split

theorem refillDest_keeps (hm : covers 134217732 m) {s : ℕ} {e : ℕ} {d02 : Dev} (h_d02 : Keeps m d0 d02) :
    Keeps m d0 (refillDest s e d02) := by
  unfold refillDest
  (try dsimp only)
  repeat' first
    | with_reducible assumption
    | (with_reducible refine covers_tr hm ?_; decide)
    | with_reducible apply settleRate_keeps
    | with_reducible apply setDest_keeps
    | with_reducible apply objCount_keeps
    | intro _
    | split

theorem setPort_keeps (hm : covers 274877906944 m) {p : ℕ} {x : Port} {d : Dev} (h_d : Keeps m d0 d) :
    Keeps m d0 (setPort p x d) := by
  unfold setPort
  (try dsimp only)
  repeat' first
    | with_reducible assumption
    | (with_reducible refine covers_tr hm ?_; decide)
    | with_reducible exact id
    | with_reducible exact rising_put
    | with_reducible exact rising_upd
    | with_reducible exact rising_set
    | with_reducible exact rising_erase
    | with_reducible exact rising_filter
    | with_reducible exact rising_tabFilter
    | with_reducible exact rising_map
    | with_reducible exact rising_to_nil
    | with_reducible exact rising_erase_two
    | simp only [keeps_mk]
    | with_reducible apply Keeps.set_pke
    | intro _
    | split

theorem sampleDest_keeps (hm : covers 134217728 m) {s : ℕ} {e : ℕ} {d : Dev} (h_d : Keeps m d0 d) :
    Keeps m d0 (sampleDest s e d) := by
  unfold sampleDest
  (try dsimp only)
  repeat' first
    | with_reducible assumption
    | (with_reducible refine covers_tr hm ?_; decide)
    | with_reducible apply setDest_keeps
    | intro _
    | split

theorem refillAll_keeps (hm : covers 134217732 m) {d : Dev} (h_d : Keeps m d0 d) :
    Keeps m d0 (refillAll d) := by
  unfold refillAll
  (try dsimp only)
  repeat' first
    | with_reducible assumption
    | (with_reducible refine covers_tr hm ?_; decide)
    | with_reducible apply refillDest_keeps
    | with_reducible apply forEach_keeps
    | intro _
    | split

theorem updDest_keeps (hm : covers 134217728 m) {s : ℕ} {e : ℕ} {f : Dest → Dest} {d : Dev} (h_d : Keeps m d0 d) :
    Keeps m d0 (updDest s e f d) := by
  unfold updDest
  (try dsimp only)
  repeat' first
    | with_reducible assumption
    | (with_reducible refine covers_tr hm ?_; decide)
    | with_reducible apply setDest_keeps
    | intro _
    | split

theorem spectatorAt_keeps (hm : covers 134217728 m) {s : ℕ} {c : ℕ} {e : ℕ} {d : Dev} (h_d : Keeps m d0 d) :
    Keeps m d0 (spectatorAt s c e d) := by
  unfold spectatorAt
  (try dsimp only)
  repeat' first
    | with_reducible assumption
    | (with_reducible refine covers_tr hm ?_; decide)
    | with_reducible apply updDest_keeps
    | intro _
    | split

theorem setClassQueue_keeps (hm : covers 274877906944 m) {p : ℕ} {c : ℕ} {l : List Pkt} {d : Dev} (h_d : Keeps m d0 d) :
    Keeps m d0 (setClassQueue p c l d) := by
  unfold setClassQueue
  (try dsimp only)
  repeat' first
    | with_reducible assumption
    | (with_reducible refine covers_tr hm ?_; decide)
    | with_reducible apply setPort_keeps
    | intro _
    | split

theorem sampleAll_keeps (hm : covers 134217728 m) {d : Dev} (h_d : Keeps m d0 d) :
    Keeps m d0 (sampleAll d) := by
  unfold sampleAll
  (try dsimp only)
  repeat' first
    | with_reducible assumption
    | (with_reducible refine covers_tr hm ?_; decide)
    | with_reducible apply sampleDest_keeps
    | with_reducible apply forEach_keeps
    | intro _
    | split

/-! ## Library -/

theorem reuse_keeps (hm : covers 1073741824 m) {keys : List ℕ} {u : Use} {d : Dev} (h_d : Keeps m d0 d) :
    Keeps m d0 (reuse keys u d) := by
  unfold reuse
  (try dsimp only)
  repeat' first
    | with_reducible assumption
    | (with_reducible refine covers_tr hm ?_; decide)
    | with_reducible apply setWrd_keeps
    | intro _
    | split

theorem trimCapture_keeps (hm : covers 3221225472 m) {s : ℕ} {d : Dev} (h_d : Keeps m d0 d) :
    Keeps m d0 (trimCapture s d) := by
  unfold trimCapture
  (try dsimp only)
  repeat' first
    | with_reducible assumption
    | (with_reducible refine covers_tr hm ?_; decide)
    | with_reducible apply releaseUse_keeps
    | intro _
    | split

theorem ringFollow_keeps (hm : covers 134217728 m) {s : ℕ} {d : Dev} (h_d : Keeps m d0 d) :
    Keeps m d0 (ringFollow s d) := by
  unfold ringFollow
  (try dsimp only)
  repeat' first
    | with_reducible assumption
    | (with_reducible refine covers_tr hm ?_; decide)
    | with_reducible apply setSess_keeps
    | intro _
    | split

theorem ringSync_keeps (hm : covers 3355443200 m) {s : ℕ} {d : Dev} (h_d : Keeps m d0 d) :
    Keeps m d0 (ringSync s d) := by
  unfold ringSync
  (try dsimp only)
  repeat' first
    | with_reducible assumption
    | (with_reducible refine covers_tr hm ?_; decide)
    | with_reducible apply trimCapture_keeps
    | with_reducible apply ringFollow_keeps
    | intro _
    | split

theorem setLib_keeps (hm : covers 549755813888 m) {t : ℕ} {e : ℕ} {x : LibEntry} {d : Dev} (h_d : Keeps m d0 d) :
    Keeps m d0 (setLib t e x d) := by
  unfold setLib
  (try dsimp only)
  repeat' first
    | with_reducible assumption
    | (with_reducible refine covers_tr hm ?_; decide)
    | with_reducible exact id
    | with_reducible exact rising_put
    | with_reducible exact rising_upd
    | with_reducible exact rising_set
    | with_reducible exact rising_erase
    | with_reducible exact rising_filter
    | with_reducible exact rising_tabFilter
    | with_reducible exact rising_map
    | with_reducible exact rising_to_nil
    | with_reducible exact rising_erase_two
    | simp only [keeps_mk]
    | with_reducible apply Keeps.set_lib
    | intro _
    | split

theorem libState_keeps (hm : covers 549755820308 m) {t : ℕ} {e : ℕ} {x : LibEntry} {d : Dev} (h_d : Keeps m d0 d) :
    Keeps m d0 (libState t e x d) := by
  unfold libState
  (try dsimp only)
  repeat' first
    | with_reducible assumption
    | (with_reducible refine covers_tr hm ?_; decide)
    | with_reducible apply postEvent_keeps
    | with_reducible apply setLib_keeps
    | intro _
    | split

theorem toLibrary_keeps (hm : covers 1073741824 m) {keys : List ℕ} {t : ℕ} {e : ℕ} {d : Dev} (h_d : Keeps m d0 d) :
    Keeps m d0 (toLibrary keys t e d) := by
  unfold toLibrary
  (try dsimp only)
  repeat' first
    | with_reducible assumption
    | (with_reducible refine covers_tr hm ?_; decide)
    | with_reducible apply nextGen_keeps
    | with_reducible apply reuse_keeps
    | with_reducible apply forEach_keeps
    | intro _
    | split

theorem applyFreeze_keeps (hm : covers 553111263508 m) {s : ℕ} {z : Freeze} {d : Dev} (h_d : Keeps m d0 d) :
    Keeps m d0 (applyFreeze s z d) := by
  unfold applyFreeze
  (try dsimp only)
  repeat' first
    | with_reducible assumption
    | (with_reducible refine covers_tr hm ?_; decide)
    | with_reducible apply postTenant_keeps
    | with_reducible apply libState_keeps
    | with_reducible apply releaseUse_keeps
    | with_reducible apply toLibrary_keeps
    | with_reducible apply reuse_keeps
    | with_reducible apply setSess_keeps
    | intro _
    | split

theorem applyFreezes_keeps (hm : covers 553111263508 m) {d : Dev} (h_d : Keeps m d0 d) :
    Keeps m d0 (applyFreezes d) := by
  unfold applyFreezes
  (try dsimp only)
  repeat' first
    | with_reducible assumption
    | (with_reducible refine covers_tr hm ?_; decide)
    | with_reducible apply applyFreeze_keeps
    | with_reducible apply setSess_keeps
    | with_reducible apply forEach_keeps
    | intro _
    | split

theorem countExport_keeps (hm : covers 4 m) {t : ℕ} {e : ℕ} {d : Dev} (h_d : Keeps m d0 d) :
    Keeps m d0 (countExport t e d) := by
  unfold countExport
  (try dsimp only)
  repeat' first
    | with_reducible assumption
    | (with_reducible refine covers_tr hm ?_; decide)
    | with_reducible apply objSet_keeps
    | intro _
    | split

theorem memWrite_keeps (hm : covers 2147483648 m) {n a v : Nat} {d : Dev} (h : Keeps m d0 d) : Keeps m d0 (memWrite n a v d) := by
  induction n generalizing a v d with
  | zero => exact h
  | succ n ih => exact ih (Keeps.set_mem hm (fun q => mem_set q (Nat.mod_lt _ (by decide))) h).keeps

theorem capture_keeps (hm : covers 134217732 m) {s : ℕ} {x : CapEntry} {d : Dev} (h_d : Keeps m d0 d) :
    Keeps m d0 (capture s x d) := by
  unfold capture
  (try dsimp only)
  repeat' first
    | with_reducible assumption
    | (with_reducible refine covers_tr hm ?_; decide)
    | with_reducible apply setSess_keeps
    | with_reducible apply objCount_keeps
    | intro _
    | split

/-! ## Units -/

theorem setLining_keeps (hm : covers 1099511627776 m) {l : ℕ} {x : Lining} {d : Dev} (h_d : Keeps m d0 d) :
    Keeps m d0 (setLining l x d) := by
  unfold setLining
  (try dsimp only)
  repeat' first
    | with_reducible assumption
    | (with_reducible refine covers_tr hm ?_; decide)
    | with_reducible exact id
    | with_reducible exact rising_put
    | with_reducible exact rising_upd
    | with_reducible exact rising_set
    | with_reducible exact rising_erase
    | with_reducible exact rising_filter
    | with_reducible exact rising_tabFilter
    | with_reducible exact rising_map
    | with_reducible exact rising_to_nil
    | with_reducible exact rising_erase_two
    | simp only [keeps_mk]
    | with_reducible apply Keeps.set_linings
    | intro _
    | split

theorem setTile_keeps (hm : covers 8589934592 m) {t : ℕ} {x : Tile} {d : Dev} (h_d : Keeps m d0 d) :
    Keeps m d0 (setTile t x d) := by
  unfold setTile
  (try dsimp only)
  repeat' first
    | with_reducible assumption
    | (with_reducible refine covers_tr hm ?_; decide)
    | with_reducible exact id
    | with_reducible exact rising_put
    | with_reducible exact rising_upd
    | with_reducible exact rising_set
    | with_reducible exact rising_erase
    | with_reducible exact rising_filter
    | with_reducible exact rising_tabFilter
    | with_reducible exact rising_map
    | with_reducible exact rising_to_nil
    | with_reducible exact rising_erase_two
    | simp only [keeps_mk]
    | with_reducible apply Keeps.set_tiles
    | intro _
    | split

theorem updTile_keeps (hm : covers 8589934592 m) {t : ℕ} {f : Tile → Tile} {d : Dev} (h_d : Keeps m d0 d) :
    Keeps m d0 (updTile t f d) := by
  unfold updTile
  (try dsimp only)
  repeat' first
    | with_reducible assumption
    | (with_reducible refine covers_tr hm ?_; decide)
    | with_reducible apply setTile_keeps
    | intro _
    | split

theorem reserveSpares_keeps (hm : covers 8589934592 m) {n : ℕ} {d : Dev} (h_d : Keeps m d0 d) :
    Keeps m d0 (reserveSpares n d) := by
  unfold reserveSpares
  (try dsimp only)
  repeat' first
    | with_reducible assumption
    | (with_reducible refine covers_tr hm ?_; decide)
    | with_reducible apply updTile_keeps
    | with_reducible apply forEach_keeps
    | intro _
    | split

theorem updLining_keeps (hm : covers 1099511627776 m) {l : ℕ} {f : Lining → Lining} {d : Dev} (h_d : Keeps m d0 d) :
    Keeps m d0 (updLining l f d) := by
  unfold updLining
  (try dsimp only)
  repeat' first
    | with_reducible assumption
    | (with_reducible refine covers_tr hm ?_; decide)
    | with_reducible apply setLining_keeps
    | intro _
    | split

theorem sparesShown_keeps (hm : covers 8589934592 m) {d : Dev} (h_d : Keeps m d0 d) :
    Keeps m d0 (sparesShown d) := by
  unfold sparesShown
  (try dsimp only)
  repeat' first
    | with_reducible assumption
    | (with_reducible refine covers_tr hm ?_; decide)
    | with_reducible apply updTile_keeps
    | with_reducible apply forEach_keeps
    | intro _
    | split

/-! ## Frames -/

theorem markEarly_keeps (hm : covers 4294967300 m) {s : ℕ} {n : ℕ} {d : Dev} (h_d : Keeps m d0 d) :
    Keeps m d0 (markEarly s n d) := by
  unfold markEarly
  (try dsimp only)
  repeat' first
    | with_reducible assumption
    | (with_reducible refine covers_tr hm ?_; decide)
    | with_reducible apply objCount_keeps
    | with_reducible apply setStream_keeps
    | intro _
    | split

theorem settle_keeps (hm : covers 134217728 m) {s : ℕ} {d : Dev} (h_d : Keeps m d0 d) :
    Keeps m d0 (settle s d) := by
  unfold settle
  (try dsimp only)
  repeat' first
    | with_reducible assumption
    | (with_reducible refine covers_tr hm ?_; decide)
    | with_reducible apply setSess_keeps
    | intro _
    | split

theorem startMezz_keeps (hm : covers 4294967296 m) {s : ℕ} {n : ℕ} {d : Dev} (h_d : Keeps m d0 d) :
    Keeps m d0 (startMezz s n d) := by
  unfold startMezz
  (try dsimp only)
  repeat' first
    | with_reducible assumption
    | (with_reducible refine covers_tr hm ?_; decide)
    | with_reducible apply pruneRecons_keeps
    | with_reducible apply setStream_keeps
    | intro _
    | split

theorem startLive_keeps (hm : covers 4429185028 m) {s : ℕ} {n : ℕ} {d : Dev} (h_d : Keeps m d0 d) :
    Keeps m d0 (startLive s n d) := by
  unfold startLive
  (try dsimp only)
  repeat' first
    | with_reducible assumption
    | (with_reducible refine covers_tr hm ?_; decide)
    | with_reducible apply settle_keeps
    | with_reducible apply pruneRecons_keeps
    | with_reducible apply setStream_keeps
    | with_reducible apply setSess_keeps
    | with_reducible apply objSet_keeps
    | with_reducible apply objCount_keeps
    | with_reducible apply spectatorAt_keeps
    | with_reducible apply updStream_keeps
    | with_reducible apply forEach_keeps
    | intro _
    | split

theorem syncMezz_keeps (hm : covers 4294967296 m) {s : ℕ} {d : Dev} (h_d : Keeps m d0 d) :
    Keeps m d0 (syncMezz s d) := by
  unfold syncMezz
  (try dsimp only)
  repeat' first
    | with_reducible assumption
    | (with_reducible refine covers_tr hm ?_; decide)
    | with_reducible apply updStream_keeps
    | intro _
    | split

/-! ## Rate -/

theorem asStarted_keeps (hm : covers 4429185028 m) {d : Dev} {sid : ℕ} {c : ℕ} {n : ℕ} (h_d : Keeps m d0 d) :
    Keeps m d0 (asStarted d sid c n) := by
  unfold asStarted
  (try dsimp only)
  repeat' first
    | with_reducible assumption
    | (with_reducible refine covers_tr hm ?_; decide)
    | with_reducible apply startMezz_keeps
    | with_reducible apply startLive_keeps
    | intro _
    | split

theorem restoreQ_keeps (hm : covers 4294967296 m) {d : Dev} {sid : ℕ} {a : List (ℕ × ℕ × ℕ)} (h_d : Keeps m d0 d) :
    Keeps m d0 (restoreQ d sid a) := by
  induction a generalizing d sid with
  | nil => exact h_d
  | cons x t ih =>
    unfold restoreQ
    repeat' first
      | with_reducible assumption
      | (with_reducible refine covers_tr hm ?_; decide)
      | with_reducible apply ih
      | with_reducible apply updStream_keeps
      | intro _
      | split

theorem updPlanFrame_keeps (hm : covers 4294967296 m) {sid : ℕ} {c : ℕ} {g : Frame → Frame} {d : Dev} (h_d : Keeps m d0 d) :
    Keeps m d0 (updPlanFrame sid c g d) := by
  unfold updPlanFrame
  (try dsimp only)
  repeat' first
    | with_reducible assumption
    | (with_reducible refine covers_tr hm ?_; decide)
    | with_reducible apply updFrame_keeps
    | with_reducible apply updStream_keeps
    | intro _
    | split

theorem discardPlan_keeps (hm : covers 4294967296 m) {e : ℕ × ℕ × ℕ} {d : Dev} (h_d : Keeps m d0 d) :
    Keeps m d0 (discardPlan e d) := by
  unfold discardPlan
  (try dsimp only)
  repeat' first
    | with_reducible assumption
    | (with_reducible refine covers_tr hm ?_; decide)
    | with_reducible apply updPlanFrame_keeps
    | intro _
    | split

theorem discardPlans_keeps (hm : covers 21474836480 m) {d : Dev} (h_d : Keeps m d0 d) :
    Keeps m d0 (discardPlans d) := by
  unfold discardPlans
  (try dsimp only)
  repeat' first
    | with_reducible assumption
    | (with_reducible refine covers_tr hm ?_; decide)
    | with_reducible apply restoreQ_keeps
    | with_reducible apply discardPlan_keeps
    | with_reducible apply forEach_keeps
    | with_reducible exact id
    | with_reducible exact rising_put
    | with_reducible exact rising_upd
    | with_reducible exact rising_set
    | with_reducible exact rising_erase
    | with_reducible exact rising_filter
    | with_reducible exact rising_tabFilter
    | with_reducible exact rising_map
    | with_reducible exact rising_to_nil
    | with_reducible exact rising_erase_two
    | simp only [keeps_mk]
    | with_reducible apply Keeps.set_loom
    | intro _
    | split

theorem kappaUpdate_keeps (hm : covers 4294967328 m) {sid : ℕ} {b1 : Band} {d : Dev} (h_d : Keeps m d0 d) :
    Keeps m d0 (kappaUpdate sid b1 d) := by
  unfold kappaUpdate
  (try dsimp only)
  repeat' first
    | with_reducible assumption
    | (with_reducible refine covers_tr hm ?_; decide)
    | with_reducible apply freeNext_keeps
    | with_reducible apply updStream_keeps
    | intro _
    | split

theorem setBudget_keeps (hm : covers 4294967296 m) {p : Dev} {sid : ℕ} {c : ℕ} {f : Frame} {d : Dev} (h_p : Keeps m d0 p) (h_d : Keeps m d0 d) :
    Keeps m d0 (setBudget p sid c f d) := by
  unfold setBudget
  (try dsimp only)
  repeat' first
    | with_reducible assumption
    | (with_reducible refine covers_tr hm ?_; decide)
    | with_reducible apply updStream_keeps
    | with_reducible apply updPlanFrame_keeps
    | intro _
    | split

theorem enterPlan_keeps (hm : covers 21609054212 m) {sid : ℕ} {c : ℕ} {b2 : ℕ} {pl : Plan} {d : Dev} (h_d : Keeps m d0 d) :
    Keeps m d0 (enterPlan sid c b2 pl d) := by
  unfold enterPlan
  (try dsimp only)
  repeat' first
    | with_reducible assumption
    | (with_reducible refine covers_tr hm ?_; decide)
    | with_reducible apply updPlanFrame_keeps
    | with_reducible apply updStream_keeps
    | with_reducible apply updDest_keeps
    | with_reducible apply objCount_keeps
    | with_reducible apply forEach_keeps
    | with_reducible exact id
    | with_reducible exact rising_put
    | with_reducible exact rising_upd
    | with_reducible exact rising_set
    | with_reducible exact rising_erase
    | with_reducible exact rising_filter
    | with_reducible exact rising_tabFilter
    | with_reducible exact rising_map
    | with_reducible exact rising_to_nil
    | with_reducible exact rising_erase_two
    | simp only [keeps_mk]
    | with_reducible apply Keeps.set_loom
    | intro _
    | split

theorem planBand_keeps (hm : covers 21609054212 m) {sid : ℕ} {c : ℕ} {b2 : ℕ} {n : ℕ} {d : Dev} (h_d : Keeps m d0 d) :
    Keeps m d0 (planBand sid c b2 n d) := by
  unfold planBand
  (try dsimp only)
  repeat' first
    | with_reducible assumption
    | (with_reducible refine covers_tr hm ?_; decide)
    | with_reducible apply asStarted_keeps
    | with_reducible apply setBudget_keeps
    | with_reducible apply enterPlan_keeps
    | with_reducible apply objCount_keeps
    | intro _
    | split

/-! ## Egress -/

theorem updPkt_keeps (hm : covers 134217728 m) {s : ℕ} {i : ℕ} {f : PktRec → PktRec} {d : Dev} (h_d : Keeps m d0 d) :
    Keeps m d0 (updPkt s i f d) := by
  unfold updPkt
  (try dsimp only)
  repeat' first
    | with_reducible assumption
    | (with_reducible refine covers_tr hm ?_; decide)
    | with_reducible apply setSess_keeps
    | intro _
    | split

theorem updCopy_keeps (hm : covers 134217728 m) {s : ℕ} {i : ℕ} {e : ℕ} {f : CopySt → CopySt} {a : Dev} (h_a : Keeps m d0 a) :
    Keeps m d0 (updCopy s i e f a) := by
  unfold updCopy
  (try dsimp only)
  repeat' first
    | with_reducible assumption
    | (with_reducible refine covers_tr hm ?_; decide)
    | with_reducible apply updPkt_keeps
    | intro _
    | split

theorem markSent_keeps (hm : covers 134217728 m) {k : Pkt} {d : Dev} (h_d : Keeps m d0 d) :
    Keeps m d0 (markSent k d) := by
  unfold markSent
  (try dsimp only)
  repeat' first
    | with_reducible assumption
    | (with_reducible refine covers_tr hm ?_; decide)
    | with_reducible apply updCopy_keeps
    | with_reducible apply setSess_keeps
    | intro _
    | split

theorem discardQueues_keeps (hm : covers 275012124676 m) {p : ℕ} {d : Dev} (h_d : Keeps m d0 d) :
    Keeps m d0 (discardQueues p d) := by
  unfold discardQueues
  (try dsimp only)
  repeat' first
    | with_reducible assumption
    | (with_reducible refine covers_tr hm ?_; decide)
    | with_reducible apply markSent_keeps
    | with_reducible apply objCount_keeps
    | with_reducible apply setPort_keeps
    | with_reducible apply forEach_keeps
    | intro _
    | split

theorem enterClass_keeps (hm : covers 275012124677 m) {p : ℕ} {c : ℕ} {k : Pkt} {d : Dev} (h_d : Keeps m d0 d) :
    Keeps m d0 (enterClass p c k d) := by
  unfold enterClass
  (try dsimp only)
  repeat' first
    | with_reducible assumption
    | (with_reducible refine covers_tr hm ?_; decide)
    | with_reducible apply setClassQueue_keeps
    | with_reducible apply discardQueues_keeps
    | with_reducible apply regSet_keeps
    | intro _
    | split

theorem enterFirst_keeps (hm : covers 275012124677 m) {p : ℕ} {c : ℕ} {k : Pkt} {d : Dev} (h_d : Keeps m d0 d) :
    Keeps m d0 (enterFirst p c k d) := by
  unfold enterFirst
  (try dsimp only)
  repeat' first
    | with_reducible assumption
    | (with_reducible refine covers_tr hm ?_; decide)
    | with_reducible apply enterClass_keeps
    | with_reducible apply setClassQueue_keeps
    | intro _
    | split

theorem gateExpiry_keeps (hm : covers 274877906944 m) {p : ℕ} {d : Dev} (h_d : Keeps m d0 d) :
    Keeps m d0 (gateExpiry p d) := by
  unfold gateExpiry
  (try dsimp only)
  repeat' first
    | with_reducible assumption
    | (with_reducible refine covers_tr hm ?_; decide)
    | with_reducible apply setPort_keeps
    | intro _
    | split

theorem storeExpiry_keeps (hm : covers 134217728 m) {s : ℕ} {d : Dev} (h_d : Keeps m d0 d) :
    Keeps m d0 (storeExpiry s d) := by
  unfold storeExpiry
  (try dsimp only)
  repeat' first
    | with_reducible assumption
    | (with_reducible refine covers_tr hm ?_; decide)
    | with_reducible apply setSess_keeps
    | intro _
    | split

theorem takeLayer0_keeps (hm : covers 134217728 m) {s : ℕ} {c : ℕ} {e : ℕ} {d : Dev} (h_d : Keeps m d0 d) :
    Keeps m d0 (takeLayer0 s c e d) := by
  unfold takeLayer0
  (try dsimp only)
  repeat' first
    | with_reducible assumption
    | (with_reducible refine covers_tr hm ?_; decide)
    | with_reducible apply updDest_keeps
    | intro _
    | split

theorem passHead_keeps (hm : covers 275012124677 m) {s : ℕ} {e : ℕ} {k : Pkt} {d : Dev} (h_d : Keeps m d0 d) :
    Keeps m d0 (passHead s e k d) := by
  unfold passHead
  (try dsimp only)
  repeat' first
    | with_reducible assumption
    | (with_reducible refine covers_tr hm ?_; decide)
    | with_reducible apply enterClass_keeps
    | with_reducible apply setDest_keeps
    | intro _
    | split

theorem passLoop_keeps (hm : covers 275012124677 m) {dests : List (ℕ × ℕ)} {a : ℕ} {a2 : Dev} (h_a2 : Keeps m d0 a2) :
    Keeps m d0 (passLoop dests a a2) := by
  induction a generalizing dests a2 with
  | zero => exact h_a2
  | succ k ih =>
    unfold passLoop
    repeat' first
      | with_reducible assumption
      | (with_reducible refine covers_tr hm ?_; decide)
      | with_reducible apply ih
      | with_reducible apply passHead_keeps
      | intro _
      | split

theorem passAll_keeps (hm : covers 275012124677 m) {d : Dev} (h_d : Keeps m d0 d) :
    Keeps m d0 (passAll d) := by
  unfold passAll
  (try dsimp only)
  repeat' first
    | with_reducible assumption
    | (with_reducible refine covers_tr hm ?_; decide)
    | with_reducible apply passLoop_keeps
    | intro _
    | split

theorem exportFill_keeps (hm : covers 824767938565 m) {t e n : Nat} {d : Dev} (h : Keeps m d0 d) : Keeps m d0 (exportFill t e n d) := by
  induction n generalizing d with
  | zero => exact h
  | succ n ih =>
    unfold exportFill
    dsimp only
    split
    · exact h
    · exact ih (enterClass_keeps (covers_tr hm (by decide)) (setLib_keeps (covers_tr hm (by decide)) h))

theorem exportPump_keeps (hm : covers 824767944981 m) {d : Dev} (h_d : Keeps m d0 d) :
    Keeps m d0 (exportPump d) := by
  unfold exportPump
  (try dsimp only)
  repeat' first
    | with_reducible assumption
    | (with_reducible refine covers_tr hm ?_; decide)
    | with_reducible apply exportFill_keeps
    | with_reducible apply libState_keeps
    | with_reducible apply forEach_keeps
    | intro _
    | split

theorem pushStamp_keeps (hm : covers 274877906948 m) {p : ℕ} {ty : ℕ} {seq : ℕ} {t : ℕ} {d : Dev} (h_d : Keeps m d0 d) :
    Keeps m d0 (pushStamp p ty seq t d) := by
  unfold pushStamp
  (try dsimp only)
  repeat' first
    | with_reducible assumption
    | (with_reducible refine covers_tr hm ?_; decide)
    | with_reducible apply objCount_keeps
    | with_reducible exact id
    | with_reducible exact rising_put
    | with_reducible exact rising_upd
    | with_reducible exact rising_set
    | with_reducible exact rising_erase
    | with_reducible exact rising_filter
    | with_reducible exact rising_tabFilter
    | with_reducible exact rising_map
    | with_reducible exact rising_to_nil
    | with_reducible exact rising_erase_two
    | simp only [keeps_mk]
    | with_reducible apply Keeps.set_pke
    | intro _
    | split

theorem onSend_keeps (hm : covers 824767944981 m) {p : ℕ} {k : Pkt} {fin : ℕ} {d : Dev} (h_d : Keeps m d0 d) :
    Keeps m d0 (onSend p k fin d) := by
  unfold onSend
  (try dsimp only)
  repeat' first
    | with_reducible assumption
    | (with_reducible refine covers_tr hm ?_; decide)
    | with_reducible apply markSent_keeps
    | with_reducible apply updDest_keeps
    | with_reducible apply objMax_keeps
    | with_reducible apply exportPump_keeps
    | with_reducible apply pushStamp_keeps
    | intro _
    | split

theorem makeRoom_keeps (hm : covers 134217728 m) {s : ℕ} {room : ℕ} {need : ℕ} {a : List (ℕ × PktRec)} {a4 : Dev} (h_a4 : Keeps m d0 a4) :
    Keeps m d0 (makeRoom s room need a a4) := by
  induction a generalizing s room need a4 with
  | nil => exact h_a4
  | cons x t ih =>
    unfold makeRoom
    repeat' first
      | with_reducible assumption
      | (with_reducible refine covers_tr hm ?_; decide)
      | with_reducible apply ih
      | with_reducible apply updPkt_keeps
      | intro _
      | split

theorem deferHead_keeps (hm : covers 274877906945 m) {p : ℕ} {c : ℕ} {d : Dev} (h_d : Keeps m d0 d) :
    Keeps m d0 (deferHead p c d) := by
  unfold deferHead
  (try dsimp only)
  repeat' first
    | with_reducible assumption
    | (with_reducible refine covers_tr hm ?_; decide)
    | with_reducible apply regCount_keeps
    | with_reducible apply setClassQueue_keeps
    | intro _
    | split

theorem selectClass_keeps (hm : covers 274877906945 m) {p : Nat} {l : List Nat} {d : Dev} (h : Keeps m d0 d) :
    Keeps m d0 (selectClass p l d).1 := by
  induction l generalizing d with
  | nil => exact h
  | cons c t ih =>
    unfold selectClass
    split
    · exact ih h
    · exact h
    · exact ih (deferHead_keeps (covers_tr hm (by decide)) h)

theorem gateRestart_keeps (hm : covers 274877906948 m) {d : Dev} (h_d : Keeps m d0 d) :
    Keeps m d0 (gateRestart d) := by
  unfold gateRestart
  (try dsimp only)
  repeat' first
    | with_reducible assumption
    | (with_reducible refine covers_tr hm ?_; decide)
    | with_reducible apply objSet_keeps
    | with_reducible apply setPort_keeps
    | with_reducible apply forEach_keeps
    | intro _
    | split

theorem sendHead_keeps (hm : covers 824767944981 m) {p : ℕ} {c : ℕ} {d : Dev} (h_d : Keeps m d0 d) :
    Keeps m d0 (sendHead p c d) := by
  unfold sendHead
  (try dsimp only)
  repeat' first
    | with_reducible assumption
    | (with_reducible refine covers_tr hm ?_; decide)
    | with_reducible apply setClassQueue_keeps
    | with_reducible apply setPort_keeps
    | with_reducible apply regSet_keeps
    | with_reducible apply objCount_keeps
    | with_reducible apply passAll_keeps
    | with_reducible apply onSend_keeps
    | with_reducible apply emit_keeps
    | intro _
    | split

theorem macSend_keeps (hm : covers 824767944981 m) {p : Nat} {d : Dev} (h : Keeps m d0 d) : Keeps m d0 (macSend p d) := by
  have hs := selectClass_keeps (p := p) (l := classOrder) (covers_tr hm (by decide)) h
  unfold macSend
  split
  · exact h
  · split
    · exact discardQueues_keeps (covers_tr hm (by decide)) h
    · split
      · next e => rw [e] at hs; exact hs
      · next e => rw [e] at hs; exact sendHead_keeps (covers_tr hm (by decide)) hs

theorem execRetransmissionExpiry_keeps {slot : ℕ} {now : ℕ} {s : State} {t : State}
    (ht : execRetransmissionExpiry slot now s = .next t) : Keeps 138412032 s.dev t.dev := by
  have hm : covers 138412032 138412032 := rfl
  refine actOn_keeps (fun d hd => ?_) ht
  (try dsimp only)
  repeat' first
    | with_reducible assumption
    | (with_reducible refine covers_tr hm ?_; decide)
    | with_reducible apply storeExpiry_keeps
    | with_reducible apply atTime_keeps
    | intro _
    | split

theorem enqueueMedia_keeps (hm : covers 134217732 m) {s : ℕ} {e : ℕ} {k : Pkt} {d : Dev} (h_d : Keeps m d0 d) :
    Keeps m d0 (enqueueMedia s e k d) := by
  unfold enqueueMedia
  (try dsimp only)
  repeat' first
    | with_reducible assumption
    | (with_reducible refine covers_tr hm ?_; decide)
    | with_reducible apply markSent_keeps
    | with_reducible apply objCount_keeps
    | with_reducible apply setDest_keeps
    | intro _
    | split

theorem copyTo_keeps (hm : covers 134217732 m) {s : ℕ} {i : ℕ} {k : Pkt} {e : ℕ} {d : Dev} (h_d : Keeps m d0 d) :
    Keeps m d0 (copyTo s i k e d) := by
  unfold copyTo
  (try dsimp only)
  repeat' first
    | with_reducible assumption
    | (with_reducible refine covers_tr hm ?_; decide)
    | with_reducible apply setDest_keeps
    | with_reducible apply updPkt_keeps
    | with_reducible apply enqueueMedia_keeps
    | intro _
    | split

theorem sendCut_keeps (hm : covers 134217732 m) {s : ℕ} {c : ℕ} {b2 : ℕ} {data : ℕ} {last : Bool} {dests : List ℕ} {cut : Cut} {d : Dev} (h_d : Keeps m d0 d) :
    Keeps m d0 (sendCut s c b2 data last dests cut d) := by
  unfold sendCut
  (try dsimp only)
  repeat' first
    | with_reducible assumption
    | (with_reducible refine covers_tr hm ?_; decide)
    | with_reducible apply makeRoom_keeps
    | with_reducible apply setSess_keeps
    | with_reducible apply updPkt_keeps
    | with_reducible apply copyTo_keeps
    | with_reducible apply forEach_keeps
    | intro _
    | split

theorem sendCuts_keeps (hm : covers 134217732 m) {s c k data : Nat} {lastBand : Bool} {dests : List Nat} {l : List Cut} {d : Dev}
    (h : Keeps m d0 d) : Keeps m d0 (sendCuts s c k data lastBand dests l d) := by
  induction l generalizing d with
  | nil => exact h
  | cons x t ih =>
    unfold sendCuts
    split
    · exact h
    · next e => exact sendCut_keeps hm h
    · next e => cases e; exact ih (sendCut_keeps hm h)

theorem sendBand_keeps (hm : covers 279307091973 m) {s : ℕ} {c : ℕ} {b2 : ℕ} {layer : ℕ} {data : ℕ} {cuts : List Cut} {lastBand : Bool} {d : Dev} (h_d : Keeps m d0 d) :
    Keeps m d0 (sendBand s c b2 layer data cuts lastBand d) := by
  unfold sendBand
  (try dsimp only)
  repeat' first
    | with_reducible assumption
    | (with_reducible refine covers_tr hm ?_; decide)
    | with_reducible apply takeLayer0_keeps
    | with_reducible apply sendCuts_keeps
    | with_reducible apply updPast_keeps
    | with_reducible apply passAll_keeps
    | with_reducible apply forEach_keeps
    | intro _
    | split

theorem execGateEntryExpiry_keeps {port : ℕ} {now : ℕ} {s : State} {t : State}
    (ht : execGateEntryExpiry port now s = .next t) : Keeps 274882101248 s.dev t.dev := by
  have hm : covers 274882101248 274882101248 := rfl
  refine actOn_keeps (fun d hd => ?_) ht
  (try dsimp only)
  repeat' first
    | with_reducible assumption
    | (with_reducible refine covers_tr hm ?_; decide)
    | with_reducible apply gateExpiry_keeps
    | with_reducible apply atTime_keeps
    | intro _
    | split

theorem execMacSend_keeps {port : ℕ} {now : ℕ} {s : State} {t : State}
    (ht : execMacSend port now s = .next t) : Keeps 824772139285 s.dev t.dev := by
  have hm : covers 824772139285 824772139285 := rfl
  refine actOn_keeps (fun d hd => ?_) ht
  (try dsimp only)
  repeat' first
    | with_reducible assumption
    | (with_reducible refine covers_tr hm ?_; decide)
    | with_reducible apply macSend_keeps
    | with_reducible apply atTime_keeps
    | intro _
    | split

end Sys2Proof.Machine
end

