-- ==== Sys2Proof/Laws/KeepsUnits.lean ====
section
/-! SUPPORT. One lemma for each function of the block: what it keeps. -/
set_option Elab.async false
set_option autoImplicit false
set_option linter.unusedVariables false
set_option linter.unreachableTactic false
set_option linter.unusedTactic false
set_option linter.unusedSimpArgs false
namespace Sys2Proof.Machine
variable {m : Nat} {d0 : Dev}

/-! ## Mirror -/

theorem setPair_keeps (hm : covers 67108864 m) {x : Pair} {d : Dev} (hx : x.st ≤ 5 ∨ x.st = d.pair.st) (h : Keeps m d0 d) :
    Keeps m d0 (setPair x d) := (Keeps.set_pair hm hx h).keeps

theorem sendMirror_keeps (hm : covers 275079233541 m) {m0 : Sys2Proof.MirrorMsg} {d : Dev} (h_d : Keeps m d0 d) :
    Keeps m d0 (sendMirror m0 d) := by
  unfold sendMirror
  (try dsimp only)
  repeat' first
    | with_reducible assumption
    | (with_reducible refine covers_tr hm ?_; decide)
    | with_reducible apply setPair_keeps
    | with_reducible apply enterFirst_keeps
    | with_reducible apply enterClass_keeps
    | (with_reducible refine Or.inr ?_; with_reducible rfl)
    | (with_reducible refine Or.inl ?_; first | with_reducible rfl | decide | omega)
    | intro _
    | split

theorem sendSeq_keeps (hm : covers 275079233541 m) {s : ℕ} {m1 : Sys2Proof.MirrorMsg} {d : Dev} (h_d : Keeps m d0 d) :
    Keeps m d0 (sendSeq s m1 d) := by
  unfold sendSeq
  (try dsimp only)
  repeat' first
    | with_reducible assumption
    | (with_reducible refine covers_tr hm ?_; decide)
    | with_reducible apply sendMirror_keeps
    | with_reducible apply setSess_keeps
    | intro _
    | split

theorem closeLining_keeps (hm : covers 275079233541 m) {s : ℕ} {d : Dev} (h_d : Keeps m d0 d) :
    Keeps m d0 (closeLining s d) := by
  unfold closeLining
  (try dsimp only)
  repeat' first
    | with_reducible assumption
    | (with_reducible refine covers_tr hm ?_; decide)
    | with_reducible apply sendSeq_keeps
    | with_reducible apply objReset_keeps
    | with_reducible apply setSess_keeps
    | intro _
    | split

theorem askLining_keeps (hm : covers 275079233541 m) {s : ℕ} {d : Dev} (h_d : Keeps m d0 d) :
    Keeps m d0 (askLining s d) := by
  unfold askLining
  (try dsimp only)
  repeat' first
    | with_reducible assumption
    | (with_reducible refine covers_tr hm ?_; decide)
    | with_reducible apply sendMirror_keeps
    | intro _
    | split

theorem tellChanges_keeps (hm : covers 275079233541 m) {s : ℕ} {d : Dev} (h_d : Keeps m d0 d) :
    Keeps m d0 (tellChanges s d) := by
  unfold tellChanges
  (try dsimp only)
  repeat' first
    | with_reducible assumption
    | (with_reducible refine covers_tr hm ?_; decide)
    | with_reducible apply sendSeq_keeps
    | with_reducible apply setSess_keeps
    | intro _
    | split

theorem tellState_keeps (hm : covers 275079233541 m) {s : ℕ} {d : Dev} (h_d : Keeps m d0 d) :
    Keeps m d0 (tellState s d) := by
  unfold tellState
  (try dsimp only)
  repeat' first
    | with_reducible assumption
    | (with_reducible refine covers_tr hm ?_; decide)
    | with_reducible apply sendSeq_keeps
    | intro _
    | split

theorem enterPair_keeps (hm : covers 67108992 m) {n : Nat} {d : Dev} (hn : n ≤ 5) (h : Keeps m d0 d) :
    Keeps m d0 (enterPair n d) := by
  have h1 := setPair_keeps (x := { d.pair with st := n, since := d.tbs.ns }) (covers_tr hm (by decide)) (.inl hn) h
  unfold enterPair
  split
  · exact level_keeps (covers_tr hm (by decide)) h1
  · exact levelEnd_keeps (covers_tr hm (by decide)) h1

theorem mirrorBand_keeps (hm : covers 275079233541 m) {s : ℕ} {start : ℕ} {b2 : Band} {first : ℕ} {count : ℕ} {dests : List ℕ} {d : Dev} (h_d : Keeps m d0 d) :
    Keeps m d0 (mirrorBand s start b2 first count dests d) := by
  unfold mirrorBand
  (try dsimp only)
  repeat' first
    | with_reducible assumption
    | (with_reducible refine covers_tr hm ?_; decide)
    | with_reducible apply sendSeq_keeps
    | with_reducible apply setSess_keeps
    | intro _
    | split

theorem noteChange_keeps (hm : covers 134217728 m) {s : ℕ} {idx : ℕ} {d : Dev} (h_d : Keeps m d0 d) :
    Keeps m d0 (noteChange s idx d) := by
  unfold noteChange
  (try dsimp only)
  repeat' first
    | with_reducible assumption
    | (with_reducible refine covers_tr hm ?_; decide)
    | with_reducible apply setSess_keeps
    | intro _
    | split

theorem announce_keeps (hm : covers 275012124677 m) {p : ℕ} {a : ℕ} {d : Dev} (h_d : Keeps m d0 d) :
    Keeps m d0 (announce p a d) := by
  unfold announce
  (try dsimp only)
  repeat' first
    | with_reducible assumption
    | (with_reducible refine covers_tr hm ?_; decide)
    | with_reducible apply enterClass_keeps
    | intro _
    | split

/-! ## Votes -/

theorem setDom_keeps (hm : covers 2199023255552 m) {k : ℕ} {x : Dom} {d : Dev} (h_d : Keeps m d0 d) :
    Keeps m d0 (setDom k x d) := by
  unfold setDom
  (try dsimp only)
  repeat' first
    | with_reducible assumption
    | (with_reducible refine covers_tr hm ?_; decide)
    | exact Or.inr trivial
    | (with_reducible refine Or.inr ?_; with_reducible rfl)
    | (with_reducible refine Or.inl ?_; first | with_reducible rfl | decide)
    | with_reducible exact id
    | with_reducible exact rising_put
    | with_reducible exact rising_upd
    | with_reducible exact rising_set
    | with_reducible exact rising_erase
    | with_reducible exact rising_filter
    | with_reducible exact rising_tabFilter
    | with_reducible exact rising_map
    | with_reducible exact rising_to_nil
    | with_reducible exact rising_erase_two
    | simp only [keeps_mk]
    | with_reducible apply Keeps.set_pwr
    | intro _
    | split

theorem setOn_keeps (hm : covers 2207613190144 m) {k : ℕ} {v : Bool} {d : Dev} (h_d : Keeps m d0 d) :
    Keeps m d0 (setOn k v d) := by
  unfold setOn
  (try dsimp only)
  repeat' first
    | with_reducible assumption
    | (with_reducible refine covers_tr hm ?_; decide)
    | with_reducible apply updTile_keeps
    | with_reducible apply setDom_keeps
    | intro _
    | split

theorem startStep_keeps (hm : covers 2199023255552 m) {now : ℕ} {k : ℕ} {d : Dev} (h_d : Keeps m d0 d) :
    Keeps m d0 (startStep now k d) := by
  unfold startStep
  (try dsimp only)
  repeat' first
    | with_reducible assumption
    | (with_reducible refine covers_tr hm ?_; decide)
    | with_reducible apply setDom_keeps
    | intro _
    | split

theorem powerSettle_keeps (hm : covers 2199560126464 m) {now : ℕ} {d : Dev} (h_d : Keeps m d0 d) :
    Keeps m d0 (powerSettle now d) := by
  unfold powerSettle
  (try dsimp only)
  repeat' first
    | with_reducible assumption
    | (with_reducible refine covers_tr hm ?_; decide)
    | with_reducible apply setChan_keeps
    | with_reducible apply startStep_keeps
    | with_reducible apply forEach_keeps
    | intro _
    | split

theorem evalPackage_keeps (hm : covers 2199564320768 m) {now : ℕ} {d : Dev} (h_d : Keeps m d0 d) :
    Keeps m d0 (evalPackage now d) := by
  unfold evalPackage
  (try dsimp only)
  repeat' first
    | with_reducible assumption
    | (with_reducible refine covers_tr hm ?_; decide)
    | with_reducible apply powerSettle_keeps
    | exact Or.inr trivial
    | (with_reducible refine Or.inr ?_; with_reducible rfl)
    | (with_reducible refine Or.inl ?_; first | with_reducible rfl | decide)
    | with_reducible exact id
    | with_reducible exact rising_put
    | with_reducible exact rising_upd
    | with_reducible exact rising_set
    | with_reducible exact rising_erase
    | with_reducible exact rising_filter
    | with_reducible exact rising_tabFilter
    | with_reducible exact rising_map
    | with_reducible exact rising_to_nil
    | with_reducible exact rising_erase_two
    | simp only [keeps_mk]
    | with_reducible apply Keeps.set_tbs_pwr
    | intro _
    | split

theorem recomputeVotes_keeps (hm : covers 8589934592 m) {d : Dev} (h_d : Keeps m d0 d) :
    Keeps m d0 (recomputeVotes d) := by
  unfold recomputeVotes
  (try dsimp only)
  repeat' first
    | with_reducible assumption
    | (with_reducible refine covers_tr hm ?_; decide)
    | with_reducible apply updTile_keeps
    | with_reducible apply forEach_keeps
    | intro _
    | split

theorem setPads_keeps (hm : covers 2199560126464 m) {k : ℕ} {v : Bool} {d : Dev} (h_d : Keeps m d0 d) :
    Keeps m d0 (setPads k v d) := by
  unfold setPads
  (try dsimp only)
  repeat' first
    | with_reducible assumption
    | (with_reducible refine covers_tr hm ?_; decide)
    | with_reducible apply setChan_keeps
    | with_reducible apply setDom_keeps
    | intro _
    | split

theorem setWake_keeps (hm : covers 2199564320768 m) {src : ℕ} {now : ℕ} {d : Dev} (h_d : Keeps m d0 d) :
    Keeps m d0 (setWake src now d) := by
  unfold setWake
  (try dsimp only)
  repeat' first
    | with_reducible assumption
    | (with_reducible refine covers_tr hm ?_; decide)
    | with_reducible apply evalPackage_keeps
    | exact Or.inr trivial
    | (with_reducible refine Or.inr ?_; with_reducible rfl)
    | (with_reducible refine Or.inl ?_; first | with_reducible rfl | decide)
    | with_reducible exact id
    | with_reducible exact rising_put
    | with_reducible exact rising_upd
    | with_reducible exact rising_set
    | with_reducible exact rising_erase
    | with_reducible exact rising_filter
    | with_reducible exact rising_tabFilter
    | with_reducible exact rising_map
    | with_reducible exact rising_to_nil
    | with_reducible exact rising_erase_two
    | simp only [keeps_mk]
    | with_reducible apply Keeps.set_pwr
    | intro _
    | split

/-! ## Queues -/

theorem ptrWrite_keeps (hm : covers 65669 m) {who : Sys2Proof.Caller} {key : ℕ} {errs : Dev → List Sys2Proof.Err} {f : Dev → Dev} {d : Dev} (h_f : ∀ (y0 : Dev), Keeps m d0 y0 → Keeps m d0 (f y0)) (h_d : Keeps m d0 d) :
    Keeps m d0 (ptrWrite who key errs f d) := by
  unfold ptrWrite
  (try dsimp only)
  repeat' first
    | with_reducible assumption
    | (with_reducible refine covers_tr hm ?_; decide)
    | with_reducible apply hostGate_keeps
    | with_reducible apply regDrop_keeps
    | with_reducible apply mend_keeps
    | with_reducible apply h_f
    | intro _
    | split

theorem moveHead_keeps (hm : covers 2048 m) {k : ℕ} {value : ℕ} {d : Dev} (h_d : Keeps m d0 d) :
    Keeps m d0 (moveHead k value d) := by
  unfold moveHead
  (try dsimp only)
  repeat' first
    | with_reducible assumption
    | (with_reducible refine covers_tr hm ?_; decide)
    | with_reducible apply setRing_keeps
    | intro _
    | split

theorem execCqHeadWrite_keeps {who : Sys2Proof.Caller} {queue : ℕ} {value : ℕ} {s : State} {t : State}
    (ht : execCqHeadWrite who queue value s = .next t) : Keeps 67717 s.dev t.dev := by
  have hm : covers 67717 67717 := rfl
  refine actOn_keeps (fun d hd => ?_) ht
  (try dsimp only)
  repeat' first
    | with_reducible assumption
    | (with_reducible refine covers_tr hm ?_; decide)
    | with_reducible apply ptrWrite_keeps
    | with_reducible apply moveHead_keeps
    | intro _
    | split

theorem setDmaChan_keeps (hm : covers 8192 m) {c : ℕ} {v : DmaCh} {d : Dev} (h_d : Keeps m d0 d) :
    Keeps m d0 (setDmaChan c v d) := by
  unfold setDmaChan
  (try dsimp only)
  repeat' first
    | with_reducible assumption
    | (with_reducible refine covers_tr hm ?_; decide)
    | with_reducible exact id
    | with_reducible exact rising_put
    | with_reducible exact rising_upd
    | with_reducible exact rising_set
    | with_reducible exact rising_erase
    | with_reducible exact rising_filter
    | with_reducible exact rising_tabFilter
    | with_reducible exact rising_map
    | with_reducible exact rising_to_nil
    | with_reducible exact rising_erase_two
    | simp only [keeps_mk]
    | with_reducible apply Keeps.set_dmaCh
    | intro _
    | split

theorem retire_keeps (hm : covers 10240 m) {c : ℕ} {r : Running} {d : Dev} (h_d : Keeps m d0 d) :
    Keeps m d0 (retire c r d) := by
  unfold retire
  (try dsimp only)
  repeat' first
    | with_reducible assumption
    | (with_reducible refine covers_tr hm ?_; decide)
    | with_reducible apply setDmaChan_keeps
    | with_reducible apply setRing_keeps
    | intro _
    | split

theorem dropEntries_keeps (hm : covers 24576 m) {k : ℕ} {d : Dev} (h_d : Keeps m d0 d) :
    Keeps m d0 (dropEntries k d) := by
  unfold dropEntries
  (try dsimp only)
  repeat' first
    | with_reducible assumption
    | (with_reducible refine covers_tr hm ?_; decide)
    | with_reducible apply forEach_keeps
    | with_reducible exact id
    | with_reducible exact rising_put
    | with_reducible exact rising_upd
    | with_reducible exact rising_set
    | with_reducible exact rising_erase
    | with_reducible exact rising_filter
    | with_reducible exact rising_tabFilter
    | with_reducible exact rising_map
    | with_reducible exact rising_to_nil
    | with_reducible exact rising_erase_two
    | simp only [keeps_mk]
    | with_reducible apply Keeps.set_dmaCh
    | with_reducible apply Keeps.set_recvBufs
    | intro _
    | split

theorem queueReset_keeps (hm : covers 31124 m) {k : ℕ} {cause : ℕ} {d : Dev} (h_d : Keeps m d0 d) :
    Keeps m d0 (queueReset k cause d) := by
  unfold queueReset
  (try dsimp only)
  repeat' first
    | with_reducible assumption
    | (with_reducible refine covers_tr hm ?_; decide)
    | with_reducible apply setRing_keeps
    | with_reducible apply objSet_keeps
    | with_reducible apply dropEntries_keeps
    | with_reducible apply pulse_keeps
    | with_reducible apply postEvent_keeps
    | with_reducible apply setFnQ_keeps
    | with_reducible apply forEach_keeps
    | intro _
    | split

theorem writeCompletion_keeps (hm : covers 31124 m) {r : Running} {entryOk : Bool} {d : Dev} (h_d : Keeps m d0 d) :
    Keeps m d0 (writeCompletion r entryOk d) := by
  unfold writeCompletion
  (try dsimp only)
  repeat' first
    | with_reducible assumption
    | (with_reducible refine covers_tr hm ?_; decide)
    | with_reducible apply queueReset_keeps
    | with_reducible apply emit_keeps
    | with_reducible apply setRing_keeps
    | with_reducible apply raiseEoc_keeps
    | intro _
    | split

theorem descriptorComplete_keeps (hm : covers 31124 m) {c : ℕ} {entryOk : Bool} {d : Dev} (h_d : Keeps m d0 d) :
    Keeps m d0 (descriptorComplete c entryOk d) := by
  unfold descriptorComplete
  (try dsimp only)
  repeat' first
    | with_reducible assumption
    | (with_reducible refine covers_tr hm ?_; decide)
    | with_reducible apply retire_keeps
    | with_reducible apply objCount_keeps
    | with_reducible apply writeCompletion_keeps
    | with_reducible apply raise_keeps
    | intro _
    | split

theorem fetchInto_keeps (hm : covers 16787456 m) {k : ℕ} {c : ℕ} {desc : Sys2Proof.Desc} {d : Dev} (h_d : Keeps m d0 d) :
    Keeps m d0 (fetchInto k c desc d) := by
  unfold fetchInto
  (try dsimp only)
  repeat' first
    | with_reducible assumption
    | (with_reducible refine covers_tr hm ?_; decide)
    | with_reducible apply setRing_keeps
    | with_reducible apply setDmaChan_keeps
    | with_reducible exact id
    | with_reducible exact rising_put
    | with_reducible exact rising_upd
    | with_reducible exact rising_set
    | with_reducible exact rising_erase
    | with_reducible exact rising_filter
    | with_reducible exact rising_tabFilter
    | with_reducible exact rising_map
    | with_reducible exact rising_to_nil
    | with_reducible exact rising_erase_two
    | simp only [keeps_mk]
    | with_reducible apply Keeps.set_rrLast
    | intro _
    | split

theorem descriptorFetch_keeps (hm : covers 16808340 m) {fn : ℕ} {q : ℕ} {c : ℕ} {desc : Sys2Proof.Desc} {fetchOk : Bool} {d : Dev} (h_d : Keeps m d0 d) :
    Keeps m d0 (descriptorFetch fn q c desc fetchOk d) := by
  unfold descriptorFetch
  (try dsimp only)
  repeat' first
    | with_reducible assumption
    | (with_reducible refine covers_tr hm ?_; decide)
    | with_reducible apply setFnQ_keeps
    | with_reducible apply queueReset_keeps
    | with_reducible apply fetchInto_keeps
    | intro _
    | split

theorem execDescriptorComplete_keeps {chan : ℕ} {entryOk : Bool} {now : ℕ} {s : State} {t : State}
    (ht : execDescriptorComplete chan entryOk now s = .next t) : Keeps 4225428 s.dev t.dev := by
  have hm : covers 4225428 4225428 := rfl
  refine actOn_keeps (fun d hd => ?_) ht
  (try dsimp only)
  repeat' first
    | with_reducible assumption
    | (with_reducible refine covers_tr hm ?_; decide)
    | with_reducible apply descriptorComplete_keeps
    | with_reducible apply atTime_keeps
    | intro _
    | split

theorem eqResetClear_keeps (hm : covers 69765 m) {who : Sys2Proof.Caller} {d : Dev} (h_d : Keeps m d0 d) :
    Keeps m d0 (eqResetClear who d) := by
  unfold eqResetClear
  (try dsimp only)
  repeat' first
    | with_reducible assumption
    | (with_reducible refine covers_tr hm ?_; decide)
    | with_reducible apply ptrWrite_keeps
    | with_reducible apply setFnQ_keeps
    | intro _
    | split

theorem queueWrite_keeps (hm : covers 2052 m) {k : ℕ} {v : ℕ} {d : Dev} (h_d : Keeps m d0 d) :
    Keeps m d0 (queueWrite k v d) := by
  unfold queueWrite
  (try dsimp only)
  repeat' first
    | with_reducible assumption
    | (with_reducible refine covers_tr hm ?_; decide)
    | with_reducible apply setRing_keeps
    | with_reducible apply objSet_keeps
    | intro _
    | split

theorem sqTailWrite_keeps (hm : covers 67717 m) {who : Sys2Proof.Caller} {q : ℕ} {value : ℕ} {d : Dev} (h_d : Keeps m d0 d) :
    Keeps m d0 (sqTailWrite who q value d) := by
  unfold sqTailWrite
  (try dsimp only)
  repeat' first
    | with_reducible assumption
    | (with_reducible refine covers_tr hm ?_; decide)
    | with_reducible apply ptrWrite_keeps
    | with_reducible apply setRing_keeps
    | intro _
    | split

theorem execEqHeadWrite_keeps {who : Sys2Proof.Caller} {value : ℕ} {s : State} {t : State}
    (ht : execEqHeadWrite who value s = .next t) : Keeps 67717 s.dev t.dev := by
  have hm : covers 67717 67717 := rfl
  refine act_keeps (fun d hd => ?_) ht
  (try dsimp only)
  repeat' first
    | with_reducible assumption
    | (with_reducible refine covers_tr hm ?_; decide)
    | with_reducible apply ptrWrite_keeps
    | with_reducible apply moveHead_keeps
    | intro _
    | split

theorem execDescriptorFetch_keeps {fn : ℕ} {queue : ℕ} {chan : ℕ} {desc : Sys2Proof.Desc} {fetchOk : Bool} {now : ℕ} {s : State} {t : State}
    (ht : execDescriptorFetch fn queue chan desc fetchOk now s = .next t) : Keeps 21002644 s.dev t.dev := by
  have hm : covers 21002644 21002644 := rfl
  refine actOn_keeps (fun d hd => ?_) ht
  (try dsimp only)
  repeat' first
    | with_reducible assumption
    | (with_reducible refine covers_tr hm ?_; decide)
    | with_reducible apply descriptorFetch_keeps
    | with_reducible apply atTime_keeps
    | intro _
    | split

theorem execEqResetClear_keeps {who : Sys2Proof.Caller} {s : State} {t : State}
    (ht : execEqResetClear who s = .next t) : Keeps 69765 s.dev t.dev := by
  have hm : covers 69765 69765 := rfl
  refine act_keeps (fun d hd => ?_) ht
  (try dsimp only)
  repeat' first
    | with_reducible assumption
    | (with_reducible refine covers_tr hm ?_; decide)
    | with_reducible apply eqResetClear_keeps
    | intro _
    | split

theorem queueOff_keeps (hm : covers 2052 m) {k : ℕ} {d : Dev} (h_d : Keeps m d0 d) :
    Keeps m d0 (queueOff k d) := by
  unfold queueOff
  (try dsimp only)
  repeat' first
    | with_reducible assumption
    | (with_reducible refine covers_tr hm ?_; decide)
    | with_reducible apply setRing_keeps
    | with_reducible apply objReset_keeps
    | intro _
    | split

theorem execSqTailWrite_keeps {who : Sys2Proof.Caller} {queue : ℕ} {value : ℕ} {s : State} {t : State}
    (ht : execSqTailWrite who queue value s = .next t) : Keeps 67717 s.dev t.dev := by
  have hm : covers 67717 67717 := rfl
  refine actOn_keeps (fun d hd => ?_) ht
  (try dsimp only)
  repeat' first
    | with_reducible assumption
    | (with_reducible refine covers_tr hm ?_; decide)
    | with_reducible apply sqTailWrite_keeps
    | intro _
    | split

/-! ## Ingress -/

theorem setPipe_keeps (hm : covers 274877906944 m) {i : ℕ} {x : Pipe} {d : Dev} (h_d : Keeps m d0 d) :
    Keeps m d0 (setPipe i x d) := by
  unfold setPipe
  (try dsimp only)
  repeat' first
    | with_reducible assumption
    | (with_reducible refine covers_tr hm ?_; decide)
    | with_reducible exact id
    | with_reducible exact rising_put
    | with_reducible exact rising_upd
    | with_reducible exact rising_set
    | with_reducible exact rising_erase
    | with_reducible exact rising_filter
    | with_reducible exact rising_tabFilter
    | with_reducible exact rising_map
    | with_reducible exact rising_to_nil
    | with_reducible exact rising_erase_two
    | simp only [keeps_mk]
    | with_reducible apply Keeps.set_pke
    | intro _
    | split

theorem flowChanged_keeps (hm : covers 274877906944 m) {i : ℕ} {g : ℕ} {d : Dev} (h_d : Keeps m d0 d) :
    Keeps m d0 (flowChanged i g d) := by
  unfold flowChanged
  (try dsimp only)
  repeat' first
    | with_reducible assumption
    | (with_reducible refine covers_tr hm ?_; decide)
    | with_reducible apply setPipe_keeps
    | intro _
    | split

theorem flowInsert_keeps (hm : covers 274877913364 m) {i : ℕ} {la : ℕ} {ra : ℕ} {lp : ℕ} {rp : ℕ} {g : ℕ} {d : Dev} (h_d : Keeps m d0 d) :
    Keeps m d0 (flowInsert i la ra lp rp g d) := by
  unfold flowInsert
  (try dsimp only)
  repeat' first
    | with_reducible assumption
    | (with_reducible refine covers_tr hm ?_; decide)
    | with_reducible apply flowChanged_keeps
    | with_reducible apply setPipe_keeps
    | with_reducible apply postEvent_keeps
    | with_reducible apply objCount_keeps
    | with_reducible exact id
    | with_reducible exact rising_put
    | with_reducible exact rising_upd
    | with_reducible exact rising_set
    | with_reducible exact rising_erase
    | with_reducible exact rising_filter
    | with_reducible exact rising_tabFilter
    | with_reducible exact rising_map
    | with_reducible exact rising_to_nil
    | with_reducible exact rising_erase_two
    | simp only [keeps_mk]
    | with_reducible apply Keeps.set_pke
    | intro _
    | split

theorem listDest_keeps (hm : covers 274877913364 m) {s : ℕ} {e : ℕ} {d : Dev} (h_d : Keeps m d0 d) :
    Keeps m d0 (listDest s e d) := by
  unfold listDest
  (try dsimp only)
  repeat' first
    | with_reducible assumption
    | (with_reducible refine covers_tr hm ?_; decide)
    | with_reducible apply flowInsert_keeps
    | with_reducible apply forEach_keeps
    | intro _
    | split

theorem enableDest_keeps (hm : covers 275012131092 m) {s : ℕ} {e : ℕ} {d : Dev} (h_d : Keeps m d0 d) :
    Keeps m d0 (enableDest s e d) := by
  unfold enableDest
  (try dsimp only)
  repeat' first
    | with_reducible assumption
    | (with_reducible refine covers_tr hm ?_; decide)
    | with_reducible apply listDest_keeps
    | with_reducible apply setDest_keeps
    | intro _
    | split

theorem puntFrame_keeps (hm : covers 31124 m) {p : ℕ} {k : ℕ} {f : Sys2Proof.RxFrame} {d : Dev} (h_d : Keeps m d0 d) :
    Keeps m d0 (puntFrame p k f d) := by
  unfold puntFrame
  (try dsimp only)
  repeat' first
    | with_reducible assumption
    | (with_reducible refine covers_tr hm ?_; decide)
    | with_reducible apply objCount_keeps
    | with_reducible apply emit_keeps
    | with_reducible apply setRing_keeps
    | with_reducible apply writeCompletion_keeps
    | with_reducible exact id
    | with_reducible exact rising_put
    | with_reducible exact rising_upd
    | with_reducible exact rising_set
    | with_reducible exact rising_erase
    | with_reducible exact rising_filter
    | with_reducible exact rising_tabFilter
    | with_reducible exact rising_map
    | with_reducible exact rising_to_nil
    | with_reducible exact rising_erase_two
    | simp only [keeps_mk]
    | with_reducible apply Keeps.set_recvBufs
    | intro _
    | split

theorem exceptFrame_keeps (hm : covers 31124 m) {p : ℕ} {k : ℕ} {f : Sys2Proof.RxFrame} {d : Dev} (h_d : Keeps m d0 d) :
    Keeps m d0 (exceptFrame p k f d) := by
  unfold exceptFrame
  (try dsimp only)
  repeat' first
    | with_reducible assumption
    | (with_reducible refine covers_tr hm ?_; decide)
    | with_reducible apply objCount_keeps
    | with_reducible apply puntFrame_keeps
    | intro _
    | split

theorem moveTest_keeps (hm : covers 274877906948 m) {i : ℕ} {s : ℕ} {e : ℕ} {ra : ℕ} {rp : ℕ} {idx : ℕ} {d : Dev} (h_d : Keeps m d0 d) :
    Keeps m d0 (moveTest i s e ra rp idx d) := by
  unfold moveTest
  (try dsimp only)
  repeat' first
    | with_reducible assumption
    | (with_reducible refine covers_tr hm ?_; decide)
    | with_reducible apply objCount_keeps
    | with_reducible exact id
    | with_reducible exact rising_put
    | with_reducible exact rising_upd
    | with_reducible exact rising_set
    | with_reducible exact rising_erase
    | with_reducible exact rising_filter
    | with_reducible exact rising_tabFilter
    | with_reducible exact rising_map
    | with_reducible exact rising_to_nil
    | with_reducible exact rising_erase_two
    | simp only [keeps_mk]
    | with_reducible apply Keeps.set_pke
    | intro _
    | split

theorem feedbackTaken_keeps (hm : covers 275012124676 m) {i : ℕ} {s : ℕ} {e : ℕ} {ra : ℕ} {rp : ℕ} {f : Sys2Proof.RxFrame} {d : Dev} (h_d : Keeps m d0 d) :
    Keeps m d0 (feedbackTaken i s e ra rp f d) := by
  unfold feedbackTaken
  (try dsimp only)
  repeat' first
    | with_reducible assumption
    | (with_reducible refine covers_tr hm ?_; decide)
    | with_reducible apply objCount_keeps
    | with_reducible apply moveTest_keeps
    | with_reducible apply updDest_keeps
    | intro _
    | split

theorem feedbackMiss_keeps (hm : covers 275012155796 m) {p : ℕ} {i : ℕ} {la : ℕ} {ra : ℕ} {lp : ℕ} {rp : ℕ} {f : Sys2Proof.RxFrame} {d : Dev} (h_d : Keeps m d0 d) :
    Keeps m d0 (feedbackMiss p i la ra lp rp f d) := by
  unfold feedbackMiss
  (try dsimp only)
  repeat' first
    | with_reducible assumption
    | (with_reducible refine covers_tr hm ?_; decide)
    | with_reducible apply exceptFrame_keeps
    | with_reducible apply setPipe_keeps
    | with_reducible apply objCount_keeps
    | with_reducible apply flowInsert_keeps
    | with_reducible apply feedbackTaken_keeps
    | intro _
    | split

theorem answerAddr_keeps (hm : covers 275012124677 m) {p : ℕ} {addr : ℕ} {v6 : Bool} {f : Sys2Proof.RxFrame} {d : Dev} (h_d : Keeps m d0 d) :
    Keeps m d0 (answerAddr p addr v6 f d) := by
  unfold answerAddr
  (try dsimp only)
  repeat' first
    | with_reducible assumption
    | (with_reducible refine covers_tr hm ?_; decide)
    | with_reducible apply enterClass_keeps
    | intro _
    | split

theorem learnLog_keeps (hm : covers 4 m) {c : Candidate} {out : ℕ} {d : Dev} (h_d : Keeps m d0 d) :
    Keeps m d0 (learnLog c out d) := by
  unfold learnLog
  (try dsimp only)
  repeat' first
    | with_reducible assumption
    | (with_reducible refine covers_tr hm ?_; decide)
    | with_reducible apply objSet_keeps
    | intro _
    | split

theorem flowTouch_keeps (hm : covers 274877906944 m) {i : ℕ} {la : ℕ} {ra : ℕ} {lp : ℕ} {rp : ℕ} {h : Flow → Flow} {d : Dev} (h_d : Keeps m d0 d) :
    Keeps m d0 (flowTouch i la ra lp rp h d) := by
  unfold flowTouch
  (try dsimp only)
  repeat' first
    | with_reducible assumption
    | (with_reducible refine covers_tr hm ?_; decide)
    | with_reducible apply setPipe_keeps
    | intro _
    | split

theorem feedbackFrame_keeps (hm : covers 275012155796 m) {p : ℕ} {la : ℕ} {ra : ℕ} {lp : ℕ} {rp : ℕ} {f : Sys2Proof.RxFrame} {d : Dev} (h_d : Keeps m d0 d) :
    Keeps m d0 (feedbackFrame p la ra lp rp f d) := by
  unfold feedbackFrame
  (try dsimp only)
  repeat' first
    | with_reducible assumption
    | (with_reducible refine covers_tr hm ?_; decide)
    | with_reducible apply feedbackMiss_keeps
    | with_reducible apply flowTouch_keeps
    | with_reducible apply feedbackTaken_keeps
    | with_reducible apply exceptFrame_keeps
    | with_reducible apply objCount_keeps
    | intro _
    | split

theorem frameReceived_keeps (hm : covers 275012155797 m) {p : ℕ} {f : Sys2Proof.RxFrame} {d : Dev} (h_d : Keeps m d0 d) :
    Keeps m d0 (frameReceived p f d) := by
  unfold frameReceived
  (try dsimp only)
  repeat' first
    | with_reducible assumption
    | (with_reducible refine covers_tr hm ?_; decide)
    | with_reducible apply objCount_keeps
    | with_reducible apply exceptFrame_keeps
    | with_reducible apply answerAddr_keeps
    | with_reducible apply feedbackFrame_keeps
    | intro _
    | split

theorem execFrameReceived_keeps {port : ℕ} {f : Sys2Proof.RxFrame} {now : ℕ} {s : State} {t : State}
    (ht : execFrameReceived port f now s = .next t) : Keeps 275016350101 s.dev t.dev := by
  have hm : covers 275016350101 275016350101 := rfl
  refine actOn_keeps (fun d hd => ?_) ht
  (try dsimp only)
  repeat' first
    | with_reducible assumption
    | (with_reducible refine covers_tr hm ?_; decide)
    | with_reducible apply frameReceived_keeps
    | with_reducible apply atTime_keeps
    | intro _
    | split

theorem flowRemove_keeps (hm : covers 274877906944 m) {i : ℕ} {la : ℕ} {ra : ℕ} {lp : ℕ} {rp : ℕ} {d : Dev} (h_d : Keeps m d0 d) :
    Keeps m d0 (flowRemove i la ra lp rp d) := by
  unfold flowRemove
  (try dsimp only)
  repeat' first
    | with_reducible assumption
    | (with_reducible refine covers_tr hm ?_; decide)
    | with_reducible apply flowChanged_keeps
    | with_reducible apply setPipe_keeps
    | intro _
    | split

theorem flowApply_keeps (hm : covers 274877913364 m) {v : ℕ} {d : Dev} (h_d : Keeps m d0 d) :
    Keeps m d0 (flowApply v d) := by
  unfold flowApply
  (try dsimp only)
  repeat' first
    | with_reducible assumption
    | (with_reducible refine covers_tr hm ?_; decide)
    | with_reducible apply flowInsert_keeps
    | with_reducible apply flowRemove_keeps
    | with_reducible apply forEach_keeps
    | intro _
    | split

theorem flowCommand_keeps (hm : covers 275154082069 m) {q : Sys2Proof.Req} {v : Sys2Proof.Payload} {d : Dev} (h_d : Keeps m d0 d) :
    Keeps m d0 (flowCommand q v d) := by
  unfold flowCommand
  (try dsimp only)
  repeat' first
    | with_reducible assumption
    | (with_reducible refine covers_tr hm ?_; decide)
    | with_reducible apply perform_keeps
    | with_reducible apply flowApply_keeps
    | intro _
    | split

theorem execFlowRemove_keeps {q : Sys2Proof.Req} {v : Sys2Proof.Payload} {s : State} {t : State}
    (ht : execFlowRemove q v s = .next t) : Keeps 275154082069 s.dev t.dev := by
  have hm : covers 275154082069 275154082069 := rfl
  refine act_keeps (fun d hd => ?_) ht
  (try dsimp only)
  repeat' first
    | with_reducible assumption
    | (with_reducible refine covers_tr hm ?_; decide)
    | with_reducible apply flowCommand_keeps
    | intro _
    | split

theorem agingVisit_keeps (hm : covers 274877906944 m) {i : ℕ} {d : Dev} (h_d : Keeps m d0 d) :
    Keeps m d0 (agingVisit i d) := by
  unfold agingVisit
  (try dsimp only)
  repeat' first
    | with_reducible assumption
    | (with_reducible refine covers_tr hm ?_; decide)
    | with_reducible apply setPipe_keeps
    | intro _
    | split

theorem unlistDest_keeps (hm : covers 274877906944 m) {s : ℕ} {e : ℕ} {src : ℕ} {sport : ℕ} {d : Dev} (h_d : Keeps m d0 d) :
    Keeps m d0 (unlistDest s e src sport d) := by
  unfold unlistDest
  (try dsimp only)
  repeat' first
    | with_reducible assumption
    | (with_reducible refine covers_tr hm ?_; decide)
    | with_reducible apply flowRemove_keeps
    | intro _
    | split

theorem takeKey_keeps (hm : covers 134217728 m) {s : ℕ} {e : ℕ} {d : Dev} (h_d : Keeps m d0 d) :
    Keeps m d0 (takeKey s e d) := by
  unfold takeKey
  (try dsimp only)
  repeat' first
    | with_reducible assumption
    | (with_reducible refine covers_tr hm ?_; decide)
    | with_reducible apply updDest_keeps
    | intro _
    | split

theorem moveDest_keeps (hm : covers 275012131092 m) {c : Candidate} {d : Dev} (h_d : Keeps m d0 d) :
    Keeps m d0 (moveDest c d) := by
  unfold moveDest
  (try dsimp only)
  repeat' first
    | with_reducible assumption
    | (with_reducible refine covers_tr hm ?_; decide)
    | with_reducible apply updDest_keeps
    | with_reducible apply flowRemove_keeps
    | with_reducible apply flowInsert_keeps
    | intro _
    | split

theorem disableDest_keeps (hm : covers 278233350144 m) {s : ℕ} {e : ℕ} {old : ℕ} {d : Dev} (h_d : Keeps m d0 d) :
    Keeps m d0 (disableDest s e old d) := by
  unfold disableDest
  (try dsimp only)
  repeat' first
    | with_reducible assumption
    | (with_reducible refine covers_tr hm ?_; decide)
    | with_reducible apply unlistDest_keeps
    | with_reducible apply releaseUse_keeps
    | with_reducible apply setDest_keeps
    | intro _
    | split

theorem applyDest_keeps (hm : covers 278233356564 m) {s : ℕ} {e : ℕ} {old : ℕ} {d : Dev} (h_d : Keeps m d0 d) :
    Keeps m d0 (applyDest s e old d) := by
  unfold applyDest
  (try dsimp only)
  repeat' first
    | with_reducible assumption
    | (with_reducible refine covers_tr hm ?_; decide)
    | with_reducible apply takeKey_keeps
    | with_reducible apply enableDest_keeps
    | with_reducible apply unlistDest_keeps
    | with_reducible apply listDest_keeps
    | with_reducible apply updDest_keeps
    | with_reducible apply disableDest_keeps
    | intro _
    | split

theorem showChanges_keeps (hm : covers 278233356572 m) {d : Dev} (h_d : Keeps m d0 d) :
    Keeps m d0 (showChanges d) := by
  unfold showChanges
  (try dsimp only)
  repeat' first
    | with_reducible assumption
    | (with_reducible refine covers_tr hm ?_; decide)
    | with_reducible apply applyDest_keeps
    | with_reducible apply forEach_keeps
    | with_reducible exact id
    | with_reducible exact rising_put
    | with_reducible exact rising_upd
    | with_reducible exact rising_set
    | with_reducible exact rising_erase
    | with_reducible exact rising_filter
    | with_reducible exact rising_tabFilter
    | with_reducible exact rising_map
    | with_reducible exact rising_to_nil
    | with_reducible exact rising_erase_two
    | simp only [keeps_mk]
    | with_reducible apply Keeps.set_heldStitch_pke
    | intro _
    | split

theorem execFlowInsert_keeps {q : Sys2Proof.Req} {v : Sys2Proof.Payload} {s : State} {t : State}
    (ht : execFlowInsert q v s = .next t) : Keeps 275154082069 s.dev t.dev := by
  have hm : covers 275154082069 275154082069 := rfl
  refine act_keeps (fun d hd => ?_) ht
  (try dsimp only)
  repeat' first
    | with_reducible assumption
    | (with_reducible refine covers_tr hm ?_; decide)
    | with_reducible apply flowCommand_keeps
    | intro _
    | split

theorem execAgingVisit_keeps {pipeline : ℕ} {now : ℕ} {s : State} {t : State}
    (ht : execAgingVisit pipeline now s = .next t) : Keeps 274882101248 s.dev t.dev := by
  have hm : covers 274882101248 274882101248 := rfl
  refine actOn_keeps (fun d hd => ?_) ht
  (try dsimp only)
  repeat' first
    | with_reducible assumption
    | (with_reducible refine covers_tr hm ?_; decide)
    | with_reducible apply agingVisit_keeps
    | with_reducible apply atTime_keeps
    | intro _
    | split

theorem moveReport_keeps (hm : covers 6420 m) {c : Candidate} {out : ℕ} {d : Dev} (h_d : Keeps m d0 d) :
    Keeps m d0 (moveReport c out d) := by
  unfold moveReport
  (try dsimp only)
  repeat' first
    | with_reducible assumption
    | (with_reducible refine covers_tr hm ?_; decide)
    | with_reducible apply objCount_keeps
    | with_reducible apply learnLog_keeps
    | with_reducible apply postTenant_keeps
    | with_reducible apply postEvent_keeps
    | intro _
    | split

/-! ## Failure -/

theorem retireFrames_keeps (hm : covers 4294967296 m) {sid : ℕ} {done : Frame → Bool} {d : Dev} (h_d : Keeps m d0 d) :
    Keeps m d0 (retireFrames sid done d) := by
  unfold retireFrames
  (try dsimp only)
  repeat' first
    | with_reducible assumption
    | (with_reducible refine covers_tr hm ?_; decide)
    | with_reducible apply setStream_keeps
    | intro _
    | split

theorem sendLinState_keeps (hm : covers 275079233541 m) {l : ℕ} {refresh : Bool} {more : List ℕ} {d : Dev} (h_d : Keeps m d0 d) :
    Keeps m d0 (sendLinState l refresh more d) := by
  unfold sendLinState
  (try dsimp only)
  repeat' first
    | with_reducible assumption
    | (with_reducible refine covers_tr hm ?_; decide)
    | with_reducible apply objCount_keeps
    | with_reducible apply sendMirror_keeps
    | intro _
    | split

theorem postLining_keeps (hm : covers 6420 m) {l : ℕ} {kind : ℕ} {detail : ℕ} {d : Dev} (h_d : Keeps m d0 d) :
    Keeps m d0 (postLining l kind detail d) := by
  unfold postLining
  (try dsimp only)
  repeat' first
    | with_reducible assumption
    | (with_reducible refine covers_tr hm ?_; decide)
    | with_reducible apply postEvent_keeps
    | intro _
    | split

theorem linChange_keeps (hm : covers 6420 m) {l : ℕ} {new : ℕ} {cause : ℕ} {d : Dev} (h_d : Keeps m d0 d) :
    Keeps m d0 (linChange l new cause d) := by
  unfold linChange
  (try dsimp only)
  repeat' first
    | with_reducible assumption
    | (with_reducible refine covers_tr hm ?_; decide)
    | with_reducible apply postLining_keeps
    | with_reducible apply objSet_keeps
    | intro _
    | split

theorem liningFrameDone_keeps (hm : covers 1378885835157 m) {l : ℕ} {f : Frame} {d : Dev} (h_d : Keeps m d0 d) :
    Keeps m d0 (liningFrameDone l f d) := by
  unfold liningFrameDone
  (try dsimp only)
  repeat' first
    | with_reducible assumption
    | (with_reducible refine covers_tr hm ?_; decide)
    | with_reducible apply updLining_keeps
    | with_reducible apply retireFrames_keeps
    | with_reducible apply sendLinState_keeps
    | with_reducible apply objSet_keeps
    | with_reducible apply linChange_keeps
    | with_reducible apply pulse_keeps
    | intro _
    | split

theorem liningDoneAt_keeps (hm : covers 1378885835157 m) {l : ℕ} {c : ℕ} {d : Dev} (h_d : Keeps m d0 d) :
    Keeps m d0 (liningDoneAt l c d) := by
  unfold liningDoneAt
  (try dsimp only)
  repeat' first
    | with_reducible assumption
    | (with_reducible refine covers_tr hm ?_; decide)
    | with_reducible apply liningFrameDone_keeps
    | intro _
    | split

theorem concealBand_keeps (hm : covers 4294967296 m) {sid : ℕ} {c : ℕ} {b2 : ℕ} {d : Dev} (h_d : Keeps m d0 d) :
    Keeps m d0 (concealBand sid c b2 d) := by
  unfold concealBand
  (try dsimp only)
  repeat' first
    | with_reducible assumption
    | (with_reducible refine covers_tr hm ?_; decide)
    | with_reducible apply writeRecon_keeps
    | intro _
    | split

theorem loseLinBand_keeps (hm : covers 1378885835157 m) {l : ℕ} {c : ℕ} {b2 : ℕ} {d : Dev} (h_d : Keeps m d0 d) :
    Keeps m d0 (loseLinBand l c b2 d) := by
  unfold loseLinBand
  (try dsimp only)
  repeat' first
    | with_reducible assumption
    | (with_reducible refine covers_tr hm ?_; decide)
    | with_reducible apply liningDoneAt_keeps
    | with_reducible apply updFrame_keeps
    | with_reducible apply updBand_keeps
    | with_reducible apply concealBand_keeps
    | intro _
    | split

theorem degradeLining_keeps (hm : covers 275079239957 m) {l : ℕ} {cause : ℕ} {d : Dev} (h_d : Keeps m d0 d) :
    Keeps m d0 (degradeLining l cause d) := by
  unfold degradeLining
  (try dsimp only)
  repeat' first
    | with_reducible assumption
    | (with_reducible refine covers_tr hm ?_; decide)
    | with_reducible apply sendLinState_keeps
    | with_reducible apply linChange_keeps
    | intro _
    | split

theorem dropFrames_keeps (hm : covers 4294967300 m) {sid : ℕ} {c : ℕ} {d : Dev} (h_d : Keeps m d0 d) :
    Keeps m d0 (dropFrames sid c d) := by
  unfold dropFrames
  (try dsimp only)
  repeat' first
    | with_reducible assumption
    | (with_reducible refine covers_tr hm ?_; decide)
    | with_reducible apply setStream_keeps
    | with_reducible apply markLost_keeps
    | with_reducible apply forEach_keeps
    | intro _
    | split

theorem endSplice_keeps (hm : covers 134224148 m) {s : ℕ} {d : Dev} (h_d : Keeps m d0 d) :
    Keeps m d0 (endSplice s d) := by
  unfold endSplice
  (try dsimp only)
  repeat' first
    | with_reducible assumption
    | (with_reducible refine covers_tr hm ?_; decide)
    | with_reducible apply setSess_keeps
    | with_reducible apply postTenant_keeps
    | intro _
    | split

theorem postState_keeps (hm : covers 6420 m) {s : ℕ} {old : SessSt} {operator : Bool} {d : Dev} (h_d : Keeps m d0 d) :
    Keeps m d0 (postState s old operator d) := by
  unfold postState
  (try dsimp only)
  repeat' first
    | with_reducible assumption
    | (with_reducible refine covers_tr hm ?_; decide)
    | with_reducible apply postTenant_keeps
    | intro _
    | split

theorem suspend_keeps (hm : covers 313733945749 m) {s : ℕ} {cause : ℕ} {d : Dev} (h_d : Keeps m d0 d) :
    Keeps m d0 (suspend s cause d) := by
  unfold suspend
  (try dsimp only)
  repeat' first
    | with_reducible assumption
    | (with_reducible refine covers_tr hm ?_; decide)
    | with_reducible apply tellState_keeps
    | with_reducible apply setSess_keeps
    | with_reducible apply dropUndispatched_keeps
    | with_reducible apply endSplice_keeps
    | with_reducible apply pulse_keeps
    | with_reducible apply postState_keeps
    | intro _
    | split

theorem losePart_keeps (hm : covers 1413245573525 m) {j : Job} {cause : ℕ} {d : Dev} (h_d : Keeps m d0 d) :
    Keeps m d0 (losePart j cause d) := by
  unfold losePart
  (try dsimp only)
  repeat' first
    | with_reducible assumption
    | (with_reducible refine covers_tr hm ?_; decide)
    | with_reducible apply loseLinBand_keeps
    | with_reducible apply degradeLining_keeps
    | with_reducible apply dropFrames_keeps
    | with_reducible apply suspend_keeps
    | intro _
    | split

theorem returnPart_keeps (hm : covers 4294967296 m) {j : Job} {d : Dev} (h_d : Keeps m d0 d) :
    Keeps m d0 (returnPart j d) := by
  unfold returnPart
  (try dsimp only)
  repeat' first
    | with_reducible assumption
    | (with_reducible refine covers_tr hm ?_; decide)
    | with_reducible apply updPart_keeps
    | intro _
    | split

theorem takeStep_keeps (hm : covers 137573177620 m) {s : ℕ} {d : Dev} (h_d : Keeps m d0 d) :
    Keeps m d0 (takeStep s d) := by
  unfold takeStep
  (try dsimp only)
  repeat' first
    | with_reducible assumption
    | (with_reducible refine covers_tr hm ?_; decide)
    | with_reducible apply setSess_keeps
    | with_reducible apply noteChange_keeps
    | with_reducible apply objCount_keeps
    | with_reducible apply postTenant_keeps
    | with_reducible exact id
    | with_reducible exact rising_put
    | with_reducible exact rising_upd
    | with_reducible exact rising_set
    | with_reducible exact rising_erase
    | with_reducible exact rising_filter
    | with_reducible exact rising_tabFilter
    | with_reducible exact rising_map
    | with_reducible exact rising_to_nil
    | with_reducible exact rising_erase_two
    | simp only [keeps_mk]
    | with_reducible apply Keeps.set_ladder
    | intro _
    | split

theorem runLadder_keeps (hm : covers 137573177620 m) {short : ℤ} {d : Dev} (h_d : Keeps m d0 d) :
    OKeeps m d0 (runLadder short d) := by
  unfold runLadder
  (try dsimp only)
  repeat' first
    | with_reducible assumption
    | (with_reducible refine covers_tr hm ?_; decide)
    | with_reducible exact OKeeps.none
    | with_reducible apply OKeeps.some
    | with_reducible apply OKeeps.orElse
    | with_reducible apply OKeeps.map
    | with_reducible apply OKeeps.bind
    | with_reducible apply takeStep_keeps
    | with_reducible apply forEach_keeps
    | intro _
    | split

theorem offerHandover_keeps (hm : covers 275079233541 m) {o : Offer} {d : Dev} (h_d : Keeps m d0 d) :
    Keeps m d0 (offerHandover o d) := by
  unfold offerHandover
  (try dsimp only)
  repeat' first
    | with_reducible assumption
    | (with_reducible refine covers_tr hm ?_; decide)
    | with_reducible apply sendMirror_keeps
    | with_reducible apply setPair_keeps
    | (with_reducible refine Or.inr ?_; with_reducible rfl)
    | (with_reducible refine Or.inl ?_; first | with_reducible rfl | decide | omega)
    | intro _
    | split

theorem activateSpare_keeps (hm : covers 2208150061056 m) {t : ℕ} {j : Job} {d : Dev} (h_d : Keeps m d0 d) :
    Keeps m d0 (activateSpare t j d) := by
  unfold activateSpare
  (try dsimp only)
  repeat' first
    | with_reducible assumption
    | (with_reducible refine covers_tr hm ?_; decide)
    | with_reducible apply powerSettle_keeps
    | with_reducible apply updTile_keeps
    | intro _
    | split

theorem recoverPart_keeps (hm : covers 3758834588053 m) {j : Job} {d : Dev} (h : Keeps m d0 d) : Keeps m d0 (recoverPart j d) := by
  unfold recoverPart
  split
  · split
    · exact activateSpare_keeps (covers_tr hm (by decide)) h
    · split
      · exact returnPart_keeps (covers_tr hm (by decide)) h
      · split
        · next e =>
          refine returnPart_keeps (covers_tr hm (by decide)) ?_
          split at e
          · exact (runLadder_keeps (covers_tr hm (by decide)) h).get _ e
          · cases e
        · exact losePart_keeps (covers_tr hm (by decide)) h
  · dsimp only
    split
    · exact pulse_keeps (covers_tr hm (by decide)) (losePart_keeps (covers_tr hm (by decide)) h)
    · exact losePart_keeps (covers_tr hm (by decide)) h

theorem freeLining_keeps (hm : covers 1175881521428 m) {l : ℕ} {d : Dev} (h_d : Keeps m d0 d) :
    Keeps m d0 (freeLining l d) := by
  unfold freeLining
  (try dsimp only)
  repeat' first
    | with_reducible assumption
    | (with_reducible refine covers_tr hm ?_; decide)
    | with_reducible apply releaseUse_keeps
    | with_reducible apply setStream_keeps
    | with_reducible apply setLining_keeps
    | with_reducible apply setSess_keeps
    | with_reducible apply objReset_keeps
    | with_reducible apply postEvent_keeps
    | with_reducible apply forEach_keeps
    | with_reducible exact id
    | with_reducible exact rising_put
    | with_reducible exact rising_upd
    | with_reducible exact rising_set
    | with_reducible exact rising_erase
    | with_reducible exact rising_filter
    | with_reducible exact rising_tabFilter
    | with_reducible exact rising_map
    | with_reducible exact rising_to_nil
    | with_reducible exact rising_erase_two
    | simp only [keeps_mk]
    | with_reducible apply Keeps.set_linPrm
    | intro _
    | split

theorem hitPart_keeps (hm : covers 3758834588053 m) {t : ℕ} {j : Job} {d : Dev} (h_d : Keeps m d0 d) :
    Keeps m d0 (hitPart t j d) := by
  unfold hitPart
  (try dsimp only)
  repeat' first
    | with_reducible assumption
    | (with_reducible refine covers_tr hm ?_; decide)
    | with_reducible apply recoverPart_keeps
    | with_reducible apply setSess_keeps
    | with_reducible apply offerHandover_keeps
    | intro _
    | split

theorem tileStops_keeps (hm : covers 3776014457237 m) {t : ℕ} {d : Dev} (h_d : Keeps m d0 d) :
    Keeps m d0 (tileStops t d) := by
  unfold tileStops
  (try dsimp only)
  repeat' first
    | with_reducible assumption
    | (with_reducible refine covers_tr hm ?_; decide)
    | with_reducible apply updTile_keeps
    | with_reducible apply returnPart_keeps
    | with_reducible apply hitPart_keeps
    | with_reducible exact id
    | with_reducible exact rising_put
    | with_reducible exact rising_upd
    | with_reducible exact rising_set
    | with_reducible exact rising_erase
    | with_reducible exact rising_filter
    | with_reducible exact rising_tabFilter
    | with_reducible exact rising_map
    | with_reducible exact rising_to_nil
    | with_reducible exact rising_erase_two
    | simp only [keeps_mk]
    | with_reducible apply Keeps.set_loom
    | intro _
    | split

theorem tileFails_keeps (hm : covers 3776014457237 m) {t : ℕ} {d : Dev} (h_d : Keeps m d0 d) :
    Keeps m d0 (tileFails t d) := by
  unfold tileFails
  (try dsimp only)
  repeat' first
    | with_reducible assumption
    | (with_reducible refine covers_tr hm ?_; decide)
    | with_reducible apply tileStops_keeps
    | with_reducible apply objCount_keeps
    | intro _
    | split

theorem countMismatch_keeps (hm : covers 3776014457237 m) {t : ℕ} {d : Dev} (h_d : Keeps m d0 d) :
    Keeps m d0 (countMismatch t d) := by
  unfold countMismatch
  (try dsimp only)
  repeat' first
    | with_reducible assumption
    | (with_reducible refine covers_tr hm ?_; decide)
    | with_reducible apply objCount_keeps
    | with_reducible apply tileFails_keeps
    | with_reducible apply updTile_keeps
    | intro _
    | split

theorem restoreLadder_keeps (hm : covers 137573171200 m) {d : Dev} (h_d : Keeps m d0 d) :
    Keeps m d0 (restoreLadder d) := by
  unfold restoreLadder
  (try dsimp only)
  repeat' first
    | with_reducible assumption
    | (with_reducible refine covers_tr hm ?_; decide)
    | with_reducible apply noteChange_keeps
    | with_reducible apply setSess_keeps
    | with_reducible exact id
    | with_reducible exact rising_put
    | with_reducible exact rising_upd
    | with_reducible exact rising_set
    | with_reducible exact rising_erase
    | with_reducible exact rising_filter
    | with_reducible exact rising_tabFilter
    | with_reducible exact rising_map
    | with_reducible exact rising_to_nil
    | with_reducible exact rising_erase_two
    | simp only [keeps_mk]
    | with_reducible apply Keeps.set_ladder
    | intro _
    | split

/-! ## Coding -/

theorem writeBand_keeps (hm : covers 4294967296 m) {sid : ℕ} {c : ℕ} {b2 : ℕ} {f : Frame} {samples : List ℕ} {above : Bool} {below : Bool} {d : Dev} (h_d : Keeps m d0 d) :
    Keeps m d0 (writeBand sid c b2 f samples above below d) := by
  unfold writeBand
  (try dsimp only)
  repeat' first
    | with_reducible assumption
    | (with_reducible refine covers_tr hm ?_; decide)
    | with_reducible apply writeRecon_keeps
    | with_reducible apply closeSeam_keeps
    | intro _
    | split

theorem markDecoded_keeps (hm : covers 4294967296 m) {sid : ℕ} {c : ℕ} {b2 : ℕ} {f : Frame} {d : Dev} (h_d : Keeps m d0 d) :
    Keeps m d0 (markDecoded sid c b2 f d) := by
  unfold markDecoded
  (try dsimp only)
  repeat' first
    | with_reducible assumption
    | (with_reducible refine covers_tr hm ?_; decide)
    | with_reducible apply updStream_keeps
    | with_reducible apply updFrame_keeps
    | intro _
    | split

theorem countReads_keeps (hm : covers 5 m) {t : ℕ} {f : Frame} {j : Job} {a : Sleeve} {d : Dev} (h_d : Keeps m d0 d) :
    Keeps m d0 (countReads t f j a d) := by
  unfold countReads
  (try dsimp only)
  repeat' first
    | with_reducible assumption
    | (with_reducible refine covers_tr hm ?_; decide)
    | with_reducible apply objCount_keeps
    | with_reducible apply setFld_keeps
    | intro _
    | split

theorem outputBand_keeps (hm : covers 4294967296 m) {sid : ℕ} {c : ℕ} {b2 : ℕ} {f : Frame} {samples : List ℕ} {d : Dev} (h_d : Keeps m d0 d) :
    Keeps m d0 (outputBand sid c b2 f samples d) := by
  unfold outputBand
  (try dsimp only)
  repeat' first
    | with_reducible assumption
    | (with_reducible refine covers_tr hm ?_; decide)
    | with_reducible apply markDecoded_keeps
    | with_reducible apply updStream_keeps
    | intro _
    | split

/-! ## Loom -/

theorem liningCollected_keeps (hm : covers 1378885835157 m) {l : ℕ} {c : ℕ} {d : Dev} (h_d : Keeps m d0 d) :
    Keeps m d0 (liningCollected l c d) := by
  unfold liningCollected
  (try dsimp only)
  repeat' first
    | with_reducible assumption
    | (with_reducible refine covers_tr hm ?_; decide)
    | with_reducible apply objCount_keeps
    | with_reducible apply liningFrameDone_keeps
    | intro _
    | split

theorem fixBand_keeps (hm : covers 4294967300 m) {j : Job} {d : Dev} (h_d : Keeps m d0 d) :
    Keeps m d0 (fixBand j d) := by
  unfold fixBand
  (try dsimp only)
  repeat' first
    | with_reducible assumption
    | (with_reducible refine covers_tr hm ?_; decide)
    | with_reducible apply updBand_keeps
    | with_reducible apply updPast_keeps
    | with_reducible apply objCount_keeps
    | with_reducible apply triggerCycle_keeps
    | intro _
    | split

theorem markAssigned_keeps (hm : covers 4294967300 m) {j : Job} {d : Dev} (h_d : Keeps m d0 d) :
    Keeps m d0 (markAssigned j d) := by
  unfold markAssigned
  (try dsimp only)
  repeat' first
    | with_reducible assumption
    | (with_reducible refine covers_tr hm ?_; decide)
    | with_reducible apply fixBand_keeps
    | with_reducible apply updPart_keeps
    | intro _
    | split

theorem pauseNow_keeps (hm : covers 313733945621 m) {s : ℕ} {d : Dev} (h_d : Keeps m d0 d) :
    Keeps m d0 (pauseNow s d) := by
  unfold pauseNow
  (try dsimp only)
  repeat' first
    | with_reducible assumption
    | (with_reducible refine covers_tr hm ?_; decide)
    | with_reducible apply dropUnstarted_keeps
    | with_reducible apply endSplice_keeps
    | with_reducible apply tellState_keeps
    | with_reducible apply setSess_keeps
    | intro _
    | split

theorem startFrame_keeps (hm : covers 316955171093 m) {sid : ℕ} {n : ℕ} {d : Dev} (h_d : Keeps m d0 d) :
    Keeps m d0 (startFrame sid n d) := by
  unfold startFrame
  (try dsimp only)
  repeat' first
    | with_reducible assumption
    | (with_reducible refine covers_tr hm ?_; decide)
    | with_reducible apply startMezz_keeps
    | with_reducible apply pauseNow_keeps
    | with_reducible apply ringSync_keeps
    | with_reducible apply startLive_keeps
    | intro _
    | split

theorem placeCurrent_keeps (hm : covers 12884901892 m) {t : ℕ} {j : Job} {n : ℕ} {d : Dev} (h_d : Keeps m d0 d) :
    Keeps m d0 (placeCurrent t j n d) := by
  unfold placeCurrent
  (try dsimp only)
  repeat' first
    | with_reducible assumption
    | (with_reducible refine covers_tr hm ?_; decide)
    | with_reducible apply markAssigned_keeps
    | with_reducible apply updTile_keeps
    | intro _
    | split

theorem earlyJob_keeps (hm : covers 342724974869 m) {n : ℕ} {snap : Band → Bool} {j : Job} {d : Dev} (h_d : Keeps m d0 d) :
    Keeps m d0 (earlyJob n snap j d) := by
  unfold earlyJob
  (try dsimp only)
  repeat' first
    | with_reducible assumption
    | (with_reducible refine covers_tr hm ?_; decide)
    | with_reducible apply planBand_keeps
    | with_reducible apply startFrame_keeps
    | with_reducible apply placeCurrent_keeps
    | intro _
    | split

theorem earlyStart_keeps (hm : covers 342724974869 m) {d : Dev} (h_d : Keeps m d0 d) :
    Keeps m d0 (earlyStart d) := by
  unfold earlyStart
  (try dsimp only)
  repeat' first
    | with_reducible assumption
    | (with_reducible refine covers_tr hm ?_; decide)
    | with_reducible apply tellChanges_keeps
    | with_reducible apply earlyJob_keeps
    | with_reducible apply forEach_keeps
    | intro _
    | split

theorem releaseBand_keeps (hm : covers 279374200837 m) {s : ℕ} {f : Frame} {b2 : ℕ} {d : Dev} (h_d : Keeps m d0 d) :
    Keeps m d0 (releaseBand s f b2 d) := by
  unfold releaseBand
  (try dsimp only)
  repeat' first
    | with_reducible assumption
    | (with_reducible refine covers_tr hm ?_; decide)
    | with_reducible apply updBand_keeps
    | with_reducible apply capture_keeps
    | with_reducible apply sendBand_keeps
    | with_reducible apply mirrorBand_keeps
    | intro _
    | split

theorem countOverrun_keeps (hm : covers 4 m) {sid : ℕ} {d : Dev} (h_d : Keeps m d0 d) :
    Keeps m d0 (countOverrun sid d) := by
  unfold countOverrun
  (try dsimp only)
  repeat' first
    | with_reducible assumption
    | (with_reducible refine covers_tr hm ?_; decide)
    | with_reducible apply objCount_keeps
    | intro _
    | split

theorem planList_keeps (hm : covers 21609054212 m) {n : Nat} {l : List (Nat × Nat × Nat)} {lim k : Nat} {d : Dev} (h : Keeps m d0 d) :
    Keeps m d0 (planList n l lim k d).1 := by
  induction l generalizing k d with
  | nil => exact h
  | cons c t ih =>
    unfold planList
    split
    · exact ih h
    · split
      · exact h
      · exact ih (planBand_keeps (covers_tr hm (by decide)) h)

theorem setLoom_keeps (hm : covers 17179869184 m) {x : Loom} {d : Dev} (h_d : Keeps m d0 d) :
    Keeps m d0 (setLoom x d) := by
  unfold setLoom
  (try dsimp only)
  repeat' first
    | with_reducible assumption
    | (with_reducible refine covers_tr hm ?_; decide)
    | with_reducible exact id
    | with_reducible exact rising_put
    | with_reducible exact rising_upd
    | with_reducible exact rising_set
    | with_reducible exact rising_erase
    | with_reducible exact rising_filter
    | with_reducible exact rising_tabFilter
    | with_reducible exact rising_map
    | with_reducible exact rising_to_nil
    | with_reducible exact rising_erase_two
    | simp only [keeps_mk]
    | with_reducible apply Keeps.set_loom
    | intro _
    | split

theorem raiseOverrun_keeps (hm : covers 17179869440 m) {d : Dev} (h_d : Keeps m d0 d) :
    Keeps m d0 (raiseOverrun d) := by
  unfold raiseOverrun
  (try dsimp only)
  repeat' first
    | with_reducible assumption
    | (with_reducible refine covers_tr hm ?_; decide)
    | with_reducible apply raise_keeps
    | with_reducible apply setLoom_keeps
    | intro _
    | split

theorem startNext_keeps (hm : covers 8589934592 m) {t : ℕ} {j : Job} {loaded : Bool} {allow : ℕ} {d : Dev} (h_d : Keeps m d0 d) :
    Keeps m d0 (startNext t j loaded allow d) := by
  unfold startNext
  (try dsimp only)
  repeat' first
    | with_reducible assumption
    | (with_reducible refine covers_tr hm ?_; decide)
    | with_reducible apply updTile_keeps
    | intro _
    | split

theorem takeOver_keeps (hm : covers 8589934592 m) {t : ℕ} {d : Dev} (h_d : Keeps m d0 d) :
    Keeps m d0 (takeOver t d) := by
  unfold takeOver
  (try dsimp only)
  repeat' first
    | with_reducible assumption
    | (with_reducible refine covers_tr hm ?_; decide)
    | with_reducible apply startNext_keeps
    | with_reducible apply updTile_keeps
    | intro _
    | split

theorem kappaLoop_keeps (hm : covers 4294967328 m) {sid : ℕ} {a : ℕ} {a2 : Dev} (h_a2 : Keeps m d0 a2) :
    Keeps m d0 (kappaLoop sid a a2) := by
  induction a generalizing sid a2 with
  | zero => exact h_a2
  | succ k ih =>
    unfold kappaLoop
    repeat' first
      | with_reducible assumption
      | (with_reducible refine covers_tr hm ?_; decide)
      | with_reducible apply ih
      | with_reducible apply updBand_keeps
      | with_reducible apply kappaUpdate_keeps
      | dsimp only
      | intro _
      | split

theorem decodeError_keeps (hm : covers 6420 m) {s : ℕ} {c : ℕ} {b2 : ℕ} {err : ℕ} {d : Dev} (h_d : Keeps m d0 d) :
    Keeps m d0 (decodeError s c b2 err d) := by
  unfold decodeError
  (try dsimp only)
  repeat' first
    | with_reducible assumption
    | (with_reducible refine covers_tr hm ?_; decide)
    | with_reducible apply postTenant_keeps
    | with_reducible apply objCount_keeps
    | intro _
    | split

theorem mezzLoop_keeps (hm : covers 4429185028 m) {s : ℕ} {a : ℕ} {a2 : Dev} (h_a2 : Keeps m d0 a2) :
    Keeps m d0 (mezzLoop s a a2) := by
  induction a generalizing s a2 with
  | zero => exact h_a2
  | succ k ih =>
    unfold mezzLoop
    repeat' first
      | with_reducible assumption
      | (with_reducible refine covers_tr hm ?_; decide)
      | with_reducible apply ih
      | with_reducible apply capture_keeps
      | with_reducible apply updBand_keeps
      | intro _
      | split

theorem releaseLoop_keeps (hm : covers 279374200837 m) {s : ℕ} {a : ℕ} {a2 : Dev} (h_a2 : Keeps m d0 a2) :
    Keeps m d0 (releaseLoop s a a2) := by
  induction a generalizing s a2 with
  | zero => exact h_a2
  | succ k ih =>
    unfold releaseLoop
    repeat' first
      | with_reducible assumption
      | (with_reducible refine covers_tr hm ?_; decide)
      | with_reducible apply ih
      | with_reducible apply releaseBand_keeps
      | intro _
      | split

theorem noteQuiet_keeps (hm : covers 134217728 m) {s : ℕ} {d : Dev} (h_d : Keeps m d0 d) :
    Keeps m d0 (noteQuiet s d) := by
  unfold noteQuiet
  (try dsimp only)
  repeat' first
    | with_reducible assumption
    | (with_reducible refine covers_tr hm ?_; decide)
    | with_reducible apply setSess_keeps
    | intro _
    | split

theorem segmentOver_keeps (hm : covers 134224148 m) {s : ℕ} {d : Dev} (h_d : Keeps m d0 d) :
    Keeps m d0 (segmentOver s d) := by
  unfold segmentOver
  (try dsimp only)
  repeat' first
    | with_reducible assumption
    | (with_reducible refine covers_tr hm ?_; decide)
    | with_reducible apply endSplice_keeps
    | with_reducible apply postTenant_keeps
    | with_reducible apply setSess_keeps
    | intro _
    | split

theorem afterCollect_keeps (hm : covers 313733945621 m) {s : ℕ} {d : Dev} (h_d : Keeps m d0 d) :
    Keeps m d0 (afterCollect s d) := by
  unfold afterCollect
  (try dsimp only)
  repeat' first
    | with_reducible assumption
    | (with_reducible refine covers_tr hm ?_; decide)
    | with_reducible apply mezzLoop_keeps
    | with_reducible apply releaseLoop_keeps
    | with_reducible apply retireFrames_keeps
    | with_reducible apply noteQuiet_keeps
    | with_reducible apply segmentOver_keeps
    | with_reducible apply waterTest_keeps
    | intro _
    | split

theorem bandCollected_keeps (hm : covers 1413245573557 m) {sid : ℕ} {c : ℕ} {b2 : ℕ} {d : Dev} (h_d : Keeps m d0 d) :
    Keeps m d0 (bandCollected sid c b2 d) := by
  unfold bandCollected
  (try dsimp only)
  repeat' first
    | with_reducible assumption
    | (with_reducible refine covers_tr hm ?_; decide)
    | with_reducible apply updBand_keeps
    | with_reducible apply liningCollected_keeps
    | with_reducible apply updStream_keeps
    | with_reducible apply kappaLoop_keeps
    | with_reducible apply decodeError_keeps
    | with_reducible apply afterCollect_keeps
    | with_reducible apply regCount_keeps
    | intro _
    | split

theorem carryPart_keeps (hm : covers 21474836740 m) {j : Job} {d : Dev} (h_d : Keeps m d0 d) :
    Keeps m d0 (carryPart j d) := by
  unfold carryPart
  (try dsimp only)
  repeat' first
    | with_reducible assumption
    | (with_reducible refine covers_tr hm ?_; decide)
    | with_reducible apply updPart_keeps
    | with_reducible apply raiseOverrun_keeps
    | with_reducible apply countOverrun_keeps
    | intro _
    | split

theorem placeNext_keeps (hm : covers 12884901892 m) {t : ℕ} {j : Job} {d : Dev} (h_d : Keeps m d0 d) :
    Keeps m d0 (placeNext t j d) := by
  unfold placeNext
  (try dsimp only)
  repeat' first
    | with_reducible assumption
    | (with_reducible refine covers_tr hm ?_; decide)
    | with_reducible apply markAssigned_keeps
    | with_reducible apply updTile_keeps
    | intro _
    | split

theorem passJob_keeps (hm : covers 342724974869 m) {n lim : Nat} {snap : Band → Bool} {j : Job} {a : Dev × Nat} (h : Keeps m d0 a.1) :
    Keeps m d0 (passJob n lim snap j a).1 := by
  unfold passJob
  extract_lets e tm
  have he : Keeps m d0 e := by
    show Keeps m d0 (if _ then _ else _)
    split
    · exact startFrame_keeps (covers_tr hm (by decide)) h
    · exact h
  split
  · exact carryPart_keeps (covers_tr hm (by decide)) he
  split
  · exact he
  · split
    · exact placeCurrent_keeps (covers_tr hm (by decide)) he
    · split
      · exact placeNext_keeps (covers_tr hm (by decide)) he
      · exact carryPart_keeps (covers_tr hm (by decide)) he

theorem assignPass_keeps (hm : covers 342724974869 m) {n : Nat} {snap : Band → Bool} {d : Dev} (h : Keeps m d0 d) :
    Keeps m d0 (assignPass n snap d) := by
  have hf : ∀ (l : List Job) (a : Dev × Nat), Keeps m d0 a.1 →
      Keeps m d0 (l.foldl (fun a j => passJob n (stitchNs (n + 1)) snap j a) a).1 := by
    intro l
    induction l with
    | nil => intro a h; exact h
    | cons j t ih => intro a h; exact ih _ (passJob_keeps (covers_tr hm (by decide)) h)
  exact regSet_keeps (covers_tr hm (by decide)) (setLoom_keeps (covers_tr hm (by decide)) (hf _ _ h))

theorem collectJob_keeps (hm : covers 1413245573557 m) {j : Job} {d : Dev} (h_d : Keeps m d0 d) :
    Keeps m d0 (collectJob j d) := by
  unfold collectJob
  (try dsimp only)
  repeat' first
    | with_reducible assumption
    | (with_reducible refine covers_tr hm ?_; decide)
    | with_reducible apply updPart_keeps
    | with_reducible apply bandCollected_keeps
    | intro _
    | split

theorem planStage_keeps (hm : covers 21609054245 m) {n : ℕ} {snap : Band → Bool} {d : Dev} (h_d : Keeps m d0 d) :
    Keeps m d0 (planStage n snap d) := by
  unfold planStage
  (try dsimp only)
  repeat' first
    | with_reducible assumption
    | (with_reducible refine covers_tr hm ?_; decide)
    | with_reducible apply planList_keeps
    | with_reducible apply freeNext_keeps
    | with_reducible apply setLoom_keeps
    | with_reducible apply pairSet_keeps
    | intro _
    | split

/-! ## SessionOps -/

theorem drawTransport_keeps (hm : covers 134217792 m) {s : ℕ} {d : Dev} (h_d : Keeps m d0 d) :
    Keeps m d0 (drawTransport s d) := by
  unfold drawTransport
  (try dsimp only)
  repeat' first
    | with_reducible assumption
    | (with_reducible refine covers_tr hm ?_; decide)
    | with_reducible apply rngNext_keeps
    | with_reducible apply setSess_keeps
    | intro _
    | split

theorem refuseFreezes_keeps (hm : covers 549890038036 m) {s : ℕ} {d : Dev} (h_d : Keeps m d0 d) :
    Keeps m d0 (refuseFreezes s d) := by
  unfold refuseFreezes
  (try dsimp only)
  repeat' first
    | with_reducible assumption
    | (with_reducible refine covers_tr hm ?_; decide)
    | with_reducible apply postTenant_keeps
    | with_reducible apply libState_keeps
    | with_reducible apply setSess_keeps
    | with_reducible apply forEach_keeps
    | intro _
    | split

theorem dropReservations_keeps (hm : covers 1004082829597 m) {s : Nat} {d : Dev} (h : Keeps m d0 d) :
    Keeps m d0 (dropReservations s d) := by
  have h1 : Keeps m d0 (forEach (enabledDests d s) (fun e d => disableDest s e (destEntry d s e) d) (refuseFreezes s d)) :=
    forEach_keeps _ (fun e d hd => disableDest_keeps (covers_tr hm (by decide)) hd) (refuseFreezes_keeps (covers_tr hm (by decide)) h)
  have h3 := releaseUse_keeps (p := fun u => u.session? == some s) (covers_tr hm (by decide)) (intakeOff_keeps (s := s) (covers_tr hm (by decide))
    (setStream_keeps (sid := mezzSid s) (x := {}) (covers_tr hm (by decide)) (setStream_keeps (sid := liveSid s) (x := {}) (covers_tr hm (by decide)) h1)))
  unfold dropReservations
  dsimp only
  refine setSess_keeps (covers_tr hm (by decide)) ?_
  simp only [keeps_mk]
  exact Keeps.set_objs_heldStitch_ladder_pke (covers_tr hm (by decide)) objs_filter rising_filter rising_erase h3

theorem discardMailbox_keeps (hm : covers 393216 m) {k : ℕ} {d : Dev} (h_d : Keeps m d0 d) :
    Keeps m d0 (discardMailbox k d) := by
  unfold discardMailbox
  (try dsimp only)
  repeat' first
    | with_reducible assumption
    | (with_reducible refine covers_tr hm ?_; decide)
    | with_reducible apply setMbox_keeps
    | with_reducible exact id
    | with_reducible exact rising_put
    | with_reducible exact rising_upd
    | with_reducible exact rising_set
    | with_reducible exact rising_erase
    | with_reducible exact rising_filter
    | with_reducible exact rising_tabFilter
    | with_reducible exact rising_map
    | with_reducible exact rising_to_nil
    | with_reducible exact rising_erase_two
    | simp only [keeps_mk]
    | with_reducible apply Keeps.set_waiting
    | intro _
    | split

theorem toDefined_keeps (hm : covers 1004149938461 m) {s : ℕ} {d : Dev} (h_d : Keeps m d0 d) :
    Keeps m d0 (toDefined s d) := by
  unfold toDefined
  (try dsimp only)
  repeat' first
    | with_reducible assumption
    | (with_reducible refine covers_tr hm ?_; decide)
    | with_reducible apply dropReservations_keeps
    | with_reducible apply closeLining_keeps
    | with_reducible apply endSplice_keeps
    | with_reducible apply setSess_keeps
    | intro _
    | split

theorem eraseTenantKeys_keeps (hm : covers 11534340 m) {t : ℕ} {d : Dev} (h_d : Keeps m d0 d) :
    Keeps m d0 (eraseTenantKeys t d) := by
  unfold eraseTenantKeys
  (try dsimp only)
  repeat' first
    | with_reducible assumption
    | (with_reducible refine covers_tr hm ?_; decide)
    | with_reducible apply setTenant_keeps
    | with_reducible apply clearLast_keeps
    | with_reducible apply objReset_keeps
    | intro _
    | split

theorem restartStats_keeps (hm : covers 4 m) {s : Nat} {d : Dev} (h : Keeps m d0 d) : Keeps m d0 (restartStats s d) :=
  (Keeps.set_objs hm objs_filter h).keeps

theorem dropPromoted_keeps (hm : covers 1175881521428 m) {s : ℕ} {d : Dev} (h_d : Keeps m d0 d) :
    Keeps m d0 (dropPromoted s d) := by
  unfold dropPromoted
  (try dsimp only)
  repeat' first
    | with_reducible assumption
    | (with_reducible refine covers_tr hm ?_; decide)
    | with_reducible apply freeLining_keeps
    | intro _
    | split

theorem sendByes_keeps (hm : covers 275012124677 m) {s : ℕ} {d : Dev} (h_d : Keeps m d0 d) :
    Keeps m d0 (sendByes s d) := by
  unfold sendByes
  (try dsimp only)
  repeat' first
    | with_reducible assumption
    | (with_reducible refine covers_tr hm ?_; decide)
    | with_reducible apply setDest_keeps
    | with_reducible apply enterClass_keeps
    | with_reducible apply forEach_keeps
    | intro _
    | split

theorem toFree_keeps (hm : covers 2172381042973 m) {s : Nat} {d : Dev} (h : Keeps m d0 d) : Keeps m d0 (toFree s d) := by
  have h1 := dropReservations_keeps (s := s) (covers_tr hm (by decide)) (dropUndispatched_keeps (s := s) (covers_tr hm (by decide))
    (closeLining_keeps (s := s) (covers_tr hm (by decide)) (endSplice_keeps (s := s) (covers_tr hm (by decide)) h)))
  unfold toFree
  dsimp only
  refine dropPromoted_keeps (covers_tr hm (by decide)) (setSess_keeps (covers_tr hm (by decide)) ?_)
  simp only [keeps_mk]
  exact Keeps.set_objs_heldStitch (covers_tr hm (by decide)) objs_filter rising_filter h1

theorem holdBlocks_keeps (hm : covers 1073741824 m) {d : Dev} {s : ℕ} {p : Params} (h_d : Keeps m d0 d) :
    OKeeps m d0 (holdBlocks d s p) := by
  unfold holdBlocks
  (try dsimp only)
  repeat' first
    | with_reducible assumption
    | (with_reducible refine covers_tr hm ?_; decide)
    | with_reducible exact OKeeps.none
    | with_reducible apply OKeeps.some
    | with_reducible apply OKeeps.orElse
    | with_reducible apply OKeeps.map
    | with_reducible apply OKeeps.bind
    | with_reducible apply allocAll_keeps
    | with_reducible apply allocAll_keeps
    | with_reducible apply OKeeps.getD
    | with_reducible apply OKeeps.bind
    | with_reducible apply OKeeps.getD
    | intro _
    | split

theorem restartTenantCounts_keeps (hm : covers 4 m) {t : ℕ} {d : Dev} (h_d : Keeps m d0 d) :
    Keeps m d0 (restartTenantCounts t d) := by
  unfold restartTenantCounts
  (try dsimp only)
  repeat' first
    | with_reducible assumption
    | (with_reducible refine covers_tr hm ?_; decide)
    | with_reducible apply objReset_keeps
    | intro _
    | split

/-! ## Dma -/

theorem linesWritten_keeps (hm : covers 1073741825 m) {b0 : Block} {off : ℕ} {n : ℕ} {d : Dev} (h_d : Keeps m d0 d) :
    Keeps m d0 (linesWritten b0 off n d) := by
  unfold linesWritten
  (try dsimp only)
  repeat' first
    | with_reducible assumption
    | (with_reducible refine covers_tr hm ?_; decide)
    | with_reducible apply takeFlip_keeps
    | with_reducible apply setWrd_keeps
    | with_reducible apply forEach_keeps
    | intro _
    | split

theorem storeBlock_keeps (hm : covers 3221225473 m) {b0 : Block} {off : ℕ} {n : ℕ} {v : ℕ} {d : Dev} (h_d : Keeps m d0 d) :
    Keeps m d0 (storeBlock b0 off n v d) := by
  unfold storeBlock
  (try dsimp only)
  repeat' first
    | with_reducible assumption
    | (with_reducible refine covers_tr hm ?_; decide)
    | with_reducible apply linesWritten_keeps
    | with_reducible apply memWrite_keeps
    | intro _
    | split

theorem moveSegment_keeps (hm : covers 3221225473 m) {r : Running} {x : Sys2Proof.Xfer} {lim : ℕ} {d : Dev} (h_d : Keeps m d0 d) :
    Keeps m d0 (moveSegment r x lim d).1 := by
  unfold moveSegment
  (try dsimp only)
  repeat' first
    | with_reducible assumption
    | (with_reducible refine covers_tr hm ?_; decide)
    | with_reducible apply storeBlock_keeps
    | intro _
    | split

theorem corrClear_keeps (hm : covers 1 m) {d : Dev} (h_d : Keeps m d0 d) :
    Keeps m d0 (corrClear d) := by
  unfold corrClear
  (try dsimp only)
  repeat' first
    | with_reducible assumption
    | (with_reducible refine covers_tr hm ?_; decide)
    | with_reducible apply pairSet_keeps
    | intro _
    | split

theorem endRun_keeps (hm : covers 8192 m) {c : ℕ} {r : Running} {e : Sys2Proof.Err} {outcome : ℕ} {bytes : ℕ} {d : Dev} (h_d : Keeps m d0 d) :
    Keeps m d0 (endRun c r e outcome bytes d) := by
  unfold endRun
  (try dsimp only)
  repeat' first
    | with_reducible assumption
    | (with_reducible refine covers_tr hm ?_; decide)
    | with_reducible apply setDmaChan_keeps
    | intro _
    | split

theorem endRefused_keeps (hm : covers 8453 m) {c : ℕ} {r : Running} {e : Sys2Proof.Err} {d : Dev} (h_d : Keeps m d0 d) :
    Keeps m d0 (endRefused c r e d) := by
  unfold endRefused
  (try dsimp only)
  repeat' first
    | with_reducible assumption
    | (with_reducible refine covers_tr hm ?_; decide)
    | with_reducible apply endRun_keeps
    | with_reducible apply handleRefused_keeps
    | intro _
    | split

theorem runRow_keeps (hm : covers 8453 m) {op : ℕ} {c : ℕ} {x : Sys2Proof.Xfer} {tagOk : Bool} {f : Running → Dev → Dev} {d : Dev} (h_f : ∀ (y0 : Running) (y1 : Dev), Keeps m d0 y1 → Keeps m d0 (f y0 y1)) (h_d : Keeps m d0 d) :
    Keeps m d0 (runRow op c x tagOk f d) := by
  unfold runRow
  (try dsimp only)
  repeat' first
    | with_reducible assumption
    | (with_reducible refine covers_tr hm ?_; decide)
    | with_reducible apply endRefused_keeps
    | with_reducible apply h_f
    | intro _
    | split

theorem putRows_keeps (hm : covers 0 m) {put : RowWrite → Dev → Dev} {l : List (ℕ × List RowWrite)} {d : Dev} (h_put : ∀ (y0 : RowWrite) (y1 : Dev), Keeps m d0 y1 → Keeps m d0 (put y0 y1)) (h_d : Keeps m d0 d) :
    Keeps m d0 (putRows put l d) := by
  unfold putRows
  (try dsimp only)
  repeat' first
    | with_reducible assumption
    | (with_reducible refine covers_tr hm ?_; decide)
    | with_reducible apply h_put
    | with_reducible apply forEach_keeps
    | intro _
    | split

theorem moveIn_keeps (hm : covers 3221225473 m) {r : Running} {x : Sys2Proof.Xfer} {lim : ℕ} {d : Dev} (h_d : Keeps m d0 d) :
    Keeps m d0 (moveIn r x lim d).1 := by
  unfold moveIn
  (try dsimp only)
  repeat' first
    | with_reducible assumption
    | (with_reducible refine covers_tr hm ?_; decide)
    | with_reducible apply storeBlock_keeps
    | with_reducible apply putRows_keeps
    | intro _
    | split

theorem moveOut_keeps (hm : covers 16 m) {r : Running} {lim : ℕ} {d : Dev} (h_d : Keeps m d0 d) :
    Keeps m d0 (moveOut r lim d).1 := by
  unfold moveOut
  (try dsimp only)
  repeat' first
    | with_reducible assumption
    | (with_reducible refine covers_tr hm ?_; decide)
    | with_reducible apply emit_keeps
    | with_reducible apply putRows_keeps
    | intro _
    | split

theorem moveIntake_keeps (hm : covers 134217728 m) {r : Running} {x : Sys2Proof.Xfer} {lim : ℕ} {d : Dev} (h_d : Keeps m d0 d) :
    Keeps m d0 (moveIntake r x lim d).1 := by
  unfold moveIntake
  (try dsimp only)
  repeat' first
    | with_reducible assumption
    | (with_reducible refine covers_tr hm ?_; decide)
    | with_reducible apply setSess_keeps
    | with_reducible apply putRows_keeps
    | intro _
    | split

theorem moveExport_keeps (hm : covers 20 m) {r : Running} {lim : ℕ} {d : Dev} (h_d : Keeps m d0 d) :
    Keeps m d0 (moveExport r lim d).1 := by
  unfold moveExport
  (try dsimp only)
  repeat' first
    | with_reducible assumption
    | (with_reducible refine covers_tr hm ?_; decide)
    | with_reducible apply countExport_keeps
    | with_reducible apply emit_keeps
    | intro _
    | split

theorem moveFeed_keeps (hm : covers 134217728 m) {r : Running} {x : Sys2Proof.Xfer} {lim : ℕ} {d : Dev} (h_d : Keeps m d0 d) :
    Keeps m d0 (moveFeed r x lim d).1 := by
  unfold moveFeed
  (try dsimp only)
  repeat' first
    | with_reducible assumption
    | (with_reducible refine covers_tr hm ?_; decide)
    | with_reducible apply setSess_keeps
    | intro _
    | split

theorem moveSome_keeps (hm : covers 3355443221 m) {r : Running} {x : Sys2Proof.Xfer} {lim : ℕ} {d : Dev} (h_d : Keeps m d0 d) :
    Keeps m d0 (moveSome r x lim d).1 := by
  unfold moveSome
  (try dsimp only)
  repeat' first
    | with_reducible assumption
    | (with_reducible refine covers_tr hm ?_; decide)
    | with_reducible apply moveIn_keeps
    | with_reducible apply moveOut_keeps
    | with_reducible apply moveIntake_keeps
    | with_reducible apply moveExport_keeps
    | with_reducible apply moveFeed_keeps
    | with_reducible apply moveSegment_keeps
    | intro _
    | split

theorem stopWith_keeps (hm : covers 3355451669 m) {c : ℕ} {outcome : ℕ} {x : Sys2Proof.Xfer} {d : Dev} (h_d : Keeps m d0 d) :
    Keeps m d0 (stopWith c outcome x d) := by
  unfold stopWith
  (try dsimp only)
  repeat' first
    | with_reducible assumption
    | (with_reducible refine covers_tr hm ?_; decide)
    | with_reducible apply setDmaChan_keeps
    | with_reducible apply endRun_keeps
    | with_reducible apply endRefused_keeps
    | with_reducible apply moveSome_keeps
    | intro _
    | split

theorem stopFree_keeps (hm : covers 3355451701 m) {c : ℕ} {outcome : ℕ} {d : Dev} (h_d : Keeps m d0 d) :
    Keeps m d0 (stopFree c outcome d) := by
  unfold stopFree
  (try dsimp only)
  repeat' first
    | with_reducible assumption
    | (with_reducible refine covers_tr hm ?_; decide)
    | with_reducible apply stopWith_keeps
    | with_reducible exact id
    | with_reducible exact rising_put
    | with_reducible exact rising_upd
    | with_reducible exact rising_set
    | with_reducible exact rising_erase
    | with_reducible exact rising_filter
    | with_reducible exact rising_tabFilter
    | with_reducible exact rising_map
    | with_reducible exact rising_to_nil
    | with_reducible exact rising_erase_two
    | simp only [keeps_mk]
    | with_reducible apply Keeps.set_freeCtr
    | intro _
    | split

theorem stopQueues_keeps (hm : covers 3355451701 m) {p : Running → Bool} {d : Dev} (h_d : Keeps m d0 d) :
    Keeps m d0 (stopQueues p d) := by
  unfold stopQueues
  (try dsimp only)
  repeat' first
    | with_reducible assumption
    | (with_reducible refine covers_tr hm ?_; decide)
    | with_reducible apply stopFree_keeps
    | with_reducible apply setDmaChan_keeps
    | with_reducible apply forEach_keeps
    | intro _
    | split

theorem runThrough_keeps (hm : covers 3355451413 m) {c : ℕ} {x : Sys2Proof.Xfer} {r : Running} {d : Dev} (h_d : Keeps m d0 d) :
    Keeps m d0 (runThrough c x r d) := by
  unfold runThrough
  (try dsimp only)
  repeat' first
    | with_reducible assumption
    | (with_reducible refine covers_tr hm ?_; decide)
    | with_reducible apply moveSome_keeps
    | with_reducible apply endRun_keeps
    | intro _
    | split

theorem segmentUpload_keeps (hm : covers 3355451669 m) {c : ℕ} {x : Sys2Proof.Xfer} {tagOk : Bool} {d : Dev} (h_d : Keeps m d0 d) :
    Keeps m d0 (segmentUpload c x tagOk d) := by
  unfold segmentUpload
  (try dsimp only)
  repeat' first
    | with_reducible assumption
    | (with_reducible refine covers_tr hm ?_; decide)
    | with_reducible apply runRow_keeps
    | with_reducible apply runThrough_keeps
    | intro _
    | split

theorem execSegmentUpload_keeps {chan : ℕ} {x : Sys2Proof.Xfer} {tagOk : Bool} {now : ℕ} {s : State} {t : State}
    (ht : execSegmentUpload chan x tagOk now s = .next t) : Keeps 3359645973 s.dev t.dev := by
  have hm : covers 3359645973 3359645973 := rfl
  refine actOn_keeps (fun d hd => ?_) ht
  (try dsimp only)
  repeat' first
    | with_reducible assumption
    | (with_reducible refine covers_tr hm ?_; decide)
    | with_reducible apply segmentUpload_keeps
    | with_reducible apply atTime_keeps
    | intro _
    | split

theorem receiveBuffer_keeps (hm : covers 24837 m) {c : ℕ} {d : Dev} (h_d : Keeps m d0 d) :
    Keeps m d0 (receiveBuffer c d) := by
  unfold receiveBuffer
  (try dsimp only)
  repeat' first
    | with_reducible assumption
    | (with_reducible refine covers_tr hm ?_; decide)
    | with_reducible apply runRow_keeps
    | with_reducible apply setDmaChan_keeps
    | with_reducible exact id
    | with_reducible exact rising_put
    | with_reducible exact rising_upd
    | with_reducible exact rising_set
    | with_reducible exact rising_erase
    | with_reducible exact rising_filter
    | with_reducible exact rising_tabFilter
    | with_reducible exact rising_map
    | with_reducible exact rising_to_nil
    | with_reducible exact rising_erase_two
    | simp only [keeps_mk]
    | with_reducible apply Keeps.set_recvBufs
    | intro _
    | split

theorem execReceiveBuffer_keeps {chan : ℕ} {now : ℕ} {s : State} {t : State}
    (ht : execReceiveBuffer chan now s = .next t) : Keeps 4219141 s.dev t.dev := by
  have hm : covers 4219141 4219141 := rfl
  refine actOn_keeps (fun d hd => ?_) ht
  (try dsimp only)
  repeat' first
    | with_reducible assumption
    | (with_reducible refine covers_tr hm ?_; decide)
    | with_reducible apply receiveBuffer_keeps
    | with_reducible apply atTime_keeps
    | intro _
    | split

theorem presentDoorbell_keeps (hm : covers 342724983061 m) {c : ℕ} {r : Running} {d : Dev} (h_d : Keeps m d0 d) :
    Keeps m d0 (presentDoorbell c r d) := by
  unfold presentDoorbell
  (try dsimp only)
  repeat' first
    | with_reducible assumption
    | (with_reducible refine covers_tr hm ?_; decide)
    | with_reducible apply endRun_keeps
    | with_reducible apply doorbellReject_keeps
    | with_reducible apply earlyStart_keeps
    | with_reducible apply doorbellAccept_keeps
    | intro _
    | split

theorem presentDoorbells_keeps (hm : covers 342724983061 m) {a : ℕ} {a1 : Dev} (h_a1 : Keeps m d0 a1) :
    Keeps m d0 (presentDoorbells a a1) := by
  induction a generalizing a1 with
  | zero => exact h_a1
  | succ k ih =>
    unfold presentDoorbells
    repeat' first
      | with_reducible assumption
      | (with_reducible refine covers_tr hm ?_; decide)
      | with_reducible apply ih
      | with_reducible apply presentDoorbell_keeps
      | intro _
      | split

theorem channelDisable_keeps (hm : covers 342725048725 m) {who : Sys2Proof.Caller} {c : ℕ} {x : Sys2Proof.Xfer} {d : Dev} (h_d : Keeps m d0 d) :
    Keeps m d0 (channelDisable who c x d) := by
  unfold channelDisable
  (try dsimp only)
  repeat' first
    | with_reducible assumption
    | (with_reducible refine covers_tr hm ?_; decide)
    | with_reducible apply regDrop_keeps
    | with_reducible apply presentDoorbells_keeps
    | with_reducible apply stopWith_keeps
    | with_reducible apply mend_keeps
    | with_reducible apply setFld_keeps
    | intro _
    | split

theorem execChannelDisable_keeps {who : Sys2Proof.Caller} {chan : ℕ} {x : Sys2Proof.Xfer} {now : ℕ} {s : State} {t : State}
    (ht : execChannelDisable who chan x now s = .next t) : Keeps 342729243029 s.dev t.dev := by
  have hm : covers 342729243029 342729243029 := rfl
  refine actOn_keeps (fun d hd => ?_) ht
  (try dsimp only)
  repeat' first
    | with_reducible assumption
    | (with_reducible refine covers_tr hm ?_; decide)
    | with_reducible apply regGate_keeps
    | with_reducible apply channelDisable_keeps
    | with_reducible apply atTime_keeps
    | intro _
    | split

theorem intake_keeps (hm : covers 342724983061 m) {c : ℕ} {x : Sys2Proof.Xfer} {d : Dev} (h_d : Keeps m d0 d) :
    Keeps m d0 (intake c x d) := by
  unfold intake
  (try dsimp only)
  repeat' first
    | with_reducible assumption
    | (with_reducible refine covers_tr hm ?_; decide)
    | with_reducible apply presentDoorbells_keeps
    | with_reducible apply runRow_keeps
    | with_reducible apply moveSome_keeps
    | with_reducible apply setDmaChan_keeps
    | with_reducible apply runThrough_keeps
    | intro _
    | split

theorem execAtsInvalidation_keeps {link : ℕ} {now : ℕ} {s : State} {t : State}
    (ht : execAtsInvalidation link now s = .next t) : Keeps 4194320 s.dev t.dev := by
  have hm : covers 4194320 4194320 := rfl
  refine actOn_keeps (fun d hd => ?_) ht
  (try dsimp only)
  repeat' first
    | with_reducible assumption
    | (with_reducible refine covers_tr hm ?_; decide)
    | with_reducible apply emit_keeps
    | with_reducible apply atTime_keeps
    | intro _
    | split

theorem transmitRow_keeps (hm : covers 275012133125 m) {c : ℕ} {x : Sys2Proof.Xfer} {d : Dev} (h_d : Keeps m d0 d) :
    Keeps m d0 (transmitRow c x d) := by
  unfold transmitRow
  (try dsimp only)
  repeat' first
    | with_reducible assumption
    | (with_reducible refine covers_tr hm ?_; decide)
    | with_reducible apply runRow_keeps
    | with_reducible apply endRun_keeps
    | with_reducible apply enterClass_keeps
    | intro _
    | split

theorem execTransmit_keeps {chan : ℕ} {x : Sys2Proof.Xfer} {now : ℕ} {s : State} {t : State}
    (ht : execTransmit chan x now s = .next t) : Keeps 275016327429 s.dev t.dev := by
  have hm : covers 275016327429 275016327429 := rfl
  refine actOn_keeps (fun d hd => ?_) ht
  (try dsimp only)
  repeat' first
    | with_reducible assumption
    | (with_reducible refine covers_tr hm ?_; decide)
    | with_reducible apply transmitRow_keeps
    | with_reducible apply atTime_keeps
    | intro _
    | split

theorem decodeFeed_keeps (hm : covers 3355451669 m) {c : ℕ} {x : Sys2Proof.Xfer} {d : Dev} (h_d : Keeps m d0 d) :
    Keeps m d0 (decodeFeed c x d) := by
  unfold decodeFeed
  (try dsimp only)
  repeat' first
    | with_reducible assumption
    | (with_reducible refine covers_tr hm ?_; decide)
    | with_reducible apply runRow_keeps
    | with_reducible apply runThrough_keeps
    | intro _
    | split

theorem copyIn_keeps (hm : covers 3355451669 m) {c : ℕ} {x : Sys2Proof.Xfer} {d : Dev} (h_d : Keeps m d0 d) :
    Keeps m d0 (copyIn c x d) := by
  unfold copyIn
  (try dsimp only)
  repeat' first
    | with_reducible assumption
    | (with_reducible refine covers_tr hm ?_; decide)
    | with_reducible apply runRow_keeps
    | with_reducible apply runThrough_keeps
    | intro _
    | split

theorem fnQueuesOff_keeps (hm : covers 3355453749 m) {fn : ℕ} {d : Dev} (h_d : Keeps m d0 d) :
    Keeps m d0 (fnQueuesOff fn d) := by
  unfold fnQueuesOff
  (try dsimp only)
  repeat' first
    | with_reducible assumption
    | (with_reducible refine covers_tr hm ?_; decide)
    | with_reducible apply queueOff_keeps
    | with_reducible apply stopQueues_keeps
    | with_reducible apply forEach_keeps
    | intro _
    | split

theorem exportRow_keeps (hm : covers 3355451669 m) {c : ℕ} {x : Sys2Proof.Xfer} {d : Dev} (h_d : Keeps m d0 d) :
    Keeps m d0 (exportRow c x d) := by
  unfold exportRow
  (try dsimp only)
  repeat' first
    | with_reducible assumption
    | (with_reducible refine covers_tr hm ?_; decide)
    | with_reducible apply runRow_keeps
    | with_reducible apply runThrough_keeps
    | intro _
    | split

theorem execDecodeFeed_keeps {chan : ℕ} {x : Sys2Proof.Xfer} {now : ℕ} {s : State} {t : State}
    (ht : execDecodeFeed chan x now s = .next t) : Keeps 3359645973 s.dev t.dev := by
  have hm : covers 3359645973 3359645973 := rfl
  refine actOn_keeps (fun d hd => ?_) ht
  (try dsimp only)
  repeat' first
    | with_reducible assumption
    | (with_reducible refine covers_tr hm ?_; decide)
    | with_reducible apply decodeFeed_keeps
    | with_reducible apply atTime_keeps
    | intro _
    | split

theorem copyOut_keeps (hm : covers 3355451669 m) {c : ℕ} {x : Sys2Proof.Xfer} {d : Dev} (h_d : Keeps m d0 d) :
    Keeps m d0 (copyOut c x d) := by
  unfold copyOut
  (try dsimp only)
  repeat' first
    | with_reducible assumption
    | (with_reducible refine covers_tr hm ?_; decide)
    | with_reducible apply runRow_keeps
    | with_reducible apply runThrough_keeps
    | intro _
    | split

theorem execCopyOut_keeps {chan : ℕ} {x : Sys2Proof.Xfer} {now : ℕ} {s : State} {t : State}
    (ht : execCopyOut chan x now s = .next t) : Keeps 3359645973 s.dev t.dev := by
  have hm : covers 3359645973 3359645973 := rfl
  refine actOn_keeps (fun d hd => ?_) ht
  (try dsimp only)
  repeat' first
    | with_reducible assumption
    | (with_reducible refine covers_tr hm ?_; decide)
    | with_reducible apply copyOut_keeps
    | with_reducible apply atTime_keeps
    | intro _
    | split

theorem pfQueuesOff_keeps (hm : covers 3355470133 m) {i : ℕ} {d : Dev} (h_d : Keeps m d0 d) :
    Keeps m d0 (pfQueuesOff i d) := by
  unfold pfQueuesOff
  (try dsimp only)
  repeat' first
    | with_reducible assumption
    | (with_reducible refine covers_tr hm ?_; decide)
    | with_reducible apply stopQueues_keeps
    | with_reducible apply queueOff_keeps
    | with_reducible apply forEach_keeps
    | with_reducible exact id
    | with_reducible exact rising_put
    | with_reducible exact rising_upd
    | with_reducible exact rising_set
    | with_reducible exact rising_erase
    | with_reducible exact rising_filter
    | with_reducible exact rising_tabFilter
    | with_reducible exact rising_map
    | with_reducible exact rising_to_nil
    | with_reducible exact rising_erase_two
    | simp only [keeps_mk]
    | with_reducible apply Keeps.set_recvBufs
    | intro _
    | split

theorem execCopyIn_keeps {chan : ℕ} {x : Sys2Proof.Xfer} {now : ℕ} {s : State} {t : State}
    (ht : execCopyIn chan x now s = .next t) : Keeps 3359645973 s.dev t.dev := by
  have hm : covers 3359645973 3359645973 := rfl
  refine actOn_keeps (fun d hd => ?_) ht
  (try dsimp only)
  repeat' first
    | with_reducible assumption
    | (with_reducible refine covers_tr hm ?_; decide)
    | with_reducible apply copyIn_keeps
    | with_reducible apply atTime_keeps
    | intro _
    | split

theorem execExportEntry_keeps {chan : ℕ} {x : Sys2Proof.Xfer} {now : ℕ} {s : State} {t : State}
    (ht : execExportEntry chan x now s = .next t) : Keeps 3359645973 s.dev t.dev := by
  have hm : covers 3359645973 3359645973 := rfl
  refine actOn_keeps (fun d hd => ?_) ht
  (try dsimp only)
  repeat' first
    | with_reducible assumption
    | (with_reducible refine covers_tr hm ?_; decide)
    | with_reducible apply exportRow_keeps
    | with_reducible apply atTime_keeps
    | intro _
    | split

theorem execDmaCorrClr_keeps {who : Sys2Proof.Caller} {s : State} {t : State}
    (ht : execDmaCorrClr who s = .next t) : Keeps 65669 s.dev t.dev := by
  have hm : covers 65669 65669 := rfl
  refine act_keeps (fun d hd => ?_) ht
  (try dsimp only)
  repeat' first
    | with_reducible assumption
    | (with_reducible refine covers_tr hm ?_; decide)
    | with_reducible apply regGate_keeps
    | with_reducible apply mend_keeps
    | with_reducible apply corrClear_keeps
    | intro _
    | split

theorem execIntake_keeps {chan : ℕ} {x : Sys2Proof.Xfer} {now : ℕ} {s : State} {t : State}
    (ht : execIntake chan x now s = .next t) : Keeps 342729177365 s.dev t.dev := by
  have hm : covers 342729177365 342729177365 := rfl
  refine actOn_keeps (fun d hd => ?_) ht
  (try dsimp only)
  repeat' first
    | with_reducible assumption
    | (with_reducible refine covers_tr hm ?_; decide)
    | with_reducible apply intake_keeps
    | with_reducible apply atTime_keeps
    | intro _
    | split

/-! ## Safe -/

theorem chansToStage1_keeps (hm : covers 536870912 m) {d : Dev} (h_d : Keeps m d0 d) :
    Keeps m d0 (chansToStage1 d) := by
  unfold chansToStage1
  (try dsimp only)
  repeat' first
    | with_reducible assumption
    | (with_reducible refine covers_tr hm ?_; decide)
    | with_reducible apply setChan_keeps
    | with_reducible apply forEach_keeps
    | intro _
    | split

theorem stopChannels_keeps (hm : covers 3355451701 m) {d : Dev} (h_d : Keeps m d0 d) :
    Keeps m d0 (stopChannels d) := by
  unfold stopChannels
  (try dsimp only)
  repeat' first
    | with_reducible assumption
    | (with_reducible refine covers_tr hm ?_; decide)
    | with_reducible apply stopFree_keeps
    | with_reducible apply forEach_keeps
    | intro _
    | split

theorem haltTiles_keeps (hm : covers 8589934592 m) {d : Dev} (h_d : Keeps m d0 d) :
    Keeps m d0 (haltTiles d) := by
  unfold haltTiles
  (try dsimp only)
  repeat' first
    | with_reducible assumption
    | (with_reducible refine covers_tr hm ?_; decide)
    | with_reducible apply updTile_keeps
    | with_reducible apply forEach_keeps
    | intro _
    | split

theorem stopAll_keeps (hm : covers 12482257205 m) {d : Dev} (h_d : Keeps m d0 d) :
    Keeps m d0 (stopAll d) := by
  unfold stopAll
  (try dsimp only)
  repeat' first
    | with_reducible assumption
    | (with_reducible refine covers_tr hm ?_; decide)
    | with_reducible apply chansToStage1_keeps
    | with_reducible apply stopChannels_keeps
    | with_reducible apply haltTiles_keeps
    | intro _
    | split

theorem enterSafe_keeps (hm : covers 46841995701 m) {cause : ℕ} {d : Dev} (h_d : Keeps m d0 d) :
    Keeps m d0 (enterSafe cause d) := by
  unfold enterSafe
  (try dsimp only)
  repeat' first
    | with_reducible assumption
    | (with_reducible refine covers_tr hm ?_; decide)
    | with_reducible apply holdUpdate_keeps
    | with_reducible apply stopAll_keeps
    | with_reducible apply raise_keeps
    | exact Or.inr trivial
    | (with_reducible refine Or.inr ?_; with_reducible rfl)
    | (with_reducible refine Or.inl ?_; first | with_reducible rfl | decide)
    | with_reducible exact id
    | with_reducible exact rising_put
    | with_reducible exact rising_upd
    | with_reducible exact rising_set
    | with_reducible exact rising_erase
    | with_reducible exact rising_filter
    | with_reducible exact rising_tabFilter
    | with_reducible exact rising_map
    | with_reducible exact rising_to_nil
    | with_reducible exact rising_erase_two
    | simp only [keeps_mk]
    | with_reducible apply Keeps.set_flt
    | intro _
    | split

end Sys2Proof.Machine
end

