-- ==== Sys2Proof/Laws/KeepsRows.lean ====
section
/-! SUPPORT. One lemma for each function of the block: what it keeps. -/
set_option Elab.async false
set_option autoImplicit false
set_option linter.unusedVariables false
set_option linter.unreachableTactic false
set_option linter.unusedTactic false
set_option linter.unusedSimpArgs false
namespace Sys2Proof.Machine
variable {m : Nat} {d0 : Dev}

/-! ## Faults -/

theorem logLose_keeps (hm : covers 128 m) {a : Latch} {d : Dev} (h_d : Keeps m d0 d) :
    Keeps m d0 (logLose a d) := by
  unfold logLose
  (try dsimp only)
  repeat' first
    | with_reducible assumption
    | (with_reducible refine covers_tr hm ?_; decide)
    | exact Or.inr trivial
    | (with_reducible refine Or.inr ?_; with_reducible rfl)
    | (with_reducible refine Or.inl ?_; first | with_reducible rfl | decide)
    | with_reducible exact id
    | with_reducible exact rising_put
    | with_reducible exact rising_upd
    | with_reducible exact rising_set
    | with_reducible exact rising_erase
    | with_reducible exact rising_filter
    | with_reducible exact rising_tabFilter
    | with_reducible exact rising_map
    | with_reducible exact rising_to_nil
    | with_reducible exact rising_erase_two
    | simp only [keeps_mk]
    | with_reducible apply Keeps.set_flt
    | intro _
    | split

theorem setTail_keeps (hm : covers 128 m) {value : ℕ} {d : Dev} (h_d : Keeps m d0 d) :
    Keeps m d0 (setTail value d) := by
  unfold setTail
  (try dsimp only)
  repeat' first
    | with_reducible assumption
    | (with_reducible refine covers_tr hm ?_; decide)
    | exact Or.inr trivial
    | (with_reducible refine Or.inr ?_; with_reducible rfl)
    | (with_reducible refine Or.inl ?_; first | with_reducible rfl | decide)
    | with_reducible exact id
    | with_reducible exact rising_put
    | with_reducible exact rising_upd
    | with_reducible exact rising_set
    | with_reducible exact rising_erase
    | with_reducible exact rising_filter
    | with_reducible exact rising_tabFilter
    | with_reducible exact rising_map
    | with_reducible exact rising_to_nil
    | with_reducible exact rising_erase_two
    | simp only [keeps_mk]
    | with_reducible apply Keeps.set_flt
    | intro _
    | split

theorem execLogTail_keeps {who : Sys2Proof.Caller} {value : ℕ} {s : State} {t : State}
    (ht : execLogTail who value s = .next t) : Keeps 133 s.dev t.dev := by
  have hm : covers 133 133 := rfl
  refine act_keeps (fun d hd => ?_) ht
  (try dsimp only)
  repeat' first
    | with_reducible assumption
    | (with_reducible refine covers_tr hm ?_; decide)
    | with_reducible apply regGate_keeps
    | with_reducible apply setTail_keeps
    | with_reducible apply regDrop_keeps
    | intro _
    | split

theorem discSpell_keeps (hm : covers 128 m) {src : ℕ} {d : Dev} (h_d : Keeps m d0 d) :
    Keeps m d0 (discSpell src d) := by
  unfold discSpell
  (try dsimp only)
  repeat' first
    | with_reducible assumption
    | (with_reducible refine covers_tr hm ?_; decide)
    | with_reducible apply setFltSrc_keeps
    | exact Or.inr trivial
    | (with_reducible refine Or.inr ?_; with_reducible rfl)
    | (with_reducible refine Or.inl ?_; first | with_reducible rfl | decide)
    | with_reducible exact id
    | with_reducible exact rising_put
    | with_reducible exact rising_upd
    | with_reducible exact rising_set
    | with_reducible exact rising_erase
    | with_reducible exact rising_filter
    | with_reducible exact rising_tabFilter
    | with_reducible exact rising_map
    | with_reducible exact rising_to_nil
    | with_reducible exact rising_erase_two
    | simp only [keeps_mk]
    | with_reducible apply Keeps.set_flt
    | intro _
    | split

theorem execDisagreementSpell_keeps {src : ℕ} {s : State} {t : State}
    (ht : execDisagreementSpell src s = .next t) : Keeps 128 s.dev t.dev := by
  have hm : covers 128 128 := rfl
  refine actOn_keeps (fun d hd => ?_) ht
  (try dsimp only)
  repeat' first
    | with_reducible assumption
    | (with_reducible refine covers_tr hm ?_; decide)
    | with_reducible apply discSpell_keeps
    | intro _
    | split

theorem logStore_keeps (hm : covers 384 m) {i : ℕ} {a : Latch} {d : Dev} (h_d : Keeps m d0 d) :
    Keeps m d0 (logStore i a d) := by
  unfold logStore
  (try dsimp only)
  repeat' first
    | with_reducible assumption
    | (with_reducible refine covers_tr hm ?_; decide)
    | with_reducible apply raise_keeps
    | exact Or.inr trivial
    | (with_reducible refine Or.inr ?_; with_reducible rfl)
    | (with_reducible refine Or.inl ?_; first | with_reducible rfl | decide)
    | with_reducible exact id
    | with_reducible exact rising_put
    | with_reducible exact rising_upd
    | with_reducible exact rising_set
    | with_reducible exact rising_erase
    | with_reducible exact rising_filter
    | with_reducible exact rising_tabFilter
    | with_reducible exact rising_map
    | with_reducible exact rising_to_nil
    | with_reducible exact rising_erase_two
    | simp only [keeps_mk]
    | with_reducible apply Keeps.set_flt
    | intro _
    | split

theorem logNext_keeps (hm : covers 384 m) {d : Dev} (h_d : Keeps m d0 d) :
    Keeps m d0 (logNext d) := by
  unfold logNext
  (try dsimp only)
  repeat' first
    | with_reducible assumption
    | (with_reducible refine covers_tr hm ?_; decide)
    | with_reducible apply setFltSrc_keeps
    | with_reducible apply logStore_keeps
    | with_reducible apply logLose_keeps
    | intro _
    | split

theorem acceptOne_keeps (hm : covers 384 m) {order : ℕ} {first : Bool} {worst : Bool} {r : Report} {d : Dev} (h_d : Keeps m d0 d) :
    Keeps m d0 (acceptOne order first worst r d) := by
  unfold acceptOne
  (try dsimp only)
  repeat' first
    | with_reducible assumption
    | (with_reducible refine covers_tr hm ?_; decide)
    | with_reducible apply setFltSrc_keeps
    | with_reducible apply raise_keeps
    | intro _
    | split

theorem acceptAll_keeps (hm : covers 46841995701 m) {rs : List Report} {d : Dev} (h_d : Keeps m d0 d) :
    Keeps m d0 (acceptAll rs d) := by
  unfold acceptAll
  (try dsimp only)
  repeat' first
    | with_reducible assumption
    | (with_reducible refine covers_tr hm ?_; decide)
    | with_reducible apply acceptOne_keeps
    | with_reducible apply enterSafe_keeps
    | with_reducible apply forEach_keeps
    | exact Or.inr trivial
    | (with_reducible refine Or.inr ?_; with_reducible rfl)
    | (with_reducible refine Or.inl ?_; first | with_reducible rfl | decide)
    | with_reducible exact id
    | with_reducible exact rising_put
    | with_reducible exact rising_upd
    | with_reducible exact rising_set
    | with_reducible exact rising_erase
    | with_reducible exact rising_filter
    | with_reducible exact rising_tabFilter
    | with_reducible exact rising_map
    | with_reducible exact rising_to_nil
    | with_reducible exact rising_erase_two
    | simp only [keeps_mk]
    | with_reducible apply Keeps.set_flt
    | intro _
    | split

theorem fltCntClr_keeps (hm : covers 128 m) {d : Dev} (h_d : Keeps m d0 d) :
    Keeps m d0 (fltCntClr d) := by
  unfold fltCntClr
  (try dsimp only)
  repeat' first
    | with_reducible assumption
    | (with_reducible refine covers_tr hm ?_; decide)
    | with_reducible apply setFltSrc_keeps
    | with_reducible apply forEach_keeps
    | exact Or.inr trivial
    | (with_reducible refine Or.inr ?_; with_reducible rfl)
    | (with_reducible refine Or.inl ?_; first | with_reducible rfl | decide)
    | with_reducible exact id
    | with_reducible exact rising_put
    | with_reducible exact rising_upd
    | with_reducible exact rising_set
    | with_reducible exact rising_erase
    | with_reducible exact rising_filter
    | with_reducible exact rising_tabFilter
    | with_reducible exact rising_map
    | with_reducible exact rising_to_nil
    | with_reducible exact rising_erase_two
    | simp only [keeps_mk]
    | with_reducible apply Keeps.set_flt
    | intro _
    | split

theorem wireFault_keeps (hm : covers 46841995701 m) {src : ℕ} {forced : Bool} {d : Dev} (h_d : Keeps m d0 d) :
    Keeps m d0 (wireFault src forced d) := by
  unfold wireFault
  (try dsimp only)
  repeat' first
    | with_reducible assumption
    | (with_reducible refine covers_tr hm ?_; decide)
    | with_reducible apply acceptAll_keeps
    | with_reducible apply setFltSrc_keeps
    | intro _
    | split

theorem execLogRecordWrite_keeps {now : ℕ} {s : State} {t : State}
    (ht : execLogRecordWrite now s = .next t) : Keeps 4194688 s.dev t.dev := by
  have hm : covers 4194688 4194688 := rfl
  refine act_keeps (fun d hd => ?_) ht
  (try dsimp only)
  repeat' first
    | with_reducible assumption
    | (with_reducible refine covers_tr hm ?_; decide)
    | with_reducible apply logNext_keeps
    | with_reducible apply atTime_keeps
    | intro _
    | split

theorem execSelfTestComplete_keeps {pass : Bool} {now : ℕ} {s : State} {t : State}
    (ht : execSelfTestComplete pass now s = .next t) : Keeps 46846190005 s.dev t.dev := by
  have hm : covers 46846190005 46846190005 := rfl
  refine act_keeps (fun d hd => ?_) ht
  (try dsimp only)
  repeat' first
    | with_reducible assumption
    | (with_reducible refine covers_tr hm ?_; decide)
    | with_reducible apply atTime_keeps
    | with_reducible apply enterSafe_keeps
    | exact Or.inr trivial
    | (with_reducible refine Or.inr ?_; with_reducible rfl)
    | (with_reducible refine Or.inl ?_; first | with_reducible rfl | decide)
    | with_reducible exact id
    | with_reducible exact rising_put
    | with_reducible exact rising_upd
    | with_reducible exact rising_set
    | with_reducible exact rising_erase
    | with_reducible exact rising_filter
    | with_reducible exact rising_tabFilter
    | with_reducible exact rising_map
    | with_reducible exact rising_to_nil
    | with_reducible exact rising_erase_two
    | simp only [keeps_mk]
    | with_reducible apply Keeps.set_flt
    | intro _
    | split

theorem execFltCntClr_keeps {who : Sys2Proof.Caller} {s : State} {t : State}
    (ht : execFltCntClr who s = .next t) : Keeps 133 s.dev t.dev := by
  have hm : covers 133 133 := rfl
  refine act_keeps (fun d hd => ?_) ht
  (try dsimp only)
  repeat' first
    | with_reducible assumption
    | (with_reducible refine covers_tr hm ?_; decide)
    | with_reducible apply regGate_keeps
    | with_reducible apply fltCntClr_keeps
    | intro _
    | split

theorem lostClr_keeps (hm : covers 128 m) {d : Dev} (h_d : Keeps m d0 d) :
    Keeps m d0 (lostClr d) := by
  unfold lostClr
  (try dsimp only)
  repeat' first
    | with_reducible assumption
    | (with_reducible refine covers_tr hm ?_; decide)
    | exact Or.inr trivial
    | (with_reducible refine Or.inr ?_; with_reducible rfl)
    | (with_reducible refine Or.inl ?_; first | with_reducible rfl | decide)
    | with_reducible exact id
    | with_reducible exact rising_put
    | with_reducible exact rising_upd
    | with_reducible exact rising_set
    | with_reducible exact rising_erase
    | with_reducible exact rising_filter
    | with_reducible exact rising_tabFilter
    | with_reducible exact rising_map
    | with_reducible exact rising_to_nil
    | with_reducible exact rising_erase_two
    | simp only [keeps_mk]
    | with_reducible apply Keeps.set_flt
    | intro _
    | split

theorem wireEnd_keeps (hm : covers 128 m) {src : ℕ} {d : Dev} (h_d : Keeps m d0 d) :
    Keeps m d0 (wireEnd src d) := by
  unfold wireEnd
  (try dsimp only)
  repeat' first
    | with_reducible assumption
    | (with_reducible refine covers_tr hm ?_; decide)
    | with_reducible apply levelEnd_keeps
    | with_reducible apply setFltSrc_keeps
    | intro _
    | split

theorem forceAct_keeps (hm : covers 46841995701 m) {src : ℕ} {d : Dev} (h_d : Keeps m d0 d) :
    Keeps m d0 (forceAct src d) := by
  unfold forceAct
  (try dsimp only)
  repeat' first
    | with_reducible assumption
    | (with_reducible refine covers_tr hm ?_; decide)
    | with_reducible apply discSpell_keeps
    | with_reducible apply wireEnd_keeps
    | with_reducible apply wireFault_keeps
    | with_reducible apply report_keeps
    | intro _
    | split

theorem forceWrite_keeps (hm : covers 46841995701 m) {who : Sys2Proof.Caller} {src : ℕ} {d : Dev} (h_d : Keeps m d0 d) :
    Keeps m d0 (forceWrite who src d) := by
  unfold forceWrite
  (try dsimp only)
  repeat' first
    | with_reducible assumption
    | (with_reducible refine covers_tr hm ?_; decide)
    | with_reducible apply regDrop_keeps
    | with_reducible apply forceAct_keeps
    | intro _
    | split

theorem faultReportAccept_keeps (hm : covers 46846190005 m) {srcs : List (ℕ × Bool)} {now : ℕ} {d : Dev} (h_d : Keeps m d0 d) :
    Keeps m d0 (faultReportAccept srcs now d) := by
  unfold faultReportAccept
  (try dsimp only)
  repeat' first
    | with_reducible assumption
    | (with_reducible refine covers_tr hm ?_; decide)
    | with_reducible apply acceptAll_keeps
    | with_reducible apply atTime_keeps
    | exact Or.inr trivial
    | (with_reducible refine Or.inr ?_; with_reducible rfl)
    | (with_reducible refine Or.inl ?_; first | with_reducible rfl | decide)
    | with_reducible exact id
    | with_reducible exact rising_put
    | with_reducible exact rising_upd
    | with_reducible exact rising_set
    | with_reducible exact rising_erase
    | with_reducible exact rising_filter
    | with_reducible exact rising_tabFilter
    | with_reducible exact rising_map
    | with_reducible exact rising_to_nil
    | with_reducible exact rising_erase_two
    | simp only [keeps_mk]
    | with_reducible apply Keeps.set_flt
    | intro _
    | split

theorem execFaultReportAccept_keeps {srcs : List (ℕ × Bool)} {now : ℕ} {s : State} {t : State}
    (ht : execFaultReportAccept srcs now s = .next t) : Keeps 46846190005 s.dev t.dev := by
  have hm : covers 46846190005 46846190005 := rfl
  refine act_keeps (fun d hd => ?_) ht
  (try dsimp only)
  repeat' first
    | with_reducible assumption
    | (with_reducible refine covers_tr hm ?_; decide)
    | with_reducible apply faultReportAccept_keeps
    | intro _
    | split

theorem collectorIntegrity_keeps (hm : covers 46841995701 m) {offset : ℕ} {d : Dev} (h_d : Keeps m d0 d) :
    Keeps m d0 (collectorIntegrity offset d) := by
  unfold collectorIntegrity
  (try dsimp only)
  repeat' first
    | with_reducible assumption
    | (with_reducible refine covers_tr hm ?_; decide)
    | with_reducible apply acceptAll_keeps
    | exact Or.inr trivial
    | (with_reducible refine Or.inr ?_; with_reducible rfl)
    | (with_reducible refine Or.inl ?_; first | with_reducible rfl | decide)
    | with_reducible exact id
    | with_reducible exact rising_put
    | with_reducible exact rising_upd
    | with_reducible exact rising_set
    | with_reducible exact rising_erase
    | with_reducible exact rising_filter
    | with_reducible exact rising_tabFilter
    | with_reducible exact rising_map
    | with_reducible exact rising_to_nil
    | with_reducible exact rising_erase_two
    | simp only [keeps_mk]
    | with_reducible apply Keeps.set_flt
    | intro _
    | split

theorem firstClr_keeps (hm : covers 128 m) {d : Dev} (h_d : Keeps m d0 d) :
    Keeps m d0 (firstClr d) := by
  unfold firstClr
  (try dsimp only)
  repeat' first
    | with_reducible assumption
    | (with_reducible refine covers_tr hm ?_; decide)
    | exact Or.inr trivial
    | (with_reducible refine Or.inr ?_; with_reducible rfl)
    | (with_reducible refine Or.inl ?_; first | with_reducible rfl | decide)
    | with_reducible exact id
    | with_reducible exact rising_put
    | with_reducible exact rising_upd
    | with_reducible exact rising_set
    | with_reducible exact rising_erase
    | with_reducible exact rising_filter
    | with_reducible exact rising_tabFilter
    | with_reducible exact rising_map
    | with_reducible exact rising_to_nil
    | with_reducible exact rising_erase_two
    | simp only [keeps_mk]
    | with_reducible apply Keeps.set_flt
    | intro _
    | split

theorem execFirstClr_keeps {who : Sys2Proof.Caller} {s : State} {t : State}
    (ht : execFirstClr who s = .next t) : Keeps 133 s.dev t.dev := by
  have hm : covers 133 133 := rfl
  refine act_keeps (fun d hd => ?_) ht
  (try dsimp only)
  repeat' first
    | with_reducible assumption
    | (with_reducible refine covers_tr hm ?_; decide)
    | with_reducible apply regGate_keeps
    | with_reducible apply firstClr_keeps
    | intro _
    | split

theorem execForceReport_keeps {who : Sys2Proof.Caller} {src : ℕ} {now : ℕ} {s : State} {t : State}
    (ht : execForceReport who src now s = .next t) : Keeps 46846190005 s.dev t.dev := by
  have hm : covers 46846190005 46846190005 := rfl
  refine act_keeps (fun d hd => ?_) ht
  (try dsimp only)
  repeat' first
    | with_reducible assumption
    | (with_reducible refine covers_tr hm ?_; decide)
    | with_reducible apply regGate_keeps
    | with_reducible apply forceWrite_keeps
    | with_reducible apply atTime_keeps
    | intro _
    | split

theorem standingClear_keeps (hm : covers 128 m) {src : ℕ} {mask : ℕ} {d : Dev} (h_d : Keeps m d0 d) :
    Keeps m d0 (standingClear src mask d) := by
  unfold standingClear
  (try dsimp only)
  repeat' first
    | with_reducible assumption
    | (with_reducible refine covers_tr hm ?_; decide)
    | with_reducible apply setFltSrc_keeps
    | intro _
    | split

theorem execStandingClear_keeps {who : Sys2Proof.Caller} {src : ℕ} {mask : ℕ} {s : State} {t : State}
    (ht : execStandingClear who src mask s = .next t) : Keeps 133 s.dev t.dev := by
  have hm : covers 133 133 := rfl
  refine actOn_keeps (fun d hd => ?_) ht
  (try dsimp only)
  repeat' first
    | with_reducible assumption
    | (with_reducible refine covers_tr hm ?_; decide)
    | with_reducible apply regGate_keeps
    | with_reducible apply standingClear_keeps
    | intro _
    | split

theorem worstClr_keeps (hm : covers 128 m) {d : Dev} (h_d : Keeps m d0 d) :
    Keeps m d0 (worstClr d) := by
  unfold worstClr
  (try dsimp only)
  repeat' first
    | with_reducible assumption
    | (with_reducible refine covers_tr hm ?_; decide)
    | exact Or.inr trivial
    | (with_reducible refine Or.inr ?_; with_reducible rfl)
    | (with_reducible refine Or.inl ?_; first | with_reducible rfl | decide)
    | with_reducible exact id
    | with_reducible exact rising_put
    | with_reducible exact rising_upd
    | with_reducible exact rising_set
    | with_reducible exact rising_erase
    | with_reducible exact rising_filter
    | with_reducible exact rising_tabFilter
    | with_reducible exact rising_map
    | with_reducible exact rising_to_nil
    | with_reducible exact rising_erase_two
    | simp only [keeps_mk]
    | with_reducible apply Keeps.set_flt
    | intro _
    | split

theorem execWorstClr_keeps {who : Sys2Proof.Caller} {s : State} {t : State}
    (ht : execWorstClr who s = .next t) : Keeps 133 s.dev t.dev := by
  have hm : covers 133 133 := rfl
  refine act_keeps (fun d hd => ?_) ht
  (try dsimp only)
  repeat' first
    | with_reducible assumption
    | (with_reducible refine covers_tr hm ?_; decide)
    | with_reducible apply regGate_keeps
    | with_reducible apply worstClr_keeps
    | intro _
    | split

theorem execDisagreementEnd_keeps {src : ℕ} {s : State} {t : State}
    (ht : execDisagreementEnd src s = .next t) : Keeps 128 s.dev t.dev := by
  have hm : covers 128 128 := rfl
  refine actOn_keeps (fun d hd => ?_) ht
  (try dsimp only)
  repeat' first
    | with_reducible assumption
    | (with_reducible refine covers_tr hm ?_; decide)
    | with_reducible apply wireEnd_keeps
    | intro _
    | split

theorem logSel_keeps (hm : covers 46841995701 m) {value : ℕ} {slotOk : Bool} {d : Dev} (h_d : Keeps m d0 d) :
    Keeps m d0 (logSel value slotOk d) := by
  unfold logSel
  (try dsimp only)
  repeat' first
    | with_reducible assumption
    | (with_reducible refine covers_tr hm ?_; decide)
    | with_reducible apply acceptAll_keeps
    | exact Or.inr trivial
    | (with_reducible refine Or.inr ?_; with_reducible rfl)
    | (with_reducible refine Or.inl ?_; first | with_reducible rfl | decide)
    | with_reducible exact id
    | with_reducible exact rising_put
    | with_reducible exact rising_upd
    | with_reducible exact rising_set
    | with_reducible exact rising_erase
    | with_reducible exact rising_filter
    | with_reducible exact rising_tabFilter
    | with_reducible exact rising_map
    | with_reducible exact rising_to_nil
    | with_reducible exact rising_erase_two
    | simp only [keeps_mk]
    | with_reducible apply Keeps.set_flt
    | intro _
    | split

theorem execLogSel_keeps {who : Sys2Proof.Caller} {value : ℕ} {slotOk : Bool} {now : ℕ} {s : State} {t : State}
    (ht : execLogSel who value slotOk now s = .next t) : Keeps 46846190005 s.dev t.dev := by
  have hm : covers 46846190005 46846190005 := rfl
  refine act_keeps (fun d hd => ?_) ht
  (try dsimp only)
  repeat' first
    | with_reducible assumption
    | (with_reducible refine covers_tr hm ?_; decide)
    | with_reducible apply regGate_keeps
    | with_reducible apply logSel_keeps
    | with_reducible apply atTime_keeps
    | intro _
    | split

theorem execWireFault_keeps {src : ℕ} {forced : Bool} {now : ℕ} {s : State} {t : State}
    (ht : execWireFault src forced now s = .next t) : Keeps 46846190005 s.dev t.dev := by
  have hm : covers 46846190005 46846190005 := rfl
  refine actOn_keeps (fun d hd => ?_) ht
  (try dsimp only)
  repeat' first
    | with_reducible assumption
    | (with_reducible refine covers_tr hm ?_; decide)
    | with_reducible apply wireFault_keeps
    | with_reducible apply atTime_keeps
    | intro _
    | split

theorem execCollectorIntegrity_keeps {offset : ℕ} {now : ℕ} {s : State} {t : State}
    (ht : execCollectorIntegrity offset now s = .next t) : Keeps 46846190005 s.dev t.dev := by
  have hm : covers 46846190005 46846190005 := rfl
  refine act_keeps (fun d hd => ?_) ht
  (try dsimp only)
  repeat' first
    | with_reducible assumption
    | (with_reducible refine covers_tr hm ?_; decide)
    | with_reducible apply collectorIntegrity_keeps
    | with_reducible apply atTime_keeps
    | intro _
    | split

theorem execLostClr_keeps {who : Sys2Proof.Caller} {s : State} {t : State}
    (ht : execLostClr who s = .next t) : Keeps 133 s.dev t.dev := by
  have hm : covers 133 133 := rfl
  refine act_keeps (fun d hd => ?_) ht
  (try dsimp only)
  repeat' first
    | with_reducible assumption
    | (with_reducible refine covers_tr hm ?_; decide)
    | with_reducible apply regGate_keeps
    | with_reducible apply lostClr_keeps
    | intro _
    | split

/-! ## Interrupts -/

theorem setIdle_keeps (hm : covers 1 m) {fn : ℕ} {b1 : Bool} {d : Dev} (h_d : Keeps m d0 d) :
    Keeps m d0 (setIdle fn b1 d) := by
  unfold setIdle
  (try dsimp only)
  repeat' first
    | with_reducible assumption
    | (with_reducible refine covers_tr hm ?_; decide)
    | with_reducible apply setFld_keeps
    | intro _
    | split

theorem setVec_keeps (hm : covers 512 m) {key : ℕ} {v : Msix} {d : Dev} (h_d : Keeps m d0 d) :
    Keeps m d0 (setVec key v d) := by
  unfold setVec
  (try dsimp only)
  repeat' first
    | with_reducible assumption
    | (with_reducible refine covers_tr hm ?_; decide)
    | with_reducible exact id
    | with_reducible exact rising_put
    | with_reducible exact rising_upd
    | with_reducible exact rising_set
    | with_reducible exact rising_erase
    | with_reducible exact rising_filter
    | with_reducible exact rising_tabFilter
    | with_reducible exact rising_map
    | with_reducible exact rising_to_nil
    | with_reducible exact rising_erase_two
    | simp only [keeps_mk]
    | with_reducible apply Keeps.set_msix
    | intro _
    | split

theorem sendVec_keeps (hm : covers 529 m) {key : ℕ} {d : Dev} (h_d : Keeps m d0 d) :
    Keeps m d0 (sendVec key d) := by
  unfold sendVec
  (try dsimp only)
  repeat' first
    | with_reducible assumption
    | (with_reducible refine covers_tr hm ?_; decide)
    | with_reducible apply setIdle_keeps
    | with_reducible apply emit_keeps
    | with_reducible apply setVec_keeps
    | intro _
    | split

theorem sendHeld_keeps (hm : covers 529 m) {fn : ℕ} {d : Dev} (h_d : Keeps m d0 d) :
    Keeps m d0 (sendHeld fn d) := by
  unfold sendHeld
  (try dsimp only)
  repeat' first
    | with_reducible assumption
    | (with_reducible refine covers_tr hm ?_; decide)
    | with_reducible apply sendVec_keeps
    | with_reducible apply forEach_keeps
    | intro _
    | split

theorem armIdle_keeps (hm : covers 529 m) {fn : ℕ} {d : Dev} (h_d : Keeps m d0 d) :
    Keeps m d0 (armIdle fn d) := by
  unfold armIdle
  (try dsimp only)
  repeat' first
    | with_reducible assumption
    | (with_reducible refine covers_tr hm ?_; decide)
    | with_reducible apply sendHeld_keeps
    | with_reducible apply setIdle_keeps
    | intro _
    | split

theorem holdoff_keeps (hm : covers 529 m) {key : ℕ} {d : Dev} (h_d : Keeps m d0 d) :
    Keeps m d0 (holdoff key d) := by
  unfold holdoff
  (try dsimp only)
  repeat' first
    | with_reducible assumption
    | (with_reducible refine covers_tr hm ?_; decide)
    | with_reducible apply sendVec_keeps
    | intro _
    | split

theorem execMsixHoldoffExpiry_keeps {fn : ℕ} {vector : ℕ} {now : ℕ} {s : State} {t : State}
    (ht : execMsixHoldoffExpiry fn vector now s = .next t) : Keeps 4194833 s.dev t.dev := by
  have hm : covers 4194833 4194833 := rfl
  refine actOn_keeps (fun d hd => ?_) ht
  (try dsimp only)
  repeat' first
    | with_reducible assumption
    | (with_reducible refine covers_tr hm ?_; decide)
    | with_reducible apply holdoff_keeps
    | with_reducible apply atTime_keeps
    | intro _
    | split

theorem unmask_keeps (hm : covers 529 m) {key : ℕ} {d : Dev} (h_d : Keeps m d0 d) :
    Keeps m d0 (unmask key d) := by
  unfold unmask
  (try dsimp only)
  repeat' first
    | with_reducible assumption
    | (with_reducible refine covers_tr hm ?_; decide)
    | with_reducible apply setVec_keeps
    | with_reducible apply sendVec_keeps
    | intro _
    | split

theorem execMsixUnmask_keeps {fn : ℕ} {vector : ℕ} {now : ℕ} {s : State} {t : State}
    (ht : execMsixUnmask fn vector now s = .next t) : Keeps 4194833 s.dev t.dev := by
  have hm : covers 4194833 4194833 := rfl
  refine actOn_keeps (fun d hd => ?_) ht
  (try dsimp only)
  repeat' first
    | with_reducible assumption
    | (with_reducible refine covers_tr hm ?_; decide)
    | with_reducible apply unmask_keeps
    | with_reducible apply atTime_keeps
    | intro _
    | split

theorem idleWrite_keeps (hm : covers 66193 m) {who : Sys2Proof.Caller} {mask : ℕ} {d : Dev} (h_d : Keeps m d0 d) :
    Keeps m d0 (idleWrite who mask d) := by
  unfold idleWrite
  (try dsimp only)
  repeat' first
    | with_reducible assumption
    | (with_reducible refine covers_tr hm ?_; decide)
    | with_reducible apply mend_keeps
    | with_reducible apply armIdle_keeps
    | with_reducible apply setIdle_keeps
    | with_reducible apply forEach_keeps
    | intro _
    | split

theorem execIdleHintArm_keeps {who : Sys2Proof.Caller} {mask : ℕ} {now : ℕ} {s : State} {t : State}
    (ht : execIdleHintArm who mask now s = .next t) : Keeps 4260501 s.dev t.dev := by
  have hm : covers 4260501 4260501 := rfl
  refine act_keeps (fun d hd => ?_) ht
  (try dsimp only)
  repeat' first
    | with_reducible assumption
    | (with_reducible refine covers_tr hm ?_; decide)
    | with_reducible apply hostGate_keeps
    | with_reducible apply regDrop_keeps
    | with_reducible apply idleWrite_keeps
    | with_reducible apply atTime_keeps
    | with_reducible apply regGate_keeps
    | intro _
    | split

theorem toVec_keeps (hm : covers 529 m) {key : ℕ} {n : ℕ} {eoc : Bool} {bypass : Bool} {d : Dev} (h_d : Keeps m d0 d) :
    Keeps m d0 (toVec key n eoc bypass d) := by
  unfold toVec
  (try dsimp only)
  repeat' first
    | with_reducible assumption
    | (with_reducible refine covers_tr hm ?_; decide)
    | with_reducible apply setVec_keeps
    | with_reducible apply sendVec_keeps
    | intro _
    | split

theorem execIrqDoorbell_keeps {who : Sys2Proof.Caller} {source : ℕ} {now : ℕ} {s : State} {t : State}
    (ht : execIrqDoorbell who source now s = .next t) : Keeps 4194565 s.dev t.dev := by
  have hm : covers 4194565 4194565 := rfl
  refine act_keeps (fun d hd => ?_) ht
  (try dsimp only)
  repeat' first
    | with_reducible assumption
    | (with_reducible refine covers_tr hm ?_; decide)
    | with_reducible apply atTime_keeps
    | with_reducible apply raise_keeps
    | with_reducible apply regGate_keeps
    | with_reducible apply regDrop_keeps
    | intro _
    | split

theorem deliverIrq_keeps (hm : covers 785 m) {d : Dev} (h_d : Keeps m d0 d) :
    Keeps m d0 (deliverIrq d) := by
  unfold deliverIrq
  (try dsimp only)
  repeat' first
    | with_reducible assumption
    | (with_reducible refine covers_tr hm ?_; decide)
    | with_reducible apply emit_keeps
    | with_reducible apply toVec_keeps
    | with_reducible exact id
    | with_reducible exact rising_put
    | with_reducible exact rising_upd
    | with_reducible exact rising_set
    | with_reducible exact rising_erase
    | with_reducible exact rising_filter
    | with_reducible exact rising_tabFilter
    | with_reducible exact rising_map
    | with_reducible exact rising_to_nil
    | with_reducible exact rising_erase_two
    | simp only [keeps_mk]
    | with_reducible apply Keeps.set_irq
    | intro _
    | split

theorem execInterruptDelivery_keeps {now : ℕ} {s : State} {t : State}
    (ht : execInterruptDelivery now s = .next t) : Keeps 4195089 s.dev t.dev := by
  have hm : covers 4195089 4195089 := rfl
  refine act_keeps (fun d hd => ?_) ht
  (try dsimp only)
  repeat' first
    | with_reducible assumption
    | (with_reducible refine covers_tr hm ?_; decide)
    | with_reducible apply deliverIrq_keeps
    | with_reducible apply atTime_keeps
    | intro _
    | split

/-! ## Drawstring -/

theorem setDsr_keeps (hm : covers 268435456 m) {x : Dsr} {d : Dev} (hx : x.ring ≤ 5 ∨ x.ring = d.dsr.ring) (h : Keeps m d0 d) :
    Keeps m d0 (setDsr x d) := (Keeps.set_dsr hm hx h).keeps

theorem ringState_keeps (hm : covers 805306500 m) {n : Nat} {d : Dev} (hn : n ≤ 5) (h : Keeps m d0 d) :
    Keeps m d0 (ringState n d) := by
  unfold ringState
  refine beginTraining_keeps (covers_tr hm (by decide)) (setDsr_keeps (covers_tr hm (by decide)) (.inl hn) ?_)
  split
  · exact levelEnd_keeps (covers_tr hm (by decide)) h
  · exact h

theorem issueToken_keeps (hm : covers 268435472 m) {d : Dev} (h_d : Keeps m d0 d) :
    Keeps m d0 (issueToken d) := by
  unfold issueToken
  (try dsimp only)
  repeat' first
    | with_reducible assumption
    | (with_reducible refine covers_tr hm ?_; decide)
    | with_reducible apply emit_keeps
    | with_reducible apply setDsr_keeps
    | (with_reducible refine Or.inr ?_; with_reducible rfl)
    | (with_reducible refine Or.inl ?_; first | with_reducible rfl | decide | omega)
    | intro _
    | split

theorem tokenRegenerate_keeps (hm : covers 268435473 m) {d : Dev} (h_d : Keeps m d0 d) :
    Keeps m d0 (tokenRegenerate d) := by
  unfold tokenRegenerate
  (try dsimp only)
  repeat' first
    | with_reducible assumption
    | (with_reducible refine covers_tr hm ?_; decide)
    | with_reducible apply regCount_keeps
    | with_reducible apply issueToken_keeps
    | intro _
    | split

theorem execTokenRegenerate_keeps {now : ℕ} {s : State} {t : State}
    (ht : execTokenRegenerate now s = .next t) : Keeps 272629777 s.dev t.dev := by
  have hm : covers 272629777 272629777 := rfl
  refine act_keeps (fun d hd => ?_) ht
  (try dsimp only)
  repeat' first
    | with_reducible assumption
    | (with_reducible refine covers_tr hm ?_; decide)
    | with_reducible apply tokenRegenerate_keeps
    | with_reducible apply atTime_keeps
    | intro _
    | split

theorem masterConflict_keeps (hm : covers 268435584 m) {other : ℕ} {d : Dev} (h_d : Keeps m d0 d) :
    Keeps m d0 (masterConflict other d) := by
  unfold masterConflict
  (try dsimp only)
  repeat' first
    | with_reducible assumption
    | (with_reducible refine covers_tr hm ?_; decide)
    | with_reducible apply pulse_keeps
    | with_reducible apply setDsr_keeps
    | (with_reducible refine Or.inr ?_; with_reducible rfl)
    | (with_reducible refine Or.inl ?_; first | with_reducible rfl | decide | omega)
    | intro _
    | split

theorem ringOpen_keeps (hm : covers 805306501 m) {d : Dev} (h_d : Keeps m d0 d) :
    Keeps m d0 (ringOpen d) := by
  unfold ringOpen
  (try dsimp only)
  repeat' first
    | with_reducible assumption
    | (with_reducible refine covers_tr hm ?_; decide)
    | with_reducible apply beginTraining_keeps
    | with_reducible apply level_keeps
    | with_reducible apply regCount_keeps
    | with_reducible apply setDsr_keeps
    | (with_reducible refine Or.inr ?_; with_reducible rfl)
    | (with_reducible refine Or.inl ?_; first | with_reducible rfl | decide | omega)
    | intro _
    | split

theorem closureLimit_keeps (hm : covers 805306501 m) {d : Dev} (h_d : Keeps m d0 d) :
    Keeps m d0 (closureLimit d) := by
  unfold closureLimit
  (try dsimp only)
  repeat' first
    | with_reducible assumption
    | (with_reducible refine covers_tr hm ?_; decide)
    | with_reducible apply ringOpen_keeps
    | intro _
    | split

theorem execClosureLimit_keeps {now : ℕ} {s : State} {t : State}
    (ht : execClosureLimit now s = .next t) : Keeps 809500805 s.dev t.dev := by
  have hm : covers 809500805 809500805 := rfl
  refine act_keeps (fun d hd => ?_) ht
  (try dsimp only)
  repeat' first
    | with_reducible assumption
    | (with_reducible refine covers_tr hm ?_; decide)
    | with_reducible apply closureLimit_keeps
    | with_reducible apply atTime_keeps
    | intro _
    | split

theorem reenum_keeps (hm : covers 805306501 m) {who : Sys2Proof.Caller} {d : Dev} (h_d : Keeps m d0 d) :
    Keeps m d0 (reenum who d) := by
  unfold reenum
  (try dsimp only)
  repeat' first
    | with_reducible assumption
    | (with_reducible refine covers_tr hm ?_; decide)
    | with_reducible apply ringState_keeps
    | with_reducible apply regDrop_keeps
    | (show _ ≤ 5; decide)
    | intro _
    | split

theorem execDrawstringFrameError_keeps {s : State} {t : State}
    (ht : execDrawstringFrameError s = .next t) : Keeps 1 s.dev t.dev := by
  have hm : covers 1 1 := rfl
  refine act_keeps (fun d hd => ?_) ht
  (try dsimp only)
  repeat' first
    | with_reducible assumption
    | (with_reducible refine covers_tr hm ?_; decide)
    | with_reducible apply regCount_keeps
    | intro _
    | split

theorem afterAck_keeps (hm : covers 268435456 m) {f : OwnFrame} {ack : ℕ} {d : Dev} (h_d : Keeps m d0 d) :
    Keeps m d0 (afterAck f ack d) := by
  unfold afterAck
  (try dsimp only)
  repeat' first
    | with_reducible assumption
    | (with_reducible refine covers_tr hm ?_; decide)
    | with_reducible apply setDsr_keeps
    | (with_reducible refine Or.inr ?_; with_reducible rfl)
    | (with_reducible refine Or.inl ?_; first | with_reducible rfl | decide | omega)
    | intro _
    | split

theorem sendFrame_keeps (hm : covers 268435472 m) {f : OwnFrame} {d : Dev} (h_d : Keeps m d0 d) :
    Keeps m d0 (sendFrame f d) := by
  unfold sendFrame
  (try dsimp only)
  repeat' first
    | with_reducible assumption
    | (with_reducible refine covers_tr hm ?_; decide)
    | with_reducible apply emit_keeps
    | with_reducible apply setDsr_keeps
    | (with_reducible refine Or.inr ?_; with_reducible rfl)
    | (with_reducible refine Or.inl ?_; first | with_reducible rfl | decide | omega)
    | intro _
    | split

theorem frameRetry_keeps (hm : covers 268435472 m) {ack : ℕ} {d : Dev} (h_d : Keeps m d0 d) :
    Keeps m d0 (frameRetry ack d) := by
  unfold frameRetry
  (try dsimp only)
  repeat' first
    | with_reducible assumption
    | (with_reducible refine covers_tr hm ?_; decide)
    | with_reducible apply afterAck_keeps
    | with_reducible apply sendFrame_keeps
    | with_reducible apply setDsr_keeps
    | (with_reducible refine Or.inr ?_; with_reducible rfl)
    | (with_reducible refine Or.inl ?_; first | with_reducible rfl | decide | omega)
    | intro _
    | split

theorem dsWrite_keeps (hm : covers 268435456 m) {dst : ℕ} {idx : ℕ} {ctx : ℕ} {len : ℕ} {data : ℕ} {d : Dev} (h_d : Keeps m d0 d) :
    Keeps m d0 (dsWrite dst idx ctx len data d) := by
  unfold dsWrite
  (try dsimp only)
  repeat' first
    | with_reducible assumption
    | (with_reducible refine covers_tr hm ?_; decide)
    | with_reducible apply setDsr_keeps
    | (with_reducible refine Or.inr ?_; with_reducible rfl)
    | (with_reducible refine Or.inl ?_; first | with_reducible rfl | decide | omega)
    | intro _
    | split

theorem execFrameRetry_keeps {ack : ℕ} {now : ℕ} {s : State} {t : State}
    (ht : execFrameRetry ack now s = .next t) : Keeps 272629776 s.dev t.dev := by
  have hm : covers 272629776 272629776 := rfl
  refine act_keeps (fun d hd => ?_) ht
  (try dsimp only)
  repeat' first
    | with_reducible assumption
    | (with_reducible refine covers_tr hm ?_; decide)
    | with_reducible apply frameRetry_keeps
    | with_reducible apply atTime_keeps
    | intro _
    | split

theorem dsSend_keeps (hm : covers 268435456 m) {dst : ℕ} {op : ℕ} {idx : ℕ} {sub : ℕ} {tag : ℕ} {d : Dev} (h_d : Keeps m d0 d) :
    Keeps m d0 (dsSend dst op idx sub tag d) := by
  unfold dsSend
  (try dsimp only)
  repeat' first
    | with_reducible assumption
    | (with_reducible refine covers_tr hm ?_; decide)
    | with_reducible apply setDsr_keeps
    | (with_reducible refine Or.inr ?_; with_reducible rfl)
    | (with_reducible refine Or.inl ?_; first | with_reducible rfl | decide | omega)
    | intro _
    | split

theorem requestTimeout_keeps (hm : covers 268435456 m) {d : Dev} (h_d : Keeps m d0 d) :
    Keeps m d0 (requestTimeout d) := by
  unfold requestTimeout
  (try dsimp only)
  repeat' first
    | with_reducible assumption
    | (with_reducible refine covers_tr hm ?_; decide)
    | with_reducible apply setDsr_keeps
    | (with_reducible refine Or.inr ?_; with_reducible rfl)
    | (with_reducible refine Or.inl ?_; first | with_reducible rfl | decide | omega)
    | intro _
    | split

theorem sendEnum_keeps (hm : covers 805306516 m) {tries : ℕ} {d : Dev} (h_d : Keeps m d0 d) :
    Keeps m d0 (sendEnum tries d) := by
  unfold sendEnum
  (try dsimp only)
  repeat' first
    | with_reducible assumption
    | (with_reducible refine covers_tr hm ?_; decide)
    | with_reducible apply sendFrame_keeps
    | with_reducible apply ringState_keeps
    | with_reducible apply setDsr_keeps
    | (show _ ≤ 5; decide)
    | (with_reducible refine Or.inr ?_; with_reducible rfl)
    | (with_reducible refine Or.inl ?_; first | with_reducible rfl | decide | omega)
    | intro _
    | split

theorem dsClose_keeps (hm : covers 805306516 m) {from_ : ℕ} {d : Dev} (h_d : Keeps m d0 d) :
    Keeps m d0 (dsClose from_ d) := by
  unfold dsClose
  (try dsimp only)
  repeat' first
    | with_reducible assumption
    | (with_reducible refine covers_tr hm ?_; decide)
    | with_reducible apply sendEnum_keeps
    | with_reducible apply masterConflict_keeps
    | intro _
    | split

theorem tableStored_keeps (hm : covers 805306500 m) {es : List Nat} {d : Dev} (h : Keeps m d0 d) :
    Keeps m d0 (objSet 0x1C05 0 (tableValue es) (ringState 4 d)) :=
  objSet_keeps (covers_tr hm (by decide)) (ringState_keeps (covers_tr hm (by decide)) (by decide) h)

theorem nodesSet_keeps (hm : covers 268435456 m) {d : Dev} (h : Keeps m d0 d) (n : Nat) (k : Bool) (l : Nat) (o : Option Nat) :
    Keeps m d0 (setDsr { d.dsr with nodes := n, conflict := k, lastToken := l, masterId := o } d) :=
  setDsr_keeps (covers_tr hm (by decide)) (Or.inr (by with_reducible rfl)) h

theorem takeTable_keeps (hm : covers 805306500 m) {es : List Nat} {d : Dev} (h : Keeps m d0 d) : Keeps m d0 (takeTable es d) := by
  delta takeTable
  dsimp only
  split
  · exact level_keeps (covers_tr hm (by decide)) (nodesSet_keeps (covers_tr hm (by decide)) (tableStored_keeps (covers_tr hm (by decide)) h) _ _ _ _)
  · exact levelEnd_keeps (covers_tr hm (by decide)) (nodesSet_keeps (covers_tr hm (by decide)) (tableStored_keeps (covers_tr hm (by decide)) h) _ _ _ _)

theorem dsEnum_keeps (hm : covers 805306516 m) {from_ : ℕ} {hop : ℕ} {es : List ℕ} {d : Dev} (h_d : Keeps m d0 d) :
    Keeps m d0 (dsEnum from_ hop es d) := by
  unfold dsEnum
  (try dsimp only)
  repeat' first
    | with_reducible assumption
    | (with_reducible refine covers_tr hm ?_; decide)
    | with_reducible apply masterConflict_keeps
    | with_reducible apply takeTable_keeps
    | with_reducible apply setDsr_keeps
    | with_reducible apply issueToken_keeps
    | with_reducible apply sendFrame_keeps
    | with_reducible apply ringState_keeps
    | (show _ ≤ 5; decide)
    | (with_reducible refine Or.inr ?_; with_reducible rfl)
    | (with_reducible refine Or.inl ?_; first | with_reducible rfl | decide | omega)
    | intro _
    | split

theorem execReenum_keeps {who : Sys2Proof.Caller} {now : ℕ} {s : State} {t : State}
    (ht : execReenum who now s = .next t) : Keeps 809500805 s.dev t.dev := by
  have hm : covers 809500805 809500805 := rfl
  refine act_keeps (fun d hd => ?_) ht
  (try dsimp only)
  repeat' first
    | with_reducible assumption
    | (with_reducible refine covers_tr hm ?_; decide)
    | with_reducible apply regGate_keeps
    | with_reducible apply reenum_keeps
    | with_reducible apply atTime_keeps
    | intro _
    | split

theorem closeSend_keeps (hm : covers 268435472 m) {d : Dev} (h_d : Keeps m d0 d) :
    Keeps m d0 (closeSend d) := by
  unfold closeSend
  (try dsimp only)
  repeat' first
    | with_reducible assumption
    | (with_reducible refine covers_tr hm ?_; decide)
    | with_reducible apply sendFrame_keeps
    | with_reducible apply setDsr_keeps
    | (with_reducible refine Or.inr ?_; with_reducible rfl)
    | (with_reducible refine Or.inl ?_; first | with_reducible rfl | decide | omega)
    | intro _
    | split

theorem execCloseSend_keeps {now : ℕ} {s : State} {t : State}
    (ht : execCloseSend now s = .next t) : Keeps 272629776 s.dev t.dev := by
  have hm : covers 272629776 272629776 := rfl
  refine act_keeps (fun d hd => ?_) ht
  (try dsimp only)
  repeat' first
    | with_reducible assumption
    | (with_reducible refine covers_tr hm ?_; decide)
    | with_reducible apply closeSend_keeps
    | with_reducible apply atTime_keeps
    | intro _
    | split

theorem execClose_keeps {master : ℕ} {now : ℕ} {s : State} {t : State}
    (ht : execClose master now s = .next t) : Keeps 809500820 s.dev t.dev := by
  have hm : covers 809500820 809500820 := rfl
  refine act_keeps (fun d hd => ?_) ht
  (try dsimp only)
  repeat' first
    | with_reducible assumption
    | (with_reducible refine covers_tr hm ?_; decide)
    | with_reducible apply dsClose_keeps
    | with_reducible apply atTime_keeps
    | intro _
    | split

theorem hopLock_keeps (hm : covers 805306500 m) {d : Dev} (h_d : Keeps m d0 d) :
    Keeps m d0 (hopLock d) := by
  unfold hopLock
  (try dsimp only)
  repeat' first
    | with_reducible assumption
    | (with_reducible refine covers_tr hm ?_; decide)
    | with_reducible apply setDsr_keeps
    | with_reducible apply ringState_keeps
    | (show _ ≤ 5; decide)
    | (with_reducible refine Or.inr ?_; with_reducible rfl)
    | (with_reducible refine Or.inl ?_; first | with_reducible rfl | decide | omega)
    | intro _
    | split

theorem execHopLock_keeps {now : ℕ} {s : State} {t : State}
    (ht : execHopLock now s = .next t) : Keeps 809500804 s.dev t.dev := by
  have hm : covers 809500804 809500804 := rfl
  refine act_keeps (fun d hd => ?_) ht
  (try dsimp only)
  repeat' first
    | with_reducible assumption
    | (with_reducible refine covers_tr hm ?_; decide)
    | with_reducible apply hopLock_keeps
    | with_reducible apply atTime_keeps
    | intro _
    | split

theorem dsToken_keeps (hm : covers 268435472 m) {seq : ℕ} {ack : ℕ} {d : Dev} (h_d : Keeps m d0 d) :
    Keeps m d0 (dsToken seq ack d) := by
  unfold dsToken
  (try dsimp only)
  repeat' first
    | with_reducible assumption
    | (with_reducible refine covers_tr hm ?_; decide)
    | with_reducible apply setDsr_keeps
    | with_reducible apply afterAck_keeps
    | with_reducible apply sendFrame_keeps
    | with_reducible apply emit_keeps
    | (with_reducible refine Or.inr ?_; with_reducible rfl)
    | (with_reducible refine Or.inl ?_; first | with_reducible rfl | decide | omega)
    | intro _
    | split

theorem execTable_keeps {entries : List ℕ} {now : ℕ} {s : State} {t : State}
    (ht : execTable entries now s = .next t) : Keeps 809500804 s.dev t.dev := by
  have hm : covers 809500804 809500804 := rfl
  refine act_keeps (fun d hd => ?_) ht
  (try dsimp only)
  repeat' first
    | with_reducible assumption
    | (with_reducible refine covers_tr hm ?_; decide)
    | with_reducible apply takeTable_keeps
    | with_reducible apply atTime_keeps
    | intro _
    | split

theorem enumTimeout_keeps (hm : covers 805306517 m) {d : Dev} (h_d : Keeps m d0 d) :
    Keeps m d0 (enumTimeout d) := by
  unfold enumTimeout
  (try dsimp only)
  repeat' first
    | with_reducible assumption
    | (with_reducible refine covers_tr hm ?_; decide)
    | with_reducible apply sendEnum_keeps
    | with_reducible apply ringOpen_keeps
    | intro _
    | split

theorem execDrawstringToken_keeps {seq : ℕ} {ack : ℕ} {now : ℕ} {s : State} {t : State}
    (ht : execDrawstringToken seq ack now s = .next t) : Keeps 272629776 s.dev t.dev := by
  have hm : covers 272629776 272629776 := rfl
  refine act_keeps (fun d hd => ?_) ht
  (try dsimp only)
  repeat' first
    | with_reducible assumption
    | (with_reducible refine covers_tr hm ?_; decide)
    | with_reducible apply dsToken_keeps
    | with_reducible apply atTime_keeps
    | intro _
    | split

theorem dsrCntClr_keeps (hm : covers 1 m) {d : Dev} (h_d : Keeps m d0 d) :
    Keeps m d0 (dsrCntClr d) := by
  unfold dsrCntClr
  (try dsimp only)
  repeat' first
    | with_reducible assumption
    | (with_reducible refine covers_tr hm ?_; decide)
    | with_reducible apply regSet_keeps
    | intro _
    | split

theorem execDsrCntClr_keeps {who : Sys2Proof.Caller} {s : State} {t : State}
    (ht : execDsrCntClr who s = .next t) : Keeps 5 s.dev t.dev := by
  have hm : covers 5 5 := rfl
  refine act_keeps (fun d hd => ?_) ht
  (try dsimp only)
  repeat' first
    | with_reducible assumption
    | (with_reducible refine covers_tr hm ?_; decide)
    | with_reducible apply regGate_keeps
    | with_reducible apply dsrCntClr_keeps
    | intro _
    | split

theorem execEnum_keeps {master : ℕ} {hop : ℕ} {entries : List ℕ} {now : ℕ} {s : State} {t : State}
    (ht : execEnum master hop entries now s = .next t) : Keeps 809500820 s.dev t.dev := by
  have hm : covers 809500820 809500820 := rfl
  refine act_keeps (fun d hd => ?_) ht
  (try dsimp only)
  repeat' first
    | with_reducible assumption
    | (with_reducible refine covers_tr hm ?_; decide)
    | with_reducible apply dsEnum_keeps
    | with_reducible apply atTime_keeps
    | intro _
    | split

theorem execEnumTimeout_keeps {now : ℕ} {s : State} {t : State}
    (ht : execEnumTimeout now s = .next t) : Keeps 809500821 s.dev t.dev := by
  have hm : covers 809500821 809500821 := rfl
  refine act_keeps (fun d hd => ?_) ht
  (try dsimp only)
  repeat' first
    | with_reducible assumption
    | (with_reducible refine covers_tr hm ?_; decide)
    | with_reducible apply enumTimeout_keeps
    | with_reducible apply atTime_keeps
    | intro _
    | split

theorem execRequestTimeout_keeps {now : ℕ} {s : State} {t : State}
    (ht : execRequestTimeout now s = .next t) : Keeps 272629760 s.dev t.dev := by
  have hm : covers 272629760 272629760 := rfl
  refine act_keeps (fun d hd => ?_) ht
  (try dsimp only)
  repeat' first
    | with_reducible assumption
    | (with_reducible refine covers_tr hm ?_; decide)
    | with_reducible apply requestTimeout_keeps
    | with_reducible apply atTime_keeps
    | intro _
    | split

/-! ## Tiles -/

theorem startCoding_keeps (hm : covers 8589934596 m) {t : ℕ} {j : Job} {d : Dev} (h_d : Keeps m d0 d) :
    Keeps m d0 (startCoding t j d) := by
  unfold startCoding
  (try dsimp only)
  repeat' first
    | with_reducible assumption
    | (with_reducible refine covers_tr hm ?_; decide)
    | with_reducible apply updTile_keeps
    | with_reducible apply objMax_keeps
    | intro _
    | split

theorem mismatchFault_keeps (hm : covers 160 m) {t : ℕ} {d : Dev} (h_d : Keeps m d0 d) :
    Keeps m d0 (mismatchFault t d) := by
  unfold mismatchFault
  (try dsimp only)
  repeat' first
    | with_reducible assumption
    | (with_reducible refine covers_tr hm ?_; decide)
    | with_reducible apply freeNext_keeps
    | with_reducible apply pulse_keeps
    | intro _
    | split

theorem checkLining_keeps (hm : covers 3776014457269 m) {t : ℕ} {l : ℕ} {j : Job} {d : Dev} (h_d : Keeps m d0 d) :
    Keeps m d0 (checkLining t l j d) := by
  unfold checkLining
  (try dsimp only)
  repeat' first
    | with_reducible assumption
    | (with_reducible refine covers_tr hm ?_; decide)
    | with_reducible apply updFrame_keeps
    | with_reducible apply degradeLining_keeps
    | with_reducible apply mismatchFault_keeps
    | with_reducible apply objCount_keeps
    | with_reducible apply countMismatch_keeps
    | with_reducible apply sendLinState_keeps
    | with_reducible apply linChange_keeps
    | intro _
    | split

theorem closeGrant_keeps (hm : covers 3776014457269 m) {t : ℕ} {recon : List ℕ} {d : Dev} (h_d : Keeps m d0 d) :
    Keeps m d0 (closeGrant t recon d) := by
  unfold closeGrant
  (try dsimp only)
  repeat' first
    | with_reducible assumption
    | (with_reducible refine covers_tr hm ?_; decide)
    | with_reducible apply updTile_keeps
    | with_reducible apply updBand_keeps
    | with_reducible apply outputBand_keeps
    | with_reducible apply writeBand_keeps
    | with_reducible apply checkLining_keeps
    | intro _
    | split

theorem execCloseGrant_keeps {tile : ℕ} {recon : List ℕ} {now : ℕ} {s : State} {t : State}
    (ht : execCloseGrant tile recon now s = .next t) : Keeps 3776018651573 s.dev t.dev := by
  have hm : covers 3776018651573 3776018651573 := rfl
  refine actOn_keeps (fun d hd => ?_) ht
  (try dsimp only)
  repeat' first
    | with_reducible assumption
    | (with_reducible refine covers_tr hm ?_; decide)
    | with_reducible apply closeGrant_keeps
    | with_reducible apply atTime_keeps
    | intro _
    | split

theorem markRetired_keeps (hm : covers 8589934592 m) {t : ℕ} {d : Dev} (h_d : Keeps m d0 d) :
    Keeps m d0 (markRetired t d) := by
  unfold markRetired
  (try dsimp only)
  repeat' first
    | with_reducible assumption
    | (with_reducible refine covers_tr hm ?_; decide)
    | with_reducible apply updTile_keeps
    | intro _
    | split

theorem retireTile_keeps (hm : covers 2208150061188 m) {t : ℕ} {flashOk : Bool} {d : Dev} (h_d : Keeps m d0 d) :
    Keeps m d0 (retireTile t flashOk d) := by
  unfold retireTile
  (try dsimp only)
  repeat' first
    | with_reducible assumption
    | (with_reducible refine covers_tr hm ?_; decide)
    | with_reducible apply powerSettle_keeps
    | with_reducible apply levelEnd_keeps
    | with_reducible apply updTile_keeps
    | with_reducible apply objSet_keeps
    | with_reducible apply pulse_keeps
    | intro _
    | split

theorem tileRetireWrite_keeps (hm : covers 3776290625941 m) {q : Sys2Proof.Req} {tile : ℕ} {flashOk : Bool} {a : Dev} (h_a : Keeps m d0 a) :
    Keeps m d0 (tileRetireWrite q tile flashOk a) := by
  unfold tileRetireWrite
  (try dsimp only)
  repeat' first
    | with_reducible assumption
    | (with_reducible refine covers_tr hm ?_; decide)
    | with_reducible apply perform_keeps
    | with_reducible apply markRetired_keeps
    | with_reducible apply retireTile_keeps
    | with_reducible apply tileStops_keeps
    | intro _
    | split

theorem execTileRetireCommand_keeps {q : Sys2Proof.Req} {tile : ℕ} {flashOk : Bool} {s : State} {t : State}
    (ht : execTileRetireCommand q tile flashOk s = .next t) : Keeps 3776290625941 s.dev t.dev := by
  have hm : covers 3776290625941 3776290625941 := rfl
  refine act_keeps (fun d hd => ?_) ht
  (try dsimp only)
  repeat' first
    | with_reducible assumption
    | (with_reducible refine covers_tr hm ?_; decide)
    | with_reducible apply tileRetireWrite_keeps
    | intro _
    | split

theorem becomeIdle_keeps (hm : covers 8589934592 m) {t : ℕ} {d : Dev} (h_d : Keeps m d0 d) :
    Keeps m d0 (becomeIdle t d) := by
  unfold becomeIdle
  (try dsimp only)
  repeat' first
    | with_reducible assumption
    | (with_reducible refine covers_tr hm ?_; decide)
    | with_reducible apply updTile_keeps
    | intro _
    | split

theorem leaveTile_keeps (hm : covers 342724974869 m) {t : ℕ} {d : Dev} (h_d : Keeps m d0 d) :
    Keeps m d0 (leaveTile t d) := by
  unfold leaveTile
  (try dsimp only)
  repeat' first
    | with_reducible assumption
    | (with_reducible refine covers_tr hm ?_; decide)
    | with_reducible apply earlyStart_keeps
    | with_reducible apply updTile_keeps
    | with_reducible apply startNext_keeps
    | with_reducible apply takeOver_keeps
    | with_reducible apply becomeIdle_keeps
    | intro _
    | split

theorem contextBad_keeps (hm : covers 342724974997 m) {t : ℕ} {j : Job} {d : Dev} (h_d : Keeps m d0 d) :
    Keeps m d0 (contextBad t j d) := by
  unfold contextBad
  (try dsimp only)
  repeat' first
    | with_reducible assumption
    | (with_reducible refine covers_tr hm ?_; decide)
    | with_reducible apply leaveTile_keeps
    | with_reducible apply degradeLining_keeps
    | with_reducible apply dropFrames_keeps
    | with_reducible apply suspend_keeps
    | intro _
    | split

theorem partCoded_keeps (hm : covers 342724974997 m) {t : ℕ} {res : Sys2Proof.PartResult} {d : Dev} (h_d : Keeps m d0 d) :
    Keeps m d0 (partCoded t res d) := by
  unfold partCoded
  (try dsimp only)
  repeat' first
    | with_reducible assumption
    | (with_reducible refine covers_tr hm ?_; decide)
    | with_reducible apply leaveTile_keeps
    | with_reducible apply setLoom_keeps
    | with_reducible apply contextBad_keeps
    | with_reducible apply updPart_keeps
    | with_reducible apply updTile_keeps
    | with_reducible apply countReads_keeps
    | with_reducible apply objCount_keeps
    | intro _
    | split

theorem execPartCoded_keeps {tile : ℕ} {res : Sys2Proof.PartResult} {now : ℕ} {s : State} {t : State}
    (ht : execPartCoded tile res now s = .next t) : Keeps 342729169301 s.dev t.dev := by
  have hm : covers 342729169301 342729169301 := rfl
  refine actOn_keeps (fun d hd => ?_) ht
  (try dsimp only)
  repeat' first
    | with_reducible assumption
    | (with_reducible refine covers_tr hm ?_; decide)
    | with_reducible apply partCoded_keeps
    | with_reducible apply atTime_keeps
    | intro _
    | split

theorem settleBudget_keeps (hm : covers 8589934593 m) {t : ℕ} {d : Dev} (h_d : Keeps m d0 d) :
    Keeps m d0 (settleBudget t d) := by
  unfold settleBudget
  (try dsimp only)
  repeat' first
    | with_reducible assumption
    | (with_reducible refine covers_tr hm ?_; decide)
    | with_reducible apply updTile_keeps
    | with_reducible apply regSet_keeps
    | intro _
    | split

theorem overrun_keeps (hm : covers 25769804165 m) {t : ℕ} {j : Job} {d : Dev} (h_d : Keeps m d0 d) :
    Keeps m d0 (overrun t j d) := by
  unfold overrun
  (try dsimp only)
  repeat' first
    | with_reducible assumption
    | (with_reducible refine covers_tr hm ?_; decide)
    | with_reducible apply pairSet_keeps
    | with_reducible apply updTile_keeps
    | with_reducible apply pulse_keeps
    | with_reducible apply raiseOverrun_keeps
    | with_reducible apply countOverrun_keeps
    | with_reducible apply regSet_keeps
    | intro _
    | split

theorem stitchOverrun_keeps (hm : covers 25769804165 m) {t : ℕ} {d : Dev} (h_d : Keeps m d0 d) :
    Keeps m d0 (stitchOverrun t d) := by
  unfold stitchOverrun
  (try dsimp only)
  repeat' first
    | with_reducible assumption
    | (with_reducible refine covers_tr hm ?_; decide)
    | with_reducible apply overrun_keeps
    | intro _
    | split

theorem loadPart_keeps (hm : covers 342724974997 m) {t : ℕ} {j : Job} {copyOk : Bool} {d : Dev} (h_d : Keeps m d0 d) :
    Keeps m d0 (loadPart t j copyOk d) := by
  unfold loadPart
  (try dsimp only)
  repeat' first
    | with_reducible assumption
    | (with_reducible refine covers_tr hm ?_; decide)
    | with_reducible apply updTile_keeps
    | with_reducible apply contextBad_keeps
    | with_reducible apply startCoding_keeps
    | intro _
    | split

theorem afterPart_keeps (hm : covers 342724974997 m) {t : ℕ} {d : Dev} (h_d : Keeps m d0 d) :
    Keeps m d0 (afterPart t d) := by
  unfold afterPart
  (try dsimp only)
  repeat' first
    | with_reducible assumption
    | (with_reducible refine covers_tr hm ?_; decide)
    | with_reducible apply startNext_keeps
    | with_reducible apply loadPart_keeps
    | with_reducible apply takeOver_keeps
    | with_reducible apply becomeIdle_keeps
    | intro _
    | split

theorem completionPost_keeps (hm : covers 342724974997 m) {t : ℕ} {d : Dev} (h_d : Keeps m d0 d) :
    Keeps m d0 (completionPost t d) := by
  unfold completionPost
  (try dsimp only)
  repeat' first
    | with_reducible assumption
    | (with_reducible refine covers_tr hm ?_; decide)
    | with_reducible apply settleBudget_keeps
    | with_reducible apply stitchOverrun_keeps
    | with_reducible apply setLoom_keeps
    | with_reducible apply earlyStart_keeps
    | with_reducible apply afterPart_keeps
    | intro _
    | split

theorem execCompletionPost_keeps {tile : ℕ} {now : ℕ} {s : State} {t : State}
    (ht : execCompletionPost tile now s = .next t) : Keeps 342729169301 s.dev t.dev := by
  have hm : covers 342729169301 342729169301 := rfl
  refine actOn_keeps (fun d hd => ?_) ht
  (try dsimp only)
  repeat' first
    | with_reducible assumption
    | (with_reducible refine covers_tr hm ?_; decide)
    | with_reducible apply completionPost_keeps
    | with_reducible apply atTime_keeps
    | intro _
    | split

theorem closingGrant_keeps (hm : covers 30064771072 m) {d : Dev} (h_d : Keeps m d0 d) :
    Keeps m d0 (closingGrant d) := by
  unfold closingGrant
  (try dsimp only)
  repeat' first
    | with_reducible assumption
    | (with_reducible refine covers_tr hm ?_; decide)
    | with_reducible apply setLoom_keeps
    | with_reducible apply updPart_keeps
    | with_reducible apply updBand_keeps
    | with_reducible apply updTile_keeps
    | intro _
    | split

theorem execClosingGrant_keeps {now : ℕ} {s : State} {t : State}
    (ht : execClosingGrant now s = .next t) : Keeps 30068965376 s.dev t.dev := by
  have hm : covers 30068965376 30068965376 := rfl
  refine act_keeps (fun d hd => ?_) ht
  (try dsimp only)
  repeat' first
    | with_reducible assumption
    | (with_reducible refine covers_tr hm ?_; decide)
    | with_reducible apply closingGrant_keeps
    | with_reducible apply atTime_keeps
    | intro _
    | split

theorem contextCommit_keeps (hm : covers 12884901893 m) {t : ℕ} {d : Dev} (h_d : Keeps m d0 d) :
    Keeps m d0 (contextCommit t d) := by
  unfold contextCommit
  (try dsimp only)
  repeat' first
    | with_reducible assumption
    | (with_reducible refine covers_tr hm ?_; decide)
    | with_reducible apply updStream_keeps
    | with_reducible apply startCoding_keeps
    | with_reducible apply regSet_keeps
    | intro _
    | split

theorem releaseTile_keeps (hm : covers 8589934724 m) {t : ℕ} {d : Dev} (h_d : Keeps m d0 d) :
    Keeps m d0 (releaseTile t d) := by
  unfold releaseTile
  (try dsimp only)
  repeat' first
    | with_reducible assumption
    | (with_reducible refine covers_tr hm ?_; decide)
    | with_reducible apply levelEnd_keeps
    | with_reducible apply objReset_keeps
    | with_reducible apply updTile_keeps
    | intro _
    | split

theorem containAs_keeps (hm : covers 3776014457237 m) {code : ℕ} {subject : ℕ} {info : ℕ} {t : ℕ} {d : Dev} (h_d : Keeps m d0 d) :
    Keeps m d0 (containAs code subject info t d) := by
  unfold containAs
  (try dsimp only)
  repeat' first
    | with_reducible assumption
    | (with_reducible refine covers_tr hm ?_; decide)
    | with_reducible apply regSet_keeps
    | with_reducible apply pulse_keeps
    | with_reducible apply tileFails_keeps
    | with_reducible apply updTile_keeps
    | intro _
    | split

theorem containTile_keeps (hm : covers 3776014457237 m) {t : ℕ} {d : Dev} (h_d : Keeps m d0 d) :
    Keeps m d0 (containTile t d) := by
  unfold containTile
  (try dsimp only)
  repeat' first
    | with_reducible assumption
    | (with_reducible refine covers_tr hm ?_; decide)
    | with_reducible apply containAs_keeps
    | intro _
    | split

theorem execContainmentReset_keeps {tile : ℕ} {now : ℕ} {s : State} {t : State}
    (ht : execContainmentReset tile now s = .next t) : Keeps 3776018651541 s.dev t.dev := by
  have hm : covers 3776018651541 3776018651541 := rfl
  refine actOn_keeps (fun d hd => ?_) ht
  (try dsimp only)
  repeat' first
    | with_reducible assumption
    | (with_reducible refine covers_tr hm ?_; decide)
    | with_reducible apply containTile_keeps
    | with_reducible apply atTime_keeps
    | intro _
    | split

theorem tileHang_keeps (hm : covers 3776014457237 m) {t : ℕ} {d : Dev} (h_d : Keeps m d0 d) :
    Keeps m d0 (tileHang t d) := by
  unfold tileHang
  (try dsimp only)
  repeat' first
    | with_reducible assumption
    | (with_reducible refine covers_tr hm ?_; decide)
    | with_reducible apply stitchOverrun_keeps
    | with_reducible apply tileFails_keeps
    | with_reducible apply level_keeps
    | with_reducible apply updTile_keeps
    | intro _
    | split

theorem noteCoder_keeps (hm : covers 4294967296 m) {t : ℕ} {j : Job} {d : Dev} (h_d : Keeps m d0 d) :
    Keeps m d0 (noteCoder t j d) := by
  unfold noteCoder
  (try dsimp only)
  repeat' first
    | with_reducible assumption
    | (with_reducible refine covers_tr hm ?_; decide)
    | with_reducible apply updStream_keeps
    | intro _
    | split

theorem completionCollect_keeps (hm : covers 1442236602805 m) {d : Dev} (h_d : Keeps m d0 d) :
    Keeps m d0 (completionCollect d) := by
  unfold completionCollect
  (try dsimp only)
  repeat' first
    | with_reducible assumption
    | (with_reducible refine covers_tr hm ?_; decide)
    | with_reducible apply earlyStart_keeps
    | with_reducible apply collectJob_keeps
    | with_reducible apply noteCoder_keeps
    | with_reducible apply setLoom_keeps
    | intro _
    | split

theorem assignCurrent_keeps (hm : covers 342724974997 m) {t : ℕ} {copyOk : Bool} {d : Dev} (h_d : Keeps m d0 d) :
    Keeps m d0 (assignCurrent t copyOk d) := by
  unfold assignCurrent
  (try dsimp only)
  repeat' first
    | with_reducible assumption
    | (with_reducible refine covers_tr hm ?_; decide)
    | with_reducible apply updTile_keeps
    | with_reducible apply loadPart_keeps
    | with_reducible apply leaveTile_keeps
    | intro _
    | split

theorem execAssignCurrent_keeps {tile : ℕ} {copyOk : Bool} {now : ℕ} {s : State} {t : State}
    (ht : execAssignCurrent tile copyOk now s = .next t) : Keeps 342729169301 s.dev t.dev := by
  have hm : covers 342729169301 342729169301 := rfl
  refine actOn_keeps (fun d hd => ?_) ht
  (try dsimp only)
  repeat' first
    | with_reducible assumption
    | (with_reducible refine covers_tr hm ?_; decide)
    | with_reducible apply assignCurrent_keeps
    | with_reducible apply atTime_keeps
    | intro _
    | split

theorem assignNext_keeps (hm : covers 8589934592 m) {t : ℕ} {d : Dev} (h_d : Keeps m d0 d) :
    Keeps m d0 (assignNext t d) := by
  unfold assignNext
  (try dsimp only)
  repeat' first
    | with_reducible assumption
    | (with_reducible refine covers_tr hm ?_; decide)
    | with_reducible apply updTile_keeps
    | intro _
    | split

theorem execAssignNext_keeps {tile : ℕ} {now : ℕ} {s : State} {t : State}
    (ht : execAssignNext tile now s = .next t) : Keeps 8594128896 s.dev t.dev := by
  have hm : covers 8594128896 8594128896 := rfl
  refine actOn_keeps (fun d hd => ?_) ht
  (try dsimp only)
  repeat' first
    | with_reducible assumption
    | (with_reducible refine covers_tr hm ?_; decide)
    | with_reducible apply assignNext_keeps
    | with_reducible apply atTime_keeps
    | intro _
    | split

theorem execTileRetire_keeps {tile : ℕ} {flashOk : Bool} {now : ℕ} {s : State} {t : State}
    (ht : execTileRetire tile flashOk now s = .next t) : Keeps 2208154255492 s.dev t.dev := by
  have hm : covers 2208154255492 2208154255492 := rfl
  refine actOn_keeps (fun d hd => ?_) ht
  (try dsimp only)
  repeat' first
    | with_reducible assumption
    | (with_reducible refine covers_tr hm ?_; decide)
    | with_reducible apply atTime_keeps
    | with_reducible apply retireTile_keeps
    | intro _
    | split

theorem nextSpare_keeps (hm : covers 3758834588053 m) {t : ℕ} {d : Dev} (h_d : Keeps m d0 d) :
    Keeps m d0 (nextSpare t d) := by
  unfold nextSpare
  (try dsimp only)
  repeat' first
    | with_reducible assumption
    | (with_reducible refine covers_tr hm ?_; decide)
    | with_reducible apply recoverPart_keeps
    | with_reducible apply updTile_keeps
    | intro _
    | split

theorem withdrawNext_keeps (hm : covers 8589934592 m) {t : ℕ} {d : Dev} (h_d : Keeps m d0 d) :
    Keeps m d0 (withdrawNext t d) := by
  unfold withdrawNext
  (try dsimp only)
  repeat' first
    | with_reducible assumption
    | (with_reducible refine covers_tr hm ?_; decide)
    | with_reducible apply updTile_keeps
    | intro _
    | split

theorem execWithdrawNext_keeps {tile : ℕ} {now : ℕ} {s : State} {t : State}
    (ht : execWithdrawNext tile now s = .next t) : Keeps 8594128896 s.dev t.dev := by
  have hm : covers 8594128896 8594128896 := rfl
  refine actOn_keeps (fun d hd => ?_) ht
  (try dsimp only)
  repeat' first
    | with_reducible assumption
    | (with_reducible refine covers_tr hm ?_; decide)
    | with_reducible apply withdrawNext_keeps
    | with_reducible apply atTime_keeps
    | intro _
    | split

theorem execStitchOverrun_keeps {tile : ℕ} {now : ℕ} {s : State} {t : State}
    (ht : execStitchOverrun tile now s = .next t) : Keeps 25773998469 s.dev t.dev := by
  have hm : covers 25773998469 25773998469 := rfl
  refine actOn_keeps (fun d hd => ?_) ht
  (try dsimp only)
  repeat' first
    | with_reducible assumption
    | (with_reducible refine covers_tr hm ?_; decide)
    | with_reducible apply stitchOverrun_keeps
    | with_reducible apply atTime_keeps
    | intro _
    | split

theorem placeAwaited_keeps (hm : covers 8589934592 m) {t : ℕ} {d : Dev} (h_d : Keeps m d0 d) :
    Keeps m d0 (placeAwaited t d) := by
  unfold placeAwaited
  (try dsimp only)
  repeat' first
    | with_reducible assumption
    | (with_reducible refine covers_tr hm ?_; decide)
    | with_reducible apply updTile_keeps
    | intro _
    | split

theorem bootEnd_keeps (hm : covers 3779235682709 m) {t : ℕ} {wordsOk : Bool} {sig : ℕ} {exp : ℕ} {d : Dev} (h_d : Keeps m d0 d) :
    Keeps m d0 (bootEnd t wordsOk sig exp d) := by
  unfold bootEnd
  (try dsimp only)
  repeat' first
    | with_reducible assumption
    | (with_reducible refine covers_tr hm ?_; decide)
    | with_reducible apply regSet_keeps
    | with_reducible apply earlyStart_keeps
    | with_reducible apply placeAwaited_keeps
    | with_reducible apply updTile_keeps
    | with_reducible apply objCount_keeps
    | with_reducible apply nextSpare_keeps
    | with_reducible apply pulse_keeps
    | intro _
    | split

theorem execCompletionCollect_keeps {now : ℕ} {s : State} {t : State}
    (ht : execCompletionCollect now s = .next t) : Keeps 1442240797109 s.dev t.dev := by
  have hm : covers 1442240797109 1442240797109 := rfl
  refine act_keeps (fun d hd => ?_) ht
  (try dsimp only)
  repeat' first
    | with_reducible assumption
    | (with_reducible refine covers_tr hm ?_; decide)
    | with_reducible apply completionCollect_keeps
    | with_reducible apply atTime_keeps
    | intro _
    | split

theorem execTileHang_keeps {tile : ℕ} {now : ℕ} {s : State} {t : State}
    (ht : execTileHang tile now s = .next t) : Keeps 3776018651541 s.dev t.dev := by
  have hm : covers 3776018651541 3776018651541 := rfl
  refine actOn_keeps (fun d hd => ?_) ht
  (try dsimp only)
  repeat' first
    | with_reducible assumption
    | (with_reducible refine covers_tr hm ?_; decide)
    | with_reducible apply tileHang_keeps
    | with_reducible apply atTime_keeps
    | intro _
    | split

theorem loadStallEnd_keeps (hm : covers 342724974997 m) {t : ℕ} {copyOk : Bool} {d : Dev} (h_d : Keeps m d0 d) :
    Keeps m d0 (loadStallEnd t copyOk d) := by
  unfold loadStallEnd
  (try dsimp only)
  repeat' first
    | with_reducible assumption
    | (with_reducible refine covers_tr hm ?_; decide)
    | with_reducible apply loadPart_keeps
    | with_reducible apply leaveTile_keeps
    | intro _
    | split

theorem execLoadStallEnd_keeps {tile : ℕ} {copyOk : Bool} {now : ℕ} {s : State} {t : State}
    (ht : execLoadStallEnd tile copyOk now s = .next t) : Keeps 342729169301 s.dev t.dev := by
  have hm : covers 342729169301 342729169301 := rfl
  refine actOn_keeps (fun d hd => ?_) ht
  (try dsimp only)
  repeat' first
    | with_reducible assumption
    | (with_reducible refine covers_tr hm ?_; decide)
    | with_reducible apply loadStallEnd_keeps
    | with_reducible apply atTime_keeps
    | intro _
    | split

theorem execSlvCorrClr_keeps {who : Sys2Proof.Caller} {s : State} {t : State}
    (ht : execSlvCorrClr who s = .next t) : Keeps 5 s.dev t.dev := by
  have hm : covers 5 5 := rfl
  refine act_keeps (fun d hd => ?_) ht
  (try dsimp only)
  repeat' first
    | with_reducible assumption
    | (with_reducible refine covers_tr hm ?_; decide)
    | with_reducible apply regGate_keeps
    | with_reducible apply pairSet_keeps
    | intro _
    | split

theorem execRetirementMapRetry_keeps {flashOk : Bool} {now : ℕ} {s : State} {t : State}
    (ht : execRetirementMapRetry flashOk now s = .next t) : Keeps 4194308 s.dev t.dev := by
  have hm : covers 4194308 4194308 := rfl
  refine act_keeps (fun d hd => ?_) ht
  (try dsimp only)
  repeat' first
    | with_reducible assumption
    | (with_reducible refine covers_tr hm ?_; decide)
    | with_reducible apply atTime_keeps
    | with_reducible apply objSet_keeps
    | with_reducible apply forEach_keeps
    | intro _
    | split

theorem execTileCntClr_keeps {who : Sys2Proof.Caller} {tile : ℕ} {s : State} {t : State}
    (ht : execTileCntClr who tile s = .next t) : Keeps 5 s.dev t.dev := by
  have hm : covers 5 5 := rfl
  refine actOn_keeps (fun d hd => ?_) ht
  (try dsimp only)
  repeat' first
    | with_reducible assumption
    | (with_reducible refine covers_tr hm ?_; decide)
    | with_reducible apply regGate_keeps
    | with_reducible apply regSet_keeps
    | intro _
    | split

theorem execContextCommit_keeps {tile : ℕ} {now : ℕ} {s : State} {t : State}
    (ht : execContextCommit tile now s = .next t) : Keeps 12889096197 s.dev t.dev := by
  have hm : covers 12889096197 12889096197 := rfl
  refine actOn_keeps (fun d hd => ?_) ht
  (try dsimp only)
  repeat' first
    | with_reducible assumption
    | (with_reducible refine covers_tr hm ?_; decide)
    | with_reducible apply contextCommit_keeps
    | with_reducible apply atTime_keeps
    | intro _
    | split

theorem execBoot_keeps {tile : ℕ} {wordsOk : Bool} {sig : ℕ} {sigExp : ℕ} {now : ℕ} {s : State} {t : State}
    (ht : execBoot tile wordsOk sig sigExp now s = .next t) : Keeps 3779239877013 s.dev t.dev := by
  have hm : covers 3779239877013 3779239877013 := rfl
  refine actOn_keeps (fun d hd => ?_) ht
  (try dsimp only)
  repeat' first
    | with_reducible assumption
    | (with_reducible refine covers_tr hm ?_; decide)
    | with_reducible apply bootEnd_keeps
    | with_reducible apply atTime_keeps
    | intro _
    | split

theorem tileReleaseWrite_keeps (hm : covers 8866103701 m) {q : Sys2Proof.Req} {tile : ℕ} {a : Dev} (h_a : Keeps m d0 a) :
    Keeps m d0 (tileReleaseWrite q tile a) := by
  unfold tileReleaseWrite
  (try dsimp only)
  repeat' first
    | with_reducible assumption
    | (with_reducible refine covers_tr hm ?_; decide)
    | with_reducible apply perform_keeps
    | with_reducible apply releaseTile_keeps
    | intro _
    | split

theorem execCarryHwmClr_keeps {who : Sys2Proof.Caller} {s : State} {t : State}
    (ht : execCarryHwmClr who s = .next t) : Keeps 65669 s.dev t.dev := by
  have hm : covers 65669 65669 := rfl
  refine act_keeps (fun d hd => ?_) ht
  (try dsimp only)
  repeat' first
    | with_reducible assumption
    | (with_reducible refine covers_tr hm ?_; decide)
    | with_reducible apply regGate_keeps
    | with_reducible apply mend_keeps
    | with_reducible apply setFld_keeps
    | intro _
    | split

theorem execTileRelease_keeps {q : Sys2Proof.Req} {tile : ℕ} {s : State} {t : State}
    (ht : execTileRelease q tile s = .next t) : Keeps 8866103701 s.dev t.dev := by
  have hm : covers 8866103701 8866103701 := rfl
  refine act_keeps (fun d hd => ?_) ht
  (try dsimp only)
  repeat' first
    | with_reducible assumption
    | (with_reducible refine covers_tr hm ?_; decide)
    | with_reducible apply tileReleaseWrite_keeps
    | intro _
    | split

/-! ## Sessions -/

theorem command_keeps (hm : covers 276168981 m) {q : Sys2Proof.Req} {s : ℕ} {n : ℕ} {own : Dev → List Sys2Proof.Err} {f : Dev → Dev} {d : Dev} (h_f : ∀ (y0 : Dev), Keeps m d0 y0 → Keeps m d0 (f y0)) (h_d : Keeps m d0 d) :
    Keeps m d0 (command q s n own f d) := by
  unfold command
  (try dsimp only)
  repeat' first
    | with_reducible assumption
    | (with_reducible refine covers_tr hm ?_; decide)
    | with_reducible apply perform_keeps
    | with_reducible apply objSet_keeps
    | with_reducible apply h_f
    | intro _
    | split

theorem setPend_keeps (hm : covers 134217728 m) {s : ℕ} {n : ℕ} {d : Dev} (h_d : Keeps m d0 d) :
    Keeps m d0 (setPend s n d) := by
  unfold setPend
  (try dsimp only)
  repeat' first
    | with_reducible assumption
    | (with_reducible refine covers_tr hm ?_; decide)
    | with_reducible apply setSess_keeps
    | intro _
    | split

theorem resumeCmd_keeps (hm : covers 410386709 m) {q : Sys2Proof.Req} {slot : ℕ} {d : Dev} (h_d : Keeps m d0 d) :
    Keeps m d0 (resumeCmd q slot d) := by
  unfold resumeCmd
  (try dsimp only)
  repeat' first
    | with_reducible assumption
    | (with_reducible refine covers_tr hm ?_; decide)
    | with_reducible apply command_keeps
    | with_reducible apply setPend_keeps
    | intro _
    | split

theorem execResume_keeps {q : Sys2Proof.Req} {slot : ℕ} {s : State} {t : State}
    (ht : execResume q slot s = .next t) : Keeps 410386709 s.dev t.dev := by
  have hm : covers 410386709 410386709 := rfl
  refine actOn_keeps (fun d hd => ?_) ht
  (try dsimp only)
  repeat' first
    | with_reducible assumption
    | (with_reducible refine covers_tr hm ?_; decide)
    | with_reducible apply resumeCmd_keeps
    | intro _
    | split

theorem tenantReset_keeps (hm : covers 2172392978749 m) {t : ℕ} {d : Dev} (h_d : Keeps m d0 d) :
    Keeps m d0 (tenantReset t d) := by
  unfold tenantReset
  (try dsimp only)
  repeat' first
    | with_reducible assumption
    | (with_reducible refine covers_tr hm ?_; decide)
    | with_reducible apply toFree_keeps
    | with_reducible apply discardMailbox_keeps
    | with_reducible apply fnQueuesOff_keeps
    | with_reducible apply eraseTenantKeys_keeps
    | with_reducible apply forEach_keeps
    | intro _
    | split

theorem disarmCmd_keeps (hm : covers 1004426107165 m) {q : Sys2Proof.Req} {slot : ℕ} {d : Dev} (h_d : Keeps m d0 d) :
    Keeps m d0 (disarmCmd q slot d) := by
  unfold disarmCmd
  (try dsimp only)
  repeat' first
    | with_reducible assumption
    | (with_reducible refine covers_tr hm ?_; decide)
    | with_reducible apply command_keeps
    | with_reducible apply toDefined_keeps
    | intro _
    | split

theorem drainComplete_keeps (hm : covers 1004149938461 m) {s : ℕ} {d01 : Dev} (h_d01 : Keeps m d0 d01) :
    Keeps m d0 (drainComplete s d01) := by
  unfold drainComplete
  (try dsimp only)
  repeat' first
    | with_reducible assumption
    | (with_reducible refine covers_tr hm ?_; decide)
    | with_reducible apply noteQuiet_keeps
    | with_reducible apply postState_keeps
    | with_reducible apply toDefined_keeps
    | with_reducible apply sendByes_keeps
    | intro _
    | split

theorem execDrainComplete_keeps {slot : ℕ} {now : ℕ} {s : State} {t : State}
    (ht : execDrainComplete slot now s = .next t) : Keeps 1004154132765 s.dev t.dev := by
  have hm : covers 1004154132765 1004154132765 := rfl
  refine actOn_keeps (fun d hd => ?_) ht
  (try dsimp only)
  repeat' first
    | with_reducible assumption
    | (with_reducible refine covers_tr hm ?_; decide)
    | with_reducible apply drainComplete_keeps
    | with_reducible apply atTime_keeps
    | intro _
    | split

theorem startAct_keeps (hm : covers 134217792 m) {s : ℕ} {d : Dev} (h_d : Keeps m d0 d) :
    Keeps m d0 (startAct s d) := by
  unfold startAct
  (try dsimp only)
  repeat' first
    | with_reducible assumption
    | (with_reducible refine covers_tr hm ?_; decide)
    | with_reducible apply drawTransport_keeps
    | with_reducible apply setSess_keeps
    | intro _
    | split

theorem startCmd_keeps (hm : covers 410386773 m) {q : Sys2Proof.Req} {slot : ℕ} {d : Dev} (h_d : Keeps m d0 d) :
    Keeps m d0 (startCmd q slot d) := by
  unfold startCmd
  (try dsimp only)
  repeat' first
    | with_reducible assumption
    | (with_reducible refine covers_tr hm ?_; decide)
    | with_reducible apply command_keeps
    | with_reducible apply startAct_keeps
    | intro _
    | split

theorem interfaceError_keeps (hm : covers 2172426533181 m) {t : ℕ} {d : Dev} (h_d : Keeps m d0 d) :
    Keeps m d0 (interfaceError t d) := by
  unfold interfaceError
  (try dsimp only)
  repeat' first
    | with_reducible assumption
    | (with_reducible refine covers_tr hm ?_; decide)
    | with_reducible apply secEvent_keeps
    | with_reducible apply tenantReset_keeps
    | with_reducible exact id
    | with_reducible exact rising_put
    | with_reducible exact rising_upd
    | with_reducible exact rising_set
    | with_reducible exact rising_erase
    | with_reducible exact rising_filter
    | with_reducible exact rising_tabFilter
    | with_reducible exact rising_map
    | with_reducible exact rising_to_nil
    | with_reducible exact rising_erase_two
    | simp only [keeps_mk]
    | with_reducible apply Keeps.set_sec
    | intro _
    | split

theorem vfLoss_keeps (hm : covers 2172426565949 m) {lnk : ℕ} {d : Dev} (h_d : Keeps m d0 d) :
    Keeps m d0 (vfLoss lnk d) := by
  unfold vfLoss
  (try dsimp only)
  repeat' first
    | with_reducible assumption
    | (with_reducible refine covers_tr hm ?_; decide)
    | with_reducible apply tenantReset_keeps
    | with_reducible apply interfaceError_keeps
    | with_reducible apply setLink_keeps
    | with_reducible apply forEach_keeps
    | intro _
    | split

theorem execVfEnableClear_keeps {link : ℕ} {now : ℕ} {s : State} {t : State}
    (ht : execVfEnableClear link now s = .next t) : Keeps 2172430760253 s.dev t.dev := by
  have hm : covers 2172430760253 2172430760253 := rfl
  refine actOn_keeps (fun d hd => ?_) ht
  (try dsimp only)
  repeat' first
    | with_reducible assumption
    | (with_reducible refine covers_tr hm ?_; decide)
    | with_reducible apply vfLoss_keeps
    | with_reducible apply atTime_keeps
    | intro _
    | split

theorem drainAct_keeps (hm : covers 1004149938461 m) {s : ℕ} {d : Dev} (h_d : Keeps m d0 d) :
    Keeps m d0 (drainAct s d) := by
  unfold drainAct
  (try dsimp only)
  repeat' first
    | with_reducible assumption
    | (with_reducible refine covers_tr hm ?_; decide)
    | with_reducible apply toDefined_keeps
    | with_reducible apply endSplice_keeps
    | with_reducible apply noteQuiet_keeps
    | with_reducible apply tellState_keeps
    | with_reducible apply setSess_keeps
    | intro _
    | split

theorem drainCmd_keeps (hm : covers 1004426107165 m) {q : Sys2Proof.Req} {slot : ℕ} {d : Dev} (h_d : Keeps m d0 d) :
    Keeps m d0 (drainCmd q slot d) := by
  unfold drainCmd
  (try dsimp only)
  repeat' first
    | with_reducible assumption
    | (with_reducible refine covers_tr hm ?_; decide)
    | with_reducible apply command_keeps
    | with_reducible apply drainAct_keeps
    | intro _
    | split

theorem reserve_keeps (hm : covers 1207959552 m) {s : ℕ} {d : Dev} (h_d : Keeps m d0 d) :
    Keeps m d0 (reserve s d) := by
  unfold reserve
  (try dsimp only)
  repeat' first
    | with_reducible assumption
    | (with_reducible refine covers_tr hm ?_; decide)
    | with_reducible apply setSess_keeps
    | with_reducible apply holdBlocks_keeps
    | with_reducible apply holdBlocks_keeps
    | with_reducible apply OKeeps.getD
    | with_reducible apply OKeeps.getD
    | intro _
    | split

theorem operatorDrainAct_keeps (hm : covers 1004149938461 m) {s : ℕ} {d : Dev} (h_d : Keeps m d0 d) :
    Keeps m d0 (operatorDrainAct s d) := by
  unfold operatorDrainAct
  (try dsimp only)
  repeat' first
    | with_reducible assumption
    | (with_reducible refine covers_tr hm ?_; decide)
    | with_reducible apply postState_keeps
    | with_reducible apply drainAct_keeps
    | intro _
    | split

theorem execDisarm_keeps {q : Sys2Proof.Req} {slot : ℕ} {s : State} {t : State}
    (ht : execDisarm q slot s = .next t) : Keeps 1004426107165 s.dev t.dev := by
  have hm : covers 1004426107165 1004426107165 := rfl
  refine actOn_keeps (fun d hd => ?_) ht
  (try dsimp only)
  repeat' first
    | with_reducible assumption
    | (with_reducible refine covers_tr hm ?_; decide)
    | with_reducible apply disarmCmd_keeps
    | intro _
    | split

theorem armAccept_keeps (hm : covers 406192405 m) {s : ℕ} {d : Dev} (h_d : Keeps m d0 d) :
    Keeps m d0 (armAccept s d) := by
  unfold armAccept
  (try dsimp only)
  repeat' first
    | with_reducible assumption
    | (with_reducible refine covers_tr hm ?_; decide)
    | with_reducible apply accept_keeps
    | with_reducible apply objSet_keeps
    | with_reducible apply setSess_keeps
    | intro _
    | split

theorem operatorDrainCmd_keeps (hm : covers 1004426107165 m) {q : Sys2Proof.Req} {slot : ℕ} {value : ℕ} {d : Dev} (h_d : Keeps m d0 d) :
    Keeps m d0 (operatorDrainCmd q slot value d) := by
  unfold operatorDrainCmd
  (try dsimp only)
  repeat' first
    | with_reducible assumption
    | (with_reducible refine covers_tr hm ?_; decide)
    | with_reducible apply perform_keeps
    | with_reducible apply operatorDrainAct_keeps
    | intro _
    | split

theorem execOperatorDrain_keeps {q : Sys2Proof.Req} {slot : ℕ} {value : ℕ} {s : State} {t : State}
    (ht : execOperatorDrain q slot value s = .next t) : Keeps 1004426107165 s.dev t.dev := by
  have hm : covers 1004426107165 1004426107165 := rfl
  refine actOn_keeps (fun d hd => ?_) ht
  (try dsimp only)
  repeat' first
    | with_reducible assumption
    | (with_reducible refine covers_tr hm ?_; decide)
    | with_reducible apply operatorDrainCmd_keeps
    | intro _
    | split

theorem bindAct_keeps (hm : covers 11534340 m) {t : ℕ} {v : ℕ} {d : Dev} (h_d : Keeps m d0 d) :
    Keeps m d0 (bindAct t v d) := by
  unfold bindAct
  (try dsimp only)
  repeat' first
    | with_reducible assumption
    | (with_reducible refine covers_tr hm ?_; decide)
    | with_reducible apply objReset_keeps
    | with_reducible apply eraseTenantKeys_keeps
    | with_reducible apply setTenant_keeps
    | with_reducible apply objSet_keeps
    | with_reducible apply restartTenantCounts_keeps
    | with_reducible apply forEach_keeps
    | intro _
    | split

theorem tenantBindWrite_keeps (hm : covers 284557589 m) {q : Sys2Proof.Req} {tenant : ℕ} {value : ℕ} {a : Dev} (h_a : Keeps m d0 a) :
    Keeps m d0 (tenantBindWrite q tenant value a) := by
  unfold tenantBindWrite
  (try dsimp only)
  repeat' first
    | with_reducible assumption
    | (with_reducible refine covers_tr hm ?_; decide)
    | with_reducible apply perform_keeps
    | with_reducible apply bindAct_keeps
    | intro _
    | split

theorem execTenantBind_keeps {q : Sys2Proof.Req} {tenant : ℕ} {value : ℕ} {s : State} {t : State}
    (ht : execTenantBind q tenant value s = .next t) : Keeps 284557589 s.dev t.dev := by
  have hm : covers 284557589 284557589 := rfl
  refine actOn_keeps (fun d hd => ?_) ht
  (try dsimp only)
  repeat' first
    | with_reducible assumption
    | (with_reducible refine covers_tr hm ?_; decide)
    | with_reducible apply tenantBindWrite_keeps
    | intro _
    | split

theorem execDrain_keeps {q : Sys2Proof.Req} {slot : ℕ} {s : State} {t : State}
    (ht : execDrain q slot s = .next t) : Keeps 1004426107165 s.dev t.dev := by
  have hm : covers 1004426107165 1004426107165 := rfl
  refine actOn_keeps (fun d hd => ?_) ht
  (try dsimp only)
  repeat' first
    | with_reducible assumption
    | (with_reducible refine covers_tr hm ?_; decide)
    | with_reducible apply drainCmd_keeps
    | intro _
    | split

theorem drainAbandon_keeps (hm : covers 38788929813 m) {s : ℕ} {d : Dev} (h_d : Keeps m d0 d) :
    Keeps m d0 (drainAbandon s d) := by
  unfold drainAbandon
  (try dsimp only)
  repeat' first
    | with_reducible assumption
    | (with_reducible refine covers_tr hm ?_; decide)
    | with_reducible apply objCount_keeps
    | with_reducible apply noteQuiet_keeps
    | with_reducible apply waterTest_keeps
    | with_reducible apply setStream_keeps
    | intro _
    | split

theorem execDrainAbandon_keeps {slot : ℕ} {now : ℕ} {s : State} {t : State}
    (ht : execDrainAbandon slot now s = .next t) : Keeps 38793124117 s.dev t.dev := by
  have hm : covers 38793124117 38793124117 := rfl
  refine actOn_keeps (fun d hd => ?_) ht
  (try dsimp only)
  repeat' first
    | with_reducible assumption
    | (with_reducible refine covers_tr hm ?_; decide)
    | with_reducible apply drainAbandon_keeps
    | with_reducible apply atTime_keeps
    | intro _
    | split

theorem execFunctionLevelReset_keeps {tenant : ℕ} {now : ℕ} {s : State} {t : State}
    (ht : execFunctionLevelReset tenant now s = .next t) : Keeps 2172430727485 s.dev t.dev := by
  have hm : covers 2172430727485 2172430727485 := rfl
  refine actOn_keeps (fun d hd => ?_) ht
  (try dsimp only)
  repeat' first
    | with_reducible assumption
    | (with_reducible refine covers_tr hm ?_; decide)
    | with_reducible apply tenantReset_keeps
    | with_reducible apply interfaceError_keeps
    | with_reducible apply atTime_keeps
    | intro _
    | split

theorem execStart_keeps {q : Sys2Proof.Req} {slot : ℕ} {s : State} {t : State}
    (ht : execStart q slot s = .next t) : Keeps 410386773 s.dev t.dev := by
  have hm : covers 410386773 410386773 := rfl
  refine actOn_keeps (fun d hd => ?_) ht
  (try dsimp only)
  repeat' first
    | with_reducible assumption
    | (with_reducible refine covers_tr hm ?_; decide)
    | with_reducible apply startCmd_keeps
    | intro _
    | split

theorem releaseCmd_keeps (hm : covers 2172657211677 m) {q : Sys2Proof.Req} {slot : ℕ} {d : Dev} (h_d : Keeps m d0 d) :
    Keeps m d0 (releaseCmd q slot d) := by
  unfold releaseCmd
  (try dsimp only)
  repeat' first
    | with_reducible assumption
    | (with_reducible refine covers_tr hm ?_; decide)
    | with_reducible apply command_keeps
    | with_reducible apply toFree_keeps
    | intro _
    | split

theorem armRefuse_keeps (hm : covers 1004353755421 m) {s : ℕ} {e : Sys2Proof.Err} {d : Dev} (h_d : Keeps m d0 d) :
    Keeps m d0 (armRefuse s e d) := by
  unfold armRefuse
  (try dsimp only)
  repeat' first
    | with_reducible assumption
    | (with_reducible refine covers_tr hm ?_; decide)
    | with_reducible apply dropReservations_keeps
    | with_reducible apply setSess_keeps
    | with_reducible apply refuse_keeps
    | with_reducible apply objReset_keeps
    | intro _
    | split

theorem pauseCmd_keeps (hm : covers 410386709 m) {q : Sys2Proof.Req} {slot : ℕ} {d : Dev} (h_d : Keeps m d0 d) :
    Keeps m d0 (pauseCmd q slot d) := by
  unfold pauseCmd
  (try dsimp only)
  repeat' first
    | with_reducible assumption
    | (with_reducible refine covers_tr hm ?_; decide)
    | with_reducible apply command_keeps
    | with_reducible apply setPend_keeps
    | intro _
    | split

theorem execPause_keeps {q : Sys2Proof.Req} {slot : ℕ} {s : State} {t : State}
    (ht : execPause q slot s = .next t) : Keeps 410386709 s.dev t.dev := by
  have hm : covers 410386709 410386709 := rfl
  refine actOn_keeps (fun d hd => ?_) ht
  (try dsimp only)
  repeat' first
    | with_reducible assumption
    | (with_reducible refine covers_tr hm ?_; decide)
    | with_reducible apply pauseCmd_keeps
    | intro _
    | split

theorem defineAct_keeps (hm : covers 134217732 m) {s : ℕ} {d : Dev} (h_d : Keeps m d0 d) :
    Keeps m d0 (defineAct s d) := by
  unfold defineAct
  (try dsimp only)
  repeat' first
    | with_reducible assumption
    | (with_reducible refine covers_tr hm ?_; decide)
    | with_reducible apply restartStats_keeps
    | with_reducible apply setSess_keeps
    | intro _
    | split

theorem defineCmd_keeps (hm : covers 410386709 m) {q : Sys2Proof.Req} {slot : ℕ} {d : Dev} (h_d : Keeps m d0 d) :
    Keeps m d0 (defineCmd q slot d) := by
  unfold defineCmd
  (try dsimp only)
  repeat' first
    | with_reducible assumption
    | (with_reducible refine covers_tr hm ?_; decide)
    | with_reducible apply command_keeps
    | with_reducible apply defineAct_keeps
    | intro _
    | split

theorem armTimeout_keeps (hm : covers 1004353755421 m) {s : ℕ} {d : Dev} (h_d : Keeps m d0 d) :
    Keeps m d0 (armTimeout s d) := by
  unfold armTimeout
  (try dsimp only)
  repeat' first
    | with_reducible assumption
    | (with_reducible refine covers_tr hm ?_; decide)
    | with_reducible apply armRefuse_keeps
    | intro _
    | split

theorem execRelease_keeps {q : Sys2Proof.Req} {slot : ℕ} {s : State} {t : State}
    (ht : execRelease q slot s = .next t) : Keeps 2172657211677 s.dev t.dev := by
  have hm : covers 2172657211677 2172657211677 := rfl
  refine actOn_keeps (fun d hd => ?_) ht
  (try dsimp only)
  repeat' first
    | with_reducible assumption
    | (with_reducible refine covers_tr hm ?_; decide)
    | with_reducible apply releaseCmd_keeps
    | intro _
    | split

theorem armAct_keeps (hm : covers 276424950037 m) {q : Sys2Proof.Req} {s : ℕ} {d02 : Dev} (h_d02 : Keeps m d0 d02) :
    Keeps m d0 (armAct q s d02) := by
  unfold armAct
  (try dsimp only)
  repeat' first
    | with_reducible assumption
    | (with_reducible refine covers_tr hm ?_; decide)
    | with_reducible apply reserve_keeps
    | with_reducible apply askLining_keeps
    | with_reducible apply setSess_keeps
    | with_reducible apply objSet_keeps
    | with_reducible apply accept_keeps
    | intro _
    | split

theorem arm_keeps (hm : covers 276429144341 m) {q : Sys2Proof.Req} {s : ℕ} {d : Dev} (h_d : Keeps m d0 d) :
    Keeps m d0 (arm q s d) := by
  unfold arm
  (try dsimp only)
  repeat' first
    | with_reducible assumption
    | (with_reducible refine covers_tr hm ?_; decide)
    | with_reducible apply decideWrite_keeps
    | with_reducible apply refuse_keeps
    | with_reducible apply armAct_keeps
    | intro _
    | split

theorem execArm_keeps {q : Sys2Proof.Req} {slot : ℕ} {s : State} {t : State}
    (ht : execArm q slot s = .next t) : Keeps 276429144341 s.dev t.dev := by
  have hm : covers 276429144341 276429144341 := rfl
  refine actOn_keeps (fun d hd => ?_) ht
  (try dsimp only)
  repeat' first
    | with_reducible assumption
    | (with_reducible refine covers_tr hm ?_; decide)
    | with_reducible apply arm_keeps
    | intro _
    | split

theorem execDefine_keeps {q : Sys2Proof.Req} {slot : ℕ} {s : State} {t : State}
    (ht : execDefine q slot s = .next t) : Keeps 410386709 s.dev t.dev := by
  have hm : covers 410386709 410386709 := rfl
  refine actOn_keeps (fun d hd => ?_) ht
  (try dsimp only)
  repeat' first
    | with_reducible assumption
    | (with_reducible refine covers_tr hm ?_; decide)
    | with_reducible apply defineCmd_keeps
    | intro _
    | split

theorem execArmPartnerTimeout_keeps {slot : ℕ} {now : ℕ} {s : State} {t : State}
    (ht : execArmPartnerTimeout slot now s = .next t) : Keeps 1004357949725 s.dev t.dev := by
  have hm : covers 1004357949725 1004357949725 := rfl
  refine actOn_keeps (fun d hd => ?_) ht
  (try dsimp only)
  repeat' first
    | with_reducible assumption
    | (with_reducible refine covers_tr hm ?_; decide)
    | with_reducible apply armTimeout_keeps
    | with_reducible apply atTime_keeps
    | intro _
    | split

/-! ## Pcie -/

theorem strayAccess_keeps (hm : covers 5 m) {who : Sys2Proof.Caller} {d : Dev} (h_d : Keeps m d0 d) :
    Keeps m d0 (strayAccess who d) := by
  unfold strayAccess
  (try dsimp only)
  repeat' first
    | with_reducible assumption
    | (with_reducible refine covers_tr hm ?_; decide)
    | with_reducible apply hostGate_keeps
    | with_reducible apply objCount_keeps
    | with_reducible apply regCount_keeps
    | intro _
    | split

theorem execStrayAccess_keeps {who : Sys2Proof.Caller} {isWrite : Bool} {offset : ℕ} {s : State} {t : State}
    (ht : execStrayAccess who isWrite offset s = .next t) : Keeps 5 s.dev t.dev := by
  have hm : covers 5 5 := rfl
  refine actOn_keeps (fun d hd => ?_) ht
  (try dsimp only)
  repeat' first
    | with_reducible assumption
    | (with_reducible refine covers_tr hm ?_; decide)
    | with_reducible apply strayAccess_keeps
    | intro _
    | split

theorem goAct_keeps (hm : covers 268894609 m) {who : Sys2Proof.Caller} {k : ℕ} {ctrl : ℕ} {data : ℕ} {len : ℕ} {d : Dev} (h_d : Keeps m d0 d) :
    Keeps m d0 (goAct who k ctrl data len d) := by
  unfold goAct
  (try dsimp only)
  repeat' first
    | with_reducible assumption
    | (with_reducible refine covers_tr hm ?_; decide)
    | with_reducible apply mend_keeps
    | with_reducible apply setFld_keeps
    | with_reducible apply setMbox_keeps
    | with_reducible apply respond_keeps
    | with_reducible exact id
    | with_reducible exact rising_put
    | with_reducible exact rising_upd
    | with_reducible exact rising_set
    | with_reducible exact rising_erase
    | with_reducible exact rising_filter
    | with_reducible exact rising_tabFilter
    | with_reducible exact rising_map
    | with_reducible exact rising_to_nil
    | with_reducible exact rising_erase_two
    | simp only [keeps_mk]
    | with_reducible apply Keeps.set_waiting
    | intro _
    | split

theorem pfReset_keeps (hm : covers 2172426583869 m) {i : ℕ} {d : Dev} (h_d : Keeps m d0 d) :
    Keeps m d0 (pfReset i d) := by
  unfold pfReset
  (try dsimp only)
  repeat' first
    | with_reducible assumption
    | (with_reducible refine covers_tr hm ?_; decide)
    | with_reducible apply vfLoss_keeps
    | with_reducible apply pfQueuesOff_keeps
    | with_reducible apply discardMailbox_keeps
    | with_reducible apply setLink_keeps
    | with_reducible exact id
    | with_reducible exact rising_put
    | with_reducible exact rising_upd
    | with_reducible exact rising_set
    | with_reducible exact rising_erase
    | with_reducible exact rising_filter
    | with_reducible exact rising_tabFilter
    | with_reducible exact rising_map
    | with_reducible exact rising_to_nil
    | with_reducible exact rising_erase_two
    | simp only [keeps_mk]
    | with_reducible apply Keeps.set_msix_fnMask_sec
    | intro _
    | split

theorem execPfFlr_keeps {link : ℕ} {now : ℕ} {s : State} {t : State}
    (ht : execPfFlr link now s = .next t) : Keeps 2172430778173 s.dev t.dev := by
  have hm : covers 2172430778173 2172430778173 := rfl
  refine actOn_keeps (fun d hd => ?_) ht
  (try dsimp only)
  repeat' first
    | with_reducible assumption
    | (with_reducible refine covers_tr hm ?_; decide)
    | with_reducible apply pfReset_keeps
    | with_reducible apply atTime_keeps
    | intro _
    | split

theorem malformed_keeps (hm : covers 5 m) {who : Sys2Proof.Caller} {isWrite : Bool} {offset : ℕ} {d : Dev} (h_d : Keeps m d0 d) :
    Keeps m d0 (malformed who isWrite offset d) := by
  unfold malformed
  (try dsimp only)
  repeat' first
    | with_reducible assumption
    | (with_reducible refine covers_tr hm ?_; decide)
    | with_reducible apply hostGate_keeps
    | with_reducible apply regCount_keeps
    | with_reducible apply regDrop_keeps
    | intro _
    | split

theorem vfBar_keeps (hm : covers 32768 m) {i : ℕ} {log2Mib : ℕ} {d : Dev} (h_d : Keeps m d0 d) :
    Keeps m d0 (vfBar i log2Mib d) := by
  unfold vfBar
  (try dsimp only)
  repeat' first
    | with_reducible assumption
    | (with_reducible refine covers_tr hm ?_; decide)
    | with_reducible apply setLink_keeps
    | intro _
    | split

theorem execVfResizableBarWrite_keeps {link : ℕ} {log2Mib : ℕ} {s : State} {t : State}
    (ht : execVfResizableBarWrite link log2Mib s = .next t) : Keeps 32768 s.dev t.dev := by
  have hm : covers 32768 32768 := rfl
  refine actOn_keeps (fun d hd => ?_) ht
  (try dsimp only)
  repeat' first
    | with_reducible assumption
    | (with_reducible refine covers_tr hm ?_; decide)
    | with_reducible apply vfBar_keeps
    | intro _
    | split

theorem vfEnableSet_keeps (hm : covers 32769 m) {i : ℕ} {n : ℕ} {ari : Bool} {d : Dev} (h_d : Keeps m d0 d) :
    Keeps m d0 (vfEnableSet i n ari d) := by
  unfold vfEnableSet
  (try dsimp only)
  repeat' first
    | with_reducible assumption
    | (with_reducible refine covers_tr hm ?_; decide)
    | with_reducible apply regSet_keeps
    | with_reducible apply setLink_keeps
    | intro _
    | split

theorem execVfEnableSet_keeps {link : ℕ} {numVfs : ℕ} {ari : Bool} {s : State} {t : State}
    (ht : execVfEnableSet link numVfs ari s = .next t) : Keeps 32769 s.dev t.dev := by
  have hm : covers 32769 32769 := rfl
  refine actOn_keeps (fun d hd => ?_) ht
  (try dsimp only)
  repeat' first
    | with_reducible assumption
    | (with_reducible refine covers_tr hm ?_; decide)
    | with_reducible apply vfEnableSet_keeps
    | intro _
    | split

theorem pcieUp_keeps (hm : covers 39188 m) {i : ℕ} {lanes : ℕ} {rate : ℕ} {d : Dev} (h_d : Keeps m d0 d) :
    Keeps m d0 (pcieUp i lanes rate d) := by
  unfold pcieUp
  (try dsimp only)
  repeat' first
    | with_reducible assumption
    | (with_reducible refine covers_tr hm ?_; decide)
    | with_reducible apply postEvent_keeps
    | with_reducible apply setLink_keeps
    | intro _
    | split

theorem mseWrite_keeps (hm : covers 2172426565949 m) {i : ℕ} {vf : Bool} {value : Bool} {d : Dev} (h_d : Keeps m d0 d) :
    Keeps m d0 (mseWrite i vf value d) := by
  unfold mseWrite
  (try dsimp only)
  repeat' first
    | with_reducible assumption
    | (with_reducible refine covers_tr hm ?_; decide)
    | with_reducible apply setLink_keeps
    | with_reducible apply interfaceError_keeps
    | with_reducible apply forEach_keeps
    | intro _
    | split

theorem mailboxGo_keeps (hm : covers 268894613 m) {who : Sys2Proof.Caller} {len : ℕ} {d : Dev} (h_d : Keeps m d0 d) :
    Keeps m d0 (mailboxGo who len d) := by
  unfold mailboxGo
  (try dsimp only)
  repeat' first
    | with_reducible assumption
    | (with_reducible refine covers_tr hm ?_; decide)
    | with_reducible apply hostGate_keeps
    | with_reducible apply regDrop_keeps
    | with_reducible apply goAct_keeps
    | intro _
    | split

theorem execMemorySpaceEnableWrite_keeps {link : ℕ} {vf : Bool} {value : Bool} {now : ℕ} {s : State} {t : State}
    (ht : execMemorySpaceEnableWrite link vf value now s = .next t) : Keeps 2172430760253 s.dev t.dev := by
  have hm : covers 2172430760253 2172430760253 := rfl
  refine actOn_keeps (fun d hd => ?_) ht
  (try dsimp only)
  repeat' first
    | with_reducible assumption
    | (with_reducible refine covers_tr hm ?_; decide)
    | with_reducible apply mseWrite_keeps
    | with_reducible apply atTime_keeps
    | intro _
    | split

theorem linkReset_keeps (hm : covers 2172426583869 m) {i : ℕ} {kind : ℕ} {d : Dev} (h_d : Keeps m d0 d) :
    Keeps m d0 (linkReset i kind d) := by
  unfold linkReset
  (try dsimp only)
  repeat' first
    | with_reducible assumption
    | (with_reducible refine covers_tr hm ?_; decide)
    | with_reducible apply pfReset_keeps
    | with_reducible apply setLink_keeps
    | with_reducible apply postEvent_keeps
    | with_reducible exact id
    | with_reducible exact rising_put
    | with_reducible exact rising_upd
    | with_reducible exact rising_set
    | with_reducible exact rising_erase
    | with_reducible exact rising_filter
    | with_reducible exact rising_tabFilter
    | with_reducible exact rising_map
    | with_reducible exact rising_to_nil
    | with_reducible exact rising_erase_two
    | simp only [keeps_mk]
    | with_reducible apply Keeps.set_sec
    | intro _
    | split

theorem mbxCntClr_keeps (hm : covers 1 m) {d : Dev} (h_d : Keeps m d0 d) :
    Keeps m d0 (mbxCntClr d) := by
  unfold mbxCntClr
  (try dsimp only)
  repeat' first
    | with_reducible assumption
    | (with_reducible refine covers_tr hm ?_; decide)
    | with_reducible apply regSet_keeps
    | intro _
    | split

theorem execMbxCntClr_keeps {who : Sys2Proof.Caller} {s : State} {t : State}
    (ht : execMbxCntClr who s = .next t) : Keeps 5 s.dev t.dev := by
  have hm : covers 5 5 := rfl
  refine act_keeps (fun d hd => ?_) ht
  (try dsimp only)
  repeat' first
    | with_reducible assumption
    | (with_reducible refine covers_tr hm ?_; decide)
    | with_reducible apply regGate_keeps
    | with_reducible apply mbxCntClr_keeps
    | intro _
    | split

theorem execMailboxGo_keeps {who : Sys2Proof.Caller} {length : ℕ} {s : State} {t : State}
    (ht : execMailboxGo who length s = .next t) : Keeps 268894613 s.dev t.dev := by
  have hm : covers 268894613 268894613 := rfl
  refine actOn_keeps (fun d hd => ?_) ht
  (try dsimp only)
  repeat' first
    | with_reducible assumption
    | (with_reducible refine covers_tr hm ?_; decide)
    | with_reducible apply mailboxGo_keeps
    | intro _
    | split

theorem execPcieLinkReset_keeps {link : ℕ} {kind : ℕ} {now : ℕ} {s : State} {t : State}
    (ht : execPcieLinkReset link kind now s = .next t) : Keeps 2172430778173 s.dev t.dev := by
  have hm : covers 2172430778173 2172430778173 := rfl
  refine actOn_keeps (fun d hd => ?_) ht
  (try dsimp only)
  repeat' first
    | with_reducible assumption
    | (with_reducible refine covers_tr hm ?_; decide)
    | with_reducible apply linkReset_keeps
    | with_reducible apply atTime_keeps
    | intro _
    | split

theorem execMalformedRegisterAccess_keeps {who : Sys2Proof.Caller} {isWrite : Bool} {offset : ℕ} {s : State} {t : State}
    (ht : execMalformedRegisterAccess who isWrite offset s = .next t) : Keeps 5 s.dev t.dev := by
  have hm : covers 5 5 := rfl
  refine act_keeps (fun d hd => ?_) ht
  (try dsimp only)
  repeat' first
    | with_reducible assumption
    | (with_reducible refine covers_tr hm ?_; decide)
    | with_reducible apply malformed_keeps
    | intro _
    | split

theorem execPcieLinkUp_keeps {link : ℕ} {lanes : ℕ} {rate : ℕ} {now : ℕ} {s : State} {t : State}
    (ht : execPcieLinkUp link lanes rate now s = .next t) : Keeps 4233492 s.dev t.dev := by
  have hm : covers 4233492 4233492 := rfl
  refine actOn_keeps (fun d hd => ?_) ht
  (try dsimp only)
  repeat' first
    | with_reducible assumption
    | (with_reducible refine covers_tr hm ?_; decide)
    | with_reducible apply pcieUp_keeps
    | with_reducible apply atTime_keeps
    | intro _
    | split

/-! ## Promotion -/

theorem promoteLast_keeps (hm : covers 4294967300 m) {s : ℕ} {l : ℕ} {d : Dev} (h_d : Keeps m d0 d) :
    Keeps m d0 (promoteLast s l d) := by
  unfold promoteLast
  (try dsimp only)
  repeat' first
    | with_reducible assumption
    | (with_reducible refine covers_tr hm ?_; decide)
    | with_reducible apply markLost_keeps
    | intro _
    | split

theorem placeStandby_keeps (hm : covers 134217728 m) {l : ℕ} {d : Dev} (h_d : Keeps m d0 d) :
    Keeps m d0 (placeStandby l d) := by
  unfold placeStandby
  (try dsimp only)
  repeat' first
    | with_reducible assumption
    | (with_reducible refine covers_tr hm ?_; decide)
    | with_reducible apply setSess_keeps
    | intro _
    | split

theorem openLinFrame_keeps (hm : covers 4294967296 m) {l : ℕ} {m1 : Sys2Proof.MirrorMsg} {d : Dev} (h_d : Keeps m d0 d) :
    Keeps m d0 (openLinFrame l m1 d) := by
  unfold openLinFrame
  (try dsimp only)
  repeat' first
    | with_reducible assumption
    | (with_reducible refine covers_tr hm ?_; decide)
    | with_reducible apply pruneRecons_keeps
    | with_reducible apply setStream_keeps
    | intro _
    | split

theorem recharge_keeps (hm : covers 1099511634196 m) {l : ℕ} {d : Dev} (h_d : Keeps m d0 d) :
    Keeps m d0 (recharge l d) := by
  unfold recharge
  (try dsimp only)
  repeat' first
    | with_reducible assumption
    | (with_reducible refine covers_tr hm ?_; decide)
    | with_reducible apply setLining_keeps
    | with_reducible apply postLining_keeps
    | with_reducible apply objSet_keeps
    | intro _
    | split

theorem promoteRefused_keeps (hm : covers 1175881521556 m) {l : ℕ} {d : Dev} (h_d : Keeps m d0 d) :
    Keeps m d0 (promoteRefused l d) := by
  unfold promoteRefused
  (try dsimp only)
  repeat' first
    | with_reducible assumption
    | (with_reducible refine covers_tr hm ?_; decide)
    | with_reducible apply freeLining_keeps
    | with_reducible apply pulse_keeps
    | intro _
    | split

theorem sendTaken_keeps (hm : covers 275347668997 m) {d : Dev} (h_d : Keeps m d0 d) :
    Keeps m d0 (sendTaken d) := by
  unfold sendTaken
  (try dsimp only)
  repeat' first
    | with_reducible assumption
    | (with_reducible refine covers_tr hm ?_; decide)
    | with_reducible apply dsWrite_keeps
    | with_reducible apply sendMirror_keeps
    | intro _
    | split

theorem setLinPrm_keeps (hm : covers 68719476736 m) {l : ℕ} {idx : ℕ} {v : ℕ} {d : Dev} (h_d : Keeps m d0 d) :
    Keeps m d0 (setLinPrm l idx v d) := by
  unfold setLinPrm
  (try dsimp only)
  repeat' first
    | with_reducible assumption
    | (with_reducible refine covers_tr hm ?_; decide)
    | with_reducible exact id
    | with_reducible exact rising_put
    | with_reducible exact rising_upd
    | with_reducible exact rising_set
    | with_reducible exact rising_erase
    | with_reducible exact rising_filter
    | with_reducible exact rising_tabFilter
    | with_reducible exact rising_map
    | with_reducible exact rising_to_nil
    | with_reducible exact rising_erase_two
    | simp only [keeps_mk]
    | with_reducible apply Keeps.set_linPrm
    | intro _
    | split

theorem applyObjs_keeps (hm : covers 68719476736 m) {l : ℕ} {objs : List (ℕ × ℕ)} {d : Dev} (h_d : Keeps m d0 d) :
    Keeps m d0 (applyObjs l objs d) := by
  unfold applyObjs
  (try dsimp only)
  repeat' first
    | with_reducible assumption
    | (with_reducible refine covers_tr hm ?_; decide)
    | with_reducible apply setLinPrm_keeps
    | with_reducible apply forEach_keeps
    | intro _
    | split

theorem applyState_keeps (hm : covers 1099511627776 m) {l : ℕ} {nums : List ℕ} {d : Dev} (h_d : Keeps m d0 d) :
    Keeps m d0 (applyState l nums d) := by
  unfold applyState
  (try dsimp only)
  repeat' first
    | with_reducible assumption
    | (with_reducible refine covers_tr hm ?_; decide)
    | with_reducible apply updLining_keeps
    | intro _
    | split

theorem holdLining_keeps (hm : covers 1073741824 m) {l : ℕ} {d : Dev} (h_d : Keeps m d0 d) :
    Keeps m d0 (holdLining l d) := by
  unfold holdLining
  (try dsimp only)
  repeat' first
    | with_reducible assumption
    | (with_reducible refine covers_tr hm ?_; decide)
    | with_reducible apply setWrd_keeps
    | with_reducible refine allocBlock_keeps (covers_tr hm (by decide)) ?_ (by assumption)
    | with_reducible apply forEach_keeps
    | intro _
    | split

theorem applyOpen_keeps (hm : covers 1444384079877 m) {l : ℕ} {m1 : Sys2Proof.MirrorMsg} {d : Dev} (h_d : Keeps m d0 d) :
    Keeps m d0 (applyOpen l m1 d) := by
  unfold applyOpen
  (try dsimp only)
  repeat' first
    | with_reducible assumption
    | (with_reducible refine covers_tr hm ?_; decide)
    | with_reducible apply applyObjs_keeps
    | with_reducible apply updLining_keeps
    | with_reducible apply applyState_keeps
    | with_reducible apply sendLinState_keeps
    | with_reducible apply holdLining_keeps
    | with_reducible apply placeStandby_keeps
    | with_reducible exact id
    | with_reducible exact rising_put
    | with_reducible exact rising_upd
    | with_reducible exact rising_set
    | with_reducible exact rising_erase
    | with_reducible exact rising_filter
    | with_reducible exact rising_tabFilter
    | with_reducible exact rising_map
    | with_reducible exact rising_to_nil
    | with_reducible exact rising_erase_two
    | simp only [keeps_mk]
    | with_reducible apply Keeps.set_linPrm
    | intro _
    | split

theorem loseBands_keeps (hm : covers 1378885835157 m) {l : ℕ} {c : ℕ} {b2 : ℕ} {d : Dev} (h_d : Keeps m d0 d) :
    Keeps m d0 (loseBands l c b2 d) := by
  unfold loseBands
  (try dsimp only)
  repeat' first
    | with_reducible assumption
    | (with_reducible refine covers_tr hm ?_; decide)
    | with_reducible apply loseLinBand_keeps
    | with_reducible apply forEach_keeps
    | intro _
    | split

theorem applyBand_keeps (hm : covers 1378885835157 m) {l : ℕ} {m1 : Sys2Proof.MirrorMsg} {d : Dev} (h_d : Keeps m d0 d) :
    Keeps m d0 (applyBand l m1 d) := by
  unfold applyBand
  (try dsimp only)
  repeat' first
    | with_reducible assumption
    | (with_reducible refine covers_tr hm ?_; decide)
    | with_reducible apply openLinFrame_keeps
    | with_reducible apply updLining_keeps
    | with_reducible apply loseBands_keeps
    | with_reducible apply degradeLining_keeps
    | with_reducible apply updBand_keeps
    | intro _
    | split

theorem applyChange_keeps (hm : covers 1168231110932 m) {l : ℕ} {m1 : Sys2Proof.MirrorMsg} {d : Dev} (h_d : Keeps m d0 d) :
    Keeps m d0 (applyChange l m1 d) := by
  unfold applyChange
  (try dsimp only)
  repeat' first
    | with_reducible assumption
    | (with_reducible refine covers_tr hm ?_; decide)
    | with_reducible apply updLining_keeps
    | with_reducible apply applyState_keeps
    | with_reducible apply applyObjs_keeps
    | with_reducible apply recharge_keeps
    | intro _
    | split

theorem promoteAdmit_keeps (hm : covers 1238225649664 m) {l : ℕ} {e : ℕ} {at_ : ℕ} {d : Dev} (h_d : Keeps m d0 d) :
    Keeps m d0 (promoteAdmit l e at_ d) := by
  unfold promoteAdmit
  (try dsimp only)
  repeat' first
    | with_reducible assumption
    | (with_reducible refine covers_tr hm ?_; decide)
    | with_reducible apply allocAll_keeps
    | with_reducible apply setWrd_keeps
    | with_reducible apply setSess_keeps
    | with_reducible apply setLining_keeps
    | with_reducible apply setPair_keeps
    | with_reducible apply allocAll_keeps
    | with_reducible apply OKeeps.getD
    | (with_reducible refine Or.inr ?_; with_reducible rfl)
    | (with_reducible refine Or.inl ?_; first | with_reducible rfl | decide | omega)
    | with_reducible exact id
    | with_reducible exact rising_put
    | with_reducible exact rising_upd
    | with_reducible exact rising_set
    | with_reducible exact rising_erase
    | with_reducible exact rising_filter
    | with_reducible exact rising_tabFilter
    | with_reducible exact rising_map
    | with_reducible exact rising_to_nil
    | with_reducible exact rising_erase_two
    | simp only [keeps_mk]
    | with_reducible apply Keeps.set_ladder
    | with_reducible apply OKeeps.getD
    | intro _
    | split

theorem promoteOne_keeps (hm : covers 1313387583892 m) {l : ℕ} {at_ : ℕ} {d : Dev} (h_d : Keeps m d0 d) :
    Keeps m d0 (promoteOne l at_ d) := by
  unfold promoteOne
  (try dsimp only)
  repeat' first
    | with_reducible assumption
    | (with_reducible refine covers_tr hm ?_; decide)
    | with_reducible apply promoteAdmit_keeps
    | with_reducible apply promoteRefused_keeps
    | intro _
    | split

theorem promotionPass_keeps (hm : covers 1313387583892 m) {ls : List ℕ} {d : Dev} (h_d : Keeps m d0 d) :
    Keeps m d0 (promotionPass ls d) := by
  unfold promotionPass
  (try dsimp only)
  repeat' first
    | with_reducible assumption
    | (with_reducible refine covers_tr hm ?_; decide)
    | with_reducible apply promoteOne_keeps
    | with_reducible apply forEach_keeps
    | intro _
    | split

theorem applyHandover_keeps (hm : covers 1313387583892 m) {l : ℕ} {m1 : Sys2Proof.MirrorMsg} {d : Dev} (h_d : Keeps m d0 d) :
    Keeps m d0 (applyHandover l m1 d) := by
  unfold applyHandover
  (try dsimp only)
  repeat' first
    | with_reducible assumption
    | (with_reducible refine covers_tr hm ?_; decide)
    | with_reducible apply promotionPass_keeps
    | with_reducible apply updLining_keeps
    | intro _
    | split

theorem applyMsg_keeps (hm : covers 1588265490837 m) {l : ℕ} {m1 : Sys2Proof.MirrorMsg} {d : Dev} (h_d : Keeps m d0 d) :
    Keeps m d0 (applyMsg l m1 d) := by
  unfold applyMsg
  (try dsimp only)
  repeat' first
    | with_reducible assumption
    | (with_reducible refine covers_tr hm ?_; decide)
    | with_reducible apply objSet_keeps
    | with_reducible apply applyOpen_keeps
    | with_reducible apply applyBand_keeps
    | with_reducible apply applyChange_keeps
    | with_reducible apply freeLining_keeps
    | with_reducible apply applyHandover_keeps
    | intro _
    | split

theorem applyWaiting_keeps (hm : covers 1588265490837 m) {l : ℕ} {a : ℕ} {a2 : Dev} (h_a2 : Keeps m d0 a2) :
    Keeps m d0 (applyWaiting l a a2) := by
  induction a generalizing l a2 with
  | zero => exact h_a2
  | succ k ih =>
    unfold applyWaiting
    repeat' first
      | with_reducible assumption
      | (with_reducible refine covers_tr hm ?_; decide)
      | with_reducible apply ih
      | with_reducible apply applyMsg_keeps
      | with_reducible apply setLining_keeps
      | intro _
      | split

theorem drainWaiting_keeps (hm : covers 1588265490837 m) {l : ℕ} {d : Dev} (h_d : Keeps m d0 d) :
    Keeps m d0 (drainWaiting l d) := by
  unfold drainWaiting
  (try dsimp only)
  repeat' first
    | with_reducible assumption
    | (with_reducible refine covers_tr hm ?_; decide)
    | with_reducible apply applyWaiting_keeps
    | intro _
    | split

theorem sequenced_keeps (hm : covers 1588265490837 m) {m0 : Sys2Proof.MirrorMsg} {d : Dev} (h_d : Keeps m d0 d) :
    Keeps m d0 (sequenced m0 d) := by
  unfold sequenced
  (try dsimp only)
  repeat' first
    | with_reducible assumption
    | (with_reducible refine covers_tr hm ?_; decide)
    | with_reducible apply drainWaiting_keeps
    | with_reducible apply updLining_keeps
    | intro _
    | split

theorem promoteDest_keeps (hm : covers 275012131092 m) {s : ℕ} {l : ℕ} {gap : ℕ} {e : ℕ × ℕ × ℕ} {d : Dev} (h_d : Keeps m d0 d) :
    Keeps m d0 (promoteDest s l gap e d) := by
  unfold promoteDest
  (try dsimp only)
  repeat' first
    | with_reducible assumption
    | (with_reducible refine covers_tr hm ?_; decide)
    | with_reducible apply updDest_keeps
    | with_reducible apply enableDest_keeps
    | intro _
    | split

theorem takeOverAddrs_keeps (hm : covers 275079233541 m) {s : ℕ} {d : Dev} (h_d : Keeps m d0 d) :
    Keeps m d0 (takeOverAddrs s d) := by
  unfold takeOverAddrs
  (try dsimp only)
  repeat' first
    | with_reducible assumption
    | (with_reducible refine covers_tr hm ?_; decide)
    | with_reducible apply announce_keeps
    | with_reducible apply setPair_keeps
    | (with_reducible refine Or.inr ?_; with_reducible rfl)
    | (with_reducible refine Or.inl ?_; first | with_reducible rfl | decide | omega)
    | with_reducible apply forEach_keeps
    | intro _
    | split

theorem becomeRunning_keeps (hm : covers 279374207253 m) {l : ℕ} {gap : ℕ} {d : Dev} (h_d : Keeps m d0 d) :
    Keeps m d0 (becomeRunning l gap d) := by
  unfold becomeRunning
  (try dsimp only)
  repeat' first
    | with_reducible assumption
    | (with_reducible refine covers_tr hm ?_; decide)
    | with_reducible apply objSet_keeps
    | with_reducible apply restartStats_keeps
    | with_reducible apply objReset_keeps
    | with_reducible apply setSess_keeps
    | with_reducible apply setStream_keeps
    | with_reducible apply promoteLast_keeps
    | with_reducible apply startCredits_keeps
    | with_reducible apply promoteDest_keeps
    | with_reducible apply takeOverAddrs_keeps
    | with_reducible apply linChange_keeps
    | with_reducible apply raise_keeps
    | with_reducible apply objCount_keeps
    | with_reducible apply postTenant_keeps
    | with_reducible apply postState_keeps
    | with_reducible apply forEach_keeps
    | intro _
    | split

theorem promotionsDue_keeps (hm : covers 279374207253 m) {d : Dev} (h_d : Keeps m d0 d) :
    Keeps m d0 (promotionsDue d) := by
  unfold promotionsDue
  (try dsimp only)
  repeat' first
    | with_reducible assumption
    | (with_reducible refine covers_tr hm ?_; decide)
    | with_reducible apply becomeRunning_keeps
    | with_reducible apply setPair_keeps
    | (with_reducible refine Or.inr ?_; with_reducible rfl)
    | (with_reducible refine Or.inl ?_; first | with_reducible rfl | decide | omega)
    | with_reducible apply forEach_keeps
    | intro _
    | split

theorem sendNack_keeps (hm : covers 275079233541 m) {l : ℕ} {d : Dev} (h_d : Keeps m d0 d) :
    Keeps m d0 (sendNack l d) := by
  unfold sendNack
  (try dsimp only)
  repeat' first
    | with_reducible assumption
    | (with_reducible refine covers_tr hm ?_; decide)
    | with_reducible apply objCount_keeps
    | with_reducible apply sendMirror_keeps
    | intro _
    | split

theorem holdExpiry_keeps (hm : covers 1588265490837 m) {l : ℕ} {d : Dev} (h_d : Keeps m d0 d) :
    Keeps m d0 (holdExpiry l d) := by
  unfold holdExpiry
  (try dsimp only)
  repeat' first
    | with_reducible assumption
    | (with_reducible refine covers_tr hm ?_; decide)
    | with_reducible apply objSet_keeps
    | with_reducible apply objCount_keeps
    | with_reducible apply drainWaiting_keeps
    | with_reducible apply degradeLining_keeps
    | intro _
    | split

theorem lossPass_keeps (hm : covers 1588533926293 m) {d : Dev} (h_d : Keeps m d0 d) :
    Keeps m d0 (lossPass d) := by
  unfold lossPass
  (try dsimp only)
  repeat' first
    | with_reducible assumption
    | (with_reducible refine covers_tr hm ?_; decide)
    | with_reducible apply sendTaken_keeps
    | with_reducible apply promotionPass_keeps
    | intro _
    | split

/-! ## Pairing -/

theorem reanchor_keeps (hm : covers 1374590861317 m) {l : ℕ} {d : Dev} (h_d : Keeps m d0 d) :
    Keeps m d0 (reanchor l d) := by
  unfold reanchor
  (try dsimp only)
  repeat' first
    | with_reducible assumption
    | (with_reducible refine covers_tr hm ?_; decide)
    | with_reducible apply sendLinState_keeps
    | with_reducible apply objReset_keeps
    | with_reducible apply updLining_keeps
    | intro _
    | split

theorem reanchorWrite_keeps (hm : covers 1374867030293 m) {q : Sys2Proof.Req} {lining : ℕ} {a : Dev} (h_a : Keeps m d0 a) :
    Keeps m d0 (reanchorWrite q lining a) := by
  unfold reanchorWrite
  (try dsimp only)
  repeat' first
    | with_reducible assumption
    | (with_reducible refine covers_tr hm ?_; decide)
    | with_reducible apply perform_keeps
    | with_reducible apply reanchor_keeps
    | intro _
    | split

theorem execLiningReanchor_keeps {q : Sys2Proof.Req} {lining : ℕ} {s : State} {t : State}
    (ht : execLiningReanchor q lining s = .next t) : Keeps 1374867030293 s.dev t.dev := by
  have hm : covers 1374867030293 1374867030293 := rfl
  refine actOn_keeps (fun d hd => ?_) ht
  (try dsimp only)
  repeat' first
    | with_reducible assumption
    | (with_reducible refine covers_tr hm ?_; decide)
    | with_reducible apply reanchorWrite_keeps
    | intro _
    | split

theorem cancelPromotion_keeps (hm : covers 1004149938461 m) {l : ℕ} {d : Dev} (h_d : Keeps m d0 d) :
    Keeps m d0 (cancelPromotion l d) := by
  unfold cancelPromotion
  (try dsimp only)
  repeat' first
    | with_reducible assumption
    | (with_reducible refine covers_tr hm ?_; decide)
    | with_reducible apply dropReservations_keeps
    | with_reducible apply setPair_keeps
    | (with_reducible refine Or.inr ?_; with_reducible rfl)
    | (with_reducible refine Or.inl ?_; first | with_reducible rfl | decide | omega)
    | intro _
    | split

theorem liningReleaseWrite_keeps (hm : covers 2172657211677 m) {q : Sys2Proof.Req} {lining : ℕ} {a : Dev} (h_a : Keeps m d0 a) :
    Keeps m d0 (liningReleaseWrite q lining a) := by
  unfold liningReleaseWrite
  (try dsimp only)
  repeat' first
    | with_reducible assumption
    | (with_reducible refine covers_tr hm ?_; decide)
    | with_reducible apply perform_keeps
    | with_reducible apply freeLining_keeps
    | with_reducible apply cancelPromotion_keeps
    | intro _
    | split

theorem refusePair_keeps (hm : covers 67108996 m) {reason : ℕ} {d : Dev} (h_d : Keeps m d0 d) :
    Keeps m d0 (refusePair reason d) := by
  unfold refusePair
  (try dsimp only)
  repeat' first
    | with_reducible assumption
    | (with_reducible refine covers_tr hm ?_; decide)
    | with_reducible apply enterPair_keeps
    | with_reducible apply objSet_keeps
    | with_reducible apply setPair_keeps
    | (show _ ≤ 5; decide)
    | (with_reducible refine Or.inr ?_; with_reducible rfl)
    | (with_reducible refine Or.inl ?_; first | with_reducible rfl | decide | omega)
    | intro _
    | split

theorem enterHandshake_keeps (hm : covers 335544516 m) {d : Dev} (h_d : Keeps m d0 d) :
    Keeps m d0 (enterHandshake d) := by
  unfold enterHandshake
  (try dsimp only)
  repeat' first
    | with_reducible assumption
    | (with_reducible refine covers_tr hm ?_; decide)
    | with_reducible apply refusePair_keeps
    | with_reducible apply enterPair_keeps
    | with_reducible apply objSet_keeps
    | with_reducible apply rngNext_keeps
    | with_reducible apply dsSend_keeps
    | (show _ ≤ 5; decide)
    | intro _
    | split

theorem discardMedia_keeps (hm : covers 275012124672 m) {s : ℕ} {d : Dev} (h_d : Keeps m d0 d) :
    Keeps m d0 (discardMedia s d) := by
  unfold discardMedia
  (try dsimp only)
  repeat' first
    | with_reducible assumption
    | (with_reducible refine covers_tr hm ?_; decide)
    | with_reducible apply setSess_keeps
    | with_reducible exact id
    | with_reducible exact rising_put
    | with_reducible exact rising_upd
    | with_reducible exact rising_set
    | with_reducible exact rising_erase
    | with_reducible exact rising_filter
    | with_reducible exact rising_tabFilter
    | with_reducible exact rising_map
    | with_reducible exact rising_to_nil
    | with_reducible exact rising_erase_two
    | simp only [keeps_mk]
    | with_reducible apply Keeps.set_pke
    | intro _
    | split

theorem giveAddrs_keeps (hm : covers 67108864 m) {s : ℕ} {d : Dev} (h_d : Keeps m d0 d) :
    Keeps m d0 (giveAddrs s d) := by
  unfold giveAddrs
  (try dsimp only)
  repeat' first
    | with_reducible assumption
    | (with_reducible refine covers_tr hm ?_; decide)
    | with_reducible apply setPair_keeps
    | (with_reducible refine Or.inr ?_; with_reducible rfl)
    | (with_reducible refine Or.inl ?_; first | with_reducible rfl | decide | omega)
    | intro _
    | split

theorem finishHandover_keeps (hm : covers 1004421912989 m) {o : Offer} {d : Dev} (h_d : Keeps m d0 d) :
    Keeps m d0 (finishHandover o d) := by
  unfold finishHandover
  (try dsimp only)
  repeat' first
    | with_reducible assumption
    | (with_reducible refine covers_tr hm ?_; decide)
    | with_reducible apply discardMedia_keeps
    | with_reducible apply sendSeq_keeps
    | with_reducible apply objSet_keeps
    | with_reducible apply objReset_keeps
    | with_reducible apply giveAddrs_keeps
    | with_reducible apply objCount_keeps
    | with_reducible apply setSess_keeps
    | with_reducible apply setPair_keeps
    | with_reducible apply suspend_keeps
    | with_reducible apply accept_keeps
    | with_reducible apply drainAct_keeps
    | (with_reducible refine Or.inr ?_; with_reducible rfl)
    | (with_reducible refine Or.inl ?_; first | with_reducible rfl | decide | omega)
    | intro _
    | split

theorem handoverDue_keeps (hm : covers 1004421912989 m) {limitOnly : Bool} {d : Dev} (h_d : Keeps m d0 d) :
    Keeps m d0 (handoverDue limitOnly d) := by
  unfold handoverDue
  (try dsimp only)
  repeat' first
    | with_reducible assumption
    | (with_reducible refine covers_tr hm ?_; decide)
    | with_reducible apply finishHandover_keeps
    | intro _
    | split

theorem addressAnnounce_keeps (hm : covers 275079233541 m) {d : Dev} (h_d : Keeps m d0 d) :
    Keeps m d0 (addressAnnounce d) := by
  unfold addressAnnounce
  (try dsimp only)
  repeat' first
    | with_reducible assumption
    | (with_reducible refine covers_tr hm ?_; decide)
    | with_reducible apply announce_keeps
    | with_reducible apply setPair_keeps
    | (with_reducible refine Or.inr ?_; with_reducible rfl)
    | (with_reducible refine Or.inl ?_; first | with_reducible rfl | decide | omega)
    | with_reducible apply forEach_keeps
    | intro _
    | split

theorem sendProbe_keeps (hm : covers 335544320 m) {d : Dev} (h_d : Keeps m d0 d) :
    Keeps m d0 (sendProbe d) := by
  unfold sendProbe
  (try dsimp only)
  repeat' first
    | with_reducible assumption
    | (with_reducible refine covers_tr hm ?_; decide)
    | with_reducible apply dsSend_keeps
    | with_reducible apply setPair_keeps
    | (with_reducible refine Or.inr ?_; with_reducible rfl)
    | (with_reducible refine Or.inl ?_; first | with_reducible rfl | decide | omega)
    | intro _
    | split

theorem heartbeatLimit_keeps (hm : covers 335544320 m) {d : Dev} (h_d : Keeps m d0 d) :
    Keeps m d0 (heartbeatLimit d) := by
  unfold heartbeatLimit
  (try dsimp only)
  repeat' first
    | with_reducible assumption
    | (with_reducible refine covers_tr hm ?_; decide)
    | with_reducible apply sendProbe_keeps
    | intro _
    | split

theorem execHeartbeatLimit_keeps {now : ℕ} {s : State} {t : State}
    (ht : execHeartbeatLimit now s = .next t) : Keeps 339738624 s.dev t.dev := by
  have hm : covers 339738624 339738624 := rfl
  refine act_keeps (fun d hd => ?_) ht
  (try dsimp only)
  repeat' first
    | with_reducible assumption
    | (with_reducible refine covers_tr hm ?_; decide)
    | with_reducible apply heartbeatLimit_keeps
    | with_reducible apply atTime_keeps
    | intro _
    | split

theorem refusedRetry_keeps (hm : covers 335544516 m) {d : Dev} (h_d : Keeps m d0 d) :
    Keeps m d0 (refusedRetry d) := by
  unfold refusedRetry
  (try dsimp only)
  repeat' first
    | with_reducible assumption
    | (with_reducible refine covers_tr hm ?_; decide)
    | with_reducible apply enterHandshake_keeps
    | intro _
    | split

theorem execRefusedRetry_keeps {now : ℕ} {s : State} {t : State}
    (ht : execRefusedRetry now s = .next t) : Keeps 339738820 s.dev t.dev := by
  have hm : covers 339738820 339738820 := rfl
  refine act_keeps (fun d hd => ?_) ht
  (try dsimp only)
  repeat' first
    | with_reducible assumption
    | (with_reducible refine covers_tr hm ?_; decide)
    | with_reducible apply refusedRetry_keeps
    | with_reducible apply atTime_keeps
    | intro _
    | split

theorem probeRepeat_keeps (hm : covers 335544320 m) {d : Dev} (h_d : Keeps m d0 d) :
    Keeps m d0 (probeRepeat d) := by
  unfold probeRepeat
  (try dsimp only)
  repeat' first
    | with_reducible assumption
    | (with_reducible refine covers_tr hm ?_; decide)
    | with_reducible apply sendProbe_keeps
    | intro _
    | split

theorem mismatchTold_keeps (hm : covers 3776014457269 m) {s : ℕ} {c : ℕ} {b2 : ℕ} {d : Dev} (h_d : Keeps m d0 d) :
    Keeps m d0 (mismatchTold s c b2 d) := by
  unfold mismatchTold
  (try dsimp only)
  repeat' first
    | with_reducible assumption
    | (with_reducible refine covers_tr hm ?_; decide)
    | with_reducible apply countMismatch_keeps
    | with_reducible apply mismatchFault_keeps
    | with_reducible apply forEach_keeps
    | intro _
    | split

theorem liningTold_keeps (hm : covers 3776014457269 m) {m0 : Sys2Proof.MirrorMsg} {d : Dev} (h_d : Keeps m d0 d) :
    Keeps m d0 (liningTold m0 d) := by
  unfold liningTold
  (try dsimp only)
  repeat' first
    | with_reducible assumption
    | (with_reducible refine covers_tr hm ?_; decide)
    | with_reducible apply objSet_keeps
    | with_reducible apply triggerCycle_keeps
    | with_reducible apply mismatchTold_keeps
    | intro _
    | split

theorem pairEnableWrite_keeps (hm : covers 276168989 m) {q : Sys2Proof.Req} {value : ℕ} {a : Dev} (h_a : Keeps m d0 a) :
    Keeps m d0 (pairEnableWrite q value a) := by
  unfold pairEnableWrite
  (try dsimp only)
  repeat' first
    | with_reducible assumption
    | (with_reducible refine covers_tr hm ?_; decide)
    | with_reducible apply perform_keeps
    | with_reducible apply objSetStitch_keeps
    | intro _
    | split

theorem execProbeRepeat_keeps {now : ℕ} {s : State} {t : State}
    (ht : execProbeRepeat now s = .next t) : Keeps 339738624 s.dev t.dev := by
  have hm : covers 339738624 339738624 := rfl
  refine act_keeps (fun d hd => ?_) ht
  (try dsimp only)
  repeat' first
    | with_reducible assumption
    | (with_reducible refine covers_tr hm ?_; decide)
    | with_reducible apply probeRepeat_keeps
    | with_reducible apply atTime_keeps
    | intro _
    | split

theorem receive_keeps (hm : covers 67108868 m) {ty : ℕ} {m1 : Sys2Proof.MirrorMsg} {f : Dev → Dev} {d : Dev} (h_f : ∀ (y0 : Dev), Keeps m d0 y0 → Keeps m d0 (f y0)) (h_d : Keeps m d0 d) :
    Keeps m d0 (receive ty m1 f d) := by
  unfold receive
  (try dsimp only)
  repeat' first
    | with_reducible assumption
    | (with_reducible refine covers_tr hm ?_; decide)
    | with_reducible apply setPair_keeps
    | with_reducible apply objCount_keeps
    | (with_reducible refine Or.inr ?_; with_reducible rfl)
    | (with_reducible refine Or.inl ?_; first | with_reducible rfl | decide | omega)
    | with_reducible apply h_f
    | intro _
    | split

theorem takeSessions_keeps (hm : covers 67108864 m) {ss : List ℕ} {d : Dev} (h_d : Keeps m d0 d) :
    Keeps m d0 (takeSessions ss d) := by
  unfold takeSessions
  (try dsimp only)
  repeat' first
    | with_reducible assumption
    | (with_reducible refine covers_tr hm ?_; decide)
    | with_reducible apply setPair_keeps
    | (with_reducible refine Or.inr ?_; with_reducible rfl)
    | (with_reducible refine Or.inl ?_; first | with_reducible rfl | decide | omega)
    | intro _
    | split

theorem execTaken_keeps {m0 : Sys2Proof.MirrorMsg} {now : ℕ} {s : State} {t : State}
    (ht : execTaken m0 now s = .next t) : Keeps 71303172 s.dev t.dev := by
  have hm : covers 71303172 71303172 := rfl
  refine act_keeps (fun d hd => ?_) ht
  (try dsimp only)
  repeat' first
    | with_reducible assumption
    | (with_reducible refine covers_tr hm ?_; decide)
    | with_reducible apply receive_keeps
    | with_reducible apply takeSessions_keeps
    | with_reducible apply atTime_keeps
    | intro _
    | split

theorem restartLining_keeps (hm : covers 4 m) {l : ℕ} {d : Dev} (h_d : Keeps m d0 d) :
    Keeps m d0 (restartLining l d) := by
  unfold restartLining
  (try dsimp only)
  repeat' first
    | with_reducible assumption
    | (with_reducible refine covers_tr hm ?_; decide)
    | with_reducible apply objReset_keeps
    | with_reducible apply forEach_keeps
    | intro _
    | split

theorem grantLining_keeps (hm : covers 1099511634196 m) {m0 : Sys2Proof.MirrorMsg} {a : LinAsk} {l : ℕ} {s : ℕ} {d : Dev} (h_d : Keeps m d0 d) :
    Keeps m d0 (grantLining m0 a l s d) := by
  unfold grantLining
  (try dsimp only)
  repeat' first
    | with_reducible assumption
    | (with_reducible refine covers_tr hm ?_; decide)
    | with_reducible apply setLining_keeps
    | with_reducible apply restartLining_keeps
    | with_reducible apply objSet_keeps
    | with_reducible apply linChange_keeps
    | intro _
    | split

theorem execSessionClose_keeps {m0 : Sys2Proof.MirrorMsg} {now : ℕ} {s : State} {t : State}
    (ht : execSessionClose m0 now s = .next t) : Keeps 1588269685141 s.dev t.dev := by
  have hm : covers 1588269685141 1588269685141 := rfl
  refine act_keeps (fun d hd => ?_) ht
  (try dsimp only)
  repeat' first
    | with_reducible assumption
    | (with_reducible refine covers_tr hm ?_; decide)
    | with_reducible apply receive_keeps
    | with_reducible apply sequenced_keeps
    | with_reducible apply atTime_keeps
    | intro _
    | split

theorem offerFails_keeps (hm : covers 3759105513877 m) {d : Dev} (h_d : Keeps m d0 d) :
    Keeps m d0 (offerFails d) := by
  unfold offerFails
  (try dsimp only)
  repeat' first
    | with_reducible assumption
    | (with_reducible refine covers_tr hm ?_; decide)
    | with_reducible apply setPair_keeps
    | with_reducible apply setSess_keeps
    | with_reducible apply recoverPart_keeps
    | with_reducible apply refuse_keeps
    | (with_reducible refine Or.inr ?_; with_reducible rfl)
    | (with_reducible refine Or.inl ?_; first | with_reducible rfl | decide | omega)
    | intro _
    | split

theorem offerTimeout_keeps (hm : covers 3759105513877 m) {d : Dev} (h_d : Keeps m d0 d) :
    Keeps m d0 (offerTimeout d) := by
  unfold offerTimeout
  (try dsimp only)
  repeat' first
    | with_reducible assumption
    | (with_reducible refine covers_tr hm ?_; decide)
    | with_reducible apply offerFails_keeps
    | intro _
    | split

theorem relining_keeps (hm : covers 275079233541 m) {d : Dev} (h_d : Keeps m d0 d) :
    Keeps m d0 (relining d) := by
  unfold relining
  (try dsimp only)
  repeat' first
    | with_reducible assumption
    | (with_reducible refine covers_tr hm ?_; decide)
    | with_reducible apply askLining_keeps
    | with_reducible apply setPair_keeps
    | (with_reducible refine Or.inr ?_; with_reducible rfl)
    | (with_reducible refine Or.inl ?_; first | with_reducible rfl | decide | omega)
    | with_reducible apply forEach_keeps
    | intro _
    | split

theorem helloAccepted_keeps (hm : covers 275347669189 m) {m0 : Sys2Proof.MirrorMsg} {d : Dev} (h_d : Keeps m d0 d) :
    Keeps m d0 (helloAccepted m0 d) := by
  unfold helloAccepted
  (try dsimp only)
  repeat' first
    | with_reducible assumption
    | (with_reducible refine covers_tr hm ?_; decide)
    | with_reducible apply refusePair_keeps
    | with_reducible apply enterPair_keeps
    | with_reducible apply objReset_keeps
    | with_reducible apply relining_keeps
    | with_reducible apply setPair_keeps
    | with_reducible apply enterHandshake_keeps
    | (show _ ≤ 5; decide)
    | (with_reducible refine Or.inr ?_; with_reducible rfl)
    | (with_reducible refine Or.inl ?_; first | with_reducible rfl | decide | omega)
    | intro _
    | split

theorem handshakeTimeout_keeps (hm : covers 67108996 m) {d : Dev} (h_d : Keeps m d0 d) :
    Keeps m d0 (handshakeTimeout d) := by
  unfold handshakeTimeout
  (try dsimp only)
  repeat' first
    | with_reducible assumption
    | (with_reducible refine covers_tr hm ?_; decide)
    | with_reducible apply refusePair_keeps
    | intro _
    | split

theorem forgetLinings_keeps (hm : covers 134217732 m) {d : Dev} (h_d : Keeps m d0 d) :
    Keeps m d0 (forgetLinings d) := by
  unfold forgetLinings
  (try dsimp only)
  repeat' first
    | with_reducible assumption
    | (with_reducible refine covers_tr hm ?_; decide)
    | with_reducible apply objSet_keeps
    | with_reducible apply objReset_keeps
    | with_reducible apply setSess_keeps
    | with_reducible apply forEach_keeps
    | intro _
    | split

theorem stopLinings_keeps (hm : covers 1099511634196 m) {d : Dev} (h_d : Keeps m d0 d) :
    Keeps m d0 (stopLinings d) := by
  unfold stopLinings
  (try dsimp only)
  repeat' first
    | with_reducible assumption
    | (with_reducible refine covers_tr hm ?_; decide)
    | with_reducible apply postLining_keeps
    | with_reducible apply updLining_keeps
    | with_reducible apply forEach_keeps
    | intro _
    | split

theorem partnerLost_keeps (hm : covers 3831046216085 m) {d : Dev} (h_d : Keeps m d0 d) :
    Keeps m d0 (partnerLost d) := by
  unfold partnerLost
  (try dsimp only)
  repeat' first
    | with_reducible assumption
    | (with_reducible refine covers_tr hm ?_; decide)
    | with_reducible apply pulse_keeps
    | with_reducible apply enterPair_keeps
    | with_reducible apply offerFails_keeps
    | with_reducible apply setPair_keeps
    | with_reducible apply forgetLinings_keeps
    | with_reducible apply lossPass_keeps
    | with_reducible apply stopLinings_keeps
    | (show _ ≤ 5; decide)
    | (with_reducible refine Or.inr ?_; with_reducible rfl)
    | (with_reducible refine Or.inl ?_; first | with_reducible rfl | decide | omega)
    | intro _
    | split

theorem probeTimeout_keeps (hm : covers 3831046216085 m) {d : Dev} (h_d : Keeps m d0 d) :
    Keeps m d0 (probeTimeout d) := by
  unfold probeTimeout
  (try dsimp only)
  repeat' first
    | with_reducible assumption
    | (with_reducible refine covers_tr hm ?_; decide)
    | with_reducible apply partnerLost_keeps
    | intro _
    | split

theorem execProbeTimeout_keeps {now : ℕ} {s : State} {t : State}
    (ht : execProbeTimeout now s = .next t) : Keeps 3831050410389 s.dev t.dev := by
  have hm : covers 3831050410389 3831050410389 := rfl
  refine act_keeps (fun d hd => ?_) ht
  (try dsimp only)
  repeat' first
    | with_reducible assumption
    | (with_reducible refine covers_tr hm ?_; decide)
    | with_reducible apply probeTimeout_keeps
    | with_reducible apply atTime_keeps
    | intro _
    | split

theorem sessionsTakenWrite_keeps (hm : covers 343277845 m) {q : Sys2Proof.Req} {v : Sys2Proof.Payload} {a : Dev} (h_a : Keeps m d0 a) :
    Keeps m d0 (sessionsTakenWrite q v a) := by
  unfold sessionsTakenWrite
  (try dsimp only)
  repeat' first
    | with_reducible assumption
    | (with_reducible refine covers_tr hm ?_; decide)
    | with_reducible apply perform_keeps
    | with_reducible apply takeSessions_keeps
    | with_reducible apply objSet_keeps
    | intro _
    | split

theorem execSessionsTakenWrite_keeps {q : Sys2Proof.Req} {v : Sys2Proof.Payload} {s : State} {t : State}
    (ht : execSessionsTakenWrite q v s = .next t) : Keeps 343277845 s.dev t.dev := by
  have hm : covers 343277845 343277845 := rfl
  refine act_keeps (fun d hd => ?_) ht
  (try dsimp only)
  repeat' first
    | with_reducible assumption
    | (with_reducible refine covers_tr hm ?_; decide)
    | with_reducible apply sessionsTakenWrite_keeps
    | intro _
    | split

theorem suspendTaken_keeps (hm : covers 313733945749 m) {d : Dev} (h_d : Keeps m d0 d) :
    Keeps m d0 (suspendTaken d) := by
  unfold suspendTaken
  (try dsimp only)
  repeat' first
    | with_reducible assumption
    | (with_reducible refine covers_tr hm ?_; decide)
    | with_reducible apply suspend_keeps
    | with_reducible apply discardMedia_keeps
    | with_reducible apply setSess_keeps
    | with_reducible apply setPair_keeps
    | (with_reducible refine Or.inr ?_; with_reducible rfl)
    | (with_reducible refine Or.inl ?_; first | with_reducible rfl | decide | omega)
    | with_reducible apply forEach_keeps
    | intro _
    | split

theorem offerAnswered_keeps (hm : covers 4312083601821 m) {m0 : Sys2Proof.MirrorMsg} {d : Dev} (h_d : Keeps m d0 d) :
    Keeps m d0 (offerAnswered m0 d) := by
  unfold offerAnswered
  (try dsimp only)
  repeat' first
    | with_reducible assumption
    | (with_reducible refine covers_tr hm ?_; decide)
    | with_reducible apply offerFails_keeps
    | with_reducible apply handoverDue_keeps
    | with_reducible apply setSess_keeps
    | with_reducible apply setPair_keeps
    | (with_reducible refine Or.inr ?_; with_reducible rfl)
    | (with_reducible refine Or.inl ?_; first | with_reducible rfl | decide | omega)
    | intro _
    | split

theorem execAddressAnnounce_keeps {now : ℕ} {s : State} {t : State}
    (ht : execAddressAnnounce now s = .next t) : Keeps 275083427845 s.dev t.dev := by
  have hm : covers 275083427845 275083427845 := rfl
  refine act_keeps (fun d hd => ?_) ht
  (try dsimp only)
  repeat' first
    | with_reducible assumption
    | (with_reducible refine covers_tr hm ?_; decide)
    | with_reducible apply addressAnnounce_keeps
    | with_reducible apply atTime_keeps
    | intro _
    | split

theorem execMirrorHoldExpiry_keeps {lining : ℕ} {now : ℕ} {s : State} {t : State}
    (ht : execMirrorHoldExpiry lining now s = .next t) : Keeps 1648399227285 s.dev t.dev := by
  have hm : covers 1648399227285 1648399227285 := rfl
  refine actOn_keeps (fun d hd => ?_) ht
  (try dsimp only)
  repeat' first
    | with_reducible assumption
    | (with_reducible refine covers_tr hm ?_; decide)
    | with_reducible apply earlyStart_keeps
    | with_reducible apply holdExpiry_keeps
    | with_reducible apply atTime_keeps
    | intro _
    | split

theorem mirrorNacked_keeps (hm : covers 275079233541 m) {m0 : Sys2Proof.MirrorMsg} {d : Dev} (h_d : Keeps m d0 d) :
    Keeps m d0 (mirrorNacked m0 d) := by
  unfold mirrorNacked
  (try dsimp only)
  repeat' first
    | with_reducible assumption
    | (with_reducible refine covers_tr hm ?_; decide)
    | with_reducible apply sendMirror_keeps
    | with_reducible apply forEach_keeps
    | intro _
    | split

theorem unpair_keeps (hm : covers 67108992 m) {d : Dev} (h : Keeps m d0 d) : Keeps m d0 (unpair d) :=
  setPair_keeps (covers_tr hm (by decide)) (.inl (Nat.zero_le 5)) (enterPair_keeps (covers_tr hm (by decide)) (by decide) h)

theorem liningRetry_keeps (hm : covers 275079233541 m) {s : ℕ} {d : Dev} (h_d : Keeps m d0 d) :
    Keeps m d0 (liningRetry s d) := by
  unfold liningRetry
  (try dsimp only)
  repeat' first
    | with_reducible assumption
    | (with_reducible refine covers_tr hm ?_; decide)
    | with_reducible apply askLining_keeps
    | with_reducible apply setSess_keeps
    | intro _
    | split

theorem execLiningRelease_keeps {q : Sys2Proof.Req} {lining : ℕ} {s : State} {t : State}
    (ht : execLiningRelease q lining s = .next t) : Keeps 2172657211677 s.dev t.dev := by
  have hm : covers 2172657211677 2172657211677 := rfl
  refine actOn_keeps (fun d hd => ?_) ht
  (try dsimp only)
  repeat' first
    | with_reducible assumption
    | (with_reducible refine covers_tr hm ?_; decide)
    | with_reducible apply liningReleaseWrite_keeps
    | intro _
    | split

theorem pairStep_keeps (hm : covers 335544516 m) {d : Dev} (h_d : Keeps m d0 d) :
    Keeps m d0 (pairStep d) := by
  unfold pairStep
  (try dsimp only)
  repeat' first
    | with_reducible assumption
    | (with_reducible refine covers_tr hm ?_; decide)
    | with_reducible apply unpair_keeps
    | with_reducible apply enterHandshake_keeps
    | intro _
    | split

theorem execHandoverOfferTimeout_keeps {now : ℕ} {s : State} {t : State}
    (ht : execHandoverOfferTimeout now s = .next t) : Keeps 3759109708181 s.dev t.dev := by
  have hm : covers 3759109708181 3759109708181 := rfl
  refine act_keeps (fun d hd => ?_) ht
  (try dsimp only)
  repeat' first
    | with_reducible assumption
    | (with_reducible refine covers_tr hm ?_; decide)
    | with_reducible apply offerTimeout_keeps
    | with_reducible apply atTime_keeps
    | intro _
    | split

theorem liningAsked_keeps (hm : covers 1374590867733 m) {m0 : Sys2Proof.MirrorMsg} {d : Dev} (h_d : Keeps m d0 d) :
    Keeps m d0 (liningAsked m0 d) := by
  unfold liningAsked
  (try dsimp only)
  repeat' first
    | with_reducible assumption
    | (with_reducible refine covers_tr hm ?_; decide)
    | with_reducible apply sendMirror_keeps
    | with_reducible apply grantLining_keeps
    | intro _
    | split

theorem execLiningRequest_keeps {m0 : Sys2Proof.MirrorMsg} {now : ℕ} {s : State} {t : State}
    (ht : execLiningRequest m0 now s = .next t) : Keeps 1374595062037 s.dev t.dev := by
  have hm : covers 1374595062037 1374595062037 := rfl
  refine act_keeps (fun d hd => ?_) ht
  (try dsimp only)
  repeat' first
    | with_reducible assumption
    | (with_reducible refine covers_tr hm ?_; decide)
    | with_reducible apply receive_keeps
    | with_reducible apply liningAsked_keeps
    | with_reducible apply atTime_keeps
    | intro _
    | split

theorem handOver_keeps (hm : covers 275354353941 m) {q : Sys2Proof.Req} {v : ℕ} {d : Dev} (h_d : Keeps m d0 d) :
    Keeps m d0 (handOver q v d) := by
  unfold handOver
  (try dsimp only)
  repeat' first
    | with_reducible assumption
    | (with_reducible refine covers_tr hm ?_; decide)
    | with_reducible apply decideWrite_keeps
    | with_reducible apply refuse_keeps
    | with_reducible apply offerHandover_keeps
    | intro _
    | split

theorem openLink_keeps (hm : covers 275079233541 m) {s : ℕ} {l : ℕ} {d : Dev} (h_d : Keeps m d0 d) :
    Keeps m d0 (openLink s l d) := by
  unfold openLink
  (try dsimp only)
  repeat' first
    | with_reducible assumption
    | (with_reducible refine covers_tr hm ?_; decide)
    | with_reducible apply objSet_keeps
    | with_reducible apply setSess_keeps
    | with_reducible apply sendSeq_keeps
    | intro _
    | split

theorem offerReceived_keeps (hm : covers 1374590861317 m) {m0 : Sys2Proof.MirrorMsg} {d : Dev} (h_d : Keeps m d0 d) :
    Keeps m d0 (offerReceived m0 d) := by
  unfold offerReceived
  (try dsimp only)
  repeat' first
    | with_reducible assumption
    | (with_reducible refine covers_tr hm ?_; decide)
    | with_reducible apply updLining_keeps
    | with_reducible apply sendMirror_keeps
    | intro _
    | split

theorem execHandover_keeps {m0 : Sys2Proof.MirrorMsg} {now : ℕ} {s : State} {t : State}
    (ht : execHandover m0 now s = .next t) : Keeps 1588269685141 s.dev t.dev := by
  have hm : covers 1588269685141 1588269685141 := rfl
  refine act_keeps (fun d hd => ?_) ht
  (try dsimp only)
  repeat' first
    | with_reducible assumption
    | (with_reducible refine covers_tr hm ?_; decide)
    | with_reducible apply receive_keeps
    | with_reducible apply sequenced_keeps
    | with_reducible apply atTime_keeps
    | intro _
    | split

theorem sendHello_keeps (hm : covers 275079233541 m) {d : Dev} (h_d : Keeps m d0 d) :
    Keeps m d0 (sendHello d) := by
  unfold sendHello
  (try dsimp only)
  repeat' first
    | with_reducible assumption
    | (with_reducible refine covers_tr hm ?_; decide)
    | with_reducible apply sendMirror_keeps
    | intro _
    | split

theorem pairShare_keeps (hm : covers 275082379653 m) {chainOk : Bool} {sigOk : Bool} {locked : Bool} {node : ℕ} {epoch : ℕ} {pin : ℕ} {d : Dev} (h_d : Keeps m d0 d) :
    Keeps m d0 (pairShare chainOk sigOk locked node epoch pin d) := by
  unfold pairShare
  (try dsimp only)
  repeat' first
    | with_reducible assumption
    | (with_reducible refine covers_tr hm ?_; decide)
    | with_reducible apply secEvent_keeps
    | with_reducible apply refusePair_keeps
    | with_reducible apply objSet_keeps
    | with_reducible apply sendHello_keeps
    | with_reducible apply clearLast_keeps
    | with_reducible apply setPair_keeps
    | (with_reducible refine Or.inr ?_; with_reducible rfl)
    | (with_reducible refine Or.inl ?_; first | with_reducible rfl | decide | omega)
    | intro _
    | split

theorem execPairShareResponse_keeps {chainOk : Bool} {sigOk : Bool} {locked : Bool} {node : ℕ} {epoch : ℕ} {pin : ℕ} {now : ℕ} {s : State} {t : State}
    (ht : execPairShareResponse chainOk sigOk locked node epoch pin now s = .next t) : Keeps 275086573957 s.dev t.dev := by
  have hm : covers 275086573957 275086573957 := rfl
  refine act_keeps (fun d hd => ?_) ht
  (try dsimp only)
  repeat' first
    | with_reducible assumption
    | (with_reducible refine covers_tr hm ?_; decide)
    | with_reducible apply pairShare_keeps
    | with_reducible apply atTime_keeps
    | intro _
    | split

theorem execHandoverOffer_keeps {m0 : Sys2Proof.MirrorMsg} {now : ℕ} {s : State} {t : State}
    (ht : execHandoverOffer m0 now s = .next t) : Keeps 1374595055621 s.dev t.dev := by
  have hm : covers 1374595055621 1374595055621 := rfl
  refine act_keeps (fun d hd => ?_) ht
  (try dsimp only)
  repeat' first
    | with_reducible assumption
    | (with_reducible refine covers_tr hm ?_; decide)
    | with_reducible apply receive_keeps
    | with_reducible apply offerReceived_keeps
    | with_reducible apply atTime_keeps
    | intro _
    | split

theorem mirrorExpiry_keeps (hm : covers 134217728 m) {s : ℕ} {d : Dev} (h_d : Keeps m d0 d) :
    Keeps m d0 (mirrorExpiry s d) := by
  unfold mirrorExpiry
  (try dsimp only)
  repeat' first
    | with_reducible assumption
    | (with_reducible refine covers_tr hm ?_; decide)
    | with_reducible apply setSess_keeps
    | intro _
    | split

theorem execHello_keeps {m0 : Sys2Proof.MirrorMsg} {now : ℕ} {s : State} {t : State}
    (ht : execHello m0 now s = .next t) : Keeps 275351863493 s.dev t.dev := by
  have hm : covers 275351863493 275351863493 := rfl
  refine act_keeps (fun d hd => ?_) ht
  (try dsimp only)
  repeat' first
    | with_reducible assumption
    | (with_reducible refine covers_tr hm ?_; decide)
    | with_reducible apply receive_keeps
    | with_reducible apply helloAccepted_keeps
    | with_reducible apply atTime_keeps
    | intro _
    | split

theorem execSessionState_keeps {m0 : Sys2Proof.MirrorMsg} {now : ℕ} {s : State} {t : State}
    (ht : execSessionState m0 now s = .next t) : Keeps 1648399227285 s.dev t.dev := by
  have hm : covers 1648399227285 1648399227285 := rfl
  refine act_keeps (fun d hd => ?_) ht
  (try dsimp only)
  repeat' first
    | with_reducible assumption
    | (with_reducible refine covers_tr hm ?_; decide)
    | with_reducible apply earlyStart_keeps
    | with_reducible apply receive_keeps
    | with_reducible apply sequenced_keeps
    | with_reducible apply atTime_keeps
    | intro _
    | split

theorem liningAnswered_keeps (hm : covers 1004421912861 m) {m0 : Sys2Proof.MirrorMsg} {d : Dev} (h_d : Keeps m d0 d) :
    Keeps m d0 (liningAnswered m0 d) := by
  unfold liningAnswered
  (try dsimp only)
  repeat' first
    | with_reducible assumption
    | (with_reducible refine covers_tr hm ?_; decide)
    | with_reducible apply openLink_keeps
    | with_reducible apply armAccept_keeps
    | with_reducible apply armRefuse_keeps
    | with_reducible apply setSess_keeps
    | intro _
    | split

theorem execLiningAnswer_keeps {m0 : Sys2Proof.MirrorMsg} {now : ℕ} {s : State} {t : State}
    (ht : execLiningAnswer m0 now s = .next t) : Keeps 1004426107165 s.dev t.dev := by
  have hm : covers 1004426107165 1004426107165 := rfl
  refine act_keeps (fun d hd => ?_) ht
  (try dsimp only)
  repeat' first
    | with_reducible assumption
    | (with_reducible refine covers_tr hm ?_; decide)
    | with_reducible apply receive_keeps
    | with_reducible apply liningAnswered_keeps
    | with_reducible apply atTime_keeps
    | intro _
    | split

theorem execHandshakeTimeout_keeps {now : ℕ} {s : State} {t : State}
    (ht : execHandshakeTimeout now s = .next t) : Keeps 71303300 s.dev t.dev := by
  have hm : covers 71303300 71303300 := rfl
  refine act_keeps (fun d hd => ?_) ht
  (try dsimp only)
  repeat' first
    | with_reducible assumption
    | (with_reducible refine covers_tr hm ?_; decide)
    | with_reducible apply handshakeTimeout_keeps
    | with_reducible apply atTime_keeps
    | intro _
    | split

theorem execLiningRequestRetry_keeps {slot : ℕ} {now : ℕ} {s : State} {t : State}
    (ht : execLiningRequestRetry slot now s = .next t) : Keeps 275083427845 s.dev t.dev := by
  have hm : covers 275083427845 275083427845 := rfl
  refine actOn_keeps (fun d hd => ?_) ht
  (try dsimp only)
  repeat' first
    | with_reducible assumption
    | (with_reducible refine covers_tr hm ?_; decide)
    | with_reducible apply liningRetry_keeps
    | with_reducible apply atTime_keeps
    | intro _
    | split

theorem execHandOverSession_keeps {q : Sys2Proof.Req} {value : ℕ} {s : State} {t : State}
    (ht : execHandOverSession q value s = .next t) : Keeps 275354353941 s.dev t.dev := by
  have hm : covers 275354353941 275354353941 := rfl
  refine act_keeps (fun d hd => ?_) ht
  (try dsimp only)
  repeat' first
    | with_reducible assumption
    | (with_reducible refine covers_tr hm ?_; decide)
    | with_reducible apply handOver_keeps
    | intro _
    | split

theorem heartbeatAccepted_keeps (hm : covers 335544516 m) {m0 : Sys2Proof.MirrorMsg} {d : Dev} (h_d : Keeps m d0 d) :
    Keeps m d0 (heartbeatAccepted m0 d) := by
  unfold heartbeatAccepted
  (try dsimp only)
  repeat' first
    | with_reducible assumption
    | (with_reducible refine covers_tr hm ?_; decide)
    | with_reducible apply objMax_keeps
    | with_reducible apply setPair_keeps
    | with_reducible apply enterPair_keeps
    | with_reducible apply enterHandshake_keeps
    | (show _ ≤ 5; decide)
    | (with_reducible refine Or.inr ?_; with_reducible rfl)
    | (with_reducible refine Or.inl ?_; first | with_reducible rfl | decide | omega)
    | intro _
    | split

theorem execHeartbeat_keeps {m0 : Sys2Proof.MirrorMsg} {now : ℕ} {s : State} {t : State}
    (ht : execHeartbeat m0 now s = .next t) : Keeps 339738820 s.dev t.dev := by
  have hm : covers 339738820 339738820 := rfl
  refine act_keeps (fun d hd => ?_) ht
  (try dsimp only)
  repeat' first
    | with_reducible assumption
    | (with_reducible refine covers_tr hm ?_; decide)
    | with_reducible apply receive_keeps
    | with_reducible apply heartbeatAccepted_keeps
    | with_reducible apply atTime_keeps
    | intro _
    | split

theorem promoteWrite_keeps (hm : covers 1588541659541 m) {q : Sys2Proof.Req} {value : ℕ} {a : Dev} (h_a : Keeps m d0 a) :
    Keeps m d0 (promoteWrite q value a) := by
  unfold promoteWrite
  (try dsimp only)
  repeat' first
    | with_reducible assumption
    | (with_reducible refine covers_tr hm ?_; decide)
    | with_reducible apply perform_keeps
    | with_reducible apply lossPass_keeps
    | intro _
    | split

theorem execHandoverQueueLimit_keeps {now : ℕ} {s : State} {t : State}
    (ht : execHandoverQueueLimit now s = .next t) : Keeps 1004426107293 s.dev t.dev := by
  have hm : covers 1004426107293 1004426107293 := rfl
  refine act_keeps (fun d hd => ?_) ht
  (try dsimp only)
  repeat' first
    | with_reducible assumption
    | (with_reducible refine covers_tr hm ?_; decide)
    | with_reducible apply handoverDue_keeps
    | with_reducible apply atTime_keeps
    | intro _
    | split

theorem execMirrorStoreExpiry_keeps {slot : ℕ} {now : ℕ} {s : State} {t : State}
    (ht : execMirrorStoreExpiry slot now s = .next t) : Keeps 138412032 s.dev t.dev := by
  have hm : covers 138412032 138412032 := rfl
  refine actOn_keeps (fun d hd => ?_) ht
  (try dsimp only)
  repeat' first
    | with_reducible assumption
    | (with_reducible refine covers_tr hm ?_; decide)
    | with_reducible apply mirrorExpiry_keeps
    | with_reducible apply atTime_keeps
    | intro _
    | split

theorem execPromoteLinings_keeps {q : Sys2Proof.Req} {value : ℕ} {s : State} {t : State}
    (ht : execPromoteLinings q value s = .next t) : Keeps 1588541659541 s.dev t.dev := by
  have hm : covers 1588541659541 1588541659541 := rfl
  refine act_keeps (fun d hd => ?_) ht
  (try dsimp only)
  repeat' first
    | with_reducible assumption
    | (with_reducible refine covers_tr hm ?_; decide)
    | with_reducible apply promoteWrite_keeps
    | intro _
    | split

theorem probeAnswer_keeps (hm : covers 3831046216085 m) {status : ℕ} {d : Dev} (h_d : Keeps m d0 d) :
    Keeps m d0 (probeAnswer status d) := by
  unfold probeAnswer
  (try dsimp only)
  repeat' first
    | with_reducible assumption
    | (with_reducible refine covers_tr hm ?_; decide)
    | with_reducible apply partnerLost_keeps
    | with_reducible apply setPair_keeps
    | with_reducible apply enterPair_keeps
    | (show _ ≤ 5; decide)
    | (with_reducible refine Or.inr ?_; with_reducible rfl)
    | (with_reducible refine Or.inl ?_; first | with_reducible rfl | decide | omega)
    | intro _
    | split

theorem execLiningState_keeps {m0 : Sys2Proof.MirrorMsg} {now : ℕ} {s : State} {t : State}
    (ht : execLiningState m0 now s = .next t) : Keeps 3776018651573 s.dev t.dev := by
  have hm : covers 3776018651573 3776018651573 := rfl
  refine act_keeps (fun d hd => ?_) ht
  (try dsimp only)
  repeat' first
    | with_reducible assumption
    | (with_reducible refine covers_tr hm ?_; decide)
    | with_reducible apply receive_keeps
    | with_reducible apply liningTold_keeps
    | with_reducible apply atTime_keeps
    | intro _
    | split

theorem execBand_keeps {m0 : Sys2Proof.MirrorMsg} {now : ℕ} {s : State} {t : State}
    (ht : execBand m0 now s = .next t) : Keeps 1648399227285 s.dev t.dev := by
  have hm : covers 1648399227285 1648399227285 := rfl
  refine act_keeps (fun d hd => ?_) ht
  (try dsimp only)
  repeat' first
    | with_reducible assumption
    | (with_reducible refine covers_tr hm ?_; decide)
    | with_reducible apply earlyStart_keeps
    | with_reducible apply receive_keeps
    | with_reducible apply sequenced_keeps
    | with_reducible apply atTime_keeps
    | intro _
    | split

theorem execPairEnable_keeps {q : Sys2Proof.Req} {value : ℕ} {s : State} {t : State}
    (ht : execPairEnable q value s = .next t) : Keeps 276168989 s.dev t.dev := by
  have hm : covers 276168989 276168989 := rfl
  refine act_keeps (fun d hd => ?_) ht
  (try dsimp only)
  repeat' first
    | with_reducible assumption
    | (with_reducible refine covers_tr hm ?_; decide)
    | with_reducible apply pairEnableWrite_keeps
    | intro _
    | split

theorem execProbeAnswer_keeps {status : ℕ} {now : ℕ} {s : State} {t : State}
    (ht : execProbeAnswer status now s = .next t) : Keeps 3831050410389 s.dev t.dev := by
  have hm : covers 3831050410389 3831050410389 := rfl
  refine act_keeps (fun d hd => ?_) ht
  (try dsimp only)
  repeat' first
    | with_reducible assumption
    | (with_reducible refine covers_tr hm ?_; decide)
    | with_reducible apply probeAnswer_keeps
    | with_reducible apply atTime_keeps
    | intro _
    | split

theorem execMirrorNack_keeps {m0 : Sys2Proof.MirrorMsg} {now : ℕ} {s : State} {t : State}
    (ht : execMirrorNack m0 now s = .next t) : Keeps 275083427845 s.dev t.dev := by
  have hm : covers 275083427845 275083427845 := rfl
  refine act_keeps (fun d hd => ?_) ht
  (try dsimp only)
  repeat' first
    | with_reducible assumption
    | (with_reducible refine covers_tr hm ?_; decide)
    | with_reducible apply receive_keeps
    | with_reducible apply mirrorNacked_keeps
    | with_reducible apply atTime_keeps
    | intro _
    | split

theorem execSessionOpen_keeps {m0 : Sys2Proof.MirrorMsg} {now : ℕ} {s : State} {t : State}
    (ht : execSessionOpen m0 now s = .next t) : Keeps 1648399227285 s.dev t.dev := by
  have hm : covers 1648399227285 1648399227285 := rfl
  refine act_keeps (fun d hd => ?_) ht
  (try dsimp only)
  repeat' first
    | with_reducible assumption
    | (with_reducible refine covers_tr hm ?_; decide)
    | with_reducible apply earlyStart_keeps
    | with_reducible apply receive_keeps
    | with_reducible apply sequenced_keeps
    | with_reducible apply atTime_keeps
    | intro _
    | split

theorem execHandoverAnswer_keeps {m0 : Sys2Proof.MirrorMsg} {now : ℕ} {s : State} {t : State}
    (ht : execHandoverAnswer m0 now s = .next t) : Keeps 4312087796125 s.dev t.dev := by
  have hm : covers 4312087796125 4312087796125 := rfl
  refine act_keeps (fun d hd => ?_) ht
  (try dsimp only)
  repeat' first
    | with_reducible assumption
    | (with_reducible refine covers_tr hm ?_; decide)
    | with_reducible apply receive_keeps
    | with_reducible apply offerAnswered_keeps
    | with_reducible apply atTime_keeps
    | intro _
    | split

/-! ## Capture -/

theorem registerAct_keeps (hm : covers 550829562132 m) {t : ℕ} {v : Sys2Proof.Payload} {d : Dev} (h_d : Keeps m d0 d) :
    Keeps m d0 (registerAct t v d) := by
  unfold registerAct
  (try dsimp only)
  repeat' first
    | with_reducible assumption
    | (with_reducible refine covers_tr hm ?_; decide)
    | with_reducible apply libState_keeps
    | with_reducible apply toLibrary_keeps
    | intro _
    | split

theorem deleteAct_keeps (hm : covers 552977045780 m) {t : ℕ} {v : Sys2Proof.Payload} {d : Dev} (h_d : Keeps m d0 d) :
    Keeps m d0 (deleteAct t v d) := by
  unfold deleteAct
  (try dsimp only)
  repeat' first
    | with_reducible assumption
    | (with_reducible refine covers_tr hm ?_; decide)
    | with_reducible apply libState_keeps
    | with_reducible apply releaseUse_keeps
    | intro _
    | split

theorem exportAct_keeps (hm : covers 824767944981 m) {t : ℕ} {v : Sys2Proof.Payload} {d : Dev} (h_d : Keeps m d0 d) :
    Keeps m d0 (exportAct t v d) := by
  unfold exportAct
  (try dsimp only)
  repeat' first
    | with_reducible assumption
    | (with_reducible refine covers_tr hm ?_; decide)
    | with_reducible apply exportPump_keeps
    | with_reducible apply libState_keeps
    | with_reducible apply countExport_keeps
    | intro _
    | split

theorem libraryAct_keeps (hm : covers 827989170453 m) {t : ℕ} {v : Sys2Proof.Payload} {d : Dev} (h_d : Keeps m d0 d) :
    Keeps m d0 (libraryAct t v d) := by
  unfold libraryAct
  (try dsimp only)
  repeat' first
    | with_reducible assumption
    | (with_reducible refine covers_tr hm ?_; decide)
    | with_reducible apply registerAct_keeps
    | with_reducible apply deleteAct_keeps
    | with_reducible apply exportAct_keeps
    | intro _
    | split

theorem libraryCommand_keeps (hm : covers 828265339157 m) {q : Sys2Proof.Req} {t : ℕ} {v : Sys2Proof.Payload} {d : Dev} (h_d : Keeps m d0 d) :
    Keeps m d0 (libraryCommand q t v d) := by
  unfold libraryCommand
  (try dsimp only)
  repeat' first
    | with_reducible assumption
    | (with_reducible refine covers_tr hm ?_; decide)
    | with_reducible apply decideWrite_keeps
    | with_reducible apply refuse_keeps
    | with_reducible apply handleRefused_keeps
    | with_reducible apply accept_keeps
    | with_reducible apply libraryAct_keeps
    | intro _
    | split

theorem execRegisterSegment_keeps {q : Sys2Proof.Req} {tenant : ℕ} {v : Sys2Proof.Payload} {s : State} {t : State}
    (ht : execRegisterSegment q tenant v s = .next t) : Keeps 828265339157 s.dev t.dev := by
  have hm : covers 828265339157 828265339157 := rfl
  refine actOn_keeps (fun d hd => ?_) ht
  (try dsimp only)
  repeat' first
    | with_reducible assumption
    | (with_reducible refine covers_tr hm ?_; decide)
    | with_reducible apply libraryCommand_keeps
    | intro _
    | split

theorem freezeAct_keeps (hm : covers 550963779860 m) {s : ℕ} {v : Sys2Proof.Payload} {d : Dev} (h_d : Keeps m d0 d) :
    Keeps m d0 (freezeAct s v d) := by
  unfold freezeAct
  (try dsimp only)
  repeat' first
    | with_reducible assumption
    | (with_reducible refine covers_tr hm ?_; decide)
    | with_reducible apply allocAll_keeps
    | with_reducible apply setSess_keeps
    | with_reducible apply libState_keeps
    | with_reducible apply allocAll_keeps
    | with_reducible apply OKeeps.getD
    | with_reducible apply OKeeps.getD
    | intro _
    | split

theorem freezeWrite_keeps (hm : covers 551239948565 m) {q : Sys2Proof.Req} {slot : ℕ} {v : Sys2Proof.Payload} {a : Dev} (h_a : Keeps m d0 a) :
    Keeps m d0 (freezeWrite q slot v a) := by
  unfold freezeWrite
  (try dsimp only)
  repeat' first
    | with_reducible assumption
    | (with_reducible refine covers_tr hm ?_; decide)
    | with_reducible apply perform_keeps
    | with_reducible apply freezeAct_keeps
    | intro _
    | split

theorem execFreezeRequest_keeps {q : Sys2Proof.Req} {slot : ℕ} {v : Sys2Proof.Payload} {s : State} {t : State}
    (ht : execFreezeRequest q slot v s = .next t) : Keeps 551239948565 s.dev t.dev := by
  have hm : covers 551239948565 551239948565 := rfl
  refine actOn_keeps (fun d hd => ?_) ht
  (try dsimp only)
  repeat' first
    | with_reducible assumption
    | (with_reducible refine covers_tr hm ?_; decide)
    | with_reducible apply freezeWrite_keeps
    | intro _
    | split

theorem startBands_keeps (hm : covers 313733945621 m) {s : ℕ} {n : ℕ} {k : ℕ} {es : List CapEntry} {intra : Bool} {d : Dev} (h_d : Keeps m d0 d) :
    Keeps m d0 (startBands s n k es intra d) := by
  unfold startBands
  (try dsimp only)
  repeat' first
    | with_reducible assumption
    | (with_reducible refine covers_tr hm ?_; decide)
    | with_reducible apply setStream_keeps
    | with_reducible apply objSet_keeps
    | with_reducible apply setSess_keeps
    | with_reducible apply spectatorAt_keeps
    | with_reducible apply afterCollect_keeps
    | with_reducible apply forEach_keeps
    | intro _
    | split

theorem startFed_keeps (hm : covers 313733945621 m) {s : ℕ} {n : ℕ} {es : List CapEntry} {d : Dev} (h_d : Keeps m d0 d) :
    Keeps m d0 (startFed s n es d) := by
  unfold startFed
  (try dsimp only)
  repeat' first
    | with_reducible assumption
    | (with_reducible refine covers_tr hm ?_; decide)
    | with_reducible apply startBands_keeps
    | with_reducible apply setSess_keeps
    | intro _
    | split

theorem showReturn_keeps (hm : covers 134217728 m) {s : ℕ} {d : Dev} (h_d : Keeps m d0 d) :
    Keeps m d0 (showReturn s d) := by
  unfold showReturn
  (try dsimp only)
  repeat' first
    | with_reducible assumption
    | (with_reducible refine covers_tr hm ?_; decide)
    | with_reducible apply setSess_keeps
    | intro _
    | split

theorem spliceAct_keeps (hm : covers 134217728 m) {s : ℕ} {v : ℕ} {d : Dev} (h_d : Keeps m d0 d) :
    Keeps m d0 (spliceAct s v d) := by
  unfold spliceAct
  (try dsimp only)
  repeat' first
    | with_reducible assumption
    | (with_reducible refine covers_tr hm ?_; decide)
    | with_reducible apply setSess_keeps
    | intro _
    | split

theorem startPlayed_keeps (hm : covers 313733945621 m) {s : ℕ} {n : ℕ} {e : ℕ} {k : ℕ} {d : Dev} (h_d : Keeps m d0 d) :
    Keeps m d0 (startPlayed s n e k d) := by
  unfold startPlayed
  (try dsimp only)
  repeat' first
    | with_reducible assumption
    | (with_reducible refine covers_tr hm ?_; decide)
    | with_reducible apply startBands_keeps
    | intro _
    | split

theorem playNext_keeps (hm : covers 313733945621 m) {s : ℕ} {n : ℕ} {d : Dev} (h_d : Keeps m d0 d) :
    Keeps m d0 (playNext s n d) := by
  unfold playNext
  (try dsimp only)
  repeat' first
    | with_reducible assumption
    | (with_reducible refine covers_tr hm ?_; decide)
    | with_reducible apply startFed_keeps
    | with_reducible apply startPlayed_keeps
    | with_reducible apply segmentOver_keeps
    | intro _
    | split

theorem spliceReturnAct_keeps (hm : covers 134217728 m) {s : ℕ} {d : Dev} (h_d : Keeps m d0 d) :
    Keeps m d0 (spliceReturnAct s d) := by
  unfold spliceReturnAct
  (try dsimp only)
  repeat' first
    | with_reducible assumption
    | (with_reducible refine covers_tr hm ?_; decide)
    | with_reducible apply setSess_keeps
    | intro _
    | split

theorem segmentVerified_keeps (hm : covers 549755820308 m) {t : ℕ} {e : ℕ} {bands : List Sys2Proof.SegBand} {d : Dev} (h_d : Keeps m d0 d) :
    Keeps m d0 (segmentVerified t e bands d) := by
  unfold segmentVerified
  (try dsimp only)
  repeat' first
    | with_reducible assumption
    | (with_reducible refine covers_tr hm ?_; decide)
    | with_reducible apply libState_keeps
    | intro _
    | split

theorem spliceReturnWrite_keeps (hm : covers 410386709 m) {q : Sys2Proof.Req} {slot : ℕ} {value : ℕ} {a : Dev} (h_a : Keeps m d0 a) :
    Keeps m d0 (spliceReturnWrite q slot value a) := by
  unfold spliceReturnWrite
  (try dsimp only)
  repeat' first
    | with_reducible assumption
    | (with_reducible refine covers_tr hm ?_; decide)
    | with_reducible apply perform_keeps
    | with_reducible apply spliceReturnAct_keeps
    | intro _
    | split

theorem execSpliceReturn_keeps {q : Sys2Proof.Req} {slot : ℕ} {value : ℕ} {s : State} {t : State}
    (ht : execSpliceReturn q slot value s = .next t) : Keeps 410386709 s.dev t.dev := by
  have hm : covers 410386709 410386709 := rfl
  refine actOn_keeps (fun d hd => ?_) ht
  (try dsimp only)
  repeat' first
    | with_reducible assumption
    | (with_reducible refine covers_tr hm ?_; decide)
    | with_reducible apply spliceReturnWrite_keeps
    | intro _
    | split

theorem execSegmentVerified_keeps {tenant : ℕ} {entry : ℕ} {bands : List Sys2Proof.SegBand} {now : ℕ} {s : State} {t : State}
    (ht : execSegmentVerified tenant entry bands now s = .next t) : Keeps 549760014612 s.dev t.dev := by
  have hm : covers 549760014612 549760014612 := rfl
  refine actOn_keeps (fun d hd => ?_) ht
  (try dsimp only)
  repeat' first
    | with_reducible assumption
    | (with_reducible refine covers_tr hm ?_; decide)
    | with_reducible apply segmentVerified_keeps
    | with_reducible apply atTime_keeps
    | intro _
    | split

theorem spliceWrite_keeps (hm : covers 410386709 m) {q : Sys2Proof.Req} {slot : ℕ} {value : ℕ} {a : Dev} (h_a : Keeps m d0 a) :
    Keeps m d0 (spliceWrite q slot value a) := by
  unfold spliceWrite
  (try dsimp only)
  repeat' first
    | with_reducible assumption
    | (with_reducible refine covers_tr hm ?_; decide)
    | with_reducible apply perform_keeps
    | with_reducible apply spliceAct_keeps
    | intro _
    | split

theorem execSpliceRequest_keeps {q : Sys2Proof.Req} {slot : ℕ} {value : ℕ} {s : State} {t : State}
    (ht : execSpliceRequest q slot value s = .next t) : Keeps 410386709 s.dev t.dev := by
  have hm : covers 410386709 410386709 := rfl
  refine actOn_keeps (fun d hd => ?_) ht
  (try dsimp only)
  repeat' first
    | with_reducible assumption
    | (with_reducible refine covers_tr hm ?_; decide)
    | with_reducible apply spliceWrite_keeps
    | intro _
    | split

theorem beginSplice_keeps (hm : covers 38788929813 m) {s : ℕ} {v : ℕ} {d : Dev} (h_d : Keeps m d0 d) :
    Keeps m d0 (beginSplice s v d) := by
  unfold beginSplice
  (try dsimp only)
  repeat' first
    | with_reducible assumption
    | (with_reducible refine covers_tr hm ?_; decide)
    | with_reducible apply dropUnstarted_keeps
    | with_reducible apply settle_keeps
    | with_reducible apply objCount_keeps
    | with_reducible apply setSess_keeps
    | intro _
    | split

theorem playBoundary_keeps (hm : covers 313733945621 m) {s : ℕ} {n : ℕ} {d02 : Dev} (h_d02 : Keeps m d0 d02) :
    Keeps m d0 (playBoundary s n d02) := by
  unfold playBoundary
  (try dsimp only)
  repeat' first
    | with_reducible assumption
    | (with_reducible refine covers_tr hm ?_; decide)
    | with_reducible apply showReturn_keeps
    | with_reducible apply pauseNow_keeps
    | with_reducible apply endSplice_keeps
    | with_reducible apply beginSplice_keeps
    | with_reducible apply settle_keeps
    | with_reducible apply playNext_keeps
    | intro _
    | split

theorem execExportToEthernet_keeps {q : Sys2Proof.Req} {tenant : ℕ} {v : Sys2Proof.Payload} {s : State} {t : State}
    (ht : execExportToEthernet q tenant v s = .next t) : Keeps 828265339157 s.dev t.dev := by
  have hm : covers 828265339157 828265339157 := rfl
  refine actOn_keeps (fun d hd => ?_) ht
  (try dsimp only)
  repeat' first
    | with_reducible assumption
    | (with_reducible refine covers_tr hm ?_; decide)
    | with_reducible apply libraryCommand_keeps
    | intro _
    | split

theorem execDelete_keeps {q : Sys2Proof.Req} {tenant : ℕ} {v : Sys2Proof.Payload} {s : State} {t : State}
    (ht : execDelete q tenant v s = .next t) : Keeps 828265339157 s.dev t.dev := by
  have hm : covers 828265339157 828265339157 := rfl
  refine actOn_keeps (fun d hd => ?_) ht
  (try dsimp only)
  repeat' first
    | with_reducible assumption
    | (with_reducible refine covers_tr hm ?_; decide)
    | with_reducible apply libraryCommand_keeps
    | intro _
    | split

/-! ## Aperture -/

theorem apertureWrite_keeps (hm : covers 134217732 m) {t : ℕ} {off : ℕ} {tee : Bool} {en : List Bool} {v : ℕ} {d : Dev} (h_d : Keeps m d0 d) :
    Keeps m d0 (apertureWrite t off tee en v d) := by
  unfold apertureWrite
  (try dsimp only)
  repeat' first
    | with_reducible assumption
    | (with_reducible refine covers_tr hm ?_; decide)
    | with_reducible apply hostGate_keeps
    | with_reducible apply writeUnits_keeps
    | intro _
    | split

theorem flagClear_keeps (hm : covers 134217728 m) {s : ℕ} {mask : ℕ} {d : Dev} (h_d : Keeps m d0 d) :
    Keeps m d0 (flagClear s mask d) := by
  unfold flagClear
  (try dsimp only)
  repeat' first
    | with_reducible assumption
    | (with_reducible refine covers_tr hm ?_; decide)
    | with_reducible apply setSess_keeps
    | intro _
    | split

theorem execApertureWrite_keeps {tenant : ℕ} {offset : ℕ} {tee : Bool} {enabled : List Bool} {data : ℕ} {now : ℕ} {s : State} {t : State}
    (ht : execApertureWrite tenant offset tee enabled data now s = .next t) : Keeps 138412036 s.dev t.dev := by
  have hm : covers 138412036 138412036 := rfl
  refine actOn_keeps (fun d hd => ?_) ht
  (try dsimp only)
  repeat' first
    | with_reducible assumption
    | (with_reducible refine covers_tr hm ?_; decide)
    | with_reducible apply apertureWrite_keeps
    | with_reducible apply atTime_keeps
    | intro _
    | split

theorem execWatermarkFlagClear_keeps {who : Sys2Proof.Caller} {slot : ℕ} {mask : ℕ} {s : State} {t : State}
    (ht : execWatermarkFlagClear who slot mask s = .next t) : Keeps 134217733 s.dev t.dev := by
  have hm : covers 134217733 134217733 := rfl
  refine actOn_keeps (fun d hd => ?_) ht
  (try dsimp only)
  repeat' first
    | with_reducible assumption
    | (with_reducible refine covers_tr hm ?_; decide)
    | with_reducible apply regGate_keeps
    | with_reducible apply flagClear_keeps
    | intro _
    | split

theorem execApertureRead_keeps {tenant : ℕ} {offset : ℕ} {tee : Bool} {now : ℕ} {s : State} {t : State}
    (ht : execApertureRead tenant offset tee now s = .next t) : Keeps 4194324 s.dev t.dev := by
  have hm : covers 4194324 4194324 := rfl
  refine actOn_keeps (fun d hd => ?_) ht
  (try dsimp only)
  repeat' first
    | with_reducible assumption
    | (with_reducible refine covers_tr hm ?_; decide)
    | with_reducible apply hostGate_keeps
    | with_reducible apply emit_keeps
    | with_reducible apply objCount_keeps
    | with_reducible apply atTime_keeps
    | intro _
    | split

theorem execBandSubstitution_keeps {slot : ℕ} {now : ℕ} {s : State} {t : State}
    (ht : execBandSubstitution slot now s = .next t) : Keeps 38793124117 s.dev t.dev := by
  have hm : covers 38793124117 38793124117 := rfl
  refine actOn_keeps (fun d hd => ?_) ht
  (try dsimp only)
  repeat' first
    | with_reducible assumption
    | (with_reducible refine covers_tr hm ?_; decide)
    | with_reducible apply atTime_keeps
    | with_reducible apply substitute_keeps
    | intro _
    | split

theorem assertClear_keeps (hm : covers 1 m) {mask : ℕ} {d : Dev} (h_d : Keeps m d0 d) :
    Keeps m d0 (assertClear mask d) := by
  unfold assertClear
  (try dsimp only)
  repeat' first
    | with_reducible assumption
    | (with_reducible refine covers_tr hm ?_; decide)
    | with_reducible apply regSet_keeps
    | intro _
    | split

theorem frameCredit_keeps (hm : covers 134217728 m) {s : ℕ} {d : Dev} (h_d : Keeps m d0 d) :
    Keeps m d0 (frameCredit s d) := by
  unfold frameCredit
  (try dsimp only)
  repeat' first
    | with_reducible assumption
    | (with_reducible refine covers_tr hm ?_; decide)
    | with_reducible apply giveCredit_keeps
    | intro _
    | split

theorem execFrameCredit_keeps {slot : ℕ} {s : State} {t : State}
    (ht : execFrameCredit slot s = .next t) : Keeps 134217728 s.dev t.dev := by
  have hm : covers 134217728 134217728 := rfl
  refine actOn_keeps (fun d hd => ?_) ht
  (try dsimp only)
  repeat' first
    | with_reducible assumption
    | (with_reducible refine covers_tr hm ?_; decide)
    | with_reducible apply frameCredit_keeps
    | intro _
    | split

theorem execHoldAssertClear_keeps {who : Sys2Proof.Caller} {mask : ℕ} {s : State} {t : State}
    (ht : execHoldAssertClear who mask s = .next t) : Keeps 5 s.dev t.dev := by
  have hm : covers 5 5 := rfl
  refine act_keeps (fun d hd => ?_) ht
  (try dsimp only)
  repeat' first
    | with_reducible assumption
    | (with_reducible refine covers_tr hm ?_; decide)
    | with_reducible apply regGate_keeps
    | with_reducible apply assertClear_keeps
    | intro _
    | split

theorem bandDoorbell_keeps (hm : covers 342724974869 m) {t : ℕ} {w : ℕ} {d : Dev} (h_d : Keeps m d0 d) :
    Keeps m d0 (bandDoorbell t w d) := by
  unfold bandDoorbell
  (try dsimp only)
  repeat' first
    | with_reducible assumption
    | (with_reducible refine covers_tr hm ?_; decide)
    | with_reducible apply doorbellReject_keeps
    | with_reducible apply earlyStart_keeps
    | with_reducible apply doorbellAccept_keeps
    | intro _
    | split

theorem execBandDoorbell_keeps {tenant : ℕ} {tee : Bool} {word : ℕ} {now : ℕ} {s : State} {t : State}
    (ht : execBandDoorbell tenant tee word now s = .next t) : Keeps 342729169173 s.dev t.dev := by
  have hm : covers 342729169173 342729169173 := rfl
  refine actOn_keeps (fun d hd => ?_) ht
  (try dsimp only)
  repeat' first
    | with_reducible assumption
    | (with_reducible refine covers_tr hm ?_; decide)
    | with_reducible apply hostGate_keeps
    | with_reducible apply bandDoorbell_keeps
    | with_reducible apply atTime_keeps
    | intro _
    | split

/-! ## EgressRows -/

theorem reportTo_keeps (hm : covers 275012124677 m) {s : ℕ} {e : ℕ} {d : Dev} (h_d : Keeps m d0 d) :
    Keeps m d0 (reportTo s e d) := by
  unfold reportTo
  (try dsimp only)
  repeat' first
    | with_reducible assumption
    | (with_reducible refine covers_tr hm ?_; decide)
    | with_reducible apply enterClass_keeps
    | with_reducible apply setDest_keeps
    | intro _
    | split

theorem senderReport_keeps (hm : covers 275012124677 m) {s : ℕ} {d : Dev} (h_d : Keeps m d0 d) :
    Keeps m d0 (senderReport s d) := by
  unfold senderReport
  (try dsimp only)
  repeat' first
    | with_reducible assumption
    | (with_reducible refine covers_tr hm ?_; decide)
    | with_reducible apply reportTo_keeps
    | with_reducible apply setSess_keeps
    | with_reducible apply forEach_keeps
    | intro _
    | split

theorem execSenderReport_keeps {slot : ℕ} {now : ℕ} {s : State} {t : State}
    (ht : execSenderReport slot now s = .next t) : Keeps 275016318981 s.dev t.dev := by
  have hm : covers 275016318981 275016318981 := rfl
  refine actOn_keeps (fun d hd => ?_) ht
  (try dsimp only)
  repeat' first
    | with_reducible assumption
    | (with_reducible refine covers_tr hm ?_; decide)
    | with_reducible apply senderReport_keeps
    | with_reducible apply atTime_keeps
    | intro _
    | split

theorem trainTimeout_keeps (hm : covers 274877906944 m) {p : ℕ} {d : Dev} (h_d : Keeps m d0 d) :
    Keeps m d0 (trainTimeout p d) := by
  unfold trainTimeout
  (try dsimp only)
  repeat' first
    | with_reducible assumption
    | (with_reducible refine covers_tr hm ?_; decide)
    | with_reducible apply setPort_keeps
    | intro _
    | split

theorem execLinkTrainTimeout_keeps {port : ℕ} {now : ℕ} {s : State} {t : State}
    (ht : execLinkTrainTimeout port now s = .next t) : Keeps 274882101248 s.dev t.dev := by
  have hm : covers 274882101248 274882101248 := rfl
  refine actOn_keeps (fun d hd => ?_) ht
  (try dsimp only)
  repeat' first
    | with_reducible assumption
    | (with_reducible refine covers_tr hm ?_; decide)
    | with_reducible apply trainTimeout_keeps
    | with_reducible apply atTime_keeps
    | intro _
    | split

theorem destWritten_keeps (hm : covers 275012124684 m) {s : ℕ} {e : ℕ} {idx : ℕ} {v : ℕ} {d : Dev} (h_d : Keeps m d0 d) :
    Keeps m d0 (destWritten s e idx v d) := by
  unfold destWritten
  (try dsimp only)
  repeat' first
    | with_reducible assumption
    | (with_reducible refine covers_tr hm ?_; decide)
    | with_reducible apply objSetStitch_keeps
    | with_reducible apply noteChange_keeps
    | with_reducible exact id
    | with_reducible exact rising_put
    | with_reducible exact rising_upd
    | with_reducible exact rising_set
    | with_reducible exact rising_erase
    | with_reducible exact rising_filter
    | with_reducible exact rising_tabFilter
    | with_reducible exact rising_map
    | with_reducible exact rising_to_nil
    | with_reducible exact rising_erase_two
    | simp only [keeps_mk]
    | with_reducible apply Keeps.set_pke
    | intro _
    | split

theorem destAct_keeps (hm : covers 278233350156 m) {s : ℕ} {e : ℕ} {v : ℕ} {d : Dev} (h_d : Keeps m d0 d) :
    Keeps m d0 (destAct s e v d) := by
  unfold destAct
  (try dsimp only)
  repeat' first
    | with_reducible assumption
    | (with_reducible refine covers_tr hm ?_; decide)
    | with_reducible apply allocAll_keeps
    | with_reducible apply releaseUse_keeps
    | with_reducible apply destWritten_keeps
    | with_reducible apply allocAll_keeps
    | with_reducible apply OKeeps.getD
    | with_reducible apply OKeeps.getD
    | intro _
    | split

theorem destWrite_keeps (hm : covers 278509519133 m) {q : Sys2Proof.Req} {slot : ℕ} {dest : ℕ} {v : Sys2Proof.Payload} {a : Dev} (h_a : Keeps m d0 a) :
    Keeps m d0 (destWrite q slot dest v a) := by
  unfold destWrite
  (try dsimp only)
  repeat' first
    | with_reducible assumption
    | (with_reducible refine covers_tr hm ?_; decide)
    | with_reducible apply perform_keeps
    | with_reducible apply destAct_keeps
    | with_reducible apply atTime_keeps
    | intro _
    | split

theorem execDestinationWrite_keeps {q : Sys2Proof.Req} {slot : ℕ} {dest : ℕ} {v : Sys2Proof.Payload} {s : State} {t : State}
    (ht : execDestinationWrite q slot dest v s = .next t) : Keeps 278509519133 s.dev t.dev := by
  have hm : covers 278509519133 278509519133 := rfl
  refine actOn_keeps (fun d hd => ?_) ht
  (try dsimp only)
  repeat' first
    | with_reducible assumption
    | (with_reducible refine covers_tr hm ?_; decide)
    | with_reducible apply destWrite_keeps
    | intro _
    | split

theorem shaperAct_keeps (hm : covers 1207959564 m) {s : ℕ} {e : ℕ} {v : ℕ} {d : Dev} (h_d : Keeps m d0 d) :
    Keeps m d0 (shaperAct s e v d) := by
  unfold shaperAct
  (try dsimp only)
  repeat' first
    | with_reducible assumption
    | (with_reducible refine covers_tr hm ?_; decide)
    | with_reducible apply allocAll_keeps
    | with_reducible apply noteChange_keeps
    | with_reducible apply objSetStitch_keeps
    | with_reducible apply allocAll_keeps
    | with_reducible apply OKeeps.getD
    | with_reducible apply OKeeps.getD
    | intro _
    | split

theorem linkDown_keeps (hm : covers 824767944981 m) {p : ℕ} {value : ℕ} {d : Dev} (h_d : Keeps m d0 d) :
    Keeps m d0 (linkDown p value d) := by
  unfold linkDown
  (try dsimp only)
  repeat' first
    | with_reducible assumption
    | (with_reducible refine covers_tr hm ?_; decide)
    | with_reducible apply setFld_keeps
    | with_reducible apply setPort_keeps
    | with_reducible apply exportPump_keeps
    | with_reducible apply discardQueues_keeps
    | with_reducible apply postEvent_keeps
    | intro _
    | split

theorem etherLink_keeps (hm : covers 824767944981 m) {p : ℕ} {up : Bool} {d : Dev} (h_d : Keeps m d0 d) :
    Keeps m d0 (etherLink p up d) := by
  unfold etherLink
  (try dsimp only)
  repeat' first
    | with_reducible assumption
    | (with_reducible refine covers_tr hm ?_; decide)
    | with_reducible apply postEvent_keeps
    | with_reducible apply setPort_keeps
    | with_reducible apply linkDown_keeps
    | intro _
    | split

theorem execEthernetLinkChange_keeps {port : ℕ} {up : Bool} {now : ℕ} {s : State} {t : State}
    (ht : execEthernetLinkChange port up now s = .next t) : Keeps 824772139285 s.dev t.dev := by
  have hm : covers 824772139285 824772139285 := rfl
  refine actOn_keeps (fun d hd => ?_) ht
  (try dsimp only)
  repeat' first
    | with_reducible assumption
    | (with_reducible refine covers_tr hm ?_; decide)
    | with_reducible apply etherLink_keeps
    | with_reducible apply atTime_keeps
    | intro _
    | split

theorem tagRead_keeps (hm : covers 274877906944 m) {d : Dev} (h_d : Keeps m d0 d) :
    Keeps m d0 (tagRead d) := by
  unfold tagRead
  (try dsimp only)
  repeat' first
    | with_reducible assumption
    | (with_reducible refine covers_tr hm ?_; decide)
    | with_reducible exact id
    | with_reducible exact rising_put
    | with_reducible exact rising_upd
    | with_reducible exact rising_set
    | with_reducible exact rising_erase
    | with_reducible exact rising_filter
    | with_reducible exact rising_tabFilter
    | with_reducible exact rising_map
    | with_reducible exact rising_to_nil
    | with_reducible exact rising_erase_two
    | simp only [keeps_mk]
    | with_reducible apply Keeps.set_pke
    | intro _
    | split

theorem execPtpTsTagRead_keeps {who : Sys2Proof.Caller} {s : State} {t : State}
    (ht : execPtpTsTagRead who s = .next t) : Keeps 274877906948 s.dev t.dev := by
  have hm : covers 274877906948 274877906948 := rfl
  refine act_keeps (fun d hd => ?_) ht
  (try dsimp only)
  repeat' first
    | with_reducible assumption
    | (with_reducible refine covers_tr hm ?_; decide)
    | with_reducible apply hostGate_keeps
    | with_reducible apply tagRead_keeps
    | intro _
    | split

theorem execPkeHwmClr_keeps {who : Sys2Proof.Caller} {s : State} {t : State}
    (ht : execPkeHwmClr who s = .next t) : Keeps 65669 s.dev t.dev := by
  have hm : covers 65669 65669 := rfl
  refine act_keeps (fun d hd => ?_) ht
  (try dsimp only)
  repeat' first
    | with_reducible assumption
    | (with_reducible refine covers_tr hm ?_; decide)
    | with_reducible apply regGate_keeps
    | with_reducible apply mend_keeps
    | with_reducible apply regSet_keeps
    | with_reducible apply forEach_keeps
    | intro _
    | split

theorem shaperWrite_keeps (hm : covers 1484128541 m) {q : Sys2Proof.Req} {slot : ℕ} {dest : ℕ} {v : Sys2Proof.Payload} {a : Dev} (h_a : Keeps m d0 a) :
    Keeps m d0 (shaperWrite q slot dest v a) := by
  unfold shaperWrite
  (try dsimp only)
  repeat' first
    | with_reducible assumption
    | (with_reducible refine covers_tr hm ?_; decide)
    | with_reducible apply perform_keeps
    | with_reducible apply shaperAct_keeps
    | with_reducible apply atTime_keeps
    | intro _
    | split

theorem execShaperWrite_keeps {q : Sys2Proof.Req} {slot : ℕ} {dest : ℕ} {v : Sys2Proof.Payload} {s : State} {t : State}
    (ht : execShaperWrite q slot dest v s = .next t) : Keeps 1484128541 s.dev t.dev := by
  have hm : covers 1484128541 1484128541 := rfl
  refine actOn_keeps (fun d hd => ?_) ht
  (try dsimp only)
  repeat' first
    | with_reducible assumption
    | (with_reducible refine covers_tr hm ?_; decide)
    | with_reducible apply shaperWrite_keeps
    | intro _
    | split

theorem execTsFlush_keeps {who : Sys2Proof.Caller} {s : State} {t : State}
    (ht : execTsFlush who s = .next t) : Keeps 274877972613 s.dev t.dev := by
  have hm : covers 274877972613 274877972613 := rfl
  refine act_keeps (fun d hd => ?_) ht
  (try dsimp only)
  repeat' first
    | with_reducible assumption
    | (with_reducible refine covers_tr hm ?_; decide)
    | with_reducible apply regGate_keeps
    | with_reducible apply mend_keeps
    | with_reducible exact id
    | with_reducible exact rising_put
    | with_reducible exact rising_upd
    | with_reducible exact rising_set
    | with_reducible exact rising_erase
    | with_reducible exact rising_filter
    | with_reducible exact rising_tabFilter
    | with_reducible exact rising_map
    | with_reducible exact rising_to_nil
    | with_reducible exact rising_erase_two
    | simp only [keeps_mk]
    | with_reducible apply Keeps.set_pke
    | intro _
    | split

theorem portModesShown_keeps (hm : covers 824767944981 m) {old : ℕ} {d : Dev} (h_d : Keeps m d0 d) :
    Keeps m d0 (portModesShown old d) := by
  unfold portModesShown
  (try dsimp only)
  repeat' first
    | with_reducible assumption
    | (with_reducible refine covers_tr hm ?_; decide)
    | with_reducible apply linkDown_keeps
    | with_reducible apply setPort_keeps
    | with_reducible apply forEach_keeps
    | intro _
    | split

theorem refreshWrite_keeps (hm : covers 4571136277 m) {q : Sys2Proof.Req} {slot : ℕ} {value : ℕ} {a : Dev} (h_a : Keeps m d0 a) :
    Keeps m d0 (refreshWrite q slot value a) := by
  unfold refreshWrite
  (try dsimp only)
  repeat' first
    | with_reducible assumption
    | (with_reducible refine covers_tr hm ?_; decide)
    | with_reducible apply perform_keeps
    | with_reducible apply triggerCycle_keeps
    | with_reducible apply atTime_keeps
    | intro _
    | split

theorem execRefreshRequest_keeps {q : Sys2Proof.Req} {slot : ℕ} {value : ℕ} {s : State} {t : State}
    (ht : execRefreshRequest q slot value s = .next t) : Keeps 4571136277 s.dev t.dev := by
  have hm : covers 4571136277 4571136277 := rfl
  refine act_keeps (fun d hd => ?_) ht
  (try dsimp only)
  repeat' first
    | with_reducible assumption
    | (with_reducible refine covers_tr hm ?_; decide)
    | with_reducible apply refreshWrite_keeps
    | intro _
    | split

theorem reportDivergence_keeps (hm : covers 6421 m) {i : ℕ} {g : ℕ} {kind : ℕ} {d : Dev} (h_d : Keeps m d0 d) :
    Keeps m d0 (reportDivergence i g kind d) := by
  unfold reportDivergence
  (try dsimp only)
  repeat' first
    | with_reducible assumption
    | (with_reducible refine covers_tr hm ?_; decide)
    | with_reducible apply postEvent_keeps
    | with_reducible apply objSet_keeps
    | with_reducible apply regCount_keeps
    | with_reducible apply objCount_keeps
    | intro _
    | split

theorem comparerCheck_keeps (hm : covers 274877913365 m) {d : Dev} (h_d : Keeps m d0 d) :
    Keeps m d0 (comparerCheck d) := by
  unfold comparerCheck
  (try dsimp only)
  repeat' first
    | with_reducible assumption
    | (with_reducible refine covers_tr hm ?_; decide)
    | with_reducible apply reportDivergence_keeps
    | with_reducible apply regSet_keeps
    | with_reducible exact id
    | with_reducible exact rising_put
    | with_reducible exact rising_upd
    | with_reducible exact rising_set
    | with_reducible exact rising_erase
    | with_reducible exact rising_filter
    | with_reducible exact rising_tabFilter
    | with_reducible exact rising_map
    | with_reducible exact rising_to_nil
    | with_reducible exact rising_erase_two
    | simp only [keeps_mk]
    | with_reducible apply Keeps.set_pke
    | intro _
    | split

theorem learningDecision_keeps (hm : covers 275012131092 m) {d : Dev} (h_d : Keeps m d0 d) :
    Keeps m d0 (learningDecision d) := by
  unfold learningDecision
  (try dsimp only)
  repeat' first
    | with_reducible assumption
    | (with_reducible refine covers_tr hm ?_; decide)
    | with_reducible apply moveReport_keeps
    | with_reducible apply noteChange_keeps
    | with_reducible apply moveDest_keeps
    | with_reducible exact id
    | with_reducible exact rising_put
    | with_reducible exact rising_upd
    | with_reducible exact rising_set
    | with_reducible exact rising_erase
    | with_reducible exact rising_filter
    | with_reducible exact rising_tabFilter
    | with_reducible exact rising_map
    | with_reducible exact rising_to_nil
    | with_reducible exact rising_erase_two
    | simp only [keeps_mk]
    | with_reducible apply Keeps.set_pke
    | intro _
    | split

theorem portModeWrite_keeps (hm : covers 276168989 m) {q : Sys2Proof.Req} {value : ℕ} {a : Dev} (h_a : Keeps m d0 a) :
    Keeps m d0 (portModeWrite q value a) := by
  unfold portModeWrite
  (try dsimp only)
  repeat' first
    | with_reducible assumption
    | (with_reducible refine covers_tr hm ?_; decide)
    | with_reducible apply perform_keeps
    | with_reducible apply objSetStitch_keeps
    | with_reducible apply atTime_keeps
    | intro _
    | split

theorem execPortModeWrite_keeps {q : Sys2Proof.Req} {value : ℕ} {s : State} {t : State}
    (ht : execPortModeWrite q value s = .next t) : Keeps 276168989 s.dev t.dev := by
  have hm : covers 276168989 276168989 := rfl
  refine act_keeps (fun d hd => ?_) ht
  (try dsimp only)
  repeat' first
    | with_reducible assumption
    | (with_reducible refine covers_tr hm ?_; decide)
    | with_reducible apply portModeWrite_keeps
    | intro _
    | split

theorem execLearningDecision_keeps {now : ℕ} {s : State} {t : State}
    (ht : execLearningDecision now s = .next t) : Keeps 275016325396 s.dev t.dev := by
  have hm : covers 275016325396 275016325396 := rfl
  refine act_keeps (fun d hd => ?_) ht
  (try dsimp only)
  repeat' first
    | with_reducible assumption
    | (with_reducible refine covers_tr hm ?_; decide)
    | with_reducible apply learningDecision_keeps
    | with_reducible apply atTime_keeps
    | intro _
    | split

theorem execIgrLapHwmClr_keeps {who : Sys2Proof.Caller} {s : State} {t : State}
    (ht : execIgrLapHwmClr who s = .next t) : Keeps 65669 s.dev t.dev := by
  have hm : covers 65669 65669 := rfl
  refine act_keeps (fun d hd => ?_) ht
  (try dsimp only)
  repeat' first
    | with_reducible assumption
    | (with_reducible refine covers_tr hm ?_; decide)
    | with_reducible apply regGate_keeps
    | with_reducible apply mend_keeps
    | with_reducible apply regSet_keeps
    | intro _
    | split

theorem execComparerCheck_keeps {now : ℕ} {s : State} {t : State}
    (ht : execComparerCheck now s = .next t) : Keeps 274882107669 s.dev t.dev := by
  have hm : covers 274882107669 274882107669 := rfl
  refine act_keeps (fun d hd => ?_) ht
  (try dsimp only)
  repeat' first
    | with_reducible assumption
    | (with_reducible refine covers_tr hm ?_; decide)
    | with_reducible apply comparerCheck_keeps
    | with_reducible apply atTime_keeps
    | intro _
    | split

/-! ## Feedback -/

theorem controlRate_keeps (hm : covers 134217760 m) {s : ℕ} {e : ℕ} {l : List Heard} {d : Dev} (h_d : Keeps m d0 d) :
    Keeps m d0 (controlRate s e l d) := by
  unfold controlRate
  (try dsimp only)
  repeat' first
    | with_reducible assumption
    | (with_reducible refine covers_tr hm ?_; decide)
    | with_reducible apply freeNext_keeps
    | with_reducible apply updDest_keeps
    | intro _
    | split

theorem feedbackTimeout_keeps (hm : covers 134224148 m) {s : ℕ} {e : ℕ} {d : Dev} (h_d : Keeps m d0 d) :
    Keeps m d0 (feedbackTimeout s e d) := by
  unfold feedbackTimeout
  (try dsimp only)
  repeat' first
    | with_reducible assumption
    | (with_reducible refine covers_tr hm ?_; decide)
    | with_reducible apply postTenant_keeps
    | with_reducible apply updDest_keeps
    | intro _
    | split

theorem unrecoverable_keeps (hm : covers 4429185028 m) {s : ℕ} {i : ℕ} {e : ℕ} {d : Dev} (h_d : Keeps m d0 d) :
    Keeps m d0 (unrecoverable s i e d) := by
  unfold unrecoverable
  (try dsimp only)
  repeat' first
    | with_reducible assumption
    | (with_reducible refine covers_tr hm ?_; decide)
    | with_reducible apply updCopy_keeps
    | with_reducible apply objCount_keeps
    | with_reducible apply markLost_keeps
    | intro _
    | split

theorem ackFrames_keeps (hm : covers 4294967300 m) {s : ℕ} {d : Dev} (h_d : Keeps m d0 d) :
    Keeps m d0 (ackFrames s d) := by
  unfold ackFrames
  (try dsimp only)
  repeat' first
    | with_reducible assumption
    | (with_reducible refine covers_tr hm ?_; decide)
    | with_reducible apply objCount_keeps
    | with_reducible apply updPast_keeps
    | with_reducible apply forEach_keeps
    | intro _
    | split

theorem congestion_keeps (hm : covers 4429185060 m) {s : ℕ} {e : ℕ} {l : List Heard} {d : Dev} (h_d : Keeps m d0 d) :
    Keeps m d0 (congestion s e l d) := by
  unfold congestion
  (try dsimp only)
  repeat' first
    | with_reducible assumption
    | (with_reducible refine covers_tr hm ?_; decide)
    | with_reducible apply unrecoverable_keeps
    | with_reducible apply updCopy_keeps
    | with_reducible apply controlRate_keeps
    | with_reducible apply ackFrames_keeps
    | with_reducible apply forEach_keeps
    | intro _
    | split

theorem execTransportWideFeedback_keeps {slot : ℕ} {dest : ℕ} {reports : List (ℕ × Option ℕ)} {now : ℕ} {s : State} {t : State}
    (ht : execTransportWideFeedback slot dest reports now s = .next t) : Keeps 4433379364 s.dev t.dev := by
  have hm : covers 4433379364 4433379364 := rfl
  refine actOn_keeps (fun d hd => ?_) ht
  (try dsimp only)
  repeat' first
    | with_reducible assumption
    | (with_reducible refine covers_tr hm ?_; decide)
    | with_reducible apply atTime_keeps
    | with_reducible apply congestion_keeps
    | intro _
    | split

theorem resend_keeps (hm : covers 275012124677 m) {s : ℕ} {i : ℕ} {e : ℕ} {c : CopySt} {d : Dev} (h_d : Keeps m d0 d) :
    Keeps m d0 (resend s i e c d) := by
  unfold resend
  (try dsimp only)
  repeat' first
    | with_reducible assumption
    | (with_reducible refine covers_tr hm ?_; decide)
    | with_reducible apply updDest_keeps
    | with_reducible apply updCopy_keeps
    | with_reducible apply objCount_keeps
    | with_reducible apply enterClass_keeps
    | intro _
    | split

theorem nackOne_keeps (hm : covers 279307091973 m) {s : ℕ} {e : ℕ} {seq : ℕ} {d03 : Dev} (h_d03 : Keeps m d0 d03) :
    Keeps m d0 (nackOne s e seq d03) := by
  unfold nackOne
  (try dsimp only)
  repeat' first
    | with_reducible assumption
    | (with_reducible refine covers_tr hm ?_; decide)
    | with_reducible apply objCount_keeps
    | with_reducible apply unrecoverable_keeps
    | with_reducible apply resend_keeps
    | intro _
    | split

theorem execCongestionFeedback_keeps {slot : ℕ} {dest : ℕ} {reports : List (ℕ × Option ℕ)} {now : ℕ} {s : State} {t : State}
    (ht : execCongestionFeedback slot dest reports now s = .next t) : Keeps 4433379364 s.dev t.dev := by
  have hm : covers 4433379364 4433379364 := rfl
  refine actOn_keeps (fun d hd => ?_) ht
  (try dsimp only)
  repeat' first
    | with_reducible assumption
    | (with_reducible refine covers_tr hm ?_; decide)
    | with_reducible apply atTime_keeps
    | with_reducible apply congestion_keeps
    | intro _
    | split

theorem execFeedbackTimeout_keeps {slot : ℕ} {dest : ℕ} {now : ℕ} {s : State} {t : State}
    (ht : execFeedbackTimeout slot dest now s = .next t) : Keeps 138418452 s.dev t.dev := by
  have hm : covers 138418452 138418452 := rfl
  refine actOn_keeps (fun d hd => ?_) ht
  (try dsimp only)
  repeat' first
    | with_reducible assumption
    | (with_reducible refine covers_tr hm ?_; decide)
    | with_reducible apply feedbackTimeout_keeps
    | with_reducible apply atTime_keeps
    | intro _
    | split

theorem execNack_keeps {slot : ℕ} {dest : ℕ} {seqs : List ℕ} {now : ℕ} {s : State} {t : State}
    (ht : execNack slot dest seqs now s = .next t) : Keeps 279311286277 s.dev t.dev := by
  have hm : covers 279311286277 279311286277 := rfl
  refine actOn_keeps (fun d hd => ?_) ht
  (try dsimp only)
  repeat' first
    | with_reducible assumption
    | (with_reducible refine covers_tr hm ?_; decide)
    | with_reducible apply nackOne_keeps
    | with_reducible apply atTime_keeps
    | with_reducible apply forEach_keeps
    | intro _
    | split

theorem pictureLoss_keeps (hm : covers 4294973716 m) {s : ℕ} {e : ℕ} {d02 : Dev} (h_d02 : Keeps m d0 d02) :
    Keeps m d0 (pictureLoss s e d02) := by
  unfold pictureLoss
  (try dsimp only)
  repeat' first
    | with_reducible assumption
    | (with_reducible refine covers_tr hm ?_; decide)
    | with_reducible apply objCount_keeps
    | with_reducible apply postTenant_keeps
    | with_reducible apply markLost_keeps
    | with_reducible apply forEach_keeps
    | intro _
    | split

theorem execReceiverReport_keeps {slot : ℕ} {dest : ℕ} {now : ℕ} {s : State} {t : State}
    (ht : execReceiverReport slot dest now s = .next t) : Keeps 4194304 s.dev t.dev := by
  have hm : covers 4194304 4194304 := rfl
  refine actOn_keeps (fun d hd => ?_) ht
  (try dsimp only)
  repeat' first
    | with_reducible assumption
    | (with_reducible refine covers_tr hm ?_; decide)
    | with_reducible apply atTime_keeps
    | intro _
    | split

theorem execPictureLossIndication_keeps {slot : ℕ} {dest : ℕ} {now : ℕ} {s : State} {t : State}
    (ht : execPictureLossIndication slot dest now s = .next t) : Keeps 4299168020 s.dev t.dev := by
  have hm : covers 4299168020 4299168020 := rfl
  refine actOn_keeps (fun d hd => ?_) ht
  (try dsimp only)
  repeat' first
    | with_reducible assumption
    | (with_reducible refine covers_tr hm ?_; decide)
    | with_reducible apply pictureLoss_keeps
    | with_reducible apply atTime_keeps
    | intro _
    | split

end Sys2Proof.Machine
end

