-- ==== Sys2Proof/Laws/KeepsDevice.lean ====
section
/-! SUPPORT. One lemma for each function of the block: what it keeps. -/
set_option Elab.async false
set_option autoImplicit false
set_option linter.unusedVariables false
set_option linter.unreachableTactic false
set_option linter.unusedTactic false
set_option linter.unusedSimpArgs false
namespace Sys2Proof.Machine
variable {m : Nat} {d0 : Dev}

/-! ## Freeze -/

theorem recordFreeze_keeps (hm : covers 1 m) {c : ℕ} {r : Sys2Proof.FreezeRec} {d : Dev} (h_d : Keeps m d0 d) :
    Keeps m d0 (recordFreeze c r d) := by
  unfold recordFreeze
  (try dsimp only)
  repeat' first
    | with_reducible assumption
    | (with_reducible refine covers_tr hm ?_; decide)
    | with_reducible apply pairSet_keeps
    | with_reducible apply regSet_keeps
    | with_reducible apply forEach_keeps
    | intro _
    | split

theorem setPairState_keeps (hm : covers 1073741828 m) {p : ℕ} {st : ℕ} {x : PairSt} {d : Dev} (h_d : Keeps m d0 d) :
    Keeps m d0 (setPairState p st x d) := by
  unfold setPairState
  (try dsimp only)
  repeat' first
    | with_reducible assumption
    | (with_reducible refine covers_tr hm ?_; decide)
    | with_reducible apply objSet_keeps
    | with_reducible apply setWrd_keeps
    | intro _
    | split

theorem losePair_keeps (hm : covers 1073741828 m) {p : ℕ} {cur : ℕ} {d : Dev} (h_d : Keeps m d0 d) :
    Keeps m d0 (losePair p cur d) := by
  unfold losePair
  (try dsimp only)
  repeat' first
    | with_reducible assumption
    | (with_reducible refine covers_tr hm ?_; decide)
    | with_reducible apply setPairState_keeps
    | intro _
    | split

theorem countFallback_keeps (hm : covers 5 m) {p : ℕ} {n : ℕ} {d : Dev} (h_d : Keeps m d0 d) :
    Keeps m d0 (countFallback p n d) := by
  unfold countFallback
  (try dsimp only)
  repeat' first
    | with_reducible assumption
    | (with_reducible refine covers_tr hm ?_; decide)
    | with_reducible apply objCount_keeps
    | with_reducible apply regSet_keeps
    | intro _
    | split

theorem pairFreeze_keeps (hm : covers 1073741829 m) {c : ℕ} {reads : ℕ} {d : Dev} (h_d : Keeps m d0 d) :
    Keeps m d0 (pairFreeze c reads d) := by
  unfold pairFreeze
  (try dsimp only)
  repeat' first
    | with_reducible assumption
    | (with_reducible refine covers_tr hm ?_; decide)
    | with_reducible apply losePair_keeps
    | with_reducible apply countFallback_keeps
    | with_reducible apply setPairState_keeps
    | intro _
    | split

theorem freezeHolders_keeps (hm : covers 313733945749 m) {c : ℕ} {d : Dev} (h_d : Keeps m d0 d) :
    Keeps m d0 (freezeHolders c d) := by
  unfold freezeHolders
  (try dsimp only)
  repeat' first
    | with_reducible assumption
    | (with_reducible refine covers_tr hm ?_; decide)
    | with_reducible apply degradeLining_keeps
    | with_reducible apply suspend_keeps
    | with_reducible apply forEach_keeps
    | intro _
    | split

theorem freezeChannel_keeps (hm : covers 315344558485 m) {c : ℕ} {r : Sys2Proof.FreezeRec} {d : Dev} (h_d : Keeps m d0 d) :
    Keeps m d0 (freezeChannel c r d) := by
  unfold freezeChannel
  (try dsimp only)
  repeat' first
    | with_reducible assumption
    | (with_reducible refine covers_tr hm ?_; decide)
    | with_reducible apply recordFreeze_keeps
    | with_reducible apply setChan_keeps
    | with_reducible apply objCount_keeps
    | with_reducible apply setChanState_keeps
    | with_reducible apply pairFreeze_keeps
    | with_reducible apply level_keeps
    | with_reducible apply raise_keeps
    | with_reducible apply freezeHolders_keeps
    | intro _
    | split

theorem freezeCompare_keeps (hm : covers 315344558517 m) {c : ℕ} {d : Dev} (h_d : Keeps m d0 d) :
    Keeps m d0 (freezeCompare c d) := by
  unfold freezeCompare
  (try dsimp only)
  repeat' first
    | with_reducible assumption
    | (with_reducible refine covers_tr hm ?_; decide)
    | with_reducible apply freeNext_keeps
    | with_reducible apply freezeChannel_keeps
    | intro _
    | split

theorem damageFrame_keeps (hm : covers 4294967328 m) {sid : ℕ} {d : Dev} (h_d : Keeps m d0 d) :
    Keeps m d0 (damageFrame sid d) := by
  unfold damageFrame
  (try dsimp only)
  repeat' first
    | with_reducible assumption
    | (with_reducible refine covers_tr hm ?_; decide)
    | with_reducible apply freeNext_keeps
    | with_reducible apply updPast_keeps
    | intro _
    | split

theorem damageLibrary_keeps (hm : covers 6420 m) {t : ℕ} {e : ℕ} {d : Dev} (h_d : Keeps m d0 d) :
    Keeps m d0 (damageLibrary t e d) := by
  unfold damageLibrary
  (try dsimp only)
  repeat' first
    | with_reducible assumption
    | (with_reducible refine covers_tr hm ?_; decide)
    | with_reducible apply postEvent_keeps
    | intro _
    | split

theorem damagePacket_keeps (hm : covers 4429185028 m) {s : ℕ} {i : ℕ} {d : Dev} (h_d : Keeps m d0 d) :
    Keeps m d0 (damagePacket s i d) := by
  unfold damagePacket
  (try dsimp only)
  repeat' first
    | with_reducible assumption
    | (with_reducible refine covers_tr hm ?_; decide)
    | with_reducible apply updPkt_keeps
    | with_reducible apply unrecoverable_keeps
    | with_reducible apply forEach_keeps
    | intro _
    | split

theorem damagePackets_keeps (hm : covers 4429185060 m) {s : ℕ} {a : List ℕ} {a2 : Dev} (h_a2 : Keeps m d0 a2) :
    Keeps m d0 (damagePackets s a a2) := by
  induction a generalizing s a2 with
  | nil => exact h_a2
  | cons x t ih =>
    unfold damagePackets
    repeat' first
      | with_reducible assumption
      | (with_reducible refine covers_tr hm ?_; decide)
      | with_reducible apply ih
      | with_reducible apply damagePacket_keeps
      | with_reducible apply freeNext_keeps
      | intro _
      | split

theorem damageQueue_keeps (hm : covers 4429185060 m) {s : ℕ} {e : ℕ} {a : List Pkt} {a3 : Dev} (h_a3 : Keeps m d0 a3) :
    Keeps m d0 (damageQueue s e a a3) := by
  induction a generalizing s e a3 with
  | nil => exact h_a3
  | cons x t ih =>
    unfold damageQueue
    repeat' first
      | with_reducible assumption
      | (with_reducible refine covers_tr hm ?_; decide)
      | with_reducible apply ih
      | with_reducible apply unrecoverable_keeps
      | with_reducible apply updDest_keeps
      | with_reducible apply freeNext_keeps
      | intro _
      | split

theorem damageData_keeps (hm : covers 4429185060 m) {key : ℕ} {u : Use} {d : Dev} (h_d : Keeps m d0 d) :
    Keeps m d0 (damageData key u d) := by
  unfold damageData
  (try dsimp only)
  repeat' first
    | with_reducible assumption
    | (with_reducible refine covers_tr hm ?_; decide)
    | with_reducible apply damageFrame_keeps
    | with_reducible apply updStream_keeps
    | with_reducible apply setSess_keeps
    | with_reducible apply damagePackets_keeps
    | with_reducible apply damageQueue_keeps
    | intro _
    | split

theorem renameRing_keeps (hm : covers 134217728 m) {s : ℕ} {old : ℕ} {new : ℕ} {d : Dev} (h_d : Keeps m d0 d) :
    Keeps m d0 (renameRing s old new d) := by
  unfold renameRing
  (try dsimp only)
  repeat' first
    | with_reducible assumption
    | (with_reducible refine covers_tr hm ?_; decide)
    | with_reducible apply setSess_keeps
    | intro _
    | split

theorem damageBlock_keeps (hm : covers 7650416948 m) {key : ℕ} {d : Dev} (h_d : Keeps m d0 d) :
    Keeps m d0 (damageBlock key d) := by
  unfold damageBlock
  (try dsimp only)
  repeat' first
    | with_reducible assumption
    | (with_reducible refine covers_tr hm ?_; decide)
    | with_reducible apply forgetBytes_keeps
    | with_reducible apply setWrd_keeps
    | with_reducible apply postEvent_keeps
    | with_reducible apply damageLibrary_keeps
    | with_reducible apply damageData_keeps
    | with_reducible apply nextGen_keeps
    | with_reducible apply postTenant_keeps
    | with_reducible apply renameRing_keeps
    | with_reducible refine allocBlock_keeps (covers_tr hm (by decide)) ?_ (by assumption)
    | intro _
    | split

theorem pairGone_keeps (hm : covers 1073741828 m) {c : ℕ} {d : Dev} (h_d : Keeps m d0 d) :
    Keeps m d0 (pairGone c d) := by
  unfold pairGone
  (try dsimp only)
  repeat' first
    | with_reducible assumption
    | (with_reducible refine covers_tr hm ?_; decide)
    | with_reducible apply setPairState_keeps
    | with_reducible apply losePair_keeps
    | intro _
    | split

theorem channelGone_keeps (hm : covers 2200633868420 m) {c : ℕ} {st : ℕ} {d : Dev} (h_d : Keeps m d0 d) :
    Keeps m d0 (channelGone c st d) := by
  unfold channelGone
  (try dsimp only)
  repeat' first
    | with_reducible assumption
    | (with_reducible refine covers_tr hm ?_; decide)
    | with_reducible apply setChan_keeps
    | with_reducible apply levelEnd_keeps
    | with_reducible apply setChanState_keeps
    | with_reducible apply powerSettle_keeps
    | with_reducible apply pairGone_keeps
    | intro _
    | split

theorem pairReturn_keeps (hm : covers 1073741829 m) {c : ℕ} {d : Dev} (h_d : Keeps m d0 d) :
    Keeps m d0 (pairReturn c d) := by
  unfold pairReturn
  (try dsimp only)
  repeat' first
    | with_reducible assumption
    | (with_reducible refine covers_tr hm ?_; decide)
    | with_reducible apply setPairState_keeps
    | with_reducible apply regSet_keeps
    | intro _
    | split

theorem channelReturn_keeps (hm : covers 2207210543541 m) {c : ℕ} {d : Dev} (h_d : Keeps m d0 d) :
    Keeps m d0 (channelReturn c d) := by
  unfold channelReturn
  (try dsimp only)
  repeat' first
    | with_reducible assumption
    | (with_reducible refine covers_tr hm ?_; decide)
    | with_reducible apply damageBlock_keeps
    | with_reducible apply setChan_keeps
    | with_reducible apply setChanState_keeps
    | with_reducible apply levelEnd_keeps
    | with_reducible apply powerSettle_keeps
    | with_reducible apply pairReturn_keeps
    | with_reducible apply forEach_keeps
    | intro _
    | split

/-! ## Dram -/

theorem requestInRefresh_keeps (hm : covers 2199560126468 m) {c : ℕ} {d : Dev} (h_d : Keeps m d0 d) :
    Keeps m d0 (requestInRefresh c d) := by
  unfold requestInRefresh
  (try dsimp only)
  repeat' first
    | with_reducible assumption
    | (with_reducible refine covers_tr hm ?_; decide)
    | with_reducible apply powerSettle_keeps
    | with_reducible apply objCount_keeps
    | with_reducible apply setChan_keeps
    | intro _
    | split

theorem execDramRequestInSelfRefresh_keeps {chan : ℕ} {now : ℕ} {s : State} {t : State}
    (ht : execDramRequestInSelfRefresh chan now s = .next t) : Keeps 2199564320772 s.dev t.dev := by
  have hm : covers 2199564320772 2199564320772 := rfl
  refine actOn_keeps (fun d hd => ?_) ht
  (try dsimp only)
  repeat' first
    | with_reducible assumption
    | (with_reducible refine covers_tr hm ?_; decide)
    | with_reducible apply requestInRefresh_keeps
    | with_reducible apply atTime_keeps
    | intro _
    | split

theorem channelRetrain_keeps (hm : covers 536871044 m) {c : ℕ} {d : Dev} (h_d : Keeps m d0 d) :
    Keeps m d0 (channelRetrain c d) := by
  unfold channelRetrain
  (try dsimp only)
  repeat' first
    | with_reducible assumption
    | (with_reducible refine covers_tr hm ?_; decide)
    | with_reducible apply setChanState_keeps
    | with_reducible apply levelEnd_keeps
    | with_reducible apply setChan_keeps
    | intro _
    | split

theorem channelOff_keeps (hm : covers 2200633868420 m) {c : ℕ} {d : Dev} (h_d : Keeps m d0 d) :
    Keeps m d0 (channelOff c d) := by
  unfold channelOff
  (try dsimp only)
  repeat' first
    | with_reducible assumption
    | (with_reducible refine covers_tr hm ?_; decide)
    | with_reducible apply channelGone_keeps
    | intro _
    | split

theorem trainingOver_keeps (hm : covers 132 m) {was : Bool} {d : Dev} (h_d : Keeps m d0 d) :
    Keeps m d0 (trainingOver was d) := by
  unfold trainingOver
  (try dsimp only)
  repeat' first
    | with_reducible assumption
    | (with_reducible refine covers_tr hm ?_; decide)
    | with_reducible apply pulse_keeps
    | with_reducible apply objSet_keeps
    | intro _
    | split

theorem pairTrained_keeps (hm : covers 1073741828 m) {c : ℕ} {d : Dev} (h_d : Keeps m d0 d) :
    Keeps m d0 (pairTrained c d) := by
  unfold pairTrained
  (try dsimp only)
  repeat' first
    | with_reducible assumption
    | (with_reducible refine covers_tr hm ?_; decide)
    | with_reducible apply setPairState_keeps
    | intro _
    | split

theorem trainFinish_keeps (hm : covers 2207210543541 m) {c : ℕ} {r : Sys2Proof.TrnResult} {d : Dev} (h_d : Keeps m d0 d) :
    Keeps m d0 (trainFinish c r d) := by
  unfold trainFinish
  (try dsimp only)
  repeat' first
    | with_reducible assumption
    | (with_reducible refine covers_tr hm ?_; decide)
    | with_reducible apply objSet_keeps
    | with_reducible apply setChan_keeps
    | with_reducible apply channelReturn_keeps
    | with_reducible apply powerSettle_keeps
    | with_reducible apply trainingOver_keeps
    | with_reducible apply pairTrained_keeps
    | with_reducible apply setChanState_keeps
    | intro _
    | split

theorem stageDone_keeps (hm : covers 2199560126468 m) {c : ℕ} {d : Dev} (h_d : Keeps m d0 d) :
    Keeps m d0 (stageDone c d) := by
  unfold stageDone
  (try dsimp only)
  repeat' first
    | with_reducible assumption
    | (with_reducible refine covers_tr hm ?_; decide)
    | with_reducible apply setChan_keeps
    | with_reducible apply powerSettle_keeps
    | with_reducible apply setChanState_keeps
    | intro _
    | split

theorem refreshExit_keeps (hm : covers 2514367814069 m) {c : ℕ} {pass : Bool} {d : Dev} (h_d : Keeps m d0 d) :
    Keeps m d0 (refreshExit c pass d) := by
  unfold refreshExit
  (try dsimp only)
  repeat' first
    | with_reducible assumption
    | (with_reducible refine covers_tr hm ?_; decide)
    | with_reducible apply setChan_keeps
    | with_reducible apply powerSettle_keeps
    | with_reducible apply freezeCompare_keeps
    | with_reducible apply setChanState_keeps
    | intro _
    | split

theorem refreshStage_keeps (hm : covers 2514367814069 m) {c : ℕ} {pass : Bool} {d02 : Dev} (h_d02 : Keeps m d0 d02) :
    Keeps m d0 (refreshStage c pass d02) := by
  unfold refreshStage
  (try dsimp only)
  repeat' first
    | with_reducible assumption
    | (with_reducible refine covers_tr hm ?_; decide)
    | with_reducible apply stageDone_keeps
    | with_reducible apply powerSettle_keeps
    | with_reducible apply refreshExit_keeps
    | intro _
    | split

theorem trainFail_keeps (hm : covers 2200633868421 m) {c : ℕ} {r : Sys2Proof.TrnResult} {d : Dev} (h_d : Keeps m d0 d) :
    Keeps m d0 (trainFail c r d) := by
  unfold trainFail
  (try dsimp only)
  repeat' first
    | with_reducible assumption
    | (with_reducible refine covers_tr hm ?_; decide)
    | with_reducible apply objSet_keeps
    | with_reducible apply channelGone_keeps
    | with_reducible apply setFld_keeps
    | with_reducible apply trainingOver_keeps
    | with_reducible apply pulse_keeps
    | intro _
    | split

theorem helperDone_keeps (hm : covers 2200633868421 m) {c : ℕ} {m0 : ℕ} {m1 : ℕ} {m2 : ℕ} {errs : ℕ} {fail : Option Sys2Proof.TrnResult} {d : Dev} (h_d : Keeps m d0 d) :
    Keeps m d0 (helperDone c m0 m1 m2 errs fail d) := by
  unfold helperDone
  (try dsimp only)
  repeat' first
    | with_reducible assumption
    | (with_reducible refine covers_tr hm ?_; decide)
    | with_reducible apply setChan_keeps
    | with_reducible apply setFld_keeps
    | with_reducible apply regSet_keeps
    | with_reducible apply trainFail_keeps
    | intro _
    | split

theorem execHelperOpDone_keeps {chan : ℕ} {m0 : ℕ} {m1 : ℕ} {m2 : ℕ} {errs : ℕ} {fail : Option Sys2Proof.TrnResult} {now : ℕ} {s : State} {t : State}
    (ht : execHelperOpDone chan m0 m1 m2 errs fail now s = .next t) : Keeps 2200638062725 s.dev t.dev := by
  have hm : covers 2200638062725 2200638062725 := rfl
  refine actOn_keeps (fun d hd => ?_) ht
  (try dsimp only)
  repeat' first
    | with_reducible assumption
    | (with_reducible refine covers_tr hm ?_; decide)
    | with_reducible apply helperDone_keeps
    | with_reducible apply atTime_keeps
    | intro _
    | split

theorem trainTimeLimit_keeps (hm : covers 2200633868421 m) {c : ℕ} {d : Dev} (h_d : Keeps m d0 d) :
    Keeps m d0 (trainTimeLimit c d) := by
  unfold trainTimeLimit
  (try dsimp only)
  repeat' first
    | with_reducible assumption
    | (with_reducible refine covers_tr hm ?_; decide)
    | with_reducible apply trainFail_keeps
    | intro _
    | split

theorem execDmcCorrClr_keeps {who : Sys2Proof.Caller} {chan : ℕ} {s : State} {t : State}
    (ht : execDmcCorrClr who chan s = .next t) : Keeps 5 s.dev t.dev := by
  have hm : covers 5 5 := rfl
  refine actOn_keeps (fun d hd => ?_) ht
  (try dsimp only)
  repeat' first
    | with_reducible assumption
    | (with_reducible refine covers_tr hm ?_; decide)
    | with_reducible apply regGate_keeps
    | with_reducible apply regSet_keeps
    | intro _
    | split

theorem trnWrite_keeps (hm : covers 5 m) {who : Sys2Proof.Caller} {key : ℕ} {errs : Dev → List Sys2Proof.Err} {f : Dev → Dev} {d : Dev} (h_f : ∀ (y0 : Dev), Keeps m d0 y0 → Keeps m d0 (f y0)) (h_d : Keeps m d0 d) :
    Keeps m d0 (trnWrite who key errs f d) := by
  unfold trnWrite
  (try dsimp only)
  repeat' first
    | with_reducible assumption
    | (with_reducible refine covers_tr hm ?_; decide)
    | with_reducible apply regGate_keeps
    | with_reducible apply regDrop_keeps
    | with_reducible apply h_f
    | intro _
    | split

theorem helperStart_keeps (hm : covers 536936577 m) {c : ℕ} {v : ℕ} {d : Dev} (h_d : Keeps m d0 d) :
    Keeps m d0 (helperStart c v d) := by
  unfold helperStart
  (try dsimp only)
  repeat' first
    | with_reducible assumption
    | (with_reducible refine covers_tr hm ?_; decide)
    | with_reducible apply setFld_keeps
    | with_reducible apply setChan_keeps
    | with_reducible apply mend_keeps
    | with_reducible apply regSet_keeps
    | intro _
    | split

theorem helperGo_keeps {who : Sys2Proof.Caller} {c : ℕ} {op : ℕ} {value : ℕ} {now : ℕ} {s : State} {t : State}
    (ht : helperGo who c op value now s = .next t) : Keeps 541130885 s.dev t.dev := by
  have hm : covers 541130885 541130885 := rfl
  refine actOn_keeps (fun d hd => ?_) ht
  (try dsimp only)
  repeat' first
    | with_reducible assumption
    | (with_reducible refine covers_tr hm ?_; decide)
    | with_reducible apply trnWrite_keeps
    | with_reducible apply helperStart_keeps
    | with_reducible apply atTime_keeps
    | intro _
    | split

theorem execTrnCaLoopback_keeps {who : Caller} {chan value now : Nat} {s t : State}
    (ht : execTrnCaLoopback who chan value now s = .next t) : Keeps 541130885 s.dev t.dev :=
  helperGo_keeps ht

theorem modePoll_keeps (hm : covers 536871296 m) {c : ℕ} {rank : ℕ} {need : ℕ} {d : Dev} (h_d : Keeps m d0 d) :
    Keeps m d0 (modePoll c rank need d) := by
  unfold modePoll
  (try dsimp only)
  repeat' first
    | with_reducible assumption
    | (with_reducible refine covers_tr hm ?_; decide)
    | with_reducible apply setChan_keeps
    | with_reducible apply pulse_keeps
    | with_reducible apply raise_keeps
    | intro _
    | split

theorem execModeRegisterPoll_keeps {chan : ℕ} {rank : ℕ} {need : ℕ} {now : ℕ} {s : State} {t : State}
    (ht : execModeRegisterPoll chan rank need now s = .next t) : Keeps 541065600 s.dev t.dev := by
  have hm : covers 541065600 541065600 := rfl
  refine actOn_keeps (fun d hd => ?_) ht
  (try dsimp only)
  repeat' first
    | with_reducible assumption
    | (with_reducible refine covers_tr hm ?_; decide)
    | with_reducible apply modePoll_keeps
    | with_reducible apply atTime_keeps
    | intro _
    | split

theorem execTrnWritePattern_keeps {who : Caller} {chan value now : Nat} {s t : State}
    (ht : execTrnWritePattern who chan value now s = .next t) : Keeps 541130885 s.dev t.dev :=
  helperGo_keeps ht

theorem channelResume_keeps (hm : covers 2516515297717 m) {c : ℕ} {pass : Bool} {d : Dev} (h_d : Keeps m d0 d) :
    Keeps m d0 (channelResume c pass d) := by
  unfold channelResume
  (try dsimp only)
  repeat' first
    | with_reducible assumption
    | (with_reducible refine covers_tr hm ?_; decide)
    | with_reducible apply channelReturn_keeps
    | with_reducible apply freezeCompare_keeps
    | with_reducible apply levelEnd_keeps
    | intro _
    | split

theorem execChannelRetrain_keeps {chan : ℕ} {now : ℕ} {s : State} {t : State}
    (ht : execChannelRetrain chan now s = .next t) : Keeps 541065348 s.dev t.dev := by
  have hm : covers 541065348 541065348 := rfl
  refine actOn_keeps (fun d hd => ?_) ht
  (try dsimp only)
  repeat' first
    | with_reducible assumption
    | (with_reducible refine covers_tr hm ?_; decide)
    | with_reducible apply channelRetrain_keeps
    | with_reducible apply atTime_keeps
    | intro _
    | split

theorem padRelease_keeps (hm : covers 2514367814069 m) {c : ℕ} {pass : Bool} {d : Dev} (h_d : Keeps m d0 d) :
    Keeps m d0 (padRelease c pass d) := by
  unfold padRelease
  (try dsimp only)
  repeat' first
    | with_reducible assumption
    | (with_reducible refine covers_tr hm ?_; decide)
    | with_reducible apply setChan_keeps
    | with_reducible apply refreshExit_keeps
    | intro _
    | split

theorem execPadRelease_keeps {who : Sys2Proof.Caller} {chan : ℕ} {pass : Bool} {now : ℕ} {s : State} {t : State}
    (ht : execPadRelease who chan pass now s = .next t) : Keeps 2514372008373 s.dev t.dev := by
  have hm : covers 2514372008373 2514372008373 := rfl
  refine actOn_keeps (fun d hd => ?_) ht
  (try dsimp only)
  repeat' first
    | with_reducible assumption
    | (with_reducible refine covers_tr hm ?_; decide)
    | with_reducible apply regGate_keeps
    | with_reducible apply padRelease_keeps
    | with_reducible apply atTime_keeps
    | intro _
    | split

theorem execAlertReplay_keeps {chan : ℕ} {now : ℕ} {s : State} {t : State}
    (ht : execAlertReplay chan now s = .next t) : Keeps 4194436 s.dev t.dev := by
  have hm : covers 4194436 4194436 := rfl
  refine actOn_keeps (fun d hd => ?_) ht
  (try dsimp only)
  repeat' first
    | with_reducible assumption
    | (with_reducible refine covers_tr hm ?_; decide)
    | with_reducible apply atTime_keeps
    | with_reducible apply pulse_keeps
    | with_reducible apply objCount_keeps
    | intro _
    | split

theorem chanActionAct_keeps (hm : covers 536870912 m) {c : ℕ} {a : ℕ} {d : Dev} (h_d : Keeps m d0 d) :
    Keeps m d0 (chanActionAct c a d) := by
  unfold chanActionAct
  (try dsimp only)
  repeat' first
    | with_reducible assumption
    | (with_reducible refine covers_tr hm ?_; decide)
    | with_reducible apply setChan_keeps
    | intro _
    | split

theorem refreshRequest_keeps (hm : covers 2199560126464 m) {c : ℕ} {d01 : Dev} (h_d01 : Keeps m d0 d01) :
    Keeps m d0 (refreshRequest c d01) := by
  unfold refreshRequest
  (try dsimp only)
  repeat' first
    | with_reducible assumption
    | (with_reducible refine covers_tr hm ?_; decide)
    | with_reducible apply powerSettle_keeps
    | with_reducible apply setChan_keeps
    | intro _
    | split

theorem execSelfRefreshRequest_keeps {chan : ℕ} {now : ℕ} {s : State} {t : State}
    (ht : execSelfRefreshRequest chan now s = .next t) : Keeps 2199564320768 s.dev t.dev := by
  have hm : covers 2199564320768 2199564320768 := rfl
  refine actOn_keeps (fun d hd => ?_) ht
  (try dsimp only)
  repeat' first
    | with_reducible assumption
    | (with_reducible refine covers_tr hm ?_; decide)
    | with_reducible apply refreshRequest_keeps
    | with_reducible apply atTime_keeps
    | intro _
    | split

theorem execChannelResume_keeps {chan : ℕ} {pass : Bool} {now : ℕ} {s : State} {t : State}
    (ht : execChannelResume chan pass now s = .next t) : Keeps 2516519492021 s.dev t.dev := by
  have hm : covers 2516519492021 2516519492021 := rfl
  refine actOn_keeps (fun d hd => ?_) ht
  (try dsimp only)
  repeat' first
    | with_reducible assumption
    | (with_reducible refine covers_tr hm ?_; decide)
    | with_reducible apply channelResume_keeps
    | with_reducible apply atTime_keeps
    | intro _
    | split

theorem execSelfRefreshStage_keeps {chan : ℕ} {pass : Bool} {now : ℕ} {s : State} {t : State}
    (ht : execSelfRefreshStage chan pass now s = .next t) : Keeps 2514372008373 s.dev t.dev := by
  have hm : covers 2514372008373 2514372008373 := rfl
  refine actOn_keeps (fun d hd => ?_) ht
  (try dsimp only)
  repeat' first
    | with_reducible assumption
    | (with_reducible refine covers_tr hm ?_; decide)
    | with_reducible apply refreshStage_keeps
    | with_reducible apply atTime_keeps
    | intro _
    | split

theorem execChannelOff_keeps {chan : ℕ} {now : ℕ} {s : State} {t : State}
    (ht : execChannelOff chan now s = .next t) : Keeps 2200638062724 s.dev t.dev := by
  have hm : covers 2200638062724 2200638062724 := rfl
  refine actOn_keeps (fun d hd => ?_) ht
  (try dsimp only)
  repeat' first
    | with_reducible assumption
    | (with_reducible refine covers_tr hm ?_; decide)
    | with_reducible apply channelOff_keeps
    | with_reducible apply atTime_keeps
    | intro _
    | split

theorem execChannelFreeze_keeps {chan : ℕ} {r : Sys2Proof.FreezeRec} {now : ℕ} {s : State} {t : State}
    (ht : execChannelFreeze chan r now s = .next t) : Keeps 315348752789 s.dev t.dev := by
  have hm : covers 315348752789 315348752789 := rfl
  refine actOn_keeps (fun d hd => ?_) ht
  (try dsimp only)
  repeat' first
    | with_reducible assumption
    | (with_reducible refine covers_tr hm ?_; decide)
    | with_reducible apply atTime_keeps
    | with_reducible apply freezeChannel_keeps
    | intro _
    | split

theorem execTrnFinish_keeps {who : Sys2Proof.Caller} {chan : ℕ} {r : Sys2Proof.TrnResult} {now : ℕ} {s : State} {t : State}
    (ht : execTrnFinish who chan r now s = .next t) : Keeps 2207214803381 s.dev t.dev := by
  have hm : covers 2207214803381 2207214803381 := rfl
  refine actOn_keeps (fun d hd => ?_) ht
  (try dsimp only)
  repeat' first
    | with_reducible assumption
    | (with_reducible refine covers_tr hm ?_; decide)
    | with_reducible apply trnWrite_keeps
    | with_reducible apply trainFinish_keeps
    | with_reducible apply mend_keeps
    | with_reducible apply atTime_keeps
    | intro _
    | split

theorem dramRefresh_keeps (hm : covers 536870912 m) {c : ℕ} {rank : ℕ} {busy : Bool} {d : Dev} (h_d : Keeps m d0 d) :
    Keeps m d0 (dramRefresh c rank busy d) := by
  unfold dramRefresh
  (try dsimp only)
  repeat' first
    | with_reducible assumption
    | (with_reducible refine covers_tr hm ?_; decide)
    | with_reducible apply setChan_keeps
    | intro _
    | split

theorem execTrnReadCompare_keeps {who : Caller} {chan value now : Nat} {s t : State}
    (ht : execTrnReadCompare who chan value now s = .next t) : Keeps 541130885 s.dev t.dev :=
  helperGo_keeps ht

theorem execTrainingTimeout_keeps {chan : ℕ} {now : ℕ} {s : State} {t : State}
    (ht : execTrainingTimeout chan now s = .next t) : Keeps 2200638062725 s.dev t.dev := by
  have hm : covers 2200638062725 2200638062725 := rfl
  refine actOn_keeps (fun d hd => ?_) ht
  (try dsimp only)
  repeat' first
    | with_reducible assumption
    | (with_reducible refine covers_tr hm ?_; decide)
    | with_reducible apply trainTimeLimit_keeps
    | with_reducible apply atTime_keeps
    | intro _
    | split

theorem execTrnWriteReadCompare_keeps {who : Caller} {chan value now : Nat} {s t : State}
    (ht : execTrnWriteReadCompare who chan value now s = .next t) : Keeps 541130885 s.dev t.dev :=
  helperGo_keeps ht

theorem execDramRefresh_keeps {chan : ℕ} {rank : ℕ} {busy : Bool} {now : ℕ} {s : State} {t : State}
    (ht : execDramRefresh chan rank busy now s = .next t) : Keeps 541065216 s.dev t.dev := by
  have hm : covers 541065216 541065216 := rfl
  refine actOn_keeps (fun d hd => ?_) ht
  (try dsimp only)
  repeat' first
    | with_reducible assumption
    | (with_reducible refine covers_tr hm ?_; decide)
    | with_reducible apply dramRefresh_keeps
    | with_reducible apply atTime_keeps
    | intro _
    | split

/-! ## Wardrobe -/

theorem allocateAct_keeps (hm : covers 1073741828 m) {idx : ℕ} {sub : ℕ} {v : Sys2Proof.Payload} {d : Dev} (h_d : Keeps m d0 d) :
    Keeps m d0 (allocateAct idx sub v d) := by
  unfold allocateAct
  (try dsimp only)
  repeat' first
    | with_reducible assumption
    | (with_reducible refine covers_tr hm ?_; decide)
    | with_reducible apply objSet_keeps
    | with_reducible refine allocBlock_keeps (covers_tr hm (by decide)) ?_ (by assumption)
    | intro _
    | split

theorem blockAllocate_keeps (hm : covers 1349910805 m) {q : Sys2Proof.Req} {sub : ℕ} {v : Sys2Proof.Payload} {d : Dev} (h_d : Keeps m d0 d) :
    Keeps m d0 (blockAllocate q sub v d) := by
  unfold blockAllocate
  (try dsimp only)
  repeat' first
    | with_reducible assumption
    | (with_reducible refine covers_tr hm ?_; decide)
    | with_reducible apply perform_keeps
    | with_reducible apply allocateAct_keeps
    | intro _
    | split

theorem execBlockAllocate_keeps {q : Sys2Proof.Req} {sub : ℕ} {v : Sys2Proof.Payload} {s : State} {t : State}
    (ht : execBlockAllocate q sub v s = .next t) : Keeps 1349910805 s.dev t.dev := by
  have hm : covers 1349910805 1349910805 := rfl
  refine act_keeps (fun d hd => ?_) ht
  (try dsimp only)
  repeat' first
    | with_reducible assumption
    | (with_reducible refine covers_tr hm ?_; decide)
    | with_reducible apply blockAllocate_keeps
    | intro _
    | split

theorem clearFlip_keeps (hm : covers 1073741824 m) {c : ℕ} {line : ℕ} {d : Dev} (h_d : Keeps m d0 d) :
    Keeps m d0 (clearFlip c line d) := by
  unfold clearFlip
  (try dsimp only)
  repeat' first
    | with_reducible assumption
    | (with_reducible refine covers_tr hm ?_; decide)
    | with_reducible apply setWrd_keeps
    | intro _
    | split

theorem countCorrected_keeps (hm : covers 5 m) {c : ℕ} {d : Dev} (h_d : Keeps m d0 d) :
    Keeps m d0 (countCorrected c d) := by
  unfold countCorrected
  (try dsimp only)
  repeat' first
    | with_reducible assumption
    | (with_reducible refine covers_tr hm ?_; decide)
    | with_reducible apply objCount_keeps
    | with_reducible apply regCount_keeps
    | intro _
    | split

theorem lapEnd_keeps (hm : covers 536871041 m) {c : ℕ} {d : Dev} (h_d : Keeps m d0 d) :
    Keeps m d0 (lapEnd c d) := by
  unfold lapEnd
  (try dsimp only)
  repeat' first
    | with_reducible assumption
    | (with_reducible refine covers_tr hm ?_; decide)
    | with_reducible apply regSet_keeps
    | with_reducible apply setChan_keeps
    | with_reducible apply pulse_keeps
    | with_reducible apply setFld_keeps
    | intro _
    | split

theorem scrubRead_keeps (hm : covers 315344558485 m) {c : ℕ} {said : ℕ} {syndrome : ℕ} {d : Dev} (h_d : Keeps m d0 d) :
    Keeps m d0 (scrubRead c said syndrome d) := by
  unfold scrubRead
  (try dsimp only)
  repeat' first
    | with_reducible assumption
    | (with_reducible refine covers_tr hm ?_; decide)
    | with_reducible apply setChan_keeps
    | with_reducible apply freezeChannel_keeps
    | with_reducible apply clearFlip_keeps
    | with_reducible apply countCorrected_keeps
    | with_reducible apply lapEnd_keeps
    | intro _
    | split

theorem blockFree_keeps (hm : covers 3497394453 m) {q : Sys2Proof.Req} {sub : ℕ} {v : Sys2Proof.Payload} {d : Dev} (h_d : Keeps m d0 d) :
    Keeps m d0 (blockFree q sub v d) := by
  unfold blockFree
  (try dsimp only)
  repeat' first
    | with_reducible assumption
    | (with_reducible refine covers_tr hm ?_; decide)
    | with_reducible apply decideWrite_keeps
    | with_reducible apply refuse_keeps
    | with_reducible apply handleRefused_keeps
    | with_reducible apply accept_keeps
    | with_reducible apply releaseBlock_keeps
    | intro _
    | split

theorem execBlockFree_keeps {q : Sys2Proof.Req} {sub : ℕ} {v : Sys2Proof.Payload} {s : State} {t : State}
    (ht : execBlockFree q sub v s = .next t) : Keeps 3497394453 s.dev t.dev := by
  have hm : covers 3497394453 3497394453 := rfl
  refine act_keeps (fun d hd => ?_) ht
  (try dsimp only)
  repeat' first
    | with_reducible assumption
    | (with_reducible refine covers_tr hm ?_; decide)
    | with_reducible apply blockFree_keeps
    | intro _
    | split

theorem lapClear_keeps (hm : covers 1 m) {d : Dev} (h_d : Keeps m d0 d) :
    Keeps m d0 (lapClear d) := by
  unfold lapClear
  (try dsimp only)
  repeat' first
    | with_reducible assumption
    | (with_reducible refine covers_tr hm ?_; decide)
    | with_reducible apply setFld_keeps
    | with_reducible apply regSet_keeps
    | with_reducible apply forEach_keeps
    | intro _
    | split

theorem execWrdLapHwmClr_keeps {who : Sys2Proof.Caller} {s : State} {t : State}
    (ht : execWrdLapHwmClr who s = .next t) : Keeps 65669 s.dev t.dev := by
  have hm : covers 65669 65669 := rfl
  refine act_keeps (fun d hd => ?_) ht
  (try dsimp only)
  repeat' first
    | with_reducible assumption
    | (with_reducible refine covers_tr hm ?_; decide)
    | with_reducible apply regGate_keeps
    | with_reducible apply mend_keeps
    | with_reducible apply lapClear_keeps
    | intro _
    | split

theorem resilverComplete_keeps (hm : covers 2200633868293 m) {p : ℕ} {d : Dev} (h_d : Keeps m d0 d) :
    Keeps m d0 (resilverComplete p d) := by
  unfold resilverComplete
  (try dsimp only)
  repeat' first
    | with_reducible assumption
    | (with_reducible refine covers_tr hm ?_; decide)
    | with_reducible apply setPairState_keeps
    | with_reducible apply regSet_keeps
    | with_reducible apply powerSettle_keeps
    | intro _
    | split

theorem execResilverComplete_keeps {pair : ℕ} {now : ℕ} {s : State} {t : State}
    (ht : execResilverComplete pair now s = .next t) : Keeps 2200638062597 s.dev t.dev := by
  have hm : covers 2200638062597 2200638062597 := rfl
  refine actOn_keeps (fun d hd => ?_) ht
  (try dsimp only)
  repeat' first
    | with_reducible assumption
    | (with_reducible refine covers_tr hm ?_; decide)
    | with_reducible apply resilverComplete_keeps
    | with_reducible apply atTime_keeps
    | intro _
    | split

theorem execScrubRead_keeps {chan : ℕ} {outcome : ℕ} {syndrome : ℕ} {now : ℕ} {s : State} {t : State}
    (ht : execScrubRead chan outcome syndrome now s = .next t) : Keeps 315348752789 s.dev t.dev := by
  have hm : covers 315348752789 315348752789 := rfl
  refine actOn_keeps (fun d hd => ?_) ht
  (try dsimp only)
  repeat' first
    | with_reducible assumption
    | (with_reducible refine covers_tr hm ?_; decide)
    | with_reducible apply scrubRead_keeps
    | with_reducible apply atTime_keeps
    | intro _
    | split

theorem flipWrite_keeps (hm : covers 65665 m) {who : Sys2Proof.Caller} {k : ℕ} {v : ℕ} {d : Dev} (h_d : Keeps m d0 d) :
    Keeps m d0 (flipWrite who k v d) := by
  unfold flipWrite
  (try dsimp only)
  repeat' first
    | with_reducible assumption
    | (with_reducible refine covers_tr hm ?_; decide)
    | with_reducible apply regDrop_keeps
    | with_reducible apply mend_keeps
    | with_reducible apply regSet_keeps
    | intro _
    | split

theorem execFlipArm_keeps {who : Sys2Proof.Caller} {k : ℕ} {value : ℕ} {now : ℕ} {s : State} {t : State}
    (ht : execFlipArm who k value now s = .next t) : Keeps 4259973 s.dev t.dev := by
  have hm : covers 4259973 4259973 := rfl
  refine actOn_keeps (fun d hd => ?_) ht
  (try dsimp only)
  repeat' first
    | with_reducible assumption
    | (with_reducible refine covers_tr hm ?_; decide)
    | with_reducible apply regGate_keeps
    | with_reducible apply flipWrite_keeps
    | with_reducible apply atTime_keeps
    | intro _
    | split

theorem fillStart_keeps (hm : covers 8193 m) {c : ℕ} {d : Dev} (h_d : Keeps m d0 d) :
    Keeps m d0 (fillStart c d) := by
  unfold fillStart
  (try dsimp only)
  repeat' first
    | with_reducible assumption
    | (with_reducible refine covers_tr hm ?_; decide)
    | with_reducible apply setFld_keeps
    | with_reducible apply setDmaChan_keeps
    | intro _
    | split

theorem fillDone_keeps (hm : covers 8197 m) {c : ℕ} {d : Dev} (h_d : Keeps m d0 d) :
    Keeps m d0 (fillDone c d) := by
  unfold fillDone
  (try dsimp only)
  repeat' first
    | with_reducible assumption
    | (with_reducible refine covers_tr hm ?_; decide)
    | with_reducible apply setDmaChan_keeps
    | with_reducible apply objSet_keeps
    | with_reducible apply regSet_keeps
    | intro _
    | split

theorem execFill_keeps {chan : ℕ} {now : ℕ} {s : State} {t : State}
    (ht : execFill chan now s = .next t) : Keeps 4202497 s.dev t.dev := by
  have hm : covers 4202497 4202497 := rfl
  refine actOn_keeps (fun d hd => ?_) ht
  (try dsimp only)
  repeat' first
    | with_reducible assumption
    | (with_reducible refine covers_tr hm ?_; decide)
    | with_reducible apply fillStart_keeps
    | with_reducible apply atTime_keeps
    | intro _
    | split

theorem execSramCorrClr_keeps {who : Sys2Proof.Caller} {s : State} {t : State}
    (ht : execSramCorrClr who s = .next t) : Keeps 65669 s.dev t.dev := by
  have hm : covers 65669 65669 := rfl
  refine act_keeps (fun d hd => ?_) ht
  (try dsimp only)
  repeat' first
    | with_reducible assumption
    | (with_reducible refine covers_tr hm ?_; decide)
    | with_reducible apply regGate_keeps
    | with_reducible apply mend_keeps
    | with_reducible apply regSet_keeps
    | intro _
    | split

theorem execFillFrameDone_keeps {chan : ℕ} {now : ℕ} {s : State} {t : State}
    (ht : execFillFrameDone chan now s = .next t) : Keeps 4202501 s.dev t.dev := by
  have hm : covers 4202501 4202501 := rfl
  refine actOn_keeps (fun d hd => ?_) ht
  (try dsimp only)
  repeat' first
    | with_reducible assumption
    | (with_reducible refine covers_tr hm ?_; decide)
    | with_reducible apply fillDone_keeps
    | with_reducible apply atTime_keeps
    | intro _
    | split

/-! ## Reset -/

theorem warmUnits_keeps (hm : covers 4394276846350 m) {d : Dev} (h : Keeps m d0 d) : Keeps m d0 (warmUnits d) := by
  refine ⟨fun q0 => ?_, fun _ => .inr rfl, fun p hp => ?_⟩
  · have q := h.sound q0
    refine ⟨q.regs, objs_filter q.objs, q.mem, by simp [warmUnits], q.ring, ?_⟩
    have t := q.tabs
    constructor <;> first | exact rising_nil | exact rising_map t.msix | exact rising_putAll t.tiles | (cases t; assumption)
  · have := covers_bit hm (i := p.num)
    cases p <;> first | exact h.only _ hp | exact absurd hp (this (by decide))

theorem held_keeps (hm : covers 4194304 m) {d : Dev} (h_d : Keeps m d0 d) :
    Keeps m d0 (held d) := by
  unfold held
  (try dsimp only)
  repeat' first
    | with_reducible assumption
    | (with_reducible refine covers_tr hm ?_; decide)
    | with_reducible exact id
    | with_reducible exact rising_put
    | with_reducible exact rising_upd
    | with_reducible exact rising_set
    | with_reducible exact rising_erase
    | with_reducible exact rising_filter
    | with_reducible exact rising_tabFilter
    | with_reducible exact rising_map
    | with_reducible exact rising_to_nil
    | with_reducible exact rising_erase_two
    | simp only [keeps_mk]
    | with_reducible apply Keeps.set_tbs
    | intro _
    | split

theorem startupEnable_keeps (hm : covers 2199023255685 m) {d : Dev} (h_d : Keeps m d0 d) :
    Keeps m d0 (startupEnable d) := by
  unfold startupEnable
  (try dsimp only)
  repeat' first
    | with_reducible assumption
    | (with_reducible refine covers_tr hm ?_; decide)
    | with_reducible apply pulse_keeps
    | with_reducible apply objSet_keeps
    | with_reducible apply setFld_keeps
    | exact Or.inr trivial
    | (with_reducible refine Or.inr ?_; with_reducible rfl)
    | (with_reducible refine Or.inl ?_; first | with_reducible rfl | decide)
    | with_reducible exact id
    | with_reducible exact rising_put
    | with_reducible exact rising_upd
    | with_reducible exact rising_set
    | with_reducible exact rising_erase
    | with_reducible exact rising_filter
    | with_reducible exact rising_tabFilter
    | with_reducible exact rising_map
    | with_reducible exact rising_to_nil
    | with_reducible exact rising_erase_two
    | simp only [keeps_mk]
    | with_reducible apply Keeps.set_pwr
    | intro _
    | split

theorem execStartupEnable_keeps {now : ℕ} {s : State} {t : State}
    (ht : execStartupEnable now s = .next t) : Keeps 2199027449989 s.dev t.dev := by
  have hm : covers 2199027449989 2199027449989 := rfl
  refine act_keeps (fun d hd => ?_) ht
  (try dsimp only)
  repeat' first
    | with_reducible assumption
    | (with_reducible refine covers_tr hm ?_; decide)
    | with_reducible apply startupEnable_keeps
    | with_reducible apply atTime_keeps
    | intro _
    | split

theorem flushFaults_keeps (hm : covers 46841995701 m) {d : Dev} (h_d : Keeps m d0 d) :
    Keeps m d0 (flushFaults d) := by
  unfold flushFaults
  (try dsimp only)
  repeat' first
    | with_reducible assumption
    | (with_reducible refine covers_tr hm ?_; decide)
    | with_reducible apply acceptAll_keeps
    | with_reducible apply logNext_keeps
    | with_reducible apply forEach_keeps
    | exact Or.inr trivial
    | (with_reducible refine Or.inr ?_; with_reducible rfl)
    | (with_reducible refine Or.inl ?_; first | with_reducible rfl | decide)
    | with_reducible exact id
    | with_reducible exact rising_put
    | with_reducible exact rising_upd
    | with_reducible exact rising_set
    | with_reducible exact rising_erase
    | with_reducible exact rising_filter
    | with_reducible exact rising_tabFilter
    | with_reducible exact rising_map
    | with_reducible exact rising_to_nil
    | with_reducible exact rising_erase_two
    | simp only [keeps_mk]
    | with_reducible apply Keeps.set_flt
    | intro _
    | split

theorem warmBlocks_keeps (hm : covers 3221225472 m) {d : Dev} (h : Keeps m d0 d) : Keeps m d0 (warmBlocks d) := by
  have h1 : Keeps m d0 (forEach (blocksWith d fun _ => true) releaseBlock (setWrd { d.wrd with wanted := [] } d)) :=
    forEach_keeps _ (fun e d hd => releaseBlock_keeps (covers_tr hm (by decide)) hd) (setWrd_keeps (covers_tr hm (by decide)) h)
  unfold warmBlocks
  simp only [keeps_mk]
  exact Keeps.set_wrd_mem (covers_tr hm (by decide)) (fun _ => mem_nil) h1

theorem warmChan_keeps (hm : covers 536870916 m) {again : Bool} {c : ℕ} {d : Dev} (h_d : Keeps m d0 d) :
    Keeps m d0 (warmChan again c d) := by
  unfold warmChan
  (try dsimp only)
  repeat' first
    | with_reducible assumption
    | (with_reducible refine covers_tr hm ?_; decide)
    | with_reducible apply setChanState_keeps
    | with_reducible apply setChan_keeps
    | intro _
    | split

theorem fillAnew_keeps (hm : covers 5 m) {d : Dev} (h_d : Keeps m d0 d) :
    Keeps m d0 (fillAnew d) := by
  unfold fillAnew
  (try dsimp only)
  repeat' first
    | with_reducible assumption
    | (with_reducible refine covers_tr hm ?_; decide)
    | with_reducible apply setFld_keeps
    | with_reducible apply objReset_keeps
    | with_reducible apply forEach_keeps
    | intro _
    | split

theorem warmDram_keeps (hm : covers 1610612741 m) {d : Dev} (h_d : Keeps m d0 d) :
    Keeps m d0 (warmDram d) := by
  unfold warmDram
  (try dsimp only)
  repeat' first
    | with_reducible assumption
    | (with_reducible refine covers_tr hm ?_; decide)
    | with_reducible apply warmChan_keeps
    | with_reducible apply fillAnew_keeps
    | with_reducible apply setPairState_keeps
    | with_reducible apply forEach_keeps
    | intro _
    | split

theorem warmFlt_keeps (hm : covers 128 m) {d : Dev} (hb : d.pwr.booted = false) (h : Keeps m d0 d) : Keeps m d0 (warmFlt d) := by
  refine ⟨fun q0 => ?_, fun _ => .inr hb, fun p hp => ?_⟩
  · have q := h.sound q0
    refine ⟨q.regs, q.objs, q.mem, q.pair, q.ring, ?_⟩
    have t := q.tabs
    constructor <;> first | exact rising_map t.srcs | (cases t; assumption)
  · have := covers_bit hm (i := p.num)
    cases p <;> first | exact h.only _ hp | exact absurd hp (this (by decide))

theorem warmRegs_keeps (hm : covers 1 m) {d : Dev} (h_d : Keeps m d0 d) :
    Keeps m d0 (warmRegs d) := by
  unfold warmRegs
  (try dsimp only)
  repeat' first
    | with_reducible assumption
    | (with_reducible refine covers_tr hm ?_; decide)
    | with_reducible apply regSet_keeps
    | with_reducible apply forEach_keeps
    | intro _
    | split

theorem warmReset_keeps (hm : covers 4398034942911 m) {kind src : Nat} {d : Dev} (h : Keeps m d0 d) : Keeps m d0 (warmReset kind src d) := by
  unfold warmReset
  split
  · exact h
  · have hp : Keeps m d0 { d with pwr := { d.pwr with
        cause := kind, causeSrc := src, warmCnt := min 65535 (d.pwr.warmCnt + 1) } } := by
      simp only [keeps_mk]
      exact Keeps.set_pwr (covers_tr hm (by decide)) (.inr rfl) h
    have h1 := flushFaults_keeps (covers_tr hm (by decide)) hp
    have h2 := warmBlocks_keeps (covers_tr hm (by decide)) (warmDram_keeps (covers_tr hm (by decide))
      (stopAll_keeps (covers_tr hm (by decide)) h1))
    dsimp only
    generalize warmBlocks _ = d2 at h2
    have hu := warmUnits_keeps (covers_tr hm (by decide)) h2
    have hb : (warmRegs (warmUnits d2)).pwr.booted = false := by
      have e : (warmUnits d2).pwr = (warmRegs (warmUnits d2)).pwr :=
        (warmRegs_keeps (m := 1) rfl (.refl (warmUnits d2))).only .pwr rfl
      rw [← e]; rfl
    exact powerSettle_keeps (covers_tr hm (by decide)) (warmFlt_keeps (covers_tr hm (by decide)) hb
      (warmRegs_keeps (covers_tr hm (by decide)) hu))

theorem populate_keeps (hm : covers 2200633868421 m) {pop : ℕ} {causes : List ℕ} {d : Dev} (h_d : Keeps m d0 d) :
    Keeps m d0 (populate pop causes d) := by
  unfold populate
  (try dsimp only)
  repeat' first
    | with_reducible assumption
    | (with_reducible refine covers_tr hm ?_; decide)
    | with_reducible apply objSet_keeps
    | with_reducible apply setChanState_keeps
    | with_reducible apply trainFail_keeps
    | with_reducible apply setChan_keeps
    | with_reducible apply forEach_keeps
    | intro _
    | split

theorem tileCorrected_keeps (hm : covers 129 m) {t : ℕ} {d : Dev} (h_d : Keeps m d0 d) :
    Keeps m d0 (tileCorrected t d) := by
  unfold tileCorrected
  (try dsimp only)
  repeat' first
    | with_reducible assumption
    | (with_reducible refine covers_tr hm ?_; decide)
    | with_reducible apply pulse_keeps
    | with_reducible apply pairSet_keeps
    | with_reducible apply setFld_keeps
    | intro _
    | split

theorem disarmFlip_keeps (hm : covers 1 m) {cls : ℕ} {unit : ℕ} {d : Dev} (h_d : Keeps m d0 d) :
    Keeps m d0 (disarmFlip cls unit d) := by
  unfold disarmFlip
  (try dsimp only)
  repeat' first
    | with_reducible assumption
    | (with_reducible refine covers_tr hm ?_; decide)
    | with_reducible apply setFld_keeps
    | intro _
    | split

theorem memoryError_keeps (hm : covers 4398034942911 m) {unit : ℕ} {corrected : Bool} {addr : ℕ} {d : Dev} (h_d : Keeps m d0 d) :
    Keeps m d0 (memoryError unit corrected addr d) := by
  unfold memoryError
  (try dsimp only)
  repeat' first
    | with_reducible assumption
    | (with_reducible refine covers_tr hm ?_; decide)
    | with_reducible apply disarmFlip_keeps
    | with_reducible apply pulse_keeps
    | with_reducible apply regCount_keeps
    | with_reducible apply warmReset_keeps
    | with_reducible apply tileCorrected_keeps
    | with_reducible apply containTile_keeps
    | intro _
    | split

theorem execOnchipMemoryError_keeps {where_ : ℕ} {corrected : Bool} {addr : ℕ} {now : ℕ} {s : State} {t : State}
    (ht : execOnchipMemoryError where_ corrected addr now s = .next t) : Keeps 4398034942911 s.dev t.dev := by
  have hm : covers 4398034942911 4398034942911 := rfl
  refine actOn_keeps (fun d hd => ?_) ht
  (try dsimp only)
  repeat' first
    | with_reducible assumption
    | (with_reducible refine covers_tr hm ?_; decide)
    | with_reducible apply memoryError_keeps
    | with_reducible apply atTime_keeps
    | intro _
    | split

theorem coldDev_keeps (hm : covers 4398046510991 m) {kind nodeId : Nat} {master : Bool} {d : Dev} (h : Keeps m d0 d) :
    Keeps m d0 (coldDev kind nodeId master d) := by
  refine objSet_keeps (covers_tr hm (by decide)) ⟨fun q0 => ⟨regs_nil, objs_filter (h.sound q0).objs, mem_nil, Nat.zero_le 5,
    (by decide : 1 ≤ 5), by constructor <;> exact rising_nil⟩, fun _ => .inr rfl, fun p hp => ?_⟩
  have := covers_bit hm (i := p.num)
  cases p <;> first | exact h.only _ hp | exact absurd hp (this (by decide))

theorem porExit_keeps (hm : covers 4398046510991 m) {kind : ℕ} {straps : ℕ} {d : Dev} (h_d : Keeps m d0 d) :
    Keeps m d0 (porExit kind straps d) := by
  unfold porExit
  (try dsimp only)
  repeat' first
    | with_reducible assumption
    | (with_reducible refine covers_tr hm ?_; decide)
    | with_reducible apply powerSettle_keeps
    | with_reducible apply coldDev_keeps
    | intro _
    | split

theorem startTiles_keeps (hm : covers 8589934592 m) {d : Dev} (h_d : Keeps m d0 d) :
    Keeps m d0 (startTiles d) := by
  unfold startTiles
  (try dsimp only)
  repeat' first
    | with_reducible assumption
    | (with_reducible refine covers_tr hm ?_; decide)
    | with_reducible apply updTile_keeps
    | with_reducible apply recomputeVotes_keeps
    | with_reducible apply reserveSpares_keeps
    | with_reducible apply forEach_keeps
    | intro _
    | split

theorem drawOwnKeys_keeps (hm : covers 33554496 m) {d : Dev} (h_d : Keeps m d0 d) :
    Keeps m d0 (drawOwnKeys d) := by
  unfold drawOwnKeys
  (try dsimp only)
  repeat' first
    | with_reducible assumption
    | (with_reducible refine covers_tr hm ?_; decide)
    | with_reducible apply rngNext_keeps
    | with_reducible exact id
    | with_reducible exact rising_put
    | with_reducible exact rising_upd
    | with_reducible exact rising_set
    | with_reducible exact rising_erase
    | with_reducible exact rising_filter
    | with_reducible exact rising_tabFilter
    | with_reducible exact rising_map
    | with_reducible exact rising_to_nil
    | with_reducible exact rising_erase_two
    | simp only [keeps_mk]
    | with_reducible apply Keeps.set_sec
    | intro _
    | split

theorem firmwareRuns_keeps (hm : covers 2209257357509 m) {pop : ℕ} {causes : List ℕ} {d : Dev} (h_d : Keeps m d0 d) :
    Keeps m d0 (firmwareRuns pop causes d) := by
  unfold firmwareRuns
  (try dsimp only)
  repeat' first
    | with_reducible assumption
    | (with_reducible refine covers_tr hm ?_; decide)
    | with_reducible apply startTiles_keeps
    | with_reducible apply drawOwnKeys_keeps
    | with_reducible apply populate_keeps
    | with_reducible apply powerSettle_keeps
    | with_reducible apply beginTraining_keeps
    | exact Or.inr trivial
    | (with_reducible refine Or.inr ?_; with_reducible rfl)
    | (with_reducible refine Or.inl ?_; first | with_reducible rfl | decide)
    | with_reducible exact id
    | with_reducible exact rising_put
    | with_reducible exact rising_upd
    | with_reducible exact rising_set
    | with_reducible exact rising_erase
    | with_reducible exact rising_filter
    | with_reducible exact rising_tabFilter
    | with_reducible exact rising_map
    | with_reducible exact rising_to_nil
    | with_reducible exact rising_erase_two
    | simp only [keeps_mk]
    | with_reducible apply Keeps.set_pwr
    | intro _
    | split

theorem firmwareBoot_keeps (hm : covers 2209257357509 m) {header : Nat} {aOk bOk : Bool} {pop : Nat} {causes : List Nat} {d : Dev}
    (hb : d0.flt.safe = true ∧ d0.pwr.booted = true → d.pwr.booted = true) (h : Keeps m d0 d) :
    Keeps m d0 (firmwareBoot header aOk bOk pop causes d) := by
  unfold firmwareBoot
  split
  · exact h
  · next hn =>
    have hf : ¬ (d0.flt.safe = true ∧ d0.pwr.booted = true) := fun e => by simp [hb e] at hn
    have hp : ∀ x : Pwr, KeepsMk m d0 { d with pwr := x } := fun x => by
      refine ⟨⟨fun q0 => ?_, fun e => (hf e).elim, fun p hp => ?_⟩⟩
      · have q := h.sound q0
        have t := q.tabs
        exact ⟨q.regs, q.objs, q.mem, q.pair, q.ring, by cases t; constructor <;> assumption⟩
      · have := covers_bit (i := 41) hm (by decide)
        cases p <;> first | exact h.only _ hp | exact absurd hp this
    dsimp only
    repeat' first
      | with_reducible apply hp
      | (with_reducible refine covers_tr hm ?_; decide)
      | with_reducible apply firmwareRuns_keeps
      | with_reducible apply powerSettle_keeps
      | with_reducible apply level_keeps
      | simp only [keeps_mk]
      | split

theorem execFirmwareBoot_keeps {header : Nat} {aOk bOk : Bool} {pop : Nat} {causes : List Nat} {now : Nat} {s t : State}
    (ht : execFirmwareBoot header aOk bOk pop causes now s = .next t) : Keeps 2209261551813 s.dev t.dev := by
  have hm : covers 2209261551813 2209261551813 := rfl
  cases ht
  dsimp only
  split
  · exact .refl _
  · refine firmwareBoot_keeps (covers_tr hm (by decide)) (fun e => ?_) (atTime_keeps (covers_tr hm (by decide)) (.refl _))
    rw [← e.2]; unfold atTime; split <;> rfl

theorem coldReset_keeps (hm : covers 4398046510991 m) {d : Dev} (h_d : Keeps m d0 d) :
    Keeps m d0 (coldReset d) := by
  unfold coldReset
  (try dsimp only)
  repeat' first
    | with_reducible assumption
    | (with_reducible refine covers_tr hm ?_; decide)
    | with_reducible apply powerSettle_keeps
    | with_reducible apply coldDev_keeps
    | intro _
    | split

theorem resetAsked_keeps (hm : covers 4398046511039 m) {kind : ℕ} {d : Dev} (h_d : Keeps m d0 d) :
    Keeps m d0 (resetAsked kind d) := by
  unfold resetAsked
  (try dsimp only)
  repeat' first
    | with_reducible assumption
    | (with_reducible refine covers_tr hm ?_; decide)
    | with_reducible apply coldReset_keeps
    | with_reducible apply warmReset_keeps
    | with_reducible apply evalPackage_keeps
    | exact Or.inr trivial
    | (with_reducible refine Or.inr ?_; with_reducible rfl)
    | (with_reducible refine Or.inl ?_; first | with_reducible rfl | decide)
    | with_reducible exact id
    | with_reducible exact rising_put
    | with_reducible exact rising_upd
    | with_reducible exact rising_set
    | with_reducible exact rising_erase
    | with_reducible exact rising_filter
    | with_reducible exact rising_tabFilter
    | with_reducible exact rising_map
    | with_reducible exact rising_to_nil
    | with_reducible exact rising_erase_two
    | simp only [keeps_mk]
    | with_reducible apply Keeps.set_pwr
    | intro _
    | split

theorem resetRequest_keeps (hm : covers 4398046511039 m) {q : Sys2Proof.Req} {v : ℕ} {d : Dev} (h_d : Keeps m d0 d) :
    Keeps m d0 (resetRequest q v d) := by
  unfold resetRequest
  (try dsimp only)
  repeat' first
    | with_reducible assumption
    | (with_reducible refine covers_tr hm ?_; decide)
    | with_reducible apply decideWrite_keeps
    | with_reducible apply refuse_keeps
    | with_reducible apply resetAsked_keeps
    | with_reducible apply accept_keeps
    | intro _
    | split

theorem execColdResetRequest_keeps {q : Sys2Proof.Req} {s : State} {t : State}
    (ht : execColdResetRequest q s = .next t) : Keeps 4398046511039 s.dev t.dev := by
  have hm : covers 4398046511039 4398046511039 := rfl
  refine act_keeps (fun d hd => ?_) ht
  (try dsimp only)
  repeat' first
    | with_reducible assumption
    | (with_reducible refine covers_tr hm ?_; decide)
    | with_reducible apply resetRequest_keeps
    | intro _
    | split

theorem execAonSupplyReturn_keeps {straps : ℕ} {s : State} {t : State}
    (ht : execAonSupplyReturn straps s = .next t) : Keeps 4398046510991 s.dev t.dev := by
  have hm : covers 4398046510991 4398046510991 := rfl
  refine actHeld_keeps (fun d hd => ?_) ht
  (try dsimp only)
  repeat' first
    | with_reducible assumption
    | (with_reducible refine covers_tr hm ?_; decide)
    | with_reducible apply porExit_keeps
    | exact Or.inr trivial
    | (with_reducible refine Or.inr ?_; with_reducible rfl)
    | (with_reducible refine Or.inl ?_; first | with_reducible rfl | decide)
    | with_reducible exact id
    | with_reducible exact rising_put
    | with_reducible exact rising_upd
    | with_reducible exact rising_set
    | with_reducible exact rising_erase
    | with_reducible exact rising_filter
    | with_reducible exact rising_tabFilter
    | with_reducible exact rising_map
    | with_reducible exact rising_to_nil
    | with_reducible exact rising_erase_two
    | simp only [keeps_mk]
    | with_reducible apply Keeps.set_pwr
    | intro _
    | split

theorem execWarmResetRequest_keeps {q : Sys2Proof.Req} {s : State} {t : State}
    (ht : execWarmResetRequest q s = .next t) : Keeps 4398046511039 s.dev t.dev := by
  have hm : covers 4398046511039 4398046511039 := rfl
  refine act_keeps (fun d hd => ?_) ht
  (try dsimp only)
  repeat' first
    | with_reducible assumption
    | (with_reducible refine covers_tr hm ?_; decide)
    | with_reducible apply resetRequest_keeps
    | intro _
    | split

theorem execPorNFall_keeps {s : State} {t : State}
    (ht : execPorNFall s = .next t) : Keeps 4398046510991 s.dev t.dev := by
  have hm : covers 4398046510991 4398046510991 := rfl
  refine actHeld_keeps (fun d hd => ?_) ht
  (try dsimp only)
  repeat' first
    | with_reducible assumption
    | (with_reducible refine covers_tr hm ?_; decide)
    | with_reducible apply held_keeps
    | with_reducible apply coldDev_keeps
    | exact Or.inr trivial
    | (with_reducible refine Or.inr ?_; with_reducible rfl)
    | (with_reducible refine Or.inl ?_; first | with_reducible rfl | decide)
    | with_reducible exact id
    | with_reducible exact rising_put
    | with_reducible exact rising_upd
    | with_reducible exact rising_set
    | with_reducible exact rising_erase
    | with_reducible exact rising_filter
    | with_reducible exact rising_tabFilter
    | with_reducible exact rising_map
    | with_reducible exact rising_to_nil
    | with_reducible exact rising_erase_two
    | simp only [keeps_mk]
    | with_reducible apply Keeps.set_pwr
    | intro _
    | split

theorem execPorNRise_keeps {straps : ℕ} {s : State} {t : State}
    (ht : execPorNRise straps s = .next t) : Keeps 4398046510991 s.dev t.dev := by
  have hm : covers 4398046510991 4398046510991 := rfl
  refine actHeld_keeps (fun d hd => ?_) ht
  (try dsimp only)
  repeat' first
    | with_reducible assumption
    | (with_reducible refine covers_tr hm ?_; decide)
    | with_reducible apply porExit_keeps
    | exact Or.inr trivial
    | (with_reducible refine Or.inr ?_; with_reducible rfl)
    | (with_reducible refine Or.inl ?_; first | with_reducible rfl | decide)
    | with_reducible exact id
    | with_reducible exact rising_put
    | with_reducible exact rising_upd
    | with_reducible exact rising_set
    | with_reducible exact rising_erase
    | with_reducible exact rising_filter
    | with_reducible exact rising_tabFilter
    | with_reducible exact rising_map
    | with_reducible exact rising_to_nil
    | with_reducible exact rising_erase_two
    | simp only [keeps_mk]
    | with_reducible apply Keeps.set_pwr
    | intro _
    | split

theorem execAonBrownOut_keeps {s : State} {t : State}
    (ht : execAonBrownOut s = .next t) : Keeps 4398046510991 s.dev t.dev := by
  have hm : covers 4398046510991 4398046510991 := rfl
  refine actHeld_keeps (fun d hd => ?_) ht
  (try dsimp only)
  repeat' first
    | with_reducible assumption
    | (with_reducible refine covers_tr hm ?_; decide)
    | with_reducible apply held_keeps
    | with_reducible apply coldDev_keeps
    | exact Or.inr trivial
    | (with_reducible refine Or.inr ?_; with_reducible rfl)
    | (with_reducible refine Or.inl ?_; first | with_reducible rfl | decide)
    | with_reducible exact id
    | with_reducible exact rising_put
    | with_reducible exact rising_upd
    | with_reducible exact rising_set
    | with_reducible exact rising_erase
    | with_reducible exact rising_filter
    | with_reducible exact rising_tabFilter
    | with_reducible exact rising_map
    | with_reducible exact rising_to_nil
    | with_reducible exact rising_erase_two
    | simp only [keeps_mk]
    | with_reducible apply Keeps.set_pwr
    | intro _
    | split

/-! ## Power -/

theorem setPwr_keeps (hm : covers 2199023255552 m) {x : Pwr} {d : Dev} (hx : x.booted = false ∨ x.booted = d.pwr.booted) (h : Keeps m d0 d) :
    Keeps m d0 (setPwr x d) := (Keeps.set_pwr hm hx h).keeps

theorem setSensor_keeps (hm : covers 2199023255552 m) {i : ℕ} {x : Sensor} {d : Dev} (h_d : Keeps m d0 d) :
    Keeps m d0 (setSensor i x d) := by
  unfold setSensor
  (try dsimp only)
  repeat' first
    | with_reducible assumption
    | (with_reducible refine covers_tr hm ?_; decide)
    | with_reducible apply setPwr_keeps
    | (with_reducible refine Or.inr ?_; with_reducible rfl)
    | (with_reducible refine Or.inl ?_; first | with_reducible rfl | decide | omega)
    | intro _
    | split

theorem sensorFails_keeps (hm : covers 2199023255680 m) {i : ℕ} {d : Dev} (h_d : Keeps m d0 d) :
    Keeps m d0 (sensorFails i d) := by
  unfold sensorFails
  (try dsimp only)
  repeat' first
    | with_reducible assumption
    | (with_reducible refine covers_tr hm ?_; decide)
    | with_reducible apply pulse_keeps
    | with_reducible apply setSensor_keeps
    | intro _
    | split

theorem railSample_keeps (hm : covers 2199023255680 m) {r : ℕ} {v : Option (ℕ × ℕ)} {d : Dev} (h_d : Keeps m d0 d) :
    Keeps m d0 (railSample r v d) := by
  unfold railSample
  (try dsimp only)
  repeat' first
    | with_reducible assumption
    | (with_reducible refine covers_tr hm ?_; decide)
    | with_reducible apply sensorFails_keeps
    | with_reducible apply setSensor_keeps
    | with_reducible apply level_keeps
    | with_reducible apply levelEnd_keeps
    | intro _
    | split

theorem powerSample_keeps (hm : covers 2199023255680 m) {mw : ℕ} {rails : List (Option (ℕ × ℕ))} {d : Dev} (h_d : Keeps m d0 d) :
    Keeps m d0 (powerSample mw rails d) := by
  unfold powerSample
  (try dsimp only)
  repeat' first
    | with_reducible assumption
    | (with_reducible refine covers_tr hm ?_; decide)
    | with_reducible apply setPwr_keeps
    | with_reducible apply railSample_keeps
    | (with_reducible refine Or.inr ?_; with_reducible rfl)
    | (with_reducible refine Or.inl ?_; first | with_reducible rfl | decide | omega)
    | with_reducible apply forEach_keeps
    | intro _
    | split

theorem powerGood_keeps (hm : covers 2208150061056 m) {k : ℕ} {now : ℕ} {d02 : Dev} (h_d02 : Keeps m d0 d02) :
    Keeps m d0 (powerGood k now d02) := by
  unfold powerGood
  (try dsimp only)
  repeat' first
    | with_reducible assumption
    | (with_reducible refine covers_tr hm ?_; decide)
    | with_reducible apply powerSettle_keeps
    | with_reducible apply setDom_keeps
    | with_reducible apply updTile_keeps
    | with_reducible apply setOn_keeps
    | intro _
    | split

theorem execDomainPowerGood_keeps {domain : ℕ} {now : ℕ} {s : State} {t : State}
    (ht : execDomainPowerGood domain now s = .next t) : Keeps 2208154255360 s.dev t.dev := by
  have hm : covers 2208154255360 2208154255360 := rfl
  refine actOn_keeps (fun d hd => ?_) ht
  (try dsimp only)
  repeat' first
    | with_reducible assumption
    | (with_reducible refine covers_tr hm ?_; decide)
    | with_reducible apply powerGood_keeps
    | with_reducible apply atTime_keeps
    | intro _
    | split

theorem idleOff_keeps (hm : covers 2199560126464 m) {t : ℕ} {now : ℕ} {d02 : Dev} (h_d02 : Keeps m d0 d02) :
    Keeps m d0 (idleOff t now d02) := by
  unfold idleOff
  (try dsimp only)
  repeat' first
    | with_reducible assumption
    | (with_reducible refine covers_tr hm ?_; decide)
    | with_reducible apply powerSettle_keeps
    | with_reducible apply setDom_keeps
    | intro _
    | split

theorem execTileIdleOff_keeps {tile : ℕ} {now : ℕ} {s : State} {t : State}
    (ht : execTileIdleOff tile now s = .next t) : Keeps 2199564320768 s.dev t.dev := by
  have hm : covers 2199564320768 2199564320768 := rfl
  refine actOn_keeps (fun d hd => ?_) ht
  (try dsimp only)
  repeat' first
    | with_reducible assumption
    | (with_reducible refine covers_tr hm ?_; decide)
    | with_reducible apply idleOff_keeps
    | with_reducible apply atTime_keeps
    | intro _
    | split

theorem overtime_keeps (hm : covers 2199023255680 m) {now : ℕ} {d : Dev} (h_d : Keeps m d0 d) :
    Keeps m d0 (overtime now d) := by
  unfold overtime
  (try dsimp only)
  repeat' first
    | with_reducible assumption
    | (with_reducible refine covers_tr hm ?_; decide)
    | with_reducible apply pulse_keeps
    | exact Or.inr trivial
    | (with_reducible refine Or.inr ?_; with_reducible rfl)
    | (with_reducible refine Or.inl ?_; first | with_reducible rfl | decide)
    | with_reducible exact id
    | with_reducible exact rising_put
    | with_reducible exact rising_upd
    | with_reducible exact rising_set
    | with_reducible exact rising_erase
    | with_reducible exact rising_filter
    | with_reducible exact rising_tabFilter
    | with_reducible exact rising_map
    | with_reducible exact rising_to_nil
    | with_reducible exact rising_erase_two
    | simp only [keeps_mk]
    | with_reducible apply Keeps.set_pwr
    | intro _
    | split

theorem goodTimeout_keeps (hm : covers 3776014457237 m) {k : ℕ} {now : ℕ} {d : Dev} (h_d : Keeps m d0 d) :
    Keeps m d0 (goodTimeout k now d) := by
  unfold goodTimeout
  (try dsimp only)
  repeat' first
    | with_reducible assumption
    | (with_reducible refine covers_tr hm ?_; decide)
    | with_reducible apply pulse_keeps
    | with_reducible apply setDom_keeps
    | with_reducible apply updTile_keeps
    | with_reducible apply nextSpare_keeps
    | with_reducible apply objCount_keeps
    | with_reducible apply tileFails_keeps
    | intro _
    | split

theorem execPowerSample_keeps {mw : ℕ} {rails : List (Option (ℕ × ℕ))} {now : ℕ} {s : State} {t : State}
    (ht : execPowerSample mw rails now s = .next t) : Keeps 2199027449984 s.dev t.dev := by
  have hm : covers 2199027449984 2199027449984 := rfl
  refine act_keeps (fun d hd => ?_) ht
  (try dsimp only)
  repeat' first
    | with_reducible assumption
    | (with_reducible refine covers_tr hm ?_; decide)
    | with_reducible apply powerSample_keeps
    | with_reducible apply atTime_keeps
    | intro _
    | split

theorem wakeEdge_keeps (hm : covers 4194304 m) {d : Dev} (h_d : Keeps m d0 d) :
    Keeps m d0 (wakeEdge d) := by
  unfold wakeEdge
  (try dsimp only)
  repeat' first
    | with_reducible assumption
    | (with_reducible refine covers_tr hm ?_; decide)
    | with_reducible exact id
    | with_reducible exact rising_put
    | with_reducible exact rising_upd
    | with_reducible exact rising_set
    | with_reducible exact rising_erase
    | with_reducible exact rising_filter
    | with_reducible exact rising_tabFilter
    | with_reducible exact rising_map
    | with_reducible exact rising_to_nil
    | with_reducible exact rising_erase_two
    | simp only [keeps_mk]
    | with_reducible apply Keeps.set_tbs
    | intro _
    | split

theorem execWakeEdge_keeps {s : State} {t : State}
    (ht : execWakeEdge s = .next t) : Keeps 4194304 s.dev t.dev := by
  have hm : covers 4194304 4194304 := rfl
  refine act_keeps (fun d hd => ?_) ht
  (try dsimp only)
  repeat' first
    | with_reducible assumption
    | (with_reducible refine covers_tr hm ?_; decide)
    | with_reducible apply wakeEdge_keeps
    | intro _
    | split

theorem domainLost_keeps (hm : covers 4380039774013 m) {k : ℕ} {d : Dev} (h_d : Keeps m d0 d) :
    Keeps m d0 (domainLost k d) := by
  unfold domainLost
  (try dsimp only)
  repeat' first
    | with_reducible assumption
    | (with_reducible refine covers_tr hm ?_; decide)
    | with_reducible apply updTile_keeps
    | with_reducible apply linkReset_keeps
    | with_reducible apply linkDown_keeps
    | with_reducible apply forEach_keeps
    | exact Or.inr trivial
    | (with_reducible refine Or.inr ?_; with_reducible rfl)
    | (with_reducible refine Or.inl ?_; first | with_reducible rfl | decide)
    | with_reducible exact id
    | with_reducible exact rising_put
    | with_reducible exact rising_upd
    | with_reducible exact rising_set
    | with_reducible exact rising_erase
    | with_reducible exact rising_filter
    | with_reducible exact rising_tabFilter
    | with_reducible exact rising_map
    | with_reducible exact rising_to_nil
    | with_reducible exact rising_erase_two
    | simp only [keeps_mk]
    | with_reducible apply Keeps.set_pwr
    | intro _
    | split

theorem domainOff_keeps (hm : covers 4380576644925 m) {k : ℕ} {now : ℕ} {d02 : Dev} (h_d02 : Keeps m d0 d02) :
    Keeps m d0 (domainOff k now d02) := by
  unfold domainOff
  (try dsimp only)
  repeat' first
    | with_reducible assumption
    | (with_reducible refine covers_tr hm ?_; decide)
    | with_reducible apply powerSettle_keeps
    | with_reducible apply setDom_keeps
    | with_reducible apply domainLost_keeps
    | with_reducible apply setOn_keeps
    | with_reducible apply setPads_keeps
    | intro _
    | split

theorem execDomainOff_keeps {domain : ℕ} {now : ℕ} {s : State} {t : State}
    (ht : execDomainOff domain now s = .next t) : Keeps 4380580839229 s.dev t.dev := by
  have hm : covers 4380580839229 4380580839229 := rfl
  refine actOn_keeps (fun d hd => ?_) ht
  (try dsimp only)
  repeat' first
    | with_reducible assumption
    | (with_reducible refine covers_tr hm ?_; decide)
    | with_reducible apply domainOff_keeps
    | with_reducible apply atTime_keeps
    | intro _
    | split

theorem sleepEntry_keeps (hm : covers 2199564320768 m) {now : ℕ} {d01 : Dev} (h_d01 : Keeps m d0 d01) :
    Keeps m d0 (sleepEntry now d01) := by
  unfold sleepEntry
  (try dsimp only)
  repeat' first
    | with_reducible assumption
    | (with_reducible refine covers_tr hm ?_; decide)
    | with_reducible apply powerSettle_keeps
    | with_reducible exact id
    | with_reducible exact rising_put
    | with_reducible exact rising_upd
    | with_reducible exact rising_set
    | with_reducible exact rising_erase
    | with_reducible exact rising_filter
    | with_reducible exact rising_tabFilter
    | with_reducible exact rising_map
    | with_reducible exact rising_to_nil
    | with_reducible exact rising_erase_two
    | simp only [keeps_mk]
    | with_reducible apply Keeps.set_tbs
    | intro _
    | split

theorem execEthernetWakePattern_keeps {port : ℕ} {now : ℕ} {s : State} {t : State}
    (ht : execEthernetWakePattern port now s = .next t) : Keeps 2199564320768 s.dev t.dev := by
  have hm : covers 2199564320768 2199564320768 := rfl
  refine actOn_keeps (fun d hd => ?_) ht
  (try dsimp only)
  repeat' first
    | with_reducible assumption
    | (with_reducible refine covers_tr hm ?_; decide)
    | with_reducible apply setWake_keeps
    | with_reducible apply atTime_keeps
    | intro _
    | split

theorem execSleepEntryEdge_keeps {now : ℕ} {s : State} {t : State}
    (ht : execSleepEntryEdge now s = .next t) : Keeps 2199564320768 s.dev t.dev := by
  have hm : covers 2199564320768 2199564320768 := rfl
  refine act_keeps (fun d hd => ?_) ht
  (try dsimp only)
  repeat' first
    | with_reducible assumption
    | (with_reducible refine covers_tr hm ?_; decide)
    | with_reducible apply sleepEntry_keeps
    | with_reducible apply atTime_keeps
    | intro _
    | split

theorem transitionComplete_keeps (hm : covers 4398034942911 m) {now : ℕ} {d01 : Dev} (h_d01 : Keeps m d0 d01) :
    Keeps m d0 (transitionComplete now d01) := by
  unfold transitionComplete
  (try dsimp only)
  repeat' first
    | with_reducible assumption
    | (with_reducible refine covers_tr hm ?_; decide)
    | with_reducible apply powerSettle_keeps
    | with_reducible apply raise_keeps
    | with_reducible apply warmReset_keeps
    | with_reducible apply evalPackage_keeps
    | exact Or.inr trivial
    | (with_reducible refine Or.inr ?_; with_reducible rfl)
    | (with_reducible refine Or.inl ?_; first | with_reducible rfl | decide)
    | with_reducible exact id
    | with_reducible exact rising_put
    | with_reducible exact rising_upd
    | with_reducible exact rising_set
    | with_reducible exact rising_erase
    | with_reducible exact rising_filter
    | with_reducible exact rising_tabFilter
    | with_reducible exact rising_map
    | with_reducible exact rising_to_nil
    | with_reducible exact rising_erase_two
    | simp only [keeps_mk]
    | with_reducible apply Keeps.set_pwr
    | intro _
    | split

theorem referenceReturn_keeps (hm : covers 2199023255680 m) {k : ℕ} {d : Dev} (h_d : Keeps m d0 d) :
    Keeps m d0 (referenceReturn k d) := by
  unfold referenceReturn
  (try dsimp only)
  repeat' first
    | with_reducible assumption
    | (with_reducible refine covers_tr hm ?_; decide)
    | with_reducible apply setPwr_keeps
    | with_reducible apply levelEnd_keeps
    | (with_reducible refine Or.inr ?_; with_reducible rfl)
    | (with_reducible refine Or.inl ?_; first | with_reducible rfl | decide | omega)
    | intro _
    | split

theorem packageAct_keeps (hm : covers 2199564320772 m) {v : ℕ} {d : Dev} (h_d : Keeps m d0 d) :
    Keeps m d0 (packageAct v d) := by
  unfold packageAct
  (try dsimp only)
  repeat' first
    | with_reducible assumption
    | (with_reducible refine covers_tr hm ?_; decide)
    | with_reducible apply objSet_keeps
    | with_reducible apply evalPackage_keeps
    | exact Or.inr trivial
    | (with_reducible refine Or.inr ?_; with_reducible rfl)
    | (with_reducible refine Or.inl ?_; first | with_reducible rfl | decide)
    | with_reducible exact id
    | with_reducible exact rising_put
    | with_reducible exact rising_upd
    | with_reducible exact rising_set
    | with_reducible exact rising_erase
    | with_reducible exact rising_filter
    | with_reducible exact rising_tabFilter
    | with_reducible exact rising_map
    | with_reducible exact rising_to_nil
    | with_reducible exact rising_erase_two
    | simp only [keeps_mk]
    | with_reducible apply Keeps.set_pwr
    | intro _
    | split

theorem packageWrite_keeps (hm : covers 2199836295445 m) {q : Sys2Proof.Req} {value : ℕ} {a : Dev} (h_a : Keeps m d0 a) :
    Keeps m d0 (packageWrite q value a) := by
  unfold packageWrite
  (try dsimp only)
  repeat' first
    | with_reducible assumption
    | (with_reducible refine covers_tr hm ?_; decide)
    | with_reducible apply perform_keeps
    | with_reducible apply packageAct_keeps
    | intro _
    | split

theorem execWakeNLow_keeps {now : ℕ} {s : State} {t : State}
    (ht : execWakeNLow now s = .next t) : Keeps 2199564320768 s.dev t.dev := by
  have hm : covers 2199564320768 2199564320768 := rfl
  refine act_keeps (fun d hd => ?_) ht
  (try dsimp only)
  repeat' first
    | with_reducible assumption
    | (with_reducible refine covers_tr hm ?_; decide)
    | with_reducible apply setWake_keeps
    | with_reducible apply atTime_keeps
    | intro _
    | split

theorem execSleepCountEdge_keeps {s : State} {t : State}
    (ht : execSleepCountEdge s = .next t) : Keeps 4194304 s.dev t.dev := by
  have hm : covers 4194304 4194304 := rfl
  refine act_keeps (fun d hd => ?_) ht
  (try dsimp only)
  repeat' first
    | with_reducible assumption
    | (with_reducible refine covers_tr hm ?_; decide)
    | with_reducible exact id
    | with_reducible exact rising_put
    | with_reducible exact rising_upd
    | with_reducible exact rising_set
    | with_reducible exact rising_erase
    | with_reducible exact rising_filter
    | with_reducible exact rising_tabFilter
    | with_reducible exact rising_map
    | with_reducible exact rising_to_nil
    | with_reducible exact rising_erase_two
    | simp only [keeps_mk]
    | with_reducible apply Keeps.set_tbs
    | intro _
    | split

theorem junctionSample_keeps (hm : covers 2199023255680 m) {i : ℕ} {v : Option ℤ} {d : Dev} (h_d : Keeps m d0 d) :
    Keeps m d0 (junctionSample i v d) := by
  unfold junctionSample
  (try dsimp only)
  repeat' first
    | with_reducible assumption
    | (with_reducible refine covers_tr hm ?_; decide)
    | with_reducible apply sensorFails_keeps
    | with_reducible apply setSensor_keeps
    | intro _
    | split

theorem thermalEnd_keeps (hm : covers 128 m) {k : ℕ} {d : Dev} (h_d : Keeps m d0 d) :
    Keeps m d0 (thermalEnd k d) := by
  unfold thermalEnd
  (try dsimp only)
  repeat' first
    | with_reducible assumption
    | (with_reducible refine covers_tr hm ?_; decide)
    | with_reducible apply levelEnd_keeps
    | with_reducible apply forEach_keeps
    | intro _
    | split

theorem thermalStep_keeps (hm : covers 2199023255936 m) {k : ℕ} {d : Dev} (h_d : Keeps m d0 d) :
    Keeps m d0 (thermalStep k d) := by
  unfold thermalStep
  (try dsimp only)
  repeat' first
    | with_reducible assumption
    | (with_reducible refine covers_tr hm ?_; decide)
    | with_reducible apply setPwr_keeps
    | with_reducible apply level_keeps
    | with_reducible apply raise_keeps
    | with_reducible apply thermalEnd_keeps
    | (with_reducible refine Or.inr ?_; with_reducible rfl)
    | (with_reducible refine Or.inl ?_; first | with_reducible rfl | decide | omega)
    | intro _
    | split

theorem sensorSample_keeps (hm : covers 2199023255936 m) {temps : List (Option ℤ)} {d : Dev} (h_d : Keeps m d0 d) :
    Keeps m d0 (sensorSample temps d) := by
  unfold sensorSample
  (try dsimp only)
  repeat' first
    | with_reducible assumption
    | (with_reducible refine covers_tr hm ?_; decide)
    | with_reducible apply junctionSample_keeps
    | with_reducible apply thermalStep_keeps
    | with_reducible apply forEach_keeps
    | intro _
    | split

theorem execSensorSample_keeps {temps : List (Option ℤ)} {now : ℕ} {s : State} {t : State}
    (ht : execSensorSample temps now s = .next t) : Keeps 2199027450240 s.dev t.dev := by
  have hm : covers 2199027450240 2199027450240 := rfl
  refine act_keeps (fun d hd => ?_) ht
  (try dsimp only)
  repeat' first
    | with_reducible assumption
    | (with_reducible refine covers_tr hm ?_; decide)
    | with_reducible apply sensorSample_keeps
    | with_reducible apply atTime_keeps
    | intro _
    | split

theorem clockStops_keeps (hm : covers 2172430778173 m) {k : ℕ} {d : Dev} (h_d : Keeps m d0 d) :
    Keeps m d0 (clockStops k d) := by
  unfold clockStops
  (try dsimp only)
  repeat' first
    | with_reducible assumption
    | (with_reducible refine covers_tr hm ?_; decide)
    | with_reducible apply linkDown_keeps
    | with_reducible apply linkReset_keeps
    | with_reducible apply forEach_keeps
    | with_reducible exact id
    | with_reducible exact rising_put
    | with_reducible exact rising_upd
    | with_reducible exact rising_set
    | with_reducible exact rising_erase
    | with_reducible exact rising_filter
    | with_reducible exact rising_tabFilter
    | with_reducible exact rising_map
    | with_reducible exact rising_to_nil
    | with_reducible exact rising_erase_two
    | simp only [keeps_mk]
    | with_reducible apply Keeps.set_tbs
    | intro _
    | split

theorem referenceLoss_keeps (hm : covers 4371454033853 m) {k : ℕ} {d : Dev} (h_d : Keeps m d0 d) :
    Keeps m d0 (referenceLoss k d) := by
  unfold referenceLoss
  (try dsimp only)
  repeat' first
    | with_reducible assumption
    | (with_reducible refine covers_tr hm ?_; decide)
    | with_reducible apply clockStops_keeps
    | with_reducible apply level_keeps
    | with_reducible apply setPwr_keeps
    | (with_reducible refine Or.inr ?_; with_reducible rfl)
    | (with_reducible refine Or.inl ?_; first | with_reducible rfl | decide | omega)
    | intro _
    | split

theorem execReferenceLoss_keeps {clock : ℕ} {now : ℕ} {s : State} {t : State}
    (ht : execReferenceLoss clock now s = .next t) : Keeps 4371454033853 s.dev t.dev := by
  have hm : covers 4371454033853 4371454033853 := rfl
  refine actOn_keeps (fun d hd => ?_) ht
  (try dsimp only)
  repeat' first
    | with_reducible assumption
    | (with_reducible refine covers_tr hm ?_; decide)
    | with_reducible apply referenceLoss_keeps
    | with_reducible apply atTime_keeps
    | intro _
    | split

theorem execReferenceReturn_keeps {clock : ℕ} {now : ℕ} {s : State} {t : State}
    (ht : execReferenceReturn clock now s = .next t) : Keeps 2199027449984 s.dev t.dev := by
  have hm : covers 2199027449984 2199027449984 := rfl
  refine actOn_keeps (fun d hd => ?_) ht
  (try dsimp only)
  repeat' first
    | with_reducible assumption
    | (with_reducible refine covers_tr hm ?_; decide)
    | with_reducible apply referenceReturn_keeps
    | with_reducible apply atTime_keeps
    | intro _
    | split

theorem padFree_keeps (hm : covers 2514367814069 m) {k : ℕ} {pass : Bool} {d : Dev} (h_d : Keeps m d0 d) :
    Keeps m d0 (padFree k pass d) := by
  unfold padFree
  (try dsimp only)
  repeat' first
    | with_reducible assumption
    | (with_reducible refine covers_tr hm ?_; decide)
    | with_reducible apply padRelease_keeps
    | with_reducible apply setPads_keeps
    | intro _
    | split

theorem execPackageStateRequest_keeps {q : Sys2Proof.Req} {value : ℕ} {s : State} {t : State}
    (ht : execPackageStateRequest q value s = .next t) : Keeps 2199836295445 s.dev t.dev := by
  have hm : covers 2199836295445 2199836295445 := rfl
  refine act_keeps (fun d hd => ?_) ht
  (try dsimp only)
  repeat' first
    | with_reducible assumption
    | (with_reducible refine covers_tr hm ?_; decide)
    | with_reducible apply packageWrite_keeps
    | intro _
    | split

theorem execPcieWake_keeps {port : ℕ} {now : ℕ} {s : State} {t : State}
    (ht : execPcieWake port now s = .next t) : Keeps 2199564320768 s.dev t.dev := by
  have hm : covers 2199564320768 2199564320768 := rfl
  refine actOn_keeps (fun d hd => ?_) ht
  (try dsimp only)
  repeat' first
    | with_reducible assumption
    | (with_reducible refine covers_tr hm ?_; decide)
    | with_reducible apply setWake_keeps
    | with_reducible apply atTime_keeps
    | intro _
    | split

theorem execPackageTransitionComplete_keeps {now : ℕ} {s : State} {t : State}
    (ht : execPackageTransitionComplete now s = .next t) : Keeps 4398034942911 s.dev t.dev := by
  have hm : covers 4398034942911 4398034942911 := rfl
  refine act_keeps (fun d hd => ?_) ht
  (try dsimp only)
  repeat' first
    | with_reducible assumption
    | (with_reducible refine covers_tr hm ?_; decide)
    | with_reducible apply transitionComplete_keeps
    | with_reducible apply atTime_keeps
    | intro _
    | split

theorem execPwrPadRelease_keeps {who : Sys2Proof.Caller} {domain : ℕ} {pass : Bool} {now : ℕ} {s : State} {t : State}
    (ht : execPwrPadRelease who domain pass now s = .next t) : Keeps 2514372008373 s.dev t.dev := by
  have hm : covers 2514372008373 2514372008373 := rfl
  refine actOn_keeps (fun d hd => ?_) ht
  (try dsimp only)
  repeat' first
    | with_reducible assumption
    | (with_reducible refine covers_tr hm ?_; decide)
    | with_reducible apply regGate_keeps
    | with_reducible apply padFree_keeps
    | with_reducible apply regDrop_keeps
    | with_reducible apply atTime_keeps
    | intro _
    | split

theorem execWake_keeps {dst : ℕ} {now : ℕ} {s : State} {t : State}
    (ht : execWake dst now s = .next t) : Keeps 2199564320768 s.dev t.dev := by
  have hm : covers 2199564320768 2199564320768 := rfl
  refine act_keeps (fun d hd => ?_) ht
  (try dsimp only)
  repeat' first
    | with_reducible assumption
    | (with_reducible refine covers_tr hm ?_; decide)
    | with_reducible apply setWake_keeps
    | with_reducible apply atTime_keeps
    | intro _
    | split

theorem capExceeded_keeps (hm : covers 2336596433300 m) {d : Dev} (h_d : Keeps m d0 d) :
    Keeps m d0 (capExceeded d) := by
  unfold capExceeded
  (try dsimp only)
  repeat' first
    | with_reducible assumption
    | (with_reducible refine covers_tr hm ?_; decide)
    | with_reducible apply pulse_keeps
    | with_reducible apply raise_keeps
    | with_reducible apply setPwr_keeps
    | with_reducible apply runLadder_keeps
    | with_reducible apply runLadder_keeps
    | (with_reducible refine Or.inr ?_; with_reducible rfl)
    | (with_reducible refine Or.inl ?_; first | with_reducible rfl | decide | omega)
    | with_reducible apply OKeeps.getD
    | intro _
    | split

theorem execPowerCapExceeded_keeps {now : ℕ} {s : State} {t : State}
    (ht : execPowerCapExceeded now s = .next t) : Keeps 2336600627604 s.dev t.dev := by
  have hm : covers 2336600627604 2336600627604 := rfl
  refine act_keeps (fun d hd => ?_) ht
  (try dsimp only)
  repeat' first
    | with_reducible assumption
    | (with_reducible refine covers_tr hm ?_; decide)
    | with_reducible apply capExceeded_keeps
    | with_reducible apply atTime_keeps
    | intro _
    | split

theorem execTransitionOvertime_keeps {now : ℕ} {s : State} {t : State}
    (ht : execTransitionOvertime now s = .next t) : Keeps 2199027449984 s.dev t.dev := by
  have hm : covers 2199027449984 2199027449984 := rfl
  refine act_keeps (fun d hd => ?_) ht
  (try dsimp only)
  repeat' first
    | with_reducible assumption
    | (with_reducible refine covers_tr hm ?_; decide)
    | with_reducible apply overtime_keeps
    | with_reducible apply atTime_keeps
    | intro _
    | split

theorem execPowerGoodTimeout_keeps {domain : ℕ} {now : ℕ} {s : State} {t : State}
    (ht : execPowerGoodTimeout domain now s = .next t) : Keeps 3776018651541 s.dev t.dev := by
  have hm : covers 3776018651541 3776018651541 := rfl
  refine actOn_keeps (fun d hd => ?_) ht
  (try dsimp only)
  repeat' first
    | with_reducible assumption
    | (with_reducible refine covers_tr hm ?_; decide)
    | with_reducible apply goodTimeout_keeps
    | with_reducible apply atTime_keeps
    | intro _
    | split

/-! ## Time -/

theorem setTbs_keeps (hm : covers 4194304 m) {x : Tbs} {d : Dev} (h_d : Keeps m d0 d) :
    Keeps m d0 (setTbs x d) := by
  unfold setTbs
  (try dsimp only)
  repeat' first
    | with_reducible assumption
    | (with_reducible refine covers_tr hm ?_; decide)
    | with_reducible exact id
    | with_reducible exact rising_put
    | with_reducible exact rising_upd
    | with_reducible exact rising_set
    | with_reducible exact rising_erase
    | with_reducible exact rising_filter
    | with_reducible exact rising_tabFilter
    | with_reducible exact rising_map
    | with_reducible exact rising_to_nil
    | with_reducible exact rising_erase_two
    | simp only [keeps_mk]
    | with_reducible apply Keeps.set_tbs
    | intro _
    | split

theorem moveDeadlines_keeps (hm : covers 8589934592 m) {t : ℕ} {d : Dev} (h_d : Keeps m d0 d) :
    Keeps m d0 (moveDeadlines t d) := by
  unfold moveDeadlines
  (try dsimp only)
  repeat' first
    | with_reducible assumption
    | (with_reducible refine covers_tr hm ?_; decide)
    | with_reducible apply updTile_keeps
    | with_reducible apply forEach_keeps
    | intro _
    | split

theorem stepTime_keeps (hm : covers 8594128896 m) {x : ℤ} {d : Dev} (h_d : Keeps m d0 d) :
    Keeps m d0 (stepTime x d) := by
  unfold stepTime
  (try dsimp only)
  repeat' first
    | with_reducible assumption
    | (with_reducible refine covers_tr hm ?_; decide)
    | with_reducible apply setTbs_keeps
    | with_reducible apply moveDeadlines_keeps
    | intro _
    | split

theorem judge_keeps (hm : covers 4194432 m) {off : ℤ} {d : Dev} (h_d : Keeps m d0 d) :
    Keeps m d0 (judge off d) := by
  unfold judge
  (try dsimp only)
  repeat' first
    | with_reducible assumption
    | (with_reducible refine covers_tr hm ?_; decide)
    | with_reducible apply pulse_keeps
    | with_reducible apply setTbs_keeps
    | intro _
    | split

theorem slew_keeps (hm : covers 33 m) {d : Dev} (h_d : Keeps m d0 d) :
    Keeps m d0 (slew d) := by
  unfold slew
  (try dsimp only)
  repeat' first
    | with_reducible assumption
    | (with_reducible refine covers_tr hm ?_; decide)
    | with_reducible apply freeNext_keeps
    | with_reducible apply regSet_keeps
    | intro _
    | split

theorem servo_keeps (hm : covers 8594129057 m) {off : ℤ} {d : Dev} (h_d : Keeps m d0 d) :
    Keeps m d0 (servo off d) := by
  unfold servo
  (try dsimp only)
  repeat' first
    | with_reducible assumption
    | (with_reducible refine covers_tr hm ?_; decide)
    | with_reducible apply setTbs_keeps
    | with_reducible apply stepTime_keeps
    | with_reducible apply pulse_keeps
    | with_reducible apply judge_keeps
    | with_reducible apply slew_keeps
    | intro _
    | split

theorem execPtpSync_keeps {off : ℤ} {now : ℕ} {s : State} {t : State}
    (ht : execPtpSync off now s = .next t) : Keeps 8594129057 s.dev t.dev := by
  have hm : covers 8594129057 8594129057 := rfl
  refine act_keeps (fun d hd => ?_) ht
  (try dsimp only)
  repeat' first
    | with_reducible assumption
    | (with_reducible refine covers_tr hm ?_; decide)
    | with_reducible apply atTime_keeps
    | with_reducible apply servo_keeps
    | intro _
    | split

theorem ptpEvent_keeps (hm : covers 16 m) {p : ℕ} {d : Dev} (h_d : Keeps m d0 d) :
    Keeps m d0 (ptpEvent p d) := by
  unfold ptpEvent
  (try dsimp only)
  repeat' first
    | with_reducible assumption
    | (with_reducible refine covers_tr hm ?_; decide)
    | with_reducible apply emit_keeps
    | intro _
    | split

theorem execPtpEventReceived_keeps {port : ℕ} {now : ℕ} {s : State} {t : State}
    (ht : execPtpEventReceived port now s = .next t) : Keeps 4194320 s.dev t.dev := by
  have hm : covers 4194320 4194320 := rfl
  refine actOn_keeps (fun d hd => ?_) ht
  (try dsimp only)
  repeat' first
    | with_reducible assumption
    | (with_reducible refine covers_tr hm ?_; decide)
    | with_reducible apply ptpEvent_keeps
    | with_reducible apply atTime_keeps
    | intro _
    | split

theorem lockTimeout_keeps (hm : covers 67108996 m) {d : Dev} (h_d : Keeps m d0 d) :
    Keeps m d0 (lockTimeout d) := by
  unfold lockTimeout
  (try dsimp only)
  repeat' first
    | with_reducible assumption
    | (with_reducible refine covers_tr hm ?_; decide)
    | with_reducible apply refusePair_keeps
    | intro _
    | split

theorem tbsStep_keeps (hm : covers 8594194561 m) {hi : ℕ} {d : Dev} (h_d : Keeps m d0 d) :
    Keeps m d0 (tbsStep hi d) := by
  unfold tbsStep
  (try dsimp only)
  repeat' first
    | with_reducible assumption
    | (with_reducible refine covers_tr hm ?_; decide)
    | with_reducible apply mend_keeps
    | with_reducible apply stepTime_keeps
    | with_reducible apply pairSet_keeps
    | intro _
    | split

theorem syncTimeout_keeps (hm : covers 4194432 m) {d : Dev} (h_d : Keeps m d0 d) :
    Keeps m d0 (syncTimeout d) := by
  unfold syncTimeout
  (try dsimp only)
  repeat' first
    | with_reducible assumption
    | (with_reducible refine covers_tr hm ?_; decide)
    | with_reducible apply setTbs_keeps
    | with_reducible apply pulse_keeps
    | intro _
    | split

theorem execSyncTimeout_keeps {now : ℕ} {s : State} {t : State}
    (ht : execSyncTimeout now s = .next t) : Keeps 4194432 s.dev t.dev := by
  have hm : covers 4194432 4194432 := rfl
  refine act_keeps (fun d hd => ?_) ht
  (try dsimp only)
  repeat' first
    | with_reducible assumption
    | (with_reducible refine covers_tr hm ?_; decide)
    | with_reducible apply syncTimeout_keeps
    | with_reducible apply atTime_keeps
    | intro _
    | split

theorem ppsOut_keeps (hm : covers 4194304 m) {d : Dev} (h_d : Keeps m d0 d) :
    Keeps m d0 (ppsOut d) := by
  unfold ppsOut
  (try dsimp only)
  repeat' first
    | with_reducible assumption
    | (with_reducible refine covers_tr hm ?_; decide)
    | with_reducible apply setTbs_keeps
    | intro _
    | split

theorem timeSet_keeps (hm : covers 8594128896 m) {v : ℕ} {d : Dev} (h_d : Keeps m d0 d) :
    Keeps m d0 (timeSet v d) := by
  unfold timeSet
  (try dsimp only)
  repeat' first
    | with_reducible assumption
    | (with_reducible refine covers_tr hm ?_; decide)
    | with_reducible apply setTbs_keeps
    | with_reducible apply stepTime_keeps
    | intro _
    | split

theorem timeWrite_keeps (hm : covers 8866103573 m) {q : Sys2Proof.Req} {v : Sys2Proof.Payload} {a : Dev} (h_a : Keeps m d0 a) :
    Keeps m d0 (timeWrite q v a) := by
  unfold timeWrite
  (try dsimp only)
  repeat' first
    | with_reducible assumption
    | (with_reducible refine covers_tr hm ?_; decide)
    | with_reducible apply perform_keeps
    | with_reducible apply timeSet_keeps
    | intro _
    | split

theorem execTimeSet_keeps {q : Sys2Proof.Req} {v : Sys2Proof.Payload} {s : State} {t : State}
    (ht : execTimeSet q v s = .next t) : Keeps 8866103573 s.dev t.dev := by
  have hm : covers 8866103573 8866103573 := rfl
  refine act_keeps (fun d hd => ?_) ht
  (try dsimp only)
  repeat' first
    | with_reducible assumption
    | (with_reducible refine covers_tr hm ?_; decide)
    | with_reducible apply timeWrite_keeps
    | intro _
    | split

theorem ppsEdge_keeps (hm : covers 8594129057 m) {d : Dev} (h_d : Keeps m d0 d) :
    Keeps m d0 (ppsEdge d) := by
  unfold ppsEdge
  (try dsimp only)
  repeat' first
    | with_reducible assumption
    | (with_reducible refine covers_tr hm ?_; decide)
    | with_reducible apply stepTime_keeps
    | with_reducible apply setTbs_keeps
    | with_reducible apply servo_keeps
    | intro _
    | split

theorem execPpsInEdge_keeps {now : ℕ} {s : State} {t : State}
    (ht : execPpsInEdge now s = .next t) : Keeps 8594129057 s.dev t.dev := by
  have hm : covers 8594129057 8594129057 := rfl
  refine act_keeps (fun d hd => ?_) ht
  (try dsimp only)
  repeat' first
    | with_reducible assumption
    | (with_reducible refine covers_tr hm ?_; decide)
    | with_reducible apply ppsEdge_keeps
    | with_reducible apply atTime_keeps
    | intro _
    | split

theorem execPtpLockTimeout_keeps {now : ℕ} {s : State} {t : State}
    (ht : execPtpLockTimeout now s = .next t) : Keeps 71303300 s.dev t.dev := by
  have hm : covers 71303300 71303300 := rfl
  refine act_keeps (fun d hd => ?_) ht
  (try dsimp only)
  repeat' first
    | with_reducible assumption
    | (with_reducible refine covers_tr hm ?_; decide)
    | with_reducible apply lockTimeout_keeps
    | with_reducible apply atTime_keeps
    | intro _
    | split

theorem ptpAnnounce_keeps (hm : covers 4194308 m) {clock : ℕ} {utc : ℤ} {chosen : Bool} {d : Dev} (h_d : Keeps m d0 d) :
    Keeps m d0 (ptpAnnounce clock utc chosen d) := by
  unfold ptpAnnounce
  (try dsimp only)
  repeat' first
    | with_reducible assumption
    | (with_reducible refine covers_tr hm ?_; decide)
    | with_reducible apply objSet_keeps
    | with_reducible apply setTbs_keeps
    | intro _
    | split

theorem execAnnounce_keeps {clock : ℕ} {utc : ℤ} {chosen : Bool} {now : ℕ} {s : State} {t : State}
    (ht : execAnnounce clock utc chosen now s = .next t) : Keeps 4194308 s.dev t.dev := by
  have hm : covers 4194308 4194308 := rfl
  refine act_keeps (fun d hd => ?_) ht
  (try dsimp only)
  repeat' first
    | with_reducible assumption
    | (with_reducible refine covers_tr hm ?_; decide)
    | with_reducible apply ptpAnnounce_keeps
    | with_reducible apply atTime_keeps
    | intro _
    | split

theorem execTbsStep_keeps {who : Sys2Proof.Caller} {hi : ℕ} {now : ℕ} {s : State} {t : State}
    (ht : execTbsStep who hi now s = .next t) : Keeps 8594194565 s.dev t.dev := by
  have hm : covers 8594194565 8594194565 := rfl
  refine act_keeps (fun d hd => ?_) ht
  (try dsimp only)
  repeat' first
    | with_reducible assumption
    | (with_reducible refine covers_tr hm ?_; decide)
    | with_reducible apply regGate_keeps
    | with_reducible apply tbsStep_keeps
    | with_reducible apply regDrop_keeps
    | with_reducible apply atTime_keeps
    | intro _
    | split

theorem execPpsOut_keeps {now : ℕ} {s : State} {t : State}
    (ht : execPpsOut now s = .next t) : Keeps 4194304 s.dev t.dev := by
  have hm : covers 4194304 4194304 := rfl
  refine act_keeps (fun d hd => ?_) ht
  (try dsimp only)
  repeat' first
    | with_reducible assumption
    | (with_reducible refine covers_tr hm ?_; decide)
    | with_reducible apply ppsOut_keeps
    | with_reducible apply atTime_keeps
    | intro _
    | split

/-! ## Boundary -/

theorem rateAtStart_keeps (hm : covers 134217728 m) {s : ℕ} {e : ℕ} {d : Dev} (h_d : Keeps m d0 d) :
    Keeps m d0 (rateAtStart s e d) := by
  unfold rateAtStart
  (try dsimp only)
  repeat' first
    | with_reducible assumption
    | (with_reducible refine covers_tr hm ?_; decide)
    | with_reducible apply updDest_keeps
    | intro _
    | split

theorem comparerShown_keeps (hm : covers 274877906944 m) {d : Dev} (h_d : Keeps m d0 d) :
    Keeps m d0 (comparerShown d) := by
  unfold comparerShown
  (try dsimp only)
  repeat' first
    | with_reducible assumption
    | (with_reducible refine covers_tr hm ?_; decide)
    | with_reducible exact id
    | with_reducible exact rising_put
    | with_reducible exact rising_upd
    | with_reducible exact rising_set
    | with_reducible exact rising_erase
    | with_reducible exact rising_filter
    | with_reducible exact rising_tabFilter
    | with_reducible exact rising_map
    | with_reducible exact rising_to_nil
    | with_reducible exact rising_erase_two
    | simp only [keeps_mk]
    | with_reducible apply Keeps.set_pke
    | intro _
    | split

theorem trialRefill_keeps (hm : covers 274877906944 m) {d : Dev} (h_d : Keeps m d0 d) :
    Keeps m d0 (trialRefill d) := by
  unfold trialRefill
  (try dsimp only)
  repeat' first
    | with_reducible assumption
    | (with_reducible refine covers_tr hm ?_; decide)
    | with_reducible exact id
    | with_reducible exact rising_put
    | with_reducible exact rising_upd
    | with_reducible exact rising_set
    | with_reducible exact rising_erase
    | with_reducible exact rising_filter
    | with_reducible exact rising_tabFilter
    | with_reducible exact rising_map
    | with_reducible exact rising_to_nil
    | with_reducible exact rising_erase_two
    | simp only [keeps_mk]
    | with_reducible apply Keeps.set_pke
    | intro _
    | split

theorem sourceShown_keeps (hm : covers 4194304 m) {d : Dev} (h_d : Keeps m d0 d) :
    Keeps m d0 (sourceShown d) := by
  unfold sourceShown
  (try dsimp only)
  repeat' first
    | with_reducible assumption
    | (with_reducible refine covers_tr hm ?_; decide)
    | with_reducible apply setTbs_keeps
    | intro _
    | split

theorem visible_keeps (hm : covers 870943037725 m) {d : Dev} (h_d : Keeps m d0 d) :
    Keeps m d0 (visible d) := by
  unfold visible
  (try dsimp only)
  repeat' first
    | with_reducible assumption
    | (with_reducible refine covers_tr hm ?_; decide)
    | with_reducible apply comparerShown_keeps
    | with_reducible apply portModesShown_keeps
    | with_reducible apply sparesShown_keeps
    | with_reducible apply holdUpdate_keeps
    | with_reducible apply showChanges_keeps
    | with_reducible apply sourceShown_keeps
    | intro _
    | split

theorem startNow_keeps (hm : covers 282595426309 m) {s : ℕ} {n : ℕ} {d : Dev} (h_d : Keeps m d0 d) :
    Keeps m d0 (startNow s n d) := by
  unfold startNow
  (try dsimp only)
  repeat' first
    | with_reducible assumption
    | (with_reducible refine covers_tr hm ?_; decide)
    | with_reducible apply setStream_keeps
    | with_reducible apply settle_keeps
    | with_reducible apply setSess_keeps
    | with_reducible apply tellState_keeps
    | with_reducible apply rateAtStart_keeps
    | with_reducible apply startCredits_keeps
    | with_reducible apply ringSync_keeps
    | with_reducible apply forEach_keeps
    | intro _
    | split

theorem resumeNow_keeps (hm : covers 279374200837 m) {s : ℕ} {n : ℕ} {d : Dev} (h_d : Keeps m d0 d) :
    Keeps m d0 (resumeNow s n d) := by
  unfold resumeNow
  (try dsimp only)
  repeat' first
    | with_reducible assumption
    | (with_reducible refine covers_tr hm ?_; decide)
    | with_reducible apply updStream_keeps
    | with_reducible apply setSess_keeps
    | with_reducible apply tellState_keeps
    | with_reducible apply updDest_keeps
    | with_reducible apply startCredits_keeps
    | with_reducible apply forEach_keeps
    | intro _
    | split

theorem pendingShown_keeps (hm : covers 282595426309 m) {n : ℕ} {s : ℕ} {d : Dev} (h_d : Keeps m d0 d) :
    Keeps m d0 (pendingShown n s d) := by
  unfold pendingShown
  (try dsimp only)
  repeat' first
    | with_reducible assumption
    | (with_reducible refine covers_tr hm ?_; decide)
    | with_reducible apply startNow_keeps
    | with_reducible apply resumeNow_keeps
    | with_reducible apply setSess_keeps
    | intro _
    | split

theorem sessionStep1_keeps (hm : covers 316955171093 m) {n : ℕ} {s : ℕ} {d : Dev} (h_d : Keeps m d0 d) :
    Keeps m d0 (sessionStep1 n s d) := by
  unfold sessionStep1
  (try dsimp only)
  repeat' first
    | with_reducible assumption
    | (with_reducible refine covers_tr hm ?_; decide)
    | with_reducible apply pendingShown_keeps
    | with_reducible apply substitute_keeps
    | with_reducible apply giveCredit_keeps
    | intro _
    | split

theorem sessionStep4_keeps (hm : covers 313733945621 m) {n : ℕ} {s : ℕ} {d : Dev} (h_d : Keeps m d0 d) :
    Keeps m d0 (sessionStep4 n s d) := by
  unfold sessionStep4
  (try dsimp only)
  repeat' first
    | with_reducible assumption
    | (with_reducible refine covers_tr hm ?_; decide)
    | with_reducible apply syncMezz_keeps
    | with_reducible apply playBoundary_keeps
    | with_reducible apply markEarly_keeps
    | intro _
    | split

theorem heartbeat_keeps (hm : covers 275079233541 m) {d : Dev} (h_d : Keeps m d0 d) :
    Keeps m d0 (heartbeat d) := by
  unfold heartbeat
  (try dsimp only)
  repeat' first
    | with_reducible assumption
    | (with_reducible refine covers_tr hm ?_; decide)
    | with_reducible apply sendMirror_keeps
    | intro _
    | split

theorem pairBoundary_keeps (hm : covers 1004421913053 m) {d : Dev} (h_d : Keeps m d0 d) :
    Keeps m d0 (pairBoundary d) := by
  unfold pairBoundary
  (try dsimp only)
  repeat' first
    | with_reducible assumption
    | (with_reducible refine covers_tr hm ?_; decide)
    | with_reducible apply handoverDue_keeps
    | with_reducible apply promotionsDue_keeps
    | with_reducible apply suspendTaken_keeps
    | with_reducible apply pairStep_keeps
    | with_reducible apply tellChanges_keeps
    | with_reducible apply heartbeat_keeps
    | with_reducible apply sendNack_keeps
    | with_reducible apply forEach_keeps
    | intro _
    | split

theorem stitchWork_keeps (hm : covers 3229756037629 m) {n : ℕ} {t0 : ℕ} {d : Dev} (h_d : Keeps m d0 d) :
    Keeps m d0 (stitchWork n t0 d) := by
  unfold stitchWork
  (try dsimp only)
  repeat' first
    | with_reducible assumption
    | (with_reducible refine covers_tr hm ?_; decide)
    | with_reducible apply gateRestart_keeps
    | with_reducible apply trialRefill_keeps
    | with_reducible apply applyFreezes_keeps
    | with_reducible apply visible_keeps
    | with_reducible apply sessionStep1_keeps
    | with_reducible apply restoreLadder_keeps
    | with_reducible apply passAll_keeps
    | with_reducible apply refillAll_keeps
    | with_reducible apply ackFrames_keeps
    | with_reducible apply sessionStep4_keeps
    | with_reducible apply sampleAll_keeps
    | with_reducible apply discardPlans_keeps
    | with_reducible apply assignPass_keeps
    | with_reducible apply planStage_keeps
    | with_reducible apply waterTest_keeps
    | with_reducible apply syncMezz_keeps
    | with_reducible apply ringSync_keeps
    | with_reducible apply powerSettle_keeps
    | with_reducible apply recomputeVotes_keeps
    | with_reducible apply pairBoundary_keeps
    | with_reducible apply forEach_keeps
    | intro _
    | split

theorem stitchBoundary_keeps (hm : covers 3229756037629 m) {d : Dev} (h_d : Keeps m d0 d) :
    Keeps m d0 (stitchBoundary d) := by
  unfold stitchBoundary
  (try dsimp only)
  repeat' first
    | with_reducible assumption
    | (with_reducible refine covers_tr hm ?_; decide)
    | with_reducible apply setTbs_keeps
    | with_reducible apply stitchWork_keeps
    | intro _
    | split

theorem execStitchBoundary_keeps {s : State} {t : State}
    (ht : execStitchBoundary s = .next t) : Keeps 3229756037629 s.dev t.dev := by
  have hm : covers 3229756037629 3229756037629 := rfl
  refine act_keeps (fun d hd => ?_) ht
  (try dsimp only)
  repeat' first
    | with_reducible assumption
    | (with_reducible refine covers_tr hm ?_; decide)
    | with_reducible apply stitchBoundary_keeps
    | intro _
    | split

/-! ## Security -/

theorem answer_keeps (hm : covers 16 m) {l : ℕ} {req : ℕ} {err : ℕ} {body : List ℕ} {d : Dev} (h_d : Keeps m d0 d) :
    Keeps m d0 (answer l req err body d) := by
  unfold answer
  (try dsimp only)
  repeat' first
    | with_reducible assumption
    | (with_reducible refine covers_tr hm ?_; decide)
    | with_reducible apply emit_keeps
    | intro _
    | split

theorem spdm_keeps (hm : covers 16 m) {l : ℕ} {req : ℕ} {need : ℕ} {f : Dev → Dev} {d : Dev} (h_f : ∀ (y0 : Dev), Keeps m d0 y0 → Keeps m d0 (f y0)) (h_d : Keeps m d0 d) :
    Keeps m d0 (spdm l req need f d) := by
  unfold spdm
  (try dsimp only)
  repeat' first
    | with_reducible assumption
    | (with_reducible refine covers_tr hm ?_; decide)
    | with_reducible apply answer_keeps
    | with_reducible apply h_f
    | intro _
    | split

theorem execGetMeasurements_keeps {link : ℕ} {now : ℕ} {s : State} {t : State}
    (ht : execGetMeasurements link now s = .next t) : Keeps 4194320 s.dev t.dev := by
  have hm : covers 4194320 4194320 := rfl
  refine actOn_keeps (fun d hd => ?_) ht
  (try dsimp only)
  repeat' first
    | with_reducible assumption
    | (with_reducible refine covers_tr hm ?_; decide)
    | with_reducible apply spdm_keeps
    | with_reducible apply answer_keeps
    | with_reducible apply atTime_keeps
    | intro _
    | split

theorem takeSalt_keeps (hm : covers 1082130496 m) {t : ℕ} {identity : ℕ} {d : Dev} (h_d : Keeps m d0 d) :
    Keeps m d0 (takeSalt t identity d) := by
  unfold takeSalt
  (try dsimp only)
  repeat' first
    | with_reducible assumption
    | (with_reducible refine covers_tr hm ?_; decide)
    | with_reducible apply setWrd_keeps
    | with_reducible apply rngNext_keeps
    | with_reducible apply setTenant_keeps
    | intro _
    | split

theorem installTenant_keeps (hm : covers 1085276228 m) {t : ℕ} {key : ℕ} {d : Dev} (h_d : Keeps m d0 d) :
    Keeps m d0 (installTenant t key d) := by
  unfold installTenant
  (try dsimp only)
  repeat' first
    | with_reducible assumption
    | (with_reducible refine covers_tr hm ?_; decide)
    | with_reducible apply objSet_keeps
    | with_reducible apply objCount_keeps
    | with_reducible apply takeSalt_keeps
    | with_reducible apply clearLast_keeps
    | with_reducible apply setTenant_keeps
    | intro _
    | split

theorem setSec_keeps (hm : covers 33554432 m) {x : Sec} {d : Dev} (h_d : Keeps m d0 d) :
    Keeps m d0 (setSec x d) := by
  unfold setSec
  (try dsimp only)
  repeat' first
    | with_reducible assumption
    | (with_reducible refine covers_tr hm ?_; decide)
    | with_reducible exact id
    | with_reducible exact rising_put
    | with_reducible exact rising_upd
    | with_reducible exact rising_set
    | with_reducible exact rising_erase
    | with_reducible exact rising_filter
    | with_reducible exact rising_tabFilter
    | with_reducible exact rising_map
    | with_reducible exact rising_to_nil
    | with_reducible exact rising_erase_two
    | simp only [keeps_mk]
    | with_reducible apply Keeps.set_sec
    | intro _
    | split

theorem rngFailure_keeps (hm : covers 33554560 m) {d : Dev} (h_d : Keeps m d0 d) :
    Keeps m d0 (rngFailure d) := by
  unfold rngFailure
  (try dsimp only)
  repeat' first
    | with_reducible assumption
    | (with_reducible refine covers_tr hm ?_; decide)
    | with_reducible apply level_keeps
    | with_reducible apply setSec_keeps
    | intro _
    | split

theorem execRngHealthFailure_keeps {now : ℕ} {s : State} {t : State}
    (ht : execRngHealthFailure now s = .next t) : Keeps 37748864 s.dev t.dev := by
  have hm : covers 37748864 37748864 := rfl
  refine act_keeps (fun d hd => ?_) ht
  (try dsimp only)
  repeat' first
    | with_reducible assumption
    | (with_reducible refine covers_tr hm ?_; decide)
    | with_reducible apply rngFailure_keeps
    | with_reducible apply atTime_keeps
    | intro _
    | split

theorem eraseWrite_keeps (hm : covers 276168981 m) {q : Sys2Proof.Req} {idx : ℕ} {sub : ℕ} {v : ℕ} {errs : Dev → List Sys2Proof.Err} {erase : Dev → Dev} {clear : Dev → Dev} {d : Dev} (h_erase : ∀ (y0 : Dev), Keeps m d0 y0 → Keeps m d0 (erase y0)) (h_clear : ∀ (y0 : Dev), Keeps m d0 y0 → Keeps m d0 (clear y0)) (h_d : Keeps m d0 d) :
    Keeps m d0 (eraseWrite q idx sub v errs erase clear d) := by
  unfold eraseWrite
  (try dsimp only)
  repeat' first
    | with_reducible assumption
    | (with_reducible refine covers_tr hm ?_; decide)
    | with_reducible apply decideWrite_keeps
    | with_reducible apply refuse_keeps
    | with_reducible apply accept_keeps
    | with_reducible apply objSet_keeps
    | with_reducible apply h_erase
    | with_reducible apply h_clear
    | intro _
    | split

theorem tenantEraseWrite_keeps (hm : covers 284557589 m) {q : Sys2Proof.Req} {tenant : ℕ} {value : ℕ} {a : Dev} (h_a : Keeps m d0 a) :
    Keeps m d0 (tenantEraseWrite q tenant value a) := by
  unfold tenantEraseWrite
  (try dsimp only)
  repeat' first
    | with_reducible assumption
    | (with_reducible refine covers_tr hm ?_; decide)
    | with_reducible apply eraseWrite_keeps
    | with_reducible apply eraseTenantKeys_keeps
    | with_reducible apply clearLast_keeps
    | intro _
    | split

theorem setConn_keeps (hm : covers 33554432 m) {l : ℕ} {n : ℕ} {d : Dev} (h_d : Keeps m d0 d) :
    Keeps m d0 (setConn l n d) := by
  unfold setConn
  (try dsimp only)
  repeat' first
    | with_reducible assumption
    | (with_reducible refine covers_tr hm ?_; decide)
    | with_reducible apply setSec_keeps
    | intro _
    | split

theorem execNegotiateAlgorithms_keeps {link : ℕ} {now : ℕ} {s : State} {t : State}
    (ht : execNegotiateAlgorithms link now s = .next t) : Keeps 37748752 s.dev t.dev := by
  have hm : covers 37748752 37748752 := rfl
  refine actOn_keeps (fun d hd => ?_) ht
  (try dsimp only)
  repeat' first
    | with_reducible assumption
    | (with_reducible refine covers_tr hm ?_; decide)
    | with_reducible apply spdm_keeps
    | with_reducible apply answer_keeps
    | with_reducible apply setConn_keeps
    | with_reducible apply atTime_keeps
    | intro _
    | split

theorem execChallenge_keeps {link : ℕ} {now : ℕ} {s : State} {t : State}
    (ht : execChallenge link now s = .next t) : Keeps 4194320 s.dev t.dev := by
  have hm : covers 4194320 4194320 := rfl
  refine actOn_keeps (fun d hd => ?_) ht
  (try dsimp only)
  repeat' first
    | with_reducible assumption
    | (with_reducible refine covers_tr hm ?_; decide)
    | with_reducible apply spdm_keeps
    | with_reducible apply answer_keeps
    | with_reducible apply atTime_keeps
    | intro _
    | split

theorem verifiedMsg_keeps (hm : covers 33554709 m) {n : ℕ} {req : ℕ} {ok : Bool} {f : Spdm → Dev → Dev} {d : Dev} (h_f : ∀ (y0 : Spdm) (y1 : Dev), Keeps m d0 y1 → Keeps m d0 (f y0 y1)) (h_d : Keeps m d0 d) :
    Keeps m d0 (verifiedMsg n req ok f d) := by
  unfold verifiedMsg
  (try dsimp only)
  repeat' first
    | with_reducible assumption
    | (with_reducible refine covers_tr hm ?_; decide)
    | with_reducible apply answer_keeps
    | with_reducible apply secEvent_keeps
    | with_reducible apply setSec_keeps
    | with_reducible apply h_f
    | intro _
    | split

theorem secured_keeps (hm : covers 33554709 m) {n : ℕ} {req : ℕ} {ok : Bool} {f : ℕ → Dev → Dev} {d : Dev} (h_f : ∀ (y0 : ℕ) (y1 : Dev), Keeps m d0 y1 → Keeps m d0 (f y0 y1)) (h_d : Keeps m d0 d) :
    Keeps m d0 (secured n req ok f d) := by
  unfold secured
  (try dsimp only)
  repeat' first
    | with_reducible assumption
    | (with_reducible refine covers_tr hm ?_; decide)
    | with_reducible apply verifiedMsg_keeps
    | with_reducible apply answer_keeps
    | with_reducible apply h_f
    | intro _
    | split

theorem execKeyUpdate_keeps {session : ℕ} {ok : Bool} {now : ℕ} {s : State} {t : State}
    (ht : execKeyUpdate session ok now s = .next t) : Keeps 37749013 s.dev t.dev := by
  have hm : covers 37749013 37749013 := rfl
  refine actOn_keeps (fun d hd => ?_) ht
  (try dsimp only)
  repeat' first
    | with_reducible assumption
    | (with_reducible refine covers_tr hm ?_; decide)
    | with_reducible apply secured_keeps
    | with_reducible apply answer_keeps
    | with_reducible apply atTime_keeps
    | intro _
    | split

theorem eraseOperator_keeps (hm : covers 36700160 m) {d : Dev} (h_d : Keeps m d0 d) :
    Keeps m d0 (eraseOperator d) := by
  unfold eraseOperator
  (try dsimp only)
  repeat' first
    | with_reducible assumption
    | (with_reducible refine covers_tr hm ?_; decide)
    | with_reducible apply clearLast_keeps
    | with_reducible apply setSec_keeps
    | intro _
    | split

theorem operatorEraseWrite_keeps (hm : covers 309723413 m) {q : Sys2Proof.Req} {value : ℕ} {a : Dev} (h_a : Keeps m d0 a) :
    Keeps m d0 (operatorEraseWrite q value a) := by
  unfold operatorEraseWrite
  (try dsimp only)
  repeat' first
    | with_reducible assumption
    | (with_reducible refine covers_tr hm ?_; decide)
    | with_reducible apply eraseWrite_keeps
    | with_reducible apply eraseOperator_keeps
    | with_reducible apply clearLast_keeps
    | intro _
    | split

theorem execOperatorKeyErase_keeps {q : Sys2Proof.Req} {value : ℕ} {s : State} {t : State}
    (ht : execOperatorKeyErase q value s = .next t) : Keeps 309723413 s.dev t.dev := by
  have hm : covers 309723413 309723413 := rfl
  refine act_keeps (fun d hd => ?_) ht
  (try dsimp only)
  repeat' first
    | with_reducible assumption
    | (with_reducible refine covers_tr hm ?_; decide)
    | with_reducible apply operatorEraseWrite_keeps
    | intro _
    | split

theorem finish_keeps (hm : covers 33554709 m) {n : ℕ} {ok : Bool} {d : Dev} (h_d : Keeps m d0 d) :
    Keeps m d0 (finish n ok d) := by
  unfold finish
  (try dsimp only)
  repeat' first
    | with_reducible assumption
    | (with_reducible refine covers_tr hm ?_; decide)
    | with_reducible apply verifiedMsg_keeps
    | with_reducible apply answer_keeps
    | with_reducible apply setSec_keeps
    | intro _
    | split

theorem execFinish_keeps {session : ℕ} {ok : Bool} {now : ℕ} {s : State} {t : State}
    (ht : execFinish session ok now s = .next t) : Keeps 37749013 s.dev t.dev := by
  have hm : covers 37749013 37749013 := rfl
  refine actOn_keeps (fun d hd => ?_) ht
  (try dsimp only)
  repeat' first
    | with_reducible assumption
    | (with_reducible refine covers_tr hm ?_; decide)
    | with_reducible apply finish_keeps
    | with_reducible apply atTime_keeps
    | intro _
    | split

theorem setIde_keeps (hm : covers 33554432 m) {l : ℕ} {n : ℕ} {x : Ide} {d : Dev} (h_d : Keeps m d0 d) :
    Keeps m d0 (setIde l n x d) := by
  unfold setIde
  (try dsimp only)
  repeat' first
    | with_reducible assumption
    | (with_reducible refine covers_tr hm ?_; decide)
    | with_reducible apply setSec_keeps
    | intro _
    | split

theorem ideFailure_keeps (hm : covers 2172426533181 m) {l : ℕ} {n : ℕ} {d : Dev} (h_d : Keeps m d0 d) :
    Keeps m d0 (ideFailure l n d) := by
  unfold ideFailure
  (try dsimp only)
  repeat' first
    | with_reducible assumption
    | (with_reducible refine covers_tr hm ?_; decide)
    | with_reducible apply setIde_keeps
    | with_reducible apply secEvent_keeps
    | with_reducible apply interfaceError_keeps
    | with_reducible apply OKeeps.getD
    | with_reducible apply OKeeps.map
    | intro _
    | split

theorem execTenantKeyErase_keeps {q : Sys2Proof.Req} {tenant : ℕ} {value : ℕ} {s : State} {t : State}
    (ht : execTenantKeyErase q tenant value s = .next t) : Keeps 284557589 s.dev t.dev := by
  have hm : covers 284557589 284557589 := rfl
  refine actOn_keeps (fun d hd => ?_) ht
  (try dsimp only)
  repeat' first
    | with_reducible assumption
    | (with_reducible refine covers_tr hm ?_; decide)
    | with_reducible apply tenantEraseWrite_keeps
    | intro _
    | split

theorem endSession_keeps (hm : covers 33554432 m) {n : ℕ} {d : Dev} (h_d : Keeps m d0 d) :
    Keeps m d0 (endSession n d) := by
  unfold endSession
  (try dsimp only)
  repeat' first
    | with_reducible assumption
    | (with_reducible refine covers_tr hm ?_; decide)
    | with_reducible apply setSec_keeps
    | intro _
    | split

theorem sessionTimeout_keeps (hm : covers 33554432 m) {n : ℕ} {d : Dev} (h_d : Keeps m d0 d) :
    Keeps m d0 (sessionTimeout n d) := by
  unfold sessionTimeout
  (try dsimp only)
  repeat' first
    | with_reducible assumption
    | (with_reducible refine covers_tr hm ?_; decide)
    | with_reducible apply endSession_keeps
    | intro _
    | split

theorem execIdeIntegrityFailure_keeps {link : ℕ} {stream : ℕ} {now : ℕ} {s : State} {t : State}
    (ht : execIdeIntegrityFailure link stream now s = .next t) : Keeps 2172430727485 s.dev t.dev := by
  have hm : covers 2172430727485 2172430727485 := rfl
  refine actOn_keeps (fun d hd => ?_) ht
  (try dsimp only)
  repeat' first
    | with_reducible assumption
    | (with_reducible refine covers_tr hm ?_; decide)
    | with_reducible apply ideFailure_keeps
    | with_reducible apply atTime_keeps
    | intro _
    | split

theorem tdisp_keeps (hm : covers 33554709 m) {n : ℕ} {fn : ℕ} {ok : Bool} {f : ℕ → Dev → Dev} {d : Dev} (h_f : ∀ (y0 : ℕ) (y1 : Dev), Keeps m d0 y1 → Keeps m d0 (f y0 y1)) (h_d : Keeps m d0 d) :
    Keeps m d0 (tdisp n fn ok f d) := by
  unfold tdisp
  (try dsimp only)
  repeat' first
    | with_reducible assumption
    | (with_reducible refine covers_tr hm ?_; decide)
    | with_reducible apply secured_keeps
    | with_reducible apply answer_keeps
    | with_reducible apply h_f
    | intro _
    | split

theorem setTdisp_keeps (hm : covers 33554432 m) {fn : ℕ} {k : ℕ} {d : Dev} (h_d : Keeps m d0 d) :
    Keeps m d0 (setTdisp fn k d) := by
  unfold setTdisp
  (try dsimp only)
  repeat' first
    | with_reducible assumption
    | (with_reducible refine covers_tr hm ?_; decide)
    | with_reducible apply setSec_keeps
    | intro _
    | split

theorem lockInterface_keeps (hm : covers 33554448 m) {l : ℕ} {fn : ℕ} {stream : ℕ} {d : Dev} (h_d : Keeps m d0 d) :
    Keeps m d0 (lockInterface l fn stream d) := by
  unfold lockInterface
  (try dsimp only)
  repeat' first
    | with_reducible assumption
    | (with_reducible refine covers_tr hm ?_; decide)
    | with_reducible apply answer_keeps
    | with_reducible apply setTdisp_keeps
    | with_reducible apply setIde_keeps
    | intro _
    | split

theorem execLockInterfaceRequest_keeps {session : ℕ} {fn : ℕ} {stream : ℕ} {ok : Bool} {now : ℕ} {s : State} {t : State}
    (ht : execLockInterfaceRequest session fn stream ok now s = .next t) : Keeps 37749013 s.dev t.dev := by
  have hm : covers 37749013 37749013 := rfl
  refine actOn_keeps (fun d hd => ?_) ht
  (try dsimp only)
  repeat' first
    | with_reducible assumption
    | (with_reducible refine covers_tr hm ?_; decide)
    | with_reducible apply tdisp_keeps
    | with_reducible apply lockInterface_keeps
    | with_reducible apply atTime_keeps
    | intro _
    | split

theorem keyExchange_keeps (hm : covers 33554448 m) {l : ℕ} {d : Dev} (h_d : Keeps m d0 d) :
    Keeps m d0 (keyExchange l d) := by
  unfold keyExchange
  (try dsimp only)
  repeat' first
    | with_reducible assumption
    | (with_reducible refine covers_tr hm ?_; decide)
    | with_reducible apply answer_keeps
    | with_reducible apply setSec_keeps
    | intro _
    | split

theorem keyRefused_keeps (hm : covers 270926101 m) {q : Sys2Proof.Req} {idx : ℕ} {sub : ℕ} {t : ℕ} {e : Sys2Proof.Err} {d : Dev} (h_d : Keeps m d0 d) :
    Keeps m d0 (keyRefused q idx sub t e d) := by
  unfold keyRefused
  (try dsimp only)
  repeat' first
    | with_reducible assumption
    | (with_reducible refine covers_tr hm ?_; decide)
    | with_reducible apply refuse_keeps
    | with_reducible apply secEvent_keeps
    | with_reducible apply objCount_keeps
    | intro _
    | split

theorem streamKeyAct_keeps (hm : covers 275012124672 m) {s : ℕ} {e : ℕ} {v : ℕ} {d : Dev} (h_d : Keeps m d0 d) :
    Keeps m d0 (streamKeyAct s e v d) := by
  unfold streamKeyAct
  (try dsimp only)
  repeat' first
    | with_reducible assumption
    | (with_reducible refine covers_tr hm ?_; decide)
    | with_reducible apply updDest_keeps
    | with_reducible apply noteChange_keeps
    | with_reducible exact id
    | with_reducible exact rising_put
    | with_reducible exact rising_upd
    | with_reducible exact rising_set
    | with_reducible exact rising_erase
    | with_reducible exact rising_filter
    | with_reducible exact rising_tabFilter
    | with_reducible exact rising_map
    | with_reducible exact rising_to_nil
    | with_reducible exact rising_erase_two
    | simp only [keeps_mk]
    | with_reducible apply Keeps.set_pke
    | intro _
    | split

theorem streamKeyWrite_keeps (hm : covers 275288293653 m) {q : Sys2Proof.Req} {s : ℕ} {e : ℕ} {v : Sys2Proof.Payload} {tagOk : Bool} {d : Dev} (h_d : Keeps m d0 d) :
    Keeps m d0 (streamKeyWrite q s e v tagOk d) := by
  unfold streamKeyWrite
  (try dsimp only)
  repeat' first
    | with_reducible assumption
    | (with_reducible refine covers_tr hm ?_; decide)
    | with_reducible apply decideWrite_keeps
    | with_reducible apply keyRefused_keeps
    | with_reducible apply accept_keeps
    | with_reducible apply streamKeyAct_keeps
    | intro _
    | split

theorem execStreamKeyWrite_keeps {q : Sys2Proof.Req} {slot : ℕ} {dest : ℕ} {v : Sys2Proof.Payload} {tagOk : Bool} {s : State} {t : State}
    (ht : execStreamKeyWrite q slot dest v tagOk s = .next t) : Keeps 275288293653 s.dev t.dev := by
  have hm : covers 275288293653 275288293653 := rfl
  refine actOn_keeps (fun d hd => ?_) ht
  (try dsimp only)
  repeat' first
    | with_reducible assumption
    | (with_reducible refine covers_tr hm ?_; decide)
    | with_reducible apply streamKeyWrite_keeps
    | intro _
    | split

theorem execEndSession_keeps {session : ℕ} {ok : Bool} {now : ℕ} {s : State} {t : State}
    (ht : execEndSession session ok now s = .next t) : Keeps 37749013 s.dev t.dev := by
  have hm : covers 37749013 37749013 := rfl
  refine actOn_keeps (fun d hd => ?_) ht
  (try dsimp only)
  repeat' first
    | with_reducible assumption
    | (with_reducible refine covers_tr hm ?_; decide)
    | with_reducible apply secured_keeps
    | with_reducible apply answer_keeps
    | with_reducible apply endSession_keeps
    | with_reducible apply atTime_keeps
    | intro _
    | split

theorem execSpdmSessionTimeout_keeps {session : ℕ} {now : ℕ} {s : State} {t : State}
    (ht : execSpdmSessionTimeout session now s = .next t) : Keeps 37748736 s.dev t.dev := by
  have hm : covers 37748736 37748736 := rfl
  refine actOn_keeps (fun d hd => ?_) ht
  (try dsimp only)
  repeat' first
    | with_reducible assumption
    | (with_reducible refine covers_tr hm ?_; decide)
    | with_reducible apply sessionTimeout_keeps
    | with_reducible apply atTime_keeps
    | intro _
    | split

theorem installAnswer_keeps (hm : covers 16 m) {l : ℕ} {m1 : ℕ} {e : Sys2Proof.Err} {d : Dev} (h_d : Keeps m d0 d) :
    Keeps m d0 (installAnswer l m1 e d) := by
  unfold installAnswer
  (try dsimp only)
  repeat' first
    | with_reducible assumption
    | (with_reducible refine covers_tr hm ?_; decide)
    | with_reducible apply answer_keeps
    | intro _
    | split

theorem installOperator_keeps (hm : covers 36700164 m) {key : ℕ} {d : Dev} (h_d : Keeps m d0 d) :
    Keeps m d0 (installOperator key d) := by
  unfold installOperator
  (try dsimp only)
  repeat' first
    | with_reducible assumption
    | (with_reducible refine covers_tr hm ?_; decide)
    | with_reducible apply clearLast_keeps
    | with_reducible apply setSec_keeps
    | with_reducible apply objCount_keeps
    | intro _
    | split

theorem install_keeps (hm : covers 1118830933 m) {n : ℕ} {m1 : ℕ} {ok : Bool} {d : Dev} (h_d : Keeps m d0 d) :
    Keeps m d0 (install n m1 ok d) := by
  unfold install
  (try dsimp only)
  repeat' first
    | with_reducible assumption
    | (with_reducible refine covers_tr hm ?_; decide)
    | with_reducible apply secured_keeps
    | with_reducible apply installAnswer_keeps
    | with_reducible apply installTenant_keeps
    | with_reducible apply installOperator_keeps
    | intro _
    | split

theorem execInstallTenant_keeps {session : ℕ} {message : ℕ} {ok : Bool} {now : ℕ} {s : State} {t : State}
    (ht : execInstallTenant session message ok now s = .next t) : Keeps 1123025237 s.dev t.dev := by
  have hm : covers 1123025237 1123025237 := rfl
  refine actOn_keeps (fun d hd => ?_) ht
  (try dsimp only)
  repeat' first
    | with_reducible assumption
    | (with_reducible refine covers_tr hm ?_; decide)
    | with_reducible apply install_keeps
    | with_reducible apply atTime_keeps
    | intro _
    | split

theorem eraseAll_keeps (hm : covers 112197636 m) {d : Dev} (h_d : Keeps m d0 d) :
    Keeps m d0 (eraseAll d) := by
  unfold eraseAll
  (try dsimp only)
  repeat' first
    | with_reducible assumption
    | (with_reducible refine covers_tr hm ?_; decide)
    | with_reducible apply eraseTenantKeys_keeps
    | with_reducible apply eraseOperator_keeps
    | with_reducible apply clearLast_keeps
    | with_reducible apply setPair_keeps
    | (with_reducible refine Or.inr ?_; with_reducible rfl)
    | (with_reducible refine Or.inl ?_; first | with_reducible rfl | decide | omega)
    | with_reducible apply forEach_keeps
    | intro _
    | split

theorem debugUnlock_keeps (hm : covers 4398046477247 m) {q : Sys2Proof.Req} {d : Dev} (h_d : Keeps m d0 d) :
    Keeps m d0 (debugUnlock q d) := by
  unfold debugUnlock
  (try dsimp only)
  repeat' first
    | with_reducible assumption
    | (with_reducible refine covers_tr hm ?_; decide)
    | with_reducible apply clearLast_keeps
    | with_reducible apply accept_keeps
    | with_reducible apply objSet_keeps
    | with_reducible apply eraseAll_keeps
    | with_reducible apply secEvent_keeps
    | with_reducible apply warmReset_keeps
    | with_reducible apply setSec_keeps
    | intro _
    | split

theorem debugWrite_keeps (hm : covers 4398046477247 m) {q : Sys2Proof.Req} {value : ℕ} {a : Dev} (h_a : Keeps m d0 a) :
    Keeps m d0 (debugWrite q value a) := by
  unfold debugWrite
  (try dsimp only)
  repeat' first
    | with_reducible assumption
    | (with_reducible refine covers_tr hm ?_; decide)
    | with_reducible apply decideWrite_keeps
    | with_reducible apply refuse_keeps
    | with_reducible apply debugUnlock_keeps
    | intro _
    | split

theorem execDebugUnlock_keeps {q : Sys2Proof.Req} {value : ℕ} {s : State} {t : State}
    (ht : execDebugUnlock q value s = .next t) : Keeps 4398046477247 s.dev t.dev := by
  have hm : covers 4398046477247 4398046477247 := rfl
  refine act_keeps (fun d hd => ?_) ht
  (try dsimp only)
  repeat' first
    | with_reducible assumption
    | (with_reducible refine covers_tr hm ?_; decide)
    | with_reducible apply debugWrite_keeps
    | intro _
    | split

theorem previousExpiry_keeps (hm : covers 134217728 m) {s : ℕ} {e : ℕ} {d : Dev} (h_d : Keeps m d0 d) :
    Keeps m d0 (previousExpiry s e d) := by
  unfold previousExpiry
  (try dsimp only)
  repeat' first
    | with_reducible assumption
    | (with_reducible refine covers_tr hm ?_; decide)
    | with_reducible apply setDest_keeps
    | intro _
    | split

theorem ideKm_keeps (hm : covers 33554709 m) {n : ℕ} {stream : ℕ} {place : ℕ} {key : ℕ} {ok : Bool} {d : Dev} (h_d : Keeps m d0 d) :
    Keeps m d0 (ideKm n stream place key ok d) := by
  unfold ideKm
  (try dsimp only)
  repeat' first
    | with_reducible assumption
    | (with_reducible refine covers_tr hm ?_; decide)
    | with_reducible apply secured_keeps
    | with_reducible apply answer_keeps
    | with_reducible apply setIde_keeps
    | intro _
    | split

theorem segmentKeyAct_keeps (hm : covers 8388608 m) {t : ℕ} {k : ℕ} {v : ℕ} {d : Dev} (h_d : Keeps m d0 d) :
    Keeps m d0 (segmentKeyAct t k v d) := by
  unfold segmentKeyAct
  (try dsimp only)
  repeat' first
    | with_reducible assumption
    | (with_reducible refine covers_tr hm ?_; decide)
    | with_reducible apply setTenant_keeps
    | intro _
    | split

theorem segmentKeyWrite_keeps (hm : covers 284557589 m) {q : Sys2Proof.Req} {t : ℕ} {k : ℕ} {v : Sys2Proof.Payload} {tagOk : Bool} {d : Dev} (h_d : Keeps m d0 d) :
    Keeps m d0 (segmentKeyWrite q t k v tagOk d) := by
  unfold segmentKeyWrite
  (try dsimp only)
  repeat' first
    | with_reducible assumption
    | (with_reducible refine covers_tr hm ?_; decide)
    | with_reducible apply decideWrite_keeps
    | with_reducible apply keyRefused_keeps
    | with_reducible apply accept_keeps
    | with_reducible apply segmentKeyAct_keeps
    | intro _
    | split

theorem execGetCapabilities_keeps {link : ℕ} {now : ℕ} {s : State} {t : State}
    (ht : execGetCapabilities link now s = .next t) : Keeps 37748752 s.dev t.dev := by
  have hm : covers 37748752 37748752 := rfl
  refine actOn_keeps (fun d hd => ?_) ht
  (try dsimp only)
  repeat' first
    | with_reducible assumption
    | (with_reducible refine covers_tr hm ?_; decide)
    | with_reducible apply spdm_keeps
    | with_reducible apply answer_keeps
    | with_reducible apply setConn_keeps
    | with_reducible apply atTime_keeps
    | intro _
    | split

theorem execGetDigests_keeps {link : ℕ} {now : ℕ} {s : State} {t : State}
    (ht : execGetDigests link now s = .next t) : Keeps 4194320 s.dev t.dev := by
  have hm : covers 4194320 4194320 := rfl
  refine actOn_keeps (fun d hd => ?_) ht
  (try dsimp only)
  repeat' first
    | with_reducible assumption
    | (with_reducible refine covers_tr hm ?_; decide)
    | with_reducible apply spdm_keeps
    | with_reducible apply answer_keeps
    | with_reducible apply atTime_keeps
    | intro _
    | split

theorem startInterface_keeps (hm : covers 33554448 m) {l : ℕ} {fn : ℕ} {d : Dev} (h_d : Keeps m d0 d) :
    Keeps m d0 (startInterface l fn d) := by
  unfold startInterface
  (try dsimp only)
  repeat' first
    | with_reducible assumption
    | (with_reducible refine covers_tr hm ?_; decide)
    | with_reducible apply answer_keeps
    | with_reducible apply setTdisp_keeps
    | intro _
    | split

theorem execStartInterfaceRequest_keeps {session : ℕ} {fn : ℕ} {ok : Bool} {now : ℕ} {s : State} {t : State}
    (ht : execStartInterfaceRequest session fn ok now s = .next t) : Keeps 37749013 s.dev t.dev := by
  have hm : covers 37749013 37749013 := rfl
  refine actOn_keeps (fun d hd => ?_) ht
  (try dsimp only)
  repeat' first
    | with_reducible assumption
    | (with_reducible refine covers_tr hm ?_; decide)
    | with_reducible apply tdisp_keeps
    | with_reducible apply startInterface_keeps
    | with_reducible apply atTime_keeps
    | intro _
    | split

theorem execInstallOperator_keeps {session : ℕ} {message : ℕ} {ok : Bool} {now : ℕ} {s : State} {t : State}
    (ht : execInstallOperator session message ok now s = .next t) : Keeps 1123025237 s.dev t.dev := by
  have hm : covers 1123025237 1123025237 := rfl
  refine actOn_keeps (fun d hd => ?_) ht
  (try dsimp only)
  repeat' first
    | with_reducible assumption
    | (with_reducible refine covers_tr hm ?_; decide)
    | with_reducible apply install_keeps
    | with_reducible apply atTime_keeps
    | intro _
    | split

theorem execKeyExchange_keeps {link : ℕ} {now : ℕ} {s : State} {t : State}
    (ht : execKeyExchange link now s = .next t) : Keeps 37748752 s.dev t.dev := by
  have hm : covers 37748752 37748752 := rfl
  refine actOn_keeps (fun d hd => ?_) ht
  (try dsimp only)
  repeat' first
    | with_reducible assumption
    | (with_reducible refine covers_tr hm ?_; decide)
    | with_reducible apply spdm_keeps
    | with_reducible apply keyExchange_keeps
    | with_reducible apply atTime_keeps
    | intro _
    | split

theorem execSpdmHeartbeat_keeps {session : ℕ} {ok : Bool} {now : ℕ} {s : State} {t : State}
    (ht : execSpdmHeartbeat session ok now s = .next t) : Keeps 37749013 s.dev t.dev := by
  have hm : covers 37749013 37749013 := rfl
  refine actOn_keeps (fun d hd => ?_) ht
  (try dsimp only)
  repeat' first
    | with_reducible assumption
    | (with_reducible refine covers_tr hm ?_; decide)
    | with_reducible apply secured_keeps
    | with_reducible apply answer_keeps
    | with_reducible apply atTime_keeps
    | intro _
    | split

theorem execPreviousKeyExpiry_keeps {slot : ℕ} {dest : ℕ} {now : ℕ} {s : State} {t : State}
    (ht : execPreviousKeyExpiry slot dest now s = .next t) : Keeps 138412032 s.dev t.dev := by
  have hm : covers 138412032 138412032 := rfl
  refine actOn_keeps (fun d hd => ?_) ht
  (try dsimp only)
  repeat' first
    | with_reducible assumption
    | (with_reducible refine covers_tr hm ?_; decide)
    | with_reducible apply previousExpiry_keeps
    | with_reducible apply atTime_keeps
    | intro _
    | split

theorem execGetCertificate_keeps {link : ℕ} {now : ℕ} {s : State} {t : State}
    (ht : execGetCertificate link now s = .next t) : Keeps 4194320 s.dev t.dev := by
  have hm : covers 4194320 4194320 := rfl
  refine actOn_keeps (fun d hd => ?_) ht
  (try dsimp only)
  repeat' first
    | with_reducible assumption
    | (with_reducible refine covers_tr hm ?_; decide)
    | with_reducible apply spdm_keeps
    | with_reducible apply answer_keeps
    | with_reducible apply atTime_keeps
    | intro _
    | split

theorem stopInterface_keeps (hm : covers 2172426533181 m) {l : ℕ} {fn : ℕ} {d : Dev} (h_d : Keeps m d0 d) :
    Keeps m d0 (stopInterface l fn d) := by
  unfold stopInterface
  (try dsimp only)
  repeat' first
    | with_reducible assumption
    | (with_reducible refine covers_tr hm ?_; decide)
    | with_reducible apply answer_keeps
    | with_reducible apply tenantReset_keeps
    | with_reducible apply setTdisp_keeps
    | with_reducible apply setSec_keeps
    | with_reducible apply OKeeps.getD
    | with_reducible apply OKeeps.map
    | intro _
    | split

theorem execIdeKm_keeps {session : ℕ} {stream : ℕ} {place : ℕ} {key : ℕ} {ok : Bool} {now : ℕ} {s : State} {t : State}
    (ht : execIdeKm session stream place key ok now s = .next t) : Keeps 37749013 s.dev t.dev := by
  have hm : covers 37749013 37749013 := rfl
  refine actOn_keeps (fun d hd => ?_) ht
  (try dsimp only)
  repeat' first
    | with_reducible assumption
    | (with_reducible refine covers_tr hm ?_; decide)
    | with_reducible apply ideKm_keeps
    | with_reducible apply atTime_keeps
    | intro _
    | split

theorem execSegmentKeyWrite_keeps {q : Sys2Proof.Req} {tenant : ℕ} {k : ℕ} {v : Sys2Proof.Payload} {tagOk : Bool} {s : State} {t : State}
    (ht : execSegmentKeyWrite q tenant k v tagOk s = .next t) : Keeps 284557589 s.dev t.dev := by
  have hm : covers 284557589 284557589 := rfl
  refine actOn_keeps (fun d hd => ?_) ht
  (try dsimp only)
  repeat' first
    | with_reducible assumption
    | (with_reducible refine covers_tr hm ?_; decide)
    | with_reducible apply segmentKeyWrite_keeps
    | intro _
    | split

theorem execGetVersion_keeps {link : ℕ} {now : ℕ} {s : State} {t : State}
    (ht : execGetVersion link now s = .next t) : Keeps 37748752 s.dev t.dev := by
  have hm : covers 37748752 37748752 := rfl
  refine actOn_keeps (fun d hd => ?_) ht
  (try dsimp only)
  repeat' first
    | with_reducible assumption
    | (with_reducible refine covers_tr hm ?_; decide)
    | with_reducible apply spdm_keeps
    | with_reducible apply answer_keeps
    | with_reducible apply setConn_keeps
    | with_reducible apply atTime_keeps
    | intro _
    | split

theorem execSecEventCntClr_keeps {who : Sys2Proof.Caller} {s : State} {t : State}
    (ht : execSecEventCntClr who s = .next t) : Keeps 5 s.dev t.dev := by
  have hm : covers 5 5 := rfl
  refine act_keeps (fun d hd => ?_) ht
  (try dsimp only)
  repeat' first
    | with_reducible assumption
    | (with_reducible refine covers_tr hm ?_; decide)
    | with_reducible apply regGate_keeps
    | with_reducible apply regSet_keeps
    | intro _
    | split

theorem execStopInterfaceRequest_keeps {session : ℕ} {fn : ℕ} {ok : Bool} {now : ℕ} {s : State} {t : State}
    (ht : execStopInterfaceRequest session fn ok now s = .next t) : Keeps 2172430727485 s.dev t.dev := by
  have hm : covers 2172430727485 2172430727485 := rfl
  refine actOn_keeps (fun d hd => ?_) ht
  (try dsimp only)
  repeat' first
    | with_reducible assumption
    | (with_reducible refine covers_tr hm ?_; decide)
    | with_reducible apply tdisp_keeps
    | with_reducible apply stopInterface_keeps
    | with_reducible apply atTime_keeps
    | intro _
    | split

/-! ## HostQueues -/

theorem fifoCorrected_keeps (hm : covers 129 m) {h : Sys2Proof.FifoHome} {fifo : ℕ} {d : Dev} (h_d : Keeps m d0 d) :
    Keeps m d0 (fifoCorrected h fifo d) := by
  unfold fifoCorrected
  (try dsimp only)
  repeat' first
    | with_reducible assumption
    | (with_reducible refine covers_tr hm ?_; decide)
    | with_reducible apply pulse_keeps
    | with_reducible apply pairSet_keeps
    | with_reducible apply disarmFlip_keeps
    | intro _
    | split

theorem execFifoWordCorrected_keeps {home : Sys2Proof.FifoHome} {fifo : ℕ} {now : ℕ} {s : State} {t : State}
    (ht : execFifoWordCorrected home fifo now s = .next t) : Keeps 4194433 s.dev t.dev := by
  have hm : covers 4194433 4194433 := rfl
  refine actOn_keeps (fun d hd => ?_) ht
  (try dsimp only)
  repeat' first
    | with_reducible assumption
    | (with_reducible refine covers_tr hm ?_; decide)
    | with_reducible apply fifoCorrected_keeps
    | with_reducible apply atTime_keeps
    | intro _
    | split

theorem queueObjectWrite_keeps (hm : covers 276171029 m) {q : Sys2Proof.Req} {idx : ℕ} {sub : ℕ} {v : Sys2Proof.Payload} {d : Dev} (h_d : Keeps m d0 d) :
    Keeps m d0 (queueObjectWrite q idx sub v d) := by
  unfold queueObjectWrite
  (try dsimp only)
  repeat' first
    | with_reducible assumption
    | (with_reducible refine covers_tr hm ?_; decide)
    | with_reducible apply perform_keeps
    | with_reducible apply queueWrite_keeps
    | intro _
    | split

theorem execQueueObjectWrite_keeps {q : Sys2Proof.Req} {idx : ℕ} {sub : ℕ} {v : Sys2Proof.Payload} {s : State} {t : State}
    (ht : execQueueObjectWrite q idx sub v s = .next t) : Keeps 276171029 s.dev t.dev := by
  have hm : covers 276171029 276171029 := rfl
  refine actOn_keeps (fun d hd => ?_) ht
  (try dsimp only)
  repeat' first
    | with_reducible assumption
    | (with_reducible refine covers_tr hm ?_; decide)
    | with_reducible apply queueObjectWrite_keeps
    | intro _
    | split

theorem fifoLost_keeps (hm : covers 4398034942911 m) {h : Sys2Proof.FifoHome} {fifo : ℕ} {d02 : Dev} (h_d02 : Keeps m d0 d02) :
    Keeps m d0 (fifoLost h fifo d02) := by
  unfold fifoLost
  (try dsimp only)
  repeat' first
    | with_reducible assumption
    | (with_reducible refine covers_tr hm ?_; decide)
    | with_reducible apply disarmFlip_keeps
    | with_reducible apply containAs_keeps
    | with_reducible apply presentDoorbells_keeps
    | with_reducible apply stopFree_keeps
    | with_reducible apply pulse_keeps
    | with_reducible apply queueReset_keeps
    | with_reducible apply warmReset_keeps
    | intro _
    | split

theorem execFifoWordUncorrectable_keeps {home : Sys2Proof.FifoHome} {fifo : ℕ} {now : ℕ} {s : State} {t : State}
    (ht : execFifoWordUncorrectable home fifo now s = .next t) : Keeps 4398034942911 s.dev t.dev := by
  have hm : covers 4398034942911 4398034942911 := rfl
  refine actOn_keeps (fun d hd => ?_) ht
  (try dsimp only)
  repeat' first
    | with_reducible assumption
    | (with_reducible refine covers_tr hm ?_; decide)
    | with_reducible apply fifoLost_keeps
    | with_reducible apply atTime_keeps
    | intro _
    | split

/-! ## Spays -/

theorem tileAction_keeps (hm : covers 3776290625973 m) {q : Sys2Proof.Req} {v : ℕ} {d : Dev} (h_d : Keeps m d0 d) :
    Keeps m d0 (tileAction q v d) := by
  unfold tileAction
  (try dsimp only)
  repeat' first
    | with_reducible assumption
    | (with_reducible refine covers_tr hm ?_; decide)
    | with_reducible apply perform_keeps
    | with_reducible apply tileReleaseWrite_keeps
    | with_reducible apply freeNext_keeps
    | with_reducible apply tileRetireWrite_keeps
    | simp only [ite_apply]
    | simp only [id_eq]
    | intro _
    | split

theorem blockCommand_keeps (hm : covers 3497394453 m) {q : Sys2Proof.Req} {idx : ℕ} {sub : ℕ} {v : Sys2Proof.Payload} {a : Dev} (h_a : Keeps m d0 a) :
    Keeps m d0 (blockCommand q idx sub v a) := by
  unfold blockCommand
  (try dsimp only)
  repeat' first
    | with_reducible assumption
    | (with_reducible refine covers_tr hm ?_; decide)
    | with_reducible apply blockAllocate_keeps
    | with_reducible apply blockFree_keeps
    | with_reducible apply perform_keeps
    | simp only [ite_apply]
    | simp only [id_eq]
    | intro _
    | split

theorem deviceRow_keeps (hm : covers 4398046511039 m) {q : Sys2Proof.Req} {idx : ℕ} {v : Sys2Proof.Payload}  :
    FKeeps m d0 (deviceRow q idx v) := by
  unfold deviceRow
  (try dsimp only)
  repeat' first
    | with_reducible assumption
    | (with_reducible refine covers_tr hm ?_; decide)
    | with_reducible exact FKeeps.none
    | with_reducible apply FKeeps.some
    | with_reducible apply FKeeps.ite
    | with_reducible apply FKeeps.orElse
    | with_reducible apply queueObjectWrite_keeps
    | with_reducible apply packageWrite_keeps
    | with_reducible apply resetRequest_keeps
    | with_reducible apply timeWrite_keeps
    | with_reducible apply pairEnableWrite_keeps
    | with_reducible apply sessionsTakenWrite_keeps
    | with_reducible apply tileAction_keeps
    | with_reducible apply handOver_keeps
    | with_reducible apply promoteWrite_keeps
    | with_reducible apply debugWrite_keeps
    | with_reducible apply operatorEraseWrite_keeps
    | with_reducible apply blockCommand_keeps
    | with_reducible apply portModeWrite_keeps
    | with_reducible apply flowCommand_keeps
    | intro _
    | split

theorem describeNow_keeps (hm : covers 268828945 m) {q : Sys2Proof.Req} {idx : ℕ} {sub : ℕ} {d : Dev} (h_d : Keeps m d0 d) :
    Keeps m d0 (describeNow q idx sub d) := by
  unfold describeNow
  (try dsimp only)
  repeat' first
    | with_reducible assumption
    | (with_reducible refine covers_tr hm ?_; decide)
    | with_reducible apply respond_keeps
    | intro _
    | split

theorem unserved_keeps (hm : covers 2199564320768 m) {q : Sys2Proof.Req} {alone : Bool} {f : Dev → Dev} {d : Dev} (h_f : ∀ (y0 : Dev), Keeps m d0 y0 → Keeps m d0 (f y0)) (h_d : Keeps m d0 d) :
    Keeps m d0 (unserved q alone f d) := by
  unfold unserved
  (try dsimp only)
  repeat' first
    | with_reducible assumption
    | (with_reducible refine covers_tr hm ?_; decide)
    | with_reducible apply setWake_keeps
    | with_reducible apply h_f
    | intro _
    | split

theorem describe_keeps (hm : covers 2199833149713 m) {q : Sys2Proof.Req} {idx : ℕ} {sub : ℕ} {d03 : Dev} (h_d03 : Keeps m d0 d03) :
    Keeps m d0 (describe q idx sub d03) := by
  unfold describe
  (try dsimp only)
  repeat' first
    | with_reducible assumption
    | (with_reducible refine covers_tr hm ?_; decide)
    | with_reducible apply atTime_keeps
    | with_reducible apply describeNow_keeps
    | with_reducible apply unserved_keeps
    | simp only [id_eq]
    | exact (FKeeps.orElse (deviceRow_keeps (covers_tr hm (by decide))) (slotRow_keeps (covers_tr hm (by decide)))).get _ (by assumption) _ (by assumption)
    | intro _
    | split

theorem holdForce_keeps (hm : covers 137573171200 m) {s : ℕ} {idx : ℕ} {d : Dev} (h_d : Keeps m d0 d) :
    Keeps m d0 (holdForce s idx d) := by
  unfold holdForce
  (try dsimp only)
  repeat' first
    | with_reducible assumption
    | (with_reducible refine covers_tr hm ?_; decide)
    | with_reducible apply setSess_keeps
    | with_reducible exact id
    | with_reducible exact rising_put
    | with_reducible exact rising_upd
    | with_reducible exact rising_set
    | with_reducible exact rising_erase
    | with_reducible exact rising_filter
    | with_reducible exact rising_tabFilter
    | with_reducible exact rising_map
    | with_reducible exact rising_to_nil
    | with_reducible exact rising_erase_two
    | simp only [keeps_mk]
    | with_reducible apply Keeps.set_ladder
    | intro _
    | split

theorem execDescribe_keeps {q : Sys2Proof.Req} {idx : ℕ} {sub : ℕ} {s : State} {t : State}
    (ht : execDescribe q idx sub s = .next t) : Keeps 2199833149713 s.dev t.dev := by
  have hm : covers 2199833149713 2199833149713 := rfl
  refine act_keeps (fun d hd => ?_) ht
  (try dsimp only)
  repeat' first
    | with_reducible assumption
    | (with_reducible refine covers_tr hm ?_; decide)
    | with_reducible apply describe_keeps
    | intro _
    | split

theorem captureClear_keeps (hm : covers 128 m) {v : ℕ} {d : Dev} (h_d : Keeps m d0 d) :
    Keeps m d0 (captureClear v d) := by
  unfold captureClear
  (try dsimp only)
  repeat' first
    | with_reducible assumption
    | (with_reducible refine covers_tr hm ?_; decide)
    | with_reducible apply firstClr_keeps
    | with_reducible apply worstClr_keeps
    | with_reducible apply lostClr_keeps
    | with_reducible apply fltCntClr_keeps
    | intro _
    | split

theorem liveAct_keeps (hm : covers 1207959552 m) {s : ℕ} {idx : ℕ} {v : ℕ} {d : Dev} (h_d : Keeps m d0 d) :
    Keeps m d0 (liveAct s idx v d) := by
  unfold liveAct
  (try dsimp only)
  repeat' first
    | with_reducible assumption
    | (with_reducible refine covers_tr hm ?_; decide)
    | with_reducible apply allocAll_keeps
    | with_reducible apply setSess_keeps
    | with_reducible apply allocAll_keeps
    | with_reducible apply OKeeps.getD
    | with_reducible apply OKeeps.getD
    | intro _
    | split

theorem paramAct_keeps (hm : covers 138646913036 m) {r : ParamRow} {s : ℕ} {idx : ℕ} {v : ℕ} {w : ℕ} {d : Dev} (h_d : Keeps m d0 d) :
    Keeps m d0 (paramAct r s idx v w d) := by
  unfold paramAct
  (try dsimp only)
  repeat' first
    | with_reducible assumption
    | (with_reducible refine covers_tr hm ?_; decide)
    | with_reducible apply objSetStitch_keeps
    | with_reducible apply liveAct_keeps
    | with_reducible apply holdForce_keeps
    | with_reducible apply noteChange_keeps
    | intro _
    | split

theorem profileAct_keeps (hm : covers 8589934592 m) {idx : ℕ} {v : ℕ} {d : Dev} (h_d : Keeps m d0 d) :
    Keeps m d0 (profileAct idx v d) := by
  unfold profileAct
  (try dsimp only)
  repeat' first
    | with_reducible assumption
    | (with_reducible refine covers_tr hm ?_; decide)
    | with_reducible apply reserveSpares_keeps
    | intro _
    | split

theorem objAct_keeps (hm : covers 147773718669 m) {idx : ℕ} {sub : ℕ} {v : Sys2Proof.Payload} {d : Dev} (h_d : Keeps m d0 d) :
    Keeps m d0 (objAct idx sub v d) := by
  unfold objAct
  (try dsimp only)
  repeat' first
    | with_reducible assumption
    | (with_reducible refine covers_tr hm ?_; decide)
    | with_reducible apply setTail_keeps
    | with_reducible apply standingClear_keeps
    | with_reducible apply setFld_keeps
    | with_reducible apply captureClear_keeps
    | with_reducible apply chanActionAct_keeps
    | with_reducible apply paramAct_keeps
    | with_reducible apply profileAct_keeps
    | with_reducible apply objSetStitch_keeps
    | intro _
    | split

theorem plainWrite_keeps (hm : covers 148049887645 m) {q : Sys2Proof.Req} {idx : ℕ} {sub : ℕ} {v : Sys2Proof.Payload} {d : Dev} (h_d : Keeps m d0 d) :
    Keeps m d0 (plainWrite q idx sub v d) := by
  unfold plainWrite
  (try dsimp only)
  repeat' first
    | with_reducible assumption
    | (with_reducible refine covers_tr hm ?_; decide)
    | with_reducible apply decideWrite_keeps
    | with_reducible apply refuse_keeps
    | with_reducible apply handleRefused_keeps
    | with_reducible apply accept_keeps
    | with_reducible apply objAct_keeps
    | intro _
    | split

theorem commandByNumber_keeps (hm : covers 2172657211741 m) {q : Sys2Proof.Req} {s : ℕ} {n : ℕ} {a : Dev} (h_a : Keeps m d0 a) :
    Keeps m d0 (commandByNumber q s n a) := by
  unfold commandByNumber
  (try dsimp only)
  repeat' first
    | with_reducible assumption
    | (with_reducible refine covers_tr hm ?_; decide)
    | with_reducible apply defineCmd_keeps
    | with_reducible apply releaseCmd_keeps
    | with_reducible apply arm_keeps
    | with_reducible apply disarmCmd_keeps
    | with_reducible apply startCmd_keeps
    | with_reducible apply pauseCmd_keeps
    | with_reducible apply resumeCmd_keeps
    | with_reducible apply drainCmd_keeps
    | with_reducible apply perform_keeps
    | simp only [ite_apply]
    | simp only [id_eq]
    | intro _
    | split

theorem slotRow_keeps (hm : covers 2172665600381 m) {q : Sys2Proof.Req} {idx : ℕ} {sub : ℕ} {v : Sys2Proof.Payload}  :
    FKeeps m d0 (slotRow q idx sub v) := by
  unfold slotRow
  (try dsimp only)
  repeat' first
    | with_reducible assumption
    | (with_reducible refine covers_tr hm ?_; decide)
    | with_reducible exact FKeeps.none
    | with_reducible apply FKeeps.some
    | with_reducible apply FKeeps.ite
    | with_reducible apply FKeeps.orElse
    | with_reducible apply tenantBindWrite_keeps
    | with_reducible apply libraryCommand_keeps
    | with_reducible apply blockCommand_keeps
    | with_reducible apply queueObjectWrite_keeps
    | with_reducible apply tenantEraseWrite_keeps
    | with_reducible apply freeNext_keeps
    | with_reducible apply segmentKeyWrite_keeps
    | with_reducible apply commandByNumber_keeps
    | with_reducible apply operatorDrainCmd_keeps
    | with_reducible apply refreshWrite_keeps
    | with_reducible apply freezeWrite_keeps
    | with_reducible apply spliceWrite_keeps
    | with_reducible apply spliceReturnWrite_keeps
    | with_reducible apply destWrite_keeps
    | with_reducible apply shaperWrite_keeps
    | with_reducible apply streamKeyWrite_keeps
    | with_reducible apply reanchorWrite_keeps
    | with_reducible apply liningReleaseWrite_keeps
    | with_reducible apply perform_keeps
    | simp only [id_eq]
    | intro _
    | split

theorem segment_keeps (hm : covers 268828945 m) {q : Sys2Proof.Req} {idx : ℕ} {sub : ℕ} {off : ℕ} {len : ℕ} {val : ℕ} {d : Dev} (h_d : Keeps m d0 d) :
    Keeps m d0 (segment q idx sub off len val d) := by
  unfold segment
  (try dsimp only)
  repeat' first
    | with_reducible assumption
    | (with_reducible refine covers_tr hm ?_; decide)
    | with_reducible apply respond_keeps
    | intro _
    | split

theorem readOk_keeps (hm : covers 269353265 m) {q : Sys2Proof.Req} {idx : ℕ} {sub : ℕ} {off : ℕ} {d : Dev} (h_d : Keeps m d0 d) :
    Keeps m d0 (readOk q idx sub off d) := by
  unfold readOk
  (try dsimp only)
  repeat' first
    | with_reducible assumption
    | (with_reducible refine covers_tr hm ?_; decide)
    | with_reducible apply segment_keeps
    | with_reducible apply freeNext_keeps
    | with_reducible exact id
    | with_reducible exact rising_put
    | with_reducible exact rising_upd
    | with_reducible exact rising_set
    | with_reducible exact rising_erase
    | with_reducible exact rising_filter
    | with_reducible exact rising_tabFilter
    | with_reducible exact rising_map
    | with_reducible exact rising_to_nil
    | with_reducible exact rising_erase_two
    | simp only [keeps_mk]
    | with_reducible apply Keeps.set_snaps
    | intro _
    | split

theorem readNow_keeps (hm : covers 269353265 m) {q : Sys2Proof.Req} {idx : ℕ} {sub : ℕ} {off : ℕ} {d : Dev} (h_d : Keeps m d0 d) :
    Keeps m d0 (readNow q idx sub off d) := by
  unfold readNow
  (try dsimp only)
  repeat' first
    | with_reducible assumption
    | (with_reducible refine covers_tr hm ?_; decide)
    | with_reducible apply respond_keeps
    | with_reducible apply readOk_keeps
    | intro _
    | split

theorem read_keeps (hm : covers 2199833674033 m) {q : Sys2Proof.Req} {idx : ℕ} {sub : ℕ} {off : ℕ} {d04 : Dev} (h_d04 : Keeps m d0 d04) :
    Keeps m d0 (read q idx sub off d04) := by
  unfold read
  (try dsimp only)
  repeat' first
    | with_reducible assumption
    | (with_reducible refine covers_tr hm ?_; decide)
    | with_reducible apply atTime_keeps
    | with_reducible apply readNow_keeps
    | with_reducible apply unserved_keeps
    | intro _
    | split

theorem execRead_keeps {q : Sys2Proof.Req} {idx : ℕ} {sub : ℕ} {off : ℕ} {s : State} {t : State}
    (ht : execRead q idx sub off s = .next t) : Keeps 2199833674033 s.dev t.dev := by
  have hm : covers 2199833674033 2199833674033 := rfl
  refine act_keeps (fun d hd => ?_) ht
  (try dsimp only)
  repeat' first
    | with_reducible assumption
    | (with_reducible refine covers_tr hm ?_; decide)
    | with_reducible apply read_keeps
    | intro _
    | split

theorem writeAny_keeps (hm : covers 4398046511103 m) {q : Sys2Proof.Req} {idx : ℕ} {sub : ℕ} {v : Sys2Proof.Payload} {d : Dev} (h_d : Keeps m d0 d) :
    Keeps m d0 (writeAny q idx sub v d) := by
  unfold writeAny
  (try dsimp only)
  repeat' first
    | with_reducible assumption
    | (with_reducible refine covers_tr hm ?_; decide)
    | with_reducible apply perform_keeps
    | with_reducible apply deviceRow_keeps
    | with_reducible apply slotRow_keeps
    | with_reducible apply plainWrite_keeps
    | simp only [id_eq]
    | exact (FKeeps.orElse (deviceRow_keeps (covers_tr hm (by decide))) (slotRow_keeps (covers_tr hm (by decide)))).get _ (by assumption) _ (by assumption)
    | intro _
    | split

theorem write_keeps (hm : covers 4398046511103 m) {q : Sys2Proof.Req} {idx : ℕ} {sub : ℕ} {v : Sys2Proof.Payload} {d04 : Dev} (h_d04 : Keeps m d0 d04) :
    Keeps m d0 (write q idx sub v d04) := by
  unfold write
  (try dsimp only)
  repeat' first
    | with_reducible assumption
    | (with_reducible refine covers_tr hm ?_; decide)
    | with_reducible apply atTime_keeps
    | with_reducible apply writeAny_keeps
    | with_reducible apply unserved_keeps
    | simp only [id_eq]
    | exact (FKeeps.orElse (deviceRow_keeps (covers_tr hm (by decide))) (slotRow_keeps (covers_tr hm (by decide)))).get _ (by assumption) _ (by assumption)
    | intro _
    | split

theorem execWrite_keeps {q : Sys2Proof.Req} {idx : ℕ} {sub : ℕ} {v : Sys2Proof.Payload} {s : State} {t : State}
    (ht : execWrite q idx sub v s = .next t) : Keeps 4398046511103 s.dev t.dev := by
  have hm : covers 4398046511103 4398046511103 := rfl
  refine act_keeps (fun d hd => ?_) ht
  (try dsimp only)
  repeat' first
    | with_reducible assumption
    | (with_reducible refine covers_tr hm ?_; decide)
    | with_reducible apply write_keeps
    | intro _
    | split

/-! ## RegWrites -/

theorem setMasked_keeps (hm : covers 1 m) {key : ℕ} {m1 : ℕ} {v : ℕ} {d : Dev} (h_d : Keeps m d0 d) :
    Keeps m d0 (setMasked key m1 v d) := by
  unfold setMasked
  (try dsimp only)
  repeat' first
    | with_reducible assumption
    | (with_reducible refine covers_tr hm ?_; decide)
    | with_reducible apply regSet_keeps
    | intro _
    | split

theorem msixWrite_keeps (hm : covers 529 m) {fn : ℕ} {off : ℕ} {v : ℕ} {d : Dev} (h_d : Keeps m d0 d) :
    Keeps m d0 (msixWrite fn off v d) := by
  unfold msixWrite
  (try dsimp only)
  repeat' first
    | with_reducible assumption
    | (with_reducible refine covers_tr hm ?_; decide)
    | with_reducible apply setVec_keeps
    | with_reducible apply unmask_keeps
    | intro _
    | split

theorem ifBit_keeps (hm : covers 0 m) {v : ℕ} {n : ℕ} {f : Dev → Dev} {d : Dev} (h_f : ∀ (y0 : Dev), Keeps m d0 y0 → Keeps m d0 (f y0)) (h_d : Keeps m d0 d) :
    Keeps m d0 (ifBit v n f d) := by
  unfold ifBit
  (try dsimp only)
  repeat' first
    | with_reducible assumption
    | (with_reducible refine covers_tr hm ?_; decide)
    | with_reducible apply h_f
    | intro _
    | split

theorem padsFreed_keeps (hm : covers 2514367814069 m) {v : ℕ} {d : Dev} (h_d : Keeps m d0 d) :
    Keeps m d0 (padsFreed v d) := by
  unfold padsFreed
  (try dsimp only)
  repeat' first
    | with_reducible assumption
    | (with_reducible refine covers_tr hm ?_; decide)
    | with_reducible apply ifBit_keeps
    | with_reducible apply freeNext_keeps
    | with_reducible apply padFree_keeps
    | with_reducible apply forEach_keeps
    | intro _
    | split

theorem fltCtrlAct_keeps (hm : covers 129 m) {who : Sys2Proof.Caller} {v : ℕ} {d : Dev} (h_d : Keeps m d0 d) :
    Keeps m d0 (fltCtrlAct who v d) := by
  unfold fltCtrlAct
  (try dsimp only)
  repeat' first
    | with_reducible assumption
    | (with_reducible refine covers_tr hm ?_; decide)
    | with_reducible apply setFld_keeps
    | with_reducible apply ifBit_keeps
    | with_reducible apply fltCntClr_keeps
    | with_reducible apply lostClr_keeps
    | with_reducible apply worstClr_keeps
    | with_reducible apply firstClr_keeps
    | intro _
    | split

theorem frontAct_keeps (hm : covers 4398046511039 m) {who : Sys2Proof.Caller} {r : Reg} {i : ℕ} {v : ℕ} {d : Dev} (h_d : Keeps m d0 d) :
    OKeeps m d0 (frontAct who r i v d) := by
  unfold frontAct
  (try dsimp only)
  repeat' first
    | with_reducible assumption
    | (with_reducible refine covers_tr hm ?_; decide)
    | with_reducible exact OKeeps.none
    | with_reducible apply OKeeps.some
    | with_reducible apply OKeeps.orElse
    | with_reducible apply OKeeps.map
    | with_reducible apply OKeeps.bind
    | with_reducible apply objSetStitch_keeps
    | with_reducible apply tbsStep_keeps
    | with_reducible apply packageAct_keeps
    | with_reducible apply resetAsked_keeps
    | with_reducible apply padsFreed_keeps
    | with_reducible apply fltCtrlAct_keeps
    | with_reducible apply setTail_keeps
    | with_reducible apply freeNext_keeps
    | with_reducible apply logSel_keeps
    | with_reducible apply ifBit_keeps
    | with_reducible apply forceAct_keeps
    | with_reducible apply standingClear_keeps
    | with_reducible apply forEach_keeps
    | with_reducible exact id
    | with_reducible exact rising_put
    | with_reducible exact rising_upd
    | with_reducible exact rising_set
    | with_reducible exact rising_erase
    | with_reducible exact rising_filter
    | with_reducible exact rising_tabFilter
    | with_reducible exact rising_map
    | with_reducible exact rising_to_nil
    | with_reducible exact rising_erase_two
    | simp only [keeps_mk]
    | with_reducible apply Keeps.set_stage
    | intro _
    | split

theorem blockAct_keeps (hm : covers 275683672989 m) {who : Sys2Proof.Caller} {r : Reg} {i : ℕ} {v : ℕ} {d : Dev} (h_d : Keeps m d0 d) :
    OKeeps m d0 (blockAct who r i v d) := by
  unfold blockAct
  (try dsimp only)
  repeat' first
    | with_reducible assumption
    | (with_reducible refine covers_tr hm ?_; decide)
    | with_reducible exact OKeeps.none
    | with_reducible apply OKeeps.some
    | with_reducible apply OKeeps.orElse
    | with_reducible apply OKeeps.map
    | with_reducible apply OKeeps.bind
    | with_reducible apply ifBit_keeps
    | with_reducible apply mbxCntClr_keeps
    | with_reducible apply mailboxGo_keeps
    | with_reducible apply idleWrite_keeps
    | with_reducible apply raise_keeps
    | with_reducible apply dsrCntClr_keeps
    | with_reducible apply reenum_keeps
    | with_reducible apply regSet_keeps
    | with_reducible apply setFld_keeps
    | with_reducible apply objSetStitch_keeps
    | with_reducible apply pairSet_keeps
    | with_reducible apply lapClear_keeps
    | with_reducible apply flipWrite_keeps
    | with_reducible apply forEach_keeps
    | with_reducible exact id
    | with_reducible exact rising_put
    | with_reducible exact rising_upd
    | with_reducible exact rising_set
    | with_reducible exact rising_erase
    | with_reducible exact rising_filter
    | with_reducible exact rising_tabFilter
    | with_reducible exact rising_map
    | with_reducible exact rising_to_nil
    | with_reducible exact rising_erase_two
    | simp only [keeps_mk]
    | with_reducible apply Keeps.set_pke
    | intro _
    | split

theorem chanCtrlAct_keeps (hm : covers 2514367814069 m) {c : ℕ} {v : ℕ} {d : Dev} (h_d : Keeps m d0 d) :
    Keeps m d0 (chanCtrlAct c v d) := by
  unfold chanCtrlAct
  (try dsimp only)
  repeat' first
    | with_reducible assumption
    | (with_reducible refine covers_tr hm ?_; decide)
    | with_reducible apply chanActionAct_keeps
    | with_reducible apply ifBit_keeps
    | with_reducible apply regSet_keeps
    | with_reducible apply freeNext_keeps
    | with_reducible apply padRelease_keeps
    | intro _
    | split

theorem trnAct_keeps (hm : covers 2207210609077 m) {c : ℕ} {v : ℕ} {d : Dev} (h_d : Keeps m d0 d) :
    Keeps m d0 (trnAct c v d) := by
  unfold trnAct
  (try dsimp only)
  repeat' first
    | with_reducible assumption
    | (with_reducible refine covers_tr hm ?_; decide)
    | with_reducible apply helperStart_keeps
    | with_reducible apply regSet_keeps
    | with_reducible apply ifBit_keeps
    | with_reducible apply freeNext_keeps
    | with_reducible apply trainFinish_keeps
    | intro _
    | split

theorem memAct_keeps (hm : covers 2542285175221 m) {who : Sys2Proof.Caller} {r : Reg} {i : ℕ} {v : ℕ} {d : Dev} (h_d : Keeps m d0 d) :
    OKeeps m d0 (memAct who r i v d) := by
  unfold memAct
  (try dsimp only)
  repeat' first
    | with_reducible assumption
    | (with_reducible refine covers_tr hm ?_; decide)
    | with_reducible exact OKeeps.none
    | with_reducible apply OKeeps.some
    | with_reducible apply OKeeps.orElse
    | with_reducible apply OKeeps.map
    | with_reducible apply OKeeps.bind
    | with_reducible apply holdUpdate_keeps
    | with_reducible apply regSet_keeps
    | with_reducible apply assertClear_keeps
    | with_reducible apply flagClear_keeps
    | with_reducible apply ifBit_keeps
    | with_reducible apply corrClear_keeps
    | with_reducible apply setFld_keeps
    | with_reducible apply presentDoorbells_keeps
    | with_reducible apply stopFree_keeps
    | with_reducible apply setRing_keeps
    | with_reducible apply moveHead_keeps
    | with_reducible apply setFnQ_keeps
    | with_reducible apply chanCtrlAct_keeps
    | with_reducible apply trnAct_keeps
    | with_reducible apply setChan_keeps
    | intro _
    | split

theorem regAct_keeps (hm : covers 4398046511039 m) {who : Sys2Proof.Caller} {key : ℕ} {r : RegRow} {i : ℕ} {v : ℕ} {d : Dev} (h_d : Keeps m d0 d) :
    Keeps m d0 (regAct who key r i v d) := by
  unfold regAct
  (try dsimp only)
  repeat' first
    | with_reducible assumption
    | (with_reducible refine covers_tr hm ?_; decide)
    | with_reducible apply frontAct_keeps
    | with_reducible apply blockAct_keeps
    | with_reducible apply memAct_keeps
    | with_reducible apply setMasked_keeps
    | with_reducible apply mend_keeps
    | exact (OKeeps.orElse (OKeeps.orElse (frontAct_keeps (covers_tr hm (by decide)) (by assumption)) (blockAct_keeps (covers_tr hm (by decide)) (by assumption))) (memAct_keeps (covers_tr hm (by decide)) (by assumption))).get _ (by assumption)
    | with_reducible apply OKeeps.getD
    | intro _
    | split

theorem regTake_keeps (hm : covers 4398046511039 m) {who : Sys2Proof.Caller} {key : ℕ} {r : RegRow} {i : ℕ} {v : ℕ} {d : Dev} (h_d : Keeps m d0 d) :
    Keeps m d0 (regTake who key r i v d) := by
  unfold regTake
  (try dsimp only)
  repeat' first
    | with_reducible assumption
    | (with_reducible refine covers_tr hm ?_; decide)
    | with_reducible apply regDrop_keeps
    | with_reducible apply regAct_keeps
    | intro _
    | split

theorem regView_keeps (hm : covers 4398046511039 m) {who : Sys2Proof.Caller} {key : ℕ} {r : RegRow} {i : ℕ} {view : ℕ} {v : ℕ} {d : Dev} (h_d : Keeps m d0 d) :
    Keeps m d0 (regView who key r i view v d) := by
  unfold regView
  (try dsimp only)
  repeat' first
    | with_reducible assumption
    | (with_reducible refine covers_tr hm ?_; decide)
    | with_reducible apply regTake_keeps
    | intro _
    | split

theorem pfRegWrite_keeps (hm : covers 4398046511039 m) {who : Sys2Proof.Caller} {off : ℕ} {v : ℕ} {d : Dev} (h_d : Keeps m d0 d) :
    Keeps m d0 (pfRegWrite who off v d) := by
  unfold pfRegWrite
  (try dsimp only)
  repeat' first
    | with_reducible assumption
    | (with_reducible refine covers_tr hm ?_; decide)
    | with_reducible apply regGate_keeps
    | with_reducible apply regView_keeps
    | intro _
    | split

theorem pfPageWrite_keeps (hm : covers 4398046511039 m) {who : Sys2Proof.Caller} {off : ℕ} {v : ℕ} {d : Dev} (h_d : Keeps m d0 d) :
    Keeps m d0 (pfPageWrite who off v d) := by
  unfold pfPageWrite
  (try dsimp only)
  repeat' first
    | with_reducible assumption
    | (with_reducible refine covers_tr hm ?_; decide)
    | with_reducible apply regGate_keeps
    | with_reducible apply msixWrite_keeps
    | with_reducible apply pfRegWrite_keeps
    | intro _
    | split

theorem vfRegWrite_keeps (hm : covers 4398046511039 m) {who : Sys2Proof.Caller} {t : ℕ} {off : ℕ} {v : ℕ} {d : Dev} (h_d : Keeps m d0 d) :
    Keeps m d0 (vfRegWrite who t off v d) := by
  unfold vfRegWrite
  (try dsimp only)
  repeat' first
    | with_reducible assumption
    | (with_reducible refine covers_tr hm ?_; decide)
    | with_reducible apply hostGate_keeps
    | with_reducible apply bandDoorbell_keeps
    | with_reducible apply regView_keeps
    | with_reducible apply regDrop_keeps
    | intro _
    | split

theorem vfPageWrite_keeps (hm : covers 4398046511039 m) {who : Sys2Proof.Caller} {t : ℕ} {off : ℕ} {v : ℕ} {d : Dev} (h_d : Keeps m d0 d) :
    Keeps m d0 (vfPageWrite who t off v d) := by
  unfold vfPageWrite
  (try dsimp only)
  repeat' first
    | with_reducible assumption
    | (with_reducible refine covers_tr hm ?_; decide)
    | with_reducible apply hostGate_keeps
    | with_reducible apply regDrop_keeps
    | with_reducible apply msixWrite_keeps
    | with_reducible apply vfRegWrite_keeps
    | intro _
    | split

theorem registerWrite_keeps (hm : covers 4398046511039 m) {who : Sys2Proof.Caller} {off : ℕ} {value : ℕ} {d : Dev} (h_d : Keeps m d0 d) :
    Keeps m d0 (registerWrite who off value d) := by
  unfold registerWrite
  (try dsimp only)
  repeat' first
    | with_reducible assumption
    | (with_reducible refine covers_tr hm ?_; decide)
    | with_reducible apply malformed_keeps
    | with_reducible apply vfPageWrite_keeps
    | with_reducible apply strayAccess_keeps
    | with_reducible apply pfPageWrite_keeps
    | intro _
    | split

theorem execRegisterWrite_keeps {who : Sys2Proof.Caller} {offset : ℕ} {value : ℕ} {now : ℕ} {s : State} {t : State}
    (ht : execRegisterWrite who offset value now s = .next t) : Keeps 4398046511039 s.dev t.dev := by
  have hm : covers 4398046511039 4398046511039 := rfl
  refine actOn_keeps (fun d hd => ?_) ht
  (try dsimp only)
  repeat' first
    | with_reducible assumption
    | (with_reducible refine covers_tr hm ?_; decide)
    | with_reducible apply registerWrite_keeps
    | with_reducible apply atTime_keeps
    | intro _
    | split

theorem parityFound_keeps (hm : covers 65665 m) {key : ℕ} {d : Dev} (h_d : Keeps m d0 d) :
    Keeps m d0 (parityFound key d) := by
  unfold parityFound
  (try dsimp only)
  repeat' first
    | with_reducible assumption
    | (with_reducible refine covers_tr hm ?_; decide)
    | with_reducible apply level_keeps
    | with_reducible apply regSet_keeps
    | with_reducible exact id
    | with_reducible exact rising_put
    | with_reducible exact rising_upd
    | with_reducible exact rising_set
    | with_reducible exact rising_erase
    | with_reducible exact rising_filter
    | with_reducible exact rising_tabFilter
    | with_reducible exact rising_map
    | with_reducible exact rising_to_nil
    | with_reducible exact rising_erase_two
    | simp only [keeps_mk]
    | with_reducible apply Keeps.set_parityBad
    | intro _
    | split

theorem execParitySweep_keeps {mismatched : List ℕ} {now : ℕ} {s : State} {t : State}
    (ht : execParitySweep mismatched now s = .next t) : Keeps 4259969 s.dev t.dev := by
  have hm : covers 4259969 4259969 := rfl
  refine act_keeps (fun d hd => ?_) ht
  (try dsimp only)
  repeat' first
    | with_reducible assumption
    | (with_reducible refine covers_tr hm ?_; decide)
    | with_reducible apply parityFound_keeps
    | with_reducible apply atTime_keeps
    | with_reducible apply forEach_keeps
    | intro _
    | split

/-! ## Microcode -/

theorem runMicro_keeps (hm : covers 3776014457237 m) {t : ℕ} {d : Dev} (h_d : Keeps m d0 d) :
    Keeps m d0 (runMicro t d) := by
  unfold runMicro
  (try dsimp only)
  repeat' first
    | with_reducible assumption
    | (with_reducible refine covers_tr hm ?_; decide)
    | with_reducible apply setLoom_keeps
    | with_reducible apply containTile_keeps
    | intro _
    | split

theorem runMicros_keeps (hm : covers 3776014457237 m) {d : Dev} (h_d : Keeps m d0 d) :
    Keeps m d0 (runMicros d) := by
  unfold runMicros
  (try dsimp only)
  repeat' first
    | with_reducible assumption
    | (with_reducible refine covers_tr hm ?_; decide)
    | with_reducible apply runMicro_keeps
    | with_reducible apply forEach_keeps
    | intro _
    | split

end Sys2Proof.Machine
end

