-- ==== Sys2Proof/Laws/State.lean ====
section
/-! SUPPORT. What each update of the block leaves as it was: one lemma for each field and update. -/
set_option Elab.async false
set_option autoImplicit false
namespace Sys2Proof.Machine

/-! ## setTenant -/
@[simp] theorem setTenant_regs (t : Nat) (v : Tenant) (d : Dev) : (setTenant t v d).regs = d.regs := rfl
@[simp] theorem setTenant_stage (t : Nat) (v : Tenant) (d : Dev) : (setTenant t v d).stage = d.stage := rfl
@[simp] theorem setTenant_objs (t : Nat) (v : Tenant) (d : Dev) : (setTenant t v d).objs = d.objs := rfl
@[simp] theorem setTenant_heldStitch (t : Nat) (v : Tenant) (d : Dev) : (setTenant t v d).heldStitch = d.heldStitch := rfl
@[simp] theorem setTenant_emitted (t : Nat) (v : Tenant) (d : Dev) : (setTenant t v d).emitted = d.emitted := rfl
@[simp] theorem setTenant_freeCtr (t : Nat) (v : Tenant) (d : Dev) : (setTenant t v d).freeCtr = d.freeCtr := rfl
@[simp] theorem setTenant_rngCtr (t : Nat) (v : Tenant) (d : Dev) : (setTenant t v d).rngCtr = d.rngCtr := rfl
@[simp] theorem setTenant_flt (t : Nat) (v : Tenant) (d : Dev) : (setTenant t v d).flt = d.flt := rfl
@[simp] theorem setTenant_irq (t : Nat) (v : Tenant) (d : Dev) : (setTenant t v d).irq = d.irq := rfl
@[simp] theorem setTenant_msix (t : Nat) (v : Tenant) (d : Dev) : (setTenant t v d).msix = d.msix := rfl
@[simp] theorem setTenant_fnMask (t : Nat) (v : Tenant) (d : Dev) : (setTenant t v d).fnMask = d.fnMask := rfl
@[simp] theorem setTenant_rings (t : Nat) (v : Tenant) (d : Dev) : (setTenant t v d).rings = d.rings := rfl
@[simp] theorem setTenant_fnq (t : Nat) (v : Tenant) (d : Dev) : (setTenant t v d).fnq = d.fnq := rfl
@[simp] theorem setTenant_dmaCh (t : Nat) (v : Tenant) (d : Dev) : (setTenant t v d).dmaCh = d.dmaCh := rfl
@[simp] theorem setTenant_recvBufs (t : Nat) (v : Tenant) (d : Dev) : (setTenant t v d).recvBufs = d.recvBufs := rfl
@[simp] theorem setTenant_links (t : Nat) (v : Tenant) (d : Dev) : (setTenant t v d).links = d.links := rfl
@[simp] theorem setTenant_parityBad (t : Nat) (v : Tenant) (d : Dev) : (setTenant t v d).parityBad = d.parityBad := rfl
@[simp] theorem setTenant_mbox (t : Nat) (v : Tenant) (d : Dev) : (setTenant t v d).mbox = d.mbox := rfl
@[simp] theorem setTenant_waiting (t : Nat) (v : Tenant) (d : Dev) : (setTenant t v d).waiting = d.waiting := rfl
@[simp] theorem setTenant_snaps (t : Nat) (v : Tenant) (d : Dev) : (setTenant t v d).snaps = d.snaps := rfl
@[simp] theorem setTenant_lastCtr (t : Nat) (v : Tenant) (d : Dev) : (setTenant t v d).lastCtr = d.lastCtr := rfl
@[simp] theorem setTenant_authSeen (t : Nat) (v : Tenant) (d : Dev) : (setTenant t v d).authSeen = d.authSeen := rfl
@[simp] theorem setTenant_tbs (t : Nat) (v : Tenant) (d : Dev) : (setTenant t v d).tbs = d.tbs := rfl
@[simp] theorem setTenant_rrLast (t : Nat) (v : Tenant) (d : Dev) : (setTenant t v d).rrLast = d.rrLast := rfl
@[simp] theorem setTenant_sec (t : Nat) (v : Tenant) (d : Dev) : (setTenant t v d).sec = d.sec := rfl
@[simp] theorem setTenant_pair (t : Nat) (v : Tenant) (d : Dev) : (setTenant t v d).pair = d.pair := rfl
@[simp] theorem setTenant_sess (t : Nat) (v : Tenant) (d : Dev) : (setTenant t v d).sess = d.sess := rfl
@[simp] theorem setTenant_dsr (t : Nat) (v : Tenant) (d : Dev) : (setTenant t v d).dsr = d.dsr := rfl
@[simp] theorem setTenant_chans (t : Nat) (v : Tenant) (d : Dev) : (setTenant t v d).chans = d.chans := rfl
@[simp] theorem setTenant_wrd (t : Nat) (v : Tenant) (d : Dev) : (setTenant t v d).wrd = d.wrd := rfl
@[simp] theorem setTenant_mem (t : Nat) (v : Tenant) (d : Dev) : (setTenant t v d).mem = d.mem := rfl
@[simp] theorem setTenant_streams (t : Nat) (v : Tenant) (d : Dev) : (setTenant t v d).streams = d.streams := rfl
@[simp] theorem setTenant_tiles (t : Nat) (v : Tenant) (d : Dev) : (setTenant t v d).tiles = d.tiles := rfl
@[simp] theorem setTenant_loom (t : Nat) (v : Tenant) (d : Dev) : (setTenant t v d).loom = d.loom := rfl
@[simp] theorem setTenant_hold (t : Nat) (v : Tenant) (d : Dev) : (setTenant t v d).hold = d.hold := rfl
@[simp] theorem setTenant_linPrm (t : Nat) (v : Tenant) (d : Dev) : (setTenant t v d).linPrm = d.linPrm := rfl
@[simp] theorem setTenant_ladder (t : Nat) (v : Tenant) (d : Dev) : (setTenant t v d).ladder = d.ladder := rfl
@[simp] theorem setTenant_pke (t : Nat) (v : Tenant) (d : Dev) : (setTenant t v d).pke = d.pke := rfl
@[simp] theorem setTenant_lib (t : Nat) (v : Tenant) (d : Dev) : (setTenant t v d).lib = d.lib := rfl
@[simp] theorem setTenant_linings (t : Nat) (v : Tenant) (d : Dev) : (setTenant t v d).linings = d.linings := rfl
@[simp] theorem setTenant_pwr (t : Nat) (v : Tenant) (d : Dev) : (setTenant t v d).pwr = d.pwr := rfl

/-! ## setRing -/
@[simp] theorem setRing_regs (k : Nat) (r : Ring) (d : Dev) : (setRing k r d).regs = d.regs := rfl
@[simp] theorem setRing_stage (k : Nat) (r : Ring) (d : Dev) : (setRing k r d).stage = d.stage := rfl
@[simp] theorem setRing_objs (k : Nat) (r : Ring) (d : Dev) : (setRing k r d).objs = d.objs := rfl
@[simp] theorem setRing_heldStitch (k : Nat) (r : Ring) (d : Dev) : (setRing k r d).heldStitch = d.heldStitch := rfl
@[simp] theorem setRing_emitted (k : Nat) (r : Ring) (d : Dev) : (setRing k r d).emitted = d.emitted := rfl
@[simp] theorem setRing_freeCtr (k : Nat) (r : Ring) (d : Dev) : (setRing k r d).freeCtr = d.freeCtr := rfl
@[simp] theorem setRing_rngCtr (k : Nat) (r : Ring) (d : Dev) : (setRing k r d).rngCtr = d.rngCtr := rfl
@[simp] theorem setRing_flt (k : Nat) (r : Ring) (d : Dev) : (setRing k r d).flt = d.flt := rfl
@[simp] theorem setRing_irq (k : Nat) (r : Ring) (d : Dev) : (setRing k r d).irq = d.irq := rfl
@[simp] theorem setRing_msix (k : Nat) (r : Ring) (d : Dev) : (setRing k r d).msix = d.msix := rfl
@[simp] theorem setRing_fnMask (k : Nat) (r : Ring) (d : Dev) : (setRing k r d).fnMask = d.fnMask := rfl
@[simp] theorem setRing_fnq (k : Nat) (r : Ring) (d : Dev) : (setRing k r d).fnq = d.fnq := rfl
@[simp] theorem setRing_dmaCh (k : Nat) (r : Ring) (d : Dev) : (setRing k r d).dmaCh = d.dmaCh := rfl
@[simp] theorem setRing_recvBufs (k : Nat) (r : Ring) (d : Dev) : (setRing k r d).recvBufs = d.recvBufs := rfl
@[simp] theorem setRing_links (k : Nat) (r : Ring) (d : Dev) : (setRing k r d).links = d.links := rfl
@[simp] theorem setRing_parityBad (k : Nat) (r : Ring) (d : Dev) : (setRing k r d).parityBad = d.parityBad := rfl
@[simp] theorem setRing_mbox (k : Nat) (r : Ring) (d : Dev) : (setRing k r d).mbox = d.mbox := rfl
@[simp] theorem setRing_waiting (k : Nat) (r : Ring) (d : Dev) : (setRing k r d).waiting = d.waiting := rfl
@[simp] theorem setRing_snaps (k : Nat) (r : Ring) (d : Dev) : (setRing k r d).snaps = d.snaps := rfl
@[simp] theorem setRing_lastCtr (k : Nat) (r : Ring) (d : Dev) : (setRing k r d).lastCtr = d.lastCtr := rfl
@[simp] theorem setRing_authSeen (k : Nat) (r : Ring) (d : Dev) : (setRing k r d).authSeen = d.authSeen := rfl
@[simp] theorem setRing_tbs (k : Nat) (r : Ring) (d : Dev) : (setRing k r d).tbs = d.tbs := rfl
@[simp] theorem setRing_tenants (k : Nat) (r : Ring) (d : Dev) : (setRing k r d).tenants = d.tenants := rfl
@[simp] theorem setRing_rrLast (k : Nat) (r : Ring) (d : Dev) : (setRing k r d).rrLast = d.rrLast := rfl
@[simp] theorem setRing_sec (k : Nat) (r : Ring) (d : Dev) : (setRing k r d).sec = d.sec := rfl
@[simp] theorem setRing_pair (k : Nat) (r : Ring) (d : Dev) : (setRing k r d).pair = d.pair := rfl
@[simp] theorem setRing_sess (k : Nat) (r : Ring) (d : Dev) : (setRing k r d).sess = d.sess := rfl
@[simp] theorem setRing_dsr (k : Nat) (r : Ring) (d : Dev) : (setRing k r d).dsr = d.dsr := rfl
@[simp] theorem setRing_chans (k : Nat) (r : Ring) (d : Dev) : (setRing k r d).chans = d.chans := rfl
@[simp] theorem setRing_wrd (k : Nat) (r : Ring) (d : Dev) : (setRing k r d).wrd = d.wrd := rfl
@[simp] theorem setRing_mem (k : Nat) (r : Ring) (d : Dev) : (setRing k r d).mem = d.mem := rfl
@[simp] theorem setRing_streams (k : Nat) (r : Ring) (d : Dev) : (setRing k r d).streams = d.streams := rfl
@[simp] theorem setRing_tiles (k : Nat) (r : Ring) (d : Dev) : (setRing k r d).tiles = d.tiles := rfl
@[simp] theorem setRing_loom (k : Nat) (r : Ring) (d : Dev) : (setRing k r d).loom = d.loom := rfl
@[simp] theorem setRing_hold (k : Nat) (r : Ring) (d : Dev) : (setRing k r d).hold = d.hold := rfl
@[simp] theorem setRing_linPrm (k : Nat) (r : Ring) (d : Dev) : (setRing k r d).linPrm = d.linPrm := rfl
@[simp] theorem setRing_ladder (k : Nat) (r : Ring) (d : Dev) : (setRing k r d).ladder = d.ladder := rfl
@[simp] theorem setRing_pke (k : Nat) (r : Ring) (d : Dev) : (setRing k r d).pke = d.pke := rfl
@[simp] theorem setRing_lib (k : Nat) (r : Ring) (d : Dev) : (setRing k r d).lib = d.lib := rfl
@[simp] theorem setRing_linings (k : Nat) (r : Ring) (d : Dev) : (setRing k r d).linings = d.linings := rfl
@[simp] theorem setRing_pwr (k : Nat) (r : Ring) (d : Dev) : (setRing k r d).pwr = d.pwr := rfl

/-! ## setFnQ -/
@[simp] theorem setFnQ_regs (fn : Nat) (q : FnQ) (d : Dev) : (setFnQ fn q d).regs = d.regs := rfl
@[simp] theorem setFnQ_stage (fn : Nat) (q : FnQ) (d : Dev) : (setFnQ fn q d).stage = d.stage := rfl
@[simp] theorem setFnQ_objs (fn : Nat) (q : FnQ) (d : Dev) : (setFnQ fn q d).objs = d.objs := rfl
@[simp] theorem setFnQ_heldStitch (fn : Nat) (q : FnQ) (d : Dev) : (setFnQ fn q d).heldStitch = d.heldStitch := rfl
@[simp] theorem setFnQ_emitted (fn : Nat) (q : FnQ) (d : Dev) : (setFnQ fn q d).emitted = d.emitted := rfl
@[simp] theorem setFnQ_freeCtr (fn : Nat) (q : FnQ) (d : Dev) : (setFnQ fn q d).freeCtr = d.freeCtr := rfl
@[simp] theorem setFnQ_rngCtr (fn : Nat) (q : FnQ) (d : Dev) : (setFnQ fn q d).rngCtr = d.rngCtr := rfl
@[simp] theorem setFnQ_flt (fn : Nat) (q : FnQ) (d : Dev) : (setFnQ fn q d).flt = d.flt := rfl
@[simp] theorem setFnQ_irq (fn : Nat) (q : FnQ) (d : Dev) : (setFnQ fn q d).irq = d.irq := rfl
@[simp] theorem setFnQ_msix (fn : Nat) (q : FnQ) (d : Dev) : (setFnQ fn q d).msix = d.msix := rfl
@[simp] theorem setFnQ_fnMask (fn : Nat) (q : FnQ) (d : Dev) : (setFnQ fn q d).fnMask = d.fnMask := rfl
@[simp] theorem setFnQ_rings (fn : Nat) (q : FnQ) (d : Dev) : (setFnQ fn q d).rings = d.rings := rfl
@[simp] theorem setFnQ_dmaCh (fn : Nat) (q : FnQ) (d : Dev) : (setFnQ fn q d).dmaCh = d.dmaCh := rfl
@[simp] theorem setFnQ_recvBufs (fn : Nat) (q : FnQ) (d : Dev) : (setFnQ fn q d).recvBufs = d.recvBufs := rfl
@[simp] theorem setFnQ_links (fn : Nat) (q : FnQ) (d : Dev) : (setFnQ fn q d).links = d.links := rfl
@[simp] theorem setFnQ_parityBad (fn : Nat) (q : FnQ) (d : Dev) : (setFnQ fn q d).parityBad = d.parityBad := rfl
@[simp] theorem setFnQ_mbox (fn : Nat) (q : FnQ) (d : Dev) : (setFnQ fn q d).mbox = d.mbox := rfl
@[simp] theorem setFnQ_waiting (fn : Nat) (q : FnQ) (d : Dev) : (setFnQ fn q d).waiting = d.waiting := rfl
@[simp] theorem setFnQ_snaps (fn : Nat) (q : FnQ) (d : Dev) : (setFnQ fn q d).snaps = d.snaps := rfl
@[simp] theorem setFnQ_lastCtr (fn : Nat) (q : FnQ) (d : Dev) : (setFnQ fn q d).lastCtr = d.lastCtr := rfl
@[simp] theorem setFnQ_authSeen (fn : Nat) (q : FnQ) (d : Dev) : (setFnQ fn q d).authSeen = d.authSeen := rfl
@[simp] theorem setFnQ_tbs (fn : Nat) (q : FnQ) (d : Dev) : (setFnQ fn q d).tbs = d.tbs := rfl
@[simp] theorem setFnQ_tenants (fn : Nat) (q : FnQ) (d : Dev) : (setFnQ fn q d).tenants = d.tenants := rfl
@[simp] theorem setFnQ_rrLast (fn : Nat) (q : FnQ) (d : Dev) : (setFnQ fn q d).rrLast = d.rrLast := rfl
@[simp] theorem setFnQ_sec (fn : Nat) (q : FnQ) (d : Dev) : (setFnQ fn q d).sec = d.sec := rfl
@[simp] theorem setFnQ_pair (fn : Nat) (q : FnQ) (d : Dev) : (setFnQ fn q d).pair = d.pair := rfl
@[simp] theorem setFnQ_sess (fn : Nat) (q : FnQ) (d : Dev) : (setFnQ fn q d).sess = d.sess := rfl
@[simp] theorem setFnQ_dsr (fn : Nat) (q : FnQ) (d : Dev) : (setFnQ fn q d).dsr = d.dsr := rfl
@[simp] theorem setFnQ_chans (fn : Nat) (q : FnQ) (d : Dev) : (setFnQ fn q d).chans = d.chans := rfl
@[simp] theorem setFnQ_wrd (fn : Nat) (q : FnQ) (d : Dev) : (setFnQ fn q d).wrd = d.wrd := rfl
@[simp] theorem setFnQ_mem (fn : Nat) (q : FnQ) (d : Dev) : (setFnQ fn q d).mem = d.mem := rfl
@[simp] theorem setFnQ_streams (fn : Nat) (q : FnQ) (d : Dev) : (setFnQ fn q d).streams = d.streams := rfl
@[simp] theorem setFnQ_tiles (fn : Nat) (q : FnQ) (d : Dev) : (setFnQ fn q d).tiles = d.tiles := rfl
@[simp] theorem setFnQ_loom (fn : Nat) (q : FnQ) (d : Dev) : (setFnQ fn q d).loom = d.loom := rfl
@[simp] theorem setFnQ_hold (fn : Nat) (q : FnQ) (d : Dev) : (setFnQ fn q d).hold = d.hold := rfl
@[simp] theorem setFnQ_linPrm (fn : Nat) (q : FnQ) (d : Dev) : (setFnQ fn q d).linPrm = d.linPrm := rfl
@[simp] theorem setFnQ_ladder (fn : Nat) (q : FnQ) (d : Dev) : (setFnQ fn q d).ladder = d.ladder := rfl
@[simp] theorem setFnQ_pke (fn : Nat) (q : FnQ) (d : Dev) : (setFnQ fn q d).pke = d.pke := rfl
@[simp] theorem setFnQ_lib (fn : Nat) (q : FnQ) (d : Dev) : (setFnQ fn q d).lib = d.lib := rfl
@[simp] theorem setFnQ_linings (fn : Nat) (q : FnQ) (d : Dev) : (setFnQ fn q d).linings = d.linings := rfl
@[simp] theorem setFnQ_pwr (fn : Nat) (q : FnQ) (d : Dev) : (setFnQ fn q d).pwr = d.pwr := rfl

/-! ## setLink -/
@[simp] theorem setLink_regs (i : Nat) (v : Link) (d : Dev) : (setLink i v d).regs = d.regs := rfl
@[simp] theorem setLink_stage (i : Nat) (v : Link) (d : Dev) : (setLink i v d).stage = d.stage := rfl
@[simp] theorem setLink_objs (i : Nat) (v : Link) (d : Dev) : (setLink i v d).objs = d.objs := rfl
@[simp] theorem setLink_heldStitch (i : Nat) (v : Link) (d : Dev) : (setLink i v d).heldStitch = d.heldStitch := rfl
@[simp] theorem setLink_emitted (i : Nat) (v : Link) (d : Dev) : (setLink i v d).emitted = d.emitted := rfl
@[simp] theorem setLink_freeCtr (i : Nat) (v : Link) (d : Dev) : (setLink i v d).freeCtr = d.freeCtr := rfl
@[simp] theorem setLink_rngCtr (i : Nat) (v : Link) (d : Dev) : (setLink i v d).rngCtr = d.rngCtr := rfl
@[simp] theorem setLink_flt (i : Nat) (v : Link) (d : Dev) : (setLink i v d).flt = d.flt := rfl
@[simp] theorem setLink_irq (i : Nat) (v : Link) (d : Dev) : (setLink i v d).irq = d.irq := rfl
@[simp] theorem setLink_msix (i : Nat) (v : Link) (d : Dev) : (setLink i v d).msix = d.msix := rfl
@[simp] theorem setLink_fnMask (i : Nat) (v : Link) (d : Dev) : (setLink i v d).fnMask = d.fnMask := rfl
@[simp] theorem setLink_rings (i : Nat) (v : Link) (d : Dev) : (setLink i v d).rings = d.rings := rfl
@[simp] theorem setLink_fnq (i : Nat) (v : Link) (d : Dev) : (setLink i v d).fnq = d.fnq := rfl
@[simp] theorem setLink_dmaCh (i : Nat) (v : Link) (d : Dev) : (setLink i v d).dmaCh = d.dmaCh := rfl
@[simp] theorem setLink_recvBufs (i : Nat) (v : Link) (d : Dev) : (setLink i v d).recvBufs = d.recvBufs := rfl
@[simp] theorem setLink_parityBad (i : Nat) (v : Link) (d : Dev) : (setLink i v d).parityBad = d.parityBad := rfl
@[simp] theorem setLink_mbox (i : Nat) (v : Link) (d : Dev) : (setLink i v d).mbox = d.mbox := rfl
@[simp] theorem setLink_waiting (i : Nat) (v : Link) (d : Dev) : (setLink i v d).waiting = d.waiting := rfl
@[simp] theorem setLink_snaps (i : Nat) (v : Link) (d : Dev) : (setLink i v d).snaps = d.snaps := rfl
@[simp] theorem setLink_lastCtr (i : Nat) (v : Link) (d : Dev) : (setLink i v d).lastCtr = d.lastCtr := rfl
@[simp] theorem setLink_authSeen (i : Nat) (v : Link) (d : Dev) : (setLink i v d).authSeen = d.authSeen := rfl
@[simp] theorem setLink_tbs (i : Nat) (v : Link) (d : Dev) : (setLink i v d).tbs = d.tbs := rfl
@[simp] theorem setLink_tenants (i : Nat) (v : Link) (d : Dev) : (setLink i v d).tenants = d.tenants := rfl
@[simp] theorem setLink_rrLast (i : Nat) (v : Link) (d : Dev) : (setLink i v d).rrLast = d.rrLast := rfl
@[simp] theorem setLink_sec (i : Nat) (v : Link) (d : Dev) : (setLink i v d).sec = d.sec := rfl
@[simp] theorem setLink_pair (i : Nat) (v : Link) (d : Dev) : (setLink i v d).pair = d.pair := rfl
@[simp] theorem setLink_sess (i : Nat) (v : Link) (d : Dev) : (setLink i v d).sess = d.sess := rfl
@[simp] theorem setLink_dsr (i : Nat) (v : Link) (d : Dev) : (setLink i v d).dsr = d.dsr := rfl
@[simp] theorem setLink_chans (i : Nat) (v : Link) (d : Dev) : (setLink i v d).chans = d.chans := rfl
@[simp] theorem setLink_wrd (i : Nat) (v : Link) (d : Dev) : (setLink i v d).wrd = d.wrd := rfl
@[simp] theorem setLink_mem (i : Nat) (v : Link) (d : Dev) : (setLink i v d).mem = d.mem := rfl
@[simp] theorem setLink_streams (i : Nat) (v : Link) (d : Dev) : (setLink i v d).streams = d.streams := rfl
@[simp] theorem setLink_tiles (i : Nat) (v : Link) (d : Dev) : (setLink i v d).tiles = d.tiles := rfl
@[simp] theorem setLink_loom (i : Nat) (v : Link) (d : Dev) : (setLink i v d).loom = d.loom := rfl
@[simp] theorem setLink_hold (i : Nat) (v : Link) (d : Dev) : (setLink i v d).hold = d.hold := rfl
@[simp] theorem setLink_linPrm (i : Nat) (v : Link) (d : Dev) : (setLink i v d).linPrm = d.linPrm := rfl
@[simp] theorem setLink_ladder (i : Nat) (v : Link) (d : Dev) : (setLink i v d).ladder = d.ladder := rfl
@[simp] theorem setLink_pke (i : Nat) (v : Link) (d : Dev) : (setLink i v d).pke = d.pke := rfl
@[simp] theorem setLink_lib (i : Nat) (v : Link) (d : Dev) : (setLink i v d).lib = d.lib := rfl
@[simp] theorem setLink_linings (i : Nat) (v : Link) (d : Dev) : (setLink i v d).linings = d.linings := rfl
@[simp] theorem setLink_pwr (i : Nat) (v : Link) (d : Dev) : (setLink i v d).pwr = d.pwr := rfl

/-! ## setMbox -/
@[simp] theorem setMbox_regs (k : Nat) (m : Mbox) (d : Dev) : (setMbox k m d).regs = d.regs := rfl
@[simp] theorem setMbox_stage (k : Nat) (m : Mbox) (d : Dev) : (setMbox k m d).stage = d.stage := rfl
@[simp] theorem setMbox_objs (k : Nat) (m : Mbox) (d : Dev) : (setMbox k m d).objs = d.objs := rfl
@[simp] theorem setMbox_heldStitch (k : Nat) (m : Mbox) (d : Dev) : (setMbox k m d).heldStitch = d.heldStitch := rfl
@[simp] theorem setMbox_emitted (k : Nat) (m : Mbox) (d : Dev) : (setMbox k m d).emitted = d.emitted := rfl
@[simp] theorem setMbox_freeCtr (k : Nat) (m : Mbox) (d : Dev) : (setMbox k m d).freeCtr = d.freeCtr := rfl
@[simp] theorem setMbox_rngCtr (k : Nat) (m : Mbox) (d : Dev) : (setMbox k m d).rngCtr = d.rngCtr := rfl
@[simp] theorem setMbox_flt (k : Nat) (m : Mbox) (d : Dev) : (setMbox k m d).flt = d.flt := rfl
@[simp] theorem setMbox_irq (k : Nat) (m : Mbox) (d : Dev) : (setMbox k m d).irq = d.irq := rfl
@[simp] theorem setMbox_msix (k : Nat) (m : Mbox) (d : Dev) : (setMbox k m d).msix = d.msix := rfl
@[simp] theorem setMbox_fnMask (k : Nat) (m : Mbox) (d : Dev) : (setMbox k m d).fnMask = d.fnMask := rfl
@[simp] theorem setMbox_rings (k : Nat) (m : Mbox) (d : Dev) : (setMbox k m d).rings = d.rings := rfl
@[simp] theorem setMbox_fnq (k : Nat) (m : Mbox) (d : Dev) : (setMbox k m d).fnq = d.fnq := rfl
@[simp] theorem setMbox_dmaCh (k : Nat) (m : Mbox) (d : Dev) : (setMbox k m d).dmaCh = d.dmaCh := rfl
@[simp] theorem setMbox_recvBufs (k : Nat) (m : Mbox) (d : Dev) : (setMbox k m d).recvBufs = d.recvBufs := rfl
@[simp] theorem setMbox_links (k : Nat) (m : Mbox) (d : Dev) : (setMbox k m d).links = d.links := rfl
@[simp] theorem setMbox_parityBad (k : Nat) (m : Mbox) (d : Dev) : (setMbox k m d).parityBad = d.parityBad := rfl
@[simp] theorem setMbox_waiting (k : Nat) (m : Mbox) (d : Dev) : (setMbox k m d).waiting = d.waiting := rfl
@[simp] theorem setMbox_snaps (k : Nat) (m : Mbox) (d : Dev) : (setMbox k m d).snaps = d.snaps := rfl
@[simp] theorem setMbox_lastCtr (k : Nat) (m : Mbox) (d : Dev) : (setMbox k m d).lastCtr = d.lastCtr := rfl
@[simp] theorem setMbox_authSeen (k : Nat) (m : Mbox) (d : Dev) : (setMbox k m d).authSeen = d.authSeen := rfl
@[simp] theorem setMbox_tbs (k : Nat) (m : Mbox) (d : Dev) : (setMbox k m d).tbs = d.tbs := rfl
@[simp] theorem setMbox_tenants (k : Nat) (m : Mbox) (d : Dev) : (setMbox k m d).tenants = d.tenants := rfl
@[simp] theorem setMbox_rrLast (k : Nat) (m : Mbox) (d : Dev) : (setMbox k m d).rrLast = d.rrLast := rfl
@[simp] theorem setMbox_sec (k : Nat) (m : Mbox) (d : Dev) : (setMbox k m d).sec = d.sec := rfl
@[simp] theorem setMbox_pair (k : Nat) (m : Mbox) (d : Dev) : (setMbox k m d).pair = d.pair := rfl
@[simp] theorem setMbox_sess (k : Nat) (m : Mbox) (d : Dev) : (setMbox k m d).sess = d.sess := rfl
@[simp] theorem setMbox_dsr (k : Nat) (m : Mbox) (d : Dev) : (setMbox k m d).dsr = d.dsr := rfl
@[simp] theorem setMbox_chans (k : Nat) (m : Mbox) (d : Dev) : (setMbox k m d).chans = d.chans := rfl
@[simp] theorem setMbox_wrd (k : Nat) (m : Mbox) (d : Dev) : (setMbox k m d).wrd = d.wrd := rfl
@[simp] theorem setMbox_mem (k : Nat) (m : Mbox) (d : Dev) : (setMbox k m d).mem = d.mem := rfl
@[simp] theorem setMbox_streams (k : Nat) (m : Mbox) (d : Dev) : (setMbox k m d).streams = d.streams := rfl
@[simp] theorem setMbox_tiles (k : Nat) (m : Mbox) (d : Dev) : (setMbox k m d).tiles = d.tiles := rfl
@[simp] theorem setMbox_loom (k : Nat) (m : Mbox) (d : Dev) : (setMbox k m d).loom = d.loom := rfl
@[simp] theorem setMbox_hold (k : Nat) (m : Mbox) (d : Dev) : (setMbox k m d).hold = d.hold := rfl
@[simp] theorem setMbox_linPrm (k : Nat) (m : Mbox) (d : Dev) : (setMbox k m d).linPrm = d.linPrm := rfl
@[simp] theorem setMbox_ladder (k : Nat) (m : Mbox) (d : Dev) : (setMbox k m d).ladder = d.ladder := rfl
@[simp] theorem setMbox_pke (k : Nat) (m : Mbox) (d : Dev) : (setMbox k m d).pke = d.pke := rfl
@[simp] theorem setMbox_lib (k : Nat) (m : Mbox) (d : Dev) : (setMbox k m d).lib = d.lib := rfl
@[simp] theorem setMbox_linings (k : Nat) (m : Mbox) (d : Dev) : (setMbox k m d).linings = d.linings := rfl
@[simp] theorem setMbox_pwr (k : Nat) (m : Mbox) (d : Dev) : (setMbox k m d).pwr = d.pwr := rfl

/-! ## setSess -/
@[simp] theorem setSess_regs (s : Nat) (v : Session) (d : Dev) : (setSess s v d).regs = d.regs := rfl
@[simp] theorem setSess_stage (s : Nat) (v : Session) (d : Dev) : (setSess s v d).stage = d.stage := rfl
@[simp] theorem setSess_objs (s : Nat) (v : Session) (d : Dev) : (setSess s v d).objs = d.objs := rfl
@[simp] theorem setSess_heldStitch (s : Nat) (v : Session) (d : Dev) : (setSess s v d).heldStitch = d.heldStitch := rfl
@[simp] theorem setSess_emitted (s : Nat) (v : Session) (d : Dev) : (setSess s v d).emitted = d.emitted := rfl
@[simp] theorem setSess_freeCtr (s : Nat) (v : Session) (d : Dev) : (setSess s v d).freeCtr = d.freeCtr := rfl
@[simp] theorem setSess_rngCtr (s : Nat) (v : Session) (d : Dev) : (setSess s v d).rngCtr = d.rngCtr := rfl
@[simp] theorem setSess_flt (s : Nat) (v : Session) (d : Dev) : (setSess s v d).flt = d.flt := rfl
@[simp] theorem setSess_irq (s : Nat) (v : Session) (d : Dev) : (setSess s v d).irq = d.irq := rfl
@[simp] theorem setSess_msix (s : Nat) (v : Session) (d : Dev) : (setSess s v d).msix = d.msix := rfl
@[simp] theorem setSess_fnMask (s : Nat) (v : Session) (d : Dev) : (setSess s v d).fnMask = d.fnMask := rfl
@[simp] theorem setSess_rings (s : Nat) (v : Session) (d : Dev) : (setSess s v d).rings = d.rings := rfl
@[simp] theorem setSess_fnq (s : Nat) (v : Session) (d : Dev) : (setSess s v d).fnq = d.fnq := rfl
@[simp] theorem setSess_dmaCh (s : Nat) (v : Session) (d : Dev) : (setSess s v d).dmaCh = d.dmaCh := rfl
@[simp] theorem setSess_recvBufs (s : Nat) (v : Session) (d : Dev) : (setSess s v d).recvBufs = d.recvBufs := rfl
@[simp] theorem setSess_links (s : Nat) (v : Session) (d : Dev) : (setSess s v d).links = d.links := rfl
@[simp] theorem setSess_parityBad (s : Nat) (v : Session) (d : Dev) : (setSess s v d).parityBad = d.parityBad := rfl
@[simp] theorem setSess_mbox (s : Nat) (v : Session) (d : Dev) : (setSess s v d).mbox = d.mbox := rfl
@[simp] theorem setSess_waiting (s : Nat) (v : Session) (d : Dev) : (setSess s v d).waiting = d.waiting := rfl
@[simp] theorem setSess_snaps (s : Nat) (v : Session) (d : Dev) : (setSess s v d).snaps = d.snaps := rfl
@[simp] theorem setSess_lastCtr (s : Nat) (v : Session) (d : Dev) : (setSess s v d).lastCtr = d.lastCtr := rfl
@[simp] theorem setSess_authSeen (s : Nat) (v : Session) (d : Dev) : (setSess s v d).authSeen = d.authSeen := rfl
@[simp] theorem setSess_tbs (s : Nat) (v : Session) (d : Dev) : (setSess s v d).tbs = d.tbs := rfl
@[simp] theorem setSess_tenants (s : Nat) (v : Session) (d : Dev) : (setSess s v d).tenants = d.tenants := rfl
@[simp] theorem setSess_rrLast (s : Nat) (v : Session) (d : Dev) : (setSess s v d).rrLast = d.rrLast := rfl
@[simp] theorem setSess_sec (s : Nat) (v : Session) (d : Dev) : (setSess s v d).sec = d.sec := rfl
@[simp] theorem setSess_pair (s : Nat) (v : Session) (d : Dev) : (setSess s v d).pair = d.pair := rfl
@[simp] theorem setSess_dsr (s : Nat) (v : Session) (d : Dev) : (setSess s v d).dsr = d.dsr := rfl
@[simp] theorem setSess_chans (s : Nat) (v : Session) (d : Dev) : (setSess s v d).chans = d.chans := rfl
@[simp] theorem setSess_wrd (s : Nat) (v : Session) (d : Dev) : (setSess s v d).wrd = d.wrd := rfl
@[simp] theorem setSess_mem (s : Nat) (v : Session) (d : Dev) : (setSess s v d).mem = d.mem := rfl
@[simp] theorem setSess_streams (s : Nat) (v : Session) (d : Dev) : (setSess s v d).streams = d.streams := rfl
@[simp] theorem setSess_tiles (s : Nat) (v : Session) (d : Dev) : (setSess s v d).tiles = d.tiles := rfl
@[simp] theorem setSess_loom (s : Nat) (v : Session) (d : Dev) : (setSess s v d).loom = d.loom := rfl
@[simp] theorem setSess_hold (s : Nat) (v : Session) (d : Dev) : (setSess s v d).hold = d.hold := rfl
@[simp] theorem setSess_linPrm (s : Nat) (v : Session) (d : Dev) : (setSess s v d).linPrm = d.linPrm := rfl
@[simp] theorem setSess_ladder (s : Nat) (v : Session) (d : Dev) : (setSess s v d).ladder = d.ladder := rfl
@[simp] theorem setSess_pke (s : Nat) (v : Session) (d : Dev) : (setSess s v d).pke = d.pke := rfl
@[simp] theorem setSess_lib (s : Nat) (v : Session) (d : Dev) : (setSess s v d).lib = d.lib := rfl
@[simp] theorem setSess_linings (s : Nat) (v : Session) (d : Dev) : (setSess s v d).linings = d.linings := rfl
@[simp] theorem setSess_pwr (s : Nat) (v : Session) (d : Dev) : (setSess s v d).pwr = d.pwr := rfl

/-! ## setDmaChan -/
@[simp] theorem setDmaChan_regs (c : Nat) (v : DmaCh) (d : Dev) : (setDmaChan c v d).regs = d.regs := rfl
@[simp] theorem setDmaChan_stage (c : Nat) (v : DmaCh) (d : Dev) : (setDmaChan c v d).stage = d.stage := rfl
@[simp] theorem setDmaChan_objs (c : Nat) (v : DmaCh) (d : Dev) : (setDmaChan c v d).objs = d.objs := rfl
@[simp] theorem setDmaChan_heldStitch (c : Nat) (v : DmaCh) (d : Dev) : (setDmaChan c v d).heldStitch = d.heldStitch := rfl
@[simp] theorem setDmaChan_emitted (c : Nat) (v : DmaCh) (d : Dev) : (setDmaChan c v d).emitted = d.emitted := rfl
@[simp] theorem setDmaChan_freeCtr (c : Nat) (v : DmaCh) (d : Dev) : (setDmaChan c v d).freeCtr = d.freeCtr := rfl
@[simp] theorem setDmaChan_rngCtr (c : Nat) (v : DmaCh) (d : Dev) : (setDmaChan c v d).rngCtr = d.rngCtr := rfl
@[simp] theorem setDmaChan_flt (c : Nat) (v : DmaCh) (d : Dev) : (setDmaChan c v d).flt = d.flt := rfl
@[simp] theorem setDmaChan_irq (c : Nat) (v : DmaCh) (d : Dev) : (setDmaChan c v d).irq = d.irq := rfl
@[simp] theorem setDmaChan_msix (c : Nat) (v : DmaCh) (d : Dev) : (setDmaChan c v d).msix = d.msix := rfl
@[simp] theorem setDmaChan_fnMask (c : Nat) (v : DmaCh) (d : Dev) : (setDmaChan c v d).fnMask = d.fnMask := rfl
@[simp] theorem setDmaChan_rings (c : Nat) (v : DmaCh) (d : Dev) : (setDmaChan c v d).rings = d.rings := rfl
@[simp] theorem setDmaChan_fnq (c : Nat) (v : DmaCh) (d : Dev) : (setDmaChan c v d).fnq = d.fnq := rfl
@[simp] theorem setDmaChan_recvBufs (c : Nat) (v : DmaCh) (d : Dev) : (setDmaChan c v d).recvBufs = d.recvBufs := rfl
@[simp] theorem setDmaChan_links (c : Nat) (v : DmaCh) (d : Dev) : (setDmaChan c v d).links = d.links := rfl
@[simp] theorem setDmaChan_parityBad (c : Nat) (v : DmaCh) (d : Dev) : (setDmaChan c v d).parityBad = d.parityBad := rfl
@[simp] theorem setDmaChan_mbox (c : Nat) (v : DmaCh) (d : Dev) : (setDmaChan c v d).mbox = d.mbox := rfl
@[simp] theorem setDmaChan_waiting (c : Nat) (v : DmaCh) (d : Dev) : (setDmaChan c v d).waiting = d.waiting := rfl
@[simp] theorem setDmaChan_snaps (c : Nat) (v : DmaCh) (d : Dev) : (setDmaChan c v d).snaps = d.snaps := rfl
@[simp] theorem setDmaChan_lastCtr (c : Nat) (v : DmaCh) (d : Dev) : (setDmaChan c v d).lastCtr = d.lastCtr := rfl
@[simp] theorem setDmaChan_authSeen (c : Nat) (v : DmaCh) (d : Dev) : (setDmaChan c v d).authSeen = d.authSeen := rfl
@[simp] theorem setDmaChan_tbs (c : Nat) (v : DmaCh) (d : Dev) : (setDmaChan c v d).tbs = d.tbs := rfl
@[simp] theorem setDmaChan_tenants (c : Nat) (v : DmaCh) (d : Dev) : (setDmaChan c v d).tenants = d.tenants := rfl
@[simp] theorem setDmaChan_rrLast (c : Nat) (v : DmaCh) (d : Dev) : (setDmaChan c v d).rrLast = d.rrLast := rfl
@[simp] theorem setDmaChan_sec (c : Nat) (v : DmaCh) (d : Dev) : (setDmaChan c v d).sec = d.sec := rfl
@[simp] theorem setDmaChan_pair (c : Nat) (v : DmaCh) (d : Dev) : (setDmaChan c v d).pair = d.pair := rfl
@[simp] theorem setDmaChan_sess (c : Nat) (v : DmaCh) (d : Dev) : (setDmaChan c v d).sess = d.sess := rfl
@[simp] theorem setDmaChan_dsr (c : Nat) (v : DmaCh) (d : Dev) : (setDmaChan c v d).dsr = d.dsr := rfl
@[simp] theorem setDmaChan_chans (c : Nat) (v : DmaCh) (d : Dev) : (setDmaChan c v d).chans = d.chans := rfl
@[simp] theorem setDmaChan_wrd (c : Nat) (v : DmaCh) (d : Dev) : (setDmaChan c v d).wrd = d.wrd := rfl
@[simp] theorem setDmaChan_mem (c : Nat) (v : DmaCh) (d : Dev) : (setDmaChan c v d).mem = d.mem := rfl
@[simp] theorem setDmaChan_streams (c : Nat) (v : DmaCh) (d : Dev) : (setDmaChan c v d).streams = d.streams := rfl
@[simp] theorem setDmaChan_tiles (c : Nat) (v : DmaCh) (d : Dev) : (setDmaChan c v d).tiles = d.tiles := rfl
@[simp] theorem setDmaChan_loom (c : Nat) (v : DmaCh) (d : Dev) : (setDmaChan c v d).loom = d.loom := rfl
@[simp] theorem setDmaChan_hold (c : Nat) (v : DmaCh) (d : Dev) : (setDmaChan c v d).hold = d.hold := rfl
@[simp] theorem setDmaChan_linPrm (c : Nat) (v : DmaCh) (d : Dev) : (setDmaChan c v d).linPrm = d.linPrm := rfl
@[simp] theorem setDmaChan_ladder (c : Nat) (v : DmaCh) (d : Dev) : (setDmaChan c v d).ladder = d.ladder := rfl
@[simp] theorem setDmaChan_pke (c : Nat) (v : DmaCh) (d : Dev) : (setDmaChan c v d).pke = d.pke := rfl
@[simp] theorem setDmaChan_lib (c : Nat) (v : DmaCh) (d : Dev) : (setDmaChan c v d).lib = d.lib := rfl
@[simp] theorem setDmaChan_linings (c : Nat) (v : DmaCh) (d : Dev) : (setDmaChan c v d).linings = d.linings := rfl
@[simp] theorem setDmaChan_pwr (c : Nat) (v : DmaCh) (d : Dev) : (setDmaChan c v d).pwr = d.pwr := rfl

/-! ## setTile -/
@[simp] theorem setTile_regs (t : Nat) (x : Tile) (d : Dev) : (setTile t x d).regs = d.regs := rfl
@[simp] theorem setTile_stage (t : Nat) (x : Tile) (d : Dev) : (setTile t x d).stage = d.stage := rfl
@[simp] theorem setTile_objs (t : Nat) (x : Tile) (d : Dev) : (setTile t x d).objs = d.objs := rfl
@[simp] theorem setTile_heldStitch (t : Nat) (x : Tile) (d : Dev) : (setTile t x d).heldStitch = d.heldStitch := rfl
@[simp] theorem setTile_emitted (t : Nat) (x : Tile) (d : Dev) : (setTile t x d).emitted = d.emitted := rfl
@[simp] theorem setTile_freeCtr (t : Nat) (x : Tile) (d : Dev) : (setTile t x d).freeCtr = d.freeCtr := rfl
@[simp] theorem setTile_rngCtr (t : Nat) (x : Tile) (d : Dev) : (setTile t x d).rngCtr = d.rngCtr := rfl
@[simp] theorem setTile_flt (t : Nat) (x : Tile) (d : Dev) : (setTile t x d).flt = d.flt := rfl
@[simp] theorem setTile_irq (t : Nat) (x : Tile) (d : Dev) : (setTile t x d).irq = d.irq := rfl
@[simp] theorem setTile_msix (t : Nat) (x : Tile) (d : Dev) : (setTile t x d).msix = d.msix := rfl
@[simp] theorem setTile_fnMask (t : Nat) (x : Tile) (d : Dev) : (setTile t x d).fnMask = d.fnMask := rfl
@[simp] theorem setTile_rings (t : Nat) (x : Tile) (d : Dev) : (setTile t x d).rings = d.rings := rfl
@[simp] theorem setTile_fnq (t : Nat) (x : Tile) (d : Dev) : (setTile t x d).fnq = d.fnq := rfl
@[simp] theorem setTile_dmaCh (t : Nat) (x : Tile) (d : Dev) : (setTile t x d).dmaCh = d.dmaCh := rfl
@[simp] theorem setTile_recvBufs (t : Nat) (x : Tile) (d : Dev) : (setTile t x d).recvBufs = d.recvBufs := rfl
@[simp] theorem setTile_links (t : Nat) (x : Tile) (d : Dev) : (setTile t x d).links = d.links := rfl
@[simp] theorem setTile_parityBad (t : Nat) (x : Tile) (d : Dev) : (setTile t x d).parityBad = d.parityBad := rfl
@[simp] theorem setTile_mbox (t : Nat) (x : Tile) (d : Dev) : (setTile t x d).mbox = d.mbox := rfl
@[simp] theorem setTile_waiting (t : Nat) (x : Tile) (d : Dev) : (setTile t x d).waiting = d.waiting := rfl
@[simp] theorem setTile_snaps (t : Nat) (x : Tile) (d : Dev) : (setTile t x d).snaps = d.snaps := rfl
@[simp] theorem setTile_lastCtr (t : Nat) (x : Tile) (d : Dev) : (setTile t x d).lastCtr = d.lastCtr := rfl
@[simp] theorem setTile_authSeen (t : Nat) (x : Tile) (d : Dev) : (setTile t x d).authSeen = d.authSeen := rfl
@[simp] theorem setTile_tbs (t : Nat) (x : Tile) (d : Dev) : (setTile t x d).tbs = d.tbs := rfl
@[simp] theorem setTile_tenants (t : Nat) (x : Tile) (d : Dev) : (setTile t x d).tenants = d.tenants := rfl
@[simp] theorem setTile_rrLast (t : Nat) (x : Tile) (d : Dev) : (setTile t x d).rrLast = d.rrLast := rfl
@[simp] theorem setTile_sec (t : Nat) (x : Tile) (d : Dev) : (setTile t x d).sec = d.sec := rfl
@[simp] theorem setTile_pair (t : Nat) (x : Tile) (d : Dev) : (setTile t x d).pair = d.pair := rfl
@[simp] theorem setTile_sess (t : Nat) (x : Tile) (d : Dev) : (setTile t x d).sess = d.sess := rfl
@[simp] theorem setTile_dsr (t : Nat) (x : Tile) (d : Dev) : (setTile t x d).dsr = d.dsr := rfl
@[simp] theorem setTile_chans (t : Nat) (x : Tile) (d : Dev) : (setTile t x d).chans = d.chans := rfl
@[simp] theorem setTile_wrd (t : Nat) (x : Tile) (d : Dev) : (setTile t x d).wrd = d.wrd := rfl
@[simp] theorem setTile_mem (t : Nat) (x : Tile) (d : Dev) : (setTile t x d).mem = d.mem := rfl
@[simp] theorem setTile_streams (t : Nat) (x : Tile) (d : Dev) : (setTile t x d).streams = d.streams := rfl
@[simp] theorem setTile_loom (t : Nat) (x : Tile) (d : Dev) : (setTile t x d).loom = d.loom := rfl
@[simp] theorem setTile_hold (t : Nat) (x : Tile) (d : Dev) : (setTile t x d).hold = d.hold := rfl
@[simp] theorem setTile_linPrm (t : Nat) (x : Tile) (d : Dev) : (setTile t x d).linPrm = d.linPrm := rfl
@[simp] theorem setTile_ladder (t : Nat) (x : Tile) (d : Dev) : (setTile t x d).ladder = d.ladder := rfl
@[simp] theorem setTile_pke (t : Nat) (x : Tile) (d : Dev) : (setTile t x d).pke = d.pke := rfl
@[simp] theorem setTile_lib (t : Nat) (x : Tile) (d : Dev) : (setTile t x d).lib = d.lib := rfl
@[simp] theorem setTile_linings (t : Nat) (x : Tile) (d : Dev) : (setTile t x d).linings = d.linings := rfl
@[simp] theorem setTile_pwr (t : Nat) (x : Tile) (d : Dev) : (setTile t x d).pwr = d.pwr := rfl

/-! ## setChan -/
@[simp] theorem setChan_regs (c : Nat) (v : Chan) (d : Dev) : (setChan c v d).regs = d.regs := rfl
@[simp] theorem setChan_stage (c : Nat) (v : Chan) (d : Dev) : (setChan c v d).stage = d.stage := rfl
@[simp] theorem setChan_objs (c : Nat) (v : Chan) (d : Dev) : (setChan c v d).objs = d.objs := rfl
@[simp] theorem setChan_heldStitch (c : Nat) (v : Chan) (d : Dev) : (setChan c v d).heldStitch = d.heldStitch := rfl
@[simp] theorem setChan_emitted (c : Nat) (v : Chan) (d : Dev) : (setChan c v d).emitted = d.emitted := rfl
@[simp] theorem setChan_freeCtr (c : Nat) (v : Chan) (d : Dev) : (setChan c v d).freeCtr = d.freeCtr := rfl
@[simp] theorem setChan_rngCtr (c : Nat) (v : Chan) (d : Dev) : (setChan c v d).rngCtr = d.rngCtr := rfl
@[simp] theorem setChan_flt (c : Nat) (v : Chan) (d : Dev) : (setChan c v d).flt = d.flt := rfl
@[simp] theorem setChan_irq (c : Nat) (v : Chan) (d : Dev) : (setChan c v d).irq = d.irq := rfl
@[simp] theorem setChan_msix (c : Nat) (v : Chan) (d : Dev) : (setChan c v d).msix = d.msix := rfl
@[simp] theorem setChan_fnMask (c : Nat) (v : Chan) (d : Dev) : (setChan c v d).fnMask = d.fnMask := rfl
@[simp] theorem setChan_rings (c : Nat) (v : Chan) (d : Dev) : (setChan c v d).rings = d.rings := rfl
@[simp] theorem setChan_fnq (c : Nat) (v : Chan) (d : Dev) : (setChan c v d).fnq = d.fnq := rfl
@[simp] theorem setChan_dmaCh (c : Nat) (v : Chan) (d : Dev) : (setChan c v d).dmaCh = d.dmaCh := rfl
@[simp] theorem setChan_recvBufs (c : Nat) (v : Chan) (d : Dev) : (setChan c v d).recvBufs = d.recvBufs := rfl
@[simp] theorem setChan_links (c : Nat) (v : Chan) (d : Dev) : (setChan c v d).links = d.links := rfl
@[simp] theorem setChan_parityBad (c : Nat) (v : Chan) (d : Dev) : (setChan c v d).parityBad = d.parityBad := rfl
@[simp] theorem setChan_mbox (c : Nat) (v : Chan) (d : Dev) : (setChan c v d).mbox = d.mbox := rfl
@[simp] theorem setChan_waiting (c : Nat) (v : Chan) (d : Dev) : (setChan c v d).waiting = d.waiting := rfl
@[simp] theorem setChan_snaps (c : Nat) (v : Chan) (d : Dev) : (setChan c v d).snaps = d.snaps := rfl
@[simp] theorem setChan_lastCtr (c : Nat) (v : Chan) (d : Dev) : (setChan c v d).lastCtr = d.lastCtr := rfl
@[simp] theorem setChan_authSeen (c : Nat) (v : Chan) (d : Dev) : (setChan c v d).authSeen = d.authSeen := rfl
@[simp] theorem setChan_tbs (c : Nat) (v : Chan) (d : Dev) : (setChan c v d).tbs = d.tbs := rfl
@[simp] theorem setChan_tenants (c : Nat) (v : Chan) (d : Dev) : (setChan c v d).tenants = d.tenants := rfl
@[simp] theorem setChan_rrLast (c : Nat) (v : Chan) (d : Dev) : (setChan c v d).rrLast = d.rrLast := rfl
@[simp] theorem setChan_sec (c : Nat) (v : Chan) (d : Dev) : (setChan c v d).sec = d.sec := rfl
@[simp] theorem setChan_pair (c : Nat) (v : Chan) (d : Dev) : (setChan c v d).pair = d.pair := rfl
@[simp] theorem setChan_sess (c : Nat) (v : Chan) (d : Dev) : (setChan c v d).sess = d.sess := rfl
@[simp] theorem setChan_dsr (c : Nat) (v : Chan) (d : Dev) : (setChan c v d).dsr = d.dsr := rfl
@[simp] theorem setChan_wrd (c : Nat) (v : Chan) (d : Dev) : (setChan c v d).wrd = d.wrd := rfl
@[simp] theorem setChan_mem (c : Nat) (v : Chan) (d : Dev) : (setChan c v d).mem = d.mem := rfl
@[simp] theorem setChan_streams (c : Nat) (v : Chan) (d : Dev) : (setChan c v d).streams = d.streams := rfl
@[simp] theorem setChan_tiles (c : Nat) (v : Chan) (d : Dev) : (setChan c v d).tiles = d.tiles := rfl
@[simp] theorem setChan_loom (c : Nat) (v : Chan) (d : Dev) : (setChan c v d).loom = d.loom := rfl
@[simp] theorem setChan_hold (c : Nat) (v : Chan) (d : Dev) : (setChan c v d).hold = d.hold := rfl
@[simp] theorem setChan_linPrm (c : Nat) (v : Chan) (d : Dev) : (setChan c v d).linPrm = d.linPrm := rfl
@[simp] theorem setChan_ladder (c : Nat) (v : Chan) (d : Dev) : (setChan c v d).ladder = d.ladder := rfl
@[simp] theorem setChan_pke (c : Nat) (v : Chan) (d : Dev) : (setChan c v d).pke = d.pke := rfl
@[simp] theorem setChan_lib (c : Nat) (v : Chan) (d : Dev) : (setChan c v d).lib = d.lib := rfl
@[simp] theorem setChan_linings (c : Nat) (v : Chan) (d : Dev) : (setChan c v d).linings = d.linings := rfl
@[simp] theorem setChan_pwr (c : Nat) (v : Chan) (d : Dev) : (setChan c v d).pwr = d.pwr := rfl

/-! ## setStream -/
@[simp] theorem setStream_regs (sid : Nat) (x : Stream) (d : Dev) : (setStream sid x d).regs = d.regs := rfl
@[simp] theorem setStream_stage (sid : Nat) (x : Stream) (d : Dev) : (setStream sid x d).stage = d.stage := rfl
@[simp] theorem setStream_objs (sid : Nat) (x : Stream) (d : Dev) : (setStream sid x d).objs = d.objs := rfl
@[simp] theorem setStream_heldStitch (sid : Nat) (x : Stream) (d : Dev) : (setStream sid x d).heldStitch = d.heldStitch := rfl
@[simp] theorem setStream_emitted (sid : Nat) (x : Stream) (d : Dev) : (setStream sid x d).emitted = d.emitted := rfl
@[simp] theorem setStream_freeCtr (sid : Nat) (x : Stream) (d : Dev) : (setStream sid x d).freeCtr = d.freeCtr := rfl
@[simp] theorem setStream_rngCtr (sid : Nat) (x : Stream) (d : Dev) : (setStream sid x d).rngCtr = d.rngCtr := rfl
@[simp] theorem setStream_flt (sid : Nat) (x : Stream) (d : Dev) : (setStream sid x d).flt = d.flt := rfl
@[simp] theorem setStream_irq (sid : Nat) (x : Stream) (d : Dev) : (setStream sid x d).irq = d.irq := rfl
@[simp] theorem setStream_msix (sid : Nat) (x : Stream) (d : Dev) : (setStream sid x d).msix = d.msix := rfl
@[simp] theorem setStream_fnMask (sid : Nat) (x : Stream) (d : Dev) : (setStream sid x d).fnMask = d.fnMask := rfl
@[simp] theorem setStream_rings (sid : Nat) (x : Stream) (d : Dev) : (setStream sid x d).rings = d.rings := rfl
@[simp] theorem setStream_fnq (sid : Nat) (x : Stream) (d : Dev) : (setStream sid x d).fnq = d.fnq := rfl
@[simp] theorem setStream_dmaCh (sid : Nat) (x : Stream) (d : Dev) : (setStream sid x d).dmaCh = d.dmaCh := rfl
@[simp] theorem setStream_recvBufs (sid : Nat) (x : Stream) (d : Dev) : (setStream sid x d).recvBufs = d.recvBufs := rfl
@[simp] theorem setStream_links (sid : Nat) (x : Stream) (d : Dev) : (setStream sid x d).links = d.links := rfl
@[simp] theorem setStream_parityBad (sid : Nat) (x : Stream) (d : Dev) : (setStream sid x d).parityBad = d.parityBad := rfl
@[simp] theorem setStream_mbox (sid : Nat) (x : Stream) (d : Dev) : (setStream sid x d).mbox = d.mbox := rfl
@[simp] theorem setStream_waiting (sid : Nat) (x : Stream) (d : Dev) : (setStream sid x d).waiting = d.waiting := rfl
@[simp] theorem setStream_snaps (sid : Nat) (x : Stream) (d : Dev) : (setStream sid x d).snaps = d.snaps := rfl
@[simp] theorem setStream_lastCtr (sid : Nat) (x : Stream) (d : Dev) : (setStream sid x d).lastCtr = d.lastCtr := rfl
@[simp] theorem setStream_authSeen (sid : Nat) (x : Stream) (d : Dev) : (setStream sid x d).authSeen = d.authSeen := rfl
@[simp] theorem setStream_tbs (sid : Nat) (x : Stream) (d : Dev) : (setStream sid x d).tbs = d.tbs := rfl
@[simp] theorem setStream_tenants (sid : Nat) (x : Stream) (d : Dev) : (setStream sid x d).tenants = d.tenants := rfl
@[simp] theorem setStream_rrLast (sid : Nat) (x : Stream) (d : Dev) : (setStream sid x d).rrLast = d.rrLast := rfl
@[simp] theorem setStream_sec (sid : Nat) (x : Stream) (d : Dev) : (setStream sid x d).sec = d.sec := rfl
@[simp] theorem setStream_pair (sid : Nat) (x : Stream) (d : Dev) : (setStream sid x d).pair = d.pair := rfl
@[simp] theorem setStream_sess (sid : Nat) (x : Stream) (d : Dev) : (setStream sid x d).sess = d.sess := rfl
@[simp] theorem setStream_dsr (sid : Nat) (x : Stream) (d : Dev) : (setStream sid x d).dsr = d.dsr := rfl
@[simp] theorem setStream_chans (sid : Nat) (x : Stream) (d : Dev) : (setStream sid x d).chans = d.chans := rfl
@[simp] theorem setStream_wrd (sid : Nat) (x : Stream) (d : Dev) : (setStream sid x d).wrd = d.wrd := rfl
@[simp] theorem setStream_mem (sid : Nat) (x : Stream) (d : Dev) : (setStream sid x d).mem = d.mem := rfl
@[simp] theorem setStream_tiles (sid : Nat) (x : Stream) (d : Dev) : (setStream sid x d).tiles = d.tiles := rfl
@[simp] theorem setStream_loom (sid : Nat) (x : Stream) (d : Dev) : (setStream sid x d).loom = d.loom := rfl
@[simp] theorem setStream_hold (sid : Nat) (x : Stream) (d : Dev) : (setStream sid x d).hold = d.hold := rfl
@[simp] theorem setStream_linPrm (sid : Nat) (x : Stream) (d : Dev) : (setStream sid x d).linPrm = d.linPrm := rfl
@[simp] theorem setStream_ladder (sid : Nat) (x : Stream) (d : Dev) : (setStream sid x d).ladder = d.ladder := rfl
@[simp] theorem setStream_pke (sid : Nat) (x : Stream) (d : Dev) : (setStream sid x d).pke = d.pke := rfl
@[simp] theorem setStream_lib (sid : Nat) (x : Stream) (d : Dev) : (setStream sid x d).lib = d.lib := rfl
@[simp] theorem setStream_linings (sid : Nat) (x : Stream) (d : Dev) : (setStream sid x d).linings = d.linings := rfl
@[simp] theorem setStream_pwr (sid : Nat) (x : Stream) (d : Dev) : (setStream sid x d).pwr = d.pwr := rfl

/-! ## setLining -/
@[simp] theorem setLining_regs (l : Nat) (x : Lining) (d : Dev) : (setLining l x d).regs = d.regs := rfl
@[simp] theorem setLining_stage (l : Nat) (x : Lining) (d : Dev) : (setLining l x d).stage = d.stage := rfl
@[simp] theorem setLining_objs (l : Nat) (x : Lining) (d : Dev) : (setLining l x d).objs = d.objs := rfl
@[simp] theorem setLining_heldStitch (l : Nat) (x : Lining) (d : Dev) : (setLining l x d).heldStitch = d.heldStitch := rfl
@[simp] theorem setLining_emitted (l : Nat) (x : Lining) (d : Dev) : (setLining l x d).emitted = d.emitted := rfl
@[simp] theorem setLining_freeCtr (l : Nat) (x : Lining) (d : Dev) : (setLining l x d).freeCtr = d.freeCtr := rfl
@[simp] theorem setLining_rngCtr (l : Nat) (x : Lining) (d : Dev) : (setLining l x d).rngCtr = d.rngCtr := rfl
@[simp] theorem setLining_flt (l : Nat) (x : Lining) (d : Dev) : (setLining l x d).flt = d.flt := rfl
@[simp] theorem setLining_irq (l : Nat) (x : Lining) (d : Dev) : (setLining l x d).irq = d.irq := rfl
@[simp] theorem setLining_msix (l : Nat) (x : Lining) (d : Dev) : (setLining l x d).msix = d.msix := rfl
@[simp] theorem setLining_fnMask (l : Nat) (x : Lining) (d : Dev) : (setLining l x d).fnMask = d.fnMask := rfl
@[simp] theorem setLining_rings (l : Nat) (x : Lining) (d : Dev) : (setLining l x d).rings = d.rings := rfl
@[simp] theorem setLining_fnq (l : Nat) (x : Lining) (d : Dev) : (setLining l x d).fnq = d.fnq := rfl
@[simp] theorem setLining_dmaCh (l : Nat) (x : Lining) (d : Dev) : (setLining l x d).dmaCh = d.dmaCh := rfl
@[simp] theorem setLining_recvBufs (l : Nat) (x : Lining) (d : Dev) : (setLining l x d).recvBufs = d.recvBufs := rfl
@[simp] theorem setLining_links (l : Nat) (x : Lining) (d : Dev) : (setLining l x d).links = d.links := rfl
@[simp] theorem setLining_parityBad (l : Nat) (x : Lining) (d : Dev) : (setLining l x d).parityBad = d.parityBad := rfl
@[simp] theorem setLining_mbox (l : Nat) (x : Lining) (d : Dev) : (setLining l x d).mbox = d.mbox := rfl
@[simp] theorem setLining_waiting (l : Nat) (x : Lining) (d : Dev) : (setLining l x d).waiting = d.waiting := rfl
@[simp] theorem setLining_snaps (l : Nat) (x : Lining) (d : Dev) : (setLining l x d).snaps = d.snaps := rfl
@[simp] theorem setLining_lastCtr (l : Nat) (x : Lining) (d : Dev) : (setLining l x d).lastCtr = d.lastCtr := rfl
@[simp] theorem setLining_authSeen (l : Nat) (x : Lining) (d : Dev) : (setLining l x d).authSeen = d.authSeen := rfl
@[simp] theorem setLining_tbs (l : Nat) (x : Lining) (d : Dev) : (setLining l x d).tbs = d.tbs := rfl
@[simp] theorem setLining_tenants (l : Nat) (x : Lining) (d : Dev) : (setLining l x d).tenants = d.tenants := rfl
@[simp] theorem setLining_rrLast (l : Nat) (x : Lining) (d : Dev) : (setLining l x d).rrLast = d.rrLast := rfl
@[simp] theorem setLining_sec (l : Nat) (x : Lining) (d : Dev) : (setLining l x d).sec = d.sec := rfl
@[simp] theorem setLining_pair (l : Nat) (x : Lining) (d : Dev) : (setLining l x d).pair = d.pair := rfl
@[simp] theorem setLining_sess (l : Nat) (x : Lining) (d : Dev) : (setLining l x d).sess = d.sess := rfl
@[simp] theorem setLining_dsr (l : Nat) (x : Lining) (d : Dev) : (setLining l x d).dsr = d.dsr := rfl
@[simp] theorem setLining_chans (l : Nat) (x : Lining) (d : Dev) : (setLining l x d).chans = d.chans := rfl
@[simp] theorem setLining_wrd (l : Nat) (x : Lining) (d : Dev) : (setLining l x d).wrd = d.wrd := rfl
@[simp] theorem setLining_mem (l : Nat) (x : Lining) (d : Dev) : (setLining l x d).mem = d.mem := rfl
@[simp] theorem setLining_streams (l : Nat) (x : Lining) (d : Dev) : (setLining l x d).streams = d.streams := rfl
@[simp] theorem setLining_tiles (l : Nat) (x : Lining) (d : Dev) : (setLining l x d).tiles = d.tiles := rfl
@[simp] theorem setLining_loom (l : Nat) (x : Lining) (d : Dev) : (setLining l x d).loom = d.loom := rfl
@[simp] theorem setLining_hold (l : Nat) (x : Lining) (d : Dev) : (setLining l x d).hold = d.hold := rfl
@[simp] theorem setLining_linPrm (l : Nat) (x : Lining) (d : Dev) : (setLining l x d).linPrm = d.linPrm := rfl
@[simp] theorem setLining_ladder (l : Nat) (x : Lining) (d : Dev) : (setLining l x d).ladder = d.ladder := rfl
@[simp] theorem setLining_pke (l : Nat) (x : Lining) (d : Dev) : (setLining l x d).pke = d.pke := rfl
@[simp] theorem setLining_lib (l : Nat) (x : Lining) (d : Dev) : (setLining l x d).lib = d.lib := rfl
@[simp] theorem setLining_pwr (l : Nat) (x : Lining) (d : Dev) : (setLining l x d).pwr = d.pwr := rfl

/-! ## setLib -/
@[simp] theorem setLib_regs (t : Nat) (e : Nat) (x : LibEntry) (d : Dev) : (setLib t e x d).regs = d.regs := rfl
@[simp] theorem setLib_stage (t : Nat) (e : Nat) (x : LibEntry) (d : Dev) : (setLib t e x d).stage = d.stage := rfl
@[simp] theorem setLib_objs (t : Nat) (e : Nat) (x : LibEntry) (d : Dev) : (setLib t e x d).objs = d.objs := rfl
@[simp] theorem setLib_heldStitch (t : Nat) (e : Nat) (x : LibEntry) (d : Dev) : (setLib t e x d).heldStitch = d.heldStitch := rfl
@[simp] theorem setLib_emitted (t : Nat) (e : Nat) (x : LibEntry) (d : Dev) : (setLib t e x d).emitted = d.emitted := rfl
@[simp] theorem setLib_freeCtr (t : Nat) (e : Nat) (x : LibEntry) (d : Dev) : (setLib t e x d).freeCtr = d.freeCtr := rfl
@[simp] theorem setLib_rngCtr (t : Nat) (e : Nat) (x : LibEntry) (d : Dev) : (setLib t e x d).rngCtr = d.rngCtr := rfl
@[simp] theorem setLib_flt (t : Nat) (e : Nat) (x : LibEntry) (d : Dev) : (setLib t e x d).flt = d.flt := rfl
@[simp] theorem setLib_irq (t : Nat) (e : Nat) (x : LibEntry) (d : Dev) : (setLib t e x d).irq = d.irq := rfl
@[simp] theorem setLib_msix (t : Nat) (e : Nat) (x : LibEntry) (d : Dev) : (setLib t e x d).msix = d.msix := rfl
@[simp] theorem setLib_fnMask (t : Nat) (e : Nat) (x : LibEntry) (d : Dev) : (setLib t e x d).fnMask = d.fnMask := rfl
@[simp] theorem setLib_rings (t : Nat) (e : Nat) (x : LibEntry) (d : Dev) : (setLib t e x d).rings = d.rings := rfl
@[simp] theorem setLib_fnq (t : Nat) (e : Nat) (x : LibEntry) (d : Dev) : (setLib t e x d).fnq = d.fnq := rfl
@[simp] theorem setLib_dmaCh (t : Nat) (e : Nat) (x : LibEntry) (d : Dev) : (setLib t e x d).dmaCh = d.dmaCh := rfl
@[simp] theorem setLib_recvBufs (t : Nat) (e : Nat) (x : LibEntry) (d : Dev) : (setLib t e x d).recvBufs = d.recvBufs := rfl
@[simp] theorem setLib_links (t : Nat) (e : Nat) (x : LibEntry) (d : Dev) : (setLib t e x d).links = d.links := rfl
@[simp] theorem setLib_parityBad (t : Nat) (e : Nat) (x : LibEntry) (d : Dev) : (setLib t e x d).parityBad = d.parityBad := rfl
@[simp] theorem setLib_mbox (t : Nat) (e : Nat) (x : LibEntry) (d : Dev) : (setLib t e x d).mbox = d.mbox := rfl
@[simp] theorem setLib_waiting (t : Nat) (e : Nat) (x : LibEntry) (d : Dev) : (setLib t e x d).waiting = d.waiting := rfl
@[simp] theorem setLib_snaps (t : Nat) (e : Nat) (x : LibEntry) (d : Dev) : (setLib t e x d).snaps = d.snaps := rfl
@[simp] theorem setLib_lastCtr (t : Nat) (e : Nat) (x : LibEntry) (d : Dev) : (setLib t e x d).lastCtr = d.lastCtr := rfl
@[simp] theorem setLib_authSeen (t : Nat) (e : Nat) (x : LibEntry) (d : Dev) : (setLib t e x d).authSeen = d.authSeen := rfl
@[simp] theorem setLib_tbs (t : Nat) (e : Nat) (x : LibEntry) (d : Dev) : (setLib t e x d).tbs = d.tbs := rfl
@[simp] theorem setLib_tenants (t : Nat) (e : Nat) (x : LibEntry) (d : Dev) : (setLib t e x d).tenants = d.tenants := rfl
@[simp] theorem setLib_rrLast (t : Nat) (e : Nat) (x : LibEntry) (d : Dev) : (setLib t e x d).rrLast = d.rrLast := rfl
@[simp] theorem setLib_sec (t : Nat) (e : Nat) (x : LibEntry) (d : Dev) : (setLib t e x d).sec = d.sec := rfl
@[simp] theorem setLib_pair (t : Nat) (e : Nat) (x : LibEntry) (d : Dev) : (setLib t e x d).pair = d.pair := rfl
@[simp] theorem setLib_sess (t : Nat) (e : Nat) (x : LibEntry) (d : Dev) : (setLib t e x d).sess = d.sess := rfl
@[simp] theorem setLib_dsr (t : Nat) (e : Nat) (x : LibEntry) (d : Dev) : (setLib t e x d).dsr = d.dsr := rfl
@[simp] theorem setLib_chans (t : Nat) (e : Nat) (x : LibEntry) (d : Dev) : (setLib t e x d).chans = d.chans := rfl
@[simp] theorem setLib_wrd (t : Nat) (e : Nat) (x : LibEntry) (d : Dev) : (setLib t e x d).wrd = d.wrd := rfl
@[simp] theorem setLib_mem (t : Nat) (e : Nat) (x : LibEntry) (d : Dev) : (setLib t e x d).mem = d.mem := rfl
@[simp] theorem setLib_streams (t : Nat) (e : Nat) (x : LibEntry) (d : Dev) : (setLib t e x d).streams = d.streams := rfl
@[simp] theorem setLib_tiles (t : Nat) (e : Nat) (x : LibEntry) (d : Dev) : (setLib t e x d).tiles = d.tiles := rfl
@[simp] theorem setLib_loom (t : Nat) (e : Nat) (x : LibEntry) (d : Dev) : (setLib t e x d).loom = d.loom := rfl
@[simp] theorem setLib_hold (t : Nat) (e : Nat) (x : LibEntry) (d : Dev) : (setLib t e x d).hold = d.hold := rfl
@[simp] theorem setLib_linPrm (t : Nat) (e : Nat) (x : LibEntry) (d : Dev) : (setLib t e x d).linPrm = d.linPrm := rfl
@[simp] theorem setLib_ladder (t : Nat) (e : Nat) (x : LibEntry) (d : Dev) : (setLib t e x d).ladder = d.ladder := rfl
@[simp] theorem setLib_pke (t : Nat) (e : Nat) (x : LibEntry) (d : Dev) : (setLib t e x d).pke = d.pke := rfl
@[simp] theorem setLib_linings (t : Nat) (e : Nat) (x : LibEntry) (d : Dev) : (setLib t e x d).linings = d.linings := rfl
@[simp] theorem setLib_pwr (t : Nat) (e : Nat) (x : LibEntry) (d : Dev) : (setLib t e x d).pwr = d.pwr := rfl

/-! ## setVec -/
@[simp] theorem setVec_regs (key : Nat) (v : Msix) (d : Dev) : (setVec key v d).regs = d.regs := rfl
@[simp] theorem setVec_stage (key : Nat) (v : Msix) (d : Dev) : (setVec key v d).stage = d.stage := rfl
@[simp] theorem setVec_objs (key : Nat) (v : Msix) (d : Dev) : (setVec key v d).objs = d.objs := rfl
@[simp] theorem setVec_heldStitch (key : Nat) (v : Msix) (d : Dev) : (setVec key v d).heldStitch = d.heldStitch := rfl
@[simp] theorem setVec_emitted (key : Nat) (v : Msix) (d : Dev) : (setVec key v d).emitted = d.emitted := rfl
@[simp] theorem setVec_freeCtr (key : Nat) (v : Msix) (d : Dev) : (setVec key v d).freeCtr = d.freeCtr := rfl
@[simp] theorem setVec_rngCtr (key : Nat) (v : Msix) (d : Dev) : (setVec key v d).rngCtr = d.rngCtr := rfl
@[simp] theorem setVec_flt (key : Nat) (v : Msix) (d : Dev) : (setVec key v d).flt = d.flt := rfl
@[simp] theorem setVec_irq (key : Nat) (v : Msix) (d : Dev) : (setVec key v d).irq = d.irq := rfl
@[simp] theorem setVec_fnMask (key : Nat) (v : Msix) (d : Dev) : (setVec key v d).fnMask = d.fnMask := rfl
@[simp] theorem setVec_rings (key : Nat) (v : Msix) (d : Dev) : (setVec key v d).rings = d.rings := rfl
@[simp] theorem setVec_fnq (key : Nat) (v : Msix) (d : Dev) : (setVec key v d).fnq = d.fnq := rfl
@[simp] theorem setVec_dmaCh (key : Nat) (v : Msix) (d : Dev) : (setVec key v d).dmaCh = d.dmaCh := rfl
@[simp] theorem setVec_recvBufs (key : Nat) (v : Msix) (d : Dev) : (setVec key v d).recvBufs = d.recvBufs := rfl
@[simp] theorem setVec_links (key : Nat) (v : Msix) (d : Dev) : (setVec key v d).links = d.links := rfl
@[simp] theorem setVec_parityBad (key : Nat) (v : Msix) (d : Dev) : (setVec key v d).parityBad = d.parityBad := rfl
@[simp] theorem setVec_mbox (key : Nat) (v : Msix) (d : Dev) : (setVec key v d).mbox = d.mbox := rfl
@[simp] theorem setVec_waiting (key : Nat) (v : Msix) (d : Dev) : (setVec key v d).waiting = d.waiting := rfl
@[simp] theorem setVec_snaps (key : Nat) (v : Msix) (d : Dev) : (setVec key v d).snaps = d.snaps := rfl
@[simp] theorem setVec_lastCtr (key : Nat) (v : Msix) (d : Dev) : (setVec key v d).lastCtr = d.lastCtr := rfl
@[simp] theorem setVec_authSeen (key : Nat) (v : Msix) (d : Dev) : (setVec key v d).authSeen = d.authSeen := rfl
@[simp] theorem setVec_tbs (key : Nat) (v : Msix) (d : Dev) : (setVec key v d).tbs = d.tbs := rfl
@[simp] theorem setVec_tenants (key : Nat) (v : Msix) (d : Dev) : (setVec key v d).tenants = d.tenants := rfl
@[simp] theorem setVec_rrLast (key : Nat) (v : Msix) (d : Dev) : (setVec key v d).rrLast = d.rrLast := rfl
@[simp] theorem setVec_sec (key : Nat) (v : Msix) (d : Dev) : (setVec key v d).sec = d.sec := rfl
@[simp] theorem setVec_pair (key : Nat) (v : Msix) (d : Dev) : (setVec key v d).pair = d.pair := rfl
@[simp] theorem setVec_sess (key : Nat) (v : Msix) (d : Dev) : (setVec key v d).sess = d.sess := rfl
@[simp] theorem setVec_dsr (key : Nat) (v : Msix) (d : Dev) : (setVec key v d).dsr = d.dsr := rfl
@[simp] theorem setVec_chans (key : Nat) (v : Msix) (d : Dev) : (setVec key v d).chans = d.chans := rfl
@[simp] theorem setVec_wrd (key : Nat) (v : Msix) (d : Dev) : (setVec key v d).wrd = d.wrd := rfl
@[simp] theorem setVec_mem (key : Nat) (v : Msix) (d : Dev) : (setVec key v d).mem = d.mem := rfl
@[simp] theorem setVec_streams (key : Nat) (v : Msix) (d : Dev) : (setVec key v d).streams = d.streams := rfl
@[simp] theorem setVec_tiles (key : Nat) (v : Msix) (d : Dev) : (setVec key v d).tiles = d.tiles := rfl
@[simp] theorem setVec_loom (key : Nat) (v : Msix) (d : Dev) : (setVec key v d).loom = d.loom := rfl
@[simp] theorem setVec_hold (key : Nat) (v : Msix) (d : Dev) : (setVec key v d).hold = d.hold := rfl
@[simp] theorem setVec_linPrm (key : Nat) (v : Msix) (d : Dev) : (setVec key v d).linPrm = d.linPrm := rfl
@[simp] theorem setVec_ladder (key : Nat) (v : Msix) (d : Dev) : (setVec key v d).ladder = d.ladder := rfl
@[simp] theorem setVec_pke (key : Nat) (v : Msix) (d : Dev) : (setVec key v d).pke = d.pke := rfl
@[simp] theorem setVec_lib (key : Nat) (v : Msix) (d : Dev) : (setVec key v d).lib = d.lib := rfl
@[simp] theorem setVec_linings (key : Nat) (v : Msix) (d : Dev) : (setVec key v d).linings = d.linings := rfl
@[simp] theorem setVec_pwr (key : Nat) (v : Msix) (d : Dev) : (setVec key v d).pwr = d.pwr := rfl

/-! ## setFltSrc -/
@[simp] theorem setFltSrc_regs (i : Nat) (v : FltSrc) (d : Dev) : (setFltSrc i v d).regs = d.regs := rfl
@[simp] theorem setFltSrc_stage (i : Nat) (v : FltSrc) (d : Dev) : (setFltSrc i v d).stage = d.stage := rfl
@[simp] theorem setFltSrc_objs (i : Nat) (v : FltSrc) (d : Dev) : (setFltSrc i v d).objs = d.objs := rfl
@[simp] theorem setFltSrc_heldStitch (i : Nat) (v : FltSrc) (d : Dev) : (setFltSrc i v d).heldStitch = d.heldStitch := rfl
@[simp] theorem setFltSrc_emitted (i : Nat) (v : FltSrc) (d : Dev) : (setFltSrc i v d).emitted = d.emitted := rfl
@[simp] theorem setFltSrc_freeCtr (i : Nat) (v : FltSrc) (d : Dev) : (setFltSrc i v d).freeCtr = d.freeCtr := rfl
@[simp] theorem setFltSrc_rngCtr (i : Nat) (v : FltSrc) (d : Dev) : (setFltSrc i v d).rngCtr = d.rngCtr := rfl
@[simp] theorem setFltSrc_irq (i : Nat) (v : FltSrc) (d : Dev) : (setFltSrc i v d).irq = d.irq := rfl
@[simp] theorem setFltSrc_msix (i : Nat) (v : FltSrc) (d : Dev) : (setFltSrc i v d).msix = d.msix := rfl
@[simp] theorem setFltSrc_fnMask (i : Nat) (v : FltSrc) (d : Dev) : (setFltSrc i v d).fnMask = d.fnMask := rfl
@[simp] theorem setFltSrc_rings (i : Nat) (v : FltSrc) (d : Dev) : (setFltSrc i v d).rings = d.rings := rfl
@[simp] theorem setFltSrc_fnq (i : Nat) (v : FltSrc) (d : Dev) : (setFltSrc i v d).fnq = d.fnq := rfl
@[simp] theorem setFltSrc_dmaCh (i : Nat) (v : FltSrc) (d : Dev) : (setFltSrc i v d).dmaCh = d.dmaCh := rfl
@[simp] theorem setFltSrc_recvBufs (i : Nat) (v : FltSrc) (d : Dev) : (setFltSrc i v d).recvBufs = d.recvBufs := rfl
@[simp] theorem setFltSrc_links (i : Nat) (v : FltSrc) (d : Dev) : (setFltSrc i v d).links = d.links := rfl
@[simp] theorem setFltSrc_parityBad (i : Nat) (v : FltSrc) (d : Dev) : (setFltSrc i v d).parityBad = d.parityBad := rfl
@[simp] theorem setFltSrc_mbox (i : Nat) (v : FltSrc) (d : Dev) : (setFltSrc i v d).mbox = d.mbox := rfl
@[simp] theorem setFltSrc_waiting (i : Nat) (v : FltSrc) (d : Dev) : (setFltSrc i v d).waiting = d.waiting := rfl
@[simp] theorem setFltSrc_snaps (i : Nat) (v : FltSrc) (d : Dev) : (setFltSrc i v d).snaps = d.snaps := rfl
@[simp] theorem setFltSrc_lastCtr (i : Nat) (v : FltSrc) (d : Dev) : (setFltSrc i v d).lastCtr = d.lastCtr := rfl
@[simp] theorem setFltSrc_authSeen (i : Nat) (v : FltSrc) (d : Dev) : (setFltSrc i v d).authSeen = d.authSeen := rfl
@[simp] theorem setFltSrc_tbs (i : Nat) (v : FltSrc) (d : Dev) : (setFltSrc i v d).tbs = d.tbs := rfl
@[simp] theorem setFltSrc_tenants (i : Nat) (v : FltSrc) (d : Dev) : (setFltSrc i v d).tenants = d.tenants := rfl
@[simp] theorem setFltSrc_rrLast (i : Nat) (v : FltSrc) (d : Dev) : (setFltSrc i v d).rrLast = d.rrLast := rfl
@[simp] theorem setFltSrc_sec (i : Nat) (v : FltSrc) (d : Dev) : (setFltSrc i v d).sec = d.sec := rfl
@[simp] theorem setFltSrc_pair (i : Nat) (v : FltSrc) (d : Dev) : (setFltSrc i v d).pair = d.pair := rfl
@[simp] theorem setFltSrc_sess (i : Nat) (v : FltSrc) (d : Dev) : (setFltSrc i v d).sess = d.sess := rfl
@[simp] theorem setFltSrc_dsr (i : Nat) (v : FltSrc) (d : Dev) : (setFltSrc i v d).dsr = d.dsr := rfl
@[simp] theorem setFltSrc_chans (i : Nat) (v : FltSrc) (d : Dev) : (setFltSrc i v d).chans = d.chans := rfl
@[simp] theorem setFltSrc_wrd (i : Nat) (v : FltSrc) (d : Dev) : (setFltSrc i v d).wrd = d.wrd := rfl
@[simp] theorem setFltSrc_mem (i : Nat) (v : FltSrc) (d : Dev) : (setFltSrc i v d).mem = d.mem := rfl
@[simp] theorem setFltSrc_streams (i : Nat) (v : FltSrc) (d : Dev) : (setFltSrc i v d).streams = d.streams := rfl
@[simp] theorem setFltSrc_tiles (i : Nat) (v : FltSrc) (d : Dev) : (setFltSrc i v d).tiles = d.tiles := rfl
@[simp] theorem setFltSrc_loom (i : Nat) (v : FltSrc) (d : Dev) : (setFltSrc i v d).loom = d.loom := rfl
@[simp] theorem setFltSrc_hold (i : Nat) (v : FltSrc) (d : Dev) : (setFltSrc i v d).hold = d.hold := rfl
@[simp] theorem setFltSrc_linPrm (i : Nat) (v : FltSrc) (d : Dev) : (setFltSrc i v d).linPrm = d.linPrm := rfl
@[simp] theorem setFltSrc_ladder (i : Nat) (v : FltSrc) (d : Dev) : (setFltSrc i v d).ladder = d.ladder := rfl
@[simp] theorem setFltSrc_pke (i : Nat) (v : FltSrc) (d : Dev) : (setFltSrc i v d).pke = d.pke := rfl
@[simp] theorem setFltSrc_lib (i : Nat) (v : FltSrc) (d : Dev) : (setFltSrc i v d).lib = d.lib := rfl
@[simp] theorem setFltSrc_linings (i : Nat) (v : FltSrc) (d : Dev) : (setFltSrc i v d).linings = d.linings := rfl
@[simp] theorem setFltSrc_pwr (i : Nat) (v : FltSrc) (d : Dev) : (setFltSrc i v d).pwr = d.pwr := rfl

/-! ## setPwr -/
@[simp] theorem setPwr_regs (p : Pwr) (d : Dev) : (setPwr p d).regs = d.regs := rfl
@[simp] theorem setPwr_stage (p : Pwr) (d : Dev) : (setPwr p d).stage = d.stage := rfl
@[simp] theorem setPwr_objs (p : Pwr) (d : Dev) : (setPwr p d).objs = d.objs := rfl
@[simp] theorem setPwr_heldStitch (p : Pwr) (d : Dev) : (setPwr p d).heldStitch = d.heldStitch := rfl
@[simp] theorem setPwr_emitted (p : Pwr) (d : Dev) : (setPwr p d).emitted = d.emitted := rfl
@[simp] theorem setPwr_freeCtr (p : Pwr) (d : Dev) : (setPwr p d).freeCtr = d.freeCtr := rfl
@[simp] theorem setPwr_rngCtr (p : Pwr) (d : Dev) : (setPwr p d).rngCtr = d.rngCtr := rfl
@[simp] theorem setPwr_flt (p : Pwr) (d : Dev) : (setPwr p d).flt = d.flt := rfl
@[simp] theorem setPwr_irq (p : Pwr) (d : Dev) : (setPwr p d).irq = d.irq := rfl
@[simp] theorem setPwr_msix (p : Pwr) (d : Dev) : (setPwr p d).msix = d.msix := rfl
@[simp] theorem setPwr_fnMask (p : Pwr) (d : Dev) : (setPwr p d).fnMask = d.fnMask := rfl
@[simp] theorem setPwr_rings (p : Pwr) (d : Dev) : (setPwr p d).rings = d.rings := rfl
@[simp] theorem setPwr_fnq (p : Pwr) (d : Dev) : (setPwr p d).fnq = d.fnq := rfl
@[simp] theorem setPwr_dmaCh (p : Pwr) (d : Dev) : (setPwr p d).dmaCh = d.dmaCh := rfl
@[simp] theorem setPwr_recvBufs (p : Pwr) (d : Dev) : (setPwr p d).recvBufs = d.recvBufs := rfl
@[simp] theorem setPwr_links (p : Pwr) (d : Dev) : (setPwr p d).links = d.links := rfl
@[simp] theorem setPwr_parityBad (p : Pwr) (d : Dev) : (setPwr p d).parityBad = d.parityBad := rfl
@[simp] theorem setPwr_mbox (p : Pwr) (d : Dev) : (setPwr p d).mbox = d.mbox := rfl
@[simp] theorem setPwr_waiting (p : Pwr) (d : Dev) : (setPwr p d).waiting = d.waiting := rfl
@[simp] theorem setPwr_snaps (p : Pwr) (d : Dev) : (setPwr p d).snaps = d.snaps := rfl
@[simp] theorem setPwr_lastCtr (p : Pwr) (d : Dev) : (setPwr p d).lastCtr = d.lastCtr := rfl
@[simp] theorem setPwr_authSeen (p : Pwr) (d : Dev) : (setPwr p d).authSeen = d.authSeen := rfl
@[simp] theorem setPwr_tbs (p : Pwr) (d : Dev) : (setPwr p d).tbs = d.tbs := rfl
@[simp] theorem setPwr_tenants (p : Pwr) (d : Dev) : (setPwr p d).tenants = d.tenants := rfl
@[simp] theorem setPwr_rrLast (p : Pwr) (d : Dev) : (setPwr p d).rrLast = d.rrLast := rfl
@[simp] theorem setPwr_sec (p : Pwr) (d : Dev) : (setPwr p d).sec = d.sec := rfl
@[simp] theorem setPwr_pair (p : Pwr) (d : Dev) : (setPwr p d).pair = d.pair := rfl
@[simp] theorem setPwr_sess (p : Pwr) (d : Dev) : (setPwr p d).sess = d.sess := rfl
@[simp] theorem setPwr_dsr (p : Pwr) (d : Dev) : (setPwr p d).dsr = d.dsr := rfl
@[simp] theorem setPwr_chans (p : Pwr) (d : Dev) : (setPwr p d).chans = d.chans := rfl
@[simp] theorem setPwr_wrd (p : Pwr) (d : Dev) : (setPwr p d).wrd = d.wrd := rfl
@[simp] theorem setPwr_mem (p : Pwr) (d : Dev) : (setPwr p d).mem = d.mem := rfl
@[simp] theorem setPwr_streams (p : Pwr) (d : Dev) : (setPwr p d).streams = d.streams := rfl
@[simp] theorem setPwr_tiles (p : Pwr) (d : Dev) : (setPwr p d).tiles = d.tiles := rfl
@[simp] theorem setPwr_loom (p : Pwr) (d : Dev) : (setPwr p d).loom = d.loom := rfl
@[simp] theorem setPwr_hold (p : Pwr) (d : Dev) : (setPwr p d).hold = d.hold := rfl
@[simp] theorem setPwr_linPrm (p : Pwr) (d : Dev) : (setPwr p d).linPrm = d.linPrm := rfl
@[simp] theorem setPwr_ladder (p : Pwr) (d : Dev) : (setPwr p d).ladder = d.ladder := rfl
@[simp] theorem setPwr_pke (p : Pwr) (d : Dev) : (setPwr p d).pke = d.pke := rfl
@[simp] theorem setPwr_lib (p : Pwr) (d : Dev) : (setPwr p d).lib = d.lib := rfl
@[simp] theorem setPwr_linings (p : Pwr) (d : Dev) : (setPwr p d).linings = d.linings := rfl

/-! ## setDom -/
@[simp] theorem setDom_regs (k : Nat) (x : Dom) (d : Dev) : (setDom k x d).regs = d.regs := rfl
@[simp] theorem setDom_stage (k : Nat) (x : Dom) (d : Dev) : (setDom k x d).stage = d.stage := rfl
@[simp] theorem setDom_objs (k : Nat) (x : Dom) (d : Dev) : (setDom k x d).objs = d.objs := rfl
@[simp] theorem setDom_heldStitch (k : Nat) (x : Dom) (d : Dev) : (setDom k x d).heldStitch = d.heldStitch := rfl
@[simp] theorem setDom_emitted (k : Nat) (x : Dom) (d : Dev) : (setDom k x d).emitted = d.emitted := rfl
@[simp] theorem setDom_freeCtr (k : Nat) (x : Dom) (d : Dev) : (setDom k x d).freeCtr = d.freeCtr := rfl
@[simp] theorem setDom_rngCtr (k : Nat) (x : Dom) (d : Dev) : (setDom k x d).rngCtr = d.rngCtr := rfl
@[simp] theorem setDom_flt (k : Nat) (x : Dom) (d : Dev) : (setDom k x d).flt = d.flt := rfl
@[simp] theorem setDom_irq (k : Nat) (x : Dom) (d : Dev) : (setDom k x d).irq = d.irq := rfl
@[simp] theorem setDom_msix (k : Nat) (x : Dom) (d : Dev) : (setDom k x d).msix = d.msix := rfl
@[simp] theorem setDom_fnMask (k : Nat) (x : Dom) (d : Dev) : (setDom k x d).fnMask = d.fnMask := rfl
@[simp] theorem setDom_rings (k : Nat) (x : Dom) (d : Dev) : (setDom k x d).rings = d.rings := rfl
@[simp] theorem setDom_fnq (k : Nat) (x : Dom) (d : Dev) : (setDom k x d).fnq = d.fnq := rfl
@[simp] theorem setDom_dmaCh (k : Nat) (x : Dom) (d : Dev) : (setDom k x d).dmaCh = d.dmaCh := rfl
@[simp] theorem setDom_recvBufs (k : Nat) (x : Dom) (d : Dev) : (setDom k x d).recvBufs = d.recvBufs := rfl
@[simp] theorem setDom_links (k : Nat) (x : Dom) (d : Dev) : (setDom k x d).links = d.links := rfl
@[simp] theorem setDom_parityBad (k : Nat) (x : Dom) (d : Dev) : (setDom k x d).parityBad = d.parityBad := rfl
@[simp] theorem setDom_mbox (k : Nat) (x : Dom) (d : Dev) : (setDom k x d).mbox = d.mbox := rfl
@[simp] theorem setDom_waiting (k : Nat) (x : Dom) (d : Dev) : (setDom k x d).waiting = d.waiting := rfl
@[simp] theorem setDom_snaps (k : Nat) (x : Dom) (d : Dev) : (setDom k x d).snaps = d.snaps := rfl
@[simp] theorem setDom_lastCtr (k : Nat) (x : Dom) (d : Dev) : (setDom k x d).lastCtr = d.lastCtr := rfl
@[simp] theorem setDom_authSeen (k : Nat) (x : Dom) (d : Dev) : (setDom k x d).authSeen = d.authSeen := rfl
@[simp] theorem setDom_tbs (k : Nat) (x : Dom) (d : Dev) : (setDom k x d).tbs = d.tbs := rfl
@[simp] theorem setDom_tenants (k : Nat) (x : Dom) (d : Dev) : (setDom k x d).tenants = d.tenants := rfl
@[simp] theorem setDom_rrLast (k : Nat) (x : Dom) (d : Dev) : (setDom k x d).rrLast = d.rrLast := rfl
@[simp] theorem setDom_sec (k : Nat) (x : Dom) (d : Dev) : (setDom k x d).sec = d.sec := rfl
@[simp] theorem setDom_pair (k : Nat) (x : Dom) (d : Dev) : (setDom k x d).pair = d.pair := rfl
@[simp] theorem setDom_sess (k : Nat) (x : Dom) (d : Dev) : (setDom k x d).sess = d.sess := rfl
@[simp] theorem setDom_dsr (k : Nat) (x : Dom) (d : Dev) : (setDom k x d).dsr = d.dsr := rfl
@[simp] theorem setDom_chans (k : Nat) (x : Dom) (d : Dev) : (setDom k x d).chans = d.chans := rfl
@[simp] theorem setDom_wrd (k : Nat) (x : Dom) (d : Dev) : (setDom k x d).wrd = d.wrd := rfl
@[simp] theorem setDom_mem (k : Nat) (x : Dom) (d : Dev) : (setDom k x d).mem = d.mem := rfl
@[simp] theorem setDom_streams (k : Nat) (x : Dom) (d : Dev) : (setDom k x d).streams = d.streams := rfl
@[simp] theorem setDom_tiles (k : Nat) (x : Dom) (d : Dev) : (setDom k x d).tiles = d.tiles := rfl
@[simp] theorem setDom_loom (k : Nat) (x : Dom) (d : Dev) : (setDom k x d).loom = d.loom := rfl
@[simp] theorem setDom_hold (k : Nat) (x : Dom) (d : Dev) : (setDom k x d).hold = d.hold := rfl
@[simp] theorem setDom_linPrm (k : Nat) (x : Dom) (d : Dev) : (setDom k x d).linPrm = d.linPrm := rfl
@[simp] theorem setDom_ladder (k : Nat) (x : Dom) (d : Dev) : (setDom k x d).ladder = d.ladder := rfl
@[simp] theorem setDom_pke (k : Nat) (x : Dom) (d : Dev) : (setDom k x d).pke = d.pke := rfl
@[simp] theorem setDom_lib (k : Nat) (x : Dom) (d : Dev) : (setDom k x d).lib = d.lib := rfl
@[simp] theorem setDom_linings (k : Nat) (x : Dom) (d : Dev) : (setDom k x d).linings = d.linings := rfl

/-! ## setTbs -/
@[simp] theorem setTbs_regs (x : Tbs) (d : Dev) : (setTbs x d).regs = d.regs := rfl
@[simp] theorem setTbs_stage (x : Tbs) (d : Dev) : (setTbs x d).stage = d.stage := rfl
@[simp] theorem setTbs_objs (x : Tbs) (d : Dev) : (setTbs x d).objs = d.objs := rfl
@[simp] theorem setTbs_heldStitch (x : Tbs) (d : Dev) : (setTbs x d).heldStitch = d.heldStitch := rfl
@[simp] theorem setTbs_emitted (x : Tbs) (d : Dev) : (setTbs x d).emitted = d.emitted := rfl
@[simp] theorem setTbs_freeCtr (x : Tbs) (d : Dev) : (setTbs x d).freeCtr = d.freeCtr := rfl
@[simp] theorem setTbs_rngCtr (x : Tbs) (d : Dev) : (setTbs x d).rngCtr = d.rngCtr := rfl
@[simp] theorem setTbs_flt (x : Tbs) (d : Dev) : (setTbs x d).flt = d.flt := rfl
@[simp] theorem setTbs_irq (x : Tbs) (d : Dev) : (setTbs x d).irq = d.irq := rfl
@[simp] theorem setTbs_msix (x : Tbs) (d : Dev) : (setTbs x d).msix = d.msix := rfl
@[simp] theorem setTbs_fnMask (x : Tbs) (d : Dev) : (setTbs x d).fnMask = d.fnMask := rfl
@[simp] theorem setTbs_rings (x : Tbs) (d : Dev) : (setTbs x d).rings = d.rings := rfl
@[simp] theorem setTbs_fnq (x : Tbs) (d : Dev) : (setTbs x d).fnq = d.fnq := rfl
@[simp] theorem setTbs_dmaCh (x : Tbs) (d : Dev) : (setTbs x d).dmaCh = d.dmaCh := rfl
@[simp] theorem setTbs_recvBufs (x : Tbs) (d : Dev) : (setTbs x d).recvBufs = d.recvBufs := rfl
@[simp] theorem setTbs_links (x : Tbs) (d : Dev) : (setTbs x d).links = d.links := rfl
@[simp] theorem setTbs_parityBad (x : Tbs) (d : Dev) : (setTbs x d).parityBad = d.parityBad := rfl
@[simp] theorem setTbs_mbox (x : Tbs) (d : Dev) : (setTbs x d).mbox = d.mbox := rfl
@[simp] theorem setTbs_waiting (x : Tbs) (d : Dev) : (setTbs x d).waiting = d.waiting := rfl
@[simp] theorem setTbs_snaps (x : Tbs) (d : Dev) : (setTbs x d).snaps = d.snaps := rfl
@[simp] theorem setTbs_lastCtr (x : Tbs) (d : Dev) : (setTbs x d).lastCtr = d.lastCtr := rfl
@[simp] theorem setTbs_authSeen (x : Tbs) (d : Dev) : (setTbs x d).authSeen = d.authSeen := rfl
@[simp] theorem setTbs_tenants (x : Tbs) (d : Dev) : (setTbs x d).tenants = d.tenants := rfl
@[simp] theorem setTbs_rrLast (x : Tbs) (d : Dev) : (setTbs x d).rrLast = d.rrLast := rfl
@[simp] theorem setTbs_sec (x : Tbs) (d : Dev) : (setTbs x d).sec = d.sec := rfl
@[simp] theorem setTbs_pair (x : Tbs) (d : Dev) : (setTbs x d).pair = d.pair := rfl
@[simp] theorem setTbs_sess (x : Tbs) (d : Dev) : (setTbs x d).sess = d.sess := rfl
@[simp] theorem setTbs_dsr (x : Tbs) (d : Dev) : (setTbs x d).dsr = d.dsr := rfl
@[simp] theorem setTbs_chans (x : Tbs) (d : Dev) : (setTbs x d).chans = d.chans := rfl
@[simp] theorem setTbs_wrd (x : Tbs) (d : Dev) : (setTbs x d).wrd = d.wrd := rfl
@[simp] theorem setTbs_mem (x : Tbs) (d : Dev) : (setTbs x d).mem = d.mem := rfl
@[simp] theorem setTbs_streams (x : Tbs) (d : Dev) : (setTbs x d).streams = d.streams := rfl
@[simp] theorem setTbs_tiles (x : Tbs) (d : Dev) : (setTbs x d).tiles = d.tiles := rfl
@[simp] theorem setTbs_loom (x : Tbs) (d : Dev) : (setTbs x d).loom = d.loom := rfl
@[simp] theorem setTbs_hold (x : Tbs) (d : Dev) : (setTbs x d).hold = d.hold := rfl
@[simp] theorem setTbs_linPrm (x : Tbs) (d : Dev) : (setTbs x d).linPrm = d.linPrm := rfl
@[simp] theorem setTbs_ladder (x : Tbs) (d : Dev) : (setTbs x d).ladder = d.ladder := rfl
@[simp] theorem setTbs_pke (x : Tbs) (d : Dev) : (setTbs x d).pke = d.pke := rfl
@[simp] theorem setTbs_lib (x : Tbs) (d : Dev) : (setTbs x d).lib = d.lib := rfl
@[simp] theorem setTbs_linings (x : Tbs) (d : Dev) : (setTbs x d).linings = d.linings := rfl
@[simp] theorem setTbs_pwr (x : Tbs) (d : Dev) : (setTbs x d).pwr = d.pwr := rfl

/-! ## setSec -/
@[simp] theorem setSec_regs (x : Sec) (d : Dev) : (setSec x d).regs = d.regs := rfl
@[simp] theorem setSec_stage (x : Sec) (d : Dev) : (setSec x d).stage = d.stage := rfl
@[simp] theorem setSec_objs (x : Sec) (d : Dev) : (setSec x d).objs = d.objs := rfl
@[simp] theorem setSec_heldStitch (x : Sec) (d : Dev) : (setSec x d).heldStitch = d.heldStitch := rfl
@[simp] theorem setSec_emitted (x : Sec) (d : Dev) : (setSec x d).emitted = d.emitted := rfl
@[simp] theorem setSec_freeCtr (x : Sec) (d : Dev) : (setSec x d).freeCtr = d.freeCtr := rfl
@[simp] theorem setSec_rngCtr (x : Sec) (d : Dev) : (setSec x d).rngCtr = d.rngCtr := rfl
@[simp] theorem setSec_flt (x : Sec) (d : Dev) : (setSec x d).flt = d.flt := rfl
@[simp] theorem setSec_irq (x : Sec) (d : Dev) : (setSec x d).irq = d.irq := rfl
@[simp] theorem setSec_msix (x : Sec) (d : Dev) : (setSec x d).msix = d.msix := rfl
@[simp] theorem setSec_fnMask (x : Sec) (d : Dev) : (setSec x d).fnMask = d.fnMask := rfl
@[simp] theorem setSec_rings (x : Sec) (d : Dev) : (setSec x d).rings = d.rings := rfl
@[simp] theorem setSec_fnq (x : Sec) (d : Dev) : (setSec x d).fnq = d.fnq := rfl
@[simp] theorem setSec_dmaCh (x : Sec) (d : Dev) : (setSec x d).dmaCh = d.dmaCh := rfl
@[simp] theorem setSec_recvBufs (x : Sec) (d : Dev) : (setSec x d).recvBufs = d.recvBufs := rfl
@[simp] theorem setSec_links (x : Sec) (d : Dev) : (setSec x d).links = d.links := rfl
@[simp] theorem setSec_parityBad (x : Sec) (d : Dev) : (setSec x d).parityBad = d.parityBad := rfl
@[simp] theorem setSec_mbox (x : Sec) (d : Dev) : (setSec x d).mbox = d.mbox := rfl
@[simp] theorem setSec_waiting (x : Sec) (d : Dev) : (setSec x d).waiting = d.waiting := rfl
@[simp] theorem setSec_snaps (x : Sec) (d : Dev) : (setSec x d).snaps = d.snaps := rfl
@[simp] theorem setSec_lastCtr (x : Sec) (d : Dev) : (setSec x d).lastCtr = d.lastCtr := rfl
@[simp] theorem setSec_authSeen (x : Sec) (d : Dev) : (setSec x d).authSeen = d.authSeen := rfl
@[simp] theorem setSec_tbs (x : Sec) (d : Dev) : (setSec x d).tbs = d.tbs := rfl
@[simp] theorem setSec_tenants (x : Sec) (d : Dev) : (setSec x d).tenants = d.tenants := rfl
@[simp] theorem setSec_rrLast (x : Sec) (d : Dev) : (setSec x d).rrLast = d.rrLast := rfl
@[simp] theorem setSec_pair (x : Sec) (d : Dev) : (setSec x d).pair = d.pair := rfl
@[simp] theorem setSec_sess (x : Sec) (d : Dev) : (setSec x d).sess = d.sess := rfl
@[simp] theorem setSec_dsr (x : Sec) (d : Dev) : (setSec x d).dsr = d.dsr := rfl
@[simp] theorem setSec_chans (x : Sec) (d : Dev) : (setSec x d).chans = d.chans := rfl
@[simp] theorem setSec_wrd (x : Sec) (d : Dev) : (setSec x d).wrd = d.wrd := rfl
@[simp] theorem setSec_mem (x : Sec) (d : Dev) : (setSec x d).mem = d.mem := rfl
@[simp] theorem setSec_streams (x : Sec) (d : Dev) : (setSec x d).streams = d.streams := rfl
@[simp] theorem setSec_tiles (x : Sec) (d : Dev) : (setSec x d).tiles = d.tiles := rfl
@[simp] theorem setSec_loom (x : Sec) (d : Dev) : (setSec x d).loom = d.loom := rfl
@[simp] theorem setSec_hold (x : Sec) (d : Dev) : (setSec x d).hold = d.hold := rfl
@[simp] theorem setSec_linPrm (x : Sec) (d : Dev) : (setSec x d).linPrm = d.linPrm := rfl
@[simp] theorem setSec_ladder (x : Sec) (d : Dev) : (setSec x d).ladder = d.ladder := rfl
@[simp] theorem setSec_pke (x : Sec) (d : Dev) : (setSec x d).pke = d.pke := rfl
@[simp] theorem setSec_lib (x : Sec) (d : Dev) : (setSec x d).lib = d.lib := rfl
@[simp] theorem setSec_linings (x : Sec) (d : Dev) : (setSec x d).linings = d.linings := rfl
@[simp] theorem setSec_pwr (x : Sec) (d : Dev) : (setSec x d).pwr = d.pwr := rfl

/-! ## setPair -/
@[simp] theorem setPair_regs (x : Pair) (d : Dev) : (setPair x d).regs = d.regs := rfl
@[simp] theorem setPair_stage (x : Pair) (d : Dev) : (setPair x d).stage = d.stage := rfl
@[simp] theorem setPair_objs (x : Pair) (d : Dev) : (setPair x d).objs = d.objs := rfl
@[simp] theorem setPair_heldStitch (x : Pair) (d : Dev) : (setPair x d).heldStitch = d.heldStitch := rfl
@[simp] theorem setPair_emitted (x : Pair) (d : Dev) : (setPair x d).emitted = d.emitted := rfl
@[simp] theorem setPair_freeCtr (x : Pair) (d : Dev) : (setPair x d).freeCtr = d.freeCtr := rfl
@[simp] theorem setPair_rngCtr (x : Pair) (d : Dev) : (setPair x d).rngCtr = d.rngCtr := rfl
@[simp] theorem setPair_flt (x : Pair) (d : Dev) : (setPair x d).flt = d.flt := rfl
@[simp] theorem setPair_irq (x : Pair) (d : Dev) : (setPair x d).irq = d.irq := rfl
@[simp] theorem setPair_msix (x : Pair) (d : Dev) : (setPair x d).msix = d.msix := rfl
@[simp] theorem setPair_fnMask (x : Pair) (d : Dev) : (setPair x d).fnMask = d.fnMask := rfl
@[simp] theorem setPair_rings (x : Pair) (d : Dev) : (setPair x d).rings = d.rings := rfl
@[simp] theorem setPair_fnq (x : Pair) (d : Dev) : (setPair x d).fnq = d.fnq := rfl
@[simp] theorem setPair_dmaCh (x : Pair) (d : Dev) : (setPair x d).dmaCh = d.dmaCh := rfl
@[simp] theorem setPair_recvBufs (x : Pair) (d : Dev) : (setPair x d).recvBufs = d.recvBufs := rfl
@[simp] theorem setPair_links (x : Pair) (d : Dev) : (setPair x d).links = d.links := rfl
@[simp] theorem setPair_parityBad (x : Pair) (d : Dev) : (setPair x d).parityBad = d.parityBad := rfl
@[simp] theorem setPair_mbox (x : Pair) (d : Dev) : (setPair x d).mbox = d.mbox := rfl
@[simp] theorem setPair_waiting (x : Pair) (d : Dev) : (setPair x d).waiting = d.waiting := rfl
@[simp] theorem setPair_snaps (x : Pair) (d : Dev) : (setPair x d).snaps = d.snaps := rfl
@[simp] theorem setPair_lastCtr (x : Pair) (d : Dev) : (setPair x d).lastCtr = d.lastCtr := rfl
@[simp] theorem setPair_authSeen (x : Pair) (d : Dev) : (setPair x d).authSeen = d.authSeen := rfl
@[simp] theorem setPair_tbs (x : Pair) (d : Dev) : (setPair x d).tbs = d.tbs := rfl
@[simp] theorem setPair_tenants (x : Pair) (d : Dev) : (setPair x d).tenants = d.tenants := rfl
@[simp] theorem setPair_rrLast (x : Pair) (d : Dev) : (setPair x d).rrLast = d.rrLast := rfl
@[simp] theorem setPair_sec (x : Pair) (d : Dev) : (setPair x d).sec = d.sec := rfl
@[simp] theorem setPair_sess (x : Pair) (d : Dev) : (setPair x d).sess = d.sess := rfl
@[simp] theorem setPair_dsr (x : Pair) (d : Dev) : (setPair x d).dsr = d.dsr := rfl
@[simp] theorem setPair_chans (x : Pair) (d : Dev) : (setPair x d).chans = d.chans := rfl
@[simp] theorem setPair_wrd (x : Pair) (d : Dev) : (setPair x d).wrd = d.wrd := rfl
@[simp] theorem setPair_mem (x : Pair) (d : Dev) : (setPair x d).mem = d.mem := rfl
@[simp] theorem setPair_streams (x : Pair) (d : Dev) : (setPair x d).streams = d.streams := rfl
@[simp] theorem setPair_tiles (x : Pair) (d : Dev) : (setPair x d).tiles = d.tiles := rfl
@[simp] theorem setPair_loom (x : Pair) (d : Dev) : (setPair x d).loom = d.loom := rfl
@[simp] theorem setPair_hold (x : Pair) (d : Dev) : (setPair x d).hold = d.hold := rfl
@[simp] theorem setPair_linPrm (x : Pair) (d : Dev) : (setPair x d).linPrm = d.linPrm := rfl
@[simp] theorem setPair_ladder (x : Pair) (d : Dev) : (setPair x d).ladder = d.ladder := rfl
@[simp] theorem setPair_pke (x : Pair) (d : Dev) : (setPair x d).pke = d.pke := rfl
@[simp] theorem setPair_lib (x : Pair) (d : Dev) : (setPair x d).lib = d.lib := rfl
@[simp] theorem setPair_linings (x : Pair) (d : Dev) : (setPair x d).linings = d.linings := rfl
@[simp] theorem setPair_pwr (x : Pair) (d : Dev) : (setPair x d).pwr = d.pwr := rfl

/-! ## setDsr -/
@[simp] theorem setDsr_regs (x : Dsr) (d : Dev) : (setDsr x d).regs = d.regs := rfl
@[simp] theorem setDsr_stage (x : Dsr) (d : Dev) : (setDsr x d).stage = d.stage := rfl
@[simp] theorem setDsr_objs (x : Dsr) (d : Dev) : (setDsr x d).objs = d.objs := rfl
@[simp] theorem setDsr_heldStitch (x : Dsr) (d : Dev) : (setDsr x d).heldStitch = d.heldStitch := rfl
@[simp] theorem setDsr_emitted (x : Dsr) (d : Dev) : (setDsr x d).emitted = d.emitted := rfl
@[simp] theorem setDsr_freeCtr (x : Dsr) (d : Dev) : (setDsr x d).freeCtr = d.freeCtr := rfl
@[simp] theorem setDsr_rngCtr (x : Dsr) (d : Dev) : (setDsr x d).rngCtr = d.rngCtr := rfl
@[simp] theorem setDsr_flt (x : Dsr) (d : Dev) : (setDsr x d).flt = d.flt := rfl
@[simp] theorem setDsr_irq (x : Dsr) (d : Dev) : (setDsr x d).irq = d.irq := rfl
@[simp] theorem setDsr_msix (x : Dsr) (d : Dev) : (setDsr x d).msix = d.msix := rfl
@[simp] theorem setDsr_fnMask (x : Dsr) (d : Dev) : (setDsr x d).fnMask = d.fnMask := rfl
@[simp] theorem setDsr_rings (x : Dsr) (d : Dev) : (setDsr x d).rings = d.rings := rfl
@[simp] theorem setDsr_fnq (x : Dsr) (d : Dev) : (setDsr x d).fnq = d.fnq := rfl
@[simp] theorem setDsr_dmaCh (x : Dsr) (d : Dev) : (setDsr x d).dmaCh = d.dmaCh := rfl
@[simp] theorem setDsr_recvBufs (x : Dsr) (d : Dev) : (setDsr x d).recvBufs = d.recvBufs := rfl
@[simp] theorem setDsr_links (x : Dsr) (d : Dev) : (setDsr x d).links = d.links := rfl
@[simp] theorem setDsr_parityBad (x : Dsr) (d : Dev) : (setDsr x d).parityBad = d.parityBad := rfl
@[simp] theorem setDsr_mbox (x : Dsr) (d : Dev) : (setDsr x d).mbox = d.mbox := rfl
@[simp] theorem setDsr_waiting (x : Dsr) (d : Dev) : (setDsr x d).waiting = d.waiting := rfl
@[simp] theorem setDsr_snaps (x : Dsr) (d : Dev) : (setDsr x d).snaps = d.snaps := rfl
@[simp] theorem setDsr_lastCtr (x : Dsr) (d : Dev) : (setDsr x d).lastCtr = d.lastCtr := rfl
@[simp] theorem setDsr_authSeen (x : Dsr) (d : Dev) : (setDsr x d).authSeen = d.authSeen := rfl
@[simp] theorem setDsr_tbs (x : Dsr) (d : Dev) : (setDsr x d).tbs = d.tbs := rfl
@[simp] theorem setDsr_tenants (x : Dsr) (d : Dev) : (setDsr x d).tenants = d.tenants := rfl
@[simp] theorem setDsr_rrLast (x : Dsr) (d : Dev) : (setDsr x d).rrLast = d.rrLast := rfl
@[simp] theorem setDsr_sec (x : Dsr) (d : Dev) : (setDsr x d).sec = d.sec := rfl
@[simp] theorem setDsr_pair (x : Dsr) (d : Dev) : (setDsr x d).pair = d.pair := rfl
@[simp] theorem setDsr_sess (x : Dsr) (d : Dev) : (setDsr x d).sess = d.sess := rfl
@[simp] theorem setDsr_chans (x : Dsr) (d : Dev) : (setDsr x d).chans = d.chans := rfl
@[simp] theorem setDsr_wrd (x : Dsr) (d : Dev) : (setDsr x d).wrd = d.wrd := rfl
@[simp] theorem setDsr_mem (x : Dsr) (d : Dev) : (setDsr x d).mem = d.mem := rfl
@[simp] theorem setDsr_streams (x : Dsr) (d : Dev) : (setDsr x d).streams = d.streams := rfl
@[simp] theorem setDsr_tiles (x : Dsr) (d : Dev) : (setDsr x d).tiles = d.tiles := rfl
@[simp] theorem setDsr_loom (x : Dsr) (d : Dev) : (setDsr x d).loom = d.loom := rfl
@[simp] theorem setDsr_hold (x : Dsr) (d : Dev) : (setDsr x d).hold = d.hold := rfl
@[simp] theorem setDsr_linPrm (x : Dsr) (d : Dev) : (setDsr x d).linPrm = d.linPrm := rfl
@[simp] theorem setDsr_ladder (x : Dsr) (d : Dev) : (setDsr x d).ladder = d.ladder := rfl
@[simp] theorem setDsr_pke (x : Dsr) (d : Dev) : (setDsr x d).pke = d.pke := rfl
@[simp] theorem setDsr_lib (x : Dsr) (d : Dev) : (setDsr x d).lib = d.lib := rfl
@[simp] theorem setDsr_linings (x : Dsr) (d : Dev) : (setDsr x d).linings = d.linings := rfl
@[simp] theorem setDsr_pwr (x : Dsr) (d : Dev) : (setDsr x d).pwr = d.pwr := rfl

/-! ## setWrd -/
@[simp] theorem setWrd_regs (w : Wrd) (d : Dev) : (setWrd w d).regs = d.regs := rfl
@[simp] theorem setWrd_stage (w : Wrd) (d : Dev) : (setWrd w d).stage = d.stage := rfl
@[simp] theorem setWrd_objs (w : Wrd) (d : Dev) : (setWrd w d).objs = d.objs := rfl
@[simp] theorem setWrd_heldStitch (w : Wrd) (d : Dev) : (setWrd w d).heldStitch = d.heldStitch := rfl
@[simp] theorem setWrd_emitted (w : Wrd) (d : Dev) : (setWrd w d).emitted = d.emitted := rfl
@[simp] theorem setWrd_freeCtr (w : Wrd) (d : Dev) : (setWrd w d).freeCtr = d.freeCtr := rfl
@[simp] theorem setWrd_rngCtr (w : Wrd) (d : Dev) : (setWrd w d).rngCtr = d.rngCtr := rfl
@[simp] theorem setWrd_flt (w : Wrd) (d : Dev) : (setWrd w d).flt = d.flt := rfl
@[simp] theorem setWrd_irq (w : Wrd) (d : Dev) : (setWrd w d).irq = d.irq := rfl
@[simp] theorem setWrd_msix (w : Wrd) (d : Dev) : (setWrd w d).msix = d.msix := rfl
@[simp] theorem setWrd_fnMask (w : Wrd) (d : Dev) : (setWrd w d).fnMask = d.fnMask := rfl
@[simp] theorem setWrd_rings (w : Wrd) (d : Dev) : (setWrd w d).rings = d.rings := rfl
@[simp] theorem setWrd_fnq (w : Wrd) (d : Dev) : (setWrd w d).fnq = d.fnq := rfl
@[simp] theorem setWrd_dmaCh (w : Wrd) (d : Dev) : (setWrd w d).dmaCh = d.dmaCh := rfl
@[simp] theorem setWrd_recvBufs (w : Wrd) (d : Dev) : (setWrd w d).recvBufs = d.recvBufs := rfl
@[simp] theorem setWrd_links (w : Wrd) (d : Dev) : (setWrd w d).links = d.links := rfl
@[simp] theorem setWrd_parityBad (w : Wrd) (d : Dev) : (setWrd w d).parityBad = d.parityBad := rfl
@[simp] theorem setWrd_mbox (w : Wrd) (d : Dev) : (setWrd w d).mbox = d.mbox := rfl
@[simp] theorem setWrd_waiting (w : Wrd) (d : Dev) : (setWrd w d).waiting = d.waiting := rfl
@[simp] theorem setWrd_snaps (w : Wrd) (d : Dev) : (setWrd w d).snaps = d.snaps := rfl
@[simp] theorem setWrd_lastCtr (w : Wrd) (d : Dev) : (setWrd w d).lastCtr = d.lastCtr := rfl
@[simp] theorem setWrd_authSeen (w : Wrd) (d : Dev) : (setWrd w d).authSeen = d.authSeen := rfl
@[simp] theorem setWrd_tbs (w : Wrd) (d : Dev) : (setWrd w d).tbs = d.tbs := rfl
@[simp] theorem setWrd_tenants (w : Wrd) (d : Dev) : (setWrd w d).tenants = d.tenants := rfl
@[simp] theorem setWrd_rrLast (w : Wrd) (d : Dev) : (setWrd w d).rrLast = d.rrLast := rfl
@[simp] theorem setWrd_sec (w : Wrd) (d : Dev) : (setWrd w d).sec = d.sec := rfl
@[simp] theorem setWrd_pair (w : Wrd) (d : Dev) : (setWrd w d).pair = d.pair := rfl
@[simp] theorem setWrd_sess (w : Wrd) (d : Dev) : (setWrd w d).sess = d.sess := rfl
@[simp] theorem setWrd_dsr (w : Wrd) (d : Dev) : (setWrd w d).dsr = d.dsr := rfl
@[simp] theorem setWrd_chans (w : Wrd) (d : Dev) : (setWrd w d).chans = d.chans := rfl
@[simp] theorem setWrd_mem (w : Wrd) (d : Dev) : (setWrd w d).mem = d.mem := rfl
@[simp] theorem setWrd_streams (w : Wrd) (d : Dev) : (setWrd w d).streams = d.streams := rfl
@[simp] theorem setWrd_tiles (w : Wrd) (d : Dev) : (setWrd w d).tiles = d.tiles := rfl
@[simp] theorem setWrd_loom (w : Wrd) (d : Dev) : (setWrd w d).loom = d.loom := rfl
@[simp] theorem setWrd_hold (w : Wrd) (d : Dev) : (setWrd w d).hold = d.hold := rfl
@[simp] theorem setWrd_linPrm (w : Wrd) (d : Dev) : (setWrd w d).linPrm = d.linPrm := rfl
@[simp] theorem setWrd_ladder (w : Wrd) (d : Dev) : (setWrd w d).ladder = d.ladder := rfl
@[simp] theorem setWrd_pke (w : Wrd) (d : Dev) : (setWrd w d).pke = d.pke := rfl
@[simp] theorem setWrd_lib (w : Wrd) (d : Dev) : (setWrd w d).lib = d.lib := rfl
@[simp] theorem setWrd_linings (w : Wrd) (d : Dev) : (setWrd w d).linings = d.linings := rfl
@[simp] theorem setWrd_pwr (w : Wrd) (d : Dev) : (setWrd w d).pwr = d.pwr := rfl

/-! ## setLoom -/
@[simp] theorem setLoom_regs (x : Loom) (d : Dev) : (setLoom x d).regs = d.regs := rfl
@[simp] theorem setLoom_stage (x : Loom) (d : Dev) : (setLoom x d).stage = d.stage := rfl
@[simp] theorem setLoom_objs (x : Loom) (d : Dev) : (setLoom x d).objs = d.objs := rfl
@[simp] theorem setLoom_heldStitch (x : Loom) (d : Dev) : (setLoom x d).heldStitch = d.heldStitch := rfl
@[simp] theorem setLoom_emitted (x : Loom) (d : Dev) : (setLoom x d).emitted = d.emitted := rfl
@[simp] theorem setLoom_freeCtr (x : Loom) (d : Dev) : (setLoom x d).freeCtr = d.freeCtr := rfl
@[simp] theorem setLoom_rngCtr (x : Loom) (d : Dev) : (setLoom x d).rngCtr = d.rngCtr := rfl
@[simp] theorem setLoom_flt (x : Loom) (d : Dev) : (setLoom x d).flt = d.flt := rfl
@[simp] theorem setLoom_irq (x : Loom) (d : Dev) : (setLoom x d).irq = d.irq := rfl
@[simp] theorem setLoom_msix (x : Loom) (d : Dev) : (setLoom x d).msix = d.msix := rfl
@[simp] theorem setLoom_fnMask (x : Loom) (d : Dev) : (setLoom x d).fnMask = d.fnMask := rfl
@[simp] theorem setLoom_rings (x : Loom) (d : Dev) : (setLoom x d).rings = d.rings := rfl
@[simp] theorem setLoom_fnq (x : Loom) (d : Dev) : (setLoom x d).fnq = d.fnq := rfl
@[simp] theorem setLoom_dmaCh (x : Loom) (d : Dev) : (setLoom x d).dmaCh = d.dmaCh := rfl
@[simp] theorem setLoom_recvBufs (x : Loom) (d : Dev) : (setLoom x d).recvBufs = d.recvBufs := rfl
@[simp] theorem setLoom_links (x : Loom) (d : Dev) : (setLoom x d).links = d.links := rfl
@[simp] theorem setLoom_parityBad (x : Loom) (d : Dev) : (setLoom x d).parityBad = d.parityBad := rfl
@[simp] theorem setLoom_mbox (x : Loom) (d : Dev) : (setLoom x d).mbox = d.mbox := rfl
@[simp] theorem setLoom_waiting (x : Loom) (d : Dev) : (setLoom x d).waiting = d.waiting := rfl
@[simp] theorem setLoom_snaps (x : Loom) (d : Dev) : (setLoom x d).snaps = d.snaps := rfl
@[simp] theorem setLoom_lastCtr (x : Loom) (d : Dev) : (setLoom x d).lastCtr = d.lastCtr := rfl
@[simp] theorem setLoom_authSeen (x : Loom) (d : Dev) : (setLoom x d).authSeen = d.authSeen := rfl
@[simp] theorem setLoom_tbs (x : Loom) (d : Dev) : (setLoom x d).tbs = d.tbs := rfl
@[simp] theorem setLoom_tenants (x : Loom) (d : Dev) : (setLoom x d).tenants = d.tenants := rfl
@[simp] theorem setLoom_rrLast (x : Loom) (d : Dev) : (setLoom x d).rrLast = d.rrLast := rfl
@[simp] theorem setLoom_sec (x : Loom) (d : Dev) : (setLoom x d).sec = d.sec := rfl
@[simp] theorem setLoom_pair (x : Loom) (d : Dev) : (setLoom x d).pair = d.pair := rfl
@[simp] theorem setLoom_sess (x : Loom) (d : Dev) : (setLoom x d).sess = d.sess := rfl
@[simp] theorem setLoom_dsr (x : Loom) (d : Dev) : (setLoom x d).dsr = d.dsr := rfl
@[simp] theorem setLoom_chans (x : Loom) (d : Dev) : (setLoom x d).chans = d.chans := rfl
@[simp] theorem setLoom_wrd (x : Loom) (d : Dev) : (setLoom x d).wrd = d.wrd := rfl
@[simp] theorem setLoom_mem (x : Loom) (d : Dev) : (setLoom x d).mem = d.mem := rfl
@[simp] theorem setLoom_streams (x : Loom) (d : Dev) : (setLoom x d).streams = d.streams := rfl
@[simp] theorem setLoom_tiles (x : Loom) (d : Dev) : (setLoom x d).tiles = d.tiles := rfl
@[simp] theorem setLoom_hold (x : Loom) (d : Dev) : (setLoom x d).hold = d.hold := rfl
@[simp] theorem setLoom_linPrm (x : Loom) (d : Dev) : (setLoom x d).linPrm = d.linPrm := rfl
@[simp] theorem setLoom_ladder (x : Loom) (d : Dev) : (setLoom x d).ladder = d.ladder := rfl
@[simp] theorem setLoom_pke (x : Loom) (d : Dev) : (setLoom x d).pke = d.pke := rfl
@[simp] theorem setLoom_lib (x : Loom) (d : Dev) : (setLoom x d).lib = d.lib := rfl
@[simp] theorem setLoom_linings (x : Loom) (d : Dev) : (setLoom x d).linings = d.linings := rfl
@[simp] theorem setLoom_pwr (x : Loom) (d : Dev) : (setLoom x d).pwr = d.pwr := rfl

/-! ## setPort -/
@[simp] theorem setPort_regs (p : Nat) (x : Port) (d : Dev) : (setPort p x d).regs = d.regs := rfl
@[simp] theorem setPort_stage (p : Nat) (x : Port) (d : Dev) : (setPort p x d).stage = d.stage := rfl
@[simp] theorem setPort_objs (p : Nat) (x : Port) (d : Dev) : (setPort p x d).objs = d.objs := rfl
@[simp] theorem setPort_heldStitch (p : Nat) (x : Port) (d : Dev) : (setPort p x d).heldStitch = d.heldStitch := rfl
@[simp] theorem setPort_emitted (p : Nat) (x : Port) (d : Dev) : (setPort p x d).emitted = d.emitted := rfl
@[simp] theorem setPort_freeCtr (p : Nat) (x : Port) (d : Dev) : (setPort p x d).freeCtr = d.freeCtr := rfl
@[simp] theorem setPort_rngCtr (p : Nat) (x : Port) (d : Dev) : (setPort p x d).rngCtr = d.rngCtr := rfl
@[simp] theorem setPort_flt (p : Nat) (x : Port) (d : Dev) : (setPort p x d).flt = d.flt := rfl
@[simp] theorem setPort_irq (p : Nat) (x : Port) (d : Dev) : (setPort p x d).irq = d.irq := rfl
@[simp] theorem setPort_msix (p : Nat) (x : Port) (d : Dev) : (setPort p x d).msix = d.msix := rfl
@[simp] theorem setPort_fnMask (p : Nat) (x : Port) (d : Dev) : (setPort p x d).fnMask = d.fnMask := rfl
@[simp] theorem setPort_rings (p : Nat) (x : Port) (d : Dev) : (setPort p x d).rings = d.rings := rfl
@[simp] theorem setPort_fnq (p : Nat) (x : Port) (d : Dev) : (setPort p x d).fnq = d.fnq := rfl
@[simp] theorem setPort_dmaCh (p : Nat) (x : Port) (d : Dev) : (setPort p x d).dmaCh = d.dmaCh := rfl
@[simp] theorem setPort_recvBufs (p : Nat) (x : Port) (d : Dev) : (setPort p x d).recvBufs = d.recvBufs := rfl
@[simp] theorem setPort_links (p : Nat) (x : Port) (d : Dev) : (setPort p x d).links = d.links := rfl
@[simp] theorem setPort_parityBad (p : Nat) (x : Port) (d : Dev) : (setPort p x d).parityBad = d.parityBad := rfl
@[simp] theorem setPort_mbox (p : Nat) (x : Port) (d : Dev) : (setPort p x d).mbox = d.mbox := rfl
@[simp] theorem setPort_waiting (p : Nat) (x : Port) (d : Dev) : (setPort p x d).waiting = d.waiting := rfl
@[simp] theorem setPort_snaps (p : Nat) (x : Port) (d : Dev) : (setPort p x d).snaps = d.snaps := rfl
@[simp] theorem setPort_lastCtr (p : Nat) (x : Port) (d : Dev) : (setPort p x d).lastCtr = d.lastCtr := rfl
@[simp] theorem setPort_authSeen (p : Nat) (x : Port) (d : Dev) : (setPort p x d).authSeen = d.authSeen := rfl
@[simp] theorem setPort_tbs (p : Nat) (x : Port) (d : Dev) : (setPort p x d).tbs = d.tbs := rfl
@[simp] theorem setPort_tenants (p : Nat) (x : Port) (d : Dev) : (setPort p x d).tenants = d.tenants := rfl
@[simp] theorem setPort_rrLast (p : Nat) (x : Port) (d : Dev) : (setPort p x d).rrLast = d.rrLast := rfl
@[simp] theorem setPort_sec (p : Nat) (x : Port) (d : Dev) : (setPort p x d).sec = d.sec := rfl
@[simp] theorem setPort_pair (p : Nat) (x : Port) (d : Dev) : (setPort p x d).pair = d.pair := rfl
@[simp] theorem setPort_sess (p : Nat) (x : Port) (d : Dev) : (setPort p x d).sess = d.sess := rfl
@[simp] theorem setPort_dsr (p : Nat) (x : Port) (d : Dev) : (setPort p x d).dsr = d.dsr := rfl
@[simp] theorem setPort_chans (p : Nat) (x : Port) (d : Dev) : (setPort p x d).chans = d.chans := rfl
@[simp] theorem setPort_wrd (p : Nat) (x : Port) (d : Dev) : (setPort p x d).wrd = d.wrd := rfl
@[simp] theorem setPort_mem (p : Nat) (x : Port) (d : Dev) : (setPort p x d).mem = d.mem := rfl
@[simp] theorem setPort_streams (p : Nat) (x : Port) (d : Dev) : (setPort p x d).streams = d.streams := rfl
@[simp] theorem setPort_tiles (p : Nat) (x : Port) (d : Dev) : (setPort p x d).tiles = d.tiles := rfl
@[simp] theorem setPort_loom (p : Nat) (x : Port) (d : Dev) : (setPort p x d).loom = d.loom := rfl
@[simp] theorem setPort_hold (p : Nat) (x : Port) (d : Dev) : (setPort p x d).hold = d.hold := rfl
@[simp] theorem setPort_linPrm (p : Nat) (x : Port) (d : Dev) : (setPort p x d).linPrm = d.linPrm := rfl
@[simp] theorem setPort_ladder (p : Nat) (x : Port) (d : Dev) : (setPort p x d).ladder = d.ladder := rfl
@[simp] theorem setPort_lib (p : Nat) (x : Port) (d : Dev) : (setPort p x d).lib = d.lib := rfl
@[simp] theorem setPort_linings (p : Nat) (x : Port) (d : Dev) : (setPort p x d).linings = d.linings := rfl
@[simp] theorem setPort_pwr (p : Nat) (x : Port) (d : Dev) : (setPort p x d).pwr = d.pwr := rfl

/-! ## setPipe -/
@[simp] theorem setPipe_regs (i : Nat) (x : Pipe) (d : Dev) : (setPipe i x d).regs = d.regs := rfl
@[simp] theorem setPipe_stage (i : Nat) (x : Pipe) (d : Dev) : (setPipe i x d).stage = d.stage := rfl
@[simp] theorem setPipe_objs (i : Nat) (x : Pipe) (d : Dev) : (setPipe i x d).objs = d.objs := rfl
@[simp] theorem setPipe_heldStitch (i : Nat) (x : Pipe) (d : Dev) : (setPipe i x d).heldStitch = d.heldStitch := rfl
@[simp] theorem setPipe_emitted (i : Nat) (x : Pipe) (d : Dev) : (setPipe i x d).emitted = d.emitted := rfl
@[simp] theorem setPipe_freeCtr (i : Nat) (x : Pipe) (d : Dev) : (setPipe i x d).freeCtr = d.freeCtr := rfl
@[simp] theorem setPipe_rngCtr (i : Nat) (x : Pipe) (d : Dev) : (setPipe i x d).rngCtr = d.rngCtr := rfl
@[simp] theorem setPipe_flt (i : Nat) (x : Pipe) (d : Dev) : (setPipe i x d).flt = d.flt := rfl
@[simp] theorem setPipe_irq (i : Nat) (x : Pipe) (d : Dev) : (setPipe i x d).irq = d.irq := rfl
@[simp] theorem setPipe_msix (i : Nat) (x : Pipe) (d : Dev) : (setPipe i x d).msix = d.msix := rfl
@[simp] theorem setPipe_fnMask (i : Nat) (x : Pipe) (d : Dev) : (setPipe i x d).fnMask = d.fnMask := rfl
@[simp] theorem setPipe_rings (i : Nat) (x : Pipe) (d : Dev) : (setPipe i x d).rings = d.rings := rfl
@[simp] theorem setPipe_fnq (i : Nat) (x : Pipe) (d : Dev) : (setPipe i x d).fnq = d.fnq := rfl
@[simp] theorem setPipe_dmaCh (i : Nat) (x : Pipe) (d : Dev) : (setPipe i x d).dmaCh = d.dmaCh := rfl
@[simp] theorem setPipe_recvBufs (i : Nat) (x : Pipe) (d : Dev) : (setPipe i x d).recvBufs = d.recvBufs := rfl
@[simp] theorem setPipe_links (i : Nat) (x : Pipe) (d : Dev) : (setPipe i x d).links = d.links := rfl
@[simp] theorem setPipe_parityBad (i : Nat) (x : Pipe) (d : Dev) : (setPipe i x d).parityBad = d.parityBad := rfl
@[simp] theorem setPipe_mbox (i : Nat) (x : Pipe) (d : Dev) : (setPipe i x d).mbox = d.mbox := rfl
@[simp] theorem setPipe_waiting (i : Nat) (x : Pipe) (d : Dev) : (setPipe i x d).waiting = d.waiting := rfl
@[simp] theorem setPipe_snaps (i : Nat) (x : Pipe) (d : Dev) : (setPipe i x d).snaps = d.snaps := rfl
@[simp] theorem setPipe_lastCtr (i : Nat) (x : Pipe) (d : Dev) : (setPipe i x d).lastCtr = d.lastCtr := rfl
@[simp] theorem setPipe_authSeen (i : Nat) (x : Pipe) (d : Dev) : (setPipe i x d).authSeen = d.authSeen := rfl
@[simp] theorem setPipe_tbs (i : Nat) (x : Pipe) (d : Dev) : (setPipe i x d).tbs = d.tbs := rfl
@[simp] theorem setPipe_tenants (i : Nat) (x : Pipe) (d : Dev) : (setPipe i x d).tenants = d.tenants := rfl
@[simp] theorem setPipe_rrLast (i : Nat) (x : Pipe) (d : Dev) : (setPipe i x d).rrLast = d.rrLast := rfl
@[simp] theorem setPipe_sec (i : Nat) (x : Pipe) (d : Dev) : (setPipe i x d).sec = d.sec := rfl
@[simp] theorem setPipe_pair (i : Nat) (x : Pipe) (d : Dev) : (setPipe i x d).pair = d.pair := rfl
@[simp] theorem setPipe_sess (i : Nat) (x : Pipe) (d : Dev) : (setPipe i x d).sess = d.sess := rfl
@[simp] theorem setPipe_dsr (i : Nat) (x : Pipe) (d : Dev) : (setPipe i x d).dsr = d.dsr := rfl
@[simp] theorem setPipe_chans (i : Nat) (x : Pipe) (d : Dev) : (setPipe i x d).chans = d.chans := rfl
@[simp] theorem setPipe_wrd (i : Nat) (x : Pipe) (d : Dev) : (setPipe i x d).wrd = d.wrd := rfl
@[simp] theorem setPipe_mem (i : Nat) (x : Pipe) (d : Dev) : (setPipe i x d).mem = d.mem := rfl
@[simp] theorem setPipe_streams (i : Nat) (x : Pipe) (d : Dev) : (setPipe i x d).streams = d.streams := rfl
@[simp] theorem setPipe_tiles (i : Nat) (x : Pipe) (d : Dev) : (setPipe i x d).tiles = d.tiles := rfl
@[simp] theorem setPipe_loom (i : Nat) (x : Pipe) (d : Dev) : (setPipe i x d).loom = d.loom := rfl
@[simp] theorem setPipe_hold (i : Nat) (x : Pipe) (d : Dev) : (setPipe i x d).hold = d.hold := rfl
@[simp] theorem setPipe_linPrm (i : Nat) (x : Pipe) (d : Dev) : (setPipe i x d).linPrm = d.linPrm := rfl
@[simp] theorem setPipe_ladder (i : Nat) (x : Pipe) (d : Dev) : (setPipe i x d).ladder = d.ladder := rfl
@[simp] theorem setPipe_lib (i : Nat) (x : Pipe) (d : Dev) : (setPipe i x d).lib = d.lib := rfl
@[simp] theorem setPipe_linings (i : Nat) (x : Pipe) (d : Dev) : (setPipe i x d).linings = d.linings := rfl
@[simp] theorem setPipe_pwr (i : Nat) (x : Pipe) (d : Dev) : (setPipe i x d).pwr = d.pwr := rfl

/-! ## setLinPrm -/
@[simp] theorem setLinPrm_regs (l : Nat) (idx : Nat) (v : Nat) (d : Dev) : (setLinPrm l idx v d).regs = d.regs := rfl
@[simp] theorem setLinPrm_stage (l : Nat) (idx : Nat) (v : Nat) (d : Dev) : (setLinPrm l idx v d).stage = d.stage := rfl
@[simp] theorem setLinPrm_objs (l : Nat) (idx : Nat) (v : Nat) (d : Dev) : (setLinPrm l idx v d).objs = d.objs := rfl
@[simp] theorem setLinPrm_heldStitch (l : Nat) (idx : Nat) (v : Nat) (d : Dev) : (setLinPrm l idx v d).heldStitch = d.heldStitch := rfl
@[simp] theorem setLinPrm_emitted (l : Nat) (idx : Nat) (v : Nat) (d : Dev) : (setLinPrm l idx v d).emitted = d.emitted := rfl
@[simp] theorem setLinPrm_freeCtr (l : Nat) (idx : Nat) (v : Nat) (d : Dev) : (setLinPrm l idx v d).freeCtr = d.freeCtr := rfl
@[simp] theorem setLinPrm_rngCtr (l : Nat) (idx : Nat) (v : Nat) (d : Dev) : (setLinPrm l idx v d).rngCtr = d.rngCtr := rfl
@[simp] theorem setLinPrm_flt (l : Nat) (idx : Nat) (v : Nat) (d : Dev) : (setLinPrm l idx v d).flt = d.flt := rfl
@[simp] theorem setLinPrm_irq (l : Nat) (idx : Nat) (v : Nat) (d : Dev) : (setLinPrm l idx v d).irq = d.irq := rfl
@[simp] theorem setLinPrm_msix (l : Nat) (idx : Nat) (v : Nat) (d : Dev) : (setLinPrm l idx v d).msix = d.msix := rfl
@[simp] theorem setLinPrm_fnMask (l : Nat) (idx : Nat) (v : Nat) (d : Dev) : (setLinPrm l idx v d).fnMask = d.fnMask := rfl
@[simp] theorem setLinPrm_rings (l : Nat) (idx : Nat) (v : Nat) (d : Dev) : (setLinPrm l idx v d).rings = d.rings := rfl
@[simp] theorem setLinPrm_fnq (l : Nat) (idx : Nat) (v : Nat) (d : Dev) : (setLinPrm l idx v d).fnq = d.fnq := rfl
@[simp] theorem setLinPrm_dmaCh (l : Nat) (idx : Nat) (v : Nat) (d : Dev) : (setLinPrm l idx v d).dmaCh = d.dmaCh := rfl
@[simp] theorem setLinPrm_recvBufs (l : Nat) (idx : Nat) (v : Nat) (d : Dev) : (setLinPrm l idx v d).recvBufs = d.recvBufs := rfl
@[simp] theorem setLinPrm_links (l : Nat) (idx : Nat) (v : Nat) (d : Dev) : (setLinPrm l idx v d).links = d.links := rfl
@[simp] theorem setLinPrm_parityBad (l : Nat) (idx : Nat) (v : Nat) (d : Dev) : (setLinPrm l idx v d).parityBad = d.parityBad := rfl
@[simp] theorem setLinPrm_mbox (l : Nat) (idx : Nat) (v : Nat) (d : Dev) : (setLinPrm l idx v d).mbox = d.mbox := rfl
@[simp] theorem setLinPrm_waiting (l : Nat) (idx : Nat) (v : Nat) (d : Dev) : (setLinPrm l idx v d).waiting = d.waiting := rfl
@[simp] theorem setLinPrm_snaps (l : Nat) (idx : Nat) (v : Nat) (d : Dev) : (setLinPrm l idx v d).snaps = d.snaps := rfl
@[simp] theorem setLinPrm_lastCtr (l : Nat) (idx : Nat) (v : Nat) (d : Dev) : (setLinPrm l idx v d).lastCtr = d.lastCtr := rfl
@[simp] theorem setLinPrm_authSeen (l : Nat) (idx : Nat) (v : Nat) (d : Dev) : (setLinPrm l idx v d).authSeen = d.authSeen := rfl
@[simp] theorem setLinPrm_tbs (l : Nat) (idx : Nat) (v : Nat) (d : Dev) : (setLinPrm l idx v d).tbs = d.tbs := rfl
@[simp] theorem setLinPrm_tenants (l : Nat) (idx : Nat) (v : Nat) (d : Dev) : (setLinPrm l idx v d).tenants = d.tenants := rfl
@[simp] theorem setLinPrm_rrLast (l : Nat) (idx : Nat) (v : Nat) (d : Dev) : (setLinPrm l idx v d).rrLast = d.rrLast := rfl
@[simp] theorem setLinPrm_sec (l : Nat) (idx : Nat) (v : Nat) (d : Dev) : (setLinPrm l idx v d).sec = d.sec := rfl
@[simp] theorem setLinPrm_pair (l : Nat) (idx : Nat) (v : Nat) (d : Dev) : (setLinPrm l idx v d).pair = d.pair := rfl
@[simp] theorem setLinPrm_sess (l : Nat) (idx : Nat) (v : Nat) (d : Dev) : (setLinPrm l idx v d).sess = d.sess := rfl
@[simp] theorem setLinPrm_dsr (l : Nat) (idx : Nat) (v : Nat) (d : Dev) : (setLinPrm l idx v d).dsr = d.dsr := rfl
@[simp] theorem setLinPrm_chans (l : Nat) (idx : Nat) (v : Nat) (d : Dev) : (setLinPrm l idx v d).chans = d.chans := rfl
@[simp] theorem setLinPrm_wrd (l : Nat) (idx : Nat) (v : Nat) (d : Dev) : (setLinPrm l idx v d).wrd = d.wrd := rfl
@[simp] theorem setLinPrm_mem (l : Nat) (idx : Nat) (v : Nat) (d : Dev) : (setLinPrm l idx v d).mem = d.mem := rfl
@[simp] theorem setLinPrm_streams (l : Nat) (idx : Nat) (v : Nat) (d : Dev) : (setLinPrm l idx v d).streams = d.streams := rfl
@[simp] theorem setLinPrm_tiles (l : Nat) (idx : Nat) (v : Nat) (d : Dev) : (setLinPrm l idx v d).tiles = d.tiles := rfl
@[simp] theorem setLinPrm_loom (l : Nat) (idx : Nat) (v : Nat) (d : Dev) : (setLinPrm l idx v d).loom = d.loom := rfl
@[simp] theorem setLinPrm_hold (l : Nat) (idx : Nat) (v : Nat) (d : Dev) : (setLinPrm l idx v d).hold = d.hold := rfl
@[simp] theorem setLinPrm_ladder (l : Nat) (idx : Nat) (v : Nat) (d : Dev) : (setLinPrm l idx v d).ladder = d.ladder := rfl
@[simp] theorem setLinPrm_pke (l : Nat) (idx : Nat) (v : Nat) (d : Dev) : (setLinPrm l idx v d).pke = d.pke := rfl
@[simp] theorem setLinPrm_lib (l : Nat) (idx : Nat) (v : Nat) (d : Dev) : (setLinPrm l idx v d).lib = d.lib := rfl
@[simp] theorem setLinPrm_linings (l : Nat) (idx : Nat) (v : Nat) (d : Dev) : (setLinPrm l idx v d).linings = d.linings := rfl
@[simp] theorem setLinPrm_pwr (l : Nat) (idx : Nat) (v : Nat) (d : Dev) : (setLinPrm l idx v d).pwr = d.pwr := rfl

/-! ## emit -/
@[simp] theorem emit_regs (o : Output) (d : Dev) : (emit o d).regs = d.regs := rfl
@[simp] theorem emit_stage (o : Output) (d : Dev) : (emit o d).stage = d.stage := rfl
@[simp] theorem emit_objs (o : Output) (d : Dev) : (emit o d).objs = d.objs := rfl
@[simp] theorem emit_heldStitch (o : Output) (d : Dev) : (emit o d).heldStitch = d.heldStitch := rfl
@[simp] theorem emit_freeCtr (o : Output) (d : Dev) : (emit o d).freeCtr = d.freeCtr := rfl
@[simp] theorem emit_rngCtr (o : Output) (d : Dev) : (emit o d).rngCtr = d.rngCtr := rfl
@[simp] theorem emit_flt (o : Output) (d : Dev) : (emit o d).flt = d.flt := rfl
@[simp] theorem emit_irq (o : Output) (d : Dev) : (emit o d).irq = d.irq := rfl
@[simp] theorem emit_msix (o : Output) (d : Dev) : (emit o d).msix = d.msix := rfl
@[simp] theorem emit_fnMask (o : Output) (d : Dev) : (emit o d).fnMask = d.fnMask := rfl
@[simp] theorem emit_rings (o : Output) (d : Dev) : (emit o d).rings = d.rings := rfl
@[simp] theorem emit_fnq (o : Output) (d : Dev) : (emit o d).fnq = d.fnq := rfl
@[simp] theorem emit_dmaCh (o : Output) (d : Dev) : (emit o d).dmaCh = d.dmaCh := rfl
@[simp] theorem emit_recvBufs (o : Output) (d : Dev) : (emit o d).recvBufs = d.recvBufs := rfl
@[simp] theorem emit_links (o : Output) (d : Dev) : (emit o d).links = d.links := rfl
@[simp] theorem emit_parityBad (o : Output) (d : Dev) : (emit o d).parityBad = d.parityBad := rfl
@[simp] theorem emit_mbox (o : Output) (d : Dev) : (emit o d).mbox = d.mbox := rfl
@[simp] theorem emit_waiting (o : Output) (d : Dev) : (emit o d).waiting = d.waiting := rfl
@[simp] theorem emit_snaps (o : Output) (d : Dev) : (emit o d).snaps = d.snaps := rfl
@[simp] theorem emit_lastCtr (o : Output) (d : Dev) : (emit o d).lastCtr = d.lastCtr := rfl
@[simp] theorem emit_authSeen (o : Output) (d : Dev) : (emit o d).authSeen = d.authSeen := rfl
@[simp] theorem emit_tbs (o : Output) (d : Dev) : (emit o d).tbs = d.tbs := rfl
@[simp] theorem emit_tenants (o : Output) (d : Dev) : (emit o d).tenants = d.tenants := rfl
@[simp] theorem emit_rrLast (o : Output) (d : Dev) : (emit o d).rrLast = d.rrLast := rfl
@[simp] theorem emit_sec (o : Output) (d : Dev) : (emit o d).sec = d.sec := rfl
@[simp] theorem emit_pair (o : Output) (d : Dev) : (emit o d).pair = d.pair := rfl
@[simp] theorem emit_sess (o : Output) (d : Dev) : (emit o d).sess = d.sess := rfl
@[simp] theorem emit_dsr (o : Output) (d : Dev) : (emit o d).dsr = d.dsr := rfl
@[simp] theorem emit_chans (o : Output) (d : Dev) : (emit o d).chans = d.chans := rfl
@[simp] theorem emit_wrd (o : Output) (d : Dev) : (emit o d).wrd = d.wrd := rfl
@[simp] theorem emit_mem (o : Output) (d : Dev) : (emit o d).mem = d.mem := rfl
@[simp] theorem emit_streams (o : Output) (d : Dev) : (emit o d).streams = d.streams := rfl
@[simp] theorem emit_tiles (o : Output) (d : Dev) : (emit o d).tiles = d.tiles := rfl
@[simp] theorem emit_loom (o : Output) (d : Dev) : (emit o d).loom = d.loom := rfl
@[simp] theorem emit_hold (o : Output) (d : Dev) : (emit o d).hold = d.hold := rfl
@[simp] theorem emit_linPrm (o : Output) (d : Dev) : (emit o d).linPrm = d.linPrm := rfl
@[simp] theorem emit_ladder (o : Output) (d : Dev) : (emit o d).ladder = d.ladder := rfl
@[simp] theorem emit_pke (o : Output) (d : Dev) : (emit o d).pke = d.pke := rfl
@[simp] theorem emit_lib (o : Output) (d : Dev) : (emit o d).lib = d.lib := rfl
@[simp] theorem emit_linings (o : Output) (d : Dev) : (emit o d).linings = d.linings := rfl
@[simp] theorem emit_pwr (o : Output) (d : Dev) : (emit o d).pwr = d.pwr := rfl

/-! ## freeNext -/
@[simp] theorem freeNext_regs (d : Dev) : (freeNext d).regs = d.regs := rfl
@[simp] theorem freeNext_stage (d : Dev) : (freeNext d).stage = d.stage := rfl
@[simp] theorem freeNext_objs (d : Dev) : (freeNext d).objs = d.objs := rfl
@[simp] theorem freeNext_heldStitch (d : Dev) : (freeNext d).heldStitch = d.heldStitch := rfl
@[simp] theorem freeNext_emitted (d : Dev) : (freeNext d).emitted = d.emitted := rfl
@[simp] theorem freeNext_rngCtr (d : Dev) : (freeNext d).rngCtr = d.rngCtr := rfl
@[simp] theorem freeNext_flt (d : Dev) : (freeNext d).flt = d.flt := rfl
@[simp] theorem freeNext_irq (d : Dev) : (freeNext d).irq = d.irq := rfl
@[simp] theorem freeNext_msix (d : Dev) : (freeNext d).msix = d.msix := rfl
@[simp] theorem freeNext_fnMask (d : Dev) : (freeNext d).fnMask = d.fnMask := rfl
@[simp] theorem freeNext_rings (d : Dev) : (freeNext d).rings = d.rings := rfl
@[simp] theorem freeNext_fnq (d : Dev) : (freeNext d).fnq = d.fnq := rfl
@[simp] theorem freeNext_dmaCh (d : Dev) : (freeNext d).dmaCh = d.dmaCh := rfl
@[simp] theorem freeNext_recvBufs (d : Dev) : (freeNext d).recvBufs = d.recvBufs := rfl
@[simp] theorem freeNext_links (d : Dev) : (freeNext d).links = d.links := rfl
@[simp] theorem freeNext_parityBad (d : Dev) : (freeNext d).parityBad = d.parityBad := rfl
@[simp] theorem freeNext_mbox (d : Dev) : (freeNext d).mbox = d.mbox := rfl
@[simp] theorem freeNext_waiting (d : Dev) : (freeNext d).waiting = d.waiting := rfl
@[simp] theorem freeNext_snaps (d : Dev) : (freeNext d).snaps = d.snaps := rfl
@[simp] theorem freeNext_lastCtr (d : Dev) : (freeNext d).lastCtr = d.lastCtr := rfl
@[simp] theorem freeNext_authSeen (d : Dev) : (freeNext d).authSeen = d.authSeen := rfl
@[simp] theorem freeNext_tbs (d : Dev) : (freeNext d).tbs = d.tbs := rfl
@[simp] theorem freeNext_tenants (d : Dev) : (freeNext d).tenants = d.tenants := rfl
@[simp] theorem freeNext_rrLast (d : Dev) : (freeNext d).rrLast = d.rrLast := rfl
@[simp] theorem freeNext_sec (d : Dev) : (freeNext d).sec = d.sec := rfl
@[simp] theorem freeNext_pair (d : Dev) : (freeNext d).pair = d.pair := rfl
@[simp] theorem freeNext_sess (d : Dev) : (freeNext d).sess = d.sess := rfl
@[simp] theorem freeNext_dsr (d : Dev) : (freeNext d).dsr = d.dsr := rfl
@[simp] theorem freeNext_chans (d : Dev) : (freeNext d).chans = d.chans := rfl
@[simp] theorem freeNext_wrd (d : Dev) : (freeNext d).wrd = d.wrd := rfl
@[simp] theorem freeNext_mem (d : Dev) : (freeNext d).mem = d.mem := rfl
@[simp] theorem freeNext_streams (d : Dev) : (freeNext d).streams = d.streams := rfl
@[simp] theorem freeNext_tiles (d : Dev) : (freeNext d).tiles = d.tiles := rfl
@[simp] theorem freeNext_loom (d : Dev) : (freeNext d).loom = d.loom := rfl
@[simp] theorem freeNext_hold (d : Dev) : (freeNext d).hold = d.hold := rfl
@[simp] theorem freeNext_linPrm (d : Dev) : (freeNext d).linPrm = d.linPrm := rfl
@[simp] theorem freeNext_ladder (d : Dev) : (freeNext d).ladder = d.ladder := rfl
@[simp] theorem freeNext_pke (d : Dev) : (freeNext d).pke = d.pke := rfl
@[simp] theorem freeNext_lib (d : Dev) : (freeNext d).lib = d.lib := rfl
@[simp] theorem freeNext_linings (d : Dev) : (freeNext d).linings = d.linings := rfl
@[simp] theorem freeNext_pwr (d : Dev) : (freeNext d).pwr = d.pwr := rfl

/-! ## rngNext -/
@[simp] theorem rngNext_regs (d : Dev) : (rngNext d).regs = d.regs := rfl
@[simp] theorem rngNext_stage (d : Dev) : (rngNext d).stage = d.stage := rfl
@[simp] theorem rngNext_objs (d : Dev) : (rngNext d).objs = d.objs := rfl
@[simp] theorem rngNext_heldStitch (d : Dev) : (rngNext d).heldStitch = d.heldStitch := rfl
@[simp] theorem rngNext_emitted (d : Dev) : (rngNext d).emitted = d.emitted := rfl
@[simp] theorem rngNext_freeCtr (d : Dev) : (rngNext d).freeCtr = d.freeCtr := rfl
@[simp] theorem rngNext_flt (d : Dev) : (rngNext d).flt = d.flt := rfl
@[simp] theorem rngNext_irq (d : Dev) : (rngNext d).irq = d.irq := rfl
@[simp] theorem rngNext_msix (d : Dev) : (rngNext d).msix = d.msix := rfl
@[simp] theorem rngNext_fnMask (d : Dev) : (rngNext d).fnMask = d.fnMask := rfl
@[simp] theorem rngNext_rings (d : Dev) : (rngNext d).rings = d.rings := rfl
@[simp] theorem rngNext_fnq (d : Dev) : (rngNext d).fnq = d.fnq := rfl
@[simp] theorem rngNext_dmaCh (d : Dev) : (rngNext d).dmaCh = d.dmaCh := rfl
@[simp] theorem rngNext_recvBufs (d : Dev) : (rngNext d).recvBufs = d.recvBufs := rfl
@[simp] theorem rngNext_links (d : Dev) : (rngNext d).links = d.links := rfl
@[simp] theorem rngNext_parityBad (d : Dev) : (rngNext d).parityBad = d.parityBad := rfl
@[simp] theorem rngNext_mbox (d : Dev) : (rngNext d).mbox = d.mbox := rfl
@[simp] theorem rngNext_waiting (d : Dev) : (rngNext d).waiting = d.waiting := rfl
@[simp] theorem rngNext_snaps (d : Dev) : (rngNext d).snaps = d.snaps := rfl
@[simp] theorem rngNext_lastCtr (d : Dev) : (rngNext d).lastCtr = d.lastCtr := rfl
@[simp] theorem rngNext_authSeen (d : Dev) : (rngNext d).authSeen = d.authSeen := rfl
@[simp] theorem rngNext_tbs (d : Dev) : (rngNext d).tbs = d.tbs := rfl
@[simp] theorem rngNext_tenants (d : Dev) : (rngNext d).tenants = d.tenants := rfl
@[simp] theorem rngNext_rrLast (d : Dev) : (rngNext d).rrLast = d.rrLast := rfl
@[simp] theorem rngNext_sec (d : Dev) : (rngNext d).sec = d.sec := rfl
@[simp] theorem rngNext_pair (d : Dev) : (rngNext d).pair = d.pair := rfl
@[simp] theorem rngNext_sess (d : Dev) : (rngNext d).sess = d.sess := rfl
@[simp] theorem rngNext_dsr (d : Dev) : (rngNext d).dsr = d.dsr := rfl
@[simp] theorem rngNext_chans (d : Dev) : (rngNext d).chans = d.chans := rfl
@[simp] theorem rngNext_wrd (d : Dev) : (rngNext d).wrd = d.wrd := rfl
@[simp] theorem rngNext_mem (d : Dev) : (rngNext d).mem = d.mem := rfl
@[simp] theorem rngNext_streams (d : Dev) : (rngNext d).streams = d.streams := rfl
@[simp] theorem rngNext_tiles (d : Dev) : (rngNext d).tiles = d.tiles := rfl
@[simp] theorem rngNext_loom (d : Dev) : (rngNext d).loom = d.loom := rfl
@[simp] theorem rngNext_hold (d : Dev) : (rngNext d).hold = d.hold := rfl
@[simp] theorem rngNext_linPrm (d : Dev) : (rngNext d).linPrm = d.linPrm := rfl
@[simp] theorem rngNext_ladder (d : Dev) : (rngNext d).ladder = d.ladder := rfl
@[simp] theorem rngNext_pke (d : Dev) : (rngNext d).pke = d.pke := rfl
@[simp] theorem rngNext_lib (d : Dev) : (rngNext d).lib = d.lib := rfl
@[simp] theorem rngNext_linings (d : Dev) : (rngNext d).linings = d.linings := rfl
@[simp] theorem rngNext_pwr (d : Dev) : (rngNext d).pwr = d.pwr := rfl

end Sys2Proof.Machine
end

