-- ==== Sys2Proof/Laws/Answers.lean ====
section
/-! SUPPORT. How a command is seen to be carried out, and what the shared operations leave as it was. -/
set_option Elab.async false
set_option autoImplicit false
namespace Sys2Proof.Machine

/-! ## Sparse tables -/

theorem tabFind_set {α : Type} (k j : Nat) (v : α) : ∀ t : Tab α,
    tabFind (tabSet t k v) j = if j = k then some v else tabFind t j
  | [] => by
    simp only [tabSet, tabFind]
    repeat' split
    all_goals first | rfl | omega
  | (i, w) :: t => by
    unfold tabSet
    split
    · subst_vars
      simp only [tabFind]
      repeat' split
      all_goals first | rfl | omega
    · split
      · simp only [tabFind]
        repeat' split
        all_goals first | rfl | omega
      · simp only [tabFind, tabFind_set k j v t]
        repeat' split
        all_goals first | rfl | omega

theorem tabFind_below {α : Type} (k : Nat) : ∀ t : Tab α, (∀ e ∈ t, k < e.1) → tabFind t k = none
  | [], _ => rfl
  | (i, w) :: t, h => by
    have := h (i, w) (by simp)
    simp only [tabFind]
    split
    · omega
    · rfl

theorem tabFind_erase {α : Type} (k j : Nat) : ∀ t : Tab α, Rising t →
    tabFind (tabErase t k) j = if j = k then none else tabFind t j
  | [], _ => by simp [tabErase, tabFind]
  | (i, w) :: t, h => by
    have h1 := List.pairwise_cons.1 h
    unfold tabErase
    split
    · subst_vars
      by_cases hj : j = i
      · subst hj; simp [tabFind_below j t (fun e he => h1.1 e he)]
      · simp only [hj, if_false, tabFind]
        split
        · omega
        · split
          · exact tabFind_below j t (fun e he => by have := h1.1 e he; simp only at this; omega)
          · rfl
    · split
      · simp only [tabFind]
        repeat' split
        all_goals first | rfl | omega
      · simp only [tabFind, tabFind_erase k j t h1.2]
        repeat' split
        all_goals first | rfl | omega

theorem tabGet_set {α : Type} (x : α) (t : Tab α) (k j : Nat) (v : α) :
    tabGet x (tabSet t k v) j = if j = k then v else tabGet x t j := by
  simp only [tabGet, tabFind_set]; split <;> rfl

theorem tabGet_put {α : Type} [DecidableEq α] (x : α) (t : Tab α) (ht : Rising t) (k j : Nat) (v : α) :
    tabGet x (tabPut x t k v) j = if j = k then v else tabGet x t j := by
  unfold tabPut
  split
  · subst_vars; simp only [tabGet, tabFind_erase _ _ _ ht]; split <;> rfl
  · rw [tabGet_set]

/-- A value that is not the default is found where it was put, whatever the table. -/
theorem tabGet_put_of {α : Type} [DecidableEq α] (x : α) (t : Tab α) (k : Nat) (v : α) (hv : v ≠ x) :
    tabGet x (tabPut x t k v) k = v := by
  unfold tabPut; rw [if_neg hv, tabGet_set, if_pos rfl]

theorem objGet_set (d : Dev) (ho : Rising d.objs) (i s v j u : Nat) :
    objGet (objSet i s v d) j u = if objKey j u = objKey i s then (if v = objDefault i s then objDefault j u else v)
      else objGet d j u := by
  unfold objSet objGet
  split
  · simp only [tabFind_erase _ _ _ ho]; split <;> simp_all
  · simp only [tabFind_set]; split <;> simp

/-- An object reads as it was written. -/
theorem objGet_set_self (d : Dev) (ho : Rising d.objs) (i s v : Nat) : objGet (objSet i s v d) i s = v := by
  rw [objGet_set d ho, if_pos rfl]; split <;> simp_all

/-- Another object reads as before. -/
theorem objGet_set_ne (d : Dev) (ho : Rising d.objs) (i s v j u : Nat) (h : objKey j u ≠ objKey i s) :
    objGet (objSet i s v d) j u = objGet d j u := by rw [objGet_set d ho, if_neg h]

theorem regGet_set (d : Dev) (ho : Rising d.regs) (k v j : Nat) :
    regGet (regSet k v d) j = if j = k then v % 2 ^ 32 else regGet d j := by
  unfold regSet regGet
  split
  · simp only [tabFind_erase _ _ _ ho]; split <;> simp_all
  · simp only [tabFind_set]; split <;> simp

/-! ## The form of a meaning -/

theorem act_next {f : Dev → Dev} {s : State} (hh : isHeld s.dev = false) : act f s = .next { s with dev := f s.dev } := by
  simp [act, actHeld, hh]

theorem actOn_next {u : Bool} {f : Dev → Dev} {s : State} (hu : u = true) (hh : isHeld s.dev = false) :
    actOn u f s = .next { s with dev := f s.dev } := by
  simp [actOn, hu, act_next hh]

theorem answers_act {c : Instr} {s : State} {P : Dev → Prop} {f : Dev → Dev} (he : exec c s = act f s)
    (hh : isHeld s.dev = false) (hp : P (f s.dev)) : Answers c s P := ⟨_, he.trans (act_next hh), hp⟩

theorem answers_actOn {c : Instr} {s : State} {P : Dev → Prop} {u : Bool} {f : Dev → Dev} (he : exec c s = actOn u f s)
    (hu : u = true) (hh : isHeld s.dev = false) (hp : P (f s.dev)) : Answers c s P := ⟨_, he.trans (actOn_next hu hh), hp⟩

theorem answers_held {c : Instr} {s : State} {P : Dev → Prop} {f : Dev → Dev} (he : exec c s = actHeld f s)
    (hp : P (f s.dev)) : Answers c s P := ⟨_, he, hp⟩

@[simp] theorem regOpen_atTime (who : Caller) (key : Nat) (b : Bool) (now : Nat) (d : Dev) :
    regOpen who key b (atTime now d) = regOpen who key b d := by
  unfold atTime; split <;> rfl

theorem regGate_open {who : Caller} {key : Nat} {b : Bool} {f : Dev → Dev} {d : Dev} (h : regOpen who key b d = true) :
    regGate who key b f d = f d := by
  cases who with
  | pf l =>
    simp only [regOpen, Bool.and_eq_true, Bool.or_eq_true, Bool.not_eq_true', Option.isNone_iff_eq_none] at h
    obtain ⟨⟨h1, h2⟩, h3⟩ := h
    have hb : (d.flt.safe && !b && Caller.pf l != .firmware) = false := by rcases h3 with h | h <;> simp [h]
    rcases h2 with h2 | h2 <;> simp [regGate, reachesPf, gateOf, reaches, ideRefuses, h1, h2, hb]
  | firmware => simp [regGate, reachesPf, gateOf, reaches, ideRefuses]
  | vf t b => simp [regOpen] at h
  | node n => simp [regOpen] at h

theorem decideWrite_granted {q : Req} {i u : Nat} {own : Dev → List Err} {bad : Err → Dev → Dev} {good : Dev → Dev} {d : Dev}
    (h : granted q i u own d = true) : decideWrite q i u own bad good d = good (atTime q.now d) := by
  simp only [granted, Bool.and_eq_true, Option.isNone_iff_eq_none] at h
  simp [decideWrite, h.1.2, h.2]

theorem perform_granted {q : Req} {i u : Nat} {own : Dev → List Err} {f : Dev → Dev} {d : Dev}
    (h : granted q i u own d = true) : perform q i u own f d = accept q i u (f (atTime q.now d)) := by
  rw [perform, decideWrite_granted h]

theorem granted_held {q : Req} {i u : Nat} {own : Dev → List Err} {d : Dev} (h : granted q i u own d = true) :
    isHeld d = false := by
  simp only [granted, Bool.and_eq_true, Bool.not_eq_true'] at h; exact h.1.1

theorem respond_emitted (q : Req) (op : Nat) (e : Err) (i u o t l p : Nat) (d : Dev) :
    (respond q op e i u o t l p d).emitted =
      d.emitted ++ [.response q.who (op + 0x80) e.code i u q.tag (if e = .ok then l else 0)
        (p % 256 ^ (if e = .ok then l else 0))] := by
  have h1 : ∀ w l m (x : Dev), (postMailbox w l m x).emitted = x.emitted := fun w l m x =>
    (((postMailbox_keeps (m := 393473) rfl (.refl x)).only .emitted rfl)).symm
  have h2 : ∀ w a b c e (x : Dev), (postRing w a b c e x).emitted = x.emitted := fun w a b c e x => by
    unfold postRing; split <;> rfl
  simp only [respond, h1, h2]
  rfl

theorem accept_emitted (q : Req) (i u : Nat) (d : Dev) :
    ∃ l p, (accept q i u d).emitted = d.emitted ++ [.response q.who (opOf q + 0x80) 0 i u q.tag l p] := by
  unfold accept opOf
  cases q.crit with
  | none => exact ⟨_, _, respond_emitted ..⟩
  | some c => exact ⟨_, _, respond_emitted ..⟩

/-! ## What the shared operations leave as it was -/

@[simp] theorem objSet_frame (idx : Nat) (sub : Nat) (v : Nat) (d : Dev) :
    (objSet idx sub v d).regs = d.regs ∧ (objSet idx sub v d).stage = d.stage ∧
    (objSet idx sub v d).heldStitch = d.heldStitch ∧ (objSet idx sub v d).emitted = d.emitted ∧
    (objSet idx sub v d).freeCtr = d.freeCtr ∧ (objSet idx sub v d).rngCtr = d.rngCtr ∧ (objSet idx sub v d).flt = d.flt ∧
    (objSet idx sub v d).irq = d.irq ∧ (objSet idx sub v d).msix = d.msix ∧ (objSet idx sub v d).fnMask = d.fnMask ∧
    (objSet idx sub v d).rings = d.rings ∧ (objSet idx sub v d).fnq = d.fnq ∧ (objSet idx sub v d).dmaCh = d.dmaCh ∧
    (objSet idx sub v d).recvBufs = d.recvBufs ∧ (objSet idx sub v d).links = d.links ∧
    (objSet idx sub v d).parityBad = d.parityBad ∧ (objSet idx sub v d).mbox = d.mbox ∧
    (objSet idx sub v d).waiting = d.waiting ∧ (objSet idx sub v d).snaps = d.snaps ∧
    (objSet idx sub v d).lastCtr = d.lastCtr ∧ (objSet idx sub v d).authSeen = d.authSeen ∧
    (objSet idx sub v d).tbs = d.tbs ∧ (objSet idx sub v d).tenants = d.tenants ∧ (objSet idx sub v d).rrLast = d.rrLast ∧
    (objSet idx sub v d).sec = d.sec ∧ (objSet idx sub v d).pair = d.pair ∧ (objSet idx sub v d).sess = d.sess ∧
    (objSet idx sub v d).dsr = d.dsr ∧ (objSet idx sub v d).chans = d.chans ∧ (objSet idx sub v d).wrd = d.wrd ∧
    (objSet idx sub v d).mem = d.mem ∧ (objSet idx sub v d).streams = d.streams ∧ (objSet idx sub v d).tiles = d.tiles ∧
    (objSet idx sub v d).loom = d.loom ∧ (objSet idx sub v d).hold = d.hold ∧ (objSet idx sub v d).linPrm = d.linPrm ∧
    (objSet idx sub v d).ladder = d.ladder ∧ (objSet idx sub v d).pke = d.pke ∧ (objSet idx sub v d).lib = d.lib ∧
    (objSet idx sub v d).linings = d.linings ∧ (objSet idx sub v d).pwr = d.pwr :=
  have h := (objSet_keeps (m := 4) rfl (.refl d)).only
  ⟨(h .regs rfl).symm, (h .stage rfl).symm, (h .heldStitch rfl).symm, (h .emitted rfl).symm, (h .freeCtr rfl).symm, (h .rngCtr rfl).symm, (h .flt rfl).symm, (h .irq rfl).symm, (h .msix rfl).symm, (h .fnMask rfl).symm, (h .rings rfl).symm, (h .fnq rfl).symm, (h .dmaCh rfl).symm, (h .recvBufs rfl).symm, (h .links rfl).symm, (h .parityBad rfl).symm, (h .mbox rfl).symm, (h .waiting rfl).symm, (h .snaps rfl).symm, (h .lastCtr rfl).symm, (h .authSeen rfl).symm, (h .tbs rfl).symm, (h .tenants rfl).symm, (h .rrLast rfl).symm, (h .sec rfl).symm, (h .pair rfl).symm, (h .sess rfl).symm, (h .dsr rfl).symm, (h .chans rfl).symm, (h .wrd rfl).symm, (h .mem rfl).symm, (h .streams rfl).symm, (h .tiles rfl).symm, (h .loom rfl).symm, (h .hold rfl).symm, (h .linPrm rfl).symm, (h .ladder rfl).symm, (h .pke rfl).symm, (h .lib rfl).symm, (h .linings rfl).symm, (h .pwr rfl).symm⟩

@[simp] theorem regSet_frame (key : Nat) (v : Nat) (d : Dev) :
    (regSet key v d).stage = d.stage ∧ (regSet key v d).objs = d.objs ∧ (regSet key v d).heldStitch = d.heldStitch ∧
    (regSet key v d).emitted = d.emitted ∧ (regSet key v d).freeCtr = d.freeCtr ∧ (regSet key v d).rngCtr = d.rngCtr ∧
    (regSet key v d).flt = d.flt ∧ (regSet key v d).irq = d.irq ∧ (regSet key v d).msix = d.msix ∧
    (regSet key v d).fnMask = d.fnMask ∧ (regSet key v d).rings = d.rings ∧ (regSet key v d).fnq = d.fnq ∧
    (regSet key v d).dmaCh = d.dmaCh ∧ (regSet key v d).recvBufs = d.recvBufs ∧ (regSet key v d).links = d.links ∧
    (regSet key v d).parityBad = d.parityBad ∧ (regSet key v d).mbox = d.mbox ∧ (regSet key v d).waiting = d.waiting ∧
    (regSet key v d).snaps = d.snaps ∧ (regSet key v d).lastCtr = d.lastCtr ∧ (regSet key v d).authSeen = d.authSeen ∧
    (regSet key v d).tbs = d.tbs ∧ (regSet key v d).tenants = d.tenants ∧ (regSet key v d).rrLast = d.rrLast ∧
    (regSet key v d).sec = d.sec ∧ (regSet key v d).pair = d.pair ∧ (regSet key v d).sess = d.sess ∧
    (regSet key v d).dsr = d.dsr ∧ (regSet key v d).chans = d.chans ∧ (regSet key v d).wrd = d.wrd ∧
    (regSet key v d).mem = d.mem ∧ (regSet key v d).streams = d.streams ∧ (regSet key v d).tiles = d.tiles ∧
    (regSet key v d).loom = d.loom ∧ (regSet key v d).hold = d.hold ∧ (regSet key v d).linPrm = d.linPrm ∧
    (regSet key v d).ladder = d.ladder ∧ (regSet key v d).pke = d.pke ∧ (regSet key v d).lib = d.lib ∧
    (regSet key v d).linings = d.linings ∧ (regSet key v d).pwr = d.pwr :=
  have h := (regSet_keeps (m := 1) rfl (.refl d)).only
  ⟨(h .stage rfl).symm, (h .objs rfl).symm, (h .heldStitch rfl).symm, (h .emitted rfl).symm, (h .freeCtr rfl).symm, (h .rngCtr rfl).symm, (h .flt rfl).symm, (h .irq rfl).symm, (h .msix rfl).symm, (h .fnMask rfl).symm, (h .rings rfl).symm, (h .fnq rfl).symm, (h .dmaCh rfl).symm, (h .recvBufs rfl).symm, (h .links rfl).symm, (h .parityBad rfl).symm, (h .mbox rfl).symm, (h .waiting rfl).symm, (h .snaps rfl).symm, (h .lastCtr rfl).symm, (h .authSeen rfl).symm, (h .tbs rfl).symm, (h .tenants rfl).symm, (h .rrLast rfl).symm, (h .sec rfl).symm, (h .pair rfl).symm, (h .sess rfl).symm, (h .dsr rfl).symm, (h .chans rfl).symm, (h .wrd rfl).symm, (h .mem rfl).symm, (h .streams rfl).symm, (h .tiles rfl).symm, (h .loom rfl).symm, (h .hold rfl).symm, (h .linPrm rfl).symm, (h .ladder rfl).symm, (h .pke rfl).symm, (h .lib rfl).symm, (h .linings rfl).symm, (h .pwr rfl).symm⟩

@[simp] theorem setFld_frame (key : Nat) (lo : Nat) (len : Nat) (x : Nat) (d : Dev) :
    (setFld key lo len x d).stage = d.stage ∧ (setFld key lo len x d).objs = d.objs ∧
    (setFld key lo len x d).heldStitch = d.heldStitch ∧ (setFld key lo len x d).emitted = d.emitted ∧
    (setFld key lo len x d).freeCtr = d.freeCtr ∧ (setFld key lo len x d).rngCtr = d.rngCtr ∧
    (setFld key lo len x d).flt = d.flt ∧ (setFld key lo len x d).irq = d.irq ∧ (setFld key lo len x d).msix = d.msix ∧
    (setFld key lo len x d).fnMask = d.fnMask ∧ (setFld key lo len x d).rings = d.rings ∧
    (setFld key lo len x d).fnq = d.fnq ∧ (setFld key lo len x d).dmaCh = d.dmaCh ∧
    (setFld key lo len x d).recvBufs = d.recvBufs ∧ (setFld key lo len x d).links = d.links ∧
    (setFld key lo len x d).parityBad = d.parityBad ∧ (setFld key lo len x d).mbox = d.mbox ∧
    (setFld key lo len x d).waiting = d.waiting ∧ (setFld key lo len x d).snaps = d.snaps ∧
    (setFld key lo len x d).lastCtr = d.lastCtr ∧ (setFld key lo len x d).authSeen = d.authSeen ∧
    (setFld key lo len x d).tbs = d.tbs ∧ (setFld key lo len x d).tenants = d.tenants ∧
    (setFld key lo len x d).rrLast = d.rrLast ∧ (setFld key lo len x d).sec = d.sec ∧ (setFld key lo len x d).pair = d.pair ∧
    (setFld key lo len x d).sess = d.sess ∧ (setFld key lo len x d).dsr = d.dsr ∧ (setFld key lo len x d).chans = d.chans ∧
    (setFld key lo len x d).wrd = d.wrd ∧ (setFld key lo len x d).mem = d.mem ∧ (setFld key lo len x d).streams = d.streams ∧
    (setFld key lo len x d).tiles = d.tiles ∧ (setFld key lo len x d).loom = d.loom ∧ (setFld key lo len x d).hold = d.hold ∧
    (setFld key lo len x d).linPrm = d.linPrm ∧ (setFld key lo len x d).ladder = d.ladder ∧
    (setFld key lo len x d).pke = d.pke ∧ (setFld key lo len x d).lib = d.lib ∧ (setFld key lo len x d).linings = d.linings ∧
    (setFld key lo len x d).pwr = d.pwr :=
  have h := (setFld_keeps (m := 1) rfl (.refl d)).only
  ⟨(h .stage rfl).symm, (h .objs rfl).symm, (h .heldStitch rfl).symm, (h .emitted rfl).symm, (h .freeCtr rfl).symm, (h .rngCtr rfl).symm, (h .flt rfl).symm, (h .irq rfl).symm, (h .msix rfl).symm, (h .fnMask rfl).symm, (h .rings rfl).symm, (h .fnq rfl).symm, (h .dmaCh rfl).symm, (h .recvBufs rfl).symm, (h .links rfl).symm, (h .parityBad rfl).symm, (h .mbox rfl).symm, (h .waiting rfl).symm, (h .snaps rfl).symm, (h .lastCtr rfl).symm, (h .authSeen rfl).symm, (h .tbs rfl).symm, (h .tenants rfl).symm, (h .rrLast rfl).symm, (h .sec rfl).symm, (h .pair rfl).symm, (h .sess rfl).symm, (h .dsr rfl).symm, (h .chans rfl).symm, (h .wrd rfl).symm, (h .mem rfl).symm, (h .streams rfl).symm, (h .tiles rfl).symm, (h .loom rfl).symm, (h .hold rfl).symm, (h .linPrm rfl).symm, (h .ladder rfl).symm, (h .pke rfl).symm, (h .lib rfl).symm, (h .linings rfl).symm, (h .pwr rfl).symm⟩

@[simp] theorem objCount_frame (w : Nat) (idx : Nat) (sub : Nat) (n : Nat) (d : Dev) :
    (objCount w idx sub n d).regs = d.regs ∧ (objCount w idx sub n d).stage = d.stage ∧
    (objCount w idx sub n d).heldStitch = d.heldStitch ∧ (objCount w idx sub n d).emitted = d.emitted ∧
    (objCount w idx sub n d).freeCtr = d.freeCtr ∧ (objCount w idx sub n d).rngCtr = d.rngCtr ∧
    (objCount w idx sub n d).flt = d.flt ∧ (objCount w idx sub n d).irq = d.irq ∧ (objCount w idx sub n d).msix = d.msix ∧
    (objCount w idx sub n d).fnMask = d.fnMask ∧ (objCount w idx sub n d).rings = d.rings ∧
    (objCount w idx sub n d).fnq = d.fnq ∧ (objCount w idx sub n d).dmaCh = d.dmaCh ∧
    (objCount w idx sub n d).recvBufs = d.recvBufs ∧ (objCount w idx sub n d).links = d.links ∧
    (objCount w idx sub n d).parityBad = d.parityBad ∧ (objCount w idx sub n d).mbox = d.mbox ∧
    (objCount w idx sub n d).waiting = d.waiting ∧ (objCount w idx sub n d).snaps = d.snaps ∧
    (objCount w idx sub n d).lastCtr = d.lastCtr ∧ (objCount w idx sub n d).authSeen = d.authSeen ∧
    (objCount w idx sub n d).tbs = d.tbs ∧ (objCount w idx sub n d).tenants = d.tenants ∧
    (objCount w idx sub n d).rrLast = d.rrLast ∧ (objCount w idx sub n d).sec = d.sec ∧
    (objCount w idx sub n d).pair = d.pair ∧ (objCount w idx sub n d).sess = d.sess ∧ (objCount w idx sub n d).dsr = d.dsr ∧
    (objCount w idx sub n d).chans = d.chans ∧ (objCount w idx sub n d).wrd = d.wrd ∧ (objCount w idx sub n d).mem = d.mem ∧
    (objCount w idx sub n d).streams = d.streams ∧ (objCount w idx sub n d).tiles = d.tiles ∧
    (objCount w idx sub n d).loom = d.loom ∧ (objCount w idx sub n d).hold = d.hold ∧
    (objCount w idx sub n d).linPrm = d.linPrm ∧ (objCount w idx sub n d).ladder = d.ladder ∧
    (objCount w idx sub n d).pke = d.pke ∧ (objCount w idx sub n d).lib = d.lib ∧
    (objCount w idx sub n d).linings = d.linings ∧ (objCount w idx sub n d).pwr = d.pwr :=
  have h := (objCount_keeps (m := 4) rfl (.refl d)).only
  ⟨(h .regs rfl).symm, (h .stage rfl).symm, (h .heldStitch rfl).symm, (h .emitted rfl).symm, (h .freeCtr rfl).symm, (h .rngCtr rfl).symm, (h .flt rfl).symm, (h .irq rfl).symm, (h .msix rfl).symm, (h .fnMask rfl).symm, (h .rings rfl).symm, (h .fnq rfl).symm, (h .dmaCh rfl).symm, (h .recvBufs rfl).symm, (h .links rfl).symm, (h .parityBad rfl).symm, (h .mbox rfl).symm, (h .waiting rfl).symm, (h .snaps rfl).symm, (h .lastCtr rfl).symm, (h .authSeen rfl).symm, (h .tbs rfl).symm, (h .tenants rfl).symm, (h .rrLast rfl).symm, (h .sec rfl).symm, (h .pair rfl).symm, (h .sess rfl).symm, (h .dsr rfl).symm, (h .chans rfl).symm, (h .wrd rfl).symm, (h .mem rfl).symm, (h .streams rfl).symm, (h .tiles rfl).symm, (h .loom rfl).symm, (h .hold rfl).symm, (h .linPrm rfl).symm, (h .ladder rfl).symm, (h .pke rfl).symm, (h .lib rfl).symm, (h .linings rfl).symm, (h .pwr rfl).symm⟩

@[simp] theorem regCount_frame (key : Nat) (n : Nat) (d : Dev) :
    (regCount key n d).stage = d.stage ∧ (regCount key n d).objs = d.objs ∧ (regCount key n d).heldStitch = d.heldStitch ∧
    (regCount key n d).emitted = d.emitted ∧ (regCount key n d).freeCtr = d.freeCtr ∧ (regCount key n d).rngCtr = d.rngCtr ∧
    (regCount key n d).flt = d.flt ∧ (regCount key n d).irq = d.irq ∧ (regCount key n d).msix = d.msix ∧
    (regCount key n d).fnMask = d.fnMask ∧ (regCount key n d).rings = d.rings ∧ (regCount key n d).fnq = d.fnq ∧
    (regCount key n d).dmaCh = d.dmaCh ∧ (regCount key n d).recvBufs = d.recvBufs ∧ (regCount key n d).links = d.links ∧
    (regCount key n d).parityBad = d.parityBad ∧ (regCount key n d).mbox = d.mbox ∧ (regCount key n d).waiting = d.waiting ∧
    (regCount key n d).snaps = d.snaps ∧ (regCount key n d).lastCtr = d.lastCtr ∧ (regCount key n d).authSeen = d.authSeen ∧
    (regCount key n d).tbs = d.tbs ∧ (regCount key n d).tenants = d.tenants ∧ (regCount key n d).rrLast = d.rrLast ∧
    (regCount key n d).sec = d.sec ∧ (regCount key n d).pair = d.pair ∧ (regCount key n d).sess = d.sess ∧
    (regCount key n d).dsr = d.dsr ∧ (regCount key n d).chans = d.chans ∧ (regCount key n d).wrd = d.wrd ∧
    (regCount key n d).mem = d.mem ∧ (regCount key n d).streams = d.streams ∧ (regCount key n d).tiles = d.tiles ∧
    (regCount key n d).loom = d.loom ∧ (regCount key n d).hold = d.hold ∧ (regCount key n d).linPrm = d.linPrm ∧
    (regCount key n d).ladder = d.ladder ∧ (regCount key n d).pke = d.pke ∧ (regCount key n d).lib = d.lib ∧
    (regCount key n d).linings = d.linings ∧ (regCount key n d).pwr = d.pwr :=
  have h := (regCount_keeps (m := 1) rfl (.refl d)).only
  ⟨(h .stage rfl).symm, (h .objs rfl).symm, (h .heldStitch rfl).symm, (h .emitted rfl).symm, (h .freeCtr rfl).symm, (h .rngCtr rfl).symm, (h .flt rfl).symm, (h .irq rfl).symm, (h .msix rfl).symm, (h .fnMask rfl).symm, (h .rings rfl).symm, (h .fnq rfl).symm, (h .dmaCh rfl).symm, (h .recvBufs rfl).symm, (h .links rfl).symm, (h .parityBad rfl).symm, (h .mbox rfl).symm, (h .waiting rfl).symm, (h .snaps rfl).symm, (h .lastCtr rfl).symm, (h .authSeen rfl).symm, (h .tbs rfl).symm, (h .tenants rfl).symm, (h .rrLast rfl).symm, (h .sec rfl).symm, (h .pair rfl).symm, (h .sess rfl).symm, (h .dsr rfl).symm, (h .chans rfl).symm, (h .wrd rfl).symm, (h .mem rfl).symm, (h .streams rfl).symm, (h .tiles rfl).symm, (h .loom rfl).symm, (h .hold rfl).symm, (h .linPrm rfl).symm, (h .ladder rfl).symm, (h .pke rfl).symm, (h .lib rfl).symm, (h .linings rfl).symm, (h .pwr rfl).symm⟩

@[simp] theorem objMax_frame (idx : Nat) (sub : Nat) (v : Nat) (d : Dev) :
    (objMax idx sub v d).regs = d.regs ∧ (objMax idx sub v d).stage = d.stage ∧
    (objMax idx sub v d).heldStitch = d.heldStitch ∧ (objMax idx sub v d).emitted = d.emitted ∧
    (objMax idx sub v d).freeCtr = d.freeCtr ∧ (objMax idx sub v d).rngCtr = d.rngCtr ∧ (objMax idx sub v d).flt = d.flt ∧
    (objMax idx sub v d).irq = d.irq ∧ (objMax idx sub v d).msix = d.msix ∧ (objMax idx sub v d).fnMask = d.fnMask ∧
    (objMax idx sub v d).rings = d.rings ∧ (objMax idx sub v d).fnq = d.fnq ∧ (objMax idx sub v d).dmaCh = d.dmaCh ∧
    (objMax idx sub v d).recvBufs = d.recvBufs ∧ (objMax idx sub v d).links = d.links ∧
    (objMax idx sub v d).parityBad = d.parityBad ∧ (objMax idx sub v d).mbox = d.mbox ∧
    (objMax idx sub v d).waiting = d.waiting ∧ (objMax idx sub v d).snaps = d.snaps ∧
    (objMax idx sub v d).lastCtr = d.lastCtr ∧ (objMax idx sub v d).authSeen = d.authSeen ∧
    (objMax idx sub v d).tbs = d.tbs ∧ (objMax idx sub v d).tenants = d.tenants ∧ (objMax idx sub v d).rrLast = d.rrLast ∧
    (objMax idx sub v d).sec = d.sec ∧ (objMax idx sub v d).pair = d.pair ∧ (objMax idx sub v d).sess = d.sess ∧
    (objMax idx sub v d).dsr = d.dsr ∧ (objMax idx sub v d).chans = d.chans ∧ (objMax idx sub v d).wrd = d.wrd ∧
    (objMax idx sub v d).mem = d.mem ∧ (objMax idx sub v d).streams = d.streams ∧ (objMax idx sub v d).tiles = d.tiles ∧
    (objMax idx sub v d).loom = d.loom ∧ (objMax idx sub v d).hold = d.hold ∧ (objMax idx sub v d).linPrm = d.linPrm ∧
    (objMax idx sub v d).ladder = d.ladder ∧ (objMax idx sub v d).pke = d.pke ∧ (objMax idx sub v d).lib = d.lib ∧
    (objMax idx sub v d).linings = d.linings ∧ (objMax idx sub v d).pwr = d.pwr :=
  have h := (objMax_keeps (m := 4) rfl (.refl d)).only
  ⟨(h .regs rfl).symm, (h .stage rfl).symm, (h .heldStitch rfl).symm, (h .emitted rfl).symm, (h .freeCtr rfl).symm, (h .rngCtr rfl).symm, (h .flt rfl).symm, (h .irq rfl).symm, (h .msix rfl).symm, (h .fnMask rfl).symm, (h .rings rfl).symm, (h .fnq rfl).symm, (h .dmaCh rfl).symm, (h .recvBufs rfl).symm, (h .links rfl).symm, (h .parityBad rfl).symm, (h .mbox rfl).symm, (h .waiting rfl).symm, (h .snaps rfl).symm, (h .lastCtr rfl).symm, (h .authSeen rfl).symm, (h .tbs rfl).symm, (h .tenants rfl).symm, (h .rrLast rfl).symm, (h .sec rfl).symm, (h .pair rfl).symm, (h .sess rfl).symm, (h .dsr rfl).symm, (h .chans rfl).symm, (h .wrd rfl).symm, (h .mem rfl).symm, (h .streams rfl).symm, (h .tiles rfl).symm, (h .loom rfl).symm, (h .hold rfl).symm, (h .linPrm rfl).symm, (h .ladder rfl).symm, (h .pke rfl).symm, (h .lib rfl).symm, (h .linings rfl).symm, (h .pwr rfl).symm⟩

@[simp] theorem objSetStitch_frame (idx : Nat) (sub : Nat) (v : Nat) (d : Dev) :
    (objSetStitch idx sub v d).regs = d.regs ∧ (objSetStitch idx sub v d).stage = d.stage ∧
    (objSetStitch idx sub v d).emitted = d.emitted ∧ (objSetStitch idx sub v d).freeCtr = d.freeCtr ∧
    (objSetStitch idx sub v d).rngCtr = d.rngCtr ∧ (objSetStitch idx sub v d).flt = d.flt ∧
    (objSetStitch idx sub v d).irq = d.irq ∧ (objSetStitch idx sub v d).msix = d.msix ∧
    (objSetStitch idx sub v d).fnMask = d.fnMask ∧ (objSetStitch idx sub v d).rings = d.rings ∧
    (objSetStitch idx sub v d).fnq = d.fnq ∧ (objSetStitch idx sub v d).dmaCh = d.dmaCh ∧
    (objSetStitch idx sub v d).recvBufs = d.recvBufs ∧ (objSetStitch idx sub v d).links = d.links ∧
    (objSetStitch idx sub v d).parityBad = d.parityBad ∧ (objSetStitch idx sub v d).mbox = d.mbox ∧
    (objSetStitch idx sub v d).waiting = d.waiting ∧ (objSetStitch idx sub v d).snaps = d.snaps ∧
    (objSetStitch idx sub v d).lastCtr = d.lastCtr ∧ (objSetStitch idx sub v d).authSeen = d.authSeen ∧
    (objSetStitch idx sub v d).tbs = d.tbs ∧ (objSetStitch idx sub v d).tenants = d.tenants ∧
    (objSetStitch idx sub v d).rrLast = d.rrLast ∧ (objSetStitch idx sub v d).sec = d.sec ∧
    (objSetStitch idx sub v d).pair = d.pair ∧ (objSetStitch idx sub v d).sess = d.sess ∧
    (objSetStitch idx sub v d).dsr = d.dsr ∧ (objSetStitch idx sub v d).chans = d.chans ∧
    (objSetStitch idx sub v d).wrd = d.wrd ∧ (objSetStitch idx sub v d).mem = d.mem ∧
    (objSetStitch idx sub v d).streams = d.streams ∧ (objSetStitch idx sub v d).tiles = d.tiles ∧
    (objSetStitch idx sub v d).loom = d.loom ∧ (objSetStitch idx sub v d).hold = d.hold ∧
    (objSetStitch idx sub v d).linPrm = d.linPrm ∧ (objSetStitch idx sub v d).ladder = d.ladder ∧
    (objSetStitch idx sub v d).pke = d.pke ∧ (objSetStitch idx sub v d).lib = d.lib ∧
    (objSetStitch idx sub v d).linings = d.linings ∧ (objSetStitch idx sub v d).pwr = d.pwr :=
  have h := (objSetStitch_keeps (m := 12) rfl (.refl d)).only
  ⟨(h .regs rfl).symm, (h .stage rfl).symm, (h .emitted rfl).symm, (h .freeCtr rfl).symm, (h .rngCtr rfl).symm, (h .flt rfl).symm, (h .irq rfl).symm, (h .msix rfl).symm, (h .fnMask rfl).symm, (h .rings rfl).symm, (h .fnq rfl).symm, (h .dmaCh rfl).symm, (h .recvBufs rfl).symm, (h .links rfl).symm, (h .parityBad rfl).symm, (h .mbox rfl).symm, (h .waiting rfl).symm, (h .snaps rfl).symm, (h .lastCtr rfl).symm, (h .authSeen rfl).symm, (h .tbs rfl).symm, (h .tenants rfl).symm, (h .rrLast rfl).symm, (h .sec rfl).symm, (h .pair rfl).symm, (h .sess rfl).symm, (h .dsr rfl).symm, (h .chans rfl).symm, (h .wrd rfl).symm, (h .mem rfl).symm, (h .streams rfl).symm, (h .tiles rfl).symm, (h .loom rfl).symm, (h .hold rfl).symm, (h .linPrm rfl).symm, (h .ladder rfl).symm, (h .pke rfl).symm, (h .lib rfl).symm, (h .linings rfl).symm, (h .pwr rfl).symm⟩

@[simp] theorem pairSet_frame (hi : Nat) (lo : Nat) (v : Nat) (d : Dev) :
    (pairSet hi lo v d).stage = d.stage ∧ (pairSet hi lo v d).objs = d.objs ∧ (pairSet hi lo v d).heldStitch = d.heldStitch ∧
    (pairSet hi lo v d).emitted = d.emitted ∧ (pairSet hi lo v d).freeCtr = d.freeCtr ∧
    (pairSet hi lo v d).rngCtr = d.rngCtr ∧ (pairSet hi lo v d).flt = d.flt ∧ (pairSet hi lo v d).irq = d.irq ∧
    (pairSet hi lo v d).msix = d.msix ∧ (pairSet hi lo v d).fnMask = d.fnMask ∧ (pairSet hi lo v d).rings = d.rings ∧
    (pairSet hi lo v d).fnq = d.fnq ∧ (pairSet hi lo v d).dmaCh = d.dmaCh ∧ (pairSet hi lo v d).recvBufs = d.recvBufs ∧
    (pairSet hi lo v d).links = d.links ∧ (pairSet hi lo v d).parityBad = d.parityBad ∧ (pairSet hi lo v d).mbox = d.mbox ∧
    (pairSet hi lo v d).waiting = d.waiting ∧ (pairSet hi lo v d).snaps = d.snaps ∧ (pairSet hi lo v d).lastCtr = d.lastCtr ∧
    (pairSet hi lo v d).authSeen = d.authSeen ∧ (pairSet hi lo v d).tbs = d.tbs ∧ (pairSet hi lo v d).tenants = d.tenants ∧
    (pairSet hi lo v d).rrLast = d.rrLast ∧ (pairSet hi lo v d).sec = d.sec ∧ (pairSet hi lo v d).pair = d.pair ∧
    (pairSet hi lo v d).sess = d.sess ∧ (pairSet hi lo v d).dsr = d.dsr ∧ (pairSet hi lo v d).chans = d.chans ∧
    (pairSet hi lo v d).wrd = d.wrd ∧ (pairSet hi lo v d).mem = d.mem ∧ (pairSet hi lo v d).streams = d.streams ∧
    (pairSet hi lo v d).tiles = d.tiles ∧ (pairSet hi lo v d).loom = d.loom ∧ (pairSet hi lo v d).hold = d.hold ∧
    (pairSet hi lo v d).linPrm = d.linPrm ∧ (pairSet hi lo v d).ladder = d.ladder ∧ (pairSet hi lo v d).pke = d.pke ∧
    (pairSet hi lo v d).lib = d.lib ∧ (pairSet hi lo v d).linings = d.linings ∧ (pairSet hi lo v d).pwr = d.pwr :=
  have h := (pairSet_keeps (m := 1) rfl (.refl d)).only
  ⟨(h .stage rfl).symm, (h .objs rfl).symm, (h .heldStitch rfl).symm, (h .emitted rfl).symm, (h .freeCtr rfl).symm, (h .rngCtr rfl).symm, (h .flt rfl).symm, (h .irq rfl).symm, (h .msix rfl).symm, (h .fnMask rfl).symm, (h .rings rfl).symm, (h .fnq rfl).symm, (h .dmaCh rfl).symm, (h .recvBufs rfl).symm, (h .links rfl).symm, (h .parityBad rfl).symm, (h .mbox rfl).symm, (h .waiting rfl).symm, (h .snaps rfl).symm, (h .lastCtr rfl).symm, (h .authSeen rfl).symm, (h .tbs rfl).symm, (h .tenants rfl).symm, (h .rrLast rfl).symm, (h .sec rfl).symm, (h .pair rfl).symm, (h .sess rfl).symm, (h .dsr rfl).symm, (h .chans rfl).symm, (h .wrd rfl).symm, (h .mem rfl).symm, (h .streams rfl).symm, (h .tiles rfl).symm, (h .loom rfl).symm, (h .hold rfl).symm, (h .linPrm rfl).symm, (h .ladder rfl).symm, (h .pke rfl).symm, (h .lib rfl).symm, (h .linings rfl).symm, (h .pwr rfl).symm⟩

@[simp] theorem atTime_frame (now : Nat) (d : Dev) :
    (atTime now d).regs = d.regs ∧ (atTime now d).stage = d.stage ∧ (atTime now d).objs = d.objs ∧
    (atTime now d).heldStitch = d.heldStitch ∧ (atTime now d).emitted = d.emitted ∧ (atTime now d).freeCtr = d.freeCtr ∧
    (atTime now d).rngCtr = d.rngCtr ∧ (atTime now d).flt = d.flt ∧ (atTime now d).irq = d.irq ∧
    (atTime now d).msix = d.msix ∧ (atTime now d).fnMask = d.fnMask ∧ (atTime now d).rings = d.rings ∧
    (atTime now d).fnq = d.fnq ∧ (atTime now d).dmaCh = d.dmaCh ∧ (atTime now d).recvBufs = d.recvBufs ∧
    (atTime now d).links = d.links ∧ (atTime now d).parityBad = d.parityBad ∧ (atTime now d).mbox = d.mbox ∧
    (atTime now d).waiting = d.waiting ∧ (atTime now d).snaps = d.snaps ∧ (atTime now d).lastCtr = d.lastCtr ∧
    (atTime now d).authSeen = d.authSeen ∧ (atTime now d).tenants = d.tenants ∧ (atTime now d).rrLast = d.rrLast ∧
    (atTime now d).sec = d.sec ∧ (atTime now d).pair = d.pair ∧ (atTime now d).sess = d.sess ∧ (atTime now d).dsr = d.dsr ∧
    (atTime now d).chans = d.chans ∧ (atTime now d).wrd = d.wrd ∧ (atTime now d).mem = d.mem ∧
    (atTime now d).streams = d.streams ∧ (atTime now d).tiles = d.tiles ∧ (atTime now d).loom = d.loom ∧
    (atTime now d).hold = d.hold ∧ (atTime now d).linPrm = d.linPrm ∧ (atTime now d).ladder = d.ladder ∧
    (atTime now d).pke = d.pke ∧ (atTime now d).lib = d.lib ∧ (atTime now d).linings = d.linings ∧
    (atTime now d).pwr = d.pwr :=
  have h := (atTime_keeps (m := 4194304) rfl (.refl d)).only
  ⟨(h .regs rfl).symm, (h .stage rfl).symm, (h .objs rfl).symm, (h .heldStitch rfl).symm, (h .emitted rfl).symm, (h .freeCtr rfl).symm, (h .rngCtr rfl).symm, (h .flt rfl).symm, (h .irq rfl).symm, (h .msix rfl).symm, (h .fnMask rfl).symm, (h .rings rfl).symm, (h .fnq rfl).symm, (h .dmaCh rfl).symm, (h .recvBufs rfl).symm, (h .links rfl).symm, (h .parityBad rfl).symm, (h .mbox rfl).symm, (h .waiting rfl).symm, (h .snaps rfl).symm, (h .lastCtr rfl).symm, (h .authSeen rfl).symm, (h .tenants rfl).symm, (h .rrLast rfl).symm, (h .sec rfl).symm, (h .pair rfl).symm, (h .sess rfl).symm, (h .dsr rfl).symm, (h .chans rfl).symm, (h .wrd rfl).symm, (h .mem rfl).symm, (h .streams rfl).symm, (h .tiles rfl).symm, (h .loom rfl).symm, (h .hold rfl).symm, (h .linPrm rfl).symm, (h .ladder rfl).symm, (h .pke rfl).symm, (h .lib rfl).symm, (h .linings rfl).symm, (h .pwr rfl).symm⟩

@[simp] theorem raiseEoc_frame (n : Nat) (eoc : Bool) (d : Dev) :
    (raiseEoc n eoc d).regs = d.regs ∧ (raiseEoc n eoc d).stage = d.stage ∧ (raiseEoc n eoc d).objs = d.objs ∧
    (raiseEoc n eoc d).heldStitch = d.heldStitch ∧ (raiseEoc n eoc d).emitted = d.emitted ∧
    (raiseEoc n eoc d).freeCtr = d.freeCtr ∧ (raiseEoc n eoc d).rngCtr = d.rngCtr ∧ (raiseEoc n eoc d).flt = d.flt ∧
    (raiseEoc n eoc d).msix = d.msix ∧ (raiseEoc n eoc d).fnMask = d.fnMask ∧ (raiseEoc n eoc d).rings = d.rings ∧
    (raiseEoc n eoc d).fnq = d.fnq ∧ (raiseEoc n eoc d).dmaCh = d.dmaCh ∧ (raiseEoc n eoc d).recvBufs = d.recvBufs ∧
    (raiseEoc n eoc d).links = d.links ∧ (raiseEoc n eoc d).parityBad = d.parityBad ∧ (raiseEoc n eoc d).mbox = d.mbox ∧
    (raiseEoc n eoc d).waiting = d.waiting ∧ (raiseEoc n eoc d).snaps = d.snaps ∧ (raiseEoc n eoc d).lastCtr = d.lastCtr ∧
    (raiseEoc n eoc d).authSeen = d.authSeen ∧ (raiseEoc n eoc d).tbs = d.tbs ∧ (raiseEoc n eoc d).tenants = d.tenants ∧
    (raiseEoc n eoc d).rrLast = d.rrLast ∧ (raiseEoc n eoc d).sec = d.sec ∧ (raiseEoc n eoc d).pair = d.pair ∧
    (raiseEoc n eoc d).sess = d.sess ∧ (raiseEoc n eoc d).dsr = d.dsr ∧ (raiseEoc n eoc d).chans = d.chans ∧
    (raiseEoc n eoc d).wrd = d.wrd ∧ (raiseEoc n eoc d).mem = d.mem ∧ (raiseEoc n eoc d).streams = d.streams ∧
    (raiseEoc n eoc d).tiles = d.tiles ∧ (raiseEoc n eoc d).loom = d.loom ∧ (raiseEoc n eoc d).hold = d.hold ∧
    (raiseEoc n eoc d).linPrm = d.linPrm ∧ (raiseEoc n eoc d).ladder = d.ladder ∧ (raiseEoc n eoc d).pke = d.pke ∧
    (raiseEoc n eoc d).lib = d.lib ∧ (raiseEoc n eoc d).linings = d.linings ∧ (raiseEoc n eoc d).pwr = d.pwr :=
  have h := (raiseEoc_keeps (m := 256) rfl (.refl d)).only
  ⟨(h .regs rfl).symm, (h .stage rfl).symm, (h .objs rfl).symm, (h .heldStitch rfl).symm, (h .emitted rfl).symm, (h .freeCtr rfl).symm, (h .rngCtr rfl).symm, (h .flt rfl).symm, (h .msix rfl).symm, (h .fnMask rfl).symm, (h .rings rfl).symm, (h .fnq rfl).symm, (h .dmaCh rfl).symm, (h .recvBufs rfl).symm, (h .links rfl).symm, (h .parityBad rfl).symm, (h .mbox rfl).symm, (h .waiting rfl).symm, (h .snaps rfl).symm, (h .lastCtr rfl).symm, (h .authSeen rfl).symm, (h .tbs rfl).symm, (h .tenants rfl).symm, (h .rrLast rfl).symm, (h .sec rfl).symm, (h .pair rfl).symm, (h .sess rfl).symm, (h .dsr rfl).symm, (h .chans rfl).symm, (h .wrd rfl).symm, (h .mem rfl).symm, (h .streams rfl).symm, (h .tiles rfl).symm, (h .loom rfl).symm, (h .hold rfl).symm, (h .linPrm rfl).symm, (h .ladder rfl).symm, (h .pke rfl).symm, (h .lib rfl).symm, (h .linings rfl).symm, (h .pwr rfl).symm⟩

@[simp] theorem raise_frame (n : Nat) (d : Dev) :
    (raise n d).regs = d.regs ∧ (raise n d).stage = d.stage ∧ (raise n d).objs = d.objs ∧
    (raise n d).heldStitch = d.heldStitch ∧ (raise n d).emitted = d.emitted ∧ (raise n d).freeCtr = d.freeCtr ∧
    (raise n d).rngCtr = d.rngCtr ∧ (raise n d).flt = d.flt ∧ (raise n d).msix = d.msix ∧ (raise n d).fnMask = d.fnMask ∧
    (raise n d).rings = d.rings ∧ (raise n d).fnq = d.fnq ∧ (raise n d).dmaCh = d.dmaCh ∧ (raise n d).recvBufs = d.recvBufs ∧
    (raise n d).links = d.links ∧ (raise n d).parityBad = d.parityBad ∧ (raise n d).mbox = d.mbox ∧
    (raise n d).waiting = d.waiting ∧ (raise n d).snaps = d.snaps ∧ (raise n d).lastCtr = d.lastCtr ∧
    (raise n d).authSeen = d.authSeen ∧ (raise n d).tbs = d.tbs ∧ (raise n d).tenants = d.tenants ∧
    (raise n d).rrLast = d.rrLast ∧ (raise n d).sec = d.sec ∧ (raise n d).pair = d.pair ∧ (raise n d).sess = d.sess ∧
    (raise n d).dsr = d.dsr ∧ (raise n d).chans = d.chans ∧ (raise n d).wrd = d.wrd ∧ (raise n d).mem = d.mem ∧
    (raise n d).streams = d.streams ∧ (raise n d).tiles = d.tiles ∧ (raise n d).loom = d.loom ∧ (raise n d).hold = d.hold ∧
    (raise n d).linPrm = d.linPrm ∧ (raise n d).ladder = d.ladder ∧ (raise n d).pke = d.pke ∧ (raise n d).lib = d.lib ∧
    (raise n d).linings = d.linings ∧ (raise n d).pwr = d.pwr :=
  have h := (raise_keeps (m := 256) rfl (.refl d)).only
  ⟨(h .regs rfl).symm, (h .stage rfl).symm, (h .objs rfl).symm, (h .heldStitch rfl).symm, (h .emitted rfl).symm, (h .freeCtr rfl).symm, (h .rngCtr rfl).symm, (h .flt rfl).symm, (h .msix rfl).symm, (h .fnMask rfl).symm, (h .rings rfl).symm, (h .fnq rfl).symm, (h .dmaCh rfl).symm, (h .recvBufs rfl).symm, (h .links rfl).symm, (h .parityBad rfl).symm, (h .mbox rfl).symm, (h .waiting rfl).symm, (h .snaps rfl).symm, (h .lastCtr rfl).symm, (h .authSeen rfl).symm, (h .tbs rfl).symm, (h .tenants rfl).symm, (h .rrLast rfl).symm, (h .sec rfl).symm, (h .pair rfl).symm, (h .sess rfl).symm, (h .dsr rfl).symm, (h .chans rfl).symm, (h .wrd rfl).symm, (h .mem rfl).symm, (h .streams rfl).symm, (h .tiles rfl).symm, (h .loom rfl).symm, (h .hold rfl).symm, (h .linPrm rfl).symm, (h .ladder rfl).symm, (h .pke rfl).symm, (h .lib rfl).symm, (h .linings rfl).symm, (h .pwr rfl).symm⟩

@[simp] theorem report_frame (r : Report) (d : Dev) :
    (report r d).regs = d.regs ∧ (report r d).stage = d.stage ∧ (report r d).objs = d.objs ∧
    (report r d).heldStitch = d.heldStitch ∧ (report r d).emitted = d.emitted ∧ (report r d).freeCtr = d.freeCtr ∧
    (report r d).rngCtr = d.rngCtr ∧ (report r d).irq = d.irq ∧ (report r d).msix = d.msix ∧ (report r d).fnMask = d.fnMask ∧
    (report r d).rings = d.rings ∧ (report r d).fnq = d.fnq ∧ (report r d).dmaCh = d.dmaCh ∧
    (report r d).recvBufs = d.recvBufs ∧ (report r d).links = d.links ∧ (report r d).parityBad = d.parityBad ∧
    (report r d).mbox = d.mbox ∧ (report r d).waiting = d.waiting ∧ (report r d).snaps = d.snaps ∧
    (report r d).lastCtr = d.lastCtr ∧ (report r d).authSeen = d.authSeen ∧ (report r d).tbs = d.tbs ∧
    (report r d).tenants = d.tenants ∧ (report r d).rrLast = d.rrLast ∧ (report r d).sec = d.sec ∧
    (report r d).pair = d.pair ∧ (report r d).sess = d.sess ∧ (report r d).dsr = d.dsr ∧ (report r d).chans = d.chans ∧
    (report r d).wrd = d.wrd ∧ (report r d).mem = d.mem ∧ (report r d).streams = d.streams ∧ (report r d).tiles = d.tiles ∧
    (report r d).loom = d.loom ∧ (report r d).hold = d.hold ∧ (report r d).linPrm = d.linPrm ∧
    (report r d).ladder = d.ladder ∧ (report r d).pke = d.pke ∧ (report r d).lib = d.lib ∧ (report r d).linings = d.linings ∧
    (report r d).pwr = d.pwr :=
  have h := (report_keeps (m := 128) rfl (.refl d)).only
  ⟨(h .regs rfl).symm, (h .stage rfl).symm, (h .objs rfl).symm, (h .heldStitch rfl).symm, (h .emitted rfl).symm, (h .freeCtr rfl).symm, (h .rngCtr rfl).symm, (h .irq rfl).symm, (h .msix rfl).symm, (h .fnMask rfl).symm, (h .rings rfl).symm, (h .fnq rfl).symm, (h .dmaCh rfl).symm, (h .recvBufs rfl).symm, (h .links rfl).symm, (h .parityBad rfl).symm, (h .mbox rfl).symm, (h .waiting rfl).symm, (h .snaps rfl).symm, (h .lastCtr rfl).symm, (h .authSeen rfl).symm, (h .tbs rfl).symm, (h .tenants rfl).symm, (h .rrLast rfl).symm, (h .sec rfl).symm, (h .pair rfl).symm, (h .sess rfl).symm, (h .dsr rfl).symm, (h .chans rfl).symm, (h .wrd rfl).symm, (h .mem rfl).symm, (h .streams rfl).symm, (h .tiles rfl).symm, (h .loom rfl).symm, (h .hold rfl).symm, (h .linPrm rfl).symm, (h .ladder rfl).symm, (h .pke rfl).symm, (h .lib rfl).symm, (h .linings rfl).symm, (h .pwr rfl).symm⟩

@[simp] theorem level_frame (src : Nat) (code : Nat) (sev : Nat) (subject : Nat) (info : Nat) (d : Dev) :
    (level src code sev subject info d).regs = d.regs ∧ (level src code sev subject info d).stage = d.stage ∧
    (level src code sev subject info d).objs = d.objs ∧ (level src code sev subject info d).heldStitch = d.heldStitch ∧
    (level src code sev subject info d).emitted = d.emitted ∧ (level src code sev subject info d).freeCtr = d.freeCtr ∧
    (level src code sev subject info d).rngCtr = d.rngCtr ∧ (level src code sev subject info d).irq = d.irq ∧
    (level src code sev subject info d).msix = d.msix ∧ (level src code sev subject info d).fnMask = d.fnMask ∧
    (level src code sev subject info d).rings = d.rings ∧ (level src code sev subject info d).fnq = d.fnq ∧
    (level src code sev subject info d).dmaCh = d.dmaCh ∧ (level src code sev subject info d).recvBufs = d.recvBufs ∧
    (level src code sev subject info d).links = d.links ∧ (level src code sev subject info d).parityBad = d.parityBad ∧
    (level src code sev subject info d).mbox = d.mbox ∧ (level src code sev subject info d).waiting = d.waiting ∧
    (level src code sev subject info d).snaps = d.snaps ∧ (level src code sev subject info d).lastCtr = d.lastCtr ∧
    (level src code sev subject info d).authSeen = d.authSeen ∧ (level src code sev subject info d).tbs = d.tbs ∧
    (level src code sev subject info d).tenants = d.tenants ∧ (level src code sev subject info d).rrLast = d.rrLast ∧
    (level src code sev subject info d).sec = d.sec ∧ (level src code sev subject info d).pair = d.pair ∧
    (level src code sev subject info d).sess = d.sess ∧ (level src code sev subject info d).dsr = d.dsr ∧
    (level src code sev subject info d).chans = d.chans ∧ (level src code sev subject info d).wrd = d.wrd ∧
    (level src code sev subject info d).mem = d.mem ∧ (level src code sev subject info d).streams = d.streams ∧
    (level src code sev subject info d).tiles = d.tiles ∧ (level src code sev subject info d).loom = d.loom ∧
    (level src code sev subject info d).hold = d.hold ∧ (level src code sev subject info d).linPrm = d.linPrm ∧
    (level src code sev subject info d).ladder = d.ladder ∧ (level src code sev subject info d).pke = d.pke ∧
    (level src code sev subject info d).lib = d.lib ∧ (level src code sev subject info d).linings = d.linings ∧
    (level src code sev subject info d).pwr = d.pwr :=
  have h := (level_keeps (m := 128) rfl (.refl d)).only
  ⟨(h .regs rfl).symm, (h .stage rfl).symm, (h .objs rfl).symm, (h .heldStitch rfl).symm, (h .emitted rfl).symm, (h .freeCtr rfl).symm, (h .rngCtr rfl).symm, (h .irq rfl).symm, (h .msix rfl).symm, (h .fnMask rfl).symm, (h .rings rfl).symm, (h .fnq rfl).symm, (h .dmaCh rfl).symm, (h .recvBufs rfl).symm, (h .links rfl).symm, (h .parityBad rfl).symm, (h .mbox rfl).symm, (h .waiting rfl).symm, (h .snaps rfl).symm, (h .lastCtr rfl).symm, (h .authSeen rfl).symm, (h .tbs rfl).symm, (h .tenants rfl).symm, (h .rrLast rfl).symm, (h .sec rfl).symm, (h .pair rfl).symm, (h .sess rfl).symm, (h .dsr rfl).symm, (h .chans rfl).symm, (h .wrd rfl).symm, (h .mem rfl).symm, (h .streams rfl).symm, (h .tiles rfl).symm, (h .loom rfl).symm, (h .hold rfl).symm, (h .linPrm rfl).symm, (h .ladder rfl).symm, (h .pke rfl).symm, (h .lib rfl).symm, (h .linings rfl).symm, (h .pwr rfl).symm⟩

@[simp] theorem pulse_frame (src : Nat) (code : Nat) (sev : Nat) (subject : Nat) (info : Nat) (d : Dev) :
    (pulse src code sev subject info d).regs = d.regs ∧ (pulse src code sev subject info d).stage = d.stage ∧
    (pulse src code sev subject info d).objs = d.objs ∧ (pulse src code sev subject info d).heldStitch = d.heldStitch ∧
    (pulse src code sev subject info d).emitted = d.emitted ∧ (pulse src code sev subject info d).freeCtr = d.freeCtr ∧
    (pulse src code sev subject info d).rngCtr = d.rngCtr ∧ (pulse src code sev subject info d).irq = d.irq ∧
    (pulse src code sev subject info d).msix = d.msix ∧ (pulse src code sev subject info d).fnMask = d.fnMask ∧
    (pulse src code sev subject info d).rings = d.rings ∧ (pulse src code sev subject info d).fnq = d.fnq ∧
    (pulse src code sev subject info d).dmaCh = d.dmaCh ∧ (pulse src code sev subject info d).recvBufs = d.recvBufs ∧
    (pulse src code sev subject info d).links = d.links ∧ (pulse src code sev subject info d).parityBad = d.parityBad ∧
    (pulse src code sev subject info d).mbox = d.mbox ∧ (pulse src code sev subject info d).waiting = d.waiting ∧
    (pulse src code sev subject info d).snaps = d.snaps ∧ (pulse src code sev subject info d).lastCtr = d.lastCtr ∧
    (pulse src code sev subject info d).authSeen = d.authSeen ∧ (pulse src code sev subject info d).tbs = d.tbs ∧
    (pulse src code sev subject info d).tenants = d.tenants ∧ (pulse src code sev subject info d).rrLast = d.rrLast ∧
    (pulse src code sev subject info d).sec = d.sec ∧ (pulse src code sev subject info d).pair = d.pair ∧
    (pulse src code sev subject info d).sess = d.sess ∧ (pulse src code sev subject info d).dsr = d.dsr ∧
    (pulse src code sev subject info d).chans = d.chans ∧ (pulse src code sev subject info d).wrd = d.wrd ∧
    (pulse src code sev subject info d).mem = d.mem ∧ (pulse src code sev subject info d).streams = d.streams ∧
    (pulse src code sev subject info d).tiles = d.tiles ∧ (pulse src code sev subject info d).loom = d.loom ∧
    (pulse src code sev subject info d).hold = d.hold ∧ (pulse src code sev subject info d).linPrm = d.linPrm ∧
    (pulse src code sev subject info d).ladder = d.ladder ∧ (pulse src code sev subject info d).pke = d.pke ∧
    (pulse src code sev subject info d).lib = d.lib ∧ (pulse src code sev subject info d).linings = d.linings ∧
    (pulse src code sev subject info d).pwr = d.pwr :=
  have h := (pulse_keeps (m := 128) rfl (.refl d)).only
  ⟨(h .regs rfl).symm, (h .stage rfl).symm, (h .objs rfl).symm, (h .heldStitch rfl).symm, (h .emitted rfl).symm, (h .freeCtr rfl).symm, (h .rngCtr rfl).symm, (h .irq rfl).symm, (h .msix rfl).symm, (h .fnMask rfl).symm, (h .rings rfl).symm, (h .fnq rfl).symm, (h .dmaCh rfl).symm, (h .recvBufs rfl).symm, (h .links rfl).symm, (h .parityBad rfl).symm, (h .mbox rfl).symm, (h .waiting rfl).symm, (h .snaps rfl).symm, (h .lastCtr rfl).symm, (h .authSeen rfl).symm, (h .tbs rfl).symm, (h .tenants rfl).symm, (h .rrLast rfl).symm, (h .sec rfl).symm, (h .pair rfl).symm, (h .sess rfl).symm, (h .dsr rfl).symm, (h .chans rfl).symm, (h .wrd rfl).symm, (h .mem rfl).symm, (h .streams rfl).symm, (h .tiles rfl).symm, (h .loom rfl).symm, (h .hold rfl).symm, (h .linPrm rfl).symm, (h .ladder rfl).symm, (h .pke rfl).symm, (h .lib rfl).symm, (h .linings rfl).symm, (h .pwr rfl).symm⟩

@[simp] theorem levelEnd_frame (src : Nat) (code : Nat) (subject : Nat) (d : Dev) :
    (levelEnd src code subject d).regs = d.regs ∧ (levelEnd src code subject d).stage = d.stage ∧
    (levelEnd src code subject d).objs = d.objs ∧ (levelEnd src code subject d).heldStitch = d.heldStitch ∧
    (levelEnd src code subject d).emitted = d.emitted ∧ (levelEnd src code subject d).freeCtr = d.freeCtr ∧
    (levelEnd src code subject d).rngCtr = d.rngCtr ∧ (levelEnd src code subject d).irq = d.irq ∧
    (levelEnd src code subject d).msix = d.msix ∧ (levelEnd src code subject d).fnMask = d.fnMask ∧
    (levelEnd src code subject d).rings = d.rings ∧ (levelEnd src code subject d).fnq = d.fnq ∧
    (levelEnd src code subject d).dmaCh = d.dmaCh ∧ (levelEnd src code subject d).recvBufs = d.recvBufs ∧
    (levelEnd src code subject d).links = d.links ∧ (levelEnd src code subject d).parityBad = d.parityBad ∧
    (levelEnd src code subject d).mbox = d.mbox ∧ (levelEnd src code subject d).waiting = d.waiting ∧
    (levelEnd src code subject d).snaps = d.snaps ∧ (levelEnd src code subject d).lastCtr = d.lastCtr ∧
    (levelEnd src code subject d).authSeen = d.authSeen ∧ (levelEnd src code subject d).tbs = d.tbs ∧
    (levelEnd src code subject d).tenants = d.tenants ∧ (levelEnd src code subject d).rrLast = d.rrLast ∧
    (levelEnd src code subject d).sec = d.sec ∧ (levelEnd src code subject d).pair = d.pair ∧
    (levelEnd src code subject d).sess = d.sess ∧ (levelEnd src code subject d).dsr = d.dsr ∧
    (levelEnd src code subject d).chans = d.chans ∧ (levelEnd src code subject d).wrd = d.wrd ∧
    (levelEnd src code subject d).mem = d.mem ∧ (levelEnd src code subject d).streams = d.streams ∧
    (levelEnd src code subject d).tiles = d.tiles ∧ (levelEnd src code subject d).loom = d.loom ∧
    (levelEnd src code subject d).hold = d.hold ∧ (levelEnd src code subject d).linPrm = d.linPrm ∧
    (levelEnd src code subject d).ladder = d.ladder ∧ (levelEnd src code subject d).pke = d.pke ∧
    (levelEnd src code subject d).lib = d.lib ∧ (levelEnd src code subject d).linings = d.linings ∧
    (levelEnd src code subject d).pwr = d.pwr :=
  have h := (levelEnd_keeps (m := 128) rfl (.refl d)).only
  ⟨(h .regs rfl).symm, (h .stage rfl).symm, (h .objs rfl).symm, (h .heldStitch rfl).symm, (h .emitted rfl).symm, (h .freeCtr rfl).symm, (h .rngCtr rfl).symm, (h .irq rfl).symm, (h .msix rfl).symm, (h .fnMask rfl).symm, (h .rings rfl).symm, (h .fnq rfl).symm, (h .dmaCh rfl).symm, (h .recvBufs rfl).symm, (h .links rfl).symm, (h .parityBad rfl).symm, (h .mbox rfl).symm, (h .waiting rfl).symm, (h .snaps rfl).symm, (h .lastCtr rfl).symm, (h .authSeen rfl).symm, (h .tbs rfl).symm, (h .tenants rfl).symm, (h .rrLast rfl).symm, (h .sec rfl).symm, (h .pair rfl).symm, (h .sess rfl).symm, (h .dsr rfl).symm, (h .chans rfl).symm, (h .wrd rfl).symm, (h .mem rfl).symm, (h .streams rfl).symm, (h .tiles rfl).symm, (h .loom rfl).symm, (h .hold rfl).symm, (h .linPrm rfl).symm, (h .ladder rfl).symm, (h .pke rfl).symm, (h .lib rfl).symm, (h .linings rfl).symm, (h .pwr rfl).symm⟩

@[simp] theorem mend_frame (key : Nat) (d : Dev) :
    (mend key d).regs = d.regs ∧ (mend key d).stage = d.stage ∧ (mend key d).objs = d.objs ∧
    (mend key d).heldStitch = d.heldStitch ∧ (mend key d).emitted = d.emitted ∧ (mend key d).freeCtr = d.freeCtr ∧
    (mend key d).rngCtr = d.rngCtr ∧ (mend key d).irq = d.irq ∧ (mend key d).msix = d.msix ∧ (mend key d).fnMask = d.fnMask ∧
    (mend key d).rings = d.rings ∧ (mend key d).fnq = d.fnq ∧ (mend key d).dmaCh = d.dmaCh ∧
    (mend key d).recvBufs = d.recvBufs ∧ (mend key d).links = d.links ∧ (mend key d).mbox = d.mbox ∧
    (mend key d).waiting = d.waiting ∧ (mend key d).snaps = d.snaps ∧ (mend key d).lastCtr = d.lastCtr ∧
    (mend key d).authSeen = d.authSeen ∧ (mend key d).tbs = d.tbs ∧ (mend key d).tenants = d.tenants ∧
    (mend key d).rrLast = d.rrLast ∧ (mend key d).sec = d.sec ∧ (mend key d).pair = d.pair ∧ (mend key d).sess = d.sess ∧
    (mend key d).dsr = d.dsr ∧ (mend key d).chans = d.chans ∧ (mend key d).wrd = d.wrd ∧ (mend key d).mem = d.mem ∧
    (mend key d).streams = d.streams ∧ (mend key d).tiles = d.tiles ∧ (mend key d).loom = d.loom ∧
    (mend key d).hold = d.hold ∧ (mend key d).linPrm = d.linPrm ∧ (mend key d).ladder = d.ladder ∧ (mend key d).pke = d.pke ∧
    (mend key d).lib = d.lib ∧ (mend key d).linings = d.linings ∧ (mend key d).pwr = d.pwr :=
  have h := (mend_keeps (m := 65664) rfl (.refl d)).only
  ⟨(h .regs rfl).symm, (h .stage rfl).symm, (h .objs rfl).symm, (h .heldStitch rfl).symm, (h .emitted rfl).symm, (h .freeCtr rfl).symm, (h .rngCtr rfl).symm, (h .irq rfl).symm, (h .msix rfl).symm, (h .fnMask rfl).symm, (h .rings rfl).symm, (h .fnq rfl).symm, (h .dmaCh rfl).symm, (h .recvBufs rfl).symm, (h .links rfl).symm, (h .mbox rfl).symm, (h .waiting rfl).symm, (h .snaps rfl).symm, (h .lastCtr rfl).symm, (h .authSeen rfl).symm, (h .tbs rfl).symm, (h .tenants rfl).symm, (h .rrLast rfl).symm, (h .sec rfl).symm, (h .pair rfl).symm, (h .sess rfl).symm, (h .dsr rfl).symm, (h .chans rfl).symm, (h .wrd rfl).symm, (h .mem rfl).symm, (h .streams rfl).symm, (h .tiles rfl).symm, (h .loom rfl).symm, (h .hold rfl).symm, (h .linPrm rfl).symm, (h .ladder rfl).symm, (h .pke rfl).symm, (h .lib rfl).symm, (h .linings rfl).symm, (h .pwr rfl).symm⟩

@[simp] theorem secEvent_frame (cause : Nat) (subject : Nat) (d : Dev) :
    (secEvent cause subject d).stage = d.stage ∧ (secEvent cause subject d).heldStitch = d.heldStitch ∧
    (secEvent cause subject d).emitted = d.emitted ∧ (secEvent cause subject d).freeCtr = d.freeCtr ∧
    (secEvent cause subject d).rngCtr = d.rngCtr ∧ (secEvent cause subject d).flt = d.flt ∧
    (secEvent cause subject d).msix = d.msix ∧ (secEvent cause subject d).fnMask = d.fnMask ∧
    (secEvent cause subject d).rings = d.rings ∧ (secEvent cause subject d).fnq = d.fnq ∧
    (secEvent cause subject d).dmaCh = d.dmaCh ∧ (secEvent cause subject d).recvBufs = d.recvBufs ∧
    (secEvent cause subject d).links = d.links ∧ (secEvent cause subject d).parityBad = d.parityBad ∧
    (secEvent cause subject d).mbox = d.mbox ∧ (secEvent cause subject d).waiting = d.waiting ∧
    (secEvent cause subject d).snaps = d.snaps ∧ (secEvent cause subject d).lastCtr = d.lastCtr ∧
    (secEvent cause subject d).authSeen = d.authSeen ∧ (secEvent cause subject d).tbs = d.tbs ∧
    (secEvent cause subject d).tenants = d.tenants ∧ (secEvent cause subject d).rrLast = d.rrLast ∧
    (secEvent cause subject d).sec = d.sec ∧ (secEvent cause subject d).pair = d.pair ∧
    (secEvent cause subject d).sess = d.sess ∧ (secEvent cause subject d).dsr = d.dsr ∧
    (secEvent cause subject d).chans = d.chans ∧ (secEvent cause subject d).wrd = d.wrd ∧
    (secEvent cause subject d).mem = d.mem ∧ (secEvent cause subject d).streams = d.streams ∧
    (secEvent cause subject d).tiles = d.tiles ∧ (secEvent cause subject d).loom = d.loom ∧
    (secEvent cause subject d).hold = d.hold ∧ (secEvent cause subject d).linPrm = d.linPrm ∧
    (secEvent cause subject d).ladder = d.ladder ∧ (secEvent cause subject d).pke = d.pke ∧
    (secEvent cause subject d).lib = d.lib ∧ (secEvent cause subject d).linings = d.linings ∧
    (secEvent cause subject d).pwr = d.pwr :=
  have h := (secEvent_keeps (m := 261) rfl (.refl d)).only
  ⟨(h .stage rfl).symm, (h .heldStitch rfl).symm, (h .emitted rfl).symm, (h .freeCtr rfl).symm, (h .rngCtr rfl).symm, (h .flt rfl).symm, (h .msix rfl).symm, (h .fnMask rfl).symm, (h .rings rfl).symm, (h .fnq rfl).symm, (h .dmaCh rfl).symm, (h .recvBufs rfl).symm, (h .links rfl).symm, (h .parityBad rfl).symm, (h .mbox rfl).symm, (h .waiting rfl).symm, (h .snaps rfl).symm, (h .lastCtr rfl).symm, (h .authSeen rfl).symm, (h .tbs rfl).symm, (h .tenants rfl).symm, (h .rrLast rfl).symm, (h .sec rfl).symm, (h .pair rfl).symm, (h .sess rfl).symm, (h .dsr rfl).symm, (h .chans rfl).symm, (h .wrd rfl).symm, (h .mem rfl).symm, (h .streams rfl).symm, (h .tiles rfl).symm, (h .loom rfl).symm, (h .hold rfl).symm, (h .linPrm rfl).symm, (h .ladder rfl).symm, (h .pke rfl).symm, (h .lib rfl).symm, (h .linings rfl).symm, (h .pwr rfl).symm⟩

@[simp] theorem postEvent_frame (fn : Nat) (ty : Nat) (kind : Nat) (code : Nat) (subject : Nat) (detail : Nat) (d : Dev) :
    (postEvent fn ty kind code subject detail d).regs = d.regs ∧
    (postEvent fn ty kind code subject detail d).stage = d.stage ∧
    (postEvent fn ty kind code subject detail d).heldStitch = d.heldStitch ∧
    (postEvent fn ty kind code subject detail d).freeCtr = d.freeCtr ∧
    (postEvent fn ty kind code subject detail d).rngCtr = d.rngCtr ∧
    (postEvent fn ty kind code subject detail d).flt = d.flt ∧ (postEvent fn ty kind code subject detail d).msix = d.msix ∧
    (postEvent fn ty kind code subject detail d).fnMask = d.fnMask ∧
    (postEvent fn ty kind code subject detail d).dmaCh = d.dmaCh ∧
    (postEvent fn ty kind code subject detail d).recvBufs = d.recvBufs ∧
    (postEvent fn ty kind code subject detail d).links = d.links ∧
    (postEvent fn ty kind code subject detail d).parityBad = d.parityBad ∧
    (postEvent fn ty kind code subject detail d).mbox = d.mbox ∧
    (postEvent fn ty kind code subject detail d).waiting = d.waiting ∧
    (postEvent fn ty kind code subject detail d).snaps = d.snaps ∧
    (postEvent fn ty kind code subject detail d).lastCtr = d.lastCtr ∧
    (postEvent fn ty kind code subject detail d).authSeen = d.authSeen ∧
    (postEvent fn ty kind code subject detail d).tbs = d.tbs ∧
    (postEvent fn ty kind code subject detail d).tenants = d.tenants ∧
    (postEvent fn ty kind code subject detail d).rrLast = d.rrLast ∧
    (postEvent fn ty kind code subject detail d).sec = d.sec ∧ (postEvent fn ty kind code subject detail d).pair = d.pair ∧
    (postEvent fn ty kind code subject detail d).sess = d.sess ∧ (postEvent fn ty kind code subject detail d).dsr = d.dsr ∧
    (postEvent fn ty kind code subject detail d).chans = d.chans ∧ (postEvent fn ty kind code subject detail d).wrd = d.wrd ∧
    (postEvent fn ty kind code subject detail d).mem = d.mem ∧
    (postEvent fn ty kind code subject detail d).streams = d.streams ∧
    (postEvent fn ty kind code subject detail d).tiles = d.tiles ∧
    (postEvent fn ty kind code subject detail d).loom = d.loom ∧ (postEvent fn ty kind code subject detail d).hold = d.hold ∧
    (postEvent fn ty kind code subject detail d).linPrm = d.linPrm ∧
    (postEvent fn ty kind code subject detail d).ladder = d.ladder ∧
    (postEvent fn ty kind code subject detail d).pke = d.pke ∧ (postEvent fn ty kind code subject detail d).lib = d.lib ∧
    (postEvent fn ty kind code subject detail d).linings = d.linings ∧
    (postEvent fn ty kind code subject detail d).pwr = d.pwr :=
  have h := (postEvent_keeps (m := 6420) rfl (.refl d)).only
  ⟨(h .regs rfl).symm, (h .stage rfl).symm, (h .heldStitch rfl).symm, (h .freeCtr rfl).symm, (h .rngCtr rfl).symm, (h .flt rfl).symm, (h .msix rfl).symm, (h .fnMask rfl).symm, (h .dmaCh rfl).symm, (h .recvBufs rfl).symm, (h .links rfl).symm, (h .parityBad rfl).symm, (h .mbox rfl).symm, (h .waiting rfl).symm, (h .snaps rfl).symm, (h .lastCtr rfl).symm, (h .authSeen rfl).symm, (h .tbs rfl).symm, (h .tenants rfl).symm, (h .rrLast rfl).symm, (h .sec rfl).symm, (h .pair rfl).symm, (h .sess rfl).symm, (h .dsr rfl).symm, (h .chans rfl).symm, (h .wrd rfl).symm, (h .mem rfl).symm, (h .streams rfl).symm, (h .tiles rfl).symm, (h .loom rfl).symm, (h .hold rfl).symm, (h .linPrm rfl).symm, (h .ladder rfl).symm, (h .pke rfl).symm, (h .lib rfl).symm, (h .linings rfl).symm, (h .pwr rfl).symm⟩

@[simp] theorem postTenant_frame (s : Nat) (ty : Nat) (kind : Nat) (code : Nat) (subject : Nat) (detail : Nat) (d : Dev) :
    (postTenant s ty kind code subject detail d).regs = d.regs ∧
    (postTenant s ty kind code subject detail d).stage = d.stage ∧
    (postTenant s ty kind code subject detail d).heldStitch = d.heldStitch ∧
    (postTenant s ty kind code subject detail d).freeCtr = d.freeCtr ∧
    (postTenant s ty kind code subject detail d).rngCtr = d.rngCtr ∧
    (postTenant s ty kind code subject detail d).flt = d.flt ∧ (postTenant s ty kind code subject detail d).msix = d.msix ∧
    (postTenant s ty kind code subject detail d).fnMask = d.fnMask ∧
    (postTenant s ty kind code subject detail d).dmaCh = d.dmaCh ∧
    (postTenant s ty kind code subject detail d).recvBufs = d.recvBufs ∧
    (postTenant s ty kind code subject detail d).links = d.links ∧
    (postTenant s ty kind code subject detail d).parityBad = d.parityBad ∧
    (postTenant s ty kind code subject detail d).mbox = d.mbox ∧
    (postTenant s ty kind code subject detail d).waiting = d.waiting ∧
    (postTenant s ty kind code subject detail d).snaps = d.snaps ∧
    (postTenant s ty kind code subject detail d).lastCtr = d.lastCtr ∧
    (postTenant s ty kind code subject detail d).authSeen = d.authSeen ∧
    (postTenant s ty kind code subject detail d).tbs = d.tbs ∧
    (postTenant s ty kind code subject detail d).tenants = d.tenants ∧
    (postTenant s ty kind code subject detail d).rrLast = d.rrLast ∧
    (postTenant s ty kind code subject detail d).sec = d.sec ∧ (postTenant s ty kind code subject detail d).pair = d.pair ∧
    (postTenant s ty kind code subject detail d).sess = d.sess ∧ (postTenant s ty kind code subject detail d).dsr = d.dsr ∧
    (postTenant s ty kind code subject detail d).chans = d.chans ∧ (postTenant s ty kind code subject detail d).wrd = d.wrd ∧
    (postTenant s ty kind code subject detail d).mem = d.mem ∧
    (postTenant s ty kind code subject detail d).streams = d.streams ∧
    (postTenant s ty kind code subject detail d).tiles = d.tiles ∧
    (postTenant s ty kind code subject detail d).loom = d.loom ∧ (postTenant s ty kind code subject detail d).hold = d.hold ∧
    (postTenant s ty kind code subject detail d).linPrm = d.linPrm ∧
    (postTenant s ty kind code subject detail d).ladder = d.ladder ∧
    (postTenant s ty kind code subject detail d).pke = d.pke ∧ (postTenant s ty kind code subject detail d).lib = d.lib ∧
    (postTenant s ty kind code subject detail d).linings = d.linings ∧
    (postTenant s ty kind code subject detail d).pwr = d.pwr :=
  have h := (postTenant_keeps (m := 6420) rfl (.refl d)).only
  ⟨(h .regs rfl).symm, (h .stage rfl).symm, (h .heldStitch rfl).symm, (h .freeCtr rfl).symm, (h .rngCtr rfl).symm, (h .flt rfl).symm, (h .msix rfl).symm, (h .fnMask rfl).symm, (h .dmaCh rfl).symm, (h .recvBufs rfl).symm, (h .links rfl).symm, (h .parityBad rfl).symm, (h .mbox rfl).symm, (h .waiting rfl).symm, (h .snaps rfl).symm, (h .lastCtr rfl).symm, (h .authSeen rfl).symm, (h .tbs rfl).symm, (h .tenants rfl).symm, (h .rrLast rfl).symm, (h .sec rfl).symm, (h .pair rfl).symm, (h .sess rfl).symm, (h .dsr rfl).symm, (h .chans rfl).symm, (h .wrd rfl).symm, (h .mem rfl).symm, (h .streams rfl).symm, (h .tiles rfl).symm, (h .loom rfl).symm, (h .hold rfl).symm, (h .linPrm rfl).symm, (h .ladder rfl).symm, (h .pke rfl).symm, (h .lib rfl).symm, (h .linings rfl).symm, (h .pwr rfl).symm⟩

@[simp] theorem regDrop_frame (who : Caller) (key : Nat) (e : Err) (d : Dev) :
    (regDrop who key e d).stage = d.stage ∧ (regDrop who key e d).objs = d.objs ∧
    (regDrop who key e d).heldStitch = d.heldStitch ∧ (regDrop who key e d).emitted = d.emitted ∧
    (regDrop who key e d).freeCtr = d.freeCtr ∧ (regDrop who key e d).rngCtr = d.rngCtr ∧ (regDrop who key e d).flt = d.flt ∧
    (regDrop who key e d).irq = d.irq ∧ (regDrop who key e d).msix = d.msix ∧ (regDrop who key e d).fnMask = d.fnMask ∧
    (regDrop who key e d).rings = d.rings ∧ (regDrop who key e d).fnq = d.fnq ∧ (regDrop who key e d).dmaCh = d.dmaCh ∧
    (regDrop who key e d).recvBufs = d.recvBufs ∧ (regDrop who key e d).links = d.links ∧
    (regDrop who key e d).parityBad = d.parityBad ∧ (regDrop who key e d).mbox = d.mbox ∧
    (regDrop who key e d).waiting = d.waiting ∧ (regDrop who key e d).snaps = d.snaps ∧
    (regDrop who key e d).lastCtr = d.lastCtr ∧ (regDrop who key e d).authSeen = d.authSeen ∧
    (regDrop who key e d).tbs = d.tbs ∧ (regDrop who key e d).tenants = d.tenants ∧ (regDrop who key e d).rrLast = d.rrLast ∧
    (regDrop who key e d).sec = d.sec ∧ (regDrop who key e d).pair = d.pair ∧ (regDrop who key e d).sess = d.sess ∧
    (regDrop who key e d).dsr = d.dsr ∧ (regDrop who key e d).chans = d.chans ∧ (regDrop who key e d).wrd = d.wrd ∧
    (regDrop who key e d).mem = d.mem ∧ (regDrop who key e d).streams = d.streams ∧ (regDrop who key e d).tiles = d.tiles ∧
    (regDrop who key e d).loom = d.loom ∧ (regDrop who key e d).hold = d.hold ∧ (regDrop who key e d).linPrm = d.linPrm ∧
    (regDrop who key e d).ladder = d.ladder ∧ (regDrop who key e d).pke = d.pke ∧ (regDrop who key e d).lib = d.lib ∧
    (regDrop who key e d).linings = d.linings ∧ (regDrop who key e d).pwr = d.pwr :=
  have h := (regDrop_keeps (m := 1) rfl (.refl d)).only
  ⟨(h .stage rfl).symm, (h .objs rfl).symm, (h .heldStitch rfl).symm, (h .emitted rfl).symm, (h .freeCtr rfl).symm, (h .rngCtr rfl).symm, (h .flt rfl).symm, (h .irq rfl).symm, (h .msix rfl).symm, (h .fnMask rfl).symm, (h .rings rfl).symm, (h .fnq rfl).symm, (h .dmaCh rfl).symm, (h .recvBufs rfl).symm, (h .links rfl).symm, (h .parityBad rfl).symm, (h .mbox rfl).symm, (h .waiting rfl).symm, (h .snaps rfl).symm, (h .lastCtr rfl).symm, (h .authSeen rfl).symm, (h .tbs rfl).symm, (h .tenants rfl).symm, (h .rrLast rfl).symm, (h .sec rfl).symm, (h .pair rfl).symm, (h .sess rfl).symm, (h .dsr rfl).symm, (h .chans rfl).symm, (h .wrd rfl).symm, (h .mem rfl).symm, (h .streams rfl).symm, (h .tiles rfl).symm, (h .loom rfl).symm, (h .hold rfl).symm, (h .linPrm rfl).symm, (h .ladder rfl).symm, (h .pke rfl).symm, (h .lib rfl).symm, (h .linings rfl).symm, (h .pwr rfl).symm⟩

@[simp] theorem holdUpdate_frame (d : Dev) :
    (holdUpdate d).stage = d.stage ∧ (holdUpdate d).objs = d.objs ∧ (holdUpdate d).heldStitch = d.heldStitch ∧
    (holdUpdate d).emitted = d.emitted ∧ (holdUpdate d).freeCtr = d.freeCtr ∧ (holdUpdate d).rngCtr = d.rngCtr ∧
    (holdUpdate d).flt = d.flt ∧ (holdUpdate d).irq = d.irq ∧ (holdUpdate d).msix = d.msix ∧
    (holdUpdate d).fnMask = d.fnMask ∧ (holdUpdate d).rings = d.rings ∧ (holdUpdate d).fnq = d.fnq ∧
    (holdUpdate d).dmaCh = d.dmaCh ∧ (holdUpdate d).recvBufs = d.recvBufs ∧ (holdUpdate d).links = d.links ∧
    (holdUpdate d).parityBad = d.parityBad ∧ (holdUpdate d).mbox = d.mbox ∧ (holdUpdate d).waiting = d.waiting ∧
    (holdUpdate d).snaps = d.snaps ∧ (holdUpdate d).lastCtr = d.lastCtr ∧ (holdUpdate d).authSeen = d.authSeen ∧
    (holdUpdate d).tbs = d.tbs ∧ (holdUpdate d).tenants = d.tenants ∧ (holdUpdate d).rrLast = d.rrLast ∧
    (holdUpdate d).sec = d.sec ∧ (holdUpdate d).pair = d.pair ∧ (holdUpdate d).sess = d.sess ∧ (holdUpdate d).dsr = d.dsr ∧
    (holdUpdate d).chans = d.chans ∧ (holdUpdate d).wrd = d.wrd ∧ (holdUpdate d).mem = d.mem ∧
    (holdUpdate d).streams = d.streams ∧ (holdUpdate d).tiles = d.tiles ∧ (holdUpdate d).loom = d.loom ∧
    (holdUpdate d).linPrm = d.linPrm ∧ (holdUpdate d).ladder = d.ladder ∧ (holdUpdate d).pke = d.pke ∧
    (holdUpdate d).lib = d.lib ∧ (holdUpdate d).linings = d.linings ∧ (holdUpdate d).pwr = d.pwr :=
  have h := (holdUpdate_keeps (m := 34359738369) rfl (.refl d)).only
  ⟨(h .stage rfl).symm, (h .objs rfl).symm, (h .heldStitch rfl).symm, (h .emitted rfl).symm, (h .freeCtr rfl).symm, (h .rngCtr rfl).symm, (h .flt rfl).symm, (h .irq rfl).symm, (h .msix rfl).symm, (h .fnMask rfl).symm, (h .rings rfl).symm, (h .fnq rfl).symm, (h .dmaCh rfl).symm, (h .recvBufs rfl).symm, (h .links rfl).symm, (h .parityBad rfl).symm, (h .mbox rfl).symm, (h .waiting rfl).symm, (h .snaps rfl).symm, (h .lastCtr rfl).symm, (h .authSeen rfl).symm, (h .tbs rfl).symm, (h .tenants rfl).symm, (h .rrLast rfl).symm, (h .sec rfl).symm, (h .pair rfl).symm, (h .sess rfl).symm, (h .dsr rfl).symm, (h .chans rfl).symm, (h .wrd rfl).symm, (h .mem rfl).symm, (h .streams rfl).symm, (h .tiles rfl).symm, (h .loom rfl).symm, (h .linPrm rfl).symm, (h .ladder rfl).symm, (h .pke rfl).symm, (h .lib rfl).symm, (h .linings rfl).symm, (h .pwr rfl).symm⟩

@[simp] theorem stopAll_frame (d : Dev) :
    (stopAll d).stage = d.stage ∧ (stopAll d).heldStitch = d.heldStitch ∧ (stopAll d).rngCtr = d.rngCtr ∧
    (stopAll d).flt = d.flt ∧ (stopAll d).msix = d.msix ∧ (stopAll d).fnMask = d.fnMask ∧ (stopAll d).rings = d.rings ∧
    (stopAll d).fnq = d.fnq ∧ (stopAll d).recvBufs = d.recvBufs ∧ (stopAll d).links = d.links ∧
    (stopAll d).parityBad = d.parityBad ∧ (stopAll d).mbox = d.mbox ∧ (stopAll d).waiting = d.waiting ∧
    (stopAll d).snaps = d.snaps ∧ (stopAll d).lastCtr = d.lastCtr ∧ (stopAll d).authSeen = d.authSeen ∧
    (stopAll d).tbs = d.tbs ∧ (stopAll d).tenants = d.tenants ∧ (stopAll d).rrLast = d.rrLast ∧ (stopAll d).sec = d.sec ∧
    (stopAll d).pair = d.pair ∧ (stopAll d).dsr = d.dsr ∧ (stopAll d).streams = d.streams ∧ (stopAll d).loom = d.loom ∧
    (stopAll d).hold = d.hold ∧ (stopAll d).linPrm = d.linPrm ∧ (stopAll d).ladder = d.ladder ∧ (stopAll d).pke = d.pke ∧
    (stopAll d).lib = d.lib ∧ (stopAll d).linings = d.linings ∧ (stopAll d).pwr = d.pwr :=
  have h := (stopAll_keeps (m := 12482257205) rfl (.refl d)).only
  ⟨(h .stage rfl).symm, (h .heldStitch rfl).symm, (h .rngCtr rfl).symm, (h .flt rfl).symm, (h .msix rfl).symm, (h .fnMask rfl).symm, (h .rings rfl).symm, (h .fnq rfl).symm, (h .recvBufs rfl).symm, (h .links rfl).symm, (h .parityBad rfl).symm, (h .mbox rfl).symm, (h .waiting rfl).symm, (h .snaps rfl).symm, (h .lastCtr rfl).symm, (h .authSeen rfl).symm, (h .tbs rfl).symm, (h .tenants rfl).symm, (h .rrLast rfl).symm, (h .sec rfl).symm, (h .pair rfl).symm, (h .dsr rfl).symm, (h .streams rfl).symm, (h .loom rfl).symm, (h .hold rfl).symm, (h .linPrm rfl).symm, (h .ladder rfl).symm, (h .pke rfl).symm, (h .lib rfl).symm, (h .linings rfl).symm, (h .pwr rfl).symm⟩

@[simp] theorem enterSafe_frame (cause : Nat) (d : Dev) :
    (enterSafe cause d).stage = d.stage ∧ (enterSafe cause d).heldStitch = d.heldStitch ∧
    (enterSafe cause d).rngCtr = d.rngCtr ∧ (enterSafe cause d).msix = d.msix ∧ (enterSafe cause d).fnMask = d.fnMask ∧
    (enterSafe cause d).rings = d.rings ∧ (enterSafe cause d).fnq = d.fnq ∧ (enterSafe cause d).recvBufs = d.recvBufs ∧
    (enterSafe cause d).links = d.links ∧ (enterSafe cause d).parityBad = d.parityBad ∧ (enterSafe cause d).mbox = d.mbox ∧
    (enterSafe cause d).waiting = d.waiting ∧ (enterSafe cause d).snaps = d.snaps ∧ (enterSafe cause d).lastCtr = d.lastCtr ∧
    (enterSafe cause d).authSeen = d.authSeen ∧ (enterSafe cause d).tbs = d.tbs ∧ (enterSafe cause d).tenants = d.tenants ∧
    (enterSafe cause d).rrLast = d.rrLast ∧ (enterSafe cause d).sec = d.sec ∧ (enterSafe cause d).pair = d.pair ∧
    (enterSafe cause d).dsr = d.dsr ∧ (enterSafe cause d).streams = d.streams ∧ (enterSafe cause d).loom = d.loom ∧
    (enterSafe cause d).linPrm = d.linPrm ∧ (enterSafe cause d).ladder = d.ladder ∧ (enterSafe cause d).pke = d.pke ∧
    (enterSafe cause d).lib = d.lib ∧ (enterSafe cause d).linings = d.linings ∧ (enterSafe cause d).pwr = d.pwr :=
  have h := (enterSafe_keeps (m := 46841995701) rfl (.refl d)).only
  ⟨(h .stage rfl).symm, (h .heldStitch rfl).symm, (h .rngCtr rfl).symm, (h .msix rfl).symm, (h .fnMask rfl).symm, (h .rings rfl).symm, (h .fnq rfl).symm, (h .recvBufs rfl).symm, (h .links rfl).symm, (h .parityBad rfl).symm, (h .mbox rfl).symm, (h .waiting rfl).symm, (h .snaps rfl).symm, (h .lastCtr rfl).symm, (h .authSeen rfl).symm, (h .tbs rfl).symm, (h .tenants rfl).symm, (h .rrLast rfl).symm, (h .sec rfl).symm, (h .pair rfl).symm, (h .dsr rfl).symm, (h .streams rfl).symm, (h .loom rfl).symm, (h .linPrm rfl).symm, (h .ladder rfl).symm, (h .pke rfl).symm, (h .lib rfl).symm, (h .linings rfl).symm, (h .pwr rfl).symm⟩

@[simp] theorem accept_frame (q : Req) (idx : Nat) (sub : Nat) (d : Dev) :
    (accept q idx sub d).stage = d.stage ∧ (accept q idx sub d).objs = d.objs ∧
    (accept q idx sub d).heldStitch = d.heldStitch ∧ (accept q idx sub d).freeCtr = d.freeCtr ∧
    (accept q idx sub d).rngCtr = d.rngCtr ∧ (accept q idx sub d).flt = d.flt ∧ (accept q idx sub d).msix = d.msix ∧
    (accept q idx sub d).fnMask = d.fnMask ∧ (accept q idx sub d).rings = d.rings ∧ (accept q idx sub d).fnq = d.fnq ∧
    (accept q idx sub d).dmaCh = d.dmaCh ∧ (accept q idx sub d).recvBufs = d.recvBufs ∧
    (accept q idx sub d).links = d.links ∧ (accept q idx sub d).parityBad = d.parityBad ∧
    (accept q idx sub d).snaps = d.snaps ∧ (accept q idx sub d).tbs = d.tbs ∧ (accept q idx sub d).tenants = d.tenants ∧
    (accept q idx sub d).rrLast = d.rrLast ∧ (accept q idx sub d).sec = d.sec ∧ (accept q idx sub d).pair = d.pair ∧
    (accept q idx sub d).sess = d.sess ∧ (accept q idx sub d).chans = d.chans ∧ (accept q idx sub d).wrd = d.wrd ∧
    (accept q idx sub d).mem = d.mem ∧ (accept q idx sub d).streams = d.streams ∧ (accept q idx sub d).tiles = d.tiles ∧
    (accept q idx sub d).loom = d.loom ∧ (accept q idx sub d).hold = d.hold ∧ (accept q idx sub d).linPrm = d.linPrm ∧
    (accept q idx sub d).ladder = d.ladder ∧ (accept q idx sub d).pke = d.pke ∧ (accept q idx sub d).lib = d.lib ∧
    (accept q idx sub d).linings = d.linings ∧ (accept q idx sub d).pwr = d.pwr :=
  have h := (accept_keeps (m := 271974673) rfl (.refl d)).only
  ⟨(h .stage rfl).symm, (h .objs rfl).symm, (h .heldStitch rfl).symm, (h .freeCtr rfl).symm, (h .rngCtr rfl).symm, (h .flt rfl).symm, (h .msix rfl).symm, (h .fnMask rfl).symm, (h .rings rfl).symm, (h .fnq rfl).symm, (h .dmaCh rfl).symm, (h .recvBufs rfl).symm, (h .links rfl).symm, (h .parityBad rfl).symm, (h .snaps rfl).symm, (h .tbs rfl).symm, (h .tenants rfl).symm, (h .rrLast rfl).symm, (h .sec rfl).symm, (h .pair rfl).symm, (h .sess rfl).symm, (h .chans rfl).symm, (h .wrd rfl).symm, (h .mem rfl).symm, (h .streams rfl).symm, (h .tiles rfl).symm, (h .loom rfl).symm, (h .hold rfl).symm, (h .linPrm rfl).symm, (h .ladder rfl).symm, (h .pke rfl).symm, (h .lib rfl).symm, (h .linings rfl).symm, (h .pwr rfl).symm⟩

@[simp] theorem respond_frame (q : Req) (op : Nat) (e : Err) (idx : Nat) (sub : Nat) (off : Nat) (total : Nat) (len : Nat) (payload : Nat) (d : Dev) :
    (respond q op e idx sub off total len payload d).stage = d.stage ∧
    (respond q op e idx sub off total len payload d).objs = d.objs ∧
    (respond q op e idx sub off total len payload d).heldStitch = d.heldStitch ∧
    (respond q op e idx sub off total len payload d).freeCtr = d.freeCtr ∧
    (respond q op e idx sub off total len payload d).rngCtr = d.rngCtr ∧
    (respond q op e idx sub off total len payload d).flt = d.flt ∧
    (respond q op e idx sub off total len payload d).msix = d.msix ∧
    (respond q op e idx sub off total len payload d).fnMask = d.fnMask ∧
    (respond q op e idx sub off total len payload d).rings = d.rings ∧
    (respond q op e idx sub off total len payload d).fnq = d.fnq ∧
    (respond q op e idx sub off total len payload d).dmaCh = d.dmaCh ∧
    (respond q op e idx sub off total len payload d).recvBufs = d.recvBufs ∧
    (respond q op e idx sub off total len payload d).links = d.links ∧
    (respond q op e idx sub off total len payload d).parityBad = d.parityBad ∧
    (respond q op e idx sub off total len payload d).snaps = d.snaps ∧
    (respond q op e idx sub off total len payload d).lastCtr = d.lastCtr ∧
    (respond q op e idx sub off total len payload d).authSeen = d.authSeen ∧
    (respond q op e idx sub off total len payload d).tbs = d.tbs ∧
    (respond q op e idx sub off total len payload d).tenants = d.tenants ∧
    (respond q op e idx sub off total len payload d).rrLast = d.rrLast ∧
    (respond q op e idx sub off total len payload d).sec = d.sec ∧
    (respond q op e idx sub off total len payload d).pair = d.pair ∧
    (respond q op e idx sub off total len payload d).sess = d.sess ∧
    (respond q op e idx sub off total len payload d).chans = d.chans ∧
    (respond q op e idx sub off total len payload d).wrd = d.wrd ∧
    (respond q op e idx sub off total len payload d).mem = d.mem ∧
    (respond q op e idx sub off total len payload d).streams = d.streams ∧
    (respond q op e idx sub off total len payload d).tiles = d.tiles ∧
    (respond q op e idx sub off total len payload d).loom = d.loom ∧
    (respond q op e idx sub off total len payload d).hold = d.hold ∧
    (respond q op e idx sub off total len payload d).linPrm = d.linPrm ∧
    (respond q op e idx sub off total len payload d).ladder = d.ladder ∧
    (respond q op e idx sub off total len payload d).pke = d.pke ∧
    (respond q op e idx sub off total len payload d).lib = d.lib ∧
    (respond q op e idx sub off total len payload d).linings = d.linings ∧
    (respond q op e idx sub off total len payload d).pwr = d.pwr :=
  have h := (respond_keeps (m := 268828945) rfl (.refl d)).only
  ⟨(h .stage rfl).symm, (h .objs rfl).symm, (h .heldStitch rfl).symm, (h .freeCtr rfl).symm, (h .rngCtr rfl).symm, (h .flt rfl).symm, (h .msix rfl).symm, (h .fnMask rfl).symm, (h .rings rfl).symm, (h .fnq rfl).symm, (h .dmaCh rfl).symm, (h .recvBufs rfl).symm, (h .links rfl).symm, (h .parityBad rfl).symm, (h .snaps rfl).symm, (h .lastCtr rfl).symm, (h .authSeen rfl).symm, (h .tbs rfl).symm, (h .tenants rfl).symm, (h .rrLast rfl).symm, (h .sec rfl).symm, (h .pair rfl).symm, (h .sess rfl).symm, (h .chans rfl).symm, (h .wrd rfl).symm, (h .mem rfl).symm, (h .streams rfl).symm, (h .tiles rfl).symm, (h .loom rfl).symm, (h .hold rfl).symm, (h .linPrm rfl).symm, (h .ladder rfl).symm, (h .pke rfl).symm, (h .lib rfl).symm, (h .linings rfl).symm, (h .pwr rfl).symm⟩

@[simp] theorem refuse_frame (q : Req) (idx : Nat) (sub : Nat) (e : Err) (d : Dev) :
    (refuse q idx sub e d).stage = d.stage ∧ (refuse q idx sub e d).heldStitch = d.heldStitch ∧
    (refuse q idx sub e d).freeCtr = d.freeCtr ∧ (refuse q idx sub e d).rngCtr = d.rngCtr ∧
    (refuse q idx sub e d).flt = d.flt ∧ (refuse q idx sub e d).msix = d.msix ∧ (refuse q idx sub e d).fnMask = d.fnMask ∧
    (refuse q idx sub e d).rings = d.rings ∧ (refuse q idx sub e d).fnq = d.fnq ∧ (refuse q idx sub e d).dmaCh = d.dmaCh ∧
    (refuse q idx sub e d).recvBufs = d.recvBufs ∧ (refuse q idx sub e d).links = d.links ∧
    (refuse q idx sub e d).parityBad = d.parityBad ∧ (refuse q idx sub e d).snaps = d.snaps ∧
    (refuse q idx sub e d).lastCtr = d.lastCtr ∧ (refuse q idx sub e d).tbs = d.tbs ∧
    (refuse q idx sub e d).tenants = d.tenants ∧ (refuse q idx sub e d).rrLast = d.rrLast ∧
    (refuse q idx sub e d).sec = d.sec ∧ (refuse q idx sub e d).pair = d.pair ∧ (refuse q idx sub e d).sess = d.sess ∧
    (refuse q idx sub e d).chans = d.chans ∧ (refuse q idx sub e d).wrd = d.wrd ∧ (refuse q idx sub e d).mem = d.mem ∧
    (refuse q idx sub e d).streams = d.streams ∧ (refuse q idx sub e d).tiles = d.tiles ∧
    (refuse q idx sub e d).loom = d.loom ∧ (refuse q idx sub e d).hold = d.hold ∧ (refuse q idx sub e d).linPrm = d.linPrm ∧
    (refuse q idx sub e d).ladder = d.ladder ∧ (refuse q idx sub e d).pke = d.pke ∧ (refuse q idx sub e d).lib = d.lib ∧
    (refuse q idx sub e d).linings = d.linings ∧ (refuse q idx sub e d).pwr = d.pwr :=
  have h := (refuse_keeps (m := 270926101) rfl (.refl d)).only
  ⟨(h .stage rfl).symm, (h .heldStitch rfl).symm, (h .freeCtr rfl).symm, (h .rngCtr rfl).symm, (h .flt rfl).symm, (h .msix rfl).symm, (h .fnMask rfl).symm, (h .rings rfl).symm, (h .fnq rfl).symm, (h .dmaCh rfl).symm, (h .recvBufs rfl).symm, (h .links rfl).symm, (h .parityBad rfl).symm, (h .snaps rfl).symm, (h .lastCtr rfl).symm, (h .tbs rfl).symm, (h .tenants rfl).symm, (h .rrLast rfl).symm, (h .sec rfl).symm, (h .pair rfl).symm, (h .sess rfl).symm, (h .chans rfl).symm, (h .wrd rfl).symm, (h .mem rfl).symm, (h .streams rfl).symm, (h .tiles rfl).symm, (h .loom rfl).symm, (h .hold rfl).symm, (h .linPrm rfl).symm, (h .ladder rfl).symm, (h .pke rfl).symm, (h .lib rfl).symm, (h .linings rfl).symm, (h .pwr rfl).symm⟩

@[simp] theorem acceptAll_frame (rs : List Report) (d : Dev) :
    (acceptAll rs d).stage = d.stage ∧ (acceptAll rs d).heldStitch = d.heldStitch ∧ (acceptAll rs d).rngCtr = d.rngCtr ∧
    (acceptAll rs d).msix = d.msix ∧ (acceptAll rs d).fnMask = d.fnMask ∧ (acceptAll rs d).rings = d.rings ∧
    (acceptAll rs d).fnq = d.fnq ∧ (acceptAll rs d).recvBufs = d.recvBufs ∧ (acceptAll rs d).links = d.links ∧
    (acceptAll rs d).parityBad = d.parityBad ∧ (acceptAll rs d).mbox = d.mbox ∧ (acceptAll rs d).waiting = d.waiting ∧
    (acceptAll rs d).snaps = d.snaps ∧ (acceptAll rs d).lastCtr = d.lastCtr ∧ (acceptAll rs d).authSeen = d.authSeen ∧
    (acceptAll rs d).tbs = d.tbs ∧ (acceptAll rs d).tenants = d.tenants ∧ (acceptAll rs d).rrLast = d.rrLast ∧
    (acceptAll rs d).sec = d.sec ∧ (acceptAll rs d).pair = d.pair ∧ (acceptAll rs d).dsr = d.dsr ∧
    (acceptAll rs d).streams = d.streams ∧ (acceptAll rs d).loom = d.loom ∧ (acceptAll rs d).linPrm = d.linPrm ∧
    (acceptAll rs d).ladder = d.ladder ∧ (acceptAll rs d).pke = d.pke ∧ (acceptAll rs d).lib = d.lib ∧
    (acceptAll rs d).linings = d.linings ∧ (acceptAll rs d).pwr = d.pwr :=
  have h := (acceptAll_keeps (m := 46841995701) rfl (.refl d)).only
  ⟨(h .stage rfl).symm, (h .heldStitch rfl).symm, (h .rngCtr rfl).symm, (h .msix rfl).symm, (h .fnMask rfl).symm, (h .rings rfl).symm, (h .fnq rfl).symm, (h .recvBufs rfl).symm, (h .links rfl).symm, (h .parityBad rfl).symm, (h .mbox rfl).symm, (h .waiting rfl).symm, (h .snaps rfl).symm, (h .lastCtr rfl).symm, (h .authSeen rfl).symm, (h .tbs rfl).symm, (h .tenants rfl).symm, (h .rrLast rfl).symm, (h .sec rfl).symm, (h .pair rfl).symm, (h .dsr rfl).symm, (h .streams rfl).symm, (h .loom rfl).symm, (h .linPrm rfl).symm, (h .ladder rfl).symm, (h .pke rfl).symm, (h .lib rfl).symm, (h .linings rfl).symm, (h .pwr rfl).symm⟩

@[simp] theorem clearLast_frame (ctx : Nat) (d : Dev) :
    (clearLast ctx d).regs = d.regs ∧ (clearLast ctx d).stage = d.stage ∧ (clearLast ctx d).objs = d.objs ∧
    (clearLast ctx d).heldStitch = d.heldStitch ∧ (clearLast ctx d).emitted = d.emitted ∧
    (clearLast ctx d).freeCtr = d.freeCtr ∧ (clearLast ctx d).rngCtr = d.rngCtr ∧ (clearLast ctx d).flt = d.flt ∧
    (clearLast ctx d).irq = d.irq ∧ (clearLast ctx d).msix = d.msix ∧ (clearLast ctx d).fnMask = d.fnMask ∧
    (clearLast ctx d).rings = d.rings ∧ (clearLast ctx d).fnq = d.fnq ∧ (clearLast ctx d).dmaCh = d.dmaCh ∧
    (clearLast ctx d).recvBufs = d.recvBufs ∧ (clearLast ctx d).links = d.links ∧ (clearLast ctx d).parityBad = d.parityBad ∧
    (clearLast ctx d).mbox = d.mbox ∧ (clearLast ctx d).waiting = d.waiting ∧ (clearLast ctx d).snaps = d.snaps ∧
    (clearLast ctx d).tbs = d.tbs ∧ (clearLast ctx d).tenants = d.tenants ∧ (clearLast ctx d).rrLast = d.rrLast ∧
    (clearLast ctx d).sec = d.sec ∧ (clearLast ctx d).pair = d.pair ∧ (clearLast ctx d).sess = d.sess ∧
    (clearLast ctx d).dsr = d.dsr ∧ (clearLast ctx d).chans = d.chans ∧ (clearLast ctx d).wrd = d.wrd ∧
    (clearLast ctx d).mem = d.mem ∧ (clearLast ctx d).streams = d.streams ∧ (clearLast ctx d).tiles = d.tiles ∧
    (clearLast ctx d).loom = d.loom ∧ (clearLast ctx d).hold = d.hold ∧ (clearLast ctx d).linPrm = d.linPrm ∧
    (clearLast ctx d).ladder = d.ladder ∧ (clearLast ctx d).pke = d.pke ∧ (clearLast ctx d).lib = d.lib ∧
    (clearLast ctx d).linings = d.linings ∧ (clearLast ctx d).pwr = d.pwr :=
  have h := (clearLast_keeps (m := 3145728) rfl (.refl d)).only
  ⟨(h .regs rfl).symm, (h .stage rfl).symm, (h .objs rfl).symm, (h .heldStitch rfl).symm, (h .emitted rfl).symm, (h .freeCtr rfl).symm, (h .rngCtr rfl).symm, (h .flt rfl).symm, (h .irq rfl).symm, (h .msix rfl).symm, (h .fnMask rfl).symm, (h .rings rfl).symm, (h .fnq rfl).symm, (h .dmaCh rfl).symm, (h .recvBufs rfl).symm, (h .links rfl).symm, (h .parityBad rfl).symm, (h .mbox rfl).symm, (h .waiting rfl).symm, (h .snaps rfl).symm, (h .tbs rfl).symm, (h .tenants rfl).symm, (h .rrLast rfl).symm, (h .sec rfl).symm, (h .pair rfl).symm, (h .sess rfl).symm, (h .dsr rfl).symm, (h .chans rfl).symm, (h .wrd rfl).symm, (h .mem rfl).symm, (h .streams rfl).symm, (h .tiles rfl).symm, (h .loom rfl).symm, (h .hold rfl).symm, (h .linPrm rfl).symm, (h .ladder rfl).symm, (h .pke rfl).symm, (h .lib rfl).symm, (h .linings rfl).symm, (h .pwr rfl).symm⟩

@[simp] theorem setLast_frame (who : Caller) (c : Crit) (d : Dev) :
    (setLast who c d).regs = d.regs ∧ (setLast who c d).stage = d.stage ∧ (setLast who c d).objs = d.objs ∧
    (setLast who c d).heldStitch = d.heldStitch ∧ (setLast who c d).emitted = d.emitted ∧
    (setLast who c d).freeCtr = d.freeCtr ∧ (setLast who c d).rngCtr = d.rngCtr ∧ (setLast who c d).flt = d.flt ∧
    (setLast who c d).irq = d.irq ∧ (setLast who c d).msix = d.msix ∧ (setLast who c d).fnMask = d.fnMask ∧
    (setLast who c d).rings = d.rings ∧ (setLast who c d).fnq = d.fnq ∧ (setLast who c d).dmaCh = d.dmaCh ∧
    (setLast who c d).recvBufs = d.recvBufs ∧ (setLast who c d).links = d.links ∧ (setLast who c d).parityBad = d.parityBad ∧
    (setLast who c d).mbox = d.mbox ∧ (setLast who c d).waiting = d.waiting ∧ (setLast who c d).snaps = d.snaps ∧
    (setLast who c d).tbs = d.tbs ∧ (setLast who c d).tenants = d.tenants ∧ (setLast who c d).rrLast = d.rrLast ∧
    (setLast who c d).sec = d.sec ∧ (setLast who c d).pair = d.pair ∧ (setLast who c d).sess = d.sess ∧
    (setLast who c d).dsr = d.dsr ∧ (setLast who c d).chans = d.chans ∧ (setLast who c d).wrd = d.wrd ∧
    (setLast who c d).mem = d.mem ∧ (setLast who c d).streams = d.streams ∧ (setLast who c d).tiles = d.tiles ∧
    (setLast who c d).loom = d.loom ∧ (setLast who c d).hold = d.hold ∧ (setLast who c d).linPrm = d.linPrm ∧
    (setLast who c d).ladder = d.ladder ∧ (setLast who c d).pke = d.pke ∧ (setLast who c d).lib = d.lib ∧
    (setLast who c d).linings = d.linings ∧ (setLast who c d).pwr = d.pwr :=
  have h := (setLast_keeps (m := 3145728) rfl (.refl d)).only
  ⟨(h .regs rfl).symm, (h .stage rfl).symm, (h .objs rfl).symm, (h .heldStitch rfl).symm, (h .emitted rfl).symm, (h .freeCtr rfl).symm, (h .rngCtr rfl).symm, (h .flt rfl).symm, (h .irq rfl).symm, (h .msix rfl).symm, (h .fnMask rfl).symm, (h .rings rfl).symm, (h .fnq rfl).symm, (h .dmaCh rfl).symm, (h .recvBufs rfl).symm, (h .links rfl).symm, (h .parityBad rfl).symm, (h .mbox rfl).symm, (h .waiting rfl).symm, (h .snaps rfl).symm, (h .tbs rfl).symm, (h .tenants rfl).symm, (h .rrLast rfl).symm, (h .sec rfl).symm, (h .pair rfl).symm, (h .sess rfl).symm, (h .dsr rfl).symm, (h .chans rfl).symm, (h .wrd rfl).symm, (h .mem rfl).symm, (h .streams rfl).symm, (h .tiles rfl).symm, (h .loom rfl).symm, (h .hold rfl).symm, (h .linPrm rfl).symm, (h .ladder rfl).symm, (h .pke rfl).symm, (h .lib rfl).symm, (h .linings rfl).symm, (h .pwr rfl).symm⟩

@[simp] theorem updTile_frame (t : Nat) (f : Tile → Tile) (d : Dev) :
    (updTile t f d).regs = d.regs ∧ (updTile t f d).stage = d.stage ∧ (updTile t f d).objs = d.objs ∧
    (updTile t f d).heldStitch = d.heldStitch ∧ (updTile t f d).emitted = d.emitted ∧ (updTile t f d).freeCtr = d.freeCtr ∧
    (updTile t f d).rngCtr = d.rngCtr ∧ (updTile t f d).flt = d.flt ∧ (updTile t f d).irq = d.irq ∧
    (updTile t f d).msix = d.msix ∧ (updTile t f d).fnMask = d.fnMask ∧ (updTile t f d).rings = d.rings ∧
    (updTile t f d).fnq = d.fnq ∧ (updTile t f d).dmaCh = d.dmaCh ∧ (updTile t f d).recvBufs = d.recvBufs ∧
    (updTile t f d).links = d.links ∧ (updTile t f d).parityBad = d.parityBad ∧ (updTile t f d).mbox = d.mbox ∧
    (updTile t f d).waiting = d.waiting ∧ (updTile t f d).snaps = d.snaps ∧ (updTile t f d).lastCtr = d.lastCtr ∧
    (updTile t f d).authSeen = d.authSeen ∧ (updTile t f d).tbs = d.tbs ∧ (updTile t f d).tenants = d.tenants ∧
    (updTile t f d).rrLast = d.rrLast ∧ (updTile t f d).sec = d.sec ∧ (updTile t f d).pair = d.pair ∧
    (updTile t f d).sess = d.sess ∧ (updTile t f d).dsr = d.dsr ∧ (updTile t f d).chans = d.chans ∧
    (updTile t f d).wrd = d.wrd ∧ (updTile t f d).mem = d.mem ∧ (updTile t f d).streams = d.streams ∧
    (updTile t f d).loom = d.loom ∧ (updTile t f d).hold = d.hold ∧ (updTile t f d).linPrm = d.linPrm ∧
    (updTile t f d).ladder = d.ladder ∧ (updTile t f d).pke = d.pke ∧ (updTile t f d).lib = d.lib ∧
    (updTile t f d).linings = d.linings ∧ (updTile t f d).pwr = d.pwr :=
  have h := (updTile_keeps (m := 8589934592) rfl (.refl d)).only
  ⟨(h .regs rfl).symm, (h .stage rfl).symm, (h .objs rfl).symm, (h .heldStitch rfl).symm, (h .emitted rfl).symm, (h .freeCtr rfl).symm, (h .rngCtr rfl).symm, (h .flt rfl).symm, (h .irq rfl).symm, (h .msix rfl).symm, (h .fnMask rfl).symm, (h .rings rfl).symm, (h .fnq rfl).symm, (h .dmaCh rfl).symm, (h .recvBufs rfl).symm, (h .links rfl).symm, (h .parityBad rfl).symm, (h .mbox rfl).symm, (h .waiting rfl).symm, (h .snaps rfl).symm, (h .lastCtr rfl).symm, (h .authSeen rfl).symm, (h .tbs rfl).symm, (h .tenants rfl).symm, (h .rrLast rfl).symm, (h .sec rfl).symm, (h .pair rfl).symm, (h .sess rfl).symm, (h .dsr rfl).symm, (h .chans rfl).symm, (h .wrd rfl).symm, (h .mem rfl).symm, (h .streams rfl).symm, (h .loom rfl).symm, (h .hold rfl).symm, (h .linPrm rfl).symm, (h .ladder rfl).symm, (h .pke rfl).symm, (h .lib rfl).symm, (h .linings rfl).symm, (h .pwr rfl).symm⟩

@[simp] theorem updStream_frame (sid : Nat) (f : Stream → Stream) (d : Dev) :
    (updStream sid f d).regs = d.regs ∧ (updStream sid f d).stage = d.stage ∧ (updStream sid f d).objs = d.objs ∧
    (updStream sid f d).heldStitch = d.heldStitch ∧ (updStream sid f d).emitted = d.emitted ∧
    (updStream sid f d).freeCtr = d.freeCtr ∧ (updStream sid f d).rngCtr = d.rngCtr ∧ (updStream sid f d).flt = d.flt ∧
    (updStream sid f d).irq = d.irq ∧ (updStream sid f d).msix = d.msix ∧ (updStream sid f d).fnMask = d.fnMask ∧
    (updStream sid f d).rings = d.rings ∧ (updStream sid f d).fnq = d.fnq ∧ (updStream sid f d).dmaCh = d.dmaCh ∧
    (updStream sid f d).recvBufs = d.recvBufs ∧ (updStream sid f d).links = d.links ∧
    (updStream sid f d).parityBad = d.parityBad ∧ (updStream sid f d).mbox = d.mbox ∧
    (updStream sid f d).waiting = d.waiting ∧ (updStream sid f d).snaps = d.snaps ∧ (updStream sid f d).lastCtr = d.lastCtr ∧
    (updStream sid f d).authSeen = d.authSeen ∧ (updStream sid f d).tbs = d.tbs ∧ (updStream sid f d).tenants = d.tenants ∧
    (updStream sid f d).rrLast = d.rrLast ∧ (updStream sid f d).sec = d.sec ∧ (updStream sid f d).pair = d.pair ∧
    (updStream sid f d).sess = d.sess ∧ (updStream sid f d).dsr = d.dsr ∧ (updStream sid f d).chans = d.chans ∧
    (updStream sid f d).wrd = d.wrd ∧ (updStream sid f d).mem = d.mem ∧ (updStream sid f d).tiles = d.tiles ∧
    (updStream sid f d).loom = d.loom ∧ (updStream sid f d).hold = d.hold ∧ (updStream sid f d).linPrm = d.linPrm ∧
    (updStream sid f d).ladder = d.ladder ∧ (updStream sid f d).pke = d.pke ∧ (updStream sid f d).lib = d.lib ∧
    (updStream sid f d).linings = d.linings ∧ (updStream sid f d).pwr = d.pwr :=
  have h := (updStream_keeps (m := 4294967296) rfl (.refl d)).only
  ⟨(h .regs rfl).symm, (h .stage rfl).symm, (h .objs rfl).symm, (h .heldStitch rfl).symm, (h .emitted rfl).symm, (h .freeCtr rfl).symm, (h .rngCtr rfl).symm, (h .flt rfl).symm, (h .irq rfl).symm, (h .msix rfl).symm, (h .fnMask rfl).symm, (h .rings rfl).symm, (h .fnq rfl).symm, (h .dmaCh rfl).symm, (h .recvBufs rfl).symm, (h .links rfl).symm, (h .parityBad rfl).symm, (h .mbox rfl).symm, (h .waiting rfl).symm, (h .snaps rfl).symm, (h .lastCtr rfl).symm, (h .authSeen rfl).symm, (h .tbs rfl).symm, (h .tenants rfl).symm, (h .rrLast rfl).symm, (h .sec rfl).symm, (h .pair rfl).symm, (h .sess rfl).symm, (h .dsr rfl).symm, (h .chans rfl).symm, (h .wrd rfl).symm, (h .mem rfl).symm, (h .tiles rfl).symm, (h .loom rfl).symm, (h .hold rfl).symm, (h .linPrm rfl).symm, (h .ladder rfl).symm, (h .pke rfl).symm, (h .lib rfl).symm, (h .linings rfl).symm, (h .pwr rfl).symm⟩

@[simp] theorem updFrame_frame (sid : Nat) (c : Nat) (g : Frame → Frame) (d : Dev) :
    (updFrame sid c g d).regs = d.regs ∧ (updFrame sid c g d).stage = d.stage ∧ (updFrame sid c g d).objs = d.objs ∧
    (updFrame sid c g d).heldStitch = d.heldStitch ∧ (updFrame sid c g d).emitted = d.emitted ∧
    (updFrame sid c g d).freeCtr = d.freeCtr ∧ (updFrame sid c g d).rngCtr = d.rngCtr ∧ (updFrame sid c g d).flt = d.flt ∧
    (updFrame sid c g d).irq = d.irq ∧ (updFrame sid c g d).msix = d.msix ∧ (updFrame sid c g d).fnMask = d.fnMask ∧
    (updFrame sid c g d).rings = d.rings ∧ (updFrame sid c g d).fnq = d.fnq ∧ (updFrame sid c g d).dmaCh = d.dmaCh ∧
    (updFrame sid c g d).recvBufs = d.recvBufs ∧ (updFrame sid c g d).links = d.links ∧
    (updFrame sid c g d).parityBad = d.parityBad ∧ (updFrame sid c g d).mbox = d.mbox ∧
    (updFrame sid c g d).waiting = d.waiting ∧ (updFrame sid c g d).snaps = d.snaps ∧
    (updFrame sid c g d).lastCtr = d.lastCtr ∧ (updFrame sid c g d).authSeen = d.authSeen ∧
    (updFrame sid c g d).tbs = d.tbs ∧ (updFrame sid c g d).tenants = d.tenants ∧ (updFrame sid c g d).rrLast = d.rrLast ∧
    (updFrame sid c g d).sec = d.sec ∧ (updFrame sid c g d).pair = d.pair ∧ (updFrame sid c g d).sess = d.sess ∧
    (updFrame sid c g d).dsr = d.dsr ∧ (updFrame sid c g d).chans = d.chans ∧ (updFrame sid c g d).wrd = d.wrd ∧
    (updFrame sid c g d).mem = d.mem ∧ (updFrame sid c g d).tiles = d.tiles ∧ (updFrame sid c g d).loom = d.loom ∧
    (updFrame sid c g d).hold = d.hold ∧ (updFrame sid c g d).linPrm = d.linPrm ∧ (updFrame sid c g d).ladder = d.ladder ∧
    (updFrame sid c g d).pke = d.pke ∧ (updFrame sid c g d).lib = d.lib ∧ (updFrame sid c g d).linings = d.linings ∧
    (updFrame sid c g d).pwr = d.pwr :=
  have h := (updFrame_keeps (m := 4294967296) rfl (.refl d)).only
  ⟨(h .regs rfl).symm, (h .stage rfl).symm, (h .objs rfl).symm, (h .heldStitch rfl).symm, (h .emitted rfl).symm, (h .freeCtr rfl).symm, (h .rngCtr rfl).symm, (h .flt rfl).symm, (h .irq rfl).symm, (h .msix rfl).symm, (h .fnMask rfl).symm, (h .rings rfl).symm, (h .fnq rfl).symm, (h .dmaCh rfl).symm, (h .recvBufs rfl).symm, (h .links rfl).symm, (h .parityBad rfl).symm, (h .mbox rfl).symm, (h .waiting rfl).symm, (h .snaps rfl).symm, (h .lastCtr rfl).symm, (h .authSeen rfl).symm, (h .tbs rfl).symm, (h .tenants rfl).symm, (h .rrLast rfl).symm, (h .sec rfl).symm, (h .pair rfl).symm, (h .sess rfl).symm, (h .dsr rfl).symm, (h .chans rfl).symm, (h .wrd rfl).symm, (h .mem rfl).symm, (h .tiles rfl).symm, (h .loom rfl).symm, (h .hold rfl).symm, (h .linPrm rfl).symm, (h .ladder rfl).symm, (h .pke rfl).symm, (h .lib rfl).symm, (h .linings rfl).symm, (h .pwr rfl).symm⟩

@[simp] theorem updBand_frame (sid : Nat) (c : Nat) (b : Nat) (g : Band → Band) (d : Dev) :
    (updBand sid c b g d).regs = d.regs ∧ (updBand sid c b g d).stage = d.stage ∧ (updBand sid c b g d).objs = d.objs ∧
    (updBand sid c b g d).heldStitch = d.heldStitch ∧ (updBand sid c b g d).emitted = d.emitted ∧
    (updBand sid c b g d).freeCtr = d.freeCtr ∧ (updBand sid c b g d).rngCtr = d.rngCtr ∧ (updBand sid c b g d).flt = d.flt ∧
    (updBand sid c b g d).irq = d.irq ∧ (updBand sid c b g d).msix = d.msix ∧ (updBand sid c b g d).fnMask = d.fnMask ∧
    (updBand sid c b g d).rings = d.rings ∧ (updBand sid c b g d).fnq = d.fnq ∧ (updBand sid c b g d).dmaCh = d.dmaCh ∧
    (updBand sid c b g d).recvBufs = d.recvBufs ∧ (updBand sid c b g d).links = d.links ∧
    (updBand sid c b g d).parityBad = d.parityBad ∧ (updBand sid c b g d).mbox = d.mbox ∧
    (updBand sid c b g d).waiting = d.waiting ∧ (updBand sid c b g d).snaps = d.snaps ∧
    (updBand sid c b g d).lastCtr = d.lastCtr ∧ (updBand sid c b g d).authSeen = d.authSeen ∧
    (updBand sid c b g d).tbs = d.tbs ∧ (updBand sid c b g d).tenants = d.tenants ∧ (updBand sid c b g d).rrLast = d.rrLast ∧
    (updBand sid c b g d).sec = d.sec ∧ (updBand sid c b g d).pair = d.pair ∧ (updBand sid c b g d).sess = d.sess ∧
    (updBand sid c b g d).dsr = d.dsr ∧ (updBand sid c b g d).chans = d.chans ∧ (updBand sid c b g d).wrd = d.wrd ∧
    (updBand sid c b g d).mem = d.mem ∧ (updBand sid c b g d).tiles = d.tiles ∧ (updBand sid c b g d).loom = d.loom ∧
    (updBand sid c b g d).hold = d.hold ∧ (updBand sid c b g d).linPrm = d.linPrm ∧ (updBand sid c b g d).ladder = d.ladder ∧
    (updBand sid c b g d).pke = d.pke ∧ (updBand sid c b g d).lib = d.lib ∧ (updBand sid c b g d).linings = d.linings ∧
    (updBand sid c b g d).pwr = d.pwr :=
  have h := (updBand_keeps (m := 4294967296) rfl (.refl d)).only
  ⟨(h .regs rfl).symm, (h .stage rfl).symm, (h .objs rfl).symm, (h .heldStitch rfl).symm, (h .emitted rfl).symm, (h .freeCtr rfl).symm, (h .rngCtr rfl).symm, (h .flt rfl).symm, (h .irq rfl).symm, (h .msix rfl).symm, (h .fnMask rfl).symm, (h .rings rfl).symm, (h .fnq rfl).symm, (h .dmaCh rfl).symm, (h .recvBufs rfl).symm, (h .links rfl).symm, (h .parityBad rfl).symm, (h .mbox rfl).symm, (h .waiting rfl).symm, (h .snaps rfl).symm, (h .lastCtr rfl).symm, (h .authSeen rfl).symm, (h .tbs rfl).symm, (h .tenants rfl).symm, (h .rrLast rfl).symm, (h .sec rfl).symm, (h .pair rfl).symm, (h .sess rfl).symm, (h .dsr rfl).symm, (h .chans rfl).symm, (h .wrd rfl).symm, (h .mem rfl).symm, (h .tiles rfl).symm, (h .loom rfl).symm, (h .hold rfl).symm, (h .linPrm rfl).symm, (h .ladder rfl).symm, (h .pke rfl).symm, (h .lib rfl).symm, (h .linings rfl).symm, (h .pwr rfl).symm⟩

@[simp] theorem updDest_frame (s : Nat) (e : Nat) (f : Dest → Dest) (d : Dev) :
    (updDest s e f d).regs = d.regs ∧ (updDest s e f d).stage = d.stage ∧ (updDest s e f d).objs = d.objs ∧
    (updDest s e f d).heldStitch = d.heldStitch ∧ (updDest s e f d).emitted = d.emitted ∧
    (updDest s e f d).freeCtr = d.freeCtr ∧ (updDest s e f d).rngCtr = d.rngCtr ∧ (updDest s e f d).flt = d.flt ∧
    (updDest s e f d).irq = d.irq ∧ (updDest s e f d).msix = d.msix ∧ (updDest s e f d).fnMask = d.fnMask ∧
    (updDest s e f d).rings = d.rings ∧ (updDest s e f d).fnq = d.fnq ∧ (updDest s e f d).dmaCh = d.dmaCh ∧
    (updDest s e f d).recvBufs = d.recvBufs ∧ (updDest s e f d).links = d.links ∧ (updDest s e f d).parityBad = d.parityBad ∧
    (updDest s e f d).mbox = d.mbox ∧ (updDest s e f d).waiting = d.waiting ∧ (updDest s e f d).snaps = d.snaps ∧
    (updDest s e f d).lastCtr = d.lastCtr ∧ (updDest s e f d).authSeen = d.authSeen ∧ (updDest s e f d).tbs = d.tbs ∧
    (updDest s e f d).tenants = d.tenants ∧ (updDest s e f d).rrLast = d.rrLast ∧ (updDest s e f d).sec = d.sec ∧
    (updDest s e f d).pair = d.pair ∧ (updDest s e f d).dsr = d.dsr ∧ (updDest s e f d).chans = d.chans ∧
    (updDest s e f d).wrd = d.wrd ∧ (updDest s e f d).mem = d.mem ∧ (updDest s e f d).streams = d.streams ∧
    (updDest s e f d).tiles = d.tiles ∧ (updDest s e f d).loom = d.loom ∧ (updDest s e f d).hold = d.hold ∧
    (updDest s e f d).linPrm = d.linPrm ∧ (updDest s e f d).ladder = d.ladder ∧ (updDest s e f d).pke = d.pke ∧
    (updDest s e f d).lib = d.lib ∧ (updDest s e f d).linings = d.linings ∧ (updDest s e f d).pwr = d.pwr :=
  have h := (updDest_keeps (m := 134217728) rfl (.refl d)).only
  ⟨(h .regs rfl).symm, (h .stage rfl).symm, (h .objs rfl).symm, (h .heldStitch rfl).symm, (h .emitted rfl).symm, (h .freeCtr rfl).symm, (h .rngCtr rfl).symm, (h .flt rfl).symm, (h .irq rfl).symm, (h .msix rfl).symm, (h .fnMask rfl).symm, (h .rings rfl).symm, (h .fnq rfl).symm, (h .dmaCh rfl).symm, (h .recvBufs rfl).symm, (h .links rfl).symm, (h .parityBad rfl).symm, (h .mbox rfl).symm, (h .waiting rfl).symm, (h .snaps rfl).symm, (h .lastCtr rfl).symm, (h .authSeen rfl).symm, (h .tbs rfl).symm, (h .tenants rfl).symm, (h .rrLast rfl).symm, (h .sec rfl).symm, (h .pair rfl).symm, (h .dsr rfl).symm, (h .chans rfl).symm, (h .wrd rfl).symm, (h .mem rfl).symm, (h .streams rfl).symm, (h .tiles rfl).symm, (h .loom rfl).symm, (h .hold rfl).symm, (h .linPrm rfl).symm, (h .ladder rfl).symm, (h .pke rfl).symm, (h .lib rfl).symm, (h .linings rfl).symm, (h .pwr rfl).symm⟩

@[simp] theorem updPkt_frame (s : Nat) (i : Nat) (f : PktRec → PktRec) (d : Dev) :
    (updPkt s i f d).regs = d.regs ∧ (updPkt s i f d).stage = d.stage ∧ (updPkt s i f d).objs = d.objs ∧
    (updPkt s i f d).heldStitch = d.heldStitch ∧ (updPkt s i f d).emitted = d.emitted ∧
    (updPkt s i f d).freeCtr = d.freeCtr ∧ (updPkt s i f d).rngCtr = d.rngCtr ∧ (updPkt s i f d).flt = d.flt ∧
    (updPkt s i f d).irq = d.irq ∧ (updPkt s i f d).msix = d.msix ∧ (updPkt s i f d).fnMask = d.fnMask ∧
    (updPkt s i f d).rings = d.rings ∧ (updPkt s i f d).fnq = d.fnq ∧ (updPkt s i f d).dmaCh = d.dmaCh ∧
    (updPkt s i f d).recvBufs = d.recvBufs ∧ (updPkt s i f d).links = d.links ∧ (updPkt s i f d).parityBad = d.parityBad ∧
    (updPkt s i f d).mbox = d.mbox ∧ (updPkt s i f d).waiting = d.waiting ∧ (updPkt s i f d).snaps = d.snaps ∧
    (updPkt s i f d).lastCtr = d.lastCtr ∧ (updPkt s i f d).authSeen = d.authSeen ∧ (updPkt s i f d).tbs = d.tbs ∧
    (updPkt s i f d).tenants = d.tenants ∧ (updPkt s i f d).rrLast = d.rrLast ∧ (updPkt s i f d).sec = d.sec ∧
    (updPkt s i f d).pair = d.pair ∧ (updPkt s i f d).dsr = d.dsr ∧ (updPkt s i f d).chans = d.chans ∧
    (updPkt s i f d).wrd = d.wrd ∧ (updPkt s i f d).mem = d.mem ∧ (updPkt s i f d).streams = d.streams ∧
    (updPkt s i f d).tiles = d.tiles ∧ (updPkt s i f d).loom = d.loom ∧ (updPkt s i f d).hold = d.hold ∧
    (updPkt s i f d).linPrm = d.linPrm ∧ (updPkt s i f d).ladder = d.ladder ∧ (updPkt s i f d).pke = d.pke ∧
    (updPkt s i f d).lib = d.lib ∧ (updPkt s i f d).linings = d.linings ∧ (updPkt s i f d).pwr = d.pwr :=
  have h := (updPkt_keeps (m := 134217728) rfl (.refl d)).only
  ⟨(h .regs rfl).symm, (h .stage rfl).symm, (h .objs rfl).symm, (h .heldStitch rfl).symm, (h .emitted rfl).symm, (h .freeCtr rfl).symm, (h .rngCtr rfl).symm, (h .flt rfl).symm, (h .irq rfl).symm, (h .msix rfl).symm, (h .fnMask rfl).symm, (h .rings rfl).symm, (h .fnq rfl).symm, (h .dmaCh rfl).symm, (h .recvBufs rfl).symm, (h .links rfl).symm, (h .parityBad rfl).symm, (h .mbox rfl).symm, (h .waiting rfl).symm, (h .snaps rfl).symm, (h .lastCtr rfl).symm, (h .authSeen rfl).symm, (h .tbs rfl).symm, (h .tenants rfl).symm, (h .rrLast rfl).symm, (h .sec rfl).symm, (h .pair rfl).symm, (h .dsr rfl).symm, (h .chans rfl).symm, (h .wrd rfl).symm, (h .mem rfl).symm, (h .streams rfl).symm, (h .tiles rfl).symm, (h .loom rfl).symm, (h .hold rfl).symm, (h .linPrm rfl).symm, (h .ladder rfl).symm, (h .pke rfl).symm, (h .lib rfl).symm, (h .linings rfl).symm, (h .pwr rfl).symm⟩

@[simp] theorem setDest_frame (s : Nat) (e : Nat) (x : Dest) (d : Dev) :
    (setDest s e x d).regs = d.regs ∧ (setDest s e x d).stage = d.stage ∧ (setDest s e x d).objs = d.objs ∧
    (setDest s e x d).heldStitch = d.heldStitch ∧ (setDest s e x d).emitted = d.emitted ∧
    (setDest s e x d).freeCtr = d.freeCtr ∧ (setDest s e x d).rngCtr = d.rngCtr ∧ (setDest s e x d).flt = d.flt ∧
    (setDest s e x d).irq = d.irq ∧ (setDest s e x d).msix = d.msix ∧ (setDest s e x d).fnMask = d.fnMask ∧
    (setDest s e x d).rings = d.rings ∧ (setDest s e x d).fnq = d.fnq ∧ (setDest s e x d).dmaCh = d.dmaCh ∧
    (setDest s e x d).recvBufs = d.recvBufs ∧ (setDest s e x d).links = d.links ∧ (setDest s e x d).parityBad = d.parityBad ∧
    (setDest s e x d).mbox = d.mbox ∧ (setDest s e x d).waiting = d.waiting ∧ (setDest s e x d).snaps = d.snaps ∧
    (setDest s e x d).lastCtr = d.lastCtr ∧ (setDest s e x d).authSeen = d.authSeen ∧ (setDest s e x d).tbs = d.tbs ∧
    (setDest s e x d).tenants = d.tenants ∧ (setDest s e x d).rrLast = d.rrLast ∧ (setDest s e x d).sec = d.sec ∧
    (setDest s e x d).pair = d.pair ∧ (setDest s e x d).dsr = d.dsr ∧ (setDest s e x d).chans = d.chans ∧
    (setDest s e x d).wrd = d.wrd ∧ (setDest s e x d).mem = d.mem ∧ (setDest s e x d).streams = d.streams ∧
    (setDest s e x d).tiles = d.tiles ∧ (setDest s e x d).loom = d.loom ∧ (setDest s e x d).hold = d.hold ∧
    (setDest s e x d).linPrm = d.linPrm ∧ (setDest s e x d).ladder = d.ladder ∧ (setDest s e x d).pke = d.pke ∧
    (setDest s e x d).lib = d.lib ∧ (setDest s e x d).linings = d.linings ∧ (setDest s e x d).pwr = d.pwr :=
  have h := (setDest_keeps (m := 134217728) rfl (.refl d)).only
  ⟨(h .regs rfl).symm, (h .stage rfl).symm, (h .objs rfl).symm, (h .heldStitch rfl).symm, (h .emitted rfl).symm, (h .freeCtr rfl).symm, (h .rngCtr rfl).symm, (h .flt rfl).symm, (h .irq rfl).symm, (h .msix rfl).symm, (h .fnMask rfl).symm, (h .rings rfl).symm, (h .fnq rfl).symm, (h .dmaCh rfl).symm, (h .recvBufs rfl).symm, (h .links rfl).symm, (h .parityBad rfl).symm, (h .mbox rfl).symm, (h .waiting rfl).symm, (h .snaps rfl).symm, (h .lastCtr rfl).symm, (h .authSeen rfl).symm, (h .tbs rfl).symm, (h .tenants rfl).symm, (h .rrLast rfl).symm, (h .sec rfl).symm, (h .pair rfl).symm, (h .dsr rfl).symm, (h .chans rfl).symm, (h .wrd rfl).symm, (h .mem rfl).symm, (h .streams rfl).symm, (h .tiles rfl).symm, (h .loom rfl).symm, (h .hold rfl).symm, (h .linPrm rfl).symm, (h .ladder rfl).symm, (h .pke rfl).symm, (h .lib rfl).symm, (h .linings rfl).symm, (h .pwr rfl).symm⟩

@[simp] theorem powerSettle_frame (now : Nat) (d : Dev) :
    (powerSettle now d).regs = d.regs ∧ (powerSettle now d).stage = d.stage ∧ (powerSettle now d).objs = d.objs ∧
    (powerSettle now d).heldStitch = d.heldStitch ∧ (powerSettle now d).emitted = d.emitted ∧
    (powerSettle now d).freeCtr = d.freeCtr ∧ (powerSettle now d).rngCtr = d.rngCtr ∧ (powerSettle now d).flt = d.flt ∧
    (powerSettle now d).irq = d.irq ∧ (powerSettle now d).msix = d.msix ∧ (powerSettle now d).fnMask = d.fnMask ∧
    (powerSettle now d).rings = d.rings ∧ (powerSettle now d).fnq = d.fnq ∧ (powerSettle now d).dmaCh = d.dmaCh ∧
    (powerSettle now d).recvBufs = d.recvBufs ∧ (powerSettle now d).links = d.links ∧
    (powerSettle now d).parityBad = d.parityBad ∧ (powerSettle now d).mbox = d.mbox ∧
    (powerSettle now d).waiting = d.waiting ∧ (powerSettle now d).snaps = d.snaps ∧ (powerSettle now d).lastCtr = d.lastCtr ∧
    (powerSettle now d).authSeen = d.authSeen ∧ (powerSettle now d).tbs = d.tbs ∧ (powerSettle now d).tenants = d.tenants ∧
    (powerSettle now d).rrLast = d.rrLast ∧ (powerSettle now d).sec = d.sec ∧ (powerSettle now d).pair = d.pair ∧
    (powerSettle now d).sess = d.sess ∧ (powerSettle now d).dsr = d.dsr ∧ (powerSettle now d).wrd = d.wrd ∧
    (powerSettle now d).mem = d.mem ∧ (powerSettle now d).streams = d.streams ∧ (powerSettle now d).tiles = d.tiles ∧
    (powerSettle now d).loom = d.loom ∧ (powerSettle now d).hold = d.hold ∧ (powerSettle now d).linPrm = d.linPrm ∧
    (powerSettle now d).ladder = d.ladder ∧ (powerSettle now d).pke = d.pke ∧ (powerSettle now d).lib = d.lib ∧
    (powerSettle now d).linings = d.linings :=
  have h := (powerSettle_keeps (m := 2199560126464) rfl (.refl d)).only
  ⟨(h .regs rfl).symm, (h .stage rfl).symm, (h .objs rfl).symm, (h .heldStitch rfl).symm, (h .emitted rfl).symm, (h .freeCtr rfl).symm, (h .rngCtr rfl).symm, (h .flt rfl).symm, (h .irq rfl).symm, (h .msix rfl).symm, (h .fnMask rfl).symm, (h .rings rfl).symm, (h .fnq rfl).symm, (h .dmaCh rfl).symm, (h .recvBufs rfl).symm, (h .links rfl).symm, (h .parityBad rfl).symm, (h .mbox rfl).symm, (h .waiting rfl).symm, (h .snaps rfl).symm, (h .lastCtr rfl).symm, (h .authSeen rfl).symm, (h .tbs rfl).symm, (h .tenants rfl).symm, (h .rrLast rfl).symm, (h .sec rfl).symm, (h .pair rfl).symm, (h .sess rfl).symm, (h .dsr rfl).symm, (h .wrd rfl).symm, (h .mem rfl).symm, (h .streams rfl).symm, (h .tiles rfl).symm, (h .loom rfl).symm, (h .hold rfl).symm, (h .linPrm rfl).symm, (h .ladder rfl).symm, (h .pke rfl).symm, (h .lib rfl).symm, (h .linings rfl).symm⟩

@[simp] theorem setChanState_frame (c : Nat) (v : Nat) (d : Dev) :
    (setChanState c v d).regs = d.regs ∧ (setChanState c v d).stage = d.stage ∧
    (setChanState c v d).heldStitch = d.heldStitch ∧ (setChanState c v d).emitted = d.emitted ∧
    (setChanState c v d).freeCtr = d.freeCtr ∧ (setChanState c v d).rngCtr = d.rngCtr ∧ (setChanState c v d).flt = d.flt ∧
    (setChanState c v d).irq = d.irq ∧ (setChanState c v d).msix = d.msix ∧ (setChanState c v d).fnMask = d.fnMask ∧
    (setChanState c v d).rings = d.rings ∧ (setChanState c v d).fnq = d.fnq ∧ (setChanState c v d).dmaCh = d.dmaCh ∧
    (setChanState c v d).recvBufs = d.recvBufs ∧ (setChanState c v d).links = d.links ∧
    (setChanState c v d).parityBad = d.parityBad ∧ (setChanState c v d).mbox = d.mbox ∧
    (setChanState c v d).waiting = d.waiting ∧ (setChanState c v d).snaps = d.snaps ∧
    (setChanState c v d).lastCtr = d.lastCtr ∧ (setChanState c v d).authSeen = d.authSeen ∧
    (setChanState c v d).tbs = d.tbs ∧ (setChanState c v d).tenants = d.tenants ∧ (setChanState c v d).rrLast = d.rrLast ∧
    (setChanState c v d).sec = d.sec ∧ (setChanState c v d).pair = d.pair ∧ (setChanState c v d).sess = d.sess ∧
    (setChanState c v d).dsr = d.dsr ∧ (setChanState c v d).chans = d.chans ∧ (setChanState c v d).wrd = d.wrd ∧
    (setChanState c v d).mem = d.mem ∧ (setChanState c v d).streams = d.streams ∧ (setChanState c v d).tiles = d.tiles ∧
    (setChanState c v d).loom = d.loom ∧ (setChanState c v d).hold = d.hold ∧ (setChanState c v d).linPrm = d.linPrm ∧
    (setChanState c v d).ladder = d.ladder ∧ (setChanState c v d).pke = d.pke ∧ (setChanState c v d).lib = d.lib ∧
    (setChanState c v d).linings = d.linings ∧ (setChanState c v d).pwr = d.pwr :=
  have h := (setChanState_keeps (m := 4) rfl (.refl d)).only
  ⟨(h .regs rfl).symm, (h .stage rfl).symm, (h .heldStitch rfl).symm, (h .emitted rfl).symm, (h .freeCtr rfl).symm, (h .rngCtr rfl).symm, (h .flt rfl).symm, (h .irq rfl).symm, (h .msix rfl).symm, (h .fnMask rfl).symm, (h .rings rfl).symm, (h .fnq rfl).symm, (h .dmaCh rfl).symm, (h .recvBufs rfl).symm, (h .links rfl).symm, (h .parityBad rfl).symm, (h .mbox rfl).symm, (h .waiting rfl).symm, (h .snaps rfl).symm, (h .lastCtr rfl).symm, (h .authSeen rfl).symm, (h .tbs rfl).symm, (h .tenants rfl).symm, (h .rrLast rfl).symm, (h .sec rfl).symm, (h .pair rfl).symm, (h .sess rfl).symm, (h .dsr rfl).symm, (h .chans rfl).symm, (h .wrd rfl).symm, (h .mem rfl).symm, (h .streams rfl).symm, (h .tiles rfl).symm, (h .loom rfl).symm, (h .hold rfl).symm, (h .linPrm rfl).symm, (h .ladder rfl).symm, (h .pke rfl).symm, (h .lib rfl).symm, (h .linings rfl).symm, (h .pwr rfl).symm⟩

@[simp] theorem trainFail_frame (c : Nat) (r : TrnResult) (d : Dev) :
    (trainFail c r d).stage = d.stage ∧ (trainFail c r d).heldStitch = d.heldStitch ∧ (trainFail c r d).emitted = d.emitted ∧
    (trainFail c r d).freeCtr = d.freeCtr ∧ (trainFail c r d).rngCtr = d.rngCtr ∧ (trainFail c r d).irq = d.irq ∧
    (trainFail c r d).msix = d.msix ∧ (trainFail c r d).fnMask = d.fnMask ∧ (trainFail c r d).rings = d.rings ∧
    (trainFail c r d).fnq = d.fnq ∧ (trainFail c r d).dmaCh = d.dmaCh ∧ (trainFail c r d).recvBufs = d.recvBufs ∧
    (trainFail c r d).links = d.links ∧ (trainFail c r d).parityBad = d.parityBad ∧ (trainFail c r d).mbox = d.mbox ∧
    (trainFail c r d).waiting = d.waiting ∧ (trainFail c r d).snaps = d.snaps ∧ (trainFail c r d).lastCtr = d.lastCtr ∧
    (trainFail c r d).authSeen = d.authSeen ∧ (trainFail c r d).tbs = d.tbs ∧ (trainFail c r d).tenants = d.tenants ∧
    (trainFail c r d).rrLast = d.rrLast ∧ (trainFail c r d).sec = d.sec ∧ (trainFail c r d).pair = d.pair ∧
    (trainFail c r d).sess = d.sess ∧ (trainFail c r d).dsr = d.dsr ∧ (trainFail c r d).mem = d.mem ∧
    (trainFail c r d).streams = d.streams ∧ (trainFail c r d).tiles = d.tiles ∧ (trainFail c r d).loom = d.loom ∧
    (trainFail c r d).hold = d.hold ∧ (trainFail c r d).linPrm = d.linPrm ∧ (trainFail c r d).ladder = d.ladder ∧
    (trainFail c r d).pke = d.pke ∧ (trainFail c r d).lib = d.lib ∧ (trainFail c r d).linings = d.linings :=
  have h := (trainFail_keeps (m := 2200633868421) rfl (.refl d)).only
  ⟨(h .stage rfl).symm, (h .heldStitch rfl).symm, (h .emitted rfl).symm, (h .freeCtr rfl).symm, (h .rngCtr rfl).symm, (h .irq rfl).symm, (h .msix rfl).symm, (h .fnMask rfl).symm, (h .rings rfl).symm, (h .fnq rfl).symm, (h .dmaCh rfl).symm, (h .recvBufs rfl).symm, (h .links rfl).symm, (h .parityBad rfl).symm, (h .mbox rfl).symm, (h .waiting rfl).symm, (h .snaps rfl).symm, (h .lastCtr rfl).symm, (h .authSeen rfl).symm, (h .tbs rfl).symm, (h .tenants rfl).symm, (h .rrLast rfl).symm, (h .sec rfl).symm, (h .pair rfl).symm, (h .sess rfl).symm, (h .dsr rfl).symm, (h .mem rfl).symm, (h .streams rfl).symm, (h .tiles rfl).symm, (h .loom rfl).symm, (h .hold rfl).symm, (h .linPrm rfl).symm, (h .ladder rfl).symm, (h .pke rfl).symm, (h .lib rfl).symm, (h .linings rfl).symm⟩

@[simp] theorem channelGone_frame (c : Nat) (st : Nat) (d : Dev) :
    (channelGone c st d).regs = d.regs ∧ (channelGone c st d).stage = d.stage ∧
    (channelGone c st d).heldStitch = d.heldStitch ∧ (channelGone c st d).emitted = d.emitted ∧
    (channelGone c st d).freeCtr = d.freeCtr ∧ (channelGone c st d).rngCtr = d.rngCtr ∧ (channelGone c st d).irq = d.irq ∧
    (channelGone c st d).msix = d.msix ∧ (channelGone c st d).fnMask = d.fnMask ∧ (channelGone c st d).rings = d.rings ∧
    (channelGone c st d).fnq = d.fnq ∧ (channelGone c st d).dmaCh = d.dmaCh ∧ (channelGone c st d).recvBufs = d.recvBufs ∧
    (channelGone c st d).links = d.links ∧ (channelGone c st d).parityBad = d.parityBad ∧
    (channelGone c st d).mbox = d.mbox ∧ (channelGone c st d).waiting = d.waiting ∧ (channelGone c st d).snaps = d.snaps ∧
    (channelGone c st d).lastCtr = d.lastCtr ∧ (channelGone c st d).authSeen = d.authSeen ∧
    (channelGone c st d).tbs = d.tbs ∧ (channelGone c st d).tenants = d.tenants ∧ (channelGone c st d).rrLast = d.rrLast ∧
    (channelGone c st d).sec = d.sec ∧ (channelGone c st d).pair = d.pair ∧ (channelGone c st d).sess = d.sess ∧
    (channelGone c st d).dsr = d.dsr ∧ (channelGone c st d).mem = d.mem ∧ (channelGone c st d).streams = d.streams ∧
    (channelGone c st d).tiles = d.tiles ∧ (channelGone c st d).loom = d.loom ∧ (channelGone c st d).hold = d.hold ∧
    (channelGone c st d).linPrm = d.linPrm ∧ (channelGone c st d).ladder = d.ladder ∧ (channelGone c st d).pke = d.pke ∧
    (channelGone c st d).lib = d.lib ∧ (channelGone c st d).linings = d.linings :=
  have h := (channelGone_keeps (m := 2200633868420) rfl (.refl d)).only
  ⟨(h .regs rfl).symm, (h .stage rfl).symm, (h .heldStitch rfl).symm, (h .emitted rfl).symm, (h .freeCtr rfl).symm, (h .rngCtr rfl).symm, (h .irq rfl).symm, (h .msix rfl).symm, (h .fnMask rfl).symm, (h .rings rfl).symm, (h .fnq rfl).symm, (h .dmaCh rfl).symm, (h .recvBufs rfl).symm, (h .links rfl).symm, (h .parityBad rfl).symm, (h .mbox rfl).symm, (h .waiting rfl).symm, (h .snaps rfl).symm, (h .lastCtr rfl).symm, (h .authSeen rfl).symm, (h .tbs rfl).symm, (h .tenants rfl).symm, (h .rrLast rfl).symm, (h .sec rfl).symm, (h .pair rfl).symm, (h .sess rfl).symm, (h .dsr rfl).symm, (h .mem rfl).symm, (h .streams rfl).symm, (h .tiles rfl).symm, (h .loom rfl).symm, (h .hold rfl).symm, (h .linPrm rfl).symm, (h .ladder rfl).symm, (h .pke rfl).symm, (h .lib rfl).symm, (h .linings rfl).symm⟩

@[simp] theorem enterClass_frame (p : Nat) (c : Nat) (k : Pkt) (d : Dev) :
    (enterClass p c k d).stage = d.stage ∧ (enterClass p c k d).heldStitch = d.heldStitch ∧
    (enterClass p c k d).emitted = d.emitted ∧ (enterClass p c k d).freeCtr = d.freeCtr ∧
    (enterClass p c k d).rngCtr = d.rngCtr ∧ (enterClass p c k d).flt = d.flt ∧ (enterClass p c k d).irq = d.irq ∧
    (enterClass p c k d).msix = d.msix ∧ (enterClass p c k d).fnMask = d.fnMask ∧ (enterClass p c k d).rings = d.rings ∧
    (enterClass p c k d).fnq = d.fnq ∧ (enterClass p c k d).dmaCh = d.dmaCh ∧ (enterClass p c k d).recvBufs = d.recvBufs ∧
    (enterClass p c k d).links = d.links ∧ (enterClass p c k d).parityBad = d.parityBad ∧
    (enterClass p c k d).mbox = d.mbox ∧ (enterClass p c k d).waiting = d.waiting ∧ (enterClass p c k d).snaps = d.snaps ∧
    (enterClass p c k d).lastCtr = d.lastCtr ∧ (enterClass p c k d).authSeen = d.authSeen ∧
    (enterClass p c k d).tbs = d.tbs ∧ (enterClass p c k d).tenants = d.tenants ∧ (enterClass p c k d).rrLast = d.rrLast ∧
    (enterClass p c k d).sec = d.sec ∧ (enterClass p c k d).pair = d.pair ∧ (enterClass p c k d).dsr = d.dsr ∧
    (enterClass p c k d).chans = d.chans ∧ (enterClass p c k d).wrd = d.wrd ∧ (enterClass p c k d).mem = d.mem ∧
    (enterClass p c k d).streams = d.streams ∧ (enterClass p c k d).tiles = d.tiles ∧ (enterClass p c k d).loom = d.loom ∧
    (enterClass p c k d).hold = d.hold ∧ (enterClass p c k d).linPrm = d.linPrm ∧ (enterClass p c k d).ladder = d.ladder ∧
    (enterClass p c k d).lib = d.lib ∧ (enterClass p c k d).linings = d.linings ∧ (enterClass p c k d).pwr = d.pwr :=
  have h := (enterClass_keeps (m := 275012124677) rfl (.refl d)).only
  ⟨(h .stage rfl).symm, (h .heldStitch rfl).symm, (h .emitted rfl).symm, (h .freeCtr rfl).symm, (h .rngCtr rfl).symm, (h .flt rfl).symm, (h .irq rfl).symm, (h .msix rfl).symm, (h .fnMask rfl).symm, (h .rings rfl).symm, (h .fnq rfl).symm, (h .dmaCh rfl).symm, (h .recvBufs rfl).symm, (h .links rfl).symm, (h .parityBad rfl).symm, (h .mbox rfl).symm, (h .waiting rfl).symm, (h .snaps rfl).symm, (h .lastCtr rfl).symm, (h .authSeen rfl).symm, (h .tbs rfl).symm, (h .tenants rfl).symm, (h .rrLast rfl).symm, (h .sec rfl).symm, (h .pair rfl).symm, (h .dsr rfl).symm, (h .chans rfl).symm, (h .wrd rfl).symm, (h .mem rfl).symm, (h .streams rfl).symm, (h .tiles rfl).symm, (h .loom rfl).symm, (h .hold rfl).symm, (h .linPrm rfl).symm, (h .ladder rfl).symm, (h .lib rfl).symm, (h .linings rfl).symm, (h .pwr rfl).symm⟩

@[simp] theorem enterFirst_frame (p : Nat) (c : Nat) (k : Pkt) (d : Dev) :
    (enterFirst p c k d).stage = d.stage ∧ (enterFirst p c k d).heldStitch = d.heldStitch ∧
    (enterFirst p c k d).emitted = d.emitted ∧ (enterFirst p c k d).freeCtr = d.freeCtr ∧
    (enterFirst p c k d).rngCtr = d.rngCtr ∧ (enterFirst p c k d).flt = d.flt ∧ (enterFirst p c k d).irq = d.irq ∧
    (enterFirst p c k d).msix = d.msix ∧ (enterFirst p c k d).fnMask = d.fnMask ∧ (enterFirst p c k d).rings = d.rings ∧
    (enterFirst p c k d).fnq = d.fnq ∧ (enterFirst p c k d).dmaCh = d.dmaCh ∧ (enterFirst p c k d).recvBufs = d.recvBufs ∧
    (enterFirst p c k d).links = d.links ∧ (enterFirst p c k d).parityBad = d.parityBad ∧
    (enterFirst p c k d).mbox = d.mbox ∧ (enterFirst p c k d).waiting = d.waiting ∧ (enterFirst p c k d).snaps = d.snaps ∧
    (enterFirst p c k d).lastCtr = d.lastCtr ∧ (enterFirst p c k d).authSeen = d.authSeen ∧
    (enterFirst p c k d).tbs = d.tbs ∧ (enterFirst p c k d).tenants = d.tenants ∧ (enterFirst p c k d).rrLast = d.rrLast ∧
    (enterFirst p c k d).sec = d.sec ∧ (enterFirst p c k d).pair = d.pair ∧ (enterFirst p c k d).dsr = d.dsr ∧
    (enterFirst p c k d).chans = d.chans ∧ (enterFirst p c k d).wrd = d.wrd ∧ (enterFirst p c k d).mem = d.mem ∧
    (enterFirst p c k d).streams = d.streams ∧ (enterFirst p c k d).tiles = d.tiles ∧ (enterFirst p c k d).loom = d.loom ∧
    (enterFirst p c k d).hold = d.hold ∧ (enterFirst p c k d).linPrm = d.linPrm ∧ (enterFirst p c k d).ladder = d.ladder ∧
    (enterFirst p c k d).lib = d.lib ∧ (enterFirst p c k d).linings = d.linings ∧ (enterFirst p c k d).pwr = d.pwr :=
  have h := (enterFirst_keeps (m := 275012124677) rfl (.refl d)).only
  ⟨(h .stage rfl).symm, (h .heldStitch rfl).symm, (h .emitted rfl).symm, (h .freeCtr rfl).symm, (h .rngCtr rfl).symm, (h .flt rfl).symm, (h .irq rfl).symm, (h .msix rfl).symm, (h .fnMask rfl).symm, (h .rings rfl).symm, (h .fnq rfl).symm, (h .dmaCh rfl).symm, (h .recvBufs rfl).symm, (h .links rfl).symm, (h .parityBad rfl).symm, (h .mbox rfl).symm, (h .waiting rfl).symm, (h .snaps rfl).symm, (h .lastCtr rfl).symm, (h .authSeen rfl).symm, (h .tbs rfl).symm, (h .tenants rfl).symm, (h .rrLast rfl).symm, (h .sec rfl).symm, (h .pair rfl).symm, (h .dsr rfl).symm, (h .chans rfl).symm, (h .wrd rfl).symm, (h .mem rfl).symm, (h .streams rfl).symm, (h .tiles rfl).symm, (h .loom rfl).symm, (h .hold rfl).symm, (h .linPrm rfl).symm, (h .ladder rfl).symm, (h .lib rfl).symm, (h .linings rfl).symm, (h .pwr rfl).symm⟩

end Sys2Proof.Machine
end

