-- ==== Sys2Proof/Laws/FactsGeneral.lean ====
section
/-! SUPPORT. What the shared operations do, said once for the statements StepRunsFront, QueueFirstInFirstOut, NothingIsRefused, HeldDeviceIgnoresCommands, ResetKeepsTheForms, StepKeepsTheForms, SafeStateLeftOnlyByReset, CommandFrames, LargestFit, SleepCounter. -/
set_option Elab.async false
set_option autoImplicit false
set_option linter.all false
open Sys2Proof Sys2Proof.Machine
namespace Sys2Proof.Machine

/-- An outcome by one of the three ways in which a command acts. -/
def ExecForm (s : State) (o : Host.Outcome State Fault Refusal) : Prop :=
  (∃ f, o = act f s) ∨ (∃ u f, o = actOn u f s) ∨ (∃ f, o = actHeld f s)
theorem ExecForm.act (f : Dev → Dev) (s : State) : ExecForm s (act f s) := .inl ⟨f, rfl⟩
theorem ExecForm.actOn (u : Bool) (f : Dev → Dev) (s : State) : ExecForm s (actOn u f s) := .inr (.inl ⟨u, f, rfl⟩)
theorem ExecForm.held (f : Dev → Dev) (s : State) : ExecForm s (actHeld f s) := .inr (.inr ⟨f, rfl⟩)
theorem exec_form (c : Instr) (s : State) : ExecForm s (exec c s) := by
  cases c with
  | stitchBoundary => show ExecForm s (execStitchBoundary s); unfold execStitchBoundary; first | apply ExecForm.act | apply ExecForm.actOn | apply ExecForm.held
  | gateEntryExpiry port now => show ExecForm s (execGateEntryExpiry port now s); unfold execGateEntryExpiry; first | apply ExecForm.act | apply ExecForm.actOn | apply ExecForm.held
  | frameCredit slot => show ExecForm s (execFrameCredit slot s); unfold execFrameCredit; first | apply ExecForm.act | apply ExecForm.actOn | apply ExecForm.held
  | stitchOverrun tile now => show ExecForm s (execStitchOverrun tile now s); unfold execStitchOverrun; first | apply ExecForm.act | apply ExecForm.actOn | apply ExecForm.held
  | tileHang tile now => show ExecForm s (execTileHang tile now s); unfold execTileHang; first | apply ExecForm.act | apply ExecForm.actOn | apply ExecForm.held
  | partCoded tile res now => show ExecForm s (execPartCoded tile res now s); unfold execPartCoded; first | apply ExecForm.act | apply ExecForm.actOn | apply ExecForm.held
  | closingGrant now => show ExecForm s (execClosingGrant now s); unfold execClosingGrant; first | apply ExecForm.act | apply ExecForm.actOn | apply ExecForm.held
  | completionPost tile now => show ExecForm s (execCompletionPost tile now s); unfold execCompletionPost; first | apply ExecForm.act | apply ExecForm.actOn | apply ExecForm.held
  | completionCollect now => show ExecForm s (execCompletionCollect now s); unfold execCompletionCollect; first | apply ExecForm.act | apply ExecForm.actOn | apply ExecForm.held
  | assignCurrent tile copyOk now => show ExecForm s (execAssignCurrent tile copyOk now s); unfold execAssignCurrent; first | apply ExecForm.act | apply ExecForm.actOn | apply ExecForm.held
  | assignNext tile now => show ExecForm s (execAssignNext tile now s); unfold execAssignNext; first | apply ExecForm.act | apply ExecForm.actOn | apply ExecForm.held
  | withdrawNext tile now => show ExecForm s (execWithdrawNext tile now s); unfold execWithdrawNext; first | apply ExecForm.act | apply ExecForm.actOn | apply ExecForm.held
  | closeGrant tile recon now => show ExecForm s (execCloseGrant tile recon now s); unfold execCloseGrant; first | apply ExecForm.act | apply ExecForm.actOn | apply ExecForm.held
  | boot tile wordsOk sig sigExp now => show ExecForm s (execBoot tile wordsOk sig sigExp now s); unfold execBoot; first | apply ExecForm.act | apply ExecForm.actOn | apply ExecForm.held
  | containmentReset tile now => show ExecForm s (execContainmentReset tile now s); unfold execContainmentReset; first | apply ExecForm.act | apply ExecForm.actOn | apply ExecForm.held
  | loadStallEnd tile copyOk now => show ExecForm s (execLoadStallEnd tile copyOk now s); unfold execLoadStallEnd; first | apply ExecForm.act | apply ExecForm.actOn | apply ExecForm.held
  | contextCommit tile now => show ExecForm s (execContextCommit tile now s); unfold execContextCommit; first | apply ExecForm.act | apply ExecForm.actOn | apply ExecForm.held
  | tileRetire tile flashOk now => show ExecForm s (execTileRetire tile flashOk now s); unfold execTileRetire; first | apply ExecForm.act | apply ExecForm.actOn | apply ExecForm.held
  | retirementMapRetry flashOk now => show ExecForm s (execRetirementMapRetry flashOk now s); unfold execRetirementMapRetry; first | apply ExecForm.act | apply ExecForm.actOn | apply ExecForm.held
  | apertureWrite tenant offset tee enabled data now => show ExecForm s (execApertureWrite tenant offset tee enabled data now s); unfold execApertureWrite; first | apply ExecForm.act | apply ExecForm.actOn | apply ExecForm.held
  | apertureRead tenant offset tee now => show ExecForm s (execApertureRead tenant offset tee now s); unfold execApertureRead; first | apply ExecForm.act | apply ExecForm.actOn | apply ExecForm.held
  | bandDoorbell tenant tee word now => show ExecForm s (execBandDoorbell tenant tee word now s); unfold execBandDoorbell; first | apply ExecForm.act | apply ExecForm.actOn | apply ExecForm.held
  | watermarkFlagClear who slot mask => show ExecForm s (execWatermarkFlagClear who slot mask s); unfold execWatermarkFlagClear; first | apply ExecForm.act | apply ExecForm.actOn | apply ExecForm.held
  | holdAssertClear who mask => show ExecForm s (execHoldAssertClear who mask s); unfold execHoldAssertClear; first | apply ExecForm.act | apply ExecForm.actOn | apply ExecForm.held
  | bandSubstitution slot now => show ExecForm s (execBandSubstitution slot now s); unfold execBandSubstitution; first | apply ExecForm.act | apply ExecForm.actOn | apply ExecForm.held
  | drainAbandon slot now => show ExecForm s (execDrainAbandon slot now s); unfold execDrainAbandon; first | apply ExecForm.act | apply ExecForm.actOn | apply ExecForm.held
  | drainComplete slot now => show ExecForm s (execDrainComplete slot now s); unfold execDrainComplete; first | apply ExecForm.act | apply ExecForm.actOn | apply ExecForm.held
  | define q slot => show ExecForm s (execDefine q slot s); unfold execDefine; first | apply ExecForm.act | apply ExecForm.actOn | apply ExecForm.held
  | release q slot => show ExecForm s (execRelease q slot s); unfold execRelease; first | apply ExecForm.act | apply ExecForm.actOn | apply ExecForm.held
  | arm q slot => show ExecForm s (execArm q slot s); unfold execArm; first | apply ExecForm.act | apply ExecForm.actOn | apply ExecForm.held
  | armPartnerTimeout slot now => show ExecForm s (execArmPartnerTimeout slot now s); unfold execArmPartnerTimeout; first | apply ExecForm.act | apply ExecForm.actOn | apply ExecForm.held
  | disarm q slot => show ExecForm s (execDisarm q slot s); unfold execDisarm; first | apply ExecForm.act | apply ExecForm.actOn | apply ExecForm.held
  | start q slot => show ExecForm s (execStart q slot s); unfold execStart; first | apply ExecForm.act | apply ExecForm.actOn | apply ExecForm.held
  | pause q slot => show ExecForm s (execPause q slot s); unfold execPause; first | apply ExecForm.act | apply ExecForm.actOn | apply ExecForm.held
  | resume q slot => show ExecForm s (execResume q slot s); unfold execResume; first | apply ExecForm.act | apply ExecForm.actOn | apply ExecForm.held
  | drain q slot => show ExecForm s (execDrain q slot s); unfold execDrain; first | apply ExecForm.act | apply ExecForm.actOn | apply ExecForm.held
  | operatorDrain q slot value => show ExecForm s (execOperatorDrain q slot value s); unfold execOperatorDrain; first | apply ExecForm.act | apply ExecForm.actOn | apply ExecForm.held
  | tenantBind q tenant value => show ExecForm s (execTenantBind q tenant value s); unfold execTenantBind; first | apply ExecForm.act | apply ExecForm.actOn | apply ExecForm.held
  | functionLevelReset tenant now => show ExecForm s (execFunctionLevelReset tenant now s); unfold execFunctionLevelReset; first | apply ExecForm.act | apply ExecForm.actOn | apply ExecForm.held
  | vfEnableSet link numVfs ari => show ExecForm s (execVfEnableSet link numVfs ari s); unfold execVfEnableSet; first | apply ExecForm.act | apply ExecForm.actOn | apply ExecForm.held
  | vfEnableClear link now => show ExecForm s (execVfEnableClear link now s); unfold execVfEnableClear; first | apply ExecForm.act | apply ExecForm.actOn | apply ExecForm.held
  | pfFlr link now => show ExecForm s (execPfFlr link now s); unfold execPfFlr; first | apply ExecForm.act | apply ExecForm.actOn | apply ExecForm.held
  | pcieLinkReset link kind now => show ExecForm s (execPcieLinkReset link kind now s); unfold execPcieLinkReset; first | apply ExecForm.act | apply ExecForm.actOn | apply ExecForm.held
  | pcieLinkUp link lanes rate now => show ExecForm s (execPcieLinkUp link lanes rate now s); unfold execPcieLinkUp; first | apply ExecForm.act | apply ExecForm.actOn | apply ExecForm.held
  | mailboxGo who length => show ExecForm s (execMailboxGo who length s); unfold execMailboxGo; first | apply ExecForm.act | apply ExecForm.actOn | apply ExecForm.held
  | read q idx sub off => show ExecForm s (execRead q idx sub off s); unfold execRead; first | apply ExecForm.act | apply ExecForm.actOn | apply ExecForm.held
  | write q idx sub v => show ExecForm s (execWrite q idx sub v s); unfold execWrite; first | apply ExecForm.act | apply ExecForm.actOn | apply ExecForm.held
  | describe q idx sub => show ExecForm s (execDescribe q idx sub s); unfold execDescribe; first | apply ExecForm.act | apply ExecForm.actOn | apply ExecForm.held
  | refreshRequest q slot value => show ExecForm s (execRefreshRequest q slot value s); unfold execRefreshRequest; first | apply ExecForm.act | apply ExecForm.actOn | apply ExecForm.held
  | freezeRequest q slot v => show ExecForm s (execFreezeRequest q slot v s); unfold execFreezeRequest; first | apply ExecForm.act | apply ExecForm.actOn | apply ExecForm.held
  | registerSegment q tenant v => show ExecForm s (execRegisterSegment q tenant v s); unfold execRegisterSegment; first | apply ExecForm.act | apply ExecForm.actOn | apply ExecForm.held
  | delete q tenant v => show ExecForm s (execDelete q tenant v s); unfold execDelete; first | apply ExecForm.act | apply ExecForm.actOn | apply ExecForm.held
  | exportToEthernet q tenant v => show ExecForm s (execExportToEthernet q tenant v s); unfold execExportToEthernet; first | apply ExecForm.act | apply ExecForm.actOn | apply ExecForm.held
  | segmentVerified tenant entry bands now => show ExecForm s (execSegmentVerified tenant entry bands now s); unfold execSegmentVerified; first | apply ExecForm.act | apply ExecForm.actOn | apply ExecForm.held
  | spliceRequest q slot value => show ExecForm s (execSpliceRequest q slot value s); unfold execSpliceRequest; first | apply ExecForm.act | apply ExecForm.actOn | apply ExecForm.held
  | spliceReturn q slot value => show ExecForm s (execSpliceReturn q slot value s); unfold execSpliceReturn; first | apply ExecForm.act | apply ExecForm.actOn | apply ExecForm.held
  | blockAllocate q sub v => show ExecForm s (execBlockAllocate q sub v s); unfold execBlockAllocate; first | apply ExecForm.act | apply ExecForm.actOn | apply ExecForm.held
  | blockFree q sub v => show ExecForm s (execBlockFree q sub v s); unfold execBlockFree; first | apply ExecForm.act | apply ExecForm.actOn | apply ExecForm.held
  | destinationWrite q slot dest v => show ExecForm s (execDestinationWrite q slot dest v s); unfold execDestinationWrite; first | apply ExecForm.act | apply ExecForm.actOn | apply ExecForm.held
  | shaperWrite q slot dest v => show ExecForm s (execShaperWrite q slot dest v s); unfold execShaperWrite; first | apply ExecForm.act | apply ExecForm.actOn | apply ExecForm.held
  | streamKeyWrite q slot dest v tagOk => show ExecForm s (execStreamKeyWrite q slot dest v tagOk s); unfold execStreamKeyWrite; first | apply ExecForm.act | apply ExecForm.actOn | apply ExecForm.held
  | previousKeyExpiry slot dest now => show ExecForm s (execPreviousKeyExpiry slot dest now s); unfold execPreviousKeyExpiry; first | apply ExecForm.act | apply ExecForm.actOn | apply ExecForm.held
  | segmentKeyWrite q tenant k v tagOk => show ExecForm s (execSegmentKeyWrite q tenant k v tagOk s); unfold execSegmentKeyWrite; first | apply ExecForm.act | apply ExecForm.actOn | apply ExecForm.held
  | portModeWrite q value => show ExecForm s (execPortModeWrite q value s); unfold execPortModeWrite; first | apply ExecForm.act | apply ExecForm.actOn | apply ExecForm.held
  | linkTrainTimeout port now => show ExecForm s (execLinkTrainTimeout port now s); unfold execLinkTrainTimeout; first | apply ExecForm.act | apply ExecForm.actOn | apply ExecForm.held
  | ethernetLinkChange port up now => show ExecForm s (execEthernetLinkChange port up now s); unfold execEthernetLinkChange; first | apply ExecForm.act | apply ExecForm.actOn | apply ExecForm.held
  | macSend port now => show ExecForm s (execMacSend port now s); unfold execMacSend; first | apply ExecForm.act | apply ExecForm.actOn | apply ExecForm.held
  | retransmissionExpiry slot now => show ExecForm s (execRetransmissionExpiry slot now s); unfold execRetransmissionExpiry; first | apply ExecForm.act | apply ExecForm.actOn | apply ExecForm.held
  | senderReport slot now => show ExecForm s (execSenderReport slot now s); unfold execSenderReport; first | apply ExecForm.act | apply ExecForm.actOn | apply ExecForm.held
  | frameReceived port f now => show ExecForm s (execFrameReceived port f now s); unfold execFrameReceived; first | apply ExecForm.act | apply ExecForm.actOn | apply ExecForm.held
  | learningDecision now => show ExecForm s (execLearningDecision now s); unfold execLearningDecision; first | apply ExecForm.act | apply ExecForm.actOn | apply ExecForm.held
  | nack slot dest seqs now => show ExecForm s (execNack slot dest seqs now s); unfold execNack; first | apply ExecForm.act | apply ExecForm.actOn | apply ExecForm.held
  | pictureLossIndication slot dest now => show ExecForm s (execPictureLossIndication slot dest now s); unfold execPictureLossIndication; first | apply ExecForm.act | apply ExecForm.actOn | apply ExecForm.held
  | congestionFeedback slot dest reports now => show ExecForm s (execCongestionFeedback slot dest reports now s); unfold execCongestionFeedback; first | apply ExecForm.act | apply ExecForm.actOn | apply ExecForm.held
  | transportWideFeedback slot dest reports now => show ExecForm s (execTransportWideFeedback slot dest reports now s); unfold execTransportWideFeedback; first | apply ExecForm.act | apply ExecForm.actOn | apply ExecForm.held
  | receiverReport slot dest now => show ExecForm s (execReceiverReport slot dest now s); unfold execReceiverReport; first | apply ExecForm.act | apply ExecForm.actOn | apply ExecForm.held
  | feedbackTimeout slot dest now => show ExecForm s (execFeedbackTimeout slot dest now s); unfold execFeedbackTimeout; first | apply ExecForm.act | apply ExecForm.actOn | apply ExecForm.held
  | agingVisit pipeline now => show ExecForm s (execAgingVisit pipeline now s); unfold execAgingVisit; first | apply ExecForm.act | apply ExecForm.actOn | apply ExecForm.held
  | comparerCheck now => show ExecForm s (execComparerCheck now s); unfold execComparerCheck; first | apply ExecForm.act | apply ExecForm.actOn | apply ExecForm.held
  | flowInsert q v => show ExecForm s (execFlowInsert q v s); unfold execFlowInsert; first | apply ExecForm.act | apply ExecForm.actOn | apply ExecForm.held
  | flowRemove q v => show ExecForm s (execFlowRemove q v s); unfold execFlowRemove; first | apply ExecForm.act | apply ExecForm.actOn | apply ExecForm.held
  | ptpEventReceived port now => show ExecForm s (execPtpEventReceived port now s); unfold execPtpEventReceived; first | apply ExecForm.act | apply ExecForm.actOn | apply ExecForm.held
  | ptpSync off now => show ExecForm s (execPtpSync off now s); unfold execPtpSync; first | apply ExecForm.act | apply ExecForm.actOn | apply ExecForm.held
  | announce clock utc chosen now => show ExecForm s (execAnnounce clock utc chosen now s); unfold execAnnounce; first | apply ExecForm.act | apply ExecForm.actOn | apply ExecForm.held
  | syncTimeout now => show ExecForm s (execSyncTimeout now s); unfold execSyncTimeout; first | apply ExecForm.act | apply ExecForm.actOn | apply ExecForm.held
  | ppsInEdge now => show ExecForm s (execPpsInEdge now s); unfold execPpsInEdge; first | apply ExecForm.act | apply ExecForm.actOn | apply ExecForm.held
  | ppsOut now => show ExecForm s (execPpsOut now s); unfold execPpsOut; first | apply ExecForm.act | apply ExecForm.actOn | apply ExecForm.held
  | timeSet q v => show ExecForm s (execTimeSet q v s); unfold execTimeSet; first | apply ExecForm.act | apply ExecForm.actOn | apply ExecForm.held
  | tbsStep who hi now => show ExecForm s (execTbsStep who hi now s); unfold execTbsStep; first | apply ExecForm.act | apply ExecForm.actOn | apply ExecForm.held
  | ptpTsTagRead who => show ExecForm s (execPtpTsTagRead who s); unfold execPtpTsTagRead; first | apply ExecForm.act | apply ExecForm.actOn | apply ExecForm.held
  | tsFlush who => show ExecForm s (execTsFlush who s); unfold execTsFlush; first | apply ExecForm.act | apply ExecForm.actOn | apply ExecForm.held
  | pairEnable q value => show ExecForm s (execPairEnable q value s); unfold execPairEnable; first | apply ExecForm.act | apply ExecForm.actOn | apply ExecForm.held
  | handshakeTimeout now => show ExecForm s (execHandshakeTimeout now s); unfold execHandshakeTimeout; first | apply ExecForm.act | apply ExecForm.actOn | apply ExecForm.held
  | refusedRetry now => show ExecForm s (execRefusedRetry now s); unfold execRefusedRetry; first | apply ExecForm.act | apply ExecForm.actOn | apply ExecForm.held
  | heartbeat m now => show ExecForm s (execHeartbeat m now s); unfold execHeartbeat; first | apply ExecForm.act | apply ExecForm.actOn | apply ExecForm.held
  | hello m now => show ExecForm s (execHello m now s); unfold execHello; first | apply ExecForm.act | apply ExecForm.actOn | apply ExecForm.held
  | liningRequest m now => show ExecForm s (execLiningRequest m now s); unfold execLiningRequest; first | apply ExecForm.act | apply ExecForm.actOn | apply ExecForm.held
  | liningAnswer m now => show ExecForm s (execLiningAnswer m now s); unfold execLiningAnswer; first | apply ExecForm.act | apply ExecForm.actOn | apply ExecForm.held
  | sessionOpen m now => show ExecForm s (execSessionOpen m now s); unfold execSessionOpen; first | apply ExecForm.act | apply ExecForm.actOn | apply ExecForm.held
  | band m now => show ExecForm s (execBand m now s); unfold execBand; first | apply ExecForm.act | apply ExecForm.actOn | apply ExecForm.held
  | sessionState m now => show ExecForm s (execSessionState m now s); unfold execSessionState; first | apply ExecForm.act | apply ExecForm.actOn | apply ExecForm.held
  | sessionClose m now => show ExecForm s (execSessionClose m now s); unfold execSessionClose; first | apply ExecForm.act | apply ExecForm.actOn | apply ExecForm.held
  | mirrorNack m now => show ExecForm s (execMirrorNack m now s); unfold execMirrorNack; first | apply ExecForm.act | apply ExecForm.actOn | apply ExecForm.held
  | liningState m now => show ExecForm s (execLiningState m now s); unfold execLiningState; first | apply ExecForm.act | apply ExecForm.actOn | apply ExecForm.held
  | handoverOffer m now => show ExecForm s (execHandoverOffer m now s); unfold execHandoverOffer; first | apply ExecForm.act | apply ExecForm.actOn | apply ExecForm.held
  | handoverAnswer m now => show ExecForm s (execHandoverAnswer m now s); unfold execHandoverAnswer; first | apply ExecForm.act | apply ExecForm.actOn | apply ExecForm.held
  | handoverQueueLimit now => show ExecForm s (execHandoverQueueLimit now s); unfold execHandoverQueueLimit; first | apply ExecForm.act | apply ExecForm.actOn | apply ExecForm.held
  | handover m now => show ExecForm s (execHandover m now s); unfold execHandover; first | apply ExecForm.act | apply ExecForm.actOn | apply ExecForm.held
  | taken m now => show ExecForm s (execTaken m now s); unfold execTaken; first | apply ExecForm.act | apply ExecForm.actOn | apply ExecForm.held
  | mirrorHoldExpiry lining now => show ExecForm s (execMirrorHoldExpiry lining now s); unfold execMirrorHoldExpiry; first | apply ExecForm.act | apply ExecForm.actOn | apply ExecForm.held
  | heartbeatLimit now => show ExecForm s (execHeartbeatLimit now s); unfold execHeartbeatLimit; first | apply ExecForm.act | apply ExecForm.actOn | apply ExecForm.held
  | probeAnswer status now => show ExecForm s (execProbeAnswer status now s); unfold execProbeAnswer; first | apply ExecForm.act | apply ExecForm.actOn | apply ExecForm.held
  | probeTimeout now => show ExecForm s (execProbeTimeout now s); unfold execProbeTimeout; first | apply ExecForm.act | apply ExecForm.actOn | apply ExecForm.held
  | probeRepeat now => show ExecForm s (execProbeRepeat now s); unfold execProbeRepeat; first | apply ExecForm.act | apply ExecForm.actOn | apply ExecForm.held
  | promoteLinings q value => show ExecForm s (execPromoteLinings q value s); unfold execPromoteLinings; first | apply ExecForm.act | apply ExecForm.actOn | apply ExecForm.held
  | addressAnnounce now => show ExecForm s (execAddressAnnounce now s); unfold execAddressAnnounce; first | apply ExecForm.act | apply ExecForm.actOn | apply ExecForm.held
  | handOverSession q value => show ExecForm s (execHandOverSession q value s); unfold execHandOverSession; first | apply ExecForm.act | apply ExecForm.actOn | apply ExecForm.held
  | liningRequestRetry slot now => show ExecForm s (execLiningRequestRetry slot now s); unfold execLiningRequestRetry; first | apply ExecForm.act | apply ExecForm.actOn | apply ExecForm.held
  | liningReanchor q lining => show ExecForm s (execLiningReanchor q lining s); unfold execLiningReanchor; first | apply ExecForm.act | apply ExecForm.actOn | apply ExecForm.held
  | liningRelease q lining => show ExecForm s (execLiningRelease q lining s); unfold execLiningRelease; first | apply ExecForm.act | apply ExecForm.actOn | apply ExecForm.held
  | tileRelease q tile => show ExecForm s (execTileRelease q tile s); unfold execTileRelease; first | apply ExecForm.act | apply ExecForm.actOn | apply ExecForm.held
  | tileRetireCommand q tile flashOk => show ExecForm s (execTileRetireCommand q tile flashOk s); unfold execTileRetireCommand; first | apply ExecForm.act | apply ExecForm.actOn | apply ExecForm.held
  | sessionsTakenWrite q v => show ExecForm s (execSessionsTakenWrite q v s); unfold execSessionsTakenWrite; first | apply ExecForm.act | apply ExecForm.actOn | apply ExecForm.held
  | drawstringToken seq ack now => show ExecForm s (execDrawstringToken seq ack now s); unfold execDrawstringToken; first | apply ExecForm.act | apply ExecForm.actOn | apply ExecForm.held
  | tokenRegenerate now => show ExecForm s (execTokenRegenerate now s); unfold execTokenRegenerate; first | apply ExecForm.act | apply ExecForm.actOn | apply ExecForm.held
  | hopLock now => show ExecForm s (execHopLock now s); unfold execHopLock; first | apply ExecForm.act | apply ExecForm.actOn | apply ExecForm.held
  | closeSend now => show ExecForm s (execCloseSend now s); unfold execCloseSend; first | apply ExecForm.act | apply ExecForm.actOn | apply ExecForm.held
  | close master now => show ExecForm s (execClose master now s); unfold execClose; first | apply ExecForm.act | apply ExecForm.actOn | apply ExecForm.held
  | enum master hop entries now => show ExecForm s (execEnum master hop entries now s); unfold execEnum; first | apply ExecForm.act | apply ExecForm.actOn | apply ExecForm.held
  | enumTimeout now => show ExecForm s (execEnumTimeout now s); unfold execEnumTimeout; first | apply ExecForm.act | apply ExecForm.actOn | apply ExecForm.held
  | table entries now => show ExecForm s (execTable entries now s); unfold execTable; first | apply ExecForm.act | apply ExecForm.actOn | apply ExecForm.held
  | closureLimit now => show ExecForm s (execClosureLimit now s); unfold execClosureLimit; first | apply ExecForm.act | apply ExecForm.actOn | apply ExecForm.held
  | wake dst now => show ExecForm s (execWake dst now s); unfold execWake; first | apply ExecForm.act | apply ExecForm.actOn | apply ExecForm.held
  | frameRetry ack now => show ExecForm s (execFrameRetry ack now s); unfold execFrameRetry; first | apply ExecForm.act | apply ExecForm.actOn | apply ExecForm.held
  | requestTimeout now => show ExecForm s (execRequestTimeout now s); unfold execRequestTimeout; first | apply ExecForm.act | apply ExecForm.actOn | apply ExecForm.held
  | reenum who now => show ExecForm s (execReenum who now s); unfold execReenum; first | apply ExecForm.act | apply ExecForm.actOn | apply ExecForm.held
  | dsrCntClr who => show ExecForm s (execDsrCntClr who s); unfold execDsrCntClr; first | apply ExecForm.act | apply ExecForm.actOn | apply ExecForm.held
  | trnWritePattern who chan value now => show ExecForm s (execTrnWritePattern who chan value now s); unfold execTrnWritePattern; first | apply ExecForm.act | apply ExecForm.actOn | apply ExecForm.held
  | trnReadCompare who chan value now => show ExecForm s (execTrnReadCompare who chan value now s); unfold execTrnReadCompare; first | apply ExecForm.act | apply ExecForm.actOn | apply ExecForm.held
  | trnWriteReadCompare who chan value now => show ExecForm s (execTrnWriteReadCompare who chan value now s); unfold execTrnWriteReadCompare; first | apply ExecForm.act | apply ExecForm.actOn | apply ExecForm.held
  | trnCaLoopback who chan value now => show ExecForm s (execTrnCaLoopback who chan value now s); unfold execTrnCaLoopback; first | apply ExecForm.act | apply ExecForm.actOn | apply ExecForm.held
  | helperOpDone chan m0 m1 m2 errs fail now => show ExecForm s (execHelperOpDone chan m0 m1 m2 errs fail now s); unfold execHelperOpDone; first | apply ExecForm.act | apply ExecForm.actOn | apply ExecForm.held
  | trnFinish who chan r now => show ExecForm s (execTrnFinish who chan r now s); unfold execTrnFinish; first | apply ExecForm.act | apply ExecForm.actOn | apply ExecForm.held
  | trainingTimeout chan now => show ExecForm s (execTrainingTimeout chan now s); unfold execTrainingTimeout; first | apply ExecForm.act | apply ExecForm.actOn | apply ExecForm.held
  | dramRefresh chan rank busy now => show ExecForm s (execDramRefresh chan rank busy now s); unfold execDramRefresh; first | apply ExecForm.act | apply ExecForm.actOn | apply ExecForm.held
  | modeRegisterPoll chan rank need now => show ExecForm s (execModeRegisterPoll chan rank need now s); unfold execModeRegisterPoll; first | apply ExecForm.act | apply ExecForm.actOn | apply ExecForm.held
  | selfRefreshRequest chan now => show ExecForm s (execSelfRefreshRequest chan now s); unfold execSelfRefreshRequest; first | apply ExecForm.act | apply ExecForm.actOn | apply ExecForm.held
  | selfRefreshStage chan pass now => show ExecForm s (execSelfRefreshStage chan pass now s); unfold execSelfRefreshStage; first | apply ExecForm.act | apply ExecForm.actOn | apply ExecForm.held
  | dramRequestInSelfRefresh chan now => show ExecForm s (execDramRequestInSelfRefresh chan now s); unfold execDramRequestInSelfRefresh; first | apply ExecForm.act | apply ExecForm.actOn | apply ExecForm.held
  | padRelease who chan pass now => show ExecForm s (execPadRelease who chan pass now s); unfold execPadRelease; first | apply ExecForm.act | apply ExecForm.actOn | apply ExecForm.held
  | channelFreeze chan r now => show ExecForm s (execChannelFreeze chan r now s); unfold execChannelFreeze; first | apply ExecForm.act | apply ExecForm.actOn | apply ExecForm.held
  | alertReplay chan now => show ExecForm s (execAlertReplay chan now s); unfold execAlertReplay; first | apply ExecForm.act | apply ExecForm.actOn | apply ExecForm.held
  | channelResume chan pass now => show ExecForm s (execChannelResume chan pass now s); unfold execChannelResume; first | apply ExecForm.act | apply ExecForm.actOn | apply ExecForm.held
  | channelRetrain chan now => show ExecForm s (execChannelRetrain chan now s); unfold execChannelRetrain; first | apply ExecForm.act | apply ExecForm.actOn | apply ExecForm.held
  | channelOff chan now => show ExecForm s (execChannelOff chan now s); unfold execChannelOff; first | apply ExecForm.act | apply ExecForm.actOn | apply ExecForm.held
  | dmcCorrClr who chan => show ExecForm s (execDmcCorrClr who chan s); unfold execDmcCorrClr; first | apply ExecForm.act | apply ExecForm.actOn | apply ExecForm.held
  | fillFrameDone chan now => show ExecForm s (execFillFrameDone chan now s); unfold execFillFrameDone; first | apply ExecForm.act | apply ExecForm.actOn | apply ExecForm.held
  | scrubRead chan outcome syndrome now => show ExecForm s (execScrubRead chan outcome syndrome now s); unfold execScrubRead; first | apply ExecForm.act | apply ExecForm.actOn | apply ExecForm.held
  | resilverComplete pair now => show ExecForm s (execResilverComplete pair now s); unfold execResilverComplete; first | apply ExecForm.act | apply ExecForm.actOn | apply ExecForm.held
  | flipArm who k value now => show ExecForm s (execFlipArm who k value now s); unfold execFlipArm; first | apply ExecForm.act | apply ExecForm.actOn | apply ExecForm.held
  | wrdLapHwmClr who => show ExecForm s (execWrdLapHwmClr who s); unfold execWrdLapHwmClr; first | apply ExecForm.act | apply ExecForm.actOn | apply ExecForm.held
  | sramCorrClr who => show ExecForm s (execSramCorrClr who s); unfold execSramCorrClr; first | apply ExecForm.act | apply ExecForm.actOn | apply ExecForm.held
  | sqTailWrite who queue value => show ExecForm s (execSqTailWrite who queue value s); unfold execSqTailWrite; first | apply ExecForm.act | apply ExecForm.actOn | apply ExecForm.held
  | cqHeadWrite who queue value => show ExecForm s (execCqHeadWrite who queue value s); unfold execCqHeadWrite; first | apply ExecForm.act | apply ExecForm.actOn | apply ExecForm.held
  | eqHeadWrite who value => show ExecForm s (execEqHeadWrite who value s); unfold execEqHeadWrite; first | apply ExecForm.act | apply ExecForm.actOn | apply ExecForm.held
  | queueObjectWrite q idx sub v => show ExecForm s (execQueueObjectWrite q idx sub v s); unfold execQueueObjectWrite; first | apply ExecForm.act | apply ExecForm.actOn | apply ExecForm.held
  | descriptorFetch fn queue chan desc fetchOk now => show ExecForm s (execDescriptorFetch fn queue chan desc fetchOk now s); unfold execDescriptorFetch; first | apply ExecForm.act | apply ExecForm.actOn | apply ExecForm.held
  | copyIn chan x now => show ExecForm s (execCopyIn chan x now s); unfold execCopyIn; first | apply ExecForm.act | apply ExecForm.actOn | apply ExecForm.held
  | copyOut chan x now => show ExecForm s (execCopyOut chan x now s); unfold execCopyOut; first | apply ExecForm.act | apply ExecForm.actOn | apply ExecForm.held
  | intake chan x now => show ExecForm s (execIntake chan x now s); unfold execIntake; first | apply ExecForm.act | apply ExecForm.actOn | apply ExecForm.held
  | exportEntry chan x now => show ExecForm s (execExportEntry chan x now s); unfold execExportEntry; first | apply ExecForm.act | apply ExecForm.actOn | apply ExecForm.held
  | decodeFeed chan x now => show ExecForm s (execDecodeFeed chan x now s); unfold execDecodeFeed; first | apply ExecForm.act | apply ExecForm.actOn | apply ExecForm.held
  | segmentUpload chan x tagOk now => show ExecForm s (execSegmentUpload chan x tagOk now s); unfold execSegmentUpload; first | apply ExecForm.act | apply ExecForm.actOn | apply ExecForm.held
  | fill chan now => show ExecForm s (execFill chan now s); unfold execFill; first | apply ExecForm.act | apply ExecForm.actOn | apply ExecForm.held
  | transmit chan x now => show ExecForm s (execTransmit chan x now s); unfold execTransmit; first | apply ExecForm.act | apply ExecForm.actOn | apply ExecForm.held
  | receiveBuffer chan now => show ExecForm s (execReceiveBuffer chan now s); unfold execReceiveBuffer; first | apply ExecForm.act | apply ExecForm.actOn | apply ExecForm.held
  | descriptorComplete chan entryOk now => show ExecForm s (execDescriptorComplete chan entryOk now s); unfold execDescriptorComplete; first | apply ExecForm.act | apply ExecForm.actOn | apply ExecForm.held
  | channelDisable who chan x now => show ExecForm s (execChannelDisable who chan x now s); unfold execChannelDisable; first | apply ExecForm.act | apply ExecForm.actOn | apply ExecForm.held
  | dmaCorrClr who => show ExecForm s (execDmaCorrClr who s); unfold execDmaCorrClr; first | apply ExecForm.act | apply ExecForm.actOn | apply ExecForm.held
  | eqResetClear who => show ExecForm s (execEqResetClear who s); unfold execEqResetClear; first | apply ExecForm.act | apply ExecForm.actOn | apply ExecForm.held
  | atsInvalidation link now => show ExecForm s (execAtsInvalidation link now s); unfold execAtsInvalidation; first | apply ExecForm.act | apply ExecForm.actOn | apply ExecForm.held
  | fifoWordCorrected home fifo now => show ExecForm s (execFifoWordCorrected home fifo now s); unfold execFifoWordCorrected; first | apply ExecForm.act | apply ExecForm.actOn | apply ExecForm.held
  | fifoWordUncorrectable home fifo now => show ExecForm s (execFifoWordUncorrectable home fifo now s); unfold execFifoWordUncorrectable; first | apply ExecForm.act | apply ExecForm.actOn | apply ExecForm.held
  | irqDoorbell who source now => show ExecForm s (execIrqDoorbell who source now s); unfold execIrqDoorbell; first | apply ExecForm.act | apply ExecForm.actOn | apply ExecForm.held
  | interruptDelivery now => show ExecForm s (execInterruptDelivery now s); unfold execInterruptDelivery; first | apply ExecForm.act | apply ExecForm.actOn | apply ExecForm.held
  | msixHoldoffExpiry fn vector now => show ExecForm s (execMsixHoldoffExpiry fn vector now s); unfold execMsixHoldoffExpiry; first | apply ExecForm.act | apply ExecForm.actOn | apply ExecForm.held
  | msixUnmask fn vector now => show ExecForm s (execMsixUnmask fn vector now s); unfold execMsixUnmask; first | apply ExecForm.act | apply ExecForm.actOn | apply ExecForm.held
  | idleHintArm who mask now => show ExecForm s (execIdleHintArm who mask now s); unfold execIdleHintArm; first | apply ExecForm.act | apply ExecForm.actOn | apply ExecForm.held
  | malformedRegisterAccess who isWrite offset => show ExecForm s (execMalformedRegisterAccess who isWrite offset s); unfold execMalformedRegisterAccess; first | apply ExecForm.act | apply ExecForm.actOn | apply ExecForm.held
  | strayAccess who isWrite offset => show ExecForm s (execStrayAccess who isWrite offset s); unfold execStrayAccess; first | apply ExecForm.act | apply ExecForm.actOn | apply ExecForm.held
  | registerWrite who offset value now => show ExecForm s (execRegisterWrite who offset value now s); unfold execRegisterWrite; first | apply ExecForm.act | apply ExecForm.actOn | apply ExecForm.held
  | paritySweep mismatched now => show ExecForm s (execParitySweep mismatched now s); unfold execParitySweep; first | apply ExecForm.act | apply ExecForm.actOn | apply ExecForm.held
  | mbxCntClr who => show ExecForm s (execMbxCntClr who s); unfold execMbxCntClr; first | apply ExecForm.act | apply ExecForm.actOn | apply ExecForm.held
  | carryHwmClr who => show ExecForm s (execCarryHwmClr who s); unfold execCarryHwmClr; first | apply ExecForm.act | apply ExecForm.actOn | apply ExecForm.held
  | slvCorrClr who => show ExecForm s (execSlvCorrClr who s); unfold execSlvCorrClr; first | apply ExecForm.act | apply ExecForm.actOn | apply ExecForm.held
  | pkeHwmClr who => show ExecForm s (execPkeHwmClr who s); unfold execPkeHwmClr; first | apply ExecForm.act | apply ExecForm.actOn | apply ExecForm.held
  | igrLapHwmClr who => show ExecForm s (execIgrLapHwmClr who s); unfold execIgrLapHwmClr; first | apply ExecForm.act | apply ExecForm.actOn | apply ExecForm.held
  | tileCntClr who tile => show ExecForm s (execTileCntClr who tile s); unfold execTileCntClr; first | apply ExecForm.act | apply ExecForm.actOn | apply ExecForm.held
  | secEventCntClr who => show ExecForm s (execSecEventCntClr who s); unfold execSecEventCntClr; first | apply ExecForm.act | apply ExecForm.actOn | apply ExecForm.held
  | getVersion link now => show ExecForm s (execGetVersion link now s); unfold execGetVersion; first | apply ExecForm.act | apply ExecForm.actOn | apply ExecForm.held
  | getCapabilities link now => show ExecForm s (execGetCapabilities link now s); unfold execGetCapabilities; first | apply ExecForm.act | apply ExecForm.actOn | apply ExecForm.held
  | negotiateAlgorithms link now => show ExecForm s (execNegotiateAlgorithms link now s); unfold execNegotiateAlgorithms; first | apply ExecForm.act | apply ExecForm.actOn | apply ExecForm.held
  | getDigests link now => show ExecForm s (execGetDigests link now s); unfold execGetDigests; first | apply ExecForm.act | apply ExecForm.actOn | apply ExecForm.held
  | getCertificate link now => show ExecForm s (execGetCertificate link now s); unfold execGetCertificate; first | apply ExecForm.act | apply ExecForm.actOn | apply ExecForm.held
  | challenge link now => show ExecForm s (execChallenge link now s); unfold execChallenge; first | apply ExecForm.act | apply ExecForm.actOn | apply ExecForm.held
  | getMeasurements link now => show ExecForm s (execGetMeasurements link now s); unfold execGetMeasurements; first | apply ExecForm.act | apply ExecForm.actOn | apply ExecForm.held
  | keyExchange link now => show ExecForm s (execKeyExchange link now s); unfold execKeyExchange; first | apply ExecForm.act | apply ExecForm.actOn | apply ExecForm.held
  | finish session ok now => show ExecForm s (execFinish session ok now s); unfold execFinish; first | apply ExecForm.act | apply ExecForm.actOn | apply ExecForm.held
  | spdmHeartbeat session ok now => show ExecForm s (execSpdmHeartbeat session ok now s); unfold execSpdmHeartbeat; first | apply ExecForm.act | apply ExecForm.actOn | apply ExecForm.held
  | keyUpdate session ok now => show ExecForm s (execKeyUpdate session ok now s); unfold execKeyUpdate; first | apply ExecForm.act | apply ExecForm.actOn | apply ExecForm.held
  | endSession session ok now => show ExecForm s (execEndSession session ok now s); unfold execEndSession; first | apply ExecForm.act | apply ExecForm.actOn | apply ExecForm.held
  | spdmSessionTimeout session now => show ExecForm s (execSpdmSessionTimeout session now s); unfold execSpdmSessionTimeout; first | apply ExecForm.act | apply ExecForm.actOn | apply ExecForm.held
  | installTenant session message ok now => show ExecForm s (execInstallTenant session message ok now s); unfold execInstallTenant; first | apply ExecForm.act | apply ExecForm.actOn | apply ExecForm.held
  | installOperator session message ok now => show ExecForm s (execInstallOperator session message ok now s); unfold execInstallOperator; first | apply ExecForm.act | apply ExecForm.actOn | apply ExecForm.held
  | ideKm session stream place key ok now => show ExecForm s (execIdeKm session stream place key ok now s); unfold execIdeKm; first | apply ExecForm.act | apply ExecForm.actOn | apply ExecForm.held
  | ideIntegrityFailure link stream now => show ExecForm s (execIdeIntegrityFailure link stream now s); unfold execIdeIntegrityFailure; first | apply ExecForm.act | apply ExecForm.actOn | apply ExecForm.held
  | lockInterfaceRequest session fn stream ok now => show ExecForm s (execLockInterfaceRequest session fn stream ok now s); unfold execLockInterfaceRequest; first | apply ExecForm.act | apply ExecForm.actOn | apply ExecForm.held
  | startInterfaceRequest session fn ok now => show ExecForm s (execStartInterfaceRequest session fn ok now s); unfold execStartInterfaceRequest; first | apply ExecForm.act | apply ExecForm.actOn | apply ExecForm.held
  | stopInterfaceRequest session fn ok now => show ExecForm s (execStopInterfaceRequest session fn ok now s); unfold execStopInterfaceRequest; first | apply ExecForm.act | apply ExecForm.actOn | apply ExecForm.held
  | rngHealthFailure now => show ExecForm s (execRngHealthFailure now s); unfold execRngHealthFailure; first | apply ExecForm.act | apply ExecForm.actOn | apply ExecForm.held
  | tenantKeyErase q tenant value => show ExecForm s (execTenantKeyErase q tenant value s); unfold execTenantKeyErase; first | apply ExecForm.act | apply ExecForm.actOn | apply ExecForm.held
  | operatorKeyErase q value => show ExecForm s (execOperatorKeyErase q value s); unfold execOperatorKeyErase; first | apply ExecForm.act | apply ExecForm.actOn | apply ExecForm.held
  | debugUnlock q value => show ExecForm s (execDebugUnlock q value s); unfold execDebugUnlock; first | apply ExecForm.act | apply ExecForm.actOn | apply ExecForm.held
  | faultReportAccept srcs now => show ExecForm s (execFaultReportAccept srcs now s); unfold execFaultReportAccept; first | apply ExecForm.act | apply ExecForm.actOn | apply ExecForm.held
  | logRecordWrite now => show ExecForm s (execLogRecordWrite now s); unfold execLogRecordWrite; first | apply ExecForm.act | apply ExecForm.actOn | apply ExecForm.held
  | wireFault src forced now => show ExecForm s (execWireFault src forced now s); unfold execWireFault; first | apply ExecForm.act | apply ExecForm.actOn | apply ExecForm.held
  | disagreementSpell src => show ExecForm s (execDisagreementSpell src s); unfold execDisagreementSpell; first | apply ExecForm.act | apply ExecForm.actOn | apply ExecForm.held
  | collectorIntegrity offset now => show ExecForm s (execCollectorIntegrity offset now s); unfold execCollectorIntegrity; first | apply ExecForm.act | apply ExecForm.actOn | apply ExecForm.held
  | selfTestComplete pass now => show ExecForm s (execSelfTestComplete pass now s); unfold execSelfTestComplete; first | apply ExecForm.act | apply ExecForm.actOn | apply ExecForm.held
  | forceReport who src now => show ExecForm s (execForceReport who src now s); unfold execForceReport; first | apply ExecForm.act | apply ExecForm.actOn | apply ExecForm.held
  | logSel who value slotOk now => show ExecForm s (execLogSel who value slotOk now s); unfold execLogSel; first | apply ExecForm.act | apply ExecForm.actOn | apply ExecForm.held
  | logTail who value => show ExecForm s (execLogTail who value s); unfold execLogTail; first | apply ExecForm.act | apply ExecForm.actOn | apply ExecForm.held
  | standingClear who src mask => show ExecForm s (execStandingClear who src mask s); unfold execStandingClear; first | apply ExecForm.act | apply ExecForm.actOn | apply ExecForm.held
  | firstClr who => show ExecForm s (execFirstClr who s); unfold execFirstClr; first | apply ExecForm.act | apply ExecForm.actOn | apply ExecForm.held
  | worstClr who => show ExecForm s (execWorstClr who s); unfold execWorstClr; first | apply ExecForm.act | apply ExecForm.actOn | apply ExecForm.held
  | lostClr who => show ExecForm s (execLostClr who s); unfold execLostClr; first | apply ExecForm.act | apply ExecForm.actOn | apply ExecForm.held
  | fltCntClr who => show ExecForm s (execFltCntClr who s); unfold execFltCntClr; first | apply ExecForm.act | apply ExecForm.actOn | apply ExecForm.held
  | packageStateRequest q value => show ExecForm s (execPackageStateRequest q value s); unfold execPackageStateRequest; first | apply ExecForm.act | apply ExecForm.actOn | apply ExecForm.held
  | packageTransitionComplete now => show ExecForm s (execPackageTransitionComplete now s); unfold execPackageTransitionComplete; first | apply ExecForm.act | apply ExecForm.actOn | apply ExecForm.held
  | transitionOvertime now => show ExecForm s (execTransitionOvertime now s); unfold execTransitionOvertime; first | apply ExecForm.act | apply ExecForm.actOn | apply ExecForm.held
  | domainPowerGood domain now => show ExecForm s (execDomainPowerGood domain now s); unfold execDomainPowerGood; first | apply ExecForm.act | apply ExecForm.actOn | apply ExecForm.held
  | domainOff domain now => show ExecForm s (execDomainOff domain now s); unfold execDomainOff; first | apply ExecForm.act | apply ExecForm.actOn | apply ExecForm.held
  | powerGoodTimeout domain now => show ExecForm s (execPowerGoodTimeout domain now s); unfold execPowerGoodTimeout; first | apply ExecForm.act | apply ExecForm.actOn | apply ExecForm.held
  | tileIdleOff tile now => show ExecForm s (execTileIdleOff tile now s); unfold execTileIdleOff; first | apply ExecForm.act | apply ExecForm.actOn | apply ExecForm.held
  | pwrPadRelease who domain pass now => show ExecForm s (execPwrPadRelease who domain pass now s); unfold execPwrPadRelease; first | apply ExecForm.act | apply ExecForm.actOn | apply ExecForm.held
  | wakeNLow now => show ExecForm s (execWakeNLow now s); unfold execWakeNLow; first | apply ExecForm.act | apply ExecForm.actOn | apply ExecForm.held
  | pcieWake port now => show ExecForm s (execPcieWake port now s); unfold execPcieWake; first | apply ExecForm.act | apply ExecForm.actOn | apply ExecForm.held
  | ethernetWakePattern port now => show ExecForm s (execEthernetWakePattern port now s); unfold execEthernetWakePattern; first | apply ExecForm.act | apply ExecForm.actOn | apply ExecForm.held
  | powerSample mw rails now => show ExecForm s (execPowerSample mw rails now s); unfold execPowerSample; first | apply ExecForm.act | apply ExecForm.actOn | apply ExecForm.held
  | powerCapExceeded now => show ExecForm s (execPowerCapExceeded now s); unfold execPowerCapExceeded; first | apply ExecForm.act | apply ExecForm.actOn | apply ExecForm.held
  | sensorSample temps now => show ExecForm s (execSensorSample temps now s); unfold execSensorSample; first | apply ExecForm.act | apply ExecForm.actOn | apply ExecForm.held
  | referenceLoss clock now => show ExecForm s (execReferenceLoss clock now s); unfold execReferenceLoss; first | apply ExecForm.act | apply ExecForm.actOn | apply ExecForm.held
  | sleepEntryEdge now => show ExecForm s (execSleepEntryEdge now s); unfold execSleepEntryEdge; first | apply ExecForm.act | apply ExecForm.actOn | apply ExecForm.held
  | sleepCountEdge => show ExecForm s (execSleepCountEdge s); unfold execSleepCountEdge; first | apply ExecForm.act | apply ExecForm.actOn | apply ExecForm.held
  | wakeEdge => show ExecForm s (execWakeEdge s); unfold execWakeEdge; first | apply ExecForm.act | apply ExecForm.actOn | apply ExecForm.held
  | porNRise straps => show ExecForm s (execPorNRise straps s); unfold execPorNRise; first | apply ExecForm.act | apply ExecForm.actOn | apply ExecForm.held
  | porNFall => show ExecForm s (execPorNFall s); unfold execPorNFall; first | apply ExecForm.act | apply ExecForm.actOn | apply ExecForm.held
  | aonBrownOut => show ExecForm s (execAonBrownOut s); unfold execAonBrownOut; first | apply ExecForm.act | apply ExecForm.actOn | apply ExecForm.held
  | warmResetRequest q => show ExecForm s (execWarmResetRequest q s); unfold execWarmResetRequest; first | apply ExecForm.act | apply ExecForm.actOn | apply ExecForm.held
  | coldResetRequest q => show ExecForm s (execColdResetRequest q s); unfold execColdResetRequest; first | apply ExecForm.act | apply ExecForm.actOn | apply ExecForm.held
  | firmwareBoot header aOk bOk pop causes now => show ExecForm s (execFirmwareBoot header aOk bOk pop causes now s); unfold execFirmwareBoot; first | apply ExecForm.act | apply ExecForm.actOn | apply ExecForm.held
  | startupEnable now => show ExecForm s (execStartupEnable now s); unfold execStartupEnable; first | apply ExecForm.act | apply ExecForm.actOn | apply ExecForm.held
  | handoverOfferTimeout now => show ExecForm s (execHandoverOfferTimeout now s); unfold execHandoverOfferTimeout; first | apply ExecForm.act | apply ExecForm.actOn | apply ExecForm.held
  | mirrorStoreExpiry slot now => show ExecForm s (execMirrorStoreExpiry slot now s); unfold execMirrorStoreExpiry; first | apply ExecForm.act | apply ExecForm.actOn | apply ExecForm.held
  | referenceReturn clock now => show ExecForm s (execReferenceReturn clock now s); unfold execReferenceReturn; first | apply ExecForm.act | apply ExecForm.actOn | apply ExecForm.held
  | aonSupplyReturn straps => show ExecForm s (execAonSupplyReturn straps s); unfold execAonSupplyReturn; first | apply ExecForm.act | apply ExecForm.actOn | apply ExecForm.held
  | disagreementEnd src => show ExecForm s (execDisagreementEnd src s); unfold execDisagreementEnd; first | apply ExecForm.act | apply ExecForm.actOn | apply ExecForm.held
  | memorySpaceEnableWrite link vf value now => show ExecForm s (execMemorySpaceEnableWrite link vf value now s); unfold execMemorySpaceEnableWrite; first | apply ExecForm.act | apply ExecForm.actOn | apply ExecForm.held
  | vfResizableBarWrite link log2Mib => show ExecForm s (execVfResizableBarWrite link log2Mib s); unfold execVfResizableBarWrite; first | apply ExecForm.act | apply ExecForm.actOn | apply ExecForm.held
  | ptpLockTimeout now => show ExecForm s (execPtpLockTimeout now s); unfold execPtpLockTimeout; first | apply ExecForm.act | apply ExecForm.actOn | apply ExecForm.held
  | drawstringFrameError => show ExecForm s (execDrawstringFrameError s); unfold execDrawstringFrameError; first | apply ExecForm.act | apply ExecForm.actOn | apply ExecForm.held
  | pairShareResponse chainOk sigOk locked node epoch pin now => show ExecForm s (execPairShareResponse chainOk sigOk locked node epoch pin now s); unfold execPairShareResponse; first | apply ExecForm.act | apply ExecForm.actOn | apply ExecForm.held
  | onchipMemoryError where_ corrected addr now => show ExecForm s (execOnchipMemoryError where_ corrected addr now s); unfold execOnchipMemoryError; first | apply ExecForm.act | apply ExecForm.actOn | apply ExecForm.held
/-- What a command answers: a next state with the queue as it was, or the fault of a unit that does not exist. -/
theorem exec_answers (c : Instr) (s : State) : (∃ d, exec c s = .next { s with dev := d }) ∨ exec c s = .fault .noSuchUnit := by
  rcases exec_form c s with ⟨f, h⟩ | ⟨u, f, h⟩ | ⟨f, h⟩
  · exact .inl ⟨_, h⟩
  · cases u
    · exact .inr h
    · exact .inl ⟨_, h⟩
  · exact .inl ⟨_, h⟩
theorem act_held {f : Dev → Dev} {s t : State} (hh : isHeld s.dev = true) (h : act f s = .next t) : t = s := by
  unfold act actHeld at h; dsimp only at h; rw [hh] at h; injection h with h; exact h.symm
theorem actOn_held {u : Bool} {f : Dev → Dev} {s t : State} (hh : isHeld s.dev = true) (h : actOn u f s = .next t) : t = s := by
  cases u
  · cases h
  · exact act_held hh h
theorem ceilDiv_mul_le (z m : Nat) (hm : 0 < m) : z ≤ m * ceilDiv z m := by
  unfold ceilDiv
  have := Nat.div_add_mod (z + m - 1) m
  have h2 := Nat.mod_lt (z + m - 1) hm
  omega
theorem ceilDiv_mono (x z m : Nat) (h : x ≤ z) : ceilDiv x m ≤ ceilDiv z m := by
  unfold ceilDiv; exact Nat.div_le_div_right (by omega)
theorem ceilDiv_add (k e m : Nat) (hm : 0 < m) (he : e ≤ m) : ceilDiv (k * m + e) m = k + if e = 0 then 0 else 1 := by
  unfold ceilDiv
  split
  · subst_vars
    rw [show k * m + 0 + m - 1 = (m - 1) + m * k by rw [Nat.mul_comm]; omega, Nat.add_mul_div_left _ _ hm, Nat.div_eq_of_lt (by omega)]; omega
  · rw [show k * m + e + m - 1 = (e - 1) + m * (k + 1) by rw [Nat.mul_comm m, Nat.add_mul]; omega, Nat.add_mul_div_left _ _ hm, Nat.div_eq_of_lt (by omega)]; omega

end Sys2Proof.Machine
end

