-- ==== Sys2Proof/Laws/FactsInterrupts.lean ====
section
/-! SUPPORT. What the shared operations do, said once for the statements InterruptCommands. -/
set_option Elab.async false
set_option autoImplicit false
set_option linter.all false
open Sys2Proof Sys2Proof.Machine
namespace Sys2Proof.Machine

theorem atTime_form (now : Nat) (d : Dev) : ∃ t, atTime now d = { d with tbs := t } := by
  unfold atTime; split
  · exact ⟨_, rfl⟩
  · exact ⟨d.tbs, rfl⟩
/-- What does not read the timebase is the same at a later instant. -/
theorem atTime_irrel {α : Type} (f : Dev → α) (now : Nat) (d : Dev) (h : ∀ t, f { d with tbs := t } = f d) :
    f (atTime now d) = f d := by
  obtain ⟨t, ht⟩ := atTime_form now d
  rw [ht, h]
theorem sent_mono {o : Output} {d e : Dev} (h : e.emitted = d.emitted) (hs : Sent o d) : Sent o e := by
  unfold Sent at *; rwa [h]
theorem sent_emit (o : Output) (d : Dev) : Sent o (emit o d) := by simp [Sent, emit]
theorem sent_emit_of {o p : Output} {d : Dev} (h : Sent o d) : Sent o (emit p d) := by simp [Sent, emit] at *; exact .inl h
/-- Any function of the block keeps the canonical forms. -/
theorem sound_by {m : Nat} {d e : Dev} (h : Keeps m d e) (hs : Sound d) : Sound e := h.sound hs
theorem atTime_sound {now : Nat} {d : Dev} (h : Sound d) : Sound (atTime now d) :=
  (atTime_keeps (m := 4398046511103) rfl (.refl d)).sound h
theorem setIdle_regs_only (fn : Nat) (b : Bool) (d : Dev) : setIdle fn b d = { d with regs := (setIdle fn b d).regs } := by
  unfold setIdle setFld regSet; split <;> split <;> rfl
theorem vec_set (d : Dev) (h : Rising d.msix) (k j : Nat) (v : Msix) : vec (setVec k v d) j = if j = k then v else vec d j :=
  tabGet_put _ _ h _ _ _
theorem sendVec_vec (d : Dev) (h : Rising d.msix) (k j : Nat) :
    vec (sendVec k d) j = if j = k then { vec d k with held := 0, first := 0, eoc := false } else vec d j := by
  unfold sendVec; rw [setIdle_regs_only]; exact vec_set d h k j _
theorem sendVec_sent (d : Dev) (k : Nat) : Sent (.msix k) (sendVec k d) := by
  unfold sendVec; rw [setIdle_regs_only]; exact sent_emit (.msix k) _
theorem sendVec_other (d : Dev) (k : Nat) : (sendVec k d).irq = d.irq ∧ (sendVec k d).fnMask = d.fnMask := by
  unfold sendVec; rw [setIdle_regs_only]; exact ⟨rfl, rfl⟩
theorem bits_mod (v lo len w : Nat) (h : lo + len ≤ w) : bits (v % 2 ^ w) lo len = bits v lo len := by
  apply Nat.eq_of_testBit_eq; intro i
  simp only [bits, Nat.testBit_mod_two_pow, Nat.testBit_div_two_pow]
  by_cases hi : i < len
  · have : i + lo < w := by omega
    simp [hi, this]
  · simp [hi]
theorem bits_setBits (v lo len x : Nat) : bits (setBits v lo len x) lo len = x % 2 ^ len := by
  unfold bits setBits
  have h1 : v % 2 ^ lo < 2 ^ lo := Nat.mod_lt _ (Nat.two_pow_pos lo)
  have : (v % 2 ^ lo + x % 2 ^ len * 2 ^ lo + v / 2 ^ (lo + len) * 2 ^ (lo + len)) / 2 ^ lo =
      x % 2 ^ len + v / 2 ^ (lo + len) * 2 ^ len := by
    rw [show v % 2 ^ lo + x % 2 ^ len * 2 ^ lo + v / 2 ^ (lo + len) * 2 ^ (lo + len) =
      v % 2 ^ lo + 2 ^ lo * (x % 2 ^ len + v / 2 ^ (lo + len) * 2 ^ len) by rw [Nat.pow_add]; ring]
    rw [Nat.add_mul_div_left _ _ (Nat.two_pow_pos lo), Nat.div_eq_of_lt h1, Nat.zero_add]
  rw [this, Nat.add_mul_mod_self_right, Nat.mod_mod]
theorem bits_setBits_ne (v lo len x j n : Nat) (h : j + n ≤ lo ∨ lo + len ≤ j) : bits (setBits v lo len x) j n = bits v j n := by
  have h1 : v % 2 ^ lo < 2 ^ lo := Nat.mod_lt _ (Nat.two_pow_pos lo)
  have hx : x % 2 ^ len < 2 ^ len := Nat.mod_lt _ (Nat.two_pow_pos len)
  rcases h with h | h
  · rw [← bits_mod _ j n lo h, ← bits_mod v j n lo h]
    congr 1
    rw [setBits, show v % 2 ^ lo + x % 2 ^ len * 2 ^ lo + v / 2 ^ (lo + len) * 2 ^ (lo + len) =
      v % 2 ^ lo + 2 ^ lo * (x % 2 ^ len + v / 2 ^ (lo + len) * 2 ^ len) by rw [Nat.pow_add]; ring, Nat.add_mul_mod_self_left,
      Nat.mod_mod]
  · obtain ⟨c, rfl⟩ := Nat.exists_eq_add_of_le h
    simp only [bits]
    congr 1
    rw [Nat.pow_add, ← Nat.div_div_eq_div_mul, ← Nat.div_div_eq_div_mul]
    congr 1
    have : v % 2 ^ lo + x % 2 ^ len * 2 ^ lo < 2 ^ (lo + len) := by
      rw [Nat.pow_add]; nlinarith [Nat.two_pow_pos lo]
    rw [setBits, Nat.add_mul_div_right _ _ (Nat.two_pow_pos _), Nat.div_eq_of_lt this, Nat.zero_add]
theorem bit_eq_bits (v n : Nat) : bit v n = (bits v n 1 == 1) := by simp [bit, bits]
/-- A register's field reads as it was written, another as before. -/
theorem fld_setFld (d : Dev) (h : Rising d.regs) (k lo len x : Nat) (hw : lo + len ≤ 32) :
    fld (setFld k lo len x d) k lo len = x % 2 ^ len := by
  unfold fld setFld; rw [regGet_set d h, if_pos rfl, bits_mod _ _ _ _ hw, bits_setBits]
theorem fld_setFld_ne (d : Dev) (h : Rising d.regs) (k lo len x j n : Nat) (hw : j + n ≤ 32)
    (hn : j + n ≤ lo ∨ lo + len ≤ j) : fld (setFld k lo len x d) k j n = fld d k j n := by
  unfold fld setFld; rw [regGet_set d h, if_pos rfl, bits_mod _ _ _ _ hw, bits_setBits_ne _ _ _ _ _ _ hn]
theorem idleArmed_set (d : Dev) (h : Rising d.regs) (fn : Nat) (b : Bool) (hf : fn < 260) : idleArmed (setIdle fn b d) fn = b := by
  unfold idleArmed setIdle
  split
  · have := fld_setFld d h (Reg.vfIdleHint.vfAt fn 0) 0 1 (b2n b) (by omega)
    unfold fld at this; rw [bit_eq_bits, this]; cases b <;> rfl
  · have := fld_setFld d h Reg.irqIdleHint.base (fn - 256) 1 (b2n b) (by omega)
    unfold fld at this; rw [bit_eq_bits, this]; cases b <;> rfl
theorem idleArmed_set_ne (d : Dev) (h : Rising d.regs) (i j : Nat) (b : Bool) (hi : i < 4) (hj : j < 4) (hn : i ≠ j) :
    idleArmed (setIdle (256 + i) b d) (256 + j) = idleArmed d (256 + j) := by
  unfold idleArmed setIdle
  rw [if_neg (by omega), if_neg (by omega), if_neg (by omega), bit_eq_bits, bit_eq_bits]
  have := fld_setFld_ne d h Reg.irqIdleHint.base (256 + i - 256) 1 (b2n b) (256 + j - 256) 1 (by omega) (by omega)
  unfold fld at this; rw [this]
theorem vec_held_zero {d : Dev} (h : ∀ e ∈ d.msix, e.2.held = 0) (k : Nat) : (vec d k).held = 0 := by
  unfold vec tabGet
  have : ∀ t : Tab Msix, (∀ e ∈ t, e.2.held = 0) → ((tabFind t k).getD {}).held = 0 := by
    intro t
    induction t with
    | nil => intro _; rfl
    | cons x t ih =>
      intro h
      obtain ⟨j, v⟩ := x
      simp only [tabFind]
      split
      · exact h (j, v) (by simp)
      · split
        · rfl
        · exact ih (fun e he => h e (by simp [he]))
  exact this _ h
theorem sendHeld_id {fn : Nat} {d : Dev} (h : ∀ e ∈ d.msix, e.2.held = 0) : sendHeld fn d = d := by
  unfold sendHeld
  generalize (tabKeys d.msix).filter _ = l
  induction l with
  | nil => rfl
  | cons a l ih =>
    simp only [forEach, List.foldl_cons] at *
    have := vec_held_zero h a
    rw [this]; simpa using ih
theorem armIdle_eq {fn : Nat} {d : Dev} (h : ∀ e ∈ d.msix, e.2.held = 0) : armIdle fn d = setIdle fn true d := by
  unfold armIdle; rw [setIdle_regs_only]; exact sendHeld_id h
theorem mend_regs (k : Nat) (d : Dev) : (mend k d).regs = d.regs := by simp
theorem idleArmed_mend (k fn : Nat) (d : Dev) : idleArmed (mend k d) fn = idleArmed d fn := by
  simp [idleArmed, regGet]
theorem setIdle_sound (fn : Nat) (b : Bool) (d : Dev) (h : Sound d) : Sound (setIdle fn b d) :=
  (setIdle_keeps (m := 4398046511103) rfl (.refl d)).sound h

end Sys2Proof.Machine
end

