-- ==== Sys2Proof/Laws/FactsQueues.lean ====
section
/-! SUPPORT. What the shared operations do, said once for the statements QueuePointers, DescriptorCommands. -/
set_option Elab.async false
set_option autoImplicit false
set_option linter.all false
open Sys2Proof Sys2Proof.Machine
namespace Sys2Proof.Machine

theorem ptrWrite_open {who : Caller} {key : Nat} {errs : Dev → List Err} {f : Dev → Dev} {d : Dev} (h : pageOpen who d = true) :
    ptrWrite who key errs f d = match lowest (errs d) with
        | some e => regDrop who key e d
        | none => mend key (f d) := by
  simp only [pageOpen, Bool.and_eq_true, Bool.not_eq_true', Option.isNone_iff_eq_none, Bool.or_eq_true, decide_eq_true_eq] at h
  obtain ⟨⟨⟨⟨h0, h1⟩, h2⟩, h3⟩, h4⟩ := h
  have hb : (d.flt.safe && decide (who ≠ Caller.firmware)) = false := by rcases h4 with h | h <;> simp [h]
  cases who with
  | node n => simp at h0
  | _ =>
    simp only [ptrWrite, hostGate, gateOf, h1, h2, h3, Option.isSome_none, Bool.false_eq_true, if_false, Bool.not_true]
    first
      | (rw [if_neg (by simpa using hb)]; done)
      | (rw [if_neg (by simpa using hb)]; rfl)
theorem ring_set (d : Dev) (h : Rising d.rings) (k j : Nat) (v : Ring) : ring (setRing k v d) j = if j = k then v else ring d j :=
  tabGet_put _ _ h _ _ _
theorem fnQ_set (d : Dev) (h : Rising d.fnq) (k j : Nat) (v : FnQ) : fnQ (setFnQ k v d) j = if j = k then v else fnQ d j :=
  tabGet_put _ _ h _ _ _
theorem ring_mend (k j : Nat) (d : Dev) : ring (mend k d) j = ring d j := by simp [ring]
theorem fnQ_mend (k j : Nat) (d : Dev) : fnQ (mend k d) j = fnQ d j := by simp [fnQ]
theorem lowest_nil : lowest [] = none := rfl
theorem hasSq_lt {fn q : Nat} (h : hasSq fn q = true) : q < 8 := by
  unfold hasSq at h; split at h <;> simp at h <;> omega
theorem cqOf_ne {fn q : Nat} (h : q < 8) : cqOf (sqKey fn q) ≠ sqKey fn q := by
  unfold cqOf sqKey cqKey pfFn; split <;> omega
theorem sqKey_div {fn q : Nat} (h : q < 8) : sqKey fn q / 32 = fn ∧ sqKey fn q % 32 = q := by unfold sqKey; omega
theorem dmaChan_set (d : Dev) (h : Rising d.dmaCh) (k j : Nat) (v : DmaCh) :
    dmaChan (setDmaChan k v d) j = if j = k then v else dmaChan d j := tabGet_put _ _ h _ _ _
theorem fetchInto_ring (k c j : Nat) (desc : Desc) (d : Dev) (h : Rising d.rings) :
    ring (fetchInto k c desc d) j = if j = k then { ring d k with head := ((ring d k).head + 1) % ringSize d k, inflight := (ring d k).inflight + 1 }
      else if j = cqOf k then { ring d (cqOf k) with reserved := (ring d (cqOf k)).reserved + 1 } else ring d j := by
  have h2 : Rising (setRing (cqOf k) { ring d (cqOf k) with reserved := (ring d (cqOf k)).reserved + 1 } d).rings := rising_put h
  have e := ring_set (setRing (cqOf k) { ring d (cqOf k) with reserved := (ring d (cqOf k)).reserved + 1 } d) h2 k j
    { ring d k with head := ((ring d k).head + 1) % ringSize d k, inflight := (ring d k).inflight + 1 }
  rw [ring_set _ h] at e
  rw [← e]
  simp only [fetchInto, ring, setDmaChan_rings]
theorem fetchInto_chan (k c : Nat) (desc : Desc) (d : Dev) (h : Rising d.dmaCh) :
    (∃ r, (dmaChan (fetchInto k c desc d) c).run = some r ∧ r.d = desc ∧ r.fn = k / 32 ∧ r.sq = k % 32 ∧ r.slot = (ring d k).head) ∧
    ∀ j, j ≠ c → dmaChan (fetchInto k c desc d) j = dmaChan d j := by
  have e : ∀ j, dmaChan (fetchInto k c desc d) j = if j = c then { dmaChan d c with run := some { d := desc, fn := k / 32, sq := k % 32, slot := (ring d k).head, ended := (opcodeErr (qOld (queueCfg d k)) desc).isSome, status := (opcodeErr (qOld (queueCfg d k)) desc).getD .ok }, stopped := false } else dmaChan d j := by
    intro j
    simp only [fetchInto, dmaChan, setDmaChan, setRing_dmaCh]
    exact tabGet_put _ _ h _ _ _
  exact ⟨⟨_, congrArg DmaCh.run ((e c).trans (if_pos rfl)), rfl, rfl, rfl, rfl⟩, fun j hj => (e j).trans (if_neg hj)⟩

end Sys2Proof.Machine
end

