-- ==== Sys2Proof/Laws/FactsDrawstring.lean ====
section
/-! SUPPORT. What the shared operations do, said once for the statements DrawstringRing, DrawstringFrames. -/
set_option Elab.async false
set_option autoImplicit false
set_option linter.all false
open Sys2Proof Sys2Proof.Machine
namespace Sys2Proof.Machine

@[simp] theorem beginTraining_dsr (d : Dev) : (beginTraining d).dsr = d.dsr :=
  ((beginTraining_keeps (m := 536870916) rfl (.refl d)).only .dsr rfl).symm
@[simp] theorem beginTraining_emitted (d : Dev) : (beginTraining d).emitted = d.emitted :=
  ((beginTraining_keeps (m := 536870916) rfl (.refl d)).only .emitted rfl).symm
@[simp] theorem beginTraining_regs (d : Dev) : (beginTraining d).regs = d.regs :=
  ((beginTraining_keeps (m := 536870916) rfl (.refl d)).only .regs rfl).symm
theorem regSet_only (k v : Nat) (d : Dev) : regSet k v d = { d with regs := (regSet k v d).regs } := by
  unfold regSet; split <;> rfl
theorem regCount_get (k : Nat) (d : Dev) (h : Rising d.regs) : regGet (regCount k 1 d) k = min (2 ^ 32 - 1) (regGet d k + 1) := by
  unfold regCount; rw [regGet_set _ h, if_pos rfl, satAdd]; omega
theorem regSet_congr {k v : Nat} {d e : Dev} (h : d.regs = e.regs) : (regSet k v d).regs = (regSet k v e).regs := by
  unfold regSet; split <;> simp [h]
theorem regCount_congr {k n : Nat} {d e : Dev} (h : d.regs = e.regs) : (regCount k n d).regs = (regCount k n e).regs := by
  unfold regCount; rw [show regGet d k = regGet e k by unfold regGet; rw [h]]; exact regSet_congr h
theorem ringState_dsr (n : Nat) (d : Dev) : (ringState n d).dsr = { d.dsr with ring := n } ∧ (ringState n d).emitted = d.emitted := by
  unfold ringState; dsimp only; split <;> simp [setDsr]
theorem ringOpen_dsr (d : Dev) : (ringOpen d).dsr = { d.dsr with ring := 5 } ∧ (ringOpen d).emitted = d.emitted := by
  unfold ringOpen; split
  · rename_i h; exact ⟨by rw [← h], rfl⟩
  · simp [setDsr]
theorem ringOpen_regs (d : Dev) (h : d.dsr.ring ≠ 5) : (ringOpen d).regs = (regCount Reg.dsrOpenCnt.base 1 d).regs := by
  unfold ringOpen; rw [if_neg h, beginTraining_regs]
  simp only [level_frame]
  exact regCount_congr rfl
theorem sendFrame_dsr (f : OwnFrame) (d : Dev) : (sendFrame f d).dsr = { d.dsr with frameSeq := (d.dsr.frameSeq + 1) % 256 } ∧
    (sendFrame f d).emitted = d.emitted ++ [.dsFrame f.ty f.dst d.dsr.frameSeq f.op f.idx f.sub f.tag] := ⟨rfl, rfl⟩
theorem sendEnum_dsr (n : Nat) (d : Dev) : (sendEnum n d).dsr =
      { d.dsr with ring := 3, enumTries := n, enumSent := d.tbs.ns, frameSeq := (d.dsr.frameSeq + 1) % 256 } ∧
    (sendEnum n d).emitted = d.emitted ++ [.dsFrame 3 0x3F d.dsr.frameSeq 0 0 0 0] := by
  unfold sendEnum
  obtain ⟨a, b⟩ := ringState_dsr 3 (setDsr { d.dsr with enumTries := n, enumSent := d.tbs.ns } d)
  obtain ⟨a', b'⟩ := sendFrame_dsr { dst := 0x3F, ty := 3, op := 0 } (ringState 3 (setDsr { d.dsr with enumTries := n, enumSent := d.tbs.ns } d))
  rw [a', b', a, b]; exact ⟨rfl, rfl⟩
theorem takeTable_dsr (es : List Nat) (d : Dev) : (takeTable es d).dsr.ring = 4 ∧ (takeTable es d).dsr.nodes = es.length ∧
    (takeTable es d).dsr.masterId = (es.find? fun e => bit e 16).map entryId ∧ (takeTable es d).emitted = d.emitted ∧
    (takeTable es d).dsr.hop = d.dsr.hop ∧ (takeTable es d).dsr.tokenSeq = d.dsr.tokenSeq ∧
    (takeTable es d).dsr.frameSeq = d.dsr.frameSeq := by
  obtain ⟨a, b⟩ := ringState_dsr 4 d
  delta takeTable; dsimp only
  split <;> simp [setDsr, a, b]
theorem dsEnum_eq (hop : Nat) (es : List Nat) (d : Dev) (h1 : d.dsr.master = true) (h2 : d.dsr.ring = 3) :
    dsEnum d.dsr.nodeId hop es d = issueToken (sendFrame { dst := 0x3F, ty := 4, op := 0 }
      (takeTable (flagConflicts (nodeEntry 0 d :: es)) (setDsr { d.dsr with hop := 0 } d))) := by
  rw [dsEnum]
  rw [if_pos h1, if_neg (by simp), if_neg (by simp [h2])]
theorem issueToken_dsr (f : OwnFrame) (z : Dev) :
    (issueToken (sendFrame f z)).dsr.ring = z.dsr.ring ∧ (issueToken (sendFrame f z)).dsr.hop = z.dsr.hop ∧
    (issueToken (sendFrame f z)).dsr.tokenSeq = (z.dsr.tokenSeq + 1) % 256 ∧
    (issueToken (sendFrame f z)).emitted = z.emitted ++ [.dsFrame f.ty f.dst z.dsr.frameSeq f.op f.idx f.sub f.tag,
      .dsToken ((z.dsr.tokenSeq + 1) % 256)] := by
  refine ⟨rfl, rfl, rfl, ?_⟩
  simp [issueToken, sendFrame, emit, setDsr]
theorem dsEnum_back (hop : Nat) (es : List Nat) (d : Dev) (h1 : d.dsr.master = true) (h2 : d.dsr.ring = 3) :
    (dsEnum d.dsr.nodeId hop es d).dsr.ring = 4 ∧ (dsEnum d.dsr.nodeId hop es d).dsr.hop = 0 ∧
    (dsEnum d.dsr.nodeId hop es d).dsr.tokenSeq = (d.dsr.tokenSeq + 1) % 256 ∧
    (dsEnum d.dsr.nodeId hop es d).emitted =
      d.emitted ++ [.dsFrame 4 0x3F d.dsr.frameSeq 0 0 0 0, .dsToken ((d.dsr.tokenSeq + 1) % 256)] := by
  rw [dsEnum_eq hop es d h1 h2]
  obtain ⟨a, b, c, e, f, g, i⟩ := takeTable_dsr (flagConflicts (nodeEntry 0 d :: es)) (setDsr { d.dsr with hop := 0 } d)
  obtain ⟨p, q, u, v⟩ := issueToken_dsr { dst := 0x3F, ty := 4, op := 0 } (takeTable (flagConflicts (nodeEntry 0 d :: es)) (setDsr { d.dsr with hop := 0 } d))
  rw [p, q, u, v, a, e, f, g, i]
  exact ⟨rfl, rfl, rfl, rfl⟩
theorem afterAck_only (f : OwnFrame) (a : Nat) (d : Dev) : ∃ o rt, afterAck f a d =
    { d with dsr := { d.dsr with outstanding := o, retry := rt } } := by
  unfold afterAck; dsimp only
  repeat' split
  all_goals exact ⟨_, _, rfl⟩

end Sys2Proof.Machine
end

