-- ==== Sys2Proof/Laws/FactsIngress.lean ====
section
/-! SUPPORT. What the shared operations do, said once for the statements IngressCommands. -/
set_option Elab.async false
set_option autoImplicit false
set_option linter.all false
open Sys2Proof Sys2Proof.Machine
namespace Sys2Proof.Machine

theorem accept_form (q : Req) (idx : Nat) (sub : Nat) (d : Dev) : ∃ x_regs x_emitted x_irq x_mbox x_waiting x_lastCtr x_authSeen x_dsr, accept q idx sub d = { d with regs := x_regs, emitted := x_emitted, irq := x_irq, mbox := x_mbox, waiting := x_waiting, lastCtr := x_lastCtr, authSeen := x_authSeen, dsr := x_dsr } := by
  have h : ∀ p : Piece, (271974673 : Nat).testBit p.num = false → p.same d (accept q idx sub d) :=
    (accept_keeps (m := 271974673) rfl (.refl d)).only
  revert h
  generalize accept q idx sub d = x
  intro h
  have e : d.stage = x.stage ∧ d.objs = x.objs ∧ d.heldStitch = x.heldStitch ∧ d.freeCtr = x.freeCtr ∧ d.rngCtr = x.rngCtr ∧ d.flt = x.flt ∧ d.msix = x.msix ∧ d.fnMask = x.fnMask ∧ d.rings = x.rings ∧ d.fnq = x.fnq ∧ d.dmaCh = x.dmaCh ∧ d.recvBufs = x.recvBufs ∧ d.links = x.links ∧ d.parityBad = x.parityBad ∧ d.snaps = x.snaps ∧ d.tbs = x.tbs ∧ d.tenants = x.tenants ∧ d.rrLast = x.rrLast ∧ d.sec = x.sec ∧ d.pair = x.pair ∧ d.sess = x.sess ∧ d.chans = x.chans ∧ d.wrd = x.wrd ∧ d.mem = x.mem ∧ d.streams = x.streams ∧ d.tiles = x.tiles ∧ d.loom = x.loom ∧ d.hold = x.hold ∧ d.linPrm = x.linPrm ∧ d.ladder = x.ladder ∧ d.pke = x.pke ∧ d.lib = x.lib ∧ d.linings = x.linings ∧ d.pwr = x.pwr := ⟨h .stage rfl, h .objs rfl, h .heldStitch rfl, h .freeCtr rfl, h .rngCtr rfl, h .flt rfl, h .msix rfl, h .fnMask rfl, h .rings rfl, h .fnq rfl, h .dmaCh rfl, h .recvBufs rfl, h .links rfl, h .parityBad rfl, h .snaps rfl, h .tbs rfl, h .tenants rfl, h .rrLast rfl, h .sec rfl, h .pair rfl, h .sess rfl, h .chans rfl, h .wrd rfl, h .mem rfl, h .streams rfl, h .tiles rfl, h .loom rfl, h .hold rfl, h .linPrm rfl, h .ladder rfl, h .pke rfl, h .lib rfl, h .linings rfl, h .pwr rfl⟩
  cases x; cases d
  simp only at e
  obtain ⟨rfl, rfl, rfl, rfl, rfl, rfl, rfl, rfl, rfl, rfl, rfl, rfl, rfl, rfl, rfl, rfl, rfl, rfl, rfl, rfl, rfl, rfl, rfl, rfl, rfl, rfl, rfl, rfl, rfl, rfl, rfl, rfl, rfl, rfl⟩ := e
  exact ⟨_, _, _, _, _, _, _, _, rfl⟩
/-- What does not read the pieces that `accept` changes is as before. -/
theorem accept_irrel {α : Type} (g : Dev → α) (q : Req) (idx : Nat) (sub : Nat) (d : Dev) (h : ∀ x_regs x_emitted x_irq x_mbox x_waiting x_lastCtr x_authSeen x_dsr, g { d with regs := x_regs, emitted := x_emitted, irq := x_irq, mbox := x_mbox, waiting := x_waiting, lastCtr := x_lastCtr, authSeen := x_authSeen, dsr := x_dsr } = g d) :
    g (accept q idx sub d) = g d := by
  obtain ⟨x_regs, x_emitted, x_irq, x_mbox, x_waiting, x_lastCtr, x_authSeen, x_dsr, e⟩ := accept_form q idx sub d
  rw [e, h]
theorem answers_perform {c : Instr} {s : State} {q : Req} {i u : Nat} {own : Dev → List Err} {f : Dev → Dev} {P : Dev → Prop}
    (he : exec c s = act (perform q i u own f) s) (hg : granted q i u own s.dev = true)
    (hp : P (accept q i u (f (atTime q.now s.dev)))) : Answers c s (fun d => Accepted q i u d ∧ P d) := by
  refine answers_act he (granted_held hg) ?_
  rw [perform_granted hg]
  obtain ⟨l, p, h⟩ := accept_emitted q i u (f (atTime q.now s.dev))
  exact ⟨⟨l, p, by simp [Sent, h]⟩, hp⟩
theorem answers_performOn {c : Instr} {s : State} {q : Req} {i u : Nat} {own : Dev → List Err} {f : Dev → Dev} {P : Dev → Prop}
    {ok : Bool} (he : exec c s = actOn ok (perform q i u own f) s) (hk : ok = true) (hg : granted q i u own s.dev = true)
    (hp : P (accept q i u (f (atTime q.now s.dev)))) : Answers c s (fun d => Accepted q i u d ∧ P d) := by
  subst hk
  exact answers_perform (he.trans rfl) hg hp
theorem objCount_get (d : Dev) (h : Rising d.objs) (w i u n : Nat) : objGet (objCount w i u n d) i u = (objGet d i u + n) % 2 ^ w := by
  unfold objCount wrapAdd; rw [objGet_set_self _ h]
theorem objCount_get_ne (d : Dev) (h : Rising d.objs) (w i u n j t : Nat) (hn : objKey j t ≠ objKey i u) :
    objGet (objCount w i u n d) j t = objGet d j t := by
  unfold objCount; rw [objGet_set_ne _ h _ _ _ _ _ hn]
theorem objCount_rising (d : Dev) (h : Rising d.objs) (w i u n : Nat) : Rising (objCount w i u n d).objs := by
  unfold objCount objSet; split
  · exact rising_erase h
  · exact rising_set h
theorem objCount_only (w i u n : Nat) (d : Dev) : ∃ x, objCount w i u n d = { d with objs := x } := by
  unfold objCount objSet; split <;> exact ⟨_, rfl⟩
theorem objKey_ne {i j u t : Nat} (h : i ≠ j) (hu : u < 256) (ht : t < 256) : objKey j t ≠ objKey i u := by unfold objKey; omega
theorem pipe_set (d : Dev) (h : Rising d.pke.pipes) (i j : Nat) (x : Pipe) : pipe (setPipe i x d) j = if j = i then x else pipe d j :=
  tabGet_put _ _ h _ _ _
/-- What inserting or removing a key changes when the bucket has room: the pipeline alone. -/
structure PipeOnly (i : Nat) (d e : Dev) : Prop where
  objs : e.objs = d.objs
  pipes : Rising d.pke.pipes → Rising e.pke.pipes
  flows : Rising d.pke.pipes → (∀ j, Rising (pipe d j).flows) → ∀ j, Rising (pipe e j).flows
  other : Rising d.pke.pipes → ∀ j, j ≠ i → pipe e j = pipe d j
theorem pipePut_get (i g : Nat) (v : Pipe) (d : Dev) (h : Rising d.pke.pipes) (j : Nat) :
    pipe (flowChanged i g (setPipe i v d)) j =
      if j = i then { v with changed := tabSet v.changed g d.tbs.ns } else pipe d j := by
  have h2 : Rising (setPipe i v d).pke.pipes := rising_put h
  have e : pipe (setPipe i v d) i = v := by rw [pipe_set _ h, if_pos rfl]
  unfold flowChanged
  rw [pipe_set _ h2, e]
  split
  · rfl
  · rw [pipe_set _ h, if_neg ‹_›]
theorem pipePut_rising (i g : Nat) (v : Pipe) (d : Dev) (h : Rising d.pke.pipes) :
    Rising (flowChanged i g (setPipe i v d)).pke.pipes := rising_put (rising_put h)
theorem flowInsert_room (i la ra lp rp g : Nat) (d : Dev) (hp : Rising d.pke.pipes) (hf : ∀ j, Rising (pipe d j).flows)
    (hl : (tabGet [] (pipe d i).flows (flowBucket (objGet d 0x1A41 0) la ra lp rp)).length < 8) :
    PipeOnly i d (flowInsert i la ra lp rp g d) ∧ (flowFind (flowInsert i la ra lp rp g d) i la ra lp rp).isSome = true := by
  unfold flowInsert; dsimp only
  split
  · rename_i h
    refine ⟨⟨rfl, id, fun _ h => h, fun _ _ _ => rfl⟩, ?_⟩
    simp only [flowFind, List.find?_isSome]
    obtain ⟨x, hx, hk⟩ := List.any_eq_true.1 h
    exact ⟨x, hx, hk⟩
  · try rw [if_pos hl]
    refine ⟨⟨rfl, fun h => pipePut_rising _ _ _ _ h, fun h hf j => ?_, fun h j hj => ?_⟩, ?_⟩
    · rw [pipePut_get _ _ _ _ (by exact h)]
      split
      · exact rising_put (hf i)
      · exact hf j
    · rw [pipePut_get _ _ _ _ (by exact h), if_neg hj]; rfl
    · have eo : ∀ v x, objGet (flowChanged i g (setPipe i v { d with pke := { d.pke with flowSeq := x } })) 0x1A41 0 = objGet d 0x1A41 0 :=
        fun _ _ => rfl
      simp only [flowFind, eo]
      rw [pipePut_get _ _ _ _ (by exact hp), if_pos rfl]
      dsimp only
      rw [tabGet_put _ _ (hf i), if_pos rfl, List.find?_isSome]
      exact ⟨{ la := la, ra := ra, lp := lp, rp := rp, g := g, stamp := d.pke.flowSeq }, by simp, by simp [Flow.hasKey]⟩
theorem flowRemove_room (i la ra lp rp : Nat) (d : Dev) (hp : Rising d.pke.pipes) (hf : ∀ j, Rising (pipe d j).flows) :
    PipeOnly i d (flowRemove i la ra lp rp d) ∧ flowFind (flowRemove i la ra lp rp d) i la ra lp rp = none := by
  unfold flowRemove
  split
  · rename_i h; exact ⟨⟨rfl, id, fun _ h => h, fun _ _ _ => rfl⟩, h⟩
  · rename_i f _
    dsimp only
    generalize hb : flowBucket (objGet d 0x1A41 0) la ra lp rp = b at *
    generalize hv : ({ pipe d i with flows := tabPut [] (pipe d i).flows b ((tabGet [] (pipe d i).flows b).filter fun y => !Flow.hasKey la ra lp rp y) } : Pipe) = v
    have h2 : Rising (setPipe i v d).pke.pipes := rising_put hp
    have q2 : ∀ j, pipe (flowChanged i f.g (setPipe i v d)) j = if j = i then { v with changed := tabSet v.changed f.g (setPipe i v d).tbs.ns } else pipe d j := by
      intro j
      unfold flowChanged
      rw [pipe_set _ h2]
      have e : pipe (setPipe i v d) i = v := by rw [pipe_set _ hp, if_pos rfl]
      rw [e]
      by_cases hj : j = i
      · rw [if_pos hj, if_pos hj]
      · rw [if_neg hj, if_neg hj, pipe_set _ hp, if_neg hj]
    refine ⟨⟨rfl, fun _ => rising_put h2, fun _ _ j => ?_, fun _ j hj => by rw [q2, if_neg hj]⟩, ?_⟩
    · rw [q2]; split
      · subst hv; exact rising_put (hf i)
      · exact hf j
    · have eo : objGet (flowChanged i f.g (setPipe i v d)) 0x1A41 0 = objGet d 0x1A41 0 := rfl
      simp only [flowFind, eo, hb, q2, if_true]
      have : tabGet [] v.flows b = (tabGet [] (pipe d i).flows b).filter fun y => !Flow.hasKey la ra lp rp y := by
        subst hv; dsimp only; rw [tabGet_put _ _ (hf i), if_pos rfl]
      rw [this, List.find?_eq_none]
      intro x hx; have := (List.mem_filter.1 hx).2; simpa using this
theorem flowFind_other {i j : Nat} {d e : Dev} (h : PipeOnly i d e) (hp : Rising d.pke.pipes) (hj : j ≠ i) (la ra lp rp : Nat) :
    flowFind e j la ra lp rp = flowFind d j la ra lp rp := by
  have : objGet e 0x1A41 0 = objGet d 0x1A41 0 := by unfold objGet; rw [h.objs]
  simp only [flowFind, h.other hp j hj, this]

end Sys2Proof.Machine
end

