-- ==== Sys2Proof/Laws/FactsFaults.lean ====
section
/-! SUPPORT. What the shared operations do, said once for the statements FaultClears, FaultAcceptance, FaultLog, FaultWiresAndSelfTest. -/
set_option Elab.async false
set_option autoImplicit false
set_option linter.all false
open Sys2Proof Sys2Proof.Machine
namespace Sys2Proof.Machine

theorem bit_add_self (v k : Nat) (h : bit v k = false) : bit (v + 2 ^ k) k = true := by
  simp only [bit, beq_eq_false_iff_ne, ne_eq, beq_iff_eq] at *
  rw [Nat.add_div_right _ (Nat.two_pow_pos k)]; omega
theorem enterSafe_flt (c : Nat) (d : Dev) :
    (enterSafe c d).flt = if d.flt.safe then d.flt else { d.flt with safe := true, cause := c } := by
  unfold enterSafe; split <;> simp
/-- The source's entry once it has accepted a report (R475 items 1 to 3). -/
def srcWith (time o : Nat) (a b : Bool) (r : Report) (f : FltSrc) : FltSrc :=
  { f with
    standing := if bit f.standing r.sev then f.standing else f.standing + 2 ^ r.sev
    occ := satAdd 12 f.occ r.count
    levels := if r.level then r :: f.levels else f.levels
    latch := some (latchJoin time o a b r f.latch) }
theorem acceptOne_flt (o : Nat) (a b : Bool) (r : Report) (d : Dev) :
    (acceptOne o a b r d).flt =
      { d.flt with srcs := tabPut {} d.flt.srcs r.src (srcWith d.tbs.ns o a b r (fltSrc d r.src)) } := by
  unfold acceptOne; dsimp only; split
  · simp [setFltSrc]; rfl
  · split <;> simp [setFltSrc] <;> rfl
/-- One report accepted alone (R475). -/
theorem acceptAll_one (r : Report) (d : Dev) :
    acceptAll [r] d =
      let cap : Capture := { rep := r, time := d.tbs.ns, seq := 0 }
      let d2 := acceptOne d.flt.orders d.flt.first.isNone (beatsWorst d r) r { d with flt := { d.flt with
        first := if d.flt.first.isNone then some cap else d.flt.first
        worst := if beatsWorst d r then some cap else d.flt.worst
        orders := d.flt.orders + 1 } }
      if r.sev = 4 then enterSafe (if r.forced then 2 else 1) d2 else d2 := by
  simp [acceptAll, chosen, forEach]
theorem acceptAll_srcs (r : Report) (d : Dev) (hs : Rising d.flt.srcs) (i : Nat) :
    fltSrc (acceptAll [r] d) i = if i = r.src then
      srcWith d.tbs.ns d.flt.orders d.flt.first.isNone (beatsWorst d r) r (fltSrc d r.src) else fltSrc d i := by
  rw [acceptAll_one]; dsimp only
  have : ∀ (x : Dev), (if r.sev = 4 then enterSafe (if r.forced then 2 else 1) x else x).flt.srcs = x.flt.srcs := fun x => by
    split
    · rw [enterSafe_flt]; split <;> rfl
    · rfl
  simp only [fltSrc, this, acceptOne_flt]
  rw [tabGet_put _ _ hs]
theorem acceptAll_safe (r : Report) (d : Dev) :
    (acceptAll [r] d).flt.safe = (d.flt.safe || decide (r.sev = 4)) ∧ (acceptAll [r] d).flt.integrity = d.flt.integrity := by
  rw [acceptAll_one]; dsimp only
  by_cases h4 : r.sev = 4
  · simp only [h4, if_true, enterSafe_flt, acceptOne_flt]; cases hs : d.flt.safe <;> simp
  · simp only [h4, if_false, acceptOne_flt]; simp
theorem atTime_fltSrc (now : Nat) (d : Dev) (i : Nat) : fltSrc (atTime now d) i = fltSrc d i := by simp [fltSrc]

end Sys2Proof.Machine
end

