-- ==== Sys2Proof/Laws/FactsTiles.lean ====
section
/-! SUPPORT. What the shared operations do, said once for the statements TileLoading, TileCoding, TileFailures. -/
set_option Elab.async false
set_option autoImplicit false
set_option linter.all false
open Sys2Proof Sys2Proof.Machine
namespace Sys2Proof.Machine

theorem tile_set (d : Dev) (h : Rising d.tiles) (t u : Nat) (f : Tile → Tile) :
    tile (updTile t f d) u = if u = t then f (tile d t) else tile d u := tabGet_put _ _ h _ _ _
theorem stream_set (d : Dev) (h : Rising d.streams) (t u : Nat) (f : Stream → Stream) :
    stream (updStream t f d) u = if u = t then f (stream d t) else stream d u := tabGet_put _ _ h _ _ _
theorem startCoding_tile (t : Nat) (j : Job) (d : Dev) (h : Rising d.tiles) (u : Nat) :
    tile (startCoding t j d) u = if u = t then { tile d t with phase := 3 } else tile d u := by
  have e : (startCoding t j d).tiles = (updTile t (fun x => { x with phase := 3 }) d).tiles := by
    unfold startCoding; dsimp only; split <;> simp
  unfold tile; rw [e]; exact tile_set d h t u _
@[simp] theorem startCoding_streams (t : Nat) (j : Job) (d : Dev) : (startCoding t j d).streams = d.streams :=
  ((startCoding_keeps (m := 8589934596) rfl (.refl d)).only .streams rfl).symm
theorem loadPart_waits (t : Nat) (j : Job) (ok : Bool) (d : Dev) (h : committed d j = false) :
    loadPart t j ok d = updTile t (fun y => { y with phase := if j.band == 0 && j.part == 0 then 2 else 1 }) d := by
  simp only [loadPart]
  rw [if_pos]
  unfold committed at h
  revert h; cases (stream d j.stream).commit <;> simp
theorem loadPart_codes (t : Nat) (j : Job) (ok : Bool) (d : Dev) (h : committed d j = true) (ho : ok = true)
    (hs : (tabGet {} (stream d j.stream).copies (j.frame % 4)).seq = j.frame) : loadPart t j ok d = startCoding t j d := by
  simp only [loadPart]
  rw [if_neg, if_neg]
  · simp [ho, hs]
  · unfold committed at h
    revert h; cases (stream d j.stream).commit <;> simp
theorem ite_and_bool (a b : Nat) : (if (a == 0 && b == 0) = true then 2 else 1) = (if a = 0 ∧ b = 0 then 2 else 1) := by
  by_cases h : a = 0 <;> by_cases g : b = 0 <;> simp [h, g]
@[simp] theorem countReads_loom (t : Nat) (f : Frame) (j : Job) (a : Sleeve) (d : Dev) : (countReads t f j a d).loom = d.loom :=
  ((countReads_keeps (m := 5) rfl (.refl d)).only .loom rfl).symm
@[simp] theorem countReads_tiles (t : Nat) (f : Frame) (j : Job) (a : Sleeve) (d : Dev) : (countReads t f j a d).tiles = d.tiles :=
  ((countReads_keeps (m := 5) rfl (.refl d)).only .tiles rfl).symm
@[simp] theorem updPart_loom (j : Job) (g : Part → Part) (d : Dev) : (updPart j g d).loom = d.loom :=
  ((updPart_keeps (m := 4294967296) rfl (.refl d)).only .loom rfl).symm
@[simp] theorem updPart_tiles (j : Job) (g : Part → Part) (d : Dev) : (updPart j g d).tiles = d.tiles :=
  ((updPart_keeps (m := 4294967296) rfl (.refl d)).only .tiles rfl).symm
@[simp] theorem updPart_tbs (j : Job) (g : Part → Part) (d : Dev) : (updPart j g d).tbs = d.tbs :=
  ((updPart_keeps (m := 4294967296) rfl (.refl d)).only .tbs rfl).symm
@[simp] theorem writeBand_tiles (sid : Nat) (c : Nat) (b : Nat) (f : Frame) (samples : List Nat) (above : Bool) (below : Bool) (d : Dev) : (writeBand sid c b f samples above below d).tiles = d.tiles :=
  ((writeBand_keeps (m := 4294967296) rfl (.refl d)).only .tiles rfl).symm
@[simp] theorem outputBand_tiles (sid : Nat) (c : Nat) (b : Nat) (f : Frame) (samples : List Nat) (d : Dev) : (outputBand sid c b f samples d).tiles = d.tiles :=
  ((outputBand_keeps (m := 4294967296) rfl (.refl d)).only .tiles rfl).symm
@[simp] theorem updBand_loom (sid : Nat) (c : Nat) (b : Nat) (g : Band → Band) (d : Dev) : (updBand sid c b g d).loom = d.loom :=
  ((updBand_keeps (m := 4294967296) rfl (.refl d)).only .loom rfl).symm
@[simp] theorem updBand_tiles (sid : Nat) (c : Nat) (b : Nat) (g : Band → Band) (d : Dev) : (updBand sid c b g d).tiles = d.tiles :=
  ((updBand_keeps (m := 4294967296) rfl (.refl d)).only .tiles rfl).symm
@[simp] theorem objCount_loom (w : Nat) (idx : Nat) (sub : Nat) (n : Nat) (d : Dev) : (objCount w idx sub n d).loom = d.loom :=
  ((objCount_keeps (m := 4) rfl (.refl d)).only .loom rfl).symm
@[simp] theorem objCount_tiles (w : Nat) (idx : Nat) (sub : Nat) (n : Nat) (d : Dev) : (objCount w idx sub n d).tiles = d.tiles :=
  ((objCount_keeps (m := 4) rfl (.refl d)).only .tiles rfl).symm
@[simp] theorem startFrame_loom (sid : Nat) (n : Nat) (d : Dev) : (startFrame sid n d).loom = d.loom :=
  ((startFrame_keeps (m := 316955171093) rfl (.refl d)).only .loom rfl).symm
@[simp] theorem placeCurrent_loom (t : Nat) (j : Job) (n : Nat) (d : Dev) : (placeCurrent t j n d).loom = d.loom :=
  ((placeCurrent_keeps (m := 12884901892) rfl (.refl d)).only .loom rfl).symm
@[simp] theorem collectJob_loom (j : Job) (d : Dev) : (collectJob j d).loom = d.loom :=
  ((collectJob_keeps (m := 1413245573557) rfl (.refl d)).only .loom rfl).symm
@[simp] theorem noteCoder_loom (t : Nat) (j : Job) (d : Dev) : (noteCoder t j d).loom = d.loom :=
  ((noteCoder_keeps (m := 4294967296) rfl (.refl d)).only .loom rfl).symm
@[simp] theorem settleBudget_loom (t : Nat) (d : Dev) : (settleBudget t d).loom = d.loom :=
  ((settleBudget_keeps (m := 8589934593) rfl (.refl d)).only .loom rfl).symm
@[simp] theorem settleBudget_tbs (t : Nat) (d : Dev) : (settleBudget t d).tbs = d.tbs :=
  ((settleBudget_keeps (m := 8589934593) rfl (.refl d)).only .tbs rfl).symm
@[simp] theorem tellChanges_loom (s : Nat) (d : Dev) : (tellChanges s d).loom = d.loom :=
  ((tellChanges_keeps (m := 275079233541) rfl (.refl d)).only .loom rfl).symm
@[simp] theorem tellChanges_tiles (s : Nat) (d : Dev) : (tellChanges s d).tiles = d.tiles :=
  ((tellChanges_keeps (m := 275079233541) rfl (.refl d)).only .tiles rfl).symm
@[simp] theorem startNext_loom (t : Nat) (j : Job) (loaded : Bool) (allow : Nat) (d : Dev) : (startNext t j loaded allow d).loom = d.loom :=
  ((startNext_keeps (m := 8589934592) rfl (.refl d)).only .loom rfl).symm
@[simp] theorem takeOver_loom (t : Nat) (d : Dev) : (takeOver t d).loom = d.loom :=
  ((takeOver_keeps (m := 8589934592) rfl (.refl d)).only .loom rfl).symm
@[simp] theorem becomeIdle_loom (t : Nat) (d : Dev) : (becomeIdle t d).loom = d.loom :=
  ((becomeIdle_keeps (m := 8589934592) rfl (.refl d)).only .loom rfl).symm
@[simp] theorem startCoding_loom (t : Nat) (j : Job) (d : Dev) : (startCoding t j d).loom = d.loom :=
  ((startCoding_keeps (m := 8589934596) rfl (.refl d)).only .loom rfl).symm
@[simp] theorem degradeLining_loom (l : Nat) (cause : Nat) (d : Dev) : (degradeLining l cause d).loom = d.loom :=
  ((degradeLining_keeps (m := 275079239957) rfl (.refl d)).only .loom rfl).symm
@[simp] theorem dropFrames_loom (sid : Nat) (c : Nat) (d : Dev) : (dropFrames sid c d).loom = d.loom :=
  ((dropFrames_keeps (m := 4294967300) rfl (.refl d)).only .loom rfl).symm
@[simp] theorem suspend_loom (s : Nat) (cause : Nat) (d : Dev) : (suspend s cause d).loom = d.loom :=
  ((suspend_keeps (m := 313733945749) rfl (.refl d)).only .loom rfl).symm
@[simp] theorem stitchOverrun_tbs (t : Nat) (d : Dev) : (stitchOverrun t d).tbs = d.tbs :=
  ((stitchOverrun_keeps (m := 25769804165) rfl (.refl d)).only .tbs rfl).symm
@[simp] theorem updDest_loom (s : Nat) (e : Nat) (f : Dest → Dest) (d : Dev) : (updDest s e f d).loom = d.loom :=
  ((updDest_keeps (m := 134217728) rfl (.refl d)).only .loom rfl).symm
@[simp] theorem updPlanFrame_loom (sid : Nat) (c : Nat) (g : Frame → Frame) (d : Dev) : (updPlanFrame sid c g d).loom = d.loom :=
  ((updPlanFrame_keeps (m := 4294967296) rfl (.refl d)).only .loom rfl).symm
@[simp] theorem updStream_loom (sid : Nat) (f : Stream → Stream) (d : Dev) : (updStream sid f d).loom = d.loom :=
  ((updStream_keeps (m := 4294967296) rfl (.refl d)).only .loom rfl).symm
@[simp] theorem setBudget_loom (p : Dev) (sid c : Nat) (f : Frame) (d : Dev) : (setBudget p sid c f d).loom = d.loom := by
  unfold setBudget; split
  · rfl
  · simp
theorem forEach_loom {α : Type} (l : List α) (f : α → Dev → Dev) (h : ∀ a d, (f a d).loom.latch = d.loom.latch ∧ (f a d).loom.closing = d.loom.closing) :
    ∀ d, (forEach l f d).loom.latch = d.loom.latch ∧ (forEach l f d).loom.closing = d.loom.closing := by
  induction l with
  | nil => intro d; exact ⟨rfl, rfl⟩
  | cons a l ih =>
    intro d
    have := ih (f a d)
    simp only [forEach, List.foldl_cons] at *
    exact ⟨this.1.trans (h a d).1, this.2.trans (h a d).2⟩
theorem enterPlan_loom (sid c b : Nat) (pl : Plan) (d : Dev) :
    (enterPlan sid c b pl d).loom.latch = d.loom.latch ∧ (enterPlan sid c b pl d).loom.closing = d.loom.closing := by
  unfold enterPlan; dsimp only
  rw [objCount_loom]; dsimp only
  have := forEach_loom pl.wire (fun w d => updDest (slotOf sid) w.1 (fun x => { x with madeSince := x.madeSince + w.2 }) d)
    (fun a d => by rw [updDest_loom]; exact ⟨rfl, rfl⟩)
  obtain ⟨h1, h2⟩ := this (updStream sid (fun x => { x with qPrev := some pl.q, freshQ := false })
        (updPlanFrame sid c (fun g => g.setBand b { g.band b with plan := some pl }) d))
  rw [updStream_loom, updPlanFrame_loom] at h1 h2
  exact ⟨h1, h2⟩
theorem planBand_loom (sid c b n : Nat) (d : Dev) :
    (planBand sid c b n d).loom.latch = d.loom.latch ∧ (planBand sid c b n d).loom.closing = d.loom.closing := by
  unfold planBand; dsimp only
  repeat' split
  all_goals first
    | exact ⟨rfl, rfl⟩
    | simp [enterPlan_loom]
theorem earlyJob_loom (n : Nat) (snap : Band → Bool) (j : Job) (d : Dev) :
    (earlyJob n snap j d).loom.latch = d.loom.latch ∧ (earlyJob n snap j d).loom.closing = d.loom.closing := by
  unfold earlyJob; dsimp only
  have h := planBand_loom j.stream j.frame j.band n d
  repeat' split
  all_goals first | exact ⟨rfl, rfl⟩ | simp [planBand_loom]
theorem earlyStart_loom (d : Dev) :
    (earlyStart d).loom.latch = d.loom.latch ∧ (earlyStart d).loom.closing = d.loom.closing := by
  unfold earlyStart; dsimp only
  split
  · split
    · exact ⟨rfl, rfl⟩
    · have h1 := forEach_loom (tabKeys d.sess) tellChanges (fun a d => by rw [tellChanges_loom]; exact ⟨rfl, rfl⟩)
      refine ⟨(h1 _).1.trans ?_, (h1 _).2.trans ?_⟩
      · exact (forEach_loom _ _ (earlyJob_loom _ _) d).1
      · exact (forEach_loom _ _ (earlyJob_loom _ _) d).2
  · exact ⟨rfl, rfl⟩
theorem leaveTile_loom (t : Nat) (d : Dev) :
    (leaveTile t d).loom.latch = d.loom.latch ∧ (leaveTile t d).loom.closing = d.loom.closing := by
  unfold leaveTile
  refine ⟨(earlyStart_loom _).1.trans ?_, (earlyStart_loom _).2.trans ?_⟩ <;> (repeat' split) <;> simp [updTile_frame]
theorem contextBad_loom (t : Nat) (j : Job) (d : Dev) :
    (contextBad t j d).loom.latch = d.loom.latch ∧ (contextBad t j d).loom.closing = d.loom.closing := by
  unfold contextBad
  refine ⟨(leaveTile_loom _ _).1.trans ?_, (leaveTile_loom _ _).2.trans ?_⟩ <;> split <;> simp
theorem loadPart_loom (t : Nat) (j : Job) (ok : Bool) (d : Dev) :
    (loadPart t j ok d).loom.latch = d.loom.latch ∧ (loadPart t j ok d).loom.closing = d.loom.closing := by
  unfold loadPart; dsimp only
  repeat' split
  all_goals first
    | exact contextBad_loom _ _ _
    | exact ⟨by simp [updTile_frame], by simp [updTile_frame]⟩
theorem afterPart_loom (t : Nat) (d : Dev) :
    (afterPart t d).loom.latch = d.loom.latch ∧ (afterPart t d).loom.closing = d.loom.closing := by
  unfold afterPart; dsimp only
  split
  · split
    · split
      · obtain ⟨h1, h2⟩ := loadPart_loom t ‹Job› true (startNext t ‹Job› (tile d t).loads 1000 d)
        rw [h1, h2]; simp
      · simp
    · simp
  · simp
theorem stitchOverrun_loom (t : Nat) (d : Dev) :
    (stitchOverrun t d).loom.latch = d.loom.latch ∧ (stitchOverrun t d).loom.closing = d.loom.closing := by
  unfold stitchOverrun; dsimp only
  split
  · exact ⟨rfl, rfl⟩
  · split
    · unfold overrun raiseOverrun; dsimp only
      split <;> (unfold countOverrun; split <;> simp [setLoom, pairSet])
    · exact ⟨rfl, rfl⟩
theorem tile_congr {d e : Dev} (h : d.tiles = e.tiles) (u : Nat) : tile d u = tile e u := by simp only [tile, h]
theorem mem_queueClosing (r : Nat × Nat × Job) : ∀ l, r ∈ queueClosing r l ∧ ∀ x ∈ l, x ∈ queueClosing r l
  | [] => ⟨by simp [queueClosing], by simp⟩
  | y :: l => by
    obtain ⟨h1, h2⟩ := mem_queueClosing r l
    unfold queueClosing; split
    · exact ⟨by simp [h1], fun x hx => by
      rcases List.mem_cons.1 hx with h | h
      · simp [h]
      · exact List.mem_cons.2 (.inr (h2 x h))⟩
    · exact ⟨by simp, fun x hx => List.mem_cons.2 (.inr hx)⟩
theorem mem_latchNewest (r : Completion) : ∀ l, r ∈ latchNewest r l ∧ ∀ x ∈ l, x ∈ latchNewest r l
  | [] => ⟨by simp [latchNewest], by simp⟩
  | y :: l => by
    obtain ⟨h1, h2⟩ := mem_latchNewest r l
    unfold latchNewest; split
    · exact ⟨by simp [h1], fun x hx => by
      rcases List.mem_cons.1 hx with h | h
      · simp [h]
      · exact List.mem_cons.2 (.inr (h2 x h))⟩
    · exact ⟨by simp, fun x hx => List.mem_cons.2 (.inr hx)⟩
theorem mem_latchCompletion (r : Completion) (l : List Completion) :
    r ∈ latchCompletion r l ∧ ∀ x ∈ l, x ∈ latchCompletion r l := by
  obtain ⟨h1, h2⟩ := mem_latchNewest r l.reverse
  exact ⟨List.mem_reverse.2 h1, fun x hx => List.mem_reverse.2 (h2 x (List.mem_reverse.2 hx))⟩
@[simp] theorem losePart_tiles (j : Job) (cause : Nat) (d : Dev) : (losePart j cause d).tiles = d.tiles :=
  ((losePart_keeps (m := 1413245573525) rfl (.refl d)).only .tiles rfl).symm
@[simp] theorem markAssigned_tiles (j : Job) (d : Dev) : (markAssigned j d).tiles = d.tiles :=
  ((markAssigned_keeps (m := 4294967300) rfl (.refl d)).only .tiles rfl).symm
@[simp] theorem planBand_tiles (sid : Nat) (c : Nat) (b : Nat) (n : Nat) (d : Dev) : (planBand sid c b n d).tiles = d.tiles :=
  ((planBand_keeps (m := 21609054212) rfl (.refl d)).only .tiles rfl).symm
@[simp] theorem startFrame_tiles (sid : Nat) (n : Nat) (d : Dev) : (startFrame sid n d).tiles = d.tiles :=
  ((startFrame_keeps (m := 316955171093) rfl (.refl d)).only .tiles rfl).symm
@[simp] theorem returnPart_tiles (j : Job) (d : Dev) : (returnPart j d).tiles = d.tiles :=
  ((returnPart_keeps (m := 4294967296) rfl (.refl d)).only .tiles rfl).symm
@[simp] theorem offerHandover_tiles (o : Offer) (d : Dev) : (offerHandover o d).tiles = d.tiles :=
  ((offerHandover_keeps (m := 275079233541) rfl (.refl d)).only .tiles rfl).symm
@[simp] theorem powerSettle_tiles (now : Nat) (d : Dev) : (powerSettle now d).tiles = d.tiles :=
  ((powerSettle_keeps (m := 2199560126464) rfl (.refl d)).only .tiles rfl).symm
@[simp] theorem powerSettle_tbs (now : Nat) (d : Dev) : (powerSettle now d).tbs = d.tbs :=
  ((powerSettle_keeps (m := 2199560126464) rfl (.refl d)).only .tbs rfl).symm
@[simp] theorem powerSettle_regs (now : Nat) (d : Dev) : (powerSettle now d).regs = d.regs :=
  ((powerSettle_keeps (m := 2199560126464) rfl (.refl d)).only .regs rfl).symm
@[simp] theorem powerSettle_objs (now : Nat) (d : Dev) : (powerSettle now d).objs = d.objs :=
  ((powerSettle_keeps (m := 2199560126464) rfl (.refl d)).only .objs rfl).symm
@[simp] theorem containAs_tbs (code : Nat) (subject : Nat) (info : Nat) (t : Nat) (d : Dev) : (containAs code subject info t d).tbs = d.tbs :=
  ((containAs_keeps (m := 3776014457237) rfl (.refl d)).only .tbs rfl).symm
@[simp] theorem raiseOverrun_regs (d : Dev) : (raiseOverrun d).regs = d.regs :=
  ((raiseOverrun_keeps (m := 17179869440) rfl (.refl d)).only .regs rfl).symm
@[simp] theorem raiseOverrun_tiles (d : Dev) : (raiseOverrun d).tiles = d.tiles :=
  ((raiseOverrun_keeps (m := 17179869440) rfl (.refl d)).only .tiles rfl).symm
@[simp] theorem countOverrun_regs (sid : Nat) (d : Dev) : (countOverrun sid d).regs = d.regs :=
  ((countOverrun_keeps (m := 4) rfl (.refl d)).only .regs rfl).symm
@[simp] theorem countOverrun_tiles (sid : Nat) (d : Dev) : (countOverrun sid d).tiles = d.tiles :=
  ((countOverrun_keeps (m := 4) rfl (.refl d)).only .tiles rfl).symm
theorem runLadder_tiles (n : Int) (d e : Dev) (h : runLadder n d = some e) : e.tiles = d.tiles := by
  exact (((runLadder_keeps (m := 137573177620) rfl (.refl d)).get e h).only .tiles rfl).symm
/-- The failure flags of every tile agree. -/
def SameFlags (d e : Dev) : Prop := ∀ u, (tile e u).hung = (tile d u).hung ∧ (tile e u).contained = (tile d u).contained ∧
  (tile e u).retired = (tile d u).retired
theorem SameFlags.of_tiles {d e : Dev} (h : e.tiles = d.tiles) : SameFlags d e := fun u => by
  rw [tile_congr h]; exact ⟨rfl, rfl, rfl⟩
theorem SameFlags.trans {a b c : Dev} (h : SameFlags a b) (g : SameFlags b c) : SameFlags a c := fun u =>
  ⟨(g u).1.trans (h u).1, (g u).2.1.trans (h u).2.1, (g u).2.2.trans (h u).2.2⟩
theorem activateSpare_flags (t : Nat) (j : Job) (d : Dev) (hr : Rising d.tiles) : SameFlags d (activateSpare t j d) := by
  unfold activateSpare
  refine SameFlags.trans (b := updTile t _ d) (fun u => ?_) (SameFlags.of_tiles (powerSettle_tiles _ _))
  rw [tile_set _ hr]; split
  · subst_vars; exact ⟨rfl, rfl, rfl⟩
  · exact ⟨rfl, rfl, rfl⟩
theorem recoverPart_flags (j : Job) (d : Dev) (hr : Rising d.tiles) : SameFlags d (recoverPart j d) := by
  unfold recoverPart
  split
  · split
    · exact activateSpare_flags _ _ _ hr
    · split
      · exact .of_tiles (returnPart_tiles _ _)
      · split
        · rename_i d1 h
          split at h
          · exact .of_tiles ((returnPart_tiles _ _).trans (runLadder_tiles _ _ _ h))
          · simp at h
        · exact .of_tiles (losePart_tiles _ _ _)
  · dsimp only; split
    · exact .of_tiles (by simp)
    · exact .of_tiles (losePart_tiles _ _ _)
theorem hitPart_flags (t : Nat) (j : Job) (d : Dev) (hr : Rising d.tiles) : SameFlags d (hitPart t j d) := by
  unfold hitPart
  split
  · exact recoverPart_flags j d hr
  · dsimp only
    generalize hx : setSess _ _ d = x
    have hx1 : x.tiles = d.tiles := by subst hx; rfl
    have key : ∀ b : Bool, SameFlags d (if b then offerHandover { s := slotOf j.stream, hit := some (t, j) } x else recoverPart j x) := by
      intro b
      cases b
      · exact SameFlags.trans (.of_tiles hx1) (recoverPart_flags j x (by rw [hx1]; exact hr))
      · exact .of_tiles (by simp [hx1])
    exact key _
theorem tileStops_flags (t : Nat) (d : Dev) (hr : Rising d.tiles) : SameFlags d (tileStops t d) := by
  unfold tileStops; dsimp only
  generalize hx : updTile t (fun y => { y with nxt := none, latch := [], loads := false }) d = x
  have r1 : Rising x.tiles := by subst hx; exact rising_put hr
  have h1 : SameFlags d x := by
    subst hx
    intro u
    rw [tile_set _ hr]; split
    · subst_vars; exact ⟨rfl, rfl, rfl⟩
    · exact ⟨rfl, rfl, rfl⟩
  have h2 : ∀ z : Dev, z.tiles = x.tiles → ∀ o : Option Job, SameFlags d (match o with
      | none => z
      | some j => if partWanted z j then hitPart t j z else z) := by
    intro z hz o
    have hz1 : SameFlags d z := h1.trans (.of_tiles hz)
    cases o with
    | none => exact hz1
    | some j =>
      dsimp only; split
      · exact hz1.trans (hitPart_flags t j z (by rw [hz]; exact r1))
      · exact hz1
  refine h2 _ ?_ _
  show Dev.tiles (match (tile d t).nxt with | none => x | some j => returnPart j x) = x.tiles
  split
  · rfl
  · simp
theorem tileFails_flags (t : Nat) (d : Dev) (hr : Rising d.tiles) : SameFlags d (tileFails t d) :=
  SameFlags.trans (.of_tiles (objCount_tiles _ _ _ _ _)) (tileStops_flags t _ (by rw [objCount_tiles]; exact hr))
theorem retireTile_get (t : Nat) (d : Dev) (h : Sound d) (u : Nat) :
    tile (retireTile t true d) u = if u = t then { tile d t with retired := true, spare := false, spareSeen := false, vote := false, cur := none, nxt := none } else tile d u := by
  have e : (retireTile t true d).tiles = (updTile t (fun x => { x with retired := true, spare := false, spareSeen := false, vote := false, cur := none, nxt := none }) d).tiles := by
    unfold retireTile; simp
  rw [tile_congr e, tile_set _ h.tabs.tiles]
theorem bit_setBits (v n : Nat) : bit (setBits v n 1 1) n = true := by
  rw [bit_eq_bits, bits_setBits]; rfl
theorem bit_setBits_ne (v n k : Nat) (h : k ≠ n) : bit (setBits v n 1 1) k = bit v k := by
  rw [bit_eq_bits, bit_eq_bits, bits_setBits_ne _ _ _ _ _ _ (by omega)]
theorem retireTile_map (t : Nat) (d : Dev) (h : Sound d) : inMap (retireTile t true d) t = true := by
  unfold retireTile inMap; dsimp only
  rw [if_pos rfl, objGet_set_self _ (by simp; exact h.objs.1), bit_setBits]
theorem mapAll (t : Nat) : ∀ (l : List Nat) (d : Dev), Rising d.objs →
    (inMap (forEach l (fun t d => objSet 0x1448 0 (setBits (objGet d 0x1448 0) t 1 1) d) d) t = (decide (t ∈ l) || inMap d t)) ∧
    (forEach l (fun t d => objSet 0x1448 0 (setBits (objGet d 0x1448 0) t 1 1) d) d).tiles = d.tiles
  | [], d, h => ⟨by simp [forEach], rfl⟩
  | a :: l, d, h => by
    have hr : Rising (objSet 0x1448 0 (setBits (objGet d 0x1448 0) a 1 1) d).objs := by
      unfold objSet; split
      · exact rising_erase h
      · exact rising_set h
    obtain ⟨h1, h2⟩ := mapAll t l (objSet 0x1448 0 (setBits (objGet d 0x1448 0) a 1 1) d) hr
    simp only [forEach, List.foldl_cons] at h1 h2 ⊢
    refine ⟨?_, by rw [h2]; simp⟩
    rw [h1]
    have : inMap (objSet 0x1448 0 (setBits (objGet d 0x1448 0) a 1 1) d) t = (decide (t = a) || inMap d t) := by
      unfold inMap; rw [objGet_set_self _ h]
      by_cases ht : t = a
      · subst ht; simp [bit_setBits]
      · rw [bit_setBits_ne _ _ _ ht]; simp [ht]
    rw [this]
    by_cases ht : t = a <;> by_cases hl : t ∈ l <;> simp [ht, hl]
/-- BOOT and the failure flags of every tile agree. -/
def SameBoot (d e : Dev) : Prop := ∀ u, (tile e u).boot = (tile d u).boot ∧ (tile e u).contained = (tile d u).contained ∧
  (tile e u).hung = (tile d u).hung
theorem SameBoot.of_tiles {d e : Dev} (h : e.tiles = d.tiles) : SameBoot d e := fun u => by
  rw [tile_congr h]; exact ⟨rfl, rfl, rfl⟩
theorem SameBoot.trans {a b c : Dev} (h : SameBoot a b) (g : SameBoot b c) : SameBoot a c := fun u =>
  ⟨(g u).1.trans (h u).1, (g u).2.1.trans (h u).2.1, (g u).2.2.trans (h u).2.2⟩
theorem placeCurrent_boot (t : Nat) (j : Job) (n : Nat) (d : Dev) (hr : Rising d.tiles) : SameBoot d (placeCurrent t j n d) := by
  unfold placeCurrent; dsimp only
  refine SameBoot.trans (b := updTile t _ d) (fun u => ?_) (.of_tiles (markAssigned_tiles _ _))
  rw [tile_set _ hr]; split
  · subst_vars; exact ⟨rfl, rfl, rfl⟩
  · exact ⟨rfl, rfl, rfl⟩
theorem earlyJob_boot (n : Nat) (snap : Band → Bool) (j : Job) (d : Dev) (hr : Rising d.tiles) : SameBoot d (earlyJob n snap j d) := by
  unfold earlyJob; dsimp only
  generalize hw : (if planWanted d n (j.stream, j.frame, j.band) = true then planBand j.stream j.frame j.band n d else d) = w
  have w1 : w.tiles = d.tiles := by subst hw; split <;> simp
  generalize hv : (if (frameAt d j.stream j.frame).isNone = true then startFrame j.stream n w else w) = v
  have v1 : v.tiles = d.tiles := by subst hv; split <;> simp [w1]
  repeat' split
  all_goals first
    | exact .of_tiles rfl
    | exact .of_tiles w1
    | exact SameBoot.trans (.of_tiles v1) (placeCurrent_boot _ _ _ _ (by rw [v1]; exact hr))
theorem earlyStart_boot (d : Dev) (h : Sound d) : SameBoot d (earlyStart d) := by
  have key : ∀ (n : Nat) (snap : Band → Bool) (l : List Job) (d : Dev), Sound d → SameBoot d (forEach l (earlyJob n snap) d) := by
    intro n snap l
    induction l with
    | nil => intro d _; exact .of_tiles rfl
    | cons a l ih =>
      intro d h
      exact SameBoot.trans (earlyJob_boot n snap a d h.tabs.tiles) (ih _ ((earlyJob_keeps (m := 4398046511103) rfl (.refl d)).sound h))
  have tell : ∀ (l : List Nat) (d : Dev), (forEach l tellChanges d).tiles = d.tiles := by
    intro l
    induction l with
    | nil => intro d; rfl
    | cons a l ih => intro d; exact (ih _).trans (tellChanges_tiles a d)
  unfold earlyStart; dsimp only
  split
  · split
    · exact .of_tiles rfl
    · exact SameBoot.trans (key _ _ _ _ h) (.of_tiles (tell _ _))
  · exact .of_tiles rfl
theorem earlyStart_off (d : Dev) (h : objNow d 0x1310 0 = 0) : earlyStart d = d := by
  unfold earlyStart; rw [h]; rfl
theorem placeAwaited_none (t : Nat) (d : Dev) (h : (tile d t).awaits = none) : placeAwaited t d = d := by
  unfold placeAwaited; rw [h]
theorem nextSpare_none (t : Nat) (d : Dev) (h : (tile d t).awaits = none) : nextSpare t d = d := by
  unfold nextSpare; rw [h]
theorem regSet_sound {k v : Nat} {d : Dev} (h : Sound d) : Sound (regSet k v d) := (regSet_keeps (m := 4398046511103) rfl (.refl d)).sound h
theorem regAt_ne (r q : Reg) (i : Nat) (h : r.base + Reg.stride r * i ≠ q.base + Reg.stride q * i) : r.at i ≠ q.at i := by
  simpa [Reg.at] using h

end Sys2Proof.Machine
end

