-- ==== Sys2Proof/Laws/FactsTime.lean ====
section
/-! SUPPORT. What the shared operations do, said once for the statements TimeSteps, TimeServo. -/
set_option Elab.async false
set_option autoImplicit false
set_option linter.all false
open Sys2Proof Sys2Proof.Machine
namespace Sys2Proof.Machine

@[simp] theorem moveDeadlines_tbs (t : Nat) (d : Dev) : (moveDeadlines t d).tbs = d.tbs :=
  ((moveDeadlines_keeps (m := 8589934592) rfl (.refl d)).only .tbs rfl).symm
@[simp] theorem moveDeadlines_emitted (t : Nat) (d : Dev) : (moveDeadlines t d).emitted = d.emitted :=
  ((moveDeadlines_keeps (m := 8589934592) rfl (.refl d)).only .emitted rfl).symm
@[simp] theorem stepTime_emitted (x : ℤ) (d : Dev) : (stepTime x d).emitted = d.emitted :=
  ((stepTime_keeps (m := 8594128896) rfl (.refl d)).only .emitted rfl).symm
theorem stepTime_ns (x : Int) (d : Dev) : (stepTime x d).tbs.ns = ((d.tbs.ns : Int) + x).toNat % 2 ^ 64 := by
  unfold stepTime; dsimp only; split
  · rfl
  · split
    · simp [setTbs]
    · simp [setTbs]
theorem stepTime_back (x : Int) (d : Dev) (h : x ≤ 0) :
    stepTime x d = { d with tbs := { d.tbs with ns := ((d.tbs.ns : Int) + x).toNat % 2 ^ 64 } } := by
  unfold stepTime; dsimp only; rw [if_pos h]; rfl
theorem stepTime_back_tbs (x : Int) (d : Dev) (h : x ≤ 0) :
    (stepTime x d).tbs = { d.tbs with ns := ((d.tbs.ns : Int) + x).toNat % 2 ^ 64 } ∧ (stepTime x d).tiles = d.tiles := by
  unfold stepTime; dsimp only; rw [if_pos h]; exact ⟨rfl, rfl⟩
theorem stepTime_forth (x : Int) (d : Dev) (h : 0 < x) : (stepTime x d).tbs =
    let t := ((d.tbs.ns : Int) + x).toNat % 2 ^ 64
    if d.tbs.cnt < stitchesIn t then
      { d.tbs with ns := t, cnt := stitchesIn t, skip := min (2 ^ 32 - 1) (d.tbs.skip + (stitchesIn t - d.tbs.cnt - 1)) }
    else { d.tbs with ns := t } := by
  unfold stepTime; dsimp only; rw [if_neg (by omega)]; split
  · simp [setTbs]
  · simp [setTbs]
theorem stepTime_else (v : Int) (z : Dev) : (stepTime v z).tbs.offset = z.tbs.offset ∧ (stepTime v z).tbs.lastSync = z.tbs.lastSync ∧
    (stepTime v z).tbs.align = z.tbs.align ∧ (stepTime v z).tbs.goodSyncs = z.tbs.goodSyncs := by
  by_cases h : v ≤ 0
  · rw [stepTime_back _ _ h]; exact ⟨rfl, rfl, rfl, rfl⟩
  · rw [stepTime_forth _ _ (by omega)]; dsimp only; split <;> exact ⟨rfl, rfl, rfl, rfl⟩
theorem add_sub_toNat (v n : Nat) : ((n : Int) + ((v : Int) - n)).toNat = v := by omega
theorem setTbs_tbs (b : Tbs) (d : Dev) : (setTbs b d).tbs = b := rfl
theorem objSet_tbs (i u v : Nat) (d : Dev) : (objSet i u v d).tbs = d.tbs := by simp
theorem pairSet_tbs (hi lo v : Nat) (d : Dev) : (pairSet hi lo v d).tbs = d.tbs ∧ (pairSet hi lo v d).tiles = d.tiles := by simp
@[simp] theorem slew_tbs (d : Dev) : (slew d).tbs = d.tbs :=
  ((slew_keeps (m := 33) rfl (.refl d)).only .tbs rfl).symm
/-- What an offset makes of the timebase (R506). -/
def judgeB (off : Int) (b : Tbs) : Tbs :=
  let good := if off.natAbs ≤ 250 then min 16 (b.goodSyncs + 1) else 0
  let bad := if b.align = 2 && decide (500 < off.natAbs) then b.badSyncs + 1 else 0
  if 4 ≤ bad then { b with align := 1, goodSyncs := 0, badSyncs := 0 }
  else { b with align := if good = 16 then 2 else max 1 b.align, goodSyncs := good, badSyncs := bad }
theorem judge_tbs (off : Int) (d : Dev) : (judge off d).tbs = judgeB off d.tbs := by
  unfold judge judgeB; dsimp only
  generalize (if off.natAbs ≤ 250 then min 16 (d.tbs.goodSyncs + 1) else 0) = g
  generalize (if (d.tbs.align = 2 && decide (500 < off.natAbs)) = true then d.tbs.badSyncs + 1 else 0) = b
  split
  · simp only [pulse_frame, setTbs_tbs]
  · rw [setTbs_tbs]
theorem servo_tbs (off : Int) (d : Dev) : (servo off d).tbs =
    let b := { d.tbs with offset := max (-2147483647) (min 2147483647 off), lastSync := d.tbs.ns }
    if d.tbs.align ≠ 2 && decide (100000 < off.natAbs) then
      (stepTime (-off) (setTbs { b with align := 1, goodSyncs := 0, badSyncs := 0 } d)).tbs
    else judgeB off b := by
  unfold servo; dsimp only
  split
  · simp only [pulse_frame, setTbs_tbs]; rfl
  · rw [judge_tbs, slew_tbs, setTbs_tbs]

end Sys2Proof.Machine
end

