-- ==== Sys2Proof/Laws/FactsPower.lean ====
section
/-! SUPPORT. What the shared operations do, said once for the statements PackageStates, PowerDomains, PowerWake, PowerMonitors. -/
set_option Elab.async false
set_option autoImplicit false
set_option linter.all false
open Sys2Proof Sys2Proof.Machine
namespace Sys2Proof.Machine

/-- The parts of the power controller beside its domains agree. -/
def SamePwr (a b : Pwr) : Prop := ∃ x, a = { b with doms := x }
theorem SamePwr.refl (a : Pwr) : SamePwr a a := ⟨a.doms, rfl⟩
theorem SamePwr.trans {a b c : Pwr} (h : SamePwr a b) (g : SamePwr b c) : SamePwr a c := by
  obtain ⟨x, rfl⟩ := h; obtain ⟨z, rfl⟩ := g; exact ⟨x, rfl⟩
theorem setDom_pwr (k : Nat) (x : Dom) (d : Dev) : SamePwr (setDom k x d).pwr d.pwr := ⟨_, rfl⟩
theorem startStep_pwr (now k : Nat) (d : Dev) : SamePwr (startStep now k d).pwr d.pwr := by
  unfold startStep; dsimp only
  split
  · exact .refl _
  · split
    · split
      · exact setDom_pwr _ _ _
      · exact .refl _
    · split
      · exact setDom_pwr _ _ _
      · exact .refl _
theorem forEach_pwr {α : Type} (f : α → Dev → Dev) (h : ∀ a d, SamePwr (f a d).pwr d.pwr) :
    ∀ (l : List α) (d : Dev), SamePwr (forEach l f d).pwr d.pwr
  | [], d => .refl _
  | a :: l, d => (forEach_pwr f h l (f a d)).trans (h a d)
theorem powerSettle_pwr (now : Nat) (d : Dev) : SamePwr (powerSettle now d).pwr d.pwr := by
  unfold powerSettle
  split
  · exact .refl _
  · refine (forEach_pwr _ (startStep_pwr now) _ _).trans (forEach_pwr _ (fun c d => ?_) _ _)
    exact SamePwr.refl d.pwr
/-- The package evaluates its target: a transition begins or nothing does. -/
theorem evalPackage_pwr (now : Nat) (d : Dev) :
    (d.pwr.busy = false → packageTarget d ≠ d.pwr.state → d.flt.safe = false →
      SamePwr (evalPackage now d).pwr { d.pwr with busy := true, entering := packageTarget d, since := powerNow now d, late := false, again := false } ∧
      (2 ≤ packageTarget d → (evalPackage now d).tbs.align = 0)) ∧
    (packageTarget d = d.pwr.state → SamePwr (evalPackage now d).pwr d.pwr) := by
  refine ⟨fun h1 h2 h3 => ?_, fun h => ?_⟩
  · unfold evalPackage; dsimp only
    rw [if_neg (by simp [h1, h2, h3])]
    refine ⟨powerSettle_pwr _ _, fun h => ?_⟩
    rw [(powerSettle_tbs _ _), if_pos h]
  · unfold evalPackage; dsimp only
    rw [if_pos (by simp [h])]
    exact powerSettle_pwr _ _
@[simp] theorem evalPackage_objs (now : Nat) (d : Dev) : (evalPackage now d).objs = d.objs :=
  ((evalPackage_keeps (m := 2199564320768) rfl (.refl d)).only .objs rfl).symm
@[simp] theorem evalPackage_regs (now : Nat) (d : Dev) : (evalPackage now d).regs = d.regs :=
  ((evalPackage_keeps (m := 2199564320768) rfl (.refl d)).only .regs rfl).symm
@[simp] theorem evalPackage_emitted (now : Nat) (d : Dev) : (evalPackage now d).emitted = d.emitted :=
  ((evalPackage_keeps (m := 2199564320768) rfl (.refl d)).only .emitted rfl).symm
@[simp] theorem evalPackage_flt (now : Nat) (d : Dev) : (evalPackage now d).flt = d.flt :=
  ((evalPackage_keeps (m := 2199564320768) rfl (.refl d)).only .flt rfl).symm
theorem tabGet_put_some {α : Type} [DecidableEq α] (x : α) (t : Tab α) (k j : Nat) (v : α) (hv : v ≠ x) :
    tabGet x (tabPut x t k v) j = if j = k then v else tabGet x t j := by
  unfold tabPut; rw [if_neg hv, tabGet_set]
theorem domAt_set (k j : Nat) (x : Dom) (d : Dev) (hx : x ≠ {}) : domAt (setDom k x d) j = if j = k then x else domAt d j :=
  tabGet_put_some _ _ _ _ _ hx
theorem domAt_rise (k j : Nat) (x : Dom) (d : Dev) (h : Rising d.pwr.doms) : domAt (setDom k x d) j = if j = k then x else domAt d j :=
  tabGet_put _ _ h _ _ _
theorem dom_ne {x : Dom} (h : x.moving.isSome = true ∨ x.on = true ∨ x.blocked = true ∨ 0 < x.powerOns) : x ≠ {} := by
  rintro rfl; simp at h
/-- A step of the power controller moves a domain and changes nothing else of it. -/
theorem startStep_dom (now k : Nat) (d : Dev) (j : Nat) : ∃ m, domAt (startStep now k d) j = { domAt d j with moving := m } := by
  have key : ∀ v : Bool × Nat, ∃ m, domAt (setDom k { domAt d k with moving := some v } d) j = { domAt d j with moving := m } := by
    intro v
    rw [domAt_set _ _ _ _ (dom_ne (.inl rfl))]; split
    · subst_vars; exact ⟨_, rfl⟩
    · exact ⟨_, rfl⟩
  unfold startStep; dsimp only
  split
  · exact ⟨_, rfl⟩
  · split
    · split
      · exact key _
      · exact ⟨_, rfl⟩
    · split
      · exact key _
      · exact ⟨_, rfl⟩
theorem forEach_dom {α : Type} (f : α → Dev → Dev) (h : ∀ a d j, ∃ m, domAt (f a d) j = { domAt d j with moving := m }) :
    ∀ (l : List α) (d : Dev) (j : Nat), ∃ m, domAt (forEach l f d) j = { domAt d j with moving := m }
  | [], d, j => ⟨_, rfl⟩
  | a :: l, d, j => by
    obtain ⟨m, e⟩ := forEach_dom f h l (f a d) j
    obtain ⟨n, e2⟩ := h a d j
    exact ⟨m, by show domAt (forEach l f (f a d)) j = _; rw [e, e2]⟩
theorem powerSettle_dom (now : Nat) (d : Dev) (j : Nat) : ∃ m, domAt (powerSettle now d) j = { domAt d j with moving := m } := by
  unfold powerSettle; dsimp only
  split
  · exact ⟨_, rfl⟩
  · generalize hz : forEach _ _ d = z
    have h1 : domAt z j = domAt d j := by
      have : SamePwr z.pwr d.pwr ∧ z.pwr.doms = d.pwr.doms := by
        subst hz
        have : ∀ (l : List Nat) (e : Dev), (forEach l (fun c d => setChan c { chan d c with goal := stageGoal d c } d) e).pwr = e.pwr := by
          intro l; induction l with
          | nil => exact fun _ => rfl
          | cons a l ih => intro e; exact (ih _).trans rfl
        rw [this]; exact ⟨.refl _, rfl⟩
      unfold domAt; rw [this.2]
    obtain ⟨m, e⟩ := forEach_dom _ (startStep_dom now) (List.range 128) z j
    exact ⟨m, by rw [e, h1]⟩
theorem powerSettle_on (now : Nat) (d : Dev) (k : Nat) : domOn (powerSettle now d) k = domOn d k := by
  obtain ⟨m, e⟩ := powerSettle_dom now d k
  unfold domOn; rw [e, tile_congr (powerSettle_tiles now d)]
@[simp] theorem linkReset_tiles (i : Nat) (kind : Nat) (d : Dev) : (linkReset i kind d).tiles = d.tiles :=
  ((linkReset_keeps (m := 2172426583869) rfl (.refl d)).only .tiles rfl).symm
@[simp] theorem linkReset_pwr (i : Nat) (kind : Nat) (d : Dev) : (linkReset i kind d).pwr = d.pwr :=
  ((linkReset_keeps (m := 2172426583869) rfl (.refl d)).only .pwr rfl).symm
@[simp] theorem linkDown_tiles (p : Nat) (value : Nat) (d : Dev) : (linkDown p value d).tiles = d.tiles :=
  ((linkDown_keeps (m := 824767944981) rfl (.refl d)).only .tiles rfl).symm
@[simp] theorem linkDown_pwr (p : Nat) (value : Nat) (d : Dev) : (linkDown p value d).pwr = d.pwr :=
  ((linkDown_keeps (m := 824767944981) rfl (.refl d)).only .pwr rfl).symm
theorem forEach_pwr_eq {α : Type} (f : α → Dev → Dev) (h : ∀ a d, (f a d).pwr = d.pwr ∧ (f a d).tiles = d.tiles) :
    ∀ (l : List α) (d : Dev), (forEach l f d).pwr = d.pwr ∧ (forEach l f d).tiles = d.tiles
  | [], d => ⟨rfl, rfl⟩
  | a :: l, d => by
    obtain ⟨e, e2⟩ := forEach_pwr_eq f h l (f a d)
    obtain ⟨g, g2⟩ := h a d
    exact ⟨e.trans g, e2.trans g2⟩
theorem domainLost_doms (k : Nat) (d : Dev) : (domainLost k d).pwr.doms = d.pwr.doms ∧ (96 ≤ k → (domainLost k d).tiles = d.tiles) := by
  unfold domainLost
  split
  · exact ⟨rfl, fun h => by omega⟩
  · split
    · obtain ⟨e, e2⟩ := forEach_pwr_eq (fun i d => linkReset i 3 d) (fun a d => by simp) ((List.range 4).filter fun i => i / 2 == k - 112 && (link d i).up) d
      exact ⟨by rw [e], fun _ => e2⟩
    · split
      · obtain ⟨e, e2⟩ := forEach_pwr_eq (fun p d => linkDown p 1 d) (fun a d => by simp) ((List.range 8).filter fun p => p / 4 == k - 114 && linkUp d p) d
        exact ⟨by rw [e], fun _ => e2⟩
      · split
        · exact ⟨rfl, fun _ => rfl⟩
        · exact ⟨rfl, fun _ => rfl⟩
theorem setPads_doms (k : Nat) (d : Dev) (h : Rising d.pwr.doms) : Rising (setPads k true d).pwr.doms ∧ (setPads k true d).tiles = d.tiles := by
  unfold setPads; split
  · exact ⟨h, rfl⟩
  · exact ⟨rising_put h, rfl⟩
theorem evalPackage_latch (now : Nat) (d : Dev) : (evalPackage now d).pwr.latch = d.pwr.latch ∧ (evalPackage now d).pwr.lastWake = d.pwr.lastWake := by
  unfold evalPackage; dsimp only
  split
  · obtain ⟨x, e⟩ := powerSettle_pwr now d; rw [e]; exact ⟨rfl, rfl⟩
  · obtain ⟨x, e⟩ := powerSettle_pwr now ({ d with pwr := { d.pwr with busy := true, entering := packageTarget d, since := powerNow now d, late := false, again := false }, tbs := if 2 ≤ packageTarget d then { d.tbs with align := 0, goodSyncs := 0, badSyncs := 0 } else d.tbs } : Dev)
    rw [e]; exact ⟨rfl, rfl⟩
theorem setWake_does (src now : Nat) (d : Dev) (h : bit (objGet d 0x1214 0) src = true) (h2 : d.pwr.state ≠ 0) :
    (setWake src now d).pwr.latch = true ∧ (setWake src now d).pwr.lastWake = 2 ^ src ∧ (setWake src now d).objs = d.objs ∧
    (d.pwr.busy = false → d.flt.safe = false → (setWake src now d).pwr.busy = true ∧ (setWake src now d).pwr.entering = 0) := by
  unfold setWake; rw [if_pos (by simp [h, h2])]
  generalize hz : ({ d with pwr := { d.pwr with latch := true, lastWake := 2 ^ src } } : Dev) = z
  have z1 : z.pwr = { d.pwr with latch := true, lastWake := 2 ^ src } ∧ z.objs = d.objs ∧ z.flt = d.flt := by subst hz; exact ⟨rfl, rfl, rfl⟩
  have z2 : packageTarget z = 0 := by unfold packageTarget; rw [z1.1]; rfl
  obtain ⟨e1, e2⟩ := evalPackage_latch now z
  refine ⟨by rw [e1, z1.1], by rw [e2, z1.1], by rw [evalPackage_objs, z1.2.1], fun h3 h4 => ?_⟩
  obtain ⟨⟨x, e⟩, -⟩ := (evalPackage_pwr now z).1 (by rw [z1.1]; exact h3) (by rw [z2, z1.1]; exact Ne.symm h2) (by rw [z1.2.2]; exact h4)
  rw [e]; exact ⟨rfl, z2⟩
theorem setWake_not (src now : Nat) (d : Dev) (h : bit (objGet d 0x1214 0) src = false) : setWake src now d = d := by
  unfold setWake; rw [if_neg (by simp [h])]
theorem sensor_set (i j : Nat) (x : Sensor) (d : Dev) (hx : x ≠ {}) : sensor (setSensor i x d) j = if j = i then x else sensor d j :=
  tabGet_put_some _ _ _ _ _ hx
theorem sensor_ne {x : Sensor} (h : x.seen = true ∨ x.failed = true) : x ≠ {} := by rintro rfl; simp at h
/-- The parts of the power controller beside its sensors agree. -/
def SameSens (a b : Pwr) : Prop := ∃ x, a = { b with sensors := x }
theorem sensorFails_pwr (i : Nat) (d : Dev) : SameSens (sensorFails i d).pwr d.pwr := by
  unfold sensorFails; split
  · exact ⟨_, rfl⟩
  · exact ⟨tabPut {} d.pwr.sensors i { sensor d i with failed := true }, by rw [(pulse_frame _ _ _ _ _ _).2.2.2.2.2.2.2.2.2.2.2.2.2.2.2.2.2.2.2.2.2.2.2.2.2.2.2.2.2.2.2.2.2.2.2.2.2.2.2.2]; rfl⟩
theorem level_pwr (a b c e f : Nat) (d : Dev) : (level a b c e f d).pwr = d.pwr := by simp
theorem levelEnd_pwr (a b c : Nat) (d : Dev) : (levelEnd a b c d).pwr = d.pwr := by simp
theorem railSample_pwr (r : Nat) (v : Option (Nat × Nat)) (d : Dev) : SameSens (railSample r v d).pwr d.pwr := by
  unfold railSample; split
  · exact sensorFails_pwr _ _
  · dsimp only
    repeat' split
    all_goals first
      | exact ⟨_, rfl⟩
      | (rw [level_pwr]; exact ⟨_, rfl⟩)
      | (rw [levelEnd_pwr]; exact ⟨_, rfl⟩)
theorem forEach_sens {α : Type} (f : α → Dev → Dev) (h : ∀ a d, SameSens (f a d).pwr d.pwr) :
    ∀ (l : List α) (d : Dev), SameSens (forEach l f d).pwr d.pwr
  | [], d => ⟨_, rfl⟩
  | a :: l, d => by
    obtain ⟨x, e⟩ := forEach_sens f h l (f a d)
    obtain ⟨z, g⟩ := h a d
    exact ⟨x, by show (forEach l f (f a d)).pwr = _; rw [e, g]⟩
@[simp] theorem railSample_objs (r : Nat) (v : Option (Nat × Nat)) (d : Dev) : (railSample r v d).objs = d.objs :=
  ((railSample_keeps (m := 2199023255680) rfl (.refl d)).only .objs rfl).symm
@[simp] theorem railSample_tbs (r : Nat) (v : Option (Nat × Nat)) (d : Dev) : (railSample r v d).tbs = d.tbs :=
  ((railSample_keeps (m := 2199023255680) rfl (.refl d)).only .tbs rfl).symm
@[simp] theorem railSample_stage (r : Nat) (v : Option (Nat × Nat)) (d : Dev) : (railSample r v d).stage = d.stage :=
  ((railSample_keeps (m := 2199023255680) rfl (.refl d)).only .stage rfl).symm
theorem forEach_objs {α : Type} (f : α → Dev → Dev) (h : ∀ a d, (f a d).objs = d.objs ∧ (f a d).heldStitch = d.heldStitch) :
    ∀ (l : List α) (d : Dev), (forEach l f d).objs = d.objs ∧ (forEach l f d).heldStitch = d.heldStitch
  | [], d => ⟨rfl, rfl⟩
  | a :: l, d => by
    obtain ⟨e, e2⟩ := forEach_objs f h l (f a d)
    exact ⟨e.trans (h a d).1, e2.trans (h a d).2⟩
theorem aboveCap_congr {d e : Dev} (h : d.objs = e.objs) (h1 : d.heldStitch = e.heldStitch) (h2 : d.pwr.samples = e.pwr.samples) : aboveCap d = aboveCap e := by
  unfold aboveCap powerCap meanPower objNow objGet; rw [h, h1, h2]
theorem runLadder_pwr (n : Int) (d e : Dev) (h : runLadder n d = some e) : e.pwr = d.pwr :=
  (((runLadder_keeps (m := 137573177620) rfl (.refl d)).get e h).only .pwr rfl).symm
theorem pulse_pwr (a b c e f : Nat) (d : Dev) : (pulse a b c e f d).pwr = d.pwr := by simp
theorem raise_pwr (n : Nat) (d : Dev) : (raise n d).pwr = d.pwr := by simp
theorem sensor_congr {d e : Dev} (h : d.pwr.sensors = e.pwr.sensors) (i : Nat) : sensor d i = sensor e i := by unfold sensor; rw [h]
theorem thermalEnd_pwr (k : Nat) (d : Dev) : (thermalEnd k d).pwr = d.pwr := by
  unfold thermalEnd
  generalize List.range 20 = l
  induction l generalizing d with
  | nil => rfl
  | cons a l ih => exact (ih _).trans (levelEnd_pwr _ _ _ _)
theorem thermalStep_sens (k : Nat) (d : Dev) : (thermalStep k d).pwr.sensors = d.pwr.sensors := by
  unfold thermalStep; split
  · rfl
  · dsimp only
    repeat' split
    all_goals first
      | rfl
      | (rw [raise_pwr, level_pwr]; rfl)
      | (rw [level_pwr]; rfl)
      | (rw [thermalEnd_pwr]; rfl)
theorem junction_other (i j : Nat) (v : Option Int) (d : Dev) (h : j ≠ i) : sensor (junctionSample i v d) j = sensor d j := by
  have hf : sensor (sensorFails i d) j = sensor d j := by
    unfold sensorFails; split
    · rfl
    · have : ∀ z : Dev, sensor (pulse 138 0x008A 1 i 0 z) j = sensor z j := fun z => by unfold sensor; rw [pulse_pwr]
      rw [this, sensor_set _ _ _ _ (sensor_ne (.inr rfl)), if_neg h]
  unfold junctionSample; split
  · exact hf
  · split
    · rfl
    · split
      · exact hf
      · rw [sensor_set _ _ _ _ (sensor_ne (.inl rfl)), if_neg h]
theorem forEach_at {S : Type} (g : Dev → Nat → S) (f : Nat → Dev → Dev) (h : ∀ a d j, j ≠ a → g (f a d) j = g d j) :
    ∀ (l : List Nat), l.Nodup → ∀ (d : Dev) (i : Nat), (i ∉ l → g (forEach l f d) i = g d i) ∧
      (i ∈ l → ∃ e, g e i = g d i ∧ g (forEach l f d) i = g (f i e) i)
  | [], _, d, i => ⟨fun _ => rfl, fun h => by simp at h⟩
  | a :: l, hn, d, i => by
    rw [List.nodup_cons] at hn
    obtain ⟨k1, k2⟩ := forEach_at g f h l hn.2 (f a d) i
    refine ⟨fun hi => ?_, fun hi => ?_⟩
    · rw [List.mem_cons, not_or] at hi
      exact (k1 hi.2).trans (h a d i hi.1)
    · by_cases ha : i = a
      · subst ha
        exact ⟨d, rfl, k1 hn.1⟩
      · obtain ⟨e, e1, e2⟩ := k2 (by simpa [ha] using hi)
        exact ⟨e, e1.trans (h a d i ha), e2⟩
@[simp] theorem clockStops_pwr (k : Nat) (d : Dev) : (clockStops k d).pwr = d.pwr :=
  ((clockStops_keeps (m := 2172430778173) rfl (.refl d)).only .pwr rfl).symm

end Sys2Proof.Machine
end

