-- ==== Sys2Proof/Laws/FactsReset.lean ====
section
/-! SUPPORT. What the shared operations do, said once for the statements ResetPins, ResetRequests. -/
set_option Elab.async false
set_option autoImplicit false
set_option linter.all false
open Sys2Proof Sys2Proof.Machine
namespace Sys2Proof.Machine

theorem tabFind_filter {α : Type} (p : Nat → Bool) (k : Nat) : ∀ t : Tab α, Rising t →
    tabFind (t.filter fun e => p e.1) k = if p k then tabFind t k else none
  | [], _ => by simp [tabFind]
  | (j, v) :: t, h => by
    have ih := tabFind_filter p k t (List.pairwise_cons.1 h).2
    have below : k < j → tabFind t k = none := fun hk => tabFind_below k t fun e he => Nat.lt_trans hk ((List.pairwise_cons.1 h).1 e he)
    by_cases hj : p j = true
    · simp only [List.filter, hj, tabFind, ih]
      by_cases hk : j = k
      · subst hk; simp [hj]
      · by_cases hl : k < j <;> simp [hk, hl]
    · simp only [List.filter, hj, tabFind, ih]
      by_cases hk : j = k
      · subst hk; simp [hj]
      · by_cases hl : k < j
        · simp [hk, hl, below hl]
        · simp [hk, hl]
theorem coldDev_pwr (k n : Nat) (m : Bool) (d : Dev) : (coldDev k n m d).pwr = { cause := k, porLow := d.pwr.porLow, aonDown := d.pwr.aonDown, trip := d.pwr.trip, thermal := if d.pwr.trip then 4 else 0 } := by
  unfold coldDev; simp
theorem coldDev_other (k n : Nat) (m : Bool) (d : Dev) : (coldDev k n m d).sess = [] ∧ (coldDev k n m d).streams = [] ∧
    (coldDev k n m d).pair.st = 0 ∧ (coldDev k n m d).flt.safe = false ∧ (coldDev k n m d).mem = [] ∧
    (coldDev k n m d).dsr = { ring := 1, nodeId := n, strapMaster := m, master := m, limit := objGet d 0x1C04 0 } := by
  unfold coldDev; simp
theorem coldDev_obj (k n : Nat) (m : Bool) (d : Dev) (h : Rising d.objs) : objGet (coldDev k n m d) 0x1107 0 = objGet d 0x1106 0 ∧
    ∀ i u, u < 256 → i ≠ 0x1107 → objGet (coldDev k n m d) i u = if inFlash i then objGet d i u else objDefault i u := by
  have hr : Rising (d.objs.filter fun e => inFlash (e.1 / 256)) := h.sublist List.filter_sublist
  unfold coldDev
  refine ⟨objGet_set_self _ hr _ _ _, fun i u hu hi => ?_⟩
  rw [objGet_set_ne _ hr _ _ _ _ _ (objKey_ne (Ne.symm hi) (by omega) hu)]
  unfold objGet; dsimp only
  rw [tabFind_filter (fun k => inFlash (k / 256)) _ _ h]
  have : objKey i u / 256 = i := by unfold objKey; omega
  rw [this]; split <;> simp
@[simp] theorem warmFlt_pwr (d : Dev) : (warmFlt d).pwr = d.pwr := rfl
@[simp] theorem warmFlt_tbs (d : Dev) : (warmFlt d).tbs = d.tbs := rfl
@[simp] theorem warmFlt_sess (d : Dev) : (warmFlt d).sess = d.sess := rfl
@[simp] theorem warmFlt_streams (d : Dev) : (warmFlt d).streams = d.streams := rfl
@[simp] theorem warmFlt_lib (d : Dev) : (warmFlt d).lib = d.lib := rfl
theorem pulse_form (src : Nat) (code : Nat) (sev : Nat) (subject : Nat) (info : Nat) (d : Dev) : ∃ x_flt, pulse src code sev subject info d = { d with flt := x_flt } := by
  have h : ∀ p : Piece, (128 : Nat).testBit p.num = false → p.same d (pulse src code sev subject info d) :=
    (pulse_keeps (m := 128) rfl (.refl d)).only
  revert h
  generalize pulse src code sev subject info d = x
  intro h
  have e : d.regs = x.regs ∧ d.stage = x.stage ∧ d.objs = x.objs ∧ d.heldStitch = x.heldStitch ∧ d.emitted = x.emitted ∧ d.freeCtr = x.freeCtr ∧ d.rngCtr = x.rngCtr ∧ d.irq = x.irq ∧ d.msix = x.msix ∧ d.fnMask = x.fnMask ∧ d.rings = x.rings ∧ d.fnq = x.fnq ∧ d.dmaCh = x.dmaCh ∧ d.recvBufs = x.recvBufs ∧ d.links = x.links ∧ d.parityBad = x.parityBad ∧ d.mbox = x.mbox ∧ d.waiting = x.waiting ∧ d.snaps = x.snaps ∧ d.lastCtr = x.lastCtr ∧ d.authSeen = x.authSeen ∧ d.tbs = x.tbs ∧ d.tenants = x.tenants ∧ d.rrLast = x.rrLast ∧ d.sec = x.sec ∧ d.pair = x.pair ∧ d.sess = x.sess ∧ d.dsr = x.dsr ∧ d.chans = x.chans ∧ d.wrd = x.wrd ∧ d.mem = x.mem ∧ d.streams = x.streams ∧ d.tiles = x.tiles ∧ d.loom = x.loom ∧ d.hold = x.hold ∧ d.linPrm = x.linPrm ∧ d.ladder = x.ladder ∧ d.pke = x.pke ∧ d.lib = x.lib ∧ d.linings = x.linings ∧ d.pwr = x.pwr := ⟨h .regs rfl, h .stage rfl, h .objs rfl, h .heldStitch rfl, h .emitted rfl, h .freeCtr rfl, h .rngCtr rfl, h .irq rfl, h .msix rfl, h .fnMask rfl, h .rings rfl, h .fnq rfl, h .dmaCh rfl, h .recvBufs rfl, h .links rfl, h .parityBad rfl, h .mbox rfl, h .waiting rfl, h .snaps rfl, h .lastCtr rfl, h .authSeen rfl, h .tbs rfl, h .tenants rfl, h .rrLast rfl, h .sec rfl, h .pair rfl, h .sess rfl, h .dsr rfl, h .chans rfl, h .wrd rfl, h .mem rfl, h .streams rfl, h .tiles rfl, h .loom rfl, h .hold rfl, h .linPrm rfl, h .ladder rfl, h .pke rfl, h .lib rfl, h .linings rfl, h .pwr rfl⟩
  cases x; cases d
  simp only at e
  obtain ⟨rfl, rfl, rfl, rfl, rfl, rfl, rfl, rfl, rfl, rfl, rfl, rfl, rfl, rfl, rfl, rfl, rfl, rfl, rfl, rfl, rfl, rfl, rfl, rfl, rfl, rfl, rfl, rfl, rfl, rfl, rfl, rfl, rfl, rfl, rfl, rfl, rfl, rfl, rfl, rfl, rfl⟩ := e
  exact ⟨_, rfl⟩
/-- What does not read the pieces that `pulse` changes is as before. -/
theorem pulse_irrel {α : Type} (g : Dev → α) (src : Nat) (code : Nat) (sev : Nat) (subject : Nat) (info : Nat) (d : Dev) (h : ∀ x_flt, g { d with flt := x_flt } = g d) :
    g (pulse src code sev subject info d) = g d := by
  obtain ⟨x_flt, e⟩ := pulse_form src code sev subject info d
  rw [e, h]
@[simp] theorem warmRegs_pwr (d : Dev) : (warmRegs d).pwr = d.pwr :=
  ((warmRegs_keeps (m := 1) rfl (.refl d)).only .pwr rfl).symm
@[simp] theorem warmRegs_tbs (d : Dev) : (warmRegs d).tbs = d.tbs :=
  ((warmRegs_keeps (m := 1) rfl (.refl d)).only .tbs rfl).symm
@[simp] theorem warmRegs_sess (d : Dev) : (warmRegs d).sess = d.sess :=
  ((warmRegs_keeps (m := 1) rfl (.refl d)).only .sess rfl).symm
@[simp] theorem warmRegs_streams (d : Dev) : (warmRegs d).streams = d.streams :=
  ((warmRegs_keeps (m := 1) rfl (.refl d)).only .streams rfl).symm
@[simp] theorem warmRegs_lib (d : Dev) : (warmRegs d).lib = d.lib :=
  ((warmRegs_keeps (m := 1) rfl (.refl d)).only .lib rfl).symm
@[simp] theorem warmBlocks_pwr (d : Dev) : (warmBlocks d).pwr = d.pwr :=
  ((warmBlocks_keeps (m := 3221225472) rfl (.refl d)).only .pwr rfl).symm
@[simp] theorem warmBlocks_tbs (d : Dev) : (warmBlocks d).tbs = d.tbs :=
  ((warmBlocks_keeps (m := 3221225472) rfl (.refl d)).only .tbs rfl).symm
@[simp] theorem warmDram_pwr (d : Dev) : (warmDram d).pwr = d.pwr :=
  ((warmDram_keeps (m := 1610612741) rfl (.refl d)).only .pwr rfl).symm
@[simp] theorem warmDram_tbs (d : Dev) : (warmDram d).tbs = d.tbs :=
  ((warmDram_keeps (m := 1610612741) rfl (.refl d)).only .tbs rfl).symm
@[simp] theorem flushFaults_pwr (d : Dev) : (flushFaults d).pwr = d.pwr :=
  ((flushFaults_keeps (m := 46841995701) rfl (.refl d)).only .pwr rfl).symm
@[simp] theorem flushFaults_tbs (d : Dev) : (flushFaults d).tbs = d.tbs :=
  ((flushFaults_keeps (m := 46841995701) rfl (.refl d)).only .tbs rfl).symm
@[simp] theorem trainingOver_pwr (was : Bool) (d : Dev) : (trainingOver was d).pwr = d.pwr :=
  ((trainingOver_keeps (m := 132) rfl (.refl d)).only .pwr rfl).symm
@[simp] theorem trainingOver_tbs (was : Bool) (d : Dev) : (trainingOver was d).tbs = d.tbs :=
  ((trainingOver_keeps (m := 132) rfl (.refl d)).only .tbs rfl).symm
@[simp] theorem pairGone_pwr (c : Nat) (d : Dev) : (pairGone c d).pwr = d.pwr :=
  ((pairGone_keeps (m := 1073741828) rfl (.refl d)).only .pwr rfl).symm
@[simp] theorem pairGone_tbs (c : Nat) (d : Dev) : (pairGone c d).tbs = d.tbs :=
  ((pairGone_keeps (m := 1073741828) rfl (.refl d)).only .tbs rfl).symm
theorem warmReset_does (kind src : Nat) (d : Dev) (h : d.pwr.resetAt = none) :
    (warmReset kind src d).pwr.cause = kind ∧ (warmReset kind src d).pwr.causeSrc = src ∧
    (warmReset kind src d).pwr.warmCnt = min 65535 (d.pwr.warmCnt + 1) ∧ (warmReset kind src d).pwr.booted = false ∧
    (warmReset kind src d).pwr.resetAt = some d.tbs.ns ∧ (warmReset kind src d).flt.safe = false ∧ (warmReset kind src d).sess = [] ∧
    (warmReset kind src d).streams = [] ∧ (warmReset kind src d).lib = [] := by
  have st : ∀ z, (stopAll z).pwr = z.pwr ∧ (stopAll z).tbs = z.tbs := fun z => by simp
  unfold warmReset; dsimp only
  rw [if_neg (by simp [h])]
  generalize hw : ({ d with pwr := { d.pwr with cause := kind, causeSrc := src, warmCnt := min 65535 (d.pwr.warmCnt + 1) } } : Dev) = w
  have w1 : w.pwr = { d.pwr with cause := kind, causeSrc := src, warmCnt := min 65535 (d.pwr.warmCnt + 1) } ∧ w.tbs = d.tbs := by subst hw; exact ⟨rfl, rfl⟩
  have z1 : (warmBlocks (warmDram (stopAll (flushFaults w)))).pwr = w.pwr ∧ (warmBlocks (warmDram (stopAll (flushFaults w)))).tbs = w.tbs := by
    rw [warmBlocks_pwr, warmDram_pwr, (st _).1, flushFaults_pwr, warmBlocks_tbs, warmDram_tbs, (st _).2, flushFaults_tbs]; exact ⟨rfl, rfl⟩
  generalize warmBlocks (warmDram (stopAll (flushFaults w))) = z at *
  obtain ⟨x, e⟩ := powerSettle_pwr (warmFlt (warmRegs (warmUnits z))).tbs.ns (warmFlt (warmRegs (warmUnits z)))
  have u1 : (warmUnits z).pwr = { z.pwr with
      state := 0, busy := false, late := false, again := false, latch := false, resetWaits := false, image := 0
      imageFail := false, booted := false, resetAt := some z.tbs.ns
      doms := z.pwr.doms.map fun e => (e.1, { e.2 with ignored := false })
      sensors := z.pwr.sensors.map fun e => (e.1, { e.2 with failed := false }) } := rfl
  have u2 : (warmUnits z).sess = [] ∧ (warmUnits z).streams = [] ∧ (warmUnits z).lib = [] := ⟨rfl, rfl, rfl⟩
  have f1 : ∀ v, (warmFlt v).flt.safe = false := fun v => rfl
  generalize warmUnits z = u at *
  rw [e]
  simp only [powerSettle_frame, f1, warmFlt_pwr, warmRegs_pwr, warmFlt_sess, warmFlt_streams, warmFlt_lib, warmRegs_sess, warmRegs_streams, warmRegs_lib, u1, u2, z1, w1]
  trivial
theorem coldReset_does (d : Dev) : (coldReset d).pwr.cause = 3 ∧ (coldReset d).pwr.booted = false ∧ (coldReset d).sess = [] ∧
    (coldReset d).flt.safe = false ∧ (coldReset d).dsr.ring = 1 := by
  unfold coldReset
  obtain ⟨x, e⟩ := powerSettle_pwr 0 (coldDev 3 d.dsr.nodeId d.dsr.strapMaster d)
  obtain ⟨q1, -, -, q4, -, q6⟩ := coldDev_other 3 d.dsr.nodeId d.dsr.strapMaster d
  have p := coldDev_pwr 3 d.dsr.nodeId d.dsr.strapMaster d
  generalize coldDev 3 d.dsr.nodeId d.dsr.strapMaster d = z at *
  simp only [powerSettle_frame, q1, q4, q6, e, p]; decide
theorem evalPackage_waits (now : Nat) (d : Dev) : (evalPackage now d).pwr.resetWaits = d.pwr.resetWaits ∧ (evalPackage now d).pwr.booted = d.pwr.booted := by
  unfold evalPackage; dsimp only
  split
  · obtain ⟨x, e⟩ := powerSettle_pwr now d; rw [e]; exact ⟨rfl, rfl⟩
  · obtain ⟨x, e⟩ := powerSettle_pwr now ({ d with pwr := { d.pwr with busy := true, entering := packageTarget d, since := powerNow now d, late := false, again := false }, tbs := if 2 ≤ packageTarget d then { d.tbs with align := 0, goodSyncs := 0, badSyncs := 0 } else d.tbs } : Dev)
    rw [e]; exact ⟨rfl, rfl⟩
theorem answers_decided {c : Instr} {s : State} {q : Req} {i u : Nat} {own : Dev → List Err} {bad : Err → Dev → Dev} {good : Dev → Dev} {P : Dev → Prop}
    (he : exec c s = act (decideWrite q i u own bad good) s) (h : granted q i u own s.dev = true) (hp : P (good (atTime q.now s.dev))) : Answers c s P :=
  answers_act he (granted_held h) (by rw [decideWrite_granted h]; exact hp)
theorem accept_regs_objs (q : Req) (i u : Nat) (d : Dev) : (accept q i u d).pwr = d.pwr ∧ (accept q i u d).tbs = d.tbs ∧ (accept q i u d).flt = d.flt := by simp
@[simp] theorem disarmFlip_pwr (cls : Nat) (unit : Nat) (d : Dev) : (disarmFlip cls unit d).pwr = d.pwr :=
  ((disarmFlip_keeps (m := 1) rfl (.refl d)).only .pwr rfl).symm
@[simp] theorem disarmFlip_tbs (cls : Nat) (unit : Nat) (d : Dev) : (disarmFlip cls unit d).tbs = d.tbs :=
  ((disarmFlip_keeps (m := 1) rfl (.refl d)).only .tbs rfl).symm
@[simp] theorem disarmFlip_tiles (cls : Nat) (unit : Nat) (d : Dev) : (disarmFlip cls unit d).tiles = d.tiles :=
  ((disarmFlip_keeps (m := 1) rfl (.refl d)).only .tiles rfl).symm
@[simp] theorem disarmFlip_objs (cls : Nat) (unit : Nat) (d : Dev) : (disarmFlip cls unit d).objs = d.objs :=
  ((disarmFlip_keeps (m := 1) rfl (.refl d)).only .objs rfl).symm
@[simp] theorem tileCorrected_tiles (t : Nat) (d : Dev) : (tileCorrected t d).tiles = d.tiles :=
  ((tileCorrected_keeps (m := 129) rfl (.refl d)).only .tiles rfl).symm
theorem pairGet_set (hi lo v : Nat) (d : Dev) (h : Sound d) (hn : hi ≠ lo) : pairGet (pairSet hi lo v d) hi lo = v / 2 ^ 32 % 2 ^ 32 * 2 ^ 32 + v % 2 ^ 32 := by
  have s1 := regSet_sound (k := hi) (v := v / 2 ^ 32) h
  unfold pairGet pairSet
  rw [regGet_set _ s1.regs.1, if_neg hn, regGet_set _ h.regs.1, if_pos rfl, regGet_set _ s1.regs.1, if_pos rfl]
theorem regGet_setFld_ne (d : Dev) (h : Rising d.regs) (k lo len x j : Nat) (hn : j ≠ k) : regGet (setFld k lo len x d) j = regGet d j := by
  unfold setFld; rw [regGet_set _ h, if_neg hn]
theorem satAdd_split (w : Nat) (a b : Nat) : satAdd 64 a b / 2 ^ 32 % 2 ^ 32 * 2 ^ 32 + satAdd 64 a b % 2 ^ 32 = satAdd 64 a b := by
  have h : satAdd 64 a b < 2 ^ 32 * 2 ^ 32 := by unfold satAdd; omega
  have h2 : satAdd 64 a b / 2 ^ 32 < 2 ^ 32 := Nat.div_lt_of_lt_mul h
  rw [Nat.mod_eq_of_lt h2, Nat.mul_comm]
  exact Nat.div_add_mod _ _
theorem containAs_flags (code subject info t : Nat) (d : Dev) (hr : Rising d.tiles) (h1 : (tile d t).on = true) (h2 : (tile d t).gone = false) :
    (tile (containAs code subject info t d) t).contained = true := by
  unfold containAs; dsimp only
  rw [if_neg (by simp [h1, h2])]
  generalize hw : pulse _ _ _ _ _ _ = w
  have w1 : w.tiles = d.tiles := by
    subst hw; simp only [pulse_frame]; split <;> simp
  have w2 : Rising w.tiles := by rw [w1]; exact hr
  rw [(tileFails_flags t _ (rising_put w2) t).2.1, tile_set _ w2, if_pos rfl]

end Sys2Proof.Machine
end

