-- ==== Sys2Proof/Laws/FactsSecurity.lean ====
section
/-! SUPPORT. What the shared operations do, said once for the statements SpdmConnection, SecuredSessions, KeyInstallation, DebugUnlock, IsolatedInterfaces, StreamKeys, CounterClears. -/
set_option Elab.async false
set_option autoImplicit false
set_option linter.all false
open Sys2Proof Sys2Proof.Machine
namespace Sys2Proof.Machine

theorem spdm_ok {l req need : Nat} {f : Dev → Dev} {d : Dev} (h : doeServed d l = true) (c : need ≤ connOf d l) :
    spdm l req need f d = f d := by
  unfold spdm; rw [if_neg (by simp [h]), if_neg (by omega)]
theorem spdm_early {l req need : Nat} {f : Dev → Dev} {d : Dev} (h : doeServed d l = true) (c : connOf d l < need) :
    spdm l req need f d = answer l req 4 [] d := by
  unfold spdm; rw [if_neg (by simp [h]), if_pos c]
theorem setConn_of (l n : Nat) (d : Dev) (h : n ≠ 0) : connOf (setConn l n d) l = n := tabGet_put_of _ _ _ _ h
theorem verified_ok {n r : Nat} {f : Spdm → Dev → Dev} {x : Spdm} {d : Dev} (h : tabFind d.sec.sessions n = some x)
    (hs : doeServed d x.link = true) : verifiedMsg n r true f d =
      f x (setSec { d.sec with sessions := tabSet d.sec.sessions n { x with last := d.tbs.ns } } d) := by
  unfold verifiedMsg; rw [h]; dsimp only; rw [if_neg (by simp [hs]), if_neg (by simp)]
theorem verified_bad {n r : Nat} {f : Spdm → Dev → Dev} {x : Spdm} {d : Dev} (h : tabFind d.sec.sessions n = some x)
    (hs : doeServed d x.link = true) : verifiedMsg n r false f d = answer x.link r 6 [] (secEvent 4 256 d) := by
  unfold verifiedMsg; rw [h]; dsimp only; rw [if_neg (by simp [hs]), if_pos (by simp)]
theorem secured_ok {n r : Nat} {f : Nat → Dev → Dev} {x : Spdm} {d : Dev} (h : tabFind d.sec.sessions n = some x)
    (hs : doeServed d x.link = true) (ho : x.open_ = true) : secured n r true f d =
      f x.link (setSec { d.sec with sessions := tabSet d.sec.sessions n { x with last := d.tbs.ns } } d) := by
  unfold secured; rw [verified_ok h hs, if_pos ho]
theorem secEvent_sec (c t : Nat) (d : Dev) : (secEvent c t d).sec = d.sec := by unfold secEvent; simp
theorem clearLast_ctr (c : Nat) (d : Dev) (h : Rising d.lastCtr) : tabFind (clearLast c d).lastCtr (2 * c) = none := by
  show tabFind (tabErase (tabErase d.lastCtr (2 * c)) (2 * c + 1)) (2 * c) = none
  rw [tabFind_erase _ _ _ (rising_erase h), tabFind_erase _ _ _ h]; simp
theorem tenant_set (t u : Nat) (v : Tenant) (d : Dev) (h : Rising d.tenants) :
    tenantOf (setTenant t v d) u = if u = t then v else tenantOf d u := tabGet_put _ _ h _ _ _
theorem accept_ctr (q : Req) (i u : Nat) (d : Dev) (h : Rising d.lastCtr) : Rising (accept q i u d).lastCtr := by
  unfold accept; split
  · simp only [respond_frame]; exact h
  · simp only [respond_frame]; exact rising_put h
theorem takeSalt_tenant (t i : Nat) (d : Dev) (h : Rising d.tenants) :
    tenantOf (takeSalt t i d) t = { tenantOf d t with salt := (tenantOf (takeSalt t i d) t).salt } ∧
    (holdsBlocks d t = false → (tenantOf (takeSalt t i d) t).salt = some (rngBits 256 d, i)) ∧
    (takeSalt t i d).objs = d.objs ∧ (takeSalt t i d).lastCtr = d.lastCtr ∧ (takeSalt t i d).emitted = d.emitted ∧
    Rising (takeSalt t i d).tenants := by
  unfold takeSalt; dsimp only
  split
  · rename_i h1 h2
    refine ⟨?_, fun h3 => (by rw [h3] at h1; cases h1), rfl, rfl, rfl, h⟩
    rfl
  · have k : ∀ v, tenantOf (rngNext (setTenant t v d)) t = v := fun v =>
      (tenant_set t t v d h).trans (if_pos rfl)
    refine ⟨?_, fun _ => ?_, rfl, rfl, rfl, rising_put h⟩
    · rw [k]
    · rw [k]
theorem eraseKeys_tenant (t u : Nat) (d : Dev) (h : Rising d.tenants) : tenantOf (eraseTenantKeys t d) u =
    if u = t then { tenantOf d t with st := min (tenantOf d t).st 1, root := none, segs := [], salt := if d.wrd.blocks.any (fun e => e.2.owner == t && !e.2.quarantined) then (tenantOf d t).salt else none } else tenantOf d u := by
  unfold eraseTenantKeys; dsimp only
  have e1 : ∀ x : Dev, tenantOf (clearLast t (objReset 0x2052 t x)) u = tenantOf x u := fun x => by
    unfold tenantOf clearLast objReset; rfl
  rw [e1, tenant_set _ _ _ _ h]
/-- What the installation of a tenant's root key leaves. -/
theorem installTenant_does (t key : Nat) (d : Dev) (hs : Sound d) :
    let i := Config.derivedKey 0 key % 2 ^ 128
    let w := installTenant t key d
    (tenantOf w t).st = 2 ∧ (tenantOf w t).root = some key ∧ (tenantOf w t).segs = [] ∧ (tenantOf w t).bound = (tenantOf d t).bound ∧
    objGet w 0x2052 t = i ∧ objGet w 0x2053 t = (objGet d 0x2053 t + 1) % 2 ^ 32 ∧ tabFind w.lastCtr (2 * t) = none ∧
    (holdsBlocks d t = false → (tenantOf w t).salt = some (rngBits 256 d, i)) := by
  dsimp only
  unfold installTenant
  dsimp only
  generalize hi : Config.derivedKey 0 key % 2 ^ 128 = i
  have ho := objCount_rising d hs.objs.1 32 0x2053 t 1
  generalize hd1 : objSet 0x2052 t i (objCount 32 0x2053 t 1 d) = d1
  have a1 : d1.tenants = d.tenants ∧ d1.wrd = d.wrd ∧ d1.rngCtr = d.rngCtr ∧ d1.lastCtr = d.lastCtr := by subst hd1; simp [objCount]
  have a2 : objGet d1 0x2052 t = i := by subst hd1; exact objGet_set_self _ ho _ _ _
  have a3 : objGet d1 0x2053 t = (objGet d 0x2053 t + 1) % 2 ^ 32 := by
    subst hd1; rw [objGet_set_ne _ ho _ _ _ _ _ (by unfold objKey; omega), objCount_get _ hs.objs.1]
  obtain ⟨b1, b2, b3, b4, b5, b6⟩ := takeSalt_tenant t i d1 (by rw [a1.1]; exact hs.tabs.tenants)
  generalize takeSalt t i d1 = d2 at *
  generalize hv : ({ tenantOf d2 t with st := 2, root := some key, segs := [] } : Tenant) = v
  have e : tenantOf (clearLast t (setTenant t v d2)) t = v := (tenant_set t t v d2 b6).trans (if_pos rfl)
  rw [e]
  subst hv
  dsimp only
  refine ⟨rfl, rfl, rfl, ?_, ?_, ?_, ?_, fun h => ?_⟩
  · rw [b1]; unfold tenantOf; rw [a1.1]
  · rw [← a2]; unfold objGet clearLast setTenant; simp only [b3]
  · rw [← a3]; unfold objGet clearLast setTenant; simp only [b3]
  · exact clearLast_ctr t (setTenant t _ d2) (by show Rising d2.lastCtr; rw [b4, a1.2.2.2]; exact hs.tabs.lastCtr)
  · rw [b2 (by unfold holdsBlocks at h ⊢; rw [a1.2.1]; exact h)]; unfold rngBits; rw [a1.2.2.1]
theorem installAnswer_only (l m : Nat) (e : Err) (d : Dev) : ∃ o, installAnswer l m e d = emit o d := by
  unfold installAnswer; dsimp only; split
  · exact ⟨_, rfl⟩
  · split <;> exact ⟨_, rfl⟩
theorem installAnswer_sent (l m : Nat) (d : Dev) : ∃ b, Sent (.doe l 0xFE 0 (0 :: bytesAt m 2 2 :: b)) (installAnswer l m .ok d) := by
  unfold installAnswer; dsimp only; rw [if_neg (by simp)]
  split
  · exact ⟨_, sent_emit _ _⟩
  · exact ⟨_, sent_emit _ _⟩
theorem tabSet_ne {α : Type} (t : Tab α) (k : Nat) (v : α) : tabSet t k v ≠ [] := by
  cases t with
  | nil => simp [tabSet]
  | cons a t => obtain ⟨j, w⟩ := a; unfold tabSet; repeat' split <;> simp
theorem tdisp_ok {n fn l : Nat} {f : Nat → Dev → Dev} {x : Spdm} {d : Dev} (h : tabFind d.sec.sessions n = some x)
    (hs : doeServed d x.link = true) (ho : x.open_ = true) (hf : isFunction fn = true) (hl : linkOfFn d fn = x.link) : tdisp n fn true f d =
      f x.link (setSec { d.sec with sessions := tabSet d.sec.sessions n { x with last := d.tbs.ns } } d) := by
  unfold tdisp; rw [secured_ok h hs ho, if_neg]
  have : linkOfFn (setSec { d.sec with sessions := tabSet d.sec.sessions n { x with last := d.tbs.ns } } d) fn = linkOfFn d fn := rfl
  simp [hf, this, hl]
theorem tdisp_other {n fn l : Nat} {f : Nat → Dev → Dev} {x : Spdm} {d : Dev} (h : tabFind d.sec.sessions n = some x)
    (hs : doeServed d x.link = true) (ho : x.open_ = true) (hl : linkOfFn d fn ≠ x.link) : tdisp n fn true f d =
      answer x.link 0xFE 0x101 [] (setSec { d.sec with sessions := tabSet d.sec.sessions n { x with last := d.tbs.ns } } d) := by
  unfold tdisp; rw [secured_ok h hs ho, if_pos]
  have : linkOfFn (setSec { d.sec with sessions := tabSet d.sec.sessions n { x with last := d.tbs.ns } } d) fn = linkOfFn d fn := rfl
  simp [this, hl]

end Sys2Proof.Machine
end

