-- ==== Sys2Proof/Laws/FactsIntake.lean ====
section
/-! SUPPORT. What the shared operations do, said once for the statements IntakeAccesses. -/
set_option Elab.async false
set_option autoImplicit false
set_option linter.all false
open Sys2Proof Sys2Proof.Machine
namespace Sys2Proof.Machine

@[simp] theorem waterTest_streams (s : Nat) (d : Dev) : (waterTest s d).streams = d.streams :=
  ((waterTest_keeps (m := 34493962517) rfl (.refl d)).only .streams rfl).symm
theorem sess_set (d : Dev) (h : Rising d.sess) (s u : Nat) (x : Session) :
    sess (setSess s x d) u = if u = s then x else sess d u := tabGet_put _ _ h _ _ _
theorem hostGate_open {who : Caller} {f : Dev → Dev} {d : Dev} (h : hostReaches who d = true) : hostGate who f d = f d := by
  simp only [hostReaches, Bool.and_eq_true, Option.isNone_iff_eq_none, Bool.not_eq_true'] at h
  simp [hostGate, gateOf, h.1.1, h.1.2, h.2]
theorem hostReaches_time (who : Caller) (now : Nat) (d : Dev) : hostReaches who (atTime now d) = hostReaches who d :=
  atTime_irrel _ now d fun _ => rfl
theorem waterTest_frames (s : Nat) (d : Dev) (sid : Nat) : stream (waterTest s d) sid = stream d sid := by
  unfold stream; simp
theorem crossing_last (s : Nat) (b : Bool) (d : Dev) (h : Rising d.sess) : (sess (crossing s b d) s).lastNumber = (sess d s).lastNumber := by
  have e : ∀ x, sess (crossing s b d) x = sess (setSess s { sess d s with
      held := b, xcount := ((sess d s).xcount + 1) % 65536, highX := (sess d s).highX || b, lowX := (sess d s).lowX || !b } d) x := by
    intro x; unfold crossing sess; dsimp only; simp
  rw [e, sess_set _ h, if_pos rfl]
theorem waterTest_last (s : Nat) (d : Dev) (h : Rising d.sess) : (sess (waterTest s d) s).lastNumber = (sess d s).lastNumber := by
  unfold waterTest
  dsimp only
  have e : (objMax 0x5020 s (intakeDepth d s) d).sess = d.sess := by simp [objMax]
  split
  · rw [crossing_last _ _ _ (by rw [e]; exact h)]; unfold sess; rw [e]
  · split
    · rw [crossing_last _ _ _ (by rw [e]; exact h)]; unfold sess; rw [e]
    · unfold sess; rw [e]
/-- What substituting the frame with a count does to the frames of its stream. -/
theorem substFrame_frames (s c : Nat) (d : Dev) (h : Rising d.streams) :
    (stream (substFrame s c d) (liveSid s)).frames = (stream d (liveSid s)).frames.map fun f =>
      if f.count == some c then { f with bands := substBands (f.start + missingLimit d s) d.tbs.ns f.bands } else f := by
  unfold substFrame
  split
  · next hn =>
    unfold frameAt at hn
    rw [List.find?_eq_none] at hn
    symm
    conv_rhs => rw [← List.map_id (stream d (liveSid s)).frames]
    exact List.map_congr_left fun f hf => by have := hn f hf; simp only [Bool.not_eq_true] at this; simp [this]
  · next f hf =>
    dsimp only
    rw [waterTest_frames]
    have e : ∀ (l : List Nat) (d : Dev), (forEach l (fun b d => postTenant s 1 2 0 s (c % 2 ^ 32 + b * 2 ^ 32)
        (objCount 32 0x5023 s 1 d)) d).streams = d.streams := by
      intro l
      induction l with
      | nil => intro d; rfl
      | cons b t ih => intro d; unfold forEach at *; rw [List.foldl_cons, ih]; simp
    have e2 : ∀ d1 : Dev, d1.streams = (updFrame (liveSid s) c (fun g => { g with
        bands := substBands (g.start + missingLimit d s) d.tbs.ns g.bands }) d).streams →
        stream d1 (liveSid s) = stream (updFrame (liveSid s) c (fun g => { g with
        bands := substBands (g.start + missingLimit d s) d.tbs.ns g.bands }) d) (liveSid s) := by
      intro d1 he; unfold stream; rw [he]
    rw [e2 _ (e _ _), updFrame, stream_set _ h, if_pos rfl]
theorem substBands_st (a b : Nat) : ∀ l : List Band, (substBands a b l).map (·.st) = l.map (fun b => if b.st = 0 then 2 else b.st)
  | [] => rfl
  | x :: t => by
    simp only [substBands, List.map_cons, substBands_st a b t]
    split <;> simp_all
theorem map_subst (l : List Nat) : (l.map fun b => if b = 0 then 2 else b).map (fun b => if b = 0 then 2 else b) =
    l.map fun b => if b = 0 then 2 else b := by
  rw [List.map_map]; exact List.map_congr_left fun b _ => by simp only [Function.comp]; split <;> simp_all
/-- Where a frame has been substituted it stays so, and what is listed is. -/
theorem substAll (s : Nat) (f0 : Frame) : ∀ (l : List Frame) (d : Dev), Sound d →
    (∀ p : Bool, (∃ g ∈ (stream d (liveSid s)).frames, g.number = f0.number ∧ g.count = f0.count ∧
      ((p = false ∧ g.bands.map (·.st) = f0.bands.map (·.st)) ∨ g.bands.map (·.st) = f0.bands.map (fun b => if b.st = 0 then 2 else b.st))) →
    ∃ g ∈ (stream (forEach l (fun f d => match f.count with
        | some c => substFrame s c d
        | none => d) d) (liveSid s)).frames, g.number = f0.number ∧ g.count = f0.count ∧
      ((p = false ∧ (f0 ∉ l ∨ f0.count = none) ∧ g.bands.map (·.st) = f0.bands.map (·.st)) ∨
        g.bands.map (·.st) = f0.bands.map (fun b => if b.st = 0 then 2 else b.st)))
  | [], d, _, p, ⟨g, hg, h1, h2, h3⟩ => ⟨g, hg, h1, h2, by rcases h3 with h | h <;> simp [h]⟩
  | f :: t, d, hs, p, ⟨g, hg, h1, h2, h3⟩ => by
    have e2 : f0.bands.map (fun b => if b.st = 0 then 2 else b.st) = (f0.bands.map (·.st)).map fun b => if b = 0 then 2 else b := by
      rw [List.map_map]; rfl
    have key : ∃ q : Bool, (q = false → p = false ∧ (f ≠ f0 ∨ f0.count = none)) ∧ ∃ g ∈ (stream (match f.count with
        | some c => substFrame s c d
        | none => d) (liveSid s)).frames, g.number = f0.number ∧ g.count = f0.count ∧
      ((q = false ∧ g.bands.map (·.st) = f0.bands.map (·.st)) ∨ g.bands.map (·.st) = f0.bands.map (fun b => if b.st = 0 then 2 else b.st)) := by
      cases hc : f.count with
      | none =>
        refine ⟨p, fun hp => ⟨hp, ?_⟩, g, hg, h1, h2, h3⟩
        by_cases he : f = f0
        · right; rw [← he]; exact hc
        · exact .inl he
      | some c =>
        dsimp only
        rw [substFrame_frames _ _ _ hs.tabs.streams]
        by_cases he : g.count = some c
        · refine ⟨true, by simp, { g with bands := substBands (g.start + missingLimit d s) d.tbs.ns g.bands },
            List.mem_map.2 ⟨g, hg, by simp [he]⟩, h1, h2, .inr ?_⟩
          dsimp only
          rw [substBands_st]
          have : g.bands.map (fun b => if b.st = 0 then 2 else b.st) = (g.bands.map (·.st)).map fun b => if b = 0 then 2 else b := by
            rw [List.map_map]; rfl
          rw [this, e2]
          rcases h3 with h | h
          · rw [h.2]
          · rw [h, e2, map_subst]
        · refine ⟨p, fun hp => ⟨hp, .inl ?_⟩, g, List.mem_map.2 ⟨g, hg, by simp [he]⟩, h1, h2, h3⟩
          rintro rfl; exact he (h2.trans hc)
    obtain ⟨q, hq, hex⟩ := key
    have hs2 : Sound (match f.count with
        | some c => substFrame s c d
        | none => d) := by
      split
      · exact (substFrame_keeps (m := 4398046511103) rfl (.refl d)).sound hs
      · exact hs
    obtain ⟨g', hg', k1, k2, k3⟩ := substAll s f0 t _ hs2 q hex
    refine ⟨g', hg', k1, k2, ?_⟩
    rcases k3 with ⟨a, b, c⟩ | k
    · refine .inl ⟨(hq a).1, ?_, c⟩
      rcases (hq a).2 with h | h
      · rcases b with b | b
        · exact .inl (by simp [List.mem_cons, Ne.symm h, b])
        · exact .inr b
      · exact .inr h
    · exact .inr k
theorem writeUnits_shift (t off v : Nat) (en : List Bool) (hen : 64 ≤ en.length) : ∀ (k i : Nat) (d : Dev),
    writeUnits t off en off v k (i + 1) d = writeUnits t (off + 64) (en.drop 64) (off + 64) (v / 256 ^ 64) k i d
  | 0, _, _ => rfl
  | k + 1, i, d => by
    unfold writeUnits
    have e1 : off + 64 * (i + 1) = off + 64 + 64 * i := by ring
    have e2 : off + 64 * (i + 1) - off = 64 * i + 64 := by omega
    have e3 : off + 64 + 64 * i - (off + 64) = 64 * i := by omega
    have e4 : (decide (off ≤ off + 64 + 64 * i) && decide (off + 64 + 64 * i + 64 ≤ off + en.length)) =
        (decide (off + 64 ≤ off + 64 + 64 * i) && decide (off + 64 + 64 * i + 64 ≤ off + 64 + (en.drop 64).length)) := by
      simp only [List.length_drop]
      rw [Bool.eq_iff_iff]; simp only [Bool.and_eq_true, decide_eq_true_eq]; omega
    have e5 : bytesAt v (64 * i + 64) 64 = bytesAt (v / 256 ^ 64) (64 * i) 64 := by
      unfold bytesAt; rw [Nat.pow_add, Nat.mul_comm, Nat.div_div_eq_div_mul]
    dsimp only
    rw [e2, e1, e3]
    rw [writeUnits_shift t off v en hen k (i + 1), e4, e5, List.drop_drop, Nat.add_comm 64 (64 * i)]
theorem mem_earned (e : Err) : ∀ l : List (Bool × Err), (true, e) ∈ l → e ∈ earned l
  | [], h => by cases h
  | (b, x) :: t, h => by
    unfold earned
    rcases List.mem_cons.1 h with h | h
    · injection h with h1 h2; subst h1 h2; simp
    · have := mem_earned e t h
      split
      · exact List.mem_cons_of_mem _ this
      · exact this
theorem updStream_get (d : Dev) (h : Sound d) (sid : Nat) (f : Stream → Stream) :
    stream (updStream sid f d) sid = f (stream d sid) ∧ Sound (updStream sid f d) :=
  ⟨by rw [stream_set _ h.tabs.streams, if_pos rfl], (updStream_keeps (m := 4398046511103) rfl (.refl d)).sound h⟩
/-- The frames as an accepted doorbell leaves them: the band is set in each frame that is open under its number. -/
theorem accept_band (w : Nat) (d : Dev) (hs : Sound d)
    (hns : ((sess d (bits w 0 8)).splice.isSome && (sess d (bits w 0 8)).spliceEnd != 2) = false)
    (hcount : bits w 8 7 < ceilDiv (objGet d 0x3015 (bits w 0 8)) 64)
    (hlen : ∀ f, openFrame d (bits w 0 8) (bits w 16 8) = some f → bits w 8 7 < f.bands.length) :
    (openFrame d (bits w 0 8) (bits w 16 8) = none → (sess (doorbellAccept w d) (bits w 0 8)).lastNumber = some (bits w 16 8)) ∧
    ∃ f ∈ (stream (doorbellAccept w d) (liveSid (bits w 0 8))).frames, f.number = bits w 16 8 ∧ (f.band (bits w 8 7)).st = 1 ∧
      (f.band (bits w 8 7)).ready = d.tbs.cnt ∧ (f.band (bits w 8 7)).stamp = d.tbs.ns ∧ (f.band (bits w 8 7)).mv = bit w 24 ∧
      (f.band (bits w 8 7)).roi = bit w 25 := by
  unfold doorbellAccept
  dsimp only
  rw [if_neg (by rw [hns]; simp)]
  generalize bits w 0 8 = s at *
  generalize bits w 8 7 = b at *
  generalize bits w 16 8 = g at *
  generalize hB : ({ st := 1, ready := d.tbs.cnt, stamp := d.tbs.ns, mv := bit w 24, roi := bit w 25 } : Band) = B
  generalize hD1 : (if (openFrame d s g).isSome then d else setSess s { sess d s with lastNumber := some g }
    (updStream (liveSid s) (fun y => { y with frames := y.frames ++
      [{ number := g, bands := List.replicate (ceilDiv (objGet d 0x3015 s) 64) {} }] }) d)) = d1
  have h1 : Sound d1 := by
    subst hD1; split
    · exact hs
    · exact (setSess_keeps (m := 4398046511103) rfl (updStream_keeps (m := 4398046511103) rfl (.refl d))).sound hs
  have hf : ∃ f ∈ (stream d1 (liveSid s)).frames, f.number = g ∧ f.spliced = false ∧ f.closed = false ∧ b < f.bands.length := by
    subst hD1
    cases ho : openFrame d s g with
    | some f =>
      simp only [Option.isSome_some, if_true]
      have hfm := List.mem_of_find?_eq_some ho
      have hfp := List.find?_some ho
      simp only [Bool.and_eq_true, Bool.not_eq_true', beq_iff_eq] at hfp
      exact ⟨f, hfm, hfp.1.2, hfp.1.1, hfp.2, hlen f ho⟩
    | none =>
      simp only [Option.isSome_none, Bool.false_eq_true, if_false]
      have : stream (setSess s { sess d s with lastNumber := some g } (updStream (liveSid s) (fun y => { y with frames := y.frames ++
        [{ number := g, bands := List.replicate (ceilDiv (objGet d 0x3015 s) 64) {} }] }) d)) (liveSid s) =
        stream (updStream (liveSid s) (fun y => { y with frames := y.frames ++
        [{ number := g, bands := List.replicate (ceilDiv (objGet d 0x3015 s) 64) {} }] }) d) (liveSid s) := rfl
      rw [this, (updStream_get d hs _ _).1]
      refine ⟨_, List.mem_append_right _ (List.mem_singleton.2 rfl), rfl, rfl, ?_, by simpa using hcount⟩
      unfold Frame.closed
      dsimp only
      rw [List.all_eq_false]
      exact ⟨{}, List.mem_replicate.2 ⟨by omega, rfl⟩, by decide⟩
  have hl : openFrame d s g = none → (sess d1 s).lastNumber = some g := by
    intro ho; subst hD1; rw [ho]
    simp only [Option.isSome_none, Bool.false_eq_true, if_false]
    rw [sess_set _ ((updStream_keeps (m := 4398046511103) rfl (.refl d)).sound hs).tabs.sess, if_pos rfl]
  obtain ⟨e2, h2⟩ := updStream_get d1 h1 (liveSid s) (fun y => { y with
      frames := y.frames.map fun f => if f.number == g && !f.spliced && !f.closed then f.setBand b B else f })
  have s2 : (updStream (liveSid s) (fun y => { y with
      frames := y.frames.map fun f => if f.number == g && !f.spliced && !f.closed then f.setBand b B else f }) d1).sess = d1.sess := rfl
  generalize updStream (liveSid s) (fun y => { y with
      frames := y.frames.map fun f => if f.number == g && !f.spliced && !f.closed then f.setBand b B else f }) d1 = d2 at *
  generalize hD3 : (if bit w 25 then copyRoi s (g % objGet d 0x3030 s) b d2 else d2) = d3
  have h3 : Sound d3 ∧ d3.sess = d2.sess ∧ (stream d3 (liveSid s)).frames = (stream d2 (liveSid s)).frames := by
    subst hD3; split
    · refine ⟨(copyRoi_keeps (m := 4398046511103) rfl (.refl d2)).sound h2, by simp [copyRoi, objCount], ?_⟩
      have : ∀ x n (d : Dev), stream (objCount 32 0x5026 x n d) (liveSid s) = stream d (liveSid s) := by
        intro x n d; unfold stream; simp [objCount]
      unfold copyRoi; dsimp only
      rw [this, (updStream_get d2 h2 _ _).1]
    · exact ⟨h2, rfl, rfl⟩
  obtain ⟨h3, s3, e3⟩ := h3
  constructor
  · intro ho
    rw [waterTest_last]
    · unfold sess
      show (tabGet {} d3.sess s).lastNumber = _
      rw [s3, s2]; exact hl ho
    · show Rising d3.sess; exact h3.tabs.sess
  · rw [waterTest_frames, (updStream_get d3 h3 _ _).1]
    dsimp only
    rw [e3, e2]
    obtain ⟨f, hfm, hn, hsp, hcl, hb⟩ := hf
    have hc : (f.number == g && !f.spliced && !f.closed) = true := by simp [hn, hsp, hcl]
    have hB2 : (f.setBand b B).band b = B := by
      unfold Frame.band Frame.setBand; simp [List.getD_eq_getElem?_getD, hb]
    have hc2 : ((f.setBand b B).number == g && !(f.setBand b B).spliced && !(f.setBand b B).closed) = true := by
      have : (f.setBand b B).closed = false := by
        unfold Frame.closed Frame.setBand
        rw [List.all_eq_false]
        refine ⟨B, List.mem_iff_getElem.2 ⟨b, by simpa using hb, by simp⟩, by subst hB; simp⟩
      simp only [this]
      simp [Frame.setBand, hn, hsp]
    refine ⟨_, List.mem_map.2 ⟨f.setBand b B, List.mem_map.2 ⟨f, hfm, by rw [if_pos hc]⟩, if_pos hc2⟩, ?_⟩
    rw [hB2]
    have hB3 : ∀ X : Band, ((f.setBand b B).setBand b X).band b = X := by
      intro X; unfold Frame.band Frame.setBand; simp [List.getD_eq_getElem?_getD, hb]
    rw [hB3]
    subst hB
    exact ⟨hn, rfl, rfl, rfl, rfl, rfl⟩

end Sys2Proof.Machine
end

