-- ==== Sys2Proof/Laws/FactsSessions.lean ====
section
/-! SUPPORT. What the shared operations do, said once for the statements SessionCommands. -/
set_option Elab.async false
set_option autoImplicit false
set_option linter.all false
open Sys2Proof Sys2Proof.Machine
namespace Sys2Proof.Machine

/-- What a command of a session has left in force stays. -/
def SameCmd (d e : Dev) : Prop := Rising d.sess → Rising e.sess ∧ ∀ u,
  (sess e u).st = (sess d u).st ∧ (sess e u).pend = (sess d u).pend ∧ (sess e u).cause = (sess d u).cause ∧
  (sess e u).charges = (sess d u).charges ∧ (sess e u).window = (sess d u).window ∧ (sess e u).armWait = (sess d u).armWait ∧
  (sess e u).refN = (sess d u).refN ∧ (sess e u).drainAt = (sess d u).drainAt ∧ (sess e u).fromSuspended = (sess d u).fromSuspended
theorem SameCmd.refl (d : Dev) : SameCmd d d := fun h => ⟨h, fun _ => ⟨rfl, rfl, rfl, rfl, rfl, rfl, rfl, rfl, rfl⟩⟩
theorem SameCmd.trans {a b c : Dev} (h : SameCmd a b) (k : SameCmd b c) : SameCmd a c := fun r => by
  obtain ⟨r1, h1⟩ := h r
  obtain ⟨r2, h2⟩ := k r1
  refine ⟨r2, fun u => ?_⟩
  obtain ⟨a1, a2, a3, a4, a5, a6, a7, a8, a9⟩ := h1 u
  obtain ⟨b1, b2, b3, b4, b5, b6, b7, b8, b9⟩ := h2 u
  exact ⟨b1.trans a1, b2.trans a2, b3.trans a3, b4.trans a4, b5.trans a5, b6.trans a6, b7.trans a7, b8.trans a8, b9.trans a9⟩
theorem SameCmd.of {d e : Dev} (h : e.sess = d.sess) : SameCmd d e := fun r => by
  refine ⟨by rw [h]; exact r, fun u => ?_⟩
  unfold sess; rw [h]; exact ⟨rfl, rfl, rfl, rfl, rfl, rfl, rfl, rfl, rfl⟩
theorem SameCmd.set (d : Dev) (k : Nat) (v : Session) (h : v.st = (sess d k).st ∧ v.pend = (sess d k).pend ∧
    v.cause = (sess d k).cause ∧ v.charges = (sess d k).charges ∧ v.window = (sess d k).window ∧ v.armWait = (sess d k).armWait ∧
    v.refN = (sess d k).refN ∧ v.drainAt = (sess d k).drainAt ∧ v.fromSuspended = (sess d k).fromSuspended) : SameCmd d (setSess k v d) := fun r => by
  refine ⟨rising_put r, fun u => ?_⟩
  rw [sess_set _ r]
  by_cases hu : u = k
  · rw [if_pos hu, hu]; exact h
  · rw [if_neg hu]; exact ⟨rfl, rfl, rfl, rfl, rfl, rfl, rfl, rfl, rfl⟩
theorem SameCmd.each {α : Type} (f : α → Dev → Dev) (h : ∀ a d, SameCmd d (f a d)) : ∀ (l : List α) (d : Dev), SameCmd d (forEach l f d)
  | [], d => .refl d
  | a :: t, d => (h a d).trans (SameCmd.each f h t (f a d))
theorem markSent_cmd (k : Pkt) (d : Dev) : SameCmd d (markSent k d) := by
  have u : ∀ f, SameCmd d (updCopy k.s k.seq k.e f d) := fun f => .set d _ _ ⟨rfl, rfl, rfl, rfl, rfl, rfl, rfl, rfl, rfl⟩
  unfold markSent
  split
  · exact (u _).trans (.set _ _ _ ⟨rfl, rfl, rfl, rfl, rfl, rfl, rfl, rfl, rfl⟩)
  · split
    · exact u _
    · exact .refl d
theorem enterClass_cmd (p c : Nat) (k : Pkt) (d : Dev) : SameCmd d (enterClass p c k d) := by
  unfold enterClass discardQueues
  dsimp only
  split
  · exact .of (by simp [setClassQueue, setPort])
  · refine SameCmd.trans (SameCmd.trans ?_ (SameCmd.each _ markSent_cmd _ _)) (.of rfl)
    exact .of (by simp [objCount, setClassQueue, setPort])
theorem enterFirst_cmd (p c : Nat) (k : Pkt) (d : Dev) : SameCmd d (enterFirst p c k d) := by
  unfold enterFirst; dsimp only
  split
  · exact enterClass_cmd _ _ _ _
  · exact SameCmd.trans (enterClass_cmd _ _ _ _) (.of rfl)
theorem sendMirror_cmd (m : MirrorMsg) (d : Dev) : SameCmd d (sendMirror m d) := by
  have h : SameCmd d (setPair { d.pair with counter := d.pair.counter + 1 } d) := .of rfl
  unfold sendMirror
  split
  · exact .refl d
  · dsimp only
    split
    · exact h.trans (enterFirst_cmd _ _ _ _)
    · exact h.trans (enterClass_cmd _ _ _ _)
theorem postTenant_cmd (a b c e f g : Nat) (d : Dev) : SameCmd d (postTenant a b c e f g d) := .of (by simp)
theorem sendSeq_cmd (s : Nat) (m : MirrorMsg) (d : Dev) : SameCmd d (sendSeq s m d) := by
  unfold sendSeq
  split
  · exact .refl d
  · refine SameCmd.trans ?_ (sendMirror_cmd _ _)
    exact .set d s _ ⟨rfl, rfl, rfl, rfl, rfl, rfl, rfl, rfl, rfl⟩
theorem endSplice_cmd (s : Nat) (d : Dev) : SameCmd d (endSplice s d) := by
  unfold endSplice
  dsimp only
  split
  · split
    · exact .set d s _ ⟨rfl, rfl, rfl, rfl, rfl, rfl, rfl, rfl, rfl⟩
    · exact .refl d
  · refine SameCmd.trans ?_ (postTenant_cmd _ _ _ _ _ _ _)
    exact .set d s _ ⟨rfl, rfl, rfl, rfl, rfl, rfl, rfl, rfl, rfl⟩
theorem noteQuiet_cmd (s : Nat) (d : Dev) : SameCmd d (noteQuiet s d) := by
  unfold noteQuiet
  split
  · exact .set d s _ ⟨rfl, rfl, rfl, rfl, rfl, rfl, rfl, rfl, rfl⟩
  · exact .refl d
@[simp] theorem refuse_sess (q : Req) (idx : Nat) (sub : Nat) (e : Err) (d : Dev) : (refuse q idx sub e d).sess = d.sess :=
  ((refuse_keeps (m := 270926101) rfl (.refl d)).only .sess rfl).symm
@[simp] theorem refuse_streams (q : Req) (idx : Nat) (sub : Nat) (e : Err) (d : Dev) : (refuse q idx sub e d).streams = d.streams :=
  ((refuse_keeps (m := 270926101) rfl (.refl d)).only .streams rfl).symm
@[simp] theorem respond_objs (q : Req) (op : Nat) (e : Err) (idx : Nat) (sub : Nat) (off : Nat) (total : Nat) (len : Nat) (payload : Nat) (d : Dev) : (respond q op e idx sub off total len payload d).objs = d.objs :=
  ((respond_keeps (m := 268828945) rfl (.refl d)).only .objs rfl).symm
@[simp] theorem postState_sess (s : Nat) (old : SessSt) (operator : Bool) (d : Dev) : (postState s old operator d).sess = d.sess :=
  ((postState_keeps (m := 6420) rfl (.refl d)).only .sess rfl).symm
@[simp] theorem postState_streams (s : Nat) (old : SessSt) (operator : Bool) (d : Dev) : (postState s old operator d).streams = d.streams :=
  ((postState_keeps (m := 6420) rfl (.refl d)).only .streams rfl).symm
@[simp] theorem releaseUse_sess (p : Use → Bool) (d : Dev) : (releaseUse p d).sess = d.sess :=
  ((releaseUse_keeps (m := 3221225472) rfl (.refl d)).only .sess rfl).symm
@[simp] theorem releaseUse_streams (p : Use → Bool) (d : Dev) : (releaseUse p d).streams = d.streams :=
  ((releaseUse_keeps (m := 3221225472) rfl (.refl d)).only .streams rfl).symm
@[simp] theorem unlistDest_sess (s : Nat) (e : Nat) (src : Nat) (sport : Nat) (d : Dev) : (unlistDest s e src sport d).sess = d.sess :=
  ((unlistDest_keeps (m := 274877906944) rfl (.refl d)).only .sess rfl).symm
@[simp] theorem libState_sess (t : Nat) (e : Nat) (x : LibEntry) (d : Dev) : (libState t e x d).sess = d.sess :=
  ((libState_keeps (m := 549755820308) rfl (.refl d)).only .sess rfl).symm
@[simp] theorem holdUpdate_sess (d : Dev) : (holdUpdate d).sess = d.sess :=
  ((holdUpdate_keeps (m := 34359738369) rfl (.refl d)).only .sess rfl).symm
@[simp] theorem holdUpdate_streams (d : Dev) : (holdUpdate d).streams = d.streams :=
  ((holdUpdate_keeps (m := 34359738369) rfl (.refl d)).only .streams rfl).symm
theorem disableDest_cmd (s e v : Nat) (d : Dev) : SameCmd d (disableDest s e v d) := by
  unfold disableDest
  refine SameCmd.trans ?_ (.of (releaseUse_sess _ _))
  have h : SameCmd d (unlistDest s e (entrySrc v) (entrySrcPort v) d) := .of (by simp)
  exact h.trans (.set _ s _ ⟨rfl, rfl, rfl, rfl, rfl, rfl, rfl, rfl, rfl⟩)
theorem refuseFreezes_cmd (s : Nat) (d : Dev) : SameCmd d (refuseFreezes s d) := by
  unfold refuseFreezes
  refine SameCmd.trans ?_ (SameCmd.each _ (fun z d => ?_) _ _)
  · exact .set _ s _ ⟨rfl, rfl, rfl, rfl, rfl, rfl, rfl, rfl, rfl⟩
  · exact SameCmd.trans (.of (by simp)) (postTenant_cmd _ _ _ _ _ _ _)
/-- What is left of a session whose reservations are released. -/
theorem dropReservations_does (s : Nat) (d : Dev) (h : Sound d) :
    (sess (dropReservations s d) s).st = (sess d s).st ∧ (sess (dropReservations s d) s).armWait = (sess d s).armWait ∧
    (sess (dropReservations s d) s).window = none ∧ (sess (dropReservations s d) s).charges = {} ∧
    stream (dropReservations s d) (liveSid s) = {} ∧ Rising (dropReservations s d).sess := by
  unfold dropReservations
  dsimp only
  have c1 : SameCmd d (forEach (enabledDests d s) (fun e d => disableDest s e (destEntry d s e) d) (refuseFreezes s d)) :=
    (refuseFreezes_cmd s d).trans (SameCmd.each _ (fun e d => disableDest_cmd s e _ d) _ _)
  have k1 : Sound (forEach (enabledDests d s) (fun e d => disableDest s e (destEntry d s e) d) (refuseFreezes s d)) := by
    have : ∀ (l : List Nat) (d : Dev), Sound d → Sound (forEach l (fun e d => disableDest s e (destEntry d s e) d) d) := by
      intro l
      induction l with
      | nil => intro d hd; exact hd
      | cons a t ih => intro d hd; exact ih _ ((disableDest_keeps (m := 4398046511103) rfl (.refl d)).sound hd)
    exact this _ _ ((refuseFreezes_keeps (m := 4398046511103) rfl (.refl d)).sound h)
  generalize forEach (enabledDests d s) (fun e d => disableDest s e (destEntry d s e) d) (refuseFreezes s d) = d1 at *
  obtain ⟨r1, e1⟩ := c1 h.tabs.sess
  obtain ⟨a1, _, _, _, _, a6, _⟩ := e1 s
  have r2 : Rising (intakeOff s (setStream (mezzSid s) {} (setStream (liveSid s) {} d1))).sess := by
    unfold intakeOff; rw [holdUpdate_sess]; exact rising_put r1
  have e2 : sess (intakeOff s (setStream (mezzSid s) {} (setStream (liveSid s) {} d1))) s =
      { sess d1 s with held := false, highX := false, lowX := false, window := none, src := [], feed := [] } := by
    unfold intakeOff sess; rw [holdUpdate_sess]
    exact (sess_set (setStream (mezzSid s) {} (setStream (liveSid s) {} d1)) r1 s s _).trans (if_pos rfl)
  have r3 := r2
  rw [← releaseUse_sess (fun u => u.session? == some s)] at r3
  have e3 : sess (releaseUse (fun u => u.session? == some s) (intakeOff s (setStream (mezzSid s) {} (setStream (liveSid s) {} d1)))) s =
      { sess d1 s with held := false, highX := false, lowX := false, window := none, src := [], feed := [] } := by
    rw [← e2]; unfold sess; rw [releaseUse_sess]
  have hst : (releaseUse (fun u => u.session? == some s) (intakeOff s (setStream (mezzSid s) {} (setStream (liveSid s) {} d1)))).streams =
      (setStream (mezzSid s) {} (setStream (liveSid s) {} d1)).streams := by
    rw [releaseUse_streams]; unfold intakeOff; rw [holdUpdate_streams]; rfl
  generalize releaseUse (fun u => u.session? == some s) (intakeOff s (setStream (mezzSid s) {} (setStream (liveSid s) {} d1))) = d3 at *
  have key : ∀ (D : Dev) x, D.sess = d3.sess → sess (setSess s x D) s = x := fun D x hD =>
    (sess_set D (by rw [hD]; exact r3) s s x).trans (if_pos rfl)
  refine ⟨?_, ?_, ?_, ?_, ?_, ?_⟩
  · refine (congrArg Session.st (key _ _ rfl)).trans ?_; exact (congrArg Session.st e3).trans a1
  · refine (congrArg Session.armWait (key _ _ rfl)).trans ?_; exact (congrArg Session.armWait e3).trans a6
  · exact congrArg Session.window (key _ _ rfl)
  · exact congrArg Session.charges (key _ _ rfl)
  · unfold stream
    show tabGet {} d3.streams (liveSid s) = {}
    rw [hst]
    unfold setStream
    rw [tabGet_put _ _ (rising_put k1.tabs.streams), if_neg (by unfold liveSid mezzSid; omega), tabGet_put _ _ k1.tabs.streams, if_pos rfl]
  · exact rising_put r3
theorem closeLining_cmd (s : Nat) (d : Dev) : SameCmd d (closeLining s d) := by
  unfold closeLining
  dsimp only
  refine SameCmd.trans (sendSeq_cmd s { ty := 8 } d) (SameCmd.trans (SameCmd.set _ s
    { sess (sendSeq s { ty := 8 } d) s with mseq := 0, tell := [], rateSent := {}, askedAt := none }
    ⟨rfl, rfl, rfl, rfl, rfl, rfl, rfl, rfl, rfl⟩) (.of rfl))
theorem toDefined_does (s : Nat) (d : Dev) (h : Sound d) :
    (sess (toDefined s d) s).st = .defined ∧ (sess (toDefined s d) s).window = none ∧ (sess (toDefined s d) s).charges = {} ∧
    stream (toDefined s d) (liveSid s) = {} := by
  have k : Sound (closeLining s (endSplice s d)) :=
    (closeLining_keeps (m := 4398046511103) rfl (endSplice_keeps (m := 4398046511103) rfl (.refl d))).sound h
  obtain ⟨_, _, h3, h4, h5, h6⟩ := dropReservations_does s _ k
  unfold toDefined
  dsimp only
  rw [sess_set _ h6, if_pos rfl]
  exact ⟨rfl, h3, h4, h5⟩
theorem sess_self (d : Dev) (h : Rising d.sess) (s : Nat) (x : Session) : sess (setSess s x d) s = x :=
  (sess_set d h s s x).trans (if_pos rfl)
theorem reserve_sess (s : Nat) (d : Dev) :
    (reserve s d).sess = (setSess s { sess d s with charges := chargesOf d (params d s), window := placeWindow d s (params d s) } d).sess := by
  unfold reserve
  dsimp only
  generalize setSess s _ d = d1
  have h := holdBlocks_keeps (m := 1073741824) (d := d1) (s := s) (p := params d s) rfl (.refl d1)
  cases e : holdBlocks d1 s (params d s) with
  | none => rfl
  | some x =>
    exact ((h.1 x e).only .sess rfl).symm
@[simp] theorem postEvent_sess (fn : Nat) (ty : Nat) (kind : Nat) (code : Nat) (subject : Nat) (detail : Nat) (d : Dev) : (postEvent fn ty kind code subject detail d).sess = d.sess :=
  ((postEvent_keeps (m := 6420) rfl (.refl d)).only .sess rfl).symm
@[simp] theorem postEvent_streams (fn : Nat) (ty : Nat) (kind : Nat) (code : Nat) (subject : Nat) (detail : Nat) (d : Dev) : (postEvent fn ty kind code subject detail d).streams = d.streams :=
  ((postEvent_keeps (m := 6420) rfl (.refl d)).only .streams rfl).symm
@[simp] theorem objReset_sess (idx : Nat) (sub : Nat) (d : Dev) : (objReset idx sub d).sess = d.sess :=
  ((objReset_keeps (m := 4) rfl (.refl d)).only .sess rfl).symm
@[simp] theorem objReset_streams (idx : Nat) (sub : Nat) (d : Dev) : (objReset idx sub d).streams = d.streams :=
  ((objReset_keeps (m := 4) rfl (.refl d)).only .streams rfl).symm
/-- Releasing a lining that has been promoted leaves the sessions. -/
theorem freeLining_promoted (l : Nat) (d : Dev) (h : linState d l = 4) (hs : Rising d.streams) :
    (freeLining l d).sess = d.sess ∧ ∀ u, u < 512 → stream (freeLining l d) u = stream d u := by
  unfold freeLining
  dsimp only
  simp only [h, ne_eq, not_true_eq_false, decide_false, Bool.and_false, Bool.false_eq_true, if_false]
  have er : ∀ (l' : List Nat) (d : Dev), (forEach l' (fun i d => objReset i l d) d).sess = d.sess ∧
      (forEach l' (fun i d => objReset i l d) d).streams = d.streams := by
    intro l'
    induction l' with
    | nil => intro d; exact ⟨rfl, rfl⟩
    | cons a t ih => intro d; exact ⟨(ih _).1, (ih _).2⟩
  constructor
  · split
    · simp [er, setStream, setLining]
    · simp [er, setStream, setLining]
  · intro u hu
    have e2 : (setStream (liningSid l) {} (setLining l {} { releaseUse (fun u => u.lining? == some l) d with
        linPrm := tabFilter (fun k => k / 65536 != l) (releaseUse (fun u => u.lining? == some l) d).linPrm })).streams =
        tabPut {} d.streams (liningSid l) {} := by simp [setStream, setLining]
    have e3 : tabGet ({} : Stream) (tabPut {} d.streams (liningSid l) {}) u = tabGet {} d.streams u := by
      rw [tabGet_put _ _ hs, if_neg (by unfold liningSid; omega)]
    unfold stream
    split
    · rw [postEvent_streams, postEvent_streams, (er _ _).2, e2, e3]
    · rw [postEvent_streams, (er _ _).2, e2, e3]
theorem toFree_does (s : Nat) (d : Dev) (h : Sound d) (hk : s < 256) :
    (sess (toFree s d) s).st = .free ∧ (sess (toFree s d) s).window = none ∧ (sess (toFree s d) s).charges = {} ∧
    stream (toFree s d) (liveSid s) = {} := by
  have k : Sound (dropUndispatched s (closeLining s (endSplice s d))) :=
    (dropUndispatched_keeps (m := 4398046511103) rfl (closeLining_keeps (m := 4398046511103) rfl
      (endSplice_keeps (m := 4398046511103) rfl (.refl d)))).sound h
  have k2 := (dropReservations_keeps (m := 4398046511103) (s := s) rfl (.refl (dropUndispatched s (closeLining s (endSplice s d))))).sound k
  obtain ⟨_, _, _, _, h5, h6⟩ := dropReservations_does s _ k
  unfold toFree
  dsimp only
  generalize dropReservations s (dropUndispatched s (closeLining s (endSplice s d))) = d1 at *
  generalize hd2 : ({ d1 with objs := d1.objs.filter fun e => !(e.1 % 256 == s && decide (0x3001 ≤ e.1 / 256) && decide (e.1 / 256 < 0x4000) && e.1 / 256 != 0x3036), heldStitch := d1.heldStitch.filter fun e => !(e.1 % 256 == s && decide (0x3001 ≤ e.1 / 256) && decide (e.1 / 256 < 0x4000) && e.1 / 256 != 0x3036) } : Dev) = d2
  have r2 : Rising d2.sess := by subst hd2; exact h6
  have s2 : d2.streams = d1.streams := by subst hd2; rfl
  have e : sess (setSess s { kept := (sess d2 s).kept } d2) s = { kept := (sess d2 s).kept } := (sess_set d2 r2 s s _).trans (if_pos rfl)
  have es : stream (setSess s { kept := (sess d2 s).kept } d2) (liveSid s) = {} := by
    unfold stream; show tabGet {} d2.streams _ = _; rw [s2]; exact h5
  have rs : Rising (setSess s { kept := (sess d2 s).kept } d2).streams := by
    show Rising d2.streams; rw [s2]; exact k2.tabs.streams
  generalize setSess s { kept := (sess d2 s).kept } d2 = d3 at *
  unfold dropPromoted
  split
  · rw [e, es]; exact ⟨rfl, rfl, rfl, rfl⟩
  · next l hl =>
    have hp := List.find?_some hl
    simp only [Bool.and_eq_true, beq_iff_eq] at hp
    obtain ⟨f1, f2⟩ := freeLining_promoted l d3 hp.1 rs
    rw [f2 _ (by unfold liveSid; omega), es]
    have : sess (freeLining l d3) s = sess d3 s := by unfold sess; rw [f1]
    rw [this, e]; exact ⟨rfl, rfl, rfl, rfl⟩
theorem setSess_rising (d : Dev) (h : Rising d.sess) (s : Nat) (x : Session) : Rising (setSess s x d).sess := rising_put h
theorem Answers.imp {c : Instr} {s : State} {P Q : Dev → Prop} (h : Answers c s P) (k : ∀ d, P d → Q d) : Answers c s Q := by
  obtain ⟨d, h1, h2⟩ := h; exact ⟨d, h1, k d h2⟩
/-- What a granted command of a session leaves. -/
theorem command_does {c : Instr} {s : State} {q : Req} {slot n : Nat} {own : Dev → List Err} {f : Dev → Dev}
    (he : exec c s = actOn (isSlot slot) (command q slot n own f) s) (hk : isSlot slot = true)
    (hg : granted q 0x3003 slot own s.dev = true) (hs : Sound (f (atTime q.now s.dev))) :
    Answers c s (fun d => (Accepted q 0x3003 slot d ∧ objGet d 0x3003 slot = n) ∧
      (∀ u, sess d u = sess (f (atTime q.now s.dev)) u) ∧ ∀ u, stream d u = stream (f (atTime q.now s.dev)) u) := by
  have := answers_performOn (P := fun d => objGet d 0x3003 slot = n ∧
      (∀ u, sess d u = sess (f (atTime q.now s.dev)) u) ∧ ∀ u, stream d u = stream (f (atTime q.now s.dev)) u)
    (f := fun d => objSet 0x3003 slot n (f d)) he hk hg (by
      refine ⟨?_, fun u => ?_, fun u => ?_⟩
      · refine Eq.trans ?_ (objGet_set_self (f (atTime q.now s.dev)) hs.objs.1 0x3003 slot n)
        unfold objGet; simp only [accept_frame]
      · unfold sess; simp
      · unfold stream; simp)
  exact this.imp fun d h => ⟨⟨h.1, h.2.1⟩, h.2.2⟩
@[simp] theorem comparerShown_tbs (d : Dev) : (comparerShown d).tbs = d.tbs :=
  ((comparerShown_keeps (m := 274877906944) rfl (.refl d)).only .tbs rfl).symm
@[simp] theorem portModesShown_tbs (old : Nat) (d : Dev) : (portModesShown old d).tbs = d.tbs :=
  ((portModesShown_keeps (m := 824767944981) rfl (.refl d)).only .tbs rfl).symm
@[simp] theorem sparesShown_tbs (d : Dev) : (sparesShown d).tbs = d.tbs :=
  ((sparesShown_keeps (m := 8589934592) rfl (.refl d)).only .tbs rfl).symm
@[simp] theorem showChanges_tbs (d : Dev) : (showChanges d).tbs = d.tbs :=
  ((showChanges_keeps (m := 278233356572) rfl (.refl d)).only .tbs rfl).symm
@[simp] theorem holdUpdate_tbs (d : Dev) : (holdUpdate d).tbs = d.tbs :=
  ((holdUpdate_keeps (m := 34359738369) rfl (.refl d)).only .tbs rfl).symm
@[simp] theorem applyFreezes_tbs (d : Dev) : (applyFreezes d).tbs = d.tbs :=
  ((applyFreezes_keeps (m := 553111263508) rfl (.refl d)).only .tbs rfl).symm
@[simp] theorem trialRefill_tbs (d : Dev) : (trialRefill d).tbs = d.tbs :=
  ((trialRefill_keeps (m := 274877906944) rfl (.refl d)).only .tbs rfl).symm
@[simp] theorem gateRestart_tbs (d : Dev) : (gateRestart d).tbs = d.tbs :=
  ((gateRestart_keeps (m := 274877906948) rfl (.refl d)).only .tbs rfl).symm
@[simp] theorem restoreLadder_tbs (d : Dev) : (restoreLadder d).tbs = d.tbs :=
  ((restoreLadder_keeps (m := 137573171200) rfl (.refl d)).only .tbs rfl).symm
@[simp] theorem sessionStep1_tbs (n : Nat) (s : Nat) (d : Dev) : (sessionStep1 n s d).tbs = d.tbs :=
  ((sessionStep1_keeps (m := 316955171093) rfl (.refl d)).only .tbs rfl).symm
@[simp] theorem ackFrames_tbs (s : Nat) (d : Dev) : (ackFrames s d).tbs = d.tbs :=
  ((ackFrames_keeps (m := 4294967300) rfl (.refl d)).only .tbs rfl).symm
@[simp] theorem refillAll_tbs (d : Dev) : (refillAll d).tbs = d.tbs :=
  ((refillAll_keeps (m := 134217732) rfl (.refl d)).only .tbs rfl).symm
@[simp] theorem passAll_tbs (d : Dev) : (passAll d).tbs = d.tbs :=
  ((passAll_keeps (m := 275012124677) rfl (.refl d)).only .tbs rfl).symm
@[simp] theorem discardPlans_tbs (d : Dev) : (discardPlans d).tbs = d.tbs :=
  ((discardPlans_keeps (m := 21474836480) rfl (.refl d)).only .tbs rfl).symm
@[simp] theorem sampleAll_tbs (d : Dev) : (sampleAll d).tbs = d.tbs :=
  ((sampleAll_keeps (m := 134217728) rfl (.refl d)).only .tbs rfl).symm
@[simp] theorem sessionStep4_tbs (n : Nat) (s : Nat) (d : Dev) : (sessionStep4 n s d).tbs = d.tbs :=
  ((sessionStep4_keeps (m := 313733945621) rfl (.refl d)).only .tbs rfl).symm
@[simp] theorem planStage_tbs (n : Nat) (snap : Band → Bool) (d : Dev) : (planStage n snap d).tbs = d.tbs :=
  ((planStage_keeps (m := 21609054245) rfl (.refl d)).only .tbs rfl).symm
@[simp] theorem assignPass_tbs (n : Nat) (snap : Band → Bool) (d : Dev) : (assignPass n snap d).tbs = d.tbs :=
  ((assignPass_keeps (m := 342724974869) rfl (.refl d)).only .tbs rfl).symm
@[simp] theorem waterTest_tbs (s : Nat) (d : Dev) : (waterTest s d).tbs = d.tbs :=
  ((waterTest_keeps (m := 34493962517) rfl (.refl d)).only .tbs rfl).symm
@[simp] theorem syncMezz_tbs (s : Nat) (d : Dev) : (syncMezz s d).tbs = d.tbs :=
  ((syncMezz_keeps (m := 4294967296) rfl (.refl d)).only .tbs rfl).symm
@[simp] theorem ringSync_tbs (s : Nat) (d : Dev) : (ringSync s d).tbs = d.tbs :=
  ((ringSync_keeps (m := 3355443200) rfl (.refl d)).only .tbs rfl).symm
@[simp] theorem pairBoundary_tbs (d : Dev) : (pairBoundary d).tbs = d.tbs :=
  ((pairBoundary_keeps (m := 1004421913053) rfl (.refl d)).only .tbs rfl).symm
@[simp] theorem recomputeVotes_tbs (d : Dev) : (recomputeVotes d).tbs = d.tbs :=
  ((recomputeVotes_keeps (m := 8589934592) rfl (.refl d)).only .tbs rfl).symm
theorem forEach_tbs {α : Type} (f : α → Dev → Dev) (h : ∀ a d, (f a d).tbs = d.tbs) : ∀ (l : List α) (d : Dev), (forEach l f d).tbs = d.tbs
  | [], _ => rfl
  | a :: t, d => (forEach_tbs f h t (f a d)).trans (h a d)
/-- The time is the same when changes take effect. -/
theorem visible_tbs (d : Dev) : (visible d).tbs.cnt = d.tbs.cnt ∧ (visible d).tbs.presented = d.tbs.presented ∧
    (visible d).tbs.ns = d.tbs.ns := by
  unfold visible
  dsimp only
  simp only [comparerShown_tbs, portModesShown_tbs, sparesShown_tbs, holdUpdate_tbs, showChanges_tbs]
  unfold sourceShown
  split <;> exact ⟨rfl, rfl, rfl⟩

end Sys2Proof.Machine
end

