-- ==== Sys2Proof/Laws/FactsCapture.lean ====
section
/-! SUPPORT. What the shared operations do, said once for the statements ClipsAndSplices. -/
set_option Elab.async false
set_option autoImplicit false
set_option linter.all false
open Sys2Proof Sys2Proof.Machine
namespace Sys2Proof.Machine

theorem lib_set (d : Dev) (h : Rising d.lib) (t e u w : Nat) (x : LibEntry) :
    libEntry (setLib t e x d) u w = if 64 * u + w = 64 * t + e then x else libEntry d u w := tabGet_put _ _ h _ _ _
theorem libState_lib (d : Dev) (h : Rising d.lib) (t e u w : Nat) (x : LibEntry) :
    libEntry (libState t e x d) u w = if 64 * u + w = 64 * t + e then x else libEntry d u w := by
  rw [← lib_set d h]
  unfold libState libEntry
  simp
@[simp] theorem toLibrary_lib (keys : List Nat) (t : Nat) (e : Nat) (d : Dev) : (toLibrary keys t e d).lib = d.lib :=
  ((toLibrary_keeps (m := 1073741824) rfl (.refl d)).only .lib rfl).symm
@[simp] theorem toLibrary_objs (keys : List Nat) (t : Nat) (e : Nat) (d : Dev) : (toLibrary keys t e d).objs = d.objs :=
  ((toLibrary_keeps (m := 1073741824) rfl (.refl d)).only .objs rfl).symm
@[simp] theorem releaseUse_lib (p : Use → Bool) (d : Dev) : (releaseUse p d).lib = d.lib :=
  ((releaseUse_keeps (m := 3221225472) rfl (.refl d)).only .lib rfl).symm
@[simp] theorem libState_streams (t : Nat) (e : Nat) (x : LibEntry) (d : Dev) : (libState t e x d).streams = d.streams :=
  ((libState_keeps (m := 549755820308) rfl (.refl d)).only .streams rfl).symm
theorem allocAll_frame (t : Nat) (l : List (Nat × Use)) (d : Dev) :
    ((allocAll t l d).getD d).sess = d.sess ∧ ((allocAll t l d).getD d).lib = d.lib := by
  have h := allocAll_keeps (m := 1073741824) (owner := t) (l := l) (d := d) rfl (.refl d)
  cases e : allocAll t l d with
  | none => exact ⟨rfl, rfl⟩
  | some x => exact ⟨((h.1 x e).only .sess rfl).symm, ((h.1 x e).only .lib rfl).symm⟩
theorem granted_own {q : Req} {i u : Nat} {own : Dev → List Err} {d : Dev} (h : granted q i u own d = true) (e : Err) :
    e ∉ own (atTime q.now d) := by
  simp only [granted, Bool.and_eq_true, Option.isNone_iff_eq_none] at h
  intro he
  have hl : ∀ l : List Err, lowest l = none → l = [] := by
    intro l
    cases l with
    | nil => intro _; rfl
    | cons a t =>
      intro hn
      unfold lowest at hn
      split at hn
      · cases hn
      · split at hn <;> cases hn
  have h2 := hl _ h.2
  unfold writeErrs at h2
  simp only [List.append_eq_nil_iff] at h2
  rw [h2.1.2] at he
  cases he

end Sys2Proof.Machine
end

