-- ==== Sys2Proof/Laws/FactsPairing.lean ====
section
/-! SUPPORT. What the shared operations do, said once for the statements PairingCommands. -/
set_option Elab.async false
set_option autoImplicit false
set_option linter.all false
open Sys2Proof Sys2Proof.Machine
namespace Sys2Proof.Machine

/-- What a message sent on the mirror stream leaves of the pair. -/
def SamePair (d e : Dev) : Prop := e.pair.st = d.pair.st ∧ e.pair.keyed = d.pair.keyed ∧ e.pair.probe = d.pair.probe ∧
  e.pair.lost = d.pair.lost ∧ e.pair.lastIn = d.pair.lastIn ∧ e.pair.partner = d.pair.partner ∧ e.pair.offer = d.pair.offer
theorem SamePair.refl (d : Dev) : SamePair d d := ⟨rfl, rfl, rfl, rfl, rfl, rfl, rfl⟩
theorem SamePair.of {d e : Dev} (h : e.pair = d.pair) : SamePair d e := by unfold SamePair; rw [h]; exact ⟨rfl, rfl, rfl, rfl, rfl, rfl, rfl⟩
theorem SamePair.trans {a b c : Dev} (h : SamePair a b) (k : SamePair b c) : SamePair a c := by
  obtain ⟨a1, a2, a3, a4, a5, a6, a7⟩ := h
  obtain ⟨b1, b2, b3, b4, b5, b6, b7⟩ := k
  exact ⟨b1.trans a1, b2.trans a2, b3.trans a3, b4.trans a4, b5.trans a5, b6.trans a6, b7.trans a7⟩
theorem SamePair.each {α : Type} (f : α → Dev → Dev) (h : ∀ a d, SamePair d (f a d)) : ∀ (l : List α) (d : Dev), SamePair d (forEach l f d)
  | [], d => .refl d
  | a :: t, d => (h a d).trans (SamePair.each f h t (f a d))
@[simp] theorem enterClass_pair (p : Nat) (c : Nat) (k : Pkt) (d : Dev) : (enterClass p c k d).pair = d.pair :=
  ((enterClass_keeps (m := 275012124677) rfl (.refl d)).only .pair rfl).symm
@[simp] theorem enterFirst_pair (p : Nat) (c : Nat) (k : Pkt) (d : Dev) : (enterFirst p c k d).pair = d.pair :=
  ((enterFirst_keeps (m := 275012124677) rfl (.refl d)).only .pair rfl).symm
@[simp] theorem postTenant_pair (s : Nat) (ty : Nat) (kind : Nat) (code : Nat) (subject : Nat) (detail : Nat) (d : Dev) : (postTenant s ty kind code subject detail d).pair = d.pair :=
  ((postTenant_keeps (m := 6420) rfl (.refl d)).only .pair rfl).symm
@[simp] theorem markLost_pair (sid : Nat) (c : Nat) (d : Dev) : (markLost sid c d).pair = d.pair :=
  ((markLost_keeps (m := 4294967300) rfl (.refl d)).only .pair rfl).symm
@[simp] theorem dropUndispatched_pair (s : Nat) (d : Dev) : (dropUndispatched s d).pair = d.pair :=
  ((dropUndispatched_keeps (m := 38788929813) rfl (.refl d)).only .pair rfl).symm
@[simp] theorem endSplice_pair (s : Nat) (d : Dev) : (endSplice s d).pair = d.pair :=
  ((endSplice_keeps (m := 134224148) rfl (.refl d)).only .pair rfl).symm
@[simp] theorem postState_pair (s : Nat) (old : SessSt) (operator : Bool) (d : Dev) : (postState s old operator d).pair = d.pair :=
  ((postState_keeps (m := 6420) rfl (.refl d)).only .pair rfl).symm
@[simp] theorem returnPart_pair (j : Job) (d : Dev) : (returnPart j d).pair = d.pair :=
  ((returnPart_keeps (m := 4294967296) rfl (.refl d)).only .pair rfl).symm
@[simp] theorem activateSpare_pair (t : Nat) (j : Job) (d : Dev) : (activateSpare t j d).pair = d.pair :=
  ((activateSpare_keeps (m := 2208150061056) rfl (.refl d)).only .pair rfl).symm
@[simp] theorem pulse_objs (src : Nat) (code : Nat) (sev : Nat) (subject : Nat) (info : Nat) (d : Dev) : (pulse src code sev subject info d).objs = d.objs :=
  ((pulse_keeps (m := 128) rfl (.refl d)).only .objs rfl).symm
@[simp] theorem concealBand_pair (sid : Nat) (c : Nat) (b : Nat) (d : Dev) : (concealBand sid c b d).pair = d.pair :=
  ((concealBand_keeps (m := 4294967296) rfl (.refl d)).only .pair rfl).symm
@[simp] theorem updBand_pair (sid : Nat) (c : Nat) (b : Nat) (g : Band → Band) (d : Dev) : (updBand sid c b g d).pair = d.pair :=
  ((updBand_keeps (m := 4294967296) rfl (.refl d)).only .pair rfl).symm
@[simp] theorem updFrame_pair (sid : Nat) (c : Nat) (g : Frame → Frame) (d : Dev) : (updFrame sid c g d).pair = d.pair :=
  ((updFrame_keeps (m := 4294967296) rfl (.refl d)).only .pair rfl).symm
@[simp] theorem retireFrames_pair (sid : Nat) (done : Frame → Bool) (d : Dev) : (retireFrames sid done d).pair = d.pair :=
  ((retireFrames_keeps (m := 4294967296) rfl (.refl d)).only .pair rfl).symm
@[simp] theorem linChange_pair (l : Nat) (new : Nat) (cause : Nat) (d : Dev) : (linChange l new cause d).pair = d.pair :=
  ((linChange_keeps (m := 6420) rfl (.refl d)).only .pair rfl).symm
@[simp] theorem dropFrames_pair (sid : Nat) (c : Nat) (d : Dev) : (dropFrames sid c d).pair = d.pair :=
  ((dropFrames_keeps (m := 4294967300) rfl (.refl d)).only .pair rfl).symm
@[simp] theorem takeStep_pair (s : Nat) (d : Dev) : (takeStep s d).pair = d.pair :=
  ((takeStep_keeps (m := 137573177620) rfl (.refl d)).only .pair rfl).symm
@[simp] theorem refuse_pair (q : Req) (idx : Nat) (sub : Nat) (e : Err) (d : Dev) : (refuse q idx sub e d).pair = d.pair :=
  ((refuse_keeps (m := 270926101) rfl (.refl d)).only .pair rfl).symm
@[simp] theorem forgetLinings_pair (d : Dev) : (forgetLinings d).pair = d.pair :=
  ((forgetLinings_keeps (m := 134217732) rfl (.refl d)).only .pair rfl).symm
@[simp] theorem stopLinings_pair (d : Dev) : (stopLinings d).pair = d.pair :=
  ((stopLinings_keeps (m := 1099511634196) rfl (.refl d)).only .pair rfl).symm
@[simp] theorem promoteRefused_pair (l : Nat) (d : Dev) : (promoteRefused l d).pair = d.pair :=
  ((promoteRefused_keeps (m := 1175881521556) rfl (.refl d)).only .pair rfl).symm
@[simp] theorem dsWrite_pair (dst : Nat) (idx : Nat) (ctx : Nat) (len : Nat) (data : Nat) (d : Dev) : (dsWrite dst idx ctx len data d).pair = d.pair :=
  ((dsWrite_keeps (m := 268435456) rfl (.refl d)).only .pair rfl).symm
@[simp] theorem updLining_pair (l : Nat) (f : Lining → Lining) (d : Dev) : (updLining l f d).pair = d.pair :=
  ((updLining_keeps (m := 1099511627776) rfl (.refl d)).only .pair rfl).symm
@[simp] theorem level_objs (src : Nat) (code : Nat) (sev : Nat) (subject : Nat) (info : Nat) (d : Dev) : (level src code sev subject info d).objs = d.objs :=
  ((level_keeps (m := 128) rfl (.refl d)).only .objs rfl).symm
@[simp] theorem levelEnd_objs (src : Nat) (code : Nat) (subject : Nat) (d : Dev) : (levelEnd src code subject d).objs = d.objs :=
  ((levelEnd_keeps (m := 128) rfl (.refl d)).only .objs rfl).symm
@[simp] theorem markSent_objs (k : Pkt) (d : Dev) : (markSent k d).objs = d.objs :=
  ((markSent_keeps (m := 134217728) rfl (.refl d)).only .objs rfl).symm
@[simp] theorem announce_pair (p : Nat) (a : Nat) (d : Dev) : (announce p a d).pair = d.pair :=
  ((announce_keeps (m := 275012124677) rfl (.refl d)).only .pair rfl).symm
theorem sendMirror_pair (m : MirrorMsg) (d : Dev) : SamePair d (sendMirror m d) := by
  have h : SamePair d (setPair { d.pair with counter := d.pair.counter + 1 } d) := ⟨rfl, rfl, rfl, rfl, rfl, rfl, rfl⟩
  unfold sendMirror
  split
  · exact .refl d
  · dsimp only
    split
    · exact h.trans (.of (by simp))
    · exact h.trans (.of (by simp))
theorem sendSeq_pair (s : Nat) (m : MirrorMsg) (d : Dev) : SamePair d (sendSeq s m d) := by
  unfold sendSeq
  split
  · exact .refl d
  · exact SamePair.trans (.of (by simp)) (sendMirror_pair _ _)
theorem suspend_pair (s c : Nat) (d : Dev) : SamePair d (suspend s c d) := by
  unfold suspend
  dsimp only
  split
  · exact .refl d
  · split
    · exact SamePair.trans (.of (by simp)) (sendSeq_pair _ _ _)
    · split
      · exact SamePair.trans (.of (by simp)) (sendSeq_pair _ _ _)
      · exact .refl d
theorem sendLinState_pair (l : Nat) (r : Bool) (more : List Nat) (d : Dev) : SamePair d (sendLinState l r more d) := by
  unfold sendLinState
  dsimp only
  refine SamePair.trans ?_ (sendMirror_pair _ _)
  split <;> exact .of (by simp)
theorem liningFrameDone_pair (l : Nat) (f : Frame) (d : Dev) : SamePair d (liningFrameDone l f d) := by
  unfold liningFrameDone
  dsimp only
  split
  · split <;> exact .of (by simp)
  · split
    · split
      · exact SamePair.trans (.of (by simp)) (sendLinState_pair _ _ _ _)
      · split
        · split
          · exact .of (by simp)
          · exact SamePair.trans (.of (by simp)) (sendLinState_pair _ _ _ _)
        · exact SamePair.trans (.of (by simp)) (sendLinState_pair _ _ _ _)
    · exact .of (by simp)
theorem losePart_pair (j : Job) (c : Nat) (d : Dev) : SamePair d (losePart j c d) := by
  unfold losePart
  split
  · refine SamePair.trans (b := degradeLining (j.stream - 512) 5 d) ?_ ?_
    · unfold degradeLining
      split
      · exact SamePair.trans (.of (by simp)) (sendLinState_pair _ _ _ _)
      · exact .refl d
    · unfold loseLinBand liningDoneAt
      dsimp only
      split
      · exact .of (by simp)
      · split
        · exact SamePair.trans (.of (by simp)) (liningFrameDone_pair _ _ _)
        · exact .of (by simp)
  · exact (suspend_pair (slotOf j.stream) c d).trans (.of (by simp))
theorem runLadder_pair {n : Int} {d e : Dev} (h : runLadder n d = some e) : SamePair d e := by
  unfold runLadder at h
  cases hl : ladderSteps d 1024 n [] with
  | none => rw [hl] at h; cases h
  | some l =>
    rw [hl] at h
    cases h
    exact SamePair.each _ (fun _ _ => .of (by simp)) _ _
theorem recoverPart_pair (j : Job) (d : Dev) : SamePair d (recoverPart j d) := by
  unfold recoverPart
  dsimp only
  split
  · split
    · exact .of (by simp)
    · split
      · exact .of (by simp)
      · split
        · next e he =>
          split at he
          · exact (runLadder_pair he).trans (.of (by simp))
          · cases he
        · exact losePart_pair _ _ _
  · refine (losePart_pair j 1 d).trans ?_
    split
    · exact .of (by simp)
    · exact .refl _
theorem allocAll_pair (t : Nat) (l : List (Nat × Use)) (d : Dev) : ((allocAll t l d).getD d).pair = d.pair := by
  have h := allocAll_keeps (m := 1073741824) (owner := t) (l := l) (d := d) rfl (.refl d)
  cases e : allocAll t l d with
  | none => rfl
  | some x => exact ((h.1 x e).only .pair rfl).symm
theorem setPair_same (x : Pair) (d e : Dev) (h : e.pair = d.pair) (p : List (Nat × Nat)) :
    SamePair d (setPair { e.pair with promoting := p } e) := by
  unfold SamePair setPair; dsimp only; rw [h]; exact ⟨rfl, rfl, rfl, rfl, rfl, rfl, rfl⟩
theorem promoteAdmit_pair (l e a : Nat) (d : Dev) : SamePair d (promoteAdmit l e a d) := by
  unfold promoteAdmit
  extract_lets s p t c d1 w d2 x z d3 d4 q
  have h1 : d1.pair = d.pair := allocAll_pair _ _ _
  clear_value d1
  have h2 : d2.pair = d1.pair := rfl
  have h3 : d3.pair = d2.pair := rfl
  have h4 : d4.pair = d3.pair := rfl
  have h5 : q = d.pair := h4.trans (h3.trans (h2.trans h1))
  clear_value q d4 d3
  subst h5
  exact ⟨rfl, rfl, rfl, rfl, rfl, rfl, rfl⟩
theorem promotionPass_pair (ls : List Nat) (d : Dev) : SamePair d (promotionPass ls d) := by
  unfold promotionPass
  refine SamePair.each _ (fun i d => ?_) _ _
  unfold promoteOne
  split
  · exact promoteAdmit_pair _ _ _ _
  · exact .of (by simp)
theorem sendTaken_pair (d : Dev) : SamePair d (sendTaken d) := by
  unfold sendTaken
  dsimp only
  split
  · exact .refl d
  · exact (sendMirror_pair { ty := 14, nums := d.pair.promoting.map fun e => objGet d 0x4001 e.1 } d).trans (.of (by simp))
theorem offerFails_pair (d : Dev) : (offerFails d).pair.st = d.pair.st ∧ (offerFails d).pair.lost = d.pair.lost ∧
    (offerFails d).pair.probe = d.pair.probe ∧ (offerFails d).pair.offer = none := by
  have k : ∀ (a b : Dev), SamePair a b → a.pair.st = d.pair.st → a.pair.lost = d.pair.lost → a.pair.probe = d.pair.probe → a.pair.offer = none →
      b.pair.st = d.pair.st ∧ b.pair.lost = d.pair.lost ∧ b.pair.probe = d.pair.probe ∧ b.pair.offer = none := by
    intro a b h e1 e2 e3 e4
    exact ⟨h.1.trans e1, h.2.2.2.1.trans e2, h.2.2.1.trans e3, h.2.2.2.2.2.2.trans e4⟩
  unfold offerFails
  split
  · next h => exact ⟨rfl, rfl, rfl, h⟩
  · next o h =>
    dsimp only
    split
    · split
      · exact k _ _ (recoverPart_pair _ _) rfl rfl rfl rfl
      · exact ⟨rfl, rfl, rfl, rfl⟩
    · next q _ =>
      refine k (setSess o.s { sess (setPair { d.pair with offer := none } d) o.s with handing := false } (setPair { d.pair with offer := none } d))
        _ (.of (by simp)) rfl rfl rfl rfl
    · exact ⟨rfl, rfl, rfl, rfl⟩
theorem enterPair_pair (n : Nat) (d : Dev) : (enterPair n d).pair = { d.pair with st := n, since := d.tbs.ns } := by
  unfold enterPair; dsimp only; split <;> simp [setPair]
theorem enterPair_objs (n : Nat) (d : Dev) : (enterPair n d).objs = d.objs := by
  unfold enterPair; dsimp only; split <;> simp [setPair]
theorem enterPair_rng (n : Nat) (d : Dev) : (enterPair n d).rngCtr = d.rngCtr := by
  unfold enterPair; dsimp only; split <;> simp [setPair]
/-- Whatever the loss of the partner does to sessions and linings, the pair is PARTNER_LOST. -/
theorem partnerLost_pair (d : Dev) : (partnerLost d).pair.st = 4 ∧ (partnerLost d).pair.lost = true ∧
    (partnerLost d).pair.probe = none ∧ (partnerLost d).pair.offer = none := by
  unfold partnerLost
  dsimp only
  have h0 : (pulse 1 0x0051 2 (partnerNode d) 0 (enterPair 4 d)).pair.st = 4 := by simp [enterPair_pair]
  revert h0
  generalize pulse 1 0x0051 2 (partnerNode d) 0 (enterPair 4 d) = d1
  intro h0
  obtain ⟨h1, h2, h3, h4⟩ := offerFails_pair (setPair { d1.pair with lost := true, probe := none } d1)
  revert h1 h2 h3 h4
  generalize offerFails (setPair { d1.pair with lost := true, probe := none } d1) = d2
  intro h1 h2 h3 h4
  have k : ∀ e : Dev, SamePair d2 e → e.pair.st = 4 ∧ e.pair.lost = true ∧ e.pair.probe = none ∧ e.pair.offer = none := by
    intro e h
    exact ⟨h.1.trans (h1.trans h0), h.2.2.2.1.trans h2, h.2.2.1.trans h3, h.2.2.2.2.2.2.trans h4⟩
  split
  · refine k _ (SamePair.trans (b := forgetLinings d2) (.of (by simp)) ?_)
    unfold lossPass
    exact (promotionPass_pair _ _).trans (sendTaken_pair _)
  · exact k _ (.of (by simp))
theorem byteAt_lt (v n : Nat) : byteAt v n < 256 := Nat.mod_lt _ (by decide)
/-- Only the count of discarded frames changes among the objects when a message is sent. -/
theorem sendMirror_obj (m : MirrorMsg) (d : Dev) (h : Rising d.objs) (i u : Nat) (hi : i ≠ 0x50D2) (hu : u < 256) :
    objGet (sendMirror m d) i u = objGet d i u := by
  have k : ∀ (p : Nat) (l : List Pkt) (d : Dev), objGet (setClassQueue p 3 l d) i u = objGet d i u := fun _ _ _ => rfl
  have g : ∀ (p : Nat) (d : Dev), p < 256 → Rising d.objs → objGet (discardQueues p d) i u = objGet d i u := by
    intro p d hp h
    unfold discardQueues
    split
    · rfl
    · dsimp only
      have e : ∀ (l : List Pkt) (x : Dev), (forEach l markSent x).objs = x.objs := by
        intro l
        induction l with
        | nil => intro _; rfl
        | cons a t ih => intro x; exact (ih _).trans (by simp)
      have e2 : ∀ x : Dev, x.objs = (objCount 32 0x50D2 p ((List.range 7).flatMap (classQueue d p)).length d).objs → objGet x i u = objGet d i u := by
        intro x hx
        have : objGet x i u = objGet (objCount 32 0x50D2 p ((List.range 7).flatMap (classQueue d p)).length d) i u := by unfold objGet; rw [hx]
        rw [this]
        exact objCount_get_ne _ h _ _ _ _ _ _ (by unfold objKey; omega)
      exact e2 _ ((e _ _))
  have c : ∀ (p : Nat) (q : Pkt) (d : Dev), p < 256 → Rising d.objs → objGet (enterClass p 3 q d) i u = objGet d i u := by
    intro p q d hp h
    unfold enterClass
    dsimp only
    refine (g _ _ hp (by simpa [setClassQueue, setPort] using h)).trans ?_
    unfold objGet; simp [setClassQueue, setPort]
  unfold sendMirror
  split
  · rfl
  · dsimp only
    split
    · unfold enterFirst
      dsimp only
      split
      · exact c _ _ _ (byteAt_lt _ _) h
      · exact c _ _ _ (byteAt_lt _ _) h
    · exact c _ _ _ (byteAt_lt _ _) h
theorem receive_ok {ty : Nat} {m : MirrorMsg} {f : Dev → Dev} {d : Dev} (h : mirrorOk d ty m = true) :
    receive ty m f d = f { d with pair := { d.pair with lastIn := m.counter } } := by unfold receive; rw [if_pos h]; rfl
theorem receive_bad {ty : Nat} {m : MirrorMsg} {f : Dev → Dev} {d : Dev} (h : mirrorOk d ty m = false) :
    receive ty m f d = objCount 32 0x5098 0 1 d := by unfold receive; rw [if_neg (by simp [h])]
theorem refusePair_does (r : Nat) (d : Dev) (h : Rising d.objs) : (refusePair r d).pair.st = 5 ∧ (refusePair r d).pair.keyed = false ∧
    objGet (refusePair r d) 0x1409 0 = r := by
  unfold refusePair
  refine ⟨by simp [setPair, enterPair_pair], by simp [setPair], ?_⟩
  have e : (setPair { (enterPair 5 (objSet 0x1409 0 r d)).pair with keyed := false } (enterPair 5 (objSet 0x1409 0 r d))).objs =
      (objSet 0x1409 0 r d).objs := enterPair_objs _ _
  have := objGet_set_self d h 0x1409 0 r
  unfold objGet at *; rw [e]; exact this
/-- How a handshake begins, or is refused at its start. -/
theorem enterHandshake_does (d : Dev) (h : Rising d.objs) :
    (d.sec.rngFail = true → enterHandshake d = d) ∧
    (d.sec.rngFail = false → d.sec.debug = true → enterHandshake d = refusePair 3 (enterPair 1 d)) ∧
    (d.sec.rngFail = false → d.sec.debug = false → isAligned d = false → enterHandshake d = refusePair 6 (enterPair 1 d)) ∧
    (d.sec.rngFail = false → d.sec.debug = false → isAligned d = true → objGet d 0x1101 0 ≠ 1 →
      enterHandshake d = refusePair 1 (enterPair 1 d)) ∧
    (d.sec.rngFail = false → d.sec.debug = false → isAligned d = true → objGet d 0x1101 0 = 1 → (enterHandshake d).pair.st = 1 ∧
      objGet (enterHandshake d) 0x1620 0 = Config.pairShare d.rngCtr % 2 ^ (8 * 208) ∧ (enterHandshake d).rngCtr = d.rngCtr + 1 ∧
      ∀ i, i ≠ 0x1620 → objGet (enterHandshake d) i 0 = objGet d i 0) := by
  have ho : Rising (rngNext (enterPair 1 d)).objs := by show Rising (enterPair 1 d).objs; rw [enterPair_objs]; exact h
  refine ⟨fun a => ?_, fun a b => ?_, fun a b c => ?_, fun a b c e => ?_, fun a b c e => ?_⟩
  · unfold enterHandshake; rw [if_pos a]
  · unfold enterHandshake; rw [if_neg (by simp [a]), if_pos b]
  · unfold enterHandshake; rw [if_neg (by simp [a]), if_neg (by simp [b]), if_pos (by simp [c])]
  · unfold enterHandshake; rw [if_neg (by simp [a]), if_neg (by simp [b]), if_neg (by simp [c]), if_pos (by simpa using e)]
  · unfold enterHandshake
    rw [if_neg (by simp [a]), if_neg (by simp [b]), if_neg (by simp [c]), if_neg (by simpa using e)]
    dsimp only
    refine ⟨?_, ?_, ?_, fun i hi => ?_⟩
    · simp [dsSend, setDsr, rngNext, enterPair_pair]
    · exact objGet_set_self _ ho 0x1620 0 _
    · simp [dsSend, setDsr, rngNext, enterPair_rng]
    · refine (objGet_set_ne _ ho 0x1620 0 _ i 0 (by unfold objKey; omega)).trans ?_
      unfold objGet rngNext; rw [enterPair_objs]
theorem sendMirror_counter (m : MirrorMsg) (d : Dev) (h : d.pair.keyed = true) : (sendMirror m d).pair.counter = d.pair.counter + 1 := by
  unfold sendMirror
  rw [if_neg (by simp [h])]
  dsimp only
  split <;> simp [setPair]
theorem relining_pair (d : Dev) : (relining d).pair.lost = false ∧ (relining d).pair.st = d.pair.st ∧ (relining d).pair.lastIn = d.pair.lastIn ∧
    (relining d).pair.partner = d.pair.partner ∧ (relining d).pair.probe = d.pair.probe := by
  unfold relining
  split
  · obtain ⟨c1, _, c2, c3, c4, c5, _⟩ := SamePair.each askLining (fun s d => sendMirror_pair _ _) ((tabKeys d.sess).filter (wantsLining d))
      (setPair { d.pair with lost := false } d)
    exact ⟨c3, c1, c4, c5, c2⟩
  · next h => exact ⟨by simpa using h, rfl, rfl, rfl, rfl⟩
theorem enterHandshake_obj (d : Dev) (h : Rising d.objs) (i : Nat) (hi : i ≠ 0x1409) (hj : i ≠ 0x1620) :
    objGet (enterHandshake d) i 0 = objGet d i 0 := by
  have r : ∀ n, objGet (refusePair n (enterPair 1 d)) i 0 = objGet d i 0 := by
    intro n
    unfold refusePair
    dsimp only
    have e : ∀ x : Dev, x.objs = (objSet 0x1409 0 n (enterPair 1 d)).objs → objGet x i 0 = objGet d i 0 := by
      intro x hx
      have : objGet x i 0 = objGet (objSet 0x1409 0 n (enterPair 1 d)) i 0 := by unfold objGet; rw [hx]
      rw [this, objGet_set_ne _ (by rw [enterPair_objs]; exact h) _ _ _ _ _ (by unfold objKey; omega)]
      unfold objGet; rw [enterPair_objs]
    exact e _ (enterPair_objs _ _)
  obtain ⟨k1, k2, k3, k4, k5⟩ := enterHandshake_does d h
  by_cases a : d.sec.rngFail = true
  · rw [k1 a]
  · by_cases b : d.sec.debug = true
    · rw [k2 (by simpa using a) b]; exact r _
    · by_cases c : isAligned d = true
      · by_cases e : objGet d 0x1101 0 = 1
        · exact (k5 (by simpa using a) (by simpa using b) c e).2.2.2 i hj
        · rw [k4 (by simpa using a) (by simpa using b) c e]; exact r _
      · rw [k3 (by simpa using a) (by simpa using b) (by simpa using c)]; exact r _
/-- The form of a command that carries the instant. -/
theorem answers_timed {c : Instr} {s : State} {P : Dev → Prop} (f : Dev → Dev) {now : Nat} {y : Dev}
    (he : exec c s = act (fun d => f (atTime now d)) s) (hh : isHeld s.dev = false) (e : atTime now s.dev = y) (hp : P (f y)) :
    Answers c s P := answers_act he hh (by rw [e]; exact hp)

end Sys2Proof.Machine
end

