-- ==== Sys2Proof/Laws/FactsMirror.lean ====
section
/-! SUPPORT. What the shared operations do, said once for the statements MirrorMessages. -/
set_option Elab.async false
set_option autoImplicit false
set_option linter.all false
open Sys2Proof Sys2Proof.Machine
namespace Sys2Proof.Machine

@[simp] theorem earlyStart_linings (d : Dev) : (earlyStart d).linings = d.linings :=
  ((earlyStart_keeps (m := 342724974869) rfl (.refl d)).only .linings rfl).symm
@[simp] theorem objCount_linings (w : Nat) (idx : Nat) (sub : Nat) (n : Nat) (d : Dev) : (objCount w idx sub n d).linings = d.linings :=
  ((objCount_keeps (m := 4) rfl (.refl d)).only .linings rfl).symm
@[simp] theorem sendLinState_linings (l : Nat) (refresh : Bool) (more : List Nat) (d : Dev) : (sendLinState l refresh more d).linings = d.linings :=
  ((sendLinState_keeps (m := 275079233541) rfl (.refl d)).only .linings rfl).symm
@[simp] theorem placeStandby_linings (l : Nat) (d : Dev) : (placeStandby l d).linings = d.linings :=
  ((placeStandby_keeps (m := 134217728) rfl (.refl d)).only .linings rfl).symm
@[simp] theorem placeStandby_objs (l : Nat) (d : Dev) : (placeStandby l d).objs = d.objs :=
  ((placeStandby_keeps (m := 134217728) rfl (.refl d)).only .objs rfl).symm
@[simp] theorem holdLining_linings (l : Nat) (d : Dev) : (holdLining l d).linings = d.linings :=
  ((holdLining_keeps (m := 1073741824) rfl (.refl d)).only .linings rfl).symm
@[simp] theorem holdLining_objs (l : Nat) (d : Dev) : (holdLining l d).objs = d.objs :=
  ((holdLining_keeps (m := 1073741824) rfl (.refl d)).only .objs rfl).symm
@[simp] theorem applyObjs_linings (l : Nat) (objs : List (Nat × Nat)) (d : Dev) : (applyObjs l objs d).linings = d.linings :=
  ((applyObjs_keeps (m := 68719476736) rfl (.refl d)).only .linings rfl).symm
@[simp] theorem applyObjs_objs (l : Nat) (objs : List (Nat × Nat)) (d : Dev) : (applyObjs l objs d).objs = d.objs :=
  ((applyObjs_keeps (m := 68719476736) rfl (.refl d)).only .objs rfl).symm
@[simp] theorem degradeLining_linings (l : Nat) (cause : Nat) (d : Dev) : (degradeLining l cause d).linings = d.linings :=
  ((degradeLining_keeps (m := 275079239957) rfl (.refl d)).only .linings rfl).symm
@[simp] theorem openLinFrame_linings (l : Nat) (m : MirrorMsg) (d : Dev) : (openLinFrame l m d).linings = d.linings :=
  ((openLinFrame_keeps (m := 4294967296) rfl (.refl d)).only .linings rfl).symm
@[simp] theorem openLinFrame_objs (l : Nat) (m : MirrorMsg) (d : Dev) : (openLinFrame l m d).objs = d.objs :=
  ((openLinFrame_keeps (m := 4294967296) rfl (.refl d)).only .objs rfl).symm
@[simp] theorem postEvent_linings (fn : Nat) (ty : Nat) (kind : Nat) (code : Nat) (subject : Nat) (detail : Nat) (d : Dev) : (postEvent fn ty kind code subject detail d).linings = d.linings :=
  ((postEvent_keeps (m := 6420) rfl (.refl d)).only .linings rfl).symm
@[simp] theorem releaseUse_linings (p : Use → Bool) (d : Dev) : (releaseUse p d).linings = d.linings :=
  ((releaseUse_keeps (m := 3221225472) rfl (.refl d)).only .linings rfl).symm
theorem lining_set (d : Dev) (h : Rising d.linings) (l k : Nat) (x : Lining) :
    lining (setLining l x d) k = if k = l then x else lining d k := tabGet_put _ _ h _ _ _
/-- The first message that waits. -/
theorem head_waits (l : Tab MirrorMsg) (k : Nat) (m : MirrorMsg) (h : ∀ e ∈ l.head?, k < e.1) : tabSet l k m = (k, m) :: l := by
  cases l with
  | nil => rfl
  | cons e t =>
    obtain ⟨j, w⟩ := e
    have := h (j, w) rfl
    simp only at this
    unfold tabSet
    rw [if_neg (by omega), if_pos this]
theorem head_stays (l : Tab MirrorMsg) (k n : Nat) (m : MirrorMsg) (h : ∀ e ∈ l.head?, e.1 ≠ n) (hk : k ≠ n) :
    ∀ e ∈ (tabSet l k m).head?, e.1 ≠ n := by
  cases l with
  | nil => intro e he; cases he; exact hk
  | cons a t =>
    obtain ⟨j, w⟩ := a
    have := h (j, w) rfl
    unfold tabSet
    split
    · intro e he; cases he; exact hk
    · split
      · intro e he; cases he; exact hk
      · intro e he; cases he; exact this
/-- Nothing is applied while the message whose turn it is has not come. -/
theorem applyWaiting_waits (l : Nat) : ∀ (n : Nat) (d : Dev), (∀ e ∈ (lining d l).waiting.head?, e.1 ≠ objGet d 0x4005 l + 1) →
    applyWaiting l n d = d := by
  intro n d h
  cases n with
  | zero => rfl
  | succ n =>
    unfold applyWaiting
    split
    · rfl
    · next k m t e =>
      rw [e] at h
      have := h (k, m) rfl
      rw [if_neg (by simp; intro _; simpa using this)]
/-- The lining with a message among those that wait. -/
def withWaiting (m : MirrorMsg) (n : Nat) (x : Lining) : Lining := { x with
      waiting := tabSet x.waiting m.mseq m
      arrived := tabSet (tabFilter (fun k => (tabFind x.waiting k).isSome) x.arrived) m.mseq ((tabFind x.arrived m.mseq).getD n) }
/-- A message whose turn it is is applied, and then what waits after it. -/
theorem sequenced_turn (m : MirrorMsg) (d : Dev) (h : Rising d.linings) (ho : linOpen d m.lining = true)
    (hk : m.mseq = objGet d 0x4005 m.lining + 1) (hw : ∀ e ∈ (lining d m.lining).waiting.head?, m.mseq < e.1) :
    ∃ e : Dev, e = { d with linings := e.linings } ∧ Rising e.linings ∧
      lining e m.lining = { lining d m.lining with arrived := (lining e m.lining).arrived } ∧
      (∀ k, k ≠ m.lining → lining e k = lining d k) ∧
      sequenced m d = applyWaiting m.lining (lining d m.lining).waiting.length (applyMsg m.lining m e) := by
  refine ⟨setLining m.lining { withWaiting m d.tbs.ns (lining d m.lining) with waiting := (lining d m.lining).waiting }
    (setLining m.lining (withWaiting m d.tbs.ns (lining d m.lining)) d), rfl, rising_put (rising_put h), ?_, fun k hk => ?_, ?_⟩
  · rw [lining_set _ (rising_put h), if_pos rfl]; rfl
  · rw [lining_set _ (rising_put h), if_neg hk, lining_set _ h, if_neg hk]
  unfold sequenced
  dsimp only
  rw [if_pos (by simp [ho]; omega)]
  have e1 : updLining m.lining (withWaiting m d.tbs.ns) d = setLining m.lining (withWaiting m d.tbs.ns (lining d m.lining)) d := rfl
  show drainWaiting m.lining (updLining m.lining (withWaiting m d.tbs.ns) d) = _
  rw [e1]
  have e2 : (withWaiting m d.tbs.ns (lining d m.lining)).waiting = (m.mseq, m) :: (lining d m.lining).waiting := head_waits _ _ _ hw
  have e3 : lining (setLining m.lining (withWaiting m d.tbs.ns (lining d m.lining)) d) m.lining = withWaiting m d.tbs.ns (lining d m.lining) := by
    rw [lining_set _ h, if_pos rfl]
  unfold drainWaiting
  rw [e3, e2]
  simp only [List.length_cons, applyWaiting]
  rw [e3, e2]
  dsimp only
  have e4 : linOpen (setLining m.lining (withWaiting m d.tbs.ns (lining d m.lining)) d) m.lining = true := ho
  have e5 : objGet (setLining m.lining (withWaiting m d.tbs.ns (lining d m.lining)) d) 0x4005 m.lining = objGet d 0x4005 m.lining := rfl
  rw [if_pos (by simp [e4, e5, hk])]
@[simp] theorem writeEvent_objs (fn : Nat) (ty : Nat) (kind : Nat) (code : Nat) (subject : Nat) (detail : Nat) (d : Dev) : (writeEvent fn ty kind code subject detail d).objs = d.objs :=
  ((writeEvent_keeps (m := 2064) rfl (.refl d)).only .objs rfl).symm
@[simp] theorem releaseUse_objs (p : Use → Bool) (d : Dev) : (releaseUse p d).objs = d.objs :=
  ((releaseUse_keeps (m := 3221225472) rfl (.refl d)).only .objs rfl).symm
theorem postEvent_obj (fn a b c e f : Nat) (d : Dev) (h : Rising d.objs) (hf : fn = pfFn ∨ fn < 256) (i u : Nat) (hi : i ≠ 0x5121) (hu : u < 256) :
    objGet (postEvent fn a b c e f d) i u = objGet d i u ∧ Rising (postEvent fn a b c e f d).objs := by
  have k : ∀ x : Dev, x.objs = d.objs → objGet x i u = objGet d i u ∧ Rising x.objs := by
    intro x hx; refine ⟨?_, by rw [hx]; exact h⟩; unfold objGet; rw [hx]
  unfold postEvent
  dsimp only
  split
  · refine k _ ?_
    by_cases hz : (fnQ d fn).lostSince = 0 <;> simp [hz, setFnQ]
  · split
    · exact k _ (by simp [setFnQ])
    · next hn =>
      have hf2 : fn < 256 := hf.resolve_left hn
      refine ⟨?_, objCount_rising _ (by simpa [setFnQ] using h) _ _ _ _⟩
      rw [objCount_get_ne _ (by simpa [setFnQ] using h) _ _ _ _ _ _ (by unfold objKey; omega)]
      unfold objGet; simp [setFnQ]
theorem objReset_get (d : Dev) (h : Rising d.objs) (i u j w : Nat) : objGet (objReset i u d) j w =
    if objKey j w = objKey i u then objDefault j w else objGet d j w := by
  unfold objReset objGet
  simp only [tabFind_erase _ _ _ h]
  split <;> simp_all
theorem objResets_get (l i : Nat) : ∀ (ks : List Nat) (d : Dev), Rising d.objs → Rising (forEach ks (fun i d => objReset i l d) d).objs ∧
    (objGet (forEach ks (fun i d => objReset i l d) d) i l = if i ∈ ks then objDefault i l else objGet d i l) ∧
    (forEach ks (fun i d => objReset i l d) d).linings = d.linings ∧ (forEach ks (fun i d => objReset i l d) d).streams = d.streams := by
  intro ks
  induction ks with
  | nil => intro d h; exact ⟨h, by simp [forEach], rfl, rfl⟩
  | cons a t ih =>
    intro d h
    have hr : Rising (objReset a l d).objs := rising_erase h
    obtain ⟨r1, r2, r3, r4⟩ := ih (objReset a l d) hr
    refine ⟨r1, ?_, r3, r4⟩
    refine r2.trans ?_
    rw [objReset_get d h]
    by_cases e : i = a
    · subst e; simp
    · have : ¬ objKey i l = objKey a l := by unfold objKey; omega
      rw [if_neg this]; simp [e]
theorem freeLining_does (l : Nat) (d : Dev) (h : Sound d) (hk : l < 256) : lining (freeLining l d) l = {} ∧
    linState (freeLining l d) l = objDefault 0x4000 l ∧ stream (freeLining l d) (liningSid l) = {} := by
  unfold freeLining
  dsimp only
  generalize e2 : setStream (liningSid l) {} (setLining l {} { releaseUse (fun u => u.lining? == some l) d with
        linPrm := tabFilter (fun k => k / 65536 != l) (releaseUse (fun u => u.lining? == some l) d).linPrm }) = d2
  have h2 : Rising d2.objs := by
    rw [← e2]
    show Rising (releaseUse (fun u => u.lining? == some l) d).objs
    rw [releaseUse_objs]; exact h.objs.1
  have s2 : lining d2 l = {} ∧ stream d2 (liningSid l) = {} := by
    rw [← e2]
    constructor
    · refine (lining_set _ ?_ l l {}).trans (if_pos rfl)
      show Rising (releaseUse (fun u => u.lining? == some l) d).linings
      rw [releaseUse_linings]; exact h.tabs.linings
    · refine (tabGet_put (α := Stream) {} _ ?_ _ _ {}).trans (if_pos rfl)
      show Rising (releaseUse (fun u => u.lining? == some l) d).streams
      rw [releaseUse_streams]; exact h.tabs.streams
  generalize e3 : (if (decide (linStandby d l < 256) && decide (linState d l ≠ 4)) = true then setSess (linStandby d l) { sess d2 (linStandby d l) with window := none } d2 else d2) = d3
  have h3 : d3.objs = d2.objs ∧ d3.linings = d2.linings ∧ d3.streams = d2.streams := by
    rw [← e3]; split <;> exact ⟨rfl, rfl, rfl⟩
  obtain ⟨r1, r2, r3, r4⟩ := objResets_get l 0x4000 [0x4000, 0x4001, 0x4002, 0x4003, 0x4004, 0x4005, 0x4007, 0x4008] d3 (by rw [h3.1]; exact h2)
  generalize forEach [0x4000, 0x4001, 0x4002, 0x4003, 0x4004, 0x4005, 0x4007, 0x4008] (fun i d => objReset i l d) d3 = d4 at *
  have fin : ∀ z : Dev, z.linings = d4.linings → z.streams = d4.streams → objGet z 0x4000 l = objGet d4 0x4000 l →
      lining z l = {} ∧ linState z l = objDefault 0x4000 l ∧ stream z (liningSid l) = {} := by
    intro z z1 z2 z3
    refine ⟨?_, ?_, ?_⟩
    · rw [← s2.1]; unfold lining; rw [z1, r3, h3.2.1]
    · show objGet z 0x4000 l = _
      rw [z3, r2, if_pos (by decide)]
    · rw [← s2.2]; unfold stream; rw [z2, r4, h3.2.2]
  obtain ⟨p1, p2⟩ := postEvent_obj pfFn 5 1 0 l (linState d l) d4 r1 (.inl rfl) 0x4000 l (by decide) hk
  split
  · next ht =>
    obtain ⟨p3, _⟩ := postEvent_obj (linTenant d l) 5 1 0 l (linState d l) _ p2 (.inr ht) 0x4000 l (by decide) hk
    exact fin _ (by simp) (by simp) (p3.trans p1)
  · exact fin _ (by simp) (by simp) p1
theorem objSet_rising (d : Dev) (h : Rising d.objs) (i u v : Nat) : Rising (objSet i u v d).objs := by
  unfold objSet
  split
  · exact rising_erase h
  · exact rising_set h
/-- A message accepted in its turn is applied, and then what waits. -/
theorem receive_turn (k : Nat) (m : MirrorMsg) (y : Dev) (hy : Sound y) (h : mirrorOk y k m = true) (ho : linOpen y m.lining = true)
    (hk : m.mseq = objGet y 0x4005 m.lining + 1) (hw : ∀ e ∈ (lining y m.lining).waiting.head?, m.mseq < e.1) :
    ∃ e : Dev, Sound e ∧ e.objs = y.objs ∧ e.streams = y.streams ∧ e.tbs = y.tbs ∧ e.linPrm = y.linPrm ∧ m.lining < 256 ∧
      lining e m.lining = { lining y m.lining with arrived := (lining e m.lining).arrived } ∧
      receive k m (sequenced m) y = applyWaiting m.lining (lining y m.lining).waiting.length (applyMsg m.lining m e) := by
  rw [receive_ok h]
  obtain ⟨e, e1, e2, e3, _, e4⟩ := sequenced_turn m { y with pair := { y.pair with lastIn := m.counter } } hy.tabs.linings ho hk hw
  have hl : m.lining < 256 := by
    unfold linOpen at ho
    simp only [Bool.and_eq_true, decide_eq_true_eq] at ho
    exact ho.1
  refine ⟨e, ?_, by rw [e1], by rw [e1], by rw [e1], by rw [e1], hl, e3, e4⟩
  rw [e1]
  exact ⟨hy.regs, hy.objs, hy.mem, hy.pair, hy.ring, { hy.tabs with linings := e2 }⟩
theorem sendLinState_obj (l : Nat) (r : Bool) (more : List Nat) (d : Dev) (h : Rising d.objs) (i u : Nat) (hi : i ≠ 0x50D2) (hj : i ≠ 0x5084) (hu : u < 256) (hl : l < 256) :
    objGet (sendLinState l r more d) i u = objGet d i u := by
  unfold sendLinState
  dsimp only
  split
  · rw [sendMirror_obj _ _ (objCount_rising _ h _ _ _ _) _ _ hi hu, objCount_get_ne _ h _ _ _ _ _ _ (by unfold objKey; omega)]
  · rw [sendMirror_obj _ _ h _ _ hi hu]
theorem updLining_get (d : Dev) (h : Rising d.linings) (l : Nat) (f : Lining → Lining) : lining (updLining l f d) l = f (lining d l) :=
  (lining_set d h l l _).trans (if_pos rfl)
theorem updLining_rising (d : Dev) (h : Rising d.linings) (l : Nat) (f : Lining → Lining) : Rising (updLining l f d).linings := rising_put h
theorem lining_congr {d e : Dev} (h : d.linings = e.linings) (l : Nat) : lining d l = lining e l := by unfold lining; rw [h]
theorem objGet_congr {d e : Dev} (h : d.objs = e.objs) (i u : Nat) : objGet d i u = objGet e i u := by unfold objGet; rw [h]
@[simp] theorem updLining_objs (l : Nat) (f : Lining → Lining) (d : Dev) : (updLining l f d).objs = d.objs :=
  ((updLining_keeps (m := 1099511627776) rfl (.refl d)).only .objs rfl).symm
theorem postLining_obj (l k v : Nat) (d : Dev) (h : Rising d.objs) (i u : Nat) (hi : i ≠ 0x5121) (hu : u < 256) :
    objGet (postLining l k v d) i u = objGet d i u ∧ Rising (postLining l k v d).objs := by
  unfold postLining
  dsimp only
  obtain ⟨p1, p2⟩ := postEvent_obj pfFn 5 k 0 l v d h (.inl rfl) i u hi hu
  split
  · next ht =>
    simp only [Bool.and_eq_true, decide_eq_true_eq] at ht
    obtain ⟨p3, p4⟩ := postEvent_obj (linTenant d l) 5 k 0 l v _ p2 (.inr ht.2) i u hi hu
    exact ⟨p3.trans p1, p4⟩
  · exact ⟨p1, p2⟩
/-- What a change of state leaves among the objects of the lining. -/
theorem degradeLining_obj (l c : Nat) (d : Dev) (h : Rising d.objs) (hl : l < 256) :
    linState (degradeLining l c d) l = (if linState d l = 2 then 3 else linState d l) ∧
    ∀ i, i ≠ 0x4000 → i ≠ 0x4007 → i ≠ 0x5121 → i ≠ 0x50D2 → i ≠ 0x5084 → objGet (degradeLining l c d) i l = objGet d i l := by
  unfold degradeLining
  split
  · next hs =>
    have o : Rising (objSet 0x4000 l 3 d).objs := objSet_rising _ h _ _ _
    have o1 : Rising (objSet 0x4007 l c (objSet 0x4000 l 3 d)).objs := objSet_rising _ o _ _ _
    have k : ∀ i, i ≠ 0x5121 → i ≠ 0x50D2 → i ≠ 0x5084 → i ≠ 0x4007 → objGet (sendLinState l true [] (linChange l 3 c d)) i l = objGet (objSet 0x4000 l 3 d) i l := by
      intro i h1 h2 h3 h4
      unfold linChange
      dsimp only
      obtain ⟨p1, p2⟩ := postLining_obj l 1 (linState d l + 3 * 2 ^ 8 + c * 2 ^ 16) _ o1 i l h1 hl
      rw [sendLinState_obj _ _ _ _ p2 _ _ h2 h3 hl hl, p1, objGet_set_ne _ o _ _ _ _ _ (by unfold objKey; omega)]
    refine ⟨?_, fun i h1 h2 h3 h4 h5 => ?_⟩
    · exact (k 0x4000 (by decide) (by decide) (by decide) (by decide)).trans (objGet_set_self _ h _ _ _)
    · rw [k i h3 h4 h5 h2, objGet_set_ne _ h _ _ _ _ _ (by unfold objKey; omega)]
  · exact ⟨rfl, fun _ _ _ _ _ _ => rfl⟩
/-- What SESSION_OPEN leaves of the lining. -/
theorem applyOpen_does (l : Nat) (m : MirrorMsg) (d : Dev) (h : Sound d) (hl : l < 256) :
    (lining (applyOpen l m d) l).opened = true ∧ (lining (applyOpen l m d) l).dests = m.dests ∧ (lining (applyOpen l m d) l).keys = m.keys ∧
    (lining (applyOpen l m d) l).waiting = (lining d l).waiting ∧ objGet (applyOpen l m d) 0x4005 l = objGet d 0x4005 l := by
  unfold applyOpen
  dsimp only
  generalize e1 : applyObjs l m.objs { d with linPrm := tabFilter (fun k => k / 65536 != l) d.linPrm } = d1
  have o1 : d1.objs = d.objs ∧ d1.linings = d.linings := by rw [← e1]; simp
  unfold applyState
  have r1 : Rising d1.linings := by rw [o1.2]; exact h.tabs.linings
  generalize e2 : updLining l (fun x => { x with opened := true, dests := m.dests, keys := m.keys }) _ = d2
  have o2 : d2.objs = d.objs := by rw [← e2]; simp [o1.1]
  have l2 : (lining d2 l).opened = true ∧ (lining d2 l).dests = m.dests ∧ (lining d2 l).keys = m.keys ∧ (lining d2 l).waiting = (lining d l).waiting := by
    rw [← e2, updLining_get _ (updLining_rising _ r1 _ _), updLining_get _ r1, lining_congr o1.2]
    exact ⟨rfl, rfl, rfl, rfl⟩
  have l3 : lining (sendLinState l (m.nums.getD 0 0 != 2) [] (holdLining l (placeStandby l d2))) l = lining d2 l := lining_congr (by simp) l
  rw [l3]
  refine ⟨l2.1, l2.2.1, l2.2.2.1, l2.2.2.2, ?_⟩
  have o3 : (holdLining l (placeStandby l d2)).objs = d.objs := by simp [o2]
  rw [sendLinState_obj _ _ _ _ (by rw [o3]; exact h.objs.1) _ _ (by decide) (by decide) hl hl]
  exact objGet_congr o3 _ _
/-- What SESSION_STATE leaves of the lining. -/
theorem applyChange_does (l : Nat) (m : MirrorMsg) (d : Dev) (h : Sound d) (hl : l < 256) :
    (lining (applyChange l m d) l).dests = mergeDests m.dests (lining d l).dests ∧ (lining (applyChange l m d) l).keys = mergeDests m.keys (lining d l).keys ∧
    (lining (applyChange l m d) l).state = m.nums.getD 0 (lining d l).state ∧ (lining (applyChange l m d) l).waiting = (lining d l).waiting ∧
    objGet (applyChange l m d) 0x4005 l = objGet d 0x4005 l := by
  unfold applyChange
  dsimp only
  generalize e1 : applyObjs l m.objs d = d1
  have o1 : d1.objs = d.objs ∧ d1.linings = d.linings := by rw [← e1]; simp
  have r1 : Rising d1.linings := by rw [o1.2]; exact h.tabs.linings
  unfold applyState
  generalize e2 : updLining l (fun x => { x with dests := mergeDests m.dests x.dests, keys := mergeDests m.keys x.keys }) _ = d2
  have l2 : (lining d2 l).dests = mergeDests m.dests (lining d l).dests ∧ (lining d2 l).keys = mergeDests m.keys (lining d l).keys ∧
      (lining d2 l).state = m.nums.getD 0 (lining d l).state ∧ (lining d2 l).waiting = (lining d l).waiting := by
    rw [← e2, updLining_get _ (updLining_rising _ r1 _ _), updLining_get _ r1, lining_congr o1.2]
    exact ⟨rfl, rfl, rfl, rfl⟩
  have o2 : d2.objs = d.objs := by rw [← e2]; simp [o1.1]
  have r2 : Rising d2.linings := by rw [← e2]; exact updLining_rising _ (updLining_rising _ r1 _ _) _ _
  generalize e3 : updLining l (fun x => { x with prio := linParams d2 l 0x301D }) d2 = d3
  have l3 : lining d3 l = { lining d2 l with prio := linParams d2 l 0x301D } := by rw [← e3, updLining_get _ r2]
  have o3 : d3.objs = d.objs := by rw [← e3]; simp [o2]
  have r3 : Rising d3.linings := by rw [← e3]; exact updLining_rising _ r2 _ _
  have key : ∀ z : Dev, (∃ c, lining z l = { lining d3 l with charges := c }) → objGet z 0x4005 l = objGet d 0x4005 l →
      (lining z l).dests = mergeDests m.dests (lining d l).dests ∧ (lining z l).keys = mergeDests m.keys (lining d l).keys ∧
      (lining z l).state = m.nums.getD 0 (lining d l).state ∧ (lining z l).waiting = (lining d l).waiting ∧
      objGet z 0x4005 l = objGet d 0x4005 l := by
    rintro z ⟨c, hz⟩ ho
    rw [hz, l3]
    exact ⟨l2.1, l2.2.1, l2.2.2.1, l2.2.2.2, ho⟩
  split
  · unfold recharge
    dsimp only
    split
    · refine key _ ⟨_, (lining_set _ r3 _ _ _).trans (if_pos rfl)⟩ (objGet_congr (by simpa [setLining] using o3) _ _)
    · refine key _ ⟨(lining d3 l).charges, ?_⟩ ?_
      · unfold postLining; dsimp only
        split <;> exact lining_congr (by simp) l
      · have ho : Rising (objSet 0x4004 l 0 d3).objs := objSet_rising _ (by rw [o3]; exact h.objs.1) _ _ _
        unfold postLining
        dsimp only
        have p0 : objGet (objSet 0x4004 l 0 d3) 0x4005 l = objGet d 0x4005 l := by
          rw [objGet_set_ne _ (by rw [o3]; exact h.objs.1) _ _ _ _ _ (by unfold objKey; omega)]; exact objGet_congr o3 _ _
        obtain ⟨p1, p2⟩ := postEvent_obj pfFn 5 2 0 l 0 _ ho (.inl rfl) 0x4005 l (by decide) hl
        split
        · next ht =>
          simp only [Bool.and_eq_true, decide_eq_true_eq] at ht
          exact (postEvent_obj _ _ _ _ _ _ _ p2 (.inr ht.2) _ _ (by decide) hl).1.trans (p1.trans p0)
        · exact p1.trans p0
  · exact key _ ⟨(lining d3 l).charges, rfl⟩ (objGet_congr o3 _ _)
/-- The mirror store of every session stays. -/
def SameKept (d e : Dev) : Prop := Rising d.sess → Rising e.sess ∧ ∀ u, (sess e u).kept = (sess d u).kept
theorem SameKept.refl (d : Dev) : SameKept d d := fun h => ⟨h, fun _ => rfl⟩
theorem SameKept.trans {a b c : Dev} (h : SameKept a b) (k : SameKept b c) : SameKept a c := fun r => by
  obtain ⟨r1, h1⟩ := h r
  obtain ⟨r2, h2⟩ := k r1
  exact ⟨r2, fun u => (h2 u).trans (h1 u)⟩
theorem SameKept.of {d e : Dev} (h : e.sess = d.sess) : SameKept d e := fun r => ⟨by rw [h]; exact r, fun u => by unfold sess; rw [h]⟩
theorem SameKept.set (d : Dev) (k : Nat) (v : Session) (h : v.kept = (sess d k).kept) : SameKept d (setSess k v d) := fun r => by
  refine ⟨rising_put r, fun u => ?_⟩
  rw [sess_set _ r]
  split
  · next hu => rw [hu]; exact h
  · rfl
theorem SameKept.each {α : Type} (f : α → Dev → Dev) (h : ∀ a d, SameKept d (f a d)) : ∀ (l : List α) (d : Dev), SameKept d (forEach l f d)
  | [], d => .refl d
  | a :: t, d => (h a d).trans (SameKept.each f h t (f a d))
theorem markSent_kept (k : Pkt) (d : Dev) : SameKept d (markSent k d) := by
  have u : ∀ f, SameKept d (updCopy k.s k.seq k.e f d) := fun f => .set d _ _ rfl
  unfold markSent
  split
  · exact (u _).trans (.set _ _ _ rfl)
  · split
    · exact u _
    · exact .refl d
theorem enterClass_kept (p c : Nat) (k : Pkt) (d : Dev) : SameKept d (enterClass p c k d) := by
  unfold enterClass discardQueues
  dsimp only
  split
  · exact .of (by simp [setClassQueue, setPort])
  · refine SameKept.trans (SameKept.trans ?_ (SameKept.each _ markSent_kept _ _)) (.of rfl)
    exact .of (by simp [objCount, setClassQueue, setPort])
theorem sendMirror_kept (m : MirrorMsg) (d : Dev) : SameKept d (sendMirror m d) := by
  have h : SameKept d (setPair { d.pair with counter := d.pair.counter + 1 } d) := .of rfl
  unfold sendMirror
  split
  · exact .refl d
  · dsimp only
    split
    · refine h.trans ?_
      unfold enterFirst; dsimp only
      split
      · exact enterClass_kept _ _ _ _
      · exact SameKept.trans (enterClass_kept _ _ _ _) (.of rfl)
    · exact h.trans (enterClass_kept _ _ _ _)
theorem sendEach_counter : ∀ (l : List Kept) (d : Dev), d.pair.keyed = true →
    (forEach l (fun k d => sendMirror k.msg d) d).pair.counter = d.pair.counter + l.length ∧
    (forEach l (fun k d => sendMirror k.msg d) d).pair.lastIn = d.pair.lastIn
  | [], d, _ => ⟨rfl, rfl⟩
  | a :: t, d, h => by
    have p := sendMirror_pair a.msg d
    obtain ⟨h1, h2⟩ := sendEach_counter t (sendMirror a.msg d) (p.2.1.trans h)
    refine ⟨h1.trans ?_, h2.trans p.2.2.2.2.1⟩
    rw [sendMirror_counter _ _ h, List.length_cons]; omega
/-- What the promotion of one lining leaves: it is promoted 200 us later, or IDLE. -/
theorem promote_one (l : Nat) (d : Dev) (h : Sound d) (hl : l < 256) :
    (l, d.tbs.ns + 200000) ∈ (promotionPass [l] d).pair.promoting ∨ linState (promotionPass [l] d) l = objDefault 0x4000 l := by
  have e : promotionPass [l] d = promoteOne l (d.tbs.ns + 200000) d := rfl
  rw [e]
  unfold promoteOne
  split
  · left
    unfold promoteAdmit
    dsimp only [setPair]
    exact List.mem_append_right _ (List.mem_singleton.2 rfl)
  · right
    unfold promoteRefused
    exact (freeLining_does l _ ((pulse_keeps (m := 4398046511103) rfl (.refl d)).sound h) hl).2.1

end Sys2Proof.Machine
end

