-- ==== Sys2Proof/Laws/FactsLinings.lean ====
section
/-! SUPPORT. What the shared operations do, said once for the statements LiningCommands. -/
set_option Elab.async false
set_option autoImplicit false
set_option linter.all false
open Sys2Proof Sys2Proof.Machine
namespace Sys2Proof.Machine

/-- A queue that a packet was added to. -/
theorem classQueue_add (p c : Nat) (l : List Pkt) (d : Dev) (hl : l ≠ []) : classQueue (setClassQueue p c l d) p c = l ∧
    port (setClassQueue p c l d) p = { port d p with queues := tabPut [] (port d p).queues c l } := by
  have e1 : tabPut [] (port d p).queues c l = tabSet (port d p).queues c l := by unfold tabPut; rw [if_neg hl]
  have hp : port (setClassQueue p c l d) p = { port d p with queues := tabPut [] (port d p).queues c l } := by
    refine tabGet_put_of _ _ _ _ ?_
    intro h
    have h2 := congrArg Port.queues h
    simp only [e1] at h2
    cases hq : (port d p).queues with
    | nil => rw [hq] at h2; simp [tabSet] at h2
    | cons a b =>
      rw [hq] at h2
      obtain ⟨j, w⟩ := a
      unfold tabSet at h2
      split at h2
      · simp at h2
      · split at h2 <;> simp at h2
  refine ⟨?_, hp⟩
  unfold classQueue
  rw [hp, e1]
  simp only [tabGet_set, if_true]
/-- A message leaves on the mirror class when the pair key is held and the port's link is up. -/
theorem sendMirror_queued (m : MirrorMsg) (d : Dev) (h : Sound d) (hk : d.pair.keyed = true) (hl : linkUp d (mirrorPort d) = true)
    (ht : m.ty ≠ 1) : Mirrored m (sendMirror m d) := by
  have g : ∀ i, i ≠ 0x50D2 → objGet (sendMirror m d) i 0 = objGet d i 0 := fun i hi => sendMirror_obj m d h.objs.1 i 0 hi (by decide)
  have hp : mirrorPort (sendMirror m d) = mirrorPort d := by unfold mirrorPort; rw [g _ (by decide)]
  unfold Mirrored
  rw [hp, g 0x1403 (by decide), g 0x1405 (by decide), sendMirror_counter _ _ hk]
  have e : ∃ k l, k.msg = some { m with version := 1, len := bodyBytes m, port := objGet d 0x1403 0, epoch := objGet d 0x1405 0, counter := d.pair.counter + 1 } ∧
      classQueue (sendMirror m d) (mirrorPort d) 3 = l ++ [k] := by
    unfold sendMirror
    rw [if_neg (by simp [hk])]
    dsimp only
    rw [if_neg ht]
    unfold enterClass
    dsimp only
    generalize mirrorFrame d { m with version := 1, len := bodyBytes m, port := objGet d 0x1403 0, epoch := objGet d 0x1405 0, counter := d.pair.counter + 1 } = n
    refine ⟨{ kind := 6, bytes := n, cost := n, body := [m.ty], msg := some { m with version := 1, len := bodyBytes m, port := objGet d 0x1403 0, epoch := objGet d 0x1405 0, counter := d.pair.counter + 1 }, entered := d.tbs.ns },
      classQueue d (mirrorPort d) 3, rfl, ?_⟩
    obtain ⟨c1, c2⟩ := classQueue_add (mirrorPort d) 3 (classQueue d (mirrorPort d) 3 ++ [{ kind := 6, bytes := n, cost := n, body := [m.ty], msg := some { m with version := 1, len := bodyBytes m, port := objGet d 0x1403 0, epoch := objGet d 0x1405 0, counter := d.pair.counter + 1 }, entered := d.tbs.ns }])
      (setPair { d.pair with counter := d.pair.counter + 1 } d) (by simp)
    have u : ∀ z : Dev, z.pke = (setClassQueue (mirrorPort d) 3 (classQueue d (mirrorPort d) 3 ++ [{ kind := 6, bytes := n, cost := n, body := [m.ty], msg := some { m with version := 1, len := bodyBytes m, port := objGet d 0x1403 0, epoch := objGet d 0x1405 0, counter := d.pair.counter + 1 }, entered := d.tbs.ns }])
        (setPair { d.pair with counter := d.pair.counter + 1 } d)).pke → classQueue (discardQueues (mirrorPort d) z) (mirrorPort d) 3 =
          classQueue d (mirrorPort d) 3 ++ [{ kind := 6, bytes := n, cost := n, body := [m.ty], msg := some { m with version := 1, len := bodyBytes m, port := objGet d 0x1403 0, epoch := objGet d 0x1405 0, counter := d.pair.counter + 1 }, entered := d.tbs.ns }] := by
      intro z hz
      have hlz : linkUp z (mirrorPort d) = true := by
        unfold linkUp port; rw [hz]
        have := congrArg Port.link c2
        unfold port at this
        rw [this]
        exact hl
      unfold discardQueues
      rw [if_pos hlz]
      unfold classQueue port
      rw [hz]
      exact c1
    exact u _ (by unfold regSet; split <;> rfl)
  obtain ⟨k, l, h1, h2⟩ := e
  exact ⟨k, by rw [h2]; exact List.mem_append_right _ (List.mem_singleton.2 rfl), h1⟩
theorem mirrored_congr {m : MirrorMsg} {d e : Dev} (h : Mirrored m d) (h1 : e.pke = d.pke) (h2 : e.pair = d.pair) (h3 : e.objs = d.objs) : Mirrored m e := by
  unfold Mirrored mirrorPort classQueue port at *
  rw [h1, h2, objGet_congr h3, objGet_congr h3, objGet_congr h3]
  exact h
@[simp] theorem grantLining_pair (m : MirrorMsg) (a : LinAsk) (l : Nat) (s : Nat) (d : Dev) : (grantLining m a l s d).pair = d.pair :=
  ((grantLining_keeps (m := 1099511634196) rfl (.refl d)).only .pair rfl).symm
@[simp] theorem grantLining_pke (m : MirrorMsg) (a : LinAsk) (l : Nat) (s : Nat) (d : Dev) : (grantLining m a l s d).pke = d.pke :=
  ((grantLining_keeps (m := 1099511634196) rfl (.refl d)).only .pke rfl).symm
@[simp] theorem linChange_linings (l : Nat) (new : Nat) (cause : Nat) (d : Dev) : (linChange l new cause d).linings = d.linings :=
  ((linChange_keeps (m := 6420) rfl (.refl d)).only .linings rfl).symm
@[simp] theorem objReset_linings (idx : Nat) (sub : Nat) (d : Dev) : (objReset idx sub d).linings = d.linings :=
  ((objReset_keeps (m := 4) rfl (.refl d)).only .linings rfl).symm
@[simp] theorem sendMirror_linings (m : MirrorMsg) (d : Dev) : (sendMirror m d).linings = d.linings :=
  ((sendMirror_keeps (m := 275079233541) rfl (.refl d)).only .linings rfl).symm
@[simp] theorem sendMirror_emitted (m : MirrorMsg) (d : Dev) : (sendMirror m d).emitted = d.emitted :=
  ((sendMirror_keeps (m := 275079233541) rfl (.refl d)).only .emitted rfl).symm
@[simp] theorem restartLining_linings (l : Nat) (d : Dev) : (restartLining l d).linings = d.linings :=
  ((restartLining_keeps (m := 4) rfl (.refl d)).only .linings rfl).symm
@[simp] theorem linChange_pke (l : Nat) (new : Nat) (cause : Nat) (d : Dev) : (linChange l new cause d).pke = d.pke :=
  ((linChange_keeps (m := 6420) rfl (.refl d)).only .pke rfl).symm
theorem linChange_obj (l n c : Nat) (d : Dev) (h : Rising d.objs) (hl : l < 256) : linState (linChange l n c d) l = n ∧
    Rising (linChange l n c d).objs ∧ ∀ i, i ≠ 0x4000 → i ≠ 0x4007 → i ≠ 0x5121 → objGet (linChange l n c d) i l = objGet d i l := by
  unfold linChange
  dsimp only
  have o : Rising (objSet 0x4000 l n d).objs := objSet_rising _ h _ _ _
  have o1 : Rising (objSet 0x4007 l c (objSet 0x4000 l n d)).objs := objSet_rising _ o _ _ _
  refine ⟨?_, (postLining_obj _ _ _ _ o1 0 0 (by decide) (by decide)).2, fun i h1 h2 h3 => ?_⟩
  · refine ((postLining_obj _ _ _ _ o1 0x4000 l (by decide) hl).1).trans ?_
    rw [objGet_set_ne _ o _ _ _ _ _ (by unfold objKey; omega), objGet_set_self _ h]
  · rw [(postLining_obj _ _ _ _ o1 i l h3 hl).1, objGet_set_ne _ o _ _ _ _ _ (by unfold objKey; omega), objGet_set_ne _ h _ _ _ _ _ (by unfold objKey; omega)]
/-- What a granted request leaves of the lining. -/
theorem grantLining_does (m : MirrorMsg) (a : LinAsk) (l s : Nat) (d : Dev) (h : Sound d) (hl : l < 256) :
    linState (grantLining m a l s d) l = 1 ∧ lining (grantLining m a l s d) l = { prio := a.prio, charges := askedCharges d a } ∧
    objGet (grantLining m a l s d) 0x4001 l = m.session ∧ objGet (grantLining m a l s d) 0x4002 l = a.t ∧
    objGet (grantLining m a l s d) 0x4003 l = s ∧ objGet (grantLining m a l s d) 0x4004 l = b2n (decide (a.prio < objNow d 0x1441 0)) ∧
    Rising (grantLining m a l s d).objs := by
  unfold grantLining
  dsimp only
  have r0 : Rising (restartLining l d).linings ∧ Rising (restartLining l d).objs := by
    have := ((restartLining_keeps (m := 4398046511103) (l := l) rfl (.refl d)).sound h)
    exact ⟨this.tabs.linings, this.objs.1⟩
  generalize e1 : setLining l { prio := a.prio, charges := askedCharges d a } (restartLining l d) = d1
  have l1 : lining d1 l = { prio := a.prio, charges := askedCharges d a } := by rw [← e1]; exact (lining_set _ r0.1 _ _ _).trans (if_pos rfl)
  have o1 : Rising d1.objs := by rw [← e1]; exact r0.2
  have o2 : Rising (objSet 0x4004 l (b2n (decide (a.prio < objNow d 0x1441 0))) d1).objs := objSet_rising _ o1 _ _ _
  have o3 : Rising (objSet 0x4003 l s (objSet 0x4004 l (b2n (decide (a.prio < objNow d 0x1441 0))) d1)).objs := objSet_rising _ o2 _ _ _
  have o4 : Rising (objSet 0x4002 l a.t (objSet 0x4003 l s (objSet 0x4004 l (b2n (decide (a.prio < objNow d 0x1441 0))) d1))).objs := objSet_rising _ o3 _ _ _
  have o5 : Rising (objSet 0x4001 l m.session (objSet 0x4002 l a.t (objSet 0x4003 l s (objSet 0x4004 l (b2n (decide (a.prio < objNow d 0x1441 0))) d1)))).objs :=
    objSet_rising _ o4 _ _ _
  obtain ⟨c1, c2, c3⟩ := linChange_obj l 1 0 _ o5 hl
  refine ⟨c1, ?_, ?_, ?_, ?_, ?_, c2⟩
  · rw [← l1]; exact lining_congr (by simp) l
  · rw [c3 _ (by decide) (by decide) (by decide), objGet_set_self _ o4]
  · rw [c3 _ (by decide) (by decide) (by decide), objGet_set_ne _ o4 _ _ _ _ _ (by unfold objKey; omega), objGet_set_self _ o3]
  · rw [c3 _ (by decide) (by decide) (by decide), objGet_set_ne _ o4 _ _ _ _ _ (by unfold objKey; omega), objGet_set_ne _ o3 _ _ _ _ _ (by unfold objKey; omega),
      objGet_set_self _ o2]
  · rw [c3 _ (by decide) (by decide) (by decide), objGet_set_ne _ o4 _ _ _ _ _ (by unfold objKey; omega), objGet_set_ne _ o3 _ _ _ _ _ (by unfold objKey; omega),
      objGet_set_ne _ o2 _ _ _ _ _ (by unfold objKey; omega), objGet_set_self _ o1]
theorem mirrorOk_keyed {d : Dev} {k : Nat} {m : MirrorMsg} (h : mirrorOk d k m = true) : d.pair.keyed = true := by
  unfold mirrorOk at h
  simp only [Bool.and_eq_true] at h
  exact h.1.1.1.1.2

end Sys2Proof.Machine
end

