-- ==== Sys2Proof/WellFormed.lean ====
section
/-! DEFINITION. What a well-formed command is: each operand that numbers a unit lies in the range the spec gives that unit,
and each payload is as long as it says. -/
namespace Sys2Proof

/-- A caller that exists: four links, 256 tenant slots, 32 nodes (R2, R36, R415). -/
def Caller.wf : Caller → Bool
  | .pf l => decide (l < 4)
  | .vf t _ => decide (t < 256)
  | .node n => decide (n < 32)
  | .firmware => true

/-- A request: its caller exists, its TAG has 32 bits, its context and counter fit their fields (R404). -/
def Req.wf (q : Req) : Bool :=
  q.who.wf && decide (q.tag < 2 ^ 32) &&
    match q.crit with
    | none => true
    | some c => decide (c.ctx < 2 ^ 16) && decide (c.counter < 2 ^ 64)

/-- A payload: its value has the bytes it says (R398). -/
def Payload.wf (v : Payload) : Bool := decide (v.val < 256 ^ v.len)

/-- A received frame: its bytes are those it says. -/
def RxFrame.wf (f : RxFrame) : Bool := decide (f.data < 256 ^ f.len)

/-- A FIFO's home: its unit exists (R391). -/
def FifoHome.wf : FifoHome → Bool
  | .tile t => decide (t < 96)
  | .channel c => decide (c < 64)
  | .queue fn _ => decide (fn ≤ 256)
  | .other src => decide (src < 139)

/-- A well-formed command. -/
def Instr.wf : Instr → Bool
  | .stitchBoundary => true
  | .gateEntryExpiry port _ => decide (port < 8)
  | .frameCredit slot => decide (slot < 256)
  | .stitchOverrun tile _ => decide (tile < 96)
  | .tileHang tile _ => decide (tile < 96)
  | .partCoded tile _ _ => decide (tile < 96)
  | .closingGrant _ => true
  | .completionPost tile _ => decide (tile < 96)
  | .completionCollect _ => true
  | .assignCurrent tile _ _ => decide (tile < 96)
  | .assignNext tile _ => decide (tile < 96)
  | .withdrawNext tile _ => decide (tile < 96)
  | .closeGrant tile _ _ => decide (tile < 96)
  | .boot tile _ _ _ _ => decide (tile < 96)
  | .containmentReset tile _ => decide (tile < 96)
  | .loadStallEnd tile _ _ => decide (tile < 96)
  | .contextCommit tile _ => decide (tile < 96)
  | .tileRetire tile _ _ => decide (tile < 96)
  | .retirementMapRetry _ _ => true
  | .apertureWrite tenant _ _ _ _ _ => decide (tenant < 256)
  | .apertureRead tenant _ _ _ => decide (tenant < 256)
  | .bandDoorbell tenant _ _ _ => decide (tenant < 256)
  | .watermarkFlagClear who slot _ => who.wf && decide (slot < 256)
  | .holdAssertClear who _ => who.wf
  | .bandSubstitution slot _ => decide (slot < 256)
  | .drainAbandon slot _ => decide (slot < 256)
  | .drainComplete slot _ => decide (slot < 256)
  | .define q slot => q.wf && decide (slot < 256)
  | .release q slot => q.wf && decide (slot < 256)
  | .arm q slot => q.wf && decide (slot < 256)
  | .armPartnerTimeout slot _ => decide (slot < 256)
  | .disarm q slot => q.wf && decide (slot < 256)
  | .start q slot => q.wf && decide (slot < 256)
  | .pause q slot => q.wf && decide (slot < 256)
  | .resume q slot => q.wf && decide (slot < 256)
  | .drain q slot => q.wf && decide (slot < 256)
  | .operatorDrain q slot _ => q.wf && decide (slot < 256)
  | .tenantBind q tenant _ => q.wf && decide (tenant < 256)
  | .functionLevelReset tenant _ => decide (tenant < 256)
  | .vfEnableSet link _ _ => decide (link < 4)
  | .vfEnableClear link _ => decide (link < 4)
  | .pfFlr link _ => decide (link < 4)
  | .pcieLinkReset link _ _ => decide (link < 4)
  | .pcieLinkUp link _ _ _ => decide (link < 4)
  | .mailboxGo who _ => who.wf
  | .read q _ _ _ => q.wf
  | .write q _ _ v => q.wf && v.wf
  | .describe q _ _ => q.wf
  | .refreshRequest q slot _ => q.wf && decide (slot < 256)
  | .freezeRequest q slot v => q.wf && decide (slot < 256) && v.wf
  | .registerSegment q tenant v => q.wf && decide (tenant < 256) && v.wf
  | .delete q tenant v => q.wf && decide (tenant < 256) && v.wf
  | .exportToEthernet q tenant v => q.wf && decide (tenant < 256) && v.wf
  | .segmentVerified tenant entry _ _ => decide (tenant < 256) && decide (entry < 64)
  | .spliceRequest q slot _ => q.wf && decide (slot < 256)
  | .spliceReturn q slot _ => q.wf && decide (slot < 256)
  | .blockAllocate q _ v => q.wf && v.wf
  | .blockFree q _ v => q.wf && v.wf
  | .destinationWrite q slot dest v => q.wf && decide (slot < 256) && decide (dest < 64) && v.wf
  | .shaperWrite q slot dest v => q.wf && decide (slot < 256) && decide (dest < 64) && v.wf
  | .streamKeyWrite q slot dest v _ => q.wf && decide (slot < 256) && decide (dest < 64) && v.wf
  | .previousKeyExpiry slot dest _ => decide (slot < 256) && decide (dest < 64)
  | .segmentKeyWrite q tenant _ v _ => q.wf && decide (tenant < 256) && v.wf
  | .portModeWrite q _ => q.wf
  | .linkTrainTimeout port _ => decide (port < 8)
  | .ethernetLinkChange port _ _ => decide (port < 8)
  | .macSend port _ => decide (port < 8)
  | .retransmissionExpiry slot _ => decide (slot < 256)
  | .senderReport slot _ => decide (slot < 256)
  | .frameReceived port f _ => decide (port < 8) && f.wf
  | .learningDecision _ => true
  | .nack slot dest _ _ => decide (slot < 256) && decide (dest < 64)
  | .pictureLossIndication slot dest _ => decide (slot < 256) && decide (dest < 64)
  | .congestionFeedback slot dest _ _ => decide (slot < 256) && decide (dest < 64)
  | .transportWideFeedback slot dest _ _ => decide (slot < 256) && decide (dest < 64)
  | .receiverReport slot dest _ => decide (slot < 256) && decide (dest < 64)
  | .feedbackTimeout slot dest _ => decide (slot < 256) && decide (dest < 64)
  | .agingVisit pipeline _ => decide (pipeline < 2)
  | .comparerCheck _ => true
  | .flowInsert q v => q.wf && v.wf
  | .flowRemove q v => q.wf && v.wf
  | .ptpEventReceived port _ => decide (port < 8)
  | .ptpSync _ _ => true
  | .announce _ _ _ _ => true
  | .syncTimeout _ => true
  | .ppsInEdge _ => true
  | .ppsOut _ => true
  | .timeSet q v => q.wf && v.wf
  | .tbsStep who _ _ => who.wf
  | .ptpTsTagRead who => who.wf
  | .tsFlush who => who.wf
  | .pairEnable q _ => q.wf
  | .handshakeTimeout _ => true
  | .refusedRetry _ => true
  | .heartbeat _ _ => true
  | .hello _ _ => true
  | .liningRequest _ _ => true
  | .liningAnswer _ _ => true
  | .sessionOpen _ _ => true
  | .band _ _ => true
  | .sessionState _ _ => true
  | .sessionClose _ _ => true
  | .mirrorNack _ _ => true
  | .liningState _ _ => true
  | .handoverOffer _ _ => true
  | .handoverAnswer _ _ => true
  | .handoverQueueLimit _ => true
  | .handover _ _ => true
  | .taken _ _ => true
  | .mirrorHoldExpiry lining _ => decide (lining < 256)
  | .heartbeatLimit _ => true
  | .probeAnswer _ _ => true
  | .probeTimeout _ => true
  | .probeRepeat _ => true
  | .promoteLinings q _ => q.wf
  | .addressAnnounce _ => true
  | .handOverSession q _ => q.wf
  | .liningRequestRetry slot _ => decide (slot < 256)
  | .liningReanchor q lining => q.wf && decide (lining < 256)
  | .liningRelease q lining => q.wf && decide (lining < 256)
  | .tileRelease q tile => q.wf && decide (tile < 96)
  | .tileRetireCommand q tile _ => q.wf && decide (tile < 96)
  | .sessionsTakenWrite q v => q.wf && v.wf
  | .drawstringToken _ _ _ => true
  | .tokenRegenerate _ => true
  | .hopLock _ => true
  | .closeSend _ => true
  | .close _ _ => true
  | .enum _ _ _ _ => true
  | .enumTimeout _ => true
  | .table _ _ => true
  | .closureLimit _ => true
  | .wake _ _ => true
  | .frameRetry _ _ => true
  | .requestTimeout _ => true
  | .reenum who _ => who.wf
  | .dsrCntClr who => who.wf
  | .trnWritePattern who chan _ _ => who.wf && decide (chan < 16)
  | .trnReadCompare who chan _ _ => who.wf && decide (chan < 16)
  | .trnWriteReadCompare who chan _ _ => who.wf && decide (chan < 16)
  | .trnCaLoopback who chan _ _ => who.wf && decide (chan < 16)
  | .helperOpDone chan _ _ _ _ _ _ => decide (chan < 16)
  | .trnFinish who chan _ _ => who.wf && decide (chan < 16)
  | .trainingTimeout chan _ => decide (chan < 16)
  | .dramRefresh chan rank _ _ => decide (chan < 16) && decide (rank < 8)
  | .modeRegisterPoll chan rank _ _ => decide (chan < 16) && decide (rank < 8)
  | .selfRefreshRequest chan _ => decide (chan < 16)
  | .selfRefreshStage chan _ _ => decide (chan < 16)
  | .dramRequestInSelfRefresh chan _ => decide (chan < 16)
  | .padRelease who chan _ _ => who.wf && decide (chan < 16)
  | .channelFreeze chan _ _ => decide (chan < 16)
  | .alertReplay chan _ => decide (chan < 16)
  | .channelResume chan _ _ => decide (chan < 16)
  | .channelRetrain chan _ => decide (chan < 16)
  | .channelOff chan _ => decide (chan < 16)
  | .dmcCorrClr who chan => who.wf && decide (chan < 16)
  | .fillFrameDone chan _ => decide (chan < 16)
  | .scrubRead chan _ _ _ => decide (chan < 16)
  | .resilverComplete pair _ => decide (pair < 8)
  | .flipArm who _ _ _ => who.wf
  | .wrdLapHwmClr who => who.wf
  | .sramCorrClr who => who.wf
  | .sqTailWrite who _ _ => who.wf
  | .cqHeadWrite who _ _ => who.wf
  | .eqHeadWrite who _ => who.wf
  | .queueObjectWrite q _ _ v => q.wf && v.wf
  | .descriptorFetch _ _ chan _ _ _ => decide (chan < 64)
  | .copyIn chan _ _ => decide (chan < 64)
  | .copyOut chan _ _ => decide (chan < 64)
  | .intake chan _ _ => decide (chan < 64)
  | .exportEntry chan _ _ => decide (chan < 64)
  | .decodeFeed chan _ _ => decide (chan < 64)
  | .segmentUpload chan _ _ _ => decide (chan < 64)
  | .fill chan _ => decide (chan < 64)
  | .transmit chan _ _ => decide (chan < 64)
  | .receiveBuffer chan _ => decide (chan < 64)
  | .descriptorComplete chan _ _ => decide (chan < 64)
  | .channelDisable who chan _ _ => who.wf && decide (chan < 64)
  | .dmaCorrClr who => who.wf
  | .eqResetClear who => who.wf
  | .atsInvalidation link _ => decide (link < 4)
  | .fifoWordCorrected home _ _ => home.wf
  | .fifoWordUncorrectable home _ _ => home.wf
  | .irqDoorbell who _ _ => who.wf
  | .interruptDelivery _ => true
  | .msixHoldoffExpiry _ _ _ => true
  | .msixUnmask _ _ _ => true
  | .idleHintArm who _ _ => who.wf
  | .malformedRegisterAccess who _ _ => who.wf
  | .strayAccess who _ _ => who.wf
  | .registerWrite who _ _ _ => who.wf
  | .paritySweep _ _ => true
  | .mbxCntClr who => who.wf
  | .carryHwmClr who => who.wf
  | .slvCorrClr who => who.wf
  | .pkeHwmClr who => who.wf
  | .igrLapHwmClr who => who.wf
  | .tileCntClr who tile => who.wf && decide (tile < 96)
  | .secEventCntClr who => who.wf
  | .getVersion link _ => decide (link < 4)
  | .getCapabilities link _ => decide (link < 4)
  | .negotiateAlgorithms link _ => decide (link < 4)
  | .getDigests link _ => decide (link < 4)
  | .getCertificate link _ => decide (link < 4)
  | .challenge link _ => decide (link < 4)
  | .getMeasurements link _ => decide (link < 4)
  | .keyExchange link _ => decide (link < 4)
  | .finish _ _ _ => true
  | .spdmHeartbeat _ _ _ => true
  | .keyUpdate _ _ _ => true
  | .endSession _ _ _ => true
  | .spdmSessionTimeout _ _ => true
  | .installTenant _ _ _ _ => true
  | .installOperator _ _ _ _ => true
  | .ideKm _ _ _ _ _ _ => true
  | .ideIntegrityFailure link _ _ => decide (link < 4)
  | .lockInterfaceRequest _ _ _ _ _ => true
  | .startInterfaceRequest _ _ _ _ => true
  | .stopInterfaceRequest _ _ _ _ => true
  | .rngHealthFailure _ => true
  | .tenantKeyErase q tenant _ => q.wf && decide (tenant < 256)
  | .operatorKeyErase q _ => q.wf
  | .debugUnlock q _ => q.wf
  | .faultReportAccept _ _ => true
  | .logRecordWrite _ => true
  | .wireFault _ _ _ => true
  | .disagreementSpell _ => true
  | .collectorIntegrity _ _ => true
  | .selfTestComplete _ _ => true
  | .forceReport who _ _ => who.wf
  | .logSel who _ _ _ => who.wf
  | .logTail who _ => who.wf
  | .standingClear who _ _ => who.wf
  | .firstClr who => who.wf
  | .worstClr who => who.wf
  | .lostClr who => who.wf
  | .fltCntClr who => who.wf
  | .packageStateRequest q _ => q.wf
  | .packageTransitionComplete _ => true
  | .transitionOvertime _ => true
  | .domainPowerGood domain _ => decide (domain < 128)
  | .domainOff domain _ => decide (domain < 128)
  | .powerGoodTimeout domain _ => decide (domain < 128)
  | .tileIdleOff tile _ => decide (tile < 96)
  | .pwrPadRelease who domain _ _ => who.wf && decide (domain < 128)
  | .wakeNLow _ => true
  | .pcieWake port _ => decide (port < 8)
  | .ethernetWakePattern port _ => decide (port < 8)
  | .powerSample _ _ _ => true
  | .powerCapExceeded _ => true
  | .sensorSample _ _ => true
  | .referenceLoss _ _ => true
  | .sleepEntryEdge _ => true
  | .sleepCountEdge => true
  | .wakeEdge => true
  | .porNRise _ => true
  | .porNFall => true
  | .aonBrownOut => true
  | .warmResetRequest q => q.wf
  | .coldResetRequest q => q.wf
  | .firmwareBoot _ _ _ _ _ _ => true
  | .startupEnable _ => true
  | .handoverOfferTimeout _ => true
  | .mirrorStoreExpiry slot _ => decide (slot < 256)
  | .referenceReturn _ _ => true
  | .aonSupplyReturn _ => true
  | .disagreementEnd _ => true
  | .memorySpaceEnableWrite link _ _ _ => decide (link < 4)
  | .vfResizableBarWrite link _ => decide (link < 4)
  | .ptpLockTimeout _ => true
  | .drawstringFrameError => true
  | .pairShareResponse _ _ _ _ _ _ _ => true
  | .onchipMemoryError _ _ _ _ => true

end Sys2Proof
end

