-- ==== Sys2Proof/Tests/Slice0.lean ====
section
/-! SUPPORT. Tests of the model: each check of WellFormed refuses an ill-formed command; and for each statement with conditions a
state and operands that meet them together. -/
set_option Elab.async false
set_option autoImplicit false
set_option linter.all false
open Sys2Proof Sys2Proof.Machine

namespace Sys2Proof.Tests
/-- The keys of a table strictly rise, as a test. -/
def risingB {α : Type} : Tab α → Bool
  | [] => true
  | (j, _) :: t => tabAbove j t && risingB t
/-- The well-kept form of a block, as a test. -/
def soundB (d : Dev) : Bool :=
  (risingB d.regs && d.regs.all fun e => decide (e.2 < 2 ^ 32 ∧ e.2 ≠ regReset e.1)) &&
  (risingB d.objs && d.objs.all fun e => decide (objKey (e.1 / 256) (e.1 % 256) = e.1 ∧ e.2 ≠ objDefault (e.1 / 256) (e.1 % 256))) &&
  (risingB d.mem && d.mem.all fun e => decide (e.2 < 256)) && decide (d.pair.st ≤ 5) && decide (d.dsr.ring ≤ 5) &&
  risingB d.stage && risingB d.heldStitch && risingB d.irq && risingB d.msix && risingB d.fnMask && risingB d.rings &&
  risingB d.fnq && risingB d.dmaCh && risingB d.links && risingB d.mbox && risingB d.snaps && risingB d.lastCtr &&
  risingB d.authSeen && risingB d.tenants && risingB d.rrLast && risingB d.sess && risingB d.chans && risingB d.streams &&
  risingB d.tiles && risingB d.linPrm && risingB d.ladder && risingB d.lib && risingB d.linings && risingB d.flt.srcs &&
  risingB d.flt.log
theorem rising_of {α : Type} : ∀ t : Tab α, risingB t = true → Rising t
  | [], _ => .nil
  | (j, v) :: t, h => by
    simp only [risingB, Bool.and_eq_true] at h
    exact List.pairwise_cons.2 ⟨(tabAbove_iff j t).1 h.1, rising_of t h.2⟩
theorem sound_of (d : Dev) (h : soundB d = true) : Sound d := by
  simp only [soundB, Bool.and_eq_true, List.all_eq_true, decide_eq_true_eq, and_assoc] at h
  obtain ⟨r1, r2, o1, o2, m1, m2, hp, hd,
    t0, t1, t2, t3, t4, t5, t6, t7, t8, t9, t10, t11, t12, t13, t14, t15, t16, t17, t18, t19, t20, t21, t22, t23, t24⟩ := h
  exact ⟨⟨rising_of _ r1, r2⟩, ⟨rising_of _ o1, fun e he => ⟨_, _, (o2 e he).1.symm, (o2 e he).2⟩⟩, ⟨rising_of _ m1, m2⟩,
    hp, hd, ⟨rising_of _ t0, rising_of _ t1, rising_of _ t2, rising_of _ t3, rising_of _ t4, rising_of _ t5, rising_of _ t6, rising_of _ t7, rising_of _ t8, rising_of _ t9, rising_of _ t10, rising_of _ t11, rising_of _ t12, rising_of _ t13, rising_of _ t14, rising_of _ t15, rising_of _ t16, rising_of _ t17, rising_of _ t18, rising_of _ t19, rising_of _ t20, rising_of _ t21, rising_of _ t22, rising_of _ t23, rising_of _ t24⟩⟩
/-- A block whose firmware runs and whose first link reaches it, everything else as at reset. -/
def up : Dev := { pwr := { booted := true }, links := [(0, { mse := true })] }
theorem up_sound : Sound up := sound_of _ (by decide)
/-- A live frame of one band of one part under way in slot 0. -/
def oneFrame : Stream := { frames := [{ count := some 5, bands := [{ st := 1, parts := [{ assigned := true }] }] }] }
/-- A tile that runs, with that part. -/
def runTile : Tile := { on := true, boot := 2, cur := some ⟨0, 5, 0, 0⟩, latch := [.assignCurrent, .assignNext, .withdrawNext] }
/-- A block whose tenant 0 is bound and keyed and owns session 3, in a given state. -/
def withSession (x : Session) (o : Tab Nat) : Dev := { up with
  links := [(0, { mse := true, vfMse := true })], objs := (objKey 0x1C01 0, 9) :: o,
  tenants := [(0, { st := 2, bound := 1, root := some 5 })], sess := [(3, x)] }
def owned : Tab Nat := [(objKey 0x2001 0, 1), (objKey 0x3000 3, 0)]
end Sys2Proof.Tests

namespace Sys2Proof.Tests

/-! ## The checks of WellFormed -/

theorem test_wf_senders : Caller.wf (.pf 4) = false ∧ Caller.wf (.pf 3) = true ∧ Caller.wf (.vf 256 false) = false ∧
    Caller.wf (.vf 255 true) = true ∧ Caller.wf (.node 32) = false ∧ Caller.wf (.node 31) = true := by decide
theorem test_wf_request_form : Req.wf ⟨.pf 4, 0, none, 0⟩ = false ∧ Req.wf ⟨.pf 0, 2 ^ 32, none, 0⟩ = false ∧
    Req.wf ⟨.pf 0, 0, some ⟨65536, 0, true⟩, 0⟩ = false ∧ Req.wf ⟨.pf 0, 0, some ⟨0, 2 ^ 64, true⟩, 0⟩ = false ∧ Req.wf ⟨.pf 3, 0, some ⟨257, 5, true⟩, 0⟩ = true := by decide
theorem test_wf_payload_form : Payload.wf ⟨1, 256⟩ = false ∧ Payload.wf ⟨1, 255⟩ = true ∧ RxFrame.wf { len := 1, data := 256 } = false := by decide
theorem test_wf_fifo_home_form : FifoHome.wf (.tile 96) = false ∧ FifoHome.wf (.channel 64) = false ∧ FifoHome.wf (.queue 257 0) = false ∧
    FifoHome.wf (.other 139) = false ∧ FifoHome.wf (.other 138) = true := by decide
theorem test_wf_caller :
    (∀ x1 x2, Instr.wf (.watermarkFlagClear (.pf 4) x1 x2) = false) ∧
    (∀ x1, Instr.wf (.holdAssertClear (.pf 4) x1) = false) ∧
    (∀ x1, Instr.wf (.mailboxGo (.pf 4) x1) = false) ∧
    (∀ x1 x2, Instr.wf (.tbsStep (.pf 4) x1 x2) = false) ∧
    (Instr.wf (.ptpTsTagRead (.pf 4)) = false) ∧
    (Instr.wf (.tsFlush (.pf 4)) = false) ∧
    (∀ x1, Instr.wf (.reenum (.pf 4) x1) = false) ∧
    (Instr.wf (.dsrCntClr (.pf 4)) = false) ∧
    (∀ x1 x2 x3, Instr.wf (.trnWritePattern (.pf 4) x1 x2 x3) = false) ∧
    (∀ x1 x2 x3, Instr.wf (.trnReadCompare (.pf 4) x1 x2 x3) = false) ∧
    (∀ x1 x2 x3, Instr.wf (.trnWriteReadCompare (.pf 4) x1 x2 x3) = false) ∧
    (∀ x1 x2 x3, Instr.wf (.trnCaLoopback (.pf 4) x1 x2 x3) = false) ∧
    (∀ x1 x2 x3, Instr.wf (.trnFinish (.pf 4) x1 x2 x3) = false) ∧
    (∀ x1 x2 x3, Instr.wf (.padRelease (.pf 4) x1 x2 x3) = false) ∧
    (∀ x1, Instr.wf (.dmcCorrClr (.pf 4) x1) = false) ∧
    (∀ x1 x2 x3, Instr.wf (.flipArm (.pf 4) x1 x2 x3) = false) ∧
    (Instr.wf (.wrdLapHwmClr (.pf 4)) = false) ∧
    (Instr.wf (.sramCorrClr (.pf 4)) = false) ∧
    (∀ x1 x2, Instr.wf (.sqTailWrite (.pf 4) x1 x2) = false) ∧
    (∀ x1 x2, Instr.wf (.cqHeadWrite (.pf 4) x1 x2) = false) ∧
    (∀ x1, Instr.wf (.eqHeadWrite (.pf 4) x1) = false) ∧
    (∀ x1 x2 x3, Instr.wf (.channelDisable (.pf 4) x1 x2 x3) = false) ∧
    (Instr.wf (.dmaCorrClr (.pf 4)) = false) ∧
    (Instr.wf (.eqResetClear (.pf 4)) = false) := by
  repeat' apply And.intro
  all_goals (intros; simp [Instr.wf, Req.wf, Caller.wf, Payload.wf, RxFrame.wf, FifoHome.wf])
theorem test_wf_caller_2 :
    (∀ x1 x2, Instr.wf (.irqDoorbell (.pf 4) x1 x2) = false) ∧
    (∀ x1 x2, Instr.wf (.idleHintArm (.pf 4) x1 x2) = false) ∧
    (∀ x1 x2, Instr.wf (.malformedRegisterAccess (.pf 4) x1 x2) = false) ∧
    (∀ x1 x2, Instr.wf (.strayAccess (.pf 4) x1 x2) = false) ∧
    (∀ x1 x2 x3, Instr.wf (.registerWrite (.pf 4) x1 x2 x3) = false) ∧
    (Instr.wf (.mbxCntClr (.pf 4)) = false) ∧
    (Instr.wf (.carryHwmClr (.pf 4)) = false) ∧
    (Instr.wf (.slvCorrClr (.pf 4)) = false) ∧
    (Instr.wf (.pkeHwmClr (.pf 4)) = false) ∧
    (Instr.wf (.igrLapHwmClr (.pf 4)) = false) ∧
    (∀ x1, Instr.wf (.tileCntClr (.pf 4) x1) = false) ∧
    (Instr.wf (.secEventCntClr (.pf 4)) = false) ∧
    (∀ x1 x2, Instr.wf (.forceReport (.pf 4) x1 x2) = false) ∧
    (∀ x1 x2 x3, Instr.wf (.logSel (.pf 4) x1 x2 x3) = false) ∧
    (∀ x1, Instr.wf (.logTail (.pf 4) x1) = false) ∧
    (∀ x1 x2, Instr.wf (.standingClear (.pf 4) x1 x2) = false) ∧
    (Instr.wf (.firstClr (.pf 4)) = false) ∧
    (Instr.wf (.worstClr (.pf 4)) = false) ∧
    (Instr.wf (.lostClr (.pf 4)) = false) ∧
    (Instr.wf (.fltCntClr (.pf 4)) = false) ∧
    (∀ x1 x2 x3, Instr.wf (.pwrPadRelease (.pf 4) x1 x2 x3) = false) := by
  repeat' apply And.intro
  all_goals (intros; simp [Instr.wf, Req.wf, Caller.wf, Payload.wf, RxFrame.wf, FifoHome.wf])
theorem test_wf_chan :
    (∀ x0 x2 x3, Instr.wf (.trnWritePattern x0 16 x2 x3) = false) ∧
    (∀ x0 x2 x3, Instr.wf (.trnReadCompare x0 16 x2 x3) = false) ∧
    (∀ x0 x2 x3, Instr.wf (.trnWriteReadCompare x0 16 x2 x3) = false) ∧
    (∀ x0 x2 x3, Instr.wf (.trnCaLoopback x0 16 x2 x3) = false) ∧
    (∀ x1 x2 x3 x4 x5 x6, Instr.wf (.helperOpDone 16 x1 x2 x3 x4 x5 x6) = false) ∧
    (∀ x0 x2 x3, Instr.wf (.trnFinish x0 16 x2 x3) = false) ∧
    (∀ x1, Instr.wf (.trainingTimeout 16 x1) = false) ∧
    (∀ x1 x2 x3, Instr.wf (.dramRefresh 16 x1 x2 x3) = false) ∧
    (∀ x1 x2 x3, Instr.wf (.modeRegisterPoll 16 x1 x2 x3) = false) ∧
    (∀ x1, Instr.wf (.selfRefreshRequest 16 x1) = false) ∧
    (∀ x1 x2, Instr.wf (.selfRefreshStage 16 x1 x2) = false) ∧
    (∀ x1, Instr.wf (.dramRequestInSelfRefresh 16 x1) = false) ∧
    (∀ x0 x2 x3, Instr.wf (.padRelease x0 16 x2 x3) = false) ∧
    (∀ x1 x2, Instr.wf (.channelFreeze 16 x1 x2) = false) ∧
    (∀ x1, Instr.wf (.alertReplay 16 x1) = false) ∧
    (∀ x1 x2, Instr.wf (.channelResume 16 x1 x2) = false) ∧
    (∀ x1, Instr.wf (.channelRetrain 16 x1) = false) ∧
    (∀ x1, Instr.wf (.channelOff 16 x1) = false) ∧
    (∀ x0, Instr.wf (.dmcCorrClr x0 16) = false) ∧
    (∀ x1, Instr.wf (.fillFrameDone 16 x1) = false) ∧
    (∀ x1 x2 x3, Instr.wf (.scrubRead 16 x1 x2 x3) = false) ∧
    (∀ x0 x1 x3 x4 x5, Instr.wf (.descriptorFetch x0 x1 64 x3 x4 x5) = false) ∧
    (∀ x1 x2, Instr.wf (.copyIn 64 x1 x2) = false) ∧
    (∀ x1 x2, Instr.wf (.copyOut 64 x1 x2) = false) := by
  repeat' apply And.intro
  all_goals (intros; simp [Instr.wf, Req.wf, Caller.wf, Payload.wf, RxFrame.wf, FifoHome.wf])
theorem test_wf_chan_2 :
    (∀ x1 x2, Instr.wf (.intake 64 x1 x2) = false) ∧
    (∀ x1 x2, Instr.wf (.exportEntry 64 x1 x2) = false) ∧
    (∀ x1 x2, Instr.wf (.decodeFeed 64 x1 x2) = false) ∧
    (∀ x1 x2 x3, Instr.wf (.segmentUpload 64 x1 x2 x3) = false) ∧
    (∀ x1, Instr.wf (.fill 64 x1) = false) ∧
    (∀ x1 x2, Instr.wf (.transmit 64 x1 x2) = false) ∧
    (∀ x1, Instr.wf (.receiveBuffer 64 x1) = false) ∧
    (∀ x1 x2, Instr.wf (.descriptorComplete 64 x1 x2) = false) ∧
    (∀ x0 x2 x3, Instr.wf (.channelDisable x0 64 x2 x3) = false) := by
  repeat' apply And.intro
  all_goals (intros; simp [Instr.wf, Req.wf, Caller.wf, Payload.wf, RxFrame.wf, FifoHome.wf])
theorem test_wf_dest :
    (∀ x0 x1 x3, Instr.wf (.destinationWrite x0 x1 64 x3) = false) ∧
    (∀ x0 x1 x3, Instr.wf (.shaperWrite x0 x1 64 x3) = false) ∧
    (∀ x0 x1 x3 x4, Instr.wf (.streamKeyWrite x0 x1 64 x3 x4) = false) ∧
    (∀ x0 x2, Instr.wf (.previousKeyExpiry x0 64 x2) = false) ∧
    (∀ x0 x2 x3, Instr.wf (.nack x0 64 x2 x3) = false) ∧
    (∀ x0 x2, Instr.wf (.pictureLossIndication x0 64 x2) = false) ∧
    (∀ x0 x2 x3, Instr.wf (.congestionFeedback x0 64 x2 x3) = false) ∧
    (∀ x0 x2 x3, Instr.wf (.transportWideFeedback x0 64 x2 x3) = false) ∧
    (∀ x0 x2, Instr.wf (.receiverReport x0 64 x2) = false) ∧
    (∀ x0 x2, Instr.wf (.feedbackTimeout x0 64 x2) = false) := by
  repeat' apply And.intro
  all_goals (intros; simp [Instr.wf, Req.wf, Caller.wf, Payload.wf, RxFrame.wf, FifoHome.wf])
theorem test_wf_domain :
    (∀ x1, Instr.wf (.domainPowerGood 128 x1) = false) ∧
    (∀ x1, Instr.wf (.domainOff 128 x1) = false) ∧
    (∀ x1, Instr.wf (.powerGoodTimeout 128 x1) = false) ∧
    (∀ x0 x2 x3, Instr.wf (.pwrPadRelease x0 128 x2 x3) = false) := by
  repeat' apply And.intro
  all_goals (intros; simp [Instr.wf, Req.wf, Caller.wf, Payload.wf, RxFrame.wf, FifoHome.wf])
theorem test_wf_entry :
    (∀ x0 x2 x3, Instr.wf (.segmentVerified x0 64 x2 x3) = false) := by
  repeat' apply And.intro
  all_goals (intros; simp [Instr.wf, Req.wf, Caller.wf, Payload.wf, RxFrame.wf, FifoHome.wf])
theorem test_wf_fifohome :
    (∀ x1 x2, Instr.wf (.fifoWordCorrected (.tile 96) x1 x2) = false) ∧
    (∀ x1 x2, Instr.wf (.fifoWordUncorrectable (.tile 96) x1 x2) = false) := by
  repeat' apply And.intro
  all_goals (intros; simp [Instr.wf, Req.wf, Caller.wf, Payload.wf, RxFrame.wf, FifoHome.wf])
theorem test_wf_lining :
    (∀ x1, Instr.wf (.mirrorHoldExpiry 256 x1) = false) ∧
    (∀ x0, Instr.wf (.liningReanchor x0 256) = false) ∧
    (∀ x0, Instr.wf (.liningRelease x0 256) = false) := by
  repeat' apply And.intro
  all_goals (intros; simp [Instr.wf, Req.wf, Caller.wf, Payload.wf, RxFrame.wf, FifoHome.wf])
theorem test_wf_link :
    (∀ x1 x2, Instr.wf (.vfEnableSet 4 x1 x2) = false) ∧
    (∀ x1, Instr.wf (.vfEnableClear 4 x1) = false) ∧
    (∀ x1, Instr.wf (.pfFlr 4 x1) = false) ∧
    (∀ x1 x2, Instr.wf (.pcieLinkReset 4 x1 x2) = false) ∧
    (∀ x1 x2 x3, Instr.wf (.pcieLinkUp 4 x1 x2 x3) = false) ∧
    (∀ x1, Instr.wf (.atsInvalidation 4 x1) = false) ∧
    (∀ x1, Instr.wf (.getVersion 4 x1) = false) ∧
    (∀ x1, Instr.wf (.getCapabilities 4 x1) = false) ∧
    (∀ x1, Instr.wf (.negotiateAlgorithms 4 x1) = false) ∧
    (∀ x1, Instr.wf (.getDigests 4 x1) = false) ∧
    (∀ x1, Instr.wf (.getCertificate 4 x1) = false) ∧
    (∀ x1, Instr.wf (.challenge 4 x1) = false) ∧
    (∀ x1, Instr.wf (.getMeasurements 4 x1) = false) ∧
    (∀ x1, Instr.wf (.keyExchange 4 x1) = false) ∧
    (∀ x1 x2, Instr.wf (.ideIntegrityFailure 4 x1 x2) = false) ∧
    (∀ x1 x2 x3, Instr.wf (.memorySpaceEnableWrite 4 x1 x2 x3) = false) ∧
    (∀ x1, Instr.wf (.vfResizableBarWrite 4 x1) = false) := by
  repeat' apply And.intro
  all_goals (intros; simp [Instr.wf, Req.wf, Caller.wf, Payload.wf, RxFrame.wf, FifoHome.wf])
theorem test_wf_pair :
    (∀ x1, Instr.wf (.resilverComplete 8 x1) = false) := by
  repeat' apply And.intro
  all_goals (intros; simp [Instr.wf, Req.wf, Caller.wf, Payload.wf, RxFrame.wf, FifoHome.wf])
theorem test_wf_payload :
    (∀ x0 x1 x2, Instr.wf (.write x0 x1 x2 ⟨1, 256⟩) = false) ∧
    (∀ x0 x1, Instr.wf (.freezeRequest x0 x1 ⟨1, 256⟩) = false) ∧
    (∀ x0 x1, Instr.wf (.registerSegment x0 x1 ⟨1, 256⟩) = false) ∧
    (∀ x0 x1, Instr.wf (.delete x0 x1 ⟨1, 256⟩) = false) ∧
    (∀ x0 x1, Instr.wf (.exportToEthernet x0 x1 ⟨1, 256⟩) = false) ∧
    (∀ x0 x1, Instr.wf (.blockAllocate x0 x1 ⟨1, 256⟩) = false) ∧
    (∀ x0 x1, Instr.wf (.blockFree x0 x1 ⟨1, 256⟩) = false) ∧
    (∀ x0 x1 x2, Instr.wf (.destinationWrite x0 x1 x2 ⟨1, 256⟩) = false) ∧
    (∀ x0 x1 x2, Instr.wf (.shaperWrite x0 x1 x2 ⟨1, 256⟩) = false) ∧
    (∀ x0 x1 x2 x4, Instr.wf (.streamKeyWrite x0 x1 x2 ⟨1, 256⟩ x4) = false) ∧
    (∀ x0 x1 x2 x4, Instr.wf (.segmentKeyWrite x0 x1 x2 ⟨1, 256⟩ x4) = false) ∧
    (∀ x0, Instr.wf (.flowInsert x0 ⟨1, 256⟩) = false) ∧
    (∀ x0, Instr.wf (.flowRemove x0 ⟨1, 256⟩) = false) ∧
    (∀ x0, Instr.wf (.timeSet x0 ⟨1, 256⟩) = false) ∧
    (∀ x0, Instr.wf (.sessionsTakenWrite x0 ⟨1, 256⟩) = false) ∧
    (∀ x0 x1 x2, Instr.wf (.queueObjectWrite x0 x1 x2 ⟨1, 256⟩) = false) := by
  repeat' apply And.intro
  all_goals (intros; simp [Instr.wf, Req.wf, Caller.wf, Payload.wf, RxFrame.wf, FifoHome.wf])
theorem test_wf_pipeline :
    (∀ x1, Instr.wf (.agingVisit 2 x1) = false) := by
  repeat' apply And.intro
  all_goals (intros; simp [Instr.wf, Req.wf, Caller.wf, Payload.wf, RxFrame.wf, FifoHome.wf])
theorem test_wf_port :
    (∀ x1, Instr.wf (.gateEntryExpiry 8 x1) = false) ∧
    (∀ x1, Instr.wf (.linkTrainTimeout 8 x1) = false) ∧
    (∀ x1 x2, Instr.wf (.ethernetLinkChange 8 x1 x2) = false) ∧
    (∀ x1, Instr.wf (.macSend 8 x1) = false) ∧
    (∀ x1 x2, Instr.wf (.frameReceived 8 x1 x2) = false) ∧
    (∀ x1, Instr.wf (.ptpEventReceived 8 x1) = false) ∧
    (∀ x1, Instr.wf (.pcieWake 8 x1) = false) ∧
    (∀ x1, Instr.wf (.ethernetWakePattern 8 x1) = false) := by
  repeat' apply And.intro
  all_goals (intros; simp [Instr.wf, Req.wf, Caller.wf, Payload.wf, RxFrame.wf, FifoHome.wf])
theorem test_wf_rank :
    (∀ x0 x2 x3, Instr.wf (.dramRefresh x0 8 x2 x3) = false) ∧
    (∀ x0 x2 x3, Instr.wf (.modeRegisterPoll x0 8 x2 x3) = false) := by
  repeat' apply And.intro
  all_goals (intros; simp [Instr.wf, Req.wf, Caller.wf, Payload.wf, RxFrame.wf, FifoHome.wf])
theorem test_wf_req :
    (∀ x1, Instr.wf (.define ⟨.pf 4, 0, none, 0⟩ x1) = false) ∧
    (∀ x1, Instr.wf (.release ⟨.pf 4, 0, none, 0⟩ x1) = false) ∧
    (∀ x1, Instr.wf (.arm ⟨.pf 4, 0, none, 0⟩ x1) = false) ∧
    (∀ x1, Instr.wf (.disarm ⟨.pf 4, 0, none, 0⟩ x1) = false) ∧
    (∀ x1, Instr.wf (.start ⟨.pf 4, 0, none, 0⟩ x1) = false) ∧
    (∀ x1, Instr.wf (.pause ⟨.pf 4, 0, none, 0⟩ x1) = false) ∧
    (∀ x1, Instr.wf (.resume ⟨.pf 4, 0, none, 0⟩ x1) = false) ∧
    (∀ x1, Instr.wf (.drain ⟨.pf 4, 0, none, 0⟩ x1) = false) ∧
    (∀ x1 x2, Instr.wf (.operatorDrain ⟨.pf 4, 0, none, 0⟩ x1 x2) = false) ∧
    (∀ x1 x2, Instr.wf (.tenantBind ⟨.pf 4, 0, none, 0⟩ x1 x2) = false) ∧
    (∀ x1 x2 x3, Instr.wf (.read ⟨.pf 4, 0, none, 0⟩ x1 x2 x3) = false) ∧
    (∀ x1 x2 x3, Instr.wf (.write ⟨.pf 4, 0, none, 0⟩ x1 x2 x3) = false) ∧
    (∀ x1 x2, Instr.wf (.describe ⟨.pf 4, 0, none, 0⟩ x1 x2) = false) ∧
    (∀ x1 x2, Instr.wf (.refreshRequest ⟨.pf 4, 0, none, 0⟩ x1 x2) = false) ∧
    (∀ x1 x2, Instr.wf (.freezeRequest ⟨.pf 4, 0, none, 0⟩ x1 x2) = false) ∧
    (∀ x1 x2, Instr.wf (.registerSegment ⟨.pf 4, 0, none, 0⟩ x1 x2) = false) ∧
    (∀ x1 x2, Instr.wf (.delete ⟨.pf 4, 0, none, 0⟩ x1 x2) = false) ∧
    (∀ x1 x2, Instr.wf (.exportToEthernet ⟨.pf 4, 0, none, 0⟩ x1 x2) = false) ∧
    (∀ x1 x2, Instr.wf (.spliceRequest ⟨.pf 4, 0, none, 0⟩ x1 x2) = false) ∧
    (∀ x1 x2, Instr.wf (.spliceReturn ⟨.pf 4, 0, none, 0⟩ x1 x2) = false) ∧
    (∀ x1 x2, Instr.wf (.blockAllocate ⟨.pf 4, 0, none, 0⟩ x1 x2) = false) ∧
    (∀ x1 x2, Instr.wf (.blockFree ⟨.pf 4, 0, none, 0⟩ x1 x2) = false) ∧
    (∀ x1 x2 x3, Instr.wf (.destinationWrite ⟨.pf 4, 0, none, 0⟩ x1 x2 x3) = false) ∧
    (∀ x1 x2 x3, Instr.wf (.shaperWrite ⟨.pf 4, 0, none, 0⟩ x1 x2 x3) = false) := by
  repeat' apply And.intro
  all_goals (intros; simp [Instr.wf, Req.wf, Caller.wf, Payload.wf, RxFrame.wf, FifoHome.wf])
theorem test_wf_req_2 :
    (∀ x1 x2 x3 x4, Instr.wf (.streamKeyWrite ⟨.pf 4, 0, none, 0⟩ x1 x2 x3 x4) = false) ∧
    (∀ x1 x2 x3 x4, Instr.wf (.segmentKeyWrite ⟨.pf 4, 0, none, 0⟩ x1 x2 x3 x4) = false) ∧
    (∀ x1, Instr.wf (.portModeWrite ⟨.pf 4, 0, none, 0⟩ x1) = false) ∧
    (∀ x1, Instr.wf (.flowInsert ⟨.pf 4, 0, none, 0⟩ x1) = false) ∧
    (∀ x1, Instr.wf (.flowRemove ⟨.pf 4, 0, none, 0⟩ x1) = false) ∧
    (∀ x1, Instr.wf (.timeSet ⟨.pf 4, 0, none, 0⟩ x1) = false) ∧
    (∀ x1, Instr.wf (.pairEnable ⟨.pf 4, 0, none, 0⟩ x1) = false) ∧
    (∀ x1, Instr.wf (.promoteLinings ⟨.pf 4, 0, none, 0⟩ x1) = false) ∧
    (∀ x1, Instr.wf (.handOverSession ⟨.pf 4, 0, none, 0⟩ x1) = false) ∧
    (∀ x1, Instr.wf (.liningReanchor ⟨.pf 4, 0, none, 0⟩ x1) = false) ∧
    (∀ x1, Instr.wf (.liningRelease ⟨.pf 4, 0, none, 0⟩ x1) = false) ∧
    (∀ x1, Instr.wf (.tileRelease ⟨.pf 4, 0, none, 0⟩ x1) = false) ∧
    (∀ x1 x2, Instr.wf (.tileRetireCommand ⟨.pf 4, 0, none, 0⟩ x1 x2) = false) ∧
    (∀ x1, Instr.wf (.sessionsTakenWrite ⟨.pf 4, 0, none, 0⟩ x1) = false) ∧
    (∀ x1 x2 x3, Instr.wf (.queueObjectWrite ⟨.pf 4, 0, none, 0⟩ x1 x2 x3) = false) ∧
    (∀ x1 x2, Instr.wf (.tenantKeyErase ⟨.pf 4, 0, none, 0⟩ x1 x2) = false) ∧
    (∀ x1, Instr.wf (.operatorKeyErase ⟨.pf 4, 0, none, 0⟩ x1) = false) ∧
    (∀ x1, Instr.wf (.debugUnlock ⟨.pf 4, 0, none, 0⟩ x1) = false) ∧
    (∀ x1, Instr.wf (.packageStateRequest ⟨.pf 4, 0, none, 0⟩ x1) = false) ∧
    (Instr.wf (.warmResetRequest ⟨.pf 4, 0, none, 0⟩) = false) ∧
    (Instr.wf (.coldResetRequest ⟨.pf 4, 0, none, 0⟩) = false) := by
  repeat' apply And.intro
  all_goals (intros; simp [Instr.wf, Req.wf, Caller.wf, Payload.wf, RxFrame.wf, FifoHome.wf])
theorem test_wf_rxframe :
    (∀ x0 x2, Instr.wf (.frameReceived x0 { len := 1, data := 256 } x2) = false) := by
  repeat' apply And.intro
  all_goals (intros; simp [Instr.wf, Req.wf, Caller.wf, Payload.wf, RxFrame.wf, FifoHome.wf])
theorem test_wf_slot :
    (Instr.wf (.frameCredit 256) = false) ∧
    (∀ x0 x2, Instr.wf (.watermarkFlagClear x0 256 x2) = false) ∧
    (∀ x1, Instr.wf (.bandSubstitution 256 x1) = false) ∧
    (∀ x1, Instr.wf (.drainAbandon 256 x1) = false) ∧
    (∀ x1, Instr.wf (.drainComplete 256 x1) = false) ∧
    (∀ x0, Instr.wf (.define x0 256) = false) ∧
    (∀ x0, Instr.wf (.release x0 256) = false) ∧
    (∀ x0, Instr.wf (.arm x0 256) = false) ∧
    (∀ x1, Instr.wf (.armPartnerTimeout 256 x1) = false) ∧
    (∀ x0, Instr.wf (.disarm x0 256) = false) ∧
    (∀ x0, Instr.wf (.start x0 256) = false) ∧
    (∀ x0, Instr.wf (.pause x0 256) = false) ∧
    (∀ x0, Instr.wf (.resume x0 256) = false) ∧
    (∀ x0, Instr.wf (.drain x0 256) = false) ∧
    (∀ x0 x2, Instr.wf (.operatorDrain x0 256 x2) = false) ∧
    (∀ x0 x2, Instr.wf (.refreshRequest x0 256 x2) = false) ∧
    (∀ x0 x2, Instr.wf (.freezeRequest x0 256 x2) = false) ∧
    (∀ x0 x2, Instr.wf (.spliceRequest x0 256 x2) = false) ∧
    (∀ x0 x2, Instr.wf (.spliceReturn x0 256 x2) = false) ∧
    (∀ x0 x2 x3, Instr.wf (.destinationWrite x0 256 x2 x3) = false) ∧
    (∀ x0 x2 x3, Instr.wf (.shaperWrite x0 256 x2 x3) = false) ∧
    (∀ x0 x2 x3 x4, Instr.wf (.streamKeyWrite x0 256 x2 x3 x4) = false) ∧
    (∀ x1 x2, Instr.wf (.previousKeyExpiry 256 x1 x2) = false) ∧
    (∀ x1, Instr.wf (.retransmissionExpiry 256 x1) = false) := by
  repeat' apply And.intro
  all_goals (intros; simp [Instr.wf, Req.wf, Caller.wf, Payload.wf, RxFrame.wf, FifoHome.wf])
theorem test_wf_slot_2 :
    (∀ x1, Instr.wf (.senderReport 256 x1) = false) ∧
    (∀ x1 x2 x3, Instr.wf (.nack 256 x1 x2 x3) = false) ∧
    (∀ x1 x2, Instr.wf (.pictureLossIndication 256 x1 x2) = false) ∧
    (∀ x1 x2 x3, Instr.wf (.congestionFeedback 256 x1 x2 x3) = false) ∧
    (∀ x1 x2 x3, Instr.wf (.transportWideFeedback 256 x1 x2 x3) = false) ∧
    (∀ x1 x2, Instr.wf (.receiverReport 256 x1 x2) = false) ∧
    (∀ x1 x2, Instr.wf (.feedbackTimeout 256 x1 x2) = false) ∧
    (∀ x1, Instr.wf (.liningRequestRetry 256 x1) = false) ∧
    (∀ x1, Instr.wf (.mirrorStoreExpiry 256 x1) = false) := by
  repeat' apply And.intro
  all_goals (intros; simp [Instr.wf, Req.wf, Caller.wf, Payload.wf, RxFrame.wf, FifoHome.wf])
theorem test_wf_tenant :
    (∀ x1 x2 x3 x4 x5, Instr.wf (.apertureWrite 256 x1 x2 x3 x4 x5) = false) ∧
    (∀ x1 x2 x3, Instr.wf (.apertureRead 256 x1 x2 x3) = false) ∧
    (∀ x1 x2 x3, Instr.wf (.bandDoorbell 256 x1 x2 x3) = false) ∧
    (∀ x0 x2, Instr.wf (.tenantBind x0 256 x2) = false) ∧
    (∀ x1, Instr.wf (.functionLevelReset 256 x1) = false) ∧
    (∀ x0 x2, Instr.wf (.registerSegment x0 256 x2) = false) ∧
    (∀ x0 x2, Instr.wf (.delete x0 256 x2) = false) ∧
    (∀ x0 x2, Instr.wf (.exportToEthernet x0 256 x2) = false) ∧
    (∀ x1 x2 x3, Instr.wf (.segmentVerified 256 x1 x2 x3) = false) ∧
    (∀ x0 x2 x3 x4, Instr.wf (.segmentKeyWrite x0 256 x2 x3 x4) = false) ∧
    (∀ x0 x2, Instr.wf (.tenantKeyErase x0 256 x2) = false) := by
  repeat' apply And.intro
  all_goals (intros; simp [Instr.wf, Req.wf, Caller.wf, Payload.wf, RxFrame.wf, FifoHome.wf])
theorem test_wf_tile :
    (∀ x1, Instr.wf (.stitchOverrun 96 x1) = false) ∧
    (∀ x1, Instr.wf (.tileHang 96 x1) = false) ∧
    (∀ x1 x2, Instr.wf (.partCoded 96 x1 x2) = false) ∧
    (∀ x1, Instr.wf (.completionPost 96 x1) = false) ∧
    (∀ x1 x2, Instr.wf (.assignCurrent 96 x1 x2) = false) ∧
    (∀ x1, Instr.wf (.assignNext 96 x1) = false) ∧
    (∀ x1, Instr.wf (.withdrawNext 96 x1) = false) ∧
    (∀ x1 x2, Instr.wf (.closeGrant 96 x1 x2) = false) ∧
    (∀ x1 x2 x3 x4, Instr.wf (.boot 96 x1 x2 x3 x4) = false) ∧
    (∀ x1, Instr.wf (.containmentReset 96 x1) = false) ∧
    (∀ x1 x2, Instr.wf (.loadStallEnd 96 x1 x2) = false) ∧
    (∀ x1, Instr.wf (.contextCommit 96 x1) = false) ∧
    (∀ x1 x2, Instr.wf (.tileRetire 96 x1 x2) = false) ∧
    (∀ x0, Instr.wf (.tileRelease x0 96) = false) ∧
    (∀ x0 x2, Instr.wf (.tileRetireCommand x0 96 x2) = false) ∧
    (∀ x0, Instr.wf (.tileCntClr x0 96) = false) ∧
    (∀ x1, Instr.wf (.tileIdleOff 96 x1) = false) := by
  repeat' apply And.intro
  all_goals (intros; simp [Instr.wf, Req.wf, Caller.wf, Payload.wf, RxFrame.wf, FifoHome.wf])

/-! ## Conditions of the statements are met -/

theorem test_wit_QueueFirstInFirstOut : step ⟨up, [.sleepCountEdge, .porNFall]⟩ = .next ⟨up, [.porNFall]⟩ := by rfl

theorem test_wit_Held : isHeld { up with pwr := { porLow := true } } = true ∧ isHeld { up with pwr := { aonDown := true } } = true ∧
    actsHeld .sleepCountEdge = false := ⟨rfl, rfl, rfl⟩

theorem test_wit_StepKeepsTheForms : Sound (State.mk up [.sleepCountEdge]).dev ∧ step ⟨up, [.sleepCountEdge]⟩ = .next ⟨up, []⟩ :=
  ⟨up_sound, rfl⟩

theorem test_wit_SafeState : let d : Dev := { up with flt := { safe := true } }
    d.flt.safe = true ∧ d.pwr.booted = true ∧ step ⟨d, [.sleepCountEdge]⟩ = .next ⟨d, []⟩ := ⟨rfl, rfl, rfl⟩

theorem test_wit_CommandFrames : exec .sleepCountEdge ⟨up, []⟩ = .next ⟨up, []⟩ ∧ Piece.regs ∉ touches .sleepCountEdge := ⟨rfl, by decide⟩

theorem test_wit_LargestFit : fitBytes 3000 1436 54 = 2872 ∧ (0 : Nat) < 1436 := by decide

theorem test_wit_SleepCounter :
    let d : Dev := { up with tbs := { sleeping := true } }
    isHeld d = false ∧ d.tbs.sleeping = true ∧ d.pwr.lost.contains 4 = false ∧ isHeld up = false ∧ up.tbs.sleeping = false := by decide

theorem test_wit_InterruptCommands : let d : Dev := { up with irq := [(3, { n := 1 })], msix := [(7, { masked := false, held := 1 })] }
    isHeld d = false ∧ Sound d ∧ irqNext d (tabKeys d.irq) = some 3 ∧ irqRouted d (3 % 1024) = true ∧
    hasVector 256 7 = true ∧ (vec d (msixKey 256 7)).held ≠ 0 ∧ isMasked d (msixKey 256 7) = false ∧
    (vec d (msixKey 256 7)).first + 1000 * bits (regGet d (modReg (msixKey 256 7))) 0 10 ≤ d.tbs.ns :=
  ⟨by decide, sound_of _ (by decide), by decide, by decide, by decide, by decide, by decide, by decide⟩
theorem test_wit_idleHint : let d : Dev := { up with tenants := [(0, { st := 1, bound := 1 })], links := [(0, { mse := true, vfMse := true })], msix := [(1024, { addr := 8 })] }
    isHeld d = false ∧ Sound d ∧ regOpen (.pf 0) Reg.irqIdleHint.base false d = true ∧ hostOpen (.vf 0 true) d = true ∧
    (∀ e ∈ d.msix, e.2.held = 0) :=
  ⟨by decide, sound_of _ (by decide), by decide, by decide, by decide⟩

theorem test_wit_QueuePointers : let d : Dev := { up with rings := [(32 * 256, { on := true, head := 3, tail := 3 }), (32 * 256 + 8, { on := true }), (32 * 256 + 16, { on := true })] }
    isHeld d = false ∧ Sound d ∧ pageOpen (.pf 0) d = true ∧ hasSq (fnOf (.pf 0)) 0 = true ∧ hasCq (fnOf (.pf 0)) 0 = true ∧
    0 < ringSize d (sqKey 256 0) ∧ (ring d (sqKey 256 0)).on = true ∧ 0 < ringSize d (cqKey 256 0) ∧
    (ring d (cqKey 256 0)).on = true ∧ 0 < ringSize d (eqKey 256) ∧ (ring d (eqKey 256)).on = true ∧
    (ring d (sqKey 256 0)).unfreed ≤ ringDist (ringSize d (sqKey 256 0)) (ring d (sqKey 256 0)).head 0 ∧
    ringDist (ringSize d (cqKey 256 0)) (ring d (cqKey 256 0)).head 0 ≤ (ring d (cqKey 256 0)).count ∧
    ringDist (ringSize d (eqKey 256)) (ring d (eqKey 256)).head 0 ≤ (ring d (eqKey 256)).count :=
  ⟨by decide, sound_of _ (by decide), by decide, by decide, by decide, by decide, by decide, by decide, by decide, by decide,
    by decide, by decide, by decide, by decide⟩

theorem test_wit_DescriptorCommands : let de : Desc := {}
    let d : Dev := { up with regs := [(Reg.dmaCtrl.base, 1)], rings := [(0, { on := true, tail := 1 }), (8, { on := true })] }
    isHeld d = false ∧ Sound d ∧ hasSq 0 0 = true ∧ chanIdle d 24 = true ∧ hasWork d 0 = true ∧ d.flt.safe = false ∧
    0 < cqFree d (cqOf (sqKey 0 0)) ∧ isTurn d (sqKey 0 0) = true ∧ bit de.flags 1 = false :=
  ⟨by decide, sound_of _ (by decide), by decide, by decide, by decide, by decide, by decide, by decide, by decide⟩
theorem test_wit_descriptorComplete : let r : Running := { d := {}, fn := 0, sq := 0, ended := true }
    let d : Dev := { up with dmaCh := [(24, { run := some r })] }
    isHeld d = false ∧ Sound d ∧ 24 < 64 ∧ (dmaChan d 24).run = some r ∧ r.ended = true ∧ hasSq r.fn r.sq = true ∧
    r.fn ≤ 256 ∧ r.noEntry = false :=
  ⟨by decide, sound_of _ (by decide), by decide, by decide, by decide, by decide, by decide, by decide⟩

theorem test_wit_DrawstringRing :
    let d : Dev := { up with dsr := { ring := 2, master := true, nodeId := 3, limit := 0 } }
    let e : Dev := { up with dsr := { ring := 3, master := true, nodeId := 3 }, tbs := { ns := 2000000 } }
    let f : Dev := { up with dsr := { ring := 4, master := true, nodeId := 3 }, tbs := { ns := 2000000 } }
    isHeld d = false ∧ Sound d ∧ Sound e ∧ Sound f ∧ up.dsr.ring ≤ 1 ∧ up.dsr.master = false ∧ d.dsr.ring ≠ 3 ∧ d.dsr.ring ≠ 4 ∧ 2 < d.dsr.nodeId ∧
    e.dsr.enumSent + 2000000 ≤ (atTime 0 e).tbs.ns ∧ e.dsr.enumTries < 3 ∧ d.dsr.ring ≠ 5 ∧
    d.dsr.resetExit + d.dsr.limit * 1000000 ≤ (atTime 0 d).tbs.ns ∧ f.dsr.lastToken + 1000000 ≤ (atTime 0 f).tbs.ns ∧
    regOpen (.pf 0) Reg.dsrCtrl.base false d = true ∧ isHeld e = false ∧ isHeld f = false ∧ isHeld up = false :=
  ⟨by decide, sound_of _ (by decide), sound_of _ (by decide), sound_of _ (by decide), by decide⟩

theorem test_wit_DrawstringFrames : let f : OwnFrame := { dst := 2, ty := 1, op := 1, ack := 2 }
    let d : Dev := { up with dsr := { ring := 4, own := [f], retry := [f] } }
    isHeld d = false ∧ d.dsr.ring = 4 ∧ d.dsr.master = false ∧ d.dsr.own = [f] ∧ d.dsr.retry = [f] ∧
    retryDue (atTime 0 d) f = true ∧ f.op < 0x80 ∧ f.dst ≠ 0x3F := by decide

theorem test_wit_IngressFrames : let d : Dev := { up with regs := [(Reg.pkeIgrCtrl.base, 1)], objs := [(objKey 0x1A00 0, 0xFF)] }
    let f : RxFrame := { len := 60, data := 0x1111 * 2 ^ 96 }
    isHeld d = false ∧ Sound d ∧ isPort 0 = true ∧ isPort 7 = true ∧ fld d Reg.pkeIgrCtrl.base 0 1 ≠ 0 ∧ portPresent d 0 = true ∧
    fateOf d 0 { f with fcsOk := false } = .fcs ∧ fateOf d 0 { f with data := 0x0888 * 2 ^ 96 } = .pauseFrame ∧
    fateOf d 0 f = .cls 7 ∧ bit (objNow d 0x1A40 0) 7 = false :=
  ⟨by decide, sound_of _ (by decide), by decide, by decide, by decide, by decide, by decide, by decide, by decide, by decide⟩
theorem test_wit_aging : let d : Dev := { up with pke := { pipes := [(1, { ageNext := 4095 })] } }
    isHeld d = false ∧ Sound d ∧ Rising (pipe d 1).flows ∧ Rising d.pke.pipes ∧ (pipe d 1).ageNext ≠ 0 :=
  ⟨by decide, sound_of _ (by decide), .nil, rising_of _ (by decide), by decide⟩
theorem test_wit_flows : let q : Req := { who := .pf 0, tag := 5, crit := none, now := 0 }
    let d : Dev := { up with pair := { taken := [(0, 0)] }, sess := [(0, { dests := [(0, { st := 1 })] })] }
    Sound d ∧ Rising d.pke.pipes ∧ (∀ i, Rising (pipe d i).flows) ∧
    (∀ cmd, cmd = 1 ∨ cmd = 2 → granted q 0x1A48 0 (fun d => earned [((⟨32, 256 + cmd⟩ : Payload).len != 32, .type)] ++ flowErrs (256 + cmd) d) d = true ∧
      byteAt (256 + cmd) 0 = cmd ∧ bit (byteAt (256 + cmd) 1) 0 = true) ∧
    (tabGet [] (pipe d 0).flows (flowBucket (objGet d 0x1A41 0) 0 0 0 0)).length < 8 :=
  ⟨sound_of _ (by decide), .nil, fun _ => .nil, by rintro _ (rfl | rfl) <;> decide, by decide⟩

theorem test_wit_FaultClears : let d : Dev := { up with flt := { srcs := [(5, { standing := 8, occ := 1 })] } }
    isHeld d = false ∧ Sound d ∧ regOpen (.pf 0) Reg.fltCtrl.base true d = true ∧ 5 < 139 ∧ (fltSrc d 5).levels = [] ∧
    (fltSrc d 5).standing < 32 ∧ regOpen (.pf 0) (Reg.fltSrcStat.at 5) true d = true :=
  ⟨by decide, sound_of _ (by decide), by decide, by decide, by decide, by decide, by decide⟩

theorem test_wit_FaultAcceptance : let r : Report := { src := 5, code := 1, sev := 4 }
    let d : Dev := { up with flt := { presented := [r] } }
    isHeld d = false ∧ Sound d ∧ d.flt.presented.find? (·.src == r.src) = some r :=
  ⟨by decide, sound_of _ (by decide), by decide⟩

theorem test_wit_FaultLog : let a : Latch := { rep := { src := 5, code := 1, sev := 2 }, time := 0, order := 0 }
    let d : Dev := { up with flt := { srcs := [(5, { latch := some a })], head := 3 } }
    isHeld d = false ∧ Sound d ∧ nextPending d.flt.srcs = some (5, a) ∧ regOpen (.pf 0) Reg.fltLogSel.base true d = true ∧
    regOpen (.pf 0) Reg.fltLogTail.base true d = true ∧ tailOk d 2 = true ∧ tailOk d 4 = false :=
  ⟨by decide, sound_of _ (by decide), by decide, by decide, by decide, by decide, by decide⟩

theorem test_wit_FaultWires : let d : Dev := { up with regs := [(Reg.fltCtrl.base, 0x200)] }
    isHeld d = false ∧ Sound d ∧ hasPair 1 = true ∧ hasPair 138 = true ∧
    regOpen (.pf 0) (Reg.fltForce.at (min 4 (138 / 32))) false d = true ∧ bit (regGet d Reg.fltCtrl.base) 9 = true ∧
    bit (regGet d Reg.fltForceCfg.base) 3 = false ∧ pulsesOf 138 d.flt.presented < 2 :=
  ⟨by decide, sound_of _ (by decide), by decide, by decide, by decide, by decide, by decide, by decide⟩

theorem test_wit_TileLoading :
    let d : Dev := { up with tiles := [(95, runTile)], streams := [(0, oneFrame)] }
    let e : Dev := { d with streams := [(0, { oneFrame with commit := some 5, copies := [(1, { seq := 5 })] })] }
    isHeld d = false ∧ Sound d ∧ Sound e ∧ (tile d 95).runs = true ∧ partWanted d ⟨0, 5, 0, 0⟩ = true ∧
    partWanted e ⟨0, 5, 0, 0⟩ = true ∧ (tile d 95).phase = 0 ∧ (tile d 95).latch.contains .assignCurrent = true ∧
    committed d ⟨0, 5, 0, 0⟩ = false ∧ committed e ⟨0, 5, 0, 0⟩ = true ∧ (tabGet {} (stream e 0).copies (5 % 4)).seq = 5 ∧
    (tile d 95).latch.contains .assignNext = true ∧ (tile d 95).latch.contains .withdrawNext = true :=
  ⟨by decide, sound_of _ (by decide), sound_of _ (by decide), by decide⟩

theorem test_wit_TileCoding :
    let d : Nat → Dev := fun p => { up with
      tiles := [(0, { runTile with phase := p, grant := some (true, false, false) })], streams := [(0, oneFrame)]
      loom := { closing := [(7, 0, ⟨0, 5, 0, 0⟩)], latch := [⟨3, 0, ⟨0, 5, 0, 0⟩⟩] } }
    ∀ p < 7, isHeld (d p) = false ∧ Sound (d p) ∧ (tile (d p) 0).runs = true ∧ (tile (d p) 0).phase = p ∧
      (frameAt (d p) 0 5).isSome = true ∧ isLining 0 = false ∧ (d p).loom.closing = [(7, 0, ⟨0, 5, 0, 0⟩)] := by
  intro d p hp
  exact ⟨rfl, ⟨up_sound.regs, up_sound.objs, up_sound.mem, up_sound.pair, up_sound.ring, { up_sound.tabs with
    tiles := rising_of _ rfl, streams := rising_of _ rfl }⟩, rfl, rfl, rfl, rfl, rfl⟩

theorem test_wit_TileFailures :
    let d : Bool → Bool → Nat → Dev := fun l h b => { up with tbs := { ns := 9000000 }, objs := [(objKey 0x1440 0, 255)], tiles := [(95, { runTile with late := l, hung := h, boot := b, latch := [] })], streams := [(0, oneFrame)] }
    let q : Req := ⟨.pf 0, 1, none, 0⟩
    (∀ l h : Bool, isHeld (d l h 2) = false ∧ Sound (d l h 2) ∧ (tile (d l h 2) 95).on = true ∧ (tile (d l h 2) 95).late = l ∧ (tile (d l h 2) 95).gone = h) ∧
    (tile (d true false 2) 95).deadline + objNow (d true false 2) 0x1311 0 * 2500000 ≤ 9 * (atTime 0 (d true false 2)).tbs.ns ∧
    (tile (d true true 1) 95).boot = 1 ∧ isArmed (d true true 1) 1 = true ∧
    granted q 0x1444 0 (tileActionErrs 95 1) (d true true 2) = true ∧
    granted q 0x1444 0 (tileActionErrs 95 2) (d true true 2) = true ∧
    regOpen (.pf 0) (Reg.tileCtrl.at 95) false up = true ∧ regOpen (.pf 0) Reg.loomCtrl.base false up = true ∧
    regOpen (.pf 0) Reg.slvCtrl.base false up = true := by
  intro d q
  refine ⟨fun l h => ⟨rfl, sound_of _ (by cases l <;> cases h <;> decide), rfl, rfl, by cases h <;> rfl⟩, by decide⟩

theorem test_wit_TimeSteps :
    let d : Nat → Bool → Dev := fun v o => { up with objs := [(objKey 0x1320 0, v), (objKey 0x1326 0, 1)], tbs := { setAtPps := some 7, ppsOut := o } }
    (∀ o, isHeld (d 2 o) = false ∧ Sound (d 2 o) ∧ timingSource (atTime 0 (d 2 o)) = 2 ∧ disciplined (atTime 0 (d 2 o)) = true ∧
      (atTime 0 (d 2 o)).tbs.setAtPps = some 7 ∧ (atTime 0 (d 2 o)).tbs.ppsOut = o ∧ objGet (atTime 0 (d 2 o)) 0x1326 0 = 1) ∧
    granted ⟨.pf 0, 1, none, 0⟩ 0x1324 0 (timeSetErrs ⟨8, 5⟩) (d 2 true) = true ∧
    granted ⟨.pf 0, 1, none, 0⟩ 0x1324 0 (timeSetErrs ⟨8, 5⟩) (d 0 true) = true ∧
    signed 64 (1 * 2 ^ 32 + 0) = 2 ^ 32 ∧ (0 : Nat) < stitchesIn (2 ^ 32) := by
  intro d
  exact ⟨fun o => ⟨rfl, sound_of _ (by cases o <;> decide), rfl, rfl, rfl, rfl, rfl⟩, by decide⟩

theorem test_wit_TimeServo :
    let d : Nat → Dev := fun a => { up with
      objs := [(objKey 0x1400 0, 1), (objKey 0x1401 0, 5), (objKey 0x1A30 0, 128)], tbs := { align := a, badSyncs := 3 }, pke := { ports := [(7, { link := 2 })] } }
    isHeld (d 0) = false ∧ Sound (d 0) ∧ Sound (d 1) ∧ Sound (d 2) ∧ (∀ a < 3, timingSource (atTime 0 (d a)) = 1 ∧ disciplined (atTime 0 (d a)) = true ∧ pairWanted (atTime 0 (d a)) = true) ∧
    isAligned (atTime 0 (d 1)) = false ∧ (atTime 3000000000 (d 2)).tbs.lastSync + 3000000000 ≤ (atTime 3000000000 (d 2)).tbs.ns ∧
    timingOn (atTime 0 (d 1)) 7 = true ∧ linkUp (atTime 0 (d 1)) 7 = true := by
  intro d
  exact ⟨rfl, sound_of _ (by decide), sound_of _ (by decide), sound_of _ (by decide), fun a _ => ⟨rfl, rfl, rfl⟩, by decide⟩

theorem test_wit_PackageStates :
    let d : Bool → Dev := fun b => { up with objs := [(objKey 0x1C01 0, 9)], pwr := { booted := true, busy := b, entering := 1 } }
    let q : Req := ⟨.pf 0, 1, none, 5⟩
    (isHeld (d true) = false ∧ Sound (d true) ∧ Sound (d false)) ∧ granted q 0x1200 0 (packageErrs 1) (d true) = true ∧
    granted q 0x1200 0 (packageErrs 1) (d false) = true ∧ 1 ≠ (d false).pwr.state ∧
    (atTime 1000000 (d true)).pwr.since + transitionBound 0 1 ≤ powerNow 1000000 (atTime 1000000 (d true)) := by
  intro d q
  exact ⟨⟨rfl, sound_of _ (by decide), sound_of _ (by decide)⟩, by decide⟩

theorem test_wit_PowerDomains :
    let d : Nat → Bool → Dev := fun k b => { up with flt := { safe := false }, tiles := [(5, { on := true, idleSince := 0 })], tbs := { cnt := 7 }
                                                     pwr := { booted := true, imageFail := true, doms := [(k, { on := k == 127, moving := some (b, 0), padHeld := true })] } }
    let e : Dev := { up with tiles := [(5, { on := true })], tbs := { cnt := 7 }, pwr := { booted := true, imageFail := true, doms := [(127, { on := true, padHeld := true })] } }
    (isHeld (d 127 true) = false ∧ Sound (d 127 true) ∧ Sound e) ∧ (domAt (powerSettle 9 (atTime 9 (d 95 true))) 95).moving = some (true, 0) ∧
    (domAt (powerSettle 9 (atTime 9 (d 127 false))) 127).moving = some (false, 0) ∧
    (domAt (atTime 100000 (d 127 true)) 127).moving = some (true, 0) ∧ 0 + 4 * goodBound 127 ≤ 100000 ∧
    (tile e 5).on = true ∧ wanted (powerSettle 9 (atTime 9 e)) 5 = false ∧ (domAt (powerSettle 9 (atTime 9 e)) 5).moving = none ∧
    (tile e 5).holds = false ∧ (tile e 5).idleSince + 2 ≤ (atTime 9 e).tbs.cnt ∧
    hasPads 127 = true ∧ domOn (atTime 9 e) 127 = true ∧ padsHeld (atTime 9 e) 127 = true := by
  intro d e
  refine ⟨⟨rfl, ⟨up_sound.regs, up_sound.objs, up_sound.mem, up_sound.pair, up_sound.ring, { up_sound.tabs with tiles := rising_of _ rfl }⟩,
    ⟨up_sound.regs, up_sound.objs, up_sound.mem, up_sound.pair, up_sound.ring, { up_sound.tabs with tiles := rising_of _ rfl }⟩⟩, ?_⟩
  decide +kernel

theorem test_wit_PowerWake :
    let d : Nat → Dev := fun m => { up with objs := [(objKey 0x1214 0, m), (objKey 0x1C08 0, 128)], pwr := { booted := true, state := 3 } }
    let e : Dev := { up with tbs := { sleeping := true }, pwr := { booted := true, busy := true, doms := [(127, { on := true })] } }
    (isHeld (d 30) = false ∧ bit (objGet (atTime 0 (d 31)) 0x1214 0) 4 = true ∧ bit (objGet (atTime 0 (d 30)) 0x1214 0) 0 = false ∧
      (atTime 0 (d 31)).pwr.state ≠ 0 ∧ bit (objGet (atTime 0 (d 31)) 0x1C08 0) 7 = true ∧ (d 31).dsr.nodeId = up.dsr.nodeId) ∧
    (isHeld e = false ∧ e.tbs.sleeping = true ∧ e.pwr.busy = true ∧ e.pwr.entering ≠ 3 ∧ domOn e 127 = true ∧ e.pwr.lost.contains 0 = false) := by
  decide

theorem test_wit_PowerMonitors :
    let d : Dev := { up with objs := [(objKey 0x1102 0, 1), (objKey 0x1103 0, 5)], pwr := { booted := true, above := some 0, samples := [9000, 9000] } }
    isHeld d = false ∧ (atTime 10000000 d).pwr.above = some 0 ∧ powerCap (atTime 10000000 d) = some 5000 ∧ aboveCap (atTime 10000000 d) = true ∧
    (atTime 10000000 d).pwr.raised = none ∧ 0 + 10000000 ≤ (atTime 10000000 d).tbs.ns ∧ isClock 0 = true ∧ isClock 4 = true ∧
    d.pwr.lost.contains 0 = false ∧ (sensor d 19).failed = false := by decide

theorem test_wit_ResetPins : let d : Bool → Bool → Dev := fun p a => { up with pwr := { porLow := p, aonDown := a } }
    Sound up ∧ ∀ p a, (d p a).pwr.porLow = p ∧ (d p a).pwr.aonDown = a := ⟨up_sound, fun _ _ => ⟨rfl, rfl⟩⟩

theorem test_wit_ResetRequests :
    let d : Nat → Dev := fun st => { up with tiles := [(95, runTile)], pwr := { booted := true, state := st } }
    let q : Req := ⟨.pf 0, 1, none, 0⟩
    isHeld (d 0) = false ∧ Sound (d 0) ∧ Sound (d 1) ∧ granted q 0x1202 0 (fun _ => []) (d 0) = true ∧ granted q 0x1202 0 (fun _ => []) (d 1) = true ∧
    (atTime 0 (d 0)).pwr.resetAt = none ∧ (atTime 0 (d 0)).pwr.state = 0 ∧ (atTime 0 (d 1)).pwr.state ≠ 0 ∧ (atTime 0 (d 1)).flt.safe = false ∧
    (tile (atTime 0 (d 0)) 95).on = true ∧ (tile (atTime 0 (d 0)) 95).gone = false :=
  ⟨rfl, sound_of _ (by decide), sound_of _ (by decide), by decide⟩

theorem test_wit_SpdmConnection : let d : Nat → Dev := fun n => { up with links := [(0, { mse := true, up := true })], sec := { conns := [(0, n)] } }
    isHeld (d 0) = false ∧ isLink 0 = true ∧
      ∀ n ∈ [0, 1, 2, 3], doeServed (atTime 5 (d n)) 0 = true ∧ connOf (atTime 5 (d n)) 0 = n ∧ freeSession (atTime 5 (d n)) = some 0 := by
  decide

theorem test_wit_SecuredSessions : let d : Bool → Dev := fun b => { up with links := [(0, { mse := true, up := true })], sec := { sessions := [(2, { link := 0, last := 3, open_ := b })] } }
    ∀ b, isHeld (d b) = false ∧ isSession 2 = true ∧ doeServed (atTime 9 (d b)) 0 = true ∧
      tabFind (atTime 9 (d b)).sec.sessions 2 = some { link := 0, last := 3, open_ := b } := by decide
theorem test_wit_SecuredSessions_rising : Rising [(2, ({ link := 0, last := 3 } : Spdm))] := rising_of _ (by decide)

theorem test_wit_KeyInstallation : let d : Dev := { up with
      links := [(0, { mse := true, up := true })]
      sec := { sessions := [(2, { link := 0, last := 3, open_ := true })] }
      tenants := [(1, { st := 1, bound := 7 })] }
    isHeld d = false ∧ isSession 2 = true ∧ doeServed (atTime 9 d) 0 = true ∧
      tabFind (atTime 9 d).sec.sessions 2 = some { link := 0, last := 3, open_ := true } ∧
      installErrs (1 + 256 * 256 + 7 * 256 ^ 4) (atTime 9 d) = [] ∧ installErrs 2 (atTime 9 d) = [] ∧
      (installErrs 0 (atTime 9 d)).head? = some .range ∧ holdsBlocks (atTime 9 d) 1 = false := by decide

theorem test_wit_DebugUnlock : let d : Dev := { up with sec := { opKeyed := true } }
    granted ⟨.pf 0, 1, some ⟨256, 1, true⟩, 5⟩ 0x1610 0 (fun d => earned [(decide (255 < 1), .type), ((1 : Nat) != 1, .range), (!noSessions d, .state)]) d = true := by decide
theorem test_wit_DebugUnlock_sound : Sound { up with sec := { opKeyed := true } } := sound_of _ (by decide)

theorem test_wit_IsolatedInterfaces : let d : Nat → Dev := fun k => { up with
      links := [(0, { mse := true, up := true })]
      sec := { sessions := [(2, { link := 0, last := 3, open_ := true })], tdisp := if k = 0 then [] else [(1, k)] }
      tenants := [(1, { st := 2, bound := 1 })] }
    (∀ k ∈ [0, 1, 2], isHeld (d k) = false ∧ doeServed (atTime 9 (d k)) 0 = true ∧
      tabFind (atTime 9 (d k)).sec.sessions 2 = some { link := 0, last := 3, open_ := true } ∧ isFunction 1 = true ∧
      linkOfFn (atTime 9 (d k)) 1 = 0 ∧ tabGet 0 (d k).sec.tdisp 1 = k ∧ tenantAt (d k) 1 = some 1) ∧
    isSession 2 = true ∧ isFunction 32769 = true ∧ linkOfFn (atTime 9 (d 0)) 32769 ≠ 0 := by decide

/-- A block whose tenant 0 is keyed and runs slot 3. -/
def keyedDev : Dev :=
  { up with objs := [(objKey 0x3000 3, 0)], sess := [(3, { st := .running })], tenants := [(0, { st := 2, bound := 1, root := some 5 })] }
theorem test_wit_StreamKeys : isHeld keyedDev = false ∧ isSlot 3 = true ∧ (sess keyedDev 3).dests = [] ∧ (tenantOf keyedDev 0).segs = [] ∧
    granted ⟨.vf 0 false, 1, some ⟨0, 1, true⟩, 5⟩ 0x2060 0 (segmentKeyErrs 0 0 ⟨76, 0⟩ true) keyedDev = true := by decide
theorem test_wit_StreamKeys_stream :
    granted ⟨.vf 0 false, 1, some ⟨0, 1, true⟩, 5⟩ 0x3180 3 (streamKeyErrs 3 0 ⟨76, 1 + 2 * 256 + 32 * 65536⟩ true) keyedDev = true := by
  have h : streamKeyErrs 3 0 ⟨76, 1 + 2 * 256 + 32 * 65536⟩ true (atTime 5 keyedDev) = [] := by
    have z : unwrapFails (atTime 5 keyedDev) (ownerOf (atTime 5 keyedDev) 3) (1 + 2 * 256 + 32 * 65536) true = false := by
      have e : ∀ x, bytesAt x (byteAt (1 + 2 * 256 + 32 * 65536) 2) (32 - byteAt (1 + 2 * 256 + 32 * 65536) 2) = 0 := fun x => by
        show bytesAt x 32 0 = 0; simp [bytesAt, Nat.mod_one]
      unfold unwrapFails; rw [e]; rfl
    unfold streamKeyErrs; rw [z]; decide
  unfold granted; simp only [h]; decide

theorem test_wit_CounterClears : isHeld up = false ∧ Sound up ∧
    ∀ k ∈ [Reg.secCtrl.base, Reg.wrdCtrl.base, Reg.pkeIgrCtrl.base, Reg.pkeCtrl.base, Reg.dmcChanCtrl.at 0, Reg.mbxCtrl.base, Reg.dmaCtrl.base],
      regOpen (.pf 0) k false up = true := ⟨rfl, up_sound, by decide⟩

theorem test_wit_DramTraining : let d : Nat → Dev := fun h => { up with objs := [(objKey 0x1801 0, 2)], chans := [(0, { helper := h })] }
    (isHeld (d 0) = false ∧ isChan 0 = true ∧ chanState (d 1) 0 = 2 ∧ (chan (d 0) 0).action ≠ 2) ∧
    (∀ op ∈ [1, 2, 3, 4], trnErrs 0 (setBits (setBits (2 ^ 9 % 2 ^ 32) 0 3 op) 11 2 1) (d 0) = []) ∧
    (chan (d 0) 0).trainStart + 3000000000 ≤ (atTime 3000000000 (d 0)).tbs.ns ∧ (atTime 5 (d 0)).tbs.ns < 3000000000 := by decide
theorem test_wit_DramTraining_sound : ∀ h ∈ [0, 1, 2], Sound { up with objs := [(objKey 0x1801 0, 2)], chans := [(0, { helper := h })] } := by
  intro h hh; simp only [List.mem_cons, List.mem_nil_iff, or_false] at hh; rcases hh with rfl | rfl | rfl <;> exact sound_of _ (by decide)

theorem test_wit_DramRefresh : let d : Nat → Chan → Dev := fun st x => { up with objs := [(objKey 0x1800 0, 2 * 256 ^ 6), (objKey 0x1801 0, st)], chans := [(0, x)] }
    (isHeld (d 3 {}) = false ∧ isChan 0 = true ∧ chanActive (d 3 {}) 0 = true ∧ 1 < chanRanks (d 3 {}) ∧ (chan (d 3 { running := 1 }) 0).running = 1) ∧
    (let y := atTime 9 (d 4 { stage := 1, running := 0, waits := true }); chanState (powerSettle y.tbs.ns y) 0 = 4 ∧
      (chan (powerSettle y.tbs.ns y) 0).waits = true ∧ (chan (powerSettle y.tbs.ns y) 0).padHeld = false) ∧
    regOpen (.pf 0) (Reg.dmcChanCtrl.at 0) false (d 3 {}) = true := by decide +kernel
theorem test_wit_DramRefresh_sound : Sound { up with objs := [(objKey 0x1800 0, 2 * 256 ^ 6), (objKey 0x1801 0, 3)], chans := [(0, { running := 1 })] } :=
  sound_of _ (by decide)

theorem test_wit_ChannelFreeze : let d : Nat → Nat → Dev := fun st a => { up with objs := [(objKey 0x1801 0, st)], chans := [(0, { action := a })] }
    isHeld (d 3 0) = false ∧ isChan 0 = true ∧ inService (d 3 0) 0 = true ∧ inService (d 5 1) 0 = false ∧ chanActive (d 3 0) 0 = true ∧
    chanActive (d 5 1) 0 = false ∧ (∀ a ∈ [0, 1, 2, 3], chanState (d 5 a) 0 = 5 ∧ (chan (d 5 a) 0).action = a) := by decide
theorem test_wit_ChannelFreeze_sound : Sound { up with objs := [(objKey 0x1801 0, 5)], chans := [(0, { action := 1 })] } := sound_of _ (by decide)

/-- A block of which the physical function may allocate one block of pool 0: memory of one channel in service. -/
def poolDev : Dev :=
  { up with objs := [(objKey 0x1800 0, 2 * 256 ^ 6 + 2 ^ 34 * 256 ^ 8), (objKey 0x1801 0, 3), (objKey 0x1811 0, 2 ^ 34)] }
theorem test_wit_WardrobeBlocks : granted ⟨.pf 0, 1, none, 5⟩ 0x1815 0 (allocateErrs 256 ⟨16, 256⟩) poolDev = true ∧
    (allocBlock 1 256 .command (atTime 5 poolDev)).isSome = true ∧ isHeld poolDev = false ∧ served (atTime 5 poolDev) = true ∧
    lowest (writeErrs ⟨.pf 0, 1, none, 5⟩ 0x1815 0 (freeErrs 256 ⟨16, 0⟩ (atTime 5 poolDev)) (atTime 5 poolDev)) = some .integrity := by decide +kernel
theorem test_wit_WardrobeBlocks_free : let r := allocBlock 1 256 .command (atTime 5 poolDev)
    (r.map fun e => granted ⟨.pf 0, 1, none, 5⟩ 0x1815 0 (freeErrs 256 ⟨16, handleOf e.2 e.1 * 2 ^ 64⟩) e.2) = some true := by decide +kernel

theorem test_wit_WardrobeUpkeep : let o := fun (st : Nat) => [(objKey 0x1800 0, 2 ^ 34 * 256 ^ 8), (objKey 0x1801 0, st), (objKey 0x1811 0, 64), (objKey 0x1812 0, 1), (objKey 0x1817 1, 3)]
    let d : Nat → Dev := fun st => { up with objs := o st }
    let e : Dev := { up with objs := o 3, regs := [(Reg.wrdChanStat.base, 2)] }
    let f : Dev := { up with objs := o 3, dmaCh := [(0, { run := some { d := { opcode := 7 }, fn := 257, sq := 0 } })] }
    (isHeld (d 3) = false ∧ isChan 0 = true ∧ inService (d 3) 0 = true ∧ fillState (d 3) 0 ≠ 2 ∧ fillMark (d 3) 0 < chanCapacity (d 3)) ∧
    inService (d 5) 0 = false ∧ (dmaChan f 0).run = some { d := { opcode := 7 }, fn := 257, sq := 0 } ∧
    scrubs e 0 = true ∧ lineOutcome e 0 0 1 = 1 ∧ lineOutcome e 0 0 2 = 2 ∧ scrubs (d 3) 0 = false ∧
    regOpen (.pf 0) (Reg.wrdFlipCtrl.at 1) false up = true ∧ flipErrs 1 (setBits (0 % 2 ^ 32) 0 1 1) (atTime 5 up) = [] ∧
    pairState (d 3) 1 = 3 ∧ pairState (d 3) 0 ≠ 3 := by decide +kernel
theorem test_wit_WardrobeUpkeep_idle : chanIdle { up with regs := [(Reg.dmaChCtrl.at 0, 1)] } 0 = true := by decide

theorem test_wit_DescriptorMoves : let r : Nat → Nat → Nat → Running := fun op fn sq =>
      { d := { opcode := op, format := 255, length := 9216, hostAddr := 4096 }, fn := fn, sq := sq }
    let d : Running → Dev := fun r => { up with dmaCh := [(24, { run := some r })] }
    isHeld (d (r 9 256 7)) = false ∧ (dmaChan (atTime 5 (d (r 9 256 7))) 24).run = some (r 9 256 7) ∧
    descErrs (atTime 5 (d (r 9 256 7))) (r 9 256 7) {} true = [] ∧
    descErrs (atTime 5 (d { r 8 256 0 with d := { opcode := 8, format := 255, length := 60 } })) { r 8 256 0 with d := { opcode := 8, format := 255, length := 60 } } {} true = [] ∧
    (∀ op ∈ [1, 2, 3, 4, 5, 6, 8], (descErrs (atTime 5 (d (r op 256 7))) (r op 256 7) {} true).head?.isSome = true) := by decide +kernel

theorem test_wit_ChannelStops : let r : Running := { d := { opcode := 8, format := 255, length := 60 }, fn := 256, sq := 0 }
    let d : Dev := { up with dmaCh := [(24, { run := some r })], tiles := [(3, { on := true })] }
    isHeld d = false ∧ regOpen (.pf 0) (Reg.dmaChCtrl.at 24) false d = true ∧ (dmaChan d 24).run = some r ∧ (dmaChan d 25).run = none ∧
    descErrs (atTime 5 d) r {} true = [] ∧ isLink 0 = true ∧ homeExists (.tile 3) = true ∧ homeExists (.channel 24) = true ∧
    homeExists (.queue 256 0) = true ∧ homeExists (.other 9) = true ∧ (tile d 3).on = true ∧ (tile d 3).gone = false ∧ (tile d 3).awaits = none ∧
    (atTime 5 d).pwr.resetAt = none ∧ (∀ e ∈ (atTime 5 d).dmaCh, ∀ r, e.2.run = some r → r.doorbell = false) := by
  refine ⟨by decide, by decide, by decide, by decide, by decide +kernel, by decide, by decide, by decide, by decide, by decide, by decide, by decide, by decide, by decide, ?_⟩
  intro e he r hr
  have : e = (24, { run := some { d := { opcode := 8, format := 255, length := 60 }, fn := 256, sq := 0 } }) := by simpa [atTime, up] using he
  subst this; cases hr; rfl

theorem test_wit_HostAccesses : (isHeld up = false ∧ up.pwr.resetAt = none ∧ reaches up (.pf 0) = true ∧ ideRefuses up (.pf 0) = false ∧
      isLink 0 = true ∧ callerExists (.pf 0) = true) ∧ isPfPage 0x3000000 = false ∧ goErrs 256 20 up = [] ∧
    layoutBad (getWords up ((20 + 3) / 4) Reg.mbxReqData.base % 256 ^ 20) 20 = true ∧
    (let d : Dev := { up with regs := [(Reg.mbxReqData.base, 1 + 256), (Reg.mbxReqData.base + 8, 65535)] }; goErrs 256 20 d = [] ∧
      layoutBad (getWords d ((20 + 3) / 4) Reg.mbxReqData.base % 256 ^ 20) 20 = false) ∧
    hasParity Reg.loomCtrl.base = true ∧ queueObj (queueOfObj 0x1130 0) = (0x1130, 0) ∧ isQueueObj 0x1130 = true := by decide +kernel
theorem test_wit_HostAccesses_write : let k := Reg.irqRoute.base
    ((regRowOf k).map fun e => regErrs (.pf 0) e.1 e.2 0 (atTime 5 up) == [] && (frontAct (.pf 0) e.1.reg e.2 0 (atTime 5 up)).isNone &&
      (blockAct (.pf 0) e.1.reg e.2 0 (atTime 5 up)).isNone && (memAct (.pf 0) e.1.reg e.2 0 (atTime 5 up)).isNone &&
      regOpen (.pf 0) k (safeWritable e.1.reg 0) (atTime 5 up) && regErrs (.pf 0) e.1 e.2 (2 ^ 31) (atTime 5 up) != []) = some true ∧
    k % 4 = 0 ∧ k < 0x4000000 ∧ isPfPage k = true ∧ k / 4096 ≠ 4 ∧ viewOf k = 0 := by decide +kernel
theorem test_wit_HostAccesses_queue : let v := 4 * 256 ^ 8
    granted ⟨.pf 0, 1, none, 5⟩ 0x1130 0 (fun d => typeErrs 0x1130 ⟨16, v⟩ ++ queueErrs (queueOfObj 0x1130 0) v d) up = true := by
  decide +kernel

theorem test_wit_SpaysRequests : let q : Req := ⟨.pf 0, 1, none, 5⟩
    isHeld up = false ∧ served (atTime 5 up) = true ∧ readRights (atTime 5 up) q 0x1000 0 = [] ∧
    lowest (readRights (atTime 5 up) q 0x0FFF 0 ++ readOffset (atTime 5 up) q 0x0FFF 0 0) = some .index ∧
    (objRowOf 0x1000).isSome = true ∧ describeErrs (atTime 5 up) q 0x1000 0 = [] ∧ lowest (describeErrs (atTime 5 up) q 0x0FFF 0) = some .index ∧
    ((objRowOf 0x1321).map (·.hasSub 0)) = some true ∧ (deviceRow q 0x1321 ⟨1, 1⟩).isNone = true ∧ (slotRow q 0x1321 0 ⟨1, 1⟩).isNone = true ∧
    paramRow 0x1321 = none ∧ granted q 0x1321 0 (objErrs 0x1321 0 ⟨1, 1⟩) up = true := by decide +kernel

theorem test_wit_LinkFunctions : (isHeld up = false ∧ Sound up ∧ isLink 0 = true) ∧ linkPresent (atTime 5 up) 0 = true ∧ lanesOk (atTime 5 up) 0 16 = true ∧
    lanesOk (atTime 5 up) 0 3 = false ∧ (link up 0).vfEnable = false ∧ vfEnableErrs 0 8 true up = [] ∧ vfEnableErrs 0 8 false up ≠ [] ∧ isSlot 1 = true :=
  ⟨⟨rfl, up_sound, rfl⟩, by decide⟩
theorem test_wit_LinkFunctions_tenant : let d : Dev := { up with tenants := [(1, { st := 2, bound := 1, root := some 3 })] }
    isHeld d = false ∧ (tenantOf (atTime 5 d) 1).st ≠ 0 ∧ 1 ∈ tenantsBehind (atTime 5 d) 0 := by decide
theorem test_wit_LinkFunctions_sound : Sound { up with tenants := [(1, { st := 2, bound := 1, root := some 3 })] } := sound_of _ (by decide)

theorem test_wit_StartUp : let off : Dev := { pwr := { doms := [(127, { on := true })] } }
    let ready : Nat → Dev := fun b => { up with
      objs := [(objKey 0x1801 0, 3)], regs := [(Reg.wrdChanStat.base, 2)]
      tiles := (List.range 96).map fun t => (t, { boot := b }) }
    (isHeld off = false ∧ domOn (atTime 5 off) 127 = true ∧ (atTime 5 off).pwr.booted = false ∧ isHeld (ready 2) = false) ∧
    (∀ b ∈ [2, 3], memoryReady (atTime 5 (ready b)) = true ∧ objGet (atTime 5 (ready b)) 0x1C01 0 ≠ 10 ∧ startHeld (atTime 5 (ready b)) = false ∧
      (∀ t ∈ bootTiles (atTime 5 (ready b)), (tile (atTime 5 (ready b)) t).boot = b)) ∧ bootTiles (ready 2) ≠ [] := by decide +kernel

theorem test_wit_EgressTables : let q : Req := ⟨.pf 0, 1, none, 5⟩
    let d : Dev := { up with objs := [(objKey 0x3000 3, 0)], sess := [(3, { st := .running })], tenants := [(0, { st := 2, bound := 1, root := some 5 })] }
    granted q 0x1A00 0 (portModeErrs 1) up = true ∧
    granted ⟨.vf 0 false, 1, none, 5⟩ 0x3064 3 (fun d => earned [(decide (255 < 1), .type), ((1 : Nat) != 1, .range),
      ((sess d 3).st != .running && (sess d 3).st != .paused, .state)]) d = true ∧
    (isHeld d = false ∧ isSlot 3 = true ∧ (sess d 3).dests = [] ∧ (sess (atTime 5 d) 3).tx.srAt = none ∧ (sess (atTime 5 d) 3).tx.silent = false) ∧
    [SessSt.running, .paused, .suspended, .draining].contains (sess (atTime 5 up) 3).st = false := by decide +kernel
theorem test_wit_EgressTables_dest : let src := 0xFFFF * 256 ^ 10 + 5 * 256 ^ 12
    let v := 256 ^ 0x13 + src * 256 ^ 0x18 + src * 256 ^ 0x28
    let sh := 1000 + 1000 * 256 ^ 4 + 65536 * 256 ^ 8 + 65536 * 256 ^ 12 + 65536 * 256 ^ 0x14
    let d : Dev := { up with objs := [(objKey 0x1A00 0, 1), (objKey 0x1A02 0, 9000), (objKey 0x1A20 0, src), (objKey 0x3000 3, 0), (objKey 0x3078 3, 0)], sess := [(3, { st := .running })], tenants := [(0, { st := 2, bound := 1, root := some 5 })] }
    (granted ⟨.vf 0 false, 1, none, 5⟩ 0x3140 3 (shaperErrs 3 0 ⟨32, sh⟩) d = true) ∧
    granted ⟨.vf 0 false, 1, none, 5⟩ 0x3100 3 (destErrs 3 0 ⟨64, v⟩) d = true := by decide +kernel

theorem test_wit_EgressPorts : let k : Pkt := { kind := 8, size := 60, bytes := 64, cost := 64 }
    let d : Nat → Dev := fun link => { up with objs := [(objKey 0x1A00 0, 1), (objKey 0x1A11 0, 2 + 300 * 256 ^ 4 + 127 * 256 ^ 8 + 100 * 256 ^ 12)], regs := [(Reg.pkeCtrl.base, 1)], pke := { ports := [(0, { link := link, trainingFrom := some 0, queues := [(5, [k])] })], stamps := [(0, 1, 2, 3)] } }
    (isHeld (d 2) = false ∧ isPort 0 = true ∧ portPresent (d 2) 0 = true ∧ linkUp (d 2) 0 = true ∧ linkUp (d 1) 0 = false ∧ portPresent up 3 = false) ∧
    (port (d 2) 0).entry + 1 < gateCount (gateList (d 2) 0) ∧ (port (d 2) 0).entryAt + gateDur (gateList (d 2) 0) 0 ≤ (atTime 300 (d 2)).tbs.ns ∧
    (selectClass 0 classOrder (atTime 5 (d 2))).2 = some 5 ∧ classQueue (selectClass 0 classOrder (atTime 5 (d 2))).1 0 5 = [k] ∧
    (d 2).pke.stamps = [(0, 1, 2, 3)] ∧ (port (d 2) 0).trainingFrom = some 0 ∧ 0 + 500000000 ≤ (atTime 500000000 (d 2)).tbs.ns ∧
    up.pwr.resetAt = none ∧ reachesPf (.pf 0) = true ∧ reaches up (.pf 0) = true ∧ ideRefuses up (.pf 0) = false ∧
    regOpen (.pf 0) Reg.pkeCtrl.base false up = true ∧ isSlot 3 = true := by decide +kernel

theorem test_wit_Learning : let c : Candidate := { pipe := 0, g := 0, addr := 5, port := 6, stamp := 10, gen := 0 }
    let d : Dev := { up with objs := [(objKey 0x1A44 0, 2), (objKey 0x1A46 0, 1)], pke := { candidates := [c] } }
    isHeld d = false ∧ d.pke.candidates = [c] ∧ c.stamp + 4000 ≤ (atTime 4010 d).tbs.ns ∧ (atTime 50 d).tbs.ns < c.stamp + 4000 ∧
    (sess d 0).dests = [] ∧ up.pke.candidates = [] ∧ objNow (atTime 4010 d) 0x1A46 0 ≠ 0 ∧ objGet (atTime 4010 d) 0x1A44 0 ≠ 0 ∧
    d.pke.cmpLast + 1000 ≤ (atTime 4010 d).tbs.ns ∧ objNow (atTime 5 up) 0x1A46 0 = 0 := by decide +kernel

theorem test_wit_FeedbackPackets : let d : Dev := { up with objs := [(objKey 0x307D 3, 2), (objKey 0x3080 3, 1), (objKey 0x3083 3, 1)], sess := [(3, { st := .running, tx := { next := 5 }, pkts := [(4, { frame := 2, stored := true, copies := [{ e := 0, tw := 0, sentAt := some 3 }] })], dests := [(0, { st := 3 })] })], streams := [(3, { past := [(2, { st := 1 })], frames := [{ count := some 2 }] })] }
    (isHeld d = false ∧ isSlot 3 = true ∧ seqIndex d 3 9 = none ∧ seqIndex d 3 4 = some 4 ∧ (copyAt d 3 4 0).map (·.resends) = some 0) ∧
    ((copyAt d 3 4 0).map (·.resending) = some false ∧ (dest d 3 0).st ≠ 0 ∧ (pktAt d 3 4).stored = true ∧ isBinding d 3 0 = true ∧ isBinding d 3 1 = false) ∧
    (stream d (liveSid 3)).past.length = 1 ∧ (dest d 3 0).timedOut = false ∧ (dest d 3 0).lastFeedback + 1000000 * objNow d 0x3083 3 ≤ (atTime 1000000 d).tbs.ns := by
  decide +kernel

/-- A block whose session 3 of tenant 0 runs with a window of 64 × 64 frames in three slots. -/
def withIntake : Dev := { up with
  links := [(0, { mse := true, vfMse := true })], regs := [(Reg.dmaIntakeCtrl.base, 1)], objs := [(objKey 0x3000 3, 0),
    (objKey 0x3014 3, 64), (objKey 0x3015 3, 64), (objKey 0x3016 3, 1), (objKey 0x3030 3, 3)],
  tenants := [(0, { st := 2, bound := 1 })], sess := [(3, { st := .running, window := some 0 })] }
theorem test_wit_IntakeAccesses : let d := withIntake
    soundB d = true ∧ (isHeld d = false ∧ isSlot 3 = true ∧ isSlot 0 = true ∧ hostReaches (.vf 0 false) d = true) ∧
    (creditDue d 3 (d.tbs.cnt + 1) = true ∧ creditDue up 3 up.tbs.cnt = false ∧ creditDue up 3 (up.tbs.cnt + 1) = false) ∧
    (windowAt d 0 0 = some 3 ∧ windowAt d 0 (2 ^ 40) = none ∧ intakeOn d = true ∧
      bandAtOffset (partsOf (intakePrm d 3)) 0 = some 0 ∧ bandAtOffset (partsOf (intakePrm d 3)) (strideOf (intakePrm d 3) - 1) = none ∧
      regionSealed d 3 0 0 = false) ∧
    (intakeOn { d with flt := { safe := true } } = false ∧ windowAt { d with flt := { safe := true } } 0 0 = some 3) ∧
    (regionSealed { d with streams := [(3, { frames := [{ bands := [{ st := 1 }] }] })] } 3 0 0 = true) := by decide +kernel
theorem test_wit_IntakeAccesses_doorbell : let d := withIntake
    doorbellErrs d 0 3 = [] ∧ (sess d 3).splice = none ∧ openFrame d 3 0 = none ∧
    doorbellErrs { d with sess := [(3, { st := .running, splice := some 1 })] } 0 3 = [] ∧
    lowest (doorbellErrs d 0 4) = some .access ∧ lowest (doorbellErrs d 0 (3 + 256)) = some .range ∧
    ownerOf d 3 = 0 ∧ ownerOf d 4 ≠ 0 := by decide +kernel
theorem test_wit_IntakeAccesses_rest : let d : Dev := { withIntake with tbs := { ns := 1000000 }, streams := [(3, { frames := [{ count := some 0, bands := [{}] }] })] }
    ((sess d 3).st = .running ∧ objGet d 0x3010 3 = 0 ∧ ((stream d (liveSid 3)).frames.map (substDue d 3 (stitchesIn d.tbs.ns))) = [true]) ∧
    (regOpen (.pf 0) (Reg.dmaIntakeWm.at 3) false d = true ∧ regOpen (.pf 0) Reg.dmaHoldStatus.base false d = true) := by decide +kernel

theorem test_wit_SessionCommands : let q : Req := ⟨.vf 0 false, 1, some ⟨0, 1, true⟩, 5⟩
    soundB (withSession { st := .defined } owned) = true ∧
    (granted q 0x3003 3 (defineErrs 3) (withSession {} ((objKey 0x2001 0, 1) :: (objKey 0x2002 0, 4) :: [(objKey 0x3000 3, 0)])) = true) ∧
    granted q 0x3003 3 (stateErrs 3 [.defined]) (withSession { st := .defined } owned) = true ∧
    granted q 0x3003 3 (stateErrs 3 [.armed]) (withSession { st := .armed } owned) = true ∧
    granted q 0x3003 3 (stateErrs 3 [.running]) (withSession { st := .running } owned) = true ∧
    granted q 0x3003 3 (resumeErrs 3) (withSession { st := .paused } owned) = true ∧
    granted q 0x3003 3 (drainErrs 3) (withSession { st := .armed } owned) = true ∧
    granted q 0x3003 3 (drainErrs 3) (withSession { st := .running } owned) = true ∧
    granted ⟨.pf 0, 1, none, 5⟩ 0x3004 3 (operatorDrainErrs 3 1) (withSession { st := .running } owned) = true := by decide +kernel
theorem test_wit_SessionCommands_arm : let q : Req := ⟨.vf 0 false, 1, some ⟨0, 1, true⟩, 5⟩
    let d := withSession { st := .defined } (owned ++ [(objKey 0x3010 3, 2), (objKey 0x30C0 3, 0)])
    let e : Dev := { d with objs := [(objKey 0x1800 0, 2 ^ 32 * 256 ^ 8), (objKey 0x1801 0, 3), (objKey 0x1811 0, 2 ^ 31), (objKey 0x1C01 0, 9),
      (objKey 0x2001 0, 1), (objKey 0x3000 3, 0), (objKey 0x3010 3, 2), (objKey 0x301B 3, 1), (objKey 0x30C0 3, 0)] }
    (granted q 0x3003 3 (armErrs 3) d = true ∧ objGet (atTime 5 d) 0x301B 3 ≠ 1) ∧
    soundB e = true ∧ (granted q 0x3003 3 (armErrs 3) e = true ∧ objGet (atTime 5 e) 0x301B 3 = 1) ∧
    granted q 0x3003 3 (startErrs 3) (withSession { st := .armed, dests := [(0, { st := 1, key := some (1, 2) })] }
      (owned ++ [(objKey 0x3100 3, 1)])) = true := by decide +kernel
theorem test_wit_SessionCommands_waits : let w : ArmWait := { req := ⟨.vf 0 false, 1, none, 5⟩, deadline := 2000005 }
    let d := withSession { armWait := some w } owned
    let e := withSession { st := .draining, drainAt := some 0 } owned
    let z : Dev := { e with streams := [(3, { frames := [{ count := some 0, bands := [{}] }] })] }
    (sess (atTime 5 d) 3).armWait = some w ∧ (atTime 5 d).tbs.ns < w.deadline ∧ w.deadline ≤ (atTime 3000000 d).tbs.ns ∧
    ((sess (atTime 9000000000 z) 3).drainAt = some 0 ∧ (sess (atTime 9000000000 z) 3).st = .draining ∧ drainFrameDone (atTime 9000000000 z) 3 = false ∧
      4 * chargePeriod (params z 3) * 2500000 ≤ ((atTime 9000000000 z).tbs.ns - 0) * 9) ∧
    drainDone 3 (noteQuiet 3 (atTime 9000000000 (withSession { st := .draining, drainAt := some 0, quietFrom := some 0 } owned))) = true ∧
    drainDone 3 (noteQuiet 3 (atTime 5 z)) = false := by decide +kernel
theorem test_wit_SessionCommands_bind : let q : Req := ⟨.pf 0, 1, none, 5⟩
    let own := fun v d => earned [(decide (65535 < v), .type)] ++ bindErrs 0 v d
    let d := withSession {} [(objKey 0x2001 0, 1)]
    granted q 0x2001 0 (own 1) d = true ∧ granted q 0x2001 0 (own 0xFFFF) d = true ∧ granted q 0x2001 0 (own 1) up = true ∧
    (1 = (tenantOf d 0).bound ∧ 1 ≠ (tenantOf up 0).bound) ∧
    (up.tbs.running = true ∧ up.tbs.cnt ≤ up.tbs.presented ∧ up.pwr.resetAt = none) := by decide +kernel

/-- A block whose tenant 0 holds a library entry and owns session 3, which runs. -/
def withEntry (x : LibEntry) : Dev := { up with
  links := [(0, { mse := true, vfMse := true })], tenants := [(0, { st := 2, bound := 1, root := some 5 })],
  objs := [(objKey 0x2001 0, 1), (objKey 0x2011 0, 1), (objKey 0x3000 3, 0)], sess := [(3, { st := .running })], lib := [(0, x)] }
/-- A block of 64 MiB that holds the header of a segment without entries. -/
def withSegment : Dev := { withSession {} owned with
  mem := (List.range 64).map (fun i => (i, if i = 6 then 2 else 0)),
  wrd := { frames := [(0, 6)], blocks := [(blockKey 5 0 0, { pool := 5, use := .command })] } }
/-- A session whose ring holds one clip point, with room for a replacement block. -/
def withRing : Dev := { up with
  links := [(0, { mse := true, vfMse := true })], tenants := [(0, { st := 2, bound := 1, root := some 5 })],
  objs := [(objKey 0x1800 0, 2 ^ 32 * 256 ^ 8), (objKey 0x1801 0, 3), (objKey 0x1811 0, 2 ^ 31), (objKey 0x2001 0, 1), (objKey 0x2027 0, 1),
    (objKey 0x3000 3, 0), (objKey 0x301A 3, 1)],
  sess := [(3, { st := .running, ring := some { blocks := [{ key := 5, entries := [{ flags := 4 }] }] } })] }
def askOf : Req := ⟨.vf 0 false, 1, none, 5⟩
theorem test_wit_ClipsAndSplices_freeze : soundB withRing = true ∧ granted askOf 0x30A2 3 (freezeErrs 3 ⟨20, 0⟩) withRing = true := by decide +kernel
theorem test_wit_ClipsAndSplices_library : let v : Payload := ⟨16, 1 + (5 + 2 ^ 13) * 256 ^ 8⟩
    (granted askOf 0x2010 0 (libraryErrs 0 v) withSegment = true ∧ byteAt v.val 0 = 1) ∧
    granted askOf 0x2010 0 (libraryErrs 0 ⟨16, 2⟩) (withEntry { st := 3, kind := 1 }) = true ∧
    granted askOf 0x2010 0 (libraryErrs 0 ⟨16, 3⟩) (withEntry { st := 3, kind := 1 }) = true := by decide +kernel
theorem test_wit_ClipsAndSplices_verify : let c : CapBlock := { key := 5 }
    let d := withEntry { st := 2, kind := 2, entries := [] }
    let e := withEntry { st := 2, kind := 2, entries := [{}] }
    let h : SeqHdr := { height := 64 }
    let x : CapEntry := { flags := 6, intra := true }
    let b : CapBlock := { key := blockKey 5 0 0, kind := 2, used := 128, entries := [x] }
    let g : Dev := { withEntry { st := 2, kind := 2, blocks := [b], entries := [x] } with
      mem := (List.range 64).map (fun i => (i, bytesAt b.header i 1)), wrd := withSegment.wrd }
    (isHeld d = false ∧ isSlot 0 = true ∧ (libEntry (atTime 5 d) 0 0).st = 2 ∧ (libEntry (atTime 5 d) 0 0).entries.length = 0 ∧
      verifyErr (atTime 5 d) (libEntry (atTime 5 d) 0 0) [] [] [] = some .integrity) ∧
    ((libEntry (atTime 5 e) 0 0).st = 2 ∧ (libEntry (atTime 5 e) 0 0).entries.length = 1) ∧
    verifyErr (atTime 5 g) (libEntry (atTime 5 g) 0 0) [{ seqHdr := some h, intra := true }]
      (List.zipWith verified [x] [{ seqHdr := some h, intra := true }]) [h] = none ∧
    ([({ seqHdr := some h } : SegBand)].filterMap (·.seqHdr)).eraseDups = [h] ∧
    (libEntry (atTime 5 (withEntry { st := 3 })) 0 0).st ≠ 2 := by decide +kernel
/-- The settings under which session 3 of `withEntry` sends its header. -/
def entryHeader : Nat := Config.sequenceHeader (sequenceSettings (withEntry {}) 3)
def matching : LibEntry := { st := 3, kind := 2, width := 1920, height := 1080, depth := 8, period := 30, layers := 1, seqHdr := entryHeader }
theorem test_wit_ClipsAndSplices_splice : granted askOf 0x30B0 3 (spliceErrs 3 0) (withEntry matching) = true := by
  have h : segmentMatches (atTime 5 (withEntry matching)) 3 (libEntry (atTime 5 (withEntry matching)) 0 0) = true := by
    unfold segmentMatches
    have e : decide ((libEntry (atTime 5 (withEntry matching)) 0 0).seqHdr = Config.sequenceHeader (sequenceSettings (atTime 5 (withEntry matching)) 3)) = true :=
      decide_eq_true (congrArg Config.sequenceHeader (by decide +kernel : sequenceSettings (withEntry {}) 3 = sequenceSettings (atTime 5 (withEntry matching)) 3))
    rw [e]; decide +kernel
  have e : spliceErrs 3 0 (atTime 5 (withEntry matching)) = [] := by
    unfold spliceErrs
    have h2 : ownerOf (atTime 5 (withEntry matching)) 3 = 0 := by decide +kernel
    dsimp only
    rw [h2, h]; decide +kernel
  unfold granted
  dsimp only [askOf]
  rw [e]; decide +kernel
theorem test_wit_ClipsAndSplices_return : granted askOf 0x30B1 3 (spliceReturnErrs 3 1) (withSession { st := .running, splice := some 0 } owned) = true := by
  decide +kernel

theorem test_wit_PairingCommands : let d : Nat → Dev := fun st => { up with
      objs := [(objKey 0x1101 0, 1), (objKey 0x1400 0, 1), (objKey 0x1401 0, 3), (objKey 0x1C01 0, 9)]
      tbs := { align := 2, ns := 2000000000, cnt := 7200, running := true }
      pair := { st := st, since := 5, keyed := st != 1 } }
    let y : Nat → Dev := fun st => atTime 0 (d st)
    (∀ k ∈ [0, 1, 2, 3, 4, 5], isHeld (d k) = false ∧ soundB (d k) = true) ∧ granted ⟨.pf 0, 1, none, 5⟩ 0x1400 0 (pairEnableErrs 1) (d 0) = true ∧
    ((y 1).pair.st = 1 ∧ (y 1).pair.since + 200000000 ≤ (y 1).tbs.ns) ∧
    ((y 5).pair.st = 5 ∧ pairWanted (y 5) = true ∧ (y 5).pair.since + 1000000000 ≤ (y 5).tbs.ns) ∧
    ((y 4).sec.rngFail = false ∧ (y 4).sec.debug = false ∧ isAligned (y 4) = true ∧ objGet (y 4) 0x1101 0 = 1) ∧
    (isAligned { y 4 with tbs := { (y 4).tbs with align := 1 } } = false ∧ objGet { y 4 with objs := [(objKey 0x1101 0, 2)] } 0x1101 0 ≠ 1) ∧
    ((y 1).pair.st = 1 ∧ (y 1).pair.keyed = false ∧ shareOk (y 1) true true true 0 0 = true ∧ shareOk (y 1) true false true 0 0 = false) ∧
    ((y 2).pair.st = 2 ∧ (y 2).pair.probe = none ∧ max (objGet (y 2) 0x140B 0) (stitchesIn (y 2).pair.since) + objNow (y 2) 0x1406 0 < (y 2).tbs.cnt) ∧
    ((y 3).pair.st = 3 ∧ (y 3).pair.probe = none ∧ (y 3).pair.probedAt + 36 ≤ (y 3).tbs.cnt) := by decide +kernel
theorem test_wit_PairingCommands_messages : let d : Nat → Dev := fun st => { up with
      objs := [(objKey 0x1401 0, 3)]
      tbs := { align := 2, ns := 2000000000, cnt := 7200, running := true }
      pair := { st := st, since := 5, keyed := true, probe := some 5 } }
    let y : Nat → Dev := fun st => atTime 0 (d st)
    (∀ k ∈ [0, 1, 2, 3, 4], isHeld (d k) = false ∧ soundB (d k) = true ∧ (y k).pair.st = k ∧ mirrorOk (y k) 2 { ty := 2, counter := 1 } = true ∧
      mirrorOk (y k) 1 { ty := 1, counter := 1 } = true ∧ mirrorOk (y k) 2 { ty := 2 } = false ∧ mirrorOk (y k) 1 { ty := 1 } = false) ∧
    objGet (y 1) 0x1401 0 = 3 ∧
    (isProbing (y 0) = false ∧ isProbing (y 2) = true ∧ isProbing (y 3) = true ∧ (y 3).pair.probe = some 5 ∧ 5 + 2000000 ≤ (y 3).tbs.ns) ∧
    (isProbing (atTime 0 { d 3 with tbs := {} }) = true ∧ (atTime 0 { d 3 with tbs := {} }).tbs.ns < 5 + 2000000) := by decide +kernel
theorem test_wit_PairingCommands_identity : let d : Dev := { up with
      objs := [(objKey 0x1401 0, 3)]
      pair := { st := 1, keyed := true } }
    let m : MirrorMsg := { ty := 2, counter := 1, nums := [3, objGet d 0x1001 0, objGet d 0x1004 0, 1] }
    mirrorOk (atTime 0 d) 2 m = true ∧ m.nums.getD 1 0 = objGet (atTime 0 d) 0x1001 0 ∧ m.nums.getD 2 0 = objGet (atTime 0 d) 0x1004 0 ∧
      m.nums.getD 3 0 = 1 := ⟨by decide +kernel, rfl, rfl, rfl⟩

theorem test_wit_MirrorMessages : let d : Dev := { up with
      objs := [(objKey 0x2001 0, 1), (objKey 0x3000 3, 0), (objKey 0x3014 3, 1280), (objKey 0x3015 3, 720), (objKey 0x3091 3, 4), (objKey 0x4000 4, 2), (objKey 0x4001 4, 3), (objKey 0x4002 4, 0), (objKey 0x4003 4, 3)]
      tenants := [(0, { st := 2, bound := 1, root := some 5 })]
      linPrm := [(65536 * 4 + 0x3014, 1280), (65536 * 4 + 0x3015, 720)]
      sess := [(3, { st := .running, kept := [{ msg := { ty := 8, lining := 4, mseq := 1 }, sentAt := 39990000 }] })]
      tbs := { ns := 40000000, cnt := 144 }
      pair := { st := 2, keyed := true } }
    let msg : Nat → Nat → MirrorMsg := fun k n => { ty := k, session := 3, lining := 4, mseq := n, counter := 1, nums := [1] }
    let y := atTime 0 d
    (isHeld d = false ∧ soundB d = true) ∧
    (∀ k ∈ [5, 6, 7, 8, 13], mirrorOk y k (msg k 1) = true ∧ mirrorOk y k { msg k 1 with epoch := 1 } = false ∧ linOpen y 4 = true ∧
      objGet y 0x4005 4 = 0 ∧ (lining y 4).waiting = []) ∧ linOpen y 5 = false ∧
    (frameAt y (liningSid 4) 0 = none ∧ (stream y (liningSid 4)).count ≤ 0 ∧ 0 < bandCount y (liningSid 4)) ∧
    (mirrorOk y 9 (msg 9 1) = true ∧ mirrorOk y 9 (msg 8 1) = false ∧ mirrorOk y 10 (msg 10 1) = true ∧ mirrorOk y 14 (msg 14 1) = true) ∧
    (linkedLining y 3 = some 4 ∧ isSlot 3 = true) := by decide +kernel
theorem test_wit_MirrorMessages_waits : let d : Dev := { up with
      objs := [(objKey 0x1401 0, 3), (objKey 0x2001 0, 1), (objKey 0x3000 3, 0), (objKey 0x3091 3, 4), (objKey 0x4000 4, 2), (objKey 0x4002 4, 0), (objKey 0x4005 4, 1)]
      tenants := [(0, { st := 2, bound := 1, root := some 5 })]
      streams := [(liveSid 3, { coders := [(2, [7])] }), (liningSid 4, { count := 6, frames := [{ count := some 5, bands := [{}, {}] }] })]
      linings := [(4, { waiting := [(9, { ty := 8 })], arrived := [(9, 5)] })]
      sess := [(3, { st := .running })]
      tbs := { ns := 40000000, cnt := 144 }
      pair := { st := 2, keyed := true } }
    let msg : Nat → Nat → MirrorMsg := fun k n => { ty := k, session := 3, lining := 4, mseq := n, counter := 1, nums := [1, 0, 0, 0, 2] }
    let y := atTime 0 d
    (isHeld d = false ∧ soundB d = true) ∧
    (∀ k ∈ [5, 6, 7, 8, 13], mirrorOk y k (msg k 8) = true ∧ linOpen y 4 = true ∧ objGet y 0x4005 4 = 1 ∧
      (∀ e ∈ (lining y 4).waiting.head?, e.1 ≠ 2) ∧ ∀ e ∈ (lining y 4).waiting.head?, 2 < e.1) ∧
    (∃ f, frameAt y (liningSid 4) 5 = some f ∧ 1 < f.bands.length ∧ (f.band 1).collected = false ∧ (f.band 1).st = 0) ∧
    (linkedLining y 3 = some 4 ∧ objNow y 0x1443 0 = 0 ∧ tabGet [] (stream y (liveSid 3)).coders (128 * 0 + 2) = [7]) ∧
    (gapSince (lining y 4) = some 5 ∧ stitchesIn 5 + objNow y 0x1407 0 ≤ stitchesIn y.tbs.ns ∧ (lining y 4).waiting.head?.map (·.1) = some 9) ∧
    gapSince (lining y 5) = none ∧
    (gapSince (lining { d with tbs := {} } 4) = some 5 ∧ stitchesIn 0 < stitchesIn 5 + objNow { d with tbs := {} } 0x1407 0) ∧
    granted ⟨.node 3, 1, some ⟨257, 1, true⟩, 0⟩ 0x140D 0 (fun _ => typeErrs 0x140D ⟨32, 2⟩) d = true := by
  refine ⟨?_, ?_, ⟨_, rfl, ?_⟩, ?_, ?_, ?_, ?_, ?_⟩ <;> decide +kernel

theorem test_wit_LiningCommands : let d : Dev := { up with
      objs := [(objKey 0x2001 0, 1), (objKey 0x2002 0, 4), (objKey 0x2003 0, 100000), (objKey 0x2052 0, 77), (objKey 0x3000 3, 0)]
      tenants := [(0, { st := 2, bound := 1, root := some 5 })]
      pke := { ports := [(0, { link := 2 })] }
      pair := { st := 2, keyed := true } }
    let m : Nat → MirrorMsg := fun i => { ty := 3, session := 9, counter := 1, nums := [0, i, 1000, 0, 0, 1000, 0, 0] }
    let y := atTime 0 d
    (isHeld d = false ∧ soundB d = true ∧ linkUp y (mirrorPort y) = true) ∧
    (mirrorOk y 3 (m 77) = true ∧ mirrorOk y 3 { m 77 with counter := 0 } = false ∧ mirrorOk y 4 { ty := 4, session := 9 } = false) ∧
    (lowest (liningErrs (linAsk (m 77)) { y with pair := { y.pair with lastIn := 1 } }) = none ∧ idleLining y = some 0 ∧ standbyFor y 0 = some 3) ∧
    lowest (liningErrs (linAsk (m 78)) { y with pair := { y.pair with lastIn := 1 } }) = some .state := by decide +kernel
theorem test_wit_LiningCommands_answer : let w : ArmWait := { req := ⟨.vf 0 false, 1, none, 5⟩, deadline := 9 }
    let b : Dev := { withSession { armWait := some w, st := .defined } owned with
      pair := { st := 2, keyed := true } }
    let c : Nat → Dev := fun n => { withSession { st := .running, askedAt := some n } [(objKey 0x2001 0, 1), (objKey 0x3000 3, 0), (objKey 0x301B 3, 1)] with
      tbs := { ns := 2000000000 }
      pair := { st := 2, keyed := true } }
    let m : MirrorMsg := { ty := 4, session := 3, counter := 1, nums := [0, 6] }
    (∀ d ∈ [b, c 0, c 5], isHeld d = false ∧ soundB d = true ∧ mirrorOk (atTime 0 d) 4 m = true ∧ mirrorOk (atTime 0 d) 4 { m with nums := [1] } = true) ∧
    (sess (atTime 0 b) 3).armWait = some w ∧ ((sess (atTime 0 (c 0)) 3).armWait = none ∧ wantsLining (atTime 0 (c 0)) 3 = true ∧
      wantsLining (atTime 0 (c 0)) 4 = false ∧ (sess (atTime 0 (c 0)) 3).askedAt = some 0 ∧ 0 + 1000000000 ≤ (atTime 0 (c 0)).tbs.ns) ∧
    (isSlot 3 = true ∧ (atTime 0 (c 1500000000)).tbs.ns < 1500000000 + 1000000000) := by decide +kernel
theorem test_wit_LiningCommands_requests : let d : Nat → Dev := fun p => { up with
      objs := [(objKey 0x4000 4, 2), (objKey 0x4001 4, 3), (objKey 0x4002 4, 0), (objKey 0x4003 4, 3)]
      pke := { ports := [(0, { link := 2 })] }
      linings := [(4, { opened := true })]
      pair := { st := p, keyed := true } }
    let q : Req := ⟨.pf 0, 1, none, 0⟩
    (soundB (d 3) = true ∧ soundB (d 4) = true) ∧ granted q 0x4009 4 (fun d => earned [(!linOpen d 4, .state)]) (d 3) = true ∧
    granted q 0x4009 4 (fun d => earned [(!linOpen d 4 || !(d.pair.st == 3 || d.pair.st == 4), .state)]) (d 3) = true ∧
    granted q 0x1446 0 (fun d => earned [((1 : Nat) != 1, .range), (d.pair.st != 4, .state)]) (d 4) = true ∧
    ((d 3).pair.keyed = true ∧ linkUp (d 3) (mirrorPort (d 3)) = true) ∧
    (promoteOrder (d 4) ((activeLinings (d 4)).filter fun l => (lining (d 4) l).opened && !((d 4).pair.promoting.any fun e => e.1 == l) &&
      (linState (d 4) l == 2 || (isArmed (d 4) 7 && (linState (d 4) l == 1 || linState (d 4) l == 3)))))[0]? = some 4 := by decide +kernel

theorem test_wit_HandoverCommands : let d : Option Offer → List Pkt → Dev := fun o k => { up with
      objs := [(objKey 0x2001 0, 1), (objKey 0x3000 3, 0), (objKey 0x3090 3, 3), (objKey 0x3091 3, 4), (objKey 0x4000 4, 2), (objKey 0x4002 4, 0),
        (objKey 0x4003 4, 3), (objKey 0x4004 4, 1)]
      tenants := [(0, { st := 2, bound := 1, root := some 5 })]
      linPrm := [(65536 * 4 + 0x3010, 2), (65536 * 4 + 0x30C0, 0)]
      sess := [(3, { st := .running })]
      pke := { ports := [(0, { link := 2, queues := [(3, k)] })] }
      pair := { st := 2, keyed := true, offer := o } }
    let q : Req := ⟨.pf 0, 1, none, 0⟩
    let k : Pkt := { kind := 0, s := 3, bytes := 5, cost := 5 }
    let o : Offer := { s := 3, req := some q, deadline := 5 }
    let m : Nat → Nat → MirrorMsg := fun t n => { ty := t, session := 3, lining := 4, counter := 1, nums := [n, 0] }
    let y := fun o k => atTime 0 (d o k)
    (soundB (d none []) = true ∧ soundB (d (some o) [k]) = true ∧ isHeld (d (some o) [k]) = false) ∧
    (∀ z ∈ [d none [], d (some o) [k]], mirrorOk z 11 (m 11 0) = true ∧ mirrorOk z 12 (m 12 0) = true ∧ mirrorOk z 11 (m 12 0) = false ∧
      mirrorOk z 12 (m 11 0) = false ∧ mirrorOk z 12 (m 12 1) = true) ∧
    (linState (d none []) 4 = 2 ∧ promoteEfforts (d none []) 4 = [0] ∧ promoteErrs (d none []) 4 0 = [] ∧ linState (d none []) 5 ≠ 2) ∧
    (y (some o) [k]).pair.offer = some o ∧ (sessionQueuesEmpty (y (some o) [k]) 3 = false ∧ sessionQueuesEmpty (y (some o) []) 3 = true) ∧
    (¬ 0 + 8 ≤ max (y (some o) [k]).tbs.cnt (stitchesIn (y (some o) [k]).tbs.ns)) ∧ (sess (y (some o) []) 3).st = .running ∧
    (y (some { o with accepted := some 0 }) []).pair.offer = some { o with accepted := some 0 } ∧
    (5 ≤ (atTime 5 { d (some o) [k] with tbs := { ns := 5 } }).tbs.ns ∧ (y (some o) [k]).tbs.ns < 5) ∧
    granted q 0x1445 0 (handOverErrs 3) (d none []) = true ∧ linkUp (d none []) (mirrorPort (d none [])) = true := by decide +kernel

end Sys2Proof.Tests
end

section
/-! PROOFS. The frame of APERTURE_READ: the answer to the read goes out, so the outputs sent belong to what it changes. -/
set_option autoImplicit false
namespace Sys2Proof.Machine

/-- An APERTURE_READ of an awake block that reaches its function sends one word of zeros and nothing else (R92). -/
theorem exec_apertureRead_emitted {tenant offset now : Nat} {tee : Bool} {s t : State}
    (hslot : isSlot tenant = true) (hoff : offset < 2 ^ 64) (hawake : isHeld s.dev = false)
    (hreach : hostReaches (.vf tenant tee) s.dev = true) (h : exec (.apertureRead tenant offset tee now) s = .next t) :
    t.dev.emitted = s.dev.emitted ++ [.apertureData tenant offset 0] := by
  have hunit : (isSlot tenant && decide (offset < 2 ^ 64)) = true :=
    Bool.and_eq_true_iff.2 ⟨hslot, decide_eq_true hoff⟩
  have hgate : hostReaches (.vf tenant tee) (atTime now s.dev) = true := by rw [hostReaches_time, hreach]
  cases (actOn_next hunit hawake).symm.trans h
  simp [hostGate_open hgate, emit]

end Sys2Proof.Machine

open Sys2Proof.Machine

/-- Refutes O8: an APERTURE_READ by the virtual function of a bound tenant sends the word that it reads, and `touches`
lists only the dictionary and the timebase for the command, not the outputs sent. -/
theorem not_commandFrames : ¬ Obligations.CommandFrames := by
  unfold Obligations.CommandFrames
  intro h
  let s : State := ⟨{ pwr := { booted := true }, links := [(0, { mse := true, vfMse := true })],
                      tenants := [(0, { st := 2, bound := 1, root := some 5 })] }, []⟩
  obtain ⟨d, hread⟩ : ∃ d, exec (.apertureRead 0 0 false 0) s = .next { s with dev := d } := ⟨_, rfl⟩
  have hsent : d.emitted = [.apertureData 0 0 0] :=
    exec_apertureRead_emitted (by decide) (by decide) (by decide) (by decide) hread
  have hframe : s.dev.emitted = d.emitted := h _ _ _ .emitted hread (by decide)
  cases hframe.trans hsent

end

section
/-! PROOFS. The power monitors: samples of power and temperature, the cap, the references (R33, R501, R502, R524, R526). -/
set_option autoImplicit false
namespace Sys2Proof.Machine

/-- A power sample enters the last ten (R501). -/
def withSample (mw : Nat) (d : Dev) : Dev := setPwr { d.pwr with samples := (mw :: d.pwr.samples).take 10 } d
/-- The time above the cap starts, goes on or ends with the mean (R501). -/
def capClock (d : Dev) : Dev :=
  if aboveCap d then setPwr { d.pwr with above := some (d.pwr.above.getD d.tbs.ns) } d
  else setPwr { d.pwr with above := none, raised := none } d

theorem capClock_samples (d : Dev) : (capClock d).pwr.samples = d.pwr.samples := by
  unfold capClock; split <;> rfl

/-- The rails of a power sample change only the sensors of the controller (R526). -/
theorem powerSample_pwr (mw : Nat) (rails : List (Option (Nat × Nat))) (d : Dev) :
    SameSens (powerSample mw rails d).pwr (capClock (withSample mw d)).pwr := by
  refine forEach_sens _ (fun r x => ?_) _ _
  split
  · exact ⟨_, rfl⟩
  · exact railSample_pwr _ _ _

/-- A power sample is above the cap just when its mean over the last ten is. -/
theorem aboveCap_powerSample (mw : Nat) (rails : List (Option (Nat × Nat))) (d : Dev) :
    aboveCap (powerSample mw rails d) = aboveCap (withSample mw d) := by
  have hkeeps := powerSample_keeps (m := 2199023255680) (mw := mw) (rails := rails) rfl (.refl d)
  obtain ⟨x, hpwr⟩ := powerSample_pwr mw rails d
  refine aboveCap_congr (hkeeps.only .objs rfl).symm (hkeeps.only .heldStitch rfl).symm ?_
  rw [hpwr]
  exact capClock_samples _

/-- A power sample enters the last ten, and the time above the cap starts or ends with the mean (R501). -/
theorem powerSample_does (mw : Nat) (rails : List (Option (Nat × Nat))) (d : Dev) :
    let e := powerSample mw rails d
    e.pwr.samples = (mw :: d.pwr.samples).take 10 ∧ (aboveCap e = false → e.pwr.above = none ∧ e.pwr.raised = none) ∧
      (aboveCap e = true → e.pwr.above = some (d.pwr.above.getD d.tbs.ns) ∧ e.pwr.raised = d.pwr.raised) := by
  obtain ⟨x, hpwr⟩ := powerSample_pwr mw rails d
  dsimp only
  rw [aboveCap_powerSample, hpwr]
  refine ⟨capClock_samples _, fun h => ?_, fun h => ?_⟩
  · rw [capClock, if_neg (by simp [h])]
    exact ⟨rfl, rfl⟩
  · rw [capClock, if_pos h]
    exact ⟨rfl, rfl⟩

/-- POWER_CAP_EXCEEDED when it is due: the time is marked, the rest of the controller stays, and without the arm bit of the
ladder so does every object (R33, R501). -/
theorem capExceeded_due {d : Dev} {t0 cap : Nat} (habove : d.pwr.above = some t0) (hcap : powerCap d = some cap)
    (hmean : aboveCap d = true) (hfirst : d.pwr.raised = none → t0 + 10000000 ≤ d.tbs.ns)
    (hagain : ∀ t1, d.pwr.raised = some t1 → t1 + 100000000 ≤ d.tbs.ns) :
    (capExceeded d).pwr = { d.pwr with raised := some d.tbs.ns } ∧
      (isArmed d 9 = false → (capExceeded d).objs = d.objs ∧ (capExceeded d).ladder = d.ladder) := by
  generalize hmarked : pulse 2 0x0071 0 (meanPower d / 1000) 0 (raise 6 (setPwr { d.pwr with raised := some d.tbs.ns } d)) = d1
  have hact : capExceeded d =
      if isArmed d 9 then (runLadder (powerShort (meanPower d) cap) d1).getD d1 else d1 := by
    subst hmarked
    unfold capExceeded
    cases hr : d.pwr.raised with
    | none => simp [habove, hcap, hmean, hfirst hr]
    | some t1 => simp [habove, hcap, hmean, hagain t1 hr]
  have hpwr : d1.pwr = { d.pwr with raised := some d.tbs.ns } := by subst hmarked; simp [setPwr]
  refine ⟨?_, fun harm => ?_⟩
  · rw [hact]
    split
    · cases hl : runLadder (powerShort (meanPower d) cap) d1 with
      | none => exact hpwr
      | some e => exact (runLadder_pwr _ _ _ hl).trans hpwr
    · exact hpwr
  · rw [hact, if_neg (by simp [harm])]
    subst hmarked
    simp [setPwr]

/-- The three thermal levels of a sample leave the sensors (R524). -/
theorem sensor_thermal (d : Dev) (i : Nat) : sensor (thermalStep 0 (thermalStep 1 (thermalStep 2 d))) i = sensor d i :=
  sensor_congr (by simp only [thermalStep_sens]) i

/-- A reading in the physical range of a sensor that has not failed is taken (R526). -/
theorem junctionSample_self {i : Nat} {c : Int} {d : Dev} (hlow : -40 * 65536 ≤ c) (hhigh : c ≤ 150 * 65536)
    (hok : (sensor d i).failed = false) :
    sensor (junctionSample i (some c) d) i = { sensor d i with seen := true, reading := unsigned 32 c } := by
  unfold junctionSample
  dsimp only
  rw [if_neg (by simp [hok]), if_neg (by simp; omega), sensor_set _ _ _ _ (sensor_ne (.inl rfl)), if_pos rfl]

/-- A sample of the junction sensors gives each one that has not failed its reading, if it lies in the physical range (R524). -/
theorem sensorSample_reads {temps : List (Option Int)} {i : Nat} {c : Int} {d : Dev} (hi : i < 20)
    (hread : temps[i]? = some (some c)) (hlow : -40 * 65536 ≤ c) (hhigh : c ≤ 150 * 65536)
    (hok : (sensor d i).failed = false) :
    sensor (sensorSample temps d) i = { sensor d i with seen := true, reading := unsigned 32 c } := by
  refine (sensor_thermal _ i).trans ?_
  obtain ⟨e, hbefore, hafter⟩ := (forEach_at sensor (fun i d => match temps[i]? with
    | none => d
    | some v => junctionSample i v d) (fun a d j hj => by
      split
      · rfl
      · exact junction_other a j _ d hj) (List.range 20) List.nodup_range d i).2 (List.mem_range.2 hi)
  refine hafter.trans ?_
  rw [← hbefore] at hok ⊢
  dsimp only
  rw [hread]
  exact junctionSample_self hlow hhigh hok

/-- The loss of a reference that is not lost yet is noted; that of the system reference stops the timebase clock (R502). -/
theorem referenceLoss_does {k : Nat} {d : Dev} (hnew : d.pwr.lost.contains k = false) :
    (referenceLoss k d).pwr = { d.pwr with lost := k :: d.pwr.lost } ∧
      (k = 0 → (referenceLoss k d).tbs = { d.tbs with running := false }) := by
  unfold referenceLoss
  rw [if_neg (by simp only [hnew]; decide)]
  refine ⟨by simp only [clockStops_pwr, level_pwr]; rfl, fun hk => ?_⟩
  subst hk
  simp [clockStops, setPwr]

/-- The return of a reference takes it off the list and touches only the fault collector besides, for the system reference
not even that (R502). -/
theorem referenceReturn_does (k : Nat) (d : Dev) :
    let e := referenceReturn k d
    e = { d with pwr := { d.pwr with lost := d.pwr.lost.filter (· != k) }, flt := e.flt } ∧ (k = 0 → e.flt = d.flt) := by
  unfold referenceReturn
  dsimp only
  split
  · exact ⟨rfl, fun _ => rfl⟩
  · next hk => exact ⟨rfl, fun h => absurd h hk⟩

end Sys2Proof.Machine

open Sys2Proof.Machine

/-- Settles O29: each monitor's operation does what is said of it, at the instant of its command. -/
theorem powerMonitors : Obligations.PowerMonitors := by
  unfold Obligations.PowerMonitors
  intro s now hawake
  refine ⟨fun mw rails => ?_, fun t0 cap habove hcap hmean hfirst hagain => ?_, fun temps => ?_, fun k hk => ⟨fun hnew => ?_, ?_⟩⟩
  · refine answers_act (f := fun d => powerSample mw rails (atTime now d)) rfl hawake ?_
    exact powerSample_does mw rails (atTime now s.dev)
  · refine answers_act (f := fun d => capExceeded (atTime now d)) rfl hawake ?_
    exact capExceeded_due habove hcap hmean hfirst hagain
  · refine answers_act (f := fun d => sensorSample temps (atTime now d)) rfl hawake fun i hi c hread hlow hhigh hok => ?_
    exact sensorSample_reads hi hread hlow hhigh hok
  · refine answers_actOn rfl hk hawake ?_
    exact referenceLoss_does hnew
  · refine answers_actOn rfl hk hawake ?_
    exact referenceReturn_does k (atTime now s.dev)

end

section
/-! PROOFS. What the session commands leave of a session (R44, R51, R53, R59, R60). -/
set_option autoImplicit false
namespace Sys2Proof.Machine

/-- The instant of a command keeps the block well kept. -/
theorem sound_atTime {d : Dev} (now : Nat) (h : Sound d) : Sound (atTime now d) :=
  (atTime_keeps (m := 4194304) rfl (.refl d)).sound h

theorem sess_congr {d e : Dev} (h : e.sess = d.sess) (s : Nat) : sess e s = sess d s := by unfold sess; rw [h]
theorem stream_congr {d e : Dev} (h : e.streams = d.streams) (u : Nat) : stream e u = stream d u := by unfold stream; rw [h]

/-! ## A granted command -/

/-- A granted command of a session is accepted and is the last one read; what its act leaves of the session and of its stream
stays (R44, R399). -/
theorem command_leaves {c : Instr} {s : State} {q : Req} {slot n : Nat} {own : Dev → List Err} {f : Dev → Dev}
    {P : Session → Stream → Prop} (hexec : exec c s = actOn (isSlot slot) (command q slot n own f) s)
    (hslot : isSlot slot = true) (hgrant : granted q 0x3003 slot own s.dev = true) (hsound : Sound (f (atTime q.now s.dev)))
    (hleaves : P (sess (f (atTime q.now s.dev)) slot) (stream (f (atTime q.now s.dev)) (liveSid slot))) :
    Answers c s (fun d => (Accepted q 0x3003 slot d ∧ objGet d 0x3003 slot = n) ∧ P (sess d slot) (stream d (liveSid slot))) :=
  (command_does hexec hslot hgrant hsound).imp fun d ⟨hdone, hsess, hstream⟩ =>
    ⟨hdone, by rw [hsess, hstream]; exact hleaves⟩

/-- An accepted request is answered so. -/
theorem accepted_accept (q : Req) (i u : Nat) (d : Dev) : Accepted q i u (accept q i u d) := by
  obtain ⟨len, payload, hsent⟩ := accept_emitted q i u d
  exact ⟨len, payload, by simp [Sent, hsent]⟩

/-! ## DEFINE, START, PAUSE, RESUME -/

theorem defineAct_session {d : Dev} (h : Rising d.sess) (s : Nat) :
    sess (defineAct s d) s = { sess d s with st := .defined, refN := slotsOfParams (params d s) } :=
  sess_self d h s { sess d s with st := .defined, refN := slotsOfParams (params d s) }

theorem setPend_session {d : Dev} (h : Rising d.sess) (s n : Nat) :
    sess (setPend s n d) s = { sess d s with pend := n, pendSeen := false } :=
  sess_self d h s _

/-- A granted START is pending, the session otherwise as it was but for its transport identity (R53, R259). -/
theorem startAct_session {d : Dev} (h : Rising d.sess) (s : Nat) :
    (sess (startAct s d) s).st = (sess d s).st ∧ (sess (startAct s d) s).pend = 5 := by
  have hdrawn : ∃ tx, sess (drawTransport s d) s = { sess d s with tx := tx, lastMedia := none } :=
    ⟨_, sess_self d h s _⟩
  obtain ⟨tx, hdrawn⟩ := hdrawn
  have hstart : sess (startAct s d) s = { sess (drawTransport s d) s with pend := 5, pendSeen := false } :=
    sess_self _ (setSess_rising d h s _) s _
  rw [hstart, hdrawn]
  exact ⟨rfl, rfl⟩

/-! ## ARM -/

/-- The reservations of an ARM are in the session: its charges and its window (R59, R85). -/
theorem reserve_session {d : Dev} (h : Rising d.sess) (s : Nat) :
    sess (reserve s d) s = { sess d s with charges := chargesOf d (params d s), window := placeWindow d s (params d s) } :=
  (sess_congr (reserve_sess s d) s).trans (sess_self d h s _)

theorem reserve_rising {d : Dev} (h : Rising d.sess) (s : Nat) : Rising (reserve s d).sess := by
  rw [reserve_sess]
  exact setSess_rising d h s _

/-- Asking the partner leaves the command in force of every session. -/
theorem askLining_cmd (s : Nat) (d : Dev) : SameCmd d (askLining s d) := sendMirror_cmd _ d

/-- An ARM without a lining request is accepted at once: the session is ARMED and holds what it reserved (R59). -/
theorem armAct_armed {d : Dev} {q : Req} {s : Nat} (h : Sound d) (hask : objGet d 0x301B s ≠ 1) :
    let e := armAct q s d
    (Accepted q 0x3003 s e ∧ objGet e 0x3003 s = 3) ∧ (sess e s).st = .armed ∧
      (sess e s).charges = chargesOf d (params d s) ∧ (sess e s).window = placeWindow d s (params d s) := by
  generalize hd1 : setSess s { sess (reserve s d) s with st := .armed } (reserve s d) = d1
  have hact : armAct q s d = accept q 0x3003 s (objSet 0x3003 s 3 d1) := by
    subst hd1
    exact if_neg hask
  have hobjs : Rising d1.objs := by
    rw [← hd1, setSess_objs]
    exact ((reserve_keeps (m := 1207959552) rfl (.refl d)).sound h).objs.1
  have hobj : objGet (armAct q s d) 0x3003 s = 3 :=
    (objGet_congr (by rw [hact]; simp only [accept_frame]) _ _).trans (objGet_set_self d1 hobjs 0x3003 s 3)
  have hsess : sess (armAct q s d) s = sess d1 s := sess_congr (by rw [hact]; simp only [accept_frame, objSet_frame]) s
  refine ⟨⟨by rw [hact]; exact accepted_accept .., hobj⟩, ?_⟩
  rw [hsess, ← hd1, sess_self _ (reserve_rising h.tabs.sess s), reserve_session h.tabs.sess]
  exact ⟨rfl, rfl, rfl⟩

/-- An ARM with a lining request holds what it reserved and waits 2 ms for the partner, in its state (R60). -/
theorem armAct_waits {d : Dev} {q : Req} {s : Nat} (h : Sound d) (hask : objGet d 0x301B s = 1) :
    let e := armAct q s d
    (sess e s).st = (sess d s).st ∧
      ((sess e s).charges = chargesOf d (params d s) ∧ (sess e s).window = placeWindow d s (params d s)) ∧
      (sess e s).armWait = some { req := q, deadline := d.tbs.ns + 2000000 } := by
  have hact : armAct q s d = askLining s
      (setSess s { sess (reserve s d) s with armWait := some { req := q, deadline := d.tbs.ns + 2000000 } }
        (objSet 0x3090 s 1 (reserve s d))) := by
    unfold armAct
    dsimp only
    rw [if_pos hask]
  have hrising : Rising (objSet 0x3090 s 1 (reserve s d)).sess := by
    simp only [objSet_frame]
    exact reserve_rising h.tabs.sess s
  obtain ⟨hst, -, -, hcharges, hwindow, hwait, -⟩ := (askLining_cmd s _ (setSess_rising _ hrising s
    { sess (reserve s d) s with armWait := some { req := q, deadline := d.tbs.ns + 2000000 } })).2 s
  dsimp only
  rw [hact, hst, hcharges, hwindow, hwait, sess_self _ hrising, reserve_session h.tabs.sess]
  exact ⟨rfl, ⟨rfl, rfl⟩, rfl⟩

/-- A granted ARM acts. -/
theorem arm_granted {d : Dev} {q : Req} {s : Nat} (h : granted q 0x3003 s (armErrs s) d = true) :
    arm q s d = armAct q s (atTime q.now d) := decideWrite_granted h

/-- What a refused request leaves and answers, for a code that counts nothing (R411). -/
theorem refuse_capacity (q : Req) (i u : Nat) (d : Dev) :
    (refuse q i u .capacity d).objs = d.objs ∧
      Sent (.response q.who (opOf q + 0x80) Err.capacity.code i u q.tag 0 0) (refuse q i u .capacity d) := by
  unfold refuse opOf
  cases q.crit with
  | none => exact ⟨respond_objs .., by simp [Sent, respond_emitted, Nat.mod_one]⟩
  | some c => exact ⟨respond_objs .., by simp [Sent, respond_emitted, countRefused, Nat.mod_one]⟩

/-- An ARM that waits is refused with E_CAPACITY: the session is DEFINED and holds nothing (R60). -/
theorem armRefuse_capacity {d : Dev} {s : Nat} {w : ArmWait} (h : Sound d) (hwait : (sess d s).armWait = some w) :
    let e := armRefuse s .capacity d
    (sess e s).st = .defined ∧ (sess e s).armWait = none ∧ (sess e s).window = none ∧ (sess e s).charges = {} ∧
      objGet e 0x3090 s = objDefault 0x3090 s ∧
      Sent (.response w.req.who (opOf w.req + 0x80) Err.capacity.code 0x3003 s w.req.tag 0 0) e := by
  generalize hd1 : dropReservations s (setSess s { sess d s with armWait := none } d) = d1
  have hact : armRefuse s .capacity d =
      refuse w.req 0x3003 s .capacity (objReset 0x3090 s (setSess s { sess d1 s with st := .defined } d1)) := by
    subst hd1
    unfold armRefuse
    rw [hwait]
  have hset : Sound (setSess s { sess d s with armWait := none } d) := (setSess_keeps (m := 134217728) rfl (.refl d)).sound h
  have hdrop : Sound d1 := by
    subst hd1
    exact (dropReservations_keeps (m := 4398046511103) rfl (.refl _)).sound hset
  obtain ⟨-, hnone, hwindow, hcharges, -, hrising⟩ := dropReservations_does s _ hset
  rw [hd1] at hnone hwindow hcharges hrising
  rw [sess_self d h.tabs.sess] at hnone
  have hsess : sess (armRefuse s .capacity d) s = { sess d1 s with st := .defined } := by
    refine Eq.trans ?_ (sess_self d1 hrising s _)
    exact sess_congr (by rw [hact, refuse_sess, objReset_sess]) s
  obtain ⟨hobjs, hsent⟩ := refuse_capacity w.req 0x3003 s (objReset 0x3090 s (setSess s { sess d1 s with st := .defined } d1))
  have hlinked : objGet (armRefuse s .capacity d) 0x3090 s = objDefault 0x3090 s := by
    refine Eq.trans ?_ ((objReset_get (setSess s { sess d1 s with st := .defined } d1) hdrop.objs.1 0x3090 s 0x3090 s).trans (if_pos rfl))
    exact objGet_congr (by rw [hact, hobjs]) _ _
  dsimp only
  rw [hsess]
  exact ⟨rfl, hnone, hwindow, hcharges, hlinked, by rw [hact]; exact hsent⟩

/-- The time of an ARM that waits: before its deadline nothing happens, from then on it is refused (R60). -/
theorem armTimeout_none {d : Dev} {s : Nat} (h : (sess d s).armWait = none) : armTimeout s d = d := by
  unfold armTimeout; rw [h]
theorem armTimeout_early {d : Dev} {s : Nat} {w : ArmWait} (h : (sess d s).armWait = some w) (ht : d.tbs.ns < w.deadline) :
    armTimeout s d = d := by
  unfold armTimeout; rw [h]; exact if_neg (by omega)
theorem armTimeout_due {d : Dev} {s : Nat} {w : ArmWait} (h : (sess d s).armWait = some w) (ht : w.deadline ≤ d.tbs.ns) :
    armTimeout s d = armRefuse s .capacity d := by
  unfold armTimeout; rw [h]; exact if_pos ht

end Sys2Proof.Machine
end

section
/-! PROOFS. The drain, the binding of a tenant and the timebase at a stitch boundary (R24, R38, R54, R62). -/
set_option autoImplicit false
namespace Sys2Proof.Machine

/-! ## DRAIN -/

/-- A DRAIN of an ARMED session disarms it (R51). -/
theorem drainAct_armed {d : Dev} {s : Nat} (h : (sess d s).st = .armed) : drainAct s d = toDefined s d := by
  unfold drainAct; dsimp only; rw [if_pos h]

/-- A DRAIN of any other session drains it; a pending command and the suspension's cause are gone (R44, R51, R53). -/
theorem drainAct_drains {d : Dev} {s : Nat} (hs : Rising d.sess) (h : (sess d s).st ≠ .armed) :
    (sess (drainAct s d) s).st = .draining ∧ (sess (drainAct s d) s).pend = 0 ∧ (sess (drainAct s d) s).cause = 0 ∧
      (sess (drainAct s d) s).drainAt = some d.tbs.ns := by
  have hrising : Rising (endSplice s d).sess := (endSplice_cmd s d hs).1
  generalize hx : ({ sess (endSplice s d) s with
    st := .draining, pend := 0, cause := 0, drainAt := some d.tbs.ns, quietFrom := none,
    fromSuspended := (sess d s).st == .suspended } : Session) = x
  have hact : drainAct s d = noteQuiet s (tellState s (setSess s x (endSplice s d))) := by
    subst hx
    unfold drainAct
    dsimp only
    rw [if_neg h]
  have hcmd : SameCmd (setSess s x (endSplice s d)) (drainAct s d) := by
    rw [hact]
    exact (sendSeq_cmd s _ _).trans (noteQuiet_cmd s _)
  obtain ⟨hst, hpend, hcause, -, -, -, -, hat, -⟩ := (hcmd (setSess_rising _ hrising s x)).2 s
  rw [hst, hpend, hcause, hat, sess_self _ hrising]
  subst hx
  exact ⟨rfl, rfl, rfl, rfl⟩

/-- What a DRAIN at the instant `t` leaves of a session that was in the state `st`, and of its stream: an ARMED one is DEFINED and
holds nothing, any other drains (R51, R53, R54). -/
def Drained (st : SessSt) (t : Nat) (x : Session) (z : Stream) : Prop :=
  (st = .armed → x.st = .defined ∧ x.window = none ∧ x.charges = {} ∧ z = {}) ∧
    (st ≠ .armed → x.st = .draining ∧ x.pend = 0 ∧ x.cause = 0 ∧ x.drainAt = some t)

theorem drainAct_leaves {d : Dev} (s : Nat) (h : Sound d) :
    Drained (sess d s).st d.tbs.ns (sess (drainAct s d) s) (stream (drainAct s d) (liveSid s)) := by
  refine ⟨fun harmed => ?_, drainAct_drains h.tabs.sess⟩
  rw [drainAct_armed harmed]
  exact toDefined_does s d h

theorem drainAct_sound {d : Dev} (s : Nat) (h : Sound d) : Sound (drainAct s d) :=
  (drainAct_keeps (m := 4398046511103) rfl (.refl d)).sound h

/-- The operator drain leaves the session and its streams as DRAIN does (R42). -/
theorem operatorDrain_as_drain (q : Req) (i s : Nat) (d : Dev) :
    (accept q i s (operatorDrainAct s d)).sess = (drainAct s d).sess ∧
      (accept q i s (operatorDrainAct s d)).streams = (drainAct s d).streams := by
  simp [operatorDrainAct]

/-! ## DRAIN_ABANDON -/

/-- An event for a tenant changes no object but 0x5121 of the tenant, the events lost. -/
theorem postTenant_obj {d : Dev} (h : Rising d.objs) (s a b c e f i u : Nat) (hi : i ≠ 0x5121) (hu : u < 256) :
    objGet (postTenant s a b c e f d) i u = objGet d i u := by
  unfold postTenant
  split
  · next howner => exact (postEvent_obj _ a b c e f d h (.inr howner) i u hi hu).1
  · rfl

/-- The crossing of a watermark leaves 0x5023:s, the count of bands discarded (R54, R105). -/
theorem crossing_discarded {d : Dev} (h : Rising d.objs) (s : Nat) (held : Bool) (hs : s < 256) :
    objGet (crossing s held d) 0x5023 s = objGet d 0x5023 s := by
  generalize hd1 : objCount 32 0x5025 s 1 (setSess s { sess d s with
    held := held, xcount := ((sess d s).xcount + 1) % 65536, highX := (sess d s).highX || held,
    lowX := (sess d s).lowX || !held } d) = d1
  have hrising : Rising d1.objs := by subst hd1; exact objCount_rising (setSess s _ d) h _ _ _ _
  calc objGet (crossing s held d) 0x5023 s
      = objGet (postTenant s 1 3 0 s (b2n held + ((sess d s).xcount + 1) % 65536 * 2 ^ 16) d1) 0x5023 s := by
        subst hd1
        exact objGet_congr (by unfold crossing; simp only [holdUpdate_frame, raise_frame]) _ _
    _ = objGet d1 0x5023 s := postTenant_obj hrising _ _ _ _ _ _ _ _ (by decide) hs
    _ = objGet d 0x5023 s := by
        subst hd1
        exact objCount_get_ne (setSess s _ d) h 32 0x5025 s 1 0x5023 s (objKey_ne (by decide) hs hs)

theorem waterTest_discarded {d : Dev} (h : Rising d.objs) {s : Nat} (hs : s < 256) :
    objGet (waterTest s d) 0x5023 s = objGet d 0x5023 s := by
  have hmax : objGet (objMax 0x5020 s (intakeDepth d s) d) 0x5023 s = objGet d 0x5023 s :=
    objGet_set_ne d h _ _ _ _ _ (objKey_ne (by decide) hs hs)
  have hrising : Rising (objMax 0x5020 s (intakeDepth d s) d).objs := by
    unfold objMax objSet
    split
    · exact rising_erase h
    · exact rising_set h
  unfold waterTest
  dsimp only
  split
  · exact (crossing_discarded hrising s true hs).trans hmax
  · split
    · exact (crossing_discarded hrising s false hs).trans hmax
    · exact hmax

@[simp] theorem noteQuiet_streams (s : Nat) (d : Dev) : (noteQuiet s d).streams = d.streams :=
  ((noteQuiet_keeps (m := 134217728) rfl (.refl d)).only .streams rfl).symm
@[simp] theorem noteQuiet_objs (s : Nat) (d : Dev) : (noteQuiet s d).objs = d.objs :=
  ((noteQuiet_keeps (m := 134217728) rfl (.refl d)).only .objs rfl).symm

/-- When is DRAIN_ABANDON due: four frame periods after DRAIN a frame is still in progress (R54)? -/
def abandonDue (s : Nat) (d : Dev) : Prop :=
  ∃ t, (sess d s).drainAt = some t ∧ (sess d s).st = .draining ∧ d.flt.safe = false ∧ drainFrameDone d s = false ∧
    4 * chargePeriod (params d s) * 2500000 ≤ (d.tbs.ns - t) * 9

/-- What DRAIN_ABANDON does when it is due: the frames of both streams are gone, their uncoded bands counted (R54). -/
def abandonFrames (s : Nat) (d : Dev) : Dev :=
  noteQuiet s (waterTest s (setStream (mezzSid s) { stream d (mezzSid s) with frames := [] }
    (setStream (liveSid s) { stream d (liveSid s) with frames := [] }
      (objCount 32 0x5023 s (sumBy uncoded (stream d (liveSid s)).frames) d))))

theorem drainAbandon_due {s : Nat} {d : Dev} (h : abandonDue s d) : drainAbandon s d = abandonFrames s d := by
  obtain ⟨t, hat, hst, hsafe, hopen, hlate⟩ := h
  unfold drainAbandon
  dsimp only
  rw [hat]
  exact if_pos (by simp [hst, hsafe, hopen, hlate])

theorem drainAbandon_not_due {s : Nat} {d : Dev} (h : ¬ abandonDue s d) : drainAbandon s d = d := by
  unfold drainAbandon
  dsimp only
  split
  · rfl
  · next t hat =>
    refine if_neg fun hdue => h ⟨t, hat, ?_⟩
    simpa [and_assoc] using hdue

theorem abandonFrames_does {s : Nat} {d : Dev} (h : Sound d) (hs : s < 256) :
    (stream (abandonFrames s d) (liveSid s)).frames = [] ∧ (stream (abandonFrames s d) (mezzSid s)).frames = [] ∧
      objGet (abandonFrames s d) 0x5023 s = (objGet d 0x5023 s + sumBy uncoded (stream d (liveSid s)).frames) % 2 ^ 32 := by
  generalize hd1 : objCount 32 0x5023 s (sumBy uncoded (stream d (liveSid s)).frames) d = d1
  have hstreams : Rising d1.streams := by subst hd1; simpa using h.tabs.streams
  have hobjs : Rising d1.objs := by subst hd1; exact objCount_rising d h.objs.1 _ _ _ _
  generalize he : setStream (mezzSid s) { stream d (mezzSid s) with frames := [] }
    (setStream (liveSid s) { stream d (liveSid s) with frames := [] } d1) = e
  have hact : abandonFrames s d = noteQuiet s (waterTest s e) := by subst he hd1; rfl
  have heobjs : e.objs = d1.objs := by subst he; simp only [setStream_objs]
  have hstream : ∀ u, stream (abandonFrames s d) u =
      if u = mezzSid s then { stream d (mezzSid s) with frames := [] }
      else if u = liveSid s then { stream d (liveSid s) with frames := [] } else stream d1 u := fun u => by
    rw [hact, stream_congr (noteQuiet_streams _ _), waterTest_frames]
    subst he
    exact (tabGet_put _ _ (rising_put hstreams) _ _ _).trans (if_congr Iff.rfl rfl (tabGet_put _ _ hstreams _ _ _))
  refine ⟨?_, ?_, ?_⟩
  · rw [hstream, if_neg (by unfold liveSid mezzSid; omega), if_pos rfl]
  · rw [hstream, if_pos rfl]
  · calc objGet (abandonFrames s d) 0x5023 s
        = objGet (waterTest s e) 0x5023 s := objGet_congr (by rw [hact, noteQuiet_objs]) _ _
      _ = objGet e 0x5023 s := waterTest_discarded (by rw [heobjs]; exact hobjs) hs
      _ = objGet d1 0x5023 s := objGet_congr heobjs _ _
      _ = _ := by rw [← hd1, objCount_get d h.objs.1]

/-! ## DRAIN_COMPLETE -/

/-- A drain that is done leaves the slot DEFINED with nothing reserved (R54). -/
theorem drainComplete_done {s : Nat} {d : Dev} (h : Sound d) (hdone : drainDone s (noteQuiet s d) = true) :
    (sess (drainComplete s d) s).st = .defined ∧ (sess (drainComplete s d) s).window = none ∧
      (sess (drainComplete s d) s).charges = {} ∧ stream (drainComplete s d) (liveSid s) = {} := by
  have hact : drainComplete s d = postState s .draining false (toDefined s (sendByes s (noteQuiet s d))) := if_pos hdone
  have hbyes : Sound (sendByes s (noteQuiet s d)) :=
    (sendByes_keeps (m := 4398046511103) rfl (noteQuiet_keeps (m := 4398046511103) rfl (.refl d))).sound h
  rw [hact, sess_congr (postState_sess ..), stream_congr (postState_streams ..)]
  exact toDefined_does s _ hbyes

theorem drainComplete_not_done {s : Nat} {d : Dev} (h : drainDone s (noteQuiet s d) = false) :
    drainComplete s d = noteQuiet s d := if_neg (by simp [h])

/-! ## TENANT_BIND -/

/-- Resetting one object of a list of slots gives each its default and leaves every other object. -/
theorem objResets_slots (i j w : Nat) : ∀ (l : List Nat) (d : Dev), Rising d.objs →
    objGet (forEach l (fun s d => objReset i s d) d) j w =
      if ∃ s ∈ l, objKey j w = objKey i s then objDefault j w else objGet d j w
  | [], d, _ => by simp [forEach]
  | a :: l, d, h => by
    refine (objResets_slots i j w l (objReset i a d) (rising_erase h)).trans ?_
    rw [objReset_get d h]
    by_cases ha : objKey j w = objKey i a
    · simp [ha]
    · simp [ha]

@[simp] theorem objResets_tenants (i : Nat) (l : List Nat) (d : Dev) :
    (forEach l (fun s d => objReset i s d) d).tenants = d.tenants :=
  ((forEach_keeps (m := 4) l (fun _ _ => objReset_keeps (m := 4) rfl) (.refl d)).only .tenants rfl).symm

theorem tenantOf_congr {d e : Dev} (h : e.tenants = d.tenants) (t : Nat) : tenantOf e t = tenantOf d t := by
  unfold tenantOf; rw [h]

theorem mem_sessionsOf {d : Dev} {t u : Nat} (h : u ∈ sessionsOf d t) : u < 256 :=
  List.mem_range.1 (List.mem_of_mem_filter h)

/-- The value that a slot holds binds nothing anew (R38). -/
theorem bindAct_same {d : Dev} {t v : Nat} (h : v = (tenantOf d t).bound) : bindAct t v d = d := if_pos h

/-- An unbinding frees the tenant slot, erases its root key and leaves its session slots without an owner (R38). -/
theorem bindAct_unbinds {d : Dev} {t : Nat} (h : Sound d) (ht : t < 256) (hnew : 0xFFFF ≠ (tenantOf d t).bound) :
    let e := bindAct t 0xFFFF d
    (tenantOf e t).st = 0 ∧ (tenantOf e t).bound = 0xFFFF ∧ (tenantOf e t).root = none ∧ objGet e 0x2001 t = 0xFFFF ∧
      ∀ u ∈ sessionsOf d t, objGet e 0x3000 u = objDefault 0x3000 u := by
  generalize hd1 : eraseTenantKeys t d = d1
  have hd1s : Sound d1 := by subst hd1; exact (eraseTenantKeys_keeps (m := 11534340) rfl (.refl d)).sound h
  generalize hd2 : setTenant t { salt := (tenantOf d1 t).salt } (objSet 0x2001 t 0xFFFF d1) = d2
  have hd2s : Sound d2 := by
    subst hd2
    exact (setTenant_keeps (m := 4398046511103) rfl (objSet_keeps (m := 4398046511103) rfl (.refl d1))).sound hd1s
  have hact : bindAct t 0xFFFF d = forEach (sessionsOf d t) (fun s d => objReset 0x3000 s d) d2 := by
    subst hd2 hd1
    unfold bindAct
    rw [if_neg hnew, if_pos rfl]
  have htenant : tenantOf (bindAct t 0xFFFF d) t = { salt := (tenantOf d1 t).salt } := by
    rw [hact, tenantOf_congr (objResets_tenants ..), ← hd2, tenant_set _ _ _ _ (by simpa using hd1s.tabs.tenants), if_pos rfl]
  dsimp only
  rw [htenant]
  refine ⟨rfl, rfl, rfl, ?_, fun u hu => ?_⟩
  · rw [hact, objResets_slots _ _ _ _ _ hd2s.objs.1, if_neg]
    · subst hd2
      exact objGet_set_self d1 hd1s.objs.1 _ _ _
    · rintro ⟨u, hu, hkey⟩
      exact objKey_ne (by decide) (mem_sessionsOf hu) ht hkey
  · rw [hact, objResets_slots _ _ _ _ _ hd2s.objs.1, if_pos ⟨u, hu, rfl⟩]

/-- A binding gives the tenant slot its function (R38). -/
theorem bindAct_binds {d : Dev} {t v : Nat} (h : Sound d) (ht : t < 256) (hnew : v ≠ (tenantOf d t).bound) (hv : v ≠ 0xFFFF) :
    let e := bindAct t v d
    (tenantOf e t).st = 1 ∧ (tenantOf e t).bound = v ∧ objGet e 0x2001 t = v := by
  generalize hd1 : setTenant t { tenantOf d t with st := 1, bound := v } (objSet 0x2001 t v d) = d1
  have hact : bindAct t v d = objReset 0x5120 t (objReset 0x5121 t d1) := by
    subst hd1
    unfold bindAct
    rw [if_neg hnew, if_neg hv]
    rfl
  have htenant : tenantOf (bindAct t v d) t = { tenantOf d t with st := 1, bound := v } := by
    rw [hact, show tenantOf (objReset 0x5120 t (objReset 0x5121 t d1)) t = tenantOf d1 t from rfl, ← hd1,
      tenant_set _ _ _ _ (by simpa using h.tabs.tenants), if_pos rfl]
  have hrising : Rising d1.objs := by
    subst hd1
    exact ((objSet_keeps (m := 4) rfl (.refl d)).sound h).objs.1
  dsimp only
  rw [htenant]
  refine ⟨rfl, rfl, ?_⟩
  rw [hact, objReset_get _ (rising_erase hrising), if_neg (objKey_ne (by decide) ht ht), objReset_get _ hrising,
    if_neg (objKey_ne (by decide) ht ht)]
  subst hd1
  exact objGet_set_self d h.objs.1 _ _ _

/-! ## STITCH_BOUNDARY -/

/-- Two timebases show the same counter and time. -/
def SameCount (a b : Tbs) : Prop := a.cnt = b.cnt ∧ a.presented = b.presented ∧ a.ns = b.ns

/-- The steps of a stitch leave the counter and the time (R24). -/
theorem stitchWork_count (n t0 : Nat) (d : Dev) : SameCount (stitchWork n t0 d).tbs d.tbs := by
  have hvisible : (stitchWork n t0 d).tbs = (visible d).tbs := by
    unfold stitchWork
    dsimp only
    split
    · simp
    · simp only [powerSettle_frame, recomputeVotes_tbs, pairBoundary_tbs]
      rw [forEach_tbs _ (fun s d => by simp)]
      split
      · simp only [assignPass_tbs, planStage_tbs]
        rw [forEach_tbs _ (fun s d => by simp)]
        simp only [sampleAll_tbs, discardPlans_tbs, passAll_tbs, refillAll_tbs]
        rw [forEach_tbs _ (fun s d => by simp), forEach_tbs _ (fun s d => by simp)]
        simp
      · rw [forEach_tbs _ (fun s d => by simp)]
        simp only [sampleAll_tbs, discardPlans_tbs, passAll_tbs, refillAll_tbs]
        rw [forEach_tbs _ (fun s d => by simp), forEach_tbs _ (fun s d => by simp)]
        simp
  unfold SameCount
  rw [hvisible]
  exact visible_tbs d

/-- The timebase with which the next boundary is presented: the value held by a forward step first (R62, R63). -/
def nextCount (b : Tbs) : Tbs :=
  if b.presented < b.cnt then { b with presented := b.cnt }
  else { b with cnt := b.cnt + 1, presented := b.cnt + 1, ns := max b.ns (stitchNs (b.cnt + 1)) }

theorem stitchBoundary_stands {d : Dev} (h : d.tbs.running = false) : stitchBoundary d = d := if_pos (by simp [h])

/-- A boundary presents its count, and carries out the stitch unless a warm reset is in progress (R24, R62, R511). -/
theorem stitchBoundary_presents {d : Dev} (h : d.tbs.running = true) : ∃ n t0,
    stitchBoundary d = if d.pwr.resetAt.isSome then setTbs (nextCount d.tbs) d
      else stitchWork n t0 (setTbs (nextCount d.tbs) d) := by
  unfold stitchBoundary nextCount
  rw [if_neg (by simp [h])]
  split
  · exact ⟨_, _, rfl⟩
  · exact ⟨_, _, rfl⟩

theorem stitchBoundary_count {d : Dev} (h : d.tbs.running = true) : SameCount (stitchBoundary d).tbs (nextCount d.tbs) := by
  obtain ⟨n, t0, hact⟩ := stitchBoundary_presents h
  rw [hact]
  split
  · exact ⟨rfl, rfl, rfl⟩
  · exact stitchWork_count n t0 _

theorem stitchBoundary_in_reset {d : Dev} (h : d.tbs.running = true) (hreset : d.pwr.resetAt.isSome = true) :
    stitchBoundary d = { d with tbs := (stitchBoundary d).tbs } := by
  obtain ⟨n, t0, hact⟩ := stitchBoundary_presents h
  rw [hact, if_pos hreset]
  rfl

end Sys2Proof.Machine
end

section
set_option autoImplicit false
open Sys2Proof.Machine

/-- Settles O55: what each command's act leaves, carried through the granted request, the due event or the boundary. -/
theorem sessionCommands : Obligations.SessionCommands := by
  unfold Obligations.SessionCommands
  refine ⟨?commands, ?events, ?binding, ?boundary⟩
  case commands =>
    intro s q slot hsound hslot y x empty done held drained
    have hy : Sound y := sound_atTime q.now hsound
    have hrising : Rising y.sess := hy.tabs.sess
    have hid : slot < 256 := of_decide_eq_true hslot
    refine ⟨fun hg => ?define, fun hg => ?release, fun hg => ⟨fun hask => ?armed, fun hask => ?waits⟩, fun hg => ?disarm,
      fun hg => ?start, fun hg => ?pause, fun hg => ?resume, fun hg => ?drain, fun hg => ?operator⟩
    case define =>
      refine command_leaves (P := fun z _ => z.st = .defined ∧ z.refN = slotsOfParams (params y slot)) rfl hslot hg
        ((defineAct_keeps (m := 134217732) rfl (.refl y)).sound hy) ?_
      rw [defineAct_session hrising]
      exact ⟨rfl, rfl⟩
    case release =>
      exact command_leaves (P := fun z t => z.st = .free ∧ z.window = none ∧ z.charges = {} ∧ t = {}) rfl hslot hg
        ((toFree_keeps (m := 4398046511103) rfl (.refl y)).sound hy) (toFree_does slot y hy hid)
    case armed =>
      refine answers_actOn rfl hslot (granted_held hg) ?_
      rw [arm_granted hg]
      exact armAct_armed hy hask
    case waits =>
      refine answers_actOn rfl hslot (granted_held hg) ?_
      rw [arm_granted hg]
      exact armAct_waits hy hask
    case disarm =>
      exact command_leaves (P := fun z t => z.st = .defined ∧ z.window = none ∧ z.charges = {} ∧ t = {}) rfl hslot hg
        ((toDefined_keeps (m := 4398046511103) rfl (.refl y)).sound hy) (toDefined_does slot y hy)
    case start =>
      exact command_leaves (P := fun z _ => z.st = x.st ∧ z.pend = 5) rfl hslot hg
        ((startAct_keeps (m := 134217792) rfl (.refl y)).sound hy) (startAct_session hrising slot)
    case pause =>
      refine command_leaves (P := fun z _ => z.st = x.st ∧ z.pend = 6) rfl hslot hg
        ((setPend_keeps (m := 134217728) rfl (.refl y)).sound hy) ?_
      rw [setPend_session hrising]
      exact ⟨rfl, rfl⟩
    case resume =>
      refine command_leaves (P := fun z _ => z.st = x.st ∧ z.pend = 7) rfl hslot hg
        ((setPend_keeps (m := 134217728) rfl (.refl y)).sound hy) ?_
      rw [setPend_session hrising]
      exact ⟨rfl, rfl⟩
    case drain =>
      exact command_leaves (P := Drained x.st y.tbs.ns) rfl hslot hg (drainAct_sound slot hy) (drainAct_leaves slot hy)
    case operator =>
      refine answers_performOn (f := operatorDrainAct slot)
        (P := fun d => Drained x.st y.tbs.ns (sess d slot) (stream d (liveSid slot))) rfl hslot hg ?_
      obtain ⟨hsess, hstreams⟩ := operatorDrain_as_drain q 0x3004 slot y
      rw [sess_congr hsess, stream_congr hstreams]
      exact drainAct_leaves slot hy
  case events =>
    intro s slot now hawake hsound hslot y x
    have hy : Sound y := sound_atTime now hsound
    have hid : slot < 256 := of_decide_eq_true hslot
    refine ⟨fun hnone => ?_, fun w hwait => ⟨fun hearly => ?_, fun hlate => ?_⟩, fun hdue => ?_, fun hnot => ?_, fun hdone => ?_,
      fun hnot => ?_⟩
    · exact answers_actOn rfl hslot hawake (armTimeout_none hnone)
    · exact answers_actOn rfl hslot hawake (armTimeout_early hwait hearly)
    · refine answers_actOn (f := fun d => armTimeout slot (atTime now d)) rfl hslot hawake ?_
      rw [armTimeout_due hwait hlate]
      exact armRefuse_capacity hy hwait
    · refine answers_actOn (f := fun d => drainAbandon slot (atTime now d)) rfl hslot hawake ?_
      rw [drainAbandon_due hdue]
      exact abandonFrames_does hy hid
    · exact answers_actOn rfl hslot hawake (drainAbandon_not_due hnot)
    · exact answers_actOn rfl hslot hawake (drainComplete_done hy hdone)
    · exact answers_actOn rfl hslot hawake (drainComplete_not_done hnot)
  case binding =>
    intro s q t v hsound hslot hg y
    have hy : Sound y := sound_atTime q.now hsound
    have hid : t < 256 := of_decide_eq_true hslot
    refine ⟨fun hsame => ?_, fun hnew hv => ?_, fun hnew hv => ?_⟩
    · refine answers_performOn (f := bindAct t v) (P := fun d => d.tenants = y.tenants ∧ d.objs = y.objs) rfl hslot hg ?_
      rw [bindAct_same hsame]
      simp only [accept_frame, y, and_self]
    · subst hv
      refine answers_performOn (f := bindAct t 0xFFFF) (P := fun d => (tenantOf d t).st = 0 ∧
        (tenantOf d t).bound = 0xFFFF ∧ (tenantOf d t).root = none ∧ objGet d 0x2001 t = 0xFFFF ∧
        ∀ u ∈ sessionsOf y t, objGet d 0x3000 u = objDefault 0x3000 u) rfl hslot hg ?_
      simp only [tenantOf, objGet, accept_frame]
      exact bindAct_unbinds hy hid hnew
    · refine answers_performOn (f := bindAct t v) (P := fun d => (tenantOf d t).st = 1 ∧ (tenantOf d t).bound = v ∧
        objGet d 0x2001 t = v) rfl hslot hg ?_
      simp only [tenantOf, objGet, accept_frame]
      exact bindAct_binds hy hid hnew hv
  case boundary =>
    intro s hawake y
    refine ⟨fun hstands => ?_, fun hruns hheld => ?_, fun hruns hnext => ?_, fun hruns hreset => ?_⟩
    · exact answers_act rfl hawake (stitchBoundary_stands hstands)
    · refine answers_act (f := stitchBoundary) rfl hawake ?_
      have hcount := stitchBoundary_count hruns
      rwa [nextCount, if_pos hheld] at hcount
    · refine answers_act (f := stitchBoundary) rfl hawake ?_
      have hcount := stitchBoundary_count hruns
      rwa [nextCount, if_neg (Nat.not_lt.2 hnext)] at hcount
    · exact answers_act (f := stitchBoundary) rfl hawake (stitchBoundary_in_reset hruns hreset)

end

section
/-! PROOFS. Linings asked for, answered, asked for again and re-anchored (R60, R194, R199 to R202, R222, R228). -/
set_option autoImplicit false
namespace Sys2Proof.Machine

/-! ## Objects of the device, and those of a lining -/

/-- An object of a lower index is another object. -/
theorem objKey_ne_of_lt {i j u t : Nat} (h : i < j) (hu : u < 256) : objKey i u ≠ objKey j t := by unfold objKey; omega

theorem objGet_set_of_lt {d : Dev} (h : Rising d.objs) {i j u : Nat} (t v : Nat) (hi : i < j) (hu : u < 256) :
    objGet (objSet j t v d) i u = objGet d i u := objGet_set_ne d h _ _ _ _ _ (objKey_ne_of_lt hi hu)

/-- Resetting some objects of a slot leaves an object that is none of them. -/
theorem objResets_ne {l i u : Nat} : ∀ (ks : List Nat) (d : Dev), Rising d.objs → (∀ k ∈ ks, objKey i u ≠ objKey k l) →
    objGet (forEach ks (fun k d => objReset k l d) d) i u = objGet d i u
  | [], _, _, _ => rfl
  | a :: ks, d, h, hne => by
    refine (objResets_ne ks (objReset a l d) (rising_erase h) fun k hk => hne k (List.mem_cons_of_mem a hk)).trans ?_
    rw [objReset_get d h, if_neg (hne a List.mem_cons_self)]

/-- A change of a lining's state leaves the objects below those of the linings. -/
theorem linChange_below {d : Dev} (h : Rising d.objs) (l n c : Nat) {i u : Nat} (hi : i < 0x4000) (hu : u < 256) :
    objGet (linChange l n c d) i u = objGet d i u := by
  have hstate : Rising (objSet 0x4000 l n d).objs := objSet_rising d h _ _ _
  unfold linChange
  dsimp only
  rw [(postLining_obj l 1 _ _ (objSet_rising _ hstate 0x4007 l c) i u (by omega) hu).1,
    objGet_set_of_lt hstate _ _ (by omega) hu, objGet_set_of_lt h _ _ hi hu]

/-- A grant leaves the objects below those of the linings. -/
theorem grantLining_below {d : Dev} (h : Rising d.objs) (m : MirrorMsg) (a : LinAsk) (l s : Nat) {i u : Nat} (hi : i < 0x4000)
    (hu : u < 256) : objGet (grantLining m a l s d) i u = objGet d i u := by
  obtain ⟨hrising, -, -, -⟩ := objResets_get l i [0x5080, 0x5081, 0x5082, 0x5083, 0x5084, 0x5012] d h
  have hrestart : objGet (restartLining l d) i u = objGet d i u :=
    objResets_ne _ d h fun k hk => objKey_ne_of_lt (by fin_cases hk <;> omega) hu
  generalize hd1 : setLining l { prio := a.prio, charges := askedCharges d a } (restartLining l d) = d1
  have h1 : Rising d1.objs := by subst hd1; exact hrising
  have h2 := objSet_rising d1 h1 0x4004 l (b2n (decide (a.prio < objNow d 0x1441 0)))
  have h3 := objSet_rising _ h2 0x4003 l s
  have h4 := objSet_rising _ h3 0x4002 l a.t
  unfold grantLining
  dsimp only
  rw [hd1, linChange_below (objSet_rising _ h4 _ _ _) _ _ _ hi hu, objGet_set_of_lt h4 _ _ (by omega) hu,
    objGet_set_of_lt h3 _ _ (by omega) hu, objGet_set_of_lt h2 _ _ (by omega) hu, objGet_set_of_lt h1 _ _ (by omega) hu]
  subst hd1
  exact hrestart

/-! ## Messages that arrive and leave (R194) -/

/-- Taking the COUNTER of a message leaves the block well kept. -/
theorem sound_took {d : Dev} (h : Sound d) (n : Nat) : Sound { d with pair := { d.pair with lastIn := n } } :=
  (setPair_keeps (m := 67108864) (x := { d.pair with lastIn := n }) rfl (.inr rfl) (.refl d)).sound h

section
variable {c : Instr} {s : State} {k now : Nat} {m : MirrorMsg} {f : Dev → Dev} {P : Dev → Prop}
  (hexec : exec c s = act (fun d => receive k m f (atTime now d)) s) (hawake : isHeld s.dev = false)
include hexec hawake

/-- A message that is accepted acts once its COUNTER is taken. -/
theorem answers_received (hok : mirrorOk (atTime now s.dev) k m = true)
    (hp : P (f { atTime now s.dev with pair := { (atTime now s.dev).pair with lastIn := m.counter } })) : Answers c s P :=
  answers_act hexec hawake (by rw [receive_ok hok]; exact hp)

/-- A message that is not accepted is counted, and nothing else happens. -/
theorem answers_discarded (hbad : mirrorOk (atTime now s.dev) k m = false) :
    Answers c s (fun d => d = objCount 32 0x5098 0 1 (atTime now s.dev)) :=
  answers_act hexec hawake (receive_bad hbad)

end

/-- A message sent changes only the COUNTER of the pair, and that only with a pair key. -/
theorem sendMirror_pair_eq (m : MirrorMsg) (d : Dev) :
    (sendMirror m d).pair = { d.pair with counter := d.pair.counter + b2n d.pair.keyed } := by
  unfold sendMirror
  by_cases hk : d.pair.keyed = true
  · have hone : b2n d.pair.keyed = 1 := by rw [hk]; rfl
    rw [if_neg (by simp [hk]), hone]
    dsimp only
    split <;> simp [setPair]
  · have hnone : b2n d.pair.keyed = 0 := by rw [Bool.eq_false_iff.2 hk]; rfl
    rw [if_pos (by simp [hk]), hnone]
    rfl

theorem sendMirror_linState (m : MirrorMsg) {d : Dev} (h : Rising d.objs) {l : Nat} (hl : l < 256) :
    linState (sendMirror m d) l = linState d l := sendMirror_obj m d h 0x4000 l (by decide) hl

/-- A sequenced message leaves every object but the count of frames discarded. -/
theorem sendSeq_obj (s : Nat) (m : MirrorMsg) {d : Dev} (h : Rising d.objs) {i u : Nat} (hi : i ≠ 0x50D2) (hu : u < 256) :
    objGet (sendSeq s m d) i u = objGet d i u := by
  unfold sendSeq
  split
  · rfl
  · exact sendMirror_obj _ (setSess s _ d) h i u hi hu

/-- When a request for a lining was last refused stays. -/
def SameAsked (d e : Dev) : Prop := Rising d.sess → Rising e.sess ∧ ∀ u, (sess e u).askedAt = (sess d u).askedAt

theorem SameAsked.of {d e : Dev} (h : e.sess = d.sess) : SameAsked d e := fun r => ⟨by rwa [h], fun u => by rw [sess_congr h]⟩

theorem SameAsked.trans {a b c : Dev} (hab : SameAsked a b) (hbc : SameAsked b c) : SameAsked a c := fun r => by
  obtain ⟨hb, hsame⟩ := hab r
  obtain ⟨hc, hsame'⟩ := hbc hb
  exact ⟨hc, fun u => (hsame' u).trans (hsame u)⟩

theorem SameAsked.set {d : Dev} {k : Nat} {x : Session} (h : x.askedAt = (sess d k).askedAt) : SameAsked d (setSess k x d) :=
  fun r => ⟨rising_put r, fun u => by
    rw [sess_set d r]
    split
    · next hu => rw [hu, h]
    · rfl⟩

theorem SameAsked.each {α : Type} {f : α → Dev → Dev} (h : ∀ a d, SameAsked d (f a d)) :
    ∀ (l : List α) (d : Dev), SameAsked d (forEach l f d)
  | [], _ => .of rfl
  | a :: l, d => (h a d).trans (SameAsked.each h l (f a d))

theorem markSent_asked (k : Pkt) (d : Dev) : SameAsked d (markSent k d) := by
  have hcopy : ∀ f, SameAsked d (updCopy k.s k.seq k.e f d) := fun _ => .set rfl
  unfold markSent
  split
  · exact (hcopy _).trans (.set rfl)
  · split
    · exact hcopy _
    · exact .of rfl

theorem enterClass_asked (p c : Nat) (k : Pkt) (d : Dev) : SameAsked d (enterClass p c k d) := by
  unfold enterClass discardQueues
  dsimp only
  split
  · exact .of (by simp [setClassQueue, setPort])
  · refine SameAsked.trans (SameAsked.trans ?_ (.each markSent_asked _ _)) (.of rfl)
    exact .of (by simp [objCount, setClassQueue, setPort])

/-- Asking for a lining leaves when a request was last refused. -/
theorem askLining_asked (s : Nat) (d : Dev) : SameAsked d (askLining s d) := by
  unfold askLining sendMirror
  dsimp only
  split
  · exact .of rfl
  · exact SameAsked.trans (b := setPair { d.pair with counter := d.pair.counter + 1 } d) (.of rfl) (enterClass_asked _ _ _ _)

/-! ## LINING_REQUEST (R199) -/

theorem liningAsked_refused {m : MirrorMsg} {d : Dev} {c : Err} (h : lowest (liningErrs (linAsk m) d) = some c) :
    liningAsked m d = sendMirror { ty := 4, session := m.session, nums := [c.code, 0xFFFF, 0xFFFF] } d := by
  unfold liningAsked; dsimp only; rw [h]; rfl

theorem liningAsked_granted {m : MirrorMsg} {d : Dev} {l k : Nat} (he : lowest (liningErrs (linAsk m) d) = none)
    (hl : idleLining d = some l) (hk : standbyFor d (linAsk m).t = some k) :
    liningAsked m d = sendMirror { ty := 4, session := m.session, nums := [0, l, k] } (grantLining m (linAsk m) l k d) := by
  unfold liningAsked; dsimp only; rw [he, hl, hk]

theorem idleLining_lt {d : Dev} {l : Nat} (h : idleLining d = some l) : l < 256 := List.mem_range.1 (List.mem_of_find?_eq_some h)

/-- A request that earns no code leaves the lining ANCHORING with what it asked for, and is answered with both slots. -/
theorem liningAsked_grants {m : MirrorMsg} {d : Dev} {l k : Nat} (h : Sound d) (hkeyed : d.pair.keyed = true)
    (he : lowest (liningErrs (linAsk m) d) = none) (hl : idleLining d = some l) (hk : standbyFor d (linAsk m).t = some k) :
    let e := liningAsked m d
    let a := linAsk m
    linState e l = 1 ∧ lining e l = { prio := a.prio, charges := askedCharges d a } ∧ objGet e 0x4001 l = m.session ∧
      objGet e 0x4002 l = a.t ∧ objGet e 0x4003 l = k ∧ objGet e 0x4004 l = b2n (decide (a.prio < objNow d 0x1441 0)) ∧
      (linkUp d (mirrorPort d) = true → Mirrored { ty := 4, session := m.session, nums := [0, l, k] } e) := by
  have hid : l < 256 := idleLining_lt hl
  obtain ⟨hstate, hlining, hsession, htenant, hslot, hguaranteed, hrising⟩ := grantLining_does m (linAsk m) l k d h hid
  have hsound : Sound (grantLining m (linAsk m) l k d) := (grantLining_keeps (m := 4398046511103) rfl (.refl d)).sound h
  dsimp only
  rw [liningAsked_granted he hl hk]
  have hobj : ∀ i, i ≠ 0x50D2 → objGet (sendMirror { ty := 4, session := m.session, nums := [0, l, k] }
      (grantLining m (linAsk m) l k d)) i l = objGet (grantLining m (linAsk m) l k d) i l :=
    fun i hi => sendMirror_obj _ _ hrising i l hi hid
  refine ⟨(hobj _ (by decide)).trans hstate, (lining_congr (sendMirror_linings _ _) l).trans hlining,
    (hobj _ (by decide)).trans hsession, (hobj _ (by decide)).trans htenant, (hobj _ (by decide)).trans hslot,
    (hobj _ (by decide)).trans hguaranteed, fun hup => ?_⟩
  have hport : mirrorPort (grantLining m (linAsk m) l k d) = mirrorPort d := by
    unfold mirrorPort
    rw [grantLining_below h.objs.1 m (linAsk m) l k (by decide) (by decide)]
  refine sendMirror_queued _ _ hsound (by rw [grantLining_pair]; exact hkeyed) ?_ (show 4 ≠ 1 by decide)
  rw [hport]
  unfold linkUp port
  rw [grantLining_pke]
  exact hup

/-- A request that earns a code takes no lining, and is answered with the code. -/
theorem liningAsked_refuses {m : MirrorMsg} {d : Dev} {c : Err} (h : Sound d) (hkeyed : d.pair.keyed = true)
    (he : lowest (liningErrs (linAsk m) d) = some c) :
    let e := liningAsked m d
    e.linings = d.linings ∧ (∀ l, l < 256 → linState e l = linState d l) ∧
      (linkUp d (mirrorPort d) = true → Mirrored { ty := 4, session := m.session, nums := [c.code, 0xFFFF, 0xFFFF] } e) := by
  dsimp only
  rw [liningAsked_refused he]
  exact ⟨sendMirror_linings _ _, fun l hl => sendMirror_linState _ h.objs.1 hl,
    fun hup => sendMirror_queued _ _ h hkeyed hup (show 4 ≠ 1 by decide)⟩

/-! ## LINING_ANSWER (R60, R222) -/

/-- The opening of a link sets the view and the partner's lining of the session, and leaves its commands in force and the
outputs sent. -/
theorem openLink_does {d : Dev} (h : Rising d.objs) {s : Nat} (hs : s < 256) (l : Nat) :
    (objGet (openLink s l d) 0x3090 s = 2 ∧ objGet (openLink s l d) 0x3091 s = l) ∧ SameCmd d (openLink s l d) ∧
      (openLink s l d).emitted = d.emitted := by
  generalize hd1 : setSess s { sess d s with mseq := 0, tell := [], rateSent := {}, askedAt := none } d = d1
  have h1 : Rising d1.objs := by subst hd1; exact h
  have h2 : Rising (objSet 0x3091 s l d1).objs := objSet_rising d1 h1 _ _ _
  generalize hd2 : objSet 0x3090 s 2 (objSet 0x3091 s l d1) = d2
  have h3 : Rising d2.objs := by subst hd2; exact objSet_rising _ h2 _ _ _
  have hact : openLink s l d = sendSeq s (openMsg d2 s) d2 := by subst hd2 hd1; rfl
  refine ⟨?_, ?_, ?_⟩
  · rw [hact, sendSeq_obj s _ h3 (by decide) hs, sendSeq_obj s _ h3 (by decide) hs, ← hd2]
    exact ⟨objGet_set_self _ h2 _ _ _, (objGet_set_ne _ h2 _ _ _ _ _ (objKey_ne (by decide) hs hs)).trans
      (objGet_set_self d1 h1 _ _ _)⟩
  · have hset : SameCmd d d1 := by subst hd1; exact .set d s _ ⟨rfl, rfl, rfl, rfl, rfl, rfl, rfl, rfl, rfl⟩
    have hview : SameCmd d1 d2 := .of (by subst hd2; simp only [objSet_frame])
    rw [hact]
    exact hset.trans (hview.trans (sendSeq_cmd s (openMsg d2 s) d2))
  · exact ((openLink_keeps (m := 275079233541) rfl (.refl d)).only .emitted rfl).symm

/-- A waiting ARM that is accepted leaves the session ARMED, with nothing to wait for, and is answered (R60). -/
theorem armAccept_does {d : Dev} {s : Nat} {w : ArmWait} (h : Sound d) (hwait : (sess d s).armWait = some w) :
    (sess (armAccept s d) s).st = .armed ∧ (sess (armAccept s d) s).armWait = none ∧ Accepted w.req 0x3003 s (armAccept s d) := by
  have hact : armAccept s d =
      accept w.req 0x3003 s (objSet 0x3003 s 3 (setSess s { sess d s with armWait := none, st := .armed } d)) := by
    unfold armAccept; rw [hwait]
  have hsess : sess (armAccept s d) s = { sess d s with armWait := none, st := .armed } :=
    (sess_congr (by rw [hact]; simp only [accept_frame, objSet_frame]) s).trans (sess_self d h.tabs.sess s _)
  rw [hsess, hact]
  exact ⟨rfl, rfl, accepted_accept ..⟩

section
variable {m : MirrorMsg} {d : Dev} {w : ArmWait}

theorem liningAnswered_arms (hwait : (sess d m.session).armWait = some w) (hcode : m.nums.getD 0 0 = 0) :
    liningAnswered m d = openLink m.session (m.nums.getD 1 0) (armAccept m.session d) := by
  unfold liningAnswered
  dsimp only
  rw [if_pos (by rw [hwait]; rfl), if_pos hcode]

theorem liningAnswered_refuses (hwait : (sess d m.session).armWait = some w) (hcode : m.nums.getD 0 0 ≠ 0) :
    liningAnswered m d = armRefuse m.session .capacity d := by
  unfold liningAnswered
  dsimp only
  rw [if_pos (by rw [hwait]; rfl), if_neg hcode]

theorem liningAnswered_unarmed (hwait : (sess d m.session).armWait = none) :
    liningAnswered m d =
      if wantsLining d m.session = true ∧ d.pair.st = 2 then
        if m.nums.getD 0 0 = 0 then openLink m.session (m.nums.getD 1 0) d
        else setSess m.session { sess d m.session with askedAt := some d.tbs.ns } d
      else d := by
  unfold liningAnswered
  simp only [hwait, Option.isSome_none, Bool.false_eq_true, if_false, Bool.and_eq_true, decide_eq_true_eq]

/-- The grant of a lining to a waiting ARM arms the session with its link (R60, R196). -/
theorem liningAnswered_arms_linked (h : Sound d) (hs : m.session < 256) (hwait : (sess d m.session).armWait = some w)
    (hcode : m.nums.getD 0 0 = 0) :
    let e := liningAnswered m d
    (sess e m.session).st = .armed ∧ (sess e m.session).armWait = none ∧
      (objGet e 0x3090 m.session = 2 ∧ objGet e 0x3091 m.session = m.nums.getD 1 0) ∧ Accepted w.req 0x3003 m.session e := by
  have haccept : Sound (armAccept m.session d) := (armAccept_keeps (m := 4398046511103) rfl (.refl d)).sound h
  obtain ⟨hst, hnone, len, payload, hsent⟩ := armAccept_does h hwait
  obtain ⟨hlinked, hcmd, hemitted⟩ := openLink_does haccept.objs.1 hs (m.nums.getD 1 0)
  obtain ⟨hst', -, -, -, -, hnone', -⟩ := (hcmd haccept.tabs.sess).2 m.session
  dsimp only
  rw [liningAnswered_arms hwait hcode]
  exact ⟨hst'.trans hst, hnone'.trans hnone, hlinked, len, payload, by rw [Sent, hemitted]; exact hsent⟩

/-- The answer to a request made after re-pairing opens the link of a session that goes on as it was (R222). -/
theorem liningAnswered_links (h : Sound d) (hs : m.session < 256) (hwait : (sess d m.session).armWait = none)
    (hwants : wantsLining d m.session = true) (hpair : d.pair.st = 2) (hcode : m.nums.getD 0 0 = 0) :
    let e := liningAnswered m d
    (objGet e 0x3090 m.session = 2 ∧ objGet e 0x3091 m.session = m.nums.getD 1 0) ∧
      (sess e m.session).st = (sess d m.session).st := by
  obtain ⟨hlinked, hcmd, -⟩ := openLink_does h.objs.1 hs (m.nums.getD 1 0)
  dsimp only
  rw [liningAnswered_unarmed hwait, if_pos ⟨hwants, hpair⟩, if_pos hcode]
  exact ⟨hlinked, ((hcmd h.tabs.sess).2 m.session).1⟩

/-- A request made after re-pairing that is refused waits from now on to be tried again (R222). -/
theorem liningAnswered_waits (h : Rising d.sess) (hwait : (sess d m.session).armWait = none)
    (hwants : wantsLining d m.session = true) (hpair : d.pair.st = 2) (hcode : m.nums.getD 0 0 ≠ 0) :
    (sess (liningAnswered m d) m.session).askedAt = some d.tbs.ns ∧ (liningAnswered m d).objs = d.objs := by
  rw [liningAnswered_unarmed hwait, if_pos ⟨hwants, hpair⟩, if_neg hcode]
  exact ⟨congrArg Session.askedAt (sess_self d h m.session _), rfl⟩

/-- An answer that nothing waits for has no effect. -/
theorem liningAnswered_ignored (hwait : (sess d m.session).armWait = none)
    (hno : wantsLining d m.session = false ∨ d.pair.st ≠ 2) : liningAnswered m d = d := by
  refine (liningAnswered_unarmed hwait).trans (if_neg ?_)
  rintro ⟨hwants, hpair⟩
  rcases hno with hnot | hnot
  · simp [hnot] at hwants
  · exact hnot hpair

end

/-! ## LINING_REQUEST_RETRY (R222) -/

/-- When is a refused request due again: 1 s later, while the pair is PAIRED and the session still wants a lining (R222)? -/
def askDue (s t : Nat) (d : Dev) : Prop := d.pair.st = 2 ∧ wantsLining d s = true ∧ t + 1000000000 ≤ d.tbs.ns

theorem liningRetry_none {s : Nat} {d : Dev} (h : (sess d s).askedAt = none) : liningRetry s d = d := by
  unfold liningRetry; rw [h]

theorem liningRetry_eq {s t : Nat} {d : Dev} (h : (sess d s).askedAt = some t) :
    liningRetry s d = if d.pair.st = 2 ∧ wantsLining d s = true ∧ t + 1000000000 ≤ d.tbs.ns then
      askLining s (setSess s { sess d s with askedAt := none } d) else d := by
  unfold liningRetry
  rw [h]
  simp only [Bool.and_eq_true, decide_eq_true_eq, and_assoc]

theorem liningRetry_not_due {s t : Nat} {d : Dev} (h : (sess d s).askedAt = some t) (hdue : ¬ askDue s t d) :
    liningRetry s d = d := (liningRetry_eq h).trans (if_neg hdue)

/-- A request that is due again leaves once more. -/
theorem liningRetry_due {s t : Nat} {d : Dev} (hs : Rising d.sess) (h : (sess d s).askedAt = some t) (hdue : askDue s t d) :
    (sess (liningRetry s d) s).askedAt = none ∧ (liningRetry s d).pair.counter = d.pair.counter + b2n d.pair.keyed := by
  rw [(liningRetry_eq h).trans (if_pos hdue)]
  refine ⟨?_, congrArg Pair.counter (sendMirror_pair_eq _ (setSess s _ d))⟩
  rw [(askLining_asked s _ (setSess_rising d hs s _)).2 s, sess_self d hs]

/-! ## LINING_REANCHOR (R228) -/

/-- The LINING_STATE with which a lining asks for a refresh (R195, R202). -/
def refreshAsk (d : Dev) (l : Nat) : MirrorMsg :=
  { ty := 10, session := objGet d 0x4001 l, lining := l, nums := [linState d l, objGet d 0x4007 l, 1] }

/-- A refresh request of a lining that asks is counted and sent (R202). -/
theorem sendLinState_asks {l : Nat} {d : Dev} (h : (lining d l).quiet = false) :
    sendLinState l true [] d = sendMirror (refreshAsk d l) (objCount 32 0x5084 l 1 d) := by
  unfold sendLinState
  rw [h]
  rfl

/-- A re-anchor clears the attempts and asks for a refresh; the lining stays in its state. -/
theorem reanchor_does {l : Nat} {d : Dev} (h : Sound d) (hl : l < 256) :
    let e := reanchor l d
    objGet e 0x4008 l = objDefault 0x4008 l ∧ (lining e l).quiet = false ∧ linState e l = linState d l ∧
      objGet e 0x5084 l = (objGet d 0x5084 l + 1) % 2 ^ 32 ∧
      (d.pair.keyed = true → linkUp d (mirrorPort d) = true → Mirrored (refreshAsk d l) e) := by
  generalize hd1 : objReset 0x4008 l (updLining l (fun x => { x with quiet := false }) d) = d1
  have hsound : Sound d1 := by
    subst hd1
    exact (objReset_keeps (m := 4398046511103) rfl (updLining_keeps (m := 4398046511103) rfl (.refl d))).sound h
  have hlining : lining d1 l = { lining d l with quiet := false } := by
    subst hd1
    exact (lining_congr (objReset_linings _ _ _) l).trans (updLining_get d h.tabs.linings l _)
  have hobj : ∀ {i u : Nat}, u < 256 → i ≠ 0x4008 → objGet d1 i u = objGet d i u := fun hu hi => by
    subst hd1
    exact (objReset_get (updLining l _ d) h.objs.1 _ _ _ _).trans (if_neg (objKey_ne hi.symm hl hu))
  have hattempts : objGet d1 0x4008 l = objDefault 0x4008 l := by
    subst hd1
    exact (objReset_get (updLining l _ d) h.objs.1 _ _ _ _).trans (if_pos rfl)
  generalize hd2 : objCount 32 0x5084 l 1 d1 = d2
  have hcount : Sound d2 := by subst hd2; exact (objCount_keeps (m := 4398046511103) rfl (.refl d1)).sound hsound
  have hobj2 : ∀ {i u : Nat}, u < 256 → i ≠ 0x5084 → objGet d2 i u = objGet d1 i u := fun hu hi => by
    subst hd2
    exact objCount_get_ne d1 hsound.objs.1 _ _ _ _ _ _ (objKey_ne hi.symm hl hu)
  have hask : refreshAsk d1 l = refreshAsk d l := by
    unfold refreshAsk linState
    rw [hobj hl (by decide), hobj hl (by decide), hobj hl (by decide)]
  have hact : reanchor l d = sendMirror (refreshAsk d l) d2 := by
    unfold reanchor
    rw [hd1, sendLinState_asks (by rw [hlining]), hd2, hask]
  dsimp only
  rw [hact]
  have hsend : ∀ {i : Nat}, i ≠ 0x50D2 → objGet (sendMirror (refreshAsk d l) d2) i l = objGet d2 i l := fun hi =>
     sendMirror_obj _ d2 hcount.objs.1 _ l hi hl
  refine ⟨?_, ?_, ?_, ?_, fun hkeyed hup => ?_⟩
  · rw [hsend (by decide), hobj2 hl (by decide), hattempts]
  · rw [lining_congr (sendMirror_linings _ _), ← hd2, lining_congr (objCount_linings ..), hlining]
  · exact (hsend (by decide)).trans ((hobj2 hl (by decide)).trans (hobj hl (by decide)))
  · rw [hsend (by decide), ← hd2, objCount_get d1 hsound.objs.1, hobj hl (by decide)]
  · have hframe : d2.pair = d.pair ∧ d2.pke = d.pke := by
      subst hd2 hd1
      exact ⟨by simp only [objCount_frame]; rfl, by simp only [objCount_frame]; rfl⟩
    have hport : mirrorPort d2 = mirrorPort d := by
      unfold mirrorPort
      rw [hobj2 (by decide) (by decide), hobj (by decide) (by decide)]
    refine sendMirror_queued _ d2 hcount (by rw [hframe.1]; exact hkeyed) ?_ (show 10 ≠ 1 by decide)
    rw [hport]
    unfold linkUp port
    rw [hframe.2]
    exact hup

end Sys2Proof.Machine
end

section
/-! PROOFS. Linings released and promoted by command (R201, R216). -/
set_option autoImplicit false
namespace Sys2Proof.Machine

/-! ## LINING_RELEASE (R201) -/

@[simp] theorem freeLining_pair (l : Nat) (d : Dev) : (freeLining l d).pair = d.pair :=
  ((freeLining_keeps (m := 1175881521428) rfl (.refl d)).only .pair rfl).symm
@[simp] theorem dropReservations_pair (s : Nat) (d : Dev) : (dropReservations s d).pair = d.pair :=
  ((dropReservations_keeps (m := 1004082829597) rfl (.refl d)).only .pair rfl).symm

/-- After a promotion is given up none of the lining is left. -/
theorem cancelPromotion_promoting (l : Nat) (d : Dev) : ∀ e ∈ (cancelPromotion l d).pair.promoting, e.1 ≠ l := by
  unfold cancelPromotion
  split
  · rw [dropReservations_pair]
    intro e he
    simpa using (List.mem_filter.1 he).2
  · next hnone =>
    intro e he hl
    exact hnone (List.any_eq_true.2 ⟨e, he, by simp [hl]⟩)

/-- A released lining is IDLE with nothing left, and no promotion of it goes on. -/
theorem release_does {l : Nat} {d : Dev} (h : Sound d) (hl : l < 256) :
    let e := freeLining l (cancelPromotion l d)
    lining e l = {} ∧ linState e l = objDefault 0x4000 l ∧ stream e (liningSid l) = {} ∧ ∀ p ∈ e.pair.promoting, p.1 ≠ l := by
  obtain ⟨hlining, hstate, hstream⟩ := freeLining_does l _
    ((cancelPromotion_keeps (m := 4398046511103) (l := l) rfl (.refl d)).sound h) hl
  exact ⟨hlining, hstate, hstream, by rw [freeLining_pair]; exact cancelPromotion_promoting l d⟩

/-! ## The order of a promotion pass (R216) -/

theorem mem_insertKey {α : Type} {x z : List Nat × α} : ∀ {t : List (List Nat × α)}, z ∈ insertKey x t → z = x ∨ z ∈ t
  | [], h => .inl (List.mem_singleton.1 h)
  | y :: t, h => by
    unfold insertKey at h
    split at h
    · exact List.mem_cons.1 h
    · rcases List.mem_cons.1 h with rfl | h
      · exact .inr List.mem_cons_self
      · exact (mem_insertKey h).imp_right (List.mem_cons_of_mem y)

theorem mem_sortKeys {α : Type} {z : List Nat × α} : ∀ {t : List (List Nat × α)}, z ∈ sortKeys t → z ∈ t
  | _ :: _, h => (mem_insertKey h).elim (fun hx => hx ▸ List.mem_cons_self) fun ht => List.mem_cons_of_mem _ (mem_sortKeys ht)

/-- A pass takes no lining but those it is given. -/
theorem mem_promoteOrder {d : Dev} {ls : List Nat} {l : Nat} (h : l ∈ promoteOrder d ls) : l ∈ ls := by
  obtain ⟨x, hx, rfl⟩ := List.mem_map.1 h
  obtain ⟨k, hk, rfl⟩ := List.mem_map.1 (mem_sortKeys hx)
  exact hk

/-! ## One lining of a pass -/

/-- The lining is promoted at `t`, or it is IDLE. -/
def Settled (l t : Nat) (d : Dev) : Prop := (l, t) ∈ d.pair.promoting ∨ linState d l = objDefault 0x4000 l

/-- A lining that returns to IDLE leaves the state of every other one. -/
theorem freeLining_linState {l k : Nat} {d : Dev} (h : Rising d.objs) (hk : k < 256) (hne : k ≠ l) :
    linState (freeLining l d) k = linState d k := by
  unfold freeLining
  dsimp only
  generalize hd2 : setStream (liningSid l) {} (setLining l {} { releaseUse (fun u => u.lining? == some l) d with
    linPrm := tabFilter (fun k => k / 65536 != l) (releaseUse (fun u => u.lining? == some l) d).linPrm }) = d2
  generalize hd3 : (if (decide (linStandby d l < 256) && decide (linState d l ≠ 4)) = true then
    setSess (linStandby d l) { sess d2 (linStandby d l) with window := none } d2 else d2) = d3
  have hobjs : d3.objs = d.objs := by
    have h2 : d2.objs = d.objs := by subst hd2; exact releaseUse_objs _ _
    subst hd3
    split
    · exact h2
    · exact h2
  have h3 : Rising d3.objs := by rw [hobjs]; exact h
  generalize hd4 : forEach [0x4000, 0x4001, 0x4002, 0x4003, 0x4004, 0x4005, 0x4007, 0x4008] (fun i d => objReset i l d) d3 = d4
  have h4 : Rising d4.objs := by subst hd4; exact (objResets_get l 0 _ d3 h3).1
  have hstate : linState d4 k = linState d k := by
    subst hd4
    refine (objResets_ne _ d3 h3 fun i hi => ?_).trans (objGet_congr hobjs _ _)
    fin_cases hi <;> unfold objKey <;> omega
  obtain ⟨hpf, h5⟩ := postEvent_obj pfFn 5 1 0 l (linState d l) d4 h4 (.inl rfl) 0x4000 k (by decide) hk
  split
  · next ht =>
    exact (postEvent_obj _ 5 1 0 l (linState d l) _ h5 (.inr ht) 0x4000 k (by decide) hk).1.trans (hpf.trans hstate)
  · exact hpf.trans hstate

@[simp] theorem promoteAdmit_objs (l e t : Nat) (d : Dev) : (promoteAdmit l e t d).objs = d.objs :=
  ((promoteAdmit_keeps (m := 1238225649664) rfl (.refl d)).only .objs rfl).symm
@[simp] theorem promoteOne_tbs (l t : Nat) (d : Dev) : (promoteOne l t d).tbs = d.tbs :=
  ((promoteOne_keeps (m := 1313387583892) rfl (.refl d)).only .tbs rfl).symm
theorem promoteOne_sound {l t : Nat} {d : Dev} (h : Sound d) : Sound (promoteOne l t d) :=
  (promoteOne_keeps (m := 4398046511103) rfl (.refl d)).sound h

theorem pulse_sound {src code sev subject info : Nat} {d : Dev} (h : Sound d) : Sound (pulse src code sev subject info d) :=
  (pulse_keeps (m := 4398046511103) rfl (.refl d)).sound h

/-- An admitted lining joins those whose promotion goes on. -/
theorem promoteAdmit_promoting (l e t : Nat) (d : Dev) : (promoteAdmit l e t d).pair.promoting = d.pair.promoting ++ [(l, t)] := by
  unfold promoteAdmit
  dsimp only [setPair, setSess, setLining, setWrd]
  rw [allocAll_pair]

/-- A lining of the pass is promoted or IDLE; no promotion that goes on ends. -/
theorem promoteOne_does {l t : Nat} {d : Dev} (h : Sound d) (hl : l < 256) :
    Settled l t (promoteOne l t d) ∧ ∀ e ∈ d.pair.promoting, e ∈ (promoteOne l t d).pair.promoting := by
  unfold promoteOne
  split
  · rw [Settled, promoteAdmit_promoting]
    exact ⟨.inl (List.mem_append_right _ (List.mem_singleton.2 rfl)), fun e he => List.mem_append_left _ he⟩
  · rw [promoteRefused_pair]
    have hpulse : Sound (pulse 1 0x0052 2 l Err.capacity.code d) := pulse_sound h
    exact ⟨.inr (freeLining_does l _ hpulse hl).2.1, fun e he => he⟩

/-- A lining that is IDLE stays so while another, or it again, is taken. -/
theorem promoteOne_idle {l t k : Nat} {d : Dev} (h : Sound d) (hl : l < 256) (hk : k < 256)
    (hidle : linState d k = objDefault 0x4000 k) : linState (promoteOne l t d) k = objDefault 0x4000 k := by
  unfold promoteOne
  split
  · exact (objGet_congr (promoteAdmit_objs ..) _ _).trans hidle
  · have hpulse : Sound (pulse 1 0x0052 2 l Err.capacity.code d) := pulse_sound h
    by_cases hkl : k = l
    · subst hkl
      exact (freeLining_does k _ hpulse hl).2.1
    · exact (freeLining_linState hpulse.objs.1 hk hkl).trans ((objGet_congr (pulse_objs ..) _ _).trans hidle)

theorem promoteOne_settled {l t k u : Nat} {d : Dev} (h : Sound d) (hl : l < 256) (hk : k < 256) (hs : Settled k u d) :
    Settled k u (promoteOne l t d) :=
  hs.imp ((promoteOne_does h hl).2 _) (promoteOne_idle h hl hk)

/-! ## The whole pass -/

/-- The lining at place i of a pass, promoted i + 1 times 200 us later (R216). -/
def promoteNth (o : List Nat) (i : Nat) (d : Dev) : Dev := promoteOne (o.getD i 0) (d.tbs.ns + 200000 * (i + 1)) d

section
variable {o : List Nat} (ho : ∀ i, o.getD i 0 < 256)
include ho

/-- What is settled stays so to the end of a pass, and what is being promoted stays so. -/
theorem promoteNths_keep : ∀ (is : List Nat) {d : Dev}, Sound d →
    (∀ k u, k < 256 → Settled k u d → Settled k u (forEach is (promoteNth o) d)) ∧
      ∀ e ∈ d.pair.promoting, e ∈ (forEach is (promoteNth o) d).pair.promoting
  | [], _, _ => ⟨fun _ _ _ h => h, fun _ h => h⟩
  | i :: is, d, h => by
    obtain ⟨hsettled, hpromoting⟩ := promoteNths_keep is (d := promoteNth o i d) (promoteOne_sound h)
    exact ⟨fun k u hk hs => hsettled k u hk (promoteOne_settled h (ho i) hk hs),
      fun e he => hpromoting e ((promoteOne_does h (ho i)).2 e he)⟩

/-- A pass settles each lining it takes. -/
theorem promoteNths_settle : ∀ (is : List Nat) {d : Dev}, Sound d → ∀ i ∈ is,
    Settled (o.getD i 0) (d.tbs.ns + 200000 * (i + 1)) (forEach is (promoteNth o) d)
  | [], _, _, _, hi => by cases hi
  | j :: is, d, h, i, hi => by
    have hnext : Sound (promoteNth o j d) := promoteOne_sound h
    rcases List.mem_cons.1 hi with rfl | hi
    · exact (promoteNths_keep ho is hnext).1 _ _ (ho i) (promoteOne_does h (ho i)).1
    · have hlater := promoteNths_settle is hnext i hi
      rwa [show (promoteNth o j d).tbs = d.tbs from promoteOne_tbs _ _ _] at hlater

end

/-- A promotion pass over lining slots settles each of them, in the order of R216. -/
theorem promotionPass_does {ls : List Nat} {d : Dev} (h : Sound d) (hls : ∀ l ∈ ls, l < 256) :
    (∀ e ∈ d.pair.promoting, e ∈ (promotionPass ls d).pair.promoting) ∧
      ∀ i l, (promoteOrder d ls)[i]? = some l → Settled l (d.tbs.ns + 200000 * (i + 1)) (promotionPass ls d) := by
  have ho : ∀ i, (promoteOrder d ls).getD i 0 < 256 := fun i => by
    rw [List.getD_eq_getElem?_getD]
    cases hi : (promoteOrder d ls)[i]? with
    | none => decide
    | some l => exact hls l (mem_promoteOrder (List.mem_of_getElem? hi))
  refine ⟨(promoteNths_keep ho _ h).2, fun i l hi => ?_⟩
  have hsettled := promoteNths_settle ho (List.range (promoteOrder d ls).length) h i
    (List.mem_range.2 (List.getElem?_eq_some_iff.1 hi).1)
  rwa [List.getD_eq_getElem?_getD, hi] at hsettled

/-! ## PROMOTE_LININGS -/

theorem sendMirror_promoting (m : MirrorMsg) (d : Dev) : (sendMirror m d).pair.promoting = d.pair.promoting := by
  rw [sendMirror_pair_eq]

/-- Naming the sessions to the partner leaves the promotions and the states of the linings. -/
theorem sendTaken_does {d : Dev} (h : Rising d.objs) : (sendTaken d).pair.promoting = d.pair.promoting ∧
    ∀ l, l < 256 → linState (sendTaken d) l = linState d l := by
  unfold sendTaken
  dsimp only
  split
  · exact ⟨rfl, fun _ _ => rfl⟩
  · exact ⟨sendMirror_promoting _ d, fun l hl => sendMirror_linState _ h hl⟩

theorem mem_activeLinings {d : Dev} {l : Nat} (h : l ∈ activeLinings d) : l < 256 := List.mem_range.1 (List.mem_filter.1 h).1

/-- The linings that a loss promotion takes (R216, R448). -/
def lossLinings (d : Dev) : List Nat :=
  (activeLinings d).filter fun l => (lining d l).opened && !(d.pair.promoting.any fun e => e.1 == l) &&
    (linState d l == 2 || (isArmed d 7 && (linState d l == 1 || linState d l == 3)))

/-- PROMOTE_LININGS is granted only in PARTNER_LOST (R216). -/
theorem promote_granted {q : Req} {v : Nat} {d : Dev}
    (h : granted q 0x1446 0 (fun d => earned [(v != 1, .range), (d.pair.st != 4, .state)]) d = true) :
    (atTime q.now d).pair.st = 4 := by
  by_contra hst
  refine granted_own h .state (mem_earned _ _ (List.mem_cons_of_mem _ (List.mem_singleton.2 ?_)))
  rw [bne_iff_ne.2 hst]

/-- A loss promotion leaves the pair in its state and ends no promotion; each lining it takes is promoted in its turn, or IDLE. -/
theorem lossPass_does {d : Dev} (h : Sound d) :
    (lossPass d).pair.st = d.pair.st ∧ (∀ e ∈ d.pair.promoting, e ∈ (lossPass d).pair.promoting) ∧
      ∀ i l, (promoteOrder d (lossLinings d))[i]? = some l → Settled l (d.tbs.ns + 200000 * (i + 1)) (lossPass d) := by
  have hslots : ∀ l ∈ lossLinings d, l < 256 := fun l hl => mem_activeLinings (List.mem_of_mem_filter hl)
  have hact : lossPass d = sendTaken (promotionPass (lossLinings d) d) := rfl
  obtain ⟨hkeep, hsettle⟩ := promotionPass_does h hslots
  have hpass : Sound (promotionPass (lossLinings d) d) := (promotionPass_keeps (m := 4398046511103) rfl (.refl d)).sound h
  obtain ⟨hpromoting, hstate⟩ := sendTaken_does hpass.objs.1
  rw [hact]
  refine ⟨((promotionPass_pair _ _).trans (sendTaken_pair _)).1, fun e he => by rw [hpromoting]; exact hkeep e he, fun i l hi => ?_⟩
  rw [Settled, hpromoting, hstate l (hslots l (mem_promoteOrder (List.mem_of_getElem? hi)))]
  exact hsettle i l hi

end Sys2Proof.Machine
end

section
set_option autoImplicit false
open Sys2Proof.Machine

/-- Settles O59: what each message leaves once its COUNTER is taken, and what each granted command leaves besides its answer. -/
theorem liningCommands : Obligations.LiningCommands := by
  unfold Obligations.LiningCommands
  refine ⟨?messages, ?commands⟩
  case messages =>
    intro s now hawake hsound y took sends
    have hy : Sound y := sound_atTime now hsound
    have htook : ∀ m, Sound (took m) := fun m => sound_took hy m.counter
    refine ⟨fun m hbad => ?badRequest, fun m hok => ?request, fun m hbad => ?badAnswer, fun m hok => ?answer, fun k hslot => ?retry⟩
    case badRequest => exact answers_discarded rfl hawake hbad
    case badAnswer => exact answers_discarded rfl hawake hbad
    case request =>
      have hkeyed : (took m).pair.keyed = true := mirrorOk_keyed (d := y) hok
      exact ⟨fun l k he hl hk => answers_received rfl hawake hok (liningAsked_grants (htook m) hkeyed he hl hk),
        fun c he => answers_received rfl hawake hok (liningAsked_refuses (htook m) hkeyed he)⟩
    case answer =>
      intro k x linked
      refine ⟨fun w hslot hwait hcode => ?arms, fun w hslot hwait hcode => ?refuses, fun hslot hwait hwants hpair hcode => ?links,
        fun hwait hwants hpair hcode => ?waits, fun hwait hno => ?ignored⟩
      case arms =>
        exact answers_received rfl hawake hok (liningAnswered_arms_linked (htook m) (of_decide_eq_true hslot) hwait hcode)
      case refuses =>
        refine answers_received rfl hawake hok ?_
        rw [liningAnswered_refuses (d := took m) hwait hcode]
        exact armRefuse_capacity (htook m) hwait
      case links =>
        exact answers_received rfl hawake hok
          (liningAnswered_links (htook m) (of_decide_eq_true hslot) hwait hwants hpair hcode)
      case waits =>
        exact answers_received rfl hawake hok (liningAnswered_waits (d := took m) hy.tabs.sess hwait hwants hpair hcode)
      case ignored => exact answers_received rfl hawake hok (liningAnswered_ignored (d := took m) hwait hno)
    case retry =>
      refine ⟨fun hnone => ?_, fun t hasked hnot => ?_, fun t hasked hdue => ?_⟩
      · exact answers_actOn rfl hslot hawake (liningRetry_none hnone)
      · exact answers_actOn rfl hslot hawake (liningRetry_not_due hasked hnot)
      · exact answers_actOn (f := fun d => liningRetry k (atTime now d)) rfl hslot hawake (liningRetry_due hy.tabs.sess hasked hdue)
  case commands =>
    intro s q hsound y
    have hy : Sound y := sound_atTime q.now hsound
    refine ⟨fun l hslot hg => ?reanchor, fun l hslot hg => ?release, fun v hg => ?promote⟩
    case reanchor =>
      obtain ⟨hattempts, hquiet, hstate, hcount, hsends⟩ := reanchor_does hy (of_decide_eq_true hslot)
      refine answers_performOn (f := reanchor l) (P := fun d => objGet d 0x4008 l = objDefault 0x4008 l ∧
        (lining d l).quiet = false ∧ linState d l = linState y l ∧ objGet d 0x5084 l = (objGet y 0x5084 l + 1) % 2 ^ 32 ∧
        (y.pair.keyed = true → linkUp y (mirrorPort y) = true → Mirrored (refreshAsk y l) d)) rfl hslot hg ?_
      simp only [linState, lining, objGet, accept_frame]
      exact ⟨hattempts, hquiet, hstate, hcount, fun hkeyed hup => mirrored_congr (hsends hkeyed hup)
        (by simp only [accept_frame]; rfl) (by simp only [accept_frame]; rfl) (by simp only [accept_frame]; rfl)⟩
    case release =>
      refine answers_performOn (f := fun d => freeLining l (cancelPromotion l d)) (P := fun d => lining d l = {} ∧
        linState d l = objDefault 0x4000 l ∧ stream d (liningSid l) = {} ∧ ∀ e ∈ d.pair.promoting, e.1 ≠ l) rfl hslot hg ?_
      simp only [linState, lining, stream, objGet, accept_frame]
      exact release_does hy (of_decide_eq_true hslot)
    case promote =>
      intro ls
      obtain ⟨hst, hkeep, hsettle⟩ := lossPass_does hy
      have hlost : y.pair.st = 4 := promote_granted hg
      refine answers_perform (f := lossPass) (P := fun d => d.pair.st = 4 ∧ (∀ e ∈ y.pair.promoting, e ∈ d.pair.promoting) ∧
        ∀ i l, (promoteOrder y ls)[i]? = some l → Settled l (y.tbs.ns + 200000 * (i + 1)) d) rfl hg ?_
      simp only [Settled, linState, objGet, accept_frame]
      exact ⟨hst.trans hlost, hkeep, hsettle⟩

end

section
/-! PROOFS. The loss of VF Enable with tenants outside the 256 slots (R36, R40), which `Sound` does not shut out. -/
set_option autoImplicit false
namespace Sys2Proof.Machine

/-- A tenant far above slot 255, whose object 0x2052 has the key of the owner of session 3, 0x3000:3. -/
def strayTenant : Nat := 256 * (0x3000 - 0x2052) + 3

/-- Two stray tenants with functions behind link 0; the second owns session 3, which runs. The erasure of the first one's keys resets
0x2052 of its slot, hence the owner of session 3, so that the reset of the second finds no session to free. -/
def strayDev : Dev :=
  { objs := [(objKey 0x3000 3, strayTenant + 1)]
    tenants := [(strayTenant, { st := 1, bound := 1 }), (strayTenant + 1, { st := 1, bound := 2 })]
    sess := [(3, { st := .running })] }

theorem strayDev_sound : Sound strayDev where
  regs := ⟨.nil, by simp [strayDev]⟩
  objs := ⟨List.pairwise_singleton _ _, fun e he => by
    cases List.mem_singleton.1 he
    exact ⟨0x3000, 3, rfl, by decide⟩⟩
  mem := ⟨.nil, by simp [strayDev]⟩
  pair := by decide
  ring := by decide
  tabs := by constructor <;> simp [Rising, strayDev]

theorem vfLoss_strayDev : (sess (vfLoss 0 (atTime 0 strayDev)) 3).st = .running := by decide +kernel

end Sys2Proof.Machine

open Sys2Proof.Machine

/-- Refutes O48: VF_ENABLE_CLEAR resets both stray tenants behind link 0, and session 3, which the second owns, still runs. -/
theorem not_linkFunctions : ¬ Obligations.LinkFunctions := by
  unfold Obligations.LinkFunctions
  intro h
  obtain ⟨-, -, -, -, hclear, -⟩ := h ⟨strayDev, []⟩ 0 0 (by decide) strayDev_sound (by decide)
  obtain ⟨d, hnext, -, -, hgone⟩ := hclear
  have hcarried : exec (.vfEnableClear 0 0) ⟨strayDev, []⟩ = .next ⟨vfLoss 0 (atTime 0 strayDev), []⟩ :=
    actOn_next rfl (by decide)
  cases hcarried.symm.trans hnext
  obtain ⟨hfree, -⟩ := hgone (strayTenant + 1) (by decide)
  cases vfLoss_strayDev.symm.trans (hfree 3 (by decide +kernel))

end

section
/-! PROOFS. Steps of the time, its setting, the PPS pins and the servo (R63, R64, R190, R250, R426, R504 to R507). -/
set_option autoImplicit false
namespace Sys2Proof.Machine

/-! ## Steps of T (R63) -/

/-- What a step makes of the timebase depends on the timebase alone. -/
theorem stepTime_tbs_congr (x : Int) {d e : Dev} (h : d.tbs = e.tbs) : (stepTime x d).tbs = (stepTime x e).tbs := by
  rcases le_or_gt x 0 with hx | hx
  · rw [(stepTime_back_tbs x d hx).1, (stepTime_back_tbs x e hx).1, h]
  · rw [stepTime_forth x d hx, stepTime_forth x e hx, h]

/-- A backward step moves T alone; a forward step that passes boundaries brings the counter along and counts the skips (R63). -/
theorem stepTime_does (x : Int) (d : Dev) :
    let t := ((d.tbs.ns : Int) + x).toNat % 2 ^ 64
    let b := (stepTime x d).tbs
    b.ns = t ∧ b.align = d.tbs.align ∧ (x ≤ 0 → b = { d.tbs with ns := t }) ∧
      (0 < x → stitchesIn t ≤ d.tbs.cnt → b = { d.tbs with ns := t }) ∧
      (0 < x → d.tbs.cnt < stitchesIn t →
        b = { d.tbs with ns := t, cnt := stitchesIn t, skip := min (2 ^ 32 - 1) (d.tbs.skip + (stitchesIn t - d.tbs.cnt - 1)) }) := by
  obtain ⟨-, -, halign, -⟩ := stepTime_else x d
  refine ⟨stepTime_ns x d, halign, fun hx => (stepTime_back_tbs x d hx).1, fun hx hcnt => ?_, fun hx hcnt => ?_⟩
  · rw [stepTime_forth x d hx]
    exact if_neg (Nat.not_lt.2 hcnt)
  · rw [stepTime_forth x d hx]
    exact if_pos hcnt

/-- The step that a write of TBS_STEP_HI applies: the pair as a signed number (R63). -/
def stagedStep (hi : Nat) (d : Dev) : Int := signed 64 (hi % 2 ^ 32 * 2 ^ 32 + tabGet 0 d.stage Reg.tbsStepLo.base)

theorem tbsStep_tbs (hi : Nat) (d : Dev) : (tbsStep hi d).tbs = (stepTime (stagedStep hi d) d).tbs := by
  simp only [tbsStep, mend_frame]
  exact stepTime_tbs_congr _ (pairSet_tbs _ _ _ d).1

theorem tbsStep_back_tiles {hi : Nat} {d : Dev} (h : stagedStep hi d ≤ 0) : (tbsStep hi d).tiles = d.tiles := by
  simp only [tbsStep, mend_frame]
  exact (stepTime_back_tbs _ _ h).2.trans (pairSet_tbs _ _ _ d).2

/-! ## The setting of T (R504) -/

/-- A step by what T lacks brings it to the value. -/
theorem stepTime_sets (v : Nat) (d : Dev) : (stepTime ((v : Int) - d.tbs.ns) d).tbs.ns = v % 2 ^ 64 := by
  rw [stepTime_ns, add_sub_toNat]

theorem timeSet_waits {v : Nat} {d : Dev} (h : objGet d 0x1320 0 = 2) :
    (timeSet v d).tbs = { d.tbs with setAtPps := some v } := by
  rw [timeSet, if_pos h, setTbs_tbs]

theorem timeSet_at_once {v : Nat} {d : Dev} (h : objGet d 0x1320 0 ≠ 2) :
    (timeSet v d).tbs.ns = v % 2 ^ 64 ∧ (timeSet v d).tbs.frac = 0 := by
  rw [timeSet, if_neg h]
  exact ⟨stepTime_sets v d, rfl⟩

theorem ppsEdge_sets {v : Nat} {d : Dev} (hsource : timingSource d = 2) (hruns : disciplined d = true)
    (hwaits : d.tbs.setAtPps = some v) :
    (ppsEdge d).tbs.ns = v % 2 ^ 64 ∧ (ppsEdge d).tbs.frac = 0 ∧ (ppsEdge d).tbs.setAtPps = none := by
  rw [ppsEdge, if_neg (by simp [hsource, hruns]), hwaits]
  exact ⟨stepTime_sets v d, rfl, rfl⟩

/-! ## PPS_OUT (R507) -/

theorem ppsOut_falls {d : Dev} (hhigh : d.tbs.ppsOut = true) (hdue : d.tbs.ppsFall ≤ d.tbs.ns) :
    ppsOut d = { d with tbs := { d.tbs with ppsOut := false } } := by
  rw [ppsOut, if_pos hhigh, if_pos hdue, setTbs]

theorem ppsOut_rises {d : Dev} (hlow : d.tbs.ppsOut = false) (hon : objGet d 0x1326 0 = 1) (hsecond : d.tbs.ns % 1000000000 ≤ 8) :
    ppsOut d = { d with tbs := { d.tbs with
      ppsOut := true, ppsFall := d.tbs.ns / 1000000000 * 1000000000 + 1000000 } } := by
  rw [ppsOut, if_neg (by simp [hlow]), if_pos (by simp [hon, hsecond]), setTbs]

/-! ## The servo (R506) -/

/-- Out of alignment an offset is judged by the count of small ones in a row (R506). -/
theorem judgeB_unaligned {off : Int} {b : Tbs} (h : b.align ≠ 2) :
    let g := if off.natAbs ≤ 250 then min 16 (b.goodSyncs + 1) else 0
    judgeB off b = { b with align := if g = 16 then 2 else max 1 b.align, goodSyncs := g, badSyncs := 0 } := by
  simp [judgeB, h]

/-- The fourth large offset in a row ends alignment (R506). -/
theorem judgeB_misaligned {off : Int} {b : Tbs} (h : b.align = 2) (hoff : 500 < off.natAbs) (hbad : 3 ≤ b.badSyncs) :
    judgeB off b = { b with align := 1, goodSyncs := 0, badSyncs := 0 } := by
  simp [judgeB, h, hoff, hbad]

theorem judgeB_published (off : Int) (b : Tbs) :
    (judgeB off b).offset = b.offset ∧ (judgeB off b).lastSync = b.lastSync ∧ (judgeB off b).ns = b.ns := by
  unfold judgeB
  dsimp only
  repeat' split
  all_goals exact ⟨rfl, rfl, rfl⟩

/-- The timebase with a Sync's offset published, at the instant of the Sync (R506). -/
def withOffset (off : Int) (b : Tbs) : Tbs := { b with offset := max (-2147483647) (min 2147483647 off), lastSync := b.ns }

theorem servo_steps {off : Int} {d : Dev} (h : d.tbs.align ≠ 2) (hoff : 100000 < off.natAbs) :
    (servo off d).tbs =
      (stepTime (-off) (setTbs { withOffset off d.tbs with align := 1, goodSyncs := 0, badSyncs := 0 } d)).tbs := by
  rw [servo_tbs]
  exact if_pos (by simp [h, hoff])

theorem servo_slews {off : Int} {d : Dev} (h : d.tbs.align = 2 ∨ off.natAbs ≤ 100000) :
    (servo off d).tbs = judgeB off (withOffset off d.tbs) := by
  rw [servo_tbs]
  refine if_neg ?_
  rcases h with h | h
  · simp [h]
  · simp only [Bool.and_eq_true, decide_eq_true_eq, not_and]
    omega

/-- Either way of acting on an offset publishes it with its time (R506). -/
theorem servo_published (off : Int) (d : Dev) :
    (servo off d).tbs.offset = max (-2147483647) (min 2147483647 off) ∧ (servo off d).tbs.lastSync = d.tbs.ns := by
  by_cases hlarge : d.tbs.align ≠ 2 ∧ 100000 < off.natAbs
  · rw [servo_steps hlarge.1 hlarge.2]
    obtain ⟨hoffset, hlast, -⟩ := stepTime_else (-off)
      (setTbs { withOffset off d.tbs with align := 1, goodSyncs := 0, badSyncs := 0 } d)
    exact ⟨hoffset, hlast⟩
  · rw [servo_slews (by omega)]
    obtain ⟨hoffset, hlast, -⟩ := judgeB_published off (withOffset off d.tbs)
    exact ⟨hoffset, hlast⟩

/-- What a Sync makes of T and of the alignment (R506). -/
theorem servo_does (off : Int) (d : Dev) :
    let b := d.tbs
    let c := (servo off d).tbs
    (b.align ≠ 2 → 100000 < off.natAbs → c.ns = ((b.ns : Int) + -off).toNat % 2 ^ 64 ∧ c.align = 1 ∧ c.goodSyncs = 0) ∧
      (b.align ≠ 2 → off.natAbs ≤ 100000 → c.ns = b.ns ∧
        let g := if off.natAbs ≤ 250 then min 16 (b.goodSyncs + 1) else 0
        c.goodSyncs = g ∧ c.align = if g = 16 then 2 else max 1 b.align) ∧
      (b.align = 2 → 500 < off.natAbs → 3 ≤ b.badSyncs → c.align = 1) := by
  refine ⟨fun h hoff => ?steps, fun h hoff => ?slews, fun h hoff hbad => ?misaligned⟩
  case steps =>
    rw [servo_steps h hoff]
    obtain ⟨-, -, halign, hgood⟩ := stepTime_else (-off)
      (setTbs { withOffset off d.tbs with align := 1, goodSyncs := 0, badSyncs := 0 } d)
    exact ⟨stepTime_ns _ _, halign, hgood⟩
  case slews =>
    rw [servo_slews (.inr hoff), judgeB_unaligned (b := withOffset off d.tbs) h]
    exact ⟨rfl, rfl, rfl⟩
  case misaligned =>
    rw [servo_slews (.inl h), judgeB_misaligned (b := withOffset off d.tbs) h hoff hbad]

/-! ## ANNOUNCE and the loss of Sync (R505, R506) -/

/-- A chosen ANNOUNCE gives the UTC offset and the grandmaster; a new one returns the servo to Locking (R505, R506). -/
theorem ptpAnnounce_chosen {clock : Nat} {utc : Int} {d : Dev} (hobjs : Rising d.objs) (hsource : timingSource d = 1)
    (hruns : disciplined d = true) :
    let e := ptpAnnounce clock utc true d
    e.tbs.grandmaster = clock % 2 ^ 64 ∧ objGet e 0x1323 0 = unsigned 32 utc ∧
      (clock % 2 ^ 64 ≠ d.tbs.grandmaster → e.tbs.align = 1 ∧ e.tbs.goodSyncs = 0) ∧
      (clock % 2 ^ 64 = d.tbs.grandmaster → e.tbs = d.tbs) := by
  have hutc : objGet (objSet 0x1323 0 (unsigned 32 utc) d) 0x1323 0 = unsigned 32 utc := objGet_set_self d hobjs _ _ _
  have htbs : (objSet 0x1323 0 (unsigned 32 utc) d).tbs = d.tbs := objSet_tbs _ _ _ d
  unfold ptpAnnounce
  dsimp only
  rw [if_pos (by simp [hsource, hruns])]
  split
  · next hsame => exact ⟨by rw [htbs, hsame], hutc, fun hnew => absurd hsame hnew, fun _ => htbs⟩
  · next hnew => exact ⟨rfl, hutc, fun _ => ⟨rfl, rfl⟩, fun hsame => absurd hsame hnew⟩

/-- Three seconds without Sync end alignment (R506). -/
theorem syncTimeout_due {d : Dev} (hsource : timingSource d = 1) (halign : d.tbs.align ≠ 0)
    (hdue : d.tbs.lastSync + 3000000000 ≤ d.tbs.ns) :
    (syncTimeout d).tbs = { d.tbs with align := 0, goodSyncs := 0, badSyncs := 0 } ∧ (syncTimeout d).objs = d.objs := by
  rw [syncTimeout, if_pos (by simp [hsource, halign, hdue])]
  dsimp only
  split
  · simp only [pulse_frame, setTbs, and_self]
  · exact ⟨rfl, rfl⟩

/-! ## The lock limit of the pairing and timing messages (R250, R426) -/

theorem refusePair_pair (reason : Nat) (d : Dev) :
    (refusePair reason d).pair = { d.pair with st := 5, since := d.tbs.ns, keyed := false } := by
  simp only [refusePair, setPair, enterPair_pair, objSet_frame]

/-- Without alignment at the lock limit a pair that is wanted and not yet PAIRED is refused with reason 6 (R426 step 7). -/
theorem lockTimeout_refuses {d : Dev} (hlost : isAligned d = false) (hwanted : pairWanted d = true) (hst : d.pair.st ≤ 1) :
    lockTimeout d = refusePair 6 d := by
  refine if_pos ?_
  have : d.pair.st = 0 ∨ d.pair.st = 1 := by omega
  simp [hlost, hwanted, this]

theorem ptpEvent_punted {p : Nat} {d : Dev} (hon : timingOn d p = true) (hup : linkUp d p = true) :
    ptpEvent p d = emit (.ptpEvent p (corrected d.tbs.ns (-signed 32 (bytesAt (objGet d 0x1A04 p) 4 4)))) d :=
  if_pos (by simp [hon, hup])

end Sys2Proof.Machine

open Sys2Proof Sys2Proof.Machine

/-- Settles O24: a step and a setting of T by their effect on the timebase, the PPS pins by their two branches. -/
theorem timeSteps : Obligations.TimeSteps := by
  unfold Obligations.TimeSteps
  intro s now hawake hsound y
  refine ⟨fun hi => ?step, fun v hsource hruns hwaits => ?edge, fun hhigh hdue => ?falls, fun hlow hon hsecond => ?rises,
    fun q v hgrant hnow => ?set⟩
  case step =>
    intro x t
    have hstaged : stagedStep hi y = x := atTime_irrel (stagedStep hi) now s.dev fun _ => rfl
    clear_value x
    have htbs : (tbsStep hi y).tbs = (stepTime x y).tbs := by rw [tbsStep_tbs, hstaged]
    obtain ⟨hns, halign, hback, hwithin, hpasses⟩ := stepTime_does x y
    rw [← htbs] at hns halign hback hwithin hpasses
    refine answers_act (f := fun d => regGate .firmware Reg.tbsStepHi.base false (fun d =>
      if Caller.firmware = Caller.firmware then tbsStep hi d else regDrop .firmware Reg.tbsStepHi.base .access d) (atTime now d))
      rfl hawake ?_
    rw [regGate_open rfl, if_pos rfl]
    refine ⟨hns, halign, fun hx => ⟨hback hx, ?_⟩, hwithin, hpasses⟩
    exact (tbsStep_back_tiles (hstaged.trans_le hx)).trans (by simp only [y, atTime_frame])
  case edge =>
    exact answers_act (f := fun d => ppsEdge (atTime now d)) rfl hawake (ppsEdge_sets hsource hruns hwaits)
  case falls => exact answers_act (f := fun d => ppsOut (atTime now d)) rfl hawake (ppsOut_falls hhigh hdue)
  case rises => exact answers_act (f := fun d => ppsOut (atTime now d)) rfl hawake (ppsOut_rises hlow hon hsecond)
  case set =>
    subst hnow
    constructor
    · intro hpps
      refine answers_perform (f := timeSet v.val) (P := fun d => d.tbs = { y.tbs with setAtPps := some v.val }) rfl hgrant ?_
      simp only [accept_frame]
      exact timeSet_waits hpps
    · intro hfree
      refine answers_perform (f := timeSet v.val) (P := fun d => d.tbs.ns = v.val % 2 ^ 64 ∧ d.tbs.frac = 0) rfl hgrant ?_
      simp only [accept_frame]
      exact timeSet_at_once hfree

/-- Settles O25: each event of the servo does what is said of it, at the instant of its command. -/
theorem timeServo : Obligations.TimeServo := by
  unfold Obligations.TimeServo
  intro s now hawake hsound y
  have hobjs : Rising y.objs := (sound_atTime now hsound).objs.1
  refine ⟨fun off hsource hruns => ?sync, fun clock utc hsource hruns => ?announce, fun hsource halign hdue => ?silence,
    fun hlost hwanted hst => ?lock, fun p hport hon hup => ?message⟩
  case sync =>
    refine answers_act (f := fun d => if timingSource (atTime now d) = 1 && disciplined (atTime now d) then
      servo off (atTime now d) else atTime now d) rfl hawake ?_
    rw [if_pos (by simp [y, hsource, hruns])]
    obtain ⟨hoffset, hlast⟩ := servo_published off y
    obtain ⟨hsteps, hslews, hmisaligned⟩ := servo_does off y
    exact ⟨hoffset, hlast, hsteps, fun h hoff _ => hslews h hoff, hmisaligned⟩
  case announce =>
    exact answers_act (f := fun d => ptpAnnounce clock utc true (atTime now d)) rfl hawake
      (ptpAnnounce_chosen hobjs hsource hruns)
  case silence =>
    refine answers_act (f := fun d => syncTimeout (atTime now d)) rfl hawake ?_
    obtain ⟨htbs, hsame⟩ := syncTimeout_due hsource halign hdue
    exact ⟨htbs, hsame.trans (by simp only [y, atTime_frame])⟩
  case lock =>
    refine answers_act (f := fun d => lockTimeout (atTime now d)) rfl hawake ?_
    dsimp only
    rw [lockTimeout_refuses hlost hwanted hst]
    obtain ⟨-, -, hreason⟩ := refusePair_does 6 y hobjs
    exact ⟨by rw [refusePair_pair]; simp only [y, atTime_frame], hreason⟩
  case message => exact answers_actOn (f := fun d => ptpEvent p (atTime now d)) rfl hport hawake (ptpEvent_punted hon hup)

end

section
/-! PROOFS. How a part is coded, closes and completes on its tile (R74, R82, R142). -/
set_option autoImplicit false
namespace Sys2Proof.Machine

/-! ## One tile of the block -/

theorem tile_atTime (now : Nat) (d : Dev) (u : Nat) : tile (atTime now d) u = tile d u :=
  tile_congr (by simp only [atTime_frame]) u
theorem frameAt_atTime (now : Nat) (d : Dev) (sid c : Nat) : frameAt (atTime now d) sid c = frameAt d sid c :=
  atTime_irrel (frameAt · sid c) now d fun _ => rfl
theorem objNow_atTime (now : Nat) (d : Dev) (idx sub : Nat) : objNow (atTime now d) idx sub = objNow d idx sub :=
  atTime_irrel (objNow · idx sub) now d fun _ => rfl

theorem updTile_tiles_congr {t : Nat} {f : Tile → Tile} {d e : Dev} (h : d.tiles = e.tiles) :
    (updTile t f d).tiles = (updTile t f e).tiles := by
  simp only [updTile, setTile, tile, h]

/-- A change of one tile leaves the others. -/
theorem tile_of_updated {t : Nat} {f : Tile → Tile} {d e : Dev} (h : Rising d.tiles) (he : e.tiles = (updTile t f d).tiles) :
    tile e t = f (tile d t) ∧ ∀ u, u ≠ t → tile e u = tile d u := by
  refine ⟨?_, fun u hu => ?_⟩
  · rw [tile_congr he, tile_set d h, if_pos rfl]
  · rw [tile_congr he, tile_set d h, if_neg hu]

/-! ## PART_CODED, CLOSING_GRANT, CLOSE_GRANT (R142) -/

section
variable {d : Dev} {t : Nat} {j : Job} {f : Frame}

/-- The tile of a part that was coded waits, its request in the queue (R142). -/
theorem partCoded_asks {res : PartResult} (hruns : (tile d t).runs = true) (hphase : (tile d t).phase = 3)
    (hcur : (tile d t).cur = some j) (hframe : frameAt d j.stream j.frame = some f) (hgood : (codePart d f j res).1.bad = false) :
    (partCoded t res d).tiles = (updTile t (fun y => { y with phase := 4 }) d).tiles ∧
      (partCoded t res d).loom.closing = queueClosing (d.tbs.ns, t, j) d.loom.closing := by
  unfold partCoded
  simp only [hruns, hphase, hcur, hframe, hgood, beq_self_eq_true, Bool.and_self, if_true, Bool.false_eq_true, if_false]
  split
  · exact ⟨by simp only [setLoom, countReads_tiles, updPart_tiles]; rfl, by simp only [setLoom, countReads_loom, updPart_loom]; rfl⟩
  · exact ⟨by simp only [setLoom, objCount_tiles, countReads_tiles, updPart_tiles]; rfl,
      by simp only [setLoom, objCount_loom, countReads_loom, updPart_loom]; rfl⟩

/-- The request at the front leaves the queue and its tile has a grant (R142). -/
theorem closingGrant_grants {x : Nat} {rest : List (Nat × Nat × Job)} (h : d.loom.closing = (x, t, j) :: rest) :
    (closingGrant d).loom = { d.loom with closing := rest } ∧ ∃ g c, (closingGrant d).tiles =
      (updTile t (fun y => { y with phase := 5, grant := some g, latch := y.latch ++ [c] }) d).tiles := by
  unfold closingGrant
  rw [h]
  dsimp only
  split
  · exact ⟨by simp only [updTile_frame, updBand_loom, updPart_loom]; rfl, _, _,
      updTile_tiles_congr (by simp only [updBand_tiles, updPart_tiles, setLoom])⟩
  · exact ⟨by simp only [updTile_frame, updPart_loom]; rfl, _, _,
      updTile_tiles_congr (by simp only [updPart_tiles, setLoom])⟩

/-- What a tile becomes when its closing ends (R460). -/
def closingEnds (y : Tile) : Tile :=
  { y with phase := 6, grant := none, latch := y.latch.filter fun c => match c with
    | .closeGrant _ _ _ => false
    | _ => true }

/-- A seam that is not in the grant, or whose other band has written, holds nothing up (R460). -/
theorem seam_ready {named written : Bool} (h : named = true → written = true) : (named && !written) = false := by
  cases named with
  | false => rfl
  | true => rw [h rfl]; rfl

/-- A grant whose neighbours have written ends the closing, for a live part or for one that does not close its band (R142, R460). -/
theorem closeGrant_ends {recon : List Nat} {c a b : Bool} (hruns : (tile d t).runs = true) (hphase : (tile d t).phase = 5)
    (hcur : (tile d t).cur = some j) (hgrant : (tile d t).grant = some (c, a, b)) (hframe : frameAt d j.stream j.frame = some f)
    (habove : a = true → (f.band (j.band - 1)).written = true) (hbelow : b = true → (f.band (j.band + 1)).written = true)
    (hlive : isLining j.stream = false ∨ c = false) :
    (closeGrant t recon d).tiles = (updTile t closingEnds d).tiles := by
  have hready : ((a && !(f.band (j.band - 1)).written) || (b && !(f.band (j.band + 1)).written)) = false := by
    rw [seam_ready habove, seam_ready hbelow, Bool.or_self]
  unfold closeGrant
  simp only [hcur, hgrant, hruns, hphase, hframe, hready, beq_self_eq_true, Bool.and_self, Bool.not_true, Bool.false_eq_true,
    if_false]
  split
  · next hcloses =>
    have hnotLining : isLining j.stream = false := hlive.resolve_right (by simp [hcloses])
    rw [if_neg (by simp [hnotLining])]
    simp only [outputBand_tiles, writeBand_tiles, updBand_tiles]
    rfl
  · rfl

/-! ## COMPLETION_POST, COMPLETION_COLLECT (R26, R74, R82) -/

/-- A part that is done stands in the latch with its instant and its tile; the next part's start leaves the latch (R74). -/
theorem completionPost_latches (hruns : (tile d t).runs = true) (hphase : (tile d t).phase = 6) (hcur : (tile d t).cur = some j) :
    (completionPost t d).loom.latch = latchCompletion { time := d.tbs.ns, tile := t, job := j } d.loom.latch ∧
      (completionPost t d).loom.closing = d.loom.closing := by
  obtain ⟨hlatch, hclosing⟩ := stitchOverrun_loom t d
  unfold completionPost
  simp only [hcur, hruns, hphase, beq_self_eq_true, Bool.and_self, Bool.not_true, Bool.false_eq_true, if_false,
    (earlyStart_loom _).1, (earlyStart_loom _).2, (afterPart_loom _ _).1, (afterPart_loom _ _).2, setLoom, settleBudget_loom,
    settleBudget_tbs, stitchOverrun_tbs, hlatch, hclosing, and_self]

theorem completionCollect_takes {c : Completion} {rest : List Completion} (h : d.loom.latch = c :: rest) :
    (completionCollect d).loom.latch = rest ∧ (completionCollect d).loom.closing = d.loom.closing := by
  unfold completionCollect
  rw [h]
  simp only [(earlyStart_loom _).1, (earlyStart_loom _).2, collectJob_loom, noteCoder_loom, setLoom, and_self]

end

end Sys2Proof.Machine

open Sys2Proof.Machine

/-- Settles O22: each step of a part's coding by what it makes of the tile, the queue and the latch. -/
theorem tileCoding : Obligations.TileCoding := by
  unfold Obligations.TileCoding
  refine ⟨fun s now t j hawake hsound ht hruns hcur => ⟨fun res f hphase hframe hgood => ?coded,
    fun recon c a b f hphase hgrant hframe habove hbelow hlive => ?closes, fun hphase => ?completes⟩,
    fun s now x t j rest hawake hsound hqueue => ?grants, fun s now c rest hawake hlatch => ?collects⟩
  case coded =>
    refine answers_actOn (f := fun d => partCoded t res (atTime now d)) rfl (decide_eq_true ht) hawake ?_
    rw [← tile_atTime now] at hruns hcur hphase
    obtain ⟨htiles, hclosing⟩ := partCoded_asks hruns hphase hcur ((frameAt_atTime ..).trans hframe) hgood
    obtain ⟨hself, hother⟩ := tile_of_updated (sound_atTime now hsound).tabs.tiles htiles
    simp only [tile_atTime, atTime_frame] at hself hother hclosing
    obtain ⟨hasks, hkeeps⟩ := mem_queueClosing ((atTime now s.dev).tbs.ns, t, j) s.dev.loom.closing
    exact ⟨hself, hclosing ▸ hasks, fun r hr => hclosing ▸ hkeeps r hr, hother⟩
  case closes =>
    refine answers_actOn (f := fun d => closeGrant t recon (atTime now d)) rfl (decide_eq_true ht) hawake ?_
    rw [← tile_atTime now] at hruns hcur hphase hgrant
    obtain ⟨hself, hother⟩ := tile_of_updated (sound_atTime now hsound).tabs.tiles
      (closeGrant_ends (recon := recon) hruns hphase hcur hgrant ((frameAt_atTime ..).trans hframe) habove hbelow hlive)
    simp only [tile_atTime] at hother
    exact ⟨by rw [hself, closingEnds], by rw [hself, closingEnds], by rw [hself]; exact hcur, hother⟩
  case completes =>
    refine answers_actOn (f := fun d => completionPost t (atTime now d)) rfl (decide_eq_true ht) hawake ?_
    rw [← tile_atTime now] at hruns hcur hphase
    obtain ⟨hlatch, hclosing⟩ := completionPost_latches hruns hphase hcur
    simp only [atTime_frame] at hlatch hclosing
    obtain ⟨hposts, hkeeps⟩ := mem_latchCompletion { time := (atTime now s.dev).tbs.ns, tile := t, job := j } s.dev.loom.latch
    exact ⟨⟨_, hlatch ▸ hposts, rfl, rfl, rfl⟩, fun c hc => hlatch ▸ hkeeps c hc, hclosing⟩
  case grants =>
    refine answers_act (f := fun d => closingGrant (atTime now d)) rfl hawake ?_
    obtain ⟨hloom, g, c, htiles⟩ := closingGrant_grants (d := atTime now s.dev) (by simpa only [atTime_frame] using hqueue)
    obtain ⟨hself, hother⟩ := tile_of_updated (sound_atTime now hsound).tabs.tiles htiles
    simp only [tile_atTime, atTime_frame] at hother hloom
    exact ⟨hloom, by rw [hself], by rw [hself]; rfl, hother⟩
  case collects =>
    refine answers_act (f := fun d => completionCollect (atTime now d)) rfl hawake ?_
    obtain ⟨hrest, hclosing⟩ := completionCollect_takes (d := atTime now s.dev) (by simpa only [atTime_frame] using hlatch)
    exact ⟨hrest, hclosing.trans (by simp only [atTime_frame])⟩

end

section
/-! PROOFS. Late and hung tiles, BOOT, containment, retirement and release (R77 to R81, R209, R210, R461 to R465). -/
set_option autoImplicit false
namespace Sys2Proof.Machine

/-! ## What a register write leaves -/

theorem regGet_congr {d e : Dev} (h : d.regs = e.regs) (k : Nat) : regGet d k = regGet e k := by unfold regGet; rw [h]

theorem pairSet_only (hi lo v : Nat) (d : Dev) : pairSet hi lo v d = { d with regs := (pairSet hi lo v d).regs } := by
  unfold pairSet
  rw [regSet_only lo, regSet_only hi]

/-! ## Late and hung tiles (R79, R81) -/

section
variable {d : Dev} {t : Nat} {j : Job}

/-- The tile and the session slot of an overrun as LOOM_OVR_LAST names them (R79). -/
def overrunSubject (t : Nat) (j : Job) : Nat := t + b2n (isLining j.stream) * 2 ^ 7 + slotOf j.stream * 2 ^ 8

/-- An overrun marks the tile late and is named in LOOM_OVR_LAST (R79). -/
theorem overrun_does (h : Sound d) : (overrun t j d).tiles = (updTile t (fun x => { x with late := true }) d).tiles ∧
    regGet (overrun t j d) Reg.loomOvrLast.base = overrunSubject t j % 2 ^ 32 := by
  unfold overrun
  dsimp only
  generalize hcounted : pairSet Reg.loomOvrCntHi.base Reg.loomOvrCntLo.base
    (pairGet d Reg.loomOvrCntHi.base Reg.loomOvrCntLo.base + 1) (updTile t (fun x => { x with late := true }) d) = d1
  have hsound : Sound d1 := by
    subst hcounted
    exact (pairSet_keeps (m := 4398046511103) rfl (updTile_keeps (m := 4398046511103) rfl (.refl d))).sound h
  constructor
  · simp only [pulse_frame, raiseOverrun_tiles, countOverrun_tiles, regSet_frame]
    subst hcounted
    exact (pairSet_tbs _ _ _ _).2
  · rw [regGet_congr (e := regSet Reg.loomOvrLast.base (overrunSubject t j) d1)
      (by simp only [pulse_frame, raiseOverrun_regs, countOverrun_regs]; rfl), regGet_set d1 hsound.regs.1, if_pos rfl]

theorem stitchOverrun_past (hcur : (tile d t).cur = some j) (hon : (tile d t).on = true) (hgone : (tile d t).gone = false)
    (hhalted : (tile d t).halted = false) (hlate : (tile d t).late = false) (hpast : (tile d t).pastDeadline d.tbs.ns = true) :
    stitchOverrun t d = overrun t j d := by
  simp [stitchOverrun, hcur, hon, hgone, hhalted, hlate, hpast]

/-- A tile counts as late once per part (R79). -/
theorem stitchOverrun_late (hlate : (tile d t).late = true) : stitchOverrun t d = d := by
  unfold stitchOverrun
  dsimp only
  split
  · rfl
  · simp [hlate]

/-- The failure of a tile leaves its flags (R81, R205). -/
theorem tileFails_of_updated {f : Tile → Tile} {e : Dev} (h : Rising d.tiles) (he : e.tiles = (updTile t f d).tiles) :
    (tile (tileFails t e) t).hung = (f (tile d t)).hung ∧ (tile (tileFails t e) t).contained = (f (tile d t)).contained := by
  have hrising : Rising e.tiles := he ▸ rising_put h
  obtain ⟨hhung, hcontained, -⟩ := tileFails_flags t e hrising t
  obtain ⟨hself, -⟩ := tile_of_updated h he
  exact ⟨by rw [hhung, hself], by rw [hcontained, hself]⟩

/-- A late tile beyond the hang limit is hung (R81). -/
theorem tileHang_due (h : Rising d.tiles) (hcur : (tile d t).cur = some j) (hon : (tile d t).on = true)
    (hgone : (tile d t).gone = false) (hhalted : (tile d t).halted = false) (hlate : (tile d t).late = true)
    (hdue : (tile d t).deadline + objNow d 0x1311 0 * 2500000 ≤ 9 * d.tbs.ns) : (tile (tileHang t d) t).hung = true := by
  unfold tileHang
  simp only [stitchOverrun_late hlate, hcur, hon, hgone, hhalted, hdue, Bool.not_false, Bool.and_self, decide_true, if_true]
  exact (tileFails_of_updated (f := fun y => { y with hung := true }) h (by simp only [level_frame])).1

/-! ## BOOT and containment (R461 to R465) -/

/-- A tile that can end BOOT: on, not retired, BOOT not ended; and no part waits for it as a spare (R206, R462). -/
def BootRuns (x : Tile) : Prop := x.on = true ∧ x.boot ≤ 1 ∧ x.retired = false ∧ x.awaits = none

/-- The block when a tile has passed BOOT, its signatures kept (R462). -/
def bootReady (t sig exp : Nat) (d : Dev) : Dev :=
  updTile t (fun y => { y with boot := 2, idleSince := d.tbs.cnt })
    (regSet (Reg.tileSigExp.at t) exp (regSet (Reg.tileSig.at t) sig d))

/-- The block when a tile has failed BOOT: it is contained and counted (R463). -/
def bootFailed (t sig exp : Nat) (d : Dev) : Dev :=
  objCount 16 0x5091 t 1 (updTile t (fun y => { y with boot := 3, contained := true })
    (regSet (Reg.tileSigExp.at t) exp (regSet (Reg.tileSig.at t) sig d)))

theorem bootReady_tile {sig exp : Nat} (h : Rising d.tiles) :
    tile (bootReady t sig exp d) t = { tile d t with boot := 2, idleSince := d.tbs.cnt } :=
  (tile_of_updated (f := fun y => { y with boot := 2, idleSince := d.tbs.cnt }) h
    (updTile_tiles_congr (by simp only [regSet_frame]))).1

theorem bootReady_signatures {sig exp : Nat} (h : Sound d) : regGet (bootReady t sig exp d) (Reg.tileSig.at t) = sig % 2 ^ 32 ∧
    regGet (bootReady t sig exp d) (Reg.tileSigExp.at t) = exp % 2 ^ 32 := by
  have hne : Reg.tileSig.at t ≠ Reg.tileSigExp.at t := regAt_ne _ _ t (by simp [Reg.base, Reg.stride])
  have hsig : Rising (regSet (Reg.tileSig.at t) sig d).regs := (regSet_sound h).regs.1
  have hregs : ∀ k, regGet (bootReady t sig exp d) k =
    regGet (regSet (Reg.tileSigExp.at t) exp (regSet (Reg.tileSig.at t) sig d)) k := fun _ => rfl
  constructor
  · rw [hregs, regGet_set _ hsig, if_neg hne, regGet_set d h.regs.1, if_pos rfl]
  · rw [hregs, regGet_set _ hsig, if_pos rfl]

/-- BOOT passes when both signatures are the reference (R462). -/
theorem bootEnd_passes {sig exp : Nat} (h : Rising d.tiles) (hruns : BootRuns (tile d t)) (hsig : sig % 2 ^ 32 = objGet d 0x1006 0)
    (hexp : exp % 2 ^ 32 = objGet d 0x1006 0) : bootEnd t true sig exp d = earlyStart (bootReady t sig exp d) := by
  obtain ⟨hon, hboot, hretired, hawaits⟩ := hruns
  have hnone : (tile (bootReady t sig exp d) t).awaits = none := by rw [bootReady_tile h]; exact hawaits
  unfold bootEnd
  simp only [hon, hboot, hretired, hsig, hexp, decide_true, Bool.not_false, Bool.and_self, beq_self_eq_true, if_true]
  exact congrArg earlyStart (placeAwaited_none t _ hnone)

/-- A tile that passed BOOT is ready and as failed as before; where no part may start early, the signatures stay (R462). -/
theorem bootEnd_readies {sig exp : Nat} (h : Sound d) (hruns : BootRuns (tile d t)) (hsig : sig % 2 ^ 32 = objGet d 0x1006 0)
    (hexp : exp % 2 ^ 32 = objGet d 0x1006 0) :
    let e := bootEnd t true sig exp d
    (tile e t).boot = 2 ∧ (tile e t).contained = (tile d t).contained ∧ (tile e t).hung = (tile d t).hung ∧
      (objNow d 0x1310 0 = 0 → regGet e (Reg.tileSig.at t) = sig % 2 ^ 32 ∧ regGet e (Reg.tileSigExp.at t) = exp % 2 ^ 32) := by
  dsimp only
  rw [bootEnd_passes h.tabs.tiles hruns hsig hexp]
  have hsound : Sound (bootReady t sig exp d) := (updTile_keeps (m := 4398046511103) rfl (.refl _)).sound (regSet_sound (regSet_sound h))
  obtain ⟨hready, hcontained, hhung⟩ := earlyStart_boot _ hsound t
  rw [bootReady_tile h.tabs.tiles] at hready hcontained hhung
  refine ⟨hready, hcontained, hhung, fun hearly => ?_⟩
  have hnow : objNow (bootReady t sig exp d) 0x1310 0 = objNow d 0x1310 0 := by
    simp only [objNow, objGet, bootReady, updTile_frame, regSet_frame]
  rw [earlyStart_off _ (hnow.trans hearly)]
  exact bootReady_signatures h

/-- A tile whose signatures differ fails BOOT, whatever its words: it is contained and counted (R463, R465). -/
theorem bootEnd_contains {ok : Bool} {sig exp : Nat} (h : Sound d) (hruns : BootRuns (tile d t)) (hne : sig % 2 ^ 32 ≠ exp % 2 ^ 32) :
    let e := bootEnd t ok sig exp d
    (tile e t).boot = 3 ∧ (tile e t).contained = true ∧ objGet e 0x5091 t = (objGet d 0x5091 t + 1) % 2 ^ 16 := by
  obtain ⟨hon, hboot, hretired, hawaits⟩ := hruns
  have hself : tile (bootFailed t sig exp d) t = { tile d t with boot := 3, contained := true } :=
    (tile_of_updated (f := fun y => { y with boot := 3, contained := true }) h.tabs.tiles
      (by rw [bootFailed, objCount_tiles]; exact updTile_tiles_congr (by simp only [regSet_frame]))).1
  have hcount : objGet (bootFailed t sig exp d) 0x5091 t = (objGet d 0x5091 t + 1) % 2 ^ 16 := by
    rw [bootFailed, objCount_get _ (by simp only [updTile_frame, regSet_frame]; exact h.objs.1)]
    simp only [objGet, updTile_frame, regSet_frame]
  dsimp only
  have hfails : bootEnd t ok sig exp d =
      pulse (32 + t) 0x0022 1 t (sig % 2 ^ 32 + exp % 2 ^ 32 * 2 ^ 32) (bootFailed t sig exp d) := by
    unfold bootEnd
    simp only [hon, hboot, hretired, decide_true, Bool.not_false, Bool.and_self, if_true, beq_false_of_ne hne, Bool.and_false,
      Bool.false_and, Bool.false_eq_true, if_false]
    exact nextSpare_none t _ ((congrArg Tile.awaits
      ((tile_congr (by simp only [pulse_frame]; rfl) t).trans hself)).trans hawaits)
  rw [hfails]
  simp only [tile, objGet, pulse_frame] at hself hcount ⊢
  exact ⟨by rw [hself], by rw [hself], hcount⟩

/-- CONTAINMENT_RESET of a tile that is on and has not failed contains it (R461). -/
theorem containTile_contains (h : Rising d.tiles) (hon : (tile d t).on = true) (hgone : (tile d t).gone = false) :
    (tile (containTile t d) t).contained = true := by
  unfold containTile containAs
  simp only [hon, hgone, Bool.not_true, Bool.or_self, Bool.false_eq_true, if_false]
  refine (tileFails_of_updated (f := fun y => { y with contained := true }) h ?_).2
  refine updTile_tiles_congr ?_
  simp only [pulse_frame]
  split <;> simp only [regSet_frame]

/-! ## Retirement and release (R209, R210) -/

/-- What RETIREMENT_MAP_RETRY makes of the block (R209). -/
def retirementRetry (flashOk : Bool) (d : Dev) : Dev :=
  if flashOk then forEach ((List.range 96).filter fun t => (tile d t).retired && !inMap d t)
    (fun t d => objSet 0x1448 0 (setBits (objGet d 0x1448 0) t 1 1) d) d
  else d

/-- A retry enters every retired tile in the map (R209). -/
theorem retirementRetry_maps (h : Rising d.objs) (ht : t < 96) (hretired : (tile d t).retired = true) :
    inMap (retirementRetry true d) t = true ∧ (retirementRetry true d).tiles = d.tiles := by
  obtain ⟨hmap, htiles⟩ := mapAll t ((List.range 96).filter fun t => (tile d t).retired && !inMap d t) d h
  refine ⟨hmap.trans ?_, htiles⟩
  cases hin : inMap d t <;> simp [ht, hretired, hin]

/-- Retirement marks the tile, enters it in the map when the flash takes it, and leaves the other tiles (R209). -/
theorem retireTile_does (h : Sound d) : (tile (retireTile t true d) t).retired = true ∧ inMap (retireTile t true d) t = true ∧
    ∀ u, u ≠ t → tile (retireTile t true d) u = tile d u := by
  refine ⟨?_, retireTile_map t d h, fun u hu => ?_⟩
  · rw [retireTile_get t d h, if_pos rfl]
  · rw [retireTile_get t d h, if_neg hu]

/-- What TILE_RETIRE_COMMAND makes of the block when the flash takes the map (R210). -/
def retireNow (t : Nat) (d : Dev) : Dev :=
  retireTile t true (if (tile d t).gone then markRetired t d else tileStops t (markRetired t d))

/-- A commanded retirement, of a failed tile or of one that still runs (R210). -/
theorem retireNow_does (h : Sound d) : (tile (retireNow t d) t).retired = true ∧ inMap (retireNow t d) t = true := by
  have hmarked : Sound (markRetired t d) := (markRetired_keeps (m := 4398046511103) rfl (.refl d)).sound h
  have hstops : Sound (tileStops t (markRetired t d)) := (tileStops_keeps (m := 4398046511103) rfl (.refl _)).sound hmarked
  unfold retireNow
  split
  · obtain ⟨hself, hmap, -⟩ := retireTile_does (t := t) hmarked
    exact ⟨hself, hmap⟩
  · obtain ⟨hself, hmap, -⟩ := retireTile_does (t := t) hstops
    exact ⟨hself, hmap⟩

/-- What a tile becomes at its release (R210). -/
def released (ns : Nat) (x : Tile) : Tile :=
  { x with hung := false, contained := false, boot := 1, bootAt := ns, cur := none, nxt := none, phase := 0, latch := [],
           grant := none, late := false }

theorem releaseTile_tiles (t : Nat) (d : Dev) : (releaseTile t d).tiles = (updTile t (released d.tbs.ns) d).tiles := by
  simp only [releaseTile, levelEnd_frame]
  rfl

end

end Sys2Proof.Machine

open Sys2Proof.Machine

/-- Settles O23: the deadline, BOOT, containment, retirement, release and the counters, each by its own rule. -/
theorem tileFailures : Obligations.TileFailures := by
  unfold Obligations.TileFailures
  refine ⟨fun s now t hawake hsound ht => ?events, fun s q t hsound ht => ?commands, fun s who t hawake hsound => ?counters⟩
  case events =>
    have htile : isTile t = true := decide_eq_true ht
    have hy : Sound (atTime now s.dev) := sound_atTime now hsound
    simp only [← tile_atTime now s.dev t, ← objNow_atTime now s.dev]
    refine ⟨fun j hcur hon hgone hhalted hlate hpast => ?late, fun j hcur hon hgone hhalted hdue hlate => ?hung,
      fun sig exp hon hboot hretired hawaits => ⟨fun hsig hexp => ?passes, fun hne ok => ?fails⟩, fun hon hgone => ?contained,
      fun harmed hgone hretired => ?retired, fun hretired => ?retry⟩
    case late =>
      refine answers_actOn (f := fun d => stitchOverrun t (atTime now d)) rfl htile hawake ?_
      rw [stitchOverrun_past hcur hon hgone hhalted hlate hpast]
      obtain ⟨htiles, hlast⟩ := overrun_does (t := t) (j := j) hy
      obtain ⟨hself, hother⟩ := tile_of_updated hy.tabs.tiles htiles
      exact ⟨hself, hlast, fun u hu => (hother u hu).trans (tile_atTime ..)⟩
    case hung =>
      exact answers_actOn (f := fun d => tileHang t (atTime now d)) rfl htile hawake
        (tileHang_due hy.tabs.tiles hcur hon hgone hhalted hlate hdue)
    case passes =>
      have hreference : objGet (atTime now s.dev) 0x1006 0 = objGet s.dev 0x1006 0 := objGet_congr (by simp only [atTime_frame]) _ _
      exact answers_actOn (f := fun d => bootEnd t true sig exp (atTime now d)) rfl htile hawake
        (bootEnd_readies hy ⟨hon, hboot, hretired, hawaits⟩ (hsig.trans hreference.symm) (hexp.trans hreference.symm))
    case fails =>
      have hcount : objGet (atTime now s.dev) 0x5091 t = objGet s.dev 0x5091 t := objGet_congr (by simp only [atTime_frame]) _ _
      rw [← hcount]
      exact answers_actOn (f := fun d => bootEnd t ok sig exp (atTime now d)) rfl htile hawake
        (bootEnd_contains hy ⟨hon, hboot, hretired, hawaits⟩ hne)
    case contained =>
      exact answers_actOn (f := fun d => containTile t (atTime now d)) rfl htile hawake
        (containTile_contains hy.tabs.tiles hon hgone)
    case retired =>
      have harms : isArmed (atTime now s.dev) 1 = true := by rw [isArmed, objNow_atTime]; exact harmed
      refine answers_actOn rfl htile hawake ?_
      dsimp only
      rw [if_pos (by simp only [harms, hgone, hretired]; rfl)]
      obtain ⟨hself, hmap, hother⟩ := retireTile_does (t := t) hy
      exact ⟨hself, hmap, fun u hu => (hother u hu).trans (tile_atTime ..)⟩
    case retry =>
      refine answers_act (f := fun d => retirementRetry true (atTime now d)) rfl hawake ?_
      obtain ⟨hmap, htiles⟩ := retirementRetry_maps hy.objs.1 ht hretired
      exact ⟨hmap, htiles.trans (by simp only [atTime_frame])⟩
  case commands =>
    have hy : Sound (atTime q.now s.dev) := sound_atTime q.now hsound
    refine ⟨fun hgrant => ?release, fun hgrant => ?retire⟩
    case release =>
      obtain ⟨hself, hother⟩ := tile_of_updated hy.tabs.tiles (releaseTile_tiles t (atTime q.now s.dev))
      refine answers_perform (f := releaseTile t) (P := fun d => (tile d t).hung = false ∧ (tile d t).contained = false ∧
        (tile d t).boot = 1 ∧ (tile d t).bootAt = (atTime q.now s.dev).tbs.ns ∧
        (tile d t).retired = (tile s.dev t).retired ∧ ∀ u, u ≠ t → tile d u = tile s.dev u) rfl hgrant ?_
      have haccepted : ∀ u, tile (accept q 0x1444 0 (releaseTile t (atTime q.now s.dev))) u =
        tile (releaseTile t (atTime q.now s.dev)) u := tile_congr (by simp only [accept_frame])
      simp only [tile_atTime] at hself hother
      simp only [haccepted, hself]
      exact ⟨rfl, rfl, rfl, rfl, rfl, hother⟩
    case retire =>
      obtain ⟨hself, hmap⟩ := retireNow_does (t := t) hy
      refine answers_perform (f := retireNow t) (P := fun d => (tile d t).retired = true ∧ inMap d t = true) rfl hgrant ?_
      simp only [tile, inMap, objGet, accept_frame]
      exact ⟨hself, hmap⟩
  case counters =>
    refine ⟨fun ht hopen => ?saves, fun hopen => ?carry, fun hopen => ?corrected⟩
    case saves =>
      refine answers_actOn rfl (decide_eq_true ht) hawake ?_
      rw [regGate_open hopen]
      exact ⟨by rw [regGet_set _ hsound.regs.1, if_pos rfl, Nat.zero_mod], regSet_only _ _ _⟩
    case carry =>
      refine answers_act rfl hawake ?_
      rw [regGate_open hopen]
      simp only [fld, regGet_congr (mend_regs _ _)]
      exact ⟨fld_setFld _ hsound.regs.1 _ _ _ _ (by decide), fld_setFld_ne _ hsound.regs.1 _ _ _ _ _ _ (by decide) (by decide)⟩
    case corrected =>
      refine answers_act rfl hawake ?_
      rw [regGate_open hopen]
      exact ⟨pairGet_set _ _ _ _ hsound (by decide), pairSet_only _ _ _ _⟩

end

section
/-! PROOFS. Frame intake: write units, doorbells, credits, substitution and the sticky bits (R90 to R99, R105, R106, R240). -/
set_option autoImplicit false
namespace Sys2Proof.Machine

/-! ## Bits cleared by a written 1 -/

theorem bit_eq_testBit (v n : Nat) : bit v n = v.testBit n := by
  rw [Nat.testBit_eq_decide_div_mod_eq]; rfl

/-- Taking away the bits that a number shares with a mask clears just the bits of the mask. -/
theorem testBit_sub_and (i : Nat) : ∀ v m : Nat, (v - (v &&& m)).testBit i = (v.testBit i && !m.testBit i) := by
  induction i with
  | zero =>
    intro v m
    have hshared : (v &&& m) % 2 = 1 ↔ v % 2 = 1 ∧ m % 2 = 1 := Nat.and_mod_two_eq_one
    have hle : v &&& m ≤ v := Nat.and_le_left
    have hodd : (v - (v &&& m)) % 2 = 1 ↔ v % 2 = 1 ∧ ¬ m % 2 = 1 := by omega
    simp only [Nat.testBit_zero, hodd, Bool.decide_and, decide_not]
  | succ i ih =>
    intro v m
    have hshared : (v &&& m) % 2 = 1 ↔ v % 2 = 1 ∧ m % 2 = 1 := Nat.and_mod_two_eq_one
    have hhalf : (v &&& m) / 2 = v / 2 &&& m / 2 := Nat.and_div_two
    have hle : v &&& m ≤ v := Nat.and_le_left
    have hsub : (v - (v &&& m)) / 2 = v / 2 - (v / 2 &&& m / 2) := by omega
    simp only [Nat.testBit_succ, hsub, ih]

/-- A written 1 clears a bit of ASSERT_X, and no other bit of the register (R106). -/
theorem assertClear_bit {d : Dev} (h : Sound d) (mask : Nat) {i : Nat} (hi : i < 32) :
    bit (regGet (assertClear mask d) Reg.dmaHoldStatus.base) i =
      (bit (regGet d Reg.dmaHoldStatus.base) i && !(decide (8 ≤ i) && decide (i < 16) && bit mask i)) := by
  have hmask : (bits mask 8 8 * 256).testBit i = (decide (8 ≤ i) && decide (i < 16) && mask.testBit i) := by
    rw [bits, show (256 : Nat) = 2 ^ 8 from rfl, Nat.testBit_mul_two_pow, Nat.testBit_mod_two_pow, Nat.testBit_div_two_pow]
    by_cases h8 : 8 ≤ i
    · have hlt : i - 8 < 8 ↔ i < 16 := by omega
      simp [h8, hlt]
    · simp [h8]
  unfold assertClear
  dsimp only
  rw [regGet_set d h.regs.1, if_pos rfl]
  simp only [bit_eq_testBit, Nat.testBit_mod_two_pow, decide_eq_true hi, Bool.true_and]
  exact (testBit_sub_and i _ _).trans (by rw [hmask])

/-- A written 1 clears HIGH_X or LOW_X (R105). -/
theorem flagClear_session {d : Dev} (h : Rising d.sess) (s mask : Nat) :
    sess (flagClear s mask d) s =
      { sess d s with highX := (sess d s).highX && !bit mask 10, lowX := (sess d s).lowX && !bit mask 11 } :=
  sess_self d h s _

/-! ## Credits (R97) -/

theorem giveCredit_session {d : Dev} {s n : Nat} (h : Rising d.sess) (hdue : creditDue d s n = true) :
    sess (giveCredit s n d) s = { sess d s with credits := min 2 ((sess d s).credits + 1), creditAt := some n } := by
  unfold giveCredit
  dsimp only
  rw [if_pos hdue]
  exact sess_self d h s _

theorem giveCredit_streams (s n : Nat) (d : Dev) : (giveCredit s n d).streams = d.streams := by
  unfold giveCredit
  split <;> rfl

theorem giveCredit_none {d : Dev} {s n : Nat} (hdue : creditDue d s n = false) : giveCredit s n d = d := by
  unfold giveCredit
  exact if_neg (by simp [hdue])

/-! ## A write unit (R90 to R92) -/

/-- The place of an offset of BAR 2 within the window of session s. -/
def unitRel (d : Dev) (s off : Nat) : Nat := off - (sess d s).window.getD 0
/-- The frame slot of that place. -/
def unitSlot (d : Dev) (s off : Nat) : Nat := unitRel d s off / strideOf (intakePrm d s)
/-- The band of that place; none in padding. -/
def unitBand (d : Dev) (s off : Nat) : Option Nat :=
  bandAtOffset (partsOf (intakePrm d s)) (unitRel d s off % strideOf (intakePrm d s))
/-- The bytes of a unit are stored in the window of session s. -/
def storeWriteUnit (s off v : Nat) (d : Dev) : Dev :=
  setSess s { sess d s with src := storeBytes 64 (unitRel d s off) v (sess d s).src } d

theorem storeWriteUnit_does {d : Dev} (h : Rising d.sess) (s off v : Nat) :
    let e := storeWriteUnit s off v d
    e.objs = d.objs ∧ (sess e s).src = storeBytes 64 (off - (sess d s).window.getD 0) v (sess d s).src ∧
      (sess e s).window = (sess d s).window := by
  have hself : ∀ src, (sess (setSess s { sess d s with src := src } d) s).src = src ∧
      (sess (setSess s { sess d s with src := src } d) s).window = (sess d s).window := fun src => by
    rw [sess_self d h]
    exact ⟨rfl, rfl⟩
  exact ⟨rfl, hself _⟩

section
variable {d : Dev} {t off v s b : Nat} {whole : Bool}

theorem writeUnit_outside (hwindow : windowAt d t off = none) : writeUnit t off whole v d = objCount 32 0x5030 t 1 d := by
  simp only [writeUnit, hwindow]

/-- What becomes of a unit inside a window. -/
theorem writeUnit_inside (hwindow : windowAt d t off = some s) :
    writeUnit t off whole v d =
      if !intakeOn d then objCount 32 0x5022 s 1 d
      else match unitBand d s off with
        | none => objCount 32 0x5030 t 1 d
        | some b =>
          if !whole || regionSealed d s (unitSlot d s off) b then objCount 32 0x5022 s 1 d
          else storeWriteUnit s off v d := by
  unfold writeUnit
  rw [hwindow]
  rfl

theorem writeUnit_intakeOff (hwindow : windowAt d t off = some s) (hintake : intakeOn d = false) :
    writeUnit t off whole v d = objCount 32 0x5022 s 1 d := by
  rw [writeUnit_inside hwindow, hintake]; rfl

theorem writeUnit_padding (hwindow : windowAt d t off = some s) (hintake : intakeOn d = true)
    (hband : unitBand d s off = none) : writeUnit t off whole v d = objCount 32 0x5030 t 1 d := by
  rw [writeUnit_inside hwindow, hintake, hband]; rfl

/-- What becomes of a unit of a band while intake is on. -/
theorem writeUnit_band (hwindow : windowAt d t off = some s) (hintake : intakeOn d = true)
    (hband : unitBand d s off = some b) :
    writeUnit t off whole v d =
      if !whole || regionSealed d s (unitSlot d s off) b then objCount 32 0x5022 s 1 d
      else storeWriteUnit s off v d := by
  rw [writeUnit_inside hwindow, hintake, hband]; rfl

theorem writeUnit_dropped (hwindow : windowAt d t off = some s) (hintake : intakeOn d = true)
    (hband : unitBand d s off = some b) (hdrop : whole = false ∨ regionSealed d s (unitSlot d s off) b = true) :
    writeUnit t off whole v d = objCount 32 0x5022 s 1 d := by
  rw [writeUnit_band hwindow hintake hband]
  exact if_pos (by rcases hdrop with h | h <;> simp [h])

theorem writeUnit_stored (hwindow : windowAt d t off = some s) (hintake : intakeOn d = true)
    (hband : unitBand d s off = some b) (hopen : regionSealed d s (unitSlot d s off) b = false) :
    writeUnit t off true v d = storeWriteUnit s off v d := by
  rw [writeUnit_band hwindow hintake hband]
  exact if_neg (by simp [hopen])

/-- A unit touches the dictionary and the sessions only. -/
theorem writeUnit_keepsRest (t off v : Nat) (whole : Bool) (d : Dev) : Keeps 134217732 d (writeUnit t off whole v d) :=
  writeUnit_keeps (m := 134217732) rfl (.refl d)

/-- A unit leaves the configuration of the ports: the counts it may raise are other objects. -/
theorem writeUnit_ports (h : Sound d) : objGet (writeUnit t off whole v d) 0x1107 0 = objGet d 0x1107 0 := by
  have hcount : ∀ i u, 0x1107 < i → objGet (objCount 32 i u 1 d) 0x1107 0 = objGet d 0x1107 0 := fun i u hi =>
    objCount_get_ne d h.objs.1 _ _ _ _ _ _ (by unfold objKey; omega)
  cases hwindow : windowAt d t off with
  | none => rw [writeUnit_outside hwindow]; exact hcount _ _ (by decide)
  | some s =>
    rw [writeUnit_inside hwindow]
    split
    · exact hcount _ _ (by decide)
    · split
      · exact hcount _ _ (by decide)
      · split
        · exact hcount _ _ (by decide)
        · rfl

end

/-! ## A write of one unit or more -/

/-- An access reaches its function as long as the ports, links, tenants, interfaces and the reset are as they were. -/
theorem hostReaches_congr {d e : Dev} (who : Caller) (hpwr : e.pwr = d.pwr) (hlinks : e.links = d.links)
    (htenants : e.tenants = d.tenants) (hsec : e.sec = d.sec) (hports : objGet e 0x1107 0 = objGet d 0x1107 0) :
    hostReaches who e = hostReaches who d := by
  have hconfig : portConfig e = portConfig d := funext fun p => by simp only [portConfig, hports]
  have hfunction : linkOfFn e = linkOfFn d := funext fun fn => by unfold linkOfFn; rw [hconfig]
  cases who <;>
    simp only [hostReaches, reaches, ideRefuses, link, tenantLink, tenantOf, hpwr, hlinks, htenants, hsec, hfunction]

/-- A block whose timebase has reached the instant stays as it is. -/
theorem atTime_reached {d e : Dev} {now : Nat} (h : e.tbs = (atTime now d).tbs) : atTime now e = e := by
  have hfixed : (if e.tbs.running then { e.tbs with
      ns := max e.tbs.ns (min now (2 ^ 64 - 1)),
      cnt := max e.tbs.cnt (stitchesIn (max e.tbs.ns (min now (2 ^ 64 - 1)))) } else e.tbs) = e.tbs := by
    rw [h]
    unfold atTime
    split <;> simp [*]
  unfold atTime
  dsimp only
  split
  · next hrun => rw [if_pos hrun] at hfixed; rw [hfixed]
  · rfl

theorem unitsTouched_one {off len : Nat} (hlen : 0 < len) (hfit : off % 64 + len ≤ 64) : unitsTouched off len = 1 := by
  unfold unitsTouched
  rw [if_neg (by omega)]
  omega

theorem unitsTouched_more {off len : Nat} (hoff : off % 64 = 0) (hlen : 0 < len) :
    unitsTouched off (64 + len) = unitsTouched (off + 64) len + 1 := by
  unfold unitsTouched
  rw [if_neg (by omega), if_neg (by omega)]
  omega

/-- A write that stays within one unit is that unit, whole if it begins there and all its bytes are enabled (R90). -/
theorem apertureWrite_one {t off v : Nat} {tee : Bool} {en : List Bool} {d : Dev} (hreach : hostReaches (.vf t tee) d = true)
    (hfit : off % 64 + en.length ≤ 64) (hen : en ≠ []) :
    apertureWrite t off tee en v d =
      writeUnit t (off / 64 * 64) (decide (off % 64 = 0 ∧ en = List.replicate 64 true)) (v % 256 ^ 64) d := by
  have hlen : 0 < en.length := List.length_pos_iff.2 hen
  have hbase : off / 64 * 64 - off = 0 := by omega
  have htake : en.take 64 = en := List.take_of_length_le (by omega)
  have hwhole : (decide (off ≤ off / 64 * 64) && decide (off / 64 * 64 + 64 ≤ off + en.length) && en.all id) =
      decide (off % 64 = 0 ∧ en = List.replicate 64 true) := by
    rw [Bool.eq_iff_iff]
    simp only [Bool.and_eq_true, decide_eq_true_eq, List.all_eq_true, id, List.eq_replicate_iff]
    constructor
    · rintro ⟨⟨hstart, hend⟩, hall⟩
      exact ⟨by omega, by omega, hall⟩
    · rintro ⟨hstart, hlength, hall⟩
      exact ⟨⟨by omega, by omega⟩, hall⟩
  unfold apertureWrite
  rw [hostGate_open hreach, unitsTouched_one hlen hfit]
  simp only [writeUnits, Nat.mul_zero, Nat.add_zero, hbase, List.drop_zero, htake, hwhole, bytesAt, Nat.pow_zero, Nat.div_one]

/-- A longer write that begins with a whole unit is that unit, then the rest of the write (R90). -/
theorem apertureWrite_more {t off v : Nat} {tee : Bool} {en : List Bool} {d : Dev} (hsound : Sound d)
    (hreach : hostReaches (.vf t tee) d = true) (hoff : off % 64 = 0) (hen : en ≠ []) :
    apertureWrite t off tee (List.replicate 64 true ++ en) v d =
      apertureWrite t (off + 64) tee en (v / 256 ^ 64) (apertureWrite t off tee (List.replicate 64 true) v d) := by
  have hlen : 0 < en.length := List.length_pos_iff.2 hen
  have hbase : off / 64 * 64 = off := by omega
  have hnext : (off + 64) / 64 * 64 = off + 64 := by omega
  have hfirst : apertureWrite t off tee (List.replicate 64 true) v d = writeUnit t off true (v % 256 ^ 64) d := by
    rw [apertureWrite_one hreach (by simp [hoff]) (by simp), hbase, decide_eq_true ⟨hoff, rfl⟩]
  have hkept : hostReaches (.vf t tee) (writeUnit t off true (v % 256 ^ 64) d) = true := by
    have hrest := (writeUnit_keepsRest t off (v % 256 ^ 64) true d).only
    rw [hostReaches_congr _ (hrest .pwr rfl).symm (hrest .links rfl).symm (hrest .tenants rfl).symm (hrest .sec rfl).symm
      (writeUnit_ports hsound), hreach]
  rw [hfirst]
  unfold apertureWrite
  rw [hostGate_open hreach, hostGate_open hkept, hbase, hnext, List.length_append, List.length_replicate,
    unitsTouched_more hoff hlen, writeUnits, writeUnits_shift _ _ _ _ (by simp)]
  have hrest : (List.replicate 64 true ++ en).drop 64 = en := List.drop_left' (by simp)
  have htake : (List.replicate 64 true ++ en).take 64 = List.replicate 64 true := List.take_left' (by simp)
  have hall : (List.replicate 64 true).all id = true := by decide
  simp only [Nat.mul_zero, Nat.add_zero, Nat.sub_self, List.drop_zero, hrest, htake, hall, bytesAt, Nat.pow_zero, Nat.div_one,
    List.length_append, List.length_replicate, Nat.le_refl, decide_true, Bool.and_true,
    decide_eq_true (show off + 64 ≤ off + (64 + en.length) by omega)]

/-! ## Doorbells (R94 to R96, R240) -/

/-- A rejected doorbell leaves sessions and frames; its code, slot, band and frame number are in the last-error register of
the tenant's doorbell page, and it is counted for the session, or for the tenant where the slot is not its own (R95). -/
theorem doorbellReject_does {d : Dev} (h : Sound d) (t w : Nat) (e : Err) :
    let x := doorbellReject t w e d
    let slot := bits w 0 8
    x.streams = d.streams ∧ x.sess = d.sess ∧
      regGet x (Reg.vfDbLastErr.vfAt t 0) = e.code + slot * 2 ^ 8 + bits w 8 7 * 2 ^ 16 + bits w 16 8 * 2 ^ 23 ∧
      (ownerOf d slot = t → objGet x 0x5021 slot = (objGet d 0x5021 slot + 1) % 2 ^ 32) ∧
      (ownerOf d slot ≠ t → objGet x 0x5030 t = (objGet d 0x5030 t + 1) % 2 ^ 32) := by
  have hfits : e.code + bits w 0 8 * 2 ^ 8 + bits w 8 7 * 2 ^ 16 + bits w 16 8 * 2 ^ 23 < 2 ^ 32 := by
    have hcode : e.code < 16 := by cases e <;> decide
    have hslot : bits w 0 8 < 2 ^ 8 := Nat.mod_lt _ (by decide)
    have hband : bits w 8 7 < 2 ^ 7 := Nat.mod_lt _ (by decide)
    have hnumber : bits w 16 8 < 2 ^ 8 := Nat.mod_lt _ (by decide)
    omega
  have hcode := regGet_set d h.regs.1 (Reg.vfDbLastErr.vfAt t 0)
    (e.code + bits w 0 8 * 2 ^ 8 + bits w 8 7 * 2 ^ 16 + bits w 16 8 * 2 ^ 23) (Reg.vfDbLastErr.vfAt t 0)
  rw [if_pos rfl, Nat.mod_eq_of_lt hfits] at hcode
  unfold doorbellReject
  dsimp only
  generalize hd1 : regSet (Reg.vfDbLastErr.vfAt t 0)
    (e.code + bits w 0 8 * 2 ^ 8 + bits w 8 7 * 2 ^ 16 + bits w 16 8 * 2 ^ 23) d = d1 at hcode ⊢
  have hobjs : d1.objs = d.objs := by subst hd1; simp
  have hrising : Rising d1.objs := by rw [hobjs]; exact h.objs.1
  have hcounted : ∀ i u, objGet (objCount 32 i u 1 d1) i u = (objGet d i u + 1) % 2 ^ 32 := fun i u => by
    rw [objCount_get d1 hrising, objGet_congr hobjs]
  have hstreams : d1.streams = d.streams := by subst hd1; simp
  have hsess : d1.sess = d.sess := by subst hd1; simp
  split
  · next hmine =>
    refine ⟨by simp [hstreams], by simp [hsess], ?_, fun _ => hcounted _ _, fun hother => absurd hmine hother⟩
    rw [← hcode]; exact regGet_congr (by simp) _
  · next hother =>
    refine ⟨by simp [hstreams], by simp [hsess], ?_, fun hmine => absurd hmine hother, fun _ => hcounted _ _⟩
    rw [← hcode]; exact regGet_congr (by simp) _

theorem bandDoorbell_rejected {t w : Nat} {e : Err} {d : Dev} (h : lowest (doorbellErrs d t w) = some e) :
    bandDoorbell t w d = doorbellReject t w e d := by
  unfold bandDoorbell; rw [h]

theorem bandDoorbell_accepted {t w : Nat} {d : Dev} (h : doorbellErrs d t w = []) :
    bandDoorbell t w d = earlyStart (doorbellAccept w d) := by
  unfold bandDoorbell; rw [h, lowest_nil]

/-- During a splice the band of an accepted doorbell is discarded and counted (R240). -/
theorem doorbellAccept_spliced {w : Nat} {d : Dev} (hsplice : (sess d (bits w 0 8)).splice.isSome = true)
    (hend : (sess d (bits w 0 8)).spliceEnd ≠ 2) : doorbellAccept w d = objCount 32 0x5023 (bits w 0 8) 1 d := by
  unfold doorbellAccept
  dsimp only
  exact if_pos (by simp [hsplice, hend])

/-- A session without a splice in force takes bands (R240). -/
theorem live_of_splice {x : Session} (h : x.splice = none ∨ x.spliceEnd = 2) :
    (x.splice.isSome && x.spliceEnd != 2) = false := by
  rcases h with h | h <;> simp [h]

/-- A doorbell that earns no code names a band of the picture (R95). -/
theorem band_lt_of_doorbellErrs {t w : Nat} {d : Dev} (h : doorbellErrs d t w = []) :
    bits w 8 7 < ceilDiv (objGet d 0x3015 (bits w 0 8)) 64 := by
  by_contra hout
  have hrange : Err.range ∈ doorbellErrs d t w := by
    unfold doorbellErrs
    refine mem_earned _ _ (List.mem_cons_of_mem _ (List.mem_cons.2 (.inl ?_)))
    simp only [Prod.mk.injEq, and_true]
    rw [decide_eq_true (Nat.le_of_not_lt hout), Bool.or_true]
  rw [h] at hrange
  cases hrange

/-! ## Missing bands (R99) -/

/-- The missing-band limit is watched in a session that runs or drains and takes its frames from the intake. -/
def Watches (d : Dev) (s : Nat) : Prop :=
  ((sess d s).st = .running ∨ (sess d s).st = .draining) ∧ objGet d 0x3010 s = 0

/-- A frame at its limit keeps its number and its count, and its bands that were missing are substituted (R99). -/
theorem substitute_due {d : Dev} {s n : Nat} {f : Frame} (h : Sound d) (hwatch : Watches d s)
    (hf : f ∈ (stream d (liveSid s)).frames) (hdue : substDue d s n f = true) :
    ∃ g ∈ (stream (substitute s n d) (liveSid s)).frames, g.number = f.number ∧ g.count = f.count ∧
      g.bands.map (·.st) = f.bands.map (fun b => if b.st = 0 then 2 else b.st) := by
  obtain ⟨hst, hlive⟩ := hwatch
  have hstarted : f.count ≠ none := by
    intro hnone
    simp [substDue, hnone] at hdue
  have hlisted : f ∈ (stream d (liveSid s)).frames.filter (substDue d s n) := List.mem_filter.2 ⟨hf, hdue⟩
  obtain ⟨g, hg, hnumber, hcount, ⟨-, hskipped, -⟩ | hbands⟩ :=
    substAll s f _ d h false ⟨f, hf, rfl, rfl, .inl ⟨rfl, rfl⟩⟩
  · exact absurd hskipped (not_or.2 ⟨not_not.2 hlisted, hstarted⟩)
  · refine ⟨g, ?_, hnumber, hcount, hbands⟩
    unfold substitute
    dsimp only
    rw [if_pos (by rcases hst with h | h <;> simp [h, hlive])]
    exact hg

/-- Nothing happens where the limit is not watched, or no frame is at it. -/
theorem substitute_none {d : Dev} {s n : Nat}
    (h : ¬ Watches d s ∨ ∀ f ∈ (stream d (liveSid s)).frames, substDue d s n f = false) : substitute s n d = d := by
  unfold substitute
  dsimp only
  split
  · next hwatch =>
    have hnone : (stream d (liveSid s)).frames.filter (substDue d s n) = [] := by
      refine List.filter_eq_nil_iff.2 (h.resolve_left (not_not.2 ?_) · · ▸ Bool.false_ne_true)
      simpa [Watches] using hwatch
    rw [hnone]; rfl
  · rfl

end Sys2Proof.Machine

open Sys2Proof.Machine

/-- Settles O54: credits, aperture accesses, doorbells, substitution and the sticky bits, each by what its act makes of the
block at the instant of its command. -/
theorem intakeAccesses : Obligations.IntakeAccesses := by
  unfold Obligations.IntakeAccesses
  refine ⟨fun s slot hawake hsound hslot => ?credit,
    fun s t off data now tee en hawake hsound ht hreach => ⟨fun hfit hen => ?unit, fun hoff en' hen' => ?longer, fun hoff => ?read⟩,
    fun s t word now tee hawake hsound ht hreach => ?doorbell, fun s slot now hawake hsound hslot => ?substitution,
    fun s who slot mask hawake hsound hslot => ⟨fun hopen => ?flags, fun hopen => ?asserts⟩⟩
  case credit =>
    refine ⟨fun hdue => answers_actOn (f := frameCredit slot) rfl hslot hawake ?_,
      fun hdue => answers_actOn (f := frameCredit slot) rfl hslot hawake (giveCredit_none hdue)⟩
    have hgiven := giveCredit_session hsound.tabs.sess hdue
    exact ⟨congrArg Session.credits hgiven, congrArg Session.creditAt hgiven, giveCredit_streams _ _ _⟩
  case unit =>
    have hy : Sound (atTime now s.dev) := sound_atTime now hsound
    have hgate : hostReaches (.vf t tee) (atTime now s.dev) = true := by rw [hostReaches_time, hreach]
    have hwrite : ∀ {P : Dev → Prop}, P (writeUnit t (off / 64 * 64) (decide (off % 64 = 0 ∧ en = List.replicate 64 true))
        (data % 256 ^ 64) (atTime now s.dev)) → Answers (.apertureWrite t off tee en data now) s P := fun hp =>
      answers_actOn (f := fun d => apertureWrite t off tee en data (atTime now d)) rfl ht hawake
        (by rw [apertureWrite_one hgate hfit hen]; exact hp)
    have hcounted : ∀ i u, (objCount 32 i u 1 (atTime now s.dev)).sess = (atTime now s.dev).sess ∧
        objGet (objCount 32 i u 1 (atTime now s.dev)) i u = (objGet (atTime now s.dev) i u + 1) % 2 ^ 32 := fun i u =>
      ⟨by simp only [objCount_frame], objCount_get _ hy.objs.1 _ _ _ _⟩
    refine ⟨fun hwindow => hwrite ?_, fun x hwindow => ⟨fun hintake => hwrite ?_, fun hintake hband => hwrite ?_,
      fun b hintake hband => ⟨fun hdrop => hwrite ?_, fun hwhole hregion => hwrite ?_⟩⟩⟩
    · rw [writeUnit_outside hwindow]; exact hcounted _ _
    · rw [writeUnit_intakeOff hwindow hintake]; exact hcounted _ _
    · rw [writeUnit_padding hwindow hintake hband]; exact hcounted _ _
    · rw [writeUnit_dropped hwindow hintake hband (hdrop.imp_left decide_eq_false)]; exact hcounted _ _
    · rw [decide_eq_true hwhole, writeUnit_stored hwindow hintake hband hregion]
      exact storeWriteUnit_does hy.tabs.sess _ _ _
  case longer =>
    have hy : Sound (atTime now s.dev) := sound_atTime now hsound
    have hgate : hostReaches (.vf t tee) (atTime now s.dev) = true := by rw [hostReaches_time, hreach]
    refine answers_actOn (f := fun d => apertureWrite t off tee (List.replicate 64 true ++ en') data (atTime now d)) rfl ht hawake
      ⟨_, actOn_next ht hawake, ?_⟩
    have hrest := (apertureWrite_keeps (m := 134217732) (t := t) (off := off) (tee := tee) (en := List.replicate 64 true)
      (v := data) rfl (.refl (atTime now s.dev))).only
    rw [apertureWrite_more hy hgate hoff hen']
    generalize apertureWrite t off tee (List.replicate 64 true) data (atTime now s.dev) = x at hrest ⊢
    have hpwr : x.pwr = s.dev.pwr := (hrest .pwr rfl).symm.trans (by simp only [atTime_frame])
    have hstill : isHeld x = false := by rw [isHeld, hpwr]; exact hawake
    refine (actOn_next (s := { s with dev := x }) ht hstill).trans ?_
    dsimp only
    rw [atTime_reached (d := s.dev) (hrest .tbs rfl).symm]
  case read =>
    have hgate : hostReaches (.vf t tee) (atTime now s.dev) = true := by rw [hostReaches_time, hreach]
    refine answers_actOn (f := fun d => hostGate (.vf t tee) (fun d => emit (.apertureData t off 0) (objCount 32 0x5030 t 1 d))
      (atTime now d)) rfl (Bool.and_eq_true_iff.2 ⟨ht, decide_eq_true hoff⟩) hawake ?_
    rw [hostGate_open hgate]
    exact ⟨by simp [emit], sent_emit _ _, objCount_get _ (sound_atTime now hsound).objs.1 _ _ _ _⟩
  case doorbell =>
    have hy : Sound (atTime now s.dev) := sound_atTime now hsound
    have hgate : hostReaches (.vf t tee) (atTime now s.dev) = true := by rw [hostReaches_time, hreach]
    have hring : ∀ {P : Dev → Prop}, P (bandDoorbell t (word % 2 ^ 32) (atTime now s.dev)) →
        Answers (.bandDoorbell t tee word now) s P := fun hp =>
      answers_actOn (f := fun d => hostGate (.vf t tee) (bandDoorbell t (word % 2 ^ 32)) (atTime now d)) rfl ht hawake
        (by rw [hostGate_open hgate]; exact hp)
    refine ⟨fun e hcode => hring ?_, fun hnone hsplice hend => hring ⟨_, bandDoorbell_accepted hnone, ?_⟩,
      fun hnone hlive hlen => hring ⟨_, bandDoorbell_accepted hnone, ?_⟩⟩
    · rw [bandDoorbell_rejected hcode]
      exact doorbellReject_does hy t _ e
    · rw [doorbellAccept_spliced hsplice hend]
      exact ⟨by simp only [objCount_frame], by simp only [objCount_frame], objCount_get _ hy.objs.1 _ _ _ _⟩
    · exact accept_band _ _ hy (live_of_splice hlive) (band_lt_of_doorbellErrs hnone) hlen
  case substitution =>
    refine ⟨fun hruns => ?_, fun hidle => ?_⟩
    · exact answers_actOn (f := fun d => substitute slot (stitchesIn (atTime now d).tbs.ns) (atTime now d)) rfl hslot hawake
        fun f hf hdue => substitute_due (sound_atTime now hsound) hruns hf hdue
    · exact answers_actOn (f := fun d => substitute slot (stitchesIn (atTime now d).tbs.ns) (atTime now d)) rfl hslot hawake
        (substitute_none hidle)
  case flags =>
    refine answers_actOn rfl hslot hawake ?_
    rw [regGate_open hopen, flagClear_session hsound.tabs.sess]
    exact ⟨rfl, rfl, rfl, rfl⟩
  case asserts =>
    refine answers_act rfl hawake ?_
    rw [regGate_open hopen]
    exact ⟨by simp [assertClear], fun i hi => assertClear_bit hsound mask hi⟩

end

section
/-! PROOFS. The allowance of a destination against the plans that it admits (R165). -/
set_option autoImplicit false
namespace Sys2Proof.Machine

/-- A bitstream of z whole bytes costs its bytes and one header per packet of m bytes. -/
theorem wireBytes_wholeBytes (z h m : Nat) : wireBytes (8 * z) h m = z + h * ceilDiv z m := by
  have hbytes : ceilDiv (8 * z) 8 = z := by unfold ceilDiv; omega
  rw [wireBytes, hbytes]

theorem wireBytes_mono {x z : Nat} (h m : Nat) (hxz : x ≤ z) : wireBytes (8 * x) h m ≤ wireBytes (8 * z) h m := by
  rw [wireBytes_wholeBytes, wireBytes_wholeBytes]
  exact Nat.add_le_add hxz (Nat.mul_le_mul_left h (ceilDiv_mono x z m hxz))

/-- Past k full packets, e bytes more cost themselves and, where there are any, one header. -/
theorem wireBytes_packets {m e : Nat} (k h : Nat) (hm : 0 < m) (he : e ≤ m) :
    wireBytes (8 * (k * m + e)) h m = k * (m + h) + e + if e = 0 then 0 else h := by
  rw [wireBytes_wholeBytes, ceilDiv_add k e m hm he]
  split <;> ring

/-- What k full packets leave of an allowance is less than one more of them, so the last packet is not full. -/
theorem lastPacket_lt {m : Nat} (a h : Nat) (hm : 0 < m) : a - a / (m + h) * (m + h) - h < m := by
  have hrest : a < a / (m + h) * (m + h) + (m + h) := Nat.lt_div_mul_add (by omega)
  omega

theorem wireBytes_fitBytes_le {m : Nat} (a h : Nat) (hm : 0 < m) : wireBytes (8 * fitBytes a m h) h m ≤ a := by
  have hfull : a / (m + h) * (m + h) ≤ a := Nat.div_mul_le_self a (m + h)
  rw [fitBytes, wireBytes_packets _ h hm (lastPacket_lt a h hm).le]
  split <;> omega

/-- One byte more than the fit needs the header of the last packet also where the fit ends at a full one. -/
theorem lt_wireBytes_fitBytes_succ {m : Nat} (a h : Nat) (hm : 0 < m) : a < wireBytes (8 * (fitBytes a m h + 1)) h m := by
  rw [fitBytes, Nat.add_assoc, wireBytes_packets _ h hm (lastPacket_lt a h hm), if_neg (Nat.succ_ne_zero _)]
  omega

/-- The fit in natural numbers is R165's formula, whose maximum with 0 is the truncated subtraction. -/
theorem fitBytes_eq (a m h : Nat) : (fitBytes a m h : Int) =
    ((a / (m + h) : Nat) : Int) * m + max 0 ((a : Int) - ((a / (m + h) : Nat) : Int) * (m + h) - h) := by
  rw [fitBytes]
  generalize a / (m + h) = k
  have hcut : ((a - k * (m + h) - h : Nat) : Int) = max 0 ((a : Int) - ((k * (m + h) : Nat) : Int) - h) := by omega
  rw [Nat.cast_add, hcut, Nat.cast_mul, Nat.cast_mul, Nat.cast_add]

end Sys2Proof.Machine

open Sys2Proof.Machine

/-- Settles O9: the fit costs at most the allowance, one byte more costs more than it, and the cost grows with the bytes. -/
theorem largestFit : Obligations.LargestFit := by
  unfold Obligations.LargestFit
  refine ⟨fun t h m _ => rfl, fun a m h hm => ⟨fitBytes_eq a m h, wireBytes_fitBytes_le a h hm, fun z hz => ?_⟩⟩
  by_contra hlarger
  have hcost := wireBytes_mono h m (Nat.succ_le_of_lt (Nat.lt_of_not_le hlarger))
  exact absurd (lt_wireBytes_fitBytes_succ a h hm) (Nat.not_lt.2 (hcost.trans hz))

end

section
/-! PROOFS. The canonical forms and the legal states: after reset, and kept by every step (R191, R427, R461). -/
set_option autoImplicit false
namespace Sys2Proof.Machine
/-- Each of the 273 commands keeps the block within its mask, as the law of its own meaning says. -/
theorem exec_keeps {c : Instr} {s t : State} (h : exec c s = .next t) : ∃ m, Keeps m s.dev t.dev := by
  cases c with
  | stitchBoundary => exact ⟨_, execStitchBoundary_keeps h⟩
  | gateEntryExpiry => exact ⟨_, execGateEntryExpiry_keeps h⟩
  | frameCredit => exact ⟨_, execFrameCredit_keeps h⟩
  | stitchOverrun => exact ⟨_, execStitchOverrun_keeps h⟩
  | tileHang => exact ⟨_, execTileHang_keeps h⟩
  | partCoded => exact ⟨_, execPartCoded_keeps h⟩
  | closingGrant => exact ⟨_, execClosingGrant_keeps h⟩
  | completionPost => exact ⟨_, execCompletionPost_keeps h⟩
  | completionCollect => exact ⟨_, execCompletionCollect_keeps h⟩
  | assignCurrent => exact ⟨_, execAssignCurrent_keeps h⟩
  | assignNext => exact ⟨_, execAssignNext_keeps h⟩
  | withdrawNext => exact ⟨_, execWithdrawNext_keeps h⟩
  | closeGrant => exact ⟨_, execCloseGrant_keeps h⟩
  | boot => exact ⟨_, execBoot_keeps h⟩
  | containmentReset => exact ⟨_, execContainmentReset_keeps h⟩
  | loadStallEnd => exact ⟨_, execLoadStallEnd_keeps h⟩
  | contextCommit => exact ⟨_, execContextCommit_keeps h⟩
  | tileRetire => exact ⟨_, execTileRetire_keeps h⟩
  | retirementMapRetry => exact ⟨_, execRetirementMapRetry_keeps h⟩
  | apertureWrite => exact ⟨_, execApertureWrite_keeps h⟩
  | apertureRead => exact ⟨_, execApertureRead_keeps h⟩
  | bandDoorbell => exact ⟨_, execBandDoorbell_keeps h⟩
  | watermarkFlagClear => exact ⟨_, execWatermarkFlagClear_keeps h⟩
  | holdAssertClear => exact ⟨_, execHoldAssertClear_keeps h⟩
  | bandSubstitution => exact ⟨_, execBandSubstitution_keeps h⟩
  | drainAbandon => exact ⟨_, execDrainAbandon_keeps h⟩
  | drainComplete => exact ⟨_, execDrainComplete_keeps h⟩
  | define => exact ⟨_, execDefine_keeps h⟩
  | release => exact ⟨_, execRelease_keeps h⟩
  | arm => exact ⟨_, execArm_keeps h⟩
  | armPartnerTimeout => exact ⟨_, execArmPartnerTimeout_keeps h⟩
  | disarm => exact ⟨_, execDisarm_keeps h⟩
  | start => exact ⟨_, execStart_keeps h⟩
  | pause => exact ⟨_, execPause_keeps h⟩
  | resume => exact ⟨_, execResume_keeps h⟩
  | drain => exact ⟨_, execDrain_keeps h⟩
  | operatorDrain => exact ⟨_, execOperatorDrain_keeps h⟩
  | tenantBind => exact ⟨_, execTenantBind_keeps h⟩
  | functionLevelReset => exact ⟨_, execFunctionLevelReset_keeps h⟩
  | vfEnableSet => exact ⟨_, execVfEnableSet_keeps h⟩
  | vfEnableClear => exact ⟨_, execVfEnableClear_keeps h⟩
  | pfFlr => exact ⟨_, execPfFlr_keeps h⟩
  | pcieLinkReset => exact ⟨_, execPcieLinkReset_keeps h⟩
  | pcieLinkUp => exact ⟨_, execPcieLinkUp_keeps h⟩
  | mailboxGo => exact ⟨_, execMailboxGo_keeps h⟩
  | read => exact ⟨_, execRead_keeps h⟩
  | write => exact ⟨_, execWrite_keeps h⟩
  | describe => exact ⟨_, execDescribe_keeps h⟩
  | refreshRequest => exact ⟨_, execRefreshRequest_keeps h⟩
  | freezeRequest => exact ⟨_, execFreezeRequest_keeps h⟩
  | registerSegment => exact ⟨_, execRegisterSegment_keeps h⟩
  | delete => exact ⟨_, execDelete_keeps h⟩
  | exportToEthernet => exact ⟨_, execExportToEthernet_keeps h⟩
  | segmentVerified => exact ⟨_, execSegmentVerified_keeps h⟩
  | spliceRequest => exact ⟨_, execSpliceRequest_keeps h⟩
  | spliceReturn => exact ⟨_, execSpliceReturn_keeps h⟩
  | blockAllocate => exact ⟨_, execBlockAllocate_keeps h⟩
  | blockFree => exact ⟨_, execBlockFree_keeps h⟩
  | destinationWrite => exact ⟨_, execDestinationWrite_keeps h⟩
  | shaperWrite => exact ⟨_, execShaperWrite_keeps h⟩
  | streamKeyWrite => exact ⟨_, execStreamKeyWrite_keeps h⟩
  | previousKeyExpiry => exact ⟨_, execPreviousKeyExpiry_keeps h⟩
  | segmentKeyWrite => exact ⟨_, execSegmentKeyWrite_keeps h⟩
  | portModeWrite => exact ⟨_, execPortModeWrite_keeps h⟩
  | linkTrainTimeout => exact ⟨_, execLinkTrainTimeout_keeps h⟩
  | ethernetLinkChange => exact ⟨_, execEthernetLinkChange_keeps h⟩
  | macSend => exact ⟨_, execMacSend_keeps h⟩
  | retransmissionExpiry => exact ⟨_, execRetransmissionExpiry_keeps h⟩
  | senderReport => exact ⟨_, execSenderReport_keeps h⟩
  | frameReceived => exact ⟨_, execFrameReceived_keeps h⟩
  | learningDecision => exact ⟨_, execLearningDecision_keeps h⟩
  | nack => exact ⟨_, execNack_keeps h⟩
  | pictureLossIndication => exact ⟨_, execPictureLossIndication_keeps h⟩
  | congestionFeedback => exact ⟨_, execCongestionFeedback_keeps h⟩
  | transportWideFeedback => exact ⟨_, execTransportWideFeedback_keeps h⟩
  | receiverReport => exact ⟨_, execReceiverReport_keeps h⟩
  | feedbackTimeout => exact ⟨_, execFeedbackTimeout_keeps h⟩
  | agingVisit => exact ⟨_, execAgingVisit_keeps h⟩
  | comparerCheck => exact ⟨_, execComparerCheck_keeps h⟩
  | flowInsert => exact ⟨_, execFlowInsert_keeps h⟩
  | flowRemove => exact ⟨_, execFlowRemove_keeps h⟩
  | ptpEventReceived => exact ⟨_, execPtpEventReceived_keeps h⟩
  | ptpSync => exact ⟨_, execPtpSync_keeps h⟩
  | announce => exact ⟨_, execAnnounce_keeps h⟩
  | syncTimeout => exact ⟨_, execSyncTimeout_keeps h⟩
  | ppsInEdge => exact ⟨_, execPpsInEdge_keeps h⟩
  | ppsOut => exact ⟨_, execPpsOut_keeps h⟩
  | timeSet => exact ⟨_, execTimeSet_keeps h⟩
  | tbsStep => exact ⟨_, execTbsStep_keeps h⟩
  | ptpTsTagRead => exact ⟨_, execPtpTsTagRead_keeps h⟩
  | tsFlush => exact ⟨_, execTsFlush_keeps h⟩
  | pairEnable => exact ⟨_, execPairEnable_keeps h⟩
  | handshakeTimeout => exact ⟨_, execHandshakeTimeout_keeps h⟩
  | refusedRetry => exact ⟨_, execRefusedRetry_keeps h⟩
  | heartbeat => exact ⟨_, execHeartbeat_keeps h⟩
  | hello => exact ⟨_, execHello_keeps h⟩
  | liningRequest => exact ⟨_, execLiningRequest_keeps h⟩
  | liningAnswer => exact ⟨_, execLiningAnswer_keeps h⟩
  | sessionOpen => exact ⟨_, execSessionOpen_keeps h⟩
  | band => exact ⟨_, execBand_keeps h⟩
  | sessionState => exact ⟨_, execSessionState_keeps h⟩
  | sessionClose => exact ⟨_, execSessionClose_keeps h⟩
  | mirrorNack => exact ⟨_, execMirrorNack_keeps h⟩
  | liningState => exact ⟨_, execLiningState_keeps h⟩
  | handoverOffer => exact ⟨_, execHandoverOffer_keeps h⟩
  | handoverAnswer => exact ⟨_, execHandoverAnswer_keeps h⟩
  | handoverQueueLimit => exact ⟨_, execHandoverQueueLimit_keeps h⟩
  | handover => exact ⟨_, execHandover_keeps h⟩
  | taken => exact ⟨_, execTaken_keeps h⟩
  | mirrorHoldExpiry => exact ⟨_, execMirrorHoldExpiry_keeps h⟩
  | heartbeatLimit => exact ⟨_, execHeartbeatLimit_keeps h⟩
  | probeAnswer => exact ⟨_, execProbeAnswer_keeps h⟩
  | probeTimeout => exact ⟨_, execProbeTimeout_keeps h⟩
  | probeRepeat => exact ⟨_, execProbeRepeat_keeps h⟩
  | promoteLinings => exact ⟨_, execPromoteLinings_keeps h⟩
  | addressAnnounce => exact ⟨_, execAddressAnnounce_keeps h⟩
  | handOverSession => exact ⟨_, execHandOverSession_keeps h⟩
  | liningRequestRetry => exact ⟨_, execLiningRequestRetry_keeps h⟩
  | liningReanchor => exact ⟨_, execLiningReanchor_keeps h⟩
  | liningRelease => exact ⟨_, execLiningRelease_keeps h⟩
  | tileRelease => exact ⟨_, execTileRelease_keeps h⟩
  | tileRetireCommand => exact ⟨_, execTileRetireCommand_keeps h⟩
  | sessionsTakenWrite => exact ⟨_, execSessionsTakenWrite_keeps h⟩
  | drawstringToken => exact ⟨_, execDrawstringToken_keeps h⟩
  | tokenRegenerate => exact ⟨_, execTokenRegenerate_keeps h⟩
  | hopLock => exact ⟨_, execHopLock_keeps h⟩
  | closeSend => exact ⟨_, execCloseSend_keeps h⟩
  | close => exact ⟨_, execClose_keeps h⟩
  | enum => exact ⟨_, execEnum_keeps h⟩
  | enumTimeout => exact ⟨_, execEnumTimeout_keeps h⟩
  | table => exact ⟨_, execTable_keeps h⟩
  | closureLimit => exact ⟨_, execClosureLimit_keeps h⟩
  | wake => exact ⟨_, execWake_keeps h⟩
  | frameRetry => exact ⟨_, execFrameRetry_keeps h⟩
  | requestTimeout => exact ⟨_, execRequestTimeout_keeps h⟩
  | reenum => exact ⟨_, execReenum_keeps h⟩
  | dsrCntClr => exact ⟨_, execDsrCntClr_keeps h⟩
  | trnWritePattern => exact ⟨_, execTrnWritePattern_keeps h⟩
  | trnReadCompare => exact ⟨_, execTrnReadCompare_keeps h⟩
  | trnWriteReadCompare => exact ⟨_, execTrnWriteReadCompare_keeps h⟩
  | trnCaLoopback => exact ⟨_, execTrnCaLoopback_keeps h⟩
  | helperOpDone => exact ⟨_, execHelperOpDone_keeps h⟩
  | trnFinish => exact ⟨_, execTrnFinish_keeps h⟩
  | trainingTimeout => exact ⟨_, execTrainingTimeout_keeps h⟩
  | dramRefresh => exact ⟨_, execDramRefresh_keeps h⟩
  | modeRegisterPoll => exact ⟨_, execModeRegisterPoll_keeps h⟩
  | selfRefreshRequest => exact ⟨_, execSelfRefreshRequest_keeps h⟩
  | selfRefreshStage => exact ⟨_, execSelfRefreshStage_keeps h⟩
  | dramRequestInSelfRefresh => exact ⟨_, execDramRequestInSelfRefresh_keeps h⟩
  | padRelease => exact ⟨_, execPadRelease_keeps h⟩
  | channelFreeze => exact ⟨_, execChannelFreeze_keeps h⟩
  | alertReplay => exact ⟨_, execAlertReplay_keeps h⟩
  | channelResume => exact ⟨_, execChannelResume_keeps h⟩
  | channelRetrain => exact ⟨_, execChannelRetrain_keeps h⟩
  | channelOff => exact ⟨_, execChannelOff_keeps h⟩
  | dmcCorrClr => exact ⟨_, execDmcCorrClr_keeps h⟩
  | fillFrameDone => exact ⟨_, execFillFrameDone_keeps h⟩
  | scrubRead => exact ⟨_, execScrubRead_keeps h⟩
  | resilverComplete => exact ⟨_, execResilverComplete_keeps h⟩
  | flipArm => exact ⟨_, execFlipArm_keeps h⟩
  | wrdLapHwmClr => exact ⟨_, execWrdLapHwmClr_keeps h⟩
  | sramCorrClr => exact ⟨_, execSramCorrClr_keeps h⟩
  | sqTailWrite => exact ⟨_, execSqTailWrite_keeps h⟩
  | cqHeadWrite => exact ⟨_, execCqHeadWrite_keeps h⟩
  | eqHeadWrite => exact ⟨_, execEqHeadWrite_keeps h⟩
  | queueObjectWrite => exact ⟨_, execQueueObjectWrite_keeps h⟩
  | descriptorFetch => exact ⟨_, execDescriptorFetch_keeps h⟩
  | copyIn => exact ⟨_, execCopyIn_keeps h⟩
  | copyOut => exact ⟨_, execCopyOut_keeps h⟩
  | intake => exact ⟨_, execIntake_keeps h⟩
  | exportEntry => exact ⟨_, execExportEntry_keeps h⟩
  | decodeFeed => exact ⟨_, execDecodeFeed_keeps h⟩
  | segmentUpload => exact ⟨_, execSegmentUpload_keeps h⟩
  | fill => exact ⟨_, execFill_keeps h⟩
  | transmit => exact ⟨_, execTransmit_keeps h⟩
  | receiveBuffer => exact ⟨_, execReceiveBuffer_keeps h⟩
  | descriptorComplete => exact ⟨_, execDescriptorComplete_keeps h⟩
  | channelDisable => exact ⟨_, execChannelDisable_keeps h⟩
  | dmaCorrClr => exact ⟨_, execDmaCorrClr_keeps h⟩
  | eqResetClear => exact ⟨_, execEqResetClear_keeps h⟩
  | atsInvalidation => exact ⟨_, execAtsInvalidation_keeps h⟩
  | fifoWordCorrected => exact ⟨_, execFifoWordCorrected_keeps h⟩
  | fifoWordUncorrectable => exact ⟨_, execFifoWordUncorrectable_keeps h⟩
  | irqDoorbell => exact ⟨_, execIrqDoorbell_keeps h⟩
  | interruptDelivery => exact ⟨_, execInterruptDelivery_keeps h⟩
  | msixHoldoffExpiry => exact ⟨_, execMsixHoldoffExpiry_keeps h⟩
  | msixUnmask => exact ⟨_, execMsixUnmask_keeps h⟩
  | idleHintArm => exact ⟨_, execIdleHintArm_keeps h⟩
  | malformedRegisterAccess => exact ⟨_, execMalformedRegisterAccess_keeps h⟩
  | strayAccess => exact ⟨_, execStrayAccess_keeps h⟩
  | registerWrite => exact ⟨_, execRegisterWrite_keeps h⟩
  | paritySweep => exact ⟨_, execParitySweep_keeps h⟩
  | mbxCntClr => exact ⟨_, execMbxCntClr_keeps h⟩
  | carryHwmClr => exact ⟨_, execCarryHwmClr_keeps h⟩
  | slvCorrClr => exact ⟨_, execSlvCorrClr_keeps h⟩
  | pkeHwmClr => exact ⟨_, execPkeHwmClr_keeps h⟩
  | igrLapHwmClr => exact ⟨_, execIgrLapHwmClr_keeps h⟩
  | tileCntClr => exact ⟨_, execTileCntClr_keeps h⟩
  | secEventCntClr => exact ⟨_, execSecEventCntClr_keeps h⟩
  | getVersion => exact ⟨_, execGetVersion_keeps h⟩
  | getCapabilities => exact ⟨_, execGetCapabilities_keeps h⟩
  | negotiateAlgorithms => exact ⟨_, execNegotiateAlgorithms_keeps h⟩
  | getDigests => exact ⟨_, execGetDigests_keeps h⟩
  | getCertificate => exact ⟨_, execGetCertificate_keeps h⟩
  | challenge => exact ⟨_, execChallenge_keeps h⟩
  | getMeasurements => exact ⟨_, execGetMeasurements_keeps h⟩
  | keyExchange => exact ⟨_, execKeyExchange_keeps h⟩
  | finish => exact ⟨_, execFinish_keeps h⟩
  | spdmHeartbeat => exact ⟨_, execSpdmHeartbeat_keeps h⟩
  | keyUpdate => exact ⟨_, execKeyUpdate_keeps h⟩
  | endSession => exact ⟨_, execEndSession_keeps h⟩
  | spdmSessionTimeout => exact ⟨_, execSpdmSessionTimeout_keeps h⟩
  | installTenant => exact ⟨_, execInstallTenant_keeps h⟩
  | installOperator => exact ⟨_, execInstallOperator_keeps h⟩
  | ideKm => exact ⟨_, execIdeKm_keeps h⟩
  | ideIntegrityFailure => exact ⟨_, execIdeIntegrityFailure_keeps h⟩
  | lockInterfaceRequest => exact ⟨_, execLockInterfaceRequest_keeps h⟩
  | startInterfaceRequest => exact ⟨_, execStartInterfaceRequest_keeps h⟩
  | stopInterfaceRequest => exact ⟨_, execStopInterfaceRequest_keeps h⟩
  | rngHealthFailure => exact ⟨_, execRngHealthFailure_keeps h⟩
  | tenantKeyErase => exact ⟨_, execTenantKeyErase_keeps h⟩
  | operatorKeyErase => exact ⟨_, execOperatorKeyErase_keeps h⟩
  | debugUnlock => exact ⟨_, execDebugUnlock_keeps h⟩
  | faultReportAccept => exact ⟨_, execFaultReportAccept_keeps h⟩
  | logRecordWrite => exact ⟨_, execLogRecordWrite_keeps h⟩
  | wireFault => exact ⟨_, execWireFault_keeps h⟩
  | disagreementSpell => exact ⟨_, execDisagreementSpell_keeps h⟩
  | collectorIntegrity => exact ⟨_, execCollectorIntegrity_keeps h⟩
  | selfTestComplete => exact ⟨_, execSelfTestComplete_keeps h⟩
  | forceReport => exact ⟨_, execForceReport_keeps h⟩
  | logSel => exact ⟨_, execLogSel_keeps h⟩
  | logTail => exact ⟨_, execLogTail_keeps h⟩
  | standingClear => exact ⟨_, execStandingClear_keeps h⟩
  | firstClr => exact ⟨_, execFirstClr_keeps h⟩
  | worstClr => exact ⟨_, execWorstClr_keeps h⟩
  | lostClr => exact ⟨_, execLostClr_keeps h⟩
  | fltCntClr => exact ⟨_, execFltCntClr_keeps h⟩
  | packageStateRequest => exact ⟨_, execPackageStateRequest_keeps h⟩
  | packageTransitionComplete => exact ⟨_, execPackageTransitionComplete_keeps h⟩
  | transitionOvertime => exact ⟨_, execTransitionOvertime_keeps h⟩
  | domainPowerGood => exact ⟨_, execDomainPowerGood_keeps h⟩
  | domainOff => exact ⟨_, execDomainOff_keeps h⟩
  | powerGoodTimeout => exact ⟨_, execPowerGoodTimeout_keeps h⟩
  | tileIdleOff => exact ⟨_, execTileIdleOff_keeps h⟩
  | pwrPadRelease => exact ⟨_, execPwrPadRelease_keeps h⟩
  | wakeNLow => exact ⟨_, execWakeNLow_keeps h⟩
  | pcieWake => exact ⟨_, execPcieWake_keeps h⟩
  | ethernetWakePattern => exact ⟨_, execEthernetWakePattern_keeps h⟩
  | powerSample => exact ⟨_, execPowerSample_keeps h⟩
  | powerCapExceeded => exact ⟨_, execPowerCapExceeded_keeps h⟩
  | sensorSample => exact ⟨_, execSensorSample_keeps h⟩
  | referenceLoss => exact ⟨_, execReferenceLoss_keeps h⟩
  | sleepEntryEdge => exact ⟨_, execSleepEntryEdge_keeps h⟩
  | sleepCountEdge => exact ⟨_, execSleepCountEdge_keeps h⟩
  | wakeEdge => exact ⟨_, execWakeEdge_keeps h⟩
  | porNRise => exact ⟨_, execPorNRise_keeps h⟩
  | porNFall => exact ⟨_, execPorNFall_keeps h⟩
  | aonBrownOut => exact ⟨_, execAonBrownOut_keeps h⟩
  | warmResetRequest => exact ⟨_, execWarmResetRequest_keeps h⟩
  | coldResetRequest => exact ⟨_, execColdResetRequest_keeps h⟩
  | firmwareBoot => exact ⟨_, execFirmwareBoot_keeps h⟩
  | startupEnable => exact ⟨_, execStartupEnable_keeps h⟩
  | handoverOfferTimeout => exact ⟨_, execHandoverOfferTimeout_keeps h⟩
  | mirrorStoreExpiry => exact ⟨_, execMirrorStoreExpiry_keeps h⟩
  | referenceReturn => exact ⟨_, execReferenceReturn_keeps h⟩
  | aonSupplyReturn => exact ⟨_, execAonSupplyReturn_keeps h⟩
  | disagreementEnd => exact ⟨_, execDisagreementEnd_keeps h⟩
  | memorySpaceEnableWrite => exact ⟨_, execMemorySpaceEnableWrite_keeps h⟩
  | vfResizableBarWrite => exact ⟨_, execVfResizableBarWrite_keeps h⟩
  | ptpLockTimeout => exact ⟨_, execPtpLockTimeout_keeps h⟩
  | drawstringFrameError => exact ⟨_, execDrawstringFrameError_keeps h⟩
  | pairShareResponse => exact ⟨_, execPairShareResponse_keeps h⟩
  | onchipMemoryError => exact ⟨_, execOnchipMemoryError_keeps h⟩

/-- So does an idle nanosecond, in which T and the tiles' sequencers run (log 1, log 112). -/
theorem idle_keeps (d : Dev) : Keeps 3776018651541 d (runMicros (atTime (d.tbs.ns + 1) d)) :=
  runMicros_keeps (by rfl) (atTime_keeps (by rfl) (.refl d))

/-- A step, with a command at the front or idle, keeps the block within a mask. -/
theorem step_keeps {s t : State} (h : step s = .next t) : ∃ m, Keeps m s.dev t.dev := by
  unfold step at h
  split at h
  · cases h
    exact ⟨_, idle_keeps s.dev⟩
  · next c rest _ =>
    obtain ⟨m, hkeeps⟩ := exec_keeps h
    exact ⟨m, hkeeps⟩

end Sys2Proof.Machine

open Sys2Proof.Machine

/-- Settles O5: every table of the reset block is empty, and both state machines are in state 0. -/
theorem resetKeepsTheForms : Obligations.ResetKeepsTheForms := by
  unfold Obligations.ResetKeepsTheForms
  refine ⟨⟨regs_nil, objs_nil, mem_nil, by decide, by decide, ?_⟩, rfl, rfl⟩
  constructor <;> exact rising_nil

/-- Settles O6: a step keeps the block within a mask, and what is kept so stays well kept. -/
theorem stepKeepsTheForms : Obligations.StepKeepsTheForms := by
  unfold Obligations.StepKeepsTheForms
  intro s t hsound hstep
  obtain ⟨_, hkeeps⟩ := step_keeps hstep
  exact hkeeps.sound hsound

end

section
/-! PROOFS. The clear bits of the control registers (R218, R277, R296, R322, R334, R340, R369, R390, R453). -/
set_option autoImplicit false
namespace Sys2Proof.Machine

/-! ## Registers that are cleared stay clear -/

/-- The block differs from `d0` in its registers and in what a mended parity bit ends (R367), and in nothing else. -/
abbrev RegsOnly (d0 d : Dev) : Prop := Keeps 65665 d0 d

/-- So does the block, and the register at `key` reads 0. -/
def Cleared (d0 : Dev) (key : Nat) (d : Dev) : Prop := RegsOnly d0 d ∧ regGet d key = 0

section
variable {d0 d : Dev} {key k : Nat} (hsound : Sound d0)

theorem RegsOnly.regSet {v : Nat} (h : RegsOnly d0 d) : RegsOnly d0 (regSet k v d) := regSet_keeps (by rfl) h

theorem RegsOnly.setFld {lo len v : Nat} (h : RegsOnly d0 d) : RegsOnly d0 (setFld k lo len v d) := setFld_keeps (by rfl) h

include hsound

theorem RegsOnly.rising (h : RegsOnly d0 d) : Rising d.regs := (h.sound hsound).regs.1

theorem RegsOnly.cleared (h : RegsOnly d0 d) : Cleared d0 key (Machine.regSet key 0 d) :=
  ⟨h.regSet, by simp [regGet_set d (h.rising hsound)]⟩

/-- A register that reads 0 keeps doing so when another one, or itself, is cleared. -/
theorem Cleared.regSet_zero (h : Cleared d0 key d) : Cleared d0 key (regSet k 0 d) := by
  obtain ⟨honly, hzero⟩ := h
  refine ⟨honly.regSet, ?_⟩
  rw [regGet_set d (honly.rising hsound)]
  split
  · rfl
  · exact hzero

/-- The same when a field is cleared. -/
theorem Cleared.setFld_zero {lo len : Nat} (h : Cleared d0 key d) : Cleared d0 key (setFld k lo len 0 d) := by
  obtain ⟨honly, hzero⟩ := h
  refine ⟨honly.regSet, ?_⟩
  rw [setFld, regGet_set d (honly.rising hsound)]
  split
  · next hkey => simp [← hkey, hzero, setBits]
  · exact hzero

omit hsound in
theorem Cleared.mend (h : Cleared d0 key d) : Cleared d0 key (mend k d) := by
  obtain ⟨honly, hzero⟩ := h
  refine ⟨mend_keeps (by rfl) honly, ?_⟩
  rw [← hzero]
  simp [regGet]

omit hsound in
/-- A pass over a list clears the registers of each place when a step clears those of its own and keeps the others clear. -/
theorem Cleared.forEach {α : Type} {f : α → Dev → Dev} {a : α} (hsteps : ∀ x d, Cleared d0 key d → Cleared d0 key (f x d))
    (honly : ∀ x d, RegsOnly d0 d → RegsOnly d0 (f x d)) (hown : ∀ d, RegsOnly d0 d → Cleared d0 key (f a d)) :
    ∀ {l : List α} {d : Dev}, a ∈ l → RegsOnly d0 d → Cleared d0 key (forEach l f d) := by
  have hrest : ∀ (l : List α) (d : Dev), Cleared d0 key d → Cleared d0 key (Machine.forEach l f d) := by
    intro l
    induction l with
    | nil => exact fun _ h => h
    | cons x l ih => exact fun d h => ih (f x d) (hsteps x d h)
  intro l
  induction l with
  | nil => exact fun hmem => absurd hmem List.not_mem_nil
  | cons x l ih =>
    intro d hmem h
    rcases List.mem_cons.1 hmem with rfl | hmem
    · exact hrest l (f a d) (hown d h)
    · exact ih hmem (honly x d h)

/-! ## What each clear bit clears -/

/-- The cost and residency high-water marks of every index (R277). -/
theorem pkeHwm_cleared {i : Nat} (hi : i < 64) (hkey : key = Reg.pkeDepthHwm.at i ∨ key = Reg.pkeResHwm.at i) (h : RegsOnly d0 d) :
    Cleared d0 key (forEach (List.range 64) (fun i d => regSet (Reg.pkeResHwm.at i) 0 (regSet (Reg.pkeDepthHwm.at i) 0 d)) d) := by
  refine Cleared.forEach (a := i) (fun x d hd => (hd.regSet_zero hsound).regSet_zero hsound) (fun x d hd => hd.regSet.regSet)
    (fun d hd => ?_) (List.mem_range.2 hi) h
  rcases hkey with rfl | rfl
  · exact (hd.cleared hsound).regSet_zero hsound
  · exact hd.regSet.cleared hsound

/-- The greatest lap of every channel (R340). -/
theorem scrubLap_cleared {c : Nat} (hc : c < 16) (h : RegsOnly d0 d) : Cleared d0 (Reg.wrdScrubLapHwm.at c) (lapClear d) := by
  unfold lapClear
  refine Cleared.forEach (a := c) (fun x d hd => ?_) (fun x d hd => ?_) (fun d hd => ?_) (List.mem_range.2 hc) h
  · exact (hd.regSet_zero hsound).setFld_zero hsound
  · exact hd.regSet.setFld
  · exact (hd.cleared hsound).setFld_zero hsound

/-- The three counters of the mailbox page (R369). -/
theorem mbxCnt_cleared (hkey : key ∈ [Reg.mbxRejectCnt.base, Reg.mbxStrayCnt.base, Reg.mbxSizeErrCnt.base]) (h : RegsOnly d0 d) :
    Cleared d0 key (mbxCntClr d) := by
  simp only [List.mem_cons, List.not_mem_nil, or_false] at hkey
  rcases hkey with rfl | rfl | rfl
  · exact h.regSet.regSet.cleared hsound
  · exact (h.regSet.cleared hsound).regSet_zero hsound
  · exact ((h.cleared hsound).regSet_zero hsound).regSet_zero hsound

/-- Both halves of the count of corrected FIFO words (R390). -/
theorem dmaCorr_cleared (hkey : key ∈ [Reg.dmaFifoCorrHi.base, Reg.dmaFifoCorrLo.base]) (h : RegsOnly d0 d) :
    Cleared d0 key (corrClear d) := by
  simp only [List.mem_cons, List.not_mem_nil, or_false] at hkey
  rw [corrClear, pairSet, Nat.zero_div]
  rcases hkey with rfl | rfl
  · exact (h.cleared hsound).regSet_zero hsound
  · exact h.regSet.cleared hsound

end

/-- What the statement asks of a clear bit whose write reaches its control register. -/
theorem Cleared.gate {who : Caller} {ctrl key : Nat} {f : Dev → Dev} {d : Dev} (hopen : regOpen who ctrl false d = true)
    (h : Cleared d key (f d)) : let e := regGate who ctrl false f d
      regGet e key = 0 ∧ e.objs = d.objs ∧ e.sess = d.sess ∧ e.emitted = d.emitted := by
  obtain ⟨honly, hzero⟩ := h
  dsimp only
  rw [regGate_open hopen]
  exact ⟨hzero, (honly.only .objs (by rfl)).symm, (honly.only .sess (by rfl)).symm, (honly.only .emitted (by rfl)).symm⟩

end Sys2Proof.Machine

open Sys2Proof.Machine

/-- Settles O38: each clear bit clears its registers, mends the parity of its control register and touches nothing else. -/
theorem counterClears : Obligations.CounterClears := by
  unfold Obligations.CounterClears
  intro s who hawake hsound clears
  have h : RegsOnly s.dev s.dev := .refl _
  refine ⟨fun hopen => ?_, fun hopen => ?_, fun hopen => ?_, fun i hi => ⟨fun hopen => ?_, fun hopen => ?_⟩, fun c hc hopen => ?_,
    fun key hkey hopen => ?_, fun c hc hopen => ?_, fun key hkey hopen => ?_⟩
  · exact answers_act rfl hawake ((h.cleared hsound).gate hopen)
  · exact answers_act rfl hawake (Cleared.gate hopen (h.cleared hsound).mend)
  · exact answers_act rfl hawake (Cleared.gate hopen (h.cleared hsound).mend)
  · exact answers_act rfl hawake (Cleared.gate hopen (pkeHwm_cleared hsound hi (.inl rfl) h).mend)
  · exact answers_act rfl hawake (Cleared.gate hopen (pkeHwm_cleared hsound hi (.inr rfl) h).mend)
  · exact answers_actOn rfl hc hawake ((h.cleared hsound).gate hopen)
  · exact answers_act rfl hawake ((mbxCnt_cleared hsound hkey h).gate hopen)
  · exact answers_act rfl hawake (Cleared.gate hopen (scrubLap_cleared hsound hc h).mend)
  · exact answers_act rfl hawake (Cleared.gate hopen (dmaCorr_cleared hsound hkey h).mend)

end

section
/-! PROOFS. The handshake of the pair, its HELLO and its HEARTBEAT (R190, R191, R193, R194, R433, R447, R450). -/
set_option autoImplicit false
namespace Sys2Proof.Machine

/-! ## A handshake refused, and one that begins -/

/-- The pair is REFUSED for a reason, and its key is erased (R190, R447). -/
def PairRefused (reason : Nat) (e : Dev) : Prop := e.pair.st = 5 ∧ e.pair.keyed = false ∧ objGet e 0x1409 0 = reason

/-- What the beginning of a handshake leaves of a block that was `d`: the share is published, or the pair is refused with the
first reason against it, or without random numbers nothing begins (R190, R433, R447, R450). -/
def HandshakeBegun (d e : Dev) : Prop :=
  (d.sec.rngFail = true → e.pair.st = d.pair.st ∧ e.rngCtr = d.rngCtr) ∧
  (d.sec.rngFail = false → d.sec.debug = true → PairRefused 3 e) ∧
  (d.sec.rngFail = false → d.sec.debug = false → isAligned d = false → PairRefused 6 e) ∧
  (d.sec.rngFail = false → d.sec.debug = false → isAligned d = true → objGet d 0x1101 0 ≠ 1 → PairRefused 1 e) ∧
  (d.sec.rngFail = false → d.sec.debug = false → isAligned d = true → objGet d 0x1101 0 = 1 → e.pair.st = 1 ∧
    objGet e 0x1620 0 = Config.pairShare d.rngCtr % 2 ^ (8 * 208) ∧ e.rngCtr = d.rngCtr + 1)

section
variable {d : Dev}

theorem refusePair_refused (h : Rising d.objs) (r : Nat) : PairRefused r (refusePair r d) := refusePair_does r d h

theorem enterHandshake_begun (h : Rising d.objs) : HandshakeBegun d (enterHandshake d) := by
  have hpair : Rising (enterPair 1 d).objs := by rw [enterPair_objs]; exact h
  obtain ⟨hfail, hdebug, hunaligned, hprofile, hbegins⟩ := enterHandshake_does d h
  refine ⟨fun h1 => ?_, fun h1 h2 => ?_, fun h1 h2 h3 => ?_, fun h1 h2 h3 h4 => ?_, fun h1 h2 h3 h4 => ?_⟩
  · rw [hfail h1]; exact ⟨rfl, rfl⟩
  · rw [hdebug h1 h2]; exact refusePair_refused hpair 3
  · rw [hunaligned h1 h2 h3]; exact refusePair_refused hpair 6
  · rw [hprofile h1 h2 h3 h4]; exact refusePair_refused hpair 1
  · obtain ⟨hst, hshare, hrng, -⟩ := hbegins h1 h2 h3 h4
    exact ⟨hst, hshare, hrng⟩

/-- Only what decides about a handshake counts for its beginning. -/
theorem HandshakeBegun.congr {y e : Dev} (hsec : d.sec = y.sec) (htbs : d.tbs = y.tbs) (hrng : d.rngCtr = y.rngCtr)
    (hst : d.pair.st = y.pair.st) (hprofile : objGet d 0x1101 0 = objGet y 0x1101 0) (h : HandshakeBegun d e) :
    HandshakeBegun y e := by
  unfold HandshakeBegun isAligned at *
  rwa [hsec, htbs, hrng, hst, hprofile] at h

/-! ## Messages that arrive (R194) -/

/-- The block once the COUNTER of an accepted message is taken. -/
def took (m : MirrorMsg) (d : Dev) : Dev := { d with pair := { d.pair with lastIn := m.counter } }

section
variable {c : Instr} {s : State} {k now : Nat} {m : MirrorMsg} {f : Dev → Dev} {P : Dev → Prop} {y : Dev}
  (hexec : exec c s = act (fun d => receive k m f (atTime now d)) s) (hawake : isHeld s.dev = false) (ht : atTime now s.dev = y)
include hexec hawake ht

/-- A message accepted at its instant acts on the block that has taken its COUNTER. -/
theorem answers_took (hok : mirrorOk y k m = true) (hp : P (f (took m y))) : Answers c s P := by
  subst ht
  exact answers_received hexec hawake hok hp

/-- One that is not accepted is counted in 0x5098:0 and leaves the pair as it was. -/
theorem answers_counted (hobjs : Rising y.objs) (hbad : mirrorOk y k m = false) :
    Answers c s (fun d => d.pair = y.pair ∧ objGet d 0x5098 0 = (objGet y 0x5098 0 + 1) % 2 ^ 32) := by
  subst ht
  refine answers_act hexec hawake ?_
  rw [receive_bad hbad]
  exact ⟨by simp only [objCount_frame], objCount_get _ hobjs ..⟩

end

/-! ## PAIR_ENABLE -/

/-- A change for the boundary shows at once in the dictionary, and on the stitch-scheduled path what was in force before (R23). -/
theorem objSetStitch_does (h : Rising d.objs) (i u v : Nat) :
    objGet (objSetStitch i u v d) i u = v ∧ objNow (objSetStitch i u v d) i u = objNow d i u := by
  refine ⟨objGet_set_self { d with heldStitch := tabSet d.heldStitch (objKey i u) (objNow d i u) } h i u v, ?_⟩
  simp [objSetStitch, objNow, tabFind_set]

/-! ## HANDSHAKE_TIMEOUT, REFUSED_RETRY -/

/-- When is a handshake late (R190; log 119)? -/
def handshakeLate (d : Dev) : Prop := d.pair.st = 1 ∧ d.pair.since + 200000000 ≤ d.tbs.ns
/-- When is a refused handshake tried again (R191)? -/
def refusedDue (d : Dev) : Prop := d.pair.st = 5 ∧ pairWanted d = true ∧ d.pair.since + 1000000000 ≤ d.tbs.ns

theorem handshakeTimeout_late (h : handshakeLate d) : handshakeTimeout d = refusePair 4 d :=
  if_pos (by simpa [handshakeLate] using h)
theorem handshakeTimeout_early (h : ¬ handshakeLate d) : handshakeTimeout d = d :=
  if_neg (by simpa [handshakeLate] using h)
theorem refusedRetry_due (h : refusedDue d) : refusedRetry d = enterHandshake d :=
  if_pos (by simpa [refusedDue, and_assoc] using h)
theorem refusedRetry_not_due (h : ¬ refusedDue d) : refusedRetry d = d :=
  if_neg (by simpa [refusedDue, and_assoc] using h)

/-! ## PAIR_SHARE_RESPONSE (R447) -/

/-- A security event counts in 0x5135:0 and leaves every other object (R453). -/
theorem secEvent_obj (h : Rising d.objs) (c t : Nat) {i u : Nat} (hi : i ≠ 0x5135) (hu : u < 256) :
    objGet (secEvent c t d) i u = objGet d i u := by
  have hobjs : (secEvent c t d).objs = (objCount 32 0x5135 0 1 (regCount Reg.secEventCnt.base 1 d)).objs := by
    simp only [secEvent, regSet_frame, raise_frame]
  have hregs : (regCount Reg.secEventCnt.base 1 d).objs = d.objs := by simp only [regCount_frame]
  rw [objGet_congr hobjs, objCount_get_ne _ (by rw [hregs]; exact h) _ _ _ _ _ _ (objKey_ne hi.symm (by decide) hu),
    objGet_congr hregs]

theorem refusePair_rising (h : Rising d.objs) (r : Nat) : Rising (refusePair r d).objs := by
  show Rising (enterPair 5 (objSet 0x1409 0 r d)).objs
  rw [enterPair_objs]
  exact objSet_rising d h _ _ _

section
variable {chainOk sigOk locked : Bool} {node epoch pin : Nat}

theorem pairShare_unasked (h : d.pair.st ≠ 1 ∨ d.pair.keyed = true) :
    pairShare chainOk sigOk locked node epoch pin d = d := if_pos (by simpa using h)

/-- A share that fails a check refuses the pair. -/
theorem pairShare_refused (h : Rising d.objs) (hst : d.pair.st = 1) (hkeyed : d.pair.keyed = false)
    (hbad : shareOk d chainOk sigOk locked node pin = false) :
    PairRefused 3 (pairShare chainOk sigOk locked node epoch pin d) := by
  have hact : pairShare chainOk sigOk locked node epoch pin d = secEvent 6 257 (refusePair 3 d) := by
    unfold pairShare
    rw [if_neg (by simp [hst, hkeyed]), if_pos (by simp [hbad])]
  obtain ⟨hrefused, hnoKey, hreason⟩ := refusePair_refused h 3
  rw [hact]
  refine ⟨?_, ?_, ?_⟩
  · simpa only [secEvent_frame] using hrefused
  · simpa only [secEvent_frame] using hnoKey
  · rw [secEvent_obj (refusePair_rising h 3) _ _ (by decide) (by decide)]
    exact hreason

/-- A share that passes them gives the next epoch and the pair key, and HELLO is the first message under it. -/
theorem pairShare_accepted (h : Rising d.objs) (hst : d.pair.st = 1) (hkeyed : d.pair.keyed = false)
    (hok : shareOk d chainOk sigOk locked node pin = true) :
    let e := pairShare chainOk sigOk locked node epoch pin d
    e.pair.st = 1 ∧ e.pair.keyed = true ∧ e.pair.lastIn = 0 ∧ e.pair.counter = 1 ∧
      objGet e 0x1405 0 = (max (objGet d 0x1405 0) epoch + 1) % 2 ^ 32 := by
  generalize hd1 : objSet 0x1405 0 ((max (objGet d 0x1405 0) epoch + 1) % 2 ^ 32) d = d1
  generalize hd2 : clearLast 257 (setPair { d1.pair with keyed := true, counter := 0, lastIn := 0 } d1) = d2
  have hact : pairShare chainOk sigOk locked node epoch pin d = sendHello d2 := by
    subst hd2 hd1
    unfold pairShare
    rw [if_neg (by simp [hst, hkeyed]), if_neg (by simp [hok])]
  have hpair : d2.pair = { d.pair with keyed := true, counter := 0, lastIn := 0 } := by
    subst hd2 hd1
    simp only [clearLast_frame, setPair, objSet_frame]
  have hobjs : d2.objs = d1.objs := by
    subst hd2
    simp only [clearLast_frame, setPair]
  have hrising : Rising d1.objs := by subst hd1; exact objSet_rising d h _ _ _
  dsimp only
  rw [hact, sendHello, sendMirror_pair_eq, hpair]
  refine ⟨hst, rfl, rfl, rfl, ?_⟩
  rw [sendMirror_obj _ d2 (by rw [hobjs]; exact hrising) _ _ (by decide) (by decide), objGet_congr hobjs, ← hd1]
  exact objGet_set_self d h _ _ _

end

/-! ## HELLO (R190, R191) -/

section
variable {m : MirrorMsg}

/-- The items of a HELLO that are checked in HANDSHAKE, in their order: the node, the stepping and the microcode, the profile (R190). -/
theorem helloAccepted_handshake (hst : d.pair.st = 1) : helloAccepted m d =
    if m.nums.getD 0 0 ≠ objGet d 0x1401 0 then refusePair 5 d
    else if m.nums.getD 1 0 ≠ objGet d 0x1001 0 ∨ m.nums.getD 2 0 ≠ objGet d 0x1004 0 then refusePair 2 d
    else if m.nums.getD 3 0 ≠ 1 then refusePair 1 d
    else relining (setPair { (enterPair 2 (objReset 0x1409 0 d)).pair with partner := m.objs, probe := none }
      (enterPair 2 (objReset 0x1409 0 d))) := by
  unfold helloAccepted
  simp only [if_pos hst, bne_iff_ne, Bool.or_eq_true]

/-- A HELLO in PARTNER_LOST begins a handshake. -/
theorem helloAccepted_begins (hobjs : Rising d.objs) (hst : d.pair.st = 4) : HandshakeBegun d (helloAccepted m d) := by
  unfold helloAccepted
  rw [if_neg (by omega), if_pos hst]
  exact (enterHandshake_begun (d := setPair { d.pair with keyed := false } d) hobjs).congr rfl rfl rfl rfl rfl

theorem helloAccepted_ignored (h1 : d.pair.st ≠ 1) (h4 : d.pair.st ≠ 4) : helloAccepted m d = d := by
  unfold helloAccepted
  rw [if_neg h1, if_neg h4]

section
variable (hobjs : Rising d.objs) (hst : d.pair.st = 1)

include hobjs hst in
theorem helloAccepted_otherNode (hnode : m.nums.getD 0 0 ≠ objGet d 0x1401 0) : PairRefused 5 (helloAccepted m d) := by
  rw [helloAccepted_handshake hst, if_pos hnode]
  exact refusePair_refused hobjs 5

variable (hnode : m.nums.getD 0 0 = objGet d 0x1401 0)

include hobjs hst hnode in
theorem helloAccepted_otherRelease (hrelease : m.nums.getD 1 0 ≠ objGet d 0x1001 0 ∨ m.nums.getD 2 0 ≠ objGet d 0x1004 0) :
    PairRefused 2 (helloAccepted m d) := by
  rw [helloAccepted_handshake hst, if_neg (not_not.2 hnode), if_pos hrelease]
  exact refusePair_refused hobjs 2

variable (hstep : m.nums.getD 1 0 = objGet d 0x1001 0) (hcode : m.nums.getD 2 0 = objGet d 0x1004 0)

include hobjs hst hnode hstep hcode in
theorem helloAccepted_otherProfile (hprofile : m.nums.getD 3 0 ≠ 1) : PairRefused 1 (helloAccepted m d) := by
  rw [helloAccepted_handshake hst, if_neg (not_not.2 hnode), if_neg (not_or.2 ⟨not_not.2 hstep, not_not.2 hcode⟩), if_pos hprofile]
  exact refusePair_refused hobjs 1

include hst hnode hstep hcode in
/-- A HELLO whose items agree pairs the devices (R190, R222). -/
theorem helloAccepted_pairs (hprofile : m.nums.getD 3 0 = 1) : (helloAccepted m d).pair.st = 2 ∧
    (helloAccepted m d).pair.lastIn = d.pair.lastIn ∧ (helloAccepted m d).pair.partner = m.objs ∧
    (helloAccepted m d).pair.probe = none ∧ (helloAccepted m d).pair.lost = false := by
  rw [helloAccepted_handshake hst, if_neg (not_not.2 hnode), if_neg (not_or.2 ⟨not_not.2 hstep, not_not.2 hcode⟩),
    if_neg (not_not.2 hprofile)]
  obtain ⟨hlost, hpaired, hlast, hpartner, hprobe⟩ := relining_pair
    (setPair { (enterPair 2 (objReset 0x1409 0 d)).pair with partner := m.objs, probe := none } (enterPair 2 (objReset 0x1409 0 d)))
  have hpair := enterPair_pair 2 (objReset 0x1409 0 d)
  exact ⟨hpaired.trans (congrArg Pair.st hpair), hlast.trans (congrArg Pair.lastIn hpair :), hpartner, hprobe, hlost⟩

end

/-! ## HEARTBEAT (R191, R193, R214) -/

/-- The block with the last stitch counter told (R193). -/
def heard (m : MirrorMsg) (d : Dev) : Dev := objMax 0x140B 0 (m.nums.getD 0 0) d

theorem heard_told (h : Rising d.objs) : objGet (heard m d) 0x140B 0 = max (m.nums.getD 0 0) (objGet d 0x140B 0) :=
  objGet_set_self d h _ _ _

theorem heard_rising (h : Rising d.objs) : Rising (heard m d).objs := objSet_rising d h _ _ _

theorem heard_pair : (heard m d).pair = d.pair := by simp only [heard, objMax_frame]

/-- What a HEARTBEAT does in each state of the pair once its counter is told. -/
theorem heartbeatAccepted_eq : heartbeatAccepted m d =
    if d.pair.st = 2 then setPair { d.pair with probe := none } (heard m d)
    else if d.pair.st = 3 then setPair { (enterPair 2 (heard m d)).pair with probe := none } (enterPair 2 (heard m d))
    else if d.pair.st = 4 then enterHandshake (setPair { d.pair with keyed := false } (heard m d))
    else heard m d := by
  unfold heartbeatAccepted heard
  dsimp only
  simp only [objMax_frame]

/-- In PAIRED and MIRROR_DOWN it ends a probe, and the pair is PAIRED. -/
theorem heartbeatAccepted_pairs (hrising : Rising d.objs) (h : d.pair.st = 2 ∨ d.pair.st = 3) :
    let e := heartbeatAccepted m d
    objGet e 0x140B 0 = max (m.nums.getD 0 0) (objGet d 0x140B 0) ∧ e.pair.st = 2 ∧ e.pair.probe = none ∧
      e.pair.lastIn = d.pair.lastIn := by
  have htold := heard_told (m := m) hrising
  dsimp only
  rw [heartbeatAccepted_eq]
  rcases h with hst | hst
  · rw [if_pos hst]
    exact ⟨htold, hst, rfl, rfl⟩
  · rw [if_neg (by omega), if_pos hst]
    have hpair : (enterPair 2 (heard m d)).pair = { d.pair with st := 2, since := (heard m d).tbs.ns } := by
      rw [enterPair_pair, heard_pair]
    exact ⟨(objGet_congr (enterPair_objs 2 _) _ _).trans htold, congrArg Pair.st hpair, rfl, (congrArg Pair.lastIn hpair :)⟩

/-- In PARTNER_LOST a handshake begins. -/
theorem heartbeatAccepted_begins (hrising : Rising d.objs) (hst : d.pair.st = 4) :
    let e := heartbeatAccepted m d
    objGet e 0x140B 0 = max (m.nums.getD 0 0) (objGet d 0x140B 0) ∧ HandshakeBegun d e := by
  have hheard : Rising (setPair { d.pair with keyed := false } (heard m d)).objs := heard_rising hrising
  dsimp only
  rw [heartbeatAccepted_eq, if_neg (by omega), if_neg (by omega), if_pos hst]
  refine ⟨(enterHandshake_obj _ hheard _ (by decide) (by decide)).trans (heard_told hrising), ?_⟩
  have hframe : (heard m d).sec = d.sec ∧ (heard m d).tbs = d.tbs ∧ (heard m d).rngCtr = d.rngCtr := by
    simp only [heard, objMax_frame, and_self]
  refine .congr ?_ ?_ ?_ ?_ ?_ (enterHandshake_begun hheard)
  · exact hframe.1
  · exact hframe.2.1
  · exact hframe.2.2
  · rfl
  · exact objGet_set_ne d hrising _ _ _ _ _ (by decide)

/-- In any other state it only tells its counter. -/
theorem heartbeatAccepted_only (hrising : Rising d.objs) (h2 : d.pair.st ≠ 2) (h3 : d.pair.st ≠ 3) (h4 : d.pair.st ≠ 4) :
    let e := heartbeatAccepted m d
    objGet e 0x140B 0 = max (m.nums.getD 0 0) (objGet d 0x140B 0) ∧ e.pair = d.pair := by
  dsimp only
  rw [heartbeatAccepted_eq, if_neg h2, if_neg h3, if_neg h4]
  exact ⟨heard_told hrising, heard_pair⟩

end
end

end Sys2Proof.Machine
end

section
/-! PROOFS. Heartbeats that fail to come, the probe and its answer, and the announcements repeated (R214, R218). -/
set_option autoImplicit false
namespace Sys2Proof.Machine

section
variable {d : Dev}

/-- Have the heartbeats of a PAIRED device stayed out too long (R214)? -/
def pairSilent (d : Dev) : Prop := d.pair.st = 2 ∧ d.pair.probe = none ∧
  max (objGet d 0x140B 0) (stitchesIn d.pair.since) + objNow d 0x1406 0 < d.tbs.cnt
/-- Is a probe repeated in MIRROR_DOWN (R214)? -/
def probeAgain (d : Dev) : Prop := d.pair.st = 3 ∧ d.pair.probe = none ∧ d.pair.probedAt + 36 ≤ d.tbs.cnt

theorem heartbeatLimit_silent (h : pairSilent d) : heartbeatLimit d = sendProbe d :=
  if_pos (by simpa [pairSilent, and_assoc] using h)
theorem heartbeatLimit_not (h : ¬ pairSilent d) : heartbeatLimit d = d :=
  if_neg (by simpa [pairSilent, and_assoc] using h)
theorem probeRepeat_again (h : probeAgain d) : probeRepeat d = sendProbe d :=
  if_pos (by simpa [probeAgain, and_assoc] using h)
theorem probeRepeat_not (h : ¬ probeAgain d) : probeRepeat d = d :=
  if_neg (by simpa [probeAgain, and_assoc] using h)

theorem probeAnswer_unasked {k : Nat} (h : isProbing d = false) : probeAnswer k d = d := if_pos (by simp [h])

theorem probeAnswer_lost {k : Nat} (h : isProbing d = true) (hk : k = 1 ∨ k = 2) : probeAnswer k d = partnerLost d := by
  unfold probeAnswer
  rw [if_neg (by simp [h]), if_pos (by simpa using hk)]

/-- An answer of running or disabled leaves the pair in MIRROR_DOWN (R214). -/
theorem probeAnswer_down {k : Nat} (h : isProbing d = true) (h1 : k ≠ 1) (h2 : k ≠ 2) :
    let e := probeAnswer k d
    e.pair.st = 3 ∧ e.pair.probe = none ∧ e.pair.lost = d.pair.lost := by
  unfold probeAnswer
  dsimp only
  rw [if_neg (by simp [h]), if_neg (by simp [h1, h2])]
  split
  · next hst => exact ⟨hst, rfl, rfl⟩
  · rw [enterPair_pair]
    exact ⟨rfl, rfl, rfl⟩

theorem probeTimeout_none (h : d.pair.probe = none) : probeTimeout d = d := by
  unfold probeTimeout; rw [h]

theorem probeTimeout_eq {t : Nat} (h : d.pair.probe = some t) :
    probeTimeout d = if isProbing d = true ∧ t + 2000000 ≤ d.tbs.ns then partnerLost d else d := by
  unfold probeTimeout
  rw [h]
  simp only [Bool.and_eq_true, decide_eq_true_eq]

/-- The announcements that leave change nothing of the pair. -/
theorem addressAnnounce_pair : (addressAnnounce d).pair = { d.pair with
    announces := d.pair.announces.filter fun a => !decide (a.1 ≤ max d.tbs.cnt (stitchesIn d.tbs.ns)) } := by
  have hrest : ∀ (l : List (Nat × Nat × Nat)) (x : Dev), (forEach l (fun a d => announce a.2.1 a.2.2 d) x).pair = x.pair := by
    intro l
    induction l with
    | nil => exact fun _ => rfl
    | cons a l ih => exact fun x => (ih _).trans (announce_pair _ _ x)
  exact hrest _ _

end

end Sys2Proof.Machine
end

section
set_option autoImplicit false
open Sys2Proof.Machine

/-- Settles O57: what each row's operation leaves, carried through the request, the instant or the message. -/
theorem pairingCommands : Obligations.PairingCommands := by
  unfold Obligations.PairingCommands
  refine ⟨?enable, ?events⟩
  case enable =>
    intro s q v hsound hg
    have hy : Sound (atTime q.now s.dev) := sound_atTime q.now hsound
    obtain ⟨hvalue, hnow⟩ := objSetStitch_does hy.objs.1 0x1400 0 v
    refine answers_perform (f := objSetStitch 0x1400 0 v) (P := fun d => objGet d 0x1400 0 = v ∧ d.pair = s.dev.pair ∧
      objNow d 0x1400 0 = objNow s.dev 0x1400 0) rfl hg ⟨?_, ?_, ?_⟩
    · exact (objGet_congr (by simp only [accept_frame]) _ _).trans hvalue
    · simp only [accept_frame, objSetStitch_frame, atTime_frame]
    · refine Eq.trans ?_ (hnow.trans ?_)
      · simp only [objNow, objGet, accept_frame]
      · simp only [objNow, objGet, atTime_frame]
  case events =>
    intro s now hawake hsound
    have hy := sound_atTime now hsound
    generalize ht : atTime now s.dev = y at hy
    have hobjs : Rising y.objs := hy.objs.1
    intro y x refused begun probed lost late again silent repeats
    refine ⟨fun h => ?late, fun h => ?early, fun h => ?again, fun h => ?notYet, fun a b c n e p => ⟨fun h => ?unasked,
      fun hst hkeyed hbad => ?badShare, fun hst hkeyed hok => ?share⟩, fun m hbad => ?badHello, fun m hok => ?hello,
      fun m hbad => ?badHeartbeat, fun m hok => ?heartbeat, fun h => ?silent, fun h => ?heard, fun h => ?repeats, fun h => ?waits,
      fun k => ⟨fun h => ?noProbe, fun h hk => ?stopped, fun h h1 h2 => ?down⟩, fun t hprobe h hlate => ?silence,
      fun t hprobe h => ?patience, fun hnone => ?idle, ?announce⟩
    case late =>
      refine answers_timed handshakeTimeout rfl hawake ht ?_
      rw [handshakeTimeout_late h]
      exact refusePair_refused hobjs 4
    case early => exact answers_timed handshakeTimeout rfl hawake ht (handshakeTimeout_early h)
    case again =>
      refine answers_timed refusedRetry rfl hawake ht ?_
      rw [refusedRetry_due h]
      exact enterHandshake_begun hobjs
    case notYet => exact answers_timed refusedRetry rfl hawake ht (refusedRetry_not_due h)
    case unasked => exact answers_timed (pairShare a b c n e p) rfl hawake ht (pairShare_unasked h)
    case badShare => exact answers_timed (pairShare a b c n e p) rfl hawake ht (pairShare_refused hobjs hst hkeyed hbad)
    case share => exact answers_timed (pairShare a b c n e p) rfl hawake ht (pairShare_accepted hobjs hst hkeyed hok)
    case badHello => exact answers_counted rfl hawake ht hobjs hbad
    case badHeartbeat => exact answers_counted rfl hawake ht hobjs hbad
    case hello =>
      intro n
      refine ⟨fun hst h0 => ?_, fun hst h0 h12 => ?_, fun hst h0 h1 h2 h3 => ?_, fun hst h0 h1 h2 h3 => ?_, fun hst => ?_,
        fun h1 h4 => ?_⟩
      · exact answers_took rfl hawake ht hok (helloAccepted_otherNode (d := took m y) hobjs hst h0)
      · exact answers_took rfl hawake ht hok (helloAccepted_otherRelease (d := took m y) hobjs hst h0 h12)
      · exact answers_took rfl hawake ht hok (helloAccepted_otherProfile (d := took m y) hobjs hst h0 h1 h2 h3)
      · exact answers_took rfl hawake ht hok (helloAccepted_pairs (d := took m y) hst h0 h1 h2 h3)
      · exact answers_took rfl hawake ht hok ((helloAccepted_begins (d := took m y) hobjs hst).congr rfl rfl rfl rfl rfl)
      · exact answers_took rfl hawake ht hok (helloAccepted_ignored (d := took m y) h1 h4)
    case heartbeat =>
      intro told
      refine ⟨fun h => ?_, fun hst => ?_, fun h2 h3 h4 => ?_⟩
      · exact answers_took rfl hawake ht hok (heartbeatAccepted_pairs (d := took m y) hobjs h)
      · refine answers_took rfl hawake ht hok ?_
        obtain ⟨htold, hbegun⟩ := heartbeatAccepted_begins (m := m) (d := took m y) hobjs hst
        exact ⟨htold, hbegun.congr rfl rfl rfl rfl rfl⟩
      · exact answers_took rfl hawake ht hok (heartbeatAccepted_only (d := took m y) hobjs h2 h3 h4)
    case silent =>
      refine answers_timed heartbeatLimit rfl hawake ht ?_
      rw [heartbeatLimit_silent h]
      exact ⟨rfl, rfl, rfl⟩
    case heard => exact answers_timed heartbeatLimit rfl hawake ht (heartbeatLimit_not h)
    case repeats =>
      refine answers_timed probeRepeat rfl hawake ht ?_
      rw [probeRepeat_again h]
      exact ⟨rfl, rfl, rfl⟩
    case waits => exact answers_timed probeRepeat rfl hawake ht (probeRepeat_not h)
    case noProbe => exact answers_timed (probeAnswer k) rfl hawake ht (probeAnswer_unasked h)
    case stopped =>
      refine answers_timed (probeAnswer k) rfl hawake ht ?_
      rw [probeAnswer_lost h hk]
      exact partnerLost_pair y
    case down => exact answers_timed (probeAnswer k) rfl hawake ht (probeAnswer_down h h1 h2)
    case silence =>
      refine answers_timed probeTimeout rfl hawake ht ?_
      rw [probeTimeout_eq hprobe, if_pos ⟨h, hlate⟩]
      exact partnerLost_pair y
    case patience =>
      refine answers_timed probeTimeout rfl hawake ht ((probeTimeout_eq hprobe).trans (if_neg ?_))
      rintro ⟨hprobing, hlate⟩
      rcases h with h | h
      · simp [hprobing] at h
      · omega
    case idle => exact answers_timed probeTimeout rfl hawake ht (probeTimeout_none hnone)
    case announce => exact answers_timed addressAnnounce rfl hawake ht addressAnnounce_pair

end

section
/-! PROOFS. What a suspension and a drain leave of the dictionary and of a handover (R54, R100, R195, R220). -/
set_option autoImplicit false
namespace Sys2Proof.Machine

section
variable {d : Dev} {s i u : Nat}

/-! ## The dictionary -/

/-- An object that the end of a session's activity does not count in: not the depth, the bands discarded and the crossings of the
session, not the frames discarded of a port, not the events lost of a function. -/
structure Uncounted (i : Nat) : Prop where
  depth : i ≠ 0x5020
  discarded : i ≠ 0x5023
  crossed : i ≠ 0x5025
  unsent : i ≠ 0x50D2
  lost : i ≠ 0x5121

/-- An event changes of the objects below 0x5121 none. -/
theorem postEvent_below (h : Rising d.objs) (fn ty kind code subject detail : Nat) (hi : i < 0x5121) (hu : u < 256) :
    objGet (postEvent fn ty kind code subject detail d) i u = objGet d i u := by
  unfold postEvent
  dsimp only
  split
  · exact objGet_congr (by by_cases hz : (fnQ d fn).lostSince = 0 <;> simp [hz, setFnQ]) _ _
  · split
    · exact objGet_congr (by simp [setFnQ]) _ _
    · rw [objCount_get_ne _ (by simpa [setFnQ] using h) _ _ _ _ _ _ (objKey_ne_of_lt hi hu)]
      exact objGet_congr (by simp [setFnQ]) _ _

/-- The end of a splice is told by an event only. -/
theorem endSplice_obj (h : Rising d.objs) (hi : i ≠ 0x5121) (hu : u < 256) :
    objGet (endSplice s d) i u = objGet d i u := by
  unfold endSplice
  dsimp only
  split
  · split <;> rfl
  · exact postTenant_obj (d := setSess s _ d) h _ _ _ _ _ _ _ _ hi hu

/-- The depth of an intake and the crossings of its watermarks are counted (R104, R105). -/
theorem waterTest_obj (h : Rising d.objs) (hs : s < 256) (hi : Uncounted i) (hu : u < 256) :
    objGet (waterTest s d) i u = objGet d i u := by
  generalize hd1 : objMax 0x5020 s (intakeDepth d s) d = d1
  have hget : objGet d1 i u = objGet d i u := by
    subst hd1
    exact objGet_set_ne d h _ _ _ _ _ (objKey_ne hi.depth.symm hs hu)
  have hrising : Rising d1.objs := by subst hd1; exact objSet_rising d h _ _ _
  have hcrossing : ∀ held, objGet (crossing s held d1) i u = objGet d i u := fun held => by
    generalize hd2 : objCount 32 0x5025 s 1 (setSess s { sess d1 s with
      held := held, xcount := ((sess d1 s).xcount + 1) % 65536, highX := (sess d1 s).highX || held,
      lowX := (sess d1 s).lowX || !held } d1) = d2
    calc objGet (crossing s held d1) i u
        = objGet (postTenant s 1 3 0 s (b2n held + ((sess d1 s).xcount + 1) % 65536 * 2 ^ 16) d2) i u := by
          subst hd2
          exact objGet_congr (by unfold crossing; simp only [holdUpdate_frame, raise_frame]) _ _
      _ = objGet d2 i u := by
          subst hd2
          exact postTenant_obj (objCount_rising (setSess s _ d1) hrising _ _ _ _) _ _ _ _ _ _ _ _ hi.lost hu
      _ = objGet d1 i u := by
          subst hd2
          exact objCount_get_ne (setSess s _ d1) hrising _ _ _ _ _ _ (objKey_ne hi.crossed.symm hs hu)
      _ = objGet d i u := hget
  unfold waterTest
  dsimp only
  rw [hd1]
  split
  · exact hcrossing true
  · split
    · exact hcrossing false
    · exact hget

/-- The bands that a suspension discards are counted (R100). -/
theorem dropUndispatched_obj (h : Rising d.objs) (hs : s < 256) (hi : Uncounted i) (hu : u < 256) :
    objGet (dropUndispatched s d) i u = objGet d i u := by
  unfold dropUndispatched
  extract_lets x n whole keep m d1
  rw [waterTest_obj (objCount_rising (setStream (liveSid s) _ d1) h ..) hs hi hu,
    objCount_get_ne (setStream (liveSid s) _ d1) h _ _ _ _ _ _ (objKey_ne hi.discarded.symm hs hu)]
  rfl

/-- A suspension (R56, R100). -/
theorem suspend_obj (h : Sound d) (hs : s < 256) (cause : Nat) (hi : Uncounted i) (hu : u < 256) :
    objGet (suspend s cause d) i u = objGet d i u := by
  unfold suspend
  dsimp only
  split
  · rfl
  · split
    · exact sendSeq_obj s _ (d := setSess s _ d) h.objs.1 hi.unsent hu
    · split
      · generalize hd1 : dropUndispatched s (endSplice s d) = d1
        have hsplice : Sound (endSplice s d) := (endSplice_keeps (m := 4398046511103) rfl (.refl d)).sound h
        have hd1s : Sound d1 := by
          subst hd1
          exact (dropUndispatched_keeps (m := 4398046511103) rfl (.refl _)).sound hsplice
        have hget : objGet d1 i u = objGet d i u := by
          subst hd1
          rw [dropUndispatched_obj hsplice.objs.1 hs hi hu, endSplice_obj h.objs.1 hi.lost hu]
        generalize hd2 : setSess s { sess d1 s with st := .suspended, cause := cause, pend := 0 } d1 = d2
        have hd2s : Sound d2 := by subst hd2; exact (setSess_keeps (m := 134217728) rfl (.refl d1)).sound hd1s
        have hposted := (postState_keeps (m := 4398046511103) (s := s) (old := (sess d s).st) (operator := false) rfl (.refl d2)).sound hd2s
        calc objGet (tellState s (pulse 1 0x0013 2 s cause (postState s (sess d s).st false d2))) i u
            = objGet (pulse 1 0x0013 2 s cause (postState s (sess d s).st false d2)) i u :=
              sendSeq_obj s _ (by rw [pulse_objs]; exact hposted.objs.1) hi.unsent hu
          _ = objGet (postState s (sess d s).st false d2) i u := objGet_congr (pulse_objs ..) _ _
          _ = objGet d2 i u := postTenant_obj hd2s.objs.1 _ _ _ _ _ _ _ _ hi.lost hu
          _ = objGet d1 i u := by subst hd2; rfl
          _ = objGet d i u := hget
      · rfl

/-- A drain of a session that is not ARMED (R54). -/
theorem drainAct_obj (h : Sound d) (hst : (sess d s).st ≠ .armed) (hi : Uncounted i) (hu : u < 256) :
    objGet (drainAct s d) i u = objGet d i u := by
  have hsplice : Sound (endSplice s d) := (endSplice_keeps (m := 4398046511103) rfl (.refl d)).sound h
  unfold drainAct
  dsimp only
  rw [if_neg hst, objGet_congr (noteQuiet_objs _ _)]
  exact (sendSeq_obj s _ (d := setSess s _ (endSplice s d)) hsplice.objs.1 hi.unsent hu).trans (endSplice_obj h.objs.1 hi.lost hu)

/-- Freezes that are refused are told by events only (R235). -/
theorem refuseFreezes_obj (h : Sound d) (hi : i < 0x5121) (hu : u < 256) :
    objGet (refuseFreezes s d) i u = objGet d i u := by
  have hone : ∀ (z : Freeze) (e : Dev), Sound e →
      let e' := postTenant s 1 8 5 s z.e (libState (ownerOf e s) z.e {} e)
      Sound e' ∧ objGet e' i u = objGet e i u := fun z e he => by
    have hlib : Sound (libState (ownerOf e s) z.e {} e) := (libState_keeps (m := 4398046511103) rfl (.refl e)).sound he
    refine ⟨(postTenant_keeps (m := 4398046511103) rfl (.refl _)).sound hlib, ?_⟩
    rw [postTenant_obj hlib.objs.1 _ _ _ _ _ _ _ _ (by omega) hu]
    exact postEvent_below (d := setLib (ownerOf e s) z.e {} e) he.objs.1 _ _ _ _ _ _ hi hu
  have hall : ∀ (l : List Freeze) (e : Dev), Sound e →
      objGet (forEach l (fun z e => postTenant s 1 8 5 s z.e (libState (ownerOf e s) z.e {} e)) e) i u = objGet e i u := by
    intro l
    induction l with
    | nil => exact fun _ _ => rfl
    | cons z l ih => exact fun e he => (ih _ (hone z e he).1).trans (hone z e he).2
  exact hall _ _ ((setSess_keeps (m := 134217728) rfl (.refl d)).sound h)

/-- The destinations that are disabled leave the dictionary. -/
theorem disableDests_objs (old : Nat → Dev → Nat) (l : List Nat) (d : Dev) :
    (forEach l (fun e d => disableDest s e (old e d) d) d).objs = d.objs :=
  ((forEach_keeps (m := 278233350144) l (fun _ _ => disableDest_keeps (m := 278233350144) rfl) (.refl d)).only .objs rfl).symm

theorem intakeOff_objs (s : Nat) (d : Dev) : (intakeOff s d).objs = d.objs :=
  ((intakeOff_keeps (m := 34493956097) rfl (.refl d)).only .objs rfl).symm

/-- The reservations of a session that are released take its destination entries, and no object above them (R105). -/
theorem dropReservations_obj (h : Sound d) (hlow : 0x3180 ≤ i) (hi : i < 0x5121) (hu : u < 256) :
    objGet (dropReservations s d) i u = objGet d i u := by
  have hfreezes : Sound (refuseFreezes s d) := (refuseFreezes_keeps (m := 4398046511103) rfl (.refl d)).sound h
  have hobjs : (dropReservations s d).objs = (refuseFreezes s d).objs.filter fun e =>
      !(e.1 % 256 == s && decide (0x3100 ≤ e.1 / 256) && decide (e.1 / 256 < 0x3180)) := by
    unfold dropReservations
    extract_lets d1 d2 d3 k d4 x
    have h1 : d1.objs = (refuseFreezes s d).objs := disableDests_objs _ _ _
    clear_value d1
    have h2 : d2.objs = d1.objs := rfl
    clear_value d2
    have h3 : d3.objs = d2.objs := (releaseUse_objs ..).trans (intakeOff_objs s d2)
    clear_value d3
    rw [← h1, ← h2, ← h3]
    rfl
  have hkept : (!(objKey i u % 256 == s && decide (0x3100 ≤ objKey i u / 256) && decide (objKey i u / 256 < 0x3180))) = true := by
    have : objKey i u / 256 = i := by unfold objKey; omega
    simp [this, hlow]
  unfold objGet
  rw [hobjs, tabFind_filter (fun k => !(k % 256 == s && decide (0x3100 ≤ k / 256) && decide (k / 256 < 0x3180))) _ _ hfreezes.objs.1,
    if_pos hkept]
  exact refuseFreezes_obj h hi hu

/-- A session that returns to DEFINED leaves the counts of the device. -/
theorem toDefined_obj (h : Sound d) (hs : s < 256) (hi : Uncounted i) (hlow : 0x3180 ≤ i) (hhigh : i < 0x5121) (hu : u < 256) :
    objGet (toDefined s d) i u = objGet d i u := by
  have hsplice : Sound (endSplice s d) := (endSplice_keeps (m := 4398046511103) rfl (.refl d)).sound h
  have hclosed : Sound (closeLining s (endSplice s d)) := (closeLining_keeps (m := 4398046511103) rfl (.refl _)).sound hsplice
  have hsent : Sound (sendSeq s { ty := 8 } (endSplice s d)) := (sendSeq_keeps (m := 4398046511103) rfl (.refl _)).sound hsplice
  have hreset : objGet (closeLining s (endSplice s d)) i u = objGet (endSplice s d) i u := by
    unfold closeLining
    extract_lets e
    rw [objReset_get _ (rising_erase (h := hsent.objs.1)), if_neg (objKey_ne (by omega) hs hu),
      objReset_get (setSess s _ e) hsent.objs.1, if_neg (objKey_ne (by omega) hs hu)]
    exact sendSeq_obj s _ hsplice.objs.1 hi.unsent hu
  calc objGet (toDefined s d) i u
      = objGet (dropReservations s (closeLining s (endSplice s d))) i u := rfl
    _ = objGet (closeLining s (endSplice s d)) i u := dropReservations_obj hclosed hlow hhigh hu
    _ = objGet (endSplice s d) i u := hreset
    _ = objGet d i u := endSplice_obj h.objs.1 hi.lost hu

/-! ## The handover in progress -/

/-- Whether each session is being handed over stays. -/
def SameHanding (d e : Dev) : Prop := Rising d.sess → Rising e.sess ∧ ∀ u, (sess e u).handing = (sess d u).handing

theorem SameHanding.of {d e : Dev} (h : e.sess = d.sess) : SameHanding d e :=
  fun r => ⟨by rwa [h], fun u => by rw [sess_congr h]⟩

theorem SameHanding.trans {a b c : Dev} (hab : SameHanding a b) (hbc : SameHanding b c) : SameHanding a c := fun r => by
  obtain ⟨hb, hsame⟩ := hab r
  obtain ⟨hc, hsame'⟩ := hbc hb
  exact ⟨hc, fun u => (hsame' u).trans (hsame u)⟩

theorem SameHanding.set {k : Nat} {x : Session} (h : x.handing = (sess d k).handing) : SameHanding d (setSess k x d) :=
  fun r => ⟨rising_put r, fun u => by
    rw [sess_set d r]
    split
    · next hu => rw [hu, h]
    · rfl⟩

theorem SameHanding.each {α : Type} {f : α → Dev → Dev} (h : ∀ a d, SameHanding d (f a d)) :
    ∀ (l : List α) (d : Dev), SameHanding d (forEach l f d)
  | [], _ => .of rfl
  | a :: l, d => (h a d).trans (SameHanding.each h l (f a d))

theorem markSent_handing (k : Pkt) (d : Dev) : SameHanding d (markSent k d) := by
  have hcopy : ∀ f, SameHanding d (updCopy k.s k.seq k.e f d) := fun _ => .set rfl
  unfold markSent
  split
  · exact (hcopy _).trans (.set rfl)
  · split
    · exact hcopy _
    · exact .of rfl

theorem enterClass_handing (p c : Nat) (k : Pkt) (d : Dev) : SameHanding d (enterClass p c k d) := by
  unfold enterClass discardQueues
  dsimp only
  split
  · exact .of (by simp [setClassQueue, setPort])
  · refine SameHanding.trans (SameHanding.trans ?_ (.each markSent_handing _ _)) (.of rfl)
    exact .of (by simp [objCount, setClassQueue, setPort])

theorem sendMirror_handing (m : MirrorMsg) (d : Dev) : SameHanding d (sendMirror m d) := by
  have hcount : SameHanding d (setPair { d.pair with counter := d.pair.counter + 1 } d) := .of rfl
  unfold sendMirror
  split
  · exact .of rfl
  · dsimp only
    refine hcount.trans ?_
    split
    · unfold enterFirst
      dsimp only
      split
      · exact enterClass_handing _ _ _ _
      · exact (enterClass_handing _ _ _ _).trans (.of rfl)
    · exact enterClass_handing _ _ _ _

theorem sendSeq_handing (s : Nat) (m : MirrorMsg) (d : Dev) : SameHanding d (sendSeq s m d) := by
  unfold sendSeq
  split
  · exact .of rfl
  · refine SameHanding.trans ?_ (sendMirror_handing _ _)
    exact .set rfl

theorem postTenant_sess (s ty kind code subject detail : Nat) (d : Dev) :
    (postTenant s ty kind code subject detail d).sess = d.sess := by simp only [postTenant_frame]

theorem endSplice_handing (s : Nat) (d : Dev) : SameHanding d (endSplice s d) := by
  unfold endSplice
  dsimp only
  split
  · split
    · exact .set rfl
    · exact .of rfl
  · refine SameHanding.trans ?_ (.of (postTenant_sess ..))
    exact .set rfl

theorem waterTest_handing (s : Nat) (d : Dev) : SameHanding d (waterTest s d) := by
  have hmax : SameHanding d (objMax 0x5020 s (intakeDepth d s) d) := .of (by simp only [objMax_frame])
  have hcrossing : ∀ held (e : Dev), SameHanding e (crossing s held e) := fun held e => by
    refine SameHanding.trans (SameHanding.set (k := s) (x := { sess e s with
      held := held, xcount := ((sess e s).xcount + 1) % 65536, highX := (sess e s).highX || held,
      lowX := (sess e s).lowX || !held }) rfl) (.of ?_)
    unfold crossing
    simp only [holdUpdate_frame, raise_frame, postTenant_frame, objCount_frame]
  unfold waterTest
  dsimp only
  split
  · exact hmax.trans (hcrossing _ _)
  · split
    · exact hmax.trans (hcrossing _ _)
    · exact hmax

theorem dropUndispatched_handing (s : Nat) (d : Dev) : SameHanding d (dropUndispatched s d) := by
  unfold dropUndispatched
  exact SameHanding.trans (.of (by simp)) (waterTest_handing s _)

/-- A suspension. -/
theorem suspend_handing (s cause : Nat) (d : Dev) : SameHanding d (suspend s cause d) := by
  unfold suspend
  dsimp only
  split
  · exact .of rfl
  · split
    · refine SameHanding.trans ?_ (sendSeq_handing _ _ _)
      exact .set rfl
    · split
      · refine SameHanding.trans ?_ (sendSeq_handing _ _ _)
        have hposted : ∀ (old : SessSt) (e : Dev), (pulse 1 0x0013 2 s cause (postState s old false e)).sess = e.sess :=
          fun _ _ => by simp only [pulse_frame, postState_sess]
        refine SameHanding.trans ?_ (.of (hposted _ _))
        refine ((endSplice_handing s d).trans (dropUndispatched_handing s _)).trans ?_
        exact .set rfl
      · exact .of rfl

theorem noteQuiet_handing (s : Nat) (d : Dev) : SameHanding d (noteQuiet s d) := by
  unfold noteQuiet
  split
  · exact .set rfl
  · exact .of rfl

/-- A session whose reservations are released is not being handed over. -/
theorem dropReservations_handing (h : Sound d) : (sess (dropReservations s d) s).handing = false := by
  have hfreezes : Sound (refuseFreezes s d) := (refuseFreezes_keeps (m := 4398046511103) rfl (.refl d)).sound h
  unfold dropReservations
  extract_lets d1 d2 d3 k d4 x
  have h1 : Sound d1 :=
    (forEach_keeps (m := 4398046511103) _ (fun _ _ => disableDest_keeps (m := 4398046511103) rfl) (.refl _)).sound hfreezes
  clear_value d1
  have h2 : Sound d2 := (setStream_keeps (m := 4398046511103) rfl (setStream_keeps (m := 4398046511103) rfl (.refl d1))).sound h1
  clear_value d2
  have h3 : Sound d3 := (releaseUse_keeps (m := 4398046511103) rfl (intakeOff_keeps (m := 4398046511103) rfl (.refl d2))).sound h2
  clear_value d3
  have h4 : Rising d4.sess := h3.tabs.sess
  clear_value d4
  rw [sess_self d4 h4]

/-- A drain: what was not being handed over is not. -/
theorem drainAct_handing (h : Sound d) (hnot : (sess d s).handing = false) : (sess (drainAct s d) s).handing = false := by
  by_cases hst : (sess d s).st = .armed
  · have hclosed : Sound (closeLining s (endSplice s d)) :=
      (closeLining_keeps (m := 4398046511103) rfl (endSplice_keeps (m := 4398046511103) rfl (.refl d))).sound h
    have hdropped : Sound (dropReservations s (closeLining s (endSplice s d))) :=
      (dropReservations_keeps (m := 4398046511103) rfl (.refl _)).sound hclosed
    rw [drainAct_armed hst, toDefined, sess_self _ hdropped.tabs.sess]
    exact dropReservations_handing hclosed
  · have hdrain : SameHanding d (drainAct s d) := by
      unfold drainAct
      dsimp only
      rw [if_neg hst]
      refine SameHanding.trans ?_ ((sendSeq_handing _ _ _).trans (noteQuiet_handing _ _))
      refine (endSplice_handing s d).trans ?_
      exact .set rfl
    exact ((hdrain h.tabs.sess).2 s).trans hnot

end

end Sys2Proof.Machine
end

section
/-! PROOFS. The handover of a session: the offer, its answer, its limits (R220, R221, R223). -/
set_option autoImplicit false
namespace Sys2Proof.Machine

section
variable {d : Dev} {o : Offer}

/-! ## HANDOVER leaves (R220) -/

/-- A running session is suspended with its cause (R56). -/
theorem suspend_running (h : Rising d.sess) (hsafe : d.flt.safe = false) {s : Nat} (hst : (sess d s).st = .running) (cause : Nat) :
    (sess (suspend s cause d) s).st = .suspended ∧ (sess (suspend s cause d) s).cause = cause := by
  have hrising : Rising (dropUndispatched s (endSplice s d)).sess :=
    ((dropUndispatched_handing s _) (endSplice_handing s d h).1).1
  generalize hx : ({ sess (dropUndispatched s (endSplice s d)) s with st := .suspended, cause := cause, pend := 0 } : Session) = x
  have hact : suspend s cause d = tellState s (pulse 1 0x0013 2 s cause (postState s .running false
      (setSess s x (dropUndispatched s (endSplice s d))))) := by
    subst hx
    unfold suspend
    dsimp only
    rw [if_neg (by simp [hsafe]), if_neg (by simp [hst]), if_pos (by simp [hst]), hst]
  have hsame : SameCmd (setSess s x (dropUndispatched s (endSplice s d))) (suspend s cause d) := by
    rw [hact]
    exact SameCmd.trans (.of (by simp only [pulse_frame, postState_sess])) (sendSeq_cmd _ _ _)
  obtain ⟨hstate, -, hcause, -⟩ := (hsame (setSess_rising _ hrising s x)).2 s
  rw [hstate, hcause, sess_self _ hrising]
  subst hx
  exact ⟨rfl, rfl⟩

/-- The session's media is discarded behind the last message, and its addresses are given up (R218, R220). -/
def mediaLeft (s : Nat) (m : MirrorMsg) (d : Dev) : Dev := giveAddrs s (discardMedia s (sendSeq s m d))

/-- The link of a session is gone: its view is 1, without a lining (R220, R229). -/
def linkDropped (s : Nat) (d : Dev) : Dev := objSet 0x3090 s 1 (objReset 0x3091 s d)

/-- The offer is gone and the handover is counted; x is what stays of the session (R220). -/
def handoverCounted (s : Nat) (x : Session) (d : Dev) : Dev :=
  objCount 32 0x509A 0 1 (setSess s x (setPair { d.pair with offer := none } d))

/-- The block when HANDOVER is in its queue. -/
def handoverSent (o : Offer) (d : Dev) : Dev :=
  let next := nextAfterSent d o.s
  let ds := (enabledDests d o.s).map fun e => (e, twAfterSent d o.s e, (dest d o.s e).srtcp)
  let d2 := linkDropped o.s (mediaLeft o.s { ty := 13, nums := [next % 65536, next / 65536], dests := ds } d)
  let x := sess d2 o.s
  handoverCounted o.s { x with handing := false, tell := [], tx := { x.tx with silent := true, next := next } } d2

theorem finishHandover_escalated (h : o.req = none) : finishHandover o d = suspend o.s 5 (handoverSent o d) := by
  unfold finishHandover
  rw [h]
  rfl

theorem finishHandover_commanded {q : Req} (h : o.req = some q) :
    finishHandover o d = accept q 0x1445 0 (drainAct o.s (handoverSent o d)) := by
  unfold finishHandover
  rw [h]
  rfl

theorem discardMedia_cmd (s : Nat) (d : Dev) : SameCmd d (discardMedia s d) := by
  unfold discardMedia
  extract_lets keep p d1
  refine SameCmd.trans (b := d1) (.of rfl) ?_
  exact .set _ _ _ ⟨rfl, rfl, rfl, rfl, rfl, rfl, rfl, rfl, rfl⟩

theorem discardMedia_objs (s : Nat) (d : Dev) : (discardMedia s d).objs = d.objs :=
  ((discardMedia_keeps (m := 275012124672) rfl (.refl d)).only .objs rfl).symm
theorem giveAddrs_objs (s : Nat) (d : Dev) : (giveAddrs s d).objs = d.objs :=
  ((giveAddrs_keeps (m := 67108864) rfl (.refl d)).only .objs rfl).symm
theorem giveAddrs_sess (s : Nat) (d : Dev) : (giveAddrs s d).sess = d.sess :=
  ((giveAddrs_keeps (m := 67108864) rfl (.refl d)).only .sess rfl).symm

section
variable {s : Nat}

/-- Of the dictionary only the count of frames discarded has changed when the media is gone. -/
theorem mediaLeft_does (h : Sound d) (m : MirrorMsg) :
    let e := mediaLeft s m d
    Sound e ∧ (∀ i u, i ≠ 0x50D2 → u < 256 → objGet e i u = objGet d i u) ∧ (sess e s).st = (sess d s).st ∧
      e.flt = d.flt := by
  have hkeeps : ∀ {k}, covers 275079233541 k → Keeps k d (mediaLeft s m d) := fun {k} hk =>
    giveAddrs_keeps (covers_tr hk (by decide)) (discardMedia_keeps (covers_tr hk (by decide)) (sendSeq_keeps hk (.refl d)))
  refine ⟨(hkeeps (k := 4398046511103) rfl).sound h, fun i u hi hu => ?_, ?_, ((hkeeps (k := 275079233541) rfl).only .flt rfl).symm⟩
  · rw [mediaLeft, objGet_congr (giveAddrs_objs _ _), objGet_congr (discardMedia_objs _ _)]
    exact sendSeq_obj _ _ h.objs.1 hi hu
  · rw [mediaLeft, sess_congr (giveAddrs_sess _ _)]
    obtain ⟨hst, -⟩ := (((sendSeq_cmd s m d).trans (discardMedia_cmd s _)) h.tabs.sess).2 s
    exact hst

theorem linkDropped_does (h : Sound d) (hs : s < 256) :
    let e := linkDropped s d
    Sound e ∧ e.sess = d.sess ∧ e.flt = d.flt ∧ objGet e 0x3090 s = 1 ∧ objGet e 0x3091 s = objDefault 0x3091 s ∧
      ∀ i u, i ≠ 0x3090 → i ≠ 0x3091 → u < 256 → objGet e i u = objGet d i u := by
  have hkeeps : ∀ {k}, covers 4 k → Keeps k d (linkDropped s d) := fun hk => objSet_keeps hk (objReset_keeps hk (.refl d))
  have hreset : Rising (objReset 0x3091 s d).objs := rising_erase h.objs.1
  have hview : ∀ i u, i ≠ 0x3090 → u < 256 → objGet (linkDropped s d) i u = objGet (objReset 0x3091 s d) i u := fun i u hi hu =>
    objGet_set_ne _ hreset _ _ _ _ _ (objKey_ne hi.symm hs hu)
  refine ⟨(hkeeps (k := 4398046511103) rfl).sound h, ((hkeeps (k := 4) rfl).only .sess rfl).symm,
    ((hkeeps (k := 4) rfl).only .flt rfl).symm,
    objGet_set_self _ hreset _ _ _, ?_, fun i u h0 h1 hu => ?_⟩
  · rw [hview _ _ (by decide) hs, objReset_get _ h.objs.1, if_pos rfl]
  · rw [hview _ _ h0 hu, objReset_get _ h.objs.1, if_neg (objKey_ne h1.symm hs hu)]

theorem handoverCounted_does (h : Sound d) (hs : s < 256) (x : Session) :
    let e := handoverCounted s x d
    Sound e ∧ e.pair.offer = none ∧ sess e s = x ∧ e.flt = d.flt ∧ objGet e 0x509A 0 = (objGet d 0x509A 0 + 1) % 2 ^ 32 ∧
      ∀ i, i ≠ 0x509A → objGet e i s = objGet d i s := by
  generalize hd1 : setSess s x (setPair { d.pair with offer := none } d) = d1
  have h1 : Sound d1 := by
    subst hd1
    exact (setSess_keeps (m := 4398046511103) rfl
      (setPair_keeps (m := 4398046511103) (x := { d.pair with offer := none }) rfl (.inr rfl) (.refl d))).sound h
  have hobjs : d1.objs = d.objs := by subst hd1; rfl
  have hact : handoverCounted s x d = objCount 32 0x509A 0 1 d1 := by subst hd1; rfl
  dsimp only
  rw [hact]
  refine ⟨(objCount_keeps (m := 4398046511103) rfl (.refl d1)).sound h1, ?_, ?_, ?_, ?_, fun i hi => ?_⟩
  · subst hd1
    simp only [objCount_frame]
    rfl
  · rw [sess_congr (show (objCount 32 0x509A 0 1 d1).sess = d1.sess by simp only [objCount_frame])]
    subst hd1
    exact sess_self _ h.tabs.sess s x
  · subst hd1
    simp only [objCount_frame]
    rfl
  · rw [objCount_get d1 h1.objs.1, objGet_congr hobjs]
  · exact (objCount_get_ne d1 h1.objs.1 _ _ _ _ _ _ (objKey_ne hi.symm (by decide) hs)).trans (objGet_congr hobjs _ _)

end

/-- What the HANDOVER sent leaves. -/
theorem handoverSent_does {e : Dev} (he : handoverSent o d = e) (h : Sound d) (hs : o.s < 256) :
    Sound e ∧ e.pair.offer = none ∧ (sess e o.s).handing = false ∧ (sess e o.s).st = (sess d o.s).st ∧ e.flt = d.flt ∧
      objGet e 0x509A 0 = (objGet d 0x509A 0 + 1) % 2 ^ 32 ∧ objGet e 0x3090 o.s = 1 ∧
      objGet e 0x3091 o.s = objDefault 0x3091 o.s := by
  unfold handoverSent at he
  extract_lets next ds d2 x at he
  obtain ⟨h1, hobj1, hst1, hflt1⟩ := mediaLeft_does (s := o.s) h { ty := 13, nums := [next % 65536, next / 65536], dests := ds }
  obtain ⟨h2, hsess2, hflt2, hview, hlining, hobj2⟩ := linkDropped_does (s := o.s) h1 hs
  obtain ⟨h3, hoffer, hsess3, hflt3, hcount, hobj3⟩ := handoverCounted_does (s := o.s) h2 hs
    { x with handing := false, tell := [], tx := { x.tx with silent := true, next := next } }
  rw [he] at h3 hoffer hsess3 hflt3 hcount hobj3
  rw [hsess3, hcount, hobj3 _ (by decide), hobj3 _ (by decide), hobj2 _ _ (by decide) (by decide) (by decide),
    hobj1 _ _ (by decide) (by decide)]
  exact ⟨h3, hoffer, rfl, (congrArg Session.st (sess_congr hsess2 o.s)).trans hst1,
    (hflt3.trans hflt2).trans hflt1, rfl, hview, hlining⟩

theorem noteQuiet_pair (s : Nat) (d : Dev) : (noteQuiet s d).pair = d.pair :=
  ((noteQuiet_keeps (m := 134217728) rfl (.refl d)).only .pair rfl).symm

/-- A drain sends on the mirror stream only. -/
theorem drainAct_pair (s : Nat) (d : Dev) : SamePair d (drainAct s d) := by
  by_cases hst : (sess d s).st = .armed
  · rw [drainAct_armed hst]
    refine SamePair.trans ?_ (.of (dropReservations_pair s (closeLining s (endSplice s d))))
    exact SamePair.trans (.of (endSplice_pair s d)) ((sendSeq_pair s { ty := 8 } _).trans (.of rfl))
  · unfold drainAct
    dsimp only
    rw [if_neg hst]
    refine SamePair.trans ?_ (.of (noteQuiet_pair s _))
    refine SamePair.trans ?_ (sendSeq_pair s _ _)
    exact .of (endSplice_pair s d)

/-- What a handover that completes leaves of a block that was `y`: the offer and the link are gone, the handover is counted, and a
session that ran is SUSPENDED with cause 5 after an escalation, or DRAINING after a command, which is acknowledged (R220, R221). -/
def HandedOver (o : Offer) (y e : Dev) : Prop :=
  e.pair.offer = none ∧ (sess e o.s).handing = false ∧ objGet e 0x509A 0 = (objGet y 0x509A 0 + 1) % 2 ^ 32 ∧
    ((sess y o.s).st = .running → objGet e 0x3090 o.s = 1 ∧ objGet e 0x3091 o.s = objDefault 0x3091 o.s ∧
      (o.req = none → y.flt.safe = false → (sess e o.s).st = .suspended ∧ (sess e o.s).cause = 5) ∧
      ∀ q, o.req = some q → (sess e o.s).st = .draining ∧ Accepted q 0x1445 0 e)

theorem finishHandover_leaves (h : Sound d) (hs : o.s < 256) : HandedOver o d (finishHandover o d) := by
  generalize he : handoverSent o d = e
  obtain ⟨hsound, hoffer, hhanding, hst, hflt, hcount, hview, hlining⟩ := handoverSent_does he h hs
  have hcounted : Uncounted 0x509A := ⟨by decide, by decide, by decide, by decide, by decide⟩
  have hviewed : Uncounted 0x3090 := ⟨by decide, by decide, by decide, by decide, by decide⟩
  have hlinked : Uncounted 0x3091 := ⟨by decide, by decide, by decide, by decide, by decide⟩
  cases hreq : o.req with
  | none =>
    rw [finishHandover_escalated hreq, he]
    refine ⟨(suspend_pair o.s 5 e).2.2.2.2.2.2.trans hoffer, ?_, ?_, fun hrun => ⟨?_, ?_, fun _ hsafe => ?_, fun q hq => ?_⟩⟩
    · exact ((suspend_handing o.s 5 e hsound.tabs.sess).2 o.s).trans hhanding
    · exact (suspend_obj hsound hs 5 hcounted (by decide)).trans hcount
    · exact (suspend_obj hsound hs 5 hviewed hs).trans hview
    · exact (suspend_obj hsound hs 5 hlinked hs).trans hlining
    · exact suspend_running hsound.tabs.sess (by rw [hflt]; exact hsafe) (hst.trans hrun) 5
    · rw [hreq] at hq
      cases hq
  | some q =>
    rw [finishHandover_commanded hreq, he]
    have hsess : ∀ u, sess (accept q 0x1445 0 (drainAct o.s e)) u = sess (drainAct o.s e) u := fun u =>
      sess_congr (by simp only [accept_frame]) u
    have hobj : ∀ i u, objGet (accept q 0x1445 0 (drainAct o.s e)) i u = objGet (drainAct o.s e) i u := fun i u =>
      objGet_congr (by simp only [accept_frame]) i u
    have hnot : (sess d o.s).st = .running → (sess e o.s).st ≠ .armed := fun hrun => by rw [hst, hrun]; decide
    refine ⟨?_, ?_, ?_, fun hrun => ⟨?_, ?_, fun hnone => ?_, fun r hr => ⟨?_, ?_⟩⟩⟩
    · rw [show (accept q 0x1445 0 (drainAct o.s e)).pair = (drainAct o.s e).pair by simp only [accept_frame]]
      exact (drainAct_pair o.s e).2.2.2.2.2.2.trans hoffer
    · rw [hsess]
      exact drainAct_handing hsound hhanding
    · rw [hobj]
      by_cases harmed : (sess e o.s).st = .armed
      · rw [drainAct_armed harmed, toDefined_obj hsound hs hcounted (by decide) (by decide) (by decide)]
        exact hcount
      · exact (drainAct_obj hsound harmed hcounted (by decide)).trans hcount
    · rw [hobj, drainAct_obj hsound (hnot hrun) hviewed hs, hview]
    · rw [hobj, drainAct_obj hsound (hnot hrun) hlinked hs, hlining]
    · rw [hreq] at hnone
      cases hnone
    · rw [hsess]
      exact (drainAct_drains hsound.tabs.sess (hnot hrun)).1
    · rw [hreq] at hr
      cases hr
      exact accepted_accept ..

/-- Only the count, the session's state and the safe state of the block before count for what is left. -/
theorem HandedOver.congr {o' : Offer} {y e : Dev} (hs : o'.s = o.s) (hreq : o'.req = o.req)
    (hcount : objGet d 0x509A 0 = objGet y 0x509A 0) (hst : (sess d o.s).st = (sess y o.s).st) (hflt : d.flt = y.flt)
    (h : HandedOver o' d e) : HandedOver o y e := by
  unfold HandedOver at *
  rwa [hs, hreq, hcount, hst, hflt] at h

/-! ## The limit of an accepted offer -/

/-- Is the 8-stitch limit from the stitch n reached (R220)? -/
def handoverLimit (d : Dev) (n : Nat) : Prop := n + 8 ≤ max d.tbs.cnt (stitchesIn d.tbs.ns)

theorem handoverDue_none (h : d.pair.offer = none) : handoverDue false d = d := by
  unfold handoverDue; rw [h]

theorem handoverDue_unanswered (h : d.pair.offer = some o) (hacc : o.accepted = none) : handoverDue false d = d := by
  unfold handoverDue; rw [h]; dsimp only; rw [hacc]

theorem handoverDue_due (h : d.pair.offer = some o) {n : Nat} (hacc : o.accepted = some n)
    (hdue : handoverLimit d n ∨ sessionQueuesEmpty d o.s = true) : handoverDue false d = finishHandover o d := by
  unfold handoverDue
  rw [h]
  dsimp only
  rw [hacc]
  exact if_pos (by simpa [handoverLimit] using hdue)

theorem handoverDue_early (h : d.pair.offer = some o) {n : Nat} (hacc : o.accepted = some n) (hlimit : ¬ handoverLimit d n)
    (hqueued : sessionQueuesEmpty d o.s = false) : handoverDue false d = d := by
  unfold handoverDue
  rw [h]
  dsimp only
  rw [hacc]
  exact if_neg (by simpa [handoverLimit, hqueued] using hlimit)

/-! ## An offer that comes to nothing (R220, R221, R223) -/

/-- The offer is gone; a commanded one is refused with E_CAPACITY. -/
def OfferEnded (o : Offer) (y e : Dev) : Prop := e.pair.offer = none ∧ e.pair.st = y.pair.st ∧
  ∀ q, o.hit = none → o.req = some q → Sent (.response q.who (opOf q + 0x80) Err.capacity.code 0x1445 0 q.tag 0 0) e

theorem offerFails_ended (h : d.pair.offer = some o) : OfferEnded o d (offerFails d) := by
  obtain ⟨hst, -, -, hnone⟩ := offerFails_pair d
  refine ⟨hnone, hst, fun q hhit hreq => ?_⟩
  unfold offerFails
  rw [h]
  dsimp only
  rw [hhit, hreq]
  exact (refuse_capacity q 0x1445 0 _).2

theorem offerTimeout_none (h : d.pair.offer = none) : offerTimeout d = d := by
  unfold offerTimeout; rw [h]

theorem offerTimeout_eq (h : d.pair.offer = some o) :
    offerTimeout d = if o.accepted = none ∧ o.deadline ≤ d.tbs.ns then offerFails d else d := by
  unfold offerTimeout
  rw [h]
  simp only [Bool.and_eq_true, Option.isNone_iff_eq_none, decide_eq_true_eq]

/-! ## HANDOVER_ANSWER (R220) -/

section
variable {m : MirrorMsg}

theorem offerAnswered_none (h : d.pair.offer = none) : offerAnswered m d = d := by
  unfold offerAnswered; rw [h]

/-- The block once the offer is accepted: the media of the session stops, the 8 stitches count. -/
def offerAccepted (o : Offer) (d : Dev) : Dev :=
  setSess o.s { sess d o.s with handing := true }
    (setPair { d.pair with offer := some { o with accepted := some d.tbs.cnt } } d)

theorem offerAnswered_stray (h : d.pair.offer = some o) (hstray : o.s ≠ m.session ∨ o.accepted.isSome = true) :
    offerAnswered m d = d := by
  unfold offerAnswered
  rw [h]
  exact if_pos (by simpa using hstray)

theorem offerAnswered_asked (h : d.pair.offer = some o) (hs : o.s = m.session) (hacc : o.accepted = none) : offerAnswered m d =
    if m.nums.getD 0 0 ≠ 0 then offerFails d else handoverDue false (offerAccepted o d) := by
  unfold offerAnswered
  rw [h]
  dsimp only
  rw [if_neg (by simp [hs, hacc])]
  exact if_congr (by simp) rfl rfl

theorem offerAccepted_sess (h : Rising d.sess) : sess (offerAccepted o d) o.s = { sess d o.s with handing := true } :=
  sess_self _ h _ _

/-- Accepting an offer moves no packet. -/
theorem offerAccepted_queues (h : Rising d.sess) : sessionQueuesEmpty (offerAccepted o d) o.s = sessionQueuesEmpty d o.s := by
  unfold sessionQueuesEmpty
  rw [offerAccepted_sess h]
  rfl

/-- An offer accepted when the queues are empty, or past the limit, completes at once. -/
theorem offerAccepted_due (h : Sound d) (hs : o.s < 256)
    (hdue : handoverLimit d d.tbs.cnt ∨ sessionQueuesEmpty d o.s = true) :
    HandedOver o d (handoverDue false (offerAccepted o d)) := by
  have hsound : Sound (offerAccepted o d) :=
    (setSess_keeps (m := 4398046511103) rfl
      (setPair_keeps (m := 4398046511103) (x := { d.pair with offer := some { o with accepted := some d.tbs.cnt } }) rfl (.inr rfl)
        (.refl d))).sound h
  rw [handoverDue_due (d := offerAccepted o d) (o := { o with accepted := some d.tbs.cnt }) rfl rfl
    (hdue.imp_right (offerAccepted_queues h.tabs.sess).trans)]
  exact HandedOver.congr (d := offerAccepted o d) rfl rfl rfl (congrArg Session.st (offerAccepted_sess (o := o) h.tabs.sess) :) rfl
    (finishHandover_leaves hsound hs)

/-- Until then the session is stopped and waits. -/
theorem offerAccepted_early (h : Rising d.sess) (hlimit : ¬ handoverLimit d d.tbs.cnt)
    (hqueued : sessionQueuesEmpty d o.s = false) : handoverDue false (offerAccepted o d) = offerAccepted o d :=
  handoverDue_early (o := { o with accepted := some d.tbs.cnt }) rfl rfl hlimit ((offerAccepted_queues h).trans hqueued)

end

/-! ## HANDOVER_OFFER, HAND_OVER_SESSION (R216, R220, R221) -/

section
variable {m : MirrorMsg}

/-- The block with the effort of an offer that was received. -/
def offerKept (m : MirrorMsg) (d : Dev) : Dev := updLining m.lining (fun x => { x with effort := m.nums.getD 1 0 }) d

/-- Is the lining of an offer admitted as R216 asks? -/
def offerFits (m : MirrorMsg) (d : Dev) : Prop := d.pair.st = 2 ∧ linState d m.lining = 2 ∧
  ∃ e ∈ promoteEfforts (offerKept m d) m.lining, promoteErrs (offerKept m d) m.lining e = []

/-- The answer c to an offer. -/
def offerAnswer (m : MirrorMsg) (c : Nat) : MirrorMsg := { ty := 12, session := m.session, lining := m.lining, nums := [c] }

theorem offerReceived_fits (h : offerFits m d) : offerReceived m d = sendMirror (offerAnswer m 0) (offerKept m d) := by
  obtain ⟨hst, hlin, e, he, hfit⟩ := h
  have hok : ((offerKept m d).pair.st == 2 && linState (offerKept m d) m.lining == 2 &&
      (promoteEfforts (offerKept m d) m.lining).any fun e => (promoteErrs (offerKept m d) m.lining e).isEmpty) = true := by
    rw [Bool.and_eq_true, Bool.and_eq_true, beq_iff_eq, beq_iff_eq, List.any_eq_true]
    exact ⟨⟨hst, hlin⟩, e, he, by rw [hfit]; rfl⟩
  exact congrArg (fun c => sendMirror (offerAnswer m c) (offerKept m d)) (if_pos hok)

theorem offerReceived_not (h : ¬ offerFits m d) :
    offerReceived m d = sendMirror (offerAnswer m Err.capacity.code) (offerKept m d) := by
  refine congrArg (fun c => sendMirror (offerAnswer m c) (offerKept m d)) (if_neg fun hok => h ?_)
  rw [Bool.and_eq_true, Bool.and_eq_true, beq_iff_eq, beq_iff_eq, List.any_eq_true] at hok
  obtain ⟨⟨hst, hlin⟩, e, he, hfit⟩ := hok
  exact ⟨hst, hlin, e, he, List.isEmpty_iff.1 hfit⟩

/-- The host keeps the effort of the offer in its lining, and answers (R220). -/
theorem offerAnswer_told (h : Sound d) (hkeyed : d.pair.keyed = true) (c : Nat) :
    let e := sendMirror (offerAnswer m c) (offerKept m d)
    (lining e m.lining).effort = m.nums.getD 1 0 ∧ (∀ k, k ≠ m.lining → lining e k = lining d k) ∧
      (linkUp d (mirrorPort d) = true → Mirrored (offerAnswer m c) e) := by
  have hlining : ∀ k, lining (sendMirror (offerAnswer m c) (offerKept m d)) k = lining (offerKept m d) k := fun k =>
    lining_congr (sendMirror_linings ..) k
  have hsound : Sound (offerKept m d) := (updLining_keeps (m := 4398046511103) rfl (.refl d)).sound h
  refine ⟨?_, fun k hk => ?_, fun hlink => sendMirror_queued _ _ hsound hkeyed hlink (fun h : 12 = 1 => absurd h (by decide))⟩
  · rw [hlining, offerKept, updLining_get d h.tabs.linings]
  · rw [hlining]
    exact (lining_set d h.tabs.linings ..).trans (if_neg hk)

end

/-- An offer stands for 2 ms; its message leaves (R220). -/
theorem offerHandover_stands (h : Sound d) :
    let e := offerHandover o d
    e.pair.offer = some { o with deadline := d.tbs.ns + 2000000 } ∧ (∀ u, (sess e u).st = (sess d u).st) ∧ e.emitted = d.emitted ∧
      (d.pair.keyed = true → linkUp d (mirrorPort d) = true →
        Mirrored { ty := 11, session := o.s, lining := objGet d 0x3091 o.s, nums := [o.s, effortPending d o.s] } e) := by
  generalize hm : ({ ty := 11, session := o.s, lining := objGet d 0x3091 o.s, nums := [o.s, effortPending d o.s] } : MirrorMsg) = m
  generalize hd1 : setPair { d.pair with offer := some { o with deadline := d.tbs.ns + 2000000 } } d = d1
  have hsound : Sound d1 := by
    subst hd1
    exact (setPair_keeps (m := 4398046511103) (x := { d.pair with offer := some { o with deadline := d.tbs.ns + 2000000 } })
      rfl (.inr rfl) (.refl d)).sound h
  have hact : offerHandover o d = sendMirror m d1 := by subst hd1 hm; rfl
  dsimp only
  rw [hact]
  refine ⟨(sendMirror_pair m d1).2.2.2.2.2.2.trans ?_, fun u => ?_, ?_, fun hkeyed hlink => ?_⟩
  · subst hd1; rfl
  · obtain ⟨hst, -⟩ := (sendMirror_cmd m d1 hsound.tabs.sess).2 u
    exact hst.trans (by subst hd1; rfl)
  · rw [sendMirror_emitted]
    subst hd1; rfl
  · exact sendMirror_queued m d1 hsound (by subst hd1; exact hkeyed) (by subst hd1; exact hlink)
      (by subst hm; exact fun h : 11 = 1 => absurd h (by decide))

end
end Sys2Proof.Machine
end

section
set_option autoImplicit false
open Sys2Proof.Machine

/-- Settles O60: each event of a handover acts on the block as the lemma of its operation says. -/
theorem handoverCommands : Obligations.HandoverCommands := by
  unfold Obligations.HandoverCommands
  refine ⟨?events, ?command⟩
  case command =>
    intro s q v hsound hg y
    have hy : Sound y := sound_atTime q.now hsound
    obtain ⟨hoffer, hst, hemitted, hsent⟩ := offerHandover_stands (o := { s := v, req := some q }) hy
    exact answers_decided rfl hg ⟨hoffer, hst v, hemitted, hsent⟩
  case events =>
    intro s now hawake hsound
    have hy := sound_atTime now hsound
    generalize ht : atTime now s.dev = y at hy
    intro y' took' ended left limit
    have htook : ∀ m, Sound (took m y) := fun m => sound_took hy m.counter
    refine ⟨fun m hbad => ?badOffer, fun m hok => ?offer, fun m hbad => ?badAnswer, fun m hok => ⟨fun hnone => ?unoffered, fun o ho =>
      ⟨fun hstray => ?stray, fun hs hacc hno => ?refused, fun hs hacc hyes hlimit hqueued => ?accepted,
        fun hslot hs hacc hyes hdue => ?done⟩⟩, fun hnone => ⟨?noLimit, ?noTimeout⟩,
      fun o ho => ⟨fun hacc => ?unanswered, fun n hacc hlimit hqueued => ?early, fun n hslot hacc hdue => ?due,
        fun hacc hlate => ?late, fun hpatient => ?patient⟩⟩
    case badOffer => exact answers_timed _ rfl hawake ht (receive_bad hbad)
    case badAnswer => exact answers_timed _ rfl hawake ht (receive_bad hbad)
    case offer =>
      have hkeyed := mirrorOk_keyed hok
      intro l z fits told
      refine ⟨fun hfits => ?_, fun hnot => ?_⟩
      · refine answers_took rfl hawake ht hok ?_
        rw [offerReceived_fits (d := took m y) hfits]
        exact offerAnswer_told (htook m) hkeyed 0
      · refine answers_took rfl hawake ht hok ?_
        rw [offerReceived_not (d := took m y) hnot]
        exact offerAnswer_told (htook m) hkeyed Sys2Proof.Err.capacity.code
    case unoffered => exact answers_took rfl hawake ht hok (offerAnswered_none (d := took m y) hnone)
    case stray => exact answers_took rfl hawake ht hok (offerAnswered_stray (d := took m y) ho hstray)
    case refused =>
      refine answers_took rfl hawake ht hok ?_
      rw [offerAnswered_asked (d := took m y) ho hs hacc, if_pos hno]
      exact offerFails_ended (d := took m y) ho
    case accepted =>
      refine answers_took rfl hawake ht hok ?_
      have hsess := offerAccepted_sess (o := o) (d := took m y) hy.tabs.sess
      rw [offerAnswered_asked (d := took m y) ho hs hacc, if_neg (not_not.2 hyes),
        offerAccepted_early (d := took m y) hy.tabs.sess hlimit hqueued, hsess]
      exact ⟨rfl, rfl, rfl⟩
    case done =>
      refine answers_took rfl hawake ht hok ?_
      rw [offerAnswered_asked (d := took m y) ho hs hacc, if_neg (not_not.2 hyes)]
      exact (offerAccepted_due (htook m) (of_decide_eq_true hslot) hdue).congr rfl rfl rfl rfl rfl
    case noLimit => exact answers_timed _ rfl hawake ht (handoverDue_none hnone)
    case noTimeout => exact answers_timed _ rfl hawake ht (offerTimeout_none hnone)
    case unanswered => exact answers_timed _ rfl hawake ht (handoverDue_unanswered ho hacc)
    case early => exact answers_timed _ rfl hawake ht (handoverDue_early ho hacc hlimit hqueued)
    case due =>
      refine answers_timed (handoverDue false) rfl hawake ht ?_
      rw [handoverDue_due ho hacc hdue]
      exact finishHandover_leaves hy (of_decide_eq_true hslot)
    case late =>
      refine answers_timed offerTimeout rfl hawake ht ?_
      rw [offerTimeout_eq ho, if_pos ⟨hacc, hlate⟩]
      exact offerFails_ended ho
    case patient =>
      refine answers_timed offerTimeout rfl hawake ht ((offerTimeout_eq ho).trans (if_neg ?_))
      rintro ⟨hacc, hlate⟩
      rcases hpatient with h | h
      · simp [hacc] at h
      · omega

end

section
/-! PROOFS. The messages of the mirror stream in their order, and the store (R194 to R198, R204, R215). -/
set_option autoImplicit false
namespace Sys2Proof.Machine

/-! ## Messages whose turn it is not (R196) -/

section
variable {y : Dev} {m : MirrorMsg}

/-- A message already applied, or for a lining that takes none, has no effect. -/
theorem sequenced_spent (h : linOpen y m.lining = false ∨ m.mseq ≤ objGet y 0x4005 m.lining) : sequenced m y = y := by
  unfold sequenced
  dsimp only
  refine if_neg ?_
  rcases h with h | h
  · simp [h]
  · simp [Nat.not_lt.2 h]

/-- One ahead of its turn waits with those before it. -/
theorem sequenced_waits (h : Rising y.linings) (hopen : linOpen y m.lining = true) (hahead : objGet y 0x4005 m.lining + 1 < m.mseq)
    (hgap : ∀ e ∈ (lining y m.lining).waiting.head?, e.1 ≠ objGet y 0x4005 m.lining + 1) :
    (lining (sequenced m y) m.lining).waiting = tabSet (lining y m.lining).waiting m.mseq m ∧
      ∀ k, k ≠ m.lining → lining (sequenced m y) k = lining y k := by
  generalize hd : updLining m.lining (withWaiting m y.tbs.ns) y = d
  have hself : lining d m.lining = withWaiting m y.tbs.ns (lining y m.lining) := by subst hd; exact updLining_get y h _ _
  have hact : sequenced m y = d := by
    have hdrain : sequenced m y = drainWaiting m.lining d := by
      subst hd
      exact if_pos (by simp [hopen]; omega)
    rw [hdrain]
    refine applyWaiting_waits _ _ _ ?_
    rw [hself, show objGet d 0x4005 m.lining = objGet y 0x4005 m.lining by subst hd; rfl]
    exact head_stays _ _ _ _ hgap (by omega)
  rw [hact]
  refine ⟨by rw [hself]; rfl, fun k hk => ?_⟩
  subst hd
  exact (lining_set y h ..).trans (if_neg hk)

section
variable {c : Instr} {s : State} {k now : Nat} {f : Dev → Dev}
  (hexec : exec c s = act (fun d => f (receive k m (sequenced m) (atTime now d))) s) (hawake : isHeld s.dev = false)
  (ht : atTime now s.dev = y)
include hexec hawake ht

/-- What each sequenced message does when it is not accepted, or not in its turn. -/
theorem answers_outOfTurn (hy : Sound y) (hf : ∀ d, (f d).linings = d.linings) :
    (mirrorOk y k m = false → Answers c s (fun d => d = f (objCount 32 0x5098 0 1 y))) ∧
      (mirrorOk y k m = true → linOpen y m.lining = false ∨ m.mseq ≤ objGet y 0x4005 m.lining →
        Answers c s (fun d => d = f (took m y))) ∧
      (mirrorOk y k m = true → linOpen y m.lining = true → objGet y 0x4005 m.lining + 1 < m.mseq →
        (∀ e ∈ (lining y m.lining).waiting.head?, e.1 ≠ objGet y 0x4005 m.lining + 1) → Answers c s (fun d =>
          (lining d m.lining).waiting = tabSet (lining y m.lining).waiting m.mseq m ∧
            ∀ k, k ≠ m.lining → lining d k = lining y k)) := by
  refine ⟨fun hbad => ?_, fun hok hspent => ?_, fun hok hopen hahead hgap => ?_⟩
  · refine answers_act hexec hawake ?_
    rw [ht, receive_bad hbad]
  · refine answers_act hexec hawake ?_
    rw [ht, receive_ok hok]
    exact congrArg f (sequenced_spent (y := took m y) hspent)
  · refine answers_act hexec hawake ?_
    obtain ⟨hwaits, hothers⟩ := sequenced_waits (y := took m y) hy.tabs.linings hopen hahead hgap
    rw [ht, receive_ok hok, lining_congr (hf _)]
    exact ⟨hwaits, fun k hk => (lining_congr (hf _) k).trans (hothers k hk)⟩

end

/-! ## Messages in their turn (R196) -/

/-- It is the turn of a message that is accepted: it is the next one of its lining, before all that wait. -/
def mirrorTurn (y : Dev) (k : Nat) (m : MirrorMsg) : Prop :=
  mirrorOk y k m = true ∧ linOpen y m.lining = true ∧ m.mseq = objGet y 0x4005 m.lining + 1 ∧
    ∀ e ∈ (lining y m.lining).waiting.head?, m.mseq < e.1

/-- What a message of type k does when it is applied. -/
def mirrorAct (k l : Nat) (m : MirrorMsg) : Dev → Dev :=
  if k = 5 then applyOpen l m else if k = 6 then applyBand l m else if k = 7 then applyChange l m
  else if k = 8 then freeLining l else applyHandover l m

theorem applyMsg_eq (l : Nat) (m : MirrorMsg) (d : Dev) : applyMsg l m d = mirrorAct m.ty l m (objSet 0x4005 l m.mseq d) := by
  unfold applyMsg mirrorAct
  split
  · rfl
  · split
    · rfl
    · split
      · rfl
      · split <;> rfl

/-- The block that a message in its turn acts on: its number is taken, and the lining is as it was. -/
structure Readied (m : MirrorMsg) (y d : Dev) : Prop where
  sound : Sound d
  slot : m.lining < 256
  counted : objGet d 0x4005 m.lining = m.mseq
  lining : lining d m.lining = { Machine.lining y m.lining with arrived := (Machine.lining d m.lining).arrived }
  streams : d.streams = y.streams
  tbs : d.tbs = y.tbs
  params : d.linPrm = y.linPrm

/-- The message was applied, and those that wait still do. -/
def Applied (m : MirrorMsg) (y z : Dev) : Prop :=
  objGet z 0x4005 m.lining = m.mseq ∧ (lining z m.lining).waiting = (lining y m.lining).waiting

theorem drainWaiting_of_waiting {l : Nat} {z : Dev} (h : (lining z l).waiting = (lining y l).waiting) :
    applyWaiting l (lining y l).waiting.length z = drainWaiting l z := by
  unfold drainWaiting
  rw [h]

theorem applyWaiting_none {l : Nat} {z : Dev} (h : (lining z l).waiting = []) (n : Nat) : applyWaiting l n z = z :=
  applyWaiting_waits l n z (by rw [h]; exact fun _ he => absurd he (by simp))

theorem mirrorOk_ty {k : Nat} (h : mirrorOk y k m = true) : m.ty = k := by
  unfold mirrorOk at h
  simp only [Bool.and_eq_true, beq_iff_eq] at h
  exact h.1.1.1.2

section
variable {c : Instr} {s : State} {k now : Nat} {f : Dev → Dev}
  (hexec : exec c s = act (fun d => f (receive k m (sequenced m) (atTime now d))) s) (hawake : isHeld s.dev = false)
  (ht : atTime now s.dev = y)
include hexec hawake ht

/-- A message in its turn acts, and then what waits after it. -/
theorem answers_turn {P : Dev → Prop} (hy : Sound y) (hturn : mirrorTurn y k m)
    (hp : ∀ d, Readied m y d → P (f (applyWaiting m.lining (lining y m.lining).waiting.length (mirrorAct k m.lining m d)))) :
    Answers c s P := by
  obtain ⟨hok, hopen, hseq, hfirst⟩ := hturn
  obtain ⟨e, hsound, hobjs, hstreams, htbs, hparams, hslot, hlining, hact⟩ := receive_turn k m y hy hok hopen hseq hfirst
  refine answers_act hexec hawake ?_
  rw [ht, hact, applyMsg_eq, mirrorOk_ty hok]
  refine hp _ ⟨(objSet_keeps (m := 4398046511103) rfl (.refl e)).sound hsound, hslot,
    objGet_set_self e hsound.objs.1 _ _ _, ?_, ?_, ?_, ?_⟩
  · rw [lining_congr (show (objSet 0x4005 m.lining m.mseq e).linings = e.linings by simp only [objSet_frame])]
    exact hlining
  · simpa only [objSet_frame] using hstreams
  · simpa only [objSet_frame] using htbs
  · simpa only [objSet_frame] using hparams

end

section
variable {d : Dev} (h : Readied m y d)
include h

theorem Readied.waiting : (Machine.lining d m.lining).waiting = (Machine.lining y m.lining).waiting := by rw [h.lining]

/-- SESSION_OPEN (R195, R202). -/
theorem applyOpen_applied : ∃ z, applyOpen m.lining m d = z ∧ Applied m y z ∧
    (lining z m.lining).opened = true ∧ (lining z m.lining).dests = m.dests ∧ (lining z m.lining).keys = m.keys := by
  obtain ⟨hopened, hdests, hkeys, hwaiting, hcounted⟩ := applyOpen_does m.lining m d h.sound h.slot
  exact ⟨_, rfl, ⟨hcounted.trans h.counted, hwaiting.trans h.waiting⟩, hopened, hdests, hkeys⟩

/-- SESSION_STATE (R195, R200). -/
theorem applyChange_applied : ∃ z, applyChange m.lining m d = z ∧ Applied m y z ∧
    (lining z m.lining).dests = mergeDests m.dests (lining y m.lining).dests ∧
    (lining z m.lining).keys = mergeDests m.keys (lining y m.lining).keys ∧
    (lining z m.lining).state = m.nums.getD 0 (lining y m.lining).state := by
  obtain ⟨hdests, hkeys, hstate, hwaiting, hcounted⟩ := applyChange_does m.lining m d h.sound h.slot
  refine ⟨_, rfl, ⟨hcounted.trans h.counted, hwaiting.trans h.waiting⟩, ?_, ?_, ?_⟩
  · rw [hdests, h.lining]
  · rw [hkeys, h.lining]
  · rw [hstate, h.lining]

/-- SESSION_CLOSE: nothing waits any more (R201). -/
theorem freeLining_applied (n : Nat) :
    let z := applyWaiting m.lining n (freeLining m.lining d)
    lining z m.lining = {} ∧ linState z m.lining = objDefault 0x4000 m.lining ∧ stream z (liningSid m.lining) = {} := by
  obtain ⟨hfree, hstate, hstream⟩ := freeLining_does m.lining d h.sound h.slot
  dsimp only
  rw [applyWaiting_none (by rw [hfree])]
  exact ⟨hfree, hstate, hstream⟩

end

/-! ## HANDOVER (R216, R220) -/

/-- The lining of a HANDOVER with its transport state exact. -/
def exactLining (l : Nat) (m : MirrorMsg) (d : Dev) : Dev :=
  updLining l (fun x => { x with
    next := m.nums.getD 1 0 * 65536 + m.nums.getD 0 0, dests := mergeDests m.dests x.dests, exact := true }) d

/-- Blocks that are allocated are no lining's. -/
theorem allocAll_linings (t : Nat) (l : List (Nat × Use)) (d : Dev) : ((allocAll t l d).getD d).linings = d.linings := by
  have hkeeps := allocAll_keeps (m := 1073741824) (owner := t) (l := l) (d := d) rfl (.refl d)
  cases halloc : allocAll t l d with
  | none => rfl
  | some x => exact ((hkeeps.1 x halloc).only .linings rfl).symm

/-- A lining that is admitted hands over its charges only. -/
theorem promoteAdmit_lining {d : Dev} (h : Rising d.linings) (l e a : Nat) :
    lining (promoteAdmit l e a d) l = { lining d l with charges := {} } := by
  unfold promoteAdmit
  extract_lets s p t c d1 w d2 x z d3 d4 q
  have h1 : d1.linings = d.linings := allocAll_linings _ _ _
  clear_value d1
  have h2 : d2.linings = d.linings := h1
  clear_value d2
  exact ((lining_set d2 (by rw [h2]; exact h) l l _).trans (if_pos rfl)).trans
    (congrArg (fun x : Lining => { x with charges := {} }) (lining_congr h2 l))

/-- What waits for a lining stays when it is promoted, and goes when it is not admitted. -/
theorem promotionPass_waiting {d : Dev} (h : Sound d) {l : Nat} (hl : l < 256) :
    (lining (promotionPass [l] d) l).waiting = (lining d l).waiting ∨ (lining (promotionPass [l] d) l).waiting = [] := by
  rw [show promotionPass [l] d = promoteOne l (d.tbs.ns + 200000) d from rfl]
  unfold promoteOne
  split
  · left
    rw [promoteAdmit_lining h.tabs.linings]
  · right
    unfold promoteRefused
    rw [(freeLining_does l _ ((pulse_keeps (m := 4398046511103) rfl (.refl d)).sound h) hl).1]

section
variable {d : Dev} (h : Readied m y d)
include h

/-- HANDOVER makes the transport state exact and promotes the lining, or leaves it IDLE. -/
theorem applyHandover_applied : ∃ w z, applyWaiting m.lining (lining y m.lining).waiting.length (applyHandover m.lining m d) =
      drainWaiting m.lining z ∧ z = promotionPass [m.lining] w ∧ Applied m y w ∧ (lining w m.lining).exact = true ∧
    (lining w m.lining).next = m.nums.getD 1 0 * 65536 + m.nums.getD 0 0 ∧
    (lining w m.lining).dests = mergeDests m.dests (lining y m.lining).dests ∧
    ((m.lining, y.tbs.ns + 200000) ∈ z.pair.promoting ∨ linState z m.lining = objDefault 0x4000 m.lining) := by
  generalize hw : exactLining m.lining m d = w
  have hsound : Sound w := by subst hw; exact (updLining_keeps (m := 4398046511103) rfl (.refl d)).sound h.sound
  have hlining : lining w m.lining = { lining d m.lining with
      next := m.nums.getD 1 0 * 65536 + m.nums.getD 0 0, dests := mergeDests m.dests (lining d m.lining).dests, exact := true } := by
    subst hw
    exact updLining_get d h.sound.tabs.linings _ _
  have hwaiting : (lining w m.lining).waiting = (lining y m.lining).waiting := by rw [hlining]; exact h.waiting
  refine ⟨w, promotionPass [m.lining] w, ?_, rfl, ⟨?_, hwaiting⟩, by rw [hlining], by rw [hlining], ?_, ?_⟩
  · rw [show applyHandover m.lining m d = promotionPass [m.lining] w by subst hw; rfl]
    rcases promotionPass_waiting hsound h.slot with hstay | hgone
    · exact drainWaiting_of_waiting (hstay.trans hwaiting)
    · rw [drainWaiting, applyWaiting_none hgone, applyWaiting_none hgone]
  · subst hw
    exact h.counted
  · rw [hlining, h.lining]
  · have htbs : w.tbs = y.tbs := by subst hw; exact h.tbs
    rw [← htbs]
    exact promote_one m.lining w hsound h.slot

end

end

end Sys2Proof.Machine
end

section
/-! PROOFS. BAND: the bands before it are lost, and it waits to be decoded (R196, R197, R202). -/
set_option autoImplicit false
namespace Sys2Proof.Machine

/-! ## The frame that a band belongs to -/

/-- Among these frames the one with the count c has a band b that is not collected. -/
def Awaited (c b : Nat) (fs : List Frame) : Prop :=
  ∃ f, (fs.find? fun f => f.count == some c) = some f ∧ b < f.bands.length ∧ (f.band b).collected = false

theorem Frame.band_setBand_self {f : Frame} {b : Nat} (hb : b < f.bands.length) (x : Band) : (f.setBand b x).band b = x := by
  simp [Frame.band, Frame.setBand, List.getD_eq_getElem?_getD, hb]

theorem Frame.band_setBand_ne {f : Frame} {b i : Nat} (h : i ≠ b) (x : Band) : (f.setBand i x).band b = f.band b := by
  simp [Frame.band, Frame.setBand, List.getD_eq_getElem?_getD, List.getElem?_set_ne h]

/-- The frame with the count c once those with the count k have changed. -/
theorem find_changed (fs : List Frame) (c k : Nat) {g : Frame → Frame} (hg : ∀ f, (g f).count = f.count) :
    ((fs.map fun f => if f.count == some k then g f else f).find? fun f => f.count == some c) =
      (fs.find? fun f => f.count == some c).map fun f => if k = c then g f else f := by
  have hcount : ((fun f : Frame => f.count == some c) ∘ fun f => if f.count == some k then g f else f) =
      fun f => f.count == some c := by
    funext f
    simp only [Function.comp]
    split
    · rw [hg]
    · rfl
  rw [List.find?_map, hcount]
  cases hf : fs.find? fun f => f.count == some c with
  | none => rfl
  | some f =>
    have hfc : f.count = some c := by simpa using List.find?_some hf
    by_cases hk : k = c
    · simp [hfc, hk]
    · simp [hfc, hk, Ne.symm hk]

theorem Awaited.change {c b k : Nat} {fs : List Frame} {g : Frame → Frame} (h : Awaited c b fs) (hg : ∀ f, (g f).count = f.count)
    (hband : ∀ f, k = c → b < f.bands.length → (f.band b).collected = false →
      b < (g f).bands.length ∧ ((g f).band b).collected = false) :
    Awaited c b (fs.map fun f => if f.count == some k then g f else f) := by
  obtain ⟨f, hf, hb, hopen⟩ := h
  refine ⟨if k = c then g f else f, by rw [find_changed fs c k hg, hf]; rfl, ?_⟩
  split
  · next hk => exact hband f hk hb hopen
  · exact ⟨hb, hopen⟩

/-- Frames that leave because every band of them is collected leave this one. -/
theorem Awaited.filter {c b : Nat} {fs : List Frame} {p : Frame → Bool} (h : Awaited c b fs)
    (hp : ∀ f, b < f.bands.length → (f.band b).collected = false → p f = true) : Awaited c b (fs.filter p) := by
  obtain ⟨f, hf, hb, hopen⟩ := h
  obtain ⟨hfc, before, after, rfl, hbefore⟩ := List.find?_eq_some_iff_append.1 hf
  refine ⟨f, List.find?_eq_some_iff_append.2 ⟨hfc, before.filter p, after.filter p, ?_, fun a ha => ?_⟩, hb, hopen⟩
  · rw [List.filter_append, List.filter_cons_of_pos (hp f hb hopen)]
  · exact hbefore a (List.mem_of_mem_filter ha)

theorem not_all_collected {f : Frame} {b : Nat} (hb : b < f.bands.length) (hopen : (f.band b).collected = false) :
    f.bands.all (·.collected) = false := by
  have hband : f.bands[b].collected = false := by simpa [Frame.band, List.getD_eq_getElem?_getD, hb] using hopen
  exact List.all_eq_false.2 ⟨f.bands[b], List.getElem_mem hb, by simp [hband]⟩

/-! ## What the loss of bands leaves -/

theorem stream_self {d : Dev} (h : Rising d.streams) (sid : Nat) (x : Stream) : stream (setStream sid x d) sid = x :=
  (tabGet_put _ _ h _ _ _).trans (if_pos rfl)

/-- The band b of the frame c of a lining is still to come: its frame waits for it, and so do the messages of `y`. -/
structure Awaiting (l c b : Nat) (y d : Dev) : Prop where
  sound : Sound d
  waiting : (lining d l).waiting = (lining y l).waiting
  counted : objGet d 0x4005 l = objGet y 0x4005 l
  frame : Awaited c b (stream d (liningSid l)).frames

section
variable {l c b : Nat} {y d e : Dev} (h : Awaiting l c b y d)
include h

/-- What changes no stream leaves the frame. -/
theorem Awaiting.of (hsound : Sound e) (hwaiting : (lining e l).waiting = (lining d l).waiting)
    (hcounted : objGet e 0x4005 l = objGet d 0x4005 l) (hstreams : e.streams = d.streams) : Awaiting l c b y e :=
  ⟨hsound, hwaiting.trans h.waiting, hcounted.trans h.counted, by rw [stream_congr hstreams]; exact h.frame⟩

/-- What changes only the stream of the lining, and keeps the frame, too. -/
theorem Awaiting.inStream (hsound : Sound e) (hlinings : e.linings = d.linings) (hobjs : e.objs = d.objs)
    (hframe : Awaited c b (stream e (liningSid l)).frames) : Awaiting l c b y e :=
  ⟨hsound, by rw [lining_congr hlinings]; exact h.waiting, by rw [objGet_congr hobjs]; exact h.counted, hframe⟩

theorem Awaiting.liningChanged {f : Lining → Lining} (hf : ∀ x, (f x).waiting = x.waiting) : Awaiting l c b y (updLining l f d) :=
  h.of ((updLining_keeps (m := 4398046511103) rfl (.refl d)).sound h.sound)
    (by rw [updLining_get d h.sound.tabs.linings]; exact hf _) rfl rfl

theorem Awaiting.objectSet {i : Nat} (hl : l < 256) (hi : i ≠ 0x4005) (v : Nat) : Awaiting l c b y (objSet i l v d) :=
  h.of ((objSet_keeps (m := 4398046511103) rfl (.refl d)).sound h.sound)
    (congrArg Lining.waiting (lining_congr (by simp only [objSet_frame]) l))
    (objGet_set_ne d h.sound.objs.1 _ _ _ _ _ (objKey_ne hi hl hl)) (by simp only [objSet_frame])

theorem Awaiting.stateChanged (hl : l < 256) (n cause : Nat) : Awaiting l c b y (linChange l n cause d) := by
  obtain ⟨-, -, hobj⟩ := linChange_obj l n cause d h.sound.objs.1 hl
  exact h.of ((linChange_keeps (m := 4398046511103) rfl (.refl d)).sound h.sound)
    (congrArg Lining.waiting (lining_congr (linChange_linings ..) l)) (hobj _ (by decide) (by decide) (by decide))
    ((linChange_keeps (m := 6420) rfl (.refl d)).only .streams rfl).symm

theorem Awaiting.stateSent (hl : l < 256) (refresh : Bool) (more : List Nat) : Awaiting l c b y (sendLinState l refresh more d) :=
  h.of ((sendLinState_keeps (m := 4398046511103) rfl (.refl d)).sound h.sound)
    (congrArg Lining.waiting (lining_congr (sendLinState_linings ..) l))
    (sendLinState_obj l refresh more d h.sound.objs.1 _ _ (by decide) (by decide) hl hl)
    ((sendLinState_keeps (m := 275079233541) rfl (.refl d)).only .streams rfl).symm

theorem Awaiting.pulsed (src code sev subject info : Nat) : Awaiting l c b y (pulse src code sev subject info d) :=
  h.of ((pulse_keeps (m := 4398046511103) rfl (.refl d)).sound h.sound)
    (congrArg Lining.waiting (lining_congr (by simp only [pulse_frame]) l))
    (objGet_congr (pulse_objs ..) _ _) (by simp only [pulse_frame])

theorem Awaiting.degraded (hl : l < 256) (cause : Nat) : Awaiting l c b y (degradeLining l cause d) := by
  unfold degradeLining
  split
  · exact (h.stateChanged hl 3 cause).stateSent hl true []
  · exact h

theorem Awaiting.frameChanged {k : Nat} {g : Frame → Frame} (hg : ∀ f, (g f).count = f.count)
    (hband : ∀ f, k = c → b < f.bands.length → (f.band b).collected = false →
      b < (g f).bands.length ∧ ((g f).band b).collected = false) : Awaiting l c b y (updFrame (liningSid l) k g d) :=
  h.inStream ((updFrame_keeps (m := 4398046511103) rfl (.refl d)).sound h.sound) rfl rfl
    (by rw [updFrame, updStream, stream_self h.sound.tabs.streams]; exact h.frame.change hg hband)

theorem Awaiting.retire : Awaiting l c b y (retireFrames (liningSid l) (fun g => g.bands.all (·.collected)) d) :=
  h.inStream ((retireFrames_keeps (m := 4398046511103) rfl (.refl d)).sound h.sound) rfl rfl
    (by rw [retireFrames, stream_self h.sound.tabs.streams]
        exact h.frame.filter fun f hb hopen => by simp [not_all_collected hb hopen])

theorem Awaiting.conceal (k i : Nat) : Awaiting l c b y (concealBand (liningSid l) k i d) := by
  unfold concealBand
  split
  · refine h.inStream ((writeRecon_keeps (m := 4398046511103) rfl (.refl d)).sound h.sound) rfl rfl ?_
    rw [writeRecon, updRecons, updStream, stream_self h.sound.tabs.streams]
    exact h.frame
  · exact h

/-- A frame that is complete decides the state of the lining, and no message's turn (R201, R202). -/
theorem Awaiting.frameDone (hl : l < 256) (f : Frame) : Awaiting l c b y (liningFrameDone l f d) := by
  have hretired := h.retire
  unfold liningFrameDone
  dsimp only
  split
  · split
    · exact hretired
    · exact hretired.liningChanged fun _ => rfl
  · split
    · split
      · refine Awaiting.stateSent (Awaiting.objectSet (Awaiting.stateChanged ?_ hl 2 0) hl (by decide) 0) hl false []
        exact hretired.liningChanged fun _ => rfl
      · split
        · split
          · refine Awaiting.pulsed (Awaiting.liningChanged ?_ ?_) 1 0x0053 2 l 0
            · exact hretired.objectSet hl (by decide) _
            · exact fun _ => rfl
          · exact Awaiting.stateSent (hretired.objectSet hl (by decide) _) hl true []
        · exact hretired.stateSent hl true []
    · exact hretired

/-- Another band that is lost leaves this one. -/
theorem Awaiting.loseBand (hl : l < 256) {k i : Nat} (hother : k = c → i ≠ b) : Awaiting l c b y (loseLinBand l k i d) := by
  have hlost : Awaiting l c b y (updFrame (liningSid l) k (fun f => { f with invalid := true })
      (updBand (liningSid l) k i (fun _ => lostBand) (concealBand (liningSid l) k i d))) := by
    refine Awaiting.frameChanged ?_ (fun _ => rfl) fun f _ hb hopen => ⟨hb, hopen⟩
    refine Awaiting.frameChanged (h.conceal k i) (fun _ => rfl) fun f hk hb hopen => ⟨?_, ?_⟩
    · simpa [Frame.setBand] using hb
    · rw [Frame.band_setBand_ne (hother hk)]
      exact hopen
  unfold loseLinBand liningDoneAt
  dsimp only
  split
  · exact hlost
  · split
    · exact hlost.frameDone hl _
    · exact hlost

/-- The bands that come before this one are lost. -/
theorem Awaiting.loseBands (hl : l < 256) : Awaiting l c b y (loseBands l c b d) := by
  have hall : ∀ (gone : List (Nat × Nat)) (d : Dev), (∀ e ∈ gone, e.1 = c → e.2 ≠ b) → Awaiting l c b y d →
      Awaiting l c b y (forEach gone (fun e d => loseLinBand l e.1 e.2 d) d) := by
    intro gone
    induction gone with
    | nil => exact fun _ _ hd => hd
    | cons e gone ih =>
      exact fun d hgone hd => ih _ (fun a ha => hgone a (List.mem_cons_of_mem _ ha))
        (hd.loseBand hl (hgone e List.mem_cons_self))
  refine hall _ d (fun e he hc => ?_) h
  obtain ⟨f, -, he⟩ := List.mem_flatMap.1 he
  obtain ⟨i, hi, rfl⟩ := List.mem_map.1 he
  have hbefore := (List.mem_filter.1 hi).2
  dsimp only at hc hbefore ⊢
  rintro rfl
  simp [hc] at hbefore

end

/-! ## BAND (R197) -/

/-- The frame of a band that is applied: it is in progress and waits for the band, or the band opens it. -/
def bandDue (y : Dev) (m : MirrorMsg) : Prop :=
  let sid := liningSid m.lining
  (∃ f, frameAt y sid m.record.frame = some f ∧ m.record.band < f.bands.length ∧ (f.band m.record.band).collected = false ∧
      (f.band m.record.band).st = 0) ∨
    (frameAt y sid m.record.frame = none ∧ (stream y sid).count ≤ m.record.frame ∧ m.record.band < bandCount y sid)

/-- The block with the frame of a band open. -/
def bandOpened (l : Nat) (m : MirrorMsg) (d : Dev) : Dev :=
  if (frameAt d (liningSid l) m.record.frame).isNone && decide ((stream d (liningSid l)).count ≤ m.record.frame) then
    openLinFrame l m d
  else d

section
variable {m : MirrorMsg} {y d : Dev}

theorem moveEntries_frames (n interval : Nat) (prev : Option Nat) (x : Stream) : (moveEntries n interval prev x).frames = x.frames := by
  unfold moveEntries
  split
  · rfl
  · extract_lets anchors z
    split <;> rfl

theorem cycleTold_frames (st : Option (Nat × Nat)) (layer c : Nat) (x : Stream) : (cycleTold st layer c x).frames = x.frames := by
  unfold cycleTold
  split <;> rfl

theorem pruneRecons_frames (h : Rising d.streams) (sid : Nat) :
    (stream (pruneRecons sid d) sid).frames = (stream d sid).frames := by
  unfold pruneRecons
  dsimp only
  split
  · rfl
  · rw [stream_self h]

/-- The frame that a band opens has every band of the lining. -/
theorem openLinFrame_awaited (h : Rising d.streams) {l : Nat} (hnone : frameAt d (liningSid l) m.record.frame = none)
    (hb : m.record.band < bandCount d (liningSid l)) :
    Awaited m.record.frame m.record.band (stream (openLinFrame l m d) (liningSid l)).frames := by
  unfold openLinFrame
  extract_lets sid x r intra n prev z st y f ends
  have hfs : y.frames = x.frames := (cycleTold_frames ..).trans (moveEntries_frames ..)
  rw [pruneRecons_frames (rising_put h), stream_self h]
  refine ⟨f, ?_, ?_, ?_⟩
  · rw [hfs, List.find?_append, show x.frames.find? (fun f => f.count == some m.record.frame) = none from hnone]
    simp [f, r]
  · simpa [f] using hb
  · simp [f, Frame.band, List.getD_eq_getElem?_getD, hb, sid]

theorem bandOpened_awaiting (h : Readied m y d) (hdue : bandDue y m) :
    Awaiting m.lining m.record.frame m.record.band d (bandOpened m.lining m d) := by
  have hframe : frameAt d (liningSid m.lining) m.record.frame = frameAt y (liningSid m.lining) m.record.frame := by
    unfold frameAt
    rw [stream_congr h.streams]
  unfold bandOpened
  rcases hdue with ⟨f, hf, hb, hopen, -⟩ | ⟨hnone, hcount, hb⟩
  · rw [hframe, hf, if_neg (by simp)]
    exact ⟨h.sound, rfl, rfl, f, hframe.trans hf, hb, hopen⟩
  · rw [hframe, hnone, stream_congr h.streams, if_pos (by simpa using hcount)]
    have hcount : bandCount d (liningSid m.lining) = bandCount y (liningSid m.lining) := by
      unfold bandCount prm
      simp [isLining, liningSid, h.params]
    refine ⟨(openLinFrame_keeps (m := 4398046511103) rfl (.refl d)).sound h.sound, ?_, ?_, ?_⟩
    · rw [lining_congr (openLinFrame_linings ..)]
    · rw [objGet_congr (openLinFrame_objs ..)]
    · exact openLinFrame_awaited h.sound.tabs.streams (hframe.trans hnone) (by rw [hcount]; exact hb)

/-- A band that changes in a frame that has it. -/
theorem bandAt_updBand {P : Band → Prop} {sid c b : Nat} {g : Band → Band} (h : Rising d.streams)
    (hframe : Awaited c b (stream d sid).frames) (hg : ∀ x, P (g x)) : P (bandAt (updBand sid c b g d) sid c b) := by
  obtain ⟨f, hf, hb, -⟩ := hframe
  have hfound : frameAt (updBand sid c b g d) sid c = some (f.setBand b (g (f.band b))) := by
    unfold frameAt updBand updFrame updStream
    rw [stream_self h]
    refine (find_changed (stream d sid).frames c c (g := fun f => f.setBand b (g (f.band b))) fun _ => rfl).trans ?_
    rw [hf, Option.map_some, if_pos rfl]
  unfold bandAt
  rw [hfound]
  dsimp only
  rw [Frame.band_setBand_self hb]
  exact hg _

/-- BAND: what the lining keeps of it, and the band that waits to be decoded with its record (R197, R217). -/
theorem applyBand_applied (h : Readied m y d) (hdue : bandDue y m) :
    let c := m.record.frame
    let b := m.record.band
    let sid := liningSid m.lining
    ∃ z, applyBand m.lining m d = z ∧ Applied m y z ∧ (lining z m.lining).lastFrame = some c ∧
      (lining z m.lining).next = m.nums.getD 2 0 * 65536 + m.nums.getD 0 0 + m.nums.getD 1 0 ∧
      (bandAt z sid c b).given = some m.record ∧ (bandAt z sid c b).st = 1 ∧ (bandAt z sid c b).ready = y.tbs.cnt ∧
      (bandAt z sid c b).data = m.data ∧ (bandAt z sid c b).units = m.units := by
  intro c b sid
  have hlost := (bandOpened_awaiting h hdue).loseBands h.slot
  refine ⟨_, rfl, ?_⟩
  unfold applyBand
  extract_lets r d1 last first ps d2 d3
  have htold : (lining d2 m.lining).lastFrame = some c ∧ (lining d2 m.lining).next = first + m.nums.getD 1 0 := by
    have hself := updLining_get (loseBands m.lining r.frame r.band d1) hlost.sound.tabs.linings m.lining
    exact ⟨by rw [hself], by rw [hself]⟩
  have h2 : Awaiting m.lining c b d d2 := by
    refine Awaiting.liningChanged hlost ?_
    exact fun _ => rfl
  clear_value d2
  have h3 : Awaiting m.lining c b d d3 ∧ d3.linings = d2.linings := by
    subst d3
    split
    · exact ⟨h2, rfl⟩
    · exact ⟨h2.degraded h.slot 4, degradeLining_linings ..⟩
  clear_value d3
  obtain ⟨hawait, hlinings⟩ := h3
  rw [← lining_congr hlinings] at htold
  refine ⟨⟨hawait.counted.trans h.counted, hawait.waiting.trans h.waiting⟩, htold.1, htold.2, ?_⟩
  exact bandAt_updBand
    (P := fun x => x.given = some m.record ∧ x.st = 1 ∧ x.ready = y.tbs.cnt ∧ x.data = m.data ∧ x.units = m.units)
    hawait.sound.tabs.streams hawait.frame fun _ => ⟨rfl, rfl, congrArg Tbs.cnt h.tbs, rfl, rfl⟩

end

end Sys2Proof.Machine
end

section
/-! PROOFS. The losses of the mirror stream, its store, the view of a lining and the sessions taken (R198, R204, R215). -/
set_option autoImplicit false
namespace Sys2Proof.Machine

section
variable {d : Dev}

/-! ## MIRROR_HOLD_EXPIRY (R198) -/

section
variable {l : Nat}

theorem holdExpiry_noGap (h : gapSince (lining d l) = none) : holdExpiry l d = d := by
  unfold holdExpiry
  rw [h]

theorem holdExpiry_early {t : Nat} (h : gapSince (lining d l) = some t)
    (hearly : stitchesIn d.tbs.ns < stitchesIn t + objNow d 0x1407 0) : holdExpiry l d = d := by
  unfold holdExpiry
  rw [h]
  split
  · next t' k m rest ht hw =>
    cases ht
    exact if_neg (by omega)
  · rfl

/-- The missing messages are counted lost, and an IN_STEP lining is DEGRADED. -/
def messagesLost (l k : Nat) (d : Dev) : Dev :=
  degradeLining l 1 (objSet 0x4005 l (k - 1) (objCount 32 0x5082 l (k - 1 - objGet d 0x4005 l) d))

theorem holdExpiry_due {t : Nat} {e : Nat × MirrorMsg} (h : gapSince (lining d l) = some t)
    (hdue : stitchesIn t + objNow d 0x1407 0 ≤ stitchesIn d.tbs.ns) (hhead : (lining d l).waiting.head? = some e) :
    holdExpiry l d = drainWaiting l (messagesLost l e.1 d) := by
  obtain ⟨rest, hw⟩ : ∃ rest, (lining d l).waiting = e :: rest := by
    cases hw : (lining d l).waiting with
    | nil => simp [hw] at hhead
    | cons a rest =>
      rw [hw] at hhead
      cases hhead
      exact ⟨rest, rfl⟩
  unfold holdExpiry
  rw [h, hw]
  exact if_pos hdue

theorem messagesLost_does (h : Sound d) (hl : l < 256) (k : Nat) :
    let z := messagesLost l k d
    (lining z l).waiting = (lining d l).waiting ∧ objGet z 0x4005 l = k - 1 ∧
      objGet z 0x5082 l = (objGet d 0x5082 l + (k - 1 - objGet d 0x4005 l)) % 2 ^ 32 ∧
      linState z l = if linState d l = 2 then 3 else linState d l := by
  generalize hd1 : objCount 32 0x5082 l (k - 1 - objGet d 0x4005 l) d = d1
  have h1 : Rising d1.objs := by subst hd1; exact objCount_rising d h.objs.1 _ _ _ _
  have hlost : objGet d1 0x5082 l = (objGet d 0x5082 l + (k - 1 - objGet d 0x4005 l)) % 2 ^ 32 := by
    subst hd1
    exact objCount_get d h.objs.1 ..
  have hstate : linState d1 l = linState d l := by
    subst hd1
    exact objCount_get_ne d h.objs.1 _ _ _ _ _ _ (objKey_ne (by decide) hl hl)
  have hact : messagesLost l k d = degradeLining l 1 (objSet 0x4005 l (k - 1) d1) := by subst hd1; rfl
  have h2 : Rising (objSet 0x4005 l (k - 1) d1).objs := objSet_rising d1 h1 _ _ _
  have hne : ∀ i, i ≠ 0x4005 → objGet (objSet 0x4005 l (k - 1) d1) i l = objGet d1 i l := fun i hi =>
    objGet_set_ne d1 h1 _ _ _ _ _ (objKey_ne hi.symm hl hl)
  obtain ⟨hdegraded, hkept⟩ := degradeLining_obj l 1 _ h2 hl
  dsimp only
  rw [hact]
  refine ⟨?_, ?_, ?_, ?_⟩
  · subst hd1
    rw [lining_congr (degradeLining_linings ..)]
    exact congrArg Lining.waiting (lining_congr (by simp only [objSet_frame, objCount_frame]) l)
  · rw [hkept _ (by decide) (by decide) (by decide) (by decide) (by decide)]
    exact objGet_set_self d1 h1 _ _ _
  · rw [hkept _ (by decide) (by decide) (by decide) (by decide) (by decide), hne _ (by decide), hlost]
  · rw [hdegraded, show linState (objSet 0x4005 l (k - 1) d1) l = linState d l from (hne _ (by decide)).trans hstate]

end

/-! ## MIRROR_NACK and the store (R198) -/

/-- What is sent again stays in the store, and takes the next COUNTERs. -/
theorem mirrorNacked_does {m : MirrorMsg} (h : Rising d.sess) (hkeyed : d.pair.keyed = true) :
    let e := mirrorNacked m d
    (sess e m.session).kept = (sess d m.session).kept ∧ e.pair.lastIn = d.pair.lastIn ∧
      e.pair.counter = d.pair.counter + ((sess d m.session).kept.filter fun k =>
        m.nums.contains k.msg.mseq && k.msg.lining == m.lining && isKept d k).length := by
  obtain ⟨hcounter, hlast⟩ := sendEach_counter ((sess d m.session).kept.filter fun k =>
    m.nums.contains k.msg.mseq && k.msg.lining == m.lining && isKept d k) d hkeyed
  have hkept := (SameKept.each (fun (k : Kept) d => sendMirror k.msg d) (fun k d => sendMirror_kept k.msg d)
    ((sess d m.session).kept.filter fun k => m.nums.contains k.msg.mseq && k.msg.lining == m.lining && isKept d k) d h).2 m.session
  exact ⟨hkept, hlast, hcounter⟩

theorem mirrorExpiry_does (h : Rising d.sess) (k : Nat) :
    (sess (mirrorExpiry k d) k).kept = (sess d k).kept.filter (isKept d) ∧ ∀ u, u ≠ k → sess (mirrorExpiry k d) u = sess d u := by
  refine ⟨by rw [mirrorExpiry, sess_self d h], fun u hu => ?_⟩
  exact (sess_set d h k u _).trans (if_neg hu)

/-! ## TAKEN (R215) -/

/-- The pair once sessions are named that the partner has taken. -/
def pairTaking (ss : List Nat) (p : Pair) : Pair :=
  { p with takenAway := p.takenAway ++ ss.filter fun k => !p.takenAway.contains k }

theorem takeSessions_pair (ss : List Nat) (d : Dev) : (takeSessions ss d).pair = pairTaking ss d.pair := rfl

/-! ## LINING_STATE (R202 to R204) -/

section
variable {m : MirrorMsg}

theorem liningTold_stray (h : linkedLining d m.session ≠ some m.lining ∨ isSlot m.session = false) : liningTold m d = d := by
  unfold liningTold
  exact if_pos (by simpa using h)

/-- The block with the view of the lining, and the cycle that a refresh request asks for. -/
def liningViewed (m : MirrorMsg) (d : Dev) : Dev :=
  let d1 := objSet 0x3090 m.session (linkView (m.nums.getD 0 0)) d
  if m.nums.getD 2 0 = 1 then triggerCycle (liveSid m.session) d1 else d1

theorem liningTold_eq (hslot : isSlot m.session = true) (hlink : linkedLining d m.session = some m.lining) : liningTold m d =
    if 3 < m.nums.length then mismatchTold m.session (m.nums.getD 3 0) (m.nums.getD 4 0) (liningViewed m d) else liningViewed m d := by
  unfold liningTold
  dsimp only
  rw [if_neg (by simp [hslot, hlink])]
  rfl

theorem liningViewed_objs (m : MirrorMsg) (d : Dev) :
    (liningViewed m d).objs = (objSet 0x3090 m.session (linkView (m.nums.getD 0 0)) d).objs := by
  unfold liningViewed
  dsimp only
  split <;> rfl

theorem liningViewed_view (h : Rising d.objs) : objGet (liningViewed m d) 0x3090 m.session = linkView (m.nums.getD 0 0) :=
  (objGet_congr (liningViewed_objs m d) _ _).trans (objGet_set_self d h _ _ _)

/-- A refresh request starts a cycle, if none runs (R156). -/
theorem liningViewed_refresh (h : Rising d.streams) (hask : m.nums.getD 2 0 = 1) :
    (stream (liningViewed m d) (liveSid m.session)).cycle.isSome = true ∨
      (stream (liningViewed m d) (liveSid m.session)).trigger = true := by
  generalize hd1 : objSet 0x3090 m.session (linkView (m.nums.getD 0 0)) d = d1
  have h1 : Rising d1.streams := by subst hd1; simpa only [objSet_frame] using h
  have hact : liningViewed m d = triggerCycle (liveSid m.session) d1 := by
    subst hd1
    exact if_pos hask
  rw [hact, triggerCycle, updStream, stream_self h1]
  by_cases hcycle : (stream d1 (liveSid m.session)).cycle.isSome = true
  · rw [if_pos hcycle]
    exact .inl hcycle
  · rw [if_neg hcycle]
    exact .inr rfl

/-- The tiles that coded a band stay (R203). -/
theorem liningViewed_coders (h : Rising d.streams) :
    (stream (liningViewed m d) (liveSid m.session)).coders = (stream d (liveSid m.session)).coders := by
  generalize hd1 : objSet 0x3090 m.session (linkView (m.nums.getD 0 0)) d = d1
  have hstreams : d1.streams = d.streams := by subst hd1; simp only [objSet_frame]
  have hact : liningViewed m d = if m.nums.getD 2 0 = 1 then triggerCycle (liveSid m.session) d1 else d1 := by subst hd1; rfl
  rw [hact]
  split
  · rw [triggerCycle, updStream, stream_self (by rw [hstreams]; exact h), stream_congr hstreams]
    split <;> rfl
  · rw [stream_congr hstreams]

/-- Without a threshold a mismatch is only counted (R205). -/
theorem countMismatch_counts (h : objNow d 0x1443 0 = 0) (t : Nat) : countMismatch t d = objCount 16 0x5090 t 1 d := by
  unfold countMismatch
  dsimp only
  exact if_neg (by simp [h])

theorem liningViewed_threshold (h : Rising d.objs) : objNow (liningViewed m d) 0x1443 0 = objNow d 0x1443 0 := by
  have hheld : (liningViewed m d).heldStitch = d.heldStitch := by
    unfold liningViewed
    dsimp only
    split
    · exact (objSet_frame ..).2.2.1
    · exact (objSet_frame ..).2.2.1
  unfold objNow
  rw [hheld, objGet_congr (liningViewed_objs m d), objGet_set_of_lt h _ _ (by decide) (by decide)]

/-- A mismatch is told of the one tile that coded the band: the view stays and the tile's count rises (R203, R205). -/
theorem mismatchTold_counts (h : Sound d) (hs : m.session < 256) {t : Nat} (hthreshold : objNow d 0x1443 0 = 0)
    (hcoders : tabGet [] (stream d (liveSid m.session)).coders (128 * m.nums.getD 3 0 + m.nums.getD 4 0) = [t]) :
    let e := mismatchTold m.session (m.nums.getD 3 0) (m.nums.getD 4 0) (liningViewed m d)
    objGet e 0x3090 m.session = linkView (m.nums.getD 0 0) ∧ objGet e 0x5090 t = (objGet d 0x5090 t + 1) % 2 ^ 16 := by
  generalize hv : liningViewed m d = v
  have hvobjs : v.objs = (objSet 0x3090 m.session (linkView (m.nums.getD 0 0)) d).objs := by subst hv; exact liningViewed_objs m d
  have hrising : Rising v.objs := by rw [hvobjs]; exact objSet_rising d h.objs.1 _ _ _
  have hnow : objNow v 0x1443 0 = 0 := by subst hv; exact (liningViewed_threshold h.objs.1).trans hthreshold
  have hcount : objGet v 0x5090 t = objGet d 0x5090 t := by
    rw [objGet_congr hvobjs]
    exact objGet_set_ne d h.objs.1 _ _ _ _ _ (objKey_ne_of_lt (by decide) hs).symm
  have hfobjs : (mismatchFault t v).objs = v.objs := pulse_objs ..
  have hfnow : objNow (mismatchFault t v) 0x1443 0 = 0 := by
    refine Eq.trans ?_ hnow
    show objNow (pulse 1 0x0023 2 t (freeBits 64 v) v) 0x1443 0 = objNow v 0x1443 0
    simp only [objNow, objGet, pulse_frame]
  have hact : mismatchTold m.session (m.nums.getD 3 0) (m.nums.getD 4 0) v = objCount 16 0x5090 t 1 (mismatchFault t v) := by
    subst hv
    unfold mismatchTold
    rw [liningViewed_coders h.tabs.streams, hcoders]
    exact countMismatch_counts hfnow t
  dsimp only
  rw [hact]
  constructor
  · rw [objCount_get_ne _ (by rw [hfobjs]; exact hrising) _ _ _ _ _ _ (objKey_ne_of_lt (by decide) hs), objGet_congr hfobjs]
    subst hv
    exact liningViewed_view h.objs.1
  · rw [objCount_get _ (by rw [hfobjs]; exact hrising), objGet_congr hfobjs, hcount]

end

end

end Sys2Proof.Machine
end

section
set_option autoImplicit false
open Sys2Proof.Machine

/-- Settles O58: the messages out of their turn, each kind of message in its turn, the losses and the store. -/
theorem mirrorMessages : Obligations.MirrorMessages := by
  unfold Obligations.MirrorMessages
  refine ⟨?events, ?takenWrite⟩
  case takenWrite =>
    intro s q v hsound hg
    have hy : Sound (atTime q.now s.dev) := sound_atTime q.now hsound
    refine answers_perform (f := fun d => takeSessions ((List.range 256).filter (bit v.val)) (objSet 0x140D 0 (v.val % 2 ^ 256) d))
      (P := fun d => objGet d 0x140D 0 = v.val % 2 ^ 256 ∧ d.pair = pairTaking ((List.range 256).filter (bit v.val)) s.dev.pair)
      rfl hg ⟨?_, ?_⟩
    · exact (objGet_congr (by simp only [accept_frame]; rfl) _ _).trans (objGet_set_self _ hy.objs.1 0x140D 0 (v.val % 2 ^ 256))
    · simp only [accept_frame, takeSessions_pair, objSet_frame, atTime_frame]
  case events =>
    intro s now hawake hsound
    have hy := sound_atTime now hsound
    generalize ht : atTime now s.dev = y at hy
    have hearly : ∀ d, (earlyStart d).linings = d.linings := earlyStart_linings
    intro y' took' turn applied
    refine ⟨fun m => ?outOfTurn, fun m hturn => ?opens, fun m hturn => ?band, fun m hturn => ?changes, fun m hturn => ?closes,
      fun m hturn => ?handsOver, fun m hbad => ?badNack, fun m hok => ?nack, fun m hbad => ?badState, fun m hok => ?state,
      fun l hl => ?hold, fun k hk => ?store, fun m hbad => ?badTaken, fun m hok => ?taken⟩
    case outOfTurn =>
      intro c hc
      simp only [List.mem_cons, List.not_mem_nil, or_false] at hc
      rcases hc with rfl | rfl | rfl | rfl | rfl
      · exact answers_outOfTurn rfl hawake ht hy hearly
      · exact answers_outOfTurn rfl hawake ht hy hearly
      · exact answers_outOfTurn rfl hawake ht hy hearly
      · exact answers_outOfTurn (f := id) rfl hawake ht hy fun _ => rfl
      · exact answers_outOfTurn (f := id) rfl hawake ht hy fun _ => rfl
    case opens =>
      refine answers_turn (f := earlyStart) rfl hawake ht hy hturn fun d hready => ?_
      obtain ⟨z, hz, happlied, hlining⟩ := applyOpen_applied hready
      exact ⟨z, congrArg earlyStart ((congrArg _ hz).trans (drainWaiting_of_waiting happlied.2)), happlied, hlining⟩
    case band =>
      intro c b sid hdue
      refine answers_turn (f := earlyStart) rfl hawake ht hy hturn fun d hready => ?_
      obtain ⟨z, hz, happlied, hlining⟩ := applyBand_applied hready hdue
      exact ⟨z, congrArg earlyStart ((congrArg _ hz).trans (drainWaiting_of_waiting happlied.2)), happlied, hlining⟩
    case changes =>
      refine answers_turn (f := earlyStart) rfl hawake ht hy hturn fun d hready => ?_
      obtain ⟨z, hz, happlied, hlining⟩ := applyChange_applied hready
      exact ⟨z, congrArg earlyStart ((congrArg _ hz).trans (drainWaiting_of_waiting happlied.2)), happlied, hlining⟩
    case closes => exact answers_turn (f := id) rfl hawake ht hy hturn fun d hready => freeLining_applied hready _
    case handsOver => exact answers_turn (f := id) rfl hawake ht hy hturn fun d hready => applyHandover_applied hready
    case badNack => exact answers_timed _ rfl hawake ht (receive_bad hbad)
    case badState => exact answers_timed _ rfl hawake ht (receive_bad hbad)
    case badTaken => exact answers_timed _ rfl hawake ht (receive_bad hbad)
    case taken => exact answers_took rfl hawake ht hok rfl
    case nack =>
      have hkeyed : y.pair.keyed = true := mirrorOk_keyed hok
      exact answers_took rfl hawake ht hok (mirrorNacked_does (d := took m y) hy.tabs.sess hkeyed)
    case state =>
      intro view
      refine ⟨fun hstray => ?_, fun hslot hlink hshort => ?_, fun t hslot hlink hlong hthreshold hcoders => ?_⟩
      · exact answers_took rfl hawake ht hok (liningTold_stray (d := took m y) hstray)
      · refine answers_took rfl hawake ht hok ?_
        rw [liningTold_eq (d := took m y) hslot hlink, if_neg (by omega)]
        exact ⟨liningViewed_view (d := took m y) hy.objs.1, liningViewed_refresh (d := took m y) hy.tabs.streams⟩
      · refine answers_took rfl hawake ht hok ?_
        rw [liningTold_eq (d := took m y) hslot hlink, if_pos hlong]
        exact mismatchTold_counts (sound_took hy m.counter) (of_decide_eq_true hslot) hthreshold hcoders
    case hold =>
      intro x
      have hexpires : ∀ {P : Dev → Prop}, P (earlyStart (holdExpiry l y)) → Answers (.mirrorHoldExpiry l now) s P := fun hp =>
        answers_actOn rfl hl hawake (by rw [ht]; exact hp)
      refine ⟨fun hgap => hexpires ?_, fun t hgap hyoung => hexpires ?_, fun t e hgap hdue hhead => hexpires ?_⟩
      · rw [holdExpiry_noGap hgap]
      · rw [holdExpiry_early hgap hyoung]
      · exact ⟨_, congrArg earlyStart (holdExpiry_due hgap hdue hhead), messagesLost_does hy (of_decide_eq_true hl) e.1⟩
    case store =>
      obtain ⟨hkept, hothers⟩ := mirrorExpiry_does hy.tabs.sess k
      exact answers_actOn rfl hk hawake (by rw [ht]; exact ⟨hkept, hothers, rfl, rfl⟩)

end

section
/-! PROOFS. The freeze of a clip, the commands of the library, the verified segment and the splices (R234, R236 to R241). -/
set_option autoImplicit false
namespace Sys2Proof.Machine

section
variable {d : Dev} {s t e : Nat} {v : Payload}

/-! ## The codes of a granted write -/

/-- A check whose code is not earned does not fail. -/
theorem not_of_not_earned {c : Err} {l : List (Bool × Err)} (h : c ∉ earned l) {b : Bool} (hb : (b, c) ∈ l) : b = false := by
  cases b with
  | false => rfl
  | true => exact absurd (mem_earned c l hb) h

/-! ## Entries of the library (R236) -/

theorem libEntry_congr {d' : Dev} (h : d'.lib = d.lib) (t e : Nat) : libEntry d' t e = libEntry d t e := by
  unfold libEntry; rw [h]

theorem libState_self (h : Rising d.lib) (t e : Nat) (x : LibEntry) : libEntry (libState t e x d) t e = x :=
  (libState_lib d h t e t e x).trans (if_pos rfl)

@[simp] theorem sess_accept (q : Req) (i u : Nat) (d : Dev) (s : Nat) : sess (accept q i u d) s = sess d s :=
  sess_congr (by simp only [accept_frame]) s

@[simp] theorem libEntry_accept (q : Req) (i u : Nat) (d : Dev) (t e : Nat) : libEntry (accept q i u d) t e = libEntry d t e :=
  libEntry_congr (by simp only [accept_frame]) t e

@[simp] theorem objGet_accept (q : Req) (i u : Nat) (d : Dev) (j w : Nat) : objGet (accept q i u d) j w = objGet d j w :=
  objGet_congr (by simp only [accept_frame]) j w

/-! ## FREEZE_REQUEST (R234) -/

/-- The freeze that a request asks for. -/
def freezeAsked (v : Payload) : Freeze := { start := bytesAt v.val 0 8, fin := bytesAt v.val 8 8, e := byteAt v.val 16 }

/-- The reservation of the replacements leaves the sessions and the library. -/
theorem freezeAct_reserves (s : Nat) (v : Payload) (d : Dev) : ∃ d1 : Dev, d1.sess = d.sess ∧ d1.lib = d.lib ∧
    freezeAct s v d = setSess s { sess d1 s with freezes := (sess d1 s).freezes ++ [freezeAsked v] }
      (libState (ownerOf d s) (byteAt v.val 16) { st := 1, kind := 1 } d1) :=
  ⟨_, (allocAll_frame ..).1, (allocAll_frame ..).2, rfl⟩

/-- The session has one more freeze that waits, and the entry is FREEZING. -/
theorem freezeAct_does (h : Sound d) (s : Nat) (v : Payload) :
    sess (freezeAct s v d) s = { sess d s with freezes := (sess d s).freezes ++ [freezeAsked v] } ∧
      libEntry (freezeAct s v d) (ownerOf d s) (byteAt v.val 16) = { st := 1, kind := 1 } := by
  obtain ⟨d1, hsess, hlib, hact⟩ := freezeAct_reserves s v d
  rw [hact, ← sess_congr hsess]
  exact ⟨sess_self _ (by rw [libState_sess, hsess]; exact h.tabs.sess) s _,
    libState_self (d := d1) (by rw [hlib]; exact h.tabs.lib) _ _ _⟩

/-! ## REGISTER_SEGMENT, DELETE (R237) -/

/-- A registration that earns no E_INTEGRITY names a block. -/
theorem registerErrs_block (h : Err.integrity ∉ registerErrs t v d) :
    ∃ b, blockAt d (handleKey (bytesAt v.val 8 8)) = some b := by
  have hsegment : (!segmentBlock d t (bytesAt v.val 8 8)) = false :=
    not_of_not_earned (fun he => h (List.mem_append_right _ he)) (by simp)
  cases hblock : blockAt d (handleKey (bytesAt v.val 8 8)) with
  | none => simp [segmentBlock, hblock] at hsegment
  | some b => exact ⟨b, rfl⟩

/-- The entry is VERIFYING with the entries that the bytes of the block give. -/
theorem registerAct_entry (h : Sound d) {b : Block} (hblock : blockAt d (handleKey (bytesAt v.val 8 8)) = some b) :
    let c := parseBlock d (handleKey (bytesAt v.val 8 8)) b
    libEntry (registerAct t v d) t (byteAt v.val 1) = { st := 2, kind := 2, blocks := [c], entries := c.entries } := by
  unfold registerAct
  simp only [hblock]
  exact libState_self (by rw [toLibrary_lib]; exact h.tabs.lib) _ _ _

/-- The entry is FREE, and the other entries of the tenant stay. -/
theorem deleteAct_entry (h : Sound d) (t : Nat) (v : Payload) (u : Nat) :
    libEntry (deleteAct t v d) t u = if u = byteAt v.val 1 then {} else libEntry d t u := by
  have hlib : (releaseUse (· == .library t (byteAt v.val 1)) d).lib = d.lib := releaseUse_lib ..
  refine (libState_lib _ (by rw [hlib]; exact h.tabs.lib) _ _ _ _ _).trans ?_
  rw [libEntry_congr hlib]
  exact if_congr (by omega) rfl rfl

/-- A granted command of the library acts, and its acceptance is answered (R237). -/
theorem answers_library {c : Instr} {s : State} {q : Req} {P : Dev → Prop}
    (hexec : exec c s = actOn (isSlot t) (libraryCommand q t v) s) (hslot : isSlot t = true)
    (hgrant : granted q 0x2010 t (libraryErrs t v) s.dev = true)
    (hp : P (accept q 0x2010 t (libraryAct t v (atTime q.now s.dev)))) :
    Answers c s (fun d => Accepted q 0x2010 t d ∧ P d) := by
  refine answers_actOn hexec hslot (granted_held hgrant) ?_
  rw [show libraryCommand q t v s.dev = accept q 0x2010 t (libraryAct t v (atTime q.now s.dev)) from decideWrite_granted hgrant]
  exact ⟨accepted_accept .., hp⟩

/-! ## SEGMENT_VERIFIED (R238) -/

section
variable {bands : List SegBand}

theorem segmentVerified_stays (h : (libEntry d t e).st ≠ 2 ∨ bands.length ≠ (libEntry d t e).entries.length) :
    segmentVerified t e bands d = d := if_pos (by simpa using h)

variable (hst : (libEntry d t e).st = 2) (hlen : bands.length = (libEntry d t e).entries.length)
include hst hlen

theorem segmentVerified_fails (h : Rising d.lib) {c : Err}
    (hfails : verifyErr d (libEntry d t e) bands (List.zipWith verified (libEntry d t e).entries bands)
      (bands.filterMap (·.seqHdr)).eraseDups = some c) :
    libEntry (segmentVerified t e bands d) t e = { libEntry d t e with st := 4, code := c.code } := by
  unfold segmentVerified
  simp only [hfails]
  rw [if_neg (by simp [hst, hlen])]
  exact libState_self h _ _ _

theorem segmentVerified_ready (h : Rising d.lib) {hdr : SeqHdr}
    (hpasses : verifyErr d (libEntry d t e) bands (List.zipWith verified (libEntry d t e).entries bands)
      (bands.filterMap (·.seqHdr)).eraseDups = none)
    (hhdr : (bands.filterMap (·.seqHdr)).eraseDups = [hdr]) :
    let es := List.zipWith verified (libEntry d t e).entries bands
    libEntry (segmentVerified t e bands d) t e =
      { libEntry d t e with
        st := 3, entries := es, blocks := (libEntry d t e).blocks.map (fun b => { b with entries := es }), codec := hdr.codec
        width := hdr.width, height := hdr.height, depth := hdr.depth, period := hdr.period, lvl := hdr.lvl
        layers := hdr.layers, seqHdr := hdr.bytes, intra := true } := by
  rw [hhdr] at hpasses
  unfold segmentVerified
  simp only [hhdr, hpasses]
  rw [if_neg (by simp [hst, hlen])]
  exact libState_self h _ _ _

end

/-! ## SPLICE_REQUEST, SPLICE_RETURN (R239, R241) -/

/-- A session whose splice earns no E_STATE runs and plays no splice. -/
theorem spliceErrs_runs {n : Nat} (h : Err.state ∉ spliceErrs s n d) : (sess d s).splice = none ∧ (sess d s).st = .running := by
  have hstate := not_of_not_earned (fun he => h (List.mem_append_left _ he))
    (List.mem_cons_of_mem _ (List.mem_cons_of_mem _ List.mem_cons_self))
  simp only [Bool.or_eq_false_iff, bne_eq_false_iff_eq, Option.isSome_eq_false_iff, Option.isNone_iff_eq_none] at hstate
  obtain ⟨⟨⟨-, hst⟩, hsplice⟩, -⟩ := hstate
  exact ⟨hsplice, hst⟩

theorem spliceAct_session (h : Rising d.sess) (s n : Nat) :
    sess (spliceAct s n d) s =
      { sess d s with splicePend := some (n % 64 + (if bit n 8 then 1024 else 0)), pend := 9, pendSeen := false } :=
  sess_self d h s _

theorem spliceReturnAct_session (h : Rising d.sess) (s : Nat) :
    sess (spliceReturnAct s d) s = { sess d s with spliceEnd := max 1 (sess d s).spliceEnd } := sess_self d h s _

end

end Sys2Proof.Machine
end

section
/-! PROOFS. EXPORT_TO_ETHERNET: the number of the entry, and its datagrams in the bulk class (R237, R249, R444). -/
set_option autoImplicit false
namespace Sys2Proof.Machine

section
variable {d : Dev} {t e : Nat}

/-- A field of bytes reads as it was written, modulo its width. -/
theorem bytesAt_putBytes (v off len x : Nat) : bytesAt (putBytes v off len x) off len = x % 256 ^ len := by
  have h := bits_setBits v (8 * off) (8 * len) x
  rw [bits, pow_mul, pow_mul] at h
  exact h

/-- What sending the datagrams of EXPORTING entries keeps: the contents of every entry, its state unless it becomes READY, and the
objects below the counts of frames discarded and of events lost. -/
structure Pumped (d d' : Dev) : Prop where
  sound : Sound d'
  entries : ∀ t e, (libEntry d' t e).entries = (libEntry d t e).entries
  state : ∀ t e, (libEntry d' t e).st = (libEntry d t e).st ∨ (libEntry d' t e).st = 3
  object : ∀ i u, i < 0x50D2 → u < 256 → objGet d' i u = objGet d i u

theorem Pumped.refl (h : Sound d) : Pumped d d := ⟨h, fun _ _ => rfl, fun _ _ => .inl rfl, fun _ _ _ _ => rfl⟩

theorem Pumped.trans {a b c : Dev} (hab : Pumped a b) (hbc : Pumped b c) : Pumped a c where
  sound := hbc.sound
  entries t e := (hbc.entries t e).trans (hab.entries t e)
  state t e := (hbc.state t e).elim (fun h => h ▸ hab.state t e) .inr
  object i u hi hu := (hbc.object i u hi hu).trans (hab.object i u hi hu)

theorem Pumped.each {α : Type} {f : α → Dev → Dev} (hf : ∀ a d, Sound d → Pumped d (f a d)) :
    ∀ (l : List α) {d : Dev}, Sound d → Pumped d (forEach l f d)
  | [], _, h => .refl h
  | a :: l, d, h => (hf a d h).trans (Pumped.each hf l (hf a d h).sound)

/-- An entry that changes in what has been sent of it, or to READY. -/
theorem Pumped.setLib (h : Sound d) {x : LibEntry} (hentries : x.entries = (libEntry d t e).entries)
    (hstate : x.st = (libEntry d t e).st ∨ x.st = 3) : Pumped d (setLib t e x d) where
  sound := (setLib_keeps (m := 549755813888) rfl (.refl d)).sound h
  entries u k := by
    rw [lib_set d h.tabs.lib]
    split
    · next hk => rw [hentries, libEntry, ← hk]; rfl
    · rfl
  state u k := by
    rw [lib_set d h.tabs.lib]
    split
    · next hk => exact hstate.imp_left fun hs => by rw [hs, libEntry, ← hk]; rfl
    · exact .inl rfl
  object _ _ _ _ := rfl

theorem Pumped.postEvent (h : Sound d) (fn ty kind code subject detail : Nat) :
    Pumped d (postEvent fn ty kind code subject detail d) where
  sound := (postEvent_keeps (m := 6420) rfl (.refl d)).sound h
  entries u k := congrArg LibEntry.entries (libEntry_congr (by simp only [postEvent_frame]) u k)
  state u k := .inl (congrArg LibEntry.st (libEntry_congr (by simp only [postEvent_frame]) u k))
  object _ _ hi hu := postEvent_below h.objs.1 _ _ _ _ _ _ (by omega) hu

/-- The packets that leave a port whose link is down count as frames discarded (R249). -/
theorem discardQueues_object (h : Rising d.objs) {p i u : Nat} (hi : i < 0x50D2) (hu : u < 256) :
    objGet (discardQueues p d) i u = objGet d i u := by
  unfold discardQueues
  split
  · rfl
  · extract_lets all d1
    have hmarked : d1.objs = (objCount 32 0x50D2 p all.length d).objs :=
      ((forEach_keeps (m := 134217728) all (fun _ _ => markSent_keeps (m := 134217728) rfl) (.refl _)).only .objs rfl).symm
    exact (objGet_congr (e := objCount 32 0x50D2 p all.length d) hmarked i u).trans
      (objCount_get_ne d h _ _ _ _ _ _ (objKey_ne_of_lt hi hu))

theorem Pumped.enterClass (h : Sound d) (p c : Nat) (k : Pkt) : Pumped d (enterClass p c k d) where
  sound := (enterClass_keeps (m := 275012124677) rfl (.refl d)).sound h
  entries u k := congrArg LibEntry.entries (libEntry_congr (by simp only [enterClass_frame]) u k)
  state u k := .inl (congrArg LibEntry.st (libEntry_congr (by simp only [enterClass_frame]) u k))
  object i u hi hu := by
    unfold Machine.enterClass
    extract_lets d1 key m
    have hobjs : (regSet key (max (regGet d1 key) m) d1).objs = d.objs := by simp only [regSet_frame]; rfl
    exact (discardQueues_object (by rw [hobjs]; exact h.objs.1) hi hu).trans (objGet_congr hobjs i u)

/-- The bulk class takes datagrams of an entry while it has room. -/
theorem exportFill_pumped (t e : Nat) : ∀ (n : Nat) {d : Dev}, Sound d → Pumped d (exportFill t e n d)
  | 0, _, h => .refl h
  | n + 1, d, h => by
    unfold exportFill
    extract_lets x n k p
    split
    · exact .refl h
    · have hsent : Pumped d (Machine.setLib t e { x with sent := x.sent + n } d) := .setLib h rfl (.inl rfl)
      have hqueued := hsent.trans (.enterClass hsent.sound p 4 k)
      exact hqueued.trans (exportFill_pumped t e _ hqueued.sound)

theorem exportPump_pumped (h : Sound d) : Pumped d (exportPump d) := by
  refine Pumped.each (fun k d hd => ?_) _ h
  extract_lets t e d1
  have hfilled : Pumped d d1 := exportFill_pumped t e _ hd
  split
  · have hready : Pumped d (setLib t e { libEntry d1 t e with st := 3, sent := 0 } d1) :=
      hfilled.trans (.setLib hfilled.sound rfl (.inr rfl))
    exact hready.trans (.postEvent hready.sound ..)
  · exact hfilled

/-- A change of an entry changes of the objects the events lost only. -/
theorem libState_below (h : Rising d.objs) (t e : Nat) (x : LibEntry) {i u : Nat} (hi : i < 0x5121) (hu : u < 256) :
    objGet (libState t e x d) i u = objGet d i u :=
  postEvent_below (d := setLib t e x d) h _ _ _ _ _ _ hi hu

/-- The number of the entry rises by 1. -/
theorem countExport_number (h : Rising d.objs) (t e : Nat) :
    bytesAt (objGet (countExport t e d) 0x2054 t) (4 * e) 4 = (bytesAt (objGet d 0x2054 t) (4 * e) 4 + 1) % 2 ^ 32 := by
  unfold countExport
  rw [objGet_set_self d h, bytesAt_putBytes]
  norm_num

/-- The entry is EXPORTING, or READY when the last of it has left already; what it holds stays. -/
theorem exportAct_does (h : Sound d) (ht : t < 256) (v : Payload) :
    let e := byteAt v.val 1
    bytesAt (objGet (exportAct t v d) 0x2054 t) (4 * e) 4 = (bytesAt (objGet d 0x2054 t) (4 * e) 4 + 1) % 2 ^ 32 ∧
      ((libEntry (exportAct t v d) t e).st = 5 ∨ (libEntry (exportAct t v d) t e).st = 3) ∧
      (libEntry (exportAct t v d) t e).entries = (libEntry d t e).entries := by
  intro e
  obtain ⟨x, hst, hentries, hact⟩ : ∃ x : LibEntry, x.st = 5 ∧ x.entries = (libEntry d t e).entries ∧
      exportAct t v d = exportPump (libState t e x (countExport t e d)) :=
    ⟨{ libEntry d t e with st := 5, sent := 0 }, rfl, rfl, rfl⟩
  have hcounted : Sound (countExport t e d) := (objSet_keeps (m := 4) rfl (.refl d)).sound h
  have hentry : libEntry (libState t e x (countExport t e d)) t e = x := libState_self hcounted.tabs.lib t e x
  have hpumped : Pumped (libState t e x (countExport t e d)) (exportAct t v d) :=
    hact ▸ exportPump_pumped ((libState_keeps (m := 549755820308) rfl (.refl _)).sound hcounted)
  refine ⟨?_, ?_, ?_⟩
  · rw [hpumped.object _ _ (by decide) ht, libState_below hcounted.objs.1 t e x (by decide) ht, countExport_number h.objs.1]
  · rw [← hst, ← hentry]
    exact hpumped.state t e
  · rw [hpumped.entries, hentry, hentries]

end

end Sys2Proof.Machine
end

section
set_option autoImplicit false
open Sys2Proof Sys2Proof.Machine

/-- Settles O56: what each granted command's act leaves of the session and of the library, and the three verdicts on a segment. -/
theorem clipsAndSplices : Obligations.ClipsAndSplices := by
  unfold Obligations.ClipsAndSplices
  refine ⟨?freeze, ?library, ?verification, ?splices⟩
  case freeze =>
    intro s q slot v hsound hslot hg y
    have hy : Sound y := sound_atTime q.now hsound
    obtain ⟨hsession, hentry⟩ := freezeAct_does hy slot v
    refine answers_performOn (c := .freezeRequest q slot v) (f := freezeAct slot v) (P := fun d =>
      (sess d slot).st = (sess y slot).st ∧ (sess d slot).freezes = (sess y slot).freezes ++
        [{ start := bytesAt v.val 0 8, fin := bytesAt v.val 8 8, e := byteAt v.val 16 }] ∧
      (libEntry d (ownerOf y slot) (byteAt v.val 16)).st = 1) rfl hslot hg ?_
    rw [sess_accept, libEntry_accept, hsession, hentry]
    exact ⟨rfl, rfl, rfl⟩
  case library =>
    intro s q t v hsound hslot hg y e k
    have hy : Sound y := sound_atTime q.now hsound
    refine ⟨fun hregister => ?_, fun hdelete => ?_, fun hexport => ?_⟩
    · have hact : ∀ d, libraryAct t v d = registerAct t v d := fun d => if_pos hregister
      have hown : Err.integrity ∉ libraryErrs t v y := granted_own hg .integrity
      rw [libraryErrs, if_pos hregister] at hown
      obtain ⟨b, hblock⟩ := registerErrs_block hown
      refine answers_library rfl hslot hg ?_
      simp only [libEntry_accept, hact]
      exact ⟨b, hblock, registerAct_entry hy hblock⟩
    · have hact : ∀ d, libraryAct t v d = deleteAct t v d := fun d => (if_neg (by omega)).trans (if_pos hdelete)
      refine answers_library rfl hslot hg ?_
      simp only [libEntry_accept, hact]
      refine ⟨?_, fun u _ hu => ?_⟩
      · exact (deleteAct_entry hy t v e).trans (if_pos rfl)
      · exact (deleteAct_entry hy t v u).trans (if_neg hu)
    · have hact : ∀ d, libraryAct t v d = exportAct t v d := fun d => (if_neg (by omega)).trans (if_neg (by omega))
      refine answers_library rfl hslot hg ?_
      simp only [libEntry_accept, objGet_accept, hact]
      exact exportAct_does hy (of_decide_eq_true hslot) v
  case verification =>
    intro s t e now bands hawake hsound hslot he y x es hdrs
    have hy : Sound y := sound_atTime now hsound
    have hunit : (isSlot t && decide (e < 64)) = true := by simp [hslot, he]
    have hverifies : ∀ {P : Dev → Prop}, P (segmentVerified t e bands y) →
        Answers (.segmentVerified t e bands now) s P := fun hp => answers_actOn rfl hunit hawake hp
    refine ⟨fun hother => hverifies (segmentVerified_stays hother), fun hst hlen => ⟨fun c hfails => hverifies ?_,
      fun hdr hpasses hhdr => hverifies ?_⟩⟩
    · exact segmentVerified_fails hst hlen hy.tabs.lib hfails
    · rw [segmentVerified_ready hst hlen hy.tabs.lib hpasses hhdr]
      exact ⟨rfl, rfl, rfl, rfl, rfl, rfl, rfl, rfl, rfl⟩
  case splices =>
    intro s q slot v hsound hslot y
    have hy : Sound y := sound_atTime q.now hsound
    refine ⟨fun hg => ?_, fun hg => ?_⟩
    · have hsession := spliceAct_session hy.tabs.sess slot v
      obtain ⟨hsplice, hst⟩ := spliceErrs_runs (granted_own hg .state)
      refine answers_performOn (f := spliceAct slot v) (P := fun d =>
        (sess d slot).splicePend = some (v % 64 + (if bit v 8 then 1024 else 0)) ∧ (sess d slot).splice = none ∧
        (sess d slot).st = .running) rfl hslot hg ?_
      rw [sess_accept, hsession]
      exact ⟨rfl, hsplice, hst⟩
    · have hsession := spliceReturnAct_session hy.tabs.sess slot
      refine answers_performOn (f := spliceReturnAct slot) (P := fun d => (sess d slot).splice = (sess y slot).splice ∧
        (sess d slot).spliceEnd = max 1 (sess y slot).spliceEnd) rfl hslot hg ?_
      rw [sess_accept, hsession]
      exact ⟨rfl, rfl⟩

end

section
/-! PROOFS. Stream keys and segment keys: what a granted key leaves of its destination and of its tenant (R255, R441, R443). -/
set_option autoImplicit false
namespace Sys2Proof.Machine

section
variable {d d' : Dev} {s e : Nat}

/-! ## A destination of a session -/

theorem dest_congr (h : d'.sess = d.sess) (s e : Nat) : dest d' s e = dest d s e := by unfold dest; rw [sess_congr h]

/-- Changing a destination leaves the others of its session. -/
theorem dest_setDest (hsess : Rising d.sess) (hdests : Rising (sess d s).dests) (e j : Nat) (x : Dest) :
    dest (setDest s e x d) s j = if j = e then x else dest d s j := by
  unfold dest setDest
  rw [sess_self d hsess]
  exact tabGet_put _ _ hdests _ _ _

@[simp] theorem sess_atTime (now : Nat) (d : Dev) (s : Nat) : sess (atTime now d) s = sess d s :=
  sess_congr (by simp only [atTime_frame]) s

@[simp] theorem dest_accept (q : Req) (i u : Nat) (d : Dev) (s e : Nat) : dest (accept q i u d) s e = dest d s e :=
  dest_congr (by simp only [accept_frame]) s e

@[simp] theorem tenantOf_atTime (now : Nat) (d : Dev) (t : Nat) : tenantOf (atTime now d) t = tenantOf d t :=
  tenantOf_congr (by simp only [atTime_frame]) t

@[simp] theorem tenantOf_accept (q : Req) (i u : Nat) (d : Dev) (t : Nat) : tenantOf (accept q i u d) t = tenantOf d t :=
  tenantOf_congr (by simp only [accept_frame]) t

/-- What is to be told to the lining is no part of a destination (R196). -/
theorem noteChange_dest (hsess : Rising d.sess) (u idx : Nat) : dest (noteChange u idx d) s e = dest d s e := by
  unfold noteChange
  split
  · rfl
  · unfold dest
    rw [sess_set d hsess]
    split
    · next hu => rw [hu]
    · rfl

/-- A note for the lining changes nothing but sessions. -/
theorem noteChange_frame (u idx : Nat) (d : Dev) : (noteChange u idx d).tenants = d.tenants ∧ (noteChange u idx d).objs = d.objs ∧
    (noteChange u idx d).heldStitch = d.heldStitch ∧ (noteChange u idx d).pke = d.pke := by
  unfold noteChange
  split <;> exact ⟨rfl, rfl, rfl, rfl⟩

/-! ## The line of destinations that wait for the stitch (R255) -/

/-- The destination waits in line for the next stitch, once. -/
def lineUp (s e : Nat) (d : Dev) : Dev :=
  if d.pke.destWaits.contains (s, e) then d
  else { d with pke := { d.pke with destWaits := d.pke.destWaits ++ [(s, e)] } }

theorem lineUp_waits (s e : Nat) (d : Dev) : (lineUp s e d).pke.destWaits =
    if (s, e) ∈ d.pke.destWaits then d.pke.destWaits else d.pke.destWaits ++ [(s, e)] := by
  unfold lineUp
  simp only [List.contains_iff_mem]
  split <;> rfl

theorem lineUp_frame (s e : Nat) (d : Dev) : (lineUp s e d).sess = d.sess ∧ (lineUp s e d).tenants = d.tenants ∧
    (lineUp s e d).objs = d.objs ∧ (lineUp s e d).heldStitch = d.heldStitch := by
  unfold lineUp
  split <;> exact ⟨rfl, rfl, rfl, rfl⟩

/-! ## Stream keys (R255, R441, R443) -/

/-- An accepted stream key is the new key of its destination, which waits in line. -/
theorem streamKeyAct_eq (s e v : Nat) (d : Dev) : streamKeyAct s e v d = noteChange s (0x3180 + e) (lineUp s e
    (setDest s e { dest d s e with newKey := some (byteAt v 1, unwrappedOf d (ownerOf d s) v) } d)) := rfl

theorem streamKeyAct_does (hsess : Rising d.sess) (hdests : Rising (sess d s).dests) (v : Nat) :
    dest (streamKeyAct s e v d) s e = { dest d s e with newKey := some (byteAt v 1, unwrappedOf d (ownerOf d s) v) } ∧
      (streamKeyAct s e v d).pke.destWaits =
        (if (s, e) ∈ d.pke.destWaits then d.pke.destWaits else d.pke.destWaits ++ [(s, e)]) ∧
      (streamKeyAct s e v d).tenants = d.tenants ∧ (streamKeyAct s e v d).objs = d.objs := by
  rw [streamKeyAct_eq]
  generalize hx : ({ dest d s e with newKey := some (byteAt v 1, unwrappedOf d (ownerOf d s) v) } : Dest) = x
  obtain ⟨htenants, hobjs, -, hpke⟩ := noteChange_frame s (0x3180 + e) (lineUp s e (setDest s e x d))
  obtain ⟨hlined, htenants', hobjs', -⟩ := lineUp_frame s e (setDest s e x d)
  have hkeyed : Rising (setDest s e x d).sess := setSess_rising d hsess s _
  refine ⟨?_, ?_, ?_, ?_⟩
  · rw [noteChange_dest (by rwa [hlined]), dest_congr hlined, dest_setDest hsess hdests, if_pos rfl]
  · rw [hpke, lineUp_waits]; rfl
  · rw [htenants, htenants']; rfl
  · rw [hobjs, hobjs']; rfl

/-- The previous key is gone once its hold has passed, and not before (R443). -/
theorem previousExpiry_dest (hsess : Rising d.sess) (hdests : Rising (sess d s).dests) :
    dest (previousExpiry s e d) s e =
      if (dest d s e).prevUntil ≤ d.tbs.ns then { dest d s e with prevKey := none } else dest d s e := by
  unfold previousExpiry
  dsimp only
  by_cases hpast : (dest d s e).prevUntil ≤ d.tbs.ns
  · rw [if_pos hpast]
    cases hkey : (dest d s e).prevKey with
    | none => rw [if_neg (by simp), ← hkey]
    | some k => rw [if_pos (by simp [hpast]), dest_setDest hsess hdests, if_pos rfl]
  · rw [if_neg hpast, if_neg (by simp [hpast])]

theorem previousExpiry_frame (s e : Nat) (d : Dev) : (previousExpiry s e d).tenants = d.tenants ∧
    (previousExpiry s e d).pke = d.pke ∧ (previousExpiry s e d).emitted = d.emitted := by
  unfold previousExpiry
  dsimp only
  split <;> exact ⟨rfl, rfl, rfl⟩

/-! ## Segment keys (R441) -/

/-- The slot of a segment key after a blob of value `v`: the key, or nothing. -/
def segmentKeyOf (d : Dev) (t v : Nat) : Option Nat := if v = 0 then none else some (bytesAt (unwrappedOf d t v) 0 32)

theorem segmentKeyAct_does {t : Nat} (h : Rising d.tenants) (hsegs : Rising (tenantOf d t).segs) (k v : Nat) :
    (∀ j, tabFind (tenantOf (segmentKeyAct t k v d) t).segs j =
      if j = k then segmentKeyOf d t v else tabFind (tenantOf d t).segs j) ∧
    (tenantOf (segmentKeyAct t k v d) t).st = (tenantOf d t).st ∧ (tenantOf (segmentKeyAct t k v d) t).root = (tenantOf d t).root := by
  unfold segmentKeyAct segmentKeyOf
  dsimp only
  rw [tenant_set _ _ _ _ h, if_pos rfl]
  refine ⟨fun j => ?_, rfl, rfl⟩
  by_cases hv : v = 0
  · rw [if_pos hv, if_pos hv, tabFind_erase _ _ _ hsegs]
  · rw [if_neg hv, if_neg hv, tabFind_set]

/-! ## A granted write -/

/-- A granted write is performed and answered, whatever its refusals do besides. -/
theorem answers_decidedOn {c : Instr} {σ : State} {q : Req} {i u : Nat} {own : Dev → List Err} {bad : Err → Dev → Dev}
    {f : Dev → Dev} {P : Dev → Prop} {unit : Bool}
    (he : exec c σ = actOn unit (decideWrite q i u own bad fun d0 => accept q i u (f d0)) σ) (hunit : unit = true)
    (hg : granted q i u own σ.dev = true) (hp : P (accept q i u (f (atTime q.now σ.dev)))) :
    Answers c σ (fun d => Accepted q i u d ∧ P d) := by
  refine answers_actOn he hunit (granted_held hg) ?_
  rw [decideWrite_granted hg]
  exact ⟨accepted_accept q i u _, hp⟩

end

end Sys2Proof.Machine
end

section
set_option autoImplicit false
open Sys2Proof Sys2Proof.Machine

/-- Settles O37: a granted key acts as the lemma of its act says, and answering the request leaves that as it is. -/
theorem streamKeys : Obligations.StreamKeys := by
  unfold Obligations.StreamKeys
  refine ⟨?stream, ?previous, ?segment⟩
  case stream =>
    intro s q slot e v ok hsound hdests hslot he hg y
    have hy : Sound y := sound_atTime q.now hsound
    have hdests' : Rising (sess y slot).dests := by rwa [sess_atTime]
    have hact := streamKeyAct_does (e := e) hy.tabs.sess hdests' v.val
    refine answers_decidedOn (f := streamKeyAct slot e v.val) (P := fun d =>
      dest d slot e = { dest y slot e with newKey := some (byteAt v.val 1, unwrappedOf y (ownerOf y slot) v.val) } ∧
      d.pke.destWaits = (if (slot, e) ∈ y.pke.destWaits then y.pke.destWaits else y.pke.destWaits ++ [(slot, e)]) ∧
      d.tenants = y.tenants ∧ d.objs = y.objs) rfl (by simp [hslot, he]) hg ?_
    simp only [dest_accept, accept_frame]
    exact hact
  case previous =>
    intro s slot e now hawake hsound hdests hslot he y
    have hy : Sound y := sound_atTime now hsound
    have hdests' : Rising (sess y slot).dests := by rwa [sess_atTime]
    exact answers_actOn rfl (by simp [hslot, he]) hawake
      ⟨previousExpiry_dest hy.tabs.sess hdests', previousExpiry_frame slot e y⟩
  case segment =>
    intro s q t k v ok hsound hsegs hslot hk hg y
    have hy : Sound y := sound_atTime q.now hsound
    have hsegs' : Rising (tenantOf y t).segs := by rwa [tenantOf_atTime]
    obtain ⟨hslots, hst, hroot⟩ := segmentKeyAct_does hy.tabs.tenants hsegs' k v.val
    refine answers_decidedOn (f := segmentKeyAct t k v.val) (P := fun d =>
      tabFind (tenantOf d t).segs k = segmentKeyOf y t v.val ∧
      (∀ j, j ≠ k → tabFind (tenantOf d t).segs j = tabFind (tenantOf y t).segs j) ∧
      (tenantOf d t).st = (tenantOf y t).st ∧ (tenantOf d t).root = (tenantOf y t).root) rfl (by simp [hslot, hk]) hg ?_
    simp only [tenantOf_accept]
    exact ⟨(hslots k).trans (if_pos rfl), fun j hj => (hslots j).trans (if_neg hj), hst, hroot⟩

end

section
/-! PROOFS. Destination and shaper entries, port modes, a refresh by command and sender reports (R156, R247, R254, R255, R271). -/
set_option autoImplicit false
namespace Sys2Proof.Machine

section
variable {d d' : Dev} {s e i u v : Nat}

/-! ## A change that waits for the stitch (R23) -/

theorem objNow_congr (hobjs : d'.objs = d.objs) (hheld : d'.heldStitch = d.heldStitch) (i u : Nat) : objNow d' i u = objNow d i u := by
  unfold objNow
  rw [hheld, objGet_congr hobjs]

@[simp] theorem objNow_accept (q : Req) (i u : Nat) (d : Dev) (j w : Nat) : objNow (accept q i u d) j w = objNow d j w :=
  objNow_congr (by simp only [accept_frame]) (by simp only [accept_frame]) j w

/-- A block whose dictionary is as after a change for the stitch shows the new value, and uses the one of before. -/
theorem object_changed {d1 : Dev} (h : Rising d.objs) (hobjs1 : d1.objs = d.objs) (hheld1 : d1.heldStitch = d.heldStitch)
    (hobjs : d'.objs = (objSetStitch i u v d1).objs) (hheld : d'.heldStitch = (objSetStitch i u v d1).heldStitch) :
    objGet d' i u = v ∧ objNow d' i u = objNow d i u := by
  obtain ⟨hget, hnow⟩ := objSetStitch_does (d := d1) (hobjs1 ▸ h) i u v
  rw [objGet_congr hobjs, objNow_congr hobjs hheld, hget, hnow, objNow_congr hobjs1 hheld1]
  exact ⟨rfl, rfl⟩

/-- A write whose instant was reached before it is decided is decided at that instant. -/
theorem perform_atTime (q : Req) (i u : Nat) (own : Dev → List Err) (f : Dev → Dev) (d : Dev) :
    perform q i u own f (atTime q.now d) = perform q i u own f d := by
  unfold perform decideWrite
  rw [atTime_reached rfl]

/-! ## Destination and shaper entries (R254, R255) -/

/-- Reserving blocks changes neither the dictionary nor what the stitch-scheduled path uses of it. -/
theorem allocAll_objects (t : Nat) (need : List (Nat × Use)) (d : Dev) :
    ((allocAll t need d).getD d).objs = d.objs ∧ ((allocAll t need d).getD d).heldStitch = d.heldStitch :=
  have hkeeps : Keeps 1073741824 d ((allocAll t need d).getD d) := (allocAll_keeps (m := 1073741824) rfl (.refl d)).getD (.refl d)
  ⟨(hkeeps.only .objs rfl).symm, (hkeeps.only .heldStitch rfl).symm⟩

/-- A destination's entry is written once its queue is reserved or given back. -/
theorem destAct_eq (s e v : Nat) (d : Dev) : ∃ d1, d1.objs = d.objs ∧ d1.heldStitch = d.heldStitch ∧
    destAct s e v d = noteChange s (0x3100 + e) (lineUp s e (objSetStitch (0x3100 + e) s v d1)) := by
  refine ⟨_, ?_, ?_, rfl⟩ <;> split
  · exact (allocAll_objects _ _ d).1
  · split
    · exact releaseUse_objs _ d
    · rfl
  · exact (allocAll_objects _ _ d).2
  · split
    · exact ((releaseUse_keeps (m := 3221225472) rfl (.refl d)).only .heldStitch rfl).symm
    · rfl

theorem destAct_does (h : Rising d.objs) (s e v : Nat) : objGet (destAct s e v d) (0x3100 + e) s = v ∧
    objNow (destAct s e v d) (0x3100 + e) s = objNow d (0x3100 + e) s ∧ (s, e) ∈ (destAct s e v d).pke.destWaits := by
  obtain ⟨d1, hobjs1, hheld1, hact⟩ := destAct_eq s e v d
  obtain ⟨-, hobjs, hheld, hpke⟩ := noteChange_frame s (0x3100 + e) (lineUp s e (objSetStitch (0x3100 + e) s v d1))
  obtain ⟨-, -, hobjs', hheld'⟩ := lineUp_frame s e (objSetStitch (0x3100 + e) s v d1)
  obtain ⟨hget, hnow⟩ := object_changed h hobjs1 hheld1 (hobjs.trans hobjs') (hheld.trans hheld')
  rw [hact, hpke, lineUp_waits]
  refine ⟨hget, hnow, ?_⟩
  split
  · assumption
  · exact List.mem_append_right _ (List.mem_singleton_self _)

/-- A shaper's entry is written once the queue of an enabled destination has grown with its limit. -/
theorem shaperAct_eq (s e v : Nat) (d : Dev) : ∃ d1, d1.objs = d.objs ∧ d1.heldStitch = d.heldStitch ∧
    shaperAct s e v d = noteChange s (0x3140 + e) (objSetStitch (0x3140 + e) s v d1) := by
  refine ⟨_, ?_, ?_, rfl⟩ <;> split
  · exact (allocAll_objects _ _ d).1
  · rfl
  · exact (allocAll_objects _ _ d).2
  · rfl

theorem shaperAct_does (h : Rising d.objs) (s e v : Nat) : objGet (shaperAct s e v d) (0x3140 + e) s = v ∧
    objNow (shaperAct s e v d) (0x3140 + e) s = objNow d (0x3140 + e) s := by
  obtain ⟨d1, hobjs1, hheld1, hact⟩ := shaperAct_eq s e v d
  obtain ⟨-, hobjs, hheld, -⟩ := noteChange_frame s (0x3140 + e) (objSetStitch (0x3140 + e) s v d1)
  rw [hact]
  exact object_changed h hobjs1 hheld1 hobjs hheld

/-! ## A refresh by command (R156) -/

/-- The stream holds a trigger unless a cycle runs, which absorbs it. -/
theorem triggerCycle_does (h : Rising d.streams) (sid : Nat) :
    (stream (triggerCycle sid d) sid).trigger = ((stream d sid).trigger || (stream d sid).cycle.isNone) ∧
      (stream (triggerCycle sid d) sid).frames = (stream d sid).frames := by
  unfold triggerCycle
  rw [stream_set d h, if_pos rfl]
  cases hcycle : (stream d sid).cycle with
  | none => simp
  | some c => simp

/-! ## What sending leaves of a session -/

/-- What `g` reads of each session stays. -/
def SameOf {α : Type} (g : Session → α) (d d' : Dev) : Prop := Rising d.sess → Rising d'.sess ∧ ∀ u, g (sess d' u) = g (sess d u)

section
variable {α : Type} {g : Session → α}

theorem SameOf.of (h : d'.sess = d.sess) : SameOf g d d' := fun r => ⟨h ▸ r, fun u => by rw [sess_congr h]⟩

theorem SameOf.trans {a b c : Dev} (hab : SameOf g a b) (hbc : SameOf g b c) : SameOf g a c := fun r => by
  obtain ⟨hb, hsame⟩ := hab r
  obtain ⟨hc, hsame'⟩ := hbc hb
  exact ⟨hc, fun u => (hsame' u).trans (hsame u)⟩

theorem SameOf.set {k : Nat} {x : Session} (h : g x = g (sess d k)) : SameOf g d (setSess k x d) := fun r =>
  ⟨rising_put r, fun u => by
    rw [sess_set d r]
    split
    · next hu => rw [hu, h]
    · rfl⟩

theorem SameOf.each {β : Type} {f : β → Dev → Dev} (h : ∀ b d, SameOf g d (f b d)) : ∀ (l : List β) (d : Dev), SameOf g d (forEach l f d)
  | [], _ => .of rfl
  | b :: l, d => (h b d).trans (SameOf.each h l (f b d))

variable (hpkts : ∀ (x : Session) (t : Tab PktRec), g { x with pkts := t } = g x)
  (hmedia : ∀ (x : Session) (t : Option Nat), g { x with lastMedia := t } = g x)
include hpkts hmedia

/-- A packet that is sent changes of its session the record of the packet and the instant of the last media. -/
theorem SameOf.markSent (k : Pkt) (d : Dev) : SameOf g d (markSent k d) := by
  have hcopy : ∀ f, SameOf g d (updCopy k.s k.seq k.e f d) := fun _ => .set (hpkts _ _)
  unfold Machine.markSent
  split
  · exact (hcopy _).trans (.set (hmedia _ _))
  · split
    · exact hcopy _
    · exact .of rfl

theorem SameOf.discardQueues (p : Nat) (d : Dev) : SameOf g d (discardQueues p d) := by
  unfold Machine.discardQueues
  dsimp only
  split
  · exact .of rfl
  · refine SameOf.trans (SameOf.trans ?_ (.each (SameOf.markSent hpkts hmedia) _ _)) (.of rfl)
    exact .of (by simp only [objCount_frame])

theorem SameOf.enterClass (p c : Nat) (k : Pkt) (d : Dev) : SameOf g d (enterClass p c k d) :=
  SameOf.trans (.of (by simp only [regSet_frame]; rfl)) (.discardQueues hpkts hmedia p _)

end

/-! ## Sender reports (R271) -/

/-- A report counts itself at its destination and enters the class queue of the port. -/
theorem reportTo_eq (s e : Nat) (d : Dev) : ∃ p k,
    reportTo s e d = enterClass p 2 k (setDest s e { dest d s e with srtcp := (dest d s e).srtcp + 1 } d) := ⟨_, _, rfl⟩

/-- A session whose destinations are in their order, with what its sender reports keep. -/
structure Reporting (s : Nat) (tx : Transport) (d : Dev) : Prop where
  sess : Rising d.sess
  dests : Rising (Machine.sess d s).dests
  tx : (Machine.sess d s).tx = tx

theorem reportTo_does {tx : Transport} (h : Reporting s tx d) (e : Nat) : Reporting s tx (reportTo s e d) ∧
    ∀ j, (dest (reportTo s e d) s j).srtcp = (dest d s j).srtcp + if j = e then 1 else 0 := by
  obtain ⟨p, k, hreport⟩ := reportTo_eq s e d
  generalize hx : ({ dest d s e with srtcp := (dest d s e).srtcp + 1 } : Dest) = x at hreport
  have hset : sess (setDest s e x d) s = { sess d s with dests := tabPut {} (sess d s).dests e x } := sess_self d h.sess s _
  have hrising : Rising (setDest s e x d).sess := setSess_rising d h.sess s _
  obtain ⟨hsess, hsame⟩ := SameOf.enterClass (g := fun y => (y.dests, y.tx)) (fun _ _ => rfl) (fun _ _ => rfl) p 2 k
    (setDest s e x d) hrising
  rw [← hreport] at hsess hsame
  obtain ⟨hdests, htx⟩ := Prod.mk.inj (hsame s)
  refine ⟨⟨hsess, ?_, ?_⟩, fun j => ?_⟩
  · rw [hdests, hset]
    exact rising_put h.dests
  · rw [htx, hset, h.tx]
  · have hdest : dest (reportTo s e d) s j = dest (setDest s e x d) s j := by unfold dest; rw [hdests]
    rw [hdest, dest_setDest h.sess h.dests]
    split
    · next hj => rw [← hx, hj]
    · rfl

/-- Each destination of a list without repetition gets one report. -/
theorem reportAll_does {tx : Transport} : ∀ (l : List Nat) {d : Dev}, l.Nodup → Reporting s tx d →
    Reporting s tx (forEach l (reportTo s) d) ∧
      ∀ j, (dest (forEach l (reportTo s) d) s j).srtcp = (dest d s j).srtcp + if j ∈ l then 1 else 0
  | [], _, _, h => ⟨h, fun _ => rfl⟩
  | e :: l, d, hnodup, h => by
    obtain ⟨hnew, hnodup'⟩ := List.nodup_cons.1 hnodup
    obtain ⟨hfirst, hcount⟩ := reportTo_does h e
    obtain ⟨hrest, hcounts⟩ := reportAll_does l hnodup' hfirst
    refine ⟨hrest, fun j => (hcounts j).trans ?_⟩
    rw [hcount]
    by_cases hj : j = e
    · simp [hj, hnew]
    · simp [hj]

/-- When is a sender report of the session due (R271)? -/
def reportDue (s : Nat) (d : Dev) : Prop :=
  [SessSt.running, .paused, .suspended, .draining].contains (sess d s).st = true ∧ (sess d s).tx.silent = false ∧
    ∀ t, (sess d s).tx.srAt = some t → t + objNow d 0x30C1 s ≤ d.tbs.cnt

/-- The destinations that get a report: the enabled ones that have a key. -/
def reportedDests (d : Dev) (s : Nat) : List Nat := (enabledDests d s).filter fun e => (dest d s e).key.isSome

/-- The instant of the reports is kept. -/
def reportNoted (s : Nat) (d : Dev) : Dev :=
  setSess s { sess d s with tx := { (sess d s).tx with srAt := some d.tbs.cnt } } d

theorem senderReport_due (h : reportDue s d) : senderReport s d = forEach (reportedDests d s) (reportTo s) (reportNoted s d) := by
  obtain ⟨hst, hsilent, hwhen⟩ := h
  unfold senderReport
  dsimp only
  cases hat : (sess d s).tx.srAt with
  | none => exact if_neg (by simp only [hst, hsilent]; decide)
  | some t => exact if_neg (by simp only [hst, hsilent, hwhen t hat]; decide)

theorem senderReport_not_due (h : ¬ reportDue s d) : senderReport s d = d := by
  unfold senderReport
  dsimp only
  refine if_pos (by_contra fun hsends => h ?_)
  simp only [Bool.or_eq_true, Bool.not_eq_true', not_or, Bool.not_eq_false, Bool.not_eq_true] at hsends
  obtain ⟨⟨hst, hsilent⟩, hdue⟩ := hsends
  refine ⟨hst, hsilent, fun t ht => ?_⟩
  simpa [ht] using hdue

/-- The reports that are due: their instant is kept, and each enabled destination with a key has one more. -/
theorem senderReport_reports (hdue : reportDue s d) (hsess : Rising d.sess) (hdests : Rising (sess d s).dests) :
    (sess (senderReport s d) s).tx.srAt = some d.tbs.cnt ∧ ∀ e ∈ enabledDests d s,
      (dest (senderReport s d) s e).srtcp = (dest d s e).srtcp + if (dest d s e).key.isSome then 1 else 0 := by
  have hnoted : sess (reportNoted s d) s = { sess d s with tx := { (sess d s).tx with srAt := some d.tbs.cnt } } :=
    sess_self d hsess s _
  have hready : Reporting s { (sess d s).tx with srAt := some d.tbs.cnt } (reportNoted s d) :=
    ⟨setSess_rising d hsess s _, by rwa [hnoted], by rw [hnoted]⟩
  have hnodup : (reportedDests d s).Nodup := (List.nodup_range.filter _).filter _
  obtain ⟨hsent, hcounts⟩ := reportAll_does (reportedDests d s) hnodup hready
  rw [senderReport_due hdue]
  refine ⟨by rw [hsent.tx], fun e he => ?_⟩
  have hdest : dest (reportNoted s d) s e = dest d s e := by unfold dest; rw [hnoted]
  have hgets : e ∈ reportedDests d s ↔ (dest d s e).key.isSome = true := by simp [reportedDests, he]
  rw [hcounts, hdest]
  simp only [hgets]

end

end Sys2Proof.Machine
end

section
set_option autoImplicit false
open Sys2Proof Sys2Proof.Machine

/-- Settles O50: a granted write acts as the lemma of its act says, and a report that is due goes to each destination in turn. -/
theorem egressTables : Obligations.EgressTables := by
  unfold Obligations.EgressTables
  refine ⟨?entries, ?modes, ?refresh, ?report⟩
  case entries =>
    intro s q slot e v hsound hslot he y
    have hy : Sound y := sound_atTime q.now hsound
    refine ⟨fun hg => ?_, fun hg => ?_⟩
    · refine answers_performOn (f := destAct slot e v.val) (P := fun d => objGet d (0x3100 + e) slot = v.val ∧
        objNow d (0x3100 + e) slot = objNow y (0x3100 + e) slot ∧ (slot, e) ∈ d.pke.destWaits)
        (congrArg (actOn _ · s) (funext (perform_atTime q _ slot _ _))) (decide_eq_true he) hg ?_
      simp only [objGet_accept, objNow_accept, accept_frame]
      exact destAct_does hy.objs.1 slot e v.val
    · refine answers_performOn (f := shaperAct slot e v.val) (P := fun d => objGet d (0x3140 + e) slot = v.val ∧
        objNow d (0x3140 + e) slot = objNow y (0x3140 + e) slot)
        (congrArg (actOn _ · s) (funext (perform_atTime q _ slot _ _))) (decide_eq_true he) hg ?_
      simp only [objGet_accept, objNow_accept]
      exact shaperAct_does hy.objs.1 slot e v.val
  case modes =>
    intro s q v hsound hg
    have hy : Sound (atTime q.now s.dev) := sound_atTime q.now hsound
    refine answers_perform (f := objSetStitch 0x1A00 0 v) (P := fun d => objGet d 0x1A00 0 = v ∧
      objNow d 0x1A00 0 = objNow (atTime q.now s.dev) 0x1A00 0) (congrArg (act · s) (funext (perform_atTime q _ 0 _ _))) hg ?_
    simp only [objGet_accept, objNow_accept]
    exact objSetStitch_does hy.objs.1 0x1A00 0 v
  case refresh =>
    intro s q slot v hsound hg
    have hy : Sound (atTime q.now s.dev) := sound_atTime q.now hsound
    have hstream : stream (atTime q.now s.dev) (liveSid slot) = stream s.dev (liveSid slot) :=
      stream_congr (by simp only [atTime_frame]) _
    refine answers_perform (f := triggerCycle (liveSid slot)) (P := fun d =>
      (stream d (liveSid slot)).trigger = ((stream s.dev (liveSid slot)).trigger || (stream s.dev (liveSid slot)).cycle.isNone) ∧
      (stream d (liveSid slot)).frames = (stream s.dev (liveSid slot)).frames)
      (congrArg (act · s) (funext (perform_atTime q _ slot _ _))) hg ?_
    rw [stream_congr (d := triggerCycle (liveSid slot) (atTime q.now s.dev)) (by simp only [accept_frame]), ← hstream]
    exact triggerCycle_does hy.tabs.streams (liveSid slot)
  case report =>
    intro s slot now hawake hsound hslot hdests y x due
    have hy : Sound y := sound_atTime now hsound
    have hdests' : Rising (sess y slot).dests := by rwa [sess_atTime]
    refine ⟨fun hdue => answers_actOn rfl hslot hawake ?_, fun hdue => answers_actOn rfl hslot hawake ?_⟩
    · exact senderReport_reports hdue hy.tabs.sess hdests'
    · exact senderReport_not_due hdue

end

section
/-! PROOFS. What packets that enter and leave queues keep of the ports, the frames sent and the registers (R237, R249, R265, R272). -/
set_option autoImplicit false
namespace Sys2Proof.Machine

section
variable {d d' : Dev}

/-! ## A logical port -/

theorem port_congr (h : d'.pke.ports = d.pke.ports) (p : Nat) : port d' p = port d p := by unfold port; rw [h]

theorem port_setPort (h : Rising d.pke.ports) (p j : Nat) (x : Port) : port (setPort p x d) j = if j = p then x else port d j :=
  tabGet_put _ _ h _ _ _

theorem regSet_rising (h : Rising d.regs) (k v : Nat) : Rising (regSet k v d).regs := by
  unfold regSet
  split
  · exact rising_erase h
  · exact rising_set h

/-! ## Frames sent stay sent -/

theorem postEvent_sent {o : Output} (h : Sent o d) (fn ty kind code subject detail : Nat) :
    Sent o (postEvent fn ty kind code subject detail d) := by
  have hwrites : ∀ ty kind code detail {z : Dev}, Sent o z → Sent o (writeEvent fn ty kind code subject detail z) :=
    fun _ _ _ _ _ hz => sent_emit_of hz
  unfold postEvent
  extract_lets k r q lost dropped
  split
  · have hlost : Sent o lost := by
      unfold lost
      split
      · exact h
      · exact sent_emit_of (d := setFnQ fn { q with lostSince := 0 } d) h
    exact sent_mono (by simp only [raise_frame]) (hwrites ty kind code detail hlost)
  · have hdropped : Sent o dropped := h
    split
    · exact hdropped
    · exact sent_mono (by simp only [objCount_frame]) hdropped

/-! ## What moves between queues -/

/-- A port but for what is queued at it. -/
def bare (x : Port) : Port := { x with queues := [] }

/-- What packets that enter class queues, or are sent or discarded, keep: of each port all but its queues, everything that the
block has sent, and the registers below the depth marks. -/
structure Moved (d d' : Dev) : Prop where
  ports : Rising d.pke.ports → Rising d'.pke.ports ∧ ∀ p, bare (port d' p) = bare (port d p)
  sent : ∀ o, Sent o d → Sent o d'
  regs : Rising d.regs → Rising d'.regs ∧ ∀ k, k < Reg.pkeDepthHwm.base → regGet d' k = regGet d k

theorem Moved.of (hports : d'.pke.ports = d.pke.ports) (hsent : ∀ o, Sent o d → Sent o d') (hregs : d'.regs = d.regs) :
    Moved d d' where
  ports h := ⟨hports ▸ h, fun p => by rw [port_congr hports]⟩
  sent := hsent
  regs h := ⟨hregs ▸ h, fun k _ => regGet_congr hregs k⟩

theorem Moved.busyUntil (h : Moved d d') (hports : Rising d.pke.ports) (p : Nat) : (port d' p).busyUntil = (port d p).busyUntil := by
  show (bare (port d' p)).busyUntil = (bare (port d p)).busyUntil
  rw [(h.ports hports).2 p]

theorem Moved.link (h : Moved d d') (hports : Rising d.pke.ports) (p : Nat) : (port d' p).link = (port d p).link := by
  show (bare (port d' p)).link = (bare (port d p)).link
  rw [(h.ports hports).2 p]

theorem Moved.refl (d : Dev) : Moved d d := .of rfl (fun _ => id) rfl

theorem Moved.trans {a b c : Dev} (hab : Moved a b) (hbc : Moved b c) : Moved a c where
  ports h := by
    obtain ⟨hb, hsame⟩ := hab.ports h
    obtain ⟨hc, hsame'⟩ := hbc.ports hb
    exact ⟨hc, fun p => (hsame' p).trans (hsame p)⟩
  sent o h := hbc.sent o (hab.sent o h)
  regs h := by
    obtain ⟨hb, hsame⟩ := hab.regs h
    obtain ⟨hc, hsame'⟩ := hbc.regs hb
    exact ⟨hc, fun k hk => (hsame' k hk).trans (hsame k hk)⟩

theorem Moved.each {α : Type} {f : α → Dev → Dev} (h : ∀ a d, Moved d (f a d)) : ∀ (l : List α) (d : Dev), Moved d (forEach l f d)
  | [], d => .refl d
  | a :: l, d => (h a d).trans (Moved.each h l (f a d))

/-- The queues of a port change. -/
theorem Moved.setQueues (p : Nat) (l : Tab (List Pkt)) (d : Dev) : Moved d (setPort p { port d p with queues := l } d) where
  ports h := ⟨rising_put h, fun j => by
    rw [port_setPort h]
    split
    · next hj => rw [hj]; rfl
    · rfl⟩
  sent _ := sent_mono rfl
  regs h := ⟨h, fun _ _ => rfl⟩

/-- A depth mark rises. -/
theorem Moved.depthMark (i v : Nat) (d : Dev) : Moved d (regSet (Reg.pkeDepthHwm.at i) v d) where
  ports h := by
    have hpke : (regSet (Reg.pkeDepthHwm.at i) v d).pke = d.pke := by simp only [regSet_frame]
    exact ⟨hpke ▸ h, fun p => by rw [port_congr (congrArg Pke.ports hpke)]⟩
  sent _ := sent_mono (by simp only [regSet_frame])
  regs h := ⟨regSet_rising h _ _, fun k hk => by
    rw [regGet_set d h, if_neg]
    simp only [Reg.at]
    omega⟩

theorem Moved.objCount (w i u n : Nat) (d : Dev) : Moved d (objCount w i u n d) :=
  .of (by simp only [objCount_frame]) (fun _ => sent_mono (by simp only [objCount_frame])) (by simp only [objCount_frame])

theorem Moved.objMax (i u v : Nat) (d : Dev) : Moved d (objMax i u v d) :=
  .of (by simp only [objMax_frame]) (fun _ => sent_mono (by simp only [objMax_frame])) (by simp only [objMax_frame])

theorem Moved.markSent (k : Pkt) (d : Dev) : Moved d (markSent k d) :=
  have h := (markSent_keeps (m := 134217728) (k := k) rfl (.refl d)).only
  .of (congrArg Pke.ports (h .pke rfl).symm) (fun _ => sent_mono (h .emitted rfl).symm) (h .regs rfl).symm

theorem Moved.discardQueues (p : Nat) (d : Dev) : Moved d (discardQueues p d) := by
  unfold Machine.discardQueues
  extract_lets all d1
  split
  · exact .refl d
  · exact Moved.trans (Moved.trans (.objCount ..) (.each Moved.markSent all _)) (.setQueues p [] d1)

theorem Moved.enterClass (p c : Nat) (k : Pkt) (d : Dev) : Moved d (enterClass p c k d) :=
  Moved.trans (Moved.trans (.setQueues p _ d) (.depthMark (8 * p + c) _ _)) (.discardQueues p _)

/-! ## Destination queues (R265) -/

theorem Moved.setDest (s e : Nat) (x : Dest) (d : Dev) : Moved d (setDest s e x d) := .of rfl (fun _ => id) rfl

theorem Moved.passHead (s e : Nat) (k : Pkt) (d : Dev) : Moved d (passHead s e k d) :=
  Moved.trans (.setDest s e _ d) (.enterClass _ 0 k _)

theorem Moved.passLoop (l : List (Nat × Nat)) : ∀ (n : Nat) (d : Dev), Moved d (passLoop l n d)
  | 0, d => .refl d
  | n + 1, d => by
    unfold Machine.passLoop
    split
    · exact .refl d
    · exact (Moved.passHead _ _ _ d).trans (Moved.passLoop l n _)

theorem Moved.passAll (d : Dev) : Moved d (passAll d) := .passLoop _ _ d

/-! ## Exports (R237) -/

theorem Moved.postEvent (fn ty kind code subject detail : Nat) (d : Dev) : Moved d (postEvent fn ty kind code subject detail d) :=
  .of (by simp only [postEvent_frame]) (fun _ h => postEvent_sent h ..) (by simp only [postEvent_frame])

theorem Moved.setLib (t e : Nat) (x : LibEntry) (d : Dev) : Moved d (setLib t e x d) := .of rfl (fun _ => id) rfl

theorem Moved.exportFill (t e : Nat) : ∀ (n : Nat) (d : Dev), Moved d (exportFill t e n d)
  | 0, d => .refl d
  | n + 1, d => by
    unfold Machine.exportFill
    extract_lets x len k p
    split
    · exact .refl d
    · exact Moved.trans (Moved.trans (.setLib t e _ d) (.enterClass p 4 k _)) (Moved.exportFill t e n _)

theorem Moved.exportPump (d : Dev) : Moved d (exportPump d) := by
  refine Moved.each (fun k d => ?_) _ d
  extract_lets t e d1
  have hfilled : Moved d d1 := .exportFill t e _ d
  split
  · exact hfilled.trans (Moved.trans (.setLib t e _ d1) (.postEvent ..))
  · exact hfilled

/-! ## A frame that leaves (R251, R262, R270, R277) -/

theorem Moved.pushStamp (p ty seq t : Nat) (d : Dev) : Moved d (pushStamp p ty seq t d) := by
  unfold Machine.pushStamp
  split
  · exact .of rfl (fun _ => id) rfl
  · exact Moved.trans (b := { d with pke := { d.pke with stampsLost := min 127 (d.pke.stampsLost + 1) } })
      (.of rfl (fun _ => id) rfl) (.objCount ..)

theorem Moved.onSend (p : Nat) (k : Pkt) (fin : Nat) (d : Dev) : Moved d (onSend p k fin d) := by
  have hmarked : Moved d (Machine.markSent k d) := .markSent k d
  unfold Machine.onSend
  extract_lets d1 d2
  split
  · have hcounted : Moved d d2 := hmarked.trans (.setDest _ _ _ d1)
    split
    · exact hcounted
    · exact hcounted.trans (.objMax ..)
  · split
    · exact hmarked.trans (.setDest _ _ _ d1)
    · split
      · exact hmarked.trans (.exportPump d1)
      · split
        · exact hmarked.trans (.pushStamp ..)
        · exact hmarked

end

end Sys2Proof.Machine
end

section
/-! PROOFS. Gates, the MAC, links of ports, timestamps and the retransmission store (R247, R249, R251, R269, R273, R274). -/
set_option autoImplicit false
namespace Sys2Proof.Machine

section
variable {d : Dev} {p : Nat}

/-! ## Gates (R273) -/

/-- Has the gate entry of a port lasted its time, with another after it? -/
def gateDue (p : Nat) (d : Dev) : Prop := (port d p).entry + 1 < gateCount (gateList d p) ∧
  (port d p).entryAt + gateDur (gateList d p) (port d p).entry ≤ d.tbs.ns

theorem gateExpiry_due (h : gateDue p d) : gateExpiry p d = setPort p { port d p with
    entry := (port d p).entry + 1, entryAt := (port d p).entryAt + gateDur (gateList d p) (port d p).entry } d :=
  if_pos (Bool.and_eq_true_iff.2 ⟨decide_eq_true h.1, decide_eq_true h.2⟩)

theorem gateExpiry_early (h : ¬ gateDue p d) : gateExpiry p d = d :=
  if_neg fun hdue => h ((Bool.and_eq_true_iff.1 hdue).imp of_decide_eq_true of_decide_eq_true)

/-! ## The selection of a class (R274) -/

theorem deferHead_ports (h : Rising d.pke.ports) (p c : Nat) : Rising (deferHead p c d).pke.ports := by
  unfold deferHead
  split
  · exact h
  · split
    · exact h
    · simp only [regCount_frame]
      exact rising_put h

/-- The selection of a class defers heads: it changes nothing of the time and the objects. -/
theorem selectClass_does {c : Nat} : ∀ (l : List Nat) {d d1 : Dev}, selectClass p l d = (d1, some c) → Rising d.pke.ports →
    Rising d1.pke.ports ∧ d1.tbs = d.tbs ∧ d1.objs = d.objs ∧ d1.heldStitch = d.heldStitch
  | [], d, d1, hsel, _ => by cases hsel
  | a :: l, d, d1, hsel, h => by
    unfold selectClass at hsel
    split at hsel
    · exact selectClass_does l hsel h
    · cases hsel
      exact ⟨h, rfl, rfl, rfl⟩
    · obtain ⟨hports, htbs, hobjs, hheld⟩ := selectClass_does l hsel (deferHead_ports h p a)
      have hkeeps := (deferHead_keeps (m := 274877906945) (p := p) (c := a) rfl (.refl d)).only
      exact ⟨hports, htbs.trans (hkeeps .tbs rfl).symm, hobjs.trans (hkeeps .objs rfl).symm,
        hheld.trans (hkeeps .heldStitch rfl).symm⟩

theorem wireTime_congr {d' : Dev} (hobjs : d'.objs = d.objs) (hheld : d'.heldStitch = d.heldStitch) (p n : Nat) :
    wireTime d' p n = wireTime d p n := by
  unfold wireTime byteTime
  rw [objNow_congr hobjs hheld]

/-! ## The MAC (R249, R274) -/

/-- When the MAC has sent a frame that it begins now, in 1/400 ns. -/
def sentAt (d : Dev) (p : Nat) (k : Pkt) : Nat := 400 * d.tbs.ns + wireTime d p k.bytes

/-- The head of a class leaves its queue, the MAC is busy, and the frame goes out. -/
theorem sendHead_eq {c : Nat} {k : Pkt} {t : List Pkt} (hhead : classQueue d p c = k :: t) : ∃ d4 : Dev,
    d4.pke = (setPort p { port (setClassQueue p c t d) p with busyUntil := sentAt d p k } (setClassQueue p c t d)).pke ∧
      sendHead p c d = passAll (onSend p k (sentAt d p k) (emit (.ethernet p c k) d4)) := by
  unfold sendHead
  rw [hhead]
  exact ⟨_, by simp only [objCount_frame, regSet_frame]; rfl, rfl⟩

/-- A head that is sent has left, and the MAC is busy for its wire time. -/
theorem sendHead_does {c : Nat} {k : Pkt} {t : List Pkt} (hhead : classQueue d p c = k :: t) (h : Rising d.pke.ports) :
    Sent (.ethernet p c k) (sendHead p c d) ∧ (port (sendHead p c d) p).busyUntil = sentAt d p k := by
  obtain ⟨d4, hpke, hsend⟩ := sendHead_eq hhead
  have hqueued : Rising (setClassQueue p c t d).pke.ports := rising_put h
  have hports : Rising d4.pke.ports := hpke ▸ rising_put hqueued
  have hmoved : Moved (emit (.ethernet p c k) d4) (sendHead p c d) := hsend ▸ (Moved.onSend ..).trans (.passAll _)
  refine ⟨hmoved.sent _ (sent_emit _ d4), ?_⟩
  calc (port (sendHead p c d) p).busyUntil
      = (port d4 p).busyUntil := hmoved.busyUntil hports p
    _ = sentAt d p k := by rw [port_congr (congrArg Pke.ports hpke), port_setPort hqueued, if_pos rfl]

/-- May the MAC of a port look for a frame: is the port present and its MAC idle? -/
def macIdle (p : Nat) (d : Dev) : Prop := portPresent d p = true ∧ (port d p).busyUntil ≤ 400 * d.tbs.ns

theorem macSend_down (h : macIdle p d) (hdown : linkUp d p = false) : macSend p d = discardQueues p d := by
  obtain ⟨hpresent, hidle⟩ := h
  unfold macSend
  rw [if_neg (by simp [hpresent, hidle]), if_pos (by simp [hdown])]

theorem macSend_sends {d1 : Dev} {c : Nat} (h : macIdle p d) (hup : linkUp d p = true)
    (hsel : selectClass p classOrder d = (d1, some c)) : macSend p d = sendHead p c d1 := by
  obtain ⟨hpresent, hidle⟩ := h
  unfold macSend
  rw [if_neg (by simp [hpresent, hidle]), if_neg (by simp [hup]), hsel]

theorem macSend_not_idle (h : ¬ macIdle p d) : macSend p d = d := by
  refine if_pos (by_contra fun hidle => h ?_)
  simpa [macIdle] using hidle

theorem discardQueues_empties (h : Rising d.pke.ports) (hdown : linkUp d p = false) : (port (discardQueues p d) p).queues = [] := by
  unfold discardQueues
  rw [if_neg (by simp [hdown])]
  extract_lets all d1
  have hmarked : Moved d d1 := Moved.trans (.objCount ..) (.each Moved.markSent all _)
  rw [port_setPort (hmarked.ports h).1, if_pos rfl]

/-! ## Links of ports (R247, R249) -/

theorem trainTimeout_due {t : Nat} (h : Rising d.pke.ports) (hfrom : (port d p).trainingFrom = some t) (hlate : t + 500000000 ≤ d.tbs.ns) :
    port (trainTimeout p d) p = { port d p with trainingFrom := none, link := 1 } := by
  unfold trainTimeout
  rw [hfrom]
  dsimp only
  rw [if_pos hlate, port_setPort h, if_pos rfl]

theorem trainTimeout_trained (hfrom : (port d p).trainingFrom = none) : trainTimeout p d = d := by
  unfold trainTimeout
  rw [hfrom]

/-- The port of a link that goes down: its value, and the count of losses up to 255. -/
def linkLost (p v : Nat) (d : Dev) : Dev :=
  setFld (Reg.pkePortStat.at p) 8 8 (min 255 (fld d (Reg.pkePortStat.at p) 8 8 + 1)) (setPort p { port d p with link := v } d)

theorem linkLost_does (h : Rising d.pke.ports) (hregs : Rising d.regs) (v : Nat) :
    Rising (linkLost p v d).pke.ports ∧ Rising (linkLost p v d).regs ∧ (port (linkLost p v d) p).link = v ∧
      fld (linkLost p v d) (Reg.pkePortStat.at p) 8 8 = min 255 (fld d (Reg.pkePortStat.at p) 8 8 + 1) := by
  have hpke : (linkLost p v d).pke = (setPort p { port d p with link := v } d).pke := by simp only [linkLost, setFld_frame]
  have hset : Rising (setPort p { port d p with link := v } d).regs := hregs
  refine ⟨hpke ▸ rising_put h, regSet_rising hset _ _, ?_, ?_⟩
  · rw [port_congr (congrArg Pke.ports hpke), port_setPort h, if_pos rfl]
  · unfold linkLost
    rw [fld_setFld _ hset _ _ _ _ (by decide), Nat.mod_eq_of_lt (by omega)]

theorem linkDown_eq (p v : Nat) (d : Dev) :
    linkDown p v d = exportPump (discardQueues p (postEvent pfFn 2 1 0 p v (linkLost p v d))) := rfl

/-- What goes on when a link has gone down, the event, the discards and the exports, leaves the value and the count. -/
theorem linkDown_does (h : Rising d.pke.ports) (hregs : Rising d.regs) (hp : p < 8) (v : Nat) :
    (port (linkDown p v d) p).link = v ∧
      fld (linkDown p v d) (Reg.pkePortStat.at p) 8 8 = min 255 (fld d (Reg.pkePortStat.at p) 8 8 + 1) := by
  obtain ⟨hports, hrising, hlink, hcount⟩ := linkLost_does (p := p) h hregs v
  have hmoved : Moved (linkLost p v d) (linkDown p v d) := linkDown_eq p v d ▸
    Moved.trans (Moved.trans (.postEvent pfFn 2 1 0 p v _) (.discardQueues p _)) (.exportPump _)
  have hbelow : Reg.pkePortStat.at p < Reg.pkeDepthHwm.base := by
    show 0x30020 + 4 * p < 0x30200
    omega
  refine ⟨(hmoved.link hports p).trans hlink, ?_⟩
  rw [← hcount, fld, (hmoved.regs hrising).2 _ hbelow, fld]

theorem etherLink_stays {up : Bool} (h : portPresent d p = false ∨ linkUp d p = up) : etherLink p up d = d :=
  if_pos (by rcases h with h | h <;> simp [h])

theorem etherLink_up (h : Rising d.pke.ports) (hpresent : portPresent d p = true) (hdown : linkUp d p = false) :
    port (etherLink p true d) p = { port d p with link := 2, trainingFrom := none } := by
  unfold etherLink
  rw [if_neg (by simp [hpresent, hdown]), if_pos rfl, port_congr (d := setPort p { port d p with link := 2, trainingFrom := none } d)
    (by simp only [postEvent_frame]), port_setPort h, if_pos rfl]

theorem etherLink_down (hpresent : portPresent d p = true) (hup : linkUp d p = true) : etherLink p false d = linkDown p 1 d := by
  unfold etherLink
  rw [if_neg (by simp [hpresent, hup]), if_neg (by decide)]

/-! ## Egress timestamps (R251) -/

theorem tagRead_empty (h : d.pke.stamps = []) : tagRead d = { d with pke := { d.pke with stampTag := 0 } } := by
  unfold tagRead
  rw [h]

theorem tagRead_oldest {a ty seq t : Nat} {rest : List (Nat × Nat × Nat × Nat)} (h : d.pke.stamps = (a, ty, seq, t) :: rest) :
    tagRead d = { d with pke := { d.pke with
      stamps := rest, stampTag := a + 2 ^ 3 + ty % 16 * 2 ^ 4 + seq % 65536 * 2 ^ 8, stampTime := t % 2 ^ 64 } } := by
  unfold tagRead
  rw [h]

/-- A read of the tag that reaches the physical function acts. -/
theorem answers_tagRead {σ : State} {who : Caller} {P : Dev → Prop} (hawake : isHeld σ.dev = false) (hpages : reachesPf who = true)
    (hreach : hostReaches who σ.dev = true) (hp : P (tagRead σ.dev)) : Answers (.ptpTsTagRead who) σ P := by
  refine answers_act (f := fun d => if reachesPf who then hostGate who tagRead d else d) rfl hawake ?_
  rwa [if_pos hpages, hostGate_open hreach]

/-! ## The retransmission store (R269) -/

/-- A packet of a session, which stays in the store while its hold is not past. -/
def storeKept (d : Dev) (s : Nat) (x : PktRec) : PktRec :=
  { x with stored := x.stored && decide (d.tbs.ns ≤ x.release + objGet d 0x30C0 s * 1000000) }

theorem storeExpiry_session (h : Rising d.sess) (s : Nat) :
    sess (storeExpiry s d) s = { sess d s with pkts := (sess d s).pkts.map fun e => (e.1, storeKept d s e.2) } := sess_self d h s _

end

end Sys2Proof.Machine
end

section
set_option autoImplicit false
open Sys2Proof Sys2Proof.Machine

/-- Settles O51: each event of a port acts as the lemma of its operation says; a frame sent moves packets on, which keeps it sent. -/
theorem egressPorts : Obligations.EgressPorts := by
  unfold Obligations.EgressPorts
  refine ⟨?ports, ?tag, ?flush, ?store⟩
  case ports =>
    intro s p now hawake hsound hp hports y x l
    have hy : Sound y := sound_atTime now hsound
    have hports' : Rising y.pke.ports := by
      have hpke : y.pke = s.dev.pke := by simp only [y, atTime_frame]
      rwa [hpke]
    refine ⟨fun hnext hlasted => ?_, fun hstays => ?_, fun hpresent hidle hup d1 c k t hsel hhead => ?_,
      fun hpresent hidle hdown => ?_, fun hbusy => ?_, fun t hfrom hlate => ?_, fun htrained => ?_,
      fun hpresent hdown => ?_, fun hpresent hup => ?_, fun up hsame => ?_⟩
    · refine answers_actOn rfl hp hawake ?_
      rw [gateExpiry_due ⟨hnext, hlasted⟩, port_setPort hports', if_pos rfl]
      exact ⟨rfl, rfl, rfl, rfl⟩
    · exact answers_actOn rfl hp hawake (gateExpiry_early fun hdue => by
        obtain ⟨hnext, hlasted⟩ : x.entry + 1 < gateCount l ∧ x.entryAt + gateDur l x.entry ≤ y.tbs.ns := hdue
        rcases hstays with h | h <;> omega)
    · obtain ⟨hports1, htbs, hobjs, hheld⟩ := selectClass_does classOrder hsel hports'
      refine answers_actOn rfl hp hawake ?_
      rw [macSend_sends ⟨hpresent, hidle⟩ hup hsel, ← htbs, ← wireTime_congr hobjs hheld]
      exact sendHead_does hhead hports1
    · refine answers_actOn rfl hp hawake ?_
      rw [macSend_down ⟨hpresent, hidle⟩ hdown]
      exact discardQueues_empties hports' hdown
    · exact answers_actOn rfl hp hawake (macSend_not_idle fun hidle => by
        obtain ⟨hpresent, hidle⟩ : portPresent y p = true ∧ x.busyUntil ≤ 400 * y.tbs.ns := hidle
        rcases hbusy with h | h
        · exact Bool.false_ne_true (h.symm.trans hpresent)
        · omega)
    · refine answers_actOn rfl hp hawake ?_
      rw [trainTimeout_due hports' hfrom hlate]
      exact ⟨rfl, rfl, rfl⟩
    · exact answers_actOn rfl hp hawake (trainTimeout_trained htrained)
    · refine answers_actOn rfl hp hawake ?_
      rw [etherLink_up hports' hpresent hdown]
      exact ⟨rfl, rfl⟩
    · refine answers_actOn rfl hp hawake ?_
      rw [etherLink_down hpresent hup]
      exact linkDown_does hports' hy.regs.1 (of_decide_eq_true hp) 1
    · exact answers_actOn rfl hp hawake (etherLink_stays hsame)
  case tag =>
    intro s who hawake hreset hpages hreaches hide
    have hreach : hostReaches who s.dev = true := by simp [hostReaches, hreset, hreaches, hide]
    refine ⟨fun hnone => answers_tagRead hawake hpages hreach ?_, fun a ty seq t rest hsome => answers_tagRead hawake hpages hreach ?_⟩
    · rw [tagRead_empty hnone]
    · rw [tagRead_oldest hsome]
  case flush =>
    intro s who hawake hopen
    refine answers_act rfl hawake ?_
    rw [regGate_open hopen]
    simp only [mend_frame, and_self]
  case store =>
    intro s slot now hawake hsound hslot y
    have hy : Sound y := sound_atTime now hsound
    refine answers_actOn rfl hslot hawake ?_
    rw [storeExpiry_session hy.tabs.sess]
    exact ⟨rfl, rfl, rfl⟩

end

section
/-! PROOFS. Frames received, the aging of the flow tables and the host's flow commands (R281, R283, R286, R287, R294). -/
set_option autoImplicit false
namespace Sys2Proof.Machine

section
variable {d : Dev} {p i : Nat} {f : RxFrame}

/-! ## Frames received (R281, R283) -/

theorem fateOf_atTime (now : Nat) (d : Dev) (p : Nat) (f : RxFrame) : fateOf (atTime now d) p f = fateOf d p f :=
  atTime_irrel (fateOf · p f) now d fun _ => rfl

/-- Does a frame that arrives at the port reach the parser: ingress runs and the port is present? -/
def ingressOpen (p : Nat) (d : Dev) : Prop := fld d Reg.pkeIgrCtrl.base 0 1 ≠ 0 ∧ portPresent d p = true

theorem ingressOpen_atTime (now : Nat) (d : Dev) (p : Nat) : ingressOpen p (atTime now d) = ingressOpen p d :=
  atTime_irrel (ingressOpen p) now d fun _ => rfl

theorem frameReceived_fcs (hopen : ingressOpen p d) (hfate : fateOf d p f = .fcs) :
    frameReceived p f d = objCount 32 0x50EF (pipeOf p) 1 d := by
  obtain ⟨hruns, hpresent⟩ := hopen
  unfold frameReceived
  rw [if_neg (by simp [hruns, hpresent]), hfate]

theorem frameReceived_pause (hopen : ingressOpen p d) (hfate : fateOf d p f = .pauseFrame) :
    frameReceived p f d = objCount 32 0x50D3 p 1 (objCount 64 0x50E0 (pipeOf p) 1 d) := by
  obtain ⟨hruns, hpresent⟩ := hopen
  unfold frameReceived
  rw [if_neg (by simp [hruns, hpresent]), hfate]

/-- A counter of an exception class is no counter of all frames. -/
theorem classCounter_above (k : Nat) : 0x50E0 < classCounter k := by
  unfold classCounter
  repeat' split
  all_goals omega

/-- A count leaves the value in force of another object. -/
theorem objNow_objCount_ne (h : Rising d.objs) {w j u n k t : Nat} (hne : objKey k t ≠ objKey j u) :
    objNow (objCount w j u n d) k t = objNow d k t := by
  unfold objNow
  rw [objCount_get_ne d h w j u n k t hne]
  simp only [objCount_frame]

/-- A frame of an exception class that is not punted is counted twice, and dropped. -/
theorem frameReceived_dropped {k : Nat} (h : Rising d.objs) (hp : pipeOf p < 256) (hopen : ingressOpen p d)
    (hfate : fateOf d p f = .cls k) (hdrop : bit (objNow d 0x1A40 0) k = false) :
    frameReceived p f d = objCount 32 (classCounter k) (pipeOf p) 1 (objCount 64 0x50E0 (pipeOf p) 1 d) := by
  obtain ⟨hruns, hpresent⟩ := hopen
  have habove := classCounter_above k
  have hnow : objNow (objCount 32 (classCounter k) (pipeOf p) 1 (objCount 64 0x50E0 (pipeOf p) 1 d)) 0x1A40 0 = objNow d 0x1A40 0 := by
    rw [objNow_objCount_ne (objCount_rising d h ..) (objKey_ne (by omega) hp (by decide)),
      objNow_objCount_ne h (objKey_ne (by decide) hp (by decide))]
  unfold frameReceived
  rw [if_neg (by simp [hruns, hpresent]), hfate]
  exact if_neg (by rw [hnow, hdrop]; decide)

/-- Two counts of different objects. -/
theorem objCount_both (h : Rising d.objs) {j k u t : Nat} (v w : Nat) (hne : objKey j u ≠ objKey k t) :
    objGet (objCount w k t 1 (objCount v j u 1 d)) k t = (objGet d k t + 1) % 2 ^ w ∧
      objGet (objCount w k t 1 (objCount v j u 1 d)) j u = (objGet d j u + 1) % 2 ^ v := by
  have hrising : Rising (objCount v j u 1 d).objs := objCount_rising d h ..
  rw [objCount_get _ hrising, objCount_get_ne d h _ _ _ _ _ _ (Ne.symm hne), objCount_get_ne _ hrising _ _ _ _ _ _ hne,
    objCount_get d h]
  exact ⟨rfl, rfl⟩

/-! ## Aging (R287) -/

/-- The entry after the aging visit: aged if it was not hit, and not hit. -/
def agedEntry (f : Flow) : Flow := { f with aged := f.aged || !f.hit, hit := false }

/-- The pipeline after a visit of its next bucket. -/
def agedPipe (x : Pipe) : Pipe :=
  { x with flows := tabPut [] x.flows x.ageNext ((tabGet [] x.flows x.ageNext).map agedEntry), ageNext := (x.ageNext + 1) % 4096 }

/-- Within a lap each visit takes the next bucket. -/
theorem agingVisit_within (h : (pipe d i).ageNext ≠ 0) : agingVisit i d = setPipe i (agedPipe (pipe d i)) d := by
  unfold agingVisit
  simp only [h, decide_false, Bool.false_and, Bool.false_eq_true, if_false]
  rfl

theorem agedPipe_flows {x : Pipe} (h : Rising x.flows) (c : Nat) : tabGet [] (agedPipe x).flows c =
    if c = x.ageNext then (tabGet [] x.flows x.ageNext).map agedEntry else tabGet [] x.flows c := tabGet_put _ _ h _ _ _

end

/-! ## Flow commands (R294) -/

section
variable {d e : Dev} {i j : Nat}

/-- The occupants of the bucket of a key. -/
def bucketOf (d : Dev) (i la ra lp rp : Nat) : List Flow := tabGet [] (pipe d i).flows (flowBucket (objGet d 0x1A41 0) la ra lp rp)

theorem bucketOf_atTime (now : Nat) (d : Dev) (i la ra lp rp : Nat) : bucketOf (atTime now d) i la ra lp rp = bucketOf d i la ra lp rp :=
  atTime_irrel (bucketOf · i la ra lp rp) now d fun _ => rfl

theorem bucketOf_accept (q : Req) (idx sub : Nat) (d : Dev) (i la ra lp rp : Nat) :
    bucketOf (accept q idx sub d) i la ra lp rp = bucketOf d i la ra lp rp :=
  accept_irrel (bucketOf · i la ra lp rp) q idx sub d fun _ _ _ _ _ _ _ _ => rfl

theorem flowFind_eq (d : Dev) (i la ra lp rp : Nat) :
    flowFind d i la ra lp rp = (bucketOf d i la ra lp rp).find? (Flow.hasKey la ra lp rp) := rfl

/-- The pipelines and their flow tables are in order. -/
def FlowsRising (d : Dev) : Prop := Rising d.pke.pipes ∧ ∀ i, Rising (pipe d i).flows

theorem flowsRising_atTime {now : Nat} (h : FlowsRising d) : FlowsRising (atTime now d) :=
  (atTime_irrel FlowsRising now d fun _ => rfl).mpr h

theorem PipeOnly.refl (i : Nat) (d : Dev) : PipeOnly i d d := ⟨rfl, id, fun _ h => h, fun _ _ _ => rfl⟩

theorem PipeOnly.rising (h : PipeOnly i d e) (hd : FlowsRising d) : FlowsRising e := ⟨h.pipes hd.1, h.flows hd.1 hd.2⟩

/-- What changes one pipeline leaves the buckets of the other. -/
theorem PipeOnly.bucket (h : PipeOnly i d e) (hd : FlowsRising d) (hj : j ≠ i) (la ra lp rp : Nat) :
    bucketOf e j la ra lp rp = bucketOf d j la ra lp rp := by
  unfold bucketOf
  rw [h.other hd.1 j hj, objGet_congr h.objs]

/-- An operation on a pipeline, where the mask selects it. -/
def onSelected (m : Nat) (f : Nat → Dev → Dev) (i : Nat) (d : Dev) : Dev := if bit m i then f i d else d

section
variable {m la ra lp rp : Nat} {f : Nat → Dev → Dev} {R Q : List Flow → Prop}
variable (hdoes : ∀ i d, FlowsRising d → R (bucketOf d i la ra lp rp) →
  PipeOnly i d (f i d) ∧ Q (bucketOf (f i d) i la ra lp rp))
include hdoes

theorem onSelected_does (hd : FlowsRising d) (hR : bit m i = true → R (bucketOf d i la ra lp rp)) :
    PipeOnly i d (onSelected m f i d) ∧ (bit m i = true → Q (bucketOf (onSelected m f i d) i la ra lp rp)) := by
  unfold onSelected
  split
  · next hbit =>
    obtain ⟨honly, hQ⟩ := hdoes i d hd (hR hbit)
    exact ⟨honly, fun _ => hQ⟩
  · next hbit => exact ⟨.refl i d, fun h => absurd h hbit⟩

/-- What an operation makes of the bucket of a key where it has what it requires, it makes of it in every selected pipeline. -/
theorem onSelected_both (hd : FlowsRising d) (hR : ∀ i < 2, bit m i = true → R (bucketOf d i la ra lp rp)) :
    ∀ i < 2, bit m i = true → Q (bucketOf (onSelected m f 1 (onSelected m f 0 d)) i la ra lp rp) := by
  obtain ⟨honly0, hQ0⟩ := onSelected_does hdoes hd (hR 0 (by decide))
  have hd0 : FlowsRising (onSelected m f 0 d) := honly0.rising hd
  obtain ⟨honly1, hQ1⟩ := onSelected_does (m := m) (i := 1) hdoes hd0 (by
    rw [honly0.bucket hd (by decide)]
    exact hR 1 (by decide))
  intro i hi hbit
  obtain rfl | rfl : i = 0 ∨ i = 1 := by omega
  · rw [honly1.bucket hd0 (by decide)]
    exact hQ0 hbit
  · exact hQ1 hbit

end

/-- The command v inserts the key of its destination, under the address and port that it names. -/
def commandInsert (v en i : Nat) (d : Dev) : Dev :=
  flowInsert i (entrySrc en) (bytesAt v 8 16) (entrySrcPort en) (bytesAt v 4 2) (globalNo (byteAt v 2) (byteAt v 3)) d

/-- The command v removes that key. -/
def commandRemove (v en i : Nat) (d : Dev) : Dev :=
  flowRemove i (entrySrc en) (bytesAt v 8 16) (entrySrcPort en) (bytesAt v 4 2) d

theorem flowApply_insert {v : Nat} (h : byteAt v 0 = 1) (d : Dev) :
    let f := commandInsert v (destEntry d (byteAt v 2) (byteAt v 3))
    flowApply v d = onSelected (byteAt v 1) f 1 (onSelected (byteAt v 1) f 0 d) := by
  simp only [flowApply, forEach, List.foldl, h, if_true, onSelected, commandInsert, Bool.not_eq_true']
  cases bit (byteAt v 1) 0 <;> cases bit (byteAt v 1) 1 <;> rfl

theorem flowApply_remove {v : Nat} (h : byteAt v 0 = 2) (d : Dev) :
    let f := commandRemove v (destEntry d (byteAt v 2) (byteAt v 3))
    flowApply v d = onSelected (byteAt v 1) f 1 (onSelected (byteAt v 1) f 0 d) := by
  simp only [flowApply, forEach, List.foldl, h, onSelected, commandRemove]
  cases bit (byteAt v 1) 0 <;> cases bit (byteAt v 1) 1 <;> rfl

/-- After an insertion each selected pipeline whose bucket has room holds the key. -/
theorem flowApply_inserts {v en : Nat} (hcmd : byteAt v 0 = 1) (hen : destEntry d (byteAt v 2) (byteAt v 3) = en)
    (hd : FlowsRising d) (hroom : ∀ i < 2, bit (byteAt v 1) i = true →
      (bucketOf d i (entrySrc en) (bytesAt v 8 16) (entrySrcPort en) (bytesAt v 4 2)).length < 8) :
    ∀ i < 2, bit (byteAt v 1) i = true →
      (flowFind (flowApply v d) i (entrySrc en) (bytesAt v 8 16) (entrySrcPort en) (bytesAt v 4 2)).isSome = true := by
  rw [flowApply_insert hcmd, hen]
  exact onSelected_both (R := fun l => l.length < 8) (Q := fun l => (l.find? (Flow.hasKey _ _ _ _)).isSome = true)
    (fun i d hd hroom => flowInsert_room i _ _ _ _ _ d hd.1 hd.2 hroom) hd hroom

/-- After a removal no selected pipeline holds the key. -/
theorem flowApply_removes {v en : Nat} (hcmd : byteAt v 0 = 2) (hen : destEntry d (byteAt v 2) (byteAt v 3) = en)
    (hd : FlowsRising d) : ∀ i < 2, bit (byteAt v 1) i = true →
      flowFind (flowApply v d) i (entrySrc en) (bytesAt v 8 16) (entrySrcPort en) (bytesAt v 4 2) = none := by
  rw [flowApply_remove hcmd, hen]
  exact onSelected_both (R := fun _ => True) (Q := fun l => l.find? (Flow.hasKey _ _ _ _) = none)
    (fun i d hd _ => flowRemove_room i _ _ _ _ d hd.1 hd.2) hd fun _ _ _ => trivial

end

end Sys2Proof.Machine
end

section
set_option autoImplicit false
open Sys2Proof Sys2Proof.Machine

/-- Settles O16: each fate by its counters, a visit by what it makes of its bucket, a command pipeline by pipeline. -/
theorem ingressCommands : Obligations.IngressCommands := by
  unfold Obligations.IngressCommands
  refine ⟨?received, ?aging, ?commands⟩
  case received =>
    intro s port now f hawake hsound hport hruns hpresent
    have hobjs : Rising (atTime now s.dev).objs := (sound_atTime now hsound).objs.1
    have hobj : ∀ idx sub, objGet (atTime now s.dev) idx sub = objGet s.dev idx sub := objGet_congr (by simp only [atTime_frame])
    have hpke : (atTime now s.dev).pke = s.dev.pke := by simp only [atTime_frame]
    have hopen : ingressOpen port (atTime now s.dev) := (ingressOpen_atTime ..).mpr ⟨hruns, hpresent⟩
    have hport8 : port < 8 := of_decide_eq_true hport
    have hpipe : pipeOf port < 256 := by unfold pipeOf; omega
    refine ⟨fun hfate => ?_, fun hfate => ?_, fun k hfate hdrop => ?_⟩
    · refine answers_actOn rfl hport hawake ?_
      rw [frameReceived_fcs hopen ((fateOf_atTime ..).trans hfate), objCount_get _ hobjs, hobj]
      simp only [objCount_frame, hpke, and_self]
    · refine answers_actOn rfl hport hawake ?_
      obtain ⟨hpause, hall⟩ := objCount_both hobjs (j := 0x50E0) (k := 0x50D3) (u := pipeOf port) (t := port) 64 32
        (objKey_ne (by decide) (by omega) hpipe)
      rw [frameReceived_pause hopen ((fateOf_atTime ..).trans hfate), hpause, hall, hobj, hobj]
      simp only [objCount_frame, hpke, and_self]
    · refine answers_actOn rfl hport hawake ?_
      obtain ⟨hclass, hall⟩ := objCount_both hobjs (u := pipeOf port) (t := pipeOf port) 64 32
        (objKey_ne_of_lt (classCounter_above k) hpipe)
      rw [frameReceived_dropped hobjs hpipe hopen ((fateOf_atTime ..).trans hfate) (by rwa [objNow_atTime]), hclass, hall, hobj, hobj]
      simp only [objCount_frame, hpke, and_self]
  case aging =>
    intro s i now hawake hsound hi hflows hpipes hnext b
    have hpipe : ∀ j, pipe (atTime now s.dev) j = pipe s.dev j := fun j => atTime_irrel (pipe · j) now s.dev fun _ => rfl
    have hpipes' : Rising (atTime now s.dev).pke.pipes := by simpa only [atTime_frame] using hpipes
    refine answers_actOn rfl (decide_eq_true hi) hawake ?_
    rw [agingVisit_within (by rwa [hpipe]), hpipe, pipe_set _ hpipes', if_pos rfl]
    refine ⟨rfl, ?_, fun c hc => ?_, fun j hj => ?_⟩
    · rw [agedPipe_flows hflows, if_pos rfl]
      rfl
    · rw [agedPipe_flows hflows, if_neg hc]
    · rw [pipe_set _ hpipes', if_neg hj, hpipe]
  case commands =>
    intro s q v hsound hpipes hflows hg en la lp ra rp
    have hrising : FlowsRising (atTime q.now s.dev) := flowsRising_atTime ⟨hpipes, hflows⟩
    have hen : destEntry (atTime q.now s.dev) (byteAt v.val 2) (byteAt v.val 3) = en := objNow_atTime ..
    refine ⟨fun hcmd hroom => answers_perform rfl hg ?_, fun hcmd => answers_perform rfl hg ?_⟩
    · simp only [flowFind_eq, bucketOf_accept]
      refine flowApply_inserts hcmd hen hrising fun i hi hbit => ?_
      rw [bucketOf_atTime]
      exact hroom i hi hbit
    · simp only [flowFind_eq, bucketOf_accept]
      exact flowApply_removes hcmd hen hrising

end

section
/-! PROOFS. The learning arbiter and the comparer (R291 to R293, R295, R296). -/
set_option autoImplicit false
namespace Sys2Proof.Machine

section
variable {d : Dev} {c : Candidate} {rest : List Candidate}

/-! ## Moves (R293) -/

/-- An insertion leaves the line of candidates, also where it evicts an occupant. -/
theorem flowInsert_candidates (i la ra lp rp g : Nat) (d : Dev) :
    (flowInsert i la ra lp rp g d).pke.candidates = d.pke.candidates := by
  unfold flowInsert
  extract_lets b l entry put
  have hput : ∀ m z, (put m z).pke.candidates = z.pke.candidates := fun _ _ => rfl
  split
  · rfl
  · split
    · exact hput l d
    · split
      · exact hput l d
      · extract_lets evicted
        rw [hput]
        simp only [evicted, postEvent_frame, objCount_frame]
        rfl

theorem flowRemove_candidates (i la ra lp rp : Nat) (d : Dev) : (flowRemove i la ra lp rp d).pke.candidates = d.pke.candidates := by
  unfold flowRemove
  split <;> rfl

theorem moveDest_candidates (c : Candidate) (d : Dev) : (moveDest c d).pke.candidates = d.pke.candidates := by
  unfold moveDest
  simp only [flowRemove_candidates, flowInsert_candidates, updDest_frame]

/-- A move changes of the sessions the destination alone. -/
theorem moveDest_sess (c : Candidate) (d : Dev) : (moveDest c d).sess =
    (updDest (c.g / 64) (c.g % 64) (fun x => { x with learned := (c.addr, c.port), movedAt := some c.stamp }) d).sess := by
  unfold moveDest
  extract_lets s e v old d1
  exact (((flowRemove_keeps (m := 274877906944) rfl (.refl _)).only .sess rfl).symm.trans
    ((flowInsert_keeps (m := 274877913364) rfl (.refl d1)).only .sess rfl).symm)

theorem moveDest_learned (hsess : Rising d.sess) (hdests : Rising (sess d (c.g / 64)).dests) :
    (dest (moveDest c d) (c.g / 64) (c.g % 64)).learned = (c.addr, c.port) := by
  rw [dest_congr (moveDest_sess c d), updDest, dest_setDest hsess hdests, if_pos rfl]

theorem moveDest_rising (h : Rising d.sess) (c : Candidate) : Rising (moveDest c d).sess := by
  rw [moveDest_sess]
  exact rising_put h

/-! ## Decisions (R292) -/

/-- A report of a decision leaves the sessions and the packet engine. -/
theorem moveReport_frame (c : Candidate) (out : Nat) (d : Dev) :
    (moveReport c out d).sess = d.sess ∧ (moveReport c out d).pke = d.pke := by
  have hkeeps := (moveReport_keeps (m := 6420) (c := c) (out := out) rfl (.refl d)).only
  exact ⟨(hkeeps .sess rfl).symm, (hkeeps .pke rfl).symm⟩

/-- The block with its first candidate decided and reported. -/
def decided (c : Candidate) (rest : List Candidate) (d : Dev) : Dev :=
  moveReport c (moveOutcome d c) { d with pke := { d.pke with candidates := rest } }

theorem decided_frame (c : Candidate) (rest : List Candidate) (d : Dev) :
    (decided c rest d).sess = d.sess ∧ (decided c rest d).pke.candidates = rest := by
  obtain ⟨hsess, hpke⟩ := moveReport_frame c (moveOutcome d c) { d with pke := { d.pke with candidates := rest } }
  exact ⟨hsess, congrArg Pke.candidates hpke⟩

theorem answers_learningDecision {σ : State} {now : Nat} {P : Dev → Prop} (hawake : isHeld σ.dev = false)
    (hp : P (learningDecision (atTime now σ.dev))) : Answers (.learningDecision now) σ P :=
  answers_act (f := fun d => learningDecision (atTime now d)) rfl hawake hp

theorem learningDecision_none (h : d.pke.candidates = []) : learningDecision d = d := by
  unfold learningDecision
  rw [h]

theorem learningDecision_early (h : d.pke.candidates = c :: rest) (hearly : d.tbs.ns < c.stamp + 4000) : learningDecision d = d := by
  unfold learningDecision
  rw [h]
  exact if_pos hearly

theorem learningDecision_due (h : d.pke.candidates = c :: rest) (hdue : c.stamp + 4000 ≤ d.tbs.ns) : learningDecision d =
    if moveOutcome d c = 1 then noteChange (c.g / 64) (0x3100 + c.g % 64) (moveDest c (decided c rest d)) else decided c rest d := by
  unfold learningDecision
  rw [h]
  exact if_neg (Nat.not_lt.mpr hdue)

theorem learningDecision_does (h : d.pke.candidates = c :: rest) (hdue : c.stamp + 4000 ≤ d.tbs.ns) (hsess : Rising d.sess)
    (hdests : Rising (sess d (c.g / 64)).dests) : (learningDecision d).pke.candidates = rest ∧
      (dest (learningDecision d) (c.g / 64) (c.g % 64)).learned =
        if moveOutcome d c = 1 then (c.addr, c.port) else (dest d (c.g / 64) (c.g % 64)).learned := by
  obtain ⟨hsame, hline⟩ := decided_frame c rest d
  have hsess' : Rising (decided c rest d).sess := hsame ▸ hsess
  rw [learningDecision_due h hdue]
  split
  · obtain ⟨-, -, -, hpke⟩ := noteChange_frame (c.g / 64) (0x3100 + c.g % 64) (moveDest c (decided c rest d))
    rw [hpke, moveDest_candidates, noteChange_dest (moveDest_rising hsess' c),
      moveDest_learned hsess' (by rwa [sess_congr hsame])]
    exact ⟨hline, rfl⟩
  · rw [dest_congr hsame]
    exact ⟨hline, rfl⟩

end

/-! ## The comparer (R295, R296) -/

section
variable {d : Dev}

/-- Does the comparer check a pair: compared, with a shadow, and 1 µs after the last check? -/
def checkDue (d : Dev) : Prop := objNow d 0x1A46 0 ≠ 0 ∧ objGet d 0x1A44 0 ≠ 0 ∧ d.pke.cmpLast + 1000 ≤ d.tbs.ns

/-- Did pipeline i gain or lose a key of destination g within the grace? -/
def withinGrace (d : Dev) (i g : Nat) : Bool :=
  match tabFind (pipe d i).changed g with
  | some t => decide (d.tbs.ns < t + 1000000 * objGet d 0x1A45 0)
  | none => false

theorem withinGrace_iff (i g : Nat) : withinGrace d i g = true ↔
    ∃ t, tabFind (pipe d i).changed g = some t ∧ d.tbs.ns < t + 1000000 * objGet d 0x1A45 0 := by
  unfold withinGrace
  cases tabFind (pipe d i).changed g <;> simp

/-- The start of the lap of which the next pair is part. -/
def lapStart (d : Dev) : Nat := if d.pke.cmpNext = 0 then d.tbs.ns else d.pke.cmpStart

/-- The next pair comes up. -/
def nextPair (d : Dev) : Dev :=
  { d with pke := { d.pke with cmpNext := (d.pke.cmpNext + 1) % 32768, cmpStart := lapStart d, cmpLast := d.tbs.ns } }

/-- The last pair ends the lap, whose time in µs is kept. -/
def lapNoted (n t : Nat) (d : Dev) : Dev :=
  if n = 32767 then
    regSet Reg.pkeCmpLapHwm.base (max (min (2 ^ 24 - 1) (t / 1000)) (regGet d Reg.pkeCmpLapHwm.base))
      (regSet Reg.pkeCmpLap.base (min (2 ^ 24 - 1) (t / 1000)) d)
  else d

theorem lapNoted_frame (n t : Nat) (d : Dev) : (lapNoted n t d).objs = d.objs ∧ (lapNoted n t d).pke = d.pke := by
  unfold lapNoted
  split
  · simp only [regSet_frame, and_self]
  · exact ⟨rfl, rfl⟩

theorem answers_comparerCheck {σ : State} {now : Nat} {P : Dev → Prop} (hawake : isHeld σ.dev = false)
    (hp : P (comparerCheck (atTime now σ.dev))) : Answers (.comparerCheck now) σ P :=
  answers_act (f := fun d => comparerCheck (atTime now d)) rfl hawake hp

theorem comparerCheck_idle (h : ¬ checkDue d) : comparerCheck d = d := by
  refine if_pos (by_contra fun hdue => h ?_)
  simp only [Bool.or_eq_true, decide_eq_true_eq, not_or, Nat.not_lt] at hdue
  obtain ⟨⟨hon, hshadow⟩, htime⟩ := hdue
  exact ⟨hon, hshadow, htime⟩

/-- The kind of divergence of the next pair. -/
def nextKind (d : Dev) : Nat := divergence d (d.pke.cmpNext % 2) (d.pke.cmpNext / 2)

/-- The block with its next pair taken, and reported unless it is of a fresh entry or shows no divergence. -/
def pairChecked (d : Dev) : Dev :=
  if withinGrace d (d.pke.cmpNext % 2) (d.pke.cmpNext / 2) || decide (nextKind d = 0) then nextPair d
  else reportDivergence (d.pke.cmpNext % 2) (d.pke.cmpNext / 2) (nextKind d) (nextPair d)

theorem comparerCheck_due (h : checkDue d) : comparerCheck d = lapNoted d.pke.cmpNext (d.tbs.ns - lapStart d) (pairChecked d) := by
  obtain ⟨hon, hshadow, htime⟩ := h
  exact if_neg (by simp [hon, hshadow, htime])

theorem pairChecked_passes (h : withinGrace d (d.pke.cmpNext % 2) (d.pke.cmpNext / 2) = true ∨ nextKind d = 0) :
    pairChecked d = nextPair d := if_pos (by simpa using h)

theorem pairChecked_reports (hold : ¬ withinGrace d (d.pke.cmpNext % 2) (d.pke.cmpNext / 2) = true) (hkind : nextKind d ≠ 0) :
    pairChecked d = reportDivergence (d.pke.cmpNext % 2) (d.pke.cmpNext / 2) (nextKind d) (nextPair d) :=
  if_neg (by simp [hold, hkind])

/-- A report of a divergence counts it and records it; the event for the physical function counts nothing. -/
theorem reportDivergence_does (h : Rising d.objs) (i g kind : Nat) : (reportDivergence i g kind d).pke = d.pke ∧
    objGet (reportDivergence i g kind d) 0x50EA 0 = (objGet d 0x50EA 0 + 1) % 2 ^ 32 ∧
    objGet (reportDivergence i g kind d) 0x1A4A 0 = g + i * 2 ^ 16 + kind * 2 ^ 24 := by
  have hcounted : (regCount Reg.pkeCmpDivCnt.base 1 (objCount 32 0x50EA 0 1 d)).objs = (objCount 32 0x50EA 0 1 d).objs := by
    simp only [regCount_frame]
  have hrising : Rising (regCount Reg.pkeCmpDivCnt.base 1 (objCount 32 0x50EA 0 1 d)).objs := hcounted ▸ objCount_rising d h ..
  have hposted := fun idx hidx => (postEvent_obj pfFn 3 2 0 g (i + kind * 256)
    _ (objSet_rising _ hrising 0x1A4A 0 (g + i * 2 ^ 16 + kind * 2 ^ 24)) (.inl rfl) idx 0 hidx (by decide)).1
  unfold reportDivergence
  refine ⟨?_, ?_, ?_⟩
  · simp only [postEvent_frame, objSet_frame, regCount_frame, objCount_frame]
  · rw [hposted 0x50EA (by decide), objGet_set_ne _ hrising _ _ _ _ _ (by decide), objGet_congr hcounted, objCount_get d h]
  · rw [hposted 0x1A4A (by decide), objGet_set_self _ hrising]

theorem pairChecked_pke (h : Rising d.objs) : (pairChecked d).pke = (nextPair d).pke := by
  unfold pairChecked
  split
  · rfl
  · exact (reportDivergence_does (d := nextPair d) h _ _ _).1

end

end Sys2Proof.Machine
end

section
set_option autoImplicit false
open Sys2Proof Sys2Proof.Machine

/-- Settles O52: the first candidate by whether it is due and moved, the next pair by whether it is due and diverges. -/
theorem learning : Obligations.Learning := by
  unfold Obligations.Learning
  intro s now hawake hsound y
  have hy : Sound y := sound_atTime now hsound
  refine ⟨fun hnone => ?_, fun c rest hline hearly => ?_, fun c rest hline hdue hdests => ?_, fun hidle => ?_, ?_⟩
  · exact answers_learningDecision hawake (learningDecision_none hnone)
  · exact answers_learningDecision hawake (learningDecision_early hline hearly)
  · exact answers_learningDecision hawake (learningDecision_does hline hdue hy.tabs.sess hdests)
  · refine answers_comparerCheck hawake (comparerCheck_idle fun hdue => ?_)
    obtain ⟨hon, hshadow, htime⟩ : checkDue y := hdue
    rcases hidle with h | h | h
    · exact hon h
    · exact hshadow h
    · exact Nat.not_lt.mpr htime h
  · intro n fresh hon hshadow htime
    have hfresh : withinGrace y (n % 2) (n / 2) = true ↔ fresh := withinGrace_iff ..
    refine answers_comparerCheck hawake ?_
    obtain ⟨hobjs, hpke⟩ := lapNoted_frame y.pke.cmpNext (y.tbs.ns - lapStart y) (pairChecked y)
    rw [comparerCheck_due ⟨hon, hshadow, htime⟩, hpke, pairChecked_pke hy.objs.1, objGet_congr hobjs, objGet_congr hobjs, hobjs]
    refine ⟨rfl, rfl, fun hpasses => ?_, fun hold hkind => ?_⟩
    · rw [pairChecked_passes (hpasses.imp_left hfresh.mpr)]
      rfl
    · rw [pairChecked_reports (mt hfresh.mp hold) hkind]
      exact (reportDivergence_does (d := nextPair y) hy.objs.1 _ _ _).2

end

section
/-! PROOFS. What the operations on DRAM channels leave of a channel's state, its training record and its controller (R307 to R319). -/
set_option autoImplicit false
namespace Sys2Proof.Machine

section
variable {d e : Dev} {c m : Nat}

theorem chan_congr (h : e.chans = d.chans) (c : Nat) : chan e c = chan d c := by unfold chan; rw [h]

theorem chan_setChan (h : Sound d) (k c : Nat) (x : Chan) : chan (setChan k x d) c = if c = k then x else chan d c :=
  tabGet_put _ _ h.tabs.chans _ _ _

theorem chan_setChan_self (h : Sound d) (c : Nat) (x : Chan) : chan (setChan c x d) c = x := (chan_setChan h c c x).trans (if_pos rfl)

theorem chan_objSet (i u v : Nat) (d : Dev) (c : Nat) : chan (objSet i u v d) c = chan d c := chan_congr (by simp only [objSet_frame]) c

theorem setChan_sound (h : Sound d) (c : Nat) (x : Chan) : Sound (setChan c x d) :=
  (setChan_keeps (m := 536870912) rfl (.refl d)).sound h

theorem setChanState_sound (h : Sound d) (c v : Nat) : Sound (setChanState c v d) :=
  (setChanState_keeps (m := 4) rfl (.refl d)).sound h

theorem chanState_setChanState (h : Sound d) (c v : Nat) : chanState (setChanState c v d) c = v :=
  objGet_set_self d h.objs.1 _ _ _

/-- The state of channel c, its training record and its controller stay, but for the stage of self-refresh asked of it (R314). -/
def SameChan (c : Nat) (d e : Dev) : Prop :=
  Sound d → Sound e ∧ chanState e c = chanState d c ∧ objGet e 0x1804 c = objGet d 0x1804 c ∧
    ∃ g, chan e c = { chan d c with goal := g }

theorem SameChan.refl (d : Dev) : SameChan c d d := fun h => ⟨h, rfl, rfl, _, rfl⟩

theorem SameChan.trans {f : Dev} (hde : SameChan c d e) (hef : SameChan c e f) : SameChan c d f := fun h => by
  obtain ⟨he, hst, hrec, g, hchan⟩ := hde h
  obtain ⟨hf, hst', hrec', g', hchan'⟩ := hef he
  exact ⟨hf, hst'.trans hst, hrec'.trans hrec, g', by rw [hchan', hchan]⟩

/-- What changes no controller, and of the objects none up to the training record, keeps the channel. -/
theorem SameChan.ofObjs (hk : Keeps m d e) (hchans : m.testBit 29 = false)
    (hobjs : Sound d → ∀ i, i ≤ 0x1804 → objGet e i c = objGet d i c) : SameChan c d e := fun h =>
  ⟨hk.sound h, hobjs h _ (by decide), hobjs h _ (by decide), _, chan_congr (hk.only .chans hchans).symm c⟩

theorem SameChan.of (hk : Keeps m d e) (hobjs : m.testBit 2 = false) (hchans : m.testBit 29 = false) : SameChan c d e :=
  .ofObjs hk hchans fun _ i _ => objGet_congr (hk.only .objs hobjs).symm i c

theorem SameChan.each {α : Type} {f : α → Dev → Dev} (h : ∀ a d, SameChan c d (f a d)) : ∀ (l : List α) (d : Dev), SameChan c d (forEach l f d)
  | [], d => .refl d
  | a :: l, d => (h a d).trans (SameChan.each h l (f a d))

theorem SameChan.setGoal (k g : Nat) (d : Dev) : SameChan c d (setChan k { chan d k with goal := g } d) := fun h => by
  refine ⟨setChan_sound h _ _, rfl, rfl, ?_⟩
  rw [chan_setChan h]
  split
  · next hck => exact ⟨g, by rw [hck]⟩
  · exact ⟨_, rfl⟩

/-- The power controller acts on the votes (R314, R489). -/
theorem SameChan.powerSettle (now : Nat) (d : Dev) : SameChan c d (powerSettle now d) := by
  unfold Machine.powerSettle
  split
  · exact .refl d
  · exact (SameChan.each (fun k d => .setGoal k (stageGoal d k) d) _ _).trans
      (.each (fun k d => .of (startStep_keeps (m := 2199023255552) rfl (.refl d)) rfl rfl) _ _)

/-! ## Objects above the training records -/

section
variable (hc : isChan c = true)
include hc

theorem chan_lt : c < 256 := Nat.lt_trans (of_decide_eq_true hc) (by decide)

theorem SameChan.objSet {j : Nat} (hj : 0x1804 < j) (u v : Nat) (d : Dev) : SameChan c d (objSet j u v d) :=
  .ofObjs (objSet_keeps (m := 4) rfl (.refl d)) rfl fun h _ hi => objGet_set_of_lt h.objs.1 u v (by omega) (chan_lt hc)

theorem SameChan.objCount {j : Nat} (hj : 0x1804 < j) (w u n : Nat) (d : Dev) : SameChan c d (objCount w j u n d) := .objSet hc hj u _ d

theorem SameChan.setPairState (p st : Nat) (x : PairSt) (d : Dev) : SameChan c d (setPairState p st x d) :=
  (SameChan.of (setWrd_keeps (m := 1073741824) rfl (.refl d)) rfl rfl).trans (.objSet hc (by decide) p st _)

/-- A pair one of whose channels is gone (R343). -/
theorem SameChan.pairGone (k : Nat) (d : Dev) : SameChan c d (pairGone k d) := by
  unfold Machine.pairGone
  dsimp only
  split
  · split
    · exact .setPairState hc _ _ _ _
    · exact .setPairState hc _ _ _ _
  · exact .refl d

/-- A pair whose channels are trained (R341). -/
theorem SameChan.pairTrained (k : Nat) (d : Dev) : SameChan c d (pairTrained k d) := by
  unfold Machine.pairTrained
  split
  · exact .setPairState hc _ _ _ _
  · exact .refl d

/-- A pair one of whose channels freezes (R342, R343). -/
theorem SameChan.pairFreeze (k reads : Nat) (d : Dev) : SameChan c d (pairFreeze k reads d) := by
  have hcount : ∀ p d, SameChan c d (countFallback p reads d) := fun p d =>
    (SameChan.of (regSet_keeps (m := 1) rfl (.refl d)) rfl rfl).trans (.objCount hc (by decide) _ _ _ _)
  unfold Machine.pairFreeze
  dsimp only
  split
  · split
    · exact .setPairState hc _ _ _ _
    · split
      · exact (SameChan.setPairState hc _ _ _ _).trans (hcount _ _)
      · exact .refl d
  · split
    · exact .setPairState hc _ _ _ _
    · exact .refl d
  · split
    · exact .setPairState hc _ _ _ _
    · exact .refl d
  · exact .setPairState hc _ _ _ _
  · exact .refl d

/-- The end of training may hold the start of the device (R310). -/
theorem SameChan.trainingOver (was : Bool) (d : Dev) : SameChan c d (trainingOver was d) := by
  unfold Machine.trainingOver
  split
  · exact (SameChan.objSet hc (by decide) 0 10 d).trans (.of (pulse_keeps (m := 128) rfl (.refl _)) rfl rfl)
  · exact .refl d

/-- A channel that leaves service for good takes the state said, and keeps its training record (R310, R343). -/
theorem channelGone_does (h : Sound d) (st : Nat) :
    chanState (channelGone c st d) c = st ∧ objGet (channelGone c st d) 0x1804 c = objGet d 0x1804 c := by
  unfold channelGone
  extract_lets x d1 d2
  have h1 : Sound d1 := setChan_sound h _ _
  have hsame : SameChan c (setChanState c st d1) (Machine.powerSettle d2.tbs.ns (Machine.pairGone c d2)) :=
    (SameChan.of (levelEnd_keeps (m := 128) rfl (.refl _)) rfl rfl).trans ((SameChan.pairGone hc c d2).trans (.powerSettle _ _))
  obtain ⟨-, hst, hrec, -⟩ := hsame (setChanState_sound h1 c st)
  rw [hst, hrec, chanState_setChanState h1]
  exact ⟨rfl, objGet_set_ne d1 h1.objs.1 _ _ _ _ _ (objKey_ne (by decide) (chan_lt hc) (chan_lt hc))⟩

end

end

end Sys2Proof.Machine
end

section
/-! PROOFS. Helper operations of a DRAM channel, the end of its training and its failure (R307 to R310, R320). -/
set_option autoImplicit false
namespace Sys2Proof.Machine

section
variable {d : Dev} {c : Nat}

/-! ## Writes of training registers (R307, R308) -/

/-- A write of a register of the physical function's pages has no effect, is dropped, or counts. -/
theorem regGate_cases (who : Caller) (key : Nat) (b : Bool) (f : Dev → Dev) (d : Dev) : regGate who key b f d = d ∨
    (∃ x, regGate who key b f d = regDrop who key x d) ∨ regGate who key b f d = f d := by
  cases who with
  | firmware => exact .inr (.inr (regGate_open rfl))
  | node n => exact .inl rfl
  | vf t tee => exact .inl rfl
  | pf l =>
    unfold regGate gateOf
    simp only [ideRefuses, Bool.false_eq_true, if_false]
    split
    · exact .inl rfl
    · split
      · exact .inl rfl
      · split
        · exact .inr (.inl ⟨_, rfl⟩)
        · exact .inr (.inr rfl)

/-- A write that does not come from the management controller changes registers at most. -/
theorem trnWrite_denied {who : Caller} (hwho : who ≠ .firmware) (key : Nat) (errs : Dev → List Err) (f : Dev → Dev) (d : Dev) :
    (trnWrite who key errs f d).chans = d.chans ∧ (trnWrite who key errs f d).objs = d.objs := by
  have hdrop : ∀ x, (regDrop who key x d).chans = d.chans ∧ (regDrop who key x d).objs = d.objs := fun x => by
    simp only [regDrop_frame, and_self]
  unfold trnWrite
  rcases regGate_cases who key false _ d with hsame | ⟨x, hdropped⟩ | hcounts
  · rw [hsame]
    exact ⟨rfl, rfl⟩
  · rw [hdropped]
    exact hdrop x
  · rw [hcounts, if_pos (by simpa using hwho)]
    exact hdrop .access

theorem trnWrite_taken {key : Nat} {errs : Dev → List Err} {f : Dev → Dev} (h : errs d = []) :
    trnWrite .firmware key errs f d = f d := by
  rw [trnWrite, regGate_open rfl, h]
  rfl

theorem trnWrite_refused {key : Nat} {errs : Dev → List Err} {f : Dev → Dev} {x : Err} (h : lowest (errs d) = some x) :
    trnWrite .firmware key errs f d = regDrop .firmware key x d := by
  rw [trnWrite, regGate_open rfl, h]
  rfl

/-- The value of DMC_TRN_CTRL with GO set that starts operation `op`. -/
def goValue (op v : Nat) : Nat := setBits (setBits (v % 2 ^ 32) 0 3 op) 11 2 1

theorem goValue_op {op : Nat} (hop : op < 8) (v : Nat) : bits (goValue op v) 0 3 = op := by
  rw [goValue, bits_setBits_ne _ _ _ _ _ _ (by decide), bits_setBits]
  exact Nat.mod_eq_of_lt hop

theorem helperStart_does (h : Sound d) (v : Nat) : (chan (helperStart c v d) c).helper = bits v 0 3 ∧
    fld (helperStart c v d) (Reg.dmcTrnStat.at c) 0 1 = 1 ∧ (helperStart c v d).objs = d.objs := by
  unfold helperStart
  generalize hd1 : mend (Reg.dmcTrnCtrl.at c) (regSet (Reg.dmcTrnCtrl.at c) (v % 2 ^ 28 - bits v 11 2 * 2 ^ 11) d) = d1
  have h1 : Sound d1 := by
    subst hd1
    exact (mend_keeps (m := 65665) rfl (regSet_keeps (by rfl) (.refl d))).sound h
  have hobjs : d1.objs = d.objs := by subst hd1; simp only [mend_frame, regSet_frame]
  refine ⟨?_, fld_setFld _ (setChan_sound h1 _ _).regs.1 _ _ _ _ (by decide), ?_⟩
  · rw [chan_congr (d := setChan c { chan d c with helper := bits v 0 3 } d1) (by simp only [setFld_frame]), chan_setChan_self h1]
  · simp only [setFld_frame, setChan_objs, hobjs]

/-! ## Helper operations that end (R308) -/

theorem helperDone_idle (hidle : (chan d c).helper = 0) (m0 m1 m2 errs : Nat) (fail : Option TrnResult) :
    helperDone c m0 m1 m2 errs fail d = d := if_pos hidle

/-- The result of a compare: its fail mask, its error count and PASS. -/
def compareNoted (c m0 m1 m2 errs : Nat) (d : Dev) : Dev :=
  regSet (Reg.dmcTrnStat.at c) (b2n (errs == 0) * 2 + min errs 65535 * 2 ^ 16)
    (regSet (Reg.dmcTrnFail.at (3 * c)) (m0 % 2 ^ 32) (regSet (Reg.dmcTrnFail.at (3 * c + 1)) (m1 % 2 ^ 32)
      (regSet (Reg.dmcTrnFail.at (3 * c + 2)) (m2 % 2 ^ 16) d)))

/-- The operation is over: its result is noted, and RUNNING is 0. -/
def helperOver (c m0 m1 m2 errs : Nat) (d : Dev) : Dev :=
  let d1 := setChan c { chan d c with helper := 0 } d
  if (chan d c).helper = 1 then setFld (Reg.dmcTrnStat.at c) 0 1 0 d1 else compareNoted c m0 m1 m2 errs d1

theorem helperDone_runs (hruns : (chan d c).helper ≠ 0) (m0 m1 m2 errs : Nat) : helperDone c m0 m1 m2 errs none d = helperOver c m0 m1 m2 errs d :=
  if_neg hruns

theorem helperDone_fails {m0 m1 m2 errs : Nat} (hruns : (chan d c).helper ≠ 0) (htrains : chanState (helperOver c m0 m1 m2 errs d) c = 2)
    (r : TrnResult) :
    helperDone c m0 m1 m2 errs (some r) d = trainFail c r (helperOver c m0 m1 m2 errs d) :=
  (if_neg hruns).trans (if_pos htrains)

theorem compareNoted_frame (c m0 m1 m2 errs : Nat) (d : Dev) : (compareNoted c m0 m1 m2 errs d).chans = d.chans ∧
    (compareNoted c m0 m1 m2 errs d).objs = d.objs ∧ (compareNoted c m0 m1 m2 errs d).tbs = d.tbs := by
  simp only [compareNoted, regSet_frame, and_self]

theorem compareNoted_regs (h : Rising d.regs) (hc : isChan c = true) (m0 m1 m2 errs : Nat) : let e := compareNoted c m0 m1 m2 errs d
    regGet e (Reg.dmcTrnStat.at c) = b2n (errs == 0) * 2 + min errs 65535 * 2 ^ 16 ∧
      regGet e (Reg.dmcTrnFail.at (3 * c)) = m0 % 2 ^ 32 ∧ regGet e (Reg.dmcTrnFail.at (3 * c + 1)) = m1 % 2 ^ 32 ∧
      regGet e (Reg.dmcTrnFail.at (3 * c + 2)) = m2 % 2 ^ 16 := by
  have hlt : c < 16 := of_decide_eq_true hc
  have hstat : ∀ k, k < 48 → Reg.dmcTrnFail.at k ≠ Reg.dmcTrnStat.at c := fun k hk => by
    show 0x40240 + 4 * k ≠ 0x40180 + 4 * c
    omega
  have hmask : ∀ j k, j ≠ k → Reg.dmcTrnFail.at j ≠ Reg.dmcTrnFail.at k := fun j k hjk => by
    show 0x40240 + 4 * j ≠ 0x40240 + 4 * k
    omega
  have hpass : b2n (errs == 0) ≤ 1 := by cases errs == 0 <;> decide
  have h2 := regSet_rising h (Reg.dmcTrnFail.at (3 * c + 2)) (m2 % 2 ^ 16)
  have h1 := regSet_rising h2 (Reg.dmcTrnFail.at (3 * c + 1)) (m1 % 2 ^ 32)
  have h0 := regSet_rising h1 (Reg.dmcTrnFail.at (3 * c)) (m0 % 2 ^ 32)
  dsimp only [compareNoted]
  refine ⟨?_, ?_, ?_, ?_⟩
  · rw [regGet_set _ h0, if_pos rfl]
    omega
  · rw [regGet_set _ h0, if_neg (hstat _ (by omega)), regGet_set _ h1, if_pos rfl]
    omega
  · rw [regGet_set _ h0, if_neg (hstat _ (by omega)), regGet_set _ h1, if_neg (hmask _ _ (by omega)), regGet_set _ h2, if_pos rfl]
    omega
  · rw [regGet_set _ h0, if_neg (hstat _ (by omega)), regGet_set _ h1, if_neg (hmask _ _ (by omega)), regGet_set _ h2,
      if_neg (hmask _ _ (by omega)), regGet_set _ h, if_pos rfl]
    omega

theorem helperOver_does (h : Sound d) (m0 m1 m2 errs : Nat) : let e := helperOver c m0 m1 m2 errs d
    Sound e ∧ e.objs = d.objs ∧ chan e c = { chan d c with helper := 0 } ∧ e.tbs = d.tbs := by
  have hset : Sound (setChan c { chan d c with helper := 0 } d) := setChan_sound h _ _
  unfold helperOver
  dsimp only
  split
  · refine ⟨(setFld_keeps (m := 1) rfl (.refl _)).sound hset, by simp only [setFld_frame, setChan_objs], ?_,
      by simp only [setFld_frame, setChan_tbs]⟩
    rw [chan_congr (d := setChan c { chan d c with helper := 0 } d) (by simp only [setFld_frame]), chan_setChan_self h]
  · obtain ⟨hchans, hobjs, htbs⟩ := compareNoted_frame c m0 m1 m2 errs (setChan c { chan d c with helper := 0 } d)
    refine ⟨?_, hobjs, (chan_congr hchans c).trans (chan_setChan_self h c _), htbs⟩
    exact (regSet_keeps (m := 1) (by rfl) (regSet_keeps (by rfl) (regSet_keeps (by rfl) (regSet_keeps (by rfl) (.refl _))))).sound hset

theorem helperOver_running (h : Sound d) (hop : (chan d c).helper = 1) (m0 m1 m2 errs : Nat) :
    fld (helperOver c m0 m1 m2 errs d) (Reg.dmcTrnStat.at c) 0 1 = 0 := by
  unfold helperOver
  rw [if_pos hop]
  exact fld_setFld _ (setChan_sound h _ _).regs.1 _ _ _ _ (by decide)

theorem helperOver_compare (hop : 2 ≤ (chan d c).helper) (m0 m1 m2 errs : Nat) :
    helperOver c m0 m1 m2 errs d = compareNoted c m0 m1 m2 errs (setChan c { chan d c with helper := 0 } d) :=
  if_neg (by omega)

/-! ## The end of training and its failure (R309, R310) -/

theorem trnMs_congr {e : Dev} (htbs : e.tbs = d.tbs) (hstart : (chan e c).trainStart = (chan d c).trainStart) :
    trnMs e c = trnMs d c := by
  unfold trnMs
  rw [htbs, hstart]

section
variable (hc : isChan c = true)
include hc

/-- A channel that fails its training is in state 7, and its record tells the cause and the time. -/
theorem trainFail_does (h : Sound d) (r : TrnResult) :
    chanState (trainFail c r d) c = 7 ∧ objGet (trainFail c r d) 0x1804 c = trnRecord r (trnMs d c) := by
  unfold trainFail
  extract_lets d1 d2
  have h1 : Sound d1 := (objSet_keeps (m := 4) rfl (.refl d)).sound h
  have hstat : SameChan c d1 (setFld (Reg.dmcTrnStat.at c) 0 1 0 d1) := .of (setFld_keeps (m := 1) rfl (.refl d1)) rfl rfl
  obtain ⟨hset, -, hrec, -⟩ := hstat h1
  have h2 : Sound d2 := (channelGone_keeps (m := 2200633868420) rfl (.refl _)).sound hset
  obtain ⟨hst', hrec'⟩ := channelGone_does hc hset 7
  have hend : SameChan c d2 (trainingOver (startHeld d) (pulse 1 0x0043 3 c r.cause d2)) :=
    (SameChan.of (pulse_keeps (m := 128) rfl (.refl d2)) rfl rfl).trans (.trainingOver hc _ _)
  obtain ⟨-, hst'', hrec'', -⟩ := hend h2
  rw [hst'', hrec'', hst', hrec', hrec, objGet_set_self d h.objs.1]
  exact ⟨rfl, rfl⟩

/-- A channel that ends its training without an action to retrain is in service, with its record and no helper operation. -/
theorem trainFinish_does (h : Sound d) (hact : (chan d c).action ≠ 2) (r : TrnResult) :
    chanState (trainFinish c r d) c = 3 ∧ (chan (trainFinish c r d) c).helper = 0 ∧
      objGet (trainFinish c r d) 0x1804 c = trnRecord { r with cause := 0 } (trnMs d c) := by
  unfold trainFinish
  extract_lets was x d1
  have hset : Sound (setChan c { chan d c with helper := 0 } d) := setChan_sound h _ _
  have h1 : Sound d1 := (objSet_keeps (m := 4) rfl (.refl _)).sound hset
  have hchan : chan (setChanState c 3 d1) c = { chan d c with helper := 0 } :=
    (chan_objSet ..).trans ((chan_objSet ..).trans (chan_setChan_self h c _))
  have hrec : objGet (setChanState c 3 d1) 0x1804 c = trnRecord { r with cause := 0 } (trnMs d c) :=
    (objGet_set_ne d1 h1.objs.1 _ _ _ _ _ (objKey_ne (by decide) (chan_lt hc) (chan_lt hc))).trans
      (objGet_set_self _ hset.objs.1 _ _ _)
  have hend : SameChan c (setChanState c 3 d1) (powerSettle d1.tbs.ns (trainingOver was (pairTrained c (setChanState c 3 d1)))) :=
    (SameChan.pairTrained hc c _).trans ((SameChan.trainingOver hc was _).trans (.powerSettle _ _))
  rw [if_neg hact]
  obtain ⟨-, hst, hrec', g, hchan'⟩ := hend (setChanState_sound h1 c 3)
  rw [hst, hrec', hrec, hchan', hchan, chanState_setChanState h1]
  exact ⟨rfl, rfl, rfl⟩

end

theorem trainTimeLimit_due (htrains : chanState d c = 2) (hdue : (chan d c).trainStart + 3000000000 ≤ d.tbs.ns) :
    trainTimeLimit c d = trainFail c { cause := 6 } d := if_pos (by simp [htrains, hdue])

theorem trainTimeLimit_early (hearly : d.tbs.ns < (chan d c).trainStart + 3000000000) : trainTimeLimit c d = d :=
  if_neg (by simp; omega)

theorem trnRecord_cause (r : TrnResult) (ms : Nat) : byteAt (trnRecord r ms) 0 = r.cause % 256 := by
  unfold byteAt trnRecord
  omega

/-- What a write that starts operation `op` answers (R307, R308). -/
theorem answers_helperGo {s : State} {i : Instr} {who : Caller} {op v now : Nat} (hcarries : exec i s = helperGo who c op v now s)
    (hop : op < 8) (hawake : isHeld s.dev = false) (h : Sound s.dev) (hc : isChan c = true) : let y := atTime now s.dev
    (who = .firmware → trnErrs c (goValue op v) y = [] →
      Answers i s (fun d => (chan d c).helper = op ∧ fld d (Reg.dmcTrnStat.at c) 0 1 = 1 ∧ d.objs = y.objs)) ∧
    (who ≠ .firmware → Answers i s (fun d => d.chans = y.chans ∧ d.objs = y.objs)) := by
  refine ⟨fun hwho hgo => ?_, fun hwho => ?_⟩
  · subst hwho
    refine answers_actOn (f := fun d => trnWrite .firmware (Reg.dmcTrnCtrl.at c) (trnErrs c (goValue op v))
      (helperStart c (goValue op v)) (atTime now d)) hcarries hc hawake ?_
    rw [trnWrite_taken hgo]
    obtain ⟨hop', hruns, hobjs⟩ := helperStart_does (c := c) (sound_atTime now h) (goValue op v)
    exact ⟨hop'.trans (goValue_op hop v), hruns, hobjs⟩
  · exact answers_actOn hcarries hc hawake (trnWrite_denied hwho _ _ _ _)

end
end Sys2Proof.Machine
end

section
set_option autoImplicit false
open Sys2Proof Sys2Proof.Machine

/-- Settles O39: each helper operation by who starts it, its end by the operation that ran and the verdict on it, the end of
training by the state in which it comes. -/
theorem dramTraining : Obligations.DramTraining := by
  unfold Obligations.DramTraining
  refine ⟨?starts, ?ends, ?limit⟩
  case starts =>
    intro s who c v now hawake h hc y
    have hy : Sound y := sound_atTime now h
    refine ⟨fun op i hmem => ?_, fun r => ⟨fun hwho hst hact => ?_, fun hwho hst => ?_⟩⟩
    · simp only [List.mem_cons, Prod.mk.injEq, List.not_mem_nil, or_false] at hmem
      rcases hmem with ⟨rfl, rfl⟩ | ⟨rfl, rfl⟩ | ⟨rfl, rfl⟩ | ⟨rfl, rfl⟩
      · exact answers_helperGo rfl (by decide) hawake h hc
      · exact answers_helperGo rfl (by decide) hawake h hc
      · exact answers_helperGo rfl (by decide) hawake h hc
      · exact answers_helperGo rfl (by decide) hawake h hc
    · subst hwho
      refine answers_actOn rfl hc hawake ?_
      rw [trnWrite_taken (by rw [hst]; rfl)]
      have hmend : Sound (mend (Reg.dmcTrnCtrl.at c) y) := (mend_keeps (m := 65664) rfl (.refl y)).sound hy
      have hsame : chan (mend (Reg.dmcTrnCtrl.at c) y) c = chan y c := chan_congr (by simp only [mend_frame]) c
      rw [← trnMs_congr (d := y) (by simp only [mend_frame]) (congrArg Chan.trainStart hsame)]
      exact trainFinish_does hc hmend (by rwa [hsame]) r
    · subst hwho
      refine answers_actOn rfl hc hawake ?_
      have hbad : (chanState y c != 2) = true := by simpa using hst
      rw [trnWrite_refused (x := .state) (by rw [hbad]; rfl)]
      simp only [regDrop_frame, and_self, y]
  case ends =>
    intro s c m0 m1 m2 errs now hawake h hc y
    have hy : Sound y := sound_atTime now h
    obtain ⟨hover, hobjs, hchan, htbs⟩ := helperOver_does (c := c) hy m0 m1 m2 errs
    have hidle : (chan (helperOver c m0 m1 m2 errs y) c).helper = 0 := by rw [hchan]
    refine ⟨fun fail hnone => ?_, fun hop => ?_, fun hop => ?_, fun r hruns hst => ?_⟩
    · exact answers_actOn rfl hc hawake (helperDone_idle hnone _ _ _ _ _)
    · have hruns : (chan y c).helper ≠ 0 := by omega
      refine answers_actOn rfl hc hawake ?_
      rw [helperDone_runs hruns]
      exact ⟨hidle, helperOver_running hy hop _ _ _ _, hobjs⟩
    · have hruns : (chan y c).helper ≠ 0 := by omega
      refine answers_actOn rfl hc hawake ?_
      rw [helperDone_runs hruns]
      obtain ⟨hstat, hmask0, hmask1, hmask2⟩ := compareNoted_regs (setChan_sound hy c { chan y c with helper := 0 }).regs.1 hc m0 m1 m2 errs
      rw [← helperOver_compare hop] at hstat hmask0 hmask1 hmask2
      exact ⟨hidle, hstat, hmask0, hmask1, hmask2, hobjs⟩
    · refine answers_actOn rfl hc hawake ?_
      rw [helperDone_fails hruns ((objGet_congr hobjs _ _).trans hst), ← trnMs_congr htbs (by rw [hchan])]
      exact trainFail_does hc hover r
  case limit =>
    intro s c now hawake h hc y
    have hy : Sound y := sound_atTime now h
    refine ⟨fun hst hdue => ?_, fun hearly => ?_⟩
    · refine answers_actOn rfl hc hawake ?_
      rw [trainTimeLimit_due hst hdue]
      obtain ⟨hst', hrec⟩ := trainFail_does hc hy { cause := 6 }
      exact ⟨hst', (congrArg (byteAt · 0) hrec).trans (trnRecord_cause _ _)⟩
    · exact answers_actOn rfl hc hawake (trainTimeLimit_early hearly)

end

section
/-! PROOFS. Refresh and self-refresh of a DRAM channel, and the compare that freezes it (R312 to R318, R344, R493). -/
set_option autoImplicit false
namespace Sys2Proof.Machine

/-! ## What a freeze does to the holders of blocks leaves the channels (R344)

The slots of the holders need not be below 256: every object that changes lies above the training records. -/

section
variable {c : Nat} (hc : isChan c = true)
include hc

theorem SameChan.sendMirror (x : MirrorMsg) (d : Dev) : SameChan c d (sendMirror x d) :=
  .ofObjs (sendMirror_keeps (m := 275079233541) rfl (.refl d)) rfl
    fun h i hi => sendMirror_obj x d h.objs.1 i c (by omega) (chan_lt hc)

theorem SameChan.sendSeq (s : Nat) (x : MirrorMsg) (d : Dev) : SameChan c d (sendSeq s x d) :=
  .ofObjs (sendSeq_keeps (m := 275079233541) rfl (.refl d)) rfl
    fun h i hi => sendSeq_obj s x h.objs.1 (by omega) (chan_lt hc)

theorem SameChan.postTenant (s ty kind code subject detail : Nat) (d : Dev) : SameChan c d (postTenant s ty kind code subject detail d) :=
  .ofObjs (postTenant_keeps (m := 6420) rfl (.refl d)) rfl
    fun h i hi => postTenant_obj h.objs.1 _ _ _ _ _ _ _ _ (by omega) (chan_lt hc)

theorem SameChan.endSplice (s : Nat) (d : Dev) : SameChan c d (endSplice s d) :=
  .ofObjs (endSplice_keeps (m := 134224148) rfl (.refl d)) rfl
    fun h i hi => endSplice_obj h.objs.1 (by omega) (chan_lt hc)

theorem SameChan.crossing (s : Nat) (held : Bool) (d : Dev) : SameChan c d (crossing s held d) := by
  unfold Machine.crossing
  dsimp only
  exact (SameChan.of (setSess_keeps (m := 134217728) rfl (.refl d)) rfl rfl).trans
    ((SameChan.objCount hc (by decide) 32 s 1 _).trans
      ((SameChan.postTenant hc _ _ _ _ _ _ _).trans
        ((SameChan.of (raise_keeps (m := 256) rfl (.refl _)) rfl rfl).trans
          (.of (holdUpdate_keeps (m := 34359738369) rfl (.refl _)) rfl rfl))))

theorem SameChan.waterTest (s : Nat) (d : Dev) : SameChan c d (waterTest s d) := by
  have hdepth : SameChan c d (objMax 0x5020 s (intakeDepth d s) d) := .objSet hc (by decide) s _ d
  unfold Machine.waterTest
  dsimp only
  split
  · exact hdepth.trans (.crossing hc s true _)
  · split
    · exact hdepth.trans (.crossing hc s false _)
    · exact hdepth

theorem SameChan.dropUndispatched (s : Nat) (d : Dev) : SameChan c d (dropUndispatched s d) := by
  unfold Machine.dropUndispatched
  extract_lets x n whole keep m d1
  have hstreams : ∀ y, SameChan c d (setStream (liveSid s) y d1) := fun y =>
    .of (setStream_keeps (m := 4294967296) rfl (setStream_keeps (by rfl) (.refl d))) rfl rfl
  exact (hstreams _).trans ((SameChan.objCount hc (by decide) 32 s n _).trans (.waterTest hc s _))

/-- A suspension (R56). -/
theorem SameChan.suspend (s cause : Nat) (d : Dev) : SameChan c d (suspend s cause d) := by
  have hset : ∀ y e, SameChan c e (setSess s y e) := fun y e => .of (setSess_keeps (m := 134217728) rfl (.refl e)) rfl rfl
  unfold Machine.suspend
  dsimp only
  split
  · exact .refl d
  · split
    · exact (hset _ d).trans (.sendSeq hc s _ _)
    · split
      · exact (SameChan.endSplice hc s d).trans ((SameChan.dropUndispatched hc s _).trans ((hset _ _).trans
          ((SameChan.postTenant hc _ _ _ _ _ _ _).trans ((SameChan.of (pulse_keeps (m := 128) rfl (.refl _)) rfl rfl).trans
            (.sendSeq hc s _ _)))))
      · exact .refl d

/-- A lining that is DEGRADED (R201, R202). -/
theorem SameChan.degradeLining (l cause : Nat) (d : Dev) : SameChan c d (degradeLining l cause d) := by
  have hchange : SameChan c d (linChange l 3 cause d) :=
    .ofObjs (linChange_keeps (m := 6420) rfl (.refl d)) rfl fun h i hi => linChange_below h.objs.1 l 3 cause (by omega) (chan_lt hc)
  unfold Machine.degradeLining
  split
  · unfold sendLinState
    dsimp only
    split
    · exact hchange.trans ((SameChan.objCount hc (by decide) 32 l 1 _).trans (.sendMirror hc _ _))
    · exact hchange.trans (.sendMirror hc _ _)
  · exact .refl d

theorem SameChan.freezeHolders (k : Nat) (d : Dev) : SameChan c d (freezeHolders k d) :=
  (SameChan.each (fun s e => .suspend hc s 2 e) _ d).trans (.each (fun l e => .degradeLining hc l 4 e) _ _)

/-! ## A channel that freezes (R318) -/

/-- The controller of a channel that froze with `queued` requests. -/
def frozenChan (queued : List Nat) (x : Chan) : Chan :=
  { x with helper := 0, action := 0, stage := 0, running := 0, goal := 0, waits := false, padHeld := false, postponed := [],
           captured := queued.take 64, scrubbing := false }

theorem freezeChannel_does {d : Dev} (h : Sound d) (r : FreezeRec) : let e := freezeChannel c r d
    Sound e ∧ chanState e c = 5 ∧ ∃ g, chan e c = { frozenChan r.queued (chan d c) with goal := g } := by
  unfold freezeChannel
  extract_lets reads d1 x d2 d3 d4 d5 e
  have hrecord : SameChan c d d1 := .of (recordFreeze_keeps (m := 1) rfl (.refl d)) rfl rfl
  obtain ⟨h1, -, -, g, hchan⟩ := hrecord h
  have h2 : Sound d2 := setChan_sound h1 _ _
  have hrest : SameChan c (setChanState c 5 d2) e :=
    (SameChan.objCount hc (by decide) 32 c 1 _).trans ((SameChan.pairFreeze hc c reads d3).trans
      ((SameChan.of (raise_keeps (m := 256) rfl (.refl d4)) rfl rfl).trans
        ((SameChan.of (level_keeps (m := 128) rfl (.refl _)) rfl rfl).trans (.freezeHolders hc c d5))))
  obtain ⟨he, hst, -, g', hchan'⟩ := hrest (setChanState_sound h2 c 5)
  refine ⟨he, hst.trans (chanState_setChanState h2 c 5), g', ?_⟩
  rw [hchan', setChanState, chan_objSet, chan_setChan_self h1]
  simp only [x, hchan]
  rfl

/-- A failed compare of the training area freezes the channel (R316). -/
theorem freezeCompare_does {d : Dev} (h : Sound d) : let e := freezeCompare c d
    Sound e ∧ chanState e c = 5 ∧ ∃ g, chan e c = { frozenChan [] (chan d c) with goal := g } := by
  have hnext : ∀ e, SameChan c e (freeNext e) := fun e => .of (freeNext_keeps (m := 32) rfl (.refl e)) rfl rfl
  obtain ⟨hfree, -, -, g, hchan⟩ := ((hnext d).trans ((hnext _).trans (hnext _))) h
  unfold freezeCompare
  extract_lets a d1 y d2 q e
  obtain ⟨he, hst, g', hchan'⟩ := freezeChannel_does hc hfree { cause := 5, addr := a, syndrome := y, requester := q }
  refine ⟨he, hst, g', hchan'.trans ?_⟩
  rw [hchan]
  rfl

/-- A channel that exits self-refresh (R316) is in service, unless it must compare and the compare fails. -/
theorem refreshExit_does {d : Dev} (h : Sound d) (pass : Bool) : let e := refreshExit c pass d
    chanState e c = (if (chan d c).stage < 2 ∨ pass = true then 3 else 5) ∧ (chan e c).stage = 0 ∧ (chan e c).waits = false ∧
      ((chan d c).padHeld = false → (chan e c).padHeld = false) := by
  unfold refreshExit
  extract_lets x d1 e
  have h1 : Sound d1 := setChan_sound h _ _
  have hchan : chan d1 c = { x with stage := 0, running := 0, waits := false } := chan_setChan_self h c _
  by_cases hcompare : 2 ≤ x.stage ∧ pass = false
  · obtain ⟨hstage, rfl⟩ := hcompare
    obtain ⟨hfrozen, hst, g, hchan'⟩ := freezeCompare_does hc h1
    obtain ⟨-, hst', -, g', hchan''⟩ := SameChan.powerSettle (c := c) d.tbs.ns _ hfrozen
    have he : e = powerSettle d.tbs.ns (freezeCompare c d1) := if_pos (by simp [hstage])
    rw [he, hst', hst, hchan'', hchan', if_neg (not_or_intro (Nat.not_lt.mpr hstage) Bool.false_ne_true)]
    exact ⟨rfl, rfl, rfl, fun _ => rfl⟩
  · obtain ⟨-, hst, -, g, hchan'⟩ := SameChan.powerSettle (c := c) d.tbs.ns _ (setChanState_sound h1 c 3)
    have hpasses : x.stage < 2 ∨ pass = true := by
      rw [not_and_or, Nat.not_le, Bool.not_eq_false] at hcompare
      exact hcompare
    have he : e = powerSettle d.tbs.ns (setChanState c 3 d1) := if_neg (by rcases hpasses with hp | hp <;> simp [hp])
    rw [he, hst, chanState_setChanState h1, hchan', setChanState, chan_objSet, hchan, if_pos hpasses]
    exact ⟨rfl, rfl, rfl, id⟩

end

section
variable {d : Dev} {c : Nat}

/-! ## Refresh (R312, R313) -/

theorem modePoll_does {rank need : Nat} (h : Sound d) (hactive : chanActive d c = true) (hrank : rank < chanRanks d)
    (htemp : Rising (chan d c).temp) :
    tabGet 0 (chan (modePoll c rank need d) c).temp rank = need ∧ chanState (modePoll c rank need d) c = chanState d c := by
  have hpolled : tabGet 0 (chan (setChan c { chan d c with temp := tabPut 0 (chan d c).temp rank need } d) c).temp rank = need := by
    rw [chan_setChan_self h]
    exact (tabGet_put _ _ htemp _ _ _).trans (if_pos rfl)
  unfold modePoll
  rw [if_pos (by simp [hactive, hrank])]
  extract_lets x d1
  split
  · have hreport : SameChan c d1 (pulse (16 + c) 0x0042 0 (c + 256 * rank) 0 (raise 6 d1)) :=
      (SameChan.of (raise_keeps (m := 256) rfl (.refl d1)) rfl rfl).trans (.of (pulse_keeps (m := 128) rfl (.refl _)) rfl rfl)
    obtain ⟨-, hst, -, g, hchan⟩ := hreport (setChan_sound h _ _)
    rw [hst, hchan]
    exact ⟨hpolled, rfl⟩
  · exact ⟨hpolled, rfl⟩

theorem dramRefresh_active {rank : Nat} (hactive : chanActive d c = true) (hrank : rank < chanRanks d) (busy : Bool) :
    dramRefresh c rank busy d = setChan c { chan d c with
      postponed := tabPut 0 (chan d c).postponed rank (if busy && decide (tabGet 0 (chan d c).postponed rank < 4)
        then tabGet 0 (chan d c).postponed rank + 1 else 0) } d :=
  if_pos (by simp [hactive, hrank])

/-! ## Self-refresh (R314 to R316) -/

/-- A stage of entry that is done: 1 issues the entry, 3 holds the pads. -/
theorem stageDone_does (h : Sound d) : let e := stageDone c d
    (chan e c).stage = (chan d c).running ∧ (chan e c).running = 0 ∧ ((chan d c).running = 3 → (chan e c).padHeld = true) ∧
      chanState e c = if (chan d c).running = 1 then 4 else chanState d c := by
  unfold stageDone
  extract_lets x d1 e
  have h1 : Sound d1 := setChan_sound h _ _
  have hchan : chan d1 c = { x with stage := x.running, running := 0, postponed := [], padHeld := x.padHeld || x.running == 3 } :=
    chan_setChan_self h c _
  have hstate : let z := if x.running = 1 then setChanState c 4 d1 else d1
      Sound z ∧ chan z c = chan d1 c ∧ chanState z c = if x.running = 1 then 4 else chanState d c := by
    dsimp only
    split
    · exact ⟨setChanState_sound h1 c 4, chan_objSet .., chanState_setChanState h1 c 4⟩
    · exact ⟨h1, rfl, rfl⟩
  obtain ⟨hz, hchan', hst⟩ := hstate
  obtain ⟨-, hst', -, g, hchan''⟩ := SameChan.powerSettle (c := c) d.tbs.ns _ hz
  rw [hst', hst, hchan'', hchan', hchan]
  exact ⟨rfl, rfl, fun hthree => by simp [x, hthree], rfl⟩

/-- The stage that the power controller asks of a channel: at least stage 1 in the safe state (R314). -/
def askedStage (d : Dev) (c : Nat) : Nat := if d.flt.safe then max 1 (chan d c).stage else (chan d c).goal

/-- The block as the power controller has acted on the votes. -/
def settled (d : Dev) : Dev := powerSettle d.tbs.ns d

theorem refreshRequest_begins (hserves : inService (settled d) c = true) (hidle : (chan (settled d) c).running = 0)
    (hfree : (chan (settled d) c).waits = false) (hasked : (chan (settled d) c).stage < askedStage (settled d) c) :
    refreshRequest c d = setChan c { chan (settled d) c with running := (chan (settled d) c).stage + 1, goal := askedStage (settled d) c } (settled d) :=
  if_pos (by
    simp only [Bool.and_eq_true, beq_iff_eq, decide_eq_true_eq, Bool.not_eq_true']
    exact ⟨⟨⟨hserves, hidle⟩, hfree⟩, hasked⟩)

theorem refreshRequest_satisfied (hdone : askedStage (settled d) c ≤ (chan (settled d) c).stage) : refreshRequest c d = settled d :=
  if_neg (by
    simp only [Bool.and_eq_true, decide_eq_true_eq, not_and, Nat.not_lt]
    exact fun _ => hdone)

theorem refreshStage_runs (hruns : (chan d c).running ≠ 0) (pass : Bool) : refreshStage c pass d = stageDone c d := if_pos hruns

theorem refreshStage_exits (hidle : (chan d c).running = 0) (hst : chanState (settled d) c = 4)
    (hwanted : (chan (settled d) c).goal = 0 ∨ (chan (settled d) c).waits = true) (hsafe : (settled d).flt.safe = false)
    (hpads : (chan (settled d) c).padHeld = false) (hon : domOn (settled d) (96 + c) = true) (pass : Bool) :
    refreshStage c pass d = refreshExit c pass (settled d) :=
  (if_neg (not_not_intro hidle)).trans (if_pos (by
    simp only [Bool.and_eq_true, Bool.or_eq_true, decide_eq_true_eq, Bool.not_eq_true']
    exact ⟨⟨⟨⟨hst, hwanted⟩, hsafe⟩, hpads⟩, hon⟩))

theorem requestInRefresh_aborts (hst : chanState d c = 3) (hruns : (chan d c).running = 1) :
    requestInRefresh c d = powerSettle d.tbs.ns (objCount 32 0x5102 c 1 (setChan c { chan d c with running := 0 } d)) :=
  if_pos (by simp [hst, hruns])

theorem requestInRefresh_waits (hst : chanState d c = 4) :
    requestInRefresh c d = powerSettle d.tbs.ns (setChan c { chan d c with waits := true } d) :=
  (if_neg (by simp [hst])).trans (if_pos hst)

theorem padRelease_stays (hidle : (chan d c).padHeld = false ∨ domOn d (96 + c) = false) (pass : Bool) : padRelease c pass d = d :=
  if_neg (by rcases hidle with h | h <;> simp [h])

/-- Pads that are released: a channel in self-refresh exits. -/
theorem padRelease_does (h : Sound d) (hc : isChan c = true) (hpads : (chan d c).padHeld = true) (hon : domOn d (96 + c) = true)
    (pass : Bool) : let e := padRelease c pass d
    (chan e c).padHeld = false ∧
      chanState e c = if chanState d c ≠ 4 then chanState d c else if (chan d c).stage < 2 ∨ pass = true then 3 else 5 := by
  unfold padRelease
  extract_lets x d1 e
  have h1 : Sound d1 := setChan_sound h _ _
  have hchan : chan d1 c = { x with padHeld := false } := chan_setChan_self h c _
  have he : e = if chanState d c = 4 then refreshExit c pass d1 else d1 := if_pos (by simp [x, hpads, hon])
  rw [he]
  split
  · next hst =>
    obtain ⟨hst', -, -, hfree⟩ := refreshExit_does hc h1 pass
    rw [if_neg (not_not_intro hst), hst', hchan]
    exact ⟨hfree (by rw [hchan]), rfl⟩
  · next hst =>
    rw [hchan]
    exact ⟨rfl, rfl⟩

end

end Sys2Proof.Machine
end

section
set_option autoImplicit false
open Sys2Proof Sys2Proof.Machine

/-- Settles O40: each clause by the branch that its hypotheses take, and what the power controller that acts last leaves. -/
theorem dramRefresh : Obligations.DramRefresh := by
  unfold Obligations.DramRefresh
  intro s c now hawake h hc y z
  have hy : Sound y := sound_atTime now h
  have hz : Sound z := (powerSettle_keeps (m := 2199560126464) rfl (.refl y)).sound hy
  have hzobjs : z.objs = y.objs := powerSettle_objs _ _
  refine ⟨fun rank busy hactive hrank hrising => ?_, fun rank need hactive hrank hrising => ?_, ⟨fun hasked => ?_, fun hdone => ?_⟩,
    fun pass hruns => ?_, fun pass hidle hst hwanted hsafe hpads hon => ?_, fun hst hruns => ?_, fun hst => ?_,
    fun who pass hopen => ⟨fun hpads hon => ?_, fun hidle => ?_⟩⟩
  · refine answers_actOn rfl hc hawake ?_
    rw [dramRefresh_active hactive hrank]
    refine ⟨setChan_objs .., ?_⟩
    rw [chan_setChan_self hy]
    refine ((tabGet_put _ _ hrising _ _ _).trans (if_pos rfl)).trans ?_
    simp only [Bool.and_eq_true, decide_eq_true_eq]
  · exact answers_actOn rfl hc hawake (modePoll_does hy hactive hrank hrising)
  · obtain ⟨hserves, hidle, hfree, hstage⟩ := hasked
    refine answers_actOn rfl hc hawake ?_
    rw [refreshRequest_begins hserves hidle hfree hstage, chan_setChan_self (d := settled y) hz]
    exact ⟨rfl, rfl, hzobjs⟩
  · exact answers_actOn rfl hc hawake (refreshRequest_satisfied hdone)
  · refine answers_actOn rfl hc hawake ?_
    rw [refreshStage_runs hruns]
    exact stageDone_does hy
  · refine answers_actOn rfl hc hawake ?_
    rw [refreshStage_exits hidle hst hwanted hsafe hpads hon]
    obtain ⟨hst', hstage, hfree, -⟩ := refreshExit_does hc hz pass
    exact ⟨hst', hstage, hfree⟩
  · refine answers_actOn rfl hc hawake ?_
    rw [requestInRefresh_aborts hst hruns]
    have hset := setChan_sound hy c { chan y c with running := 0 }
    obtain ⟨hcounted, hst', -, g, hchan⟩ := SameChan.objCount hc (j := 0x5102) (by decide) 32 c 1 _ hset
    obtain ⟨-, hst'', -, g', hchan'⟩ := SameChan.powerSettle (c := c) y.tbs.ns _ hcounted
    rw [hst'', hst', hchan', hchan, chan_setChan_self hy, objGet_congr (powerSettle_objs _ _), objCount_get _ hset.objs.1]
    exact ⟨rfl, rfl, hst⟩
  · refine answers_actOn rfl hc hawake ?_
    rw [requestInRefresh_waits hst]
    obtain ⟨-, hst', -, g, hchan⟩ := SameChan.powerSettle (c := c) y.tbs.ns _ (setChan_sound hy c { chan y c with waits := true })
    rw [hst', hchan, chan_setChan_self hy]
    exact ⟨rfl, hst⟩
  · refine answers_actOn rfl hc hawake ?_
    rw [regGate_open hopen]
    exact padRelease_does hy hc hpads hon pass
  · refine answers_actOn rfl hc hawake ?_
    rw [regGate_open hopen]
    exact padRelease_stays hidle pass

end

section
/-! PROOFS. The freeze of a channel on which lies a block of a lining outside the 256 slots (R318, R344), which `Sound` does not
shut out. -/
set_option autoImplicit false
namespace Sys2Proof.Machine

/-- A lining far above slot 255, whose object 0x4000, the state of the lining, has the key of 0x5103:0, the freezes of channel 0. -/
def strayLining : Nat := 256 * (0x5103 - 0x4000)

/-- Channel 0 in service has frozen once, and holds a block of the stray lining. A second freeze counts 2, which reads as a lining
IN_STEP, so that its holder is DEGRADED: state 3. -/
def strayHolderDev : Dev :=
  { objs := [(objKey 0x1801 0, 3), (objKey 0x5103 0, 1)]
    wrd := { blocks := [(0, { use := .liningRecon strayLining 0 })] } }

theorem strayHolderDev_sound : Sound strayHolderDev where
  regs := ⟨.nil, by simp [strayHolderDev]⟩
  objs := ⟨by simp [strayHolderDev, objKey], fun e he => by
    simp only [strayHolderDev, List.mem_cons, List.not_mem_nil, or_false] at he
    rcases he with rfl | rfl
    · exact ⟨0x1801, 0, rfl, by decide⟩
    · exact ⟨0x5103, 0, rfl, by decide⟩⟩
  mem := ⟨.nil, by simp [strayHolderDev]⟩
  pair := by decide
  ring := by decide
  tabs := by constructor <;> simp [Rising, strayHolderDev]

theorem freezeCount_strayHolderDev : objGet (freezeChannel 0 {} (atTime 0 strayHolderDev)) 0x5103 0 = 3 := by decide +kernel

end Sys2Proof.Machine

open Sys2Proof.Machine

/-- Refutes O41: CHANNEL_FREEZE of channel 0 degrades the stray lining whose block lies there, which sets the count of its freezes
to 3, not 2. -/
theorem not_channelFreeze : ¬ Obligations.ChannelFreeze := by
  unfold Obligations.ChannelFreeze
  intro h
  obtain ⟨hfreezes, -⟩ := h ⟨strayHolderDev, []⟩ 0 0 (by decide) strayHolderDev_sound (by decide)
  obtain ⟨d, hnext, -, -, -, hcount⟩ := hfreezes {} (by decide)
  have hserves : inService (atTime 0 strayHolderDev) 0 = true := by decide
  cases (actOn_next (s := ⟨strayHolderDev, []⟩) rfl (by decide)).symm.trans hnext
  rw [if_pos hserves, freezeCount_strayHolderDev] at hcount
  exact absurd hcount (by decide)

end

section
/-! PROOFS. A step takes the command at the front, an idle step lets one nanosecond pass, a held device stands still, and the safe
state is left by a reset alone (R485, R486, R511, R513, R520). -/
set_option autoImplicit false
namespace Sys2Proof.Machine

/-- The instant of an event enters the timebase and nothing else. -/
theorem atTime_eq (now : Nat) (d : Dev) : atTime now d = { d with tbs := (atTime now d).tbs } := by
  unfold atTime
  dsimp only
  split <;> rfl

/-- A command whose meaning acts at its instant. -/
theorem answers_actAt {c : Instr} {s : State} {P : Dev → Prop} {f : Dev → Dev} {now : Nat}
    (he : exec c s = act (fun d => f (atTime now d)) s) (hawake : isHeld s.dev = false) (hp : P (f (atTime now s.dev))) :
    Answers c s P := answers_act (f := fun d => f (atTime now d)) he hawake hp

/-- The next nanosecond of a running timebase (R62). -/
theorem atTime_next {d : Dev} (hruns : d.tbs.running = true) (hbelow : d.tbs.ns + 1 < 2 ^ 64) :
    (atTime (d.tbs.ns + 1) d).tbs.ns = d.tbs.ns + 1 := by
  unfold atTime
  dsimp only
  rw [if_pos hruns]
  show max d.tbs.ns (min (d.tbs.ns + 1) (2 ^ 64 - 1)) = d.tbs.ns + 1
  omega

/-- A timebase that stands takes no instant. -/
theorem atTime_stands {d : Dev} (hstands : d.tbs.running = false) (now : Nat) : atTime now d = d := by
  unfold atTime
  dsimp only
  rw [if_neg (by simp [hstands])]

/-- With every tile off no sequencer runs (R461). -/
theorem runMicros_off {d : Dev} (hoff : ∀ t < 96, (tile d t).on = false) : runMicros d = d := by
  have hnone : (List.range 96).filter (fun t => (tile d t).on && !(tile d t).gone) = [] :=
    List.filter_eq_nil_iff.2 fun t ht => by simp [hoff t (List.mem_range.1 ht)]
  unfold runMicros
  rw [hnone]
  split <;> rfl

/-- A command answers with the queue as it was, or stops. -/
theorem exec_pending {c : Instr} {s t : State} (h : exec c s = .next t) : t.pending = s.pending := by
  rcases exec_answers c s with ⟨d, hnext⟩ | hfault
  · cases hnext.symm.trans h
    rfl
  · cases hfault.symm.trans h

/-- A command other than the four of the two pins does nothing to a held device (R513, R520; log 74). -/
theorem exec_held {c : Instr} {s t : State} (hheld : isHeld s.dev = true) (hpins : actsHeld c = false)
    (h : exec c s = .next t) : t = s := by
  unfold exec at h
  cases c
  all_goals first
    | exact act_held hheld h
    | exact actOn_held hheld h
    | cases hpins

end Sys2Proof.Machine

open Sys2Proof.Machine

/-- Settles O7: every command and an idle step keep the block within a mask, and what is kept so stays in the safe state. -/
theorem safeStateLeftOnlyByReset : Obligations.SafeStateLeftOnlyByReset := by
  unfold Obligations.SafeStateLeftOnlyByReset
  intro s t hsafe hbooted hstep
  obtain ⟨_, hkeeps⟩ := step_keeps hstep
  exact hkeeps.safe ⟨hsafe, hbooted⟩

/-- Settles O1: it is how a step is defined. -/
theorem stepRunsFront : Obligations.StepRunsFront := by
  unfold Obligations.StepRunsFront
  intro c rest d
  rfl

/-- Settles O2: a command leaves the rest of the queue, and an idle nanosecond enters the timebase before the sequencers run. -/
theorem queueFirstInFirstOut : Obligations.QueueFirstInFirstOut := by
  unfold Obligations.QueueFirstInFirstOut
  refine ⟨fun c rest d t hstep => exec_pending hstep, fun d => ?_⟩
  refine ⟨(atTime (d.tbs.ns + 1) d).tbs, ?_, atTime_next, fun hstands => by rw [atTime_stands hstands], fun hoff => runMicros_off hoff⟩
  rw [← atTime_eq]
  rfl

/-- Settles O4: each command but those four is a meaning that a held device does not carry out. -/
theorem heldDeviceIgnoresCommands : Obligations.HeldDeviceIgnoresCommands := by
  unfold Obligations.HeldDeviceIgnoresCommands
  intro c s t hheld hpins hnext
  exact exec_held hheld hpins hnext

end

section
/-! PROOFS. The fault collector: its clears, the acceptance of reports, the log, wire faults, the self-test and the force bits
(R473, R475 to R485). -/
set_option autoImplicit false
namespace Sys2Proof.Machine

/-! ## The collector's entry of a source -/

/-- A key that no entry of a table has is not found. -/
theorem tabFind_of_not_mem {α : Type} {k : Nat} : ∀ {t : Tab α}, k ∉ tabKeys t → tabFind t k = none
  | [], _ => rfl
  | (j, v) :: t, h => by
    obtain ⟨hj, ht⟩ := not_or.1 (mt List.mem_cons.2 h)
    rw [tabFind, if_neg (Ne.symm hj), tabFind_of_not_mem ht, ite_self]

theorem fltSrc_set {d : Dev} (h : Rising d.flt.srcs) (i j : Nat) (v : FltSrc) :
    fltSrc (setFltSrc i v d) j = if j = i then v else fltSrc d j := tabGet_put _ _ h _ _ _

theorem fltSrc_set_self {d : Dev} (h : Rising d.flt.srcs) (i : Nat) (v : FltSrc) : fltSrc (setFltSrc i v d) i = v :=
  (fltSrc_set h i i v).trans (if_pos rfl)

theorem fltSrc_set_ne {d : Dev} (h : Rising d.flt.srcs) {i j : Nat} (hj : j ≠ i) (v : FltSrc) :
    fltSrc (setFltSrc i v d) j = fltSrc d j := (fltSrc_set h i j v).trans (if_neg hj)

/-- The block differs in the collector's entries of the sources alone. -/
theorem setFltSrc_only (i : Nat) (v : FltSrc) (d : Dev) :
    setFltSrc i v d = { d with flt := { d.flt with srcs := (setFltSrc i v d).flt.srcs } } := rfl

/-! ## Clears (R473, R475, R478, R481) -/

/-- The counts of a source cleared (R473). -/
def uncounted (f : FltSrc) : FltSrc := { f with occ := 0, disc := 0 }

theorem uncounted_uncounted (f : FltSrc) : uncounted (uncounted f) = uncounted f := rfl

/-- Clearing the counts of the listed sources changes the entries alone, and each listed one to its entry without counts. -/
theorem clearCounts_does : ∀ (l : List Nat) {d : Dev}, Rising d.flt.srcs →
    let e := forEach l (fun i d => setFltSrc i (uncounted (fltSrc d i)) d) d
    e = { d with flt := { d.flt with srcs := e.flt.srcs } } ∧
      ∀ i, fltSrc e i = if i ∈ l then uncounted (fltSrc d i) else fltSrc d i
  | [], d, _ => ⟨rfl, fun i => rfl⟩
  | k :: l, d, h => by
    obtain ⟨honly, hsrc⟩ := clearCounts_does l (d := setFltSrc k (uncounted (fltSrc d k)) d) (rising_put h)
    refine ⟨honly, fun i => (hsrc i).trans ?_⟩
    rw [fltSrc_set h]
    by_cases hi : i = k
    · simp [hi, uncounted_uncounted]
    · simp [hi]

/-- FLT_CNT_CLR clears every count of the collector (R473): a source that is not listed has none. -/
theorem fltCntClr_does {d : Dev} (h : Rising d.flt.srcs) : (fltCntClr d).flt.discTotal = 0 ∧
    (∀ i, fltSrc (fltCntClr d) i = uncounted (fltSrc d i)) ∧
    fltCntClr d = { d with flt := { d.flt with srcs := (fltCntClr d).flt.srcs, discTotal := 0 } } := by
  obtain ⟨honly, hsrc⟩ := clearCounts_does (tabKeys d.flt.srcs) (d := { d with flt := { d.flt with discTotal := 0 } }) h
  refine ⟨congrArg (fun e : Dev => e.flt.discTotal) honly, fun i => (hsrc i).trans ?_, honly⟩
  split
  · rfl
  · next hi =>
    have hnew : fltSrc d i = {} := by rw [fltSrc, tabGet, tabFind_of_not_mem hi, Option.getD_none]
    show fltSrc d i = uncounted (fltSrc d i)
    rw [hnew]
    rfl

/-- The bits of a number written bit by bit. -/
theorem bit_five (a b c e f : Bool) :
    let n := b2n a + 2 * b2n b + 4 * b2n c + 8 * b2n e + 16 * b2n f
    bit n 0 = a ∧ bit n 1 = b ∧ bit n 2 = c ∧ bit n 3 = e ∧ bit n 4 = f := by
  revert a b c e f
  decide

/-- With no level report standing, the named standing bits 0 to 3 of the source are cleared (R481). -/
theorem standingClear_does {d : Dev} {src : Nat} (h : Rising d.flt.srcs) (hlevels : (fltSrc d src).levels = []) (mask : Nat) :
    let e := standingClear src mask d
    (∀ k < 4, bit (fltSrc e src).standing k = (bit (fltSrc d src).standing k && !bit mask k)) ∧
      bit (fltSrc e src).standing 4 = bit (fltSrc d src).standing 4 ∧
      (∀ i, i ≠ src → fltSrc e i = fltSrc d i) ∧ e = { d with flt := { d.flt with srcs := e.flt.srcs } } := by
  dsimp only
  have hundone : ∀ k, clearUndone (fltSrc d src) k = false := fun k => by simp [clearUndone, hlevels]
  unfold standingClear
  dsimp only
  simp only [hundone, Bool.or_false, fltSrc_set_self h]
  obtain ⟨h0, h1, h2, h3, h4⟩ := bit_five (bit (fltSrc d src).standing 0 && !bit mask 0) (bit (fltSrc d src).standing 1 && !bit mask 1)
    (bit (fltSrc d src).standing 2 && !bit mask 2) (bit (fltSrc d src).standing 3 && !bit mask 3) (bit (fltSrc d src).standing 4)
  refine ⟨fun k hk => ?_, h4, fun i hi => fltSrc_set_ne h hi _, setFltSrc_only _ _ _⟩
  have hcases : k = 0 ∨ k = 1 ∨ k = 2 ∨ k = 3 := by omega
  rcases hcases with rfl | rfl | rfl | rfl
  exacts [h0, h1, h2, h3]

/-! ## Acceptance (R475) -/

theorem takePresented_one {r : Report} {l : List Report} (h : l.find? (·.src == r.src) = some r) :
    takePresented [(r.src, true)] l = ([r], l.erase r) := by
  simp [takePresented, h]

/-- The collector once one report is accepted alone (R475, R485). -/
theorem acceptAll_flt (r : Report) (d : Dev) :
    let cap : Capture := { rep := r, time := d.tbs.ns, seq := 0 }
    let f : Flt := { d.flt with
      srcs := (acceptAll [r] d).flt.srcs
      first := if d.flt.first.isNone then some cap else d.flt.first
      worst := if beatsWorst d r then some cap else d.flt.worst
      orders := d.flt.orders + 1 }
    (acceptAll [r] d).flt = if r.sev = 4 ∧ d.flt.safe = false then { f with safe := true, cause := if r.forced then 2 else 1 } else f := by
  dsimp only
  rw [acceptAll_one]
  dsimp only
  by_cases hsev : r.sev = 4
  · rw [if_pos hsev, enterSafe_flt, acceptOne_flt]
    cases d.flt.safe <;> simp [hsev]
  · rw [if_neg hsev, acceptOne_flt]
    simp [hsev]

/-- The entry of a source that has accepted a report has the report's standing bit set (R475 item 1). -/
theorem srcWith_standing (time o : Nat) (a b : Bool) (r : Report) (f : FltSrc) :
    bit (srcWith time o a b r f).standing r.sev = true := by
  unfold srcWith
  dsimp only
  split
  · assumption
  · next hclear => exact bit_add_self _ _ (Bool.eq_false_iff.2 hclear)

theorem srcWith_levels (time o : Nat) (a b : Bool) {r : Report} (hlevel : r.level = true) (f : FltSrc) :
    r ∈ (srcWith time o a b r f).levels := by
  simp [srcWith, hlevel]

theorem acceptAll_sound {d : Dev} (h : Sound d) (rs : List Report) : Sound (acceptAll rs d) :=
  (acceptAll_keeps (m := 46841995701) rfl (.refl d)).sound h

/-- A report off the list of those presented (R472). -/
def offPair (r : Report) (d : Dev) : Dev := { d with flt := { d.flt with presented := d.flt.presented.erase r } }

/-- FAULT_REPORT_ACCEPT of one report takes it off the list, and the collector accepts it at the instant (R475). -/
theorem faultReportAccept_one {d : Dev} {r : Report} (h : d.flt.presented.find? (·.src == r.src) = some r) (now : Nat) :
    faultReportAccept [(r.src, true)] now d = acceptAll [r] (atTime now (offPair r d)) := by
  unfold faultReportAccept
  rw [takePresented_one h]
  rfl

theorem atTime_tbs_congr {d e : Dev} (h : e.tbs = d.tbs) (now : Nat) : (atTime now e).tbs = (atTime now d).tbs := by
  unfold atTime
  dsimp only
  rw [h]
  split
  · rfl
  · exact h

/-! ## The log (R476 to R479) -/

/-- Has the ring room for the record of a latch (R478)? -/
def hasRoom (d : Dev) (a : Latch) : Prop := if a.rep.sev < 3 then 8 < logFree d else 0 < logFree d

/-- The collector's view once the latch of source `i` clears (R477). -/
def unlatched (i : Nat) (d : Dev) : Dev := setFltSrc i { fltSrc d i with latch := none } d

theorem logNext_stores {d : Dev} {i : Nat} {a : Latch} (hnext : nextPending d.flt.srcs = some (i, a)) (hroom : hasRoom d a) :
    logNext d = logStore i a (unlatched i d) := by
  unfold logNext
  rw [hnext]
  unfold hasRoom at hroom
  dsimp only
  split at hroom <;> simp_all [unlatched]

theorem logNext_loses {d : Dev} {i : Nat} {a : Latch} (hnext : nextPending d.flt.srcs = some (i, a)) (hroom : ¬ hasRoom d a) :
    logNext d = logLose a (unlatched i d) := by
  unfold logNext
  rw [hnext]
  unfold hasRoom at hroom
  dsimp only
  split at hroom <;> simp_all [unlatched]

/-- The record of a latch is written at the head of the ring, and the head advances (R476, R477). -/
theorem logStore_flt (i : Nat) (a : Latch) (d : Dev) : (logStore i a d).flt = { d.flt with
    log := tabPut {} d.flt.log (d.flt.head % 256) (recordOf d.flt.head d.flt.integrity i a)
    head := (d.flt.head + 1) % 2 ^ 32
    first := capSeq a.first d.flt.head d.flt.first
    worst := capSeq a.worst d.flt.head d.flt.worst } := by
  unfold logStore
  dsimp only
  split
  · simp only [raise_frame, recordOf]
  · simp only [recordOf]

theorem unlatched_latch {d : Dev} (h : Rising d.flt.srcs) (i : Nat) : (fltSrc (unlatched i d) i).latch = none := by
  rw [unlatched, fltSrc_set_self h]

theorem unlatched_other {d : Dev} (h : Rising d.flt.srcs) {i j : Nat} (hj : j ≠ i) : fltSrc (unlatched i d) j = fltSrc d j := by
  rw [unlatched, fltSrc_set_ne h hj]

/-- The next record is written where the ring has room for it and its latch is discarded otherwise; either way the latch clears
(R477, R478). -/
theorem logNext_does {d : Dev} {i : Nat} {a : Latch} (h : Sound d) (hnext : nextPending d.flt.srcs = some (i, a)) :
    let e := logNext d
    (fltSrc e i).latch = none ∧ (∀ j, j ≠ i → fltSrc e j = fltSrc d j) ∧ e.flt.safe = d.flt.safe ∧
      e.flt.presented = d.flt.presented ∧
      if (if a.rep.sev < 3 then 8 < logFree d else 0 < logFree d) then
        tabGet {} e.flt.log (d.flt.head % 256) = recordOf d.flt.head d.flt.integrity i a ∧
        e.flt.head = (d.flt.head + 1) % 2 ^ 32 ∧ e.flt.lostEvents = d.flt.lostEvents
      else
        e.flt.log = d.flt.log ∧ e.flt.head = d.flt.head ∧ e.flt.lostEvents = satAdd 24 d.flt.lostEvents a.rep.count ∧
        e.flt.lostSev = max d.flt.lostSev a.rep.sev ∧ e.flt.lostAny = true := by
  have hlatch := unlatched_latch h.tabs.srcs i
  have hothers : ∀ j, j ≠ i → fltSrc (unlatched i d) j = fltSrc d j := fun j hj => unlatched_other h.tabs.srcs hj
  dsimp only
  by_cases hroom : hasRoom d a
  · have hview : ∀ j, fltSrc (logStore i a (unlatched i d)) j = fltSrc (unlatched i d) j := fun j => by
      unfold fltSrc; rw [logStore_flt]
    rw [logNext_stores hnext hroom]
    unfold hasRoom at hroom
    rw [if_pos hroom]
    simp only [hview, logStore_flt]
    exact ⟨hlatch, hothers, rfl, rfl, (tabGet_put _ _ h.tabs.log _ _ _).trans (if_pos rfl), rfl, rfl⟩
  · rw [logNext_loses hnext hroom]
    unfold hasRoom at hroom
    rw [if_neg hroom]
    exact ⟨hlatch, hothers, rfl, rfl, rfl, rfl, rfl, rfl, rfl⟩

/-! ## Wire faults, the self-test, the force bits (R473, R480, R483, R484) -/

/-- The wire fault of a source as it is accepted (R473). -/
def wireReport (src : Nat) (forced : Bool) : Report := { src := src, code := 0x0002, sev := 3, level := true, forced := forced }

theorem wireFault_does {d : Dev} (h : Sound d) (src : Nat) (forced : Bool) :
    let e := wireFault src forced d
    (fltSrc e src).wire = true ∧ bit (fltSrc e src).standing 3 = true ∧
      (∃ r ∈ (fltSrc e src).levels, r.code = 0x0002 ∧ r.sev = 3 ∧ r.forced = forced) ∧
      (∀ i, i ≠ src → fltSrc e i = fltSrc d i) ∧ e.flt.safe = d.flt.safe := by
  obtain ⟨hsafe, -⟩ := acceptAll_safe (wireReport src forced) d
  have hrise := (acceptAll_sound h [wireReport src forced]).tabs.srcs
  have hsrcs := acceptAll_srcs (wireReport src forced) d h.tabs.srcs
  have hself := hsrcs src
  rw [if_pos (show src = (wireReport src forced).src from rfl)] at hself
  generalize hx : acceptAll [wireReport src forced] d = x at hsafe hrise hsrcs hself
  have he : wireFault src forced d = setFltSrc src { fltSrc x src with wire := true } x := by rw [← hx]; rfl
  have hstanding : bit (fltSrc x src).standing 3 = true := by
    rw [hself]
    exact srcWith_standing _ _ _ _ (wireReport src forced) _
  have hlevel : wireReport src forced ∈ (fltSrc x src).levels := by
    rw [hself]
    exact srcWith_levels _ _ _ _ rfl _
  dsimp only
  rw [he, fltSrc_set_self hrise]
  refine ⟨rfl, hstanding, ⟨wireReport src forced, hlevel, rfl, rfl, rfl⟩, fun i hi => ?_, ?_⟩
  · rw [fltSrc_set_ne hrise hi, hsrcs]
    exact if_neg hi
  · show x.flt.safe = d.flt.safe
    rw [hsafe]
    simp [wireReport]

/-- An integrity failure is kept, stands at source 0 and enters the safe state (R484, R485). -/
theorem collectorIntegrity_does {d : Dev} (h : Sound d) (offset : Nat) :
    let e := collectorIntegrity offset d
    e.flt.integrity = true ∧ e.flt.safe = true ∧ bit (fltSrc e 0).standing 4 = true := by
  generalize hr : ({ src := 0, code := 0x0001, sev := 4, level := true, subject := offset } : Report) = r
  have hsev : r.sev = 4 := by rw [← hr]
  have hsrc : r.src = 0 := by rw [← hr]
  have he : collectorIntegrity offset d = acceptAll [r] { d with flt := { d.flt with integrity := true } } := by rw [← hr]; rfl
  obtain ⟨hsafe, hintegrity⟩ := acceptAll_safe r { d with flt := { d.flt with integrity := true } }
  have hself := acceptAll_srcs r { d with flt := { d.flt with integrity := true } } h.tabs.srcs 0
  dsimp only
  rw [he]
  refine ⟨hintegrity, by simp [hsafe, hsev], ?_⟩
  rw [hself, if_pos hsrc.symm, ← hsev]
  exact srcWith_standing _ _ _ _ _ _

/-- A spell of disagreement is counted at its source and in all (R473). -/
theorem discSpell_does {d : Dev} (h : Rising d.flt.srcs) (src : Nat) :
    let e := discSpell src d
    fltSrc e src = { fltSrc d src with disc := satAdd 12 (fltSrc d src).disc 1 } ∧
      e = { d with flt := { d.flt with srcs := e.flt.srcs, discTotal := satAdd 32 d.flt.discTotal 1 } } :=
  ⟨fltSrc_set_self (d := { d with flt := { d.flt with discTotal := satAdd 32 d.flt.discTotal 1 } }) h src _, rfl⟩

/-- Agreement ends the wire fault and the level that stood for it (R473, R537). -/
theorem wireEnd_does {d : Dev} (h : Rising d.flt.srcs) (src : Nat) :
    let e := wireEnd src d
    fltSrc e src = { fltSrc d src with
        wire := false
        levels := (fltSrc d src).levels.filter fun p => !(p.code == 0x0002 && p.subject == 0) } ∧
      (∀ i, i ≠ src → fltSrc e i = fltSrc d i) ∧ e = { d with flt := { d.flt with srcs := e.flt.srcs } } := by
  have hrise : Rising (levelEnd src 0x0002 0 d).flt.srcs := rising_put h
  refine ⟨?_, fun i hi => ?_, rfl⟩
  · unfold wireEnd
    rw [fltSrc_set_self hrise, levelEnd, fltSrc_set_self h]
  · unfold wireEnd
    rw [fltSrc_set_ne hrise hi, levelEnd, fltSrc_set_ne h hi]

/-- The report that a force bit presents (R483). -/
def forcedReport (src : Nat) (d : Dev) : Report :=
  { src := src, code := 0x00FF, sev := bits (regGet d Reg.fltForceCfg.base) 0 3, forced := true }

/-- A force bit in MODE 0 presents its report while the source's pair is free (R471, R483). -/
theorem forceWrite_presents {d : Dev} {src : Nat} (hsrc : src ≤ 138) (hon : bit (regGet d Reg.fltCtrl.base) 9 = true)
    (hmode : bit (regGet d Reg.fltForceCfg.base) 3 = false) (hfree : pulsesOf src d.flt.presented < 2) (who : Caller) :
    forceWrite who src d = { d with flt := { d.flt with presented := d.flt.presented ++ [forcedReport src d] } } := by
  have herrs : forceErrs d src = [] := by simp [forceErrs, earned, hon, hmode, hsrc]
  unfold forceWrite forceAct
  rw [herrs, lowest_nil]
  dsimp only
  rw [if_neg (by simp [hmode]), report, if_neg (by simp), if_pos hfree]
  rfl

end Sys2Proof.Machine

open Sys2Proof.Machine

/-- Settles O17: each clear acts as the lemma of its act says, the write reaching it in every state. -/
theorem faultClears : Obligations.FaultClears := by
  unfold Obligations.FaultClears
  intro who s hawake hsound
  refine ⟨fun hopen => ⟨?_, ?_, ?_, ?_⟩, fun src mask hsrc hlevels _ hopen => ?_⟩
  · exact answers_act rfl hawake (regGate_open hopen)
  · exact answers_act rfl hawake (regGate_open hopen)
  · exact answers_act rfl hawake (regGate_open hopen)
  · refine answers_act rfl hawake ?_
    rw [regGate_open hopen]
    exact fltCntClr_does hsound.tabs.srcs
  · refine answers_actOn rfl (decide_eq_true hsrc) hawake ?_
    rw [regGate_open hopen]
    exact standingClear_does hsound.tabs.srcs hlevels mask

/-- Settles O18: the collector and the source's entry once the one report is accepted. -/
theorem faultAcceptance : Obligations.FaultAcceptance := by
  unfold Obligations.FaultAcceptance
  intro s r now hawake hsound hfirst
  refine answers_act rfl hawake ?_
  rw [faultReportAccept_one hfirst]
  generalize hx : atTime now (offPair r s.dev) = x
  have hflt : x.flt = { s.dev.flt with presented := s.dev.flt.presented.erase r } := by
    rw [← hx]
    simp only [atTime_frame]
    rfl
  have hns : x.tbs.ns = (atTime now s.dev).tbs.ns := by
    rw [← hx]
    exact congrArg Tbs.ns (atTime_tbs_congr (d := s.dev) (e := offPair r s.dev) rfl now)
  have hview : ∀ i, fltSrc x i = fltSrc s.dev i := fun i => by unfold fltSrc; rw [hflt]
  have hrise : Rising x.flt.srcs := by rw [hflt]; exact hsound.tabs.srcs
  have hsrcs := acceptAll_srcs r x hrise
  have hself := hsrcs r.src
  rw [if_pos rfl, hview] at hself
  have hbeats : beatsWorst x r = beatsWorst s.dev r := by unfold beatsWorst; rw [hflt]
  have hall := acceptAll_flt r x
  dsimp only at hall
  rw [hns, hbeats, hflt] at hall
  dsimp only at hall ⊢
  rw [hself]
  refine ⟨?_, srcWith_standing _ _ _ _ _ _, rfl, rfl, fun hlevel => srcWith_levels _ _ _ _ hlevel _, fun i hi => ?_, ?_, ?_, ?_, ?_, ?_, ?_⟩
  · rw [hall]; split <;> rfl
  · rw [hsrcs, if_neg hi, hview]
  · rw [hall, apply_ite Flt.first, ite_self]
    simp only [Option.isNone_iff_eq_none]
  · intro hnone
    rw [hall, apply_ite Flt.worst, ite_self]
    simp [beatsWorst, hnone]
  · intro w hw
    rw [hall, apply_ite Flt.worst, ite_self]
    simp [beatsWorst, hw, apply_ite some]
  · intro hsev
    rw [hall]
    cases s.dev.flt.safe <;> simp [hsev]
  · intro hsev
    rw [hall, if_neg (fun h => hsev h.1)]
    exact ⟨rfl, rfl⟩
  · rw [hall]
    split <;> exact ⟨rfl, rfl, rfl⟩

/-- Settles O19: the next record by whether the ring has room, the selected slot, and the tail by whether R479 takes it. -/
theorem faultLog : Obligations.FaultLog := by
  unfold Obligations.FaultLog
  refine ⟨fun s now i a hawake hsound hnext => ?_, fun who s v now hawake hv hopen => ?_,
    fun who s v hawake hv hopen => ⟨fun hok => ?_, fun hbad => ?_⟩⟩
  · refine answers_actAt rfl hawake ?_
    have hsound' := sound_atTime now hsound
    rw [atTime_eq] at hsound' ⊢
    exact logNext_does hsound' hnext
  · refine answers_actAt rfl hawake ?_
    rw [regGate_open (by rwa [regOpen_atTime]), Nat.mod_eq_of_lt hv, atTime_eq]
    exact ⟨rfl, rfl, rfl, rfl⟩
  · refine answers_act rfl hawake ?_
    rw [regGate_open hopen, Nat.mod_eq_of_lt hv, if_pos hok]
    rfl
  · refine answers_act rfl hawake ?_
    rw [regGate_open hopen, Nat.mod_eq_of_lt hv, if_neg (Bool.eq_false_iff.1 hbad)]
    exact ⟨rfl, by simp only [regDrop_frame]⟩

/-- Settles O20: each event of a wire, of the collector and of a force bit by the lemma of its act. -/
theorem faultWiresAndSelfTest : Obligations.FaultWiresAndSelfTest := by
  unfold Obligations.FaultWiresAndSelfTest
  intro s hawake hsound
  refine ⟨fun src hsrc => ⟨?_, ?_, fun forced now => ?_⟩, fun offset now => ?_, fun now => ⟨?_, ?_⟩,
    fun who src now hsrc hopen hon hmode hfree => ?_⟩
  · exact answers_actOn rfl hsrc hawake (discSpell_does hsound.tabs.srcs src)
  · exact answers_actOn rfl hsrc hawake (wireEnd_does hsound.tabs.srcs src)
  · refine answers_actOn rfl hsrc hawake ?_
    have hwire := wireFault_does (sound_atTime now hsound) src forced
    simpa only [atTime_fltSrc, atTime_frame] using hwire
  · exact answers_actAt rfl hawake (collectorIntegrity_does (sound_atTime now hsound) offset)
  · refine answers_act (by unfold exec; exact rfl) hawake ?_
    rw [atTime_eq]
    exact ⟨rfl, rfl, rfl⟩
  · refine answers_act (by unfold exec; exact rfl) hawake ?_
    simp only [Bool.false_eq_true, if_false, enterSafe_flt]
    split
    · next hsafe => exact ⟨rfl, hsafe⟩
    · exact ⟨rfl, rfl⟩
  · refine answers_actAt rfl hawake ?_
    rw [regGate_open (by rwa [regOpen_atTime]), forceWrite_presents hsrc (by rw [atTime_eq]; exact hon)
      (by rw [atTime_eq]; exact hmode) (by rw [atTime_eq]; exact hfree)]
    exact ⟨_, List.mem_append_right _ (List.mem_singleton_self _), rfl, rfl, by rw [atTime_eq]; rfl, rfl⟩

end

section
/-! PROOFS. The pointer registers of the queues, the fetch of a descriptor and its completion (R371, R381 to R384, R387). -/
set_option autoImplicit false
namespace Sys2Proof.Machine

section
variable {d : Dev} {who : Caller} {k v j : Nat}

/-! ## Pointer writes (R381, R382) -/

theorem lowest_cons (e : Err) (l : List Err) : ∃ x, lowest (e :: l) = some x := by
  unfold lowest
  split
  · exact ⟨e, rfl⟩
  · split
    · exact ⟨e, rfl⟩
    · exact ⟨_, rfl⟩

theorem ptrErrs_none (hw : v < 2 ^ 14) (hv : v < ringSize d k) (hon : (ring d k).on = true) : ptrErrs k v d = [] := by
  simp [ptrErrs, earned, hv, hon, show v < 16384 from hw]

/-- A value at or above the ring size earns E_RANGE first (R381). -/
theorem ptrErrs_range (hv : ringSize d k ≤ v) : ∃ l, ptrErrs k v d = .range :: l := by
  simp [ptrErrs, earned, hv]

theorem sqTailErrs_none (hw : v < 2 ^ 14) (hv : v < ringSize d k) (hon : (ring d k).on = true)
    (hfree : (ring d k).unfreed ≤ ringDist (ringSize d k) (ring d k).head v) : sqTailErrs k v d = [] := by
  simp [sqTailErrs, ptrErrs_none hw hv hon, earned, Nat.not_lt.2 hfree]

theorem headErrs_none (hw : v < 2 ^ 14) (hv : v < ringSize d k) (hon : (ring d k).on = true)
    (hpassed : ringDist (ringSize d k) (ring d k).head v ≤ (ring d k).count) : headErrs k v d = [] := by
  simp [headErrs, ptrErrs_none hw hv hon, earned, Nat.not_lt.2 hpassed]

/-- A pointer write that earns no code is carried out. -/
theorem ptrWrite_taken {key : Nat} {errs : Dev → List Err} {f : Dev → Dev} (hpage : pageOpen who d = true) (herrs : errs d = []) :
    ptrWrite who key errs f d = mend key (f d) := by
  rw [ptrWrite_open hpage, herrs, lowest_nil]

/-- A pointer write that sets a ring changes that ring alone. -/
theorem mend_setRing (h : Rising d.rings) (key : Nat) (r : Ring) : ring (mend key (setRing k r d)) k = r ∧
    (∀ j, j ≠ k → ring (mend key (setRing k r d)) j = ring d j) ∧ (mend key (setRing k r d)).objs = d.objs ∧
    (mend key (setRing k r d)).dmaCh = d.dmaCh := by
  have hring : ∀ j, ring (mend key (setRing k r d)) j = if j = k then r else ring d j := fun j =>
    (ring_mend _ _ _).trans (ring_set d h k j r)
  exact ⟨(hring k).trans (if_pos rfl), fun j hj => (hring j).trans (if_neg hj), by simp only [mend_frame, setRing_objs],
    by simp only [mend_frame, setRing_dmaCh]⟩

/-- A head write that passes none of the checks' codes moves the head and releases what it passes (R382). -/
theorem headWrite_does (h : Rising d.rings) (hpage : pageOpen who d = true) (hw : v < 2 ^ 14) (hv : v < ringSize d k)
    (hon : (ring d k).on = true) (hpassed : ringDist (ringSize d k) (ring d k).head v ≤ (ring d k).count) (key : Nat) :
    let e := ptrWrite who key (headErrs k v) (fun d => moveHead k v d) d
    ring e k = { ring d k with
        head := v, count := (ring d k).count - ringDist (ringSize d k) (ring d k).head v } ∧
      (∀ j, j ≠ k → ring e j = ring d j) ∧ e.objs = d.objs ∧ e.dmaCh = d.dmaCh := by
  rw [ptrWrite_taken hpage (headErrs_none hw hv hon hpassed)]
  exact mend_setRing h key _

/-! ## The fetch of a descriptor (R371, R382) -/

theorem descriptorFetch_fetches {fn q c : Nat} {desc : Desc} (hidle : chanIdle d c = true) (hwork : hasWork d (sqKey fn q) = true)
    (hsafe : d.flt.safe = false) (hslot : 0 < cqFree d (cqOf (sqKey fn q))) (hturn : isTurn d (sqKey fn q) = true)
    (hfence : bit desc.flags 1 = false ∨ (ring d (sqKey fn q)).inflight = 0) :
    descriptorFetch fn q c desc true d = fetchInto (sqKey fn q) c desc d := by
  have hready : (!chanIdle d c || !hasWork d (sqKey fn q) || d.flt.safe) = false := by simp [hidle, hwork, hsafe]
  have hgoes : (!isTurn d (sqKey fn q) || (bit desc.flags 1 && !qOld (queueCfg d (sqKey fn q)) &&
      (ring d (sqKey fn q)).inflight != 0)) = false := by
    rcases hfence with h | h <;> simp [hturn, h]
  unfold descriptorFetch
  dsimp only
  rw [hready, hgoes, if_neg (by simp), if_neg (by omega), if_neg (by simp), if_neg (by simp)]

theorem fetchInto_rrLast (h : Rising d.rrLast) (c : Nat) (desc : Desc) :
    tabGet 256 (fetchInto k c desc d).rrLast (sqClass k) = rrPos (k / 32) :=
  (tabGet_put _ _ h _ _ _).trans (if_pos rfl)

/-! ## Completion (R383) -/

theorem ringAdvance_count (size : Nat) (r : Ring) : (ringAdvance size r).count = r.count + 1 := by
  unfold ringAdvance
  split <;> rfl

/-- The block when a descriptor of a queue has left its channel and its queue (R383). -/
theorem retire_does {c : Nat} {r : Running} (h : Sound d) (hfn : r.fn ≤ 256) (hentry : r.noEntry = false) :
    (dmaChan (retire c r d) c).run = none ∧ (dmaChan (retire c r d) c).done = ((dmaChan d c).done + 1) % 65536 ∧
      (∀ j, j ≠ c → dmaChan (retire c r d) j = dmaChan d j) ∧
      ∀ j, ring (retire c r d) j = if j = sqKey r.fn r.sq then
        { ring d (sqKey r.fn r.sq) with inflight := (ring d (sqKey r.fn r.sq)).inflight - 1 } else ring d j := by
  have hcounts : (decide (r.fn ≤ pfFn) && !r.noEntry) = true := by simp [pfFn, hfn, hentry]
  have hchan : ∀ j, dmaChan (retire c r d) j =
      if j = c then { dmaChan d c with run := none, done := ((dmaChan d c).done + 1) % 65536 } else dmaChan d j := fun j => by
    unfold retire
    dsimp only
    rw [if_pos hcounts]
    exact dmaChan_set d h.tabs.dmaCh c j _
  refine ⟨?_, ?_, fun j hj => (hchan j).trans (if_neg hj), fun j => ?_⟩
  · rw [hchan, if_pos rfl]
  · rw [hchan, if_pos rfl]
  · unfold retire
    dsimp only
    rw [if_pos hcounts]
    exact ring_set (setDmaChan c _ d) h.tabs.rings _ j _

theorem ring_raiseEoc (n : Nat) (eoc : Bool) (d : Dev) (j : Nat) : ring (raiseEoc n eoc d) j = ring d j := by
  simp only [ring, raiseEoc_frame]

/-- The completion entry is written at the tail of its queue, whose reserved slot it takes (R382, R383). -/
theorem writeCompletion_does {r : Running} (h : Rising d.rings) :
    let e := writeCompletion r true d
    let c := cqOf (sqKey r.fn r.sq)
    (∃ b, Sent (.entry r.fn (c % 32) (ring d c).tail b) e) ∧ (ring e c).reserved = (ring d c).reserved - 1 ∧
      (ring e c).count = (ring d c).count + 1 ∧ (∀ j, j ≠ c → ring e j = ring d j) ∧ e.dmaCh = d.dmaCh := by
  intro e c
  have hring : ∀ j, ring e j = if j = c then
      { ringAdvance (ringSize d c) (ring d c) with reserved := (ring d c).reserved - 1 } else ring d j := fun j => by
    exact (ring_raiseEoc _ _ _ j).trans (ring_set (emit _ d) h c j _)
  have hsent : ∀ b, e = raiseEoc (if r.fn = pfFn then 96 + r.sq else 640 + r.fn) (bit r.d.flags 0)
      (setRing c { ringAdvance (ringSize d c) (ring d c) with reserved := (ring d c).reserved - 1 }
        (emit (.entry r.fn (c % 32) (ring d c).tail b) d)) → Sent (.entry r.fn (c % 32) (ring d c).tail b) e := fun b he =>
    sent_mono (by rw [he]; simp only [raiseEoc_frame, setRing_emitted]) (sent_emit _ d)
  refine ⟨⟨_, hsent _ rfl⟩, ?_, ?_, fun j hj => (hring j).trans (if_neg hj), ?_⟩
  · rw [hring, if_pos rfl]
  · rw [hring, if_pos rfl]
    exact ringAdvance_count _ _
  · show (raiseEoc _ _ _).dmaCh = d.dmaCh
    simp only [raiseEoc_frame]
    rfl

/-- The count of a tenant's descriptors (0x5120), none for the physical function. -/
def countDone (r : Running) (d : Dev) : Dev := if r.fn < 256 then objCount 64 0x5120 r.fn 1 d else d

theorem descriptorComplete_writes {c : Nat} {r : Running} (hrun : (dmaChan d c).run = some r) (hended : r.ended = true)
    (hfn : r.fn ≤ 256) (hentry : r.noEntry = false) :
    descriptorComplete c true d = writeCompletion r true (countDone r (retire c r d)) := by
  unfold descriptorComplete countDone
  simp only [hrun, hended, hentry]
  by_cases htenant : r.fn < 256
  · simp [htenant]
  · simp [show r.fn = 256 by omega, pfFn]

theorem countDone_frame (r : Running) (d : Dev) : (countDone r d).rings = d.rings ∧ (countDone r d).dmaCh = d.dmaCh := by
  unfold countDone
  split <;> simp only [objCount_frame, and_self]

theorem descriptorComplete_does {c : Nat} {r : Running} (h : Sound d) (hrun : (dmaChan d c).run = some r) (hended : r.ended = true)
    (hsq : hasSq r.fn r.sq = true) (hfn : r.fn ≤ 256) (hentry : r.noEntry = false) :
    let e := descriptorComplete c true d
    let k := sqKey r.fn r.sq
    (dmaChan e c).run = none ∧ (dmaChan e c).done = ((dmaChan d c).done + 1) % 65536 ∧ (∀ j, j ≠ c → dmaChan e j = dmaChan d j) ∧
      (∃ b, Sent (.entry r.fn (cqOf k % 32) (ring d (cqOf k)).tail b) e) ∧
      (ring e (cqOf k)).reserved = (ring d (cqOf k)).reserved - 1 ∧ (ring e (cqOf k)).count = (ring d (cqOf k)).count + 1 ∧
      (ring e k).inflight = (ring d k).inflight - 1 := by
  intro e k
  have hne : cqOf k ≠ k := cqOf_ne (hasSq_lt hsq)
  obtain ⟨hnone, hdone, hothers, hrings⟩ := retire_does (c := c) h hfn hentry
  have hrise : Rising (retire c r d).rings := ((retire_keeps (m := 4398046511103) rfl (.refl d)).sound h).tabs.rings
  obtain ⟨hframe, hdma⟩ := countDone_frame r (retire c r d)
  have hview : ∀ j, ring (countDone r (retire c r d)) j = ring (retire c r d) j := fun j => by unfold ring; rw [hframe]
  obtain ⟨hsent, hres, hcount, hkeeps, hchans⟩ := writeCompletion_does (r := r) (hframe ▸ hrise)
  have he : e = writeCompletion r true (countDone r (retire c r d)) := descriptorComplete_writes hrun hended hfn hentry
  have hcview : ∀ j, dmaChan e j = dmaChan (retire c r d) j := fun j => by unfold dmaChan; rw [he, hchans, hdma]
  have hcq : ring (countDone r (retire c r d)) (cqOf k) = ring d (cqOf k) := by rw [hview, hrings, if_neg hne]
  rw [hcq] at hsent hres hcount
  refine ⟨?_, ?_, fun j hj => ?_, ?_, ?_, ?_, ?_⟩
  · rw [hcview, hnone]
  · rw [hcview, hdone]
  · rw [hcview, hothers j hj]
  · rw [he]; exact hsent
  · rw [he]; exact hres
  · rw [he]; exact hcount
  · rw [he, hkeeps k (Ne.symm hne), hview, hrings, if_pos rfl]

end

end Sys2Proof.Machine

open Sys2Proof.Machine

/-- Settles O12: a pointer write that earns no code sets its ring alone; a tail past the ring is dropped. -/
theorem queuePointers : Obligations.QueuePointers := by
  unfold Obligations.QueuePointers
  intro who s v hawake hsound hpage
  have hrise := hsound.tabs.rings
  refine ⟨fun q hq => ⟨fun hw hv hon hfree => ?_, fun hv => ?_⟩, fun q hq hw hv hon hpassed => ?_, fun hw hv hon hpassed => ?_, ?_⟩
  · refine answers_actOn rfl hq hawake ?_
    unfold sqTailWrite
    rw [ptrWrite_taken hpage (sqTailErrs_none hw hv hon hfree)]
    exact mend_setRing hrise _ _
  · refine answers_actOn rfl hq hawake ?_
    obtain ⟨l, hl⟩ := ptrErrs_range hv
    obtain ⟨e, he⟩ := lowest_cons .range (l ++
      earned [(decide (ringDist (ringSize s.dev (sqKey (fnOf who) q)) (ring s.dev (sqKey (fnOf who) q)).head v <
        (ring s.dev (sqKey (fnOf who) q)).unfreed), .conflict)])
    unfold sqTailWrite
    rw [ptrWrite_open hpage, sqTailErrs, hl, List.cons_append, he]
    simp only [regDrop_frame, and_self]
  · exact answers_actOn rfl hq hawake (headWrite_does hrise hpage hw hv hon hpassed _)
  · exact answers_act rfl hawake (headWrite_does hrise hpage hw hv hon hpassed _)
  · refine answers_act rfl hawake ?_
    unfold eqResetClear
    rw [ptrWrite_taken hpage rfl]
    have hpage : ∀ k j v, fnQ (mend k (setFnQ (fnOf who) v s.dev)) j = if j = fnOf who then v else fnQ s.dev j := fun k j v =>
      (fnQ_mend _ _ _).trans (fnQ_set _ hsound.tabs.fnq _ _ _)
    exact ⟨(hpage _ _ _).trans (if_pos rfl), fun j hj => (hpage _ _ _).trans (if_neg hj), by simp only [mend_frame]; rfl⟩

/-- Settles O13: the fetch by what fetchInto does, the completion by what the descriptor's leaving and its entry do. -/
theorem descriptorCommands : Obligations.DescriptorCommands := by
  unfold Obligations.DescriptorCommands
  intro s c now hawake hsound
  refine ⟨fun fn q desc hsq hlo hhi hidle hwork hsafe hslot hturn hfence => ?_, fun r hc hrun hended hsq hfn hentry => ?_⟩
  · refine answers_actOn rfl (by simp [hsq, hlo, hhi]) hawake ?_
    obtain ⟨t, ht⟩ := atTime_form now s.dev
    obtain ⟨hdiv, hmod⟩ := sqKey_div (fn := fn) (hasSq_lt hsq)
    have hne := cqOf_ne (fn := fn) (hasSq_lt hsq)
    rw [ht, descriptorFetch_fetches (d := { s.dev with tbs := t }) hidle hwork hsafe hslot hturn hfence]
    have hrings := fun j => fetchInto_ring (sqKey fn q) c j desc { s.dev with tbs := t } hsound.tabs.rings
    obtain ⟨⟨r, hrun, hdesc, hfn, hq, hs⟩, hothers⟩ := fetchInto_chan (sqKey fn q) c desc { s.dev with tbs := t } hsound.tabs.dmaCh
    refine ⟨⟨r, hrun, hdesc, hfn.trans hdiv, hq.trans hmod, hs⟩, (hrings _).trans (if_pos rfl), ?_, hothers, ?_⟩
    · rw [hrings, if_neg hne, if_pos rfl]
      rfl
    · exact (fetchInto_rrLast (d := { s.dev with tbs := t }) hsound.tabs.rrLast c desc).trans (congrArg rrPos hdiv)
  · refine answers_actOn rfl (by simp [hc]) hawake ?_
    have hsound' := sound_atTime now hsound
    obtain ⟨t, ht⟩ := atTime_form now s.dev
    rw [ht] at hsound' ⊢
    exact descriptorComplete_does (d := { s.dev with tbs := t }) hsound' hrun hended hsq hfn hentry

end

section
/-! PROOFS. The Drawstring ring from closing to opening, its counters, and the frames of the node with the token (R416 to R423, R427). -/
set_option autoImplicit false
namespace Sys2Proof.Machine

section
variable {d : Dev}

/-! ## Closing, enumeration, opening (R420 to R423) -/

theorem hopLock_dsr (hring : d.dsr.ring ≤ 1) : (hopLock d).dsr = { d.dsr with ring := 2, locked := true } := by
  unfold hopLock
  dsimp only
  rw [if_pos hring, (ringState_dsr _ _).1]
  rfl

theorem closeSend_does (hmaster : d.dsr.master = true) (h3 : d.dsr.ring ≠ 3) (h4 : d.dsr.ring ≠ 4) :
    (closeSend d).dsr = { d.dsr with lastClose := d.tbs.ns, frameSeq := (d.dsr.frameSeq + 1) % 256 } ∧
      (closeSend d).emitted = d.emitted ++ [.dsFrame 2 0x3F d.dsr.frameSeq 0 0 0 d.dsr.nodeId] := by
  unfold closeSend
  rw [if_pos (by simp [hmaster, h3, h4])]
  exact ⟨rfl, rfl⟩

/-- The master's own CLOSE has returned: the first ENUM leaves (R420, R421). -/
theorem dsClose_own (hmaster : d.dsr.master = true) (h3 : d.dsr.ring ≠ 3) (h4 : d.dsr.ring ≠ 4) :
    (dsClose d.dsr.nodeId d).dsr =
        { d.dsr with ring := 3, enumTries := 1, enumSent := d.tbs.ns, frameSeq := (d.dsr.frameSeq + 1) % 256 } ∧
      (dsClose d.dsr.nodeId d).emitted = d.emitted ++ [.dsFrame 3 0x3F d.dsr.frameSeq 0 0 0 0] := by
  have he : dsClose d.dsr.nodeId d = sendEnum 1 d := by
    unfold dsClose
    rw [if_neg (by simp [hmaster]), if_pos rfl, if_neg (by simp [h3, h4])]
  rw [he]
  exact sendEnum_dsr 1 d

/-- A master with a lower identity takes over (R423). -/
theorem dsClose_lower {other : Nat} (hmaster : d.dsr.master = true) (hlower : other < d.dsr.nodeId) :
    (dsClose other d).dsr = { d.dsr with master := false } ∧ (dsClose other d).emitted = d.emitted := by
  unfold dsClose masterConflict
  rw [if_neg (by simp [hmaster]), if_neg (by omega), if_pos hlower]
  simp only [pulse_frame]
  exact ⟨rfl, rfl⟩

/-- A node that is not the master counts its hop and passes the ENUM on (R421). -/
theorem dsEnum_passes (hmaster : d.dsr.master = false) (from_ hop : Nat) (es : List Nat) :
    (dsEnum from_ hop es d).dsr = { d.dsr with ring := 3, hop := hop + 1 } ∧ (dsEnum from_ hop es d).emitted = d.emitted := by
  unfold dsEnum
  rw [if_neg (by simp [hmaster]), (ringState_dsr _ _).1, (ringState_dsr _ _).2]
  exact ⟨rfl, rfl⟩

theorem ringOpen_does (h : Rising d.regs) (hring : d.dsr.ring ≠ 5) : (ringOpen d).dsr = { d.dsr with ring := 5 } ∧
    regGet (ringOpen d) Reg.dsrOpenCnt.base = min (2 ^ 32 - 1) (regGet d Reg.dsrOpenCnt.base + 1) := by
  refine ⟨(ringOpen_dsr d).1, ?_⟩
  have hcount : regGet (ringOpen d) Reg.dsrOpenCnt.base = regGet (regCount Reg.dsrOpenCnt.base 1 d) Reg.dsrOpenCnt.base := by
    unfold regGet
    rw [ringOpen_regs d hring]
  rw [hcount, regCount_get _ _ h]

theorem enumTimeout_late (hmaster : d.dsr.master = true) (hring : d.dsr.ring = 3) (hlate : d.dsr.enumSent + 2000000 ≤ d.tbs.ns) :
    enumTimeout d = if d.dsr.enumTries < 3 then sendEnum (d.dsr.enumTries + 1) d else ringOpen d := by
  unfold enumTimeout
  rw [if_pos (by simp [hmaster, hring, hlate])]

/-- A new ENUM leaves while fewer than three have (R421). -/
theorem enumTimeout_again (hmaster : d.dsr.master = true) (hring : d.dsr.ring = 3) (hlate : d.dsr.enumSent + 2000000 ≤ d.tbs.ns)
    (htries : d.dsr.enumTries < 3) :
    (enumTimeout d).dsr =
        { d.dsr with enumTries := d.dsr.enumTries + 1, enumSent := d.tbs.ns, frameSeq := (d.dsr.frameSeq + 1) % 256 } ∧
      (enumTimeout d).emitted = d.emitted ++ [.dsFrame 3 0x3F d.dsr.frameSeq 0 0 0 0] := by
  rw [enumTimeout_late hmaster hring hlate, if_pos htries, (sendEnum_dsr _ _).1, (sendEnum_dsr _ _).2, ← hring]
  exact ⟨rfl, rfl⟩

theorem enumTimeout_opens (h : Rising d.regs) (hmaster : d.dsr.master = true) (hring : d.dsr.ring = 3)
    (hlate : d.dsr.enumSent + 2000000 ≤ d.tbs.ns) (htries : 3 ≤ d.dsr.enumTries) :
    (enumTimeout d).dsr = { d.dsr with ring := 5 } ∧
      regGet (enumTimeout d) Reg.dsrOpenCnt.base = min (2 ^ 32 - 1) (regGet d Reg.dsrOpenCnt.base + 1) := by
  rw [enumTimeout_late hmaster hring hlate, if_neg (by omega)]
  exact ringOpen_does h (by omega)

theorem closureLimit_opens (h : Rising d.regs) (h4 : d.dsr.ring ≠ 4) (h5 : d.dsr.ring ≠ 5)
    (hlate : d.dsr.resetExit + d.dsr.limit * 1000000 ≤ d.tbs.ns) :
    (closureLimit d).dsr = { d.dsr with ring := 5 } ∧
      regGet (closureLimit d) Reg.dsrOpenCnt.base = min (2 ^ 32 - 1) (regGet d Reg.dsrOpenCnt.base + 1) := by
  have he : closureLimit d = ringOpen d := by
    unfold closureLimit
    dsimp only
    rw [if_neg h4, if_pos (decide_eq_true hlate)]
  rw [he]
  exact ringOpen_does h h5

/-- A token that is silent for 1 ms is issued anew and counted (R417). -/
theorem tokenRegenerate_does (h : Rising d.regs) (hmaster : d.dsr.master = true) (hring : d.dsr.ring = 4)
    (hlate : d.dsr.lastToken + 1000000 ≤ d.tbs.ns) :
    (tokenRegenerate d).dsr = { d.dsr with tokenSeq := (d.dsr.tokenSeq + 1) % 256, lastToken := d.tbs.ns } ∧
      (tokenRegenerate d).emitted = d.emitted ++ [.dsToken ((d.dsr.tokenSeq + 1) % 256)] ∧
      regGet (tokenRegenerate d) Reg.dsrRegenCnt.base = min (2 ^ 32 - 1) (regGet d Reg.dsrRegenCnt.base + 1) := by
  have he : tokenRegenerate d = regCount Reg.dsrRegenCnt.base 1 (issueToken d) := by
    unfold tokenRegenerate
    rw [if_pos (by simp [hmaster, hring, hlate])]
  rw [he]
  refine ⟨?_, ?_, regCount_get _ _ h⟩
  · simp only [regCount_frame]
    rfl
  · simp only [regCount_frame]
    rfl

theorem reenum_dsr (hmaster : d.dsr.master = true) (who : Caller) : (reenum who d).dsr = { d.dsr with ring := 2 } := by
  unfold reenum
  rw [if_pos hmaster, (ringState_dsr _ _).1]

/-- The three counters are cleared (R427). -/
theorem dsrCntClr_does (h : Rising d.regs) : regGet (dsrCntClr d) Reg.dsrCrcErrCnt.base = 0 ∧
    regGet (dsrCntClr d) Reg.dsrOpenCnt.base = 0 ∧ regGet (dsrCntClr d) Reg.dsrRegenCnt.base = 0 ∧
    dsrCntClr d = { d with regs := (dsrCntClr d).regs } := by
  have h1 := regSet_rising h Reg.dsrRegenCnt.base 0
  have h2 := regSet_rising h1 Reg.dsrOpenCnt.base 0
  have honly : dsrCntClr d = { d with regs := (dsrCntClr d).regs } := by
    unfold dsrCntClr
    rw [regSet_only, regSet_only Reg.dsrOpenCnt.base, regSet_only Reg.dsrRegenCnt.base]
  refine ⟨?_, ?_, ?_, honly⟩ <;> unfold dsrCntClr
  · rw [regGet_set _ h2, if_pos rfl, Nat.zero_mod]
  · rw [regGet_set _ h2, if_neg (by decide), regGet_set _ h1, if_pos rfl, Nat.zero_mod]
  · rw [regGet_set _ h2, if_neg (by decide), regGet_set _ h1, if_neg (by decide), regGet_set _ h, if_pos rfl, Nat.zero_mod]

/-! ## Frames (R417 to R419) -/

/-- The node with its own frame sent, the token noted. -/
def tokenTaken (rest : List OwnFrame) (d : Dev) : Dev := setDsr { d.dsr with lastToken := d.tbs.ns, own := rest } d

theorem dsToken_sends {seq ack : Nat} {f : OwnFrame} {rest : List OwnFrame} (hring : d.dsr.ring = 4)
    (hmine : d.dsr.master = false ∨ seq = d.dsr.tokenSeq) (hown : d.dsr.own = f :: rest) :
    dsToken seq ack d = emit (.dsToken seq) (afterAck f ack (sendFrame f (tokenTaken rest d))) := by
  have htaken : (d.dsr.master && seq != d.dsr.tokenSeq) = false := by rcases hmine with h | h <;> simp [h]
  unfold dsToken
  rw [if_neg (by simp [hring]), htaken, if_neg (by simp)]
  simp only [setDsr, hown]
  rfl

/-- An accepted request waits for its response as long as 0x1C07:0 says (R419). -/
theorem afterAck_accepted {f : OwnFrame} (hty : f.ty = 1) (hop : f.op < 0x80) (hdst : f.dst ≠ 0x3F) (e : Dev) :
    (afterAck f 1 e).dsr.outstanding = e.dsr.outstanding ++
      [{ dst := f.dst, idx := f.idx, tag := f.tag, deadline := e.tbs.ns + objGet e 0x1C07 0 * 1000000 }] := by
  unfold afterAck
  dsimp only
  rw [if_neg hdst, if_pos rfl, if_pos (by simp [hty, hop])]
  rfl

theorem dsToken_does {seq ack : Nat} {f : OwnFrame} {rest : List OwnFrame} (hring : d.dsr.ring = 4)
    (hmine : d.dsr.master = false ∨ seq = d.dsr.tokenSeq) (hown : d.dsr.own = f :: rest) :
    let e := dsToken seq ack d
    e.emitted = d.emitted ++ [.dsFrame f.ty f.dst d.dsr.frameSeq f.op f.idx f.sub f.tag, .dsToken seq] ∧
      e.dsr.own = rest ∧ e.dsr.frameSeq = (d.dsr.frameSeq + 1) % 256 ∧ e.dsr.lastToken = d.tbs.ns ∧
      (ack = 1 → f.ty = 1 → f.op < 0x80 → f.dst ≠ 0x3F → e.dsr.outstanding = d.dsr.outstanding ++
        [{ dst := f.dst, idx := f.idx, tag := f.tag, deadline := d.tbs.ns + objGet d 0x1C07 0 * 1000000 }]) := by
  have he := dsToken_sends (ack := ack) hring hmine hown
  obtain ⟨o, rt, hack⟩ := afterAck_only f ack (sendFrame f (tokenTaken rest d))
  dsimp only
  refine ⟨?_, ?_, ?_, ?_, fun h1 hty hop hdst => ?_⟩
  · rw [he, hack]
    simp [emit, sendFrame, tokenTaken, setDsr]
  · rw [he, hack]
    rfl
  · rw [he, hack]
    rfl
  · rw [he, hack]
    rfl
  · subst h1
    rw [he]
    exact afterAck_accepted hty hop hdst _

theorem frameRetry_does {ack : Nat} {f : OwnFrame} {rest : List OwnFrame} (hretry : d.dsr.retry = f :: rest)
    (hdue : retryDue d f = true) :
    (frameRetry ack d).emitted = d.emitted ++ [.dsFrame f.ty f.dst d.dsr.frameSeq f.op f.idx f.sub f.tag] ∧
      (frameRetry ack d).dsr.frameSeq = (d.dsr.frameSeq + 1) % 256 := by
  have he : frameRetry ack d = afterAck f ack (sendFrame f (setDsr { d.dsr with retry := rest } d)) := by
    unfold frameRetry
    rw [hretry]
    exact if_pos hdue
  obtain ⟨o, rt, hack⟩ := afterAck_only f ack (sendFrame f (setDsr { d.dsr with retry := rest } d))
  rw [he, hack]
  exact ⟨rfl, rfl⟩

end

end Sys2Proof.Machine

open Sys2Proof.Machine

/-- Settles O14: each event of the ring by the lemma of its act, on the block at the event's instant. -/
theorem drawstringRing : Obligations.DrawstringRing := by
  unfold Obligations.DrawstringRing
  intro s now hawake hsound
  obtain ⟨tbs, hnow⟩ := atTime_form now s.dev
  have hregs : Rising s.dev.regs := hsound.regs.1
  have late : ∀ {c : Sys2Proof.Instr} {P : Dev → Prop} {f : Dev → Dev}, exec c s = act (fun d => f (atTime now d)) s →
      P (f { s.dev with tbs := tbs }) → Answers c s P := fun he hp => answers_actAt he hawake (hnow ▸ hp)
  rw [hnow]
  refine ⟨fun hring => ?_, fun hmaster h3 h4 => ⟨?_, ?_⟩, fun other hmaster hlower => ?_, fun m hop es hmaster => ?_,
    fun hop es hmaster hring => ?_, fun hmaster hring hlate => ⟨fun htries => ?_, fun htries => ?_⟩, fun es => ?_,
    fun h4 h5 hlate => ?_, fun hmaster hring hlate => ?_, fun who hmaster hopen => ?_, fun who hopen => ?_, ?_⟩
  · exact late (f := hopLock) rfl (hopLock_dsr hring)
  · exact late (f := closeSend) rfl (closeSend_does hmaster h3 h4)
  · exact late (f := dsClose s.dev.dsr.nodeId) rfl (dsClose_own hmaster h3 h4)
  · exact late (f := dsClose other) rfl (dsClose_lower hmaster hlower)
  · exact late (f := dsEnum m hop es) rfl (dsEnum_passes (d := { s.dev with tbs := tbs }) hmaster m hop es)
  · exact late (f := dsEnum s.dev.dsr.nodeId hop es) rfl (dsEnum_back hop es { s.dev with tbs := tbs } hmaster hring)
  · exact late (f := enumTimeout) rfl (enumTimeout_again hmaster hring hlate htries)
  · exact late (f := enumTimeout) rfl (enumTimeout_opens hregs hmaster hring hlate htries)
  · obtain ⟨hring, hnodes, hid, hsent, -⟩ := takeTable_dsr es { s.dev with tbs := tbs }
    exact late (f := takeTable es) rfl ⟨hring, hnodes, hid, hsent⟩
  · exact late (f := closureLimit) rfl (closureLimit_opens hregs h4 h5 hlate)
  · exact late (f := tokenRegenerate) rfl (tokenRegenerate_does hregs hmaster hring hlate)
  · refine answers_actAt rfl hawake ?_
    rw [regGate_open (by rwa [regOpen_atTime]), hnow]
    exact reenum_dsr (d := { s.dev with tbs := tbs }) hmaster who
  · refine answers_act rfl hawake ?_
    rw [regGate_open hopen]
    exact dsrCntClr_does hregs
  · exact answers_act rfl hawake ⟨regCount_get _ _ hregs, regSet_only _ _ _⟩

/-- Settles O15: the token, the retry and the timeout of requests by the lemma of each act. -/
theorem drawstringFrames : Obligations.DrawstringFrames := by
  unfold Obligations.DrawstringFrames
  intro s now hawake
  obtain ⟨tbs, hnow⟩ := atTime_form now s.dev
  rw [hnow]
  refine ⟨fun seq ack f rest hring hmine hown => ?_, fun ack f rest hretry hdue => ?_, ?_⟩
  · refine answers_actAt (f := dsToken (seq % 256) ack) rfl hawake ?_
    rw [hnow]
    exact dsToken_does (d := { s.dev with tbs := tbs }) hring hmine hown
  · refine answers_actAt rfl hawake ?_
    rw [hnow]
    exact frameRetry_does (d := { s.dev with tbs := tbs }) hretry hdue
  · refine answers_actAt rfl hawake ?_
    rw [hnow]
    exact ⟨rfl, rfl, rfl⟩

end

section
/-! PROOFS. Sleep, package states, power domains and wake (R489 to R499, R508, R509). -/
set_option autoImplicit false
namespace Sys2Proof.Machine

section
variable {d : Dev}

/-! ## Sleep (R508, R509) -/

theorem sleepEntry_does {now : Nat} {y : Dev} (hy : powerSettle now d = y) (hbusy : y.pwr.busy = true) (hto : y.pwr.entering = 3)
    (hawake : y.tbs.sleeping = false) (hsafe : y.flt.safe = false) (hsettled : ∀ i < 127, domainSettled y i = true) :
    (sleepEntry now d).tbs = { y.tbs with sleepT := y.tbs.ns, sleepN := 0, running := false, sleeping := true } ∧
      (sleepEntry now d).regs = d.regs ∧ (sleepEntry now d).objs = d.objs := by
  have hall : (List.range 127).all (domainSettled y) = true :=
    List.all_eq_true.2 fun i hi => hsettled i (List.mem_range.1 hi)
  have he : sleepEntry now d = powerSettle now
      { y with tbs := { y.tbs with sleepT := y.tbs.ns, sleepN := 0, running := false, sleeping := true } } := by
    unfold sleepEntry
    rw [hy]
    exact if_pos (by simp [hbusy, hto, hawake, hsafe, hall])
  rw [he]
  simp only [powerSettle_frame]
  rw [← hy]
  simp only [powerSettle_frame, and_self]

/-- T restarts at T_e with the time of the edges counted (R509). -/
theorem wakeEdge_does (hsleeping : d.tbs.sleeping = true) (hbusy : d.pwr.busy = true) (hto : d.pwr.entering ≠ 3)
    (hon : domOn d 127 = true) (href : d.pwr.lost.contains 0 = false) :
    let e := wakeEdge d
    e.tbs.running = true ∧ e.tbs.sleeping = false ∧
      e.tbs.ns * 2 ^ 32 + e.tbs.frac = d.tbs.ns * 2 ^ 32 + d.tbs.frac + d.tbs.sleepN * 131072000000000 ∧ e.tbs.frac < 2 ^ 32 ∧
      e.tbs.wakeT = e.tbs.ns ∧ e.tbs.cnt = max d.tbs.cnt (9 * (e.tbs.ns * 2 ^ 32 + e.tbs.frac) / (2500000 * 2 ^ 32)) ∧
      e.tbs.passed = e.tbs.cnt - d.tbs.cnt - 1 ∧ e = { d with tbs := e.tbs } := by
  intro e
  generalize ht : fineT d + d.tbs.sleepN * 131072000000000 = t
  have hparts : t / 2 ^ 32 * 2 ^ 32 + t % 2 ^ 32 = t := by omega
  have he : e = { d with tbs := { d.tbs with
      ns := t / 2 ^ 32, frac := t % 2 ^ 32, cnt := max d.tbs.cnt (9 * t / (2500000 * 2 ^ 32))
      presented := max d.tbs.cnt (9 * t / (2500000 * 2 ^ 32)), wakeT := t / 2 ^ 32
      passed := max d.tbs.cnt (9 * t / (2500000 * 2 ^ 32)) - d.tbs.cnt - 1, running := true, sleeping := false } } := by
    subst ht
    exact if_pos (by simp only [hsleeping, hbusy, bne_iff_ne.2 hto, hon, href, Bool.not_false, Bool.and_self])
  rw [he]
  refine ⟨rfl, rfl, ?_, Nat.mod_lt _ (by decide), rfl, ?_, rfl, rfl⟩
  · exact hparts.trans ht.symm
  · show max d.tbs.cnt (9 * t / (2500000 * 2 ^ 32)) = max d.tbs.cnt (9 * (t / 2 ^ 32 * 2 ^ 32 + t % 2 ^ 32) / (2500000 * 2 ^ 32))
    rw [hparts]

/-! ## Package states (R496 to R498) -/

/-- An accepted request as it is kept, before the package acts on it (R496). -/
def requested (v : Nat) (d : Dev) : Dev := objSet 0x1200 0 v { d with pwr := { d.pwr with latch := false } }

theorem requested_obj (h : Rising d.objs) (v : Nat) : objGet (requested v d) 0x1200 0 = v :=
  objGet_set_self { d with pwr := { d.pwr with latch := false } } h _ _ _

theorem requested_pwr (v : Nat) (d : Dev) : (requested v d).pwr = { d.pwr with latch := false } ∧ (requested v d).flt = d.flt := by
  simp only [requested, objSet_frame, and_self]

/-- A request during a transition is taken up at its end (R496). -/
theorem packageAct_busy {v : Nat} (h : Rising d.objs) (hbusy : d.pwr.busy = true) :
    objGet (packageAct v d) 0x1200 0 = v ∧ (packageAct v d).pwr = { d.pwr with latch := false, again := true } := by
  have he : packageAct v d = { requested v d with pwr := { (requested v d).pwr with again := true } } := if_pos hbusy
  obtain ⟨hpwr, -⟩ := requested_pwr v d
  rw [he]
  exact ⟨requested_obj h v, by dsimp only; rw [hpwr]⟩

/-- A request outside a transition begins one to its state (R496, R497, R506). -/
theorem packageAct_begins {v : Nat} (h : Rising d.objs) (hbusy : d.pwr.busy = false) (hsafe : d.flt.safe = false) (hv : v ≠ d.pwr.state) :
    let e := packageAct v d
    objGet e 0x1200 0 = v ∧ e.pwr.latch = false ∧ e.pwr.busy = true ∧ e.pwr.entering = v ∧ e.pwr.state = d.pwr.state ∧
      e.pwr.late = false ∧ (2 ≤ v → e.tbs.align = 0) := by
  have he : packageAct v d = evalPackage (requested v d).tbs.ns (requested v d) := if_neg (by simp [hbusy])
  obtain ⟨hpwr, hflt⟩ := requested_pwr v d
  have htarget : packageTarget (requested v d) = v := by
    unfold packageTarget
    rw [hpwr, if_neg (by simp)]
    exact requested_obj h v
  obtain ⟨⟨doms, hgoes⟩, halign⟩ := (evalPackage_pwr (requested v d).tbs.ns (requested v d)).1 (by rw [hpwr]; exact hbusy)
    (by rw [htarget, hpwr]; exact hv) (by rw [hflt]; exact hsafe)
  rw [htarget] at hgoes halign
  dsimp only
  rw [he, hgoes, hpwr]
  refine ⟨?_, rfl, rfl, rfl, rfl, rfl, halign⟩
  rw [objGet, evalPackage_objs]
  exact requested_obj h v

/-- A transition that is done with its target standing ends in the state it entered (R497). -/
theorem transitionComplete_does {now : Nat} {y : Dev} (hy : powerSettle now d = y) (hdone : transitionDone y = true)
    (hreset : y.pwr.resetWaits = false) (htarget : packageTarget y = y.pwr.entering) :
    let e := transitionComplete now d
    e.pwr.state = y.pwr.entering ∧ e.pwr.busy = false ∧ e.pwr.late = false ∧ e.objs = d.objs ∧ e.regs = d.regs := by
  generalize hz : ({ y with pwr := { y.pwr with state := y.pwr.entering, busy := false, late := false, again := false } } : Dev) = z
  have hzpwr : (raise 5 z).pwr = { y.pwr with state := y.pwr.entering, busy := false, late := false, again := false } := by
    rw [raise_pwr, ← hz]
  have he : transitionComplete now d = evalPackage now (raise 5 z) := by
    unfold transitionComplete
    rw [hy]
    dsimp only
    rw [if_pos hdone, hz, if_neg (by rw [hzpwr]; simp [hreset])]
  have hstands : packageTarget (raise 5 z) = (raise 5 z).pwr.state := by
    rw [hzpwr, ← htarget]
    unfold packageTarget objGet
    rw [hzpwr]
    simp only [raise_frame, ← hz]
  obtain ⟨doms, hpwr⟩ := (evalPackage_pwr now (raise 5 z)).2 hstands
  dsimp only
  rw [he, hpwr, hzpwr]
  refine ⟨rfl, rfl, rfl, ?_, ?_⟩
  · simp only [evalPackage_objs, raise_frame, ← hz, ← hy, powerSettle_frame]
  · simp only [evalPackage_regs, raise_frame, ← hz, ← hy, powerSettle_frame]

theorem overtime_does {now : Nat} (hbusy : d.pwr.busy = true) (hlate : d.pwr.late = false) :
    (d.pwr.since + transitionBound d.pwr.state d.pwr.entering ≤ powerNow now d →
      (overtime now d).pwr = { d.pwr with late := true } ∧ (overtime now d).objs = d.objs) ∧
    (powerNow now d < d.pwr.since + transitionBound d.pwr.state d.pwr.entering → overtime now d = d) := by
  unfold overtime
  refine ⟨fun hpast => ?_, fun hwithin => ?_⟩
  · rw [if_pos (by simp [hbusy, hlate, hpast])]
    simp only [pulse_frame, and_self]
  · exact if_neg (by simp [hwithin])

/-! ## Domains (R489 to R494) -/

theorem tile_powerSettle (now : Nat) (d : Dev) (u : Nat) : tile (powerSettle now d) u = tile d u :=
  tile_congr (powerSettle_tiles now d) u

/-- The power of a domain as it is set (R489). -/
theorem setOn_true (h : Rising d.tiles) (k : Nat) : domOn (setOn k true d) k = true := by
  unfold setOn domOn
  split
  · rw [tile_set d h, if_pos rfl]
  · rw [domAt_set _ _ _ _ (dom_ne (.inr (.inl rfl))), if_pos rfl]

theorem setOn_false (h : Rising d.tiles) (hdoms : Rising d.pwr.doms) (k : Nat) : domOn (setOn k false d) k = false := by
  unfold setOn domOn
  split
  · rw [tile_set d h, if_pos rfl]
  · rw [domAt_rise _ _ _ _ hdoms, if_pos rfl]

theorem setOn_tile_ne (h : Rising d.tiles) {k u : Nat} (hu : u ≠ k) (v : Bool) : tile (setOn k v d) u = tile d u := by
  unfold setOn
  split
  · rw [tile_set d h, if_neg hu]
  · rfl

/-- A domain that comes to power-good is on; its tile starts BOOT (R462, R489, R492). -/
theorem powerGood_does {k now t0 : Nat} {y : Dev} (hy : powerSettle now d = y) (h : Sound d)
    (hmoving : (domAt y k).moving = some (true, t0)) :
    let e := powerGood k now d
    domOn e k = true ∧ (k < 96 → (tile e k).boot = 1 ∧ (tile e k).bootAt = y.tbs.ns ∧ (tile e k).cur = none) ∧
      ∀ u, u ≠ k → tile e u = tile d u := by
  have hview : ∀ u, tile y u = tile d u := fun u => hy ▸ tile_powerSettle now d u
  generalize hz : setDom k { domAt y k with moving := none, powerOns := min 65535 ((domAt y k).powerOns + 1) } y = z
  have hztiles : z.tiles = d.tiles := by
    rw [← hz, ← powerSettle_tiles now d, hy]
    rfl
  have hrise : Rising z.tiles := hztiles ▸ h.tabs.tiles
  have he : powerGood k now d =
      powerSettle now (if k < 96 then updTile k (fun x => poweredTile x y.tbs.ns) z else setOn k true z) := by
    unfold powerGood
    rw [hy]
    dsimp only
    rw [hmoving, ← hz]
  dsimp only
  rw [he, powerSettle_on]
  simp only [tile_powerSettle]
  split
  · next hk =>
    have hself : tile (updTile k (fun x => poweredTile x y.tbs.ns) z) k = poweredTile (tile z k) y.tbs.ns := by
      rw [tile_set z hrise, if_pos rfl]
    refine ⟨by rw [domOn, if_pos hk, hself]; rfl, fun _ => by rw [hself]; exact ⟨rfl, rfl, rfl⟩, fun u hu => ?_⟩
    rw [tile_set z hrise, if_neg hu, tile_congr hztiles]
  · next hk =>
    exact ⟨setOn_true hrise k, fun h => absurd h hk, fun u hu => (setOn_tile_ne hrise hu true).trans (tile_congr hztiles u)⟩

/-- What a tile has lost when its domain is off, and what the loss of any domain leaves of the others (R492). -/
theorem domainLost_tile (h : Rising d.tiles) (k : Nat) : Rising (domainLost k d).tiles ∧
    (k < 96 → tile (domainLost k d) k = keptTile (tile d k)) ∧ ∀ u, u ≠ k → tile (domainLost k d) u = tile d u := by
  by_cases hk : k < 96
  · have he : domainLost k d = updTile k keptTile d := if_pos hk
    rw [he]
    exact ⟨rising_put h, fun _ => by rw [tile_set d h, if_pos rfl], fun u hu => by rw [tile_set d h, if_neg hu]⟩
  · have htiles := (domainLost_doms k d).2 (by omega)
    exact ⟨htiles ▸ h, fun h => absurd h hk, fun u _ => tile_congr htiles u⟩

theorem hasPads_big {k : Nat} (h : hasPads k = true) : 96 ≤ k := by
  simp only [hasPads, Bool.or_eq_true, Bool.and_eq_true, decide_eq_true_eq, beq_iff_eq] at h
  omega

/-- The domain that is off, before the power controller settles. -/
def offDomain (k : Nat) (y : Dev) : Dev :=
  let d1 := setDom k { domAt y k with moving := none } (domainLost k y)
  setOn k false (if hasPads k then setPads k true d1 else d1)

theorem offDomain_does {k : Nat} (h : Rising d.tiles) (hdoms : Rising d.pwr.doms) :
    domOn (offDomain k d) k = false ∧ (k < 96 → (tile (offDomain k d) k).cur = none ∧ (tile (offDomain k d) k).nxt = none) ∧
      ∀ u, u ≠ k → tile (offDomain k d) u = tile d u := by
  obtain ⟨hrise, hlost, hothers⟩ := domainLost_tile h k
  generalize hz : setDom k { domAt d k with moving := none } (domainLost k d) = z
  have hztiles : z.tiles = (domainLost k d).tiles := by rw [← hz]; rfl
  have hzdoms : Rising z.pwr.doms := by
    rw [← hz]
    exact rising_put (by rw [(domainLost_doms k d).1]; exact hdoms)
  have hpads : Rising (if hasPads k then setPads k true z else z).pwr.doms ∧
      (if hasPads k then setPads k true z else z).tiles = (domainLost k d).tiles := by
    obtain ⟨hpdoms, hptiles⟩ := setPads_doms k z hzdoms
    split
    · exact ⟨hpdoms, hptiles.trans hztiles⟩
    · exact ⟨hzdoms, hztiles⟩
  have he : offDomain k d = setOn k false (if hasPads k then setPads k true z else z) := by rw [← hz]; rfl
  rw [he]
  generalize (if hasPads k then setPads k true z else z) = w at hpads
  obtain ⟨hwdoms, hwtiles⟩ := hpads
  have hwrise : Rising w.tiles := hwtiles ▸ hrise
  refine ⟨setOn_false hwrise hwdoms k, fun hk => ?_, fun u hu => ?_⟩
  · have hself : tile (setOn k false w) k = { tile w k with on := false } := by
      unfold setOn
      rw [if_pos hk, tile_set w hwrise, if_pos rfl]
    rw [hself, tile_congr hwtiles, hlost hk]
    exact ⟨rfl, rfl⟩
  · rw [setOn_tile_ne hwrise hu, tile_congr hwtiles, hothers u hu]

theorem domainOff_does {k now t0 : Nat} {y : Dev} (hy : powerSettle now d = y) (h : Sound d)
    (hmoving : (domAt y k).moving = some (false, t0)) (hdoms : Rising y.pwr.doms) :
    let e := domainOff k now d
    domOn e k = false ∧ (k < 96 → (tile e k).cur = none ∧ (tile e k).nxt = none) ∧ ∀ u, u ≠ k → tile e u = tile d u := by
  have htiles : y.tiles = d.tiles := hy ▸ powerSettle_tiles now d
  have he : domainOff k now d = powerSettle now (offDomain k y) := by
    unfold domainOff
    rw [hy]
    dsimp only
    rw [hmoving]
    rfl
  obtain ⟨hoff, hlost, hothers⟩ := offDomain_does (k := k) (htiles ▸ h.tabs.tiles) hdoms
  dsimp only
  rw [he, powerSettle_on]
  simp only [tile_powerSettle]
  exact ⟨hoff, hlost, fun u hu => (hothers u hu).trans (tile_congr htiles u)⟩

/-- A domain without power-good at four times its bound is blocked and its votes are ignored; a tile has failed (R494). -/
theorem goodTimeout_does {k now t0 : Nat} (h : Sound d) (hmoving : (domAt d k).moving = some (true, t0))
    (hlate : t0 + 4 * goodBound k ≤ now) :
    (96 ≤ k → domAt (goodTimeout k now d) k = { domAt d k with moving := none, blocked := true, ignored := true } ∧
      (goodTimeout k now d).tiles = d.tiles) ∧
    (k < 96 → (tile d k).awaits = none → (tile (goodTimeout k now d) k).contained = true) := by
  unfold goodTimeout
  rw [hmoving]
  dsimp only
  rw [if_pos hlate]
  refine ⟨fun hk => ?_, fun hk hpart => ?_⟩
  · rw [if_neg (by omega)]
    constructor
    · rw [domAt, pulse_pwr]
      exact (domAt_set k k _ d (dom_ne (.inr (.inr (.inl rfl))))).trans (if_pos rfl)
    · simp only [pulse_frame]
      rfl
  · simp only [if_pos hk, hpart, Option.isSome_none, Bool.and_false, Bool.false_eq_true, if_false]
    exact (tileFails_of_updated h.tabs.tiles (updTile_tiles_congr (by simp only [pulse_frame]; rfl))).2

/-- A tile without a vote that has idled through a whole stitch begins to turn off (R491). -/
theorem idleOff_does {t now : Nat} {y : Dev} (hy : powerSettle now d = y) (hon : (tile d t).on = true) (hvote : wanted y t = false)
    (hmoving : (domAt y t).moving = none) (hsafe : y.flt.safe = false)
    (hidle : (tile d t).gone = true ∨ (tile d t).holds = false ∧ (tile d t).idleSince + 2 ≤ d.tbs.cnt) :
    (domAt (idleOff t now d) t).moving = some (false, now) ∧ (idleOff t now d).tiles = d.tiles := by
  have hview : tile y t = tile d t := hy ▸ tile_powerSettle now d t
  have htbs : y.tbs = d.tbs := hy ▸ powerSettle_tbs now d
  have he : idleOff t now d = setDom t { domAt y t with moving := some (false, now) } y := by
    unfold idleOff
    rw [hy]
    refine if_pos ?_
    rcases hidle with hgone | ⟨hholds, hsince⟩
    · simp [hview, hon, hvote, hmoving, hsafe, hgone]
    · simp [hview, htbs, hon, hvote, hmoving, hsafe, hholds, hsince]
  rw [he, domAt_set _ _ _ _ (dom_ne (.inl rfl)), if_pos rfl]
  exact ⟨rfl, hy ▸ powerSettle_tiles now d⟩

/-- Firmware frees the held pads of a domain that is on (R493). -/
theorem padFree_does {k : Nat} (hk : 112 ≤ k) (hpads : hasPads k = true) (hon : domOn d k = true) (hheld : padsHeld d k = true)
    (pass : Bool) : padsHeld (padFree k pass d) k = false ∧ domOn (padFree k pass d) k = true := by
  have hson : (domAt d k).on = true := by rwa [domOn, if_neg (by omega)] at hon
  have he : padFree k pass d = setDom k { domAt d k with padHeld := false } d := by
    unfold padFree setPads
    rw [if_neg (by omega), if_pos (by simp [hpads, hon, hheld]), if_neg (by omega)]
  have hget : domAt (padFree k pass d) k = { domAt d k with padHeld := false } := by
    rw [he]
    exact (domAt_set k k { domAt d k with padHeld := false } d (dom_ne (.inr (.inl hson)))).trans (if_pos rfl)
  rw [padsHeld, if_neg (by omega), domOn, if_neg (by omega), hget]
  exact ⟨rfl, hson⟩

/-! ## Wake (R424, R425, R499) -/

/-- A wake event from a source that is enabled, and from one that is not (R498, R499). -/
theorem setWake_cases (src now : Nat) (d : Dev) :
    (bit (objGet d 0x1214 0) src = true → d.pwr.state ≠ 0 →
      (setWake src now d).pwr.latch = true ∧ (setWake src now d).pwr.lastWake = 2 ^ src ∧ (setWake src now d).objs = d.objs ∧
        (d.pwr.busy = false → d.flt.safe = false → (setWake src now d).pwr.busy = true ∧ (setWake src now d).pwr.entering = 0)) ∧
    (bit (objGet d 0x1214 0) src = false → setWake src now d = d) :=
  ⟨setWake_does src now d, setWake_not src now d⟩

end

end Sys2Proof.Machine

open Sys2Proof.Machine

/-- Settles O10: the last step of Sleep entry, and an edge of the reference while the counter runs or not. -/
theorem sleepCounter : Obligations.SleepCounter := by
  unfold Obligations.SleepCounter
  refine ⟨fun s now hawake hbusy hto hup hsafe hsettled => ?_, fun s hawake => ⟨fun hsleeping href => ?_, fun hup => ?_⟩⟩
  · refine answers_actAt rfl hawake ?_
    have hdoes := sleepEntry_does rfl hbusy hto hup hsafe hsettled
    simp only [atTime_frame] at hdoes
    exact hdoes
  · exact answers_act rfl hawake (if_pos (by simp only [hsleeping, href, Bool.not_false, Bool.and_self]))
  · exact answers_act rfl hawake (if_neg (by simp [hup]))

/-- Settles O26: a granted request by whether a transition is in progress, the end of one, and its bound. -/
theorem packageStates : Obligations.PackageStates := by
  unfold Obligations.PackageStates
  refine ⟨fun s q v hsound hgranted => ?_, fun s now hawake => ⟨fun hdone hreset htarget => ?_, fun hbusy hlate => ?_⟩⟩
  · have hrise : Rising (atTime q.now s.dev).objs := (sound_atTime q.now hsound).objs.1
    refine ⟨fun hbusy => ?_, fun hbusy hsafe hv => ?_⟩
    · refine answers_perform rfl hgranted ?_
      obtain ⟨hobj, hpwr⟩ := packageAct_busy (v := v) hrise hbusy
      simp only [objGet, accept_frame]
      exact ⟨hobj, hpwr⟩
    · refine answers_perform rfl hgranted ?_
      have hdoes := packageAct_begins hrise hbusy hsafe hv
      simp only [objGet, accept_frame]
      exact hdoes
  · refine answers_actAt rfl hawake ?_
    have hdoes := transitionComplete_does rfl hdone hreset htarget
    simp only [atTime_frame] at hdoes
    exact hdoes
  · obtain ⟨hpast, hwithin⟩ := overtime_does (now := now) hbusy hlate
    exact ⟨fun h => answers_actAt rfl hawake (hpast h), fun h => answers_actAt rfl hawake (hwithin h)⟩

/-- Settles O27: each event of a domain by the lemma of its act, on the block as the power controller has settled it. -/
theorem powerDomains : Obligations.PowerDomains := by
  unfold Obligations.PowerDomains
  intro s k now hawake hsound hk
  have hsound' := sound_atTime now hsound
  have hview : ∀ u, tile (atTime now s.dev) u = tile s.dev u := fun u => tile_congr (by simp only [atTime_frame]) u
  have htiles : (atTime now s.dev).tiles = s.dev.tiles := by simp only [atTime_frame]
  have hdomain : isDomain k = true := decide_eq_true hk
  refine ⟨fun t0 hmoving => ?_, fun t0 hmoving hdoms => ?_, fun t0 hmoving hlate => ⟨fun hbig => ?_, fun hsmall hpart => ?_⟩,
    fun hsmall hon hvote hmoving hsafe hidle => ?_, fun pass hpads hbig hon hheld => ?_⟩
  · refine answers_actOn rfl hdomain hawake ?_
    obtain ⟨hgood, hboot, hothers⟩ := powerGood_does rfl hsound' hmoving
    exact ⟨hgood, hboot, fun u hu => (hothers u hu).trans (hview u)⟩
  · refine answers_actOn rfl hdomain hawake ?_
    obtain ⟨hoff, hlost, hothers⟩ := domainOff_does rfl hsound' hmoving hdoms
    exact ⟨hoff, hlost, fun u hu => (hothers u hu).trans (hview u)⟩
  · refine answers_actOn rfl hdomain hawake ?_
    obtain ⟨hblocked, hsame⟩ := (goodTimeout_does hsound' hmoving hlate).1 hbig
    exact ⟨hblocked, hsame.trans htiles⟩
  · exact answers_actOn rfl hdomain hawake ((goodTimeout_does hsound' hmoving hlate).2 hsmall (by rw [hview]; exact hpart))
  · refine answers_actOn rfl (decide_eq_true hsmall) hawake ?_
    obtain ⟨hturns, hsame⟩ := idleOff_does (d := atTime now s.dev) rfl (by rw [hview]; exact hon) hvote hmoving hsafe
      (by rw [hview]; exact hidle)
    exact ⟨hturns, hsame.trans htiles⟩
  · refine answers_actOn rfl hpads hawake ?_
    rw [regGate_open rfl, if_pos rfl]
    exact padFree_does hbig hpads hon hheld pass

/-- Settles O28: every wake event is setWake at its instant; the wake edge by its own lemma. -/
theorem powerWake : Obligations.PowerWake := by
  unfold Obligations.PowerWake
  refine ⟨fun s now src hawake => ?_, fun s hawake hsleeping hbusy hto hon href =>
    answers_act rfl hawake (wakeEdge_does hsleeping hbusy hto hon href)⟩
  intro y wakes
  have hwakes : ∀ c : Sys2Proof.Instr, (∀ P, P (setWake src now y) → Answers c s P) → wakes c := fun c hc => by
    obtain ⟨hset, hnot⟩ := setWake_cases src now y
    have hobjs : y.objs = s.dev.objs := by simp only [y, atTime_frame]
    refine ⟨fun hbit hstate => hc _ ?_, fun hbit => hc _ (hnot hbit)⟩
    obtain ⟨hlatch, hlast, hsame, hgoes⟩ := hset hbit hstate
    exact ⟨hlatch, hlast, hsame.trans hobjs, hgoes⟩
  refine ⟨fun hsrc dst hdst => hwakes _ ?_, fun hsrc => hwakes _ ?_, fun port hport hsrc => hwakes _ ?_,
    fun port hport hsrc hon => hwakes _ ?_⟩
  · subst hsrc
    refine fun P hp => answers_act (f := fun d =>
      if dst = d.dsr.nodeId || dst = 0x3F then setWake 0 now (atTime now d) else atTime now d) rfl hawake ?_
    rw [if_pos (by simpa using hdst)]
    exact hp
  · subst hsrc
    exact fun P hp => answers_actAt rfl hawake hp
  · subst hsrc
    exact fun P hp => answers_actOn rfl (decide_eq_true hport) hawake hp
  · subst hsrc
    refine fun P hp => answers_actOn rfl hport hawake ?_
    rw [if_pos (by simpa only [y, objGet, atTime_frame] using hon)]
    exact hp

end

section
/-! PROOFS. Reset requests, errors of on-chip memory, firmware boot and the end of start-up (R310, R334, R426, R464, R498, R499,
R510, R511, R513, R514, R519). -/
set_option autoImplicit false
namespace Sys2Proof.Machine

section
variable {d : Dev}

/-! ## Resets asked for (R498, R499, R510) -/

/-- Outside Run a warm reset waits, and the wake latch is set (R499). -/
theorem resetAsked_waits {q : Req} {i u : Nat} (hstate : d.pwr.state ≠ 0) (hsafe : d.flt.safe = false) :
    let e := resetAsked 1 (accept q i u d)
    Accepted q i u e ∧ e.pwr.resetWaits = true ∧ e.pwr.latch = true ∧ e.pwr.booted = d.pwr.booted := by
  obtain ⟨hpwr, htbs, hflt⟩ := accept_regs_objs q i u d
  generalize hz : ({ accept q i u d with pwr := { (accept q i u d).pwr with latch := true, resetWaits := true } } : Dev) = z
  have he : resetAsked 1 (accept q i u d) = evalPackage (accept q i u d).tbs.ns z := by
    unfold resetAsked
    rw [if_neg (by decide), if_neg (by rw [hpwr, hflt]; simp [hstate, hsafe]), hz]
  have hzpwr : z.pwr = { d.pwr with latch := true, resetWaits := true } := by rw [← hz, ← hpwr]
  obtain ⟨len, payload, hsent⟩ := accept_emitted q i u d
  obtain ⟨hwaits, hbooted⟩ := evalPackage_waits (accept q i u d).tbs.ns z
  obtain ⟨hlatch, -⟩ := evalPackage_latch (accept q i u d).tbs.ns z
  dsimp only
  rw [he, hwaits, hbooted, hlatch, hzpwr]
  refine ⟨⟨len, payload, ?_⟩, rfl, rfl, rfl⟩
  rw [Sent, evalPackage_emitted, ← hz]
  show _ ∈ (accept q i u d).emitted
  rw [hsent]
  exact List.mem_append_right _ (List.mem_singleton_self _)

/-- In Run and in the safe state a warm reset asked for is carried out at once (R498, R499). -/
theorem resetAsked_now (q : Req) (i u : Nat) (hgoes : d.pwr.state = 0 ∨ d.flt.safe = true) :
    resetAsked 1 (accept q i u d) = warmReset 4 0 (accept q i u d) := by
  obtain ⟨hpwr, -, hflt⟩ := accept_regs_objs q i u d
  unfold resetAsked
  rw [if_neg (by decide), if_pos (by rw [hpwr, hflt]; simpa using hgoes)]

/-! ## Errors of on-chip memory (R334) -/

theorem disarmFlip_sound (h : Sound d) (cls unit : Nat) : Sound (disarmFlip cls unit d) :=
  (disarmFlip_keeps (m := 1) rfl (.refl d)).sound h

/-- Disarming a flip writes the register of its class alone (R346). -/
theorem regGet_disarmFlip (h : Rising d.regs) {cls unit k : Nat} (hk : k ≠ Reg.wrdFlipCtrl.at cls) :
    regGet (disarmFlip cls unit d) k = regGet d k := by
  unfold disarmFlip
  split
  · exact regGet_setFld_ne d h _ _ _ _ _ hk
  · rfl

theorem regGet_pulse (src code sev subject info k : Nat) (d : Dev) : regGet (pulse src code sev subject info d) k = regGet d k := by
  simp only [regGet, pulse_frame]

/-- A corrected error of shared SRAM is counted. -/
theorem memoryError_sramCorrected (h : Sound d) (addr : Nat) :
    regGet (memoryError 0 true addr d) Reg.wrdSramCorr.base = min (2 ^ 32 - 1) (regGet d Reg.wrdSramCorr.base + 1) ∧
      (memoryError 0 true addr d).objs = d.objs := by
  have he : memoryError 0 true addr d = pulse 9 0x0030 0 addr 0 (regCount Reg.wrdSramCorr.base 1 (disarmFlip 1 0 d)) := by
    unfold memoryError
    rw [if_pos rfl, if_pos rfl]
  rw [he, regGet_pulse, regCount_get _ _ (disarmFlip_sound h 1 0).regs.1, regGet_disarmFlip h.regs.1 (by decide)]
  exact ⟨rfl, by simp only [pulse_frame, regCount_frame, disarmFlip_objs]⟩

/-- A corrected error of the management controller's memory is a report and nothing else. -/
theorem memoryError_corrected (addr : Nat) : memoryError 1 true addr d = { d with flt := (memoryError 1 true addr d).flt } := by
  obtain ⟨flt, hflt⟩ := pulse_form 1 0x0036 0 addr 0 d
  unfold memoryError
  rw [if_neg (by decide), if_pos rfl, if_pos rfl, hflt]

/-- An uncorrectable error of shared SRAM or of the management controller's memory brings a warm reset. -/
theorem memoryError_resets {u : Nat} (hu : u < 2) (hno : d.pwr.resetAt = none) (addr : Nat) :
    let e := memoryError u false addr d
    e.pwr.cause = 5 ∧ e.pwr.causeSrc = (if u = 0 then 9 else 1) ∧ e.pwr.booted = false ∧ e.pwr.resetAt = some d.tbs.ns ∧ e.sess = [] := by
  have hcases : u = 0 ∨ u = 1 := by omega
  rcases hcases with rfl | rfl
  · obtain ⟨hcause, hsrc, -, hbooted, hat, -, hsess, -⟩ := warmReset_does 5 9 (pulse 9 0x0031 3 addr 0 (disarmFlip 1 0 d))
      (by simpa only [pulse_frame, disarmFlip_pwr] using hno)
    exact ⟨hcause, hsrc, hbooted, hat.trans (by simp only [pulse_frame, disarmFlip_tbs]), hsess⟩
  · obtain ⟨hcause, hsrc, -, hbooted, hat, -, hsess, -⟩ := warmReset_does 5 1 (pulse 1 0x0037 3 addr 0 d)
      (by simpa only [pulse_frame] using hno)
    exact ⟨hcause, hsrc, hbooted, hat.trans (by simp only [pulse_frame]), hsess⟩

theorem memoryError_tile (t : Nat) (corrected : Bool) (addr : Nat) (d : Dev) : memoryError (2 + t) corrected addr d =
    if corrected then tileCorrected t (disarmFlip 2 t d) else containTile t (disarmFlip 2 t d) := by
  unfold memoryError
  rw [if_neg (by omega), if_neg (by omega), Nat.add_sub_cancel_left]


/-- A corrected error of a tile's memory is counted in the 64-bit count (R131). -/
theorem tileCorrected_counts (t : Nat) (h : Sound d) :
    pairGet (tileCorrected t d) Reg.slvCorrCntHi.base Reg.slvCorrCntLo.base =
      satAdd 64 (pairGet d Reg.slvCorrCntHi.base Reg.slvCorrCntLo.base) 1 := by
  have hcounted := satAdd_split 64 (pairGet d Reg.slvCorrCntHi.base Reg.slvCorrCntLo.base) 1
  have hset : ∀ v, pairGet (pulse (32 + t) 0x0020 0 t 0 v) Reg.slvCorrCntHi.base Reg.slvCorrCntLo.base =
      pairGet v Reg.slvCorrCntHi.base Reg.slvCorrCntLo.base := fun v => by simp only [pairGet, regGet_pulse]
  unfold tileCorrected
  dsimp only
  rw [hset, pairGet_set _ _ _ _ ((setFld_keeps (m := 1) rfl (.refl d)).sound h) (by decide)]
  exact hcounted

theorem memoryError_tileCorrected (t : Nat) (h : Sound d) (addr : Nat) :
    (memoryError (2 + t) true addr d).tiles = d.tiles ∧
      pairGet (memoryError (2 + t) true addr d) Reg.slvCorrCntHi.base Reg.slvCorrCntLo.base =
        satAdd 64 (pairGet d Reg.slvCorrCntHi.base Reg.slvCorrCntLo.base) 1 := by
  rw [memoryError_tile, if_pos rfl]
  refine ⟨by rw [tileCorrected_tiles, disarmFlip_tiles], ?_⟩
  rw [tileCorrected_counts t (disarmFlip_sound h 2 t)]
  unfold pairGet
  rw [regGet_disarmFlip h.regs.1 (by decide), regGet_disarmFlip h.regs.1 (by decide)]

/-- An uncorrectable error of a tile's memory contains the tile (R334). -/
theorem memoryError_contains {t : Nat} (h : Sound d) (hon : (tile d t).on = true) (hgone : (tile d t).gone = false) (addr : Nat) :
    (tile (memoryError (2 + t) false addr d) t).contained = true := by
  have hview : tile (disarmFlip 2 t d) t = tile d t := tile_congr (disarmFlip_tiles 2 t d) t
  rw [memoryError_tile, if_neg (by decide)]
  exact containAs_flags _ _ _ _ _ (disarmFlip_sound h 2 t).tabs.tiles (by rw [hview]; exact hon) (by rw [hview]; exact hgone)

/-! ## Firmware boot (R513, R514, R519) -/

theorem channelGone_pwr (c st : Nat) (d : Dev) : SamePwr (channelGone c st d).pwr d.pwr := by
  unfold channelGone
  dsimp only
  refine (powerSettle_pwr _ _).trans ?_
  rw [pairGone_pwr, levelEnd_pwr]
  simp only [setChanState_frame]
  exact .refl _

theorem trainFail_pwr (c : Nat) (r : TrnResult) (d : Dev) : SamePwr (trainFail c r d).pwr d.pwr := by
  generalize hz : setFld (Reg.dmcTrnStat.at c) 0 1 0 (objSet 0x1804 c (trnRecord r (trnMs d c)) d) = z
  have hset : z.pwr = d.pwr := by simp only [← hz, setFld_frame, objSet_frame]
  have he : (trainFail c r d).pwr = (channelGone c 7 z).pwr :=
    hz ▸ (trainingOver_pwr (startHeld d) _).trans (pulse_pwr 1 0x0043 3 c r.cause _)
  rw [he, ← hset]
  exact channelGone_pwr c 7 z

/-- Publishing the population leaves the power controller but for its domains. -/
theorem populate_pwr (pop : Nat) (causes : List Nat) (d : Dev) : SamePwr (populate pop causes d).pwr d.pwr := by
  unfold populate
  extract_lets mask bad d1 d2
  have hpop : d1.pwr = d.pwr := by simp only [d1, objSet_frame]
  have huntrained : SamePwr d2.pwr d1.pwr := forEach_pwr _ (fun c d => by simp only [setChanState_frame]; exact .refl _) _ _
  refine (forEach_pwr _ (fun c e => ?_) _ _).trans (hpop ▸ huntrained)
  extract_lets cause
  split
  · exact .refl _
  · exact trainFail_pwr c _ (setChan c _ e)

theorem beginTraining_pwr (d : Dev) : (beginTraining d).pwr = d.pwr :=
  ((beginTraining_keeps (m := 536870916) rfl (.refl d)).only .pwr rfl).symm
theorem startTiles_pwr (d : Dev) : (startTiles d).pwr = d.pwr :=
  ((startTiles_keeps (m := 8589934592) rfl (.refl d)).only .pwr rfl).symm
theorem drawOwnKeys_pwr (d : Dev) : (drawOwnKeys d).pwr = d.pwr :=
  ((drawOwnKeys_keeps (m := 33554496) rfl (.refl d)).only .pwr rfl).symm

/-- Firmware that runs powers the other domains (R513). -/
theorem firmwareRuns_pwr (pop : Nat) (causes : List Nat) (d : Dev) : ∃ degraded, SamePwr (firmwareRuns pop causes d).pwr
    { d.pwr with others := true, degraded := degraded } := by
  unfold firmwareRuns
  dsimp only
  split
  · have hbefore : (startTiles (drawOwnKeys { d with pwr := { d.pwr with others := true, degraded := objGet d 0x1803 0 == 1 } })).pwr =
        { d.pwr with others := true, degraded := objGet d 0x1803 0 == 1 } := by
      rw [startTiles_pwr, drawOwnKeys_pwr]
    refine ⟨objGet d 0x1803 0 == 1, (powerSettle_pwr _ _).trans ?_⟩
    rw [beginTraining_pwr]
    generalize startTiles _ = z at hbefore ⊢
    rw [← hbefore]
    split
    · exact populate_pwr pop causes _
    · exact .refl _
  · next hwarm =>
    have hothers : d.pwr.others = true := by
      cases h : d.pwr.others
      · simp [h] at hwarm
      · rfl
    refine ⟨d.pwr.degraded, ?_⟩
    have hsame : ({ d.pwr with others := true, degraded := d.pwr.degraded } : Pwr) = d.pwr := by rw [← hothers]
    rw [hsame]
    exact powerSettle_pwr _ _

/-- Does the image with this number verify? -/
def imageOk (aOk bOk : Bool) (i : Nat) : Bool := if i = 0 then aOk else bOk

/-- The image named runs when it verifies, else the other one when that does (R514). -/
theorem firmwareBoot_runs {header : Nat} {aOk bOk : Bool} (hon : domOn d 127 = true) (hidle : d.pwr.booted = false)
    (hok : imageOk aOk bOk (header % 2) = true ∨ imageOk aOk bOk (1 - header % 2) = true) (pop : Nat) (causes : List Nat) :
    let e := firmwareBoot header aOk bOk pop causes d
    e.pwr.booted = true ∧ e.pwr.image = (if imageOk aOk bOk (header % 2) = true then header % 2 else 1 - header % 2) ∧
      e.pwr.imageFail = false ∧ e.pwr.others = true := by
  intro e
  have he : e = firmwareRuns pop causes { d with pwr := { d.pwr with
      booted := true, imageFail := false
      image := if imageOk aOk bOk (header % 2) then header % 2 else 1 - header % 2 } } := by
    show firmwareBoot header aOk bOk pop causes d = _
    unfold firmwareBoot
    rw [if_neg (by simp [hon, hidle])]
    exact if_pos (Bool.or_eq_true_iff.2 hok)
  obtain ⟨degraded, doms, hpwr⟩ := firmwareRuns_pwr pop causes { d with pwr := { d.pwr with
      booted := true, imageFail := false
      image := if imageOk aOk bOk (header % 2) then header % 2 else 1 - header % 2 } }
  rw [he, hpwr]
  exact ⟨rfl, rfl, rfl, rfl⟩

/-- With neither image verified no firmware runs (R514). -/
theorem firmwareBoot_fails {header : Nat} (hon : domOn d 127 = true) (hidle : d.pwr.booted = false) (pop : Nat) (causes : List Nat) :
    let e := firmwareBoot header false false pop causes d
    e.pwr.booted = false ∧ e.pwr.imageFail = true ∧ e.objs = d.objs := by
  intro e
  have he : e = powerSettle (level 2 0x0085 3 3 0 { d with pwr := { d.pwr with imageFail := true } }).tbs.ns
      (level 2 0x0085 3 3 0 { d with pwr := { d.pwr with imageFail := true } }) := by
    show firmwareBoot header false false pop causes d = _
    unfold firmwareBoot
    rw [if_neg (by simp [hon, hidle])]
    exact if_neg (by simp)
  obtain ⟨doms, hpwr⟩ := powerSettle_pwr (level 2 0x0085 3 3 0 { d with pwr := { d.pwr with imageFail := true } }).tbs.ns
    (level 2 0x0085 3 3 0 { d with pwr := { d.pwr with imageFail := true } })
  rw [level_pwr] at hpwr
  rw [he, hpwr]
  exact ⟨hidle, rfl, by simp only [powerSettle_frame, level_frame]⟩

theorem firmwareBoot_not (header : Nat) (aOk bOk : Bool) (pop : Nat) (causes : List Nat)
    (hno : domOn d 127 = false ∨ d.pwr.booted = true) : firmwareBoot header aOk bOk pop causes d = d :=
  if_pos (by rcases hno with h | h <;> simp [h])

/-! ## The end of start-up (R426 step 9, R464, R511) -/

/-- Setting an enable bit of one register, with those of others as before. -/
theorem enable_get (h : Rising d.regs) (r : Reg) : Rising (setFld r.base 0 1 1 d).regs ∧
    ∀ q : Reg, (q.base = r.base ∨ fld d q.base 0 1 = 1) → fld (setFld r.base 0 1 1 d) q.base 0 1 = 1 := by
  refine ⟨regSet_rising h _ _, fun q hq => ?_⟩
  by_cases hsame : q.base = r.base
  · rw [hsame, fld_setFld d h _ _ _ _ (by decide)]
    rfl
  · rw [fld, regGet_setFld_ne d h _ _ _ _ _ hsame]
    exact hq.resolve_left hsame

/-- The registers whose enable bits the end of start-up sets, in the order it sets them. -/
def enableRegs : List Reg := [.dmaIntakeCtrl, .loomCtrl, .pkeCtrl, .pkeIgrCtrl, .dmaCtrl]

/-- Once set, an enable bit stays set while the rest are. -/
theorem enableAll_get : ∀ (l : List Reg) {d : Dev}, Rising d.regs →
    ∀ q : Reg, (q ∈ l ∨ fld d q.base 0 1 = 1) → fld (forEach l (fun r d => setFld r.base 0 1 1 d) d) q.base 0 1 = 1
  | [], _, _, _, hq => hq.resolve_left (List.not_mem_nil)
  | r :: l, _, h, q, hq => by
    obtain ⟨hrise, hget⟩ := enable_get h r
    refine enableAll_get l hrise q ?_
    rcases hq with hq | hq
    · rcases List.mem_cons.1 hq with rfl | hin
      · exact .inr (hget q (.inl rfl))
      · exact .inl hin
    · exact .inr (hget q (.inr hq))

/-- The start is ready to end: nothing holds it and every tile that starts has ended BOOT (R426, R464). -/
theorem startupEnable_ready (hbooted : d.pwr.booted = true) (hmem : memoryReady d = true) (hstep : objGet d 0x1C01 0 ≠ 10)
    (hheld : startHeld d = false) (hboot : ∀ t ∈ bootTiles d, 2 ≤ (tile d t).boot) :
    (!d.pwr.booted || !memoryReady d || objGet d 0x1C01 0 == 10 || startHeld d ||
      (bootTiles d).any fun t => decide ((tile d t).boot < 2)) = false := by
  have hdone : (bootTiles d).any (fun t => decide ((tile d t).boot < 2)) = false :=
    List.any_eq_false.2 fun t ht => by simpa using Nat.lt_of_succ_le (hboot t ht)
  rw [hbooted, hmem, hheld, hdone, beq_eq_false_iff_ne.2 hstep]
  rfl

/-- With a tile that passed BOOT the units are enabled and the reset ends (R426 step 9, R511). -/
theorem startupEnable_ends (h : Sound d) (hbooted : d.pwr.booted = true) (hmem : memoryReady d = true)
    (hstep : objGet d 0x1C01 0 ≠ 10) (hheld : startHeld d = false) (hboot : ∀ t ∈ bootTiles d, 2 ≤ (tile d t).boot)
    (hpassed : ∃ t ∈ bootTiles d, (tile d t).boot = 2) :
    let e := startupEnable d
    objGet e 0x1C01 0 = 9 ∧ e.pwr.resetAt = none ∧ ∀ r ∈ enableRegs, fld e r.base 0 1 = 1 := by
  have hany : (bootTiles d).any (fun t => (tile d t).boot == 2) = true := by simpa using hpassed
  generalize hz : forEach enableRegs (fun r d => setFld r.base 0 1 1 d) d = z
  have he : startupEnable d = objSet 0x1C01 0 9 { z with pwr := { z.pwr with resetAt := none } } := by
    unfold startupEnable
    dsimp only
    rw [startupEnable_ready hbooted hmem hstep hheld hboot, if_neg (by decide), hany, if_neg (by decide), ← hz]
    rfl
  have hobjs : z.objs = d.objs := by
    rw [← hz]
    show (setFld _ _ _ _ _).objs = _
    simp only [setFld_frame]
  have henabled := enableAll_get enableRegs h.regs.1
  dsimp only
  rw [he]
  refine ⟨objGet_set_self { z with pwr := _ } (hobjs ▸ h.objs.1) _ _ _, by simp only [objSet_frame], fun r hr => ?_⟩
  simp only [fld, regGet, objSet_frame]
  rw [← hz]
  exact henabled r (.inl hr)

/-- With no tile that passed BOOT the start is held (R464). -/
theorem startupEnable_holds (h : Sound d) (hbooted : d.pwr.booted = true) (hmem : memoryReady d = true)
    (hstep : objGet d 0x1C01 0 ≠ 10) (hheld : startHeld d = false) (hboot : ∀ t ∈ bootTiles d, 2 ≤ (tile d t).boot)
    (hfailed : ∀ t ∈ bootTiles d, (tile d t).boot ≠ 2) :
    objGet (startupEnable d) 0x1C01 0 = 10 ∧ (startupEnable d).pwr = d.pwr := by
  have hany : (bootTiles d).any (fun t => (tile d t).boot == 2) = false :=
    List.any_eq_false.2 fun t ht => by simpa using hfailed t ht
  unfold startupEnable
  dsimp only
  rw [startupEnable_ready hbooted hmem hstep hheld hboot, if_neg (by decide), hany, if_pos (by decide)]
  simp only [objGet, pulse_frame, objSet_frame, and_true]
  exact objGet_set_self d h.objs.1 _ _ _

theorem startupEnable_not (hno : d.pwr.booted = false ∨ memoryReady d = false) : startupEnable d = d :=
  if_pos (by rcases hno with h | h <;> simp [h])

end

end Sys2Proof.Machine

open Sys2Proof.Machine

/-- Settles O31: a granted request by where the package stands; an error by the memory it is in. -/
theorem resetRequests : Obligations.ResetRequests := by
  unfold Obligations.ResetRequests
  refine ⟨fun s q hsound hgranted => ⟨fun hno hgoes => ?_, fun hstate hsafe => ?_, ?_⟩, fun s addr now hawake hsound => ?_⟩
  · refine answers_decided rfl hgranted ?_
    obtain ⟨hpwr, htbs, -⟩ := accept_regs_objs q 0x1202 0 (atTime q.now s.dev)
    have hdoes := warmReset_does 4 0 (accept q 0x1202 0 (atTime q.now s.dev)) (by rw [hpwr]; exact hno)
    rw [hpwr, htbs] at hdoes
    rw [resetAsked_now q _ _ hgoes]
    exact hdoes
  · exact answers_decided rfl hgranted (resetAsked_waits hstate hsafe)
  · exact answers_decided rfl hgranted (coldReset_does _)
  · have hsound' := sound_atTime now hsound
    refine ⟨fun u hu hno => ?_, ?_, ?_, fun t ht => ⟨?_, fun hon hgone => ?_⟩⟩
    · exact answers_actOn rfl (decide_eq_true (by omega)) hawake (memoryError_resets hu hno addr)
    · exact answers_actOn (f := fun d => memoryError 0 true addr (atTime now d)) rfl rfl hawake (memoryError_sramCorrected hsound' addr)
    · exact answers_actOn (f := fun d => memoryError 1 true addr (atTime now d)) rfl rfl hawake (memoryError_corrected addr)
    · exact answers_actOn (f := fun d => memoryError (2 + t) true addr (atTime now d)) rfl (decide_eq_true (by omega)) hawake (memoryError_tileCorrected t hsound' addr)
    · exact answers_actOn rfl (decide_eq_true (by omega)) hawake (memoryError_contains hsound' hon hgone addr)

/-- Settles O49: the boot by which image verifies, the end of start-up by whether a tile passed BOOT. -/
theorem startUp : Obligations.StartUp := by
  unfold Obligations.StartUp
  intro s now hawake hsound
  have hsound' := sound_atTime now hsound
  refine ⟨fun header aOk bOk pop causes hon hidle => ⟨fun hok => ?_, fun hbad hother => ?_, fun ha hb => ?_⟩,
    fun header aOk bOk pop causes hno => answers_actAt rfl hawake (firmwareBoot_not header aOk bOk pop causes hno),
    fun hbooted hmem hstep hheld hboot => ⟨fun hpassed => ?_, fun hfailed => ?_⟩,
    fun hno => answers_actAt rfl hawake (startupEnable_not hno)⟩
  · refine answers_actAt rfl hawake ?_
    have hnamed : imageOk aOk bOk (header % 2) = true := hok
    obtain ⟨hruns, himage, hfail, hothers⟩ := firmwareBoot_runs hon hidle (.inl hnamed) pop causes
    exact ⟨hruns, himage.trans (if_pos hnamed), hfail, hothers⟩
  · refine answers_actAt rfl hawake ?_
    have hnamed : ¬ imageOk aOk bOk (header % 2) = true := by
      rw [Bool.not_eq_true]
      exact hbad
    have halt : imageOk aOk bOk (1 - header % 2) = true := by
      have hcases := Nat.mod_two_eq_zero_or_one header
      rcases hcases with h | h <;> simpa [imageOk, h] using hother
    obtain ⟨hruns, himage, -⟩ := firmwareBoot_runs hon hidle (.inr halt) pop causes
    exact ⟨hruns, himage.trans (if_neg hnamed)⟩
  · subst ha hb
    exact answers_actAt rfl hawake (firmwareBoot_fails hon hidle pop causes)
  · exact answers_actAt rfl hawake (startupEnable_ends hsound' hbooted hmem hstep hheld hboot hpassed)
  · exact answers_actAt rfl hawake (startupEnable_holds hsound' hbooted hmem hstep hheld hboot hfailed)

end

section
/-! PROOFS. SPDM connections, secured sessions and the random source (R429 to R433, R453). -/
set_option autoImplicit false
namespace Sys2Proof.Machine

section
variable {d : Dev} {l n : Nat}

/-! ## Connections (R429 to R431) -/

theorem answer_sent (l req err : Nat) (body : List Nat) (d : Dev) : Sent (.doe l req err body) (answer l req err body d) :=
  sent_emit _ _

/-- A request whose step the connection has reached is answered, and leaves the security block (R431). -/
theorem spdm_answers {req need : Nat} {f : Dev → Dev} {body : List Nat} (h : doeServed d l = true) (hstep : need ≤ connOf d l)
    (hf : f d = answer l req 0 body d) : Sent (.doe l req 0 body) (spdm l req need f d) ∧ (spdm l req need f d).sec = d.sec := by
  rw [spdm_ok h hstep, hf]
  exact ⟨answer_sent _ _ _ _ _, rfl⟩

/-- A request before its step is answered UnexpectedRequest (R431). -/
theorem spdm_refuses {req need : Nat} {f : Dev → Dev} (h : doeServed d l = true) (hstep : connOf d l < need) :
    Sent (.doe l req 4 []) (spdm l req need f d) ∧ (spdm l req need f d).sec = d.sec := by
  rw [spdm_early h hstep]
  exact ⟨answer_sent _ _ _ _ _, rfl⟩

/-- A request that takes the connection to a step. -/
theorem spdm_steps {req need step : Nat} {f : Dev → Dev} {body : List Nat} (h : doeServed d l = true) (hstep : need ≤ connOf d l)
    (hne : step ≠ 0) (hf : f d = answer l req 0 body (setConn l step d)) :
    Sent (.doe l req 0 body) (spdm l req need f d) ∧ connOf (spdm l req need f d) l = step := by
  rw [spdm_ok h hstep, hf]
  exact ⟨answer_sent _ _ _ _ _, setConn_of l step d hne⟩

theorem keyExchange_opens {n : Nat} (hfree : freeSession d = some n) (hrng : d.sec.rngFail = false) :
    Sent (.doe l 0xE4 0 [n]) (keyExchange l d) ∧
      tabFind (keyExchange l d).sec.sessions n = some { link := l, last := d.tbs.ns } := by
  unfold keyExchange
  rw [hfree]
  dsimp only
  rw [hrng, if_neg (by decide)]
  refine ⟨answer_sent _ _ _ _ _, ?_⟩
  show tabFind (tabSet _ _ _) _ = _
  rw [tabFind_set, if_pos rfl]

/-- With 8 sessions open, or with the random source failed, KEY_EXCHANGE is answered Busy (R432, R433). -/
theorem keyExchange_busy (hbusy : freeSession d = none ∨ d.sec.rngFail = true) :
    Sent (.doe l 0xE4 3 []) (keyExchange l d) ∧ (keyExchange l d).sec = d.sec := by
  have he : keyExchange l d = answer l 0xE4 3 [] d := by
    unfold keyExchange
    split
    · rfl
    · next m hm => exact if_pos (hbusy.resolve_left (by simp [hm]))
  rw [he]
  exact ⟨answer_sent _ _ _ _ _, rfl⟩

/-! ## Secured sessions (R431, R432, R453) -/

/-- The block once session `n` has been heard (R432). -/
def heardAt (n : Nat) (x : Spdm) (d : Dev) : Dev :=
  setSec { d.sec with sessions := tabSet d.sec.sessions n { x with last := d.tbs.ns } } d

theorem heardAt_session (n : Nat) (x : Spdm) (d : Dev) : tabFind (heardAt n x d).sec.sessions n = some { x with last := d.tbs.ns } := by
  show tabFind (tabSet _ _ _) _ = _
  rw [tabFind_set, if_pos rfl]

/-- FINISH completes the handshake of a session (R431). -/
theorem finish_opens {x : Spdm} (hx : tabFind d.sec.sessions n = some x) (hserved : doeServed d x.link = true)
    (hopen : x.open_ = false) : Sent (.doe x.link 0xE5 0 []) (finish n true d) ∧
      tabFind (finish n true d).sec.sessions n = some { x with open_ := true, last := d.tbs.ns } := by
  unfold finish
  rw [verified_ok hx hserved, if_neg (by simp [hopen])]
  refine ⟨answer_sent _ _ _ _ _, ?_⟩
  show tabFind (tabSet _ _ _) _ = _
  rw [tabFind_set, if_pos rfl]
  rfl

/-- A verified message of an open session is answered, and the session has been heard (R432). -/
theorem secured_answers {req : Nat} {x : Spdm} (hx : tabFind d.sec.sessions n = some x) (hserved : doeServed d x.link = true)
    (hopen : x.open_ = true) : Sent (.doe x.link req 0 []) (secured n req true (fun l => answer l req 0 []) d) ∧
      tabFind (secured n req true (fun l => answer l req 0 []) d).sec.sessions n = some { x with last := d.tbs.ns } := by
  rw [secured_ok hx hserved hopen]
  exact ⟨answer_sent _ _ _ _ _, heardAt_session n x d⟩

theorem secured_ends {x : Spdm} (h : Rising d.sec.sessions) (hx : tabFind d.sec.sessions n = some x)
    (hserved : doeServed d x.link = true) (hopen : x.open_ = true) :
    let e := secured n 0xEC true (fun l d => answer l 0xEC 0 [] (endSession n d)) d
    Sent (.doe x.link 0xEC 0 []) e ∧ tabFind e.sec.sessions n = none := by
  dsimp only
  rw [secured_ok hx hserved hopen]
  refine ⟨answer_sent _ _ _ _ _, ?_⟩
  show tabFind (tabErase (tabSet _ _ _) _) _ = _
  rw [tabFind_erase _ _ _ (rising_set h), if_pos rfl]

/-- A message that does not verify is answered DecryptError, and nothing of it is taken (R431, R453). -/
theorem verifiedMsg_refuses {req : Nat} {f : Spdm → Dev → Dev} {x : Spdm} (hx : tabFind d.sec.sessions n = some x)
    (hserved : doeServed d x.link = true) :
    Sent (.doe x.link req 6 []) (verifiedMsg n req false f d) ∧ (verifiedMsg n req false f d).sec = d.sec := by
  rw [verified_bad hx hserved]
  exact ⟨answer_sent _ _ _ _ _, secEvent_sec _ _ _⟩

/-- A session silent for 60 s ends (R432). -/
theorem sessionTimeout_does {x : Spdm} (h : Rising d.sec.sessions) (hx : tabFind d.sec.sessions n = some x) :
    (tabFind (sessionTimeout n d).sec.sessions n = none ↔ x.last + 60000000000 ≤ d.tbs.ns) ∧
      ∀ k, k ≠ n → tabFind (sessionTimeout n d).sec.sessions k = tabFind d.sec.sessions k := by
  have hend : ∀ k, tabFind (endSession n d).sec.sessions k = if k = n then none else tabFind d.sec.sessions k := fun k =>
    tabFind_erase n k _ h
  unfold sessionTimeout
  rw [hx]
  dsimp only
  split
  · next hsilent => exact ⟨⟨fun _ => hsilent, fun _ => (hend n).trans (if_pos rfl)⟩, fun k hk => (hend k).trans (if_neg hk)⟩
  · next hheard => exact ⟨⟨fun hno => by simp [hx] at hno, fun h => absurd h hheard⟩, fun _ _ => rfl⟩

/-- A failure of the random source is kept, and its fault stands (R433). -/
theorem rngFailure_does (d : Dev) : let r : Report := { src := 8, code := 0x0070, sev := 3, level := true }
    (rngFailure d).sec = { d.sec with rngFail := true } ∧
      (rngFailure d).flt.presented = if levelStands d r then d.flt.presented else d.flt.presented ++ [r] := by
  refine ⟨by simp only [rngFailure, level_frame, setSec], ?_⟩
  show (if levelStands d _ then (setSec _ d) else _).flt.presented = _
  split <;> rfl

end

end Sys2Proof.Machine

open Sys2Proof.Machine

/-- Settles O32: each request by whether the connection has come to its step. -/
theorem spdmConnection : Obligations.SpdmConnection := by
  unfold Obligations.SpdmConnection
  intro s l now hawake hlink y hserved
  have late : ∀ {c : Sys2Proof.Instr} {P : Dev → Prop} {f : Dev → Dev}, exec c s = actOn (isLink l) (fun d => f (atTime now d)) s →
      P (f y) → Answers c s P := fun he hp => answers_actOn he hlink hawake hp
  refine ⟨?_, fun h1 => ?_, fun h2 => ?_, fun h3 => ⟨?_, ?_, ?_, ?_, fun n hfree hrng => ?_, fun hbusy => ?_⟩, fun h1 => ?_, fun h2 => ?_,
    fun h3 c r hc => ?_⟩
  · exact late rfl (spdm_steps hserved (Nat.zero_le _) (by decide) rfl)
  · exact late rfl (spdm_steps hserved h1 (by omega) rfl)
  · exact late rfl (spdm_steps hserved h2 (by decide) rfl)
  · exact late rfl (spdm_answers hserved h3 rfl)
  · exact late rfl (spdm_answers hserved h3 rfl)
  · exact late rfl (spdm_answers hserved h3 rfl)
  · exact late rfl (spdm_answers hserved h3 rfl)
  · refine late rfl ?_
    rw [spdm_ok hserved h3]
    exact keyExchange_opens hfree hrng
  · refine late rfl ?_
    rw [spdm_ok hserved h3]
    exact keyExchange_busy hbusy
  · exact late rfl (spdm_refuses hserved h1)
  · exact late rfl (spdm_refuses hserved h2)
  · simp only [List.mem_cons, Prod.mk.injEq, List.not_mem_nil, or_false] at hc
    rcases hc with ⟨rfl, rfl⟩ | ⟨rfl, rfl⟩ | ⟨rfl, rfl⟩ | ⟨rfl, rfl⟩ | ⟨rfl, rfl⟩
    all_goals exact late rfl (spdm_refuses hserved h3)

/-- Settles O33: a message of a session by whether it verifies and the session is open; the timeout; the random source. -/
theorem securedSessions : Obligations.SecuredSessions := by
  unfold Obligations.SecuredSessions
  refine ⟨fun s n now l t0 opened hawake hn => ?_, fun s n now x hawake hn hrise hx => ?_, fun s now hawake => ?_⟩
  · intro y hx hserved heard
    have late : ∀ {c : Sys2Proof.Instr} {P : Dev → Prop} {f : Dev → Dev},
        exec c s = actOn (isSession n) (fun d => f (atTime now d)) s → P (f y) → Answers c s P :=
      fun he hp => answers_actOn he hn hawake hp
    refine ⟨fun hopen => ?_, fun hopen => ⟨?_, ?_, fun hrise => ?_⟩, fun c r hc => ?_⟩
    · subst hopen
      exact late (f := finish n true) rfl (finish_opens hx hserved rfl)
    · subst hopen
      exact late (f := secured n 0xE8 true fun l => answer l 0xE8 0 []) rfl (secured_answers hx hserved rfl)
    · subst hopen
      exact late (f := secured n 0xE9 true fun l => answer l 0xE9 0 []) rfl (secured_answers hx hserved rfl)
    · subst hopen
      exact late (f := secured n 0xEC true fun l d => answer l 0xEC 0 [] (endSession n d)) rfl (secured_ends hrise hx hserved rfl)
    · simp only [List.mem_cons, Prod.mk.injEq, List.not_mem_nil, or_false] at hc
      rcases hc with ⟨rfl, rfl⟩ | ⟨rfl, rfl⟩ | ⟨rfl, rfl⟩ | ⟨rfl, rfl⟩
      all_goals exact late rfl (verifiedMsg_refuses hx hserved)
  · refine answers_actOn rfl hn hawake ?_
    exact sessionTimeout_does (by simpa only [atTime_frame] using hrise) hx
  · refine answers_actAt rfl hawake ?_
    have hdoes := rngFailure_does (atTime now s.dev)
    simp only [atTime_frame] at hdoes
    exact hdoes

end

section
/-! PROOFS. Installation and erasure of keys, debug unlock, encrypted links and isolated interfaces (R407, R409, R434, R435, R437 to
R440, R446, R450, R453). -/
set_option autoImplicit false
namespace Sys2Proof.Machine

section
variable {d : Dev} {l n m t : Nat}

/-! ## Installation (R437 to R439, R446) -/

theorem installErrs_heard (m n : Nat) (x : Spdm) (d : Dev) : installErrs m (heardAt n x d) = installErrs m d := rfl

theorem heardAt_sound (h : Sound d) (n : Nat) (x : Spdm) : Sound (heardAt n x d) :=
  (setSec_keeps (m := 33554432) rfl (.refl d)).sound h

theorem firstOf_mem : ∀ {l : List (Bool × Err)} {e : Err}, e ∈ firstOf l → ∃ b, (b, e) ∈ l
  | [], _, h => by cases h
  | (b, c) :: l, e, h => by
    rw [firstOf] at h
    split at h
    · exact ⟨b, by rw [List.mem_singleton.1 h]; exact List.mem_cons_self ..⟩
    · obtain ⟨b', hb⟩ := firstOf_mem h
      exact ⟨b', List.mem_cons_of_mem _ hb⟩

/-- An installation that fails its checks earns a code other than OK (R438). -/
theorem installErrs_code {e : Err} (he : (installErrs m d).head? = some e) : e ≠ .ok := by
  obtain ⟨b, hb⟩ := firstOf_mem (List.mem_of_head? he)
  simp only [List.mem_cons, Prod.mk.injEq, List.not_mem_nil, or_false] at hb
  rintro rfl
  simp at hb

/-- A verified installation message in an open session, by the first code that it earns (R438). -/
theorem install_answers {x : Spdm} (hx : tabFind d.sec.sessions n = some x) (hserved : doeServed d x.link = true)
    (hopen : x.open_ = true) : install n m true d = match (installErrs m d).head? with
      | some e => installAnswer x.link m e (heardAt n x d)
      | none => installAnswer x.link m .ok (if byteAt m 0 = 1 then installTenant (bytesAt m 2 2) (bytesAt m 8 32) (heardAt n x d)
          else installOperator (bytesAt m 8 32) (heardAt n x d)) := by
  unfold install
  rw [secured_ok hx hserved hopen]
  rfl

/-- A refused installation is answered with its code and installs nothing (R438). -/
theorem install_refuses {x : Spdm} {e : Err} (hx : tabFind d.sec.sessions n = some x) (hserved : doeServed d x.link = true)
    (hopen : x.open_ = true) (he : (installErrs m d).head? = some e) :
    install n m true d = answer x.link 0xFE 0 [e.code, bytesAt m 2 2] (heardAt n x d) := by
  rw [install_answers hx hserved hopen, he]
  exact if_pos (installErrs_code he)

/-- What an answer on the mailbox leaves: all but what has been sent. -/
theorem installAnswer_view {α : Type} (g : Dev → α) (hg : ∀ o e, g (emit o e) = g e) (l m : Nat) (c : Err) (d : Dev) :
    g (installAnswer l m c d) = g d := by
  obtain ⟨o, ho⟩ := installAnswer_only l m c d
  rw [ho, hg]

theorem installOperator_does (h : Sound d) (key : Nat) : let e := installOperator key d
    e.sec.opKeyed = true ∧ e.sec.opKey = Config.derivedKey 1 key ∧ objGet e 0x1612 0 = (objGet d 0x1612 0 + 1) % 2 ^ 32 ∧
      tabFind e.lastCtr 512 = none := by
  refine ⟨rfl, rfl, objCount_get d h.objs.1 32 0x1612 0 1, clearLast_ctr 256 (setSec _ (objCount 32 0x1612 0 1 d)) ?_⟩
  show Rising (objCount 32 0x1612 0 1 d).lastCtr
  simp only [objCount_frame]
  exact h.tabs.lastCtr

/-! ## Erasure (R407, R409, R440, R450) -/

/-- What remains of the block when the erasure of keys is acknowledged and its context's counter cleared. -/
theorem erased_sent (q : Req) (idx sub ctx : Nat) (d : Dev) : Accepted q idx sub (clearLast ctx (accept q idx sub d)) := by
  obtain ⟨len, payload, hsent⟩ := accept_emitted q idx sub d
  refine ⟨len, payload, ?_⟩
  show _ ∈ (accept q idx sub d).emitted
  rw [hsent]
  exact List.mem_append_right _ (List.mem_singleton_self _)

theorem erased_ctr {q : Req} {idx sub ctx : Nat} (h : Rising d.lastCtr) :
    tabFind (clearLast ctx (accept q idx sub d)).lastCtr (2 * ctx) = none :=
  clearLast_ctr ctx _ (accept_ctr q idx sub d h)

theorem tenantOf_erased (q : Req) (idx sub ctx u : Nat) (d : Dev) :
    tenantOf (clearLast ctx (accept q idx sub d)) u = tenantOf d u := by
  unfold tenantOf
  simp only [clearLast_frame, accept_frame]

theorem objGet_erased (q : Req) (idx sub ctx i u : Nat) (d : Dev) :
    objGet (clearLast ctx (accept q idx sub d)) i u = objGet d i u := by
  unfold objGet
  simp only [clearLast_frame, accept_frame]

theorem eraseTenantKeys_sound (h : Sound d) (t : Nat) : Sound (eraseTenantKeys t d) :=
  (eraseTenantKeys_keeps (m := 4398046511103) rfl (.refl d)).sound h

theorem objGet_objReset_self (h : Rising d.objs) (i u : Nat) : objGet (objReset i u d) i u = objDefault i u := by
  unfold objReset objGet
  simp only [tabFind_erase _ _ _ h, if_true, Option.getD_none]

/-- The accepted erasure of a tenant's keys (R440). -/
theorem tenantErase_does (h : Sound d) (q : Req) (t v : Nat) :
    let e := clearLast t (accept q 0x2051 t (objSet 0x2051 t v (eraseTenantKeys t d)))
    Accepted q 0x2051 t e ∧ (tenantOf e t).st = min (tenantOf d t).st 1 ∧ (tenantOf e t).root = none ∧ (tenantOf e t).segs = [] ∧
      objGet e 0x2052 t = objDefault 0x2052 t ∧ tabFind e.lastCtr (2 * t) = none ∧ ∀ u, u ≠ t → tenantOf e u = tenantOf d u := by
  have herased := eraseTenantKeys_sound h t
  have hview : ∀ u, tenantOf (objSet 0x2051 t v (eraseTenantKeys t d)) u = tenantOf (eraseTenantKeys t d) u := fun u => by
    unfold tenantOf
    simp only [objSet_frame]
  have hself := eraseKeys_tenant t t d h.tabs.tenants
  rw [if_pos rfl] at hself
  dsimp only
  simp only [tenantOf_erased, objGet_erased, hview, hself]
  refine ⟨erased_sent _ _ _ _ _, trivial, trivial, trivial, ?_, erased_ctr ?_, fun u hu => ?_⟩
  · rw [objGet_set_ne _ herased.objs.1 _ _ _ _ _ (by unfold objKey; omega)]
    exact objGet_objReset_self (d := setTenant t _ d) h.objs.1 0x2052 t
  · simp only [objSet_frame]
    exact herased.tabs.lastCtr
  · rw [eraseKeys_tenant t u d h.tabs.tenants, if_neg hu]

theorem operatorErase_does (h : Sound d) (q : Req) (v : Nat) :
    let e := clearLast 256 (accept q 0x1611 0 (objSet 0x1611 0 v (eraseOperator d)))
    Accepted q 0x1611 0 e ∧ e.sec.opKeyed = false ∧ e.sec.opKey = 0 ∧ tabFind e.lastCtr 512 = none ∧ e.tenants = d.tenants := by
  have herased : Sound (eraseOperator d) := (eraseOperator_keeps (m := 4398046511103) rfl (.refl d)).sound h
  dsimp only
  simp only [clearLast_frame, accept_frame, objSet_frame]
  refine ⟨erased_sent _ _ _ _ _, rfl, rfl, erased_ctr (ctx := 256) ?_, rfl⟩
  simp only [objSet_frame]
  exact herased.tabs.lastCtr

/-- No tenant's slot but those listed is keyed, and what is said of a tenant without keys (R450). -/
def keysGone (ks : List Nat) (d e : Dev) : Prop :=
  ∀ t, (t ∈ ks → (tenantOf e t).root = none ∧ (tenantOf e t).st ≤ 1) ∧ (t ∉ ks → tenantOf e t = tenantOf d t)

theorem eraseTenants_does : ∀ (ks : List Nat) {d : Dev}, Sound d → keysGone ks d (forEach ks eraseTenantKeys d)
  | [], _, _, _ => ⟨fun h => absurd h List.not_mem_nil, fun _ => rfl⟩
  | k :: ks, d, h, t => by
    obtain ⟨hin, hout⟩ := eraseTenants_does ks (eraseTenantKeys_sound h k) t
    have hfirst := eraseKeys_tenant k t d h.tabs.tenants
    refine ⟨fun ht => ?_, fun ht => ?_⟩
    · by_cases hks : t ∈ ks
      · exact hin hks
      · have hk : t = k := (List.mem_cons.1 ht).resolve_right hks
        rw [if_pos hk] at hfirst
        have he : tenantOf (forEach (k :: ks) eraseTenantKeys d) t = _ := (hout hks).trans hfirst
        rw [he]
        exact ⟨rfl, Nat.min_le_right _ _⟩
    · obtain ⟨hk, hks⟩ := not_or.1 (mt List.mem_cons.2 ht)
      rw [if_neg hk] at hfirst
      exact (hout hks).trans hfirst

theorem warmReset_tenants (kind src : Nat) (d : Dev) : (warmReset kind src d).tenants = d.tenants :=
  ((warmReset_keeps (m := 4398034942911) rfl (.refl d)).only .tenants rfl).symm

/-- What a warm reset leaves of the security block when the units are reset (R433, R510). -/
theorem sec_warmUnits (d : Dev) : (warmFlt (warmRegs (warmUnits d))).sec =
    { d.sec with rngFail := false, conns := [], sessions := [], ownKeys := (0, 0), aliases := d.sec.aliases + 1 } :=
  ((warmRegs_keeps (m := 1) rfl (.refl (warmUnits d))).only .sec rfl).symm

theorem sec_beforeUnits (d : Dev) : (warmBlocks (warmDram (stopAll (flushFaults d)))).sec = d.sec := by
  have hkeeps : Keeps 46841995701 d (warmBlocks (warmDram (stopAll (flushFaults d)))) :=
    warmBlocks_keeps (by rfl) (warmDram_keeps (by rfl) (stopAll_keeps (by rfl) (flushFaults_keeps (by rfl) (.refl d))))
  exact (hkeeps.only .sec rfl).symm

/-- A warm reset keeps debug and the operator key as they are (R510). -/
theorem warmReset_sec (kind src : Nat) (d : Dev) : (warmReset kind src d).sec.debug = d.sec.debug ∧
    (warmReset kind src d).sec.opKeyed = d.sec.opKeyed ∧ (warmReset kind src d).sec.opKey = d.sec.opKey := by
  unfold warmReset
  split
  · exact ⟨rfl, rfl, rfl⟩
  · simp only [powerSettle_frame, sec_warmUnits, sec_beforeUnits, and_self]

/-- The block with every key set erased, before the reset of a debug unlock (R450). -/
def unlocked (q : Req) (d : Dev) : Dev := clearLast 256 (accept q 0x1610 0 (objSet 0x1610 0 1 (eraseAll (secEvent 7 257 d))))

theorem tenants_secEvent (c u : Nat) (d : Dev) : (secEvent c u d).tenants = d.tenants := by
  simp only [secEvent_frame]

theorem eraseAll_parts (d : Dev) : (eraseAll d).tenants = (forEach (tabKeys d.tenants) eraseTenantKeys d).tenants ∧
    (eraseAll d).sec.opKeyed = false ∧ (eraseAll d).sec.opKey = 0 := by
  unfold eraseAll
  generalize forEach (tabKeys d.tenants) eraseTenantKeys d = z
  exact ⟨rfl, rfl, rfl⟩

theorem unlocked_frame (q : Req) (d : Dev) : (unlocked q d).tenants = (forEach (tabKeys d.tenants) eraseTenantKeys (secEvent 7 257 d)).tenants ∧
    (unlocked q d).pwr = d.pwr ∧ (unlocked q d).tbs = d.tbs ∧ (unlocked q d).sec.opKeyed = false ∧ (unlocked q d).sec.opKey = 0 := by
  have hall := (eraseAll_keeps (m := 112197636) rfl (.refl (secEvent 7 257 d))).only
  have hpwr : (secEvent 7 257 d).pwr = (eraseAll (secEvent 7 257 d)).pwr := hall .pwr rfl
  have htbs : (secEvent 7 257 d).tbs = (eraseAll (secEvent 7 257 d)).tbs := hall .tbs rfl
  obtain ⟨htenants, hkeyed, hkey⟩ := eraseAll_parts (secEvent 7 257 d)
  rw [tenants_secEvent] at htenants
  simp only [secEvent_frame] at hpwr htbs
  unfold unlocked
  simp only [clearLast_frame, accept_frame, objSet_frame]
  exact ⟨htenants, hpwr.symm, htbs.symm, hkeyed, hkey⟩

/-- A debug unlock erases every key and resets the device with debug unlocked (R450, R453, R510). -/
theorem debugUnlock_does (h : Sound d) (q : Req) (hno : d.pwr.resetAt = none) : let e := debugUnlock q d
    e.pwr.cause = 6 ∧ e.pwr.resetAt = some d.tbs.ns ∧ e.sec.debug = true ∧ e.sec.opKeyed = false ∧ e.sec.opKey = 0 ∧ e.sess = [] ∧
      ∀ t, (tenantOf e t).root = none ∧ (t ∈ tabKeys d.tenants → (tenantOf e t).st ≤ 1) := by
  obtain ⟨htenants, hpwr, htbs, hkeyed, hkey⟩ := unlocked_frame q d
  generalize hx : ({ unlocked q d with sec := { (unlocked q d).sec with debug := true } } : Dev) = x
  have hxpwr : x.pwr = d.pwr := by rw [← hx, ← hpwr]
  have hxtbs : x.tbs = d.tbs := by rw [← hx, ← htbs]
  have hxtenants : x.tenants = (forEach (tabKeys d.tenants) eraseTenantKeys (secEvent 7 257 d)).tenants := by rw [← hx, ← htenants]
  have he : debugUnlock q d = warmReset 6 0 x := by rw [← hx]; rfl
  obtain ⟨hcause, -, -, -, hat, -, hsess, -⟩ := warmReset_does 6 0 x (by rw [hxpwr]; exact hno)
  obtain ⟨hdebug, hxkeyed, hxkey⟩ := warmReset_sec 6 0 x
  have hsound : Sound (secEvent 7 257 d) := (secEvent_keeps (m := 4398046511103) rfl (.refl d)).sound h
  dsimp only
  rw [he]
  refine ⟨hcause, by rw [hat, hxtbs], by rw [hdebug, ← hx], by rw [hxkeyed, ← hx]; exact hkeyed, by rw [hxkey, ← hx]; exact hkey, hsess,
    fun t => ?_⟩
  have hview : tenantOf (warmReset 6 0 x) t = tenantOf (forEach (tabKeys d.tenants) eraseTenantKeys (secEvent 7 257 d)) t := by
    unfold tenantOf
    rw [warmReset_tenants, hxtenants]
  obtain ⟨hin, hout⟩ := eraseTenants_does (tabKeys d.tenants) hsound t
  rw [hview]
  by_cases ht : t ∈ tabKeys d.tenants
  · exact ⟨(hin ht).1, fun _ => (hin ht).2⟩
  · refine ⟨?_, fun h => absurd h ht⟩
    rw [hout ht, tenantOf, tenants_secEvent, tabGet, tabFind_of_not_mem ht]
    rfl

/-! ## Encrypted links (R434, R453) -/

theorem ideStream_setIde (n : Nat) {x : Ide} (hx : x ≠ {}) (d : Dev) : ideStream (setIde l n x d) l n = x :=
  tabGet_put_of _ _ _ _ hx

/-- A key that IDE_KM puts, and a stream or place that the link does not have (R434). -/
theorem ideKm_puts {x : Spdm} {stream place : Nat} (hx : tabFind d.sec.sessions n = some x) (hserved : doeServed d x.link = true)
    (hopen : x.open_ = true) (hstream : stream ≤ 16) (hplace : place ≤ 5) (key : Nat) :
    let e := ideKm n stream place key true d
    let keys := tabSet (ideStream d x.link stream).keys place key
    Sent (.doe x.link 0xFE 0 []) e ∧
      ideStream e x.link stream = { ideStream d x.link stream with keys := keys, secure := decide (keys.length = 6) } := by
  intro e keys
  have he : e = answer x.link 0xFE 0 [] (setIde x.link stream
      { ideStream d x.link stream with keys := keys, secure := decide (keys.length = 6) } (heardAt n x d)) := by
    show ideKm n stream place key true d = _
    unfold ideKm
    rw [secured_ok hx hserved hopen]
    exact if_neg (by simp; omega)
  have hnew : ({ ideStream d x.link stream with keys := keys, secure := decide (keys.length = 6) } : Ide) ≠ {} :=
    fun h => tabSet_ne _ _ _ (congrArg Ide.keys h)
  rw [he]
  exact ⟨answer_sent _ _ _ _ _, ideStream_setIde stream hnew (heardAt n x d)⟩

theorem ideKm_refuses {x : Spdm} {stream place : Nat} (hx : tabFind d.sec.sessions n = some x) (hserved : doeServed d x.link = true)
    (hopen : x.open_ = true) (hbad : 16 < stream ∨ 5 < place) (key : Nat) :
    Sent (.doe x.link 0xFE 1 []) (ideKm n stream place key true d) ∧ (ideKm n stream place key true d).sec.ide = d.sec.ide := by
  have he : ideKm n stream place key true d = answer x.link 0xFE 1 [] (heardAt n x d) := by
    unfold ideKm
    rw [secured_ok hx hserved hopen]
    exact if_pos (by simpa using hbad)
  rw [he]
  exact ⟨answer_sent _ _ _ _ _, rfl⟩

theorem tenantReset_sec (t : Nat) (d : Dev) : (tenantReset t d).sec = d.sec :=
  ((tenantReset_keeps (m := 2172392978749) rfl (.refl d)).only .sec rfl).symm

/-- An interface that goes to ERROR leaves the streams (R435). -/
theorem interfaceError_ide (t : Nat) (d : Dev) : (interfaceError t d).sec.ide = d.sec.ide := by
  unfold interfaceError
  dsimp only
  split
  · rw [secEvent_sec, tenantReset_sec]
  · rfl

/-- An integrity failure leaves its stream insecure, and acts on the interface that the stream is bound to alone (R434, R453). -/
theorem ideFailure_does (h : Rising d.sec.ide) (l n : Nat) : let e := ideFailure l n d
    (ideStream e l n).secure = false ∧ (ideStream e l n).keys = (ideStream d l n).keys ∧
      ((ideStream d l n).fn = none → e.sec.tdisp = d.sec.tdisp ∧ e.tenants = d.tenants) := by
  generalize hz : setIde l n { ideStream d l n with secure := false } d = z
  have hide : ∀ o : Option Nat, ((o.map fun t => interfaceError t z).getD z).sec.ide = z.sec.ide := fun o => by
    cases o with
    | none => rfl
    | some t => exact interfaceError_ide t z
  have hget : ideStream (ideFailure l n d) l n = { ideStream d l n with secure := false } := by
    unfold ideFailure
    dsimp only
    rw [hz, ideStream, secEvent_sec, hide, ← hz]
    exact (tabGet_put _ _ h _ _ _).trans (if_pos rfl)
  dsimp only
  rw [hget]
  refine ⟨rfl, rfl, fun hfn => ?_⟩
  have he : ideFailure l n d = secEvent 8 256 z := by
    unfold ideFailure
    dsimp only
    rw [hz, hfn]
    rfl
  rw [he, secEvent_sec, tenants_secEvent, ← hz]
  exact ⟨rfl, rfl⟩

/-! ## Isolated interfaces (R435) -/

/-- A TDISP request about a function behind the session's link acts once the session has been heard. -/
theorem tdisp_acts {fn : Nat} {f : Nat → Dev → Dev} {x : Spdm} (hx : tabFind d.sec.sessions n = some x)
    (hserved : doeServed d x.link = true) (hopen : x.open_ = true) (hfn : isFunction fn = true) (hlink : linkOfFn d fn = x.link) :
    tdisp n fn true f d = f x.link (heardAt n x d) :=
  tdisp_ok (l := x.link) hx hserved hopen hfn hlink

theorem tdisp_foreign {fn : Nat} (f : Nat → Dev → Dev) {x : Spdm} (hx : tabFind d.sec.sessions n = some x)
    (hserved : doeServed d x.link = true) (hopen : x.open_ = true) (hlink : linkOfFn d fn ≠ x.link) :
    Sent (.doe x.link 0xFE 0x101 []) (tdisp n fn true f d) ∧ (tdisp n fn true f d).sec.tdisp = d.sec.tdisp := by
  rw [tdisp_other (l := x.link) hx hserved hopen hlink]
  exact ⟨answer_sent _ _ _ _ _, rfl⟩

theorem lockInterface_locks {fn : Nat} (hst : tabGet 0 d.sec.tdisp fn = 0) (hbound : (tenantAt d fn).isSome = true) (stream : Nat) :
    let e := lockInterface l fn stream d
    Sent (.doe l 0xFE 0 []) e ∧ tabGet 0 e.sec.tdisp fn = 1 ∧ (1 ≤ stream → stream ≤ 16 → (ideStream e l stream).fn = some fn) := by
  intro e
  have he : e = answer l 0xFE 0 [] (if 1 ≤ stream && decide (stream ≤ 16) then
      setIde l stream { ideStream (setTdisp fn 1 d) l stream with fn := some fn } (setTdisp fn 1 d) else setTdisp fn 1 d) := by
    refine if_neg ?_
    simp [hst, Option.isSome_iff_ne_none.1 hbound]
  have hlocked : tabGet 0 (setTdisp fn 1 d).sec.tdisp fn = 1 := tabGet_put_of 0 _ _ 1 (by decide)
  rw [he]
  refine ⟨answer_sent _ _ _ _ _, ?_, fun hlo hhi => ?_⟩
  · split <;> exact hlocked
  · rw [if_pos (by simp [hlo, hhi])]
    have hnew : ({ ideStream (setTdisp fn 1 d) l stream with fn := some fn } : Ide) ≠ {} := fun h => by
      cases congrArg Ide.fn h
    exact congrArg Ide.fn (ideStream_setIde stream hnew (setTdisp fn 1 d))

/-- A request out of place is answered with an error and changes no interface (R435). -/
theorem lockInterface_refuses {fn : Nat} (hbad : tabGet 0 d.sec.tdisp fn ≠ 0 ∨ tenantAt d fn = none) (stream : Nat) :
    lockInterface l fn stream d = answer l 0xFE 4 [] d :=
  if_pos (by rcases hbad with h | h <;> simp [h])

theorem startInterface_runs {fn t : Nat} (hst : tabGet 0 d.sec.tdisp fn = 1) (hbound : tenantAt d fn = some t)
    (hkeyed : (tenantOf d t).st = 2) :
    Sent (.doe l 0xFE 0 []) (startInterface l fn d) ∧ tabGet 0 (startInterface l fn d).sec.tdisp fn = 2 := by
  have he : startInterface l fn d = answer l 0xFE 0 [] (setTdisp fn 2 d) := if_neg (by simp [hst, hbound, hkeyed])
  rw [he]
  exact ⟨answer_sent _ _ _ _ _, tabGet_put_of 0 _ _ 2 (by decide)⟩

theorem startInterface_refuses {fn : Nat} (hst : tabGet 0 d.sec.tdisp fn ≠ 1) : startInterface l fn d = answer l 0xFE 4 [] d :=
  if_pos (by simp [hst])

/-- An interface that is stopped is unlocked, and its streams are bound no more (R435). -/
theorem stopInterface_stops {fn : Nat} (h : Rising d.sec.tdisp) (hst : tabGet 0 d.sec.tdisp fn ≠ 0) : let e := stopInterface l fn d
    Sent (.doe l 0xFE 0 []) e ∧ tabGet 0 e.sec.tdisp fn = 0 ∧ ∀ i ∈ e.sec.ide, i.2.fn ≠ some fn := by
  generalize hz : (if tabGet 0 d.sec.tdisp fn = 3 then d else ((tenantAt d fn).map fun t => tenantReset t d).getD d) = z
  have hsec : z.sec = d.sec := by
    rw [← hz]
    split
    · rfl
    · cases tenantAt d fn with
      | none => rfl
      | some t => exact tenantReset_sec t d
  have he : stopInterface l fn d = answer l 0xFE 0 [] (setSec { (setTdisp fn 0 z).sec with
      ide := (setTdisp fn 0 z).sec.ide.map fun e => (e.1, if e.2.fn = some fn then { e.2 with fn := none } else e.2) } (setTdisp fn 0 z)) := by
    rw [← hz]
    exact if_neg hst
  have hrise : Rising z.sec.tdisp := by rw [hsec]; exact h
  dsimp only
  rw [he]
  refine ⟨answer_sent _ _ _ _ _, (tabGet_put 0 z.sec.tdisp hrise fn fn 0).trans (if_pos rfl), fun i hi => ?_⟩
  obtain ⟨e, -, rfl⟩ := List.mem_map.1 hi
  dsimp only
  split
  · simp
  · assumption

theorem stopInterface_refuses {fn : Nat} (hst : tabGet 0 d.sec.tdisp fn = 0) : stopInterface l fn d = answer l 0xFE 4 [] d :=
  if_pos hst

end

end Sys2Proof.Machine

open Sys2Proof.Machine

/-- Settles O34: a message by the first code it earns and its operation; an erasure by what it leaves. -/
theorem keyInstallation : Obligations.KeyInstallation := by
  unfold Obligations.KeyInstallation
  refine ⟨fun s n now m l t0 hawake hsound hn => ?_, fun s q t v hsound ht hgranted => ?_, fun s q v hsound hgranted => ?_⟩
  · intro y hx hserved t key tenantKeyed operatorKeyed
    have hheard : Sound (heardAt n { link := l, last := t0, open_ := true } y) := heardAt_sound (sound_atTime now hsound) n _
    have hanswers := install_answers (m := m) hx hserved rfl
    refine ⟨fun hnone hop => ?_, fun hnone hop => ?_, fun e he c hc => ?_⟩
    · refine answers_actOn (f := fun d => install n m true (atTime now d)) rfl hn hawake ?_
      rw [hanswers, hnone, List.head?_nil]
      dsimp only
      rw [if_pos hop]
      obtain ⟨hst, hroot, hsegs, hbound, hid, hgen, hctr, hsalt⟩ := installTenant_does t key _ hheard
      obtain ⟨b, hsent⟩ := installAnswer_sent l m (installTenant t key (heardAt n { link := l, last := t0, open_ := true } y))
      obtain ⟨o, ho⟩ := installAnswer_only l m .ok (installTenant t key (heardAt n { link := l, last := t0, open_ := true } y))
      refine ⟨?_, ?_, ?_, ?_, ?_, ?_, ?_, ?_, b, hsent⟩
      all_goals rw [ho]
      exacts [hst, hroot, hsegs, hbound, hid, hgen, hctr, hsalt]
    · refine answers_actOn (f := fun d => install n m true (atTime now d)) rfl hn hawake ?_
      rw [hanswers, hnone, List.head?_nil]
      dsimp only
      rw [if_neg hop]
      obtain ⟨hkeyed, hkey, hgen, hctr⟩ := installOperator_does hheard key
      obtain ⟨b, hsent⟩ := installAnswer_sent l m (installOperator key (heardAt n { link := l, last := t0, open_ := true } y))
      obtain ⟨o, ho⟩ := installAnswer_only l m .ok (installOperator key (heardAt n { link := l, last := t0, open_ := true } y))
      refine ⟨?_, ?_, ?_, ?_, b, hsent⟩
      all_goals rw [ho]
      exacts [hkeyed, hkey, hgen, hctr]
    · have hrefuses := install_refuses (m := m) hx hserved rfl he
      simp only [List.mem_cons, List.not_mem_nil, or_false] at hc
      rcases hc with rfl | rfl
      all_goals
        refine answers_actOn (f := fun d => install n m true (atTime now d)) rfl hn hawake ?_
        rw [hrefuses]
        exact ⟨answer_sent _ _ _ _ _, rfl, rfl, rfl⟩
  · refine ⟨_, (actOn_next ht (granted_held hgranted)).trans ?_, tenantErase_does (sound_atTime q.now hsound) q t v⟩
    unfold tenantEraseWrite eraseWrite
    rw [decideWrite_granted hgranted]
  · have hdoes := operatorErase_does (sound_atTime q.now hsound) q v
    have htenants : (atTime q.now s.dev).tenants = s.dev.tenants := by simp only [atTime_frame]
    rw [htenants] at hdoes
    refine ⟨_, (act_next (granted_held hgranted)).trans ?_, hdoes⟩
    unfold operatorEraseWrite eraseWrite
    rw [decideWrite_granted hgranted]

/-- Settles O35: the keys are erased before the warm reset, which leaves them so. -/
theorem debugUnlock : Obligations.DebugUnlock := by
  unfold Obligations.DebugUnlock
  intro s q v hsound hgranted
  refine answers_decided rfl hgranted ?_
  have hno : (atTime q.now s.dev).pwr.resetAt = none := by
    simp only [granted, served, Bool.and_eq_true, Option.isNone_iff_eq_none] at hgranted
    exact hgranted.1.2.1.2
  have hdoes := debugUnlock_does (sound_atTime q.now hsound) q hno
  have htenants : (atTime q.now s.dev).tenants = s.dev.tenants := by simp only [atTime_frame]
  rw [htenants] at hdoes
  exact hdoes

/-- Settles O36: keys by whether the link has the stream, requests by the link of the function and the state of its interface. -/
theorem isolatedInterfaces : Obligations.IsolatedInterfaces := by
  unfold Obligations.IsolatedInterfaces
  refine ⟨fun s n now l t0 hawake hsound hn => ?_, fun s l n now hawake hl hn hrise => ?_⟩
  · intro y hx hserved
    have late : ∀ {c : Sys2Proof.Instr} {P : Dev → Prop} {f : Dev → Dev},
        exec c s = actOn (isSession n) (fun d => f (atTime now d)) s → P (f y) → Answers c s P :=
      fun he hp => answers_actOn he hn hawake hp
    refine ⟨fun stream place key hstream hplace => late (f := ideKm n stream place key true) rfl
        (ideKm_puts hx hserved rfl hstream hplace key),
      fun stream place key hbad => late (f := ideKm n stream place key true) rfl (ideKm_refuses hx hserved rfl hbad key),
      fun fn hfn => ⟨fun hlink c hc => ?_, fun hlink => ?_⟩⟩
    · simp only [List.mem_cons, List.not_mem_nil, or_false] at hc
      rcases hc with rfl | rfl | rfl
      · exact late (f := tdisp n fn true fun l => lockInterface l fn 1) rfl (tdisp_foreign _ hx hserved rfl hlink)
      · exact late (f := tdisp n fn true fun l => startInterface l fn) rfl (tdisp_foreign _ hx hserved rfl hlink)
      · exact late (f := tdisp n fn true fun l => stopInterface l fn) rfl (tdisp_foreign _ hx hserved rfl hlink)
    · have acts : ∀ {c : Sys2Proof.Instr} {P : Dev → Prop} {f : Nat → Dev → Dev},
          exec c s = actOn (isSession n) (fun d => tdisp n fn true f (atTime now d)) s →
          P (f l (heardAt n { link := l, last := t0, open_ := true } y)) → Answers c s P := fun he hp =>
        late he (by rw [tdisp_acts hx hserved rfl hfn hlink]; exact hp)
      refine ⟨fun stream hst hbound => ?_, fun stream hbad => ?_, fun t hst hbound hkeyed => ?_, fun hst => ?_, fun hst hrise => ?_,
        fun hst => ?_⟩
      · refine acts (f := fun l => lockInterface l fn stream) rfl ?_
        exact lockInterface_locks (d := heardAt n { link := l, last := t0, open_ := true } y) hst hbound stream
      · refine acts (f := fun l => lockInterface l fn stream) rfl ?_
        rw [lockInterface_refuses (d := heardAt n { link := l, last := t0, open_ := true } y) hbad]
        exact ⟨answer_sent _ _ _ _ _, rfl⟩
      · refine acts (f := fun l => startInterface l fn) rfl ?_
        exact startInterface_runs (d := heardAt n { link := l, last := t0, open_ := true } y) hst hbound hkeyed
      · refine acts (f := fun l => startInterface l fn) rfl ?_
        rw [startInterface_refuses (d := heardAt n { link := l, last := t0, open_ := true } y) hst]
        exact ⟨answer_sent _ _ _ _ _, rfl⟩
      · refine acts (f := fun l => stopInterface l fn) rfl ?_
        exact stopInterface_stops (d := heardAt n { link := l, last := t0, open_ := true } y) hrise hst
      · refine acts (f := fun l => stopInterface l fn) rfl ?_
        rw [stopInterface_refuses (d := heardAt n { link := l, last := t0, open_ := true } y) hst]
        exact ⟨answer_sent _ _ _ _ _, rfl⟩
  · refine answers_actOn rfl (by simp [hl, hn]) hawake ?_
    have hdoes := ideFailure_does (d := atTime now s.dev) (by simpa only [atTime_frame] using hrise) l n
    simp only [ideStream, atTime_frame] at hdoes
    exact hdoes

end

section
/-! PROOFS. Blocks by command, the fill, the scrubber, injected flips and resilvering (R327 to R346, R375). -/
set_option autoImplicit false
namespace Sys2Proof.Machine

section
variable {d : Dev}

/-! ## Blocks (R327, R329, R332) -/

/-- What an allocation gives: its block is held by the owner, and only the Wardrobe's tables change (R325). -/
theorem allocBlock_does {pool owner k : Nat} {use : Use} {e : Dev} (h : allocBlock pool owner use d = some (k, e)) :
    (blockAt e k).map (fun b => (b.pool, b.owner, b.use)) = some (pool, owner, use) ∧ e.objs = d.objs := by
  unfold allocBlock at h
  split at h
  · cases h
  · cases h
    refine ⟨?_, rfl⟩
    show Option.map _ (tabFind (tabSet _ _ _) _) = _
    rw [tabFind_set, if_pos rfl]
    rfl

theorem allocateAct_eq {idx sub k : Nat} {v : Payload} {e : Dev}
    (h : allocBlock (byteAt v.val 1) (blockOwner idx sub) .command d = some (k, e)) :
    allocateAct idx sub v d = objSet (blockResult idx) sub (bytesAt v.val 8 8 + handleOf e k * 2 ^ 64) e := by
  unfold allocateAct; rw [h]

theorem releaseBlock_objs (k : Nat) (d : Dev) : (releaseBlock k d).objs = d.objs :=
  ((releaseBlock_keeps (m := 3221225472) rfl (.refl d)).only .objs rfl).symm

/-! ## A refused handle (R329) -/

/-- The words of a value lie from their place on: the registers below stay. -/
theorem putWords_get (n key v : Nat) {k : Nat} (h : Rising d.regs) (hk : k < key ∨ key + 4 * n ≤ k) :
    regGet (putWords n key v d) k = regGet d k := by
  induction n generalizing key v d with
  | zero => rfl
  | succ n ih =>
    show regGet (putWords n (key + 4) (v / 2 ^ 32) (regSet key v d)) k = _
    rw [ih _ _ (regSet_rising h key v) (by omega), regGet_set d h, if_neg (by omega)]

/-- A refusal without payload writes no register outside the response registers of the mailboxes (R404, R412). -/
theorem refuse_get {q : Req} (hq : q.crit = none) (h : Rising d.regs) (i u : Nat) {e : Err} (he : e ≠ .ok) {k : Nat}
    (hk : 0x10000 ≤ k ∧ k < 0x4000000) : regGet (refuse q i u e d) k = regGet d k := by
  have hbox : ∀ m : Nat, regGet (postMailbox q.who 20 m (emit (.response q.who (2 + 0x80) e.code i u q.tag 0 0) d)) k = regGet d k := by
    intro m
    unfold postMailbox
    split
    · rfl
    · next n data st hm =>
      have hdata : k < data ∨ data + 4 * 5 ≤ k := by
        cases hwho : q.who with
        | pf l => rw [hwho] at hm; cases hm; exact .inr (by simp [Reg.at, Reg.base, Reg.stride]; omega)
        | vf t l => rw [hwho] at hm; cases hm; exact .inl (by simp [Reg.vfAt, vfKey, Reg.base, Reg.stride]; omega)
        | node n => rw [hwho] at hm; cases hm
        | firmware => rw [hwho] at hm; cases hm
      have hput := putWords_get (d := { emit (.response q.who (2 + 0x80) e.code i u q.tag 0 0) d with
        waiting := takeWaiting q.who d.waiting }) 5 data m (k := k) h hdata
      dsimp only
      split
      · rfl
      · split
        · exact (regGet_congr (raise_frame ..).1 k).trans hput
        · exact hput
  have hresp : refuse q i u e d = postRing q.who 2 i u q.tag (postMailbox q.who 20
      (headerBytes 2 e.code i u 0xFFFF 0 0 0 q.tag + 0 * 2 ^ 160) (emit (.response q.who (2 + 0x80) e.code i u q.tag 0 0) d)) := by
    unfold refuse respond
    rw [hq]
    simp only [if_neg he, Nat.add_zero, Nat.pow_zero, Nat.mod_one]
  rw [hresp]
  unfold postRing
  split <;> exact hbox _

/-- A security event writes only its own two registers (R453). -/
theorem secEvent_get (h : Rising d.regs) (c t : Nat) {k : Nat} (hcnt : k ≠ Reg.secEventCnt.base) (hlast : k ≠ Reg.secEventLast.base) :
    regGet (secEvent c t d) k = regGet d k := by
  have hregs : (raise 3 (objCount 32 0x5135 0 1 (regCount Reg.secEventCnt.base 1 d))).regs = (regCount Reg.secEventCnt.base 1 d).regs := by
    simp only [raise_frame, objCount_frame]
  have hcount : Rising (regCount Reg.secEventCnt.base 1 d).regs := regSet_rising h _ _
  unfold secEvent
  rw [regGet_set _ (by rw [hregs]; exact hcount), if_neg hlast, regGet_congr hregs]
  exact (regGet_set d h _ _ _).trans (if_neg hcnt)

/-- A refused handle is counted, for a tenant in its own count too, and changes no block (R329). -/
theorem handleRefused_does (w h : Nat) (hregs : Rising d.regs) (hobjs : Rising d.objs) : let e := handleRefused w h d
    e.wrd = d.wrd ∧ regGet e Reg.wrdHandleErr.base = min (2 ^ 32 - 1) (regGet d Reg.wrdHandleErr.base + 1) ∧
      (w < 256 → objGet e 0x5110 w = (objGet d 0x5110 w + 1) % 2 ^ 32) := by
  generalize hd1 : regCount Reg.wrdHandleErr.base 1 d = d1
  generalize hd2 : (if w < 256 then objCount 32 0x5110 w 1 d1 else d1) = d2
  have hact : handleRefused w h d = if handleForeign d w h then secEvent 1 w d2 else d2 := by
    subst hd2 hd1; rfl
  have h1 : d1.wrd = d.wrd ∧ d1.objs = d.objs ∧ Rising d1.regs ∧
      regGet d1 Reg.wrdHandleErr.base = min (2 ^ 32 - 1) (regGet d Reg.wrdHandleErr.base + 1) := by
    subst hd1
    exact ⟨by simp only [regCount_frame], by simp only [regCount_frame], regSet_rising hregs _ _, regCount_get _ d hregs⟩
  obtain ⟨hwrd1, hobjs1, hrise1, hcnt1⟩ := h1
  have h2 : d2.wrd = d1.wrd ∧ d2.regs = d1.regs ∧ Rising d2.objs ∧
      (w < 256 → objGet d2 0x5110 w = (objGet d 0x5110 w + 1) % 2 ^ 32) := by
    subst hd2
    split
    · refine ⟨by simp only [objCount_frame], by simp only [objCount_frame], objCount_rising d1 (hobjs1 ▸ hobjs) _ _ _ _, fun _ => ?_⟩
      rw [objCount_get d1 (hobjs1 ▸ hobjs), objGet_congr hobjs1]
    · next hw => exact ⟨rfl, rfl, hobjs1 ▸ hobjs, fun hlt => absurd hlt hw⟩
  obtain ⟨hwrd2, hregs2, hrise2, hobj2⟩ := h2
  dsimp only
  rw [hact]
  split
  · refine ⟨by simp only [secEvent_frame, hwrd2, hwrd1], ?_, fun hw => ?_⟩
    · rw [secEvent_get (hregs2 ▸ hrise1) _ _ (by decide) (by decide), regGet_congr hregs2, hcnt1]
    · rw [secEvent_obj hrise2 _ _ (by decide) hw, hobj2 hw]
  · exact ⟨by rw [hwrd2, hwrd1], by rw [regGet_congr hregs2, hcnt1], hobj2⟩

end
end Sys2Proof.Machine
open Sys2Proof.Machine

/-- Settles O42: the block of a granted allocation is that of the placement rule; a granted free and a refused handle are followed
through the answer, which leaves the Wardrobe and the count of refused handles. -/
theorem wardrobeBlocks : Obligations.WardrobeBlocks := by
  unfold Obligations.WardrobeBlocks
  intro s q sub v hs
  have hsound : Sound (atTime q.now s.dev) := sound_atTime q.now hs
  generalize hy : atTime q.now s.dev = y at hsound
  refine ⟨fun k e hg halloc => ?_, fun hg => ?_, fun hawake hserved hlow hcrit => ?_⟩
  · have hobjs : Rising e.objs := by rw [(allocBlock_does halloc).2]; exact hsound.objs.1
    refine answers_perform rfl hg ?_
    rw [hy, allocateAct_eq halloc]
    refine ⟨?_, ?_, ?_⟩
    · simp only [accept_frame, objSet_frame]
    · rw [← (allocBlock_does halloc).1]
      simp only [blockAt, accept_frame, objSet_frame]
    · exact (objGet_congr (by simp only [accept_frame]) _ _).trans (objGet_set_self e hobjs _ _ _)
  · refine answers_act rfl (granted_held hg) ?_
    have hfree : blockFree q sub v s.dev = accept q (blockObj sub).1 (blockObj sub).2
        (releaseBlock (handleKey (bytesAt v.val 8 8)) y) := by
      unfold blockFree
      dsimp only
      rw [decideWrite_granted hg, hy]
    rw [hfree]
    refine ⟨accepted_accept .., by simp only [accept_frame], ?_⟩
    simp only [accept_frame, releaseBlock_objs]
  · refine answers_act rfl hawake ?_
    have hfree : blockFree q sub v s.dev = handleRefused (blockOwner (blockObj sub).1 (blockObj sub).2) (bytesAt v.val 8 8)
        (refuse q (blockObj sub).1 (blockObj sub).2 .integrity y) := by
      unfold blockFree decideWrite
      dsimp only
      rw [hy, if_neg (by simp [hserved]), hlow]
      exact if_pos rfl
    have hrefuse : (refuse q (blockObj sub).1 (blockObj sub).2 .integrity y).objs = y.objs ∧
        (refuse q (blockObj sub).1 (blockObj sub).2 .integrity y).wrd = y.wrd ∧
        Rising (refuse q (blockObj sub).1 (blockObj sub).2 .integrity y).regs := by
      unfold refuse
      rw [hcrit]
      exact ⟨by simp only [respond_frame], by simp only [respond_frame],
        ((respond_keeps (m := 268828945) rfl (.refl y)).sound hsound).regs.1⟩
    obtain ⟨hobjs, hwrd, hrise⟩ := hrefuse
    obtain ⟨hwrd', hcnt, hobj⟩ := handleRefused_does (blockOwner (blockObj sub).1 (blockObj sub).2) (bytesAt v.val 8 8) hrise
      (hobjs ▸ hsound.objs.1)
    rw [hfree]
    refine ⟨hwrd'.trans hwrd, hcnt.trans ?_, fun hw => (hobj hw).trans (by rw [objGet_congr hobjs])⟩
    rw [refuse_get hcrit hsound.regs.1 _ _ (by decide) (by decide)]

end

section
/-! PROOFS. The fill, the scrubber, injected flips and the end of a copy between mirrored channels (R336 to R346, R375). -/
set_option autoImplicit false
namespace Sys2Proof.Machine

section
variable {d : Dev} {c : Nat}

/-! ## The fill (R336, R375) -/

theorem dmaChan_congr {e : Dev} (h : e.dmaCh = d.dmaCh) (c : Nat) : dmaChan e c = dmaChan d c := by unfold dmaChan; rw [h]

theorem dmaChan_self (h : Sound d) (c : Nat) (x : DmaCh) : dmaChan (setDmaChan c x d) c = x :=
  (dmaChan_set d h.tabs.dmaCh c c x).trans (if_pos rfl)

theorem fillStart_begins (h : Sound d) (hboot : d.pwr.booted = true) (hserv : inService d c = true) (hfill : fillState d c ≠ 2)
    (hidle : chanIdle d c = true) (hroom : fillMark d c < chanCapacity d) : let e := fillStart c d
    fillState e c = 1 ∧ (dmaChan e c).run = some { d := fillDesc d c, fn := 257, sq := 0 } ∧ e.objs = d.objs := by
  have hstart : fillStart c d = setFld (Reg.wrdChanStat.at c) 0 2 1
      (setDmaChan c { dmaChan d c with run := some { d := fillDesc d c, fn := 257, sq := 0 } } d) :=
    if_pos (by simp [hboot, hserv, hfill, hidle, hroom])
  dsimp only
  rw [hstart]
  generalize hx : ({ dmaChan d c with run := some { d := fillDesc d c, fn := 257, sq := 0 } } : DmaCh) = x
  refine ⟨fld_setFld (setDmaChan c x d) h.regs.1 _ _ _ _ (by decide), ?_, by simp only [setFld_frame, setDmaChan_objs]⟩
  rw [dmaChan_congr (d := setDmaChan c x d) (by simp only [setFld_frame]), dmaChan_self h, ← hx]

theorem fillStart_not (h : inService d c = false ∨ fillState d c = 2) : fillStart c d = d := by
  refine if_neg fun hall => ?_
  simp only [Bool.and_eq_true, bne_iff_ne] at hall
  obtain ⟨⟨⟨⟨-, hserv⟩, hfill⟩, -⟩, -⟩ := hall
  rcases h with hout | hfull
  · rw [hout] at hserv; cases hserv
  · exact hfill hfull

theorem fillDone_moves {r : Running} (hrun : (dmaChan d c).run = some r) (hop : r.d.opcode = 7) (hended : r.ended = false) :
    fillDone c d =
      let m := fillMark d c + 1073741824
      let y := setDmaChan c { dmaChan d c with run := none, done := (dmaChan d c).done + 1 } (objSet 0x1811 c m d)
      regSet (Reg.wrdChanStat.at c) (setBits (setBits (regGet y (Reg.wrdChanStat.at c)) 0 2
        (if decide (chanCapacity d ≤ m) then 2 else 1)) 2 7 (min 100 (100 * m / max 1 (chanCapacity d)))) y := by
  unfold fillDone
  simp only [hrun]
  rw [if_neg (by simp [hop, hended])]

theorem fillDone_does (h : Sound d) {r : Running} (hrun : (dmaChan d c).run = some r) (hop : r.d.opcode = 7)
    (hended : r.ended = false) : let e := fillDone c d
    fillMark e c = fillMark d c + 1073741824 ∧ (dmaChan e c).run = none ∧
      fillState e c = if chanCapacity d ≤ fillMark d c + 1073741824 then 2 else 1 := by
  have hdone := fillDone_moves hrun hop hended
  dsimp only at hdone
  generalize fillMark d c + 1073741824 = m at hdone ⊢
  generalize hx : ({ dmaChan d c with run := none, done := (dmaChan d c).done + 1 } : DmaCh) = x at hdone
  generalize min 100 (100 * m / max 1 (chanCapacity d)) = pct at hdone
  have hset : Sound (objSet 0x1811 c m d) := (objSet_keeps (m := 4) rfl (.refl d)).sound h
  have hmark : fillMark (setDmaChan c x (objSet 0x1811 c m d)) c = m :=
    (objGet_congr (setDmaChan_objs ..) _ _).trans (objGet_set_self d h.objs.1 _ _ _)
  have hrunNone : (dmaChan (setDmaChan c x (objSet 0x1811 c m d)) c).run = none := by rw [dmaChan_self hset, ← hx]
  have hrise : Rising (setDmaChan c x (objSet 0x1811 c m d)).regs := by rw [setDmaChan_regs]; exact hset.regs.1
  generalize setDmaChan c x (objSet 0x1811 c m d) = y at hdone hmark hrunNone hrise
  dsimp only
  rw [hdone]
  refine ⟨?_, ?_, ?_⟩
  · exact (objGet_congr (d := _) (e := y) (by simp only [regSet_frame]) _ _).trans hmark
  · rw [dmaChan_congr (d := y) (by simp only [regSet_frame]), hrunNone]
  · unfold fillState fld
    rw [regGet_set _ hrise, if_pos rfl, bits_mod _ _ _ _ (by decide), bits_setBits_ne _ _ _ _ _ _ (by decide), bits_setBits]
    simp only [decide_eq_true_eq]
    split <;> rfl

/-! ## The scrubber (R339, R340) -/

/-- The last line of a lap: the scrubber is at line 0, its time is kept, and no channel changes state (R340). -/
theorem lapEnd_does (h : Sound d) : let e := lapEnd c d
    e.objs = d.objs ∧ chan e c = { chan d c with scrubLine := 0, scrubbing := false } ∧
      regGet e (Reg.wrdScrubLap.at c) = min ((d.tbs.ns - (chan d c).lapStart) / 1000000) 0xFFFFFFFF := by
  generalize hms : min ((d.tbs.ns - (chan d c).lapStart) / 1000000) 0xFFFFFFFF = ms
  generalize hd1 : regSet (Reg.wrdScrubLapHwm.at c) (max (regGet d (Reg.wrdScrubLapHwm.at c)) ms)
    (regSet (Reg.wrdScrubLap.at c) ms d) = d1
  generalize hd2 : setChan c { chan d1 c with scrubLine := 0, scrubbing := false } d1 = d2
  have hact : lapEnd c d = if objGet d 0x1813 0 < ms then pulse 9 0x0044 0 c 0 (setFld (Reg.wrdChanStat.at c) 10 1 1 d2) else d2 := by
    subst hd2 hd1 hms; rfl
  have hlap : Sound (regSet (Reg.wrdScrubLap.at c) ms d) := (regSet_keeps (m := 1) rfl (.refl d)).sound h
  have h1 : Sound d1 := by subst hd1; exact (regSet_keeps (m := 1) rfl (.refl _)).sound hlap
  have h2 : Sound d2 := by subst hd2; exact setChan_sound h1 _ _
  have hobjs : d2.objs = d.objs := by subst hd2 hd1; simp only [setChan_objs, regSet_frame]
  have hchan : chan d2 c = { chan d c with scrubLine := 0, scrubbing := false } := by
    rw [← hd2, chan_setChan_self h1, chan_congr (e := d1) (d := d) (by rw [← hd1]; simp only [regSet_frame])]
  have hreg : regGet d2 (Reg.wrdScrubLap.at c) = ms := by
    have hsame : regGet d2 (Reg.wrdScrubLap.at c) = regGet d1 (Reg.wrdScrubLap.at c) := by subst hd2; rfl
    rw [hsame, ← hd1, regGet_set _ hlap.regs.1, if_neg (by simp [Reg.at, Reg.base, Reg.stride]), regGet_set d h.regs.1, if_pos rfl]
    exact Nat.mod_eq_of_lt (Nat.lt_of_le_of_lt (hms ▸ Nat.min_le_right _ _) (by decide))
  dsimp only
  rw [hact]
  split
  · refine ⟨by simp only [pulse_frame, setFld_frame, hobjs], ?_, ?_⟩
    · rw [chan_congr (d := d2) (by simp only [pulse_frame, setFld_frame]), hchan]
    · rw [regGet_congr (pulse_frame ..).1, regGet_setFld_ne d2 h2.regs.1 _ _ _ _ _ (by simp [Reg.at, Reg.base, Reg.stride]), hreg]
  · exact ⟨hobjs, hchan, hreg⟩

/-- The controller once the scrubber has taken its next line (R339). -/
def scrubbed (c : Nat) (d : Dev) : Chan :=
  { chan d c with
    scrubbing := true, lastScrub := d.tbs.ns, scrubLine := (chan d c).scrubLine + 1,
    lapStart := if (chan d c).scrubbing then (chan d c).lapStart else d.tbs.ns }

/-- A corrected line counts; any line read leaves the channel's controller and the time (R335). -/
def afterLine (c line out : Nat) (d : Dev) : Dev := if out = 1 then clearFlip c line (countCorrected c d) else d

theorem afterLine_does (hc : isChan c = true) (h : Sound d) (line out : Nat) : let e := afterLine c line out d
    Sound e ∧ chanState e c = chanState d c ∧ e.chans = d.chans ∧ e.tbs = d.tbs ∧
      objGet e 0x5100 c = if out = 1 then (objGet d 0x5100 c + 1) % 2 ^ 64 else objGet d 0x5100 c := by
  have hlt : c < 256 := chan_lt hc
  unfold afterLine
  split
  · have hreg : Sound (regCount (Reg.dmcCorrCnt.at c) 1 d) := (regCount_keeps (m := 1) rfl (.refl d)).sound h
    have hcount : Sound (countCorrected c d) := (objCount_keeps (m := 4) rfl (.refl _)).sound hreg
    have hobjs : (regCount (Reg.dmcCorrCnt.at c) 1 d).objs = d.objs := by simp only [regCount_frame]
    have hst : chanState (countCorrected c d) c = chanState d c :=
      (objCount_get_ne _ hreg.objs.1 _ _ _ _ _ _ (objKey_ne (by decide) hlt hlt)).trans (objGet_congr hobjs _ _)
    have hcnt : objGet (countCorrected c d) 0x5100 c = (objGet d 0x5100 c + 1) % 2 ^ 64 := by
      unfold countCorrected
      rw [objCount_get _ hreg.objs.1, objGet_congr hobjs]
    have hchans : (countCorrected c d).chans = d.chans := by simp only [countCorrected, objCount_frame, regCount_frame]
    have htbs : (countCorrected c d).tbs = d.tbs := by simp only [countCorrected, objCount_frame, regCount_frame]
    generalize countCorrected c d = e at hcount hst hcnt hchans htbs
    exact ⟨(setWrd_keeps (m := 1073741824) rfl (.refl _)).sound hcount, hst, hchans, htbs, hcnt⟩
  · exact ⟨h, rfl, rfl, rfl, rfl⟩

/-- The record of a line that the scrubber reads with an error (R318). -/
def scrubFault (c out syn : Nat) (d : Dev) : FreezeRec :=
  { cause := out - 1, addr := (chan d c).scrubLine * 64, syndrome := syn, requester := 0x63, subch := (chan d c).scrubLine % 2 }

section
variable {said syn : Nat} (hscrubs : scrubs d c = true)
  (hpace : (chan d c).scrubbing = true → (chan d c).lastScrub + 64 ≤ d.tbs.ns)
include hscrubs hpace

/-- The scrubber reads a line when it runs and 64 ns have passed (R339). -/
theorem scrubRead_reads : scrubRead c said syn d =
    let out := lineOutcome d c (chan d c).scrubLine said
    let d1 := setChan c (scrubbed c d) d
    if 2 ≤ out then
      freezeChannel c (scrubFault c out syn d) d1
    else
      let d2 := afterLine c (chan d c).scrubLine out d1
      if fillMark d c ≤ ((chan d c).scrubLine + 1) * 64 then lapEnd c d2 else d2 := by
  refine if_neg ?_
  simp only [hscrubs, Bool.not_true, Bool.false_or, Bool.and_eq_true, decide_eq_true_eq, not_and, Nat.not_lt]
  exact hpace

/-- A line that is read or corrected: the channel stays in service, and the scrubber goes on or begins anew (R339, R340). -/
theorem scrubRead_goesOn (hc : isChan c = true) (h : Sound d) (hout : lineOutcome d c (chan d c).scrubLine said ≤ 1) :
    let x := chan d c
    let out := lineOutcome d c x.scrubLine said
    let last := fillMark d c ≤ (x.scrubLine + 1) * 64
    let e := scrubRead c said syn d
    chanState e c = chanState d c ∧ (chan e c).scrubLine = (if last then 0 else x.scrubLine + 1) ∧ (chan e c).lastScrub = d.tbs.ns ∧
      objGet e 0x5100 c = (if out = 1 then (objGet d 0x5100 c + 1) % 2 ^ 64 else objGet d 0x5100 c) ∧
      (last → x.scrubbing = true → regGet e (Reg.wrdScrubLap.at c) = min ((d.tbs.ns - x.lapStart) / 1000000) 0xFFFFFFFF) := by
  have h1 : Sound (setChan c (scrubbed c d) d) := setChan_sound h _ _
  obtain ⟨h2, hst, hchans, htbs, hcnt⟩ := afterLine_does hc h1 (chan d c).scrubLine (lineOutcome d c (chan d c).scrubLine said)
  dsimp only
  rw [scrubRead_reads hscrubs hpace]
  dsimp only
  rw [if_neg (by omega)]
  generalize hd2 : afterLine c (chan d c).scrubLine (lineOutcome d c (chan d c).scrubLine said) (setChan c (scrubbed c d) d) = d2
    at h2 hst hchans htbs hcnt
  have hchan : chan d2 c = scrubbed c d := (chan_congr hchans c).trans (chan_setChan_self h _ _)
  split
  · obtain ⟨hobjs, hlap, hms⟩ := lapEnd_does (c := c) h2
    refine ⟨(objGet_congr hobjs _ _).trans hst, ?_, ?_, (objGet_congr hobjs _ _).trans hcnt, fun _ hscrubbing => ?_⟩
    · rw [hlap]
    · rw [hlap, hchan]; rfl
    · rw [hms, hchan, htbs]
      simp only [scrubbed, hscrubbing, if_true]
      rfl
  · next hmore =>
    exact ⟨hst, by rw [hchan]; rfl, by rw [hchan]; rfl, hcnt, fun hlast => absurd hlast hmore⟩

/-- Any other error freezes the channel (R318, R339). -/
theorem scrubRead_freezes (hc : isChan c = true) (h : Sound d) (hout : 2 ≤ lineOutcome d c (chan d c).scrubLine said) :
    chanState (scrubRead c said syn d) c = 5 := by
  obtain ⟨-, hst, -⟩ := freezeChannel_does hc (setChan_sound h c (scrubbed c d))
    (scrubFault c (lineOutcome d c (chan d c).scrubLine said) syn d)
  rw [scrubRead_reads hscrubs hpace]
  dsimp only
  rw [if_pos hout]
  exact hst

end

theorem scrubRead_not (said syn : Nat) (h : scrubs d c = false) : scrubRead c said syn d = d := if_pos (by simp [h])

/-! ## Flips and resilvering (R343, R346) -/

theorem flipWrite_held (h : Sound d) {who : Caller} {k v : Nat} (herrs : flipErrs k v d = []) : let e := flipWrite who k v d
    regGet e (Reg.wrdFlipCtrl.at k) = v % 2 ^ 19 ∧ e.objs = d.objs ∧ e.wrd = d.wrd := by
  have hact : flipWrite who k v d = mend (Reg.wrdFlipCtrl.at k) (regSet (Reg.wrdFlipCtrl.at k) (v % 2 ^ 19) d) := by
    unfold flipWrite; rw [herrs]; rfl
  dsimp only
  rw [hact]
  refine ⟨?_, by simp only [mend_frame, regSet_frame], by simp only [mend_frame, regSet_frame]⟩
  rw [regGet_congr (mend_regs ..), regGet_set d h.regs.1, if_pos rfl]
  exact Nat.mod_eq_of_lt (Nat.lt_trans (Nat.mod_lt _ (by decide)) (by decide))

theorem resilverComplete_ends (h : Sound d) {p : Nat} (hst : pairState d p = 3) : let e := resilverComplete p d
    pairState e p = 0 ∧ bits (regGet e (Reg.wrdPairStat.at p)) 3 7 = 100 := by
  generalize hd1 : regSet (Reg.wrdPairStat.at p) (setBits (regGet d (Reg.wrdPairStat.at p)) 3 7 100) d = d1
  have h1 : Sound d1 := by subst hd1; exact (regSet_keeps (m := 1) rfl (.refl d)).sound h
  have hact : resilverComplete p d = powerSettle (setPairState p 0 {} d1).tbs.ns (setPairState p 0 {} d1) := by
    subst hd1; exact if_pos hst
  dsimp only
  rw [hact]
  refine ⟨?_, ?_⟩
  · rw [pairState, objGet_congr (powerSettle_objs ..)]
    exact objGet_set_self (setWrd { d1.wrd with pairs := tabPut {} d1.wrd.pairs p {} } d1) h1.objs.1 _ _ _
  · rw [regGet_congr (powerSettle_regs ..), regGet_congr (e := d1) (by simp only [setPairState, objSet_frame]; rfl), ← hd1,
      regGet_set d h.regs.1, if_pos rfl, bits_mod _ _ _ _ (by decide), bits_setBits]
    rfl

end
end Sys2Proof.Machine
open Sys2Proof.Machine

/-- Settles O43: each command by what it does on a sound block, with the freeze of a channel by what the DRAM lemmas say of it. -/
theorem wardrobeUpkeep : Obligations.WardrobeUpkeep := by
  unfold Obligations.WardrobeUpkeep
  refine ⟨fun s c now hawake hs hc => ?_, fun s who k v now hawake hs hk hopen herrs => ?_, fun s p now hawake hs hp => ?_⟩
  · have hsound : Sound (atTime now s.dev) := sound_atTime now hs
    refine ⟨fun hboot hserv hfill hidle hroom => ?_, fun hnot => ?_, fun r hrun hop hended => ?_, fun said syn hscrubs hpace => ?_,
      fun said syn hnot => ?_⟩
    · exact answers_actOn rfl hc hawake (fillStart_begins hsound hboot hserv hfill hidle hroom)
    · exact answers_actOn rfl hc hawake (fillStart_not hnot)
    · exact answers_actOn rfl hc hawake (fillDone_does hsound hrun hop hended)
    · refine ⟨fun hout => answers_actOn rfl hc hawake ?_, fun hout => answers_actOn rfl hc hawake
        (scrubRead_freezes hscrubs hpace hc hsound hout)⟩
      obtain ⟨hst, hrest⟩ := scrubRead_goesOn (syn := syn) hscrubs hpace hc hsound hout
      refine ⟨hst.trans ?_, hrest⟩
      simp only [scrubs, Bool.and_eq_true, beq_iff_eq] at hscrubs
      obtain ⟨⟨-, hserving⟩, -⟩ := hscrubs
      exact hserving
    · exact answers_actOn rfl hc hawake (scrubRead_not said syn hnot)
  · refine answers_actOn rfl (decide_eq_true hk) hawake ?_
    rw [regGate_open (by rwa [regOpen_atTime])]
    obtain ⟨hreg, hobjs, hwrd⟩ := flipWrite_held (who := who) (sound_atTime now hs) herrs
    exact ⟨hreg, hobjs.trans (atTime_frame ..).2.2.1, hwrd.trans (by simp only [atTime_frame])⟩
  · have hstate : pairState (atTime now s.dev) p = pairState s.dev p := objGet_congr (by simp only [atTime_frame]) _ _
    exact ⟨fun hst => answers_actOn rfl (decide_eq_true hp) hawake (resilverComplete_ends (sound_atTime now hs) (hstate.trans hst)),
      fun hst => answers_actOn rfl (decide_eq_true hp) hawake (if_neg (hstate ▸ hst))⟩

end

section
/-! PROOFS. What a channel that stops, and the doorbells presented after it, leave: the control registers of the channels, the other
channels, and what a descriptor's checks see (R372, R376, R378, R391). -/
set_option autoImplicit false
namespace Sys2Proof.Machine

section
variable {d e f : Dev} {m : Nat}

/-! ## The control registers of the channels -/

/-- The control registers of the 64 channels stay. -/
structure CtrlKept (d e : Dev) : Prop where
  regs : Rising d.regs → Rising e.regs ∧ ∀ c < 64, regGet e (Reg.dmaChCtrl.at c) = regGet d (Reg.dmaChCtrl.at c)

theorem CtrlKept.of (h : e.regs = d.regs) : CtrlKept d e where
  regs hd := ⟨h ▸ hd, fun _ _ => regGet_congr h _⟩

theorem CtrlKept.ofKeeps (h : Keeps m d e) (hm : m.testBit 0 = false) : CtrlKept d e := .of (h.only .regs hm).symm

theorem CtrlKept.refl (d : Dev) : CtrlKept d d := .of rfl

theorem CtrlKept.trans (h : CtrlKept d e) (h' : CtrlKept e f) : CtrlKept d f where
  regs hd := by
    obtain ⟨he, hsame⟩ := h.regs hd
    obtain ⟨hf, hsame'⟩ := h'.regs he
    exact ⟨hf, fun c hc => (hsame' c hc).trans (hsame c hc)⟩

theorem CtrlKept.each {α : Type} {g : α → Dev → Dev} (h : ∀ a d, CtrlKept d (g a d)) : ∀ (l : List α) (d : Dev), CtrlKept d (forEach l g d)
  | [], d => .refl d
  | a :: l, d => (h a d).trans (CtrlKept.each h l (g a d))

theorem CtrlKept.regSet {k : Nat} (hk : k < 0x28100 ∨ 0x28200 ≤ k) (v : Nat) (d : Dev) : CtrlKept d (regSet k v d) where
  regs hd := ⟨regSet_rising hd k v, fun c hc => by
    rw [regGet_set d hd, if_neg]
    simp only [Reg.at, Reg.base, Reg.stride]
    omega⟩

theorem CtrlKept.ofMoved (h : Moved d e) : CtrlKept d e where
  regs hd := by
    obtain ⟨he, hsame⟩ := h.regs hd
    refine ⟨he, fun c hc => hsame _ ?_⟩
    simp only [Reg.at, Reg.base, Reg.stride]
    omega

/-! ## What a descriptor moves -/

theorem CtrlKept.storeBlock (b : Block) (off n v : Nat) (d : Dev) : CtrlKept d (storeBlock b off n v d) := by
  have hflip : ∀ c lo d, CtrlKept d (takeFlip 0 c lo d) := fun c lo d => by
    unfold takeFlip
    dsimp only
    split
    · exact (CtrlKept.regSet (.inr (by decide)) _ d).trans (.of rfl)
    · exact .refl d
  have hlines : ∀ d, CtrlKept d (linesWritten b off n d) := fun d => by
    unfold linesWritten
    dsimp only
    split
    · exact .refl d
    · exact CtrlKept.trans (.of (by rfl)) (.each (fun c d => hflip c _ d) _ _)
  exact (CtrlKept.ofKeeps (memWrite_keeps (m := 2147483648) rfl (.refl d)) rfl).trans (hlines _)

theorem CtrlKept.moveIn (r : Running) (x : Xfer) (lim : Nat) (d : Dev) : CtrlKept d (moveIn r x lim d).1 := by
  unfold Machine.moveIn
  dsimp only
  split
  · exact .storeBlock _ _ _ _ d
  · exact .each (fun w d => .storeBlock _ _ _ _ d) _ d

theorem CtrlKept.moveSome (r : Running) (x : Xfer) (lim : Nat) (d : Dev) : CtrlKept d (moveSome r x lim d).1 := by
  unfold Machine.moveSome
  split
  · exact .moveIn r x lim d
  · exact .ofKeeps (moveOut_keeps (m := 16) rfl (.refl d)) rfl
  · exact .ofKeeps (moveIntake_keeps (m := 134217728) rfl (.refl d)) rfl
  · exact .ofKeeps (moveExport_keeps (m := 20) rfl (.refl d)) rfl
  · exact .ofKeeps (moveFeed_keeps (m := 134217728) rfl (.refl d)) rfl
  · exact .storeBlock _ _ _ _ d
  · exact .refl d
  · exact .refl d

/-! ## Doorbells, and the early start that they bring (R75, R95, R105, R196) -/

theorem CtrlKept.crossing (s : Nat) (held : Bool) (d : Dev) : CtrlKept d (crossing s held d) := by
  have hhold : ∀ d, CtrlKept d (holdUpdate d) := fun d =>
    CtrlKept.trans (e := Machine.regSet Reg.dmaHoldStatus.base _ d) (.regSet (.inl (by decide)) _ d) (.of rfl)
  exact CtrlKept.trans (.ofKeeps (raise_keeps (m := 134224148) rfl (postTenant_keeps (by rfl) (objCount_keeps (by rfl)
    (setSess_keeps (by rfl) (.refl d))))) rfl) (hhold _)

theorem CtrlKept.waterTest (s : Nat) (d : Dev) : CtrlKept d (waterTest s d) := by
  unfold Machine.waterTest
  dsimp only
  have hmax : CtrlKept d (objMax 0x5020 s (intakeDepth d s) d) := .ofKeeps (objMax_keeps (m := 4) rfl (.refl d)) rfl
  split
  · exact hmax.trans (.crossing ..)
  · split
    · exact hmax.trans (.crossing ..)
    · exact hmax

theorem CtrlKept.doorbellAccept (w : Nat) (d : Dev) : CtrlKept d (doorbellAccept w d) := by
  have hstream : ∀ sid g d, CtrlKept d (updStream sid g d) := fun _ _ _ => .of rfl
  unfold Machine.doorbellAccept
  extract_lets s b g x d1 band d2 d3 cls d4
  have h1 : CtrlKept d d1 := by
    unfold d1
    split
    · exact .refl d
    · exact .of rfl
  have h3 : CtrlKept d2 d3 := by
    unfold d3
    split
    · exact .ofKeeps (copyRoi_keeps (m := 4294967300) rfl (.refl d2)) rfl
    · exact .refl d2
  split
  · exact .ofKeeps (objCount_keeps (m := 4) rfl (.refl d)) rfl
  · exact ((h1.trans (hstream ..)).trans (h3.trans (hstream ..))).trans (.waterTest s d4)

theorem CtrlKept.sendMirror (x : MirrorMsg) (d : Dev) : CtrlKept d (sendMirror x d) := by
  have henter : ∀ p c k d, CtrlKept d (enterClass p c k d) := fun p c k d => .ofMoved (.enterClass p c k d)
  have hfirst : ∀ p c k d, CtrlKept d (enterFirst p c k d) := fun p c k d => by
    unfold enterFirst
    dsimp only
    split
    · exact henter p c k d
    · exact (henter p c k d).trans (.of rfl)
  unfold Machine.sendMirror
  dsimp only
  split
  · exact .refl d
  · split
    · exact CtrlKept.trans (.of (by rfl)) (hfirst ..)
    · exact CtrlKept.trans (.of (by rfl)) (henter ..)

theorem CtrlKept.sendSeq (s : Nat) (x : MirrorMsg) (d : Dev) : CtrlKept d (sendSeq s x d) := by
  unfold Machine.sendSeq
  split
  · exact .refl d
  · exact CtrlKept.trans (.of (by rfl)) (.sendMirror _ _)

theorem CtrlKept.tellChanges (s : Nat) (d : Dev) : CtrlKept d (tellChanges s d) := by
  unfold Machine.tellChanges
  dsimp only
  split
  · exact .refl d
  · exact CtrlKept.trans (.of (by rfl)) (.sendSeq _ _ _)

theorem CtrlKept.startFrame (sid n : Nat) (d : Dev) : CtrlKept d (startFrame sid n d) := by
  unfold Machine.startFrame
  dsimp only
  split
  · exact .ofKeeps (startMezz_keeps (m := 4294967296) rfl (.refl d)) rfl
  · split
    · have hend : CtrlKept d (endSplice (slotOf sid) d) := .ofKeeps (endSplice_keeps (m := 134224148) rfl (.refl d)) rfl
      have hdrop : ∀ s d, CtrlKept d (dropUnstarted s d) := fun s d =>
        CtrlKept.trans (.ofKeeps (objCount_keeps (m := 4294967300) rfl (setStream_keeps (by rfl) (.refl d))) rfl) (.waterTest s _)
      exact (hend.trans (hdrop _ _)).trans (CtrlKept.trans (.of (by rfl)) (.sendSeq _ _ _))
    · exact .ofKeeps (ringSync_keeps (m := 7650410500) rfl (startLive_keeps (by rfl) (.refl d))) rfl

theorem CtrlKept.earlyJob (n : Nat) (snap : Band → Bool) (j : Job) (d : Dev) : CtrlKept d (earlyJob n snap j d) := by
  unfold Machine.earlyJob
  extract_lets waits d1 d2 tm
  have h1 : CtrlKept d d1 := by
    unfold d1
    split
    · exact .ofKeeps (planBand_keeps (m := 21609054212) rfl (.refl d)) rfl
    · exact .refl d
  have h2 : CtrlKept d1 d2 := by
    unfold d2
    split
    · exact .startFrame ..
    · exact .refl d1
  split
  · exact .refl d
  · split
    · exact h1
    · split
      · split
        · exact (h1.trans h2).trans (.ofKeeps (placeCurrent_keeps (m := 12884901892) rfl (.refl d2)) rfl)
        · exact h1
      · exact h1

theorem CtrlKept.earlyStart (d : Dev) : CtrlKept d (earlyStart d) := by
  unfold Machine.earlyStart
  dsimp only
  split
  · split
    · exact .refl d
    · exact (CtrlKept.each (fun j d => .earlyJob _ _ j d) _ d).trans (.each (fun s d => .tellChanges s d) _ _)
  · exact .refl d

/-! ## Channels whose operation stands (R378) -/

theorem tabFind_of_mem {α : Type} {k : Nat} {v : α} : ∀ {t : Tab α}, Rising t → (k, v) ∈ t → tabFind t k = some v
  | (j, w) :: t, h, hmem => by
    obtain ⟨hhead, htail⟩ := List.pairwise_cons.1 h
    rw [tabFind]
    rcases List.mem_cons.1 hmem with heq | hmem'
    · cases heq
      rw [if_pos rfl]
    · have hlt : j < k := hhead _ hmem'
      rw [if_neg (by omega), if_neg (by omega), tabFind_of_mem htail hmem']

theorem tabGet_of_mem {α : Type} {k : Nat} {v dflt : α} {t : Tab α} (h : Rising t) (hmem : (k, v) ∈ t) : tabGet dflt t k = v := by
  unfold tabGet
  rw [tabFind_of_mem h hmem]
  rfl

/-- No doorbell of the channel waits to be presented. -/
def Quiet (d : Dev) (c : Nat) : Prop := ∀ r, (dmaChan d c).run = some r → r.doorbell = true → r.ended = true

/-- A doorbell presented on one channel leaves the others, and the control registers. -/
theorem presentDoorbell_does (h : Rising d.dmaCh) (c : Nat) (r : Running) : let e := presentDoorbell c r d
    Rising e.dmaCh ∧ CtrlKept d e ∧ ∀ j ≠ c, dmaChan e j = dmaChan d j := by
  have hend : ∀ x n b {e : Dev}, e.dmaCh = d.dmaCh → CtrlKept d e → Rising (endRun c r x n b e).dmaCh ∧
      CtrlKept d (endRun c r x n b e) ∧ ∀ j ≠ c, dmaChan (endRun c r x n b e) j = dmaChan d j := fun x n b e he hctrl => by
    have hput : ∀ y, Rising (setDmaChan c y e).dmaCh := fun y => rising_put (by rw [he]; exact h)
    refine ⟨hput _, hctrl.trans (.of rfl), fun j hj => ?_⟩
    unfold endRun
    rw [dmaChan_set e (he ▸ h), if_neg hj, dmaChan_congr he]
  dsimp only
  unfold presentDoorbell
  split
  · next x _ =>
    refine hend x 0 r.bytes ((doorbellReject_keeps (m := 5) rfl (.refl d)).only .dmaCh rfl).symm ?_
    have hwrite : CtrlKept d (Machine.regSet (Reg.vfDbLastErr.vfAt r.fn 0)
        (x.code + bits r.d.db 0 8 * 2 ^ 8 + bits r.d.db 8 7 * 2 ^ 16 + bits r.d.db 16 8 * 2 ^ 23) d) :=
      .regSet (.inr (by simp [Reg.vfAt, vfKey]; omega)) _ d
    unfold doorbellReject
    dsimp only
    split
    · exact hwrite.trans (.ofKeeps (objCount_keeps (m := 4) rfl (.refl _)) rfl)
    · exact hwrite.trans (.ofKeeps (objCount_keeps (m := 4) rfl (.refl _)) rfl)
  · refine hend .ok 0 r.bytes ?_ ((CtrlKept.doorbellAccept _ d).trans (.earlyStart _))
    rw [← (earlyStart_keeps (m := 342724974869) rfl (.refl _)).only .dmaCh rfl,
      ← (doorbellAccept_keeps (m := 38788929813) rfl (.refl d)).only .dmaCh rfl]

/-- The doorbells presented leave a channel that has none waiting, and every control register (R378). -/
theorem presentDoorbells_does {c : Nat} (n : Nat) (h : Rising d.dmaCh) (hquiet : Quiet d c) : let e := presentDoorbells n d
    CtrlKept d e ∧ dmaChan e c = dmaChan d c := by
  induction n generalizing d with
  | zero => exact ⟨.refl d, rfl⟩
  | succ n ih =>
    dsimp only
    unfold presentDoorbells
    split
    · exact ⟨.refl d, rfl⟩
    · next k ch hfind =>
      split
      · exact ⟨.refl d, rfl⟩
      · next r hrun =>
        have hwaits := List.find?_some hfind
        simp only [hrun, Bool.and_eq_true, Bool.not_eq_true'] at hwaits
        obtain ⟨⟨hbell, hends⟩, -⟩ := hwaits
        have hchan : dmaChan d k = ch := tabGet_of_mem h (List.mem_of_find?_eq_some hfind)
        have hne : c ≠ k := by
          rintro rfl
          rw [hquiet r (by rw [hchan, hrun]) hbell] at hends
          cases hends
        obtain ⟨hrise, hctrl, hothers⟩ := presentDoorbell_does h k r
        have hsame := hothers c hne
        obtain ⟨hctrl', hchan'⟩ := ih hrise (fun x hx => hquiet x (hsame ▸ hx))
        exact ⟨hctrl.trans hctrl', hchan'.trans hsame⟩

/-! ## What the checks of a descriptor see (R376) -/

/-- The block differs in registers, reports, parity marks and free values alone, and intake is accepted as before. -/
def SameWork (d e : Dev) : Prop :=
  intakeOn e = intakeOn d ∧ ∃ regs flt bad ctr, e = { d with regs := regs, flt := flt, parityBad := bad, freeCtr := ctr }

theorem SameWork.trans (h : SameWork d e) (h' : SameWork e f) : SameWork d f := by
  obtain ⟨hin, r, t, b, k, rfl⟩ := h
  obtain ⟨hin', r', t', b', k', rfl⟩ := h'
  exact ⟨hin'.trans hin, r', t', b', k', rfl⟩

theorem SameWork.freeCtr (k : Nat) (d : Dev) : SameWork d { d with freeCtr := k } := ⟨rfl, d.regs, d.flt, d.parityBad, k, rfl⟩

theorem SameWork.regSet (h : Rising d.regs) {k : Nat} (hk : k ≠ Reg.dmaIntakeCtrl.base) (v : Nat) : SameWork d (regSet k v d) := by
  refine ⟨?_, (Machine.regSet k v d).regs, d.flt, d.parityBad, d.freeCtr, ?_⟩
  · unfold intakeOn fld
    rw [regGet_set d h, if_neg hk.symm]
    simp only [regSet_frame]
  · unfold Machine.regSet
    split <;> rfl

theorem SameWork.disarmFlip (h : Rising d.regs) {cls : Nat} (unit : Nat) : SameWork d (disarmFlip cls unit d) := by
  unfold Machine.disarmFlip
  split
  · exact .regSet h (by simp only [Reg.at, Reg.base, Reg.stride]; omega) _
  · exact ⟨rfl, d.regs, d.flt, d.parityBad, d.freeCtr, rfl⟩

theorem SameWork.pulse (src code sev subject info : Nat) (d : Dev) : SameWork d (pulse src code sev subject info d) := by
  refine ⟨?_, ?_⟩
  · unfold Machine.pulse report
    split
    · split <;> rfl
    · split <;> rfl
  · obtain ⟨flt, hflt⟩ := pulse_form src code sev subject info d
    exact ⟨d.regs, flt, d.parityBad, d.freeCtr, hflt⟩

theorem SameWork.mend (k : Nat) (d : Dev) : SameWork d (mend k d) := by
  unfold Machine.mend
  split
  · exact ⟨rfl, d.regs, _, _, d.freeCtr, rfl⟩
  · exact ⟨rfl, d.regs, d.flt, d.parityBad, d.freeCtr, rfl⟩

theorem SameWork.chan (h : SameWork d e) (c : Nat) : dmaChan e c = dmaChan d c := by
  obtain ⟨-, r, t, b, k, rfl⟩ := h
  rfl

theorem SameWork.errs (h : SameWork d e) (r : Running) (x : Xfer) (tagOk : Bool) : descErrs e r x tagOk = descErrs d r x tagOk := by
  have hstate : stateOk e r.fn r.d x = stateOk d r.fn r.d x := by
    obtain ⟨hin, regs, flt, bad, ctr, rfl⟩ := h
    unfold stateOk
    rw [hin]
    rfl
  unfold descErrs
  rw [hstate]
  obtain ⟨-, regs, flt, bad, ctr, rfl⟩ := h
  rfl

theorem SameWork.moved (h : SameWork d e) (r : Running) (x : Xfer) (lim : Nat) : (moveSome r x lim e).2 = (moveSome r x lim d).2 := by
  obtain ⟨-, regs, flt, bad, ctr, rfl⟩ := h
  unfold moveSome
  split
  · unfold moveIn
    dsimp only
    split <;> rfl
  · unfold moveOut
    dsimp only
    split <;> rfl
  all_goals rfl

/-- But for a segment upload, the checks of a descriptor that is not cut short see nothing of the transfer (R376). -/
theorem descErrs_xfer {r : Running} {x y : Xfer} (h : r.d.opcode ≠ 6) (hstop : x.stop = y.stop) (tagOk : Bool) (d : Dev) :
    descErrs d r x tagOk = descErrs d r y tagOk := by
  have htarget : targetOk d r.fn r.d x = targetOk d r.fn r.d y := by
    unfold targetOk
    split
    case h_6 h6 => exact absurd h6 h
    all_goals rfl
  have hlength : lengthOk d r.d x = lengthOk d r.d y := by
    unfold lengthOk
    split
    case h_6 h6 => exact absurd h6 h
    all_goals rfl
  have hstate : stateOk d r.fn r.d x = stateOk d r.fn r.d y := by
    unfold stateOk
    rw [hstop]
  unfold descErrs
  rw [htarget, hlength, hstate, hstop]

/-! ## A channel that stops (R372, R391) -/

theorem stopWith_idle {c : Nat} (h : (dmaChan d c).run = none) (outcome : Nat) (x : Xfer) : stopWith c outcome x d = d := by
  unfold stopWith; dsimp only; rw [h]

/-- A descriptor that ends with OK, an outcome and the bytes moved (R376). -/
def stopped (r : Running) (outcome bytes : Nat) : Running :=
  { r with ended := true, status := .ok, outcome := outcome, bytes := bytes, doorbell := false }

/-- The descriptor of a channel that stops ends with the outcome and the bytes moved (R372, R391). -/
theorem stopWith_ends {c outcome : Nat} {x : Xfer} {r : Running} (h : Rising d.dmaCh) (hrun : (dmaChan d c).run = some r)
    (hended : r.ended = false) (hbell : r.doorbell = false) (herrs : r.d.opcode = 7 ∨ descErrs d r x true = []) :
    let e := stopWith c outcome x d
    (dmaChan e c).run = some (stopped r outcome (moveSome r x x.bytes d).2) ∧ (outcome = 1 → (dmaChan e c).stopped = true) ∧ Rising e.dmaCh ∧ CtrlKept d e := by
  have hchecks : (if r.d.opcode = 7 then [] else descErrs d r x true) = [] := by
    rcases herrs with h7 | hnone
    · rw [if_pos h7]
    · rw [hnone, ite_self]
  generalize hm : moveSome r x x.bytes d = m
  have hmoved : m.1.dmaCh = d.dmaCh := hm ▸ ((moveSome_keeps (m := 3355443221) rfl (.refl d)).only .dmaCh rfl).symm
  have hctrl : CtrlKept d m.1 := hm ▸ .moveSome r x x.bytes d
  generalize hy : ({ dmaChan m.1 c with run := some (stopped r outcome m.2) } : DmaCh) = y
  have hrise : Rising (setDmaChan c y m.1).dmaCh := rising_put (by rw [hmoved]; exact h)
  have hchan : dmaChan (setDmaChan c y m.1) c = y := by rw [dmaChan_set _ (by rw [hmoved]; exact h), if_pos rfl]
  have hact : stopWith c outcome x d = if outcome = 1 then
      setDmaChan c { dmaChan (setDmaChan c y m.1) c with stopped := true } (setDmaChan c y m.1) else setDmaChan c y m.1 := by
    unfold stopWith
    simp only [hrun, hended, hbell, hchecks, hm, Bool.false_eq_true, if_false]
    subst hy
    rfl
  have hrun' : y.run = some (stopped r outcome m.2) := by rw [← hy]
  dsimp only
  rw [hact]
  split
  · rw [hchan, dmaChan_set _ hrise, if_pos rfl]
    exact ⟨hrun', fun _ => rfl, rising_put hrise, hctrl.trans (.of rfl)⟩
  · next hother =>
    rw [hchan]
    exact ⟨hrun', fun h1 => absurd h1 hother, hrise, hctrl.trans (.of rfl)⟩

end
end Sys2Proof.Machine
end

section
/-! PROOFS. A disabled channel, and errors of the internal FIFOs (R365, R372, R387, R390, R391). -/
set_option autoImplicit false
namespace Sys2Proof.Machine

section
variable {d e : Dev} {c : Nat}

/-! ## A channel stops, and doorbells are presented -/

/-- A channel stops with an outcome, and the doorbells that then wait for none are presented (R372, R378, R391). -/
def haltChannel (c outcome : Nat) (x : Xfer) (d : Dev) : Dev := presentDoorbells 64 (stopWith c outcome x d)

theorem haltChannel_idle (h : Rising d.dmaCh) (hrun : (dmaChan d c).run = none) (outcome : Nat) (x : Xfer) :
    let e := haltChannel c outcome x d
    CtrlKept d e ∧ (dmaChan e c).run = none := by
  have hquiet : Quiet d c := fun r hr => by rw [hrun] at hr; cases hr
  obtain ⟨hctrl, hchan⟩ := presentDoorbells_does 64 h hquiet
  dsimp only
  unfold haltChannel
  rw [stopWith_idle hrun, hchan]
  exact ⟨hctrl, hrun⟩

theorem haltChannel_ends {outcome : Nat} {x : Xfer} {r : Running} (h : Rising d.dmaCh) (hrun : (dmaChan d c).run = some r)
    (hended : r.ended = false) (hbell : r.doorbell = false) (herrs : r.d.opcode = 7 ∨ descErrs d r x true = []) :
    let e := haltChannel c outcome x d
    CtrlKept d e ∧ (dmaChan e c).run = some (stopped r outcome (moveSome r x x.bytes d).2) ∧
      (outcome = 1 → (dmaChan e c).stopped = true) := by
  obtain ⟨hstop, hmark, hrise, hctrl⟩ := stopWith_ends (outcome := outcome) h hrun hended hbell herrs
  have hquiet : Quiet (stopWith c outcome x d) c := fun r' hr' _ => by
    rw [hstop] at hr'
    cases hr'
    rfl
  obtain ⟨hctrl', hchan⟩ := presentDoorbells_does 64 hrise hquiet
  dsimp only
  unfold haltChannel
  rw [hchan]
  exact ⟨hctrl.trans hctrl', hstop, hmark⟩

/-! ## CHANNEL_DISABLE (R365, R372) -/

/-- The device once the enable bit of a channel is cleared. -/
def disabled (c : Nat) (d : Dev) : Dev := mend (Reg.dmaChCtrl.at c) (setFld (Reg.dmaChCtrl.at c) 0 1 0 d)

theorem channelDisable_taken {who : Caller} (h : 24 ≤ c ∨ who = .firmware) (x : Xfer) (d : Dev) :
    channelDisable who c x d = haltChannel c 1 x (disabled c d) := by
  refine if_neg ?_
  rcases h with hc | hwho
  · simp [show ¬ c < 24 by omega]
  · simp [hwho]

theorem disabled_does (h : Sound d) (c : Nat) : let e := disabled c d
    SameWork d e ∧ Rising e.regs ∧ Rising e.dmaCh ∧ bit (regGet e (Reg.dmaChCtrl.at c)) 0 = false := by
  have hkey : Reg.dmaChCtrl.at c ≠ Reg.dmaIntakeCtrl.base := by
    simp only [Reg.at, Reg.base, Reg.stride]
    omega
  have hregs : (disabled c d).regs = (setFld (Reg.dmaChCtrl.at c) 0 1 0 d).regs := mend_regs _ _
  have hsame : SameWork d (disabled c d) := (SameWork.regSet h.regs.1 hkey _).trans (.mend _ _)
  refine ⟨hsame, hregs ▸ regSet_rising h.regs.1 _ _, ?_, ?_⟩
  · obtain ⟨-, r, t, b, k, hform⟩ := hsame
    rw [hform]
    exact h.tabs.dmaCh
  · have hfld : fld (setFld (Reg.dmaChCtrl.at c) 0 1 0 d) (Reg.dmaChCtrl.at c) 0 1 = 0 := fld_setFld d h.regs.1 _ 0 1 0 (by decide)
    rw [regGet_congr hregs]
    unfold fld bits at hfld
    unfold bit
    simp only [Nat.pow_one] at hfld
    simp only [hfld]
    decide

/-- A channel that is disabled keeps EN clear while its descriptor stops. -/
theorem disabled_stays (h : Sound d) (hc : c < 64) (hctrl : CtrlKept (disabled c d) e) :
    bit (regGet e (Reg.dmaChCtrl.at c)) 0 = false := by
  obtain ⟨-, hregs, -, hbit⟩ := disabled_does h c
  rw [(hctrl.regs hregs).2 c hc, hbit]

theorem channelDisable_idle {who : Caller} (h : Sound d) (hc : c < 64) (hwho : 24 ≤ c ∨ who = .firmware) (x : Xfer)
    (hrun : (dmaChan d c).run = none) : let e := channelDisable who c x d
    bit (regGet e (Reg.dmaChCtrl.at c)) 0 = false ∧ (dmaChan e c).run = none := by
  obtain ⟨hsame, -, hrise, -⟩ := disabled_does h c
  obtain ⟨hctrl, hnone⟩ := haltChannel_idle hrise (by rw [hsame.chan, hrun]) 1 x
  dsimp only
  rw [channelDisable_taken hwho]
  exact ⟨disabled_stays h hc hctrl, hnone⟩

theorem channelDisable_stops {who : Caller} {x : Xfer} {r : Running} (h : Sound d) (hc : c < 64) (hwho : 24 ≤ c ∨ who = .firmware)
    (hrun : (dmaChan d c).run = some r) (hended : r.ended = false) (hbell : r.doorbell = false) (herrs : descErrs d r x true = []) :
    let e := channelDisable who c x d
    bit (regGet e (Reg.dmaChCtrl.at c)) 0 = false ∧ (dmaChan e c).stopped = true ∧
      (dmaChan e c).run = some (stopped r 1 (moveSome r x x.bytes d).2) := by
  obtain ⟨hsame, -, hrise, -⟩ := disabled_does h c
  obtain ⟨hctrl, hstop, hmark⟩ := haltChannel_ends (outcome := 1) hrise (by rw [hsame.chan, hrun]) hended hbell
    (.inr (by rw [hsame.errs, herrs]))
  dsimp only
  rw [channelDisable_taken hwho]
  exact ⟨disabled_stays h hc hctrl, hmark rfl, by rw [hstop, hsame.moved]⟩

/-- Only the management controller disables channels 0 to 23 (R365). -/
theorem channelDisable_denied {who : Caller} (hc : c < 24) (hwho : who ≠ .firmware) (key : Nat) (x : Xfer) (d : Dev) :
    (regGate who key false (channelDisable who c x) d).dmaCh = d.dmaCh := by
  have hdrop : ∀ key e, (regDrop who key e d).dmaCh = d.dmaCh := fun key e => by simp only [regDrop_frame]
  rcases regGate_cases who key false (channelDisable who c x) d with hsame | ⟨e, hdropped⟩ | hcounts
  · rw [hsame]
  · rw [hdropped, hdrop]
  · rw [hcounts, channelDisable, if_pos (by simp [hc, hwho]), hdrop]

/-! ## Errors of the FIFOs (R387, R390, R391) -/

theorem fifoCorrected_does (h : Sound d) (home : FifoHome) (fifo : Nat) : let e := fifoCorrected home fifo d
    e.dmaCh = d.dmaCh ∧ pairGet e Reg.dmaFifoCorrHi.base Reg.dmaFifoCorrLo.base =
      min (2 ^ 64 - 1) (pairGet d Reg.dmaFifoCorrHi.base Reg.dmaFifoCorrLo.base + 1) := by
  have hcount := satAdd_split 64 (pairGet d Reg.dmaFifoCorrHi.base Reg.dmaFifoCorrLo.base) 1
  have hpulse : ∀ v, pairGet (pulse (homeSource home) 0x0033 0 fifo 0 v) Reg.dmaFifoCorrHi.base Reg.dmaFifoCorrLo.base =
      pairGet v Reg.dmaFifoCorrHi.base Reg.dmaFifoCorrLo.base := fun v => by simp only [pairGet, regGet_pulse]
  refine ⟨((fifoCorrected_keeps (m := 129) rfl (.refl d)).only .dmaCh rfl).symm, ?_⟩
  unfold fifoCorrected
  dsimp only
  rw [hpulse, pairGet_set _ _ _ _ (disarmFlip_sound h 3 0) (by decide), hcount, satAdd]

/-- A word lost in a tile's FIFO contains the tile (R391). -/
theorem fifoLost_tile (h : Sound d) {t : Nat} (hon : (tile d t).on = true) (hgone : (tile d t).gone = false) (fifo : Nat) :
    (tile (fifoLost (.tile t) fifo d) t).contained = true := by
  have hview : tile (disarmFlip 3 0 d) t = tile d t := tile_congr (disarmFlip_tiles 3 0 d) t
  exact containAs_flags _ _ _ _ _ (disarmFlip_sound h 3 0).tabs.tiles (by rw [hview]; exact hon) (by rw [hview]; exact hgone)

/-- A word lost elsewhere brings a warm reset of kind 5 (R391). -/
theorem fifoLost_other (src : Nat) (hno : d.pwr.resetAt = none) (fifo : Nat) : let e := fifoLost (.other src) fifo d
    e.pwr.cause = 5 ∧ e.pwr.causeSrc = src ∧ e.pwr.resetAt = some d.tbs.ns := by
  obtain ⟨hcause, hsrc, -, -, hat, -⟩ := warmReset_does 5 src (pulse src 0x0034 3 fifo 0 (disarmFlip 3 0 d))
    (by simpa only [pulse_frame, disarmFlip_pwr] using hno)
  exact ⟨hcause, hsrc, hat.trans (by simp only [pulse_frame, disarmFlip_tbs])⟩

/-- A command on a unit that exists acts at its instant. -/
theorem answers_actOnAt {i : Instr} {s : State} {P : Dev → Prop} {f : Dev → Dev} {now : Nat} {unit : Bool}
    (he : exec i s = actOn unit (fun d => f (atTime now d)) s) (hunit : unit = true) (hawake : isHeld s.dev = false)
    (hp : P (f (atTime now s.dev))) : Answers i s P := answers_actOn he hunit hawake hp

/-! ### A queue group is reset (R387) -/

theorem groupOf_self {fn q : Nat} (hq : (queuesOf fn).contains (32 * fn + q) = true) :
    32 * fn + q ∈ groupOf (32 * fn + q) := by
  have hmem := List.contains_iff_mem.1 hq
  unfold queuesOf at hmem
  unfold groupOf
  split at hmem
  · next hpf =>
    obtain ⟨i, hi, heq⟩ := List.mem_map.1 hmem
    have hlt := List.mem_range.1 hi
    simp only [pfFn] at hpf heq
    split
    · next hkind =>
      simp only [isSq, isCq, Bool.or_eq_true, Bool.and_eq_true, decide_eq_true_eq] at hkind
      rw [if_pos (by simp only [pfFn]; omega)]
      simp only [pfFn, List.mem_cons, List.not_mem_nil, or_false]
      omega
    · exact List.mem_singleton_self _
  · next hvf =>
    simp only [sqKey, cqKey, eqKey, List.mem_cons, List.not_mem_nil, or_false] at hmem
    simp only [pfFn] at hvf
    split
    · next hkind =>
      simp only [isSq, isCq, Bool.or_eq_true, Bool.and_eq_true, decide_eq_true_eq] at hkind
      rw [if_neg (by simp only [pfFn]; omega)]
      simp only [sqKey, cqKey, List.mem_cons, List.not_mem_nil, or_false]
      omega
    · exact List.mem_singleton_self _

theorem writeEvent_on (h : Rising d.rings) (fn ty kind code subject detail k : Nat) :
    Rising (writeEvent fn ty kind code subject detail d).rings ∧
      (ring (writeEvent fn ty kind code subject detail d) k).on = (ring d k).on := by
  refine ⟨rising_put h, ?_⟩
  unfold writeEvent
  dsimp only
  rw [ring_set _ (by exact h)]
  split
  · next hk =>
    rw [hk]
    unfold ringAdvance
    split <;> rfl
  · rfl

theorem postEvent_on (h : Rising d.rings) (fn ty kind code subject detail k : Nat) :
    (ring (postEvent fn ty kind code subject detail d) k).on = (ring d k).on := by
  have hraise : ∀ n e, ring (raise n e) k = ring e k := fun n e => by simp only [ring, raise_frame]
  have hcount : ∀ n e, ring (objCount 32 0x5121 n 1 e) k = ring e k := fun n e => by simp only [ring, objCount_frame]
  unfold postEvent
  extract_lets eq r q lost dropped
  split
  · have hlost : Rising lost.rings ∧ (ring lost k).on = (ring d k).on := by
      unfold lost
      split
      · exact ⟨h, rfl⟩
      · exact writeEvent_on (d := setFnQ fn { q with lostSince := 0 } d) h ..
    rw [hraise, (writeEvent_on hlost.1 ..).2, hlost.2]
  · split
    · rfl
    · rw [hcount]
      rfl

theorem setRing_rising (h : Rising d.rings) (k : Nat) (r : Ring) : Rising (setRing k r d).rings := rising_put h

/-- A queue of a group that is reset: disabled in its object, its pointers 0. -/
def resetRing (k : Nat) (d : Dev) : Dev := setRing k {} (objSet (queueObj k).1 (queueObj k).2 (setBits (queueCfg d k) 80 1 0) d)

theorem ring_resetRing (h : Rising d.rings) (j k : Nat) :
    Rising (resetRing j d).rings ∧ ring (resetRing j d) k = if k = j then {} else ring d k := by
  have hobj : ∀ i u v, (objSet i u v d).rings = d.rings := fun i u v => by simp only [objSet_frame]
  unfold resetRing
  refine ⟨setRing_rising (by rw [hobj]; exact h) j {}, ?_⟩
  rw [ring_set _ (by rw [hobj]; exact h)]
  unfold ring
  rw [hobj]

/-- A function that returns a queue to its default and leaves the others returns every queue of a list. -/
theorem ring_each {g : Nat → Dev → Dev} {k : Nat}
    (hg : ∀ j d, Rising d.rings → Rising (g j d).rings ∧ ring (g j d) k = if k = j then {} else ring d k) :
    ∀ (l : List Nat) (d : Dev), Rising d.rings → (ring d k = {} ∨ k ∈ l) → Rising (forEach l g d).rings ∧ ring (forEach l g d) k = {}
  | [], _, h, hk => ⟨h, hk.resolve_right List.not_mem_nil⟩
  | j :: l, d, h, hk => by
    obtain ⟨hrise, hring⟩ := hg j d h
    refine ring_each hg l (g j d) hrise ?_
    rw [hring]
    split
    · exact .inl rfl
    · next hne => exact hk.imp_right fun hmem => (List.mem_cons.1 hmem).resolve_left hne

/-- The device with the queues of a group reset, before the event that says so. -/
def groupReset (k : Nat) (d : Dev) : Dev :=
  pulse 10 0x0035 1 (k / 32 * 64 + queueSubject k) 0 (forEach (groupOf k) resetRing (dropEntries k d))

theorem groupReset_off (h : Rising d.rings) {k : Nat} (hk : k ∈ groupOf k) :
    Rising (groupReset k d).rings ∧ ring (groupReset k d) k = {} := by
  have hdrop : (dropEntries k d).rings = d.rings := ((dropEntries_keeps (m := 24576) rfl (.refl d)).only .rings rfl).symm
  obtain ⟨hrise, hoff⟩ := ring_each (fun j d h => ring_resetRing h j k) (groupOf k) (dropEntries k d) (hdrop ▸ h) (.inr hk)
  unfold groupReset
  generalize forEach (groupOf k) resetRing (dropEntries k d) = y at hrise hoff
  have hrings : ∀ n, (pulse 10 0x0035 1 n 0 y).rings = y.rings := fun n => by simp only [pulse_frame]
  unfold ring at hoff ⊢
  rw [hrings]
  exact ⟨hrise, hoff⟩

theorem queueReset_off (h : Rising d.rings) {k : Nat} (hk : k ∈ groupOf k) (cause : Nat) : (ring (queueReset k cause d) k).on = false := by
  obtain ⟨hrise, hoff⟩ := groupReset_off h hk
  have hact : queueReset k cause d = if isSq k || isCq k then postEvent (k / 32) 7 1 0 (queueSubject k) cause (groupReset k d)
      else setFnQ (k / 32) { fnQ (groupReset k d) (k / 32) with eqReset := true } (groupReset k d) := rfl
  have hfnq : ∀ fn q e, ring (setFnQ fn q e) k = ring e k := fun _ _ _ => rfl
  rw [hact]
  generalize groupReset k d = y at hrise hoff
  split
  · rw [postEvent_on hrise, hoff]
  · rw [hfnq, hoff]

/-- A word lost in a queue's FIFO resets the group of the queue (R387, R391). -/
theorem fifoLost_queue (h : Sound d) {fn q : Nat} (hq : (queuesOf fn).contains (32 * fn + q) = true) (fifo : Nat) :
    (ring (fifoLost (.queue fn q) fifo d) (32 * fn + q)).on = false := by
  have hrings : (pulse 10 0x0034 1 fifo 0 (disarmFlip 3 0 d)).rings = d.rings := by
    rw [show (pulse 10 0x0034 1 fifo 0 (disarmFlip 3 0 d)).rings = (disarmFlip 3 0 d).rings by simp only [pulse_frame]]
    exact ((disarmFlip_keeps (m := 1) rfl (.refl d)).only .rings rfl).symm
  exact queueReset_off (hrings ▸ h.tabs.rings) (groupOf_self hq) 2

/-! ### A channel's buffer loses a word (R391) -/

/-- A transfer of which the manual leaves open what was moved: free values from `k` on. -/
def freeXfer (k : Nat) : Xfer :=
  { data := Config.freeValue k, dataC := Config.freeValue (k + 1), dataC2 := Config.freeValue (k + 2), bytes := Config.freeValue (k + 3) }

/-- The device at which a channel's buffer has lost a word: the report is made, the free values are drawn. -/
def bufferLost (c fifo : Nat) (d : Dev) : Dev :=
  let e := pulse 10 0x0034 (bufferSev (disarmFlip 3 0 d) c) fifo 0 (disarmFlip 3 0 d)
  { e with freeCtr := e.freeCtr + 4 }

theorem fifoLost_channel (c fifo : Nat) (d : Dev) : ∃ k, fifoLost (.channel c) fifo d = haltChannel c 5 (freeXfer k) (bufferLost c fifo d) :=
  ⟨_, rfl⟩

theorem bufferLost_same (h : Sound d) (c fifo : Nat) : SameWork d (bufferLost c fifo d) :=
  ((SameWork.disarmFlip h.regs.1 0).trans (.pulse ..)).trans (.freeCtr ..)

theorem bufferLost_rising (h : Sound d) (c fifo : Nat) : Rising (bufferLost c fifo d).dmaCh := by
  obtain ⟨-, r, t, b, k, hform⟩ := bufferLost_same h c fifo
  rw [hform]
  exact h.tabs.dmaCh

theorem fifoLost_idle (h : Sound d) (hrun : (dmaChan d c).run = none) (fifo : Nat) : (dmaChan (fifoLost (.channel c) fifo d) c).run = none := by
  obtain ⟨k, hk⟩ := fifoLost_channel c fifo d
  rw [hk]
  exact (haltChannel_idle (bufferLost_rising h c fifo) (by rw [(bufferLost_same h c fifo).chan, hrun]) 5 _).2

theorem fifoLost_stops (h : Sound d) {r : Running} (hrun : (dmaChan d c).run = some r) (hended : r.ended = false)
    (hbell : r.doorbell = false) (hchecks : r.d.opcode = 7 ∨ r.d.opcode ≠ 6 ∧ descErrs d r {} true = []) (fifo : Nat) :
    ∃ b, (dmaChan (fifoLost (.channel c) fifo d) c).run = some (stopped r 5 b) := by
  obtain ⟨k, hk⟩ := fifoLost_channel c fifo d
  have hsame := bufferLost_same h c fifo
  have herrs : r.d.opcode = 7 ∨ descErrs (bufferLost c fifo d) r (freeXfer k) true = [] :=
    hchecks.imp_right fun ⟨h6, hnone⟩ => by
      rw [hsame.errs]
      exact (descErrs_xfer (x := freeXfer k) (y := {}) h6 rfl true d).trans hnone
  rw [hk]
  exact ⟨_, (haltChannel_ends (bufferLost_rising h c fifo) (by rw [hsame.chan, hrun]) hended hbell herrs).2.1⟩

theorem mem_of_tabFind {α : Type} {k : Nat} {v : α} : ∀ {t : Tab α}, tabFind t k = some v → (k, v) ∈ t
  | (j, w) :: t, h => by
    rw [tabFind] at h
    split at h
    · next hj =>
      cases h
      rw [hj]
      exact List.mem_cons_self ..
    · split at h
      · cases h
      · exact List.mem_cons_of_mem _ (mem_of_tabFind h)

/-- A descriptor on a channel stands in the table of channels. -/
theorem chan_listed {r : Running} (hrun : (dmaChan d c).run = some r) : ∃ e ∈ d.dmaCh, e.2.run = some r := by
  unfold dmaChan tabGet at hrun
  cases hfind : tabFind d.dmaCh c with
  | none =>
    rw [hfind] at hrun
    cases hrun
  | some ch =>
    rw [hfind] at hrun
    exact ⟨_, mem_of_tabFind hfind, hrun⟩

end
end Sys2Proof.Machine
open Sys2Proof.Machine

/-- Settles O45: a stopping channel keeps its control register through what is moved and through the doorbells presented after it; an
error of a FIFO by the home of the FIFO. -/
theorem channelStops : Obligations.ChannelStops := by
  unfold Obligations.ChannelStops
  refine ⟨fun s who c now x hawake hs hc => ?_, fun s who c now x hawake hc hwho => ?_, fun s l now hawake hl => ?_,
    fun s home fifo now hawake hs hhome => ?_⟩
  · have hsound : Sound (atTime now s.dev) := sound_atTime now hs
    refine fun hopen hwho => ⟨fun hrun => answers_actOn rfl (decide_eq_true hc) hawake ?_,
      fun r hrun hended hbell _ herrs => answers_actOn rfl (decide_eq_true hc) hawake ?_⟩
    · rw [regGate_open hopen]
      exact channelDisable_idle hsound hc hwho x hrun
    · rw [regGate_open hopen]
      exact channelDisable_stops hsound hc hwho hrun hended hbell herrs
  · refine answers_actOn rfl (decide_eq_true (by omega)) hawake ?_
    rw [channelDisable_denied hc hwho]
    simp only [atTime_frame]
  · refine answers_actOn rfl hl hawake ⟨sent_emit _ _, ?_⟩
    exact Eq.trans (b := (atTime now s.dev).dmaCh) rfl (by simp only [atTime_frame])
  · have hsound : Sound (atTime now s.dev) := sound_atTime now hs
    refine ⟨answers_actOnAt (f := fifoCorrected home fifo) rfl hhome hawake (fifoCorrected_does hsound home fifo), ?_, ?_, ?_, ?_⟩
    · rintro t rfl hon hgone -
      exact answers_actOn rfl hhome hawake (fifoLost_tile hsound hon hgone fifo)
    · rintro fn q rfl
      simp only [homeExists, Bool.and_eq_true, decide_eq_true_eq] at hhome
      exact answers_actOn rfl (by simpa [homeExists] using hhome) hawake (fifoLost_queue hsound hhome.2 fifo)
    · rintro src rfl hno
      exact answers_actOn rfl hhome hawake (fifoLost_other src hno fifo)
    · rintro c rfl hbells
      refine ⟨fun hrun => answers_actOn rfl hhome hawake (fifoLost_idle hsound hrun fifo), fun r hrun hended hchecks =>
        answers_actOn rfl hhome hawake ?_⟩
      obtain ⟨e, hmem, hrun'⟩ := chan_listed hrun
      exact fifoLost_stops hsound hrun hended (hbells e hmem r hrun') hchecks fifo

end

section
/-! PROOFS. Tiles that load, open and commit contexts (R463, R466 to R468). -/
set_option autoImplicit false
namespace Sys2Proof.Machine

section
variable {d : Dev} {t : Nat} {j : Job}

theorem committed_updTile (g : Tile → Tile) (d : Dev) (j : Job) : committed (updTile t g d) j = committed d j := rfl
theorem partWanted_updTile (g : Tile → Tile) (d : Dev) (j : Job) : partWanted (updTile t g d) j = partWanted d j := rfl

/-- A part whose context is not committed waits for it, or opens it if it is the frame's first (R467, R468). -/
theorem loadPart_stalls (h : Rising d.tiles) (hcommit : committed d j = false) (ok : Bool) : let e := loadPart t j ok d
    tile e t = { tile d t with phase := if j.band = 0 ∧ j.part = 0 then 2 else 1 } ∧ ∀ u, u ≠ t → tile e u = tile d u := by
  dsimp only
  rw [loadPart_waits t j ok d hcommit, ite_and_bool]
  exact ⟨(tile_set d h t t _).trans (if_pos rfl), fun u hu => (tile_set d h t u _).trans (if_neg hu)⟩

theorem startCoding_does (h : Rising d.tiles) (t : Nat) (j : Job) : let e := startCoding t j d
    tile e t = { tile d t with phase := 3 } ∧ ∀ u, u ≠ t → tile e u = tile d u :=
  ⟨(startCoding_tile t j d h t).trans (if_pos rfl), fun u hu => (startCoding_tile t j d h u).trans (if_neg hu)⟩

/-- A part whose context is committed and readable is coded (R468). -/
theorem loadPart_starts (h : Rising d.tiles) (hcommit : committed d j = true) {ok : Bool} (hok : ok = true)
    (hcopy : (tabGet {} (stream d j.stream).copies (j.frame % 4)).seq = j.frame) : let e := loadPart t j ok d
    tile e t = { tile d t with phase := 3 } ∧ ∀ u, u ≠ t → tile e u = tile d u := by
  dsimp only
  rw [loadPart_codes t j ok d hcommit hok hcopy]
  exact startCoding_does h t j

/-! ## The events of a sequencer -/

/-- A command leaves the latch of a tile. -/
def unlatch (c : TileCmd) (t : Nat) (d : Dev) : Dev := updTile t (fun y => { y with latch := y.latch.filter (· != c) }) d

theorem unlatch_tile (h : Rising d.tiles) (c : TileCmd) (t : Nat) : Rising (unlatch c t d).tiles ∧
    tile (unlatch c t d) t = { tile d t with latch := (tile d t).latch.filter (· != c) } ∧
    ∀ u, u ≠ t → tile (unlatch c t d) u = tile d u :=
  ⟨rising_put h, (tile_set d h t t _).trans (if_pos rfl), fun u hu => (tile_set d h t u _).trans (if_neg hu)⟩

/-- The context of a part's frame is saved and committed (R467). -/
def saved (j : Job) (d : Dev) : Dev :=
  updStream j.stream (fun y => { y with
    copies := tabSet y.copies (j.frame % 4) { seq := j.frame, ok := true, lines := 96 }, commit := some j.frame }) d

theorem saved_does (h : Sound d) (j : Job) : let e := saved j d
    (stream e j.stream).commit = some j.frame ∧
      tabGet {} (stream e j.stream).copies (j.frame % 4) = { seq := j.frame, ok := true, lines := 96 } := by
  dsimp only
  unfold saved
  rw [stream_set d h.tabs.streams, if_pos rfl]
  refine ⟨rfl, ?_⟩
  simp only [tabGet, tabFind_set, if_true, Option.getD_some]

section
variable (hruns : (tile d t).runs = true)
include hruns

theorem assignCurrent_loads (hcur : (tile d t).cur = some j) (hwanted : partWanted d j = true) (hphase : (tile d t).phase = 0)
    (hlatch : (tile d t).latch.contains .assignCurrent = true) (ok : Bool) :
    assignCurrent t ok d = loadPart t j ok (unlatch .assignCurrent t d) := by
  unfold assignCurrent
  dsimp only
  rw [if_pos (by simp only [hruns, hphase, hlatch]; rfl)]
  simp only [hcur]
  rw [partWanted_updTile, if_pos hwanted]
  rfl

theorem loadStallEnd_loads (hcur : (tile d t).cur = some j) (hwanted : partWanted d j = true) (hphase : (tile d t).phase = 1)
    (ok : Bool) : loadStallEnd t ok d = loadPart t j ok d := by
  unfold loadStallEnd
  dsimp only
  rw [if_pos (by simp only [hruns, hphase]; rfl)]
  simp only [hcur]
  rw [if_pos hwanted]

theorem contextCommit_saves (hcur : (tile d t).cur = some j) (hphase : (tile d t).phase = 2) : contextCommit t d =
    startCoding t j (regSet (Reg.tileSaveCnt.at t) (setBits (regGet (saved j d) (Reg.tileSaveCnt.at t)) 0 16
      (bits (regGet (saved j d) (Reg.tileSaveCnt.at t)) 0 16 + 1)) (saved j d)) := by
  unfold contextCommit
  dsimp only
  rw [if_pos (by simp only [hruns, hphase]; rfl)]
  simp only [hcur]
  rfl

/-- The frame's context is committed, and the part that opened it is coded (R467). -/
theorem contextCommit_does (h : Sound d) (hcur : (tile d t).cur = some j) (hphase : (tile d t).phase = 2) : let e := contextCommit t d
    tile e t = { tile d t with phase := 3 } ∧ (∀ u, u ≠ t → tile e u = tile d u) ∧ (stream e j.stream).commit = some j.frame ∧
      tabGet {} (stream e j.stream).copies (j.frame % 4) = { seq := j.frame, ok := true, lines := 96 } := by
  have hact := contextCommit_saves hruns hcur hphase
  generalize hz : regSet (Reg.tileSaveCnt.at t) _ (saved j d) = z at hact
  have htiles : z.tiles = d.tiles := by
    rw [← hz]
    exact Eq.trans (b := (saved j d).tiles) (by simp only [regSet_frame]) rfl
  have hstreams : (startCoding t j z).streams = (saved j d).streams := by
    rw [startCoding_streams, ← hz]
    simp only [regSet_frame]
  have hstream : stream (startCoding t j z) j.stream = stream (saved j d) j.stream := by unfold stream; rw [hstreams]
  obtain ⟨hcommit, hcopy⟩ := saved_does h j
  obtain ⟨hself, hothers⟩ := startCoding_does (d := z) (htiles ▸ h.tabs.tiles) t j
  dsimp only
  rw [hact, hstream]
  exact ⟨hself.trans (by rw [tile_congr htiles]), fun u hu => (hothers u hu).trans (tile_congr htiles u), hcommit, hcopy⟩

theorem assignNext_does (h : Rising d.tiles) (hcur : (tile d t).cur.isSome = true) (hlatch : (tile d t).latch.contains .assignNext = true) :
    let e := assignNext t d
    tile e t = { tile d t with latch := (tile d t).latch.filter (· != .assignNext), loads := (tile d t).nxt.isSome } ∧
      e.streams = d.streams ∧ ∀ u, u ≠ t → tile e u = tile d u := by
  have hact : assignNext t d = updTile t (fun y => { y with latch := y.latch.filter (· != .assignNext), loads := y.nxt.isSome }) d :=
    if_pos (by simp only [hruns, hcur, hlatch]; rfl)
  dsimp only
  rw [hact]
  exact ⟨(tile_set d h t t _).trans (if_pos rfl), rfl, fun u hu => (tile_set d h t u _).trans (if_neg hu)⟩

theorem withdrawNext_does (h : Rising d.tiles) (hlatch : (tile d t).latch.contains .withdrawNext = true) : let e := withdrawNext t d
    tile e t = { tile d t with latch := (tile d t).latch.filter (· != .withdrawNext), loads := (tile d t).loads && (tile d t).nxt.isSome } ∧
      e.streams = d.streams ∧ ∀ u, u ≠ t → tile e u = tile d u := by
  have hact : withdrawNext t d = updTile t (fun y => { y with
      latch := y.latch.filter (· != .withdrawNext), loads := y.loads && y.nxt.isSome }) d :=
    if_pos (by simp only [hruns, hlatch]; rfl)
  dsimp only
  rw [hact]
  exact ⟨(tile_set d h t t _).trans (if_pos rfl), rfl, fun u hu => (tile_set d h t u _).trans (if_neg hu)⟩

end

end
end Sys2Proof.Machine
open Sys2Proof.Machine

/-- Settles O21: a sequencer's events by what they leave of its tile; taking a command off the latch changes no part that is wanted
and no context that is committed. -/
theorem tileLoading : Obligations.TileLoading := by
  unfold Obligations.TileLoading
  intro s now t hawake hs ht hruns
  obtain ⟨tbs, htbs⟩ := atTime_form now s.dev
  have htile : isTile t = true := decide_eq_true ht
  generalize hy : ({ s.dev with tbs := tbs } : Dev) = y at htbs
  have hsound : Sound y := by rw [← htbs]; exact sound_atTime now hs
  have hview : (∀ u, tile y u = tile s.dev u) ∧ (∀ i, stream y i = stream s.dev i) ∧ y.streams = s.dev.streams ∧
      (∀ j, committed y j = committed s.dev j) ∧ ∀ j, partWanted y j = partWanted s.dev j := by
    subst hy
    exact ⟨fun _ => rfl, fun _ => rfl, rfl, fun _ => rfl, fun _ => rfl⟩
  obtain ⟨htiles, hstream, hstreams, hcommitted, hwants⟩ := hview
  rw [← htiles t] at hruns ⊢
  dsimp only
  simp only [← htiles, ← hstream, ← hstreams, ← hcommitted, ← hwants]
  have answers : ∀ {i : Sys2Proof.Instr} {f : Dev → Dev} {P : Dev → Prop}, exec i s = actOn (isTile t) (fun d => f (atTime now d)) s →
      P (f y) → Answers i s P := fun he hp => answers_actOnAt he htile hawake (htbs ▸ hp)
  refine ⟨fun j ok hcur hwanted => ⟨fun hphase hlatch => ?_, fun hphase hcommit hok hcopy => ?_, fun hphase => ?_⟩,
    fun hcur hlatch => ?_, fun hlatch => ?_⟩
  · obtain ⟨hlatched, hself, hothers⟩ := unlatch_tile hsound.tabs.tiles .assignCurrent t
    have hload := assignCurrent_loads hruns hcur hwanted hphase hlatch
    refine ⟨fun hcommit => answers (f := assignCurrent t ok) rfl ?_, fun hcommit hok hcopy => answers (f := assignCurrent t ok) rfl ?_⟩
    · obtain ⟨hstall, hrest⟩ := loadPart_stalls (t := t) hlatched hcommit ok
      rw [hload]
      exact ⟨hstall.trans (by rw [hself]), fun u hu => (hrest u hu).trans (hothers u hu)⟩
    · obtain ⟨hstart, hrest⟩ := loadPart_starts (t := t) hlatched hcommit hok hcopy
      rw [hload]
      exact ⟨hstart.trans (by rw [hself]), fun u hu => (hrest u hu).trans (hothers u hu)⟩
  · refine answers (f := loadStallEnd t ok) rfl ?_
    rw [loadStallEnd_loads hruns hcur hwanted hphase]
    exact loadPart_starts hsound.tabs.tiles hcommit hok hcopy
  · exact answers (f := contextCommit t) rfl (contextCommit_does hruns hsound hcur hphase)
  · exact answers (f := assignNext t) rfl (assignNext_does hruns hsound.tabs.tiles hcur hlatch)
  · exact answers (f := withdrawNext t) rfl (withdrawNext_does hruns hsound.tabs.tiles hlatch)

end

section
/-! PROOFS. READ, DESCRIBE and WRITE of the dictionary (R397 to R399, R404 to R406). -/
set_option autoImplicit false
namespace Sys2Proof.Machine

section
variable {d : Dev} {q : Req} {idx sub : Nat}

/-! ## Answers -/

/-- A response with OK carries its payload, and leaves the dictionary and the sessions (R404). -/
theorem respond_ok (q : Req) (op idx sub off total len payload : Nat) (d : Dev) : let e := respond q op .ok idx sub off total len payload d
    Sent (.response q.who (op + 0x80) 0 idx sub q.tag len (payload % 256 ^ len)) e ∧ e.objs = d.objs ∧ e.sess = d.sess := by
  refine ⟨?_, by simp only [respond_frame], by simp only [respond_frame]⟩
  rw [Sent, respond_emitted]
  exact List.mem_append_right _ (List.mem_singleton_self _)

/-- A response without payload leaves the dictionary and the sessions (R404). -/
theorem respond_empty (q : Req) (op idx sub off : Nat) (c : Err) (d : Dev) : let e := respond q op c idx sub off 0 0 0 d
    Sent (.response q.who (op + 0x80) c.code idx sub q.tag 0 0) e ∧ e.objs = d.objs ∧ e.sess = d.sess := by
  refine ⟨?_, by simp only [respond_frame], by simp only [respond_frame]⟩
  rw [Sent, respond_emitted, ite_self, Nat.zero_mod]
  exact List.mem_append_right _ (List.mem_singleton_self _)

/-! ## READ (R397, R399, R406) -/

/-- The snapshot of an object's value (R406). -/
def snapFor (q : Req) (idx sub : Nat) (d : Dev) : Snap :=
  { idx := idx, sub := sub, tag := q.tag, val := (objShow d idx sub).2, len := (objShow d idx sub).1, time := d.tbs.ns }

/-- A READ from the start of a long value takes the snapshot (R406). -/
def snapped (q : Req) (idx sub : Nat) (d : Dev) : Dev :=
  if (objShow d idx sub).1 ≤ segLimit q.who then d
  else { d with snaps := tabSet d.snaps (snapKey q.who) (snapFor q idx sub d) }

theorem snapped_frame (q : Req) (idx sub : Nat) (d : Dev) : (snapped q idx sub d).objs = d.objs ∧ (snapped q idx sub d).sess = d.sess := by
  unfold snapped
  split <;> exact ⟨rfl, rfl⟩

/-- A READ from the start answers the first segment (R406). -/
theorem readOk_starts (q : Req) (idx sub : Nat) (d : Dev) :
    let n := min (segLimit q.who) (objShow d idx sub).1
    let e := readOk q idx sub 0 d
    Sent (.response q.who 0x81 0 idx sub q.tag n ((objShow d idx sub).2 % 256 ^ n)) e ∧ e.objs = d.objs ∧ e.sess = d.sess := by
  generalize hz : segment q idx sub 0 (objShow d idx sub).1 (objShow d idx sub).2 (snapped q idx sub d) = z
  have hact : readOk q idx sub 0 d = if idx = 0x3002 && decide (8 < (sess d sub).pend) then freeNext z else z := by
    subst hz
    unfold readOk
    rw [if_pos rfl]
    rfl
  have hseg : z = respond q 1 .ok idx sub 0 (objShow d idx sub).1 (min (segLimit q.who) (objShow d idx sub).1) (objShow d idx sub).2
      (snapped q idx sub d) := by
    rw [← hz, segment, Nat.sub_zero, Nat.pow_zero, Nat.div_one]
  obtain ⟨hsent, hobjs, hsess⟩ := respond_ok q 1 idx sub 0 (objShow d idx sub).1 (min (segLimit q.who) (objShow d idx sub).1)
    (objShow d idx sub).2 (snapped q idx sub d)
  rw [← hseg] at hsent hobjs hsess
  obtain ⟨hobjs', hsess'⟩ := snapped_frame q idx sub d
  dsimp only
  rw [hact]
  split
  · exact ⟨sent_mono rfl hsent, hobjs.trans hobjs', hsess.trans hsess'⟩
  · exact ⟨hsent, hobjs.trans hobjs', hsess.trans hsess'⟩

theorem readNow_granted (hcrit : q.crit = none) (h : readRights d q idx sub = []) : readNow q idx sub 0 d = readOk q idx sub 0 d := by
  have hoff : readOffset d q idx sub 0 = [] := by
    unfold readOffset
    exact if_pos rfl
  unfold readNow
  rw [hcrit, h, hoff]
  rfl

theorem readNow_refused (hcrit : q.crit = none) {off : Nat} {e : Err}
    (h : lowest (readRights d q idx sub ++ readOffset d q idx sub off) = some e) :
    readNow q idx sub off d = respond q 1 e idx sub off 0 0 0 d := by
  unfold readNow
  rw [hcrit, h]
  rfl

/-! ## DESCRIBE (R405) -/

theorem describeNow_granted {r : ObjRow} (hrow : objRowOf idx = some r) (h : describeErrs d q idx sub = []) :
    describeNow q idx sub d = respond q 4 .ok idx sub 0 0 16 (describeBytes r idx sub) d := by
  unfold describeNow
  rw [hrow, h]
  rfl

theorem describeNow_refused {e : Err} (h : lowest (describeErrs d q idx sub) = some e) :
    describeNow q idx sub d = respond q 4 e idx sub 0 0 0 0 d := by
  unfold describeNow
  rw [h]
  cases objRowOf idx <;> rfl

/-! ## WRITE (R398, R399) -/

/-- The same instant again changes nothing. -/
theorem atTime_again (now : Nat) (d : Dev) : atTime now (atTime now d) = atTime now d := by
  cases hruns : d.tbs.running with
  | false =>
    have hstands : atTime now d = d := if_neg (by simp [hruns])
    rw [hstands, hstands]
  | true =>
    have hmoves : ∀ e : Dev, e.tbs.running = true → atTime now e = { e with tbs := { e.tbs with
        ns := max e.tbs.ns (min now (2 ^ 64 - 1)), cnt := max e.tbs.cnt (stitchesIn (max e.tbs.ns (min now (2 ^ 64 - 1)))) } } :=
      fun e he => if_pos he
    have hstill : (atTime now d).tbs.running = true := by rw [hmoves d hruns]; exact hruns
    rw [hmoves (atTime now d) hstill, hmoves d hruns]
    generalize min now (2 ^ 64 - 1) = t
    simp only [max_assoc, max_self]

theorem granted_again {own : Dev → List Err} (h : granted q idx sub own d = true) : granted q idx sub own (atTime q.now d) = true := by
  have hheld : isHeld (atTime q.now d) = isHeld d := by simp only [isHeld, atTime_frame]
  unfold granted at h ⊢
  dsimp only at h ⊢
  rwa [atTime_again, hheld]

/-- A granted request whose object allows the payload's length. -/
theorem granted_types {v : Payload} (h : granted q idx sub (objErrs idx sub v) d = true) : (typeErrs idx v).isEmpty = true := by
  cases htype : typeErrs idx v with
  | nil => rfl
  | cons e l =>
    refine absurd ?_ (granted_own h e)
    unfold objErrs
    rw [htype]
    simp only [List.cons_append, List.mem_cons, true_or]

/-- A granted write of an object without a row of its own (R399). -/
theorem writeAny_granted {v : Payload} {r : ObjRow} (hrow : objRowOf idx = some r) (hsub : r.hasSub sub = true)
    (hdev : (deviceRow q idx v).isNone = true) (hslot : (slotRow q idx sub v).isNone = true) (hchan : idx ≠ 0x1821)
    (hg : granted q idx sub (objErrs idx sub v) d = true) :
    writeAny q idx sub v (atTime q.now d) = accept q idx sub (objAct idx sub v (atTime q.now d)) := by
  have hplain : plainWrite q idx sub v (atTime q.now d) = accept q idx sub (objAct idx sub v (atTime q.now d)) := by
    unfold plainWrite
    simp only [if_neg hchan]
    rw [decideWrite_granted (granted_again hg), atTime_again]
  unfold writeAny
  simp only [hrow]
  rw [if_neg (by simp [hsub, granted_types hg]), Option.isNone_iff_eq_none.1 hdev, Option.isNone_iff_eq_none.1 hslot]
  exact hplain

/-- What a write of a plain object leaves: the kept form of the value, and every session (R398). -/
theorem objAct_plain (h : Rising d.objs) {v : Payload} {r : ObjRow} (hrow : objRowOf idx = some r) (hparam : paramRow idx = none)
    (hplain : idx ∉ [0x1505, 0x1506, 0x1507, 0x1508, 0x1821]) : let e := objAct idx sub v d
    objGet e idx sub = r.keep v.len v.val ∧ e.sess = d.sess := by
  simp only [List.mem_cons, List.not_mem_nil, or_false, not_or] at hplain
  obtain ⟨h1, h2, h3, h4, h5⟩ := hplain
  have hact : objAct idx sub v d = profileAct idx v.val (objSetStitch idx sub (r.keep v.len v.val) d) := by
    unfold objAct
    simp only [hrow, hparam, if_neg h1, if_neg h2, if_neg h3, if_neg h4, if_neg h5]
  have honly := (profileAct_keeps (m := 8589934592) (idx := idx) (v := v.val) rfl
    (.refl (objSetStitch idx sub (r.keep v.len v.val) d))).only
  dsimp only
  rw [hact]
  refine ⟨(objGet_congr (honly .objs rfl).symm _ _).trans (objSetStitch_does h idx sub _).1, (honly .sess rfl).symm.trans ?_⟩
  exact ((objSetStitch_keeps (m := 12) rfl (.refl d)).only .sess rfl).symm

end
end Sys2Proof.Machine
open Sys2Proof.Machine

/-- Settles O47: each request by its answer, once the dictionary is served; a granted write by what its object keeps. -/
theorem spaysRequests : Obligations.SpaysRequests := by
  unfold Obligations.SpaysRequests
  intro s q idx sub hawake hs hcrit y hserved
  have hsound : Sound y := sound_atTime q.now hs
  have hread : ∀ off, read q idx sub off s.dev = readNow q idx sub off y := fun off => if_pos hserved
  have hdescribe : describe q idx sub s.dev = describeNow q idx sub y := if_pos hserved
  refine ⟨fun hrights => ?_, fun off e he => ?_, fun r hrow hnone => ?_, fun e he => ?_, fun v r hrow hsub hdev hslot hparam hplain hg => ?_⟩
  · refine answers_act rfl hawake ?_
    rw [hread, readNow_granted hcrit hrights]
    exact readOk_starts q idx sub y
  · refine answers_act rfl hawake ?_
    rw [hread, readNow_refused hcrit he]
    exact respond_empty q 1 idx sub off e y
  · refine answers_act rfl hawake ?_
    rw [hdescribe, describeNow_granted hrow hnone]
    obtain ⟨hsent, hobjs, -⟩ := respond_ok q 4 idx sub 0 0 16 (describeBytes r idx sub) y
    exact ⟨hsent, hobjs⟩
  · refine answers_act rfl hawake ?_
    rw [hdescribe, describeNow_refused he]
    obtain ⟨hsent, hobjs, -⟩ := respond_empty q 4 idx sub 0 e y
    exact ⟨hsent, hobjs⟩
  · refine answers_act rfl hawake ?_
    have hchan : idx ≠ 0x1821 := by
      simp only [List.mem_cons, List.not_mem_nil, or_false, not_or] at hplain
      exact hplain.2.2.2.2
    have hwrite : write q idx sub v s.dev = accept q idx sub (objAct idx sub v y) :=
      (if_pos hserved).trans (writeAny_granted hrow hsub hdev hslot hchan hg)
    obtain ⟨hval, hsess⟩ := objAct_plain (sub := sub) (v := v) hsound.objs.1 hrow hparam hplain
    rw [hwrite]
    refine ⟨accepted_accept .., (objGet_congr (by simp only [accept_frame]) _ _).trans hval, ?_⟩
    rw [← hsess]
    simp only [accept_frame]

end
